-- ==== Sys2Proof/Word.lean ====
section
/-!
DEFINITION. The word of the Xanta-840 (R56: 40 bits) and the one sparse container the state uses.
-/
namespace Sys2Proof

/-- A word: 40 bits, bit 39 the most significant (R56). -/
abbrev Word := BitVec 40

/-- A parcel: 20 bits (R62). -/
abbrev Parcel := BitVec 20

/-- A sparse map from Nat keys, kept in one canonical form: keys strictly rising (see `Machine/Maps.lean`). -/
abbrev SMap (α : Type) := List (Nat × α)

end Sys2Proof
end

