-- ==== Sys2Proof/Syntax/Operand.lean ====
section
/-!
DEFINITION. The types of the operands that commands carry: who sends an access, what an agent or message is, and the values that parties
outside the device bring to it.
-/
namespace Sys2Proof

/-- The initiator of a fabric access: endpoint ID (R336), header PL and header PART (R338). -/
structure Initiator where
  ep : Fin 32
  pl : Fin 4
  part : Fin 16
deriving DecidableEq, Repr

/-- Atomic operations (R110): the codes of the header field ATOP (R338). -/
inductive AtOp where
  | cas | fadd | swap
deriving DecidableEq, Repr

/-- Fabric statuses (R340). -/
inductive FStatus where
  | ok | decode | prot | timeout | domainOff | poison | linkDown
deriving DecidableEq, Repr

/-- A packet that arrives on a Cuff link: its header, data and trailer slots (R377, R378). -/
structure CufRx where
  hdr : BitVec 80
  data : List (BitVec 80)
  trailer : BitVec 80
deriving DecidableEq, Repr

/-- A speculative read: its line, whether a fetch or a load makes it, and the parcel address of its instruction (R179, R187). -/
structure TentRead where
  line : BitVec 30
  fetch : Bool
  pc : Word
deriving DecidableEq, Repr

/-- A TS2 control block that arrives on a Cuff port, and the port number it carries (R374). -/
structure Ts2Block where
  n : Fin 2
  port : Bool
deriving DecidableEq, Repr

/-- The strap levels at a rising edge of `RESET_N` (R718). -/
structure Straps where
  bootSel : BitVec 2
  leader : Bool
  id : BitVec 2
deriving DecidableEq, Repr

/-! ### Operation names of the Umnodex-40 instructions (chapter 04) -/

/-- Majors 00h-07h (R129), in the order of the majors. -/
inductive SAlu where
  | add | sub | and | or | xor | shl | shr | sar
deriving DecidableEq, Repr

/-- Majors 08h-0Ah and their minor fields (R131). -/
inductive SImm where
  | addiS (imm : BitVec 10) | liS (imm : BitVec 10) | shli (n : Fin 40) | shri (n : Fin 40) | sari (n : Fin 40) | mov (rs : Fin 32)
deriving DecidableEq, Repr

/-- Major 0Bh (R131). -/
inductive AccMove where
  | rda (rd : Fin 32) (a : Fin 8) | rdaHi (rd : Fin 32) (a : Fin 8) | rdaLo (rd : Fin 32) (a : Fin 8) | clra (a : Fin 8)
deriving DecidableEq, Repr

/-- Major 0Ch (R132). -/
inductive CmpOp where
  | cmp | cmn | tst
deriving DecidableEq, Repr

/-- Major 10h (R136), in the order of op 00h-1Eh. -/
inductive LAlu where
  | add | sub | adc | sbc | and | or | xor | andn | shl | shr | sar | ror | mul | mulhs | mulhu | divs | divu | rems | remu
  | min | max | minu | maxu | adds | subs | abss | clz | popc | padds | psubs | pmulr
deriving DecidableEq, Repr

/-- Major 11h ops that write rd (R138), in the order of op 0h-5h. -/
inductive IAlu where
  | addi | andi | ori | xori | muli | addsi
deriving DecidableEq, Repr

/-- Major 11h (R138): an operation that writes rd, or CMPI or TSTI. -/
inductive ImmOp where
  | alu (op : IAlu) (f : Bool) (rd rs1 : Fin 32) (imm : BitVec 20)
  | cmpi (rs1 : Fin 32) (imm : BitVec 20)
  | tsti (rs1 : Fin 32) (imm : BitVec 20)
deriving DecidableEq, Repr

/-- Major 12h (R138). -/
inductive LImm where
  | li (rd : Fin 32) (imm : BitVec 20) | lui (rd : Fin 32) (imm : BitVec 20) | orz (rd rs1 : Fin 32) (imm : BitVec 20)
deriving DecidableEq, Repr

/-- Major 14h (R138). -/
inductive BitOp where
  | extu | exts | ins
deriving DecidableEq, Repr

/-- Major 15h (R138). -/
inductive SelOp where
  | sel (rd rs1 rs2 : Fin 32) (cond : Fin 16) | setc (rd : Fin 32) (cond : Fin 16)
deriving DecidableEq, Repr

/-- Rounding modes RM of the MAC class other than the reserved 11b (R146). -/
inductive MRound where
  | floor | halfUp | halfEven
deriving DecidableEq, Repr

/-- Major 1Dh (R145), in the order of op 00h-0Ch. -/
inductive MacOp where
  | mulA (rm : MRound) (a : Fin 8) (rs1 rs2 : Fin 32)
  | mac (rm : MRound) (a : Fin 8) (rs1 rs2 : Fin 32)
  | msu (rm : MRound) (a : Fin 8) (rs1 rs2 : Fin 32)
  | macs (rm : MRound) (a : Fin 8) (rs1 rs2 : Fin 32)
  | msus (rm : MRound) (a : Fin 8) (rs1 rs2 : Fin 32)
  | pmac (a : Fin 8) (rs1 rs2 : Fin 32)
  | mova (a : Fin 8) (rs1 : Fin 32)
  | adda (a b : Fin 8)
  | addas (a b : Fin 8)
  | asr (a : Fin 8) (rs2 : Fin 32)
  | asls (a : Fin 8) (rs2 : Fin 32)
  | exta (rm : MRound) (sh : Fin 16) (rd : Fin 32) (a : Fin 8)
  | extq9 (rm : MRound) (sh : Fin 16) (rd : Fin 32) (a : Fin 8)
deriving DecidableEq, Repr

/-- RMI values other than the reserved 101b-111b (R149). -/
inductive Rmi where
  | dyn | nearest | zero | down | up
deriving DecidableEq, Repr

/-- Major 1Eh but for FCMP (R148). -/
inductive FOp where
  | fadd (rd rs1 rs2 : Fin 32) (rm : Rmi)
  | fsub (rd rs1 rs2 : Fin 32) (rm : Rmi)
  | fmul (rd rs1 rs2 : Fin 32) (rm : Rmi)
  | fdiv (rd rs1 rs2 : Fin 32) (rm : Rmi)
  | fsqrt (rd rs1 : Fin 32) (rm : Rmi)
  | fma (rd rs1 rs2 : Fin 32) (rm : Rmi)
  | fmin (rd rs1 rs2 : Fin 32) (rm : Rmi)
  | fmax (rd rs1 rs2 : Fin 32) (rm : Rmi)
  | fneg (rd rs1 : Fin 32)
  | fabs (rd rs1 : Fin 32)
  | cvtIF (rd rs1 : Fin 32) (rm : Rmi)
  | cvtFI (rd rs1 : Fin 32) (rm : Rmi)
  | cvtQF (rd rs1 : Fin 32) (rm : Rmi)
  | cvtFQ (rd rs1 : Fin 32) (rm : Rmi)
deriving DecidableEq, Repr

end Sys2Proof
end

