-- ==== Sys2Proof/Syntax.lean ====
section
/-!
DEFINITION. The commands of the block: one constructor for every row of spec/opcode_table.json, in the table's order, but that UNDEF
and FETCH_FAULT stand with the other rows of a core's instructions; each docstring gives the row's mnemonic, its governing rule and what it is.
-/
namespace Sys2Proof

inductive Instr where
  /-- POWER_ON (R619): Supplies reach range and the device runs the power-on timeline from the always-on domain leaving reset. -/
  | powerOn (x : Straps)
  /-- RESET_N_RISE (R619): A rising edge of RESET_N after a qualifying low pulse resets the device and runs the timeline from step 3. -/
  | resetNRise (x : Straps)
  /-- TB_PLL_LOCK (R315): The timebase PLL reports lock, LOCKED is set, TB_NOW starts counting and the accumulator takes over TB_PULSE. -/
  | tbPllLock
  /-- TB_PLL_UNLOCK (R334): The timebase PLL loses lock with XA present and the device acts as for loss of XA. -/
  | tbPllUnlock
  /-- CLOCK_LOST (R51): A crystal monitor sees no edge on XA or XB for its self-timed interval and declares the input lost. -/
  | clockLost (xb : Bool)
  /-- TB_PULSE (R319): The femtosecond accumulator reaches 10^9, TB_PULSE gives one edge and TB_PULSE_CNT advances. -/
  | tbPulse (closed : BitVec 16)
  /-- SHORT_REGISTER_ALU (R129): An S-form three-register operation of majors 00h-07h writes rd and changes no flag. -/
  | shortRegisterAlu (c : Fin 8) (op : SAlu) (rd rs1 rs2 : Fin 32)
  /-- SHORT_IMMEDIATE (R131): ADDI.S, LI.S, SHLI, SHRI, SARI or MOV writes rd from an immediate or register. -/
  | shortImmediate (c : Fin 8) (rd : Fin 32) (op : SImm)
  /-- ACCUMULATOR_MOVE (R131): RDA, RDA.HI, RDA.LO or CLRA moves data between an accumulator and a general register or clears it. -/
  | accumulatorMove (c : Fin 8) (op : AccMove)
  /-- COMPARE (R132): CMP, CMN or TST sets the flags from two registers and writes no general register. -/
  | compare (c : Fin 8) (op : CmpOp) (rs1 rs2 : Fin 32)
  /-- CBZ (R133): CBZ or CBNZ branches when a register is zero or non-zero. -/
  | cbz (c : Fin 8) (rs : Fin 32) (sense : Bool) (off : BitVec 9)
  /-- BC (R133): A short conditional branch branches when its flag condition is true. -/
  | bc (c : Fin 8) (cond : Fin 16) (off : BitVec 11)
  /-- B (R133): A short unconditional branch moves to A plus its offset. -/
  | branch (c : Fin 8) (off : BitVec 15)
  /-- BR_L (R135): A long branch moves to A plus a 30-bit offset. -/
  | brL (c : Fin 8) (off : BitVec 30)
  /-- CALL (R135): A call writes A + 2 into w31 and branches to A plus a 30-bit offset. -/
  | call (c : Fin 8) (off : BitVec 30)
  /-- JALR (R135): An indirect jump writes A + 2 into rd and branches to rs1 plus an offset. -/
  | jalr (c : Fin 8) (rd rs1 : Fin 32) (off : BitVec 20)
  /-- BC_L (R135): A long conditional branch branches when its condition is true. -/
  | bcL (c : Fin 8) (cond : Fin 16) (off : BitVec 20)
  /-- BRANCH_RESOLUTION (R177): A branch resolves and a wrong guess squashes every younger instruction and restarts fetch. -/
  | branchResolution (c : Fin 8) (wrong : Bool) (squashed : List (BitVec 40)) (count : Fin 128)
  /-- LONG_REGISTER_ALU (R136): A major 10h operation writes rd from two registers and updates flags when F is 1. -/
  | longRegisterAlu (c : Fin 8) (op : LAlu) (f : Bool) (rd rs1 rs2 : Fin 32)
  /-- IMMEDIATE_ALU (R138): A major 11h operation combines rs1 with a 20-bit immediate or sets flags from it. -/
  | immediateAlu (c : Fin 8) (op : ImmOp)
  /-- LONG_IMMEDIATE (R138): LI, LUI or ORZ writes a constant into rd. -/
  | longImmediate (c : Fin 8) (op : LImm)
  /-- ADR (R138): ADR or ADRW writes an instruction-relative parcel or word address into rd. -/
  | adr (c : Fin 8) (word : Bool) (rd : Fin 32) (imm : BitVec 20)
  /-- BIT_FIELD (R138): EXTU, EXTS or INS extracts or inserts a bit field. -/
  | bitField (c : Fin 8) (op : BitOp) (rd rs1 : Fin 32) (p w1 : Fin 40)
  /-- SEL (R138): SEL or SETC writes rd according to a flag condition. -/
  | sel (c : Fin 8) (op : SelOp)
  /-- LW (R139): A word load reads one word into rt. -/
  | lw (c : Fin 8) (rt rb : Fin 32) (off : BitVec 20)
  /-- SW (R139): A word store writes rt to one word after retirement. -/
  | sw (c : Fin 8) (rt rb : Fin 32) (off : BitVec 20)
  /-- LW_AQ (R139): An acquire word load reads one word before any later access. -/
  | lwAq (c : Fin 8) (rt rb : Fin 32) (off : BitVec 20)
  /-- SW_RL (R139): A release word store is performed after every earlier access has completed. -/
  | swRl (c : Fin 8) (rt rb : Fin 32) (off : BitVec 20)
  /-- LD2 (R139): A paired load reads two consecutive words into rt and rt + 1. -/
  | ld2 (c : Fin 8) (rt : Fin 16) (rb : Fin 32) (off : BitVec 20)
  /-- SD2 (R139): A paired store writes two consecutive words from rt and rt + 1. -/
  | sd2 (c : Fin 8) (rt : Fin 16) (rb : Fin 32) (off : BitVec 20)
  /-- LA (R139): An accumulator load reads two words into an accumulator. -/
  | la (c : Fin 8) (a : Fin 8) (rb : Fin 32) (off : BitVec 20)
  /-- SA (R139): An accumulator store writes an accumulator into two words. -/
  | sa (c : Fin 8) (a : Fin 8) (rb : Fin 32) (off : BitVec 20)
  /-- LBU (R140): An octet load zero-extends the octet named by an octet pointer. -/
  | lbu (c : Fin 8) (rt rb : Fin 32) (off : BitVec 20)
  /-- LBS (R140): An octet load sign-extends the octet named by an octet pointer. -/
  | lbs (c : Fin 8) (rt rb : Fin 32) (off : BitVec 20)
  /-- SB (R140): An octet store writes only the named octet of a word. -/
  | sb (c : Fin 8) (rt rb : Fin 32) (off : BitVec 20)
  /-- LWX (R142): An indexed word load reads the word at rb + rx × 2^sc. -/
  | lwx (c : Fin 8) (rt rb rx : Fin 32) (sc : Fin 4)
  /-- SWX (R142): An indexed word store writes the word at rb + rx × 2^sc. -/
  | swx (c : Fin 8) (rt rb rx : Fin 32) (sc : Fin 4)
  /-- CAS (R141): A compare-and-swap writes rs if the word equals rc and returns the old word. -/
  | cas (c : Fin 8) (rd rb rs rc : Fin 32) (aq rl : Bool)
  /-- FADD (R141): A fetch-add adds rs to the word indivisibly and returns the old word. -/
  | fadd (c : Fin 8) (rd rb rs : Fin 32) (aq rl : Bool)
  /-- SWAP (R141): A swap writes rs to the word indivisibly and returns the old word. -/
  | swapInsn (c : Fin 8) (rd rb rs : Fin 32) (aq rl : Bool)
  /-- LL (R111): A load-linked reads a word and sets a reservation on its line. -/
  | ll (c : Fin 8) (rd rb : Fin 32) (aq : Bool)
  /-- SC (R111): A store-conditional writes its word only if the reservation holds and clears the reservation. -/
  | sc (c : Fin 8) (rd rb rs : Fin 32) (rl : Bool)
  /-- MULTIPLY_ACCUMULATE (R145): A major 1Dh operation multiplies, accumulates, shifts or extracts with the stated rounding and saturation. -/
  | multiplyAccumulate (c : Fin 8) (op : MacOp)
  /-- FLOATING_POINT (R150): An F40 operation rounds once and sets sticky exception bits without a trap. -/
  | floatingPoint (c : Fin 8) (op : FOp)
  /-- FCMP (R152): An F40 compare sets the flags, with V marking unordered operands. -/
  | fcmp (c : Fin 8) (rs1 rs2 : Fin 32)
  /-- SVC (R90): A supervisor call raises cause SVC with its immediate. -/
  | svc (c : Fin 8) (imm : BitVec 12)
  /-- PMC (R90): A partition-manager call raises cause PMC at PL2. -/
  | pmc (c : Fin 8) (imm : BitVec 12)
  /-- MNC (R90): A monitor call raises cause MNC at PL3. -/
  | mnc (c : Fin 8) (imm : BitVec 12)
  /-- NOP (R153): A no-operation has no effect. -/
  | nop (c : Fin 8)
  /-- FENCE_R (R108): A fence orders earlier loads before later loads. -/
  | fenceR (c : Fin 8)
  /-- FENCE_W (R108): A fence orders earlier stores before later stores and waits for their completions. -/
  | fenceW (c : Fin 8)
  /-- FENCE_A (R108): A full fence orders all earlier accesses before later accesses and fetches. -/
  | fenceA (c : Fin 8)
  /-- WAITEV (R310): WAITEV completes at once if the wake latch or PEND is set, otherwise the core waits. -/
  | waitev (c : Fin 8)
  /-- WAKE (R310): A waiting core resumes when its wake latch or PEND becomes 1 and clears the latch. -/
  | coreWake (c : Fin 8)
  /-- SEV (R311): SEV waits for earlier stores to complete and then sets the wake latches of its group. -/
  | sev (c : Fin 8)
  /-- ERET (R101): ERET restores address, level, IE and flags from the exception set and clears HOLD. -/
  | eret (c : Fin 8)
  /-- BREAK (R153): The BREAK instruction raises cause BREAK, or halts the core when debug asks. -/
  | breakInsn (c : Fin 8)
  /-- CSRR (R154): A control-register read copies a control register into r. -/
  | csrr (c : Fin 8) (r : Fin 32) (cs : Fin 128)
  /-- CSRW (R154): A control-register write sets a control register, context-synchronizing. -/
  | csrw (c : Fin 8) (r : Fin 32) (cs : Fin 128)
  /-- CSRSET (R161): A control register is set to itself OR r, field by field by access code. -/
  | csrset (c : Fin 8) (r : Fin 32) (cs : Fin 128)
  /-- CSRCLR (R161): A control register is set to itself AND NOT r, field by field by access code. -/
  | csrclr (c : Fin 8) (r : Fin 32) (cs : Fin 128)
  /-- DC_CLEAN (R288): A cache clean writes back the line and sends CMO_CLEAN to its home. -/
  | dcClean (c : Fin 8) (r : Fin 32)
  /-- DC_CLINV (R288): A clean-invalidate writes back and invalidates the line and sends CMO_CLINV. -/
  | dcClinv (c : Fin 8) (r : Fin 32)
  /-- DC_INV (R288): An invalidate discards the line without write-back and sends CMO_INV. -/
  | dcInv (c : Fin 8) (r : Fin 32)
  /-- IC_INV (R288): An instruction-cache invalidate removes the line from the core's L1 instruction cache only. -/
  | icInv (c : Fin 8) (r : Fin 32)
  /-- TLB_INV_VA (R252): Combined entries for a virtual address and all walk-cache entries of the partition are removed. -/
  | tlbInvVa (c : Fin 8) (r : Fin 32)
  /-- TLB_INV_ASID (R252): Non-global entries of one address-space ID in the current partition are removed. -/
  | tlbInvAsid (c : Fin 8) (imm : BitVec 12)
  /-- TLB_INV_ALL (R252): All combined and walk-cache entries of the current partition are removed. -/
  | tlbInvAll (c : Fin 8)
  /-- TLB_INV_PART (R252): All combined, walk-cache and stage-2 entries of a partition are removed. -/
  | tlbInvPart (c : Fin 8) (r : Fin 32)
  /-- UNDEF (R125): An instruction with an unassigned major or minor opcode, such as major 16h or 17h, raises UNDEF precisely with no effect. -/
  | undef (c : Fin 8) (p0 p1 : Parcel)
  /-- FETCH_FAULT (R157): An instruction fetch that fails translation, or runs past the last parcel address, raises FETCH_FAULT or STAGE2_FAULT before decode. -/
  | fetchFault (c : Fin 8)
  /-- ASYNCHRONOUS_EXCEPTION (R100): A pending asynchronous cause is taken at an instruction boundary once its HOLD and IE conditions allow. -/
  | asynchronousException (c : Fin 8)
  /-- STORE_ERROR_RESPONSE (R115): A retired store answered with an error raises asynchronous BUS_ERROR or is counted. -/
  | storeErrorResponse (c : Fin 8)
  /-- CORE_PAGE_STORE (R105): Another agent's store to a core page is performed only while the core is stopped, otherwise PROT. -/
  | corePageStore (i : Initiator) (c : Fin 8) (cs : Fin 128) (v : Word)
  /-- CLOAKROOM_PROMOTION (R182): When the oldest load an entry served reaches the head, the core sends PROMOTE with the entry's epoch. -/
  | cloakroomPromotion (c : Fin 8) (l : BitVec 30)
  /-- CLOAK_ENTRY_STALE (R184): A cloakroom entry becomes stale at the third TB_PULSE edge after its fill. -/
  | cloakEntryStale (c : Fin 8) (l : BitVec 30)
  /-- PACE_WRITEBACK_DONE (R206): The last write-back of paced entry completes, ACTIVE becomes 1 and G0 is chosen. -/
  | paceWritebackDone (c : Fin 8)
  /-- GRID_POINT (R208): A paced instruction retires at its grid point and its effects become visible. -/
  | gridPoint (c : Fin 8) (completed : Nat)
  /-- PAIR_ENABLE (R217): A write of 1 to PAIR_n_CTL.EN pairs two stopped cores, or is refused if either runs. -/
  | pairEnable (i : Initiator) (n : Fin 4) (v : Word)
  /-- GROUP_COMPARE (R223): The trailer retires a group and both comparator halves compare its signature. -/
  | groupCompare (n : Fin 4)
  /-- PAIR_DRAIN (R226): A write of 0 to EN while the pair runs drains it and splits the cores. -/
  | pairDrain (i : Initiator) (n : Fin 4) (v : Word)
  /-- DISAGREE (R233): A test write makes half B invert its next real result. -/
  | pairInjectDisagree (i : Initiator) (n : Fin 4) (v : Word)
  /-- MISS_CANARY (R233): A test write makes half A miss the next canary. -/
  | pairInjectMissCanary (i : Initiator) (n : Fin 4) (v : Word)
  /-- PARITY (R233): A test write makes the next delay entry carry bad parity. -/
  | pairInjectParity (i : Initiator) (n : Fin 4) (v : Word)
  /-- MISMATCH (R232): A test write corrupts the trailer's next signature to force a real mismatch. -/
  | pairInjectMismatch (i : Initiator) (n : Fin 4) (v : Word)
  /-- RD_S (R283): A read-for-sharing request is served at the home by state. -/
  | rdS (a : Fin 12) (l : BitVec 30)
  /-- RD_X (R283): A read-for-ownership request invalidates other holders and grants DATA_M. -/
  | rdX (a : Fin 12) (l : BitVec 30)
  /-- UPG (R283): An upgrade grants ownership of a held line, or is served as RD_X for a non-holder. -/
  | upg (a : Fin 12) (l : BitVec 30)
  /-- RD_T (R283): A tentative read returns DATA_T with the epoch, or DECLINE if the line is owned or busy. -/
  | rdT (c : Fin 8) (r : TentRead)
  /-- PROMOTE (R283): A promotion compares epochs and records the core as sharer or answers PROMO_FAIL. -/
  | promote (c : Fin 8) (l : BitVec 30) (epoch : BitVec 8)
  /-- RD_U (R283): An uncached read returns DATA_U, snooping an owner if needed. -/
  | rdU (a : Fin 12) (l : BitVec 30)
  /-- WR_U (R287): An uncached masked write recalls copies, merges the octets and completes with COMP. -/
  | wrU (a : Fin 12) (l : BitVec 30) (mask : BitVec 80) (data : List Word)
  /-- ATOM_U (R287): An atomic at the home recalls copies and performs the operation indivisibly. -/
  | atomU (a : Fin 12) (l : BitVec 30) (idx : Fin 16) (op : AtOp) (operand cmp : Word)
  /-- WB (R283): A write-back from the owner writes the line and removes the owner. -/
  | wb (a : Fin 12) (l : BitVec 30)
  /-- EVICT (R283): An eviction removes a recorded holder and completes with COMP. -/
  | evict (a : Fin 12) (l : BitVec 30)
  /-- CMO_CLEAN (R283): A clean request snoops the owner to write back dirty data. -/
  | cmoClean (c : Fin 8) (l : BitVec 30)
  /-- CMO_CLINV (R283): A clean-invalidate request recalls the line from every holder. -/
  | cmoClinv (c : Fin 8) (l : BitVec 30)
  /-- CMO_INV (R283): An invalidate request discards the line in every holder. -/
  | cmoInv (c : Fin 8) (l : BitVec 30)
  /-- EPOCH_HOLD_END (R278): A held epoch event proceeds with its transaction once 18 ns have passed. -/
  | epochHoldEnd (n : Fin 4)
  /-- SNP_INV (R284): An invalidate snoop makes the agent drop its copy and answer ACK. -/
  | snpInv (a : Fin 12) (l : BitVec 30)
  /-- SNP_FWD_S (R284): A forward-shared snoop makes the agent supply data and keep a shared copy. -/
  | snpFwdS (a : Fin 12) (l : BitVec 30)
  /-- SNP_FWD_X (R284): A forward-exclusive snoop makes the agent supply data and invalidate. -/
  | snpFwdX (a : Fin 12) (l : BitVec 30)
  /-- SNP_GET (R284): A get snoop makes the agent supply data without adding a sharer. -/
  | snpGet (a : Fin 12) (l : BitVec 30)
  /-- SNP_CLEAN (R284): A clean snoop makes the agent write back dirty data and keep the line. -/
  | snpClean (a : Fin 12) (l : BitVec 30)
  /-- SNP_RECALL (R284): A recall snoop makes the agent write back dirty data and invalidate. -/
  | snpRecall (a : Fin 12) (l : BitVec 30)
  /-- DATA_S (R284): The requester installs the line in S and answers DONE. -/
  | dataS (a : Fin 12) (l : BitVec 30)
  /-- DATA_E (R284): The requester installs the line in E and answers DONE. -/
  | dataE (a : Fin 12) (l : BitVec 30)
  /-- DATA_M (R284): The requester installs the line in M and answers DONE. -/
  | dataM (a : Fin 12) (l : BitVec 30)
  /-- DATA_T (R179): The core places tentative data and its epoch in the cloakroom entry. -/
  | dataT (c : Fin 8) (l : BitVec 30)
  /-- DATA_U (R287): The requester takes uncached data without allocating. -/
  | dataU (a : Fin 12) (l : BitVec 30)
  /-- GRANT (R284): The requester's held line becomes M and it answers DONE. -/
  | cohGrant (a : Fin 12) (l : BitVec 30)
  /-- DECLINE (R180): A declined tentative read makes the load wait until it is no longer speculative. -/
  | cohDecline (c : Fin 8) (l : BitVec 30)
  /-- RETRY (R285): The agent resends the request with RC raised on its reserved credit. -/
  | cohRetry (a : Fin 12) (l : BitVec 30)
  /-- COMP (R279): A completion ends a request, carrying the old word for ATOM_U. -/
  | cohComp (a : Fin 12) (l : BitVec 30)
  /-- PROMO_OK (R182): Matching epochs fill the line into L2 and L1 and the load retires. -/
  | promoOk (c : Fin 8) (l : BitVec 30)
  /-- PROMO_FAIL (R182): Differing epochs squash the load and younger instructions and discard the entry. -/
  | promoFail (c : Fin 8) (l : BitVec 30)
  /-- ACK (R281): The home receives a snoop answer without data. -/
  | cohAck (a : Fin 12) (l : BitVec 30)
  /-- ACK_DATA (R281): The home receives a snoop answer with data and a dirty flag. -/
  | cohAckData (a : Fin 12) (l : BitVec 30)
  /-- DONE (R281): The requester's DONE takes the entry out of B and priority slots are served. -/
  | cohDone (a : Fin 12) (l : BitVec 30)
  /-- HS_SPLIT_WRITE (R289): A write of HS_n_SPLIT starts the stage-memory split sequence with requests held. -/
  | hsSplitWrite (i : Initiator) (n : Fin 4) (v : Word)
  /-- STAGE_SPLIT_COMPLETE (R289): The split sequence ends, SYS_MAP_STAGE updates and the write completes. -/
  | stageSplitComplete (n : Fin 4)
  /-- HS_DIR_SEL_WRITE (R274): A write of the directory selection latches the selected entry into DATA0 and DATA1. -/
  | hsDirSelWrite (i : Initiator) (n : Fin 4) (v : Word)
  /-- SOURCE_ASSERT (R304): An owner asserts an event source, which latches PEND or coalesces into the count. -/
  | sourceAssert (k : Fin 256)
  /-- EIU_CONFIG_WRITE (R328): A write of a source or partition configuration applies from the next offer and may withdraw one. -/
  | eiuConfigWrite (i : Initiator) (isPart : Bool) (k : Fin 256) (v : Word)
  /-- SWEV_TRIG (R312): A write to EIU_SWEV_TRIG asserts a software event source. -/
  | swevTrig (i : Initiator) (k : Fin 64)
  /-- TB_STEP (R316): A write to TB_STEP_LO adds the step value to TB_NOW as one event. -/
  | tbStep (i : Initiator) (v : Word)
  /-- TB_SLEW_WRITE (R316): A write of TB_SLEW sets mode and interval and restarts the slew count. -/
  | tbSlewWrite (i : Initiator) (v : Word)
  /-- SLEW_TICK (R316): Every INTERVAL-th tick TB_NOW advances by 2 or 0 as the slew mode directs. -/
  | slewTick
  /-- TB_NOW_LO_READ (R318): A fabric read of TB_NOW_LO latches TB_NOW_HI into the initiator's shadow. -/
  | tbNowLoRead (i : Initiator)
  /-- TIMER_FIRE (R320): A per-core timer reaches its compare, sets FIRED and asserts its source. -/
  | timerFire (c : Fin 8)
  /-- RATE_BOUNDARY (R321): A rate generator marks a frame boundary, advancing COUNT and capturing EDGE. -/
  | rateBoundary (g : Fin 8)
  /-- RGEN_ENABLE (R321): A write of EN = 1 to a rate generator chooses its start tick. -/
  | rgenEnable (i : Initiator) (g : Fin 8) (v : Word)
  /-- RGEN_DISABLE (R323): A write of EN = 0 stops the generator at the tick of the write. -/
  | rgenDisable (i : Initiator) (g : Fin 8) (v : Word)
  /-- RGEN_RATE_WRITE (R322): A write of NUM or DEN is checked and takes effect at the next boundary. -/
  | rgenRateWrite (i : Initiator) (g : Fin 8) (den : Bool) (v : Word)
  /-- IO_RD (R339): An I/O read request is served by its target with IO_DATA. -/
  | ioRd (i : Initiator) (a : Fin 17179869184) (len : Fin 4097)
  /-- IO_WR (R339): An I/O write request is performed by its target with IO_COMP. -/
  | ioWr (i : Initiator) (a : Fin 17179869184) (mask : Option Nat) (data : List Word)
  /-- IO_ATOM (R339): An I/O atomic is performed by its target returning the old word. -/
  | ioAtom (i : Initiator) (a : Fin 17179869184) (op : AtOp) (operand cmp : Word)
  /-- IO_DATA (R351): A read response frees its tag and delivers data to the initiator. -/
  | ioData (ep : Fin 32) (tag : Fin 256)
  /-- IO_COMP (R351): A completion response frees its tag and delivers status to the initiator. -/
  | ioComp (ep : Fin 32) (tag : Fin 256)
  /-- FAB_TIMEOUT (R352): A busy tag's timer expires, TIMEOUT is given, the tag becomes ORPHAN and the destination is held. -/
  | fabTimeout (ep : Fin 32) (tag : Fin 256)
  /-- TAG_RETIREMENT (R353): An orphan tag with no response becomes FREE at edge 4 × FAB_TIMEOUT + 1. -/
  | tagRetirement (ep : Fin 32) (tag : Fin 256)
  /-- DOMAIN_CLOSE (R358): A power-down request moves a domain to CLOSING and it drains. -/
  | domainClose (d : Fin 21)
  /-- DOMAIN_SHUT (R358): A drained closing domain becomes SHUT and the request completes OK. -/
  | domainShut (d : Fin 21)
  /-- DOMAIN_OPEN (R359): A waking domain becomes OPEN and its buffered packets are delivered. -/
  | domainOpen (d : Fin 21)
  /-- FAB_WAKE_FAIL (R359): A wake not done within 50 µs, or refused, answers held packets DOMAIN_OFF. -/
  | fabWakeFail (d : Fin 21)
  /-- TRACE_WRITE (R362): The trace writer writes four records as one line to stage memory. -/
  | traceWrite
  /-- FAB_RT_DATA_WRITE (R366): A write of a route entry is checked for form and applied to later packets. -/
  | fabRtDataWrite (i : Initiator) (v : Word)
  /-- CUFF_TRAINING_START (R391): EN becoming 1 or a restart begins training with SerDes PLL lock and TS1 rows. -/
  | cuffTrainingStart (n : Fin 2)
  /-- BLOCK_LOCK (R391): All lanes reach block lock and the port sends TS2 and deskews. -/
  | blockLock (n : Fin 2) (p0 p1 p2 p3 : Fin 4) (inv : BitVec 4)
  /-- TS2 (R391): TS2 received on all lanes after 16 sent starts the slot stream with RESYNC. -/
  | ts2 (b : Ts2Block)
  /-- ADV (R392): A received ADV sets windows and credits and brings the link UP, or retrains if already UP. -/
  | cufAdv (n : Fin 2) (p : CufRx)
  /-- TRAIN_TIMEOUT (R412): Training not UP within 1 ms restarts at step 2 and is counted. -/
  | trainTimeout (n : Fin 2)
  /-- LOCK_LOST (R394): Block lock lost on a lane starts a retrain. -/
  | lockLost (n : Fin 2) (lane : Fin 4)
  /-- RD (R400): An inbound remote read is performed locally or relayed and answered with RSP. -/
  | cufRd (n : Fin 2) (p : CufRx)
  /-- WR (R400): An inbound remote write is performed locally or relayed and answered with RSP. -/
  | cufWr (n : Fin 2) (p : CufRx)
  /-- WRM (R400): An inbound masked remote write is performed locally or relayed and answered with RSP. -/
  | cufWrm (n : Fin 2) (p : CufRx)
  /-- RSP (R399): A remote response completes the local request with its status and data. -/
  | cufRsp (n : Fin 2) (p : CufRx)
  /-- MSG (R427): A message packet is delivered to its bound ring after the epoch check. -/
  | cufMsg (n : Fin 2) (p : CufRx)
  /-- IMAGE (R433): An image packet is taken by a booting follower or forwarded by a relay. -/
  | cufImage (n : Fin 2) (p : CufRx)
  /-- TIME (R401): A received TIME packet captures the peer value and the local receive tick. -/
  | cufTime (n : Fin 2) (p : CufRx)
  /-- BALANCE (R397): A received BALANCE computes per-VC credit shortfall and starts or ends a watch. -/
  | cufBalance (n : Fin 2) (p : CufRx)
  /-- RETRAIN (R395): A received RETRAIN or a local trigger runs a retrain keeping sequence and buffers. -/
  | cufRetrain (n : Fin 2) (p : CufRx)
  /-- NULL (R385): A null packet carries only acknowledgment and credit returns. -/
  | cufNull (n : Fin 2) (p : Option CufRx)
  /-- NAK (R388): A received NAK makes the sender send RESYNC and replay. -/
  | cufNak (n : Fin 2) (p : CufRx)
  /-- RESYNC (R388): A received RESYNC row ends resync and restarts slot framing. -/
  | cufResync (n : Fin 2)
  /-- REPLAY_TIMEOUT (R389): The oldest held packet unacknowledged for REPLAY_US is replayed without a NAK. -/
  | replayTimeout (n : Fin 2)
  /-- ALIGN (R376): An ALIGN row is sent every 16,384 rows and used to measure skew. -/
  | cufAlign (n : Fin 2) (s0 s1 s2 s3 : BitVec 6)
  /-- BALANCE_DUE (R385): Every 10 µs of UP a BALANCE becomes due for sending. -/
  | balanceDue (n : Fin 2)
  /-- ADV_DUE (R391): During training an ADV is sent every 1 µs. -/
  | advDue (n : Fin 2)
  /-- SILENCE (R394): No good packet for 50 µs while UP starts a retrain. -/
  | cufSilence (n : Fin 2)
  /-- RETRAIN_TIMEOUT (R396): A retrain not complete within 30 µs takes the link down. -/
  | retrainTimeout (n : Fin 2)
  /-- CREDIT_SHRINK (R398): A credit-shortfall watch lasting to the 1,001st edge starts a retrain. -/
  | creditShrink (n : Fin 2) (v : Fin 9)
  /-- PARTNER_SILENT (R414): An outbound request unanswered for 10 ms takes the link down. -/
  | partnerSilent (n : Fin 2) (tag : Fin 256)
  /-- LINK_RESTART (R411): 100 µs after going down with EN = 1 the port restarts training. -/
  | linkRestart (n : Fin 2)
  /-- CUF_RETRAIN_WRITE (R394): A write of 1 to CUF_n_CTL.RETRAIN starts a retrain with reason SOFTWARE. -/
  | cufRetrainWrite (i : Initiator) (n : Fin 2) (v : Word)
  /-- CUF_EN_WRITE (R409): A write of CUF_n_CTL.EN starts training or takes the link down. -/
  | cufEnWrite (i : Initiator) (n : Fin 2) (v : Word)
  /-- LOSE_CREDIT (R397): A test write drops the credit returns of the next trailer sent. -/
  | loseCredit (i : Initiator) (n : Fin 2) (v : Word)
  /-- BAD_SLOT (R388): A test write sends one garbage slot. -/
  | badSlot (i : Initiator) (n : Fin 2) (v : Word)
  /-- BAD_CRC (R388): A test write corrupts the CRC of the next packet sent. -/
  | badCrc (i : Initiator) (n : Fin 2) (v : Word)
  /-- TIME_SEND (R428): Every PERIOD_US each joined link sends a TIME packet. -/
  | timeSend (n : Fin 2)
  /-- HELLO (R420): A received HELLO decides whether the link is joined or apart. -/
  | cnsHello (n : Fin 2) (p : CufRx)
  /-- SYNC (R429): A received SYNC gives the follower its offset and delay and drives the servo. -/
  | cnsSync (n : Fin 2) (p : CufRx)
  /-- TIME_APART (R432): An offset above 20 µs, or 10 ms without a sample, puts the follower into time-apart. -/
  | timeApart
  /-- EPOCH (R422): A received EPOCH message is adopted and forwarded. -/
  | cnsEpoch (n : Fin 2) (p : CufRx)
  /-- LINKS (R422): A received LINKS message is forwarded or makes the leader compute a new epoch. -/
  | cnsLinks (n : Fin 2) (p : CufRx)
  /-- BOOT_REQ (R433): A boot request is forwarded by a relay or served by the leader with IMAGE_FOR and its image. -/
  | bootReq (n : Fin 2) (p : CufRx) (flash : List Word)
  /-- BOOT_REQ_DUE (R433): A follower without image sends BOOT_REQ every 1 ms until an image stream begins. -/
  | bootReqDue
  /-- IMAGE_FOR (R433): A received IMAGE_FOR announces the image stream to a follower or relay. -/
  | imageFor (n : Fin 2) (p : CufRx)
  /-- REJOIN_TIME (R432): A write of CNS_CTL.REJOIN_TIME takes the follower out of time-apart. -/
  | rejoinTime (i : Initiator) (v : Word)
  /-- CREATE (R442): A CREATE command makes a function from pool rings. -/
  | segCreate (i : Initiator) (v : Word)
  /-- DESTROY (R442): A DESTROY command returns a quiesced function's rings to the pool. -/
  | segDestroy (i : Initiator) (v : Word)
  /-- MOVE_RING (R464): A MOVE_RING command moves a quiesced ring to another function or the pool. -/
  | moveRing (i : Initiator) (v : Word)
  /-- RESET (R442): A SEG RESET command resets a function as its RESET bit does. -/
  | segReset (i : Initiator) (v : Word)
  /-- FUNCTION_RESET (R466): A write of SEF_n_CTL.RESET advances the generation and clears every ring of the function. -/
  | functionReset (i : Initiator) (f : Fin 16) (v : Word)
  /-- MASTER_ENABLE_WRITE (R465): A write of ME = 0 stops new requests and discards returning reads until quiesced. -/
  | masterEnableWrite (i : Initiator) (f : Fin 16) (v : Word)
  /-- FUNCTION_QUIESCED (R465): OUTSTANDING reaches zero with ME = 0 and QUIESCED becomes 1. -/
  | functionQuiesced (f : Fin 16)
  /-- TAIL_WRITE (R451): A write of TAIL hands over descriptors if it moves forward into free slots. -/
  | tailWrite (i : Initiator) (f : Fin 16) (r : Fin 64) (v : Word)
  /-- RING_ENABLE (R461): A write of EN = 1 to a ring configuration is checked and starts the ring. -/
  | ringEnable (i : Initiator) (f : Fin 16) (r : Fin 64) (v : Word)
  /-- RING_DRAIN (R461): A write of EN = 0 starts a drain and the ring starts no new unit. -/
  | ringDrain (i : Initiator) (f : Fin 16) (r : Fin 64) (v : Word)
  /-- RING_OFF (R461): A draining ring with no request outstanding becomes OFF and releases its binding. -/
  | ringOff (r : Fin 64)
  /-- DESCRIPTOR_FETCH (R448): A fetched descriptor is checked and halts the ring on the first failing check. -/
  | descriptorFetch (r : Fin 64)
  /-- UNIT_COMMIT (R454): At the commit point HEAD moves past the unit and its status writes are issued. -/
  | unitCommit (r : Fin 64)
  /-- STATUS_WRITES_DONE (R454): All status writes of a unit complete and the engine counts, timestamps and asserts the ring source. -/
  | statusWritesDone (r : Fin 64)
  /-- RX_UNIT_DATA (R459): Inbound data for a receive ring fills descriptors of the unit in progress. -/
  | rxUnitData (r : Fin 64)
  /-- RX_HOLD_TIMEOUT (R459): At edge RX_HOLD_US + 1 of a hold the unit is discarded whole. -/
  | rxHoldTimeout (r : Fin 64)
  /-- BLOCK_TIMEOUT (R455): An inbound MIDI or FINGERTIP block commits at the second TB_PULSE edge after its first record. -/
  | blockTimeout (r : Fin 64)
  /-- ABORT (R462): A ring ABORT command is resolved against the commit point as TAKEN, TOO_LATE or rejected. -/
  | ringAbort (i : Initiator) (f : Fin 16) (r : Fin 64) (v : Word)
  /-- RESUME (R463): A ring RESUME command restarts a halted ring at HEAD. -/
  | ringResume (i : Initiator) (f : Fin 16) (r : Fin 64) (v : Word)
  /-- FREEZE_WRITE (R479): A write of SEG_CTL.FREEZE stops new units on every ring. -/
  | freezeWrite (i : Initiator) (v : Word)
  /-- FILL_STEP (R503): The fill writes or skips the line at P and advances the pointer. -/
  | fillStep (n : Fin 2) (k : Fin 4)
  /-- FILL_WAIT_END (R504): A write waiting for a table entry or fill slot proceeds once one is freed. -/
  | fillWaitEnd (n : Fin 2)
  /-- WRITE_QUEUE_WRITE (R491): A queued line write is performed at the DRAM devices. -/
  | writeQueueWrite (n : Fin 2)
  /-- SCRUB (R495): At each TB_PULSE edge the scrub reads RATE lines and treats each as a DRAM read. -/
  | dmcScrub (n : Fin 2)
  /-- REFRESH (R496): The controller refreshes every rank each TREFI interval. -/
  | dmcRefresh (n : Fin 2) (rank : Bool) (postpone : Bool)
  /-- ZQCS (R496): The controller issues ZQCS to each rank every INTERVAL_MS. -/
  | zqcs (n : Fin 2) (rank : Bool)
  /-- DMC_ENABLE (R498): A write of DMC_n_CTL.EN = 1 starts the channel bring-up sequence. -/
  | dmcEnable (i : Initiator) (n : Fin 2) (v : Word)
  /-- DMC_BRINGUP_DONE (R498): Bring-up ends with READY or TRAIN_FAIL. -/
  | dmcBringupDone (n : Fin 2) (fail : Option (Bool × Fin 6)) (trained : List Word)
  /-- DMC_STOP (R510): A write of EN = 0 before the seal drains writes and places ranks in self-refresh. -/
  | dmcStop (i : Initiator) (n : Fin 2) (v : Word)
  /-- DMC_RESUME_DONE (R512): The resume ends with READY or TRAIN_FAIL within 2 ms. -/
  | dmcResumeDone (n : Fin 2) (fail : Option (Bool × Fin 6)) (trained : List Word)
  /-- SINGLE (R752): A write of DMC_n_INJECT.SINGLE arms a one-bit error on the next word written to DRAM. -/
  | dmcInjectSingle (i : Initiator) (n : Fin 2) (v : Word)
  /-- DOUBLE (R752): A write of DMC_n_INJECT.DOUBLE arms a two-bit error on the next word written to DRAM. -/
  | dmcInjectDouble (i : Initiator) (n : Fin 2) (v : Word)
  /-- FRESH_PARITY (R513): A test write makes the next fresh-map read see a parity error. -/
  | dmcInjectFreshParity (i : Initiator) (n : Fin 2) (v : Word)
  /-- AUDIO_ENABLE (R519): A write of AUD_n_CTL.EN = 1 is checked against rate limits and starts the port. -/
  | audioEnable (i : Initiator) (n : Fin 8) (v : Word)
  /-- AUDIO_DISABLE (R527): A write of EN = 0 stops the port at the next frame boundary and empties its queues. -/
  | audioDisable (i : Initiator) (n : Fin 8) (v : Word)
  /-- SLAVE_FRAME_START (R518): A slave port samples a frame-start transition and checks the frame length. -/
  | slaveFrameStart (n : Fin 8) (periods : Nat)
  /-- AUDIO_FRAME_RECEIVED (R525): A received frame enters the input queue or is dropped as an overrun. -/
  | audioFrameReceived (n : Fin 8) (slots : List (BitVec 32))
  /-- AUD_CLK_LOST (R549): No slave frame start for four frame periods stops the port. -/
  | audClkLost (n : Fin 8)
  /-- UNDERRUN (R524): A test write forces one underrun event on the port. -/
  | audInjectUnderrun (i : Initiator) (n : Fin 8) (v : Word)
  /-- FRAME_ERR (R549): A test write forces one frame error on the port. -/
  | audInjectFrameErr (i : Initiator) (n : Fin 8) (v : Word)
  /-- MIDI_OCTET_RECEIVED (R531): A MIDI octet is timestamped and queued, or dropped when the queue is full. -/
  | midiOctetReceived (m : Fin 4) (o : BitVec 8) (stopLow : Bool)
  /-- MIDI_SEND (R530): A MIDI output record starts its start bit at its time or at once. -/
  | midiSend (m : Fin 4)
  /-- START (R533): An I2C command sends START and the address octet. -/
  | i2cStart (p : Fin 3) (nack : Bool)
  /-- WRITE_DATA (R533): An I2C command writes one octet. -/
  | i2cWriteData (p : Fin 3) (nack : Bool)
  /-- READ_ACK (R533): An I2C command reads one octet and sends ACK. -/
  | i2cReadAck (p : Fin 3) (o : BitVec 8)
  /-- READ_NACK (R533): An I2C command reads one octet and sends NACK. -/
  | i2cReadNack (p : Fin 3) (o : BitVec 8)
  /-- STOP (R533): An I2C command sends STOP. -/
  | i2cStop (p : Fin 3)
  /-- I2C_BUS (R549): SCL held low beyond STRETCH_MS or SDA low at START empties queues and releases the bus. -/
  | i2cBus (p : Fin 3)
  /-- QSPI_CMD_WRITE (R534): A write of QSPI_CMD starts a flash transfer. -/
  | qspiCmdWrite (i : Initiator) (v : Word)
  /-- QSPI_TRANSFER_DONE (R534): A QSPI transfer ends and DONE is set. -/
  | qspiTransferDone (os : List (BitVec 8))
  /-- EMC_CMD_WRITE (R535): A write of EMC_CMD starts an eMMC command. -/
  | emcCmdWrite (i : Initiator) (v : Word)
  /-- EMC_DONE (R535): An eMMC command or transfer completes. -/
  | emcDone (resp data : List Word)
  /-- EMC_ERR (R549): An eMMC CRC error or timeout ends the transfer and logs it. -/
  | emcErr (k : Fin 4)
  /-- EMC_DATA_ACCESS (R536): A read or write of EMC_DATA moves one word through the host buffer. -/
  | emcDataAccess (i : Initiator) (w : Option Word)
  /-- EMC_TUNE_START (R535): A write of EMC_TUNE.START runs tuning over 64 phases. -/
  | emcTuneStart (i : Initiator) (v : Word)
  /-- EMC_INJECT (R549): A test write makes the next response or data block fail as selected. -/
  | emcInject (i : Initiator) (v : Word)
  /-- GPIO_EDGE (R537): A debounced input edge with its IRQ bit set records the line and tick. -/
  | gpioEdge (l : Fin 48) (rise : Bool)
  /-- GPIO_OUT_SET (R537): A write of GPIO_OUT_SET sets the named lines as one event. -/
  | gpioOutSet (i : Initiator) (hi : Bool) (v : Word)
  /-- GPIO_OUT_CLR (R537): A write of GPIO_OUT_CLR clears the named lines as one event. -/
  | gpioOutClr (i : Initiator) (hi : Bool) (v : Word)
  /-- HOST_TRANSACTION (R539): A host-port transaction from CS fall to rise carries a request, checked for frame, size and CRC. -/
  | hostTransaction (os : List (BitVec 8))
  /-- STATUS (R644): The host STATUS command returns four boot and debug status words. -/
  | hostStatus
  /-- HOST_RESET (R644): The host RESET command resets the device as RESET_N does after 10 µs. -/
  | hostReset (x : Straps)
  /-- STREAM_IMAGE (R645): A host STREAM_IMAGE request delivers image words at the expected offset. -/
  | streamImage
  /-- READ_WORD (R644): A host READ_WORD reads one word over the fabric when debug is unlocked. -/
  | readWord
  /-- WRITE_WORD (R644): A host WRITE_WORD writes one word over the fabric when debug is unlocked. -/
  | writeWord
  /-- DEBUG_UNLOCK (R641): A host DEBUG_UNLOCK inside a presence window sets UNLOCKED. -/
  | debugUnlock
  /-- HOST_RESTORE_FACTORY (R644): The host RESTORE_FACTORY command issues the keep-store command and returns its result. -/
  | hostRestoreFactory
  /-- HOST_ERASE_USER (R644): The host ERASE_USER command issues the keep-store command and returns its result. -/
  | hostEraseUser
  /-- HOST_APPLY_USER (R644): The host APPLY_USER command issues the keep-store command and returns its result. -/
  | hostApplyUser
  /-- FACTORY_WRITE (R644): A host FACTORY_WRITE stores words into the factory pages of the keep store. -/
  | factoryWrite
  /-- ETH_FRAME_RECEIVED (R558): A received frame is filtered, classified and placed in the FIFO or dropped. -/
  | ethFrameReceived (os : List (BitVec 8)) (fcs : Bool)
  /-- PAUSE (R561): A received PAUSE frame loads or clears the pause timer. -/
  | ethPause (t : BitVec 16)
  /-- PAUSE_END (R561): The pause timer reaches zero and transmission may resume. -/
  | ethPauseEnd
  /-- ETH_FRAME_TRANSMIT (R555): When the wire is free the MAC starts the ready frame of the highest eligible queue. -/
  | ethFrameTransmit
  /-- AAF_FRAME_BUILD (R567): A talker unit entering its queue buffer has its AAF frame header built. -/
  | aafFrameBuild (q : Fin 8)
  /-- ETH_SMAP_COMMIT (R564): A write of ETH_SMAP_COMMIT applies the five stream-map values as one event. -/
  | ethSmapCommit (i : Initiator) (v : Word)
  /-- AAF_STREAM_ENABLE (R565): A write of EN = 1 to an AAF stream is checked and enables it. -/
  | aafStreamEnable (i : Initiator) (a : Fin 16) (v : Word)
  /-- MDIO_CMD_WRITE (R569): A write of ETH_MDIO_CMD starts one MDIO frame. -/
  | mdioCmdWrite (i : Initiator) (v : Word)
  /-- MDIO_FRAME_DONE (R569): An MDIO frame ends, BUSY clears and read data appears. -/
  | mdioFrameDone (d : Option (BitVec 16))
  /-- BUS_RESET (R571): A USB bus reset clears the address, disables endpoints and ends their units. -/
  | busReset (hs : Bool)
  /-- USB_SUSPEND (R571): 3 ms without bus activity sets SUSPENDED and SUSPEND. -/
  | usbSuspend
  /-- USB_RESUME (R571): Host resume signaling clears SUSPENDED and sets RESUME. -/
  | usbResume
  /-- USB_WAKE (R571): A write of USB_CTL.WAKE while suspended sends remote wakeup. -/
  | usbWake (i : Initiator) (v : Word)
  /-- USB_ADDR_WRITE (R572): A write of USB_ADDR takes effect after the current status stage. -/
  | usbAddrWrite (i : Initiator) (v : Word)
  /-- SETUP (R573): A SETUP packet is stored and abandons any control transfer in progress. -/
  | usbSetup (p : BitVec 64)
  /-- SEND (R573): Endpoint 0 SEND sends LEN octets as the next IN data packet. -/
  | ep0Send
  /-- RECV (R573): Endpoint 0 RECV accepts one OUT data packet into the buffer. -/
  | ep0Recv (os : List (BitVec 8))
  /-- STATUS_ACK (R573): Endpoint 0 STATUS_ACK completes the status stage. -/
  | ep0StatusAck
  /-- STALL (R573): Endpoint 0 STALL answers STALL until the next SETUP. -/
  | ep0Stall
  /-- USB_IN_PACKET (R575): An IN token is answered with a packet, zero-length packet or NAK. -/
  | usbInPacket (e : Fin 8) (acked : Bool)
  /-- USB_OUT_PACKET (R576): An OUT packet is accepted, NAKed or dropped by endpoint type and buffer room. -/
  | usbOutPacket (e : Fin 8) (os : List (BitVec 8)) (toggle : Bool) (err : Fin 4)
  /-- SOF (R577): A start-of-frame captures its tick and frame number. -/
  | usbSof (frame : BitVec 11) (micro : Fin 8)
  /-- USB_EP_ENABLE (R574): A write of EN = 1 to an endpoint configuration is checked and sets DATA0. -/
  | usbEpEnable (i : Initiator) (out : Bool) (e : Fin 8) (v : Word)
  /-- RESET_TOGGLE (R574): A write of RESET_TOGGLE resets the endpoint's data toggle. -/
  | resetToggle (i : Initiator) (out : Bool) (e : Fin 8) (v : Word)
  /-- USB_TEST_WRITE (R570): A write of USB_TEST.MODE starts or ends a USB 2.0 test mode. -/
  | usbTestWrite (i : Initiator) (v : Word)
  /-- ANALOG_SAMPLE (R600): An analog channel is sampled, calibrated, filtered and reported past its dead band. -/
  | analogSample (j : Fin 24) (raw : BitVec 14)
  /-- FGT_ENABLE (R606): A write of FGT_CTL.EN = 1 loads calibration and starts scanning at the next scan start. -/
  | fgtEnable (i : Initiator) (v : Word)
  /-- FGT_DISABLE (R606): A write of EN = 0 stops scanning at the next scan start and clears key states. -/
  | fgtDisable (i : Initiator) (v : Word)
  /-- RELOAD (R605): A write of FGT_CTL.RELOAD loads the calibration copy again. -/
  | fgtReload (i : Initiator) (v : Word)
  /-- CAL_LOAD_DONE (R605): A calibration load finishes, choosing the active, factory or built-in layer. -/
  | calLoadDone
  /-- SEQ (R596): A test write forces one sequence-error event. -/
  | fgtInjectSeq (i : Initiator) (v : Word)
  /-- DROP (R603): A test write forces one drop event. -/
  | fgtInjectDrop (i : Initiator) (v : Word)
  /-- RESTORE_FACTORY (R609): The keep-store command copies the factory layer into the active layer inside a presence window. -/
  | restoreFactory (i : Initiator) (v : Word)
  /-- ERASE_USER (R609): The keep-store command zeroes the user pages including the active layer. -/
  | eraseUser (i : Initiator) (v : Word)
  /-- APPLY_USER (R609): The keep-store command copies a valid user layer into the active layer. -/
  | applyUser (i : Initiator) (v : Word)
  /-- KEP_WP_WRITE (R608): A write of KEP_WP_w sets write protection of OS pages until reset. -/
  | kepWpWrite (i : Initiator) (w : Fin 6) (v : Word)
  /-- KEP_INJECT (R618): A test write makes the next keep-store word write carry a one- or two-bit error. -/
  | kepInject (i : Initiator) (v : Word)
  /-- PASS1_CHECK (R624): After reading an image, pass 1 checks header, structure, CRC, key hash and signature. -/
  | pass1Check (flash again : List Word)
  /-- BOOT_SOURCE_TIMEOUT (R623): A source that sends no image or pauses too long fails. -/
  | bootSourceTimeout
  /-- DRAM_TIMING (R629): The record writes DMC geometry, timing and control and waits for bring-up. -/
  | recDramTiming
  /-- PINMUX (R629): The record assigns GPIO line functions. -/
  | recPinmux
  /-- ROUTES (R629): The record writes fabric route entries. -/
  | recRoutes
  /-- STAGE_SPLIT (R629): The record writes the stage portion of each home slice. -/
  | recStageSplit
  /-- CUFF (R629): The record writes Cuff VC configuration, timers and windows. -/
  | recCuff
  /-- CONSORT (R630): The record is checked and derives the consort registers. -/
  | recConsort
  /-- PARTITIONS (R629): The record creates stream-engine functions and writes their windows. -/
  | recPartitions
  /-- SHED_RANKS (R629): The record writes each core's shed rank. -/
  | recShedRanks
  /-- PAYLOAD_LOAD (R632): The record stores its payload at a checked physical destination. -/
  | recPayloadLoad
  /-- ENTRY (R629): The record sets core 0's entry address. -/
  | recEntry
  /-- CLOCKS (R629): The record sets TB_TICK_FS for the fitted XA. -/
  | recClocks
  /-- AUDIO_DEFAULTS (R629): The record enables rate generators and writes audio port defaults. -/
  | recAudioDefaults
  /-- REGISTER_POKE (R632): The record writes or read-modify-writes checked register addresses. -/
  | recRegisterPoke
  /-- FINGERTIP (R629): The record writes the Fingertip key, scan and analog settings. -/
  | recFingertip
  /-- SIGNATURE (R629): The record carries the public key and signature and has no pass-2 effect. -/
  | recSignature
  /-- END (R625): The END record compares the pass-2 digest and triggers the seal. -/
  | endRecord
  /-- CORE_START (R636): A write of BSQ_CORE_CTL.START resets and starts a stopped core, or is refused. -/
  | coreStart (i : Initiator) (v : Word)
  /-- PROGRAM (R638): A write of BSQ_FUSE_CTL.PROGRAM programs blank key-hash fuses inside a presence window. -/
  | fuseProgram (i : Initiator) (v : Word)
  /-- FUSE_PROGRAM_DONE (R638): Fuse programming ends and reads back, setting PROG_FAIL on a difference. -/
  | fuseProgramDone (got : BitVec 256)
  /-- PRESENCE_WINDOW_OPEN (R639): PRESENCE_N low for 2,000,000 edges opens the presence window. -/
  | presenceWindowOpen
  /-- PRESENCE_WINDOW_CLOSE (R639): The presence window closes after 30,000,000 edges. -/
  | presenceWindowClose (low : Bool)
  /-- DEBUG_RELOCK (R641): A write of BSQ_DEBUG.RELOCK clears UNLOCKED. -/
  | debugRelock (i : Initiator) (v : Word)
  /-- SHUT (R652): A write of PWR_DOM_d.SHUT starts closing a domain or is refused. -/
  | pwrShut (i : Initiator) (d : Fin 21) (v : Word)
  /-- DOMAIN_WAKE (R652): A write of PWR_DOM_d.WAKE brings a shut domain to OPEN. -/
  | domainWake (i : Initiator) (d : Fin 21) (v : Word)
  /-- RETAIN_ENTRY (R651): A domain idle for its retention time enters RETAIN. -/
  | retainEntry (d : Fin 21)
  /-- SUPPLY_SAMPLE (R654): The supply monitors sample VDD_CORE and give the lowest reading. -/
  | supplySample (ns : Fin 151) (r0 r1 r2 r3 : Fin 410)
  /-- HALT_RELEASE (R660): 1 ms at or above 0.70 V releases the halt and reruns the timeline from step 3. -/
  | haltRelease (x : Straps)
  /-- PWR_VMIN_WRITE (R654): A write of PWR_VMIN sets it to the current reading. -/
  | pwrVminWrite (i : Initiator) (v : Word)
  /-- ERRLOG_RECORD (R667): The collector takes a block's record and places it in SYS_ERRLOG or discards it. -/
  | errlogRecord
  /-- ERRLOG_POP (R669): A write of SYS_ERRLOG_POP removes the oldest unread record. -/
  | errlogPop (i : Initiator) (v : Word)
  /-- ERRLOG_TOP_READ (R669): A read of SYS_ERRLOG_TOP_0 returns the oldest record and latches its other words for the initiator. -/
  | errlogTopRead (i : Initiator)
  /-- TRIG (R672): A write of HAT_CTL.TRIG raises the SOFTWARE trigger. -/
  | hatTrigWrite (i : Initiator) (v : Word)
  /-- ARM (R674): A write of HAT_CTL.ARM arms Hatcheck and clears LATCHED and SRC. -/
  | hatArm (i : Initiator) (v : Word)
  /-- HATCHECK_PIN_TRIGGER (R672): HATCHECK_IO held low for 50 ns raises the PIN trigger. -/
  | hatcheckPinTrigger
  /-- HATCHECK_LATCH (R673): After the delay every snapshot holder latches its words as one event and LATCHED is set. -/
  | hatcheckLatch (late : BitVec 47)
  /-- DBG_CORE_HALT (R680): A write of DBG_CORE_HALT halts a core at its next boundary or grid point. -/
  | dbgCoreHalt (i : Initiator) (v : Word)
  /-- DBG_CORE_RESUME (R681): A write of DBG_CORE_RESUME restarts a halted core at its PC. -/
  | dbgCoreResume (i : Initiator) (v : Word)
  /-- DBG_CORE_STEP (R681): A write of DBG_CORE_STEP runs a halted core for one instruction and halts it again. -/
  | dbgCoreStep (i : Initiator) (v : Word)
  /-- ADDR (R682): The JTAG ADDR operation sets the debug access address. -/
  | jtagAddr (v : Word)
  /-- READ (R683): The JTAG READ operation reads a word over the fabric, or gives LOCKED. -/
  | jtagRead (v : Word)
  /-- WRITE (R683): The JTAG WRITE operation writes a word over the fabric, or gives LOCKED. -/
  | jtagWrite (v : Word)
  /-- UNLOCK (R682): The JTAG UNLOCK operation unlocks debug inside a presence window. -/
  | jtagUnlock (v : Word)
  /-- RELOCK (R682): The JTAG RELOCK operation clears UNLOCKED. -/
  | jtagRelock (v : Word)
  /-- HAT_TRIG (R682): The JTAG HAT_TRIG operation raises the DEBUG trigger. -/
  | jtagHatTrig (v : Word)
  /-- JTAG_NOP (R682): The JTAG NOP operation leaves the status unchanged. -/
  | jtagNop (op : Fin 16)
  /-- MAILBOX_WRITE (R684): A write of a mailbox status sets IN_FULL or OUT_EMPTY events. -/
  | mailboxWrite (i : Initiator) (out : Bool) (v : Word)
  /-- REGISTER_WRITE (R697): A write to a register with no row of its own sets its fields by access code. -/
  | registerWrite (i : Initiator) (a : Fin 17179869184) (v : Word)
  /-- RESET_N_LOW (R719): RESET_N held low for a qualifying pulse starts internal reset: accepted keep-store stores complete, balls take their reset states and STATUS shows 000b. -/
  | resetNLow
  /-- TB_PLL_LOCK_TIMEOUT (R621): When XA gives no lock within 1 ms of strap sampling, the device acts as for loss of XA and the sequencer continues. -/
  | tbPllLockTimeout
  /-- MIDI_BREAK (R531): A MIDI input line held low for longer than one frame sets BREAK and delivers no octet until the line returns high. -/
  | midiBreak (m : Fin 4) (low : Bool)
  /-- JTAG_INSTRUCTION_UPDATE (R736): Loading EXTEST, CLAMP, HIGHZ or another instruction into the JTAG instruction register hands the balls to the boundary register or takes them back. -/
  | jtagInstructionUpdate (ir : BitVec 6) (cells : BitVec 1077)
  /-- I2C_RXDATA_READ (R698): A read of I2C_p_RXDATA pops one octet from the receive queue and lets a stretched READ continue. -/
  | i2cRxdataRead (i : Initiator) (p : Fin 3)
  /-- FOREIGN_SLOT_READ (R444): A read of a ring slot in a function page that does not own the ring returns zero and adds one to SEF_n_FOREIGN_CNT. -/
  | foreignSlotRead (i : Initiator) (f : Fin 16) (r : Fin 64) (o : Fin 16)
deriving DecidableEq, Repr

end Sys2Proof
end

