-- ==== Sys2Proof/Decode.lean ====
section
/-!
DEFINITION. The decoder of table words. The table of this hardware's commands gives no row any bits (`spec/opcode_table.json`: the block takes
commands, and its rows carry no encoding), so no word spells a command.
-/
namespace Sys2Proof

/-- The command that a word spells by the table's bits: none, for the table gives no row bits. -/
def decodeTableWord (_nbits _w : Nat) : Option Instr := none

end Sys2Proof
end

