-- ==== Sys2Proof/Config.lean ====
section
/-!
DEFINITION. The free values: constants with no body, so nothing can be proved about their values. Each is named in an assumption
log row. `freeWord`, `freeNat` and `freeBool` are applied to `State.fresh`, a plain counter that every use advances.
-/
namespace Sys2Proof.Config

/-- A value the spec leaves open, one per value of the counter `State.fresh` (log row 2). -/
opaque freeWord : Nat → Word
opaque freeNat : Nat → Nat
opaque freeBool : Nat → Bool

/-- The fixed contents of the boot ROM, which the spec does not give (R70; log row 3). -/
opaque bootRom : Nat → Word

/-- The 80-bit number written at manufacture (R702; log row 3). -/
opaque uid : BitVec 80

/-- The fixed transmit and receive delay in ticks of `ETH_TS_LAT` (log row 3). -/
opaque ethTsLat : Word

/-- SHA-256 (FIPS 180-4) of an octet string, as R626 uses it; a published standard whose text is outside the spec (log row 4). -/
opaque sha256 : List (BitVec 8) → BitVec 256

/-- Ed25519 verification (RFC 8032): public key, message, signature (log row 4). -/
opaque ed25519Verify : BitVec 256 → List (BitVec 8) → BitVec 512 → Bool

/-- The fixed signature function of a retirement group (R219: its values have meaning only when compared; log row 5). -/
opaque groupSig : List Word → Word

/-- The syndrome that a (48,40) code gives for an error pattern in lane 0, whose check matrix is not published (R493; log row 6). -/
opaque eccSyndrome : Word → Word → Nat

/-- Whether F40 tininess is judged after rounding; the spec says only "tiny" (R150; log row 7). -/
opaque tinyAfterRounding : Bool

/-- The sign of an F40 sum of opposite-signed values that cancel exactly, by rounding mode (log row 7). -/
opaque cancelNegative : Nat → Bool

end Sys2Proof.Config
end

