-- ==== Sys2Proof/Machine/Bits.lean ====
section
/-!
DEFINITION. Bit fields of a word: `fget w hi lo` is field [hi:lo] as a number, `fset w hi lo v` is the word with that field
set (R17: a register's fields are named by their bit positions).
-/
namespace Sys2Proof.Machine

/-- Field [hi:lo] of a word, as a number. -/
def fget (w : Word) (hi lo : Nat) : Nat := (w.toNat / 2 ^ lo) % 2 ^ (hi - lo + 1)

/-- The ones that cover field [hi:lo]. -/
def fmask (hi lo : Nat) : Word := BitVec.ofNat 40 ((2 ^ (hi - lo + 1) - 1) * 2 ^ lo)

/-- The word with field [hi:lo] set to `v`, taken modulo the field's width. -/
def fset (w : Word) (hi lo v : Nat) : Word :=
  (w &&& ~~~ fmask hi lo) ||| BitVec.ofNat 40 ((v % 2 ^ (hi - lo + 1)) * 2 ^ lo)

/-- Bit i of a word. -/
def bget (w : Word) (i : Nat) : Bool := w.getLsbD i

/-- The word with bit i set to b. -/
def bset (w : Word) (i : Nat) (b : Bool) : Word := fset w i i (if b then 1 else 0)

/-- Nat of a Bool. -/
def b2n (b : Bool) : Nat := if b then 1 else 0

/-- The bits of `l`, the first the least significant. -/
def bitsToNat : List Bool → Nat
  | [] => 0
  | b :: t => b2n b + 2 * bitsToNat t

end Sys2Proof.Machine
end

