-- ==== Sys2Proof/Machine/Maps.lean ====
section
/-!
DEFINITION. The operations of the sparse map `SMap`: look up, insert in key order, erase, and `put`, which keeps the
canonical form in which no entry equals what an unlisted key reads as.
-/
namespace Sys2Proof.Machine

variable {α : Type}

def SMap.find (k : Nat) : SMap α → Option α
  | [] => none
  | (j, v) :: t => if k = j then some v else SMap.find k t

def SMap.getD (d : α) (k : Nat) (m : SMap α) : α := (SMap.find k m).getD d

def SMap.insert (k : Nat) (v : α) : SMap α → SMap α
  | [] => [(k, v)]
  | (j, w) :: t => if k < j then (k, v) :: (j, w) :: t else if k = j then (k, v) :: t else (j, w) :: SMap.insert k v t

def SMap.erase (k : Nat) : SMap α → SMap α
  | [] => []
  | (j, w) :: t => if k = j then SMap.erase k t else (j, w) :: SMap.erase k t

/-- Write `v` at `k` where an unlisted key reads as `d`: writing `d` removes the entry. -/
def SMap.put [DecidableEq α] (d : α) (k : Nat) (v : α) (m : SMap α) : SMap α :=
  if v = d then SMap.erase k m else SMap.insert k v m

/-- Keys strictly rising, all above `b` when it is given. -/
def SMap.risingFrom : Option Nat → SMap α → Bool
  | _, [] => true
  | none, (k, _) :: t => SMap.risingFrom (some k) t
  | some b, (k, _) :: t => decide (b < k) && SMap.risingFrom (some k) t

/-- The canonical form: keys strictly rising and no entry equal to what an unlisted key reads as. -/
def SMap.canon [DecidableEq α] (d : Nat → α) (m : SMap α) : Bool :=
  SMap.risingFrom none m && m.all (fun e => decide (e.2 ≠ d e.1))

end Sys2Proof.Machine
end

