-- ==== Sys2Proof/Machine/RegNames.lean ====
section
/-!
DEFINITION. The address of every register by name (R692, R705): `Reg.<NAME>` for a single register, `Reg.<NAME> n k` for register k of a
row of copy n of a block.
-/
namespace Sys2Proof.Machine

/-! SYS — spec/21_register_map.md -/
def Reg.SYS_ID : Nat := 0x200000
def Reg.SYS_REV : Nat := 0x200001
def Reg.SYS_UID (k : Nat) : Nat := 0x200002 + k
def Reg.SYS_CAPS : Nat := 0x200004
def Reg.SYS_REGCOUNT : Nat := 0x200005
def Reg.SYS_STATUS : Nat := 0x200006
def Reg.SYS_RSVD_ADDR : Nat := 0x200007
def Reg.SYS_RSVD_DATA : Nat := 0x200008
def Reg.SYS_RSVD_CNT : Nat := 0x200009
def Reg.SYS_PINMUX (k : Nat) : Nat := 0x20000a + k
def Reg.SYS_PINMUX_4 : Nat := 0x20000e
def Reg.SYS_STATUS_PINS : Nat := 0x20000f
def Reg.SYS_MAP_STAGE : Nat := 0x200010
def Reg.SYS_MAP_DRAM : Nat := 0x200011
def Reg.SYS_SCRATCH (k : Nat) : Nat := 0x200012 + k
def Reg.SYS_ERRLOG_STAT : Nat := 0x200020
def Reg.SYS_ERRLOG_TOP (k : Nat) : Nat := 0x200021 + k
def Reg.SYS_ERRLOG_POP : Nat := 0x200025
def Reg.SYS_ERRLOG_LOST_CNT : Nat := 0x200026
def Reg.SYS_ERRLOG_TOTAL_CNT : Nat := 0x200027
def Reg.SYS_PAGE_MAP (k : Nat) : Nat := 0x200028 + k
def Reg.SYS_SCRATCH_14 (k : Nat) : Nat := 0x200035 + k

/-! BSQ — spec/18_boot_dukar_image.md -/
def Reg.BSQ_ID : Nat := 0x201000
def Reg.BSQ_STATUS : Nat := 0x201001
def Reg.BSQ_SOURCE : Nat := 0x201002
def Reg.BSQ_IMAGE_VER : Nat := 0x201003
def Reg.BSQ_FAIL_INFO : Nat := 0x201004
def Reg.BSQ_IMAGE_LEN : Nat := 0x201005
def Reg.BSQ_SEAL_TICK : Nat := 0x201006
def Reg.BSQ_PRESENCE : Nat := 0x201007
def Reg.BSQ_DEBUG : Nat := 0x201008
def Reg.BSQ_FUSE_CTL : Nat := 0x201009
def Reg.BSQ_FUSE_STAT : Nat := 0x20100a
def Reg.BSQ_RECORD_CNT : Nat := 0x20100b
def Reg.BSQ_PRESENCE_CNT : Nat := 0x20100c
def Reg.BSQ_UNLOCK_CNT : Nat := 0x20100d
def Reg.BSQ_FAIL_CNT : Nat := 0x20100e
def Reg.BSQ_SERVE_REFUSED : Nat := 0x20100f
def Reg.BSQ_KEY_HASH (k : Nat) : Nat := 0x201010 + k
def Reg.BSQ_ENTRY : Nat := 0x201017
def Reg.BSQ_FUSE_DATA (k : Nat) : Nat := 0x201018 + k
def Reg.BSQ_STRAPS : Nat := 0x20101f
def Reg.BSQ_CORE_ENTRY (k : Nat) : Nat := 0x201020 + k
def Reg.BSQ_CORE_CTL : Nat := 0x201028
def Reg.BSQ_CORE_STAT : Nat := 0x201029
def Reg.BSQ_SNAP (k : Nat) : Nat := 0x20102a + k

/-! PWR — spec/19_power_shedding.md -/
def Reg.PWR_ID : Nat := 0x202000
def Reg.PWR_STATUS : Nat := 0x202001
def Reg.PWR_EVT_EN : Nat := 0x202002
def Reg.PWR_VMON : Nat := 0x202003
def Reg.PWR_VMIN : Nat := 0x202004
def Reg.PWR_STAGE_CNT (k : Nat) : Nat := 0x202005 + k
def Reg.PWR_HALT_CNT : Nat := 0x20200a
def Reg.PWR_LAST_TICK : Nat := 0x20200b
def Reg.PWR_DOM (k : Nat) : Nat := 0x202010 + k
def Reg.PWR_SNAP (k : Nat) : Nat := 0x202028 + k

/-! TB — spec/09_events_timebase.md -/
def Reg.TB_CTL : Nat := 0x203000
def Reg.TB_STATUS : Nat := 0x203001
def Reg.TB_NOW_LO : Nat := 0x203002
def Reg.TB_NOW_HI : Nat := 0x203003
def Reg.TB_TICK_FS : Nat := 0x203004
def Reg.TB_STEP_LO : Nat := 0x203005
def Reg.TB_STEP_HI : Nat := 0x203006
def Reg.TB_SLEW : Nat := 0x203007
def Reg.TB_PULSE_CNT : Nat := 0x203008
def Reg.TB_SNAP (k : Nat) : Nat := 0x203009 + k
def Reg.TB_RGEN_CTL (k : Nat) : Nat := 0x203010 + 0x8 * k
def Reg.TB_RGEN_NUM (k : Nat) : Nat := 0x203011 + 0x8 * k
def Reg.TB_RGEN_DEN (k : Nat) : Nat := 0x203012 + 0x8 * k
def Reg.TB_RGEN_COUNT (k : Nat) : Nat := 0x203013 + 0x8 * k
def Reg.TB_RGEN_EDGE (k : Nat) : Nat := 0x203014 + 0x8 * k

/-! EIU — spec/09_events_timebase.md -/
def Reg.EIU_CTL : Nat := 0x204000
def Reg.EIU_STATUS : Nat := 0x204001
def Reg.EIU_QUIET_CTL : Nat := 0x204002
def Reg.EIU_QUIET_MASK : Nat := 0x204003
def Reg.EIU_QUIET_STAT : Nat := 0x204004
def Reg.EIU_SWEV_TRIG : Nat := 0x204005
def Reg.EIU_SEV_GROUP (k : Nat) : Nat := 0x204008 + k
def Reg.EIU_PEND (k : Nat) : Nat := 0x204010 + k
def Reg.EIU_PART_CTL (k : Nat) : Nat := 0x204020 + k
def Reg.EIU_PART_STAT (k : Nat) : Nat := 0x204030 + k
def Reg.EIU_SNAP (k : Nat) : Nat := 0x204040 + k
def Reg.EIU_SRC_CFG (k : Nat) : Nat := 0x205000 + k
def Reg.EIU_SRC_CNT (k : Nat) : Nat := 0x206000 + k
def Reg.EIU_CORE_STATE (k : Nat) : Nat := 0x207000 + k
def Reg.EIU_CORE_INSVC (k : Nat) : Nat := 0x207008 + k

/-! CORE — spec/03_programming_model.md -/
def Reg.CS_FLAGS (n : Nat) : Nat := 0x208000 + 0x1000 * n
def Reg.CS_TIME_LO (n : Nat) : Nat := 0x208001 + 0x1000 * n
def Reg.CS_TIME_HI (n : Nat) : Nat := 0x208002 + 0x1000 * n
def Reg.CS_CORE_ID (n : Nat) : Nat := 0x208003 + 0x1000 * n
def Reg.CS_F40_CTL (n : Nat) : Nat := 0x208004 + 0x1000 * n
def Reg.CS_TP (n : Nat) : Nat := 0x208005 + 0x1000 * n
def Reg.CS_RSV (n : Nat) : Nat := 0x208006 + 0x1000 * n
def Reg.CS_RET_COUNT (n : Nat) : Nat := 0x208007 + 0x1000 * n
def Reg.CS_STATUS (n : Nat) : Nat := 0x208008 + 0x1000 * n
def Reg.CS_K_VEC (n : Nat) : Nat := 0x208009 + 0x1000 * n
def Reg.CS_K_EPC (n : Nat) : Nat := 0x20800a + 0x1000 * n
def Reg.CS_K_EST (n : Nat) : Nat := 0x20800b + 0x1000 * n
def Reg.CS_K_CAUSE (n : Nat) : Nat := 0x20800c + 0x1000 * n
def Reg.CS_K_FADDR (n : Nat) : Nat := 0x20800d + 0x1000 * n
def Reg.CS_K_SCRATCH (n : Nat) : Nat := 0x20800e + 0x1000 * n
def Reg.CS_ASID (n : Nat) : Nat := 0x20800f + 0x1000 * n
def Reg.CS_PT1_BASE (n : Nat) : Nat := 0x208010 + 0x1000 * n
def Reg.CS_BTB_KEY (n : Nat) : Nat := 0x208011 + 0x1000 * n
def Reg.CS_TMR_CMP_LO (n : Nat) : Nat := 0x208012 + 0x1000 * n
def Reg.CS_TMR_CMP_HI (n : Nat) : Nat := 0x208013 + 0x1000 * n
def Reg.CS_TMR_CTL (n : Nat) : Nat := 0x208014 + 0x1000 * n
def Reg.CS_EV_MASK (n : Nat) : Nat := 0x208015 + 0x1000 * n
def Reg.CS_EV_CLAIM (n : Nat) : Nat := 0x208016 + 0x1000 * n
def Reg.CS_P_VEC (n : Nat) : Nat := 0x208018 + 0x1000 * n
def Reg.CS_P_EPC (n : Nat) : Nat := 0x208019 + 0x1000 * n
def Reg.CS_P_EST (n : Nat) : Nat := 0x20801a + 0x1000 * n
def Reg.CS_P_CAUSE (n : Nat) : Nat := 0x20801b + 0x1000 * n
def Reg.CS_P_FADDR (n : Nat) : Nat := 0x20801c + 0x1000 * n
def Reg.CS_P_SCRATCH (n : Nat) : Nat := 0x20801d + 0x1000 * n
def Reg.CS_P_IPA (n : Nat) : Nat := 0x20801e + 0x1000 * n
def Reg.CS_PART (n : Nat) : Nat := 0x20801f + 0x1000 * n
def Reg.CS_PT2_BASE (n : Nat) : Nat := 0x208020 + 0x1000 * n
def Reg.CS_P_ROUTE (n : Nat) : Nat := 0x208021 + 0x1000 * n
def Reg.CS_M_VEC (n : Nat) : Nat := 0x208028 + 0x1000 * n
def Reg.CS_M_EPC (n : Nat) : Nat := 0x208029 + 0x1000 * n
def Reg.CS_M_EST (n : Nat) : Nat := 0x20802a + 0x1000 * n
def Reg.CS_M_CAUSE (n : Nat) : Nat := 0x20802b + 0x1000 * n
def Reg.CS_M_FADDR (n : Nat) : Nat := 0x20802c + 0x1000 * n
def Reg.CS_M_SCRATCH (n : Nat) : Nat := 0x20802d + 0x1000 * n
def Reg.CS_M_ROUTE (n : Nat) : Nat := 0x20802e + 0x1000 * n
def Reg.CS_BR_CTL (n : Nat) : Nat := 0x20802f + 0x1000 * n
def Reg.CS_PACE_CTL (n : Nat) : Nat := 0x208030 + 0x1000 * n
def Reg.CS_PACE_PERIOD (n : Nat) : Nat := 0x208031 + 0x1000 * n
def Reg.CS_PACE_STAT (n : Nat) : Nat := 0x208032 + 0x1000 * n
def Reg.CS_PACE_EXC (n : Nat) : Nat := 0x208033 + 0x1000 * n
def Reg.CS_WATCH_ADDR (n : Nat) : Nat := 0x208034 + 0x1000 * n
def Reg.CS_WATCH_CTL (n : Nat) : Nat := 0x208035 + 0x1000 * n
def Reg.CS_BREAK_ADDR (n k : Nat) : Nat := 0x208036 + 0x1000 * n + k
def Reg.CS_DBG_CTL (n : Nat) : Nat := 0x208038 + 0x1000 * n
def Reg.CS_SHED_RANK (n : Nat) : Nat := 0x208039 + 0x1000 * n
def Reg.CS_PMC (n k : Nat) : Nat := 0x208040 + 0x1000 * n + k
def Reg.CS_PMC_SEL (n k : Nat) : Nat := 0x208050 + 0x1000 * n + k
def Reg.CS_PMC_SEL_15 (n : Nat) : Nat := 0x20805f + 0x1000 * n
def Reg.CS_SNAP (n k : Nat) : Nat := 0x208060 + 0x1000 * n + k

/-! HS — spec/08_caches_coherence.md -/
def Reg.HS_ID (n : Nat) : Nat := 0x210000 + 0x1000 * n
def Reg.HS_SPLIT (n : Nat) : Nat := 0x210001 + 0x1000 * n
def Reg.HS_CTL (n : Nat) : Nat := 0x210002 + 0x1000 * n
def Reg.HS_STATUS (n : Nat) : Nat := 0x210003 + 0x1000 * n
def Reg.HS_EPOCH (n : Nat) : Nat := 0x210004 + 0x1000 * n
def Reg.HS_DIR_SEL (n : Nat) : Nat := 0x210005 + 0x1000 * n
def Reg.HS_DIR_DATA (n k : Nat) : Nat := 0x210006 + 0x1000 * n + k
def Reg.HS_ERR_ADDR (n : Nat) : Nat := 0x210008 + 0x1000 * n
def Reg.HS_ERR_INFO (n : Nat) : Nat := 0x210009 + 0x1000 * n
def Reg.HS_ECC_CORR (n : Nat) : Nat := 0x21000a + 0x1000 * n
def Reg.HS_ECC_UNCORR (n : Nat) : Nat := 0x21000b + 0x1000 * n
def Reg.HS_CNT (n k : Nat) : Nat := 0x210010 + 0x1000 * n + k
def Reg.HS_CNT_SEL (n k : Nat) : Nat := 0x210020 + 0x1000 * n + k
def Reg.HS_SNAP (n k : Nat) : Nat := 0x210030 + 0x1000 * n + k
def Reg.HS_PSLOT (n k : Nat) : Nat := 0x210040 + 0x1000 * n + k
def Reg.HS_TRK (n k : Nat) : Nat := 0x210050 + 0x1000 * n + k

/-! DMC — spec/14_dram_fresh_map.md -/
def Reg.DMC_ID (n : Nat) : Nat := 0x218000 + 0x1000 * n
def Reg.DMC_CTL (n : Nat) : Nat := 0x218001 + 0x1000 * n
def Reg.DMC_STATUS (n : Nat) : Nat := 0x218002 + 0x1000 * n
def Reg.DMC_ILV (n : Nat) : Nat := 0x218003 + 0x1000 * n
def Reg.DMC_GEOM (n : Nat) : Nat := 0x218004 + 0x1000 * n
def Reg.DMC_REFRESH (n : Nat) : Nat := 0x218005 + 0x1000 * n
def Reg.DMC_TIM_0 (n : Nat) : Nat := 0x218006 + 0x1000 * n
def Reg.DMC_TIM_1 (n : Nat) : Nat := 0x218007 + 0x1000 * n
def Reg.DMC_TIM_2 (n : Nat) : Nat := 0x218008 + 0x1000 * n
def Reg.DMC_TIM_3 (n : Nat) : Nat := 0x218009 + 0x1000 * n
def Reg.DMC_TIM_4 (n : Nat) : Nat := 0x21800a + 0x1000 * n
def Reg.DMC_TIM_5 (n : Nat) : Nat := 0x21800b + 0x1000 * n
def Reg.DMC_TIM_6 (n : Nat) : Nat := 0x21800c + 0x1000 * n
def Reg.DMC_TIM_7 (n : Nat) : Nat := 0x21800d + 0x1000 * n
def Reg.DMC_FRESH_SEL (n : Nat) : Nat := 0x21800e + 0x1000 * n
def Reg.DMC_FRESH_DATA (n : Nat) : Nat := 0x21800f + 0x1000 * n
def Reg.DMC_FILL (n k : Nat) : Nat := 0x218010 + 0x1000 * n + k
def Reg.DMC_WAT_STAT (n : Nat) : Nat := 0x218014 + 0x1000 * n
def Reg.DMC_SCRUB_CTL (n : Nat) : Nat := 0x218015 + 0x1000 * n
def Reg.DMC_SCRUB_PTR (n : Nat) : Nat := 0x218016 + 0x1000 * n
def Reg.DMC_ERR_ADDR (n : Nat) : Nat := 0x218017 + 0x1000 * n
def Reg.DMC_ERR_INFO (n : Nat) : Nat := 0x218018 + 0x1000 * n
def Reg.DMC_INJECT (n : Nat) : Nat := 0x218019 + 0x1000 * n
def Reg.DMC_FRESH_LEFT (n : Nat) : Nat := 0x21801a + 0x1000 * n
def Reg.DMC_ZQ_CTL (n : Nat) : Nat := 0x21801b + 0x1000 * n
def Reg.DMC_LAST_FILL_TICK (n : Nat) : Nat := 0x21801c + 0x1000 * n
def Reg.DMC_SELFREF_CNT (n : Nat) : Nat := 0x21801d + 0x1000 * n
def Reg.DMC_RD_CNT (n : Nat) : Nat := 0x218020 + 0x1000 * n
def Reg.DMC_WR_CNT (n : Nat) : Nat := 0x218021 + 0x1000 * n
def Reg.DMC_RMW_CNT (n : Nat) : Nat := 0x218022 + 0x1000 * n
def Reg.DMC_FRESH_RD_CNT (n : Nat) : Nat := 0x218023 + 0x1000 * n
def Reg.DMC_FILL_LINE_CNT (n : Nat) : Nat := 0x218024 + 0x1000 * n
def Reg.DMC_FILL_DONE_CNT (n : Nat) : Nat := 0x218025 + 0x1000 * n
def Reg.DMC_WAT_STALL_CNT (n : Nat) : Nat := 0x218026 + 0x1000 * n
def Reg.DMC_SLOT_STALL_CNT (n : Nat) : Nat := 0x218027 + 0x1000 * n
def Reg.DMC_CE_CNT (n : Nat) : Nat := 0x218028 + 0x1000 * n
def Reg.DMC_UE_CNT (n : Nat) : Nat := 0x218029 + 0x1000 * n
def Reg.DMC_POISON_RD_CNT (n : Nat) : Nat := 0x21802a + 0x1000 * n
def Reg.DMC_SCRUB_PASS_CNT (n : Nat) : Nat := 0x21802b + 0x1000 * n
def Reg.DMC_REFRESH_CNT (n : Nat) : Nat := 0x21802c + 0x1000 * n
def Reg.DMC_ROW_HIT_CNT (n : Nat) : Nat := 0x21802d + 0x1000 * n
def Reg.DMC_ROW_MISS_CNT (n : Nat) : Nat := 0x21802e + 0x1000 * n
def Reg.DMC_ROW_CONFLICT_CNT (n : Nat) : Nat := 0x21802f + 0x1000 * n
def Reg.DMC_LANE_CE (n k : Nat) : Nat := 0x218030 + 0x1000 * n + k
def Reg.DMC_LANE_UE (n k : Nat) : Nat := 0x218038 + 0x1000 * n + k
def Reg.DMC_TRAIN (n k : Nat) : Nat := 0x218040 + 0x1000 * n + k
def Reg.DMC_VREF (n k : Nat) : Nat := 0x218058 + 0x1000 * n + k
def Reg.DMC_WAT (n k : Nat) : Nat := 0x218060 + 0x1000 * n + k
def Reg.DMC_SNAP (n k : Nat) : Nat := 0x2180a0 + 0x1000 * n + k

/-! FAB — spec/10_fabric.md -/
def Reg.FAB_ID : Nat := 0x220000
def Reg.FAB_CTL : Nat := 0x220001
def Reg.FAB_STATUS : Nat := 0x220002
def Reg.FAB_RT_SEL : Nat := 0x220003
def Reg.FAB_RT_DATA : Nat := 0x220004
def Reg.FAB_ERR_INFO : Nat := 0x220005
def Reg.FAB_ERR_ADDR : Nat := 0x220006
def Reg.FAB_STALE_CNT : Nat := 0x220007
def Reg.FAB_WAKE_CNT : Nat := 0x220008
def Reg.FAB_WAKE_FAIL_CNT : Nat := 0x220009
def Reg.FAB_CLOSE_ABORT_CNT : Nat := 0x22000a
def Reg.FAB_VIOL_CNT : Nat := 0x22000b
def Reg.FAB_SNAP (k : Nat) : Nat := 0x220010 + k
def Reg.FAB_RTR_STAT (k : Nat) : Nat := 0x220040 + k
def Reg.FAB_RTR_FLITS (k : Nat) : Nat := 0x220050 + k
def Reg.FAB_RTR_HOLDS (k : Nat) : Nat := 0x220060 + k
def Reg.FAB_NI_STATUS (k : Nat) : Nat := 0x220080 + k
def Reg.FAB_NI_TIMEOUTS (k : Nat) : Nat := 0x2200a0 + k
def Reg.FAB_NI_LATE (k : Nat) : Nat := 0x2200c0 + k
def Reg.FAB_NI_HELD (k : Nat) : Nat := 0x2200e0 + k

/-! PRB — spec/10_fabric.md -/
def Reg.PRB_CTL : Nat := 0x221000
def Reg.PRB_STATUS : Nat := 0x221001
def Reg.PRB_TRACE_BASE : Nat := 0x221002
def Reg.PRB_TRACE_SIZE : Nat := 0x221003
def Reg.PRB_TRACE_WPTR : Nat := 0x221004
def Reg.PRB_TRACE_DROPS : Nat := 0x221005
def Reg.PRB_SNAP (k : Nat) : Nat := 0x221006 + k
def Reg.PRB_n_CTL (k : Nat) : Nat := 0x221010 + 0x10 * k
def Reg.PRB_n_SEL (k : Nat) : Nat := 0x221011 + 0x10 * k
def Reg.PRB_n_MATCH (k : Nat) : Nat := 0x221012 + 0x10 * k
def Reg.PRB_n_SRC_DST (k : Nat) : Nat := 0x221013 + 0x10 * k
def Reg.PRB_n_ADDR_LO (k : Nat) : Nat := 0x221014 + 0x10 * k
def Reg.PRB_n_ADDR_HI (k : Nat) : Nat := 0x221015 + 0x10 * k
def Reg.PRB_n_COUNT (k : Nat) : Nat := 0x221016 + 0x10 * k
def Reg.PRB_n_FLITS (k : Nat) : Nat := 0x221017 + 0x10 * k
def Reg.PRB_n_THRESH (k : Nat) : Nat := 0x221018 + 0x10 * k
def Reg.PRB_n_LAST_HDR0 (k : Nat) : Nat := 0x221019 + 0x10 * k
def Reg.PRB_n_LAST_HDR1 (k : Nat) : Nat := 0x22101a + 0x10 * k
def Reg.PRB_n_LAST_TICK (k : Nat) : Nat := 0x22101b + 0x10 * k
def Reg.PRB_n_STAT (k : Nat) : Nat := 0x22101c + 0x10 * k
def Reg.PRB_n_RSVD (k : Nat) : Nat := 0x22101d + 0x10 * k

/-! CUF — spec/11_cuff_link.md -/
def Reg.CUF_ID (n : Nat) : Nat := 0x228000 + 0x1000 * n
def Reg.CUF_CTL (n : Nat) : Nat := 0x228001 + 0x1000 * n
def Reg.CUF_STATUS (n : Nat) : Nat := 0x228002 + 0x1000 * n
def Reg.CUF_VCCFG (n : Nat) : Nat := 0x228003 + 0x1000 * n
def Reg.CUF_TIMERS (n : Nat) : Nat := 0x228004 + 0x1000 * n
def Reg.CUF_ERR_INFO (n : Nat) : Nat := 0x228005 + 0x1000 * n
def Reg.CUF_SEQ (n : Nat) : Nat := 0x228006 + 0x1000 * n
def Reg.CUF_TAGS (n : Nat) : Nat := 0x228007 + 0x1000 * n
def Reg.CUF_LAST_RETRAIN (n : Nat) : Nat := 0x228008 + 0x1000 * n
def Reg.CUF_LAST_DOWN (n : Nat) : Nat := 0x228009 + 0x1000 * n
def Reg.CUF_INJECT (n : Nat) : Nat := 0x22800a + 0x1000 * n
def Reg.CUF_RETRAIN_CNT (n : Nat) : Nat := 0x22800b + 0x1000 * n
def Reg.CUF_DOWN_CNT (n : Nat) : Nat := 0x22800c + 0x1000 * n
def Reg.CUF_TRAIN_FAIL_CNT (n : Nat) : Nat := 0x22800d + 0x1000 * n
def Reg.CUF_CRC_ERR_CNT (n : Nat) : Nat := 0x22800e + 0x1000 * n
def Reg.CUF_REPLAY_CNT (n : Nat) : Nat := 0x22800f + 0x1000 * n
def Reg.CUF_NAK_TX_CNT (n : Nat) : Nat := 0x228010 + 0x1000 * n
def Reg.CUF_NAK_RX_CNT (n : Nat) : Nat := 0x228011 + 0x1000 * n
def Reg.CUF_TX_PKT_CNT (n : Nat) : Nat := 0x228012 + 0x1000 * n
def Reg.CUF_RX_PKT_CNT (n : Nat) : Nat := 0x228013 + 0x1000 * n
def Reg.CUF_RESYNC_CNT (n : Nat) : Nat := 0x228014 + 0x1000 * n
def Reg.CUF_HELD_CNT (n : Nat) : Nat := 0x228015 + 0x1000 * n
def Reg.CUF_TIME_TX_LO (n : Nat) : Nat := 0x228016 + 0x1000 * n
def Reg.CUF_TIME_TX_HI (n : Nat) : Nat := 0x228017 + 0x1000 * n
def Reg.CUF_TIME_RX_LO (n : Nat) : Nat := 0x228018 + 0x1000 * n
def Reg.CUF_TIME_RX_HI (n : Nat) : Nat := 0x228019 + 0x1000 * n
def Reg.CUF_TIME_PEER_LO (n : Nat) : Nat := 0x22801a + 0x1000 * n
def Reg.CUF_TIME_PEER_HI (n : Nat) : Nat := 0x22801b + 0x1000 * n
def Reg.CUF_VIOL_HDR_LO (n : Nat) : Nat := 0x22801c + 0x1000 * n
def Reg.CUF_VIOL_HDR_HI (n : Nat) : Nat := 0x22801d + 0x1000 * n
def Reg.CUF_LINKDOWN_CNT (n : Nat) : Nat := 0x22801e + 0x1000 * n
def Reg.CUF_UNSEQ_CNT (n : Nat) : Nat := 0x22801f + 0x1000 * n
def Reg.CUF_WIN (n k : Nat) : Nat := 0x228020 + 0x1000 * n + k
def Reg.CUF_WIN_8 (n : Nat) : Nat := 0x228028 + 0x1000 * n
def Reg.CUF_CRED (n k : Nat) : Nat := 0x228030 + 0x1000 * n + k
def Reg.CUF_SHORT (n k : Nat) : Nat := 0x228040 + 0x1000 * n + k
def Reg.CUF_RXOCC (n k : Nat) : Nat := 0x228050 + 0x1000 * n + k
def Reg.CUF_TXSLOT (n k : Nat) : Nat := 0x228060 + 0x1000 * n + k
def Reg.CUF_RXSLOT (n k : Nat) : Nat := 0x228070 + 0x1000 * n + k
def Reg.CUF_VIOL_CNT (n k : Nat) : Nat := 0x228080 + 0x1000 * n + k
def Reg.CUF_LANE_STAT (n k : Nat) : Nat := 0x228090 + 0x1000 * n + 0x4 * k
def Reg.CUF_LANE_ERR (n k : Nat) : Nat := 0x228091 + 0x1000 * n + 0x4 * k
def Reg.CUF_LANE_SKEW (n k : Nat) : Nat := 0x228092 + 0x1000 * n + 0x4 * k
def Reg.CUF_LANE_BLOCKS (n k : Nat) : Nat := 0x228093 + 0x1000 * n + 0x4 * k
def Reg.CUF_OUTQ (n k : Nat) : Nat := 0x2280a0 + 0x1000 * n + k
def Reg.CUF_BALANCE_CNT (n : Nat) : Nat := 0x2280a9 + 0x1000 * n
def Reg.CUF_SNAP (n k : Nat) : Nat := 0x2280b0 + 0x1000 * n + k

/-! CNS — spec/12_consorts.md -/
def Reg.CNS_ID : Nat := 0x22a000
def Reg.CNS_CTL : Nat := 0x22a001
def Reg.CNS_STATUS : Nat := 0x22a002
def Reg.CNS_CFG : Nat := 0x22a003
def Reg.CNS_PEER (k : Nat) : Nat := 0x22a004 + k
def Reg.CNS_FINGERPRINT : Nat := 0x22a008
def Reg.CNS_IMAGE_VER : Nat := 0x22a009
def Reg.CNS_EPOCH : Nat := 0x22a00a
def Reg.CNS_SERVO_CTL : Nat := 0x22a00b
def Reg.CNS_OFFSET : Nat := 0x22a00c
def Reg.CNS_DELAY : Nat := 0x22a00d
def Reg.CNS_LAST_SYNC : Nat := 0x22a00e
def Reg.CNS_ERR_INFO : Nat := 0x22a00f
def Reg.CNS_EXPOSE (k : Nat) : Nat := 0x22a010 + k
def Reg.CNS_RX_HELLO (k : Nat) : Nat := 0x22a014 + k
def Reg.CNS_ROLE_CLASH_CNT : Nat := 0x22a01a
def Reg.CNS_FP_MISMATCH_CNT : Nat := 0x22a01b
def Reg.CNS_DRIFT_CNT : Nat := 0x22a01c
def Reg.CNS_TIME_APART_CNT : Nat := 0x22a01d
def Reg.CNS_STALE_MSG_CNT : Nat := 0x22a01e
def Reg.CNS_RELAY_CNT : Nat := 0x22a01f
def Reg.CNS_SNAP (k : Nat) : Nat := 0x22a020 + k

/-! SEG — spec/13_stream_engine.md -/
def Reg.SEG_ID : Nat := 0x230000
def Reg.SEG_CTL : Nat := 0x230001
def Reg.SEG_STATUS : Nat := 0x230002
def Reg.SEG_CMD : Nat := 0x230003
def Reg.SEG_CMD_ARG0 : Nat := 0x230004
def Reg.SEG_CMD_ARG1 : Nat := 0x230005
def Reg.SEG_CMD_RESULT : Nat := 0x230006
def Reg.SEG_POOL_LO : Nat := 0x230007
def Reg.SEG_POOL_HI : Nat := 0x230008
def Reg.SEG_FUNCS : Nat := 0x230009
def Reg.SEG_TAGS : Nat := 0x23000a
def Reg.SEG_ERR_INFO : Nat := 0x23000b
def Reg.SEG_ERR_ADDR : Nat := 0x23000c
def Reg.SEG_UNBOUND_CNT : Nat := 0x23000d
def Reg.SEG_LINES : Nat := 0x23000e
def Reg.SEG_STALE_CNT : Nat := 0x23000f
def Reg.SEG_RING_OWNER (k : Nat) : Nat := 0x230010 + k
def Reg.SEG_SNAP (k : Nat) : Nat := 0x230050 + k

/-! SEF — spec/13_stream_engine.md -/
def Reg.SEF_ID (n : Nat) : Nat := 0x240000 + 0x1000 * n
def Reg.SEF_CTL (n : Nat) : Nat := 0x240001 + 0x1000 * n
def Reg.SEF_STATUS (n : Nat) : Nat := 0x240002 + 0x1000 * n
def Reg.SEF_CFG (n : Nat) : Nat := 0x240003 + 0x1000 * n
def Reg.SEF_RINGS_LO (n : Nat) : Nat := 0x240004 + 0x1000 * n
def Reg.SEF_RINGS_HI (n : Nat) : Nat := 0x240005 + 0x1000 * n
def Reg.SEF_EVT (n : Nat) : Nat := 0x240006 + 0x1000 * n
def Reg.SEF_EVT_EN (n : Nat) : Nat := 0x240007 + 0x1000 * n
def Reg.SEF_WIN_A (n k : Nat) : Nat := 0x240008 + 0x1000 * n + 0x2 * k
def Reg.SEF_WIN_B (n k : Nat) : Nat := 0x240009 + 0x1000 * n + 0x2 * k
def Reg.SEF_STALE_CNT (n : Nat) : Nat := 0x240018 + 0x1000 * n
def Reg.SEF_DESC_ERR_CNT (n : Nat) : Nat := 0x240019 + 0x1000 * n
def Reg.SEF_FOREIGN_CNT (n : Nat) : Nat := 0x24001a + 0x1000 * n
def Reg.SEF_RESET_CNT (n : Nat) : Nat := 0x24001b + 0x1000 * n
def Reg.SEF_REQ_CNT (n : Nat) : Nat := 0x24001c + 0x1000 * n
def Reg.SEF_WORD_CNT (n : Nat) : Nat := 0x24001d + 0x1000 * n
def Reg.SEF_ERR_INFO (n : Nat) : Nat := 0x24001e + 0x1000 * n
def Reg.SEF_ERR_ADDR (n : Nat) : Nat := 0x24001f + 0x1000 * n

/-! RING — spec/13_stream_engine.md -/
def Reg.SEF_RING_CFG (n : Nat) : Nat := 0x400000 + 0x10 * n
def Reg.SEF_RING_CFG2 (n : Nat) : Nat := 0x400001 + 0x10 * n
def Reg.SEF_RING_BASE (n : Nat) : Nat := 0x400002 + 0x10 * n
def Reg.SEF_RING_HEAD (n : Nat) : Nat := 0x400003 + 0x10 * n
def Reg.SEF_RING_TAIL (n : Nat) : Nat := 0x400004 + 0x10 * n
def Reg.SEF_RING_STATUS (n : Nat) : Nat := 0x400005 + 0x10 * n
def Reg.SEF_RING_CMD (n : Nat) : Nat := 0x400006 + 0x10 * n
def Reg.SEF_RING_ERR_IDX (n : Nat) : Nat := 0x400007 + 0x10 * n
def Reg.SEF_RING_LAST_TS (n : Nat) : Nat := 0x400008 + 0x10 * n
def Reg.SEF_RING_DONE_CNT (n : Nat) : Nat := 0x400009 + 0x10 * n
def Reg.SEF_RING_RX_NOBUF_DROPS (n : Nat) : Nat := 0x40000a + 0x10 * n
def Reg.SEF_RING_RX_OTHER_DROPS (n : Nat) : Nat := 0x40000b + 0x10 * n
def Reg.SEF_RING_ABORT_CNT (n : Nat) : Nat := 0x40000c + 0x10 * n
def Reg.SEF_RING_HOLD_CNT (n : Nat) : Nat := 0x40000d + 0x10 * n
def Reg.SEF_RING_WORD_CNT (n : Nat) : Nat := 0x40000e + 0x10 * n
def Reg.SEF_RING_STARVE_CNT (n : Nat) : Nat := 0x40000f + 0x10 * n

/-! AUD — spec/15_audio_midi_small_ports.md -/
def Reg.AUD_CTL (n : Nat) : Nat := 0x260000 + 0x40 * n
def Reg.AUD_FMT (n : Nat) : Nat := 0x260001 + 0x40 * n
def Reg.AUD_SLOT_OUT (n : Nat) : Nat := 0x260002 + 0x40 * n
def Reg.AUD_SLOT_IN (n : Nat) : Nat := 0x260003 + 0x40 * n
def Reg.AUD_STATUS (n : Nat) : Nat := 0x260004 + 0x40 * n
def Reg.AUD_EVT_EN (n : Nat) : Nat := 0x260005 + 0x40 * n
def Reg.AUD_FRAME_CNT (n : Nat) : Nat := 0x260006 + 0x40 * n
def Reg.AUD_START_TICK (n : Nat) : Nat := 0x260007 + 0x40 * n
def Reg.AUD_LAST_EDGE (n : Nat) : Nat := 0x260008 + 0x40 * n
def Reg.AUD_PERIOD (n : Nat) : Nat := 0x260009 + 0x40 * n
def Reg.AUD_OUT_LEVEL (n : Nat) : Nat := 0x26000a + 0x40 * n
def Reg.AUD_IN_LEVEL (n : Nat) : Nat := 0x26000b + 0x40 * n
def Reg.AUD_UNDERRUN_CNT (n : Nat) : Nat := 0x26000c + 0x40 * n
def Reg.AUD_OVERRUN_CNT (n : Nat) : Nat := 0x26000d + 0x40 * n
def Reg.AUD_FRAME_ERR_CNT (n : Nat) : Nat := 0x26000e + 0x40 * n
def Reg.AUD_CLK_LOST_CNT (n : Nat) : Nat := 0x26000f + 0x40 * n
def Reg.AUD_SNAP (n k : Nat) : Nat := 0x260010 + 0x40 * n + k
def Reg.AUD_OUT_WORD_CNT (n : Nat) : Nat := 0x260020 + 0x40 * n
def Reg.AUD_IN_WORD_CNT (n : Nat) : Nat := 0x260021 + 0x40 * n
def Reg.AUD_UNDER_TICK (n : Nat) : Nat := 0x260022 + 0x40 * n
def Reg.AUD_OVER_TICK (n : Nat) : Nat := 0x260023 + 0x40 * n
def Reg.AUD_ERR_TICK (n : Nat) : Nat := 0x260024 + 0x40 * n
def Reg.AUD_INJECT (n : Nat) : Nat := 0x260025 + 0x40 * n
def Reg.AUD_MUTE_TICK (n : Nat) : Nat := 0x260026 + 0x40 * n
def Reg.AUD_SHED_MUTE_CNT (n : Nat) : Nat := 0x260027 + 0x40 * n

/-! MID — spec/15_audio_midi_small_ports.md -/
def Reg.MID_EVT : Nat := 0x261000
def Reg.MID_EVT_EN : Nat := 0x261001
def Reg.MID_IN_STAT (k : Nat) : Nat := 0x261002 + 0x5 * k
def Reg.MID_IN_OCTET_CNT (k : Nat) : Nat := 0x261003 + 0x5 * k
def Reg.MID_IN_DROP_CNT (k : Nat) : Nat := 0x261004 + 0x5 * k
def Reg.MID_IN_FE_CNT (k : Nat) : Nat := 0x261005 + 0x5 * k
def Reg.MID_IN_BREAK_CNT (k : Nat) : Nat := 0x261006 + 0x5 * k
def Reg.MID_OUT_STAT (k : Nat) : Nat := 0x261016 + 0x4 * k
def Reg.MID_OUT_OCTET_CNT (k : Nat) : Nat := 0x261017 + 0x4 * k
def Reg.MID_OUT_LATE_CNT (k : Nat) : Nat := 0x261018 + 0x4 * k
def Reg.MID_OUT_RSVD_CNT (k : Nat) : Nat := 0x261019 + 0x4 * k
def Reg.MID_SNAP (k : Nat) : Nat := 0x261026 + k

/-! I2C — spec/15_audio_midi_small_ports.md -/
def Reg.I2C_CTL (n : Nat) : Nat := 0x262000 + 0x10 * n
def Reg.I2C_STATUS (n : Nat) : Nat := 0x262001 + 0x10 * n
def Reg.I2C_CMD (n : Nat) : Nat := 0x262002 + 0x10 * n
def Reg.I2C_RXDATA (n : Nat) : Nat := 0x262003 + 0x10 * n
def Reg.I2C_CMD_LEVEL (n : Nat) : Nat := 0x262004 + 0x10 * n
def Reg.I2C_RX_LEVEL (n : Nat) : Nat := 0x262005 + 0x10 * n
def Reg.I2C_EVT_EN (n : Nat) : Nat := 0x262006 + 0x10 * n
def Reg.I2C_TIMEOUT (n : Nat) : Nat := 0x262007 + 0x10 * n
def Reg.I2C_NACK_CNT (n : Nat) : Nat := 0x262008 + 0x10 * n
def Reg.I2C_BUS_ERR_CNT (n : Nat) : Nat := 0x262009 + 0x10 * n
def Reg.I2C_STRETCH_CNT (n : Nat) : Nat := 0x26200a + 0x10 * n
def Reg.I2C_XFER_CNT (n : Nat) : Nat := 0x26200b + 0x10 * n
def Reg.I2C_RX_OCTET_CNT (n : Nat) : Nat := 0x26200c + 0x10 * n
def Reg.I2C_SNAP (n k : Nat) : Nat := 0x26200d + 0x10 * n + k

/-! QSPI — spec/15_audio_midi_small_ports.md -/
def Reg.QSPI_CTL : Nat := 0x263000
def Reg.QSPI_STATUS : Nat := 0x263001
def Reg.QSPI_EVT_EN : Nat := 0x263002
def Reg.QSPI_CMD : Nat := 0x263003
def Reg.QSPI_ADDR : Nat := 0x263004
def Reg.QSPI_XFER_CNT : Nat := 0x263005
def Reg.QSPI_ERR_CNT : Nat := 0x263006
def Reg.QSPI_CS_HOLD : Nat := 0x263007
def Reg.QSPI_BUF (k : Nat) : Nat := 0x263008 + k

/-! EMC — spec/15_audio_midi_small_ports.md -/
def Reg.EMC_CTL : Nat := 0x264000
def Reg.EMC_CLK : Nat := 0x264001
def Reg.EMC_STATUS : Nat := 0x264002
def Reg.EMC_EVT_EN : Nat := 0x264003
def Reg.EMC_CMD : Nat := 0x264004
def Reg.EMC_ARG : Nat := 0x264005
def Reg.EMC_RESP (k : Nat) : Nat := 0x264006 + k
def Reg.EMC_BLKCFG : Nat := 0x26400a
def Reg.EMC_DATA : Nat := 0x26400b
def Reg.EMC_LEVEL : Nat := 0x26400c
def Reg.EMC_TUNE : Nat := 0x26400d
def Reg.EMC_TIMEOUT : Nat := 0x26400e
def Reg.EMC_INJECT : Nat := 0x26400f
def Reg.EMC_CMD_CNT : Nat := 0x264010
def Reg.EMC_BLK_CNT : Nat := 0x264011
def Reg.EMC_CMD_CRC_CNT : Nat := 0x264012
def Reg.EMC_DATA_CRC_CNT : Nat := 0x264013
def Reg.EMC_CMD_TO_CNT : Nat := 0x264014
def Reg.EMC_DATA_TO_CNT : Nat := 0x264015
def Reg.EMC_TUNE_CNT : Nat := 0x264016
def Reg.EMC_CLK_STOP_CNT : Nat := 0x264017
def Reg.EMC_SNAP (k : Nat) : Nat := 0x264018 + k

/-! GPIO — spec/15_audio_midi_small_ports.md -/
def Reg.GPIO_IN_LO : Nat := 0x265000
def Reg.GPIO_IN_HI : Nat := 0x265001
def Reg.GPIO_OUT_LO : Nat := 0x265002
def Reg.GPIO_OUT_HI : Nat := 0x265003
def Reg.GPIO_OUT_SET_LO : Nat := 0x265004
def Reg.GPIO_OUT_SET_HI : Nat := 0x265005
def Reg.GPIO_OUT_CLR_LO : Nat := 0x265006
def Reg.GPIO_OUT_CLR_HI : Nat := 0x265007
def Reg.GPIO_DIR_LO : Nat := 0x265008
def Reg.GPIO_DIR_HI : Nat := 0x265009
def Reg.GPIO_PULL_UP_LO : Nat := 0x26500a
def Reg.GPIO_PULL_UP_HI : Nat := 0x26500b
def Reg.GPIO_PULL_DN_LO : Nat := 0x26500c
def Reg.GPIO_PULL_DN_HI : Nat := 0x26500d
def Reg.GPIO_OPEN_DRAIN_LO : Nat := 0x26500e
def Reg.GPIO_OPEN_DRAIN_HI : Nat := 0x26500f
def Reg.GPIO_DRIVE_LO : Nat := 0x265010
def Reg.GPIO_DRIVE_HI : Nat := 0x265011
def Reg.GPIO_DEB_EN_LO : Nat := 0x265012
def Reg.GPIO_DEB_EN_HI : Nat := 0x265013
def Reg.GPIO_IRQ_RISE_LO : Nat := 0x265014
def Reg.GPIO_IRQ_RISE_HI : Nat := 0x265015
def Reg.GPIO_IRQ_FALL_LO : Nat := 0x265016
def Reg.GPIO_IRQ_FALL_HI : Nat := 0x265017
def Reg.GPIO_IRQ_STAT_LO : Nat := 0x265018
def Reg.GPIO_IRQ_STAT_HI : Nat := 0x265019
def Reg.GPIO_EVT_EN_LO : Nat := 0x26501a
def Reg.GPIO_EVT_EN_HI : Nat := 0x26501b
def Reg.GPIO_LAST_LINE : Nat := 0x26501c
def Reg.GPIO_LAST_TICK : Nat := 0x26501d
def Reg.GPIO_DEB_TIME : Nat := 0x26501e
def Reg.GPIO_EVT_CNT : Nat := 0x26501f
def Reg.GPIO_SNAP (k : Nat) : Nat := 0x265020 + k

/-! ETH — spec/16_ethernet_usb.md -/
def Reg.ETH_ID : Nat := 0x268000
def Reg.ETH_CTL : Nat := 0x268001
def Reg.ETH_STATUS : Nat := 0x268002
def Reg.ETH_EVT_EN : Nat := 0x268003
def Reg.ETH_MAC_LO : Nat := 0x268004
def Reg.ETH_MAC_HI : Nat := 0x268005
def Reg.ETH_HASH_LO : Nat := 0x268006
def Reg.ETH_HASH_HI : Nat := 0x268007
def Reg.ETH_MAXLEN : Nat := 0x268008
def Reg.ETH_CLS : Nat := 0x268009
def Reg.ETH_PAUSE : Nat := 0x26800a
def Reg.ETH_MDIO_CMD : Nat := 0x26800b
def Reg.ETH_MDIO_DATA : Nat := 0x26800c
def Reg.ETH_ERR_INFO : Nat := 0x26800d
def Reg.ETH_INJECT : Nat := 0x26800e
def Reg.ETH_TS_LAT : Nat := 0x26800f
def Reg.ETH_SMAP_TICK_LO : Nat := 0x268010
def Reg.ETH_SMAP_TICK_HI : Nat := 0x268011
def Reg.ETH_SMAP_NS_LO : Nat := 0x268012
def Reg.ETH_SMAP_NS_HI : Nat := 0x268013
def Reg.ETH_SMAP_SCALE : Nat := 0x268014
def Reg.ETH_SMAP_COMMIT : Nat := 0x268015
def Reg.ETH_CBS_SLOPE (k : Nat) : Nat := 0x268016 + 0x4 * k
def Reg.ETH_CBS_HI_CREDIT (k : Nat) : Nat := 0x268017 + 0x4 * k
def Reg.ETH_CBS_LO_CREDIT (k : Nat) : Nat := 0x268018 + 0x4 * k
def Reg.ETH_CBS_CREDIT (k : Nat) : Nat := 0x268019 + 0x4 * k
def Reg.ETH_TXQ_STAT : Nat := 0x26801e
def Reg.ETH_RXQ_STAT : Nat := 0x26801f
def Reg.ETH_TX_FRAME_CNT : Nat := 0x268020
def Reg.ETH_TX_OCTET_CNT : Nat := 0x268021
def Reg.ETH_RX_FRAME_CNT : Nat := 0x268022
def Reg.ETH_RX_OCTET_CNT : Nat := 0x268023
def Reg.ETH_RX_FCS_ERR_CNT : Nat := 0x268024
def Reg.ETH_RX_LEN_ERR_CNT : Nat := 0x268025
def Reg.ETH_RX_FILTER_CNT : Nat := 0x268026
def Reg.ETH_RX_FIFO_DROP_CNT : Nat := 0x268027
def Reg.ETH_PAUSE_RX_CNT : Nat := 0x268028
def Reg.ETH_PAUSE_ZERO_CNT : Nat := 0x268029
def Reg.ETH_CTRL_DROP_CNT : Nat := 0x26802a
def Reg.ETH_TX_LEN_ERR_CNT : Nat := 0x26802b
def Reg.ETH_TX_ABORT_CNT : Nat := 0x26802c
def Reg.ETH_SHED_DROP_CNT : Nat := 0x26802d
def Reg.ETH_PAUSED_TIME_CNT : Nat := 0x26802e
def Reg.ETH_AAF_CLS_DROP_CNT : Nat := 0x26802f
def Reg.ETH_TXQ_FRAME_CNT (k : Nat) : Nat := 0x268040 + 0x4 * k
def Reg.ETH_TXQ_OCTET_CNT (k : Nat) : Nat := 0x268041 + 0x4 * k
def Reg.ETH_TXQ_PAUSED_CNT (k : Nat) : Nat := 0x268042 + 0x4 * k
def Reg.ETH_TXQ_LAST_TS (k : Nat) : Nat := 0x268043 + 0x4 * k
def Reg.ETH_RXQ_FRAME_CNT (k : Nat) : Nat := 0x268060 + 0x4 * k
def Reg.ETH_RXQ_OCTET_CNT (k : Nat) : Nat := 0x268061 + 0x4 * k
def Reg.ETH_RXQ_FIFO_DROP_CNT (k : Nat) : Nat := 0x268062 + 0x4 * k
def Reg.ETH_RXQ_LAST_TS (k : Nat) : Nat := 0x268063 + 0x4 * k
def Reg.ETH_AAF_CFG (k : Nat) : Nat := 0x268080 + 0x8 * k
def Reg.ETH_AAF_DA_LO (k : Nat) : Nat := 0x268081 + 0x8 * k
def Reg.ETH_AAF_DA_HI (k : Nat) : Nat := 0x268082 + 0x8 * k
def Reg.ETH_AAF_ID_LO (k : Nat) : Nat := 0x268083 + 0x8 * k
def Reg.ETH_AAF_ID_HI (k : Nat) : Nat := 0x268084 + 0x8 * k
def Reg.ETH_AAF_TRANSIT (k : Nat) : Nat := 0x268085 + 0x8 * k
def Reg.ETH_AAF_STAT (k : Nat) : Nat := 0x268086 + 0x8 * k
def Reg.ETH_AAF_PT_MISS_CNT (k : Nat) : Nat := 0x268087 + 0x8 * k
def Reg.ETH_SNAP (k : Nat) : Nat := 0x268100 + k

/-! USB — spec/16_ethernet_usb.md -/
def Reg.USB_ID : Nat := 0x269000
def Reg.USB_CTL : Nat := 0x269001
def Reg.USB_STATUS : Nat := 0x269002
def Reg.USB_EVT_EN : Nat := 0x269003
def Reg.USB_ADDR : Nat := 0x269004
def Reg.USB_FRAME : Nat := 0x269005
def Reg.USB_SOF_TICK : Nat := 0x269006
def Reg.USB_EP0_CTL : Nat := 0x269007
def Reg.USB_EP0_STATUS : Nat := 0x269008
def Reg.USB_EP0_SETUP_0 : Nat := 0x269009
def Reg.USB_EP0_SETUP_1 : Nat := 0x26900a
def Reg.USB_EP0_LEN : Nat := 0x26900b
def Reg.USB_TEST : Nat := 0x26900c
def Reg.USB_ERR_INFO : Nat := 0x26900d
def Reg.USB_PHY_TUNE : Nat := 0x26900e
def Reg.USB_INJECT : Nat := 0x26900f
def Reg.USB_EP0_BUF (k : Nat) : Nat := 0x269010 + k
def Reg.USB_FB_CTL (k : Nat) : Nat := 0x269020 + 0x4 * k
def Reg.USB_FB_VALUE (k : Nat) : Nat := 0x269021 + 0x4 * k
def Reg.USB_FB_ADJ (k : Nat) : Nat := 0x269022 + 0x4 * k
def Reg.USB_FB_CNT (k : Nat) : Nat := 0x269023 + 0x4 * k
def Reg.USB_SOF_CNT : Nat := 0x269028
def Reg.USB_RESET_CNT : Nat := 0x269029
def Reg.USB_SUSPEND_CNT : Nat := 0x26902a
def Reg.USB_RESUME_CNT : Nat := 0x26902b
def Reg.USB_SETUP_CNT : Nat := 0x26902c
def Reg.USB_CRC_ERR_CNT : Nat := 0x26902d
def Reg.USB_PID_ERR_CNT : Nat := 0x26902e
def Reg.USB_BITSTUFF_ERR_CNT : Nat := 0x26902f
def Reg.USB_TIMEOUT_CNT : Nat := 0x269030
def Reg.USB_BABBLE_CNT : Nat := 0x269031
def Reg.USB_SOF_MISS_CNT : Nat := 0x269032
def Reg.USB_SHED_NAK_CNT : Nat := 0x269033
def Reg.USB_RX_PKT_CNT : Nat := 0x269034
def Reg.USB_TX_PKT_CNT : Nat := 0x269035
def Reg.USB_DISCONNECT_CNT : Nat := 0x269036
def Reg.USB_TOGGLE_ERR_CNT : Nat := 0x269037
def Reg.USB_EPIN_CFG (k : Nat) : Nat := 0x269040 + 0x8 * k
def Reg.USB_EPIN_STAT (k : Nat) : Nat := 0x269041 + 0x8 * k
def Reg.USB_EPIN_XFER_MAX (k : Nat) : Nat := 0x269042 + 0x8 * k
def Reg.USB_EPIN_PKT_CNT (k : Nat) : Nat := 0x269043 + 0x8 * k
def Reg.USB_EPIN_OCTET_CNT (k : Nat) : Nat := 0x269044 + 0x8 * k
def Reg.USB_EPIN_NAK_CNT (k : Nat) : Nat := 0x269045 + 0x8 * k
def Reg.USB_EPIN_DROP_CNT (k : Nat) : Nat := 0x269046 + 0x8 * k
def Reg.USB_EPIN_LAST_TICK (k : Nat) : Nat := 0x269047 + 0x8 * k
def Reg.USB_EPOUT_CFG (k : Nat) : Nat := 0x269080 + 0x8 * k
def Reg.USB_EPOUT_STAT (k : Nat) : Nat := 0x269081 + 0x8 * k
def Reg.USB_EPOUT_XFER_MAX (k : Nat) : Nat := 0x269082 + 0x8 * k
def Reg.USB_EPOUT_PKT_CNT (k : Nat) : Nat := 0x269083 + 0x8 * k
def Reg.USB_EPOUT_OCTET_CNT (k : Nat) : Nat := 0x269084 + 0x8 * k
def Reg.USB_EPOUT_NAK_CNT (k : Nat) : Nat := 0x269085 + 0x8 * k
def Reg.USB_EPOUT_DROP_CNT (k : Nat) : Nat := 0x269086 + 0x8 * k
def Reg.USB_EPOUT_LAST_TICK (k : Nat) : Nat := 0x269087 + 0x8 * k
def Reg.USB_SNAP (k : Nat) : Nat := 0x2690c0 + k

/-! FGT — spec/17_fingertip_keep.md -/
def Reg.FGT_ID : Nat := 0x270000
def Reg.FGT_CTL : Nat := 0x270001
def Reg.FGT_STATUS : Nat := 0x270002
def Reg.FGT_EVT_EN : Nat := 0x270003
def Reg.FGT_SCAN : Nat := 0x270004
def Reg.FGT_KEYS : Nat := 0x270005
def Reg.FGT_CAL_SEL : Nat := 0x270006
def Reg.FGT_CAL_DATA : Nat := 0x270007
def Reg.FGT_QUEUE : Nat := 0x270008
def Reg.FGT_ERR_INFO : Nat := 0x270009
def Reg.FGT_START_TICK : Nat := 0x27000a
def Reg.FGT_LAST_TICK : Nat := 0x27000b
def Reg.FGT_HOT : Nat := 0x27000c
def Reg.FGT_INJECT : Nat := 0x27000d
def Reg.FGT_AIN_EN : Nat := 0x27000e
def Reg.FGT_CAL_HDR : Nat := 0x27000f
def Reg.FGT_SCAN_CNT : Nat := 0x270010
def Reg.FGT_NOTE_ON_CNT : Nat := 0x270011
def Reg.FGT_NOTE_OFF_CNT : Nat := 0x270012
def Reg.FGT_RESTRIKE_CNT : Nat := 0x270013
def Reg.FGT_HELD_CNT : Nat := 0x270014
def Reg.FGT_SWITCH_CNT : Nat := 0x270015
def Reg.FGT_AIN_EVT_CNT : Nat := 0x270016
def Reg.FGT_AIN_COALESCE_CNT : Nat := 0x270017
def Reg.FGT_DROP_CNT : Nat := 0x270018
def Reg.FGT_SEQ_ERR_CNT : Nat := 0x270019
def Reg.FGT_CHASE_CNT : Nat := 0x27001a
def Reg.FGT_RELOAD_CNT : Nat := 0x27001b
def Reg.FGT_CAL_FALLBACK_CNT : Nat := 0x27001c
def Reg.FGT_AIN_DISCARD_CNT : Nat := 0x27001d
def Reg.FGT_HOLD_CNT : Nat := 0x27001e
def Reg.FGT_EVENT_CNT : Nat := 0x27001f
def Reg.FGT_CONTACT (k : Nat) : Nat := 0x270020 + k
def Reg.FGT_KEY_STATE (k : Nat) : Nat := 0x270028 + k
def Reg.FGT_AIN_CFG (k : Nat) : Nat := 0x270040 + 0x2 * k
def Reg.FGT_AIN_VAL (k : Nat) : Nat := 0x270041 + 0x2 * k
def Reg.FGT_KEY_LAST (k : Nat) : Nat := 0x270080 + k
def Reg.FGT_SNAP (k : Nat) : Nat := 0x270100 + k

/-! KEP — spec/17_fingertip_keep.md -/
def Reg.KEP_ID : Nat := 0x271000
def Reg.KEP_STATUS : Nat := 0x271001
def Reg.KEP_EVT_EN : Nat := 0x271002
def Reg.KEP_CMD : Nat := 0x271003
def Reg.KEP_CMD_RESULT : Nat := 0x271004
def Reg.KEP_ERR_ADDR : Nat := 0x271005
def Reg.KEP_ERR_INFO : Nat := 0x271006
def Reg.KEP_INJECT : Nat := 0x271007
def Reg.KEP_WP (k : Nat) : Nat := 0x271008 + k
def Reg.KEP_WP_5 : Nat := 0x27100d
def Reg.KEP_WR_CNT : Nat := 0x27100e
def Reg.KEP_RD_CNT : Nat := 0x27100f
def Reg.KEP_PROT_CNT : Nat := 0x271010
def Reg.KEP_CE_CNT : Nat := 0x271011
def Reg.KEP_UE_CNT : Nat := 0x271012
def Reg.KEP_SNAP (k : Nat) : Nat := 0x271013 + k

/-! PAIR — spec/06_paced_mode_glove_pairs.md -/
def Reg.PAIR_CTL (n : Nat) : Nat := 0x278000 + 0x20 * n
def Reg.PAIR_STAT (n : Nat) : Nat := 0x278001 + 0x20 * n
def Reg.PAIR_CANARY (n : Nat) : Nat := 0x278002 + 0x20 * n
def Reg.PAIR_INJECT (n : Nat) : Nat := 0x278003 + 0x20 * n
def Reg.PAIR_GROUPS (n : Nat) : Nat := 0x278004 + 0x20 * n
def Reg.PAIR_CANARY_CNT (n : Nat) : Nat := 0x278005 + 0x20 * n
def Reg.PAIR_SELF_CNT (n : Nat) : Nat := 0x278006 + 0x20 * n
def Reg.PAIR_MISMATCH_CNT (n : Nat) : Nat := 0x278007 + 0x20 * n
def Reg.PAIR_FAULT_GROUP (n : Nat) : Nat := 0x278008 + 0x20 * n
def Reg.PAIR_FAULT_EPC (n : Nat) : Nat := 0x278009 + 0x20 * n
def Reg.PAIR_LEAD_SIG (n : Nat) : Nat := 0x27800a + 0x20 * n
def Reg.PAIR_TRAIL_SIG (n : Nat) : Nat := 0x27800b + 0x20 * n
def Reg.PAIR_FAULT_ADDR (n : Nat) : Nat := 0x27800c + 0x20 * n
def Reg.PAIR_LEAD_DATA (n : Nat) : Nat := 0x27800d + 0x20 * n
def Reg.PAIR_TRAIL_DATA (n : Nat) : Nat := 0x27800e + 0x20 * n
def Reg.PAIR_HIGH_WATER (n : Nat) : Nat := 0x27800f + 0x20 * n
def Reg.PAIR_SNAP (n k : Nat) : Nat := 0x278010 + 0x20 * n + k

/-! HAT — spec/20_hatcheck_debug_errors.md -/
def Reg.HAT_ID : Nat := 0x279000
def Reg.HAT_CTL : Nat := 0x279001
def Reg.HAT_STATUS : Nat := 0x279002
def Reg.HAT_CAUSE_INFO : Nat := 0x279003
def Reg.HAT_LATCH_TICK_LO : Nat := 0x279004
def Reg.HAT_LATCH_TICK_HI : Nat := 0x279005
def Reg.HAT_MISSED_CNT : Nat := 0x279006
def Reg.HAT_LATCH_CNT : Nat := 0x279007
def Reg.HAT_PIN : Nat := 0x279008
def Reg.HAT_DELAY : Nat := 0x279009
def Reg.HAT_VALID_LO : Nat := 0x27900a
def Reg.HAT_VALID_HI : Nat := 0x27900b
def Reg.HAT_TRIG_REC (k : Nat) : Nat := 0x27900c + k
def Reg.HAT_KIND_EN (k : Nat) : Nat := 0x279010 + k
def Reg.HAT_KIND_EN_6 : Nat := 0x279016
def Reg.HAT_HIST_PTR : Nat := 0x279017
def Reg.HAT_HIST_TICK (k : Nat) : Nat := 0x279018 + 0x2 * k
def Reg.HAT_HIST_CAUSE (k : Nat) : Nat := 0x279019 + 0x2 * k

/-! DBG — spec/20_hatcheck_debug_errors.md -/
def Reg.DBG_ID : Nat := 0x27a000
def Reg.DBG_STATUS : Nat := 0x27a001
def Reg.DBG_CORE_HALT : Nat := 0x27a002
def Reg.DBG_CORE_RESUME : Nat := 0x27a003
def Reg.DBG_CORE_STEP : Nat := 0x27a004
def Reg.DBG_CORE_STAT : Nat := 0x27a005
def Reg.DBG_JTAG_ADDR : Nat := 0x27a006
def Reg.DBG_ACCESS_CNT : Nat := 0x27a007
def Reg.DBG_LOCKED_CNT : Nat := 0x27a008
def Reg.DBG_MBOX_IN_STAT : Nat := 0x27a009
def Reg.DBG_MBOX_OUT_STAT : Nat := 0x27a00a
def Reg.DBG_IDCODE : Nat := 0x27a00b
def Reg.DBG_EVT : Nat := 0x27a00c
def Reg.DBG_EVT_EN : Nat := 0x27a00d
def Reg.DBG_LAST_OP : Nat := 0x27a00e
def Reg.DBG_STEP_CNT : Nat := 0x27a00f
def Reg.DBG_CORE_PC (k : Nat) : Nat := 0x27a010 + k
def Reg.DBG_CORE_HALT_CNT (k : Nat) : Nat := 0x27a018 + k
def Reg.DBG_MBOX_IN (k : Nat) : Nat := 0x27a020 + k
def Reg.DBG_MBOX_OUT (k : Nat) : Nat := 0x27a060 + k

/-! HPT — spec/15_audio_midi_small_ports.md -/
def Reg.HPT_CTL : Nat := 0x27f000
def Reg.HPT_STATUS : Nat := 0x27f001
def Reg.HPT_EVT_EN : Nat := 0x27f002
def Reg.HPT_REQ_CNT : Nat := 0x27f003
def Reg.HPT_CRC_ERR_CNT : Nat := 0x27f004
def Reg.HPT_FRAME_ERR_CNT : Nat := 0x27f005
def Reg.HPT_OVF_CNT : Nat := 0x27f006
def Reg.HPT_RSP_CNT : Nat := 0x27f007
def Reg.HPT_LAST_TICK : Nat := 0x27f008
def Reg.HPT_LAST_REQ (k : Nat) : Nat := 0x27f009 + k
def Reg.HPT_SNAP (k : Nat) : Nat := 0x27f010 + k

end Sys2Proof.Machine
end

