-- ==== Sys2Proof/Machine/RegTable.lean ====
section
/-!
DEFINITION. The register tables of the spec as data (R17, R18, R692): for every block its pages, for every register its offset in
the block, and for every field its bits, access code, reset value and the values it accepts (R695). Each chapter's section
"Registers" is the source of its block's rows.
-/
namespace Sys2Proof.Machine

/-- Access codes of R18. -/
inductive Acc where
  | ro | rw | wo | w1c | w1s | lk
deriving DecidableEq, Repr

/-- The values a field accepts: every value, a range, or two ranges (every other value is reserved, R695). -/
inductive Chk where
  | any
  | range (lo hi : Nat)
  | two (lo hi lo2 hi2 : Nat)
deriving DecidableEq, Repr

/-- A field of a register table row: bits [hi:lo], access code, reset value, accepted values. -/
structure Fld where
  hi : Nat
  lo : Nat
  name : String
  acc : Acc
  reset : Nat
  chk : Chk
deriving DecidableEq, Repr

/-- A row of a register table: `count` registers at `off`, `off + stride`, … -/
structure RegRow where
  off : Nat
  count : Nat
  stride : Nat
  name : String
  fields : List Fld
deriving DecidableEq, Repr

/-- A block: `count` copies of its registers, the k-th at `base + k * stride`. -/
structure Blk where
  name : String
  base : Nat
  stride : Nat
  count : Nat
  rows : List RegRow
deriving DecidableEq, Repr

/-- Shorthands of the tables: a field that accepts every value; a whole-word field; a 40-bit RW count (R699). -/
def fd (hi lo : Nat) (n : String) (a : Acc) (r : Nat) : Fld := ⟨hi, lo, n, a, r, .any⟩
def whole (a : Acc) : List Fld := [⟨39, 0, "VALUE", a, 0, .any⟩]
def countW : List Fld := [⟨39, 0, "COUNT", .rw, 0, .any⟩]

def rowsSys : List RegRow :=
  [⟨0x0, 1, 1, "SYS_ID", [fd 31 0 "IDCODE" .ro 730072179]⟩,
   ⟨0x1, 1, 1, "SYS_REV", [fd 7 4 "STEP" .ro 2, fd 3 0 "METAL" .ro 1]⟩,
   ⟨0x2, 2, 1, "SYS_UID", whole .ro⟩,
   ⟨0x4, 1, 1, "SYS_CAPS", [fd 29 27 "CONSORT_MAX" .ro 4, fd 26 23 "AUDIO_PORTS" .ro 8, fd 22 18 "FUNCTIONS" .ro 16, fd 17 11 "RINGS" .ro 64, fd 10 9 "CUFF_PORTS" .ro 2, fd 8 7 "DMCS" .ro 2, fd 6 4 "SLICES" .ro 4, fd 3 0 "CORES" .ro 8]⟩,
   ⟨0x5, 1, 1, "SYS_REGCOUNT", [fd 12 0 "COUNT" .ro 6444]⟩,
   ⟨0x6, 1, 1, "SYS_STATUS", [fd 1 1 "RSVD_MORE" .w1c 0, fd 0 0 "RSVD_WRITE" .w1c 0]⟩,
   ⟨0x7, 1, 1, "SYS_RSVD_ADDR", [fd 38 34 "INITIATOR" .ro 0, fd 33 0 "PA" .ro 0]⟩,
   ⟨0x8, 1, 1, "SYS_RSVD_DATA", whole .ro⟩,
   ⟨0x9, 1, 1, "SYS_RSVD_CNT", countW⟩,
   ⟨0xa, 4, 1, "SYS_PINMUX", [fd 39 36 "F9" .lk 0, fd 35 32 "F8" .lk 0, fd 31 28 "F7" .lk 0, fd 27 24 "F6" .lk 0, fd 23 20 "F5" .lk 0, fd 19 16 "F4" .lk 0, fd 15 12 "F3" .lk 0, fd 11 8 "F2" .lk 0, fd 7 4 "F1" .lk 0, fd 3 0 "F0" .lk 0]⟩,
   ⟨0xe, 1, 1, "SYS_PINMUX_4", [⟨31, 28, "F7", .lk, 0, .range 0 0⟩, ⟨27, 24, "F6", .lk, 0, .range 0 0⟩, ⟨23, 20, "F5", .lk, 0, .range 0 0⟩, ⟨19, 16, "F4", .lk, 0, .range 0 0⟩, ⟨15, 12, "F3", .lk, 0, .range 0 0⟩, ⟨11, 8, "F2", .lk, 0, .range 0 0⟩, ⟨7, 4, "F1", .lk, 0, .range 0 0⟩, ⟨3, 0, "F0", .lk, 0, .range 0 0⟩]⟩,
   ⟨0xf, 1, 1, "SYS_STATUS_PINS", [fd 2 0 "CODE" .ro 0]⟩,
   ⟨0x10, 1, 1, "SYS_MAP_STAGE", [fd 5 0 "UNITS" .ro 0]⟩,
   ⟨0x11, 1, 1, "SYS_MAP_DRAM", [⟨3, 0, "GIW", .lk, 0, .range 0 8⟩]⟩,
   ⟨0x12, 14, 1, "SYS_SCRATCH", whole .rw⟩,
   ⟨0x20, 1, 1, "SYS_ERRLOG_STAT", [fd 12 12 "EVT_EN" .rw 0, fd 5 5 "OVERFLOW" .w1c 0, fd 4 0 "COUNT" .ro 0]⟩,
   ⟨0x21, 4, 1, "SYS_ERRLOG_TOP", whole .ro⟩,
   ⟨0x25, 1, 1, "SYS_ERRLOG_POP", [fd 0 0 "POP" .wo 0]⟩,
   ⟨0x26, 1, 1, "SYS_ERRLOG_LOST_CNT", countW⟩,
   ⟨0x27, 1, 1, "SYS_ERRLOG_TOTAL_CNT", countW⟩,
   ⟨0x28, 13, 1, "SYS_PAGE_MAP", whole .ro⟩,
   ⟨0x35, 11, 1, "SYS_SCRATCH_14", whole .rw⟩]

/-- SYS: spec/21_register_map.md, section Registers. -/
def blkSys : Blk := ⟨"SYS", 0x200000, 0x1000, 1, rowsSys⟩

def rowsBsq : List RegRow :=
  [⟨0x0, 1, 1, "BSQ_ID", [fd 7 0 "REV" .ro 33]⟩,
   ⟨0x1, 1, 1, "BSQ_STATUS", [fd 10 10 "SEALED" .ro 0, fd 9 7 "STATE" .ro 0, fd 6 5 "SOURCE" .ro 3, fd 4 4 "SLOT" .ro 0, fd 3 0 "CODE" .ro 0]⟩,
   ⟨0x2, 1, 1, "BSQ_SOURCE", [fd 7 0 "TRIED" .ro 0]⟩,
   ⟨0x3, 1, 1, "BSQ_IMAGE_VER", [fd 23 0 "VER" .ro 0]⟩,
   ⟨0x4, 1, 1, "BSQ_FAIL_INFO", [fd 39 24 "RECORD" .ro 0, fd 23 0 "OFFSET" .ro 0]⟩,
   ⟨0x5, 1, 1, "BSQ_IMAGE_LEN", [fd 31 0 "LENGTH" .ro 0]⟩,
   ⟨0x6, 1, 1, "BSQ_SEAL_TICK", whole .ro⟩,
   ⟨0x7, 1, 1, "BSQ_PRESENCE", [fd 16 16 "OPEN" .ro 0, fd 15 15 "LOW" .ro 0, fd 14 0 "MS" .ro 0]⟩,
   ⟨0x8, 1, 1, "BSQ_DEBUG", [fd 1 1 "RELOCK" .w1s 0, fd 0 0 "UNLOCKED" .ro 0]⟩,
   ⟨0x9, 1, 1, "BSQ_FUSE_CTL", [fd 0 0 "PROGRAM" .w1s 0]⟩,
   ⟨0xa, 1, 1, "BSQ_FUSE_STAT", [fd 3 3 "REFUSED" .w1c 0, fd 2 2 "PROG_FAIL" .w1c 0, fd 1 1 "BUSY" .ro 0, fd 0 0 "BLANK" .ro 0]⟩,
   ⟨0xb, 1, 1, "BSQ_RECORD_CNT", countW⟩,
   ⟨0xc, 1, 1, "BSQ_PRESENCE_CNT", countW⟩,
   ⟨0xd, 1, 1, "BSQ_UNLOCK_CNT", countW⟩,
   ⟨0xe, 1, 1, "BSQ_FAIL_CNT", countW⟩,
   ⟨0xf, 1, 1, "BSQ_SERVE_REFUSED", countW⟩,
   ⟨0x10, 7, 1, "BSQ_KEY_HASH", whole .ro⟩,
   ⟨0x17, 1, 1, "BSQ_ENTRY", whole .ro⟩,
   ⟨0x18, 7, 1, "BSQ_FUSE_DATA", whole .rw⟩,
   ⟨0x1f, 1, 1, "BSQ_STRAPS", [fd 4 3 "BOOT_SEL" .ro 0, fd 2 2 "CNS_ROLE" .ro 0, fd 1 0 "CNS_ID" .ro 0]⟩,
   ⟨0x20, 8, 1, "BSQ_CORE_ENTRY", whole .rw⟩,
   ⟨0x28, 1, 1, "BSQ_CORE_CTL", [fd 7 0 "START" .w1s 0]⟩,
   ⟨0x29, 1, 1, "BSQ_CORE_STAT", [fd 8 8 "REFUSED" .w1c 0, fd 7 0 "RUNNING" .ro 0]⟩,
   ⟨0x2a, 6, 1, "BSQ_SNAP", whole .ro⟩]

/-- BSQ: spec/18_boot_dukar_image.md, section Registers. -/
def blkBsq : Blk := ⟨"BSQ", 0x201000, 0x1000, 1, rowsBsq⟩

def rowsPwr : List RegRow :=
  [⟨0x0, 1, 1, "PWR_ID", [fd 4 0 "DOMAINS" .ro 21]⟩,
   ⟨0x1, 1, 1, "PWR_STATUS", [fd 6 6 "LAST_HALT" .ro 0, fd 5 5 "DOM_DONE" .w1c 0, fd 4 4 "RECOVER" .w1c 0, fd 3 3 "SHED" .w1c 0, fd 2 0 "STAGE" .ro 0]⟩,
   ⟨0x2, 1, 1, "PWR_EVT_EN", [fd 5 3 "EN" .rw 0]⟩,
   ⟨0x3, 1, 1, "PWR_VMON", [fd 10 0 "MV" .ro 0]⟩,
   ⟨0x4, 1, 1, "PWR_VMIN", [fd 10 0 "MV" .wo 0]⟩,
   ⟨0x5, 5, 1, "PWR_STAGE_CNT", countW⟩,
   ⟨0xa, 1, 1, "PWR_HALT_CNT", [fd 15 0 "COUNT" .ro 0]⟩,
   ⟨0xb, 1, 1, "PWR_LAST_TICK", whole .ro⟩,
   ⟨0x10, 21, 1, "PWR_DOM", [fd 11 11 "SHED_STOP" .ro 0, fd 10 9 "LEVEL" .ro 0, fd 8 7 "STATE" .ro 0, fd 6 4 "RESULT" .ro 0, fd 3 3 "RET_OFF" .rw 0, fd 1 1 "WAKE" .wo 0, fd 0 0 "SHUT" .wo 0]⟩,
   ⟨0x28, 7, 1, "PWR_SNAP", whole .ro⟩]

/-- PWR: spec/19_power_shedding.md, section Registers. -/
def blkPwr : Blk := ⟨"PWR", 0x202000, 0x1000, 1, rowsPwr⟩

def rowsTb : List RegRow :=
  [⟨0x0, 1, 1, "TB_CTL", []⟩,
   ⟨0x1, 1, 1, "TB_STATUS", [fd 2 2 "STEPPED" .w1c 0, fd 1 1 "XA_LOST" .ro 0, fd 0 0 "LOCKED" .ro 0]⟩,
   ⟨0x2, 1, 1, "TB_NOW_LO", whole .ro⟩,
   ⟨0x3, 1, 1, "TB_NOW_HI", whole .ro⟩,
   ⟨0x4, 1, 1, "TB_TICK_FS", [fd 23 0 "FS" .lk 1017253]⟩,
   ⟨0x5, 1, 1, "TB_STEP_LO", whole .rw⟩,
   ⟨0x6, 1, 1, "TB_STEP_HI", whole .rw⟩,
   ⟨0x7, 1, 1, "TB_SLEW", [⟨25, 24, "MODE", .rw, 0, .range 0 2⟩, ⟨23, 0, "INTERVAL", .rw, 1000000, .range 1000 16777215⟩]⟩,
   ⟨0x8, 1, 1, "TB_PULSE_CNT", whole .ro⟩,
   ⟨0x9, 7, 1, "TB_SNAP", whole .ro⟩,
   ⟨0x10, 8, 8, "TB_RGEN_CTL", [fd 39 8 "ANCHOR" .rw 0, fd 1 1 "ANCHOR_EN" .rw 0, fd 0 0 "EN" .rw 0]⟩,
   ⟨0x11, 8, 8, "TB_RGEN_NUM", [fd 31 0 "NUM" .rw 20480]⟩,
   ⟨0x12, 8, 8, "TB_RGEN_DEN", [fd 19 0 "DEN" .rw 1]⟩,
   ⟨0x13, 8, 8, "TB_RGEN_COUNT", countW⟩,
   ⟨0x14, 8, 8, "TB_RGEN_EDGE", whole .ro⟩]

/-- TB: spec/09_events_timebase.md, section Registers. -/
def blkTb : Blk := ⟨"TB", 0x203000, 0x1000, 1, rowsTb⟩

def rowsEiu : List RegRow :=
  [⟨0x0, 1, 1, "EIU_CTL", [fd 0 0 "OFF" .rw 0]⟩,
   ⟨0x1, 1, 1, "EIU_STATUS", [fd 15 8 "PAR_SRC" .ro 0, fd 0 0 "CFG_PARITY" .w1c 0]⟩,
   ⟨0x2, 1, 1, "EIU_QUIET_CTL", [fd 3 1 "CORE" .rw 0, fd 0 0 "EN" .rw 0]⟩,
   ⟨0x3, 1, 1, "EIU_QUIET_MASK", [fd 7 0 "MASK" .rw 0]⟩,
   ⟨0x4, 1, 1, "EIU_QUIET_STAT", [fd 1 1 "HOLDING" .ro 0, fd 0 0 "DETECTED" .w1c 0]⟩,
   ⟨0x5, 1, 1, "EIU_SWEV_TRIG", [fd 5 0 "EVENT" .wo 0]⟩,
   ⟨0x8, 8, 1, "EIU_SEV_GROUP", [fd 7 0 "CORES" .rw 255]⟩,
   ⟨0x10, 7, 1, "EIU_PEND", whole .ro⟩,
   ⟨0x20, 16, 1, "EIU_PART_CTL", [fd 3 1 "PRI_CAP" .rw 7, fd 0 0 "EN" .rw 1]⟩,
   ⟨0x30, 16, 1, "EIU_PART_STAT", [fd 8 0 "PENDING" .ro 0]⟩,
   ⟨0x40, 19, 1, "EIU_SNAP", whole .ro⟩,
   ⟨0x1000, 256, 1, "EIU_SRC_CFG", [fd 23 16 "TARGETS" .rw 0, ⟨13, 12, "LEVEL", .rw, 1, .range 1 3⟩, fd 11 8 "PART" .rw 0, fd 6 4 "PRIORITY" .rw 0, fd 2 2 "INSVC" .ro 0, fd 1 1 "PEND" .ro 0, fd 0 0 "EN" .rw 0]⟩,
   ⟨0x2000, 256, 1, "EIU_SRC_CNT", countW⟩,
   ⟨0x3000, 8, 1, "EIU_CORE_STATE", [fd 10 10 "OFFERED" .ro 0, fd 9 2 "OFFER_SRC" .ro 0, fd 1 1 "LATCH" .ro 0, fd 0 0 "WAITING" .ro 0]⟩,
   ⟨0x3008, 8, 1, "EIU_CORE_INSVC", [fd 7 0 "PRI" .ro 0]⟩]

/-- EIU: spec/09_events_timebase.md, section Registers. -/
def blkEiu : Blk := ⟨"EIU", 0x204000, 0x4000, 1, rowsEiu⟩

def rowsCore1 : List RegRow :=
  [⟨0x0, 1, 1, "CS_FLAGS", [fd 4 4 "S" .rw 0, fd 3 3 "V" .rw 0, fd 2 2 "C" .rw 0, fd 1 1 "N" .rw 0, fd 0 0 "Z" .rw 0]⟩,
   ⟨0x1, 1, 1, "CS_TIME_LO", whole .ro⟩,
   ⟨0x2, 1, 1, "CS_TIME_HI", whole .ro⟩,
   ⟨0x3, 1, 1, "CS_CORE_ID", [fd 4 3 "CONSORT" .ro 0, fd 2 0 "CORE" .ro 0]⟩,
   ⟨0x4, 1, 1, "CS_F40_CTL", [fd 7 7 "FTZ" .rw 0, fd 6 5 "RM" .rw 0, fd 4 4 "NV" .rw 0, fd 3 3 "DZ" .rw 0, fd 2 2 "OF" .rw 0, fd 1 1 "UF" .rw 0, fd 0 0 "NX" .rw 0]⟩,
   ⟨0x5, 1, 1, "CS_TP", whole .rw⟩,
   ⟨0x6, 1, 1, "CS_RSV", [fd 0 0 "VALID" .ro 0]⟩,
   ⟨0x7, 1, 1, "CS_RET_COUNT", whole .ro⟩,
   ⟨0x8, 1, 1, "CS_STATUS", [fd 6 6 "PEND" .ro 0, fd 5 5 "HOLD3" .rw 0, fd 4 4 "HOLD2" .rw 0, fd 3 3 "HOLD1" .rw 0, fd 2 2 "IE" .rw 0, fd 1 0 "PL" .ro 3]⟩,
   ⟨0x9, 1, 1, "CS_K_VEC", [fd 39 4 "BASE" .rw 0]⟩,
   ⟨0xa, 1, 1, "CS_K_EPC", whole .rw⟩,
   ⟨0xb, 1, 1, "CS_K_EST", [fd 7 3 "FLAGS" .rw 0, fd 2 2 "PIE" .rw 0, ⟨1, 0, "PPL", .rw, 0, .range 0 1⟩]⟩,
   ⟨0xc, 1, 1, "CS_K_CAUSE", [fd 39 16 "DETAIL" .rw 0, fd 9 8 "FROM_PL" .rw 0, fd 7 7 "NESTED" .rw 0, fd 6 6 "ASYNC" .rw 0, ⟨5, 0, "CODE", .rw, 0, .range 0 20⟩]⟩,
   ⟨0xd, 1, 1, "CS_K_FADDR", whole .rw⟩,
   ⟨0xe, 1, 1, "CS_K_SCRATCH", whole .rw⟩,
   ⟨0xf, 1, 1, "CS_ASID", [fd 11 0 "ASID" .rw 0]⟩,
   ⟨0x10, 1, 1, "CS_PT1_BASE", [fd 39 39 "EN" .rw 0, fd 38 38 "HAU" .rw 0, fd 33 4 "BASE" .rw 0]⟩,
   ⟨0x11, 1, 1, "CS_BTB_KEY", [fd 31 20 "TAG" .rw 0, fd 19 0 "KEY" .rw 0]⟩,
   ⟨0x12, 1, 1, "CS_TMR_CMP_LO", whole .rw⟩,
   ⟨0x13, 1, 1, "CS_TMR_CMP_HI", whole .rw⟩,
   ⟨0x14, 1, 1, "CS_TMR_CTL", [fd 31 8 "PERIOD" .rw 0, fd 3 3 "OVR" .w1c 0, fd 2 2 "FIRED" .w1c 0, fd 1 1 "PERIODIC" .rw 0, fd 0 0 "EN" .rw 0]⟩,
   ⟨0x15, 1, 1, "CS_EV_MASK", [fd 2 0 "THRESH" .rw 0]⟩,
   ⟨0x16, 1, 1, "CS_EV_CLAIM", [fd 39 39 "VALID" .ro 0, fd 10 8 "PRI" .ro 0, fd 7 0 "SOURCE" .rw 0]⟩,
   ⟨0x18, 1, 1, "CS_P_VEC", [fd 39 4 "BASE" .rw 0]⟩]

def rowsCore2 : List RegRow :=
  [⟨0x19, 1, 1, "CS_P_EPC", whole .rw⟩,
   ⟨0x1a, 1, 1, "CS_P_EST", [fd 7 3 "FLAGS" .rw 0, fd 2 2 "PIE" .rw 0, ⟨1, 0, "PPL", .rw, 0, .range 0 2⟩]⟩,
   ⟨0x1b, 1, 1, "CS_P_CAUSE", [fd 39 16 "DETAIL" .rw 0, fd 9 8 "FROM_PL" .rw 0, fd 7 7 "NESTED" .rw 0, fd 6 6 "ASYNC" .rw 0, ⟨5, 0, "CODE", .rw, 0, .range 0 20⟩]⟩,
   ⟨0x1c, 1, 1, "CS_P_FADDR", whole .rw⟩,
   ⟨0x1d, 1, 1, "CS_P_SCRATCH", whole .rw⟩,
   ⟨0x1e, 1, 1, "CS_P_IPA", [fd 33 0 "IPA" .rw 0]⟩,
   ⟨0x1f, 1, 1, "CS_PART", [fd 3 0 "PART" .rw 0]⟩,
   ⟨0x20, 1, 1, "CS_PT2_BASE", [fd 39 39 "EN" .rw 0, fd 33 10 "BASE" .rw 0]⟩,
   ⟨0x21, 1, 1, "CS_P_ROUTE", [fd 18 18 "WATCH" .rw 0, fd 17 17 "BREAK" .rw 0, fd 13 10 "CAUSE_0D_0A" .rw 0, fd 7 1 "CAUSE_07_01" .rw 0]⟩,
   ⟨0x28, 1, 1, "CS_M_VEC", [fd 39 4 "BASE" .rw 0]⟩,
   ⟨0x29, 1, 1, "CS_M_EPC", whole .rw⟩,
   ⟨0x2a, 1, 1, "CS_M_EST", [fd 7 3 "FLAGS" .rw 0, fd 2 2 "PIE" .rw 0, fd 1 0 "PPL" .rw 0]⟩,
   ⟨0x2b, 1, 1, "CS_M_CAUSE", [fd 39 16 "DETAIL" .rw 0, fd 9 8 "FROM_PL" .rw 0, fd 7 7 "NESTED" .rw 0, fd 6 6 "ASYNC" .rw 0, ⟨5, 0, "CODE", .rw, 0, .range 0 20⟩]⟩,
   ⟨0x2c, 1, 1, "CS_M_FADDR", whole .rw⟩,
   ⟨0x2d, 1, 1, "CS_M_SCRATCH", whole .rw⟩,
   ⟨0x2e, 1, 1, "CS_M_ROUTE", [fd 18 18 "WATCH" .rw 0, fd 17 17 "BREAK" .rw 0, fd 13 10 "CAUSE_0D_0A" .rw 0, fd 7 1 "CAUSE_07_01" .rw 0]⟩,
   ⟨0x2f, 1, 1, "CS_BR_CTL", [fd 23 4 "HKEY" .rw 0, fd 2 2 "BTB_INV" .wo 0, fd 1 1 "PF_OFF" .rw 0, fd 0 0 "PRED_OFF" .rw 0]⟩,
   ⟨0x30, 1, 1, "CS_PACE_CTL", [fd 7 4 "STRICT_PLM" .rw 0, fd 3 3 "ANCHOR_EN" .rw 0, fd 2 2 "LAG_EN" .rw 0, fd 1 1 "ACTIVE" .ro 0, fd 0 0 "EN" .rw 0]⟩,
   ⟨0x31, 1, 1, "CS_PACE_PERIOD", [fd 39 8 "ANCHOR" .rw 0, ⟨7, 0, "PERIOD", .rw, 6, .range 1 255⟩]⟩,
   ⟨0x32, 1, 1, "CS_PACE_STAT", [fd 39 38 "LAST_KIND" .ro 0, fd 37 20 "MISSED" .rw 0, fd 19 0 "EXCURSIONS" .rw 0]⟩,
   ⟨0x33, 1, 1, "CS_PACE_EXC", whole .ro⟩,
   ⟨0x34, 1, 1, "CS_WATCH_ADDR", whole .rw⟩,
   ⟨0x35, 1, 1, "CS_WATCH_CTL", [fd 11 8 "PLM" .rw 0, ⟨7, 4, "MASK", .rw, 0, .range 0 12⟩, fd 3 3 "HALT" .rw 0, fd 2 2 "W" .rw 0, fd 1 1 "R" .rw 0, fd 0 0 "EN" .rw 0]⟩,
   ⟨0x36, 2, 1, "CS_BREAK_ADDR", whole .rw⟩]

def rowsCore3 : List RegRow :=
  [⟨0x38, 1, 1, "CS_DBG_CTL", [fd 10 8 "REASON" .ro 0, fd 7 4 "BRK_PLM" .rw 0, fd 3 3 "BRK_HALT" .rw 0, fd 1 1 "BRK1_EN" .rw 0, fd 0 0 "BRK0_EN" .rw 0]⟩,
   ⟨0x39, 1, 1, "CS_SHED_RANK", [fd 3 3 "SINGLE" .ro 0, fd 2 2 "PARKED" .ro 0, ⟨1, 0, "RANK", .lk, 2, .range 0 2⟩]⟩,
   ⟨0x40, 16, 1, "CS_PMC", countW⟩,
   ⟨0x50, 15, 1, "CS_PMC_SEL", [fd 13 13 "OVF" .w1c 0, fd 12 12 "EN" .rw 0, fd 11 8 "PLM" .rw 0, ⟨7, 0, "EVENT", .rw, 0, .two 0 26 63 63⟩]⟩,
   ⟨0x5f, 1, 1, "CS_PMC_SEL_15", [fd 13 13 "OVF" .w1c 0, fd 12 12 "EN" .ro 1, fd 11 8 "PLM" .ro 15, fd 7 0 "EVENT" .ro 63]⟩,
   ⟨0x60, 13, 1, "CS_SNAP", whole .ro⟩]

/-- CORE: spec/03_programming_model.md, section Registers. -/
def blkCore : Blk := ⟨"CORE", 0x208000, 0x1000, 8, rowsCore1 ++ rowsCore2 ++ rowsCore3⟩

def rowsHs : List RegRow :=
  [⟨0x0, 1, 1, "HS_ID", [fd 1 0 "SLICE" .ro 0]⟩,
   ⟨0x1, 1, 1, "HS_SPLIT", [⟨3, 0, "STAGE_UNITS", .lk, 0, .range 0 8⟩]⟩,
   ⟨0x2, 1, 1, "HS_CTL", [fd 0 0 "LLC_BYPASS" .rw 0]⟩,
   ⟨0x3, 1, 1, "HS_STATUS", [fd 1 1 "DIR_FAILED" .ro 0, fd 0 0 "SPLIT_BUSY" .ro 0]⟩,
   ⟨0x4, 1, 1, "HS_EPOCH", [fd 7 0 "G" .ro 0]⟩,
   ⟨0x5, 1, 1, "HS_DIR_SEL", [fd 13 3 "SET" .rw 0, fd 2 0 "WAY" .rw 0]⟩,
   ⟨0x6, 2, 1, "HS_DIR_DATA", whole .ro⟩,
   ⟨0x8, 1, 1, "HS_ERR_ADDR", [fd 33 0 "PA" .ro 0]⟩,
   ⟨0x9, 1, 1, "HS_ERR_INFO", [fd 11 8 "AGENT" .ro 0, fd 7 0 "KIND" .ro 0]⟩,
   ⟨0xa, 1, 1, "HS_ECC_CORR", countW⟩,
   ⟨0xb, 1, 1, "HS_ECC_UNCORR", countW⟩,
   ⟨0x10, 16, 1, "HS_CNT", countW⟩,
   ⟨0x20, 16, 1, "HS_CNT_SEL", [fd 9 9 "OVF" .w1c 0, fd 8 8 "EN" .rw 0, ⟨7, 0, "EVENT", .rw, 0, .range 0 15⟩]⟩,
   ⟨0x30, 16, 1, "HS_SNAP", whole .ro⟩,
   ⟨0x40, 12, 1, "HS_PSLOT", [fd 39 39 "VALID" .ro 0, fd 29 0 "LINE" .ro 0]⟩,
   ⟨0x50, 48, 1, "HS_TRK", [fd 39 39 "VALID" .ro 0, fd 38 35 "AGENT" .ro 0, fd 34 30 "REQ" .ro 0, fd 29 0 "LINE" .ro 0]⟩]

/-- HS: spec/08_caches_coherence.md, section Registers. -/
def blkHs : Blk := ⟨"HS", 0x210000, 0x1000, 4, rowsHs⟩

def rowsDmc1 : List RegRow :=
  [⟨0x0, 1, 1, "DMC_ID", [fd 0 0 "CHANNEL" .ro 0]⟩,
   ⟨0x1, 1, 1, "DMC_CTL", [fd 1 1 "FRESH_EN" .lk 1, fd 0 0 "EN" .lk 0]⟩,
   ⟨0x2, 1, 1, "DMC_STATUS", [fd 7 5 "FAIL_LANE" .ro 0, fd 4 4 "FAIL_RANK" .ro 0, fd 3 3 "FILL_URGENT" .ro 0, fd 2 2 "TRAIN_FAIL" .ro 0, fd 1 1 "READY" .ro 0, fd 0 0 "INIT_BUSY" .ro 0]⟩,
   ⟨0x3, 1, 1, "DMC_ILV", [fd 1 0 "MODE" .lk 0]⟩,
   ⟨0x4, 1, 1, "DMC_GEOM", [fd 6 4 "CAP_GIW" .ro 0, fd 2 2 "DENSITY" .lk 0, fd 1 1 "RANKS" .lk 0, fd 0 0 "PRESENT" .lk 0]⟩,
   ⟨0x5, 1, 1, "DMC_REFRESH", [fd 17 17 "X2" .rw 0, fd 15 0 "TREFI" .lk 0]⟩,
   ⟨0x6, 1, 1, "DMC_TIM_0", [fd 39 32 "CL" .lk 0, fd 31 24 "CWL" .lk 0, fd 23 16 "TRCD" .lk 0, fd 15 8 "TRP" .lk 0, ⟨2, 0, "SPEED", .lk, 0, .range 0 6⟩]⟩,
   ⟨0x7, 1, 1, "DMC_TIM_1", [fd 39 32 "TRAS" .lk 0, fd 31 24 "TRC" .lk 0, fd 23 16 "TFAW" .lk 0, fd 15 8 "TRRD_S" .lk 0, fd 7 0 "TRRD_L" .lk 0]⟩,
   ⟨0x8, 1, 1, "DMC_TIM_2", [fd 39 32 "TCCD_L" .lk 0, fd 31 24 "TWTR_S" .lk 0, fd 23 16 "TWTR_L" .lk 0, fd 15 8 "TWR" .lk 0, fd 7 0 "TRTP" .lk 0]⟩,
   ⟨0x9, 1, 1, "DMC_TIM_3", [fd 27 16 "TXS" .lk 0, fd 11 0 "TRFC" .lk 0]⟩,
   ⟨0xa, 1, 1, "DMC_TIM_4", [fd 39 32 "TXP" .lk 0, fd 31 24 "TCKE" .lk 0, fd 23 16 "TMOD" .lk 0, fd 15 8 "TMRD" .lk 0, fd 7 0 "TZQCS" .lk 0]⟩,
   ⟨0xb, 1, 1, "DMC_TIM_5", [fd 27 16 "TZQINIT" .lk 0, fd 11 0 "TZQOPER" .lk 0]⟩,
   ⟨0xc, 1, 1, "DMC_TIM_6", [fd 20 18 "RTT_NOM" .lk 0, fd 17 15 "RTT_PARK" .lk 0, fd 14 12 "RTT_WR" .lk 0, fd 11 10 "ODIC" .lk 0, fd 9 4 "VREFDQ_START" .lk 0]⟩,
   ⟨0xd, 1, 1, "DMC_TIM_7", [⟨15, 8, "PHY_ODT", .lk, 0, .range 0 6⟩, ⟨7, 0, "PHY_DRV", .lk, 0, .range 0 2⟩]⟩,
   ⟨0xe, 1, 1, "DMC_FRESH_SEL", [⟨11, 0, "WORD", .rw, 0, .range 0 3276⟩]⟩,
   ⟨0xf, 1, 1, "DMC_FRESH_DATA", whole .ro⟩,
   ⟨0x10, 4, 1, "DMC_FILL", [fd 39 39 "VALID" .ro 0, fd 38 22 "BLOCK" .ro 0, fd 11 0 "PTR" .ro 0]⟩,
   ⟨0x14, 1, 1, "DMC_WAT_STAT", [fd 6 0 "USED" .ro 0]⟩,
   ⟨0x15, 1, 1, "DMC_SCRUB_CTL", [⟨4, 0, "RATE", .rw, 0, .range 0 16⟩]⟩,
   ⟨0x16, 1, 1, "DMC_SCRUB_PTR", [fd 27 0 "LINE" .ro 0]⟩,
   ⟨0x17, 1, 1, "DMC_ERR_ADDR", [fd 33 0 "PA" .ro 0]⟩,
   ⟨0x18, 1, 1, "DMC_ERR_INFO", [fd 15 8 "SYNDROME" .ro 0, fd 7 5 "LANE" .ro 7, fd 2 0 "KIND" .ro 0]⟩,
   ⟨0x19, 1, 1, "DMC_INJECT", [fd 2 2 "FRESH_PARITY" .wo 0, fd 1 1 "DOUBLE" .wo 0, fd 0 0 "SINGLE" .wo 0]⟩,
   ⟨0x1a, 1, 1, "DMC_FRESH_LEFT", [fd 17 0 "COUNT" .ro 131072]⟩]

def rowsDmc2 : List RegRow :=
  [⟨0x1b, 1, 1, "DMC_ZQ_CTL", [⟨9, 0, "INTERVAL_MS", .rw, 128, .range 1 1023⟩]⟩,
   ⟨0x1c, 1, 1, "DMC_LAST_FILL_TICK", whole .ro⟩,
   ⟨0x1d, 1, 1, "DMC_SELFREF_CNT", countW⟩,
   ⟨0x20, 1, 1, "DMC_RD_CNT", countW⟩,
   ⟨0x21, 1, 1, "DMC_WR_CNT", countW⟩,
   ⟨0x22, 1, 1, "DMC_RMW_CNT", countW⟩,
   ⟨0x23, 1, 1, "DMC_FRESH_RD_CNT", countW⟩,
   ⟨0x24, 1, 1, "DMC_FILL_LINE_CNT", countW⟩,
   ⟨0x25, 1, 1, "DMC_FILL_DONE_CNT", countW⟩,
   ⟨0x26, 1, 1, "DMC_WAT_STALL_CNT", countW⟩,
   ⟨0x27, 1, 1, "DMC_SLOT_STALL_CNT", countW⟩,
   ⟨0x28, 1, 1, "DMC_CE_CNT", countW⟩,
   ⟨0x29, 1, 1, "DMC_UE_CNT", countW⟩,
   ⟨0x2a, 1, 1, "DMC_POISON_RD_CNT", countW⟩,
   ⟨0x2b, 1, 1, "DMC_SCRUB_PASS_CNT", countW⟩,
   ⟨0x2c, 1, 1, "DMC_REFRESH_CNT", countW⟩,
   ⟨0x2d, 1, 1, "DMC_ROW_HIT_CNT", countW⟩,
   ⟨0x2e, 1, 1, "DMC_ROW_MISS_CNT", countW⟩,
   ⟨0x2f, 1, 1, "DMC_ROW_CONFLICT_CNT", countW⟩,
   ⟨0x30, 6, 1, "DMC_LANE_CE", countW⟩,
   ⟨0x38, 6, 1, "DMC_LANE_UE", countW⟩,
   ⟨0x40, 24, 1, "DMC_TRAIN", [fd 15 0 "DELAY" .ro 0]⟩,
   ⟨0x58, 2, 1, "DMC_VREF", [fd 5 0 "VREF" .ro 0]⟩,
   ⟨0x60, 64, 1, "DMC_WAT", [fd 39 39 "VALID" .ro 0, fd 38 37 "SLOT" .ro 0, fd 11 0 "LINE" .ro 0]⟩]

def rowsDmc3 : List RegRow :=
  [⟨0xa0, 32, 1, "DMC_SNAP", whole .ro⟩]

/-- DMC: spec/14_dram_fresh_map.md, section Registers. -/
def blkDmc : Blk := ⟨"DMC", 0x218000, 0x1000, 2, rowsDmc1 ++ rowsDmc2 ++ rowsDmc3⟩

def rowsFab : List RegRow :=
  [⟨0x0, 1, 1, "FAB_ID", [fd 15 8 "ROUTERS" .ro 16, fd 4 0 "ENDPOINTS" .ro 21]⟩,
   ⟨0x1, 1, 1, "FAB_CTL", [⟨8, 0, "TIMEOUT_US", .rw, 20, .range 2 500⟩]⟩,
   ⟨0x2, 1, 1, "FAB_STATUS", [fd 2 2 "PARITY" .w1c 0, fd 1 1 "VIOL" .w1c 0, fd 0 0 "ROUTES_LOCKED" .ro 0]⟩,
   ⟨0x3, 1, 1, "FAB_RT_SEL", [fd 9 5 "NI" .rw 0, fd 4 0 "DEST" .rw 0]⟩,
   ⟨0x4, 1, 1, "FAB_RT_DATA", [fd 15 15 "VALID" .lk 0, fd 14 12 "HOPS" .lk 0, fd 11 0 "ROUTE" .lk 0]⟩,
   ⟨0x5, 1, 1, "FAB_ERR_INFO", [fd 15 11 "SRC" .ro 0, fd 10 6 "DEST" .ro 0, fd 5 0 "KIND" .ro 0]⟩,
   ⟨0x6, 1, 1, "FAB_ERR_ADDR", [fd 33 0 "ADDR" .ro 0]⟩,
   ⟨0x7, 1, 1, "FAB_STALE_CNT", countW⟩,
   ⟨0x8, 1, 1, "FAB_WAKE_CNT", countW⟩,
   ⟨0x9, 1, 1, "FAB_WAKE_FAIL_CNT", countW⟩,
   ⟨0xa, 1, 1, "FAB_CLOSE_ABORT_CNT", countW⟩,
   ⟨0xb, 1, 1, "FAB_VIOL_CNT", countW⟩,
   ⟨0x10, 32, 1, "FAB_SNAP", whole .ro⟩,
   ⟨0x40, 16, 1, "FAB_RTR_STAT", [fd 3 3 "PAR_ERR" .w1c 0, fd 2 0 "WAKE_HELD" .ro 0]⟩,
   ⟨0x50, 16, 1, "FAB_RTR_FLITS", countW⟩,
   ⟨0x60, 16, 1, "FAB_RTR_HOLDS", countW⟩,
   ⟨0x80, 32, 1, "FAB_NI_STATUS", [fd 18 10 "ORPHAN" .ro 0, fd 9 1 "BUSY" .ro 0, fd 0 0 "HOLDING" .ro 0]⟩,
   ⟨0xa0, 32, 1, "FAB_NI_TIMEOUTS", countW⟩,
   ⟨0xc0, 32, 1, "FAB_NI_LATE", countW⟩,
   ⟨0xe0, 32, 1, "FAB_NI_HELD", [fd 31 0 "TARGETS" .ro 0]⟩]

/-- FAB: spec/10_fabric.md, section Registers. -/
def blkFab : Blk := ⟨"FAB", 0x220000, 0x1000, 1, rowsFab⟩

def rowsPrb : List RegRow :=
  [⟨0x0, 1, 1, "PRB_CTL", [fd 1 1 "WRAP" .rw 1, fd 0 0 "TRACE_EN" .rw 0]⟩,
   ⟨0x1, 1, 1, "PRB_STATUS", [fd 0 0 "STOPPED" .w1c 0]⟩,
   ⟨0x2, 1, 1, "PRB_TRACE_BASE", [fd 33 4 "ADDR" .rw 0]⟩,
   ⟨0x3, 1, 1, "PRB_TRACE_SIZE", [fd 15 0 "LINES" .rw 0]⟩,
   ⟨0x4, 1, 1, "PRB_TRACE_WPTR", [fd 15 0 "LINE" .ro 0]⟩,
   ⟨0x5, 1, 1, "PRB_TRACE_DROPS", countW⟩,
   ⟨0x6, 10, 1, "PRB_SNAP", whole .ro⟩,
   ⟨0x10, 8, 16, "PRB_n_CTL", [fd 2 2 "HAT" .rw 0, fd 1 1 "TRACE" .rw 0, fd 0 0 "EN" .rw 0]⟩,
   ⟨0x11, 8, 16, "PRB_n_SEL", [fd 6 3 "ROUTER" .rw 0, ⟨2, 0, "PORT", .rw, 0, .range 0 4⟩]⟩,
   ⟨0x12, 8, 16, "PRB_n_MATCH", [fd 16 14 "CLASSES" .rw 0, fd 13 13 "KIND_ANY" .rw 0, fd 12 12 "KIND" .rw 0, fd 11 7 "CODE_MASK" .rw 0, fd 6 2 "CODE" .rw 0]⟩,
   ⟨0x13, 8, 16, "PRB_n_SRC_DST", [fd 19 15 "SRC_MASK" .rw 0, fd 14 10 "SRC" .rw 0, fd 9 5 "DST_MASK" .rw 0, fd 4 0 "DST" .rw 0]⟩,
   ⟨0x14, 8, 16, "PRB_n_ADDR_LO", [fd 33 0 "ADDR" .rw 0]⟩,
   ⟨0x15, 8, 16, "PRB_n_ADDR_HI", [fd 33 0 "ADDR" .rw 17179869183]⟩,
   ⟨0x16, 8, 16, "PRB_n_COUNT", countW⟩,
   ⟨0x17, 8, 16, "PRB_n_FLITS", countW⟩,
   ⟨0x18, 8, 16, "PRB_n_THRESH", whole .rw⟩,
   ⟨0x19, 8, 16, "PRB_n_LAST_HDR0", whole .ro⟩,
   ⟨0x1a, 8, 16, "PRB_n_LAST_HDR1", whole .ro⟩,
   ⟨0x1b, 8, 16, "PRB_n_LAST_TICK", whole .ro⟩,
   ⟨0x1c, 8, 16, "PRB_n_STAT", whole .rw⟩,
   ⟨0x1d, 8, 16, "PRB_n_RSVD", []⟩]

/-- PRB: spec/10_fabric.md, section Registers. -/
def blkPrb : Blk := ⟨"PRB", 0x221000, 0x1000, 1, rowsPrb⟩

def rowsCuf1 : List RegRow :=
  [⟨0x0, 1, 1, "CUF_ID", [fd 4 1 "LANES" .ro 4, fd 0 0 "PORT" .ro 0]⟩,
   ⟨0x1, 1, 1, "CUF_CTL", [fd 1 1 "RETRAIN" .wo 0, fd 0 0 "EN" .rw 0]⟩,
   ⟨0x2, 1, 1, "CUF_STATUS", [fd 5 5 "APART" .ro 0, fd 4 4 "JOINED" .ro 0, fd 3 3 "RESYNC" .ro 0, fd 2 0 "STATE" .ro 0]⟩,
   ⟨0x3, 1, 1, "CUF_VCCFG", [fd 13 11 "RSP_IN_USE" .ro 0, fd 10 8 "REQ_IN_USE" .ro 0, ⟨6, 4, "RSP_VCS", .lk, 1, .range 1 4⟩, ⟨2, 0, "REQ_VCS", .lk, 1, .range 1 4⟩]⟩,
   ⟨0x4, 1, 1, "CUF_TIMERS", [⟨13, 7, "CREDIT_SHRINK_LIMIT", .rw, 25, .range 1 99⟩, ⟨5, 0, "REPLAY_US", .rw, 5, .range 2 63⟩]⟩,
   ⟨0x5, 1, 1, "CUF_ERR_INFO", [fd 11 8 "REASON" .ro 0, fd 7 4 "VIOL" .ro 0, fd 3 0 "LANES" .ro 0]⟩,
   ⟨0x6, 1, 1, "CUF_SEQ", [fd 23 12 "NEXT_RX" .ro 0, fd 11 0 "TX_NEXT" .ro 0]⟩,
   ⟨0x7, 1, 1, "CUF_TAGS", [fd 21 18 "LINES" .ro 0, fd 17 9 "IN" .ro 0, fd 8 0 "OUT" .ro 0]⟩,
   ⟨0x8, 1, 1, "CUF_LAST_RETRAIN", whole .ro⟩,
   ⟨0x9, 1, 1, "CUF_LAST_DOWN", whole .ro⟩,
   ⟨0xa, 1, 1, "CUF_INJECT", [fd 2 2 "LOSE_CREDIT" .wo 0, fd 1 1 "BAD_SLOT" .wo 0, fd 0 0 "BAD_CRC" .wo 0]⟩,
   ⟨0xb, 1, 1, "CUF_RETRAIN_CNT", countW⟩,
   ⟨0xc, 1, 1, "CUF_DOWN_CNT", countW⟩,
   ⟨0xd, 1, 1, "CUF_TRAIN_FAIL_CNT", countW⟩,
   ⟨0xe, 1, 1, "CUF_CRC_ERR_CNT", countW⟩,
   ⟨0xf, 1, 1, "CUF_REPLAY_CNT", countW⟩,
   ⟨0x10, 1, 1, "CUF_NAK_TX_CNT", countW⟩,
   ⟨0x11, 1, 1, "CUF_NAK_RX_CNT", countW⟩,
   ⟨0x12, 1, 1, "CUF_TX_PKT_CNT", countW⟩,
   ⟨0x13, 1, 1, "CUF_RX_PKT_CNT", countW⟩,
   ⟨0x14, 1, 1, "CUF_RESYNC_CNT", countW⟩,
   ⟨0x15, 1, 1, "CUF_HELD_CNT", countW⟩,
   ⟨0x16, 1, 1, "CUF_TIME_TX_LO", whole .ro⟩,
   ⟨0x17, 1, 1, "CUF_TIME_TX_HI", whole .ro⟩]

def rowsCuf2 : List RegRow :=
  [⟨0x18, 1, 1, "CUF_TIME_RX_LO", whole .ro⟩,
   ⟨0x19, 1, 1, "CUF_TIME_RX_HI", whole .ro⟩,
   ⟨0x1a, 1, 1, "CUF_TIME_PEER_LO", whole .ro⟩,
   ⟨0x1b, 1, 1, "CUF_TIME_PEER_HI", whole .ro⟩,
   ⟨0x1c, 1, 1, "CUF_VIOL_HDR_LO", whole .ro⟩,
   ⟨0x1d, 1, 1, "CUF_VIOL_HDR_HI", whole .ro⟩,
   ⟨0x1e, 1, 1, "CUF_LINKDOWN_CNT", countW⟩,
   ⟨0x1f, 1, 1, "CUF_UNSEQ_CNT", countW⟩,
   ⟨0x20, 8, 1, "CUF_WIN", [fd 9 0 "ALLOC" .lk 0]⟩,
   ⟨0x28, 1, 1, "CUF_WIN_8", [fd 9 0 "ALLOC" .ro 64]⟩,
   ⟨0x30, 9, 1, "CUF_CRED", [fd 19 10 "WINDOW" .ro 0, fd 9 0 "CREDITS" .ro 0]⟩,
   ⟨0x40, 9, 1, "CUF_SHORT", [fd 17 17 "WATCH" .ro 0, fd 15 0 "SHORT" .ro 0]⟩,
   ⟨0x50, 9, 1, "CUF_RXOCC", [fd 9 0 "SLOTS" .ro 0]⟩,
   ⟨0x60, 9, 1, "CUF_TXSLOT", countW⟩,
   ⟨0x70, 9, 1, "CUF_RXSLOT", countW⟩,
   ⟨0x80, 16, 1, "CUF_VIOL_CNT", countW⟩,
   ⟨0x90, 4, 4, "CUF_LANE_STAT", [fd 4 4 "INVERTED" .ro 0, fd 3 2 "PHYS" .ro 0, fd 1 1 "ALIGNED" .ro 0, fd 0 0 "LOCK" .ro 0]⟩,
   ⟨0x91, 4, 4, "CUF_LANE_ERR", countW⟩,
   ⟨0x92, 4, 4, "CUF_LANE_SKEW", [fd 5 0 "NS" .ro 0]⟩,
   ⟨0x93, 4, 4, "CUF_LANE_BLOCKS", countW⟩,
   ⟨0xa0, 9, 1, "CUF_OUTQ", [fd 4 0 "PACKETS" .ro 0]⟩,
   ⟨0xa9, 1, 1, "CUF_BALANCE_CNT", countW⟩,
   ⟨0xb0, 32, 1, "CUF_SNAP", whole .ro⟩]

/-- CUF: spec/11_cuff_link.md, section Registers. -/
def blkCuf : Blk := ⟨"CUF", 0x228000, 0x1000, 2, rowsCuf1 ++ rowsCuf2⟩

def rowsCns : List RegRow :=
  [⟨0x0, 1, 1, "CNS_ID", [fd 2 2 "ROLE" .ro 0, fd 1 0 "ID" .ro 0]⟩,
   ⟨0x1, 1, 1, "CNS_CTL", [fd 2 2 "REJOIN_TIME" .wo 0, fd 1 1 "SERVO_EN" .rw 1]⟩,
   ⟨0x2, 1, 1, "CNS_STATUS", [fd 12 9 "JOINED" .ro 0, fd 8 7 "UPSTREAM" .ro 0, fd 6 6 "IN_CONSORT" .ro 0, fd 5 5 "TIME_APART" .ro 0, fd 4 4 "LOCKED" .ro 1, fd 3 3 "DRIFT" .w1c 0, fd 2 2 "STRAP_CONFLICT" .ro 0]⟩,
   ⟨0x3, 1, 1, "CNS_CFG", [fd 3 0 "MEMBERS" .lk 0]⟩,
   ⟨0x4, 4, 1, "CNS_PEER", [⟨2, 1, "MODE", .lk, 0, .range 0 2⟩, fd 0 0 "PORT" .lk 0]⟩,
   ⟨0x8, 1, 1, "CNS_FINGERPRINT", [fd 31 0 "FP" .ro 0]⟩,
   ⟨0x9, 1, 1, "CNS_IMAGE_VER", [fd 23 0 "VER" .ro 0]⟩,
   ⟨0xa, 1, 1, "CNS_EPOCH", [fd 15 0 "EPOCH" .ro 0]⟩,
   ⟨0xb, 1, 1, "CNS_SERVO_CTL", [⟨29, 20, "PERIOD_US", .rw, 100, .range 10 1000⟩, ⟨19, 10, "LOCK_TH", .rw, 100, .range 1 1023⟩, ⟨9, 0, "STEP_TH", .rw, 1000, .range 100 1023⟩]⟩,
   ⟨0xc, 1, 1, "CNS_OFFSET", whole .ro⟩,
   ⟨0xd, 1, 1, "CNS_DELAY", whole .ro⟩,
   ⟨0xe, 1, 1, "CNS_LAST_SYNC", whole .ro⟩,
   ⟨0xf, 1, 1, "CNS_ERR_INFO", [fd 4 4 "PORT" .ro 0, fd 3 0 "KIND" .ro 0]⟩,
   ⟨0x10, 4, 1, "CNS_EXPOSE", [fd 6 6 "EN" .lk 0, ⟨5, 0, "BASE", .lk, 0, .two 0 15 32 63⟩]⟩,
   ⟨0x14, 6, 1, "CNS_RX_HELLO", whole .ro⟩,
   ⟨0x1a, 1, 1, "CNS_ROLE_CLASH_CNT", countW⟩,
   ⟨0x1b, 1, 1, "CNS_FP_MISMATCH_CNT", countW⟩,
   ⟨0x1c, 1, 1, "CNS_DRIFT_CNT", countW⟩,
   ⟨0x1d, 1, 1, "CNS_TIME_APART_CNT", countW⟩,
   ⟨0x1e, 1, 1, "CNS_STALE_MSG_CNT", countW⟩,
   ⟨0x1f, 1, 1, "CNS_RELAY_CNT", countW⟩,
   ⟨0x20, 16, 1, "CNS_SNAP", whole .ro⟩]

/-- CNS: spec/12_consorts.md, section Registers. -/
def blkCns : Blk := ⟨"CNS", 0x22a000, 0x1000, 1, rowsCns⟩

def rowsSeg : List RegRow :=
  [⟨0x0, 1, 1, "SEG_ID", [fd 7 0 "RINGS" .ro 64]⟩,
   ⟨0x1, 1, 1, "SEG_CTL", [fd 0 0 "FREEZE" .rw 0]⟩,
   ⟨0x2, 1, 1, "SEG_STATUS", [fd 1 1 "FROZEN" .ro 0, fd 0 0 "IDLE" .ro 0]⟩,
   ⟨0x3, 1, 1, "SEG_CMD", [fd 15 10 "RING" .wo 0, fd 9 5 "FUNC" .wo 0, fd 3 0 "OP" .wo 0]⟩,
   ⟨0x4, 1, 1, "SEG_CMD_ARG0", whole .rw⟩,
   ⟨0x5, 1, 1, "SEG_CMD_ARG1", [fd 27 24 "PART" .rw 0, fd 23 0 "RINGS_HI" .rw 0]⟩,
   ⟨0x6, 1, 1, "SEG_CMD_RESULT", [fd 3 0 "RESULT" .ro 0]⟩,
   ⟨0x7, 1, 1, "SEG_POOL_LO", whole .ro⟩,
   ⟨0x8, 1, 1, "SEG_POOL_HI", [fd 23 0 "RINGS" .ro 0]⟩,
   ⟨0x9, 1, 1, "SEG_FUNCS", [fd 15 0 "FUNCS" .ro 0]⟩,
   ⟨0xa, 1, 1, "SEG_TAGS", [fd 8 0 "OUT" .ro 0]⟩,
   ⟨0xb, 1, 1, "SEG_ERR_INFO", [fd 9 4 "RING" .ro 0, fd 3 0 "ERR" .ro 0]⟩,
   ⟨0xc, 1, 1, "SEG_ERR_ADDR", [fd 33 0 "PA" .ro 0]⟩,
   ⟨0xd, 1, 1, "SEG_UNBOUND_CNT", countW⟩,
   ⟨0xe, 1, 1, "SEG_LINES", [fd 5 0 "HELD" .ro 0]⟩,
   ⟨0xf, 1, 1, "SEG_STALE_CNT", countW⟩,
   ⟨0x10, 64, 1, "SEG_RING_OWNER", [fd 11 8 "KIND" .ro 0, fd 7 5 "STATE" .ro 0, fd 4 4 "POOL" .ro 0, fd 3 0 "FUNC" .ro 0]⟩,
   ⟨0x50, 16, 1, "SEG_SNAP", whole .ro⟩]

/-- SEG: spec/13_stream_engine.md, section Registers. -/
def blkSeg : Blk := ⟨"SEG", 0x230000, 0x1000, 1, rowsSeg⟩

def rowsSef : List RegRow :=
  [⟨0x0, 1, 1, "SEF_ID", [fd 8 8 "CREATED" .ro 0, fd 7 4 "PART" .ro 0, fd 3 0 "FUNC" .ro 0]⟩,
   ⟨0x1, 1, 1, "SEF_CTL", [fd 1 1 "RESET" .wo 0, fd 0 0 "ME" .rw 0]⟩,
   ⟨0x2, 1, 1, "SEF_STATUS", [fd 25 20 "GEN" .ro 0, fd 19 14 "OLD_OUTSTANDING" .ro 0, fd 13 8 "OUTSTANDING" .ro 0, fd 0 0 "QUIESCED" .ro 1]⟩,
   ⟨0x3, 1, 1, "SEF_CFG", [⟨5, 0, "TAG_CAP", .rw, 48, .range 1 48⟩]⟩,
   ⟨0x4, 1, 1, "SEF_RINGS_LO", whole .ro⟩,
   ⟨0x5, 1, 1, "SEF_RINGS_HI", [fd 23 0 "RINGS" .ro 0]⟩,
   ⟨0x6, 1, 1, "SEF_EVT", [fd 3 3 "STALE" .w1c 0, fd 2 2 "RING_HALT" .w1c 0, fd 1 1 "QUIESCED" .w1c 0, fd 0 0 "RESET_DONE" .w1c 0]⟩,
   ⟨0x7, 1, 1, "SEF_EVT_EN", [fd 3 0 "EN" .rw 0]⟩,
   ⟨0x8, 8, 2, "SEF_WIN_A", [fd 39 39 "EN" .rw 0, fd 38 38 "R" .rw 0, fd 37 37 "W" .rw 0, fd 21 0 "IPA_PAGE" .rw 0]⟩,
   ⟨0x9, 8, 2, "SEF_WIN_B", [fd 39 22 "SIZE" .rw 0, fd 21 0 "PA_PAGE" .rw 0]⟩,
   ⟨0x18, 1, 1, "SEF_STALE_CNT", countW⟩,
   ⟨0x19, 1, 1, "SEF_DESC_ERR_CNT", countW⟩,
   ⟨0x1a, 1, 1, "SEF_FOREIGN_CNT", countW⟩,
   ⟨0x1b, 1, 1, "SEF_RESET_CNT", countW⟩,
   ⟨0x1c, 1, 1, "SEF_REQ_CNT", countW⟩,
   ⟨0x1d, 1, 1, "SEF_WORD_CNT", countW⟩,
   ⟨0x1e, 1, 1, "SEF_ERR_INFO", [fd 9 4 "RING" .ro 0, fd 3 0 "ERR" .ro 0]⟩,
   ⟨0x1f, 1, 1, "SEF_ERR_ADDR", [fd 33 0 "IPA" .ro 0]⟩]

/-- SEF: spec/13_stream_engine.md, section Registers. -/
def blkSef : Blk := ⟨"SEF", 0x240000, 0x1000, 16, rowsSef⟩

def rowsRing : List RegRow :=
  [⟨0x0, 1, 1, "SEF_RING_CFG", [fd 39 39 "EN" .rw 0, fd 35 32 "KIND" .rw 0, fd 31 31 "DIR" .rw 0, ⟨30, 27, "SIZE", .rw, 0, .range 4 12⟩, fd 24 16 "BIND" .rw 0]⟩,
   ⟨0x1, 1, 1, "SEF_RING_CFG2", [fd 9 0 "RX_HOLD_US" .rw 50]⟩,
   ⟨0x2, 1, 1, "SEF_RING_BASE", [fd 33 4 "IPA" .rw 0]⟩,
   ⟨0x3, 1, 1, "SEF_RING_HEAD", [fd 15 0 "HEAD" .ro 0]⟩,
   ⟨0x4, 1, 1, "SEF_RING_TAIL", [fd 15 0 "TAIL" .rw 0]⟩,
   ⟨0x5, 1, 1, "SEF_RING_STATUS", [fd 15 13 "STATE" .ro 0, fd 12 12 "QUIESCED" .ro 1, fd 11 10 "LAST_ABORT" .ro 0, fd 9 9 "TAIL_REJECT" .w1c 0, fd 8 8 "CMD_REJECT" .w1c 0, fd 3 0 "ERR" .ro 0]⟩,
   ⟨0x6, 1, 1, "SEF_RING_CMD", [fd 17 16 "OP" .wo 0, fd 15 0 "IDX" .wo 0]⟩,
   ⟨0x7, 1, 1, "SEF_RING_ERR_IDX", [fd 15 0 "IDX" .ro 0]⟩,
   ⟨0x8, 1, 1, "SEF_RING_LAST_TS", whole .ro⟩,
   ⟨0x9, 1, 1, "SEF_RING_DONE_CNT", countW⟩,
   ⟨0xa, 1, 1, "SEF_RING_RX_NOBUF_DROPS", countW⟩,
   ⟨0xb, 1, 1, "SEF_RING_RX_OTHER_DROPS", countW⟩,
   ⟨0xc, 1, 1, "SEF_RING_ABORT_CNT", countW⟩,
   ⟨0xd, 1, 1, "SEF_RING_HOLD_CNT", countW⟩,
   ⟨0xe, 1, 1, "SEF_RING_WORD_CNT", countW⟩,
   ⟨0xf, 1, 1, "SEF_RING_STARVE_CNT", countW⟩]

/-- RING: spec/13_stream_engine.md, section Registers. -/
def blkRing : Blk := ⟨"RING", 0x400000, 0x10, 64, rowsRing⟩

def rowsAud1 : List RegRow :=
  [⟨0x0, 1, 1, "AUD_CTL", [fd 10 8 "GEN" .rw 0, fd 6 6 "TRISTATE" .rw 0, fd 5 5 "MUTE" .rw 0, fd 4 4 "IN_EN" .rw 0, fd 3 3 "OUT_EN" .rw 0, fd 2 2 "MASTER" .rw 0, fd 0 0 "EN" .rw 0]⟩,
   ⟨0x1, 1, 1, "AUD_FMT", [⟨15, 14, "FMT", .rw, 0, .range 0 2⟩, fd 13 13 "DELAY" .rw 1, ⟨12, 8, "SLOTS_M1", .rw, 1, .range 0 15⟩, ⟨7, 6, "SLOT_BITS", .rw, 2, .range 0 2⟩, ⟨5, 4, "WIDTH", .rw, 2, .range 0 2⟩]⟩,
   ⟨0x2, 1, 1, "AUD_SLOT_OUT", [fd 15 0 "MASK" .rw 3]⟩,
   ⟨0x3, 1, 1, "AUD_SLOT_IN", [fd 15 0 "MASK" .rw 3]⟩,
   ⟨0x4, 1, 1, "AUD_STATUS", [fd 7 7 "SHED_MUTE" .ro 0, fd 6 6 "PRIMED" .ro 0, fd 5 5 "CFG_ERR" .w1c 0, fd 4 4 "CLK_LOST" .w1c 0, fd 3 3 "FRAME_ERR" .w1c 0, fd 1 1 "OVERRUN" .w1c 0, fd 0 0 "UNDERRUN" .w1c 0]⟩,
   ⟨0x5, 1, 1, "AUD_EVT_EN", [fd 5 0 "EN" .rw 0]⟩,
   ⟨0x6, 1, 1, "AUD_FRAME_CNT", whole .ro⟩,
   ⟨0x7, 1, 1, "AUD_START_TICK", whole .ro⟩,
   ⟨0x8, 1, 1, "AUD_LAST_EDGE", whole .ro⟩,
   ⟨0x9, 1, 1, "AUD_PERIOD", whole .ro⟩,
   ⟨0xa, 1, 1, "AUD_OUT_LEVEL", [fd 6 0 "WORDS" .ro 0]⟩,
   ⟨0xb, 1, 1, "AUD_IN_LEVEL", [fd 6 0 "WORDS" .ro 0]⟩,
   ⟨0xc, 1, 1, "AUD_UNDERRUN_CNT", countW⟩,
   ⟨0xd, 1, 1, "AUD_OVERRUN_CNT", countW⟩,
   ⟨0xe, 1, 1, "AUD_FRAME_ERR_CNT", countW⟩,
   ⟨0xf, 1, 1, "AUD_CLK_LOST_CNT", countW⟩,
   ⟨0x10, 16, 1, "AUD_SNAP", whole .ro⟩,
   ⟨0x20, 1, 1, "AUD_OUT_WORD_CNT", countW⟩,
   ⟨0x21, 1, 1, "AUD_IN_WORD_CNT", countW⟩,
   ⟨0x22, 1, 1, "AUD_UNDER_TICK", whole .ro⟩,
   ⟨0x23, 1, 1, "AUD_OVER_TICK", whole .ro⟩,
   ⟨0x24, 1, 1, "AUD_ERR_TICK", whole .ro⟩,
   ⟨0x25, 1, 1, "AUD_INJECT", [fd 1 1 "FRAME_ERR" .wo 0, fd 0 0 "UNDERRUN" .wo 0]⟩,
   ⟨0x26, 1, 1, "AUD_MUTE_TICK", whole .ro⟩]

def rowsAud2 : List RegRow :=
  [⟨0x27, 1, 1, "AUD_SHED_MUTE_CNT", countW⟩]

/-- AUD: spec/15_audio_midi_small_ports.md, section Registers. -/
def blkAud : Blk := ⟨"AUD", 0x260000, 0x40, 8, rowsAud1 ++ rowsAud2⟩

def rowsMid : List RegRow :=
  [⟨0x0, 1, 1, "MID_EVT", [fd 7 4 "OUT_LATE" .w1c 0, fd 3 0 "IN_DROP" .w1c 0]⟩,
   ⟨0x1, 1, 1, "MID_EVT_EN", [fd 7 0 "EN" .rw 0]⟩,
   ⟨0x2, 4, 5, "MID_IN_STAT", [fd 5 5 "BREAK" .ro 0, fd 4 0 "QUEUED" .ro 0]⟩,
   ⟨0x3, 4, 5, "MID_IN_OCTET_CNT", countW⟩,
   ⟨0x4, 4, 5, "MID_IN_DROP_CNT", countW⟩,
   ⟨0x5, 4, 5, "MID_IN_FE_CNT", countW⟩,
   ⟨0x6, 4, 5, "MID_IN_BREAK_CNT", countW⟩,
   ⟨0x16, 4, 4, "MID_OUT_STAT", [fd 4 0 "QUEUED" .ro 0]⟩,
   ⟨0x17, 4, 4, "MID_OUT_OCTET_CNT", countW⟩,
   ⟨0x18, 4, 4, "MID_OUT_LATE_CNT", countW⟩,
   ⟨0x19, 4, 4, "MID_OUT_RSVD_CNT", countW⟩,
   ⟨0x26, 10, 1, "MID_SNAP", whole .ro⟩]

/-- MID: spec/15_audio_midi_small_ports.md, section Registers. -/
def blkMid : Blk := ⟨"MID", 0x261000, 0x1000, 1, rowsMid⟩

def rowsI2c : List RegRow :=
  [⟨0x0, 1, 1, "I2C_CTL", [⟨2, 1, "SPEED", .rw, 0, .range 0 2⟩, fd 0 0 "EN" .rw 0]⟩,
   ⟨0x1, 1, 1, "I2C_STATUS", [fd 4 4 "BUSY" .ro 0, fd 2 2 "BUS_ERR" .w1c 0, fd 1 1 "NACK" .w1c 0, fd 0 0 "DONE" .w1c 0]⟩,
   ⟨0x2, 1, 1, "I2C_CMD", [fd 10 8 "OP" .wo 0, fd 7 0 "DATA" .wo 0]⟩,
   ⟨0x3, 1, 1, "I2C_RXDATA", [fd 8 8 "VALID" .ro 0, fd 7 0 "OCTET" .ro 0]⟩,
   ⟨0x4, 1, 1, "I2C_CMD_LEVEL", [fd 4 0 "ENTRIES" .ro 0]⟩,
   ⟨0x5, 1, 1, "I2C_RX_LEVEL", [fd 4 0 "ENTRIES" .ro 0]⟩,
   ⟨0x6, 1, 1, "I2C_EVT_EN", [fd 2 0 "EN" .rw 0]⟩,
   ⟨0x7, 1, 1, "I2C_TIMEOUT", [⟨7, 0, "STRETCH_MS", .rw, 25, .range 1 255⟩]⟩,
   ⟨0x8, 1, 1, "I2C_NACK_CNT", countW⟩,
   ⟨0x9, 1, 1, "I2C_BUS_ERR_CNT", countW⟩,
   ⟨0xa, 1, 1, "I2C_STRETCH_CNT", countW⟩,
   ⟨0xb, 1, 1, "I2C_XFER_CNT", countW⟩,
   ⟨0xc, 1, 1, "I2C_RX_OCTET_CNT", countW⟩,
   ⟨0xd, 3, 1, "I2C_SNAP", whole .ro⟩]

/-- I2C: spec/15_audio_midi_small_ports.md, section Registers. -/
def blkI2c : Blk := ⟨"I2C", 0x262000, 0x10, 3, rowsI2c⟩

def rowsQspi : List RegRow :=
  [⟨0x0, 1, 1, "QSPI_CTL", [⟨6, 0, "DIV", .rw, 16, .range 4 64⟩]⟩,
   ⟨0x1, 1, 1, "QSPI_STATUS", [fd 1 1 "BUSY" .ro 0, fd 0 0 "DONE" .w1c 0]⟩,
   ⟨0x2, 1, 1, "QSPI_EVT_EN", [fd 0 0 "DONE" .rw 0]⟩,
   ⟨0x3, 1, 1, "QSPI_CMD", [fd 39 32 "OPCODE" .wo 0, fd 31 29 "LANES" .wo 0, fd 28 27 "ADDR" .wo 0, fd 26 22 "DUMMY" .wo 0, fd 21 21 "WRITE" .wo 0, fd 6 0 "LEN" .wo 0]⟩,
   ⟨0x4, 1, 1, "QSPI_ADDR", [fd 31 0 "ADDR" .rw 0]⟩,
   ⟨0x5, 1, 1, "QSPI_XFER_CNT", countW⟩,
   ⟨0x6, 1, 1, "QSPI_ERR_CNT", countW⟩,
   ⟨0x7, 1, 1, "QSPI_CS_HOLD", [fd 3 0 "CYCLES" .rw 0]⟩,
   ⟨0x8, 24, 1, "QSPI_BUF", whole .rw⟩]

/-- QSPI: spec/15_audio_midi_small_ports.md, section Registers. -/
def blkQspi : Blk := ⟨"QSPI", 0x263000, 0x1000, 1, rowsQspi⟩

def rowsEmc : List RegRow :=
  [⟨0x0, 1, 1, "EMC_CTL", [⟨3, 2, "BUS", .rw, 0, .range 0 2⟩, fd 1 1 "HS200" .rw 0, fd 0 0 "EN" .rw 0]⟩,
   ⟨0x1, 1, 1, "EMC_CLK", [⟨9, 0, "DIV", .rw, 1000, .range 2 1023⟩]⟩,
   ⟨0x2, 1, 1, "EMC_STATUS", [fd 6 6 "BUSY" .ro 0, fd 5 5 "TUNE_FAIL" .w1c 0, fd 4 4 "DATA_TO" .w1c 0, fd 3 3 "CMD_TO" .w1c 0, fd 2 2 "DATA_CRC" .w1c 0, fd 1 1 "CMD_CRC" .w1c 0, fd 0 0 "DONE" .w1c 0]⟩,
   ⟨0x3, 1, 1, "EMC_EVT_EN", [fd 5 0 "EN" .rw 0]⟩,
   ⟨0x4, 1, 1, "EMC_CMD", [fd 15 10 "INDEX" .wo 0, fd 9 8 "RSP" .wo 0, fd 7 7 "DATA" .wo 0, fd 6 6 "WRITE" .wo 0]⟩,
   ⟨0x5, 1, 1, "EMC_ARG", whole .rw⟩,
   ⟨0x6, 4, 1, "EMC_RESP", whole .ro⟩,
   ⟨0xa, 1, 1, "EMC_BLKCFG", [fd 15 0 "COUNT" .rw 0]⟩,
   ⟨0xb, 1, 1, "EMC_DATA", whole .rw⟩,
   ⟨0xc, 1, 1, "EMC_LEVEL", [fd 7 0 "WORDS" .ro 0]⟩,
   ⟨0xd, 1, 1, "EMC_TUNE", [fd 6 6 "START" .wo 0, fd 5 0 "PHASE" .ro 0]⟩,
   ⟨0xe, 1, 1, "EMC_TIMEOUT", [fd 15 0 "US" .rw 250]⟩,
   ⟨0xf, 1, 1, "EMC_INJECT", [fd 2 2 "DATA_TO" .wo 0, fd 1 1 "DATA_CRC" .wo 0, fd 0 0 "CMD_CRC" .wo 0]⟩,
   ⟨0x10, 1, 1, "EMC_CMD_CNT", countW⟩,
   ⟨0x11, 1, 1, "EMC_BLK_CNT", countW⟩,
   ⟨0x12, 1, 1, "EMC_CMD_CRC_CNT", countW⟩,
   ⟨0x13, 1, 1, "EMC_DATA_CRC_CNT", countW⟩,
   ⟨0x14, 1, 1, "EMC_CMD_TO_CNT", countW⟩,
   ⟨0x15, 1, 1, "EMC_DATA_TO_CNT", countW⟩,
   ⟨0x16, 1, 1, "EMC_TUNE_CNT", countW⟩,
   ⟨0x17, 1, 1, "EMC_CLK_STOP_CNT", countW⟩,
   ⟨0x18, 40, 1, "EMC_SNAP", whole .ro⟩]

/-- EMC: spec/15_audio_midi_small_ports.md, section Registers. -/
def blkEmc : Blk := ⟨"EMC", 0x264000, 0x1000, 1, rowsEmc⟩

def rowsGpio1 : List RegRow :=
  [⟨0x0, 1, 1, "GPIO_IN_LO", whole .ro⟩,
   ⟨0x1, 1, 1, "GPIO_IN_HI", [fd 7 0 "LINES" .ro 0]⟩,
   ⟨0x2, 1, 1, "GPIO_OUT_LO", whole .rw⟩,
   ⟨0x3, 1, 1, "GPIO_OUT_HI", [fd 7 0 "LINES" .rw 0]⟩,
   ⟨0x4, 1, 1, "GPIO_OUT_SET_LO", [fd 39 0 "LINES" .wo 0]⟩,
   ⟨0x5, 1, 1, "GPIO_OUT_SET_HI", [fd 7 0 "LINES" .wo 0]⟩,
   ⟨0x6, 1, 1, "GPIO_OUT_CLR_LO", [fd 39 0 "LINES" .wo 0]⟩,
   ⟨0x7, 1, 1, "GPIO_OUT_CLR_HI", [fd 7 0 "LINES" .wo 0]⟩,
   ⟨0x8, 1, 1, "GPIO_DIR_LO", whole .rw⟩,
   ⟨0x9, 1, 1, "GPIO_DIR_HI", [fd 7 0 "LINES" .rw 0]⟩,
   ⟨0xa, 1, 1, "GPIO_PULL_UP_LO", whole .rw⟩,
   ⟨0xb, 1, 1, "GPIO_PULL_UP_HI", [fd 7 0 "LINES" .rw 0]⟩,
   ⟨0xc, 1, 1, "GPIO_PULL_DN_LO", whole .rw⟩,
   ⟨0xd, 1, 1, "GPIO_PULL_DN_HI", [fd 7 0 "LINES" .rw 0]⟩,
   ⟨0xe, 1, 1, "GPIO_OPEN_DRAIN_LO", whole .rw⟩,
   ⟨0xf, 1, 1, "GPIO_OPEN_DRAIN_HI", [fd 7 0 "LINES" .rw 0]⟩,
   ⟨0x10, 1, 1, "GPIO_DRIVE_LO", whole .rw⟩,
   ⟨0x11, 1, 1, "GPIO_DRIVE_HI", [fd 7 0 "LINES" .rw 0]⟩,
   ⟨0x12, 1, 1, "GPIO_DEB_EN_LO", whole .rw⟩,
   ⟨0x13, 1, 1, "GPIO_DEB_EN_HI", [fd 7 0 "LINES" .rw 0]⟩,
   ⟨0x14, 1, 1, "GPIO_IRQ_RISE_LO", whole .rw⟩,
   ⟨0x15, 1, 1, "GPIO_IRQ_RISE_HI", [fd 7 0 "LINES" .rw 0]⟩,
   ⟨0x16, 1, 1, "GPIO_IRQ_FALL_LO", whole .rw⟩,
   ⟨0x17, 1, 1, "GPIO_IRQ_FALL_HI", [fd 7 0 "LINES" .rw 0]⟩]

def rowsGpio2 : List RegRow :=
  [⟨0x18, 1, 1, "GPIO_IRQ_STAT_LO", [fd 39 0 "LINES" .w1c 0]⟩,
   ⟨0x19, 1, 1, "GPIO_IRQ_STAT_HI", [fd 7 0 "LINES" .w1c 0]⟩,
   ⟨0x1a, 1, 1, "GPIO_EVT_EN_LO", whole .rw⟩,
   ⟨0x1b, 1, 1, "GPIO_EVT_EN_HI", [fd 7 0 "LINES" .rw 0]⟩,
   ⟨0x1c, 1, 1, "GPIO_LAST_LINE", [fd 5 0 "LINE" .ro 0]⟩,
   ⟨0x1d, 1, 1, "GPIO_LAST_TICK", whole .ro⟩,
   ⟨0x1e, 1, 1, "GPIO_DEB_TIME", [fd 9 0 "US" .rw 10]⟩,
   ⟨0x1f, 1, 1, "GPIO_EVT_CNT", countW⟩,
   ⟨0x20, 32, 1, "GPIO_SNAP", whole .ro⟩]

/-- GPIO: spec/15_audio_midi_small_ports.md, section Registers. -/
def blkGpio : Blk := ⟨"GPIO", 0x265000, 0x1000, 1, rowsGpio1 ++ rowsGpio2⟩

def rowsEth1 : List RegRow :=
  [⟨0x0, 1, 1, "ETH_ID", [fd 7 0 "QUEUES" .ro 8]⟩,
   ⟨0x1, 1, 1, "ETH_CTL", [fd 15 8 "STREAM_Q" .rw 0, fd 7 7 "RXC_DLY" .rw 0, fd 6 6 "TXC_DLY" .rw 0, fd 5 5 "KEEP_BAD" .rw 0, fd 4 4 "PROMISC" .rw 0, fd 3 3 "PAUSE_IGNORE" .rw 0, fd 2 2 "SPEED" .rw 0, fd 1 1 "RX_EN" .rw 0, fd 0 0 "TX_EN" .rw 0]⟩,
   ⟨0x2, 1, 1, "ETH_STATUS", [fd 5 5 "FMT_ERR" .w1c 0, fd 4 4 "PT_MISS" .w1c 0, fd 3 3 "BUF_PARITY" .w1c 0, fd 2 2 "FIFO_DROP" .w1c 0, fd 1 1 "CFG_ERR" .w1c 0, fd 0 0 "PAUSED" .ro 0]⟩,
   ⟨0x3, 1, 1, "ETH_EVT_EN", [fd 5 1 "EN" .rw 0]⟩,
   ⟨0x4, 1, 1, "ETH_MAC_LO", whole .rw⟩,
   ⟨0x5, 1, 1, "ETH_MAC_HI", [fd 7 0 "OCTET5" .rw 0]⟩,
   ⟨0x6, 1, 1, "ETH_HASH_LO", whole .rw⟩,
   ⟨0x7, 1, 1, "ETH_HASH_HI", [fd 23 0 "HASH" .rw 0]⟩,
   ⟨0x8, 1, 1, "ETH_MAXLEN", [⟨13, 0, "OCTETS", .rw, 1522, .range 64 9600⟩]⟩,
   ⟨0x9, 1, 1, "ETH_CLS", [fd 32 32 "PCP_EN" .rw 0, fd 31 8 "PCP_MAP" .rw 0, fd 6 6 "PTP_EN" .rw 0, fd 5 3 "PTP_Q" .rw 0, fd 2 0 "DEF_Q" .rw 0]⟩,
   ⟨0xa, 1, 1, "ETH_PAUSE", [fd 15 0 "REMAIN" .ro 0]⟩,
   ⟨0xb, 1, 1, "ETH_MDIO_CMD", [fd 28 28 "CL45" .wo 0, fd 27 26 "OP" .wo 0, fd 25 21 "PHYAD" .wo 0, fd 20 16 "REG" .wo 0, fd 15 0 "DATA" .wo 0]⟩,
   ⟨0xc, 1, 1, "ETH_MDIO_DATA", [fd 16 16 "BUSY" .ro 0, fd 15 0 "DATA" .ro 0]⟩,
   ⟨0xd, 1, 1, "ETH_ERR_INFO", [fd 2 0 "QUEUE" .ro 0]⟩,
   ⟨0xe, 1, 1, "ETH_INJECT", [fd 0 0 "PARITY" .wo 0]⟩,
   ⟨0xf, 1, 1, "ETH_TS_LAT", [fd 15 8 "RX" .ro 0, fd 7 0 "TX" .ro 0]⟩,
   ⟨0x10, 1, 1, "ETH_SMAP_TICK_LO", whole .rw⟩,
   ⟨0x11, 1, 1, "ETH_SMAP_TICK_HI", whole .rw⟩,
   ⟨0x12, 1, 1, "ETH_SMAP_NS_LO", whole .rw⟩,
   ⟨0x13, 1, 1, "ETH_SMAP_NS_HI", whole .rw⟩,
   ⟨0x14, 1, 1, "ETH_SMAP_SCALE", whole .rw⟩,
   ⟨0x15, 1, 1, "ETH_SMAP_COMMIT", whole .rw⟩,
   ⟨0x16, 2, 4, "ETH_CBS_SLOPE", [fd 39 39 "CBS_EN" .rw 0, fd 19 0 "IDLE_SLOPE" .rw 0]⟩,
   ⟨0x17, 2, 4, "ETH_CBS_HI_CREDIT", [fd 31 0 "CREDIT" .rw 0]⟩]

def rowsEth2 : List RegRow :=
  [⟨0x18, 2, 4, "ETH_CBS_LO_CREDIT", [fd 31 0 "CREDIT" .rw 0]⟩,
   ⟨0x19, 2, 4, "ETH_CBS_CREDIT", [fd 31 0 "CREDIT" .ro 0]⟩,
   ⟨0x1e, 1, 1, "ETH_TXQ_STAT", [fd 7 0 "READY" .ro 0]⟩,
   ⟨0x1f, 1, 1, "ETH_RXQ_STAT", [fd 7 0 "FRAMES" .ro 0]⟩,
   ⟨0x20, 1, 1, "ETH_TX_FRAME_CNT", countW⟩,
   ⟨0x21, 1, 1, "ETH_TX_OCTET_CNT", countW⟩,
   ⟨0x22, 1, 1, "ETH_RX_FRAME_CNT", countW⟩,
   ⟨0x23, 1, 1, "ETH_RX_OCTET_CNT", countW⟩,
   ⟨0x24, 1, 1, "ETH_RX_FCS_ERR_CNT", countW⟩,
   ⟨0x25, 1, 1, "ETH_RX_LEN_ERR_CNT", countW⟩,
   ⟨0x26, 1, 1, "ETH_RX_FILTER_CNT", countW⟩,
   ⟨0x27, 1, 1, "ETH_RX_FIFO_DROP_CNT", countW⟩,
   ⟨0x28, 1, 1, "ETH_PAUSE_RX_CNT", countW⟩,
   ⟨0x29, 1, 1, "ETH_PAUSE_ZERO_CNT", countW⟩,
   ⟨0x2a, 1, 1, "ETH_CTRL_DROP_CNT", countW⟩,
   ⟨0x2b, 1, 1, "ETH_TX_LEN_ERR_CNT", countW⟩,
   ⟨0x2c, 1, 1, "ETH_TX_ABORT_CNT", countW⟩,
   ⟨0x2d, 1, 1, "ETH_SHED_DROP_CNT", countW⟩,
   ⟨0x2e, 1, 1, "ETH_PAUSED_TIME_CNT", countW⟩,
   ⟨0x2f, 1, 1, "ETH_AAF_CLS_DROP_CNT", countW⟩,
   ⟨0x40, 8, 4, "ETH_TXQ_FRAME_CNT", countW⟩,
   ⟨0x41, 8, 4, "ETH_TXQ_OCTET_CNT", countW⟩,
   ⟨0x42, 8, 4, "ETH_TXQ_PAUSED_CNT", countW⟩,
   ⟨0x43, 8, 4, "ETH_TXQ_LAST_TS", whole .ro⟩]

def rowsEth3 : List RegRow :=
  [⟨0x60, 8, 4, "ETH_RXQ_FRAME_CNT", countW⟩,
   ⟨0x61, 8, 4, "ETH_RXQ_OCTET_CNT", countW⟩,
   ⟨0x62, 8, 4, "ETH_RXQ_FIFO_DROP_CNT", countW⟩,
   ⟨0x63, 8, 4, "ETH_RXQ_LAST_TS", whole .ro⟩,
   ⟨0x80, 16, 8, "ETH_AAF_CFG", [fd 39 39 "EN" .rw 0, fd 38 38 "DIR" .rw 0, fd 37 35 "QUEUE" .rw 0, ⟨34, 33, "FORMAT", .rw, 0, .range 0 2⟩, ⟨32, 29, "NSR", .rw, 0, .two 0 0 3 9⟩, ⟨28, 20, "SPP", .rw, 0, .range 0 511⟩, fd 19 15 "CHANNELS_M1" .rw 0, fd 14 12 "PCP" .rw 0, fd 11 0 "VID" .rw 0]⟩,
   ⟨0x81, 16, 8, "ETH_AAF_DA_LO", whole .rw⟩,
   ⟨0x82, 16, 8, "ETH_AAF_DA_HI", [fd 7 0 "OCTET5" .rw 0]⟩,
   ⟨0x83, 16, 8, "ETH_AAF_ID_LO", whole .rw⟩,
   ⟨0x84, 16, 8, "ETH_AAF_ID_HI", [fd 23 0 "ID" .rw 0]⟩,
   ⟨0x85, 16, 8, "ETH_AAF_TRANSIT", [fd 31 0 "NS" .rw 0]⟩,
   ⟨0x86, 16, 8, "ETH_AAF_STAT", [fd 10 8 "LAST_SEQ" .ro 0, fd 1 1 "SEQ_GAP" .w1c 0, fd 0 0 "FMT_ERR" .w1c 0]⟩,
   ⟨0x87, 16, 8, "ETH_AAF_PT_MISS_CNT", countW⟩,
   ⟨0x100, 20, 1, "ETH_SNAP", whole .ro⟩]

/-- ETH: spec/16_ethernet_usb.md, section Registers. -/
def blkEth : Blk := ⟨"ETH", 0x268000, 0x1000, 1, rowsEth1 ++ rowsEth2 ++ rowsEth3⟩

def rowsUsb1 : List RegRow :=
  [⟨0x0, 1, 1, "USB_ID", [fd 3 0 "ENDPOINTS" .ro 8]⟩,
   ⟨0x1, 1, 1, "USB_CTL", [fd 3 3 "WAKE" .wo 0, fd 2 2 "HS_EN" .rw 1, fd 1 1 "CONNECT" .rw 0, fd 0 0 "EN" .rw 0]⟩,
   ⟨0x2, 1, 1, "USB_STATUS", [fd 12 12 "BUF_PARITY" .w1c 0, fd 11 11 "FB_UPDATE" .w1c 0, fd 10 10 "CFG_ERR" .w1c 0, fd 9 9 "EP_ERR" .w1c 0, fd 8 8 "EP0_DONE" .w1c 0, fd 7 7 "SETUP" .w1c 0, fd 6 6 "SOF" .w1c 0, fd 5 5 "RESUME" .w1c 0, fd 4 4 "SUSPEND" .w1c 0, fd 3 3 "BUS_RESET" .w1c 0, fd 2 2 "SUSPENDED" .ro 0, fd 1 0 "SPEED" .ro 0]⟩,
   ⟨0x3, 1, 1, "USB_EVT_EN", [fd 12 3 "EN" .rw 0]⟩,
   ⟨0x4, 1, 1, "USB_ADDR", [fd 6 0 "ADDR" .rw 0]⟩,
   ⟨0x5, 1, 1, "USB_FRAME", whole .ro⟩,
   ⟨0x6, 1, 1, "USB_SOF_TICK", whole .ro⟩,
   ⟨0x7, 1, 1, "USB_EP0_CTL", [fd 3 3 "STATUS_ACK" .wo 0, fd 2 2 "RECV" .wo 0, fd 1 1 "SEND" .wo 0, fd 0 0 "STALL" .w1s 0]⟩,
   ⟨0x8, 1, 1, "USB_EP0_STATUS", [fd 10 4 "OUT_LEN" .ro 0, fd 3 0 "STAGE_DONE" .ro 0]⟩,
   ⟨0x9, 1, 1, "USB_EP0_SETUP_0", whole .ro⟩,
   ⟨0xa, 1, 1, "USB_EP0_SETUP_1", whole .ro⟩,
   ⟨0xb, 1, 1, "USB_EP0_LEN", [⟨6, 0, "LEN", .rw, 0, .range 0 64⟩]⟩,
   ⟨0xc, 1, 1, "USB_TEST", [⟨2, 0, "MODE", .rw, 0, .range 0 4⟩]⟩,
   ⟨0xd, 1, 1, "USB_ERR_INFO", [fd 4 4 "OUT" .ro 0, fd 3 0 "EP" .ro 0]⟩,
   ⟨0xe, 1, 1, "USB_PHY_TUNE", [fd 11 8 "TERM" .rw 8, fd 7 4 "AMP" .rw 8, fd 3 0 "SLEW" .rw 8]⟩,
   ⟨0xf, 1, 1, "USB_INJECT", [fd 0 0 "PARITY" .wo 0]⟩,
   ⟨0x10, 13, 1, "USB_EP0_BUF", whole .rw⟩,
   ⟨0x20, 2, 4, "USB_FB_CTL", [⟨11, 8, "P", .rw, 0, .range 0 10⟩, fd 7 5 "SEL" .rw 0, fd 4 4 "SRC" .rw 0, fd 3 1 "EP_M1" .rw 0, fd 0 0 "EN" .rw 0]⟩,
   ⟨0x21, 2, 4, "USB_FB_VALUE", [fd 31 0 "VALUE" .ro 0]⟩,
   ⟨0x22, 2, 4, "USB_FB_ADJ", whole .rw⟩,
   ⟨0x23, 2, 4, "USB_FB_CNT", countW⟩,
   ⟨0x28, 1, 1, "USB_SOF_CNT", countW⟩,
   ⟨0x29, 1, 1, "USB_RESET_CNT", countW⟩,
   ⟨0x2a, 1, 1, "USB_SUSPEND_CNT", countW⟩]

def rowsUsb2 : List RegRow :=
  [⟨0x2b, 1, 1, "USB_RESUME_CNT", countW⟩,
   ⟨0x2c, 1, 1, "USB_SETUP_CNT", countW⟩,
   ⟨0x2d, 1, 1, "USB_CRC_ERR_CNT", countW⟩,
   ⟨0x2e, 1, 1, "USB_PID_ERR_CNT", countW⟩,
   ⟨0x2f, 1, 1, "USB_BITSTUFF_ERR_CNT", countW⟩,
   ⟨0x30, 1, 1, "USB_TIMEOUT_CNT", countW⟩,
   ⟨0x31, 1, 1, "USB_BABBLE_CNT", countW⟩,
   ⟨0x32, 1, 1, "USB_SOF_MISS_CNT", countW⟩,
   ⟨0x33, 1, 1, "USB_SHED_NAK_CNT", countW⟩,
   ⟨0x34, 1, 1, "USB_RX_PKT_CNT", countW⟩,
   ⟨0x35, 1, 1, "USB_TX_PKT_CNT", countW⟩,
   ⟨0x36, 1, 1, "USB_DISCONNECT_CNT", countW⟩,
   ⟨0x37, 1, 1, "USB_TOGGLE_ERR_CNT", countW⟩,
   ⟨0x40, 8, 8, "USB_EPIN_CFG", [fd 21 21 "RESET_TOGGLE" .wo 0, fd 20 20 "EN" .rw 0, fd 19 19 "STALL" .rw 0, ⟨18, 17, "TYPE", .rw, 0, .range 1 3⟩, ⟨16, 15, "MULT", .rw, 0, .range 1 3⟩, fd 14 11 "INTERVAL_M1" .rw 0, fd 10 0 "MPS" .rw 0]⟩,
   ⟨0x41, 8, 8, "USB_EPIN_STAT", [fd 3 3 "TOGGLE" .ro 0, fd 2 2 "BABBLE" .w1c 0, fd 1 1 "DROP" .w1c 0, fd 0 0 "STALLED" .ro 0]⟩,
   ⟨0x42, 8, 8, "USB_EPIN_XFER_MAX", []⟩,
   ⟨0x43, 8, 8, "USB_EPIN_PKT_CNT", countW⟩,
   ⟨0x44, 8, 8, "USB_EPIN_OCTET_CNT", countW⟩,
   ⟨0x45, 8, 8, "USB_EPIN_NAK_CNT", countW⟩,
   ⟨0x46, 8, 8, "USB_EPIN_DROP_CNT", countW⟩,
   ⟨0x47, 8, 8, "USB_EPIN_LAST_TICK", whole .ro⟩,
   ⟨0x80, 8, 8, "USB_EPOUT_CFG", [fd 21 21 "RESET_TOGGLE" .wo 0, fd 20 20 "EN" .rw 0, fd 19 19 "STALL" .rw 0, ⟨18, 17, "TYPE", .rw, 0, .range 1 3⟩, ⟨16, 15, "MULT", .rw, 0, .range 1 3⟩, fd 14 11 "INTERVAL_M1" .rw 0, fd 10 0 "MPS" .rw 0]⟩,
   ⟨0x81, 8, 8, "USB_EPOUT_STAT", [fd 3 3 "TOGGLE" .ro 0, fd 2 2 "BABBLE" .w1c 0, fd 1 1 "DROP" .w1c 0, fd 0 0 "STALLED" .ro 0]⟩,
   ⟨0x82, 8, 8, "USB_EPOUT_XFER_MAX", [fd 15 0 "OCTETS" .rw 0]⟩]

def rowsUsb3 : List RegRow :=
  [⟨0x83, 8, 8, "USB_EPOUT_PKT_CNT", countW⟩,
   ⟨0x84, 8, 8, "USB_EPOUT_OCTET_CNT", countW⟩,
   ⟨0x85, 8, 8, "USB_EPOUT_NAK_CNT", countW⟩,
   ⟨0x86, 8, 8, "USB_EPOUT_DROP_CNT", countW⟩,
   ⟨0x87, 8, 8, "USB_EPOUT_LAST_TICK", whole .ro⟩,
   ⟨0xc0, 19, 1, "USB_SNAP", whole .ro⟩]

/-- USB: spec/16_ethernet_usb.md, section Registers. -/
def blkUsb : Blk := ⟨"USB", 0x269000, 0x1000, 1, rowsUsb1 ++ rowsUsb2 ++ rowsUsb3⟩

def rowsFgt1 : List RegRow :=
  [⟨0x0, 1, 1, "FGT_ID", [fd 12 8 "CHANNELS" .ro 24, fd 7 0 "CONTACTS_M1" .ro 255]⟩,
   ⟨0x1, 1, 1, "FGT_CTL", [fd 1 1 "RELOAD" .wo 0, fd 0 0 "EN" .rw 0]⟩,
   ⟨0x2, 1, 1, "FGT_STATUS", [fd 6 6 "CAL_DEFAULT" .ro 0, fd 5 5 "CAL_FALLBACK" .ro 0, fd 4 4 "DROP" .w1c 0, fd 3 3 "SEQ_ERR" .w1c 0, fd 2 2 "HELD" .w1c 0, fd 1 1 "RELOADED" .w1c 0, fd 0 0 "RUNNING" .ro 0]⟩,
   ⟨0x3, 1, 1, "FGT_EVT_EN", [fd 4 1 "EN" .rw 0]⟩,
   ⟨0x4, 1, 1, "FGT_SCAN", [fd 10 9 "DEB" .rw 0, ⟨8, 0, "SCAN_US", .rw, 100, .range 50 400⟩]⟩,
   ⟨0x5, 1, 1, "FGT_KEYS", [fd 8 8 "MODE" .rw 0, fd 7 0 "KEYS" .rw 0]⟩,
   ⟨0x6, 1, 1, "FGT_CAL_SEL", [fd 8 0 "WORD" .rw 0]⟩,
   ⟨0x7, 1, 1, "FGT_CAL_DATA", whole .ro⟩,
   ⟨0x8, 1, 1, "FGT_QUEUE", [fd 13 7 "HIGH" .ro 0, fd 6 0 "QUEUED" .ro 0]⟩,
   ⟨0x9, 1, 1, "FGT_ERR_INFO", [fd 11 8 "KIND" .ro 0, fd 7 0 "KEY" .ro 0]⟩,
   ⟨0xa, 1, 1, "FGT_START_TICK", whole .ro⟩,
   ⟨0xb, 1, 1, "FGT_LAST_TICK", whole .ro⟩,
   ⟨0xc, 1, 1, "FGT_HOT", [fd 15 0 "LINES" .ro 0]⟩,
   ⟨0xd, 1, 1, "FGT_INJECT", [fd 1 1 "SEQ" .wo 0, fd 0 0 "DROP" .wo 0]⟩,
   ⟨0xe, 1, 1, "FGT_AIN_EN", [fd 23 0 "EN" .rw 0]⟩,
   ⟨0xf, 1, 1, "FGT_CAL_HDR", [fd 39 32 "FORMAT" .ro 0, fd 31 8 "SEQ" .ro 0, fd 1 0 "SOURCE" .ro 0]⟩,
   ⟨0x10, 1, 1, "FGT_SCAN_CNT", countW⟩,
   ⟨0x11, 1, 1, "FGT_NOTE_ON_CNT", countW⟩,
   ⟨0x12, 1, 1, "FGT_NOTE_OFF_CNT", countW⟩,
   ⟨0x13, 1, 1, "FGT_RESTRIKE_CNT", countW⟩,
   ⟨0x14, 1, 1, "FGT_HELD_CNT", countW⟩,
   ⟨0x15, 1, 1, "FGT_SWITCH_CNT", countW⟩,
   ⟨0x16, 1, 1, "FGT_AIN_EVT_CNT", countW⟩,
   ⟨0x17, 1, 1, "FGT_AIN_COALESCE_CNT", countW⟩]

def rowsFgt2 : List RegRow :=
  [⟨0x18, 1, 1, "FGT_DROP_CNT", countW⟩,
   ⟨0x19, 1, 1, "FGT_SEQ_ERR_CNT", countW⟩,
   ⟨0x1a, 1, 1, "FGT_CHASE_CNT", countW⟩,
   ⟨0x1b, 1, 1, "FGT_RELOAD_CNT", countW⟩,
   ⟨0x1c, 1, 1, "FGT_CAL_FALLBACK_CNT", countW⟩,
   ⟨0x1d, 1, 1, "FGT_AIN_DISCARD_CNT", countW⟩,
   ⟨0x1e, 1, 1, "FGT_HOLD_CNT", countW⟩,
   ⟨0x1f, 1, 1, "FGT_EVENT_CNT", countW⟩,
   ⟨0x20, 7, 1, "FGT_CONTACT", whole .ro⟩,
   ⟨0x28, 16, 1, "FGT_KEY_STATE", [fd 31 0 "STATES" .ro 0]⟩,
   ⟨0x40, 24, 2, "FGT_AIN_CFG", [fd 13 4 "DEADBAND" .rw 0, fd 2 0 "SHIFT" .rw 0]⟩,
   ⟨0x41, 24, 2, "FGT_AIN_VAL", [fd 30 30 "VALID" .ro 0, fd 29 16 "RAW" .ro 0, fd 13 0 "L" .ro 0]⟩,
   ⟨0x80, 128, 1, "FGT_KEY_LAST", whole .ro⟩,
   ⟨0x100, 69, 1, "FGT_SNAP", whole .ro⟩]

/-- FGT: spec/17_fingertip_keep.md, section Registers. -/
def blkFgt : Blk := ⟨"FGT", 0x270000, 0x1000, 1, rowsFgt1 ++ rowsFgt2⟩

def rowsKep : List RegRow :=
  [⟨0x0, 1, 1, "KEP_ID", [fd 15 8 "PAGES_M1" .ro 255, fd 7 0 "PAGE_WORDS_M1" .ro 255]⟩,
   ⟨0x1, 1, 1, "KEP_STATUS", [fd 5 5 "PRESENCE" .ro 0, fd 4 4 "BUSY" .ro 0, fd 3 3 "UE" .w1c 0, fd 2 2 "PROT" .w1c 0, fd 1 1 "CMD_DONE" .w1c 0]⟩,
   ⟨0x2, 1, 1, "KEP_EVT_EN", [fd 3 1 "EN" .rw 0]⟩,
   ⟨0x3, 1, 1, "KEP_CMD", [fd 3 0 "OP" .wo 0]⟩,
   ⟨0x4, 1, 1, "KEP_CMD_RESULT", [fd 3 0 "RESULT" .ro 0]⟩,
   ⟨0x5, 1, 1, "KEP_ERR_ADDR", [fd 33 0 "PA" .ro 0]⟩,
   ⟨0x6, 1, 1, "KEP_ERR_INFO", [fd 9 2 "SYNDROME" .ro 0, fd 1 0 "KIND" .ro 0]⟩,
   ⟨0x7, 1, 1, "KEP_INJECT", [fd 1 1 "DOUBLE" .wo 0, fd 0 0 "SINGLE" .wo 0]⟩,
   ⟨0x8, 5, 1, "KEP_WP", [fd 39 0 "PAGES" .w1s 0]⟩,
   ⟨0xd, 1, 1, "KEP_WP_5", [fd 23 0 "PAGES" .w1s 0]⟩,
   ⟨0xe, 1, 1, "KEP_WR_CNT", countW⟩,
   ⟨0xf, 1, 1, "KEP_RD_CNT", countW⟩,
   ⟨0x10, 1, 1, "KEP_PROT_CNT", countW⟩,
   ⟨0x11, 1, 1, "KEP_CE_CNT", countW⟩,
   ⟨0x12, 1, 1, "KEP_UE_CNT", countW⟩,
   ⟨0x13, 5, 1, "KEP_SNAP", whole .ro⟩]

/-- KEP: spec/17_fingertip_keep.md, section Registers. -/
def blkKep : Blk := ⟨"KEP", 0x271000, 0x1000, 1, rowsKep⟩

def rowsPair : List RegRow :=
  [⟨0x0, 1, 1, "PAIR_CTL", [fd 15 13 "NOTIFY" .rw 0, ⟨10, 9, "POLICY", .lk, 0, .range 0 1⟩, ⟨8, 2, "DELAY", .rw, 16, .range 8 64⟩, fd 0 0 "EN" .rw 0]⟩,
   ⟨0x1, 1, 1, "PAIR_STAT", [fd 15 15 "HALF_B" .ro 0, fd 14 14 "HALF_A" .ro 0, fd 13 7 "LAG" .ro 0, fd 6 4 "LAST_FAULT" .ro 0, fd 3 3 "EN_REFUSED" .w1c 0, fd 2 2 "SPLIT" .ro 0, fd 1 1 "STOPPED" .ro 0, fd 0 0 "ACTIVE" .ro 0]⟩,
   ⟨0x2, 1, 1, "PAIR_CANARY", [⟨15, 0, "PERIOD", .rw, 4096, .range 64 65535⟩]⟩,
   ⟨0x3, 1, 1, "PAIR_INJECT", [fd 3 3 "DISAGREE" .wo 0, fd 2 2 "MISS_CANARY" .wo 0, fd 1 1 "PARITY" .wo 0, fd 0 0 "MISMATCH" .wo 0]⟩,
   ⟨0x4, 1, 1, "PAIR_GROUPS", whole .ro⟩,
   ⟨0x5, 1, 1, "PAIR_CANARY_CNT", whole .ro⟩,
   ⟨0x6, 1, 1, "PAIR_SELF_CNT", whole .ro⟩,
   ⟨0x7, 1, 1, "PAIR_MISMATCH_CNT", whole .ro⟩,
   ⟨0x8, 1, 1, "PAIR_FAULT_GROUP", whole .ro⟩,
   ⟨0x9, 1, 1, "PAIR_FAULT_EPC", whole .ro⟩,
   ⟨0xa, 1, 1, "PAIR_LEAD_SIG", whole .ro⟩,
   ⟨0xb, 1, 1, "PAIR_TRAIL_SIG", whole .ro⟩,
   ⟨0xc, 1, 1, "PAIR_FAULT_ADDR", whole .ro⟩,
   ⟨0xd, 1, 1, "PAIR_LEAD_DATA", whole .ro⟩,
   ⟨0xe, 1, 1, "PAIR_TRAIL_DATA", whole .ro⟩,
   ⟨0xf, 1, 1, "PAIR_HIGH_WATER", whole .ro⟩,
   ⟨0x10, 8, 1, "PAIR_SNAP", whole .ro⟩]

/-- PAIR: spec/06_paced_mode_glove_pairs.md, section Registers. -/
def blkPair : Blk := ⟨"PAIR", 0x278000, 0x20, 4, rowsPair⟩

def rowsHat : List RegRow :=
  [⟨0x0, 1, 1, "HAT_ID", [fd 5 0 "HOLDERS" .ro 47]⟩,
   ⟨0x1, 1, 1, "HAT_CTL", [fd 8 4 "SRC_EN" .rw 31, fd 3 3 "EVT_EN" .rw 0, fd 2 2 "DRIVE" .rw 1, fd 1 1 "TRIG" .wo 0, fd 0 0 "ARM" .w1s 0]⟩,
   ⟨0x2, 1, 1, "HAT_STATUS", [fd 11 9 "FIRST" .ro 0, fd 8 4 "SRC" .ro 0, fd 2 2 "BUSY" .ro 0, fd 1 1 "LATCHED" .ro 0, fd 0 0 "ARMED" .ro 1]⟩,
   ⟨0x3, 1, 1, "HAT_CAUSE_INFO", [fd 31 29 "PROBE" .ro 0, fd 24 24 "LOST" .ro 0, fd 23 16 "KIND" .ro 0, fd 15 0 "SEQ" .ro 0]⟩,
   ⟨0x4, 1, 1, "HAT_LATCH_TICK_LO", whole .ro⟩,
   ⟨0x5, 1, 1, "HAT_LATCH_TICK_HI", whole .ro⟩,
   ⟨0x6, 1, 1, "HAT_MISSED_CNT", countW⟩,
   ⟨0x7, 1, 1, "HAT_LATCH_CNT", countW⟩,
   ⟨0x8, 1, 1, "HAT_PIN", [fd 1 1 "DRIVING" .ro 0, fd 0 0 "LEVEL" .ro 0]⟩,
   ⟨0x9, 1, 1, "HAT_DELAY", [fd 9 0 "EDGES" .rw 0]⟩,
   ⟨0xa, 1, 1, "HAT_VALID_LO", whole .ro⟩,
   ⟨0xb, 1, 1, "HAT_VALID_HI", whole .ro⟩,
   ⟨0xc, 4, 1, "HAT_TRIG_REC", whole .ro⟩,
   ⟨0x10, 6, 1, "HAT_KIND_EN", [fd 39 0 "EN" .rw 1099511627775]⟩,
   ⟨0x16, 1, 1, "HAT_KIND_EN_6", [fd 15 0 "EN" .rw 65535]⟩,
   ⟨0x17, 1, 1, "HAT_HIST_PTR", [fd 2 0 "PTR" .ro 0]⟩,
   ⟨0x18, 8, 2, "HAT_HIST_TICK", whole .ro⟩,
   ⟨0x19, 8, 2, "HAT_HIST_CAUSE", whole .ro⟩]

/-- HAT: spec/20_hatcheck_debug_errors.md, section Registers. -/
def blkHat : Blk := ⟨"HAT", 0x279000, 0x1000, 1, rowsHat⟩

def rowsDbg : List RegRow :=
  [⟨0x0, 1, 1, "DBG_ID", [fd 3 0 "AGENT" .ro 11]⟩,
   ⟨0x1, 1, 1, "DBG_STATUS", [fd 1 1 "UNLOCKED" .ro 0, fd 0 0 "JTAG_ACTIVE" .ro 0]⟩,
   ⟨0x2, 1, 1, "DBG_CORE_HALT", [fd 7 0 "CORES" .w1s 0]⟩,
   ⟨0x3, 1, 1, "DBG_CORE_RESUME", [fd 7 0 "CORES" .w1s 0]⟩,
   ⟨0x4, 1, 1, "DBG_CORE_STEP", [fd 7 0 "CORES" .w1s 0]⟩,
   ⟨0x5, 1, 1, "DBG_CORE_STAT", [fd 8 8 "REFUSED" .w1c 0, fd 7 0 "HALTED" .ro 0]⟩,
   ⟨0x6, 1, 1, "DBG_JTAG_ADDR", [fd 33 0 "ADDR" .ro 0]⟩,
   ⟨0x7, 1, 1, "DBG_ACCESS_CNT", countW⟩,
   ⟨0x8, 1, 1, "DBG_LOCKED_CNT", countW⟩,
   ⟨0x9, 1, 1, "DBG_MBOX_IN_STAT", [fd 7 7 "FULL" .rw 0, ⟨6, 0, "LEN", .rw, 0, .range 0 64⟩]⟩,
   ⟨0xa, 1, 1, "DBG_MBOX_OUT_STAT", [fd 7 7 "FULL" .rw 0, ⟨6, 0, "LEN", .rw, 0, .range 0 64⟩]⟩,
   ⟨0xb, 1, 1, "DBG_IDCODE", [fd 31 0 "IDCODE" .ro 730072179]⟩,
   ⟨0xc, 1, 1, "DBG_EVT", [fd 2 2 "HALTED" .w1c 0, fd 1 1 "OUT_EMPTY" .w1c 0, fd 0 0 "IN_FULL" .w1c 0]⟩,
   ⟨0xd, 1, 1, "DBG_EVT_EN", [fd 2 0 "EN" .rw 0]⟩,
   ⟨0xe, 1, 1, "DBG_LAST_OP", [fd 7 0 "OP" .ro 0]⟩,
   ⟨0xf, 1, 1, "DBG_STEP_CNT", countW⟩,
   ⟨0x10, 8, 1, "DBG_CORE_PC", whole .ro⟩,
   ⟨0x18, 8, 1, "DBG_CORE_HALT_CNT", countW⟩,
   ⟨0x20, 64, 1, "DBG_MBOX_IN", whole .rw⟩,
   ⟨0x60, 64, 1, "DBG_MBOX_OUT", whole .rw⟩]

/-- DBG: spec/20_hatcheck_debug_errors.md, section Registers. -/
def blkDbg : Blk := ⟨"DBG", 0x27a000, 0x1000, 1, rowsDbg⟩

def rowsHpt : List RegRow :=
  [⟨0x0, 1, 1, "HPT_CTL", [fd 0 0 "EN" .lk 1]⟩,
   ⟨0x1, 1, 1, "HPT_STATUS", [fd 18 18 "BUSY_REJECT" .w1c 0, fd 17 17 "OVERFLOW" .w1c 0, fd 16 16 "FRAME_ERR" .w1c 0, fd 15 15 "CRC_ERR" .w1c 0, fd 14 14 "REQ_READY" .w1c 0, fd 13 7 "RSP_LEVEL" .ro 0, fd 6 0 "REQ_LEVEL" .ro 0]⟩,
   ⟨0x2, 1, 1, "HPT_EVT_EN", [fd 18 14 "EN" .rw 0]⟩,
   ⟨0x3, 1, 1, "HPT_REQ_CNT", countW⟩,
   ⟨0x4, 1, 1, "HPT_CRC_ERR_CNT", countW⟩,
   ⟨0x5, 1, 1, "HPT_FRAME_ERR_CNT", countW⟩,
   ⟨0x6, 1, 1, "HPT_OVF_CNT", countW⟩,
   ⟨0x7, 1, 1, "HPT_RSP_CNT", countW⟩,
   ⟨0x8, 1, 1, "HPT_LAST_TICK", whole .ro⟩,
   ⟨0x9, 7, 1, "HPT_LAST_REQ", whole .ro⟩,
   ⟨0x10, 8, 1, "HPT_SNAP", whole .ro⟩]

/-- HPT: spec/15_audio_midi_small_ports.md, section Registers. -/
def blkHpt : Blk := ⟨"HPT", 0x27f000, 0x1000, 1, rowsHpt⟩

/-- Every block of R692; the ring registers (R444) are kept by ring at 400000h + 10h × ring, outside the pages. -/
def blocks : List Blk := [blkSys, blkBsq, blkPwr, blkTb, blkEiu, blkCore, blkHs, blkDmc, blkFab, blkPrb, blkCuf, blkCns, blkSeg, blkSef, blkRing, blkAud, blkMid, blkI2c, blkQspi, blkEmc, blkGpio, blkEth, blkUsb, blkFgt, blkKep, blkPair, blkHat, blkDbg, blkHpt]

end Sys2Proof.Machine
end

