-- ==== Sys2Proof/Machine/State.lean ====
section
/-!
DEFINITION. Everything the spec gives the machine, as plain data. Registers live in one sparse register file (`State.regs`, unlisted: the
reset value of `Machine/RegTable.lean`); what no register shows is in the records below, each with the rule that names it.
-/
namespace Sys2Proof.Machine

/-- No command ends in a fault: the spec answers every failure with a status, a record, an exception or a state, all of them next
states. -/
inductive Fault where
deriving DecidableEq, Repr

/-- Why a command has no meaning. -/
inductive Refusal where
  /-- Raised only by an arm of `exec` whose command has no meaning yet. Safe. -/
  | notModelled (mnemonic : String)
deriving DecidableEq, Repr

/-! ### Stored words -/

/-- The mark stored with a word: good; poisoned (R301, R493); a stored one- or two-bit error (R618, R752); a content the spec
calls undefined (R506). -/
inductive Mark where
  | good | poison | one | two | undef
deriving DecidableEq, Repr

/-- A stored word with its mark. -/
structure MWord where
  v : Word
  mark : Mark
deriving DecidableEq, Repr

def MWord.zero : MWord := ⟨0, .good⟩

/-- The words of a line or transfer, ascending address; a line has 16 (R265). -/
abbrev Line := List MWord

/-- A memory: addresses strictly rising, no entry equal to `MWord.zero` (`Memory.wf`). -/
abbrev Memory := SMap MWord

/-! ### The error log and Hatcheck (chapter 20) -/

/-- The block that detects a failure: it holds up to two records awaiting the collector (R667). -/
inductive BlkId where
  | sys | bsq | pwr | tb | eiu | core (n : Nat) | hs (n : Nat) | dmc (n : Nat) | ni (ep : Nat) | router (r : Nat) | cuf (n : Nat)
  | cns | seg | aud | mid | i2c | qspi | emc | gpio | eth | usb | fgt | kep | pair (n : Nat) | hat | dbg | hpt | fab | agent (n : Nat)
deriving DecidableEq, Repr

/-- A record of R670 before it takes its SEQ. -/
structure ErrRec where
  blk : BlkId
  kind : Nat
  unit : Nat
  tick : Word
  addr : Word
  info : Word
deriving DecidableEq, Repr

/-- A record placed in SYS_ERRLOG: the four words of R670. -/
structure LogRec where
  w0 : Word
  w1 : Word
  w2 : Word
  w3 : Word
deriving DecidableEq, Repr

structure ErrLog where
  /-- records offered and not yet taken, in order of arrival (R667) -/
  await : List ErrRec
  /-- unread records, oldest first (R668) -/
  recs : List LogRec
  /-- the next SEQ (R668) -/
  seq : Nat
  /-- words 1 to 3 latched per reading endpoint (R669) -/
  shadow : SMap LogRec
deriving DecidableEq, Repr

def ErrLog.reset : ErrLog := ⟨[], [], 0, []⟩

structure Hat where
  /-- a latch in progress: the TB_PULSE edges left before the holders latch (R673) -/
  latch : Option Nat
  /-- the trigger that began the latch was PIN (R678) -/
  byPin : Bool
  /-- ARM was written during the latch (R686) -/
  armAfter : Bool
  /-- HATCHECK_IO is driven low: TB_PULSE edges until the release (R678) -/
  drive : Option Nat
  /-- the device released HATCHECK_IO within the last 200 ns, in which the ball triggers nothing (R678); ended by the next TB_PULSE edge -/
  quiet : Bool
deriving DecidableEq, Repr

def Hat.reset : Hat := ⟨none, false, false, none, false⟩

/-! ### Events and the timebase (chapter 09) -/

/-- A source in service: the core that claimed it and its effective priority (R308, R309). -/
structure InSvc where
  core : Nat
  pri : Nat
deriving DecidableEq, Repr

structure Eiu where
  /-- PEND of the 256 sources (R304) -/
  pend : BitVec 256
  /-- sources in service (R308) -/
  insvc : SMap InSvc
  /-- the quiet-deadlock condition held at the last sampled edge and without interruption since (R314) -/
  quietHeld : Bool
  /-- the tick of the last sampled edge: edges on one tick count once (R314) -/
  quietTick : Option Nat
  /-- assertions accepted and not yet latched, oldest first: at most 64 (R324) -/
  inq : List Nat
  /-- assertions that their owners hold behind a full queue, in order (R324, R41) -/
  owed : List Nat
deriving DecidableEq, Repr

def Eiu.reset : Eiu := ⟨0, [], false, none, [], []⟩

/-- A rate generator's running state (R321): S, the index k of the next boundary, NUM and DEN in force. -/
structure RGen where
  running : Bool
  /-- start tick S, to come while k is 0 -/
  start : Nat
  k : Nat
  num : Nat
  den : Nat
  /-- NUM or DEN was written since the last boundary (R322) -/
  newRate : Bool
deriving DecidableEq, Repr

def RGen.reset : RGen := ⟨false, 0, 0, 20480, 1, false⟩

structure Tb where
  /-- TB_NOW (R315) -/
  now : BitVec 80
  /-- the femtosecond accumulator (R319) -/
  acc : Nat
  /-- ticks since the last write of TB_SLEW (R316) -/
  slewCnt : Nat
  /-- LOCKED was set since reset (R319) -/
  everLocked : Bool
  /-- its PLL has lost lock with XA present: the timebase stands as after a loss of XA (R334) -/
  unlocked : Bool
  /-- XB is lost (R53) -/
  xbLost : Bool
  /-- femtoseconds that XB has run, the measure of every clock derived from it (R36, R37) -/
  xbFs : Nat
  /-- TB_PULSE edges since reset, without wrap: the clock of every pulse-timed limit -/
  pulses : Nat
  /-- TB_NOW_HI latched per reading endpoint (R318) -/
  hiShadow : SMap Word
  /-- per core: the held write of cs.TMR_CMP_HI (R320) -/
  cmpHi : SMap Word
  /-- per core: the tick before which a compare value written at or below TB_NOW does not fire (R329) -/
  tmrFrom : SMap Nat
  rgen : SMap RGen
deriving DecidableEq, Repr

def Tb.reset : Tb := ⟨0, 0, 0, false, false, false, 0, 0, [], [], [], []⟩

/-! ### The fabric (chapter 10) -/

/-- Header fields that only coherence messages and atomics use, zero in other packets (R338): word 2. -/
structure PktExt where
  epoch : Nat
  rc : Nat
  agent : Nat
  dirty : Bool
  aq : Bool
  rl : Bool
deriving DecidableEq, Repr

def PktExt.zero : PktExt := ⟨0, 0, 0, false, false, false⟩

/-- A fabric packet's header fields and data (R338). -/
structure Pkt where
  /-- 0 REQ, 1 RSP, 2 SNP -/
  cls : Nat
  /-- KIND: false coherent, true I/O -/
  io : Bool
  code : Nat
  src : Nat
  dst : Nat
  tag : Nat
  gen : Nat
  status : FStatus
  addr : Nat
  len : Nat
  pl : Nat
  part : Nat
  atop : AtOp
  /-- octet enables, 5 per data word; all ones where MASKED is 0 -/
  mask : Nat
  masked : Bool
  data : Line
  ext : PktExt
deriving DecidableEq, Repr

inductive TagSt where
  | free | busy | orphan
deriving DecidableEq, Repr

/-- A network-interface tag (R351, R352). -/
structure Tag where
  st : TagSt
  gen : Nat
  dst : Nat
  addr : Nat
  /-- `Tb.pulses` when the packet left -/
  issued : Nat
  /-- FAB_TIMEOUT in force at allocation (R369) -/
  tmo : Nat
  /-- the packet was coherent (R338 KIND 0), and a snoop -/
  coh : Bool
  snp : Bool
deriving DecidableEq, Repr

def Tag.reset : Tag := ⟨.free, 0, 0, 0, 0, 0, false, false⟩

/-- A coherence message (R279), keyed by line number PA[33:4]. -/
structure CMsg where
  /-- 0 REQ, 1 RSP, 2 SNP -/
  cls : Nat
  code : Nat
  agent : Nat
  slice : Nat
  line : Nat
  rc : Nat
  data : Line
  dirty : Bool
  epoch : Nat
  mask : Nat
  atop : AtOp
  /-- word within the line, for ATOM_U -/
  idx : Nat
  operand : Word
  cmp : Word
  status : FStatus
  tag : Nat
  gen : Nat
deriving DecidableEq, Repr

/-- A request that waits at its network interface (R356). -/
inductive Held where
  | io (p : Pkt)
  | coh (m : CMsg)
deriving DecidableEq, Repr

structure Ni where
  tags : SMap Tag
  /-- requests held under R356 or for want of a tag, oldest first -/
  held : List Held
deriving DecidableEq, Repr

def Ni.reset : Ni := ⟨[], []⟩

/-- A REQ packet that waits in the fabric (R345, R360, R363): the channels its flits stand in, its head's first, with the flits in each; its head has
reached its destination router. An input channel is router * 16 + port * 2 + virtual channel; 1000h + endpoint is an injection queue. -/
structure Blocked where
  spots : List (Nat × Nat)
  pkt : Pkt
  arrived : Bool
deriving DecidableEq, Repr

/-- A wake in progress: `Tb.pulses` at its request, and whether software asked for it (R359, R652). -/
structure Waking where
  since : Nat
  sw : Bool
deriving DecidableEq, Repr

/-- One trace record of R362. -/
structure TraceRec where
  w0 : Word
  w1 : Word
  w2 : Word
  w3 : Word
deriving DecidableEq, Repr

structure Fab where
  ni : SMap Ni
  /-- responses sent and not yet delivered, oldest first -/
  inflight : List Pkt
  /-- REQ packets in wake buffers, in order of arrival (R359, R360) -/
  wake : List Pkt
  blocked : List Blocked
  /-- per router: the input channel whose packet moved on last (R348) -/
  rr : SMap Nat
  /-- domains whose wake has been requested -/
  waking : SMap Waking
  /-- the trace record queue (R362) -/
  trace : List TraceRec
deriving DecidableEq, Repr

def Fab.reset : Fab := ⟨[], [], [], [], [], [], []⟩

/-- The last completion delivered to an initiator: its endpoint, status and data. -/
structure Resp where
  ep : Nat
  status : FStatus
  data : Line
deriving DecidableEq, Repr

def Resp.reset : Resp := ⟨0, .ok, []⟩

/-! ### Caches and coherence (chapter 08) -/

/-- State of a line in an agent (R284); I is absence. -/
inductive CSt where
  | s | e | o | m
deriving DecidableEq, Repr

structure CLine where
  st : CSt
  data : Line
deriving DecidableEq, Repr

/-- A line sent in a WB or EVICT and kept until its COMP (R294). -/
structure WbEnt where
  line : Nat
  st : CSt
  data : Line
  /-- a snoop has been answered from the copy -/
  answered : Bool
  /-- a snoop has invalidated the copy -/
  gone : Bool
deriving DecidableEq, Repr

structure Agent where
  lines : SMap CLine
  /-- lines in order of use, latest first, for replacement (R265) -/
  use : List Nat
  wbq : List WbEnt
  /-- requests outstanding (R280) -/
  out : List CMsg
  /-- retried requests that wait for the reserved credit, in the order of their RETRYs (R285) -/
  retryq : List CMsg
deriving DecidableEq, Repr

def Agent.reset : Agent := ⟨[], [], [], [], []⟩

inductive DirSt where
  | s | x | o | b
deriving DecidableEq, Repr

/-- A directory entry in use (R274); FREE is absence. `ptrs` are PTR0 to PTR3, 15 when empty. -/
structure DirEnt where
  tag : Nat
  st : DirSt
  ovf : Bool
  ptrs : List Nat
  epoch : Nat
deriving DecidableEq, Repr

structure LlcLine where
  data : Line
  dirty : Bool
  /-- the way that holds it: unit j provides ways 2j and 2j + 1 (R271; log row 94) -/
  way : Nat
deriving DecidableEq, Repr

/-- Where a transaction stands: it awaits snoop answers, is held with its epoch event (R278), awaits DONE (R281), or waits in the tracker for a way
of its directory set (R291). -/
inductive Phase where
  | snoop | held | awaitDone | way
deriving DecidableEq, Repr

/-- A transaction in the tracker (R290): the request, the entry's state before it became B (`none` when it was FREE), the agents whose
answers it awaits, and the data an owner supplied. -/
structure Trk where
  req : CMsg
  before : Option DirSt
  await : List Nat
  data : Option Line
  dirty : Bool
  /-- an owner supplied dirty data it held in M (R283: RD_U leaves O) -/
  ownerM : Bool
  phase : Phase
  /-- the state the entry takes at DONE -/
  after : DirSt
  /-- a directory recall made for a later allocation (R291) -/
  recallFor : Option CMsg
deriving DecidableEq, Repr

structure Slice where
  /-- keyed set * 8 + way (R273) -/
  dir : SMap DirEnt
  dirUse : List Nat
  llc : SMap LlcLine
  llcUse : List Nat
  trk : SMap Trk
  /-- per agent: its priority slot's request, with its order of arrival (R286) -/
  pslot : SMap CMsg
  pslotOrder : List Nat
  /-- requests that wait in the tracker or for the split sequence, oldest first (R289, R291) -/
  waiting : List CMsg
  /-- G advanced within the last 18 ns (R278) -/
  gHold : Bool
deriving DecidableEq, Repr

def Slice.reset : Slice := ⟨[], [], [], [], [], [], [], [], false⟩

/-! ### DRAM controllers (chapter 14) -/

/-- A line write in the write queue (R491). -/
structure WqEnt where
  /-- channel-local line number la / 16 -/
  la : Nat
  data : Line
  mask : Nat
  /-- written whole without a read (R503) -/
  ahead : Bool
deriving DecidableEq, Repr

inductive DmcInj where
  | none | single | double
deriving DecidableEq, Repr

structure Dmc where
  /-- the DRAM devices' words by la; unlisted: never written since power-on or bring-up -/
  dram : SMap MWord
  /-- blocks whose fresh-map bit is 0 (R500) -/
  notFresh : SMap Unit
  wq : List WqEnt
  /-- writes that wait for a table entry or a fill slot (R504), with PA line -/
  waits : List WqEnt
  /-- PA lines whose writes the homes hold because of R504 -/
  stalls : List Nat
  inject : DmcInj
  injFresh : Bool
  selfRef : Bool
  /-- a bring-up (false) or a resume (true) is in progress -/
  busy : Option Bool
  /-- postponed refreshes per rank, 0 to 8 (R496) -/
  postponed : SMap Nat
  /-- open row per rank * 16 + bank -/
  openRow : SMap Nat
deriving DecidableEq, Repr

def Dmc.reset : Dmc := ⟨[], [], [], [], [], .none, false, false, none, [], []⟩

/-! ### Cores (chapters 03 to 07) -/

/-- How a core stands; debug halt and parking are separate flags (R689). -/
inductive RunSt where
  | notStarted | running | waiting | faultStop | doubleFault
deriving DecidableEq, Repr

/-- A branch-target-buffer entry (R172). -/
structure BtbEnt where
  addr : Word
  target : Word
  tag : Nat
  part : Nat
  pl : Nat
deriving DecidableEq, Repr

/-- A combined translation entry (R249, R250). -/
structure TlbEnt where
  part : Nat
  asid : Nat
  g : Bool
  s1on : Bool
  s2on : Bool
  /-- virtual page base and log2 of the page size: 12 or 24 -/
  vbase : Nat
  lg : Nat
  ibase : Nat
  pbase : Nat
  /-- permissions of stage 1 and stage 2 as two [X W R] masks, R lowest -/
  p1 : Nat
  p2 : Nat
  u : Bool
  pxn : Bool
  uncached : Bool
  a : Bool
  d : Bool
  /-- physical word address and value of the stage-1 leaf, for R247 -/
  leafPa : Nat
  leafIpa : Nat
  leaf : Word
  /-- stage 2 lets the core write the leaf's table word (R244) -/
  leafW : Bool
deriving DecidableEq, Repr

/-- A walk-cache entry: a stage-1 level-1 or level-2 table word (R249). -/
structure WcEnt where
  part : Nat
  asid : Nat
  s1on : Bool
  s2on : Bool
  level : Nat
  /-- the VA bits that index it: VA[39:36] or VA[39:24] -/
  key : Nat
  entry : Word
deriving DecidableEq, Repr

/-- A stage-2 TLB entry (R249, R250). -/
structure S2Ent where
  part : Nat
  ibase : Nat
  lg : Nat
  entry : Word
deriving DecidableEq, Repr

/-- A cloakroom entry (R179, R184). -/
structure Cloak where
  line : Nat
  /-- `none` while the tentative read is outstanding -/
  data : Option Line
  epoch : Nat
  /-- TB_PULSE edges since the fill, up to 3 (R184) -/
  pulses : Nat
  status : FStatus
  /-- an instruction fetch filled it (R187) -/
  fetch : Bool
  /-- declined: the load waits until it is no longer speculative (R180) -/
  declined : Bool
  /-- parcel addresses of the speculative instructions it serves, oldest first (R181) -/
  serves : List Word
deriving DecidableEq, Repr

/-- A tentative TLB entry (R186): the instruction whose speculative walk made it, the lines its table words came from, and the translation. -/
structure TentEnt where
  pc : Word
  lines : List Nat
  fetch : Bool
  entry : TlbEnt
deriving DecidableEq, Repr

/-- A prefetch stream (R267): the line last trained with, and the stride between the last two. -/
structure Stream where
  last : Nat
  stride : Int
deriving DecidableEq, Repr

/-- A retired store (R168, R169): its place in program order, virtual and physical address of its first word, octets of a word, and the words. -/
structure StqEnt where
  seq : Nat
  va : Word
  pa : Nat
  mask : Nat
  vals : List Word
  uncached : Bool
deriving DecidableEq, Repr

/-- A retired store's error (R115): its place in program order, virtual address and status. -/
structure StErr where
  seq : Nat
  va : Word
  st : FStatus
deriving DecidableEq, Repr

/-- Asynchronous causes pending on a core (R96, R114). -/
structure Async where
  /-- BUS_ERROR: the oldest failed store (R115) -/
  busErr : Option StErr
  /-- PACE_LAG pending -/
  paceLag : Bool
  /-- grid points missed since the last PACE_LAG was taken (R210) -/
  missed : Nat
  pairMismatch : Option Nat
  pairSelf : Option Nat
  /-- QUIET_DEADLOCK with the mask at detection -/
  quiet : Option Nat
deriving DecidableEq, Repr

def Async.reset : Async := ⟨none, false, 0, none, none, none⟩

/-- What an access of the instruction in progress is for. -/
inductive IoUse where
  | fetch | load | store | atomic | leaf | table
deriving DecidableEq, Repr

/-- An access that the instruction in progress has made outside its core, once: its use, its physical address, and what has come back. -/
structure IoWait where
  use : IoUse
  pa : Nat
  res : Option (FStatus × Line)
deriving DecidableEq, Repr

structure Core where
  /-- w1 to w31 by number; w0 is not stored (R84) -/
  w : SMap Word
  /-- a0 to a7 (R85) -/
  acc : SMap (BitVec 80)
  /-- parcel address of the next instruction (R62) -/
  pc : Word
  run : RunSt
  /-- halted by debug (R680) -/
  halted : Bool
  /-- parked by shedding (R657) -/
  parked : Bool
  /-- a debug halt is to be taken at the next boundary (R680) -/
  haltReq : Bool
  /-- a debug step is in progress (R681) -/
  stepping : Bool
  /-- the next instruction is not checked against the break addresses (R681) -/
  skipBreak : Bool
  /-- cs.TIME_HI shadow (R106) -/
  timeHi : Word
  /-- load-linked reservation: line number (R111) -/
  resv : Option Nat
  /-- wake latch (R310) -/
  latch : Bool
  async : Async
  /-- errors of retired stores not yet reported, in program order (R115) -/
  storeErrs : List StErr
  /-- accesses of the instruction in progress outside the core (R188) -/
  io : List IoWait
  /-- retired stores not yet performed, in program order, and the number of the next store (R168, R169) -/
  stq : List StqEnt
  stSeq : Nat
  /-- stores performed without their response, in order: physical address, program order and virtual word address (R108, R115) -/
  outStores : List (Nat × Nat × Word)
  /-- sequential flow has run past the last parcel address (R80) -/
  pastTop : Bool
  /-- instructions whose cloakroom entry was discarded before they retired: a mismatch at promotion (R181, R197) -/
  replay : List Word
  /-- the prefetcher's streams, latest trained first, and the lines it has yet to ask for (R267) -/
  streams : List Stream
  pfq : List Nat
  btb : SMap BtbEnt
  btbRR : SMap Nat
  ras : List Word
  cloak : List Cloak
  ttlb : List TentEnt
  itlb : List TlbEnt
  dtlb : List TlbEnt
  l2tlb : List TlbEnt
  wcache : List WcEnt
  s2tlb : List S2Ent
  /-- L1 instruction cache by line (R266); `l1d` the lines present in L1 data cache -/
  l1i : SMap Line
  l1iUse : List Nat
  l1d : List Nat
  /-- paced mode: grid point of the last retired instruction (R208) -/
  grid : Nat
  /-- the grid point of the instruction that has executed and not yet retired (R208) -/
  due : Option (Nat × Instr)
  /-- the paced entry sequence is running (R206) -/
  pacing : Bool
  /-- the instruction in progress has made an excursion (R215) -/
  excursed : Bool
  /-- it is a cache operation on a line outside the core's close memory (R209, R227) -/
  strayed : Bool
deriving DecidableEq, Repr

def Core.reset : Core :=
  { w := [], acc := [], pc := 0, run := .notStarted, halted := false, parked := false, haltReq := false, stepping := false, skipBreak := false,
    timeHi := 0, resv := none, latch := false, async := Async.reset, storeErrs := [], io := [], stq := [], stSeq := 0, outStores := [],
    pastTop := false, replay := [], streams := [], pfq := [], btb := [], btbRR := [], ras := [], cloak := [], ttlb := [], itlb := [],
    dtlb := [], l2tlb := [], wcache := [], s2tlb := [], l1i := [], l1iUse := [], l1d := [], grid := 0, due := none, pacing := false,
    excursed := false, strayed := false }

/-! ### Glove pairs (chapter 06) -/

/-- A core's architectural state after a retirement group, which the trailer reaches when it retires the group (R220). -/
structure Snap where
  w : SMap Word
  acc : SMap (BitVec 80)
  pc : Word
  timeHi : Word
  resv : Option Nat
  /-- the core page's registers, by word offset -/
  cs : SMap Word
deriving DecidableEq, Repr

/-- A delay-register entry (R219): group length, the leader's signature, parcel address of the group's first instruction, the outside values,
the asynchronous cause taken at its start, bad parity by injection, and the state the group leads to. -/
structure DelayEnt where
  len : Nat
  sig : Word
  epc : Word
  outside : List Word
  async : Option Nat
  badParity : Bool
  after : Snap
deriving DecidableEq, Repr

/-- A held store (R222): its group, and the store. -/
structure HeldStore where
  group : Nat
  ent : StqEnt
deriving DecidableEq, Repr

structure Pair where
  /-- the pair has started (R218) -/
  started : Bool
  draining : Bool
  entries : List DelayEnt
  hold : List HeldStore
  /-- groups the leader has retired since the start -/
  leadGroups : Nat
  /-- values from outside the core taken by the instruction in progress, and the asynchronous cause taken before it -/
  outside : List Word
  cause : Option Nat
  injDisagree : Bool
  injMissCanary : Bool
  injParity : Bool
  injMismatch : Bool
  /-- the leader waits for its groups to be compared: an atomic, a fence, or a full buffer (R219, R222) -/
  blocked : Bool
  /-- it has waited so in the instruction in progress (R225) -/
  waited : Bool
  /-- the address and operands of the leader's next atomic, LL or SC, and whether the comparator has matched them (R222) -/
  atom : Option (List Word × Bool)
  /-- the canary of the oldest group has been compared (R224) -/
  canaryDone : Bool
deriving DecidableEq, Repr

def Pair.reset : Pair := ⟨false, false, [], [], 0, [], none, false, false, false, false, false, false, none, false⟩

/-! ### The stream engine (chapter 13) -/

/-- A fetched descriptor (R447): its index, words 0 and 1, and the physical addresses its buffers translate to (R445; the second for COPY). -/
structure FDesc where
  idx : Nat
  w0 : Word
  w1 : Word
  pa : Nat
  pa2 : Nat
deriving DecidableEq, Repr

/-- A unit in progress (R453). -/
structure RUnit where
  /-- how many of the ring's fetched descriptors it has used -/
  n : Nat
  /-- transmit: the amount handed to the peripheral; receive: the amount accepted from the source -/
  moved : Nat
  /-- transmit: the amount the peripheral has taken (R455) -/
  taken : Nat
  /-- receive: the amounts written, per descriptor used -/
  lens : List Nat
  /-- the tick its kind names (R449) -/
  ts : Option Word
  /-- the status it commits with (R447) -/
  status : Nat
  /-- it has reached its end and awaits its commit point -/
  complete : Bool
  /-- `Tb.pulses` when its first record was written (R455) -/
  since : Option Nat
  /-- the tag of the buffer request it waits for -/
  wait : Option Nat
  /-- the words it waits for -/
  waitLen : Nat
  /-- COPY: words read and not yet written (R457) -/
  staged : Line
deriving DecidableEq, Repr

/-- A status write (R454): the descriptor's index, the octets of words 1 and 2 it writes, and their values. -/
structure StatWr where
  idx : Nat
  mask : Nat
  w1 : Word
  w2 : Word
deriving DecidableEq, Repr

/-- The status writes of one commit point, oldest first, with what follows their completion (R454). -/
structure StatJob where
  func : Nat
  gen : Nat
  writes : List StatWr
  count : Nat
  tick : Word
  int : Bool
  aborted : Bool
deriving DecidableEq, Repr

structure Ring where
  /-- descriptors fetched and not committed, from HEAD on (R453) -/
  fetched : List FDesc
  unit : Option RUnit
  /-- a hold of R459: `Tb.pulses` at its start -/
  hold : Option Nat
  jobs : List StatJob
  /-- descriptors to commit with ABORTED when ME returns to 1 (R465) -/
  meAbort : Nat
  /-- the ring holds its binding (R461) -/
  bound : Bool
  /-- the rest of a discarded unit is still to come, and is dropped (R459) -/
  dropping : Bool
deriving DecidableEq, Repr

def Ring.reset : Ring := ⟨[], none, none, [], 0, false, false⟩

/-- A buffer request outstanding on the fabric, with the generation recorded for it (R467). -/
structure SegReq where
  ring : Nat
  func : Nat
  gen : Nat
deriving DecidableEq, Repr

structure Seg where
  rings : SMap Ring
  /-- the function that owns a ring; a ring not listed is in the pool (R440) -/
  owner : SMap Nat
  /-- generation per function (R467) -/
  gens : SMap Nat
  /-- requests outstanding, by tag of endpoint 18 -/
  reqs : SMap SegReq
  /-- ring 63 has left the pool (R464) -/
  fgtTaken : Bool
deriving DecidableEq, Repr

def Seg.reset : Seg := ⟨[], [], [], [], false⟩

/-! ### Audio ports, MIDI and the small ports (chapter 15) -/

structure AudPort where
  /-- the port has been enabled and has not stopped (R519, R527) -/
  on : Bool
  /-- its first boundary has passed (R523) -/
  started : Bool
  /-- EN = 0 was written and takes effect at the next boundary (R527) -/
  stopping : Bool
  /-- words to send, each with the tick at which it arrived (R522, R544) -/
  outQ : List (Word × Nat)
  /-- words received with the tick of their frame boundary -/
  inQ : List (Word × Word)
  /-- frames that lack an aborted unit's words (R527) -/
  lack : Nat
  /-- tick of the last frame boundary -/
  last : Nat
  /-- lengths of the last frames, latest first, at most 256 (R518) -/
  lens : List Nat
  /-- the samples of the frame on SDO, per slot -/
  sdo : List Word
  muted : Bool
deriving DecidableEq, Repr

def AudPort.reset : AudPort := ⟨false, false, false, [], [], 0, 0, [], [], false⟩

structure MidIn where
  /-- records with the tick of their start bit -/
  q : List (Word × Word)
  /-- octets were dropped since the last record queued (R531) -/
  ovr : Bool
  /-- the line is held low longer than a frame (R531) -/
  low : Bool
deriving DecidableEq, Repr

def MidIn.reset : MidIn := ⟨[], false, false⟩

structure MidOut where
  q : List Word
  /-- tick of the last start bit -/
  last : Option Nat
  /-- the time of XB at the last start bit, in fs (R528) -/
  lastXb : Nat
  /-- the octet sent last -/
  line : Nat
deriving DecidableEq, Repr

def MidOut.reset : MidOut := ⟨[], none, 0, 0⟩

structure I2c where
  /-- queued commands: OP * 256 + DATA (R533) -/
  cmds : List Nat
  rx : List Nat
  /-- a transfer has started and no STOP has ended it -/
  active : Bool
  /-- a READ stretches SCL for want of a receive entry -/
  stretched : Bool
deriving DecidableEq, Repr

def I2c.reset : I2c := ⟨[], [], false, false⟩

structure Emc where
  /-- words in the two block buffers (R536) -/
  buf : List Word
  /-- the command in progress -/
  cmd : Option Word
  /-- a data transfer in progress: true for a write -/
  xfer : Option Bool
  /-- blocks left of the transfer; `none` is unbounded -/
  left : Option Nat
  /-- CLK is stopped with both buffers full -/
  stopped : Bool
  /-- the injections of `EMC_INJECT` that wait -/
  inject : Nat
deriving DecidableEq, Repr

def Emc.reset : Emc := ⟨[], none, none, some 0, false, 0⟩

structure Hpt where
  req : List Word
  rsp : List Word
  /-- the words sent on MISO in the last transaction -/
  miso : List Word
deriving DecidableEq, Repr

def Hpt.reset : Hpt := ⟨[], [], []⟩

structure Ports where
  aud : SMap AudPort
  midIn : SMap MidIn
  midOut : SMap MidOut
  i2c : SMap I2c
  /-- the QSPI transfer in progress (R534) -/
  qspi : Option Word
  emc : Emc
  /-- per GPIO line: `Tb.pulses` of the last accepted edge (R547) -/
  gpioEdge : SMap Nat
  hpt : Hpt
  /-- register requests held under R41 by a full or busy port, oldest first -/
  held : List Pkt
deriving DecidableEq, Repr

def Ports.reset : Ports := ⟨[], [], [], [], none, Emc.reset, [], Hpt.reset, []⟩

/-! ### Ethernet and USB (chapter 16) -/

/-- A frame: its octets from DA to the last payload octet, as R551 carries it. -/
structure EthRx where
  queue : Nat
  /-- octets of the ring stream -/
  octets : List Nat
  err : Bool
  ts : Word
deriving DecidableEq, Repr

structure EthTx where
  ring : Nat
  octets : List Nat
  /-- talker stream of an AAF frame and its avtp_timestamp where tv is 1 -/
  stream : Option Nat
  avtp : Option Nat
  /-- the frame has waited for a pause -/
  paused : Bool
deriving DecidableEq, Repr

structure Eth where
  fifo : List EthRx
  txq : SMap EthTx
  /-- the queue whose frame is on the wire, until `wireEnd` -/
  wire : Option Nat
  /-- the time of XB, in fs, at which the last frame's FCS ends, and the one at which the gap after it has passed (R550, R555) -/
  wireEnd : Nat
  gapEnd : Nat
  /-- the octets of the last frame sent, with padding and FCS (R551); the rest of it is marked as a transmit error (R583) -/
  line : List Nat
  txErr : Bool
  /-- the CBS registers and `ETH_CTL` as the last frame start found them (R585): CTL, then SLOPE, HI_CREDIT and LO_CREDIT of queue 6 and of 7 -/
  inForce : List Word
  /-- a pause: the time of XB at which it was loaded, and its quanta (R561) -/
  pause : Option (Nat × Nat)
  /-- credit of queues 6 and 7 in bits times the port rate in kbit/s (R556) -/
  credit6 : Int
  credit7 : Int
  /-- the time of XB up to which octet times are counted in the credits -/
  cbsXb : Nat
  /-- the five stream-map values in force (R564) -/
  smapTick : Nat
  smapNs : Nat
  smapScale : Nat
  /-- sequence number per stream: next of a talker, last delivered of a listener -/
  seqNo : SMap Nat
  /-- the MDIO frame in progress -/
  mdio : Option Word
  /-- the injection of `ETH_INJECT` that waits for the next frame -/
  inj : Bool
deriving DecidableEq, Repr

def Eth.reset : Eth := ⟨[], [], none, 0, 0, [], false, [], none, 0, 0, 0, 0, 0, 0, [], none, false⟩

structure UsbEp where
  toggle : Bool
  /-- IN: octets of the transfer not yet sent; isochronous OUT: per interval, 1 where a packet was lost -/
  data : List Nat
  /-- OUT: packets not yet delivered; isochronous: one entry per service interval -/
  packets : List (List Nat)
  /-- IN: a transfer is loaded, and a zero-length packet is to follow; isochronous OUT: the last interval has ended -/
  loaded : Bool
  zlp : Bool
  /-- OUT: per entry of `packets`, the tick of the SOF in whose frame it began to move -/
  tss : List Word
deriving DecidableEq, Repr

def UsbEp.reset : UsbEp := ⟨false, [], [], false, false, []⟩

structure UsbFb where
  /-- tick of the SOF that opened the window, and SOFs since -/
  openTick : Option Nat
  sofs : Nat
deriving DecidableEq, Repr

def UsbFb.reset : UsbFb := ⟨none, 0⟩

structure Usb where
  eps : SMap UsbEp
  fb : SMap UsbFb
  /-- endpoint 0: a control transfer is in progress; what software armed: bit 0 SEND, bit 1 RECV, bit 2 STATUS_ACK -/
  ctl : Bool
  armed : Nat
  /-- the address to take effect after the status stage (R572) -/
  addrNext : Option Nat
  /-- the injection of `USB_INJECT` that waits for the next packet -/
  inj : Bool
  /-- the (micro)frame number of the last SOF since the bus reset -/
  lastSof : Option Nat
  /-- the octets of the last IN data packet on the bus (R573, R575, R578) -/
  line : List Nat
deriving DecidableEq, Repr

def Usb.reset : Usb := ⟨[], [], false, 0, none, false, none, []⟩

/-! ### The Cuff link and consorts (chapters 11, 12) -/

/-- A packet of the link (R377, R378): its header fields and data words, two to a slot. -/
structure CufPkt where
  type : Nat
  vc : Nat
  seq : Nat
  field : Nat
  data : List Word
  /-- sent this many times (R389) -/
  sent : Nat
  /-- the outbound tag it serves, or the ring of a message with 256 added -/
  tag : Nat
deriving DecidableEq, Repr

/-- A packet as it left: its header fields, its acknowledgment, whether its CRC was corrupted and its credit returns dropped by a test write, the
credit returns of its trailer as (VC, slots), and the place of its header slot in the slot stream (R375). -/
structure CufSent where
  pkt : CufPkt
  ackk : Nat
  ackseq : Nat
  badCrc : Bool
  lost : Bool
  returns : List (Nat × Nat)
  slot : Nat
deriving DecidableEq, Repr

/-- An outbound request (R399, R425): the local request it answers, or the link tag and VC of the relayed request at the other port; `Tb.pulses`
when it left, and what has come back. -/
structure CufOut where
  pkt : Option Pkt
  relay : Option (Nat × Nat)
  since : Option Nat
  /-- second packet of a split WRM: the tag of the first; first packet: the packets still unanswered, and both statuses -/
  lead : Option Nat
  parts : Nat
  status : FStatus
  other : FStatus
  data : Line
deriving DecidableEq, Repr

/-- An inbound request being performed (R400): its VC, and the tag of the fabric access it waits for, if any. -/
structure CufIn where
  vc : Nat
  wait : Option Nat
deriving DecidableEq, Repr

/-- A message of the stream engine going out (R458): the words not yet packed, whether its FIRST packet has been made, and the packets made and
not yet acknowledged. -/
structure CufMsg where
  ring : Nat
  channel : Nat
  words : List Word
  begun : Bool
  unacked : Nat
deriving DecidableEq, Repr

/-- A message coming in on one channel (R427, R435): its words, its epoch, whether LAST has come, and whether it is being discarded. -/
structure CufMsgIn where
  words : List Word
  epoch : Nat
  last : Bool
  drop : Bool
deriving DecidableEq, Repr

structure CufPort where
  /-- the SerDes PLL has locked: training is at step 2 or later (R391) -/
  pll : Bool
  /-- training: RESYNC sent; the partner's ADV has arrived -/
  gotTs2 : Bool
  gotAdv : Bool
  /-- `Tb.pulses` when step 2 of training, the retrain, or the link-down began -/
  since : Nat
  /-- a training failure has been recorded since EN became 1 (R412) -/
  failLogged : Bool
  /-- own REQ_VCS, RSP_VCS and ALLOC of VCs 0 to 7 in force since the last initial training (R408) -/
  cfg : List Nat
  nextRx : Nat
  txNext : Nat
  /-- sequenced packets held for replay, oldest first (R389) -/
  replay : List CufPkt
  /-- packets queued and not yet sent, oldest first -/
  outq : List CufPkt
  /-- the VC served last in the round robin (R385) -/
  rr : Nat
  /-- per VC: window, credits, RET_TOTAL, GOT_TOTAL, watch start (R397, R398) -/
  window : SMap Nat
  credits : SMap Nat
  retTotal : SMap Nat
  gotTotal : SMap Nat
  watch : SMap Nat
  /-- credits to return per VC -/
  owed : SMap Nat
  /-- slots in use in the receive buffer per VC -/
  rxocc : SMap Nat
  /-- accepted packets that wait in the receive buffer, oldest first -/
  rxq : List CufPkt
  /-- outbound requests by tag, in issue order -/
  outTags : List (Nat × CufOut)
  inTags : SMap CufIn
  /-- local requests held for a tag or a queue place, oldest first -/
  waiting : List Pkt
  msgs : List CufMsg
  msgIn : SMap CufMsgIn
  /-- violation kinds met since training (R414), bit k for kind k -/
  violSeen : Nat
  injCredit : Bool
  injCrc : Bool
  /-- `Tb.pulses` at the last packet with a good CRC, at the last acknowledgment or replay, and at recent CRC errors -/
  lastGood : Nat
  ackSince : Nat
  crcTimes : List Nat
  lastSent : Option CufSent
  /-- slots of packets sent, and received, since the last RESYNC row of each direction (R375) -/
  txSlot : Nat
  rxSlot : Nat
  /-- the port number that the partner's training blocks carry (R374) -/
  partner : Option Nat
deriving DecidableEq, Repr

def CufPort.reset : CufPort :=
  ⟨false, false, false, 0, false, [1, 1, 480, 0, 0, 0, 480, 0, 0, 0], 0, 0, [], [], 7, [], [], [], [], [], [], [], [], [], [], [], [], [], 0, false, false, 0, 0, [], none, 0, 0, none⟩

structure Cns where
  /-- STRAP_CONFLICT has been recorded (R415) -/
  conflictLogged : Bool
  /-- the partner's latest HELLO per port: its four words (R420) -/
  hello : SMap (List Word)
  /-- leader: the joined mask each member last reported (R422) -/
  links : SMap Nat
  /-- consecutive samples within LOCK_TH, and whether LOCKED has been set since the servo began (R431, R432) -/
  lockRun : Nat
  everLocked : Bool
  /-- `Tb.pulses` at the last accepted sample -/
  lastSample : Nat
  /-- relay: words of an image stream still to be forwarded from a port (R433) -/
  imgLeft : SMap Nat
  /-- leader: the image words still to be sent on a port, and the BLOCK of the next packet -/
  serve : SMap (List Word × Nat)
  /-- HELLO packets that arrived during a retrain, oldest first: port and words (R434) -/
  held : List (Nat × List Word)
  /-- the far end of each port's link, as the CONSORT record lists it: member and port (R416) -/
  far : SMap (Nat × Nat)
deriving DecidableEq, Repr

def Cns.reset : Cns := ⟨false, [], [], 0, false, 0, [], [], [], []⟩

/-! ### Start-up, power and debug (chapters 18 to 20) -/

structure Boot where
  /-- `RESET_N` is low: internal reset is held (R719) -/
  inReset : Bool
  /-- a pass runs from source `src` of R622's order -/
  src : Nat
  /-- words of the image taken from the source in pass 1 and in pass 2 -/
  img : List Word
  again : List Word
  /-- digest of pass 1 (R625) -/
  digest : BitVec 256
  /-- pass 2: the word of the next record, and its index -/
  pos : Nat
  recIdx : Nat
  entrySet : Bool
  /-- `Tb.pulses` when the sequencer began to wait for DRAM (R629, R633) -/
  dram : Option Nat
  /-- `Tb.pulses` when the wait for the source began, or its last words came -/
  since : Nat
  /-- the wait `since` dates has begun: the first BOOT_REQ has left -/
  began : Bool
  /-- Cuff source: the length given by IMAGE_FOR and the port it came on -/
  imgFor : Option (Nat × Nat)
  /-- ports whose EN the sequencer set for the Cuff source, and the CUFF record's port mask -/
  cufSrc : Bool
  cufMask : Nat
  /-- accepted host requests not yet performed, oldest first (R642) -/
  reqs : List (List Word)
  /-- a host command waits for its fabric access: the tag, and the request -/
  hostWait : Option (Nat × List Word)
  /-- a host RESET accepted: `Tb.pulses` at its acceptance (R644) -/
  hostReset : Option Nat
  /-- the key-hash fuses, and the hash being programmed (R637, R638) -/
  fuses : BitVec 256
  prog : Option (BitVec 256)
  /-- `Tb.pulses` when the presence window opened (R639) -/
  presAt : Nat
deriving DecidableEq, Repr

def Boot.reset : Boot := ⟨false, 0, [], [], 0, 0, 0, false, none, 0, false, none, false, 0, [], none, none, 0, none, 0⟩

structure Pwr where
  /-- the last sample's reading in mV, none before the first -/
  last : Option Nat
  /-- nanoseconds for which every sample has been at or above the exit threshold of the present stage (R656, R660) -/
  above : Nat
  /-- the monitors have differed since they last agreed (R666) -/
  disagree : Bool
  /-- the halt of R660 holds reset -/
  halted : Bool
  /-- cores whose park awaits their boundary, drain or grid point: bit n for core n (R657) -/
  parking : Nat
  /-- nanoseconds for which every sample has been at or above 0.70 V since the halt (R660) -/
  recov : Nat
deriving DecidableEq, Repr

def Pwr.reset : Pwr := ⟨none, 0, false, false, 0, 0⟩

structure Jtag where
  /-- the instruction register, and the boundary register's 359 cells of 3 bits (R682, R736) -/
  ir : Nat
  cells : BitVec 1077
  /-- STATUS, fabric status and DATA of the last finished operation (R682) -/
  status : Nat
  fstat : Nat
  data : Word
  /-- the tag of the fabric access in progress, and whether it reads; the address step on completion -/
  wait : Option Nat
  reads : Bool
  step : Bool
  /-- lines the debug agent holds (R683) -/
  lines : List Nat
deriving DecidableEq, Repr

def Jtag.reset : Jtag := ⟨2, 0, 0, 0, 0, none, false, false, []⟩

/-! ### Fingertip and the keep store (chapter 17) -/

structure FgtContact where
  closed : Bool
  /-- consecutive samples that read the other state, and `TB_PULSE_CNT` at the first of them (R594) -/
  run : Nat
  date : Nat
  /-- `TB_NOW_LO` at that sample -/
  tick : Word
deriving DecidableEq, Repr

def FgtContact.reset : FgtContact := ⟨false, 0, 0, 0⟩

/-- A key's state (R595: 0 IDLE, 1 PRESS, 2 DOWN, 3 RELEASE, 4 REPRESS, 5 HELD) and the start of its running interval. -/
structure FgtKey where
  st : Nat
  start : Option Nat
  /-- the release interval's start -/
  rel : Option Nat
deriving DecidableEq, Repr

def FgtKey.reset : FgtKey := ⟨0, none, none⟩

structure FgtAin where
  /-- samples taken since the enable, up to 5 (R600) -/
  n : Nat
  y : Nat
  /-- the tick from which its next sample instant counts -/
  last : Nat
deriving DecidableEq, Repr

def FgtAin.reset : FgtAin := ⟨0, 0, 0⟩

/-- The OVERFLOW record (R603): records dropped, the tick of the first drop, the records queued before it, and its UNLOCKED bit. -/
structure FgtOvf where
  n : Nat
  tick : Word
  before : Nat
  unlocked : Bool
deriving DecidableEq, Repr

structure Fgt where
  /-- scans run (R606) -/
  running : Bool
  /-- EN became 1 and the first scan waits for the load, then for a scan start -/
  starting : Bool
  stopping : Bool
  /-- drive lines sampled since the first scan began: bit d is line d (R594, R597) -/
  seen : Nat
  /-- a load is in progress; a loaded copy with its source waits for a scan start (R605) -/
  loading : Bool
  next : Option (List Word × Nat)
  /-- the working copy: 512 words, none before the first load -/
  cal : List Word
  calSrc : Nat
  /-- the drive line of the slot in progress, and whether it is a regular slot -/
  drive : Option Nat
  regular : Bool
  /-- the next regular drive line of the scan, 16 when all are done -/
  nextLine : Nat
  chaseLast : Nat
  contacts : SMap FgtContact
  keys : SMap FgtKey
  ain : SMap FgtAin
  /-- event records, oldest first (R603) -/
  q : List (Word × Word)
  ovf : Option FgtOvf
deriving DecidableEq, Repr

def Fgt.reset : Fgt := ⟨false, false, false, 0, false, none, [], 0, none, false, 16, 15, [], [], [], [], none⟩


/-! ### Storage whose stored parity or ECC is wrong -/

/-- An upset of the device's storage or wires before the next use of a place, which that use finds by parity or ECC. No command makes one: it comes
from outside the model's rows, and the use that finds it acts as the chapter's failure table says (log row 23). -/
inductive Flaw where
  /-- a register of core c: a control-register number, 80h + k for wk, C0h + k for ak (R121) -/
  | coreReg (c n : Nat)
  /-- the branch-target-buffer entry that holds the branch at an address; the return stack's top (chapter 05) -/
  | btb (c : Nat) (a : Word)
  | ras (c : Nat)
  /-- a cloakroom word of a line: a correctable or an uncorrectable error (chapter 05) -/
  | cloak (c line : Nat) (hard : Bool)
  /-- the next entry found in a structure of core c: 0 instruction, 1 data, 2 second-level, 3 walk cache, 4 stage-2, 5 tentative (chapter 07) -/
  | tlb (c k : Nat)
  /-- word i of a line in core a's private caches, or in its home's last-level cache or stage memory (chapter 08) -/
  | privWord (a line i : Nat) (hard : Bool)
  | homeWord (n line i : Nat) (hard : Bool)
  /-- a parcel of a line in an L1 instruction cache (chapter 08) -/
  | l1iWord (c line : Nat)
  /-- the directory set of a line at slice n (chapter 08) -/
  | dir (n line : Nat)
  /-- the oldest delay-register entry, or hold-buffer entry, of pair n (R233) -/
  | pairEnt (n : Nat) (hold : Bool)
  /-- the configuration word of an event source (R334) -/
  | eiu (k : Nat)
  /-- a header word, or a data word, of the next packet through a port of router r (R371) -/
  | flit (r port : Nat) (hdr : Bool)
  /-- the next packet from one endpoint to another is malformed (R371) -/
  | packet (src dst : Nat)
  /-- a fill slot, or a table entry, of channel n (chapter 14) -/
  | slot (n j : Nat)
  | wat (n e : Nat)
  /-- the place of the oldest unread record in SYS_ERRLOG (R691) -/
  | logSlot
deriving DecidableEq, Repr


/-! ### The machine -/

structure State where
  /-- commands waiting, first in, first out -/
  pending : List Instr
  /-- registers that differ from their reset values, by address (R692) -/
  regs : SMap Word
  /-- the model's own counter for free values (log row 2) -/
  fresh : Nat
  cores : SMap Core
  pairs : SMap Pair
  agents : SMap Agent
  slices : SMap Slice
  /-- coherence messages sent and not yet delivered, oldest first -/
  net : List CMsg
  /-- a stage-split sequence in progress: the slice and its new portion (R289) -/
  split : Option (Nat × Nat)
  /-- close memory of core n at n * 4000h (R71) -/
  close : Memory
  /-- SRAM data words of the slices' stage units, by slice * 40000h + unit offset (R271) -/
  stage : Memory
  dmcs : SMap Dmc
  errlog : ErrLog
  hat : Hat
  eiu : Eiu
  tb : Tb
  fab : Fab
  /-- the last completion delivered to an initiator -/
  resp : Resp
  seg : Seg
  ports : Ports
  eth : Eth
  usb : Usb
  cuf : SMap CufPort
  fgt : Fgt
  /-- the keep store's words by offset (R607) -/
  keep : Memory
  /-- the injection of `KEP_INJECT` that waits: 0 none, 1 single, 2 double -/
  keepInj : Nat
  cns : Cns
  boot : Boot
  pwr : Pwr
  jtag : Jtag
  /-- parity and ECC errors not yet found -/
  flaws : List Flaw
deriving DecidableEq, Repr

/-- The machine right after reset: every register at its reset value (R700), no core started (R636), every memory at its reset contents
(R292, R619), nothing in progress. -/
def State.reset : State where
  pending := []
  regs := []
  fresh := 0
  cores := []
  pairs := []
  agents := []
  slices := []
  net := []
  split := none
  close := []
  stage := []
  dmcs := []
  errlog := ErrLog.reset
  hat := Hat.reset
  eiu := Eiu.reset
  tb := Tb.reset
  fab := Fab.reset
  resp := Resp.reset
  seg := Seg.reset
  ports := Ports.reset
  eth := Eth.reset
  usb := Usb.reset
  cuf := []
  fgt := Fgt.reset
  keep := []
  keepInj := 0
  cns := Cns.reset
  boot := Boot.reset
  pwr := Pwr.reset
  jtag := Jtag.reset
  flaws := []

end Sys2Proof.Machine
end

