-- ==== Sys2Proof/Machine/Regs.lean ====
section
/-!
DEFINITION. The register file: which register an address names (R692, R693), its reset value (R19, R700), reading and setting it by
the hardware, and the effect of a software write field by field (R18, R25, R26, R695, R696, R711).
-/
namespace Sys2Proof.Machine

/-! ### Which register an address names -/

/-- The block whose pages hold address `a`, with the number of its copy and the offset in it. -/
def blkAt (a : Nat) : List Blk → Option (Blk × Nat × Nat)
  | [] => none
  | b :: t =>
    if b.base ≤ a && decide (a < b.base + b.stride * b.count) then some (b, (a - b.base) / b.stride, (a - b.base) % b.stride)
    else blkAt a t

/-- The row that holds offset `o`, and which of its registers that is. -/
def rowAt (o : Nat) : List RegRow → Option (RegRow × Nat)
  | [] => none
  | r :: t =>
    if r.off ≤ o && (o - r.off) % r.stride == 0 && decide ((o - r.off) / r.stride < r.count) then some (r, (o - r.off) / r.stride)
    else rowAt o t

/-- The register at address `a`: its row, the copy n of its block and its number k in the row. -/
def regAt (a : Nat) : Option (RegRow × Nat × Nat) :=
  match blkAt a blocks with
  | none => none
  | some (b, n, o) =>
    match rowAt o b.rows with
    | none => none
    | some (r, k) => some (r, n, k)

/-- The fields of the register at `a` (none when no register is there). -/
def fieldsAt (a : Nat) : List Fld :=
  match regAt a with
  | none => []
  | some (r, _, _) => if a = 0x4003f0 then [⟨39, 39, "EN", .rw, 0, .any⟩, ⟨35, 32, "KIND", .ro, 10, .any⟩, ⟨31, 31, "DIR", .rw, 0, .any⟩,
      ⟨30, 27, "SIZE", .rw, 0, .range 4 12⟩, ⟨24, 16, "BIND", .rw, 0, .any⟩] else r.fields

/-! ### Reset values -/

/-- The word with every field of the list at its reset value. -/
def resetWord : List Fld → Word
  | [] => 0
  | f :: t => fset (resetWord t) f.hi f.lo f.reset

/-- Bit k of the page map of R703: page k of the device-register range is assigned under R76. -/
def pageAssigned (k : Nat) : Bool :=
  (decide (k < 0x14)) || (decide (0x18 ≤ k) && decide (k < 0x1a)) || (decide (0x20 ≤ k) && decide (k < 0x22)) ||
  (decide (0x28 ≤ k) && decide (k < 0x2b)) || k == 0x30 || (decide (0x40 ≤ k) && decide (k < 0x50)) ||
  (decide (0x60 ≤ k) && decide (k < 0x66)) || k == 0x68 || k == 0x69 || k == 0x70 || k == 0x71 || k == 0x78 || k == 0x79 || k == 0x7a ||
  k == 0x7f

/-- The word whose bit j is `f j`, for the low `n` bits. -/
def wordOfBits (n : Nat) (f : Nat → Bool) : Word := BitVec.ofNat 40 (bitsToNat ((List.range n).map f))

/-- Keys of the route tables (R343): entry `dest` of network interface `ni`, kept outside the register pages. -/
def routeKey (ni dest : Nat) : Nat := 0x410000 + 32 * ni + dest

/-- The 21 endpoint IDs that exist (R336). -/
def endpointExists (ep : Nat) : Bool :=
  decide (ep ≤ 8) || ep == 10 || ep == 12 || ep == 14 || ep == 16 || ep == 18 || ep == 20 || ep == 21 || ep == 22 || ep == 24 || ep == 26 ||
  ep == 28 || ep == 30

/-- Hops of one dimension of a minimal route from a to b on a ring of four: (count, positive direction), positive when both ways are 2
(R344). -/
def ringHops (a b : Nat) : Nat × Bool :=
  let d := (b + 4 - a) % 4
  if d ≤ 2 then (d, true) else (4 - d, false)

/-- `n` hops of 2-bit code `c`, first hop in the highest place, appended below the hops already in `(bits, count)`. -/
def addHops (n c : Nat) (p : Nat × Nat) : Nat × Nat :=
  match n with
  | 0 => p
  | n + 1 => addHops n c (p.1 + c * 4 ^ (5 - p.2), p.2 + 1)

/-- The reset route entry of R344: VALID, HOPS and ROUTE of the minimal route between the nodes of two endpoints. -/
def resetRoute (ni dest : Nat) : Word :=
  if endpointExists ni && endpointExists dest then
    let xs := ringHops ((ni / 2) % 4) ((dest / 2) % 4)
    let ys := ringHops (ni / 8) (dest / 8)
    let p := addHops ys.1 (if ys.2 then 2 else 3) (addHops xs.1 (if xs.2 then 0 else 1) (0, 0))
    BitVec.ofNat 40 (2 ^ 15 + p.2 * 2 ^ 12 + p.1)
  else 0

/-- Reset values that depend on which copy of a register it is, or that the tables give in words. -/
def resetSpecial (a : Nat) : Option Word :=
  if 0x410000 ≤ a then some (resetRoute ((a - 0x410000) / 32) ((a - 0x410000) % 32))
  else if a = 0x4003f0 then some (fset 0 35 32 10)
  else if a = Reg.SYS_UID 0 then some (BitVec.ofNat 40 (Config.uid.toNat % 2 ^ 40))
  else if a = Reg.SYS_UID 1 then some (BitVec.ofNat 40 (Config.uid.toNat / 2 ^ 40))
  else if Reg.SYS_PAGE_MAP 0 ≤ a && decide (a < Reg.SYS_PAGE_MAP 13) then
    some (wordOfBits 40 (fun j => pageAssigned (40 * (a - Reg.SYS_PAGE_MAP 0) + j) && decide (40 * (a - Reg.SYS_PAGE_MAP 0) + j < 512)))
  else if a = Reg.CS_SHED_RANK 0 then some 0
  else if a = Reg.ETH_TS_LAT then some (Config.ethTsLat &&& 0xFFFF)
  else
    match regAt a with
    | none => some 0
    | some (r, n, k) =>
      if r.name = "CS_CORE_ID" || r.name = "HS_ID" || r.name = "DMC_ID" then some (BitVec.ofNat 40 n)
      else if r.name = "CUF_ID" then some (BitVec.ofNat 40 (8 + n))
      else if r.name = "CUF_WIN" && k % 4 == 0 then some 480
      else if r.name = "SEF_ID" then some (BitVec.ofNat 40 n)
      else if r.name = "EIU_SRC_CFG" && decide (160 ≤ k) && decide (k < 192) then some (BitVec.ofNat 40 (2 ^ ((k - 160) / 4) * 2 ^ 16 + 2 ^ 12))
      else none

/-- The value of the register at `a` after reset. -/
def resetOf (a : Nat) : Word := (resetSpecial a).getD (resetWord (fieldsAt a))

/-! ### The register file -/

def State.reg (s : State) (a : Nat) : Word := SMap.getD (resetOf a) a s.regs

def State.setReg (a : Nat) (v : Word) (s : State) : State := { s with regs := SMap.put (resetOf a) a v s.regs }

/-- Field [hi:lo] of the register at `a`. -/
def State.fld (s : State) (a hi lo : Nat) : Nat := fget (s.reg a) hi lo

def State.bit (s : State) (a i : Nat) : Bool := bget (s.reg a) i

def State.setFld (a hi lo v : Nat) (s : State) : State := s.setReg a (fset (s.reg a) hi lo v)

def State.setBit (a i : Nat) (b : Bool) (s : State) : State := s.setReg a (bset (s.reg a) i b)

/-- Add one to the count register at `a`, wrapping at 2^40 (R699). -/
def State.inc (a : Nat) (s : State) : State := s.setReg a (s.reg a + 1)

def State.addTo (a n : Nat) (s : State) : State := s.setReg a (s.reg a + BitVec.ofNat 40 n)

/-- The boot seal is in force (R28, R634). -/
def State.isSealed (s : State) : Bool := s.bit Reg.BSQ_STATUS 10

/-! ### A software write -/

def Chk.ok : Chk → Nat → Bool
  | .any, _ => true
  | .range lo hi, v => decide (lo ≤ v) && decide (v ≤ hi)
  | .two a b c d, v => (decide (a ≤ v) && decide (v ≤ b)) || (decide (c ≤ v) && decide (v ≤ d))

/-- The reserved codes of PINMUX per GPIO line (R745): code 1 on lines 0-7, code 2 on lines 8 and 9, else only 0. -/
def pinmuxOk (line code : Nat) : Bool := code == 0 || (code == 1 && decide (line ≤ 7)) || (code == 2 && (line == 8 || line == 9))

/-- Reserved values that depend on the register's copy: the PINMUX codes of R745, and PPL above the owning level (R118, in the table). -/
def fieldOk (a : Nat) (f : Fld) (v : Nat) : Bool :=
  f.chk.ok v && (if Reg.SYS_PINMUX 0 ≤ a && decide (a ≤ Reg.SYS_PINMUX_4) then pinmuxOk (10 * (a - Reg.SYS_PINMUX 0) + f.lo / 4) v else true)

/-- One field of a store (R18): the register's new value, and whether a reserved value was met (R695). -/
def writeFld (a : Nat) (isSealed : Bool) (wr : Word) (f : Fld) (p : Word × Bool) : Word × Bool :=
  let v := fget wr f.hi f.lo
  match f.acc with
  | .ro => p
  | .wo => p
  | .rw => if fieldOk a f v then (fset p.1 f.hi f.lo v, p.2) else (p.1, true)
  | .lk => if isSealed then p else if fieldOk a f v then (fset p.1 f.hi f.lo v, p.2) else (p.1, true)
  | .w1c => (fset p.1 f.hi f.lo (fget (p.1 &&& ~~~ wr) f.hi f.lo), p.2)
  | .w1s => (fset p.1 f.hi f.lo (fget (p.1 ||| wr) f.hi f.lo), p.2)

/-- Every field of a store, as one event (R25). -/
def writeFlds (a : Nat) (isSealed : Bool) (wr : Word) : List Fld → Word × Bool → Word × Bool
  | [], p => p
  | f :: t, p => writeFlds a isSealed wr t (writeFld a isSealed wr f p)

/-- A reserved write is captured (R696): the first capture is kept until RSVD_WRITE is cleared. -/
def captureRsvd (ep a : Nat) (v : Word) (s : State) : State :=
  let s := s.inc Reg.SYS_RSVD_CNT
  if s.bit Reg.SYS_STATUS 0 then s.setBit Reg.SYS_STATUS 1 true
  else ((s.setBit Reg.SYS_STATUS 0 true).setReg Reg.SYS_RSVD_ADDR (BitVec.ofNat 40 (ep * 2 ^ 34 + a))).setReg Reg.SYS_RSVD_DATA v

/-- The fields of the register at `a` take `v` by their access codes, restricted to the fields that `keep` admits (R695: fields that accept no
write in the present state keep their value and are no reserved write). -/
def writeRegIf (keep : Fld → Bool) (ep a : Nat) (v : Word) (s : State) : State :=
  let p := writeFlds a s.isSealed v ((fieldsAt a).filter keep) (s.reg a, false)
  let s := s.setReg a p.1
  if p.2 then captureRsvd ep a v s else s

/-- A software write with no rule of its own (R697). -/
def writeReg (ep a : Nat) (v : Word) (s : State) : State := writeRegIf (fun _ => true) ep a v s

end Sys2Proof.Machine
end

