-- ==== Sys2Proof/Machine/Ops.lean ====
section
/-!
DEFINITION. Operations many blocks share: a meaning's ending, free values, the states kept per instance, the error log (R667-R669), Hatcheck
triggers (R672-R674) and event sources (R304).
-/
namespace Sys2Proof.Machine

abbrev Out := Host.Outcome State Fault Refusal

/-! ### Free values (log row 2) -/

def takeFresh (s : State) : State := { s with fresh := s.fresh + 1 }

def freeWord (s : State) : Word := Config.freeWord s.fresh
def freeNat (s : State) : Nat := Config.freeNat s.fresh
def freeBool (s : State) : Bool := Config.freeBool s.fresh

/-! ### Per-instance records -/

def State.core (s : State) (c : Nat) : Core := SMap.getD Core.reset c s.cores
def State.setCore (c : Nat) (v : Core) (s : State) : State := { s with cores := SMap.put Core.reset c v s.cores }
def State.updCore (c : Nat) (f : Core → Core) (s : State) : State := s.setCore c (f (s.core c))

def State.pair (s : State) (n : Nat) : Pair := SMap.getD Pair.reset n s.pairs
def State.setPair (n : Nat) (v : Pair) (s : State) : State := { s with pairs := SMap.put Pair.reset n v s.pairs }

def State.agent (s : State) (a : Nat) : Agent := SMap.getD Agent.reset a s.agents
def State.setAgent (a : Nat) (v : Agent) (s : State) : State := { s with agents := SMap.put Agent.reset a v s.agents }

def State.slice (s : State) (n : Nat) : Slice := SMap.getD Slice.reset n s.slices
def State.setSlice (n : Nat) (v : Slice) (s : State) : State := { s with slices := SMap.put Slice.reset n v s.slices }

def State.dmc (s : State) (n : Nat) : Dmc := SMap.getD Dmc.reset n s.dmcs
def State.setDmc (n : Nat) (v : Dmc) (s : State) : State := { s with dmcs := SMap.put Dmc.reset n v s.dmcs }

/-! ### The timebase as others read it -/

def State.now (s : State) : Nat := s.tb.now.toNat
def State.nowLo (s : State) : Word := BitVec.ofNat 40 s.now
def State.nowHi (s : State) : Word := BitVec.ofNat 40 (s.now / 2 ^ 40)

/-! ### Memories -/

def memRead (m : Memory) (a : Nat) : MWord := SMap.getD MWord.zero a m
def memWrite (a : Nat) (v : MWord) (m : Memory) : Memory := SMap.put MWord.zero a v m

/-- The canonical form of a memory. -/
def Memory.wf (m : Memory) : Bool := SMap.canon (fun _ => MWord.zero) m

/-- `n` words from address `a`. -/
def memReadN (m : Memory) (a : Nat) : Nat → Line
  | 0 => []
  | n + 1 => memRead m a :: memReadN m (a + 1) n

def memWriteN (a : Nat) : Line → Memory → Memory
  | [], m => m
  | w :: t, m => memWriteN (a + 1) t (memWrite a w m)

/-- Octet k of a word is [8k+7:8k] (R56); the word `old` with the octets that `mask` enables taken from `new`. -/
def mergeOctets (mask : Nat) (old new : Word) : Word :=
  let m := bitsToNat ((List.range 40).map (fun i => Nat.testBit mask (i / 8)))
  (old &&& ~~~ BitVec.ofNat 40 m) ||| (new &&& BitVec.ofNat 40 m)

/-- A write of the octets that `mask` enables to a stored word (R301, R490): a write of all five octets stores the new word and its mark; an
octet write merges and leaves a poison mark set. -/
def mergeMWord (mask : Nat) (old new : MWord) : MWord :=
  if mask % 32 = 31 then new
  else if mask % 32 = 0 then old
  else ⟨mergeOctets (mask % 32) old.v new.v, if old.mark = .poison || new.mark = .poison then .poison else .good⟩

/-- Octet-masked merge of a line, 5 mask bits per word. -/
def mergeLine : Nat → Line → Line → Line
  | _, [], _ => []
  | _, old, [] => old
  | mask, o :: os, n :: ns => mergeMWord (mask % 32) o n :: mergeLine (mask / 32) os ns

def zeroLine : Line := List.replicate 16 MWord.zero

def hasPoison (l : Line) : Bool := l.any (fun w => decide (w.mark = .poison))

/-! ### Event sources (R304) -/

def State.pendOf (s : State) (k : Nat) : Bool := s.eiu.pend.getLsbD k

/-- Set or clear bit k of a 256-bit set. -/
def set256 (k : Nat) (b : Bool) (x : BitVec 256) : BitVec 256 :=
  if b then x ||| BitVec.ofNat 256 (2 ^ k) else x &&& ~~~ BitVec.ofNat 256 (2 ^ k)

/-- An assertion leaves the event unit's queue: PEND is latched, or the assertion is counted. -/
def latchSource (k : Nat) (s : State) : State :=
  if s.pendOf k then s.inc (Reg.EIU_SRC_CNT k) else { s with eiu := { s.eiu with pend := set256 k true s.eiu.pend } }

/-- An assertion joins the queue of 64; an owner that finds it full holds it (R324). -/
def acceptSource (k : Nat) (s : State) : State :=
  if s.eiu.inq.length < 64 && s.eiu.owed.isEmpty then { s with eiu := { s.eiu with inq := s.eiu.inq ++ [k] } }
  else { s with eiu := { s.eiu with owed := s.eiu.owed ++ [k] } }

/-- The event unit takes everything queued, oldest first, and then what its owners held (R41). -/
def drainSources (s : State) : State :=
  (s.eiu.inq ++ s.eiu.owed).foldl (fun s k => latchSource k s) { s with eiu := { s.eiu with inq := [], owed := [] } }

/-- An owner asserts source k (R304, R324). DESIGN CHOICE (log row 39): the event unit takes it before the command ends. -/
def assertSource (k : Nat) (s : State) : State := drainSources (acceptSource k s)

/-- An event bit of the status at `a` is set whose enable is set; a status at its reset value has none. -/
def meet (s : State) (a en hi lo : Nat) : Bool := (SMap.find a s.regs).isSome && (fget (s.reg a &&& s.reg en) hi lo) != 0

/-- The level sources and what asserts each (R470, R540, R580, chapters 17, 19, 20). -/
def levelOn (s : State) (k : Nat) : Bool :=
  if decide (64 ≤ k) && decide (k < 80) then meet s (Reg.SEF_EVT (k - 64)) (Reg.SEF_EVT_EN (k - 64)) 3 0
  else if decide (80 ≤ k) && decide (k < 88) then meet s (Reg.AUD_STATUS (k - 80)) (Reg.AUD_EVT_EN (k - 80)) 5 0
  else if k = 88 then meet s Reg.FGT_STATUS Reg.FGT_EVT_EN 4 1
  else if k = 89 then meet s Reg.KEP_STATUS Reg.KEP_EVT_EN 3 1
  else if k = 96 then meet s Reg.MID_EVT Reg.MID_EVT_EN 7 0
  else if decide (97 ≤ k) && decide (k < 100) then meet s (Reg.I2C_STATUS (k - 97)) (Reg.I2C_EVT_EN (k - 97)) 2 0
  else if k = 100 then meet s Reg.QSPI_STATUS Reg.QSPI_EVT_EN 0 0
  else if k = 101 then meet s Reg.EMC_STATUS Reg.EMC_EVT_EN 5 0
  else if k = 102 then meet s Reg.GPIO_IRQ_STAT_LO Reg.GPIO_EVT_EN_LO 39 0 || meet s Reg.GPIO_IRQ_STAT_HI Reg.GPIO_EVT_EN_HI 7 0
  else if k = 103 then meet s Reg.HPT_STATUS Reg.HPT_EVT_EN 18 14
  else if k = 104 then meet s Reg.ETH_STATUS Reg.ETH_EVT_EN 3 1
  else if k = 105 then meet s Reg.ETH_STATUS Reg.ETH_EVT_EN 5 4
  else if k = 112 then meet s Reg.USB_STATUS Reg.USB_EVT_EN 6 3
  else if k = 113 then meet s Reg.USB_STATUS Reg.USB_EVT_EN 8 7
  else if k = 114 then meet s Reg.USB_STATUS Reg.USB_EVT_EN 12 9
  else if k = 143 then meet s Reg.PWR_STATUS Reg.PWR_EVT_EN 5 3
  else if k = 144 then (SMap.find Reg.SYS_ERRLOG_STAT s.regs).isSome && s.fld Reg.SYS_ERRLOG_STAT 4 0 != 0 && s.bit Reg.SYS_ERRLOG_STAT 12
  else if k = 145 then (SMap.find Reg.HAT_STATUS s.regs).isSome && s.bit Reg.HAT_STATUS 1 && s.bit Reg.HAT_CTL 3
  else if k = 146 then meet s Reg.DBG_EVT Reg.DBG_EVT_EN 2 0
  else false

def levelSources : List Nat :=
  [64, 65, 66, 67, 68, 69, 70, 71, 72, 73, 74, 75, 76, 77, 78, 79, 80, 81, 82, 83, 84, 85, 86, 87, 88, 89, 96, 97, 98, 99, 100, 101, 102, 103,
   104, 105, 112, 113, 114, 143, 144, 145, 146]

/-- The level sources of a list that become asserted between two states latch their PEND (R304). -/
def relevelList (old : State) : List Nat → State → State
  | [], s => s
  | k :: t, s => relevelList old t (if levelOn s k && !levelOn old k then assertSource k s else s)

/-- The state `f s`, with every level source that becomes asserted on the way latched. -/
def lv (f : State → State) (s : State) : State := relevelList s levelSources (f s)

/-- The same for one level source k that `f` can assert. -/
def lv1 (k : Nat) (f : State → State) (s : State) : State := relevelList s [k] (f s)

def inService (s : State) (k : Nat) : Bool := (SMap.find k s.eiu.insvc).isSome

/-- PEND with every level source that its owner asserts and no core serves. -/
def levelPend (s : State) : BitVec 256 :=
  levelSources.foldl (fun p k => if levelOn s k && !inService s k then set256 k true p else p) s.eiu.pend

/-! ### The error log (R667) -/

/-- A block offers a record to the collector; each block holds up to two. -/
def logErr (blk : BlkId) (kind unit : Nat) (addr info : Word) (s : State) : State :=
  if 2 ≤ (s.errlog.await.filter (fun r => decide (r.blk = blk))).length then s.inc Reg.SYS_ERRLOG_LOST_CNT
  else { s with errlog := { s.errlog with await := s.errlog.await ++ [⟨blk, kind, unit, s.nowLo, addr, info⟩] } }

def nw (n : Nat) : Word := BitVec.ofNat 40 n

/-! ### Errors of stored parity and ECC (log row 23) -/

def struck (s : State) (f : Flaw) : Bool := s.flaws.contains f

def heal (f : Flaw) (s : State) : State := { s with flaws := s.flaws.erase f }

/-- A configuration word of the event unit is found wrong (R334): its record, and the source is disabled. -/
def eiuParity (k : Nat) (s : State) : State :=
  let s := logErr .eiu 0x04 0 0 (nw k) (heal (.eiu k) s)
  (s.setReg Reg.EIU_STATUS (bset (fset (s.reg Reg.EIU_STATUS) 15 8 k) 0 true)).setBit (Reg.EIU_SRC_CFG k) 0 false

/-- A read of source k's word finds an error. -/
def eiuRead (k : Nat) (s : State) : State := if struck s (.eiu k) then eiuParity k s else s

/-- An offer of an enabled, pending source finds one; with OFF = 1 nothing is offered (R307). -/
def eiuOffers (s : State) : State :=
  if s.bit Reg.EIU_CTL 0 then s else s.flaws.foldl (fun s f => match f with
    | .eiu k => if decide (k < 256) && s.pendOf k && s.bit (Reg.EIU_SRC_CFG k) 0 then eiuParity k s else s
    | _ => s) s

/-- PEND with everything latched that still waits in the event unit's queue or at its owner: nothing does where assertSource drained them. -/
def queuedPend (s : State) : BitVec 256 := (s.eiu.inq ++ s.eiu.owed).foldl (fun p k => set256 k true p) (levelPend s)

/-- An asserted level source is pending or in service, and no assertion waits, whatever a command did (R304, R324). -/
def latched (s : State) : State := { s with eiu := { s.eiu with pend := queuedPend s, inq := [], owed := [] } }

/-- The outcome of a command that goes on. -/
def ok (s : State) : Out := .next (latched s)

/-! ### Event counters (R194, R195, R202) -/

/-- `cs.STATUS.PL` (R88). -/
def State.pl (s : State) (c : Nat) : Nat := s.fld (Reg.CS_STATUS c) 1 0

/-- n occurrences of an event at the core's level; at most 4 count per retirement group. -/
def pmcEvent (c ev n : Nat) (s : State) : State :=
  (List.range 16).foldl (fun s k =>
    let sel := s.reg (Reg.CS_PMC_SEL c k)
    if bget sel 12 && fget sel 7 0 == ev && bget sel (8 + s.pl c) && ev != 0 then
      let v := s.reg (Reg.CS_PMC c k)
      let s := s.setReg (Reg.CS_PMC c k) (v + BitVec.ofNat 40 (min n 4))
      if 2 ^ 40 ≤ v.toNat + min n 4 then s.setBit (Reg.CS_PMC_SEL c k) 13 true else s
    else s) s

/-! ### Hatcheck triggers (R672, R673, R674) -/

/-- Trigger source j (0 SOFTWARE, 1 DEBUG, 2 PIN, 3 PROBE, 4 LOG) arrives, with the value CAUSE_INFO takes if it begins a latch. -/
def hatTrigger (j : Nat) (cause : Word) (rec : LogRec) (s : State) : State :=
  if !s.bit Reg.HAT_CTL (4 + j) then s
  else if s.bit Reg.HAT_STATUS 0 then
    let s := s.setReg Reg.HAT_STATUS (bset (bset (bset (fset (s.reg Reg.HAT_STATUS) 11 9 j) 0 false) 2 true) (4 + j) true)
    let s := ((s.setReg Reg.HAT_LATCH_TICK_LO s.nowLo).setReg Reg.HAT_LATCH_TICK_HI s.nowHi).setReg Reg.HAT_CAUSE_INFO cause
    let s := if j = 4 then (((s.setReg (Reg.HAT_TRIG_REC 0) rec.w0).setReg (Reg.HAT_TRIG_REC 1) rec.w1).setReg (Reg.HAT_TRIG_REC 2) rec.w2).setReg
      (Reg.HAT_TRIG_REC 3) rec.w3 else s
    let drives := s.bit Reg.HAT_CTL 2 && j != 2
    let s := if drives then s.setBit Reg.HAT_PIN 1 true else s
    { s with hat := { s.hat with latch := some (s.fld Reg.HAT_DELAY 9 0), byPin := j == 2, armAfter := false,
                                 drive := if drives then some 2 else s.hat.drive } }
  else if s.bit Reg.HAT_STATUS 2 then s.setBit Reg.HAT_STATUS (4 + j) true
  else s.inc Reg.HAT_MISSED_CNT

def noRec : LogRec := ⟨0, 0, 0, 0⟩

end Sys2Proof.Machine
end

