-- ==== Sys2Proof/Machine/Fabric.lean ====
section
/-!
DEFINITION. The fabric's own rules (chapter 10): routes and channels (R342-R346), probes and trace records (R361, R362), the tags of a network
interface with their generations, timeouts and holds (R351-R356, R369).
-/
set_option linter.constructorNameAsVariable false

namespace Sys2Proof.Machine

/-! ### Routes (R342, R343) -/

def routeEntry (s : State) (ni dst : Nat) : Word := s.reg (routeKey ni dst)
def routeValid (s : State) (ni dst : Nat) : Bool := endpointExists dst && bget (routeEntry s ni dst) 15

/-- The hops of a route string, first hop first. -/
def routeHops (e : Word) : List Nat := (List.range (fget e 14 12)).map (fun i => fget e 11 0 / 4 ^ (5 - i) % 4)

/-- The router reached from router r by a hop: 0 XP, 1 XM, 2 YP, 3 YM. -/
def hopTo (r d : Nat) : Nat :=
  let x := r % 4
  let y := r / 4
  match d with
  | 0 => y * 4 + (x + 1) % 4
  | 1 => y * 4 + (x + 3) % 4
  | 2 => (y + 1) % 4 * 4 + x
  | _ => (y + 3) % 4 * 4 + x

/-- The port through which a hop enters the next router. -/
def entryPort (d : Nat) : Nat := match d with | 0 => 1 | 1 => 0 | 2 => 3 | _ => 2

/-- The hop from router r crosses a dateline (R346). -/
def dateline (r d : Nat) : Bool :=
  match d with
  | 0 => r % 4 == 3
  | 1 => r % 4 == 0
  | 2 => r / 4 == 3
  | _ => r / 4 == 0

/-- Channels a packet enters after its first router: (router, entry port, virtual channel). -/
def pathHops (r vc : Nat) (inY : Bool) : List Nat → List (Nat × Nat × Nat)
  | [] => []
  | d :: t =>
    let turn := decide (2 ≤ d) && !inY
    let vc' := if dateline r d then 1 else if turn then 0 else vc
    (hopTo r d, entryPort d, vc') :: pathHops (hopTo r d) vc' (decide (2 ≤ d)) t

/-- The channels of a packet from endpoint ni to endpoint dst, its local port first. -/
def pathOf (s : State) (ni dst : Nat) : List (Nat × Nat × Nat) :=
  (ni / 2, 4, 0) :: pathHops (ni / 2) 0 false (routeHops (routeEntry s ni dst))

/-- A well-formed route string from the node of ni to the node of dst (R343). -/
def wellFormedRoute (ni dst hops route : Nat) : Bool :=
  let hs := (List.range hops).map (fun i => route / 4 ^ (5 - i) % 4)
  let xs := hs.takeWhile (fun d => decide (d < 2))
  let ys := hs.dropWhile (fun d => decide (d < 2))
  decide (hops ≤ 6) && ys.all (fun d => decide (2 ≤ d)) && xs.all (fun d => d == xs.headD 0) && ys.all (fun d => d == ys.headD 2) &&
  decide (xs.length ≤ 3) && decide (ys.length ≤ 3) && route % 4 ^ (6 - hops) == 0 && hs.foldl hopTo (ni / 2) == dst / 2

/-! ### Packets -/

/-- The status codes of R340. -/
def statusCode : FStatus → Nat
  | .ok => 0 | .decode => 1 | .prot => 2 | .timeout => 3 | .domainOff => 4 | .poison => 5 | .linkDown => 6

/-- Flits of a packet (R338). -/
def Pkt.flits (p : Pkt) : Nat := 2 + b2n p.masked + (p.data.length + 1) / 2

def hdr0 (s : State) (p : Pkt) : Word :=
  let e := routeEntry s p.src p.dst
  nw (fget e 11 0 * 2 ^ 28 + fget e 14 12 * 2 ^ 25 + p.dst % 2 * 2 ^ 24 + p.src * 2 ^ 19 + p.gen * 2 ^ 16 + p.tag * 2 ^ 8 + p.code * 2 ^ 3 +
      statusCode p.status)

def hdr1 (p : Pkt) : Word := nw (p.len * 2 ^ 35 + b2n p.io * 2 ^ 34 + p.addr % 2 ^ 34)

/-- The code of an atomic operation in a header. -/
def atopCode : AtOp → Nat
  | .cas => 0 | .fadd => 1 | .swap => 2

def hdr2 (p : Pkt) : Word :=
  nw (p.ext.epoch * 2 ^ 32 + p.ext.rc * 2 ^ 29 + p.ext.agent * 2 ^ 25 + b2n p.ext.dirty * 2 ^ 24 + atopCode p.atop * 2 ^ 22 + b2n p.ext.aq * 2 ^ 21 +
      b2n p.ext.rl * 2 ^ 20 + b2n p.masked * 2 ^ 19)

def hdr3 (p : Pkt) : Word := nw (p.pl * 2 ^ 38 + p.part * 2 ^ 34)

/-- A flit (R337): its two words, class, virtual channel, whether it is the packet's first and last, and per word its poison and parity bits. -/
structure Flit where
  lo : Word
  hi : Word
  cls : Nat
  vc : Nat
  head : Bool
  tail : Bool
  pois : Bool × Bool
  par : Bool × Bool
deriving DecidableEq, Repr

/-- Even parity over a word: the bit that makes the count of ones even. -/
def parityOf (w : Word) : Bool := ((List.range 40).filter (fun i => w.getLsbD i)).length % 2 == 1

/-- The pairs of words of a packet, with their poison marks: two header flits, a mask flit where MASKED is 1, then the data, two words to a flit, the
last filled with zero (R338). -/
def Pkt.pairs (s : State) (p : Pkt) : List (MWord × MWord) :=
  let g := fun (w : Word) => (⟨w, .good⟩ : MWord)
  let rec body : Line → List (MWord × MWord)
    | [] => []
    | [w] => [(w, MWord.zero)]
    | w :: x :: t => (w, x) :: body t
  [(g (hdr0 s p), g (hdr1 p)), (g (hdr2 p), g (hdr3 p))] ++
  (if p.masked then [(g (nw (p.mask % 2 ^ 40)), g (nw (p.mask / 2 ^ 40 % 2 ^ 40)))] else []) ++ body p.data

/-- The flits of a packet on a virtual channel (R337, R338). -/
def Pkt.flitsOn (s : State) (vc : Nat) (p : Pkt) : List Flit :=
  let l := p.pairs s
  l.zipIdx.map (fun q =>
    ⟨q.1.1.v, q.1.2.v, p.cls, vc, q.2 == 0, q.2 + 1 == l.length, (decide (q.1.1.mark = .poison), decide (q.1.2.mark = .poison)),
     (parityOf q.1.1.v, parityOf q.1.2.v)⟩)

/-! ### Probes (R361, R362) -/

/-- Probe k's filter accepts a packet that enters router r through a port. -/
def probeMatch (s : State) (k r port : Nat) (p : Pkt) : Bool :=
  let m := s.reg (Reg.PRB_n_MATCH k)
  let sd := s.reg (Reg.PRB_n_SRC_DST k)
  let masked := fun a b mask : Nat => (a ^^^ b) &&& (31 - mask) == 0
  s.bit (Reg.PRB_n_CTL k) 0 && s.fld (Reg.PRB_n_SEL k) 6 3 == r && s.fld (Reg.PRB_n_SEL k) 2 0 == port && bget m (14 + p.cls) &&
  (bget m 13 || (bget m 12 == p.io)) && masked p.code (fget m 6 2) (fget m 11 7) && masked p.src (fget sd 14 10) (fget sd 19 15) &&
  masked p.dst (fget sd 4 0) (fget sd 9 5) && decide (s.fld (Reg.PRB_n_ADDR_LO k) 33 0 ≤ p.addr) && decide (p.addr ≤ s.fld (Reg.PRB_n_ADDR_HI k) 33 0)

def traceRec (k r port : Nat) (p : Pkt) (s : State) : State :=
  if !s.bit Reg.PRB_CTL 0 then s
  else if s.bit Reg.PRB_STATUS 0 || decide (16 ≤ s.fab.trace.length) then s.inc Reg.PRB_TRACE_DROPS
  else
    { s with fab := { s.fab with trace := s.fab.trace ++
      [⟨s.nowLo, hdr0 s p, hdr1 p, nw (k * 2 ^ 37 + r * 2 ^ 33 + port * 2 ^ 30 + p.flits)⟩] } }

/-- One probe sees one packet. -/
def probeHit (k r port : Nat) (p : Pkt) (s : State) : State :=
  if probeMatch s k r port p then
    let s := (s.inc (Reg.PRB_n_COUNT k)).addTo (Reg.PRB_n_FLITS k) p.flits
    let s := ((s.setReg (Reg.PRB_n_LAST_HDR0 k) (hdr0 s p)).setReg (Reg.PRB_n_LAST_HDR1 k) (hdr1 p)).setReg (Reg.PRB_n_LAST_TICK k) s.nowLo
    let s := if s.bit (Reg.PRB_n_CTL k) 1 then traceRec k r port p s else s
    if s.bit (Reg.PRB_n_CTL k) 2 && s.reg (Reg.PRB_n_COUNT k) == s.reg (Reg.PRB_n_THRESH k) then hatTrigger 3 (nw (k * 2 ^ 29)) noRec s else s
  else s

/-- A packet crosses channels: the flit counts of their routers, and the probes (off from shedding stage 1). -/
def crossAlong (l : List (Nat × Nat × Nat)) (p : Pkt) (s : State) : State :=
  l.foldl (fun s c =>
    let s := s.addTo (Reg.FAB_RTR_FLITS c.1) p.flits
    if s.fld Reg.PWR_STATUS 2 0 = 0 then (List.range 8).foldl (fun s k => probeHit k c.1 c.2.1 p s) s else s) s

/-- A parity error of a flit at a router's port (R371). -/
def flitErr (c : Nat × Nat × Nat) (hdr : Bool) (p : Pkt) (s : State) : State :=
  let s := logErr (.router c.1) 0x22 c.1 0 (nw c.2.1) (heal (.flit c.1 c.2.1 hdr) s)
  let s := (s.setBit (Reg.FAB_RTR_STAT c.1) 3 true).setBit Reg.FAB_STATUS 2 true
  (s.setReg Reg.FAB_ERR_INFO (nw (p.src * 2 ^ 11 + p.dst * 2 ^ 6 + 3))).setReg Reg.FAB_ERR_ADDR (nw p.addr)

/-- A packet crosses the fabric: with a header word found wrong it is discarded there; a data word found wrong is poisoned (R371). -/
def crossFabric (p : Pkt) (s : State) : Option Pkt × State :=
  let path := pathOf s p.src p.dst
  match path.find? (fun c => struck s (.flit c.1 c.2.1 true)) with
  | some c => (none, flitErr c true p (crossAlong (path.takeWhile (fun x => x != c)) p s))
  | none =>
    let s := crossAlong path p s
    match p.data, path.find? (fun c => struck s (.flit c.1 c.2.1 false)) with
    | w :: t, some c => (some { p with data := ⟨w.v, .poison⟩ :: t }, flitErr c false p s)
    | _, _ => (some p, s)

/-- A form no message of R339 has (R371): a reserved CLASS, KIND, CODE or LEN, or data flits that disagree with LEN. -/
def Pkt.misformed (p : Pkt) : Bool :=
  decide (3 ≤ p.cls) || (p.io && (p.cls == 2 || (p.cls == 0 && decide (3 ≤ p.code)) || (p.cls == 1 && decide (2 ≤ p.code)))) || decide (16 < p.len) ||
  decide (16 < p.data.length) || (p.cls == 1 && p.len != p.data.length)

/-- A packet arrives malformed at its destination's interface. -/
def malformed (s : State) (p : Pkt) : Bool := p.misformed || struck s (.packet p.src p.dst)

/-- The record of a malformed packet, which is discarded (R371). -/
def fabViol (p : Pkt) (s : State) : State :=
  let s := logErr (.ni p.dst) 0x23 p.dst 0 (nw p.src) ((heal (.packet p.src p.dst) s).inc Reg.FAB_VIOL_CNT)
  ((s.setBit Reg.FAB_STATUS 1 true).setReg Reg.FAB_ERR_INFO (nw (p.src * 2 ^ 11 + p.dst * 2 ^ 6 + 4))).setReg Reg.FAB_ERR_ADDR (nw p.addr)

/-! ### Tags (R351-R353, R356) -/

def State.ni (s : State) (k : Nat) : Ni := SMap.getD Ni.reset k s.fab.ni
def State.setNi (k : Nat) (v : Ni) (s : State) : State := { s with fab := { s.fab with ni := SMap.put Ni.reset k v s.fab.ni } }

def tagOf (s : State) (k t : Nat) : Tag := SMap.getD Tag.reset t (s.ni k).tags

def setTag (k t : Nat) (v : Tag) (s : State) : State :=
  let n := s.ni k
  s.setNi k { n with tags := SMap.put Tag.reset t v n.tags }

/-- Interface k holds requests to destination T: an ORPHAN tag to T exists (R356). -/
def niHolds (s : State) (k dst : Nat) : Bool := (s.ni k).tags.any (fun e => decide (e.2.st = .orphan) && e.2.dst == dst)

def freeTag? (s : State) (k : Nat) : Option Nat := (List.range 256).find? (fun t => decide ((tagOf s k t).st = .free))

/-- A request of interface k waits at it. -/
def hold (k : Nat) (h : Held) (s : State) : State :=
  let n := s.ni k
  s.setNi k { n with held := n.held ++ [h] }

/-- Flits that wait in a channel (R363). -/
def flitsIn (s : State) (ch : Nat) : Nat :=
  s.fab.blocked.foldl (fun n b => b.spots.foldl (fun n x => if x.1 = ch then n + x.2 else n) n) 0

/-- The injection queue of an interface. -/
def injection (ep : Nat) : Nat := 0x1000 + ep

/-- A request of interface k to dst cannot leave now: an orphan to dst is open (R356), or the injection queue holds its 16 flits (R41, R363). -/
def mustHold (s : State) (k dst : Nat) : Bool := niHolds s k dst || decide (16 ≤ flitsIn s (injection k))

/-- A tag for a packet that leaves now, if the interface has one (R351, R352, R369). -/
def allocTag (k dst addr : Nat) (coh snp : Bool) (s : State) : Option (Nat × Nat × State) :=
  match freeTag? s k with
  | none => none
  | some t =>
    let g := (tagOf s k t).gen
    some (t, g, setTag k t ⟨.busy, g, dst, addr, s.tb.pulses, s.fld Reg.FAB_CTL 8 0, coh, snp⟩ s)

def clearTag (k t gen : Nat) (s : State) : State := setTag k t { Tag.reset with gen := gen } s

/-- A response reaches interface k (R351, R353): does it complete the tag; else it is late or stale. -/
def matchTag (k t gen : Nat) (s : State) : Bool × State :=
  let v := tagOf s k t
  if v.st = .busy && v.gen == gen then (true, clearTag k t gen s)
  else if v.st = .orphan && v.gen == (gen + 1) % 8 then (false, (clearTag k t v.gen s).inc (Reg.FAB_NI_LATE k))
  else (false, s.inc Reg.FAB_STALE_CNT)

/-- A BUSY tag's timer has reached edge FAB_TIMEOUT + 1 (R352). -/
def tagExpired (s : State) (k t : Nat) : Bool :=
  let v := tagOf s k t
  decide (v.st = .busy) && decide (v.issued + v.tmo + 1 ≤ s.tb.pulses)

/-- The tag becomes ORPHAN and advances its generation, and the record is written (R352). -/
def expireTag (k t : Nat) (s : State) : State :=
  let v := tagOf s k t
  let s := setTag k t { v with st := .orphan, gen := (v.gen + 1) % 8 } (s.inc (Reg.FAB_NI_TIMEOUTS k))
  let s := (s.setReg Reg.FAB_ERR_INFO (nw (k * 2 ^ 11 + v.dst * 2 ^ 6 + 1))).setReg Reg.FAB_ERR_ADDR (nw v.addr)
  logErr (.ni k) 0x20 k (nw v.addr) (nw (t * 2 ^ 8 + v.dst)) s

/-- An ORPHAN tag has reached edge 4 × FAB_TIMEOUT + 1 (R353). -/
def tagRetires (s : State) (k t : Nat) : Bool :=
  let v := tagOf s k t
  decide (v.st = .orphan) && decide (v.issued + 4 * v.tmo + 1 ≤ s.tb.pulses)

/-- `FAB_NI_k_STATUS` (R351, R356). -/
def niStatusView (s : State) (k : Nat) : Word :=
  let ts := (s.ni k).tags
  let orphans := (ts.filter (fun e => decide (e.2.st = .orphan))).length
  nw (orphans * 2 ^ 10 + (ts.filter (fun e => decide (e.2.st = .busy))).length * 2 + b2n (orphans != 0))

def niHeldView (s : State) (k : Nat) : Word := wordOfBits 32 (fun d => niHolds s k d)

/-! ### The route table (R365, R366) -/

def rtSelNi (s : State) : Nat := s.fld Reg.FAB_RT_SEL 9 5
def rtSelDest (s : State) : Nat := s.fld Reg.FAB_RT_SEL 4 0

def rtDataView (s : State) : Word := if endpointExists (rtSelNi s) then routeEntry s (rtSelNi s) (rtSelDest s) else 0

/-- A write of `FAB_RT_DATA`. -/
def rtDataWrite (ep : Nat) (v : Word) (s : State) : State :=
  let ni := rtSelNi s
  let d := rtSelDest s
  if !endpointExists ni || s.isSealed then s
  else if fget v 14 12 = 7 || (bget v 15 && !wellFormedRoute ni d (fget v 14 12) (fget v 11 0)) then
    captureRsvd ep Reg.FAB_RT_DATA v s
  else s.setReg (routeKey ni d) (v &&& 0xFFFF)

/-- The device's `ADDR_DECODE` and `ADDR_PROT` records (R83). -/
def logDecode (ep pa : Nat) (s : State) : State := logErr (.ni ep) 0x08 0 (nw pa) (nw ep) s
def logProt (blk : BlkId) (ep kind pa : Nat) (s : State) : State := logErr blk 0x09 0 (nw pa) (nw (kind * 2 ^ 8 + ep)) s

end Sys2Proof.Machine
end

