-- ==== Sys2Proof/Machine/Domains.lean ====
section
/-!
DEFINITION. The state of a power domain as every block sees it, and the wake and the abort of a close that a packet causes (R357-R359, R652).
-/
namespace Sys2Proof.Machine

def domState (s : State) (d : Nat) : Nat := s.fld (Reg.PWR_DOM d) 8 7
def domShed (s : State) (d : Nat) : Bool := s.bit (Reg.PWR_DOM d) 11

/-- RESULT of domain d and DOM_DONE (R652). -/
def domResult (d r : Nat) (s : State) : State := lv1 143 (fun s => (s.setFld (Reg.PWR_DOM d) 6 4 r).setBit Reg.PWR_STATUS 5 true) s

/-- A packet reaches a closing domain: the close is aborted (R358). -/
def abortClose (d : Nat) (s : State) : State :=
  domResult d 2 ((s.setFld (Reg.PWR_DOM d) 8 7 0).inc Reg.FAB_CLOSE_ABORT_CNT)

/-- The router of an endpoint in shut domain d requests a wake, once (R359). -/
def requestWake (d : Nat) (sw : Bool) (s : State) : State :=
  match SMap.find d s.fab.waking with
  | some w => { s with fab := { s.fab with waking := SMap.insert d { w with sw := w.sw || sw } s.fab.waking } }
  | none =>
    let s := if sw then s else s.inc Reg.FAB_WAKE_CNT
    { s with fab := { s.fab with waking := SMap.insert d ⟨s.tb.pulses, sw⟩ s.fab.waking } }

/-- Channel n's domain leaves RETAIN, and its ranks self-refresh (R651). -/
def dmcActive (n : Nat) (s : State) : State :=
  if s.fld (Reg.PWR_DOM (12 + n)) 10 9 = 2 then (s.setFld (Reg.PWR_DOM (12 + n)) 10 9 0).setDmc n { s.dmc n with selfRef := false } else s

end Sys2Proof.Machine
end

