-- ==== Sys2Proof/Machine/Dmc.lean ====
section
/-!
DEFINITION. The DRAM controllers (chapter 14): interleave, ECC, the fresh map with its fill slots and written-ahead table, the write queue,
bring-up, self-refresh, and what a home's line read or write does.
-/
namespace Sys2Proof.Machine

/-! ### Geometry and interleave (R487, R488) -/

/-- CAP_GIW of channel n from PRESENT, RANKS and DENSITY (R487). -/
def dmcCap (s : State) (n : Nat) : Nat :=
  if !s.bit (Reg.DMC_GEOM n) 0 then 0
  else (if s.bit (Reg.DMC_GEOM n) 1 then 2 else 1) * (if s.bit (Reg.DMC_GEOM n) 2 then 2 else 1)

def dramBase : Nat := 2 ^ 33

/-- Channel and channel-local address of offset o into the DRAM range (R488). -/
def interleave (mode cap0 o : Nat) : Nat × Nat :=
  let split := fun g : Nat => ((o / 2 ^ g) % 2, o / 2 ^ (g + 1) * 2 ^ g + o % 2 ^ g)
  match mode with
  | 0 => if o < cap0 * 2 ^ 30 then (0, o) else (1, o - cap0 * 2 ^ 30)
  | 1 => split 4
  | 2 => split 8
  | _ => split 12

def dramRoute (s : State) (pa : Nat) : Nat × Nat := interleave (s.fld (Reg.DMC_ILV 0) 1 0) (dmcCap s 0) (pa - dramBase)

/-- Line l (PA / 16) of DRAM belongs to channel n. -/
def lineOfChannel (s : State) (n l : Nat) : Bool := (dramRoute s (l * 16)).1 == n

/-! ### Words at the devices (R493, R494, R752) -/

def setDram (n la : Nat) (w : MWord) (s : State) : State :=
  s.setDmc n { s.dmc n with dram := SMap.insert la w (s.dmc n).dram }

/-- The controller writes one word: a poisoned word takes no injection; another takes an armed one (R752). -/
def dmcPutWord (n la : Nat) (w : MWord) (s : State) : State :=
  if w.mark = .poison then setDram n la w s
  else match (s.dmc n).inject with
    | .none => setDram n la ⟨w.v, .good⟩ s
    | .single => setDram n la ⟨w.v, .one⟩ (s.setDmc n { s.dmc n with inject := .none })
    | .double => setDram n la ⟨w.v, .two⟩ (s.setDmc n { s.dmc n with inject := .none })

def dmcCorrected (n la lane : Nat) (v : Word) (s : State) : State :=
  dmcPutWord n la ⟨v, .good⟩ ((s.inc (Reg.DMC_CE_CNT n)).inc (Reg.DMC_LANE_CE n lane))

/-- The capture of an uncorrectable error in ERR_ADDR and ERR_INFO, and its record (R513): its lane 0 to 5, or 6 for several, and a syndrome that is
neither 00h nor the poison mark FFh (R493). -/
def dmcUncorr (n la pa lane syn : Nat) (v : Word) (s : State) : State :=
  let s := s.inc (Reg.DMC_UE_CNT n)
  let s := if lane < 6 then s.inc (Reg.DMC_LANE_UE n lane) else s
  let y := 1 + syn % 254
  let s := (s.setReg (Reg.DMC_ERR_ADDR n) (nw pa)).setReg (Reg.DMC_ERR_INFO n) (nw (y * 2 ^ 8 + lane * 2 ^ 5 + 1))
  let s := logErr (.dmc n) 0x40 n (nw pa) (nw (y * 2 ^ 8 + lane * 2 ^ 5)) s
  dmcPutWord n la ⟨v, .poison⟩ s

/-- A read of one word at the devices (R494): a correctable error is corrected and written back, an uncorrectable one poisoned and logged. A
word never written is undefined (R506): a free value in one of the four ways R493 names. -/
def dmcReadWord (n la pa : Nat) (s : State) : MWord × State :=
  match SMap.find la (s.dmc n).dram with
  | some ⟨v, .good⟩ => (⟨v, .good⟩, s)
  | some ⟨v, .poison⟩ => (⟨v, .poison⟩, s.inc (Reg.DMC_POISON_RD_CNT n))
  | some ⟨v, .one⟩ => (⟨v, .good⟩, dmcCorrected n la 0 v s)
  | some ⟨v, .two⟩ => (⟨v ^^^ 3, .poison⟩, dmcUncorr n la pa 0 (Config.eccSyndrome v (v ^^^ 3)) (v ^^^ 3) s)
  | some ⟨_, .undef⟩ | none =>
    let v := freeWord s
    let k := freeNat s
    let s := takeFresh s
    match k % 4 with
    | 0 => (⟨v, .good⟩, s)
    | 1 => (⟨v, .good⟩, dmcCorrected n la (k / 4 % 6) v s)
    | 2 => (⟨v, .poison⟩, dmcUncorr n la pa (k / 4 % 7) (k / 32) v s)
    | _ => (⟨v, .poison⟩, s.inc (Reg.DMC_POISON_RD_CNT n))

def dmcReadWords (n : Nat) : Nat → Nat → Nat → State → Line × State
  | _, _, 0, s => ([], s)
  | la, pa, k + 1, s =>
    let p := dmcReadWord n la pa s
    let q := dmcReadWords n (la + 1) (pa + 1) k p.2
    (p.1 :: q.1, q.2)

def dmcPutWords (n : Nat) : Nat → Line → State → State
  | _, [], s => s
  | la, w :: t, s => dmcPutWords n (la + 1) t (dmcPutWord n la w s)

/-- Row-buffer bookkeeping of one device access (the counts ROW_HIT, ROW_MISS, ROW_CONFLICT). -/
def dmcRow (n la : Nat) (s : State) : State :=
  let d := s.dmc n
  let rank := if s.bit (Reg.DMC_GEOM n) 1 then (if s.bit (Reg.DMC_GEOM n) 2 then la / 2 ^ 31 % 2 else la / 2 ^ 30 % 2) else 0
  let row := la / 2 ^ 14 % (if s.bit (Reg.DMC_GEOM n) 2 then 2 ^ 17 else 2 ^ 16)
  let bank := rank * 16 + (la / 2 ^ 12 % 4) * 4 + la / 2 ^ 4 % 4
  let s := match SMap.find bank d.openRow with
    | some r => if r = row then s.inc (Reg.DMC_ROW_HIT_CNT n) else s.inc (Reg.DMC_ROW_CONFLICT_CNT n)
    | none => s.inc (Reg.DMC_ROW_MISS_CNT n)
  s.setDmc n { s.dmc n with openRow := SMap.insert bank row (s.dmc n).openRow }

/-! ### The fresh map (R500-R504) -/

def blockOf (l : Nat) : Nat := (l - dramBase / 16) / 4096
def lineInBlock (l : Nat) : Nat := (l - dramBase / 16) % 4096

def isFresh (s : State) (n k : Nat) : Bool := (SMap.find k (s.dmc n).notFresh).isNone

/-- The fill slot of block k, if it has one. -/
def slotOf (s : State) (n k : Nat) : Option Nat :=
  (List.range 4).find? (fun j => s.bit (Reg.DMC_FILL n j) 39 && s.fld (Reg.DMC_FILL n j) 38 22 == k)

def freeSlot (s : State) (n : Nat) : Option Nat := (List.range 4).find? (fun j => !s.bit (Reg.DMC_FILL n j) 39)

/-- The written-ahead table entry of line L of the block in slot j. -/
def watOf (s : State) (n j L : Nat) : Option Nat :=
  (List.range 64).find? (fun e => s.bit (Reg.DMC_WAT n e) 39 && s.fld (Reg.DMC_WAT n e) 38 37 == j && s.fld (Reg.DMC_WAT n e) 11 0 == L)

def freeWat (s : State) (n : Nat) : Option Nat := (List.range 64).find? (fun e => !s.bit (Reg.DMC_WAT n e) 39)

/-- Line l reads as zero without a DRAM access: its block is fresh, or it lies at or above the fill pointer and is not written ahead
(R501, R503). -/
def readsZero (s : State) (n l : Nat) : Bool :=
  s.bit (Reg.DMC_CTL n) 1 &&
  (isFresh s n (blockOf l) ||
   match slotOf s n (blockOf l) with
   | none => false
   | some j => decide (s.fld (Reg.DMC_FILL n j) 11 0 ≤ lineInBlock l) && (watOf s n j (lineInBlock l)).isNone)

/-- A map read that an injection makes see a parity error (R513): the 40 blocks of the map word are marked not fresh. -/
def mapRead (n k : Nat) (s : State) : State :=
  if (s.dmc n).injFresh then
    let w := k / 40
    let d := s.dmc n
    let gone := (List.range 40).filter (fun j => (SMap.find (40 * w + j) d.notFresh).isNone && decide (40 * w + j < 131072))
    let s := s.setDmc n { d with injFresh := false, notFresh := gone.foldl (fun m j => SMap.insert (40 * w + j) () m) d.notFresh }
    let s := s.setReg (Reg.DMC_FRESH_LEFT n) (s.reg (Reg.DMC_FRESH_LEFT n) - nw gone.length)
    let s := (s.setReg (Reg.DMC_ERR_ADDR n) 0).setReg (Reg.DMC_ERR_INFO n) (nw (7 * 2 ^ 5 + 3))
    logErr (.dmc n) 0x42 n 0 (nw w) s
  else s

/-- A request reads the map for block k, which takes part while FRESH_EN is 1 (R500, R506). -/
def mapUse (n k : Nat) (s : State) : State := if s.bit (Reg.DMC_CTL n) 1 then mapRead n k s else s

/-- A lookup of line l's table entry that finds an error (R513): its line is treated as written ahead. -/
def watParity (n l : Nat) (s : State) : State :=
  match (slotOf s n (blockOf l)).bind (fun j => watOf s n j (lineInBlock l)) with
  | none => s
  | some e =>
    if struck s (.wat n e) then
      let s := (s.setReg (Reg.DMC_ERR_ADDR n) (nw (l * 16))).setReg (Reg.DMC_ERR_INFO n) (nw (7 * 2 ^ 5 + 4))
      logErr (.dmc n) 0x43 n 0 (nw (2 ^ 8 + e * 2 ^ 9)) (heal (.wat n e) s)
    else s

/-- PA line of channel-local line la of channel n: the inverse of `dramRoute`. -/
def paLine (s : State) (n la : Nat) : Nat :=
  let w := la * 16
  let o := match s.fld (Reg.DMC_ILV 0) 1 0 with
    | 0 => if n = 0 then w else w + dmcCap s 0 * 2 ^ 30
    | 1 => w / 2 ^ 4 * 2 ^ 5 + n * 2 ^ 4 + w % 2 ^ 4
    | 2 => w / 2 ^ 8 * 2 ^ 9 + n * 2 ^ 8 + w % 2 ^ 8
    | _ => w / 2 ^ 12 * 2 ^ 13 + n * 2 ^ 12 + w % 2 ^ 12
  (dramBase + o) / 16

/-- A write of line l waits under R504: its block is fresh and no slot is free, or it would be a write ahead and the table is full. -/
def writeStalls (s : State) (n l : Nat) : Bool :=
  s.bit (Reg.DMC_CTL n) 1 &&
  (if isFresh s n (blockOf l) then (freeSlot s n).isNone
   else match slotOf s n (blockOf l) with
    | none => false
    | some j => decide (s.fld (Reg.DMC_FILL n j) 11 0 ≤ lineInBlock l) && (watOf s n j (lineInBlock l)).isNone && (freeWat s n).isNone)

/-- FILL_URGENT reads 1 while any write waits under R504 (R505). -/
def setUrgent (n : Nat) (s : State) : State :=
  s.setBit (Reg.DMC_STATUS n) 3 (!(s.dmc n).stalls.isEmpty || (s.dmc n).waits.any (fun e => writeStalls s n (paLine s n e.la)))

/-- A write of line l begins to wait under R504, and is counted (R504). -/
def countStall (n l : Nat) (s : State) : State :=
  if isFresh s n (blockOf l) then s.inc (Reg.DMC_SLOT_STALL_CNT n) else s.inc (Reg.DMC_WAT_STALL_CNT n)

/-! ### The write queue (R490, R491) -/

/-- A queued line write is performed at the devices: whole when every octet is enabled, else read, merged and rewritten (R490). -/
def writeDevices (n : Nat) (e : WqEnt) (s : State) : State :=
  let s := dmcRow n (e.la * 16) s
  if e.ahead || e.mask % 2 ^ 80 = 2 ^ 80 - 1 then dmcPutWords n (e.la * 16) e.data s
  else
    let p := dmcReadWords n (e.la * 16) (e.la * 16) 16 (s.inc (Reg.DMC_RMW_CNT n))
    dmcPutWords n (e.la * 16) (mergeLine e.mask p.1 e.data) p.2

/-- The oldest write leaves the write queue. -/
def drainOne (n : Nat) (s : State) : State :=
  match (s.dmc n).wq with
  | [] => s
  | e :: t => writeDevices n e (s.setDmc n { s.dmc n with wq := t })

/-- The write queue holds its 32 lines: a further write is held (R41, R492). -/
def queueFull (s : State) (n : Nat) : Bool := decide (32 ≤ (s.dmc n).wq.length)

/-- A write enters the write queue (R491). -/
def enqueue (n : Nat) (e : WqEnt) (s : State) : State :=
  s.setDmc n { s.dmc n with wq := (s.dmc n).wq ++ [e] }

/-- The line with every octet that the write does not enable set to zero (R503). -/
def aheadLine (mask : Nat) (data : Line) : Line := mergeLine mask zeroLine data

/-- A line write once its block has a slot or is ordinary (R503): ordinary below P or in the table, else a write ahead; `none` while the table is
full. -/
def writeInBlock (n l : Nat) (e : WqEnt) (s : State) : Option State :=
  match slotOf s n (blockOf l) with
  | none => some (enqueue n e s)
  | some j =>
    if lineInBlock l < s.fld (Reg.DMC_FILL n j) 11 0 || (watOf s n j (lineInBlock l)).isSome then some (enqueue n e s)
    else match freeWat s n with
      | none => none
      | some w =>
        let s := s.setReg (Reg.DMC_WAT n w) (nw (2 ^ 39 + j * 2 ^ 37 + lineInBlock l))
        let s := s.setFld (Reg.DMC_WAT_STAT n) 6 0 (s.fld (Reg.DMC_WAT_STAT n) 6 0 + 1)
        some (enqueue n { e with data := aheadLine e.mask e.data, mask := 2 ^ 80 - 1, ahead := true } s)

/-- The first write to a fresh block clears its bit and takes a free slot (R502). -/
def takeSlot (n k : Nat) (s : State) : State :=
  match (if isFresh s n k then freeSlot s n else none) with
  | none => s
  | some j =>
    let s := s.setDmc n { s.dmc n with notFresh := SMap.insert k () (s.dmc n).notFresh }
    let s := s.setReg (Reg.DMC_FRESH_LEFT n) (s.reg (Reg.DMC_FRESH_LEFT n) - 1)
    s.setReg (Reg.DMC_FILL n j) (nw (2 ^ 39 + k * 2 ^ 22))

/-- A write of line l reaches the controller: a fresh block takes its slot. -/
def reachBlock (n l : Nat) (s : State) : State := if s.bit (Reg.DMC_CTL n) 1 then takeSlot n (blockOf l) s else s

/-- An attempt at a line write that has reached the controller; `none` while R504 or a full write queue makes it wait. -/
def tryWrite (n l : Nat) (e : WqEnt) (s : State) : Option State :=
  if queueFull s n then none
  else if !s.bit (Reg.DMC_CTL n) 1 then some (enqueue n e s)
  else if isFresh s n (blockOf l) then none
  else writeInBlock n l e s

/-- A waiting write holds line l (R504: later requests to its line wait behind it). -/
def waitsOn (s : State) (n l : Nat) : Bool := (s.dmc n).waits.any (fun e => e.la == (dramRoute s (l * 16)).2 / 16)

/-! ### A home's line requests (R489) -/

/-- How a controller answers requests now: in service, held, or refused (R510). -/
inductive DmcSt where
  | serving | holding | refusing
deriving DecidableEq, Repr

def dmcSt (s : State) (n : Nat) : DmcSt :=
  if !s.bit (Reg.DMC_CTL n) 0 || s.bit (Reg.DMC_STATUS n) 2 || s.tb.xbLost then .refusing
  else if s.bit (Reg.DMC_STATUS n) 1 && !(s.dmc n).selfRef then .serving
  else .holding

/-- The line at PA line l lies beyond the channel's capacity. -/
def beyondCap (s : State) (l : Nat) : Bool :=
  let r := dramRoute s (l * 16)
  decide (dmcCap s r.1 * 2 ^ 30 ≤ r.2)

def dmcRefuse (n : Nat) (kind : Nat) (pa ep : Nat) (info : Nat) (s : State) : State :=
  let s := (s.setReg (Reg.DMC_ERR_ADDR n) (nw pa)).setReg (Reg.DMC_ERR_INFO n) (nw (7 * 2 ^ 5 + 5))
  logErr (.dmc n) kind 0 (nw pa) (nw (info * 2 ^ 8 + ep)) s

/-- Writes of the queue to one line, applied in order over `base` (R491). -/
def overlay (la : Nat) : List WqEnt → Line → Line
  | [], base => base
  | e :: t, base => overlay la t (if e.la = la then mergeLine e.mask base e.data else base)

/-- A request that reaches channel n's domain wakes it from retention, or aborts its close (R358, R651). -/
def dmcReach (n : Nat) (s : State) : State := if domState s (12 + n) = 1 then abortClose (12 + n) s else dmcActive n s

/-- The status of a request that channel n does not serve: a shed stop (R658), or a controller not in service (R510). Of one that comes after the
loss of XB, which the home holds (R53), the home's interface gives TIMEOUT. -/
def dmcOff (s : State) (n : Nat) : Option FStatus :=
  if s.tb.xbLost then some .timeout
  else if domShed s (12 + n) then some .domainOff
  else if dmcSt s n ≠ .serving then some .decode
  else none

/-- A request for line l is to be held: its channel has stopped for good with XB (R53), it trains, its domain is SHUT (R359, R510), or a write of
the line waits before it (R504). -/
def dramHolds (s : State) (l : Nat) : Bool :=
  decide (dramBase ≤ l * 16) &&
  let n := (dramRoute s (l * 16)).1
  s.tb.xbLost || (!domShed s (12 + n) && (domState s (12 + n) == 2 || decide (dmcSt s n = .holding) || (decide (dmcSt s n = .serving) && waitsOn s n l)))

/-- A write of line l at its channel is to be held: R504, or a full write queue (R41). -/
def dramFull (s : State) (l : Nat) : Bool :=
  decide (dramBase ≤ l * 16) &&
  let n := (dramRoute s (l * 16)).1
  decide (dmcSt s n = .serving) && !beyondCap s l && (queueFull s n || writeStalls s n l)

/-- A home holds a write of line l: where R504 is the cause it counts once as a wait, and the fills run ahead. -/
def noteStall (l : Nat) (s : State) : State :=
  let n := (dramRoute s (l * 16)).1
  let s := reachBlock n l s
  if writeStalls s n l && !(s.dmc n).stalls.contains l then
    setUrgent n ((countStall n l s).setDmc n { (countStall n l s).dmc n with stalls := (s.dmc n).stalls ++ [l] })
  else s

/-- A held write of line l waits no longer. -/
def endStall (l : Nat) (s : State) : State :=
  [0, 1].foldl (fun s n =>
    if (s.dmc n).stalls.contains l then setUrgent n (s.setDmc n { s.dmc n with stalls := (s.dmc n).stalls.erase l }) else s) s

/-- A request for line l asks for the wake of its channel's domain. -/
def dramWake (l : Nat) (s : State) : State :=
  let n := (dramRoute s (l * 16)).1
  if dramHolds s l && domState s (12 + n) == 2 then requestWake (12 + n) false s else s

/-- A home reads line l from DRAM: status, data and the controller's state after it. -/
def dmcReadLine (l ep : Nat) (s : State) : FStatus × Line × State :=
  let r := dramRoute s (l * 16)
  let n := r.1
  let s := dmcReach n s
  match dmcOff s n with
  | some st => (st, [], s)
  | none =>
  if beyondCap s l then (.decode, [], dmcRefuse n 0x08 (l * 16) ep 0 s)
  else
    let s := watParity n l (mapUse n (blockOf l) s)
    if readsZero s n l then (.ok, zeroLine, s.inc (Reg.DMC_FRESH_RD_CNT n))
    else
      let s := s.inc (Reg.DMC_RD_CNT n)
      let q := (s.dmc n).wq
      if q.any (fun e => decide (e.la = r.2 / 16) && decide (e.mask % 2 ^ 80 = 2 ^ 80 - 1)) then
        let d := overlay (r.2 / 16) q zeroLine
        (if hasPoison d then .poison else .ok, d, s)
      else
        let p := dmcReadWords n r.2 (l * 16) 16 (dmcRow n r.2 s)
        let d := overlay (r.2 / 16) q p.1
        (if hasPoison d then .poison else .ok, d, p.2)

/-- A home writes line l to DRAM under an octet mask. A write of the home's own (an eviction, data that a snoop brought) that must wait under R504, for
room in the write queue, or for its channel, is kept in `waits`. -/
def dmcWriteLine (l ep mask : Nat) (data : Line) (s : State) : FStatus × State :=
  let r := dramRoute s (l * 16)
  let n := r.1
  if dramHolds s l then (.ok, dramWake l (s.setDmc n { s.dmc n with waits := (s.dmc n).waits ++ [⟨r.2 / 16, data, mask, false⟩] }))
  else
  let s := dmcReach n s
  match dmcOff s n with
  | some st => (st, s)
  | none =>
  if beyondCap s l then (.decode, dmcRefuse n 0x08 (l * 16) ep 0 s)
  else
    let s := (watParity n l (mapUse n (blockOf l) s)).inc (Reg.DMC_WR_CNT n)
    let e : WqEnt := ⟨r.2 / 16, data, mask, false⟩
    let wait := fun s : State => setUrgent n (s.setDmc n { s.dmc n with waits := (s.dmc n).waits ++ [e] })
    if waitsOn s n l then (.ok, wait s)
    else
      let s := reachBlock n l s
      match tryWrite n l e s with
      | some s => (.ok, s)
      | none => (.ok, wait (if writeStalls s n l then countStall n l s else s))

/-! ### The commands of the controllers -/

/-- A waiting write is tried again: it waits on behind an older one of its line. -/
def retryWait (n : Nat) (e : WqEnt) (s : State) : State :=
  let on := fun s : State => s.setDmc n { s.dmc n with waits := (s.dmc n).waits ++ [e] }
  if (s.dmc n).waits.any (fun x => x.la == e.la) then on s
  else
    let s := reachBlock n (paLine s n e.la) s
    (tryWrite n (paLine s n e.la) e s).getD (on s)

/-- The writes that wait proceed where they can, those of one line in order (R491, R504). -/
def retryWaits (n : Nat) (s : State) : State :=
  setUrgent n ((s.dmc n).waits.foldl (fun s e => retryWait n e s) (s.setDmc n { s.dmc n with waits := [] }))

/-- P has passed the last line of the block in slot j: the slot is free, and counted (R503). -/
def fillDone (n j : Nat) (s : State) : State :=
  ((s.setReg (Reg.DMC_FILL n j) 0).inc (Reg.DMC_FILL_DONE_CNT n)).setReg (Reg.DMC_LAST_FILL_TICK n) s.nowLo

/-- A fill slot found wrong (R513): P is past the last line, so the slot and its table entries are free again; the lines that were not filled hold
what the devices hold. -/
def slotParity (n j : Nat) (s : State) : State :=
  let s := (s.setReg (Reg.DMC_ERR_ADDR n) 0).setReg (Reg.DMC_ERR_INFO n) (nw (7 * 2 ^ 5 + 4))
  let s := fillDone n j (logErr (.dmc n) 0x43 n 0 (nw j) (heal (.slot n j) s))
  (List.range 64).foldl (fun s e =>
    if s.bit (Reg.DMC_WAT n e) 39 && s.fld (Reg.DMC_WAT n e) 38 37 == j then
      (s.setReg (Reg.DMC_WAT n e) 0).setFld (Reg.DMC_WAT_STAT n) 6 0 (s.fld (Reg.DMC_WAT_STAT n) 6 0 - 1)
    else s) s

/-- The first line at or after index p of block k that is channel n's; 4096 past the last. -/
def fillLine (s : State) (n k p : Nat) : Nat :=
  ((List.range 257).map (fun i => p + i)).find? (fun q => decide (q < 4096) && lineOfChannel s n (dramBase / 16 + k * 4096 + q)) |>.getD 4096

/-- The fill treats the line at P, and P moves to the channel's next line of the block (R503). -/
def fillStep (n j : Nat) (s : State) : State :=
  if !s.bit (Reg.DMC_FILL n j) 39 || (s.dmc n).selfRef || !s.bit (Reg.DMC_CTL n) 1 || decide (dmcSt s n ≠ .serving) then s
  else if struck s (.slot n j) then slotParity n j s
  else
    let k := s.fld (Reg.DMC_FILL n j) 38 22
    let p := fillLine s n k (s.fld (Reg.DMC_FILL n j) 11 0)
    let l := dramBase / 16 + k * 4096 + p
    let s := match watOf s n j p with
      | some w => (s.setReg (Reg.DMC_WAT n w) 0).setFld (Reg.DMC_WAT_STAT n) 6 0 (s.fld (Reg.DMC_WAT_STAT n) 6 0 - 1)
      | none => dmcPutWords n (dramRoute s (l * 16)).2 zeroLine (s.inc (Reg.DMC_FILL_LINE_CNT n))
    let q := fillLine s n k (p + 1)
    if 4096 ≤ q then fillDone n j s else s.setFld (Reg.DMC_FILL n j) 11 0 q

/-- One scrubbed line (R495): read as R494 states unless the fresh map makes it read as zero; the pointer wraps at the capacity. -/
def scrubLine (n : Nat) (s : State) : State :=
  let p := s.fld (Reg.DMC_SCRUB_PTR n) 27 0
  let l := paLine s n p
  let s := mapUse n (blockOf l) s
  let s := if readsZero s n l then s else (dmcReadWords n (p * 16) (l * 16) 16 (dmcRow n (p * 16) s)).2
  if dmcCap s n * 2 ^ 26 ≤ p + 1 then (s.setReg (Reg.DMC_SCRUB_PTR n) 0).inc (Reg.DMC_SCRUB_PASS_CNT n)
  else s.setFld (Reg.DMC_SCRUB_PTR n) 27 0 (p + 1)

def scrubLines (n : Nat) : Nat → State → State
  | 0, s => s
  | k + 1, s => scrubLines n k (scrubLine n s)

/-- SCRUB: RATE lines at a TB_PULSE edge (R495). -/
def execDmcScrub (n : Fin 2) (s : State) : Out :=
  ok (if dmcSt s n = .serving then scrubLines n (s.fld (Reg.DMC_SCRUB_CTL n) 4 0) s else s)

/-- REFRESH: a rank is refreshed, or the refresh is postponed, at most 8 times (R496). PRESUMED: refreshing closes the rank's rows. -/
def execDmcRefresh (n : Fin 2) (rank : Bool) (postpone : Bool) (s : State) : Out :=
  let r := b2n rank
  let d := s.dmc n
  let k := SMap.getD 0 r d.postponed
  ok (if dmcSt s n ≠ .serving || (rank && !s.bit (Reg.DMC_GEOM n) 1) then s
    else if postpone && decide (k < 8) then s.setDmc n { d with postponed := SMap.put 0 r (k + 1) d.postponed }
    else (s.setDmc n { d with postponed := SMap.put 0 r 0 d.postponed,
                              openRow := d.openRow.filter (fun e => e.1 / 16 != r) }).addTo (Reg.DMC_REFRESH_CNT n) (k + 1))

/-- ZQCS to one rank (R496). PRESUMED: as JEDEC asks, its banks are precharged first, so its open rows close. -/
def execZqcs (n : Fin 2) (rank : Bool) (s : State) : Out :=
  ok (if dmcSt s n = .serving && (!rank || s.bit (Reg.DMC_GEOM n) 1) then s.setDmc n { s.dmc n with openRow := (s.dmc n).openRow.filter (fun e => e.1 / 16 != b2n rank) } else s)

/-- Step 1 of the bring-up of R498, which empties the map, the slots and the table where the controller had been stopped (R510). -/
def startBringup (n : Nat) (s : State) : State :=
  let s := s.setDmc n { s.dmc n with dram := [], notFresh := [], wq := [], waits := [], stalls := [], selfRef := false, busy := some false, openRow := [] }
  let s := (List.range 4).foldl (fun s j => s.setReg (Reg.DMC_FILL n j) 0) s
  let s := (List.range 64).foldl (fun s j => s.setReg (Reg.DMC_WAT n j) 0) s
  let s := (s.setReg (Reg.DMC_WAT_STAT n) 0).setReg (Reg.DMC_FRESH_LEFT n) 131072
  s.setReg (Reg.DMC_STATUS n) (bset (bset (bset (bset (s.reg (Reg.DMC_STATUS n)) 0 true) 1 false) 2 false) 3 false)

/-- Entry to self-refresh (R512): DRAM content, map, slots and table are kept. -/
def selfRefresh (n : Nat) (s : State) : State :=
  if (s.dmc n).selfRef then s else (s.setDmc n { s.dmc n with selfRef := true, openRow := [] }).inc (Reg.DMC_SELFREF_CNT n)

def drainAll (n : Nat) : Nat → State → State
  | 0, s => s
  | k + 1, s => drainAll n k (drainOne n s)

/-- A controller stops (R510): its write queue completes, its ranks enter self-refresh. -/
def dmcStop (n : Nat) (s : State) : State :=
  let s := selfRefresh n (drainAll n (s.dmc n).wq.length s)
  let s := s.setDmc n { s.dmc n with busy := none }
  s.setReg (Reg.DMC_STATUS n) (fset (s.reg (Reg.DMC_STATUS n)) 2 0 0)

/-- A write of EN = 0 stops a controller: what waits at it completes DECODE, as a home's own write of it does (R510). -/
def dmcDisable (n : Nat) (s : State) : State :=
  let s := dmcStop n s
  setUrgent n (s.setDmc n { s.dmc n with waits := [], stalls := [] })

/-- The wake of a shut domain with EN = 1 runs a resume without device reset (R512). -/
def dmcResume (n : Nat) (s : State) : State :=
  if s.bit (Reg.DMC_CTL n) 0 then
    let s := s.setDmc n { s.dmc n with busy := some true }
    s.setReg (Reg.DMC_STATUS n) (fset (s.reg (Reg.DMC_STATUS n)) 2 0 1)
  else s

/-- A write of DMC_n_CTL (R498, R510): FRESH_EN is kept while EN is 1; EN := 1 with no devices fitted leaves EN 0; EN 0 to 1 starts the
bring-up, 1 to 0 stops the controller. -/
def writeDmcCtl (ep n : Nat) (v : Word) (s : State) : State :=
  let was := s.bit (Reg.DMC_CTL n) 0
  let present := s.bit (Reg.DMC_GEOM n) 0
  let s' := writeRegIf (fun f => if f.lo = 1 then !was else was || present || !bget v 0) ep (Reg.DMC_CTL n) v s
  let is := s'.bit (Reg.DMC_CTL n) 0
  if !was && is then startBringup n s' else if was && !is then dmcDisable n s' else s'

/-- A write of ILV sets the one register both channels present; an interleaved mode needs equal capacities (R488, R509). -/
def writeDmcIlv (ep n : Nat) (v : Word) (s : State) : State :=
  if s.isSealed then s
  else if fget v 1 0 != 0 && dmcCap s 0 != dmcCap s 1 then captureRsvd ep (Reg.DMC_ILV n) v s
  else (s.setFld (Reg.DMC_ILV 0) 1 0 (fget v 1 0)).setFld (Reg.DMC_ILV 1) 1 0 (fget v 1 0)

/-- A write of INJECT arms one injection: DOUBLE alone where both bits are set; a later write replaces it (R752). -/
def writeDmcInject (n : Nat) (v : Word) (s : State) : State :=
  let d := s.dmc n
  s.setDmc n { d with inject := if bget v 1 then .double else if bget v 0 then .single else d.inject, injFresh := d.injFresh || bget v 2 }

/-- Training results of step 5 of R498: delays per rank and lane, then VrefDQ per rank. -/
def setTrained (n : Nat) : Nat → List Word → State → State
  | _, [], s => s
  | k, w :: t, s =>
    setTrained n (k + 1) t (if k < 24 then s.setFld (Reg.DMC_TRAIN n k) 15 0 (fget w 15 0)
      else if k < 26 then s.setFld (Reg.DMC_VREF n (k - 24)) 5 0 (fget w 5 0) else s)

/-- Step 6 of R498: READY, or TRAIN_FAIL naming the first rank and lane that failed, with its record. -/
def bringupEnd (n : Nat) (fail : Option (Bool × Fin 6)) (trained : List Word) (s : State) : State :=
  let s := setTrained n 0 trained s
  let s := s.setDmc n { s.dmc n with busy := none, selfRef := false }
  let st := fset (s.reg (Reg.DMC_STATUS n)) 2 0 0
  match fail with
  | none => s.setReg (Reg.DMC_STATUS n) (bset st 1 true)
  | some (rank, lane) =>
    let s := s.setReg (Reg.DMC_STATUS n) (fset (fset (bset st 2 true) 4 4 (b2n rank)) 7 5 lane.val)
    let s := (s.setReg (Reg.DMC_ERR_ADDR n) 0).setReg (Reg.DMC_ERR_INFO n) (nw (lane.val * 2 ^ 5 + 2))
    logErr (.dmc n) 0x41 n 0 (nw (b2n rank * 2 ^ 4 + lane.val * 2 ^ 5)) s

/-- DMC_BRINGUP_DONE, DMC_RESUME_DONE (R498, R512): the sequence in progress, a bring-up or a resume, ends. -/
def dmcSeqDone (n : Nat) (resume : Bool) (fail : Option (Bool × Fin 6)) (trained : List Word) (s : State) : State :=
  if (s.dmc n).busy = some resume then bringupEnd n fail trained s else s

end Sys2Proof.Machine
end

