-- ==== Sys2Proof/Machine/Memory.lean ====
section
/-!
DEFINITION. The physical address map (R70-R72), the homes of lines (R270, R271), the last-level cache and the home's own reads and writes of a
line (R272, R283).
-/
namespace Sys2Proof.Machine

/-! ### Regions -/

inductive Region where
  | rom | keep | close (n : Nat) | stage | regs | peer (k : Nat) | dram
deriving DecidableEq, Repr

def stageBase : Nat := 0x100000
def stageUnits (s : State) (n : Nat) : Nat := s.fld (Reg.HS_SPLIT n) 3 0

/-- Straps and fixed configuration of the consort: own ID, and the IDs of the other members, ascending (R71). -/
def ownId (s : State) : Nat := s.fld Reg.CNS_ID 1 0
def otherMembers (s : State) : List Nat := (List.range 4).filter (fun m => s.bit Reg.CNS_CFG m && m != ownId s)

/-- The region whose responding part holds `pa`; `none` for an unmapped range or a part that does not respond (R70, R71, R76). -/
def regionAt (s : State) (pa : Nat) : Option Region :=
  if pa < 0x4000 then some .rom
  else if 0x10000 ≤ pa && decide (pa < 0x20000) then some .keep
  else if 0x40000 ≤ pa && decide (pa < 0x80000) then (if pa % 0x8000 < 0x4000 then some (.close ((pa - 0x40000) / 0x8000)) else none)
  else if stageBase ≤ pa && decide (pa < 0x200000) then (if pa - stageBase < s.fld Reg.SYS_MAP_STAGE 5 0 * 0x8000 then some .stage else none)
  else if 0x200000 ≤ pa && decide (pa < 0x400000) then (if pageAssigned ((pa - 0x200000) / 0x1000) then some .regs else none)
  else if 2 ^ 32 ≤ pa && decide (pa < 2 ^ 32 + 3 * 2 ^ 30) then
    (if (pa - 2 ^ 32) / 2 ^ 30 < (otherMembers s).length then some (.peer ((pa - 2 ^ 32) / 2 ^ 30)) else none)
  else if dramBase ≤ pa && decide (pa < 2 ^ 34) then (if pa - dramBase < s.fld Reg.SYS_MAP_DRAM 3 0 * 2 ^ 30 then some .dram else none)
  else none

/-- Kinds of access of R72. -/
inductive Kind where
  | fetch | load | store | octetLoad | octetStore | atomic | multiLoad | multiStore
deriving DecidableEq, Repr

/-- The table of R72: does a region accept a kind of access. -/
def accepts : Region → Kind → Bool
  | .rom, k => decide (k = .fetch ∨ k = .load ∨ k = .octetLoad ∨ k = .multiLoad)
  | .keep, k => decide (k ≠ .fetch ∧ k ≠ .atomic)
  | .close _, _ => true
  | .stage, _ => true
  | .regs, k => decide (k = .load ∨ k = .store)
  | .peer _, k => decide (k ≠ .fetch ∧ k ≠ .atomic)
  | .dram, _ => true

/-- The access-kind code of an ADDR_PROT record (R671). -/
def Kind.code : Kind → Nat
  | .fetch => 0 | .load => 1 | .store => 2 | .octetLoad => 3 | .octetStore => 3 | .atomic => 4 | .multiLoad => 5 | .multiStore => 5

def Region.cacheable : Region → Bool
  | .rom => true | .stage => true | .dram => true | _ => false

/-! ### Homes (R270, R271) -/

/-- XOR of the 2-bit groups of PA[33:4] (R270). -/
def homeHash : Nat → Nat → Nat
  | 0, _ => 0
  | k + 1, x => (x % 4) ^^^ homeHash k (x / 4)

/-- The slice and the unit offset of a stage-memory offset: the portions of slices 0 to 3 follow one another, the top units of each slice, lowest
first (R71, R271). -/
def stagePlace (s : State) : List Nat → Nat → Nat × Nat
  | [], o => (3, o)
  | n :: t, o =>
    if o < stageUnits s n * 0x8000 then (n, (8 - stageUnits s n) * 0x8000 + o) else stagePlace s t (o - stageUnits s n * 0x8000)

/-- The home slice of line l. -/
def homeOf (s : State) (l : Nat) : Nat :=
  if stageBase ≤ l * 16 && decide (l * 16 < 0x200000) then (stagePlace s [0, 1, 2, 3] (l * 16 - stageBase)).1 else homeHash 15 l

/-- The SRAM word that holds stage-memory address pa. -/
def stageIndex (s : State) (pa : Nat) : Nat :=
  let p := stagePlace s [0, 1, 2, 3] (pa - stageBase)
  p.1 * 0x40000 + p.2

/-! ### The last-level cache (R271, R272) -/

def hsEvent (n e : Nat) (s : State) : State :=
  (List.range 16).foldl (fun s k =>
    if s.bit (Reg.HS_CNT_SEL n k) 8 && s.fld (Reg.HS_CNT_SEL n k) 7 0 == e then
      let s' := s.inc (Reg.HS_CNT n k)
      if s'.reg (Reg.HS_CNT n k) = 0 then s'.setBit (Reg.HS_CNT_SEL n k) 9 true else s'
    else s) s

def touch (l : Nat) (u : List Nat) : List Nat := l :: u.filter (fun x => x != l)

def llcWays (s : State) (n : Nat) : Nat := 16 - 2 * stageUnits s n

/-- The endpoint of home slice n. -/
def hsEp (n : Nat) : Nat := 8 + 2 * n

def romLine (l : Nat) : Nat → Line
  | 0 => []
  | k + 1 => romLine l k ++ [⟨Config.bootRom (l * 16 + k), .good⟩]

/-- The line as its target holds it: boot ROM, stage SRAM or DRAM. -/
def targetRead (n l : Nat) (s : State) : FStatus × Line × State :=
  if l * 16 < 0x4000 then (.ok, romLine l 16, s)
  else if l * 16 < 0x200000 then
    let d := memReadN s.stage (stageIndex s (l * 16)) 16
    (if hasPoison d then .poison else .ok, d, s)
  else dmcReadLine l (hsEp n) s

/-- The octets that `mask` enables are written to the target. -/
def targetWrite (n l mask : Nat) (data : Line) (s : State) : FStatus × State :=
  if l * 16 < 0x4000 then (.prot, s)
  else if l * 16 < 0x200000 then
    let i := stageIndex s (l * 16)
    (.ok, { s with stage := memWriteN i (mergeLine mask (memReadN s.stage i 16) data) s.stage })
  else dmcWriteLine l (hsEp n) mask data s

def llcGet (s : State) (n l : Nat) : Option LlcLine := SMap.find l (s.slice n).llc

def fullMask : Nat := 2 ^ 80 - 1

/-- The last-level cache drops its least recently used line of the set of l, writing it to DRAM when dirty. -/
def llcEvict (n l : Nat) (s : State) : State :=
  let sl := s.slice n
  match (sl.llcUse.filter (fun x => x % 1024 == l % 1024 && (SMap.find x sl.llc).isSome)).getLast? with
  | none => s
  | some v =>
    let s' := s.setSlice n { sl with llc := SMap.erase v sl.llc, llcUse := sl.llcUse.filter (fun x => x != v) }
    match SMap.find v sl.llc with
    | some ⟨d, true, _⟩ => (targetWrite n v fullMask d s').2
    | _ => s'

/-- The lowest way of the set of l that holds no other line. -/
def llcFreeWay (s : State) (n l : Nat) : Nat :=
  let same := (s.slice n).llc.filter (fun e => e.1 % 1024 == l % 1024 && e.1 != l)
  ((List.range 16).find? (fun w => !same.any (fun e => e.2.way == w))).getD 0

/-- Allocate line l in the last-level cache (R272): not for stage memory, not while LLC_BYPASS is 1 or no unit is left. -/
def llcFill (n l : Nat) (d : Line) (dirty : Bool) (s : State) : State :=
  if (stageBase ≤ l * 16 && decide (l * 16 < 0x200000)) || llcWays s n == 0 then s
  else
    let s := if llcWays s n ≤ ((s.slice n).llc.filter (fun e => e.1 % 1024 == l % 1024)).length then llcEvict n l s else s
    let sl := s.slice n
    s.setSlice n { sl with llc := SMap.insert l ⟨d, dirty, llcFreeWay s n l⟩ sl.llc, llcUse := touch l sl.llcUse }

/-- A failure of R300 at home n about physical word address pa: its record and `HS_n_ERR_ADDR`, `HS_n_ERR_INFO`. -/
def hsErr (n rec kind a pa : Nat) (s : State) : State :=
  ((logErr (.hs n) rec n (nw pa) (nw a) s).setReg (Reg.HS_ERR_ADDR n) (nw pa)).setReg (Reg.HS_ERR_INFO n) (nw (a * 256 + kind))

/-- The home's read of a word of last-level or stage SRAM (R300): a correctable error is counted; an uncorrectable one poisons the word. -/
def sramRead (n l : Nat) (s : State) : State :=
  match s.flaws.find? (fun f => match f with | .homeWord x y _ _ => x == n && y == l | _ => false) with
  | some (.homeWord x y i hard) =>
    let bad := fun (w : MWord) => (⟨w.v, .poison⟩ : MWord)
    let found := fun (s : State) => if hard then hsErr n 0x18 1 0 (l * 16 + i) (s.inc (Reg.HS_ECC_UNCORR n)) else s.inc (Reg.HS_ECC_CORR n)
    match llcGet s n l with
    | some e =>
      let s := found (heal (.homeWord x y i hard) s)
      let sl := s.slice n
      if hard then s.setSlice n { sl with llc := SMap.insert l { e with data := e.data.set i (bad (e.data.getD i MWord.zero)) } sl.llc } else s
    | none =>
      if stageBase ≤ l * 16 && decide (l * 16 < 0x200000) then
        let s := found (heal (.homeWord x y i hard) s)
        let k := stageIndex s (l * 16) + i
        if hard then { s with stage := memWrite k (bad (memRead s.stage k)) s.stage } else s
      else s
  | _ => s

/-- A request uses a line of the last-level cache (R272). -/
def llcTouch (n l : Nat) (s : State) : State :=
  if (llcGet s n l).isSome then s.setSlice n { s.slice n with llcUse := touch l (s.slice n).llcUse } else s

/-- The home reads a line: from the last-level cache, or from the target, allocating when `alloc` and touching the replacement state unless
`quiet` (R272). -/
def homeRead (n l : Nat) (alloc quiet : Bool) (s : State) : FStatus × Line × State :=
  let s := sramRead n l s
  match llcGet s n l with
  | some e =>
    let s := hsEvent n 2 s
    let sl := s.slice n
    (if hasPoison e.data then .poison else .ok, e.data, if quiet then s else s.setSlice n { sl with llcUse := touch l sl.llcUse })
  | none =>
    let r := targetRead n l (hsEvent n 3 s)
    if alloc && !s.bit (Reg.HS_CTL n) 0 && (decide (r.1 = .ok) || decide (r.1 = .poison)) then (r.1, r.2.1, llcFill n l r.2.1 false r.2.2) else r

/-- The home writes the octets of `mask`: into the last-level cache if the line is present there, else to the target (R283). `alloc` is a
write-back's allocation of a whole line (R272). -/
def homeWrite (n l mask : Nat) (data : Line) (alloc : Bool) (s : State) : FStatus × State :=
  match llcGet s n l with
  | some e =>
    let sl := s.slice n
    (.ok, s.setSlice n { sl with llc := SMap.insert l ⟨mergeLine mask e.data data, true, e.way⟩ sl.llc, llcUse := touch l sl.llcUse })
  | none =>
    if alloc && !s.bit (Reg.HS_CTL n) 0 && llcWays s n != 0 && !(stageBase ≤ l * 16 && decide (l * 16 < 0x200000)) then
      (.ok, llcFill n l data true s)
    else targetWrite n l mask data s

end Sys2Proof.Machine
end

