-- ==== Sys2Proof/Machine/Coherence.lean ====
section
/-!
DEFINITION. Coherence (chapter 08): the directory, epochs, the home's transitions (R283) run as jobs of a small scheduler, the agents' transitions
(R284), RETRY and priority slots (R285, R286), and the messages between them.
-/
set_option linter.constructorNameAsVariable false

namespace Sys2Proof.Machine

/-! ### Messages -/

def blankMsg (cls code agent slice line : Nat) : CMsg := ⟨cls, code, agent, slice, line, 0, [], false, 0, 0, .cas, 0, 0, 0, .ok, 0, 0⟩

/-- The endpoint of a coherent agent (R268, R336): cores, stream engine, Cuff ports, debug agent. -/
def agentEp (a : Nat) : Nat := if a < 8 then a else if a = 8 then 18 else if a = 9 then 20 else if a = 10 then 21 else 30

/-- The message leaves its agent: a request, a snoop answer or DONE. -/
def CMsg.fromAgent (m : CMsg) : Bool := m.cls == 0 || (m.cls == 1 && decide (11 ≤ m.code))

/-- The data words of a message: none in a response whose status is neither OK nor POISON (R339). -/
def CMsg.words (m : CMsg) : Line :=
  if m.cls = 0 then (if m.code = 7 then [⟨m.operand, .good⟩, ⟨m.cmp, .good⟩] else if m.code = 6 || m.code = 8 then m.data else [])
  else if m.status = .ok || m.status = .poison then m.data else []

/-- The packet that carries a coherence message (R338, R339): a core's request carries its level and partition, others 11b and 0. -/
def cohPkt (s : State) (m : CMsg) : Pkt :=
  let a := agentEp m.agent
  let h := 8 + 2 * m.slice
  let len := if m.cls = 0 && (decide (m.code ≤ 3) || m.code == 5) then 16 else m.words.length
  let core := m.fromAgent && decide (m.agent < 8)
  { cls := m.cls, io := false, code := m.code, src := if m.fromAgent then a else h, dst := if m.fromAgent then h else a, tag := m.tag,
    gen := m.gen, status := m.status, addr := m.line * 16 + (if m.cls = 0 && m.code == 7 then m.idx else 0), len := len,
    pl := if core then s.pl m.agent else 3, part := if core then s.fld (Reg.CS_PART m.agent) 3 0 else 0, atop := m.atop, mask := m.mask,
    masked := m.cls == 0 && m.code == 6, data := m.words,
    ext := ⟨if (m.cls == 0 && m.code == 4) || (m.cls == 1 && m.code == 3) then m.epoch % 256 else 0, if m.cls = 0 then m.rc else 0,
            m.agent, m.cls == 1 && m.code == 12 && m.dirty, false, false⟩ }

/-- A message with the data that arrives of it; an atomic's operands travel as they are. -/
def CMsg.withData (m : CMsg) (d : Line) : CMsg := if m.data.isEmpty then m else { m with data := d }

/-- A message's packet crosses the fabric. -/
def crossMsg (m : CMsg) (s : State) : Option CMsg × State :=
  let q := crossFabric (cohPkt s m) s
  (q.1.map (fun p => m.withData p.data), q.2)

/-- Snoops on their way to an agent: its inbound snoop queue holds 8 (R281). -/
def snoopsTo (s : State) (a : Nat) : Nat := (s.net.filter (fun m => m.cls == 2 && m.agent == a)).length

def postMsg (m : CMsg) (s : State) : State :=
  match crossMsg m s with
  | (none, s) => s
  | (some m, s) => if malformed s (cohPkt s m) then fabViol (cohPkt s m) s else { s with net := s.net ++ [m] }

/-- A message leaves: a snoop takes a tag of its home's interface; a response goes untagged, and is discarded where its sender's route entry is
invalid (R351, R366). -/
def sendMsg (m : CMsg) (s : State) : State :=
  let h := 8 + 2 * m.slice
  if m.cls = 2 then
    match (if niHolds s h (agentEp m.agent) || decide (8 ≤ snoopsTo s m.agent) then none
      else allocTag h (agentEp m.agent) (m.line * 16) true true s) with
    | none => hold h (.coh m) s
    | some (t, g, s) =>
      postMsg { m with tag := t, gen := g } s
  else
    let p := cohPkt s m
    if routeValid s p.src p.dst then postMsg m s else s.inc Reg.FAB_STALE_CNT

/-- Snoops to an agent that their homes hold leave in order as its queue has room again. -/
def releaseSnoops (a : Nat) (s : State) : State :=
  [0, 1, 2, 3].foldl (fun s n =>
    let k := 8 + 2 * n
    (s.ni k).held.foldl (fun s h => match h with
      | .coh m => if m.cls = 2 && m.agent == a then sendMsg m (s.setNi k { s.ni k with held := (s.ni k).held.erase h }) else s
      | .io _ => s) s) s

def rsp (code : Nat) (r : CMsg) : CMsg := { blankMsg 1 code r.agent r.slice r.line with tag := r.tag, gen := r.gen }

/-! ### Directory entries (R273-R275) -/

def dirSet (l : Nat) : Nat := l % 2048
def dirTag (l : Nat) : Nat := l / 2048

def dirWay (s : State) (n l : Nat) : Option Nat :=
  ((List.range 8).map (fun w => dirSet l * 8 + w)).find? (fun k =>
    match SMap.find k (s.slice n).dir with
    | some e => e.tag == dirTag l
    | none => false)

def dirGet (s : State) (n l : Nat) : Option DirEnt :=
  match dirWay s n l with
  | some k => SMap.find k (s.slice n).dir
  | none => none

def setDirKey (n k : Nat) (e : DirEnt) (s : State) : State :=
  let sl := s.slice n
  s.setSlice n { sl with dir := SMap.insert k e sl.dir, dirUse := touch k sl.dirUse }

def eraseDirKey (n k : Nat) (s : State) : State :=
  let sl := s.slice n
  s.setSlice n { sl with dir := SMap.erase k sl.dir }

/-- The recorded holders of an entry, without repeats of the empty mark. -/
def holders (e : DirEnt) : List Nat := e.ptrs.filter (fun p => p != 15)

def ownerOf (e : DirEnt) (st : DirSt) : Option Nat :=
  match st with
  | .x | .o => e.ptrs.head?.bind (fun p => if p = 15 then none else some p)
  | _ => none

/-- A new sharer goes into the lowest-numbered empty pointer, else sets OVF (R275). -/
def addSharer (a : Nat) (e : DirEnt) : DirEnt :=
  if e.ptrs.contains a then e
  else match e.ptrs.findIdx? (fun p => p == 15) with
    | some i => { e with ptrs := e.ptrs.set i a }
    | none => { e with ovf := true }

/-- What an entry becomes when it takes a state: without an owner in PTR0 it has sharers only (R274). -/
def settledState (e : DirEnt) (st : DirSt) : DirSt := if (st = .x ∨ st = .o) ∧ (ownerOf e st).isNone then .s else st

/-- A recorded agent leaves its pointer (R275). -/
def dropHolder (a : Nat) (e : DirEnt) : DirEnt := { e with ptrs := e.ptrs.map (fun p => if p = a then 15 else p) }

def sharersEntry (e : DirEnt) : DirEnt := { e with st := .s }

/-- An entry that has become FREE leaves the directory (R275); else it is written back. -/
def putEntry (n k : Nat) (e : DirEnt) (s : State) : State :=
  if e.st ≠ .b && (holders e).isEmpty && !e.ovf then eraseDirKey n k s else setDirKey n k e s

def epochG (s : State) (n : Nat) : Nat := s.fld (Reg.HS_EPOCH n) 7 0

/-- The epoch of line l (R277). -/
def epochOf (s : State) (n l : Nat) : Nat :=
  match dirGet s n l with
  | some e => e.epoch
  | none => epochG s n

/-- An epoch event on line l (R276): G advances and the entry, if any, takes it; the next one waits 18 ns (R278). -/
def epochEvent (n l : Nat) (s : State) : State :=
  let s := s.setFld (Reg.HS_EPOCH n) 7 0 (epochG s n + 1)
  let s := s.setSlice n { s.slice n with gHold := true }
  match dirWay s n l with
  | none => s
  | some k =>
    match SMap.find k (s.slice n).dir with
    | some e => setDirKey n k { e with epoch := epochG s n } s
    | none => s

/-! ### The tracker -/

def freeTrk (s : State) (n : Nat) : Option Nat := (List.range 48).find? (fun k => (SMap.find k (s.slice n).trk).isNone)

def setTrk (n k : Nat) (t : Trk) (s : State) : State :=
  let sl := s.slice n
  s.setSlice n { sl with trk := SMap.insert k t sl.trk }

def eraseTrk (n k : Nat) (s : State) : State :=
  let sl := s.slice n
  s.setSlice n { sl with trk := SMap.erase k sl.trk }

def trkOf (s : State) (n l : Nat) : Option (Nat × Trk) := (s.slice n).trk.find? (fun e => e.2.req.line == l)

/-- Line l is in a transaction: its entry is B, or it has a tracker entry. -/
def lineBusy (s : State) (n l : Nat) : Bool :=
  (trkOf s n l).isSome || (match dirGet s n l with | some e => decide (e.st = .b) | none => false)

def rdS : Nat := 0
def rdX : Nat := 1
def upg : Nat := 2
def rdT : Nat := 3
def promote : Nat := 4
def rdU : Nat := 5
def wrU : Nat := 6
def atomU : Nat := 7
def wbReq : Nat := 8
def evictReq : Nat := 9
def cmoClean : Nat := 10
def cmoClinv : Nat := 11
def cmoInv : Nat := 12
/-- The home's own recall of a directory victim (R291) or of a stage line (R289); no message code. -/
def recallReq : Nat := 32

/-- The agents that an invalidation or recall of a line reaches: its holders, or, when OVF is set, every agent but the requester (R275). -/
def snooped (e : DirEnt) (r : CMsg) : List Nat := if e.ovf then (List.range 12).filter (fun a => a != r.agent) else holders e

/-- Snoops a request needs (R283): the owner's snoop, which replaces its invalidation, and the snoops of the other holders. -/
def snoopsFor (e : DirEnt) (r : CMsg) : List (Nat × Nat) :=
  let owner := ownerOf e e.st
  let others := (snooped e r).filter (fun a => decide (owner ≠ some a))
  let ownerSnp := fun code : Nat => match owner with | some a => [(a, code)] | none => []
  if r.code = rdS then ownerSnp 1
  else if r.code = rdX || r.code = upg then
    if r.code = upg && (holders e).contains r.agent && e.st ≠ .x then ((snooped e r).filter (fun a => a != r.agent)).map (fun a => (a, 0))
    else ownerSnp 2 ++ (others.filter (fun a => a != r.agent)).map (fun a => (a, 0))
  else if r.code = rdU then ownerSnp 3
  else if r.code = wrU || r.code = atomU then ownerSnp 5 ++ others.map (fun a => (a, 0))
  else if r.code = cmoClean then ownerSnp 4
  else if r.code = cmoClinv || r.code = recallReq then ownerSnp 5 ++ others.map (fun a => (a, 5))
  else if r.code = cmoInv then ownerSnp 0 ++ others.map (fun a => (a, 0))
  else []

/-- The request makes an epoch event (R276, R283). -/
def makesEpoch (before : Option DirSt) (r : CMsg) : Bool :=
  r.code = rdX || r.code = upg || r.code = wrU || r.code = atomU || r.code = cmoInv || (r.code = rdS && before.isNone)

/-- The request allocates an entry when its line has none. -/
def allocates (r : CMsg) : Bool := r.code = rdS || r.code = rdX || r.code = upg || r.code = promote

/-! ### Jobs of the home -/

inductive Job where
  /-- a request arrives at the home of its line -/
  | req (m : CMsg)
  /-- a request that the home accepted before is tried again -/
  | again (m : CMsg)
  /-- tracker entry k of slice n has every answer it awaits -/
  | finish (n k : Nat)
  /-- the line of slice n has left B: its priority slots, then the waiting requests, are served -/
  | leave (n l : Nat)
deriving DecidableEq, Repr

/-- A message the home must not get (R300): its record, naming the sender, and the answer owed, with status PROT. -/
def protocolErr (m : CMsg) (s : State) : State :=
  let s := hsErr m.slice 0x1B 4 m.agent (m.line * 16) s
  if m.cls = 0 then sendMsg { rsp 8 m with status := .prot } s else s

/-- A place for a new entry of line l: a free way, or the least recently used way that is not B, to be recalled first (R291). -/
def allocWay (s : State) (n l : Nat) : Option (Nat × Bool) :=
  let ways := (List.range 8).map (fun w => dirSet l * 8 + w)
  match ways.find? (fun k => (SMap.find k (s.slice n).dir).isNone) with
  | some k => some (k, true)
  | none =>
    let idle := ways.filter (fun k => match SMap.find k (s.slice n).dir with | some e => decide (e.st ≠ .b) | none => false)
    match ((s.slice n).dirUse.filter (fun k => idle.contains k)).getLast? with
    | some k => some (k, false)
    | none => none

def addWaiting (n : Nat) (m : CMsg) (s : State) : State :=
  let sl := s.slice n
  s.setSlice n { sl with waiting := sl.waiting ++ [m] }

/-- A tentative read, a promotion, a write-back or an eviction is answered at once (R283). -/
def quickReq (m : CMsg) (s : State) : Option State :=
  let n := m.slice
  let e := dirGet s n m.line
  let busy := lineBusy s n m.line
  if m.code = rdT then
    let owned := match e with | some e => decide (e.st = .x) || decide (e.st = .o) || decide (e.st = .b) | none => false
    if owned || busy then some (sendMsg (rsp 6 m) (hsEvent n 10 s))
    else
      let r := homeRead n m.line false true s
      some (sendMsg { rsp 3 m with data := r.2.1, status := r.1, epoch := epochOf r.2.2 n m.line } (hsEvent n 9 r.2.2))
  else if m.code = promote then
    if m.epoch % 256 ≠ epochOf s n m.line then some (sendMsg (rsp 10 m) (hsEvent n 12 s))
    else if busy then none
    else match e with
      | some e => if e.st = .s then
            match dirWay s n m.line with
            | some k => some (sendMsg (rsp 9 m) (hsEvent n 11 (setDirKey n k (addSharer m.agent e) s)))
            | none => none
          else some (sendMsg (rsp 10 m) (hsEvent n 12 s))
      | none => none
  else if m.code = wbReq || m.code = evictReq then
    match dirWay s n m.line, e with
    | some k, some e =>
      let st := match trkOf s n m.line with | some (_, t) => if t.phase = .awaitDone then t.after else t.before.getD e.st | none => e.st
      let isOwner := ownerOf e (if e.st = .b then st else e.st) == some m.agent
      if m.code = wbReq && isOwner then
        let s := (homeWrite n m.line fullMask m.data true s).2
        let e' := dropHolder m.agent e
        some (sendMsg (rsp 8 m) (putEntry n k (if e.st = .b then e' else sharersEntry e') s))
      else if m.code = evictReq && (holders e).contains m.agent then
        let e' := dropHolder m.agent e
        some (sendMsg (rsp 8 m) (putEntry n k (if e.st = .b then e' else { e' with st := settledState e' e.st }) s))
      else some (sendMsg (rsp 8 m) s)
    | _, _ => some (sendMsg (rsp 8 m) s)
  else none

/-- A transaction starts on a line that is in none: its entry becomes B where it has one, and the snoops leave; with none to await it
finishes. -/
def startTrans (m : CMsg) (s : State) : State × List Job :=
  let n := m.slice
  match freeTrk s n with
  | none => (addWaiting n m s, [])
  | some k =>
    match dirWay s n m.line, dirGet s n m.line with
    | some w, some e =>
      let sn := snoopsFor e m
      let s := setDirKey n w { e with st := .b } s
      let s := setTrk n k ⟨m, some e.st, sn.map (·.1), none, false, false, .snoop, e.st, none⟩ s
      let s := sn.foldl (fun s p => sendMsg { blankMsg 2 p.2 p.1 n m.line with rc := 0 } (hsEvent n 6 s)) s
      let s := if e.ovf && sn.any (fun p => p.2 == 0) then hsEvent n 7 s else s
      (s, if sn.isEmpty then [.finish n k] else [])
    | _, _ =>
      if allocates m then
        match allocWay s n m.line with
        | some (w, true) =>
          let s := setDirKey n w ⟨dirTag m.line, .b, false, [15, 15, 15, 15], epochG s n⟩ s
          (setTrk n k ⟨m, none, [], none, false, false, .snoop, .s, none⟩ s, [.finish n k])
        | some (w, false) =>
          match SMap.find w (s.slice n).dir with
          | some e =>
            let l2 := e.tag * 2048 + dirSet m.line
            let r : CMsg := blankMsg 0 recallReq 15 n l2
            let sn := snoopsFor e r
            let s := setDirKey n w { e with st := .b } (hsEvent n 8 s)
            let s := setTrk n k ⟨r, some e.st, sn.map (·.1), none, false, false, .snoop, e.st, some m⟩ s
            let s := sn.foldl (fun s p => sendMsg (blankMsg 2 p.2 p.1 n l2) (hsEvent n 6 s)) s
            (s, if sn.isEmpty then [.finish n k] else [])
          | none => (addWaiting n m s, [])
        | none => (setTrk n k ⟨m, none, [], none, false, false, .way, .s, none⟩ s, [])
      else (setTrk n k ⟨m, none, [], none, false, false, .snoop, .s, none⟩ s, [.finish n k])

/-- A request that ends in a write of its line at the line's target: one that writes, a write-back that is not allocated, or a clean of a line
that an owner holds (R272, R283, R288). -/
def writesTarget (s : State) (m : CMsg) : Bool :=
  m.code == wrU || m.code == atomU || (m.code == wbReq && (s.bit (Reg.HS_CTL m.slice) 0 || llcWays s m.slice == 0)) ||
  ((m.code == cmoClean || m.code == cmoClinv) &&
   (match dirGet s m.slice m.line with | some e => decide (e.st = .x) || decide (e.st = .o) | none => false))

/-- A request that needs a DRAM line from a channel that holds requests now (R359, R510), or that writes a line which must wait there (R41, R504). -/
def needsDram (s : State) (m : CMsg) : Bool :=
  decide (dramBase ≤ m.line * 16) && (llcGet s m.slice m.line).isNone &&
  ((dramHolds s m.line &&
    ([rdS, rdX, rdT, rdU].contains m.code || writesTarget s m ||
     (m.code == upg && !(match dirGet s m.slice m.line with | some e => (holders e).contains m.agent | none => false)))) ||
   (writesTarget s m && dramFull s m.line))

/-- A request waits at its home for its DRAM channel, which it wakes, or where a write of its line waits. -/
def waitDram (m : CMsg) (s : State) : State :=
  let s := dramWake m.line s
  addWaiting m.slice m (if dramHolds s m.line then s else noteStall m.line s)

/-- An entry of the directory found wrong (R300): the slice accepts no request from then on. -/
def dirParity (n l : Nat) (s : State) : State :=
  if struck s (.dir n l) && (dirGet s n l).isSome then (hsErr n 0x19 2 0 (l * 16) (heal (.dir n l) s)).setBit (Reg.HS_STATUS n) 1 true else s

/-- A request counts once, when the home accepts it, and uses the line of the last-level cache it finds (R272, R302). -/
def acceptReq (m : CMsg) (s : State) : State :=
  let n := m.slice
  let s := if m.code = rdU || m.code = wrU || m.code = atomU then hsEvent n 15 s else if m.code = wbReq then hsEvent n 14 s else s
  let s := hsEvent n 1 s
  if m.code = rdT || m.code = promote then s else llcTouch n m.line s

/-- Boot ROM takes no ownership and no write (R72, R269). -/
def romRefused (m : CMsg) : Bool := decide (m.line * 16 < 0x4000) && (m.code == rdX || m.code == upg || m.code == wrU || m.code == atomU)

/-- A request in its home's request buffer (R283, R285, R286, R289, R300): held, refused, answered, placed in a slot, retried or begun. -/
def serveReq (m : CMsg) (s : State) : State × List Job :=
  let n := m.slice
  if s.split.isSome && m.code ≠ recallReq then (addWaiting n m s, [])
  else if needsDram s m then (waitDram m s, [])
  else
    let s := endStall m.line s
    if romRefused m then (sendMsg { rsp 8 m with status := .prot } (logProt (.hs n) (agentEp m.agent) (if m.code = atomU then 4 else 2) (m.line * 16) s), [])
    else match quickReq m s with
    | some s => (s, if 4 ≤ m.rc then [.leave n m.line] else [])
    | none =>
      if lineBusy s n m.line then
        if 4 ≤ m.rc then
          let sl := s.slice n
          (hsEvent n 5 (s.setSlice n { sl with pslot := SMap.insert m.agent m sl.pslot, pslotOrder := sl.pslotOrder ++ [m.agent] }), [])
        else (sendMsg { rsp 7 m with rc := m.rc } (hsEvent n 4 s), [])
      else startTrans m s

/-- A request arrives at its home: a failed directory serves none, and a reserved code or an RC above 4 is a violation (R300). -/
def reqJob (m : CMsg) (s : State) : State × List Job :=
  let n := m.slice
  let s := dirParity n m.line s
  if s.bit (Reg.HS_STATUS n) 1 then (s, [])
  else if (decide (13 ≤ m.code) && m.code != recallReq) || decide (5 ≤ m.rc) then (protocolErr m s, [])
  else serveReq m (acceptReq m s)

def atomResult (op : AtOp) (old operand cmp : Word) : Word :=
  match op with
  | .cas => if old = cmp then operand else old
  | .fadd => old + operand
  | .swap => operand

/-- The transaction's data: an owner's, else the home's own copy. -/
def transData (n : Nat) (t : Trk) (alloc : Bool) (s : State) : FStatus × Line × State :=
  match t.data with
  | some d => (if hasPoison d then .poison else .ok, d, s)
  | none => homeRead n t.req.line alloc false s

def okData (st : FStatus) : Bool := decide (st = .ok) || decide (st = .poison)

/-- An entry after a transaction that grants nothing: its former state, less a removed owner. -/
def restoreEntry (n : Nat) (t : Trk) (st : DirSt) (s : State) : State :=
  match dirWay s n t.req.line, dirGet s n t.req.line with
  | some w, some e =>
    putEntry n w { e with st := settledState e st } s
  | _, _ => s

/-- A dirty line that snoops wrote back is written by the home (R283). -/
def writeBackData (n : Nat) (t : Trk) (s : State) : State :=
  match t.data with
  | some d => if t.dirty then (homeWrite n t.req.line fullMask d false s).2 else s
  | none => s

def freeEntry (n l : Nat) (s : State) : State :=
  match dirWay s n l with
  | some w => eraseDirKey n w s
  | none => s

/-- Grants (R283): data or GRANT leaves, the entry stays B until DONE. -/
def grantTo (n k : Nat) (t : Trk) (code : Nat) (st : FStatus) (d : Line) (after : DirSt) (f : DirEnt → DirEnt) (s : State) : State :=
  match dirWay s n t.req.line, dirGet s n t.req.line with
  | some w, some e =>
    let s := setDirKey n w { f e with st := .b } s
    sendMsg { rsp code t.req with data := d, status := st } (setTrk n k { t with phase := .awaitDone, after := after } s)
  | _, _ => s

def soleOwner (a : Nat) (e : DirEnt) : DirEnt := { e with ptrs := [a, 15, 15, 15], ovf := false }

/-- The request could not get its data (a DRAM refusal): it completes with the status and the entry is restored or freed. -/
def failTrans (n k : Nat) (t : Trk) (st : FStatus) (s : State) : State × List Job :=
  let s := match t.before with | none => freeEntry n t.req.line s | some b => restoreEntry n t b s
  (sendMsg { rsp 8 t.req with status := st } (eraseTrk n k s), [.leave n t.req.line])

/-- Every answer is in (R283). -/
def finishTrans (n k : Nat) (t : Trk) (s : State) : State × List Job :=
  let r := t.req
  let leave : List Job := [.leave n r.line]
  let comp := fun (s : State) => sendMsg (rsp 8 r) (eraseTrk n k s)
  if r.code = rdS then
    let p := transData n t true s
    if !okData p.1 then failTrans n k t p.1 p.2.2
    else match t.before with
      | none => (grantTo n k t 1 p.1 p.2.1 .x (soleOwner r.agent) (epochEvent n r.line p.2.2), [])
      | some b =>
        let owned := match dirGet p.2.2 n r.line with | some e => (ownerOf e b).isSome | none => false
        (grantTo n k t 0 p.1 p.2.1 (if owned && (t.dirty || b = .o) then .o else .s) (addSharer r.agent) p.2.2, [])
  else if r.code = rdX || r.code = upg then
    let held := match dirGet s n r.line with | some e => (holders e).contains r.agent && decide (t.before ≠ some .x) && decide (t.before ≠ none) | none => false
    if r.code = upg && held then (grantTo n k t 5 .ok [] .x (soleOwner r.agent) (epochEvent n r.line s), [])
    else
      let p := transData n t true s
      if !okData p.1 then failTrans n k t p.1 p.2.2
      else (grantTo n k t 2 p.1 p.2.1 .x (soleOwner r.agent) (epochEvent n r.line p.2.2), [])
  else if r.code = promote then
    match dirWay s n r.line, dirGet s n r.line with
    | some w, some e => (sendMsg (rsp 9 r) (hsEvent n 11 (eraseTrk n k (putEntry n w { addSharer r.agent e with st := .s } s))), leave)
    | _, _ => (comp s, leave)
  else if r.code = rdU then
    let p := transData n t false s
    let s := match t.before with | none => p.2.2 | some b => restoreEntry n t (if t.ownerM then .o else b) p.2.2
    (sendMsg { rsp 4 r with data := p.2.1, status := p.1 } (eraseTrk n k s), leave)
  else if r.code = wrU then
    let s := freeEntry n r.line (epochEvent n r.line (writeBackData n t s))
    let q := homeWrite n r.line r.mask r.data false s
    (sendMsg { rsp 8 r with status := q.1 } (eraseTrk n k q.2), leave)
  else if r.code = atomU then
    let s := freeEntry n r.line (epochEvent n r.line (writeBackData n t s))
    let p := homeRead n r.line false false s
    let old := (p.2.1.getD r.idx MWord.zero)
    if !okData p.1 then (sendMsg { rsp 8 r with status := p.1 } (eraseTrk n k p.2.2), leave)
    else if old.mark = .poison then (sendMsg { rsp 8 r with status := .poison, data := [old] } (eraseTrk n k p.2.2), leave)
    else
      let q := homeWrite n r.line (31 * 2 ^ (5 * r.idx)) (p.2.1.set r.idx ⟨atomResult r.atop old.v r.operand r.cmp, .good⟩) false p.2.2
      (sendMsg { rsp 8 r with data := if q.1 = .ok then [old] else [], status := q.1 } (eraseTrk n k q.2), leave)
  else if r.code = cmoClean then
    let s := writeBackData n t s
    let s := match t.before with
      | none => s
      | some b => restoreEntry n t (if b = .o then .s else b) s
    (comp s, leave)
  else if r.code = cmoClinv then (comp (freeEntry n r.line (writeBackData n t s)), leave)
  else if r.code = cmoInv then (comp (freeEntry n r.line (epochEvent n r.line s)), leave)
  else
    let s := eraseTrk n k (freeEntry n r.line (writeBackData n t s))
    (s, (match t.recallFor with | some m => [.again m] | none => []) ++ leave)

/-- An agent other than the owner of a reservation on line l writes it or takes it: the reservation is cleared (R111). -/
def clearResv (a l : Nat) (s : State) : State :=
  (List.range 8).foldl (fun s c => if c ≠ a && (s.core c).resv = some l then s.updCore c (fun k => { k with resv := none }) else s) s

/-- A job; an epoch event within 18 ns of the last one is held with its transaction (R278). -/
def runJob (j : Job) (s : State) : State × List Job :=
  match j with
  | .req m => reqJob m s
  | .again m => serveReq m s
  | .finish n k =>
    match SMap.find k (s.slice n).trk with
    | none => (s, [])
    | some t =>
      if makesEpoch t.before t.req && (s.slice n).gHold then (hsEvent n 13 (setTrk n k { t with phase := .held } s), [])
      else finishTrans n k t (if makesEpoch t.before t.req then clearResv t.req.agent t.req.line s else s)
  | .leave n l =>
    let ways := (s.slice n).trk.filter (fun e => decide (e.2.phase = .way) && dirSet e.2.req.line == dirSet l)
    let s := ways.foldl (fun s e => eraseTrk n e.1 s) s
    let sl := s.slice n
    match sl.pslotOrder.find? (fun a => match SMap.find a sl.pslot with | some m => m.line == l | none => false) with
    | some a =>
      match SMap.find a sl.pslot with
      | some m => (s.setSlice n { sl with pslot := SMap.erase a sl.pslot, pslotOrder := sl.pslotOrder.erase a },
          ways.map (fun e => .again e.2.req) ++ [.again m])
      | none => (s, ways.map (fun e => .again e.2.req))
    | none => (s.setSlice n { sl with waiting := [] }, ways.map (fun e => .again e.2.req) ++ sl.waiting.map .again)

def runJobs : Nat → List Job → State → State
  | 0, _, s => s
  | _, [], s => s
  | k + 1, j :: js, s =>
    let p := runJob j s
    runJobs k (p.2 ++ js) p.1

def jobFuel : Nat := 400

def atHome (m : CMsg) (s : State) : State := runJobs jobFuel [.req m] s

/-- Requests that waited at the homes are tried again: a channel serves again. -/
def retryHomes (s : State) : State :=
  [0, 1, 2, 3].foldl (fun s n =>
    let sl := s.slice n
    runJobs jobFuel (sl.waiting.map .again) (s.setSlice n { sl with waiting := [] })) s

/-- The wake of channel n's domain failed: what is held for it is answered DOMAIN_OFF (R359). -/
def dramFail (n : Nat) (s : State) : State :=
  let mine := fun (m : CMsg) => decide (dramBase ≤ m.line * 16) && (dramRoute s (m.line * 16)).1 == n
  let s' := s.setDmc n { s.dmc n with waits := [], stalls := [] }
  [0, 1, 2, 3].foldl (fun s k =>
    let sl := s.slice k
    (sl.waiting.filter mine).foldl (fun s m => sendMsg { rsp 8 m with status := .domainOff } s)
      (s.setSlice k { sl with waiting := sl.waiting.filter (fun m => !mine m) })) s'

/-! ### Agents (R284) -/

/-- A core loses a line: its reservation on the line and its L1 data copy go (R111, R266). -/
def coreLoses (a l : Nat) (s : State) : State :=
  if a < 8 then
    s.updCore a (fun c => { c with resv := if c.resv = some l then none else c.resv, l1d := c.l1d.filter (fun x => x != l) })
  else s

def dropLine (a l : Nat) (s : State) : State :=
  let g := s.agent a
  coreLoses a l (s.setAgent a { g with lines := SMap.erase l g.lines, use := g.use.filter (fun x => x != l) })

def putLine (a l : Nat) (c : CLine) (s : State) : State :=
  let g := s.agent a
  s.setAgent a { g with lines := SMap.insert l c g.lines, use := touch l g.use }

/-- What a copy does on a snoop (R284): its answer's data, whether dirty, whether it was M, and its next state. -/
def snoopResult (code : Nat) (st : CSt) : Bool × Bool × Option CSt :=
  match code, st with
  | 0, _ => (false, false, none)
  | 1, .m => (true, true, some .o)
  | 1, .e => (true, false, some .s)
  | 1, .o => (true, true, some .o)
  | 1, .s => (false, false, some .s)
  | 2, .s => (false, false, none)
  | 2, .m => (true, true, none)
  | 2, .o => (true, true, none)
  | 2, .e => (true, false, none)
  | 3, .m => (true, true, some .o)
  | 3, .e => (true, false, some .e)
  | 3, .o => (true, true, some .o)
  | 3, .s => (false, false, some .s)
  | 4, .m => (true, true, some .e)
  | 4, .o => (true, true, some .s)
  | 4, st => (false, false, some st)
  | 5, .m => (true, true, none)
  | 5, .o => (true, true, none)
  | _, _ => (false, false, none)

/-- A core's read of its private copy of a line (R300): a correctable error is corrected; an uncorrectable one drops a clean copy and poisons the
word of a dirty one, which the line's home counts. -/
def privRead (a l : Nat) (s : State) : State :=
  match s.flaws.find? (fun f => match f with | .privWord x y _ _ => x == a && y == l | _ => false), SMap.find l (s.agent a).lines with
  | some (.privWord x y i hard), some c =>
    let s := heal (.privWord x y i hard) s
    if !hard then s
    else if c.st = .s || c.st = .e then dropLine a l s
    else
      let s := putLine a l ⟨c.st, c.data.set i ⟨(c.data.getD i MWord.zero).v, .poison⟩⟩ s
      logErr (.core a) 0x18 a (nw (l * 16 + i)) (nw 16) (s.inc (Reg.HS_ECC_UNCORR (homeOf s l)))
  | _, _ => s

/-- A message an agent must not get (R300): its record, naming the sending home's agent number 15, and the answer owed to a snoop. -/
def agentViolation (m : CMsg) (s : State) : State :=
  let s := logErr (.agent m.agent) 0x1B m.agent (nw (m.line * 16)) (nw (16 + 15)) s
  if m.cls = 2 then sendMsg { rsp 11 m with status := .prot } s else s

/-- An agent answers a snoop once, from its copy, or, until its COMP, from a copy it has sent in a WB or EVICT (R281, R294). -/
def answerSnoop (m : CMsg) (s : State) : State :=
  let s := privRead m.agent m.line s
  let g := s.agent m.agent
  let ans := fun (data : Option Line) (dirty wasM : Bool) (s : State) =>
    sendMsg { rsp (if data.isSome then 12 else 11) m with data := data.getD [], dirty := dirty, epoch := b2n wasM } s
  match SMap.find m.line g.lines with
  | some c =>
    let r := snoopResult m.code c.st
    let s := match r.2.2 with
      | some st => putLine m.agent m.line ⟨st, c.data⟩ s
      | none => dropLine m.agent m.line s
    ans (if r.1 then some c.data else none) r.2.1 (c.st == .m) s
  | none =>
    match g.wbq.find? (fun w => w.line == m.line && !w.gone) with
    | some w =>
      let r := snoopResult m.code w.st
      let s := s.setAgent m.agent { g with wbq := g.wbq.map (fun x =>
        if x.line = m.line then { x with st := r.2.2.getD x.st, answered := true, gone := r.2.2.isNone } else x) }
      ans (if r.1 then some w.data else none) r.2.1 (w.st == .m) s
    | none => ans none false false s

/-- The home takes a snoop answer; the last one finishes the transaction. -/
def answered (n a l : Nat) (data : Option Line) (dirty wasM : Bool) (s : State) : State :=
  match trkOf s n l with
  | none => s
  | some (k, t) =>
    if t.phase = .snoop && t.await.contains a then
      let t' := { t with await := t.await.erase a, data := data.or t.data, dirty := t.dirty || dirty, ownerM := t.ownerM || wasM }
      let s := setTrk n k t' s
      if t'.await.isEmpty then runJobs jobFuel [.finish n k] s else s
    else s

def takeAnswer (m : CMsg) (s : State) : State :=
  let p := matchTag (8 + 2 * m.slice) m.tag m.gen s
  if p.1 then
    answered m.slice m.agent m.line (if m.code = 12 then some m.data else none) (m.code == 12 && m.dirty) (m.code == 12 && m.epoch == 1) p.2
  else p.2

/-- A snoop answered TIMEOUT at the home (R300): the silent agent leaves the entry; if it was the owner, the line is poisoned. -/
def snoopTimeout (n a l : Nat) (s : State) : State :=
  let s := hsErr n 0x1A 3 a (l * 16) s
  match trkOf s n l, dirWay s n l, dirGet s n l with
  | some (_, t), some w, some e =>
    let owned := (t.before == some .x || t.before == some .o) && e.ptrs.head? == some a
    let s := setDirKey n w (dropHolder a e) s
    let s := if owned then
        let r := homeRead n l false true s
        (homeWrite n l fullMask ((r.2.1 ++ zeroLine).take 16 |>.map (fun x => ⟨x.v, .poison⟩)) false r.2.2).2
      else s
    answered n a l none false false s
  | _, _, _ => s

/-- The requester's DONE takes the entry out of B (R281, R286). -/
def takeDone (m : CMsg) (s : State) : State :=
  match trkOf s m.slice m.line with
  | none => protocolErr m s
  | some (k, t) =>
    if t.phase = .awaitDone && t.req.agent == m.agent then
      let s := eraseTrk m.slice k s
      let s := match dirWay s m.slice m.line, dirGet s m.slice m.line with
        | some w, some e => putEntry m.slice w { e with st := settledState e t.after } s
        | _, _ => s
      runJobs jobFuel [.leave m.slice m.line] s
    else protocolErr m s

/-- Outstanding requests of an agent (R280). -/
def hasOut (s : State) (a l : Nat) : Bool := (s.agent a).out.any (fun r => r.line == l)

def removeOut (a l : Nat) (s : State) : State :=
  let g := s.agent a
  s.setAgent a { g with out := g.out.filter (fun r => r.line != l) }

def updCloak (c l : Nat) (f : Cloak → Cloak) (s : State) : State :=
  s.updCore c (fun k => { k with cloak := k.cloak.map (fun e => if e.line = l then f e else e) })

def dropCloak (c l : Nat) (s : State) : State := s.updCore c (fun k => { k with cloak := k.cloak.filter (fun e => e.line != l) })

/-- An entry leaves the cloakroom without promotion: it is counted (R204), and what it served will mismatch where `again` says so (R181, R197). -/
def discardCloak (c l : Nat) (again : Bool) (s : State) : State :=
  match (s.core c).cloak.find? (fun e => e.line == l) with
  | none => s
  | some e =>
    let s := dropCloak c l (pmcEvent c 0x0C 1 s)
    if again then s.updCore c (fun k => { k with replay := k.replay ++ e.serves }) else s

/-- A copy sent in a WB or EVICT is kept no longer (R294). -/
def dropWb (a l : Nat) (s : State) : State := s.setAgent a { s.agent a with wbq := (s.agent a).wbq.filter (fun w => w.line != l) }

/-- A request ends at its agent's interface with a status (R70, R72, R366). Of a tentative read the entry holds it, and no record is made until the
load retires (R189). -/
def endAtNi (m : CMsg) (st : FStatus) (s : State) : State :=
  let k := agentEp m.agent
  let s := dropWb m.agent m.line (removeOut m.agent m.line s)
  if m.code = rdT then updCloak m.agent m.line (fun e => { e with data := some [], status := st, pulses := 0 }) s
  else
    let s := if st = .decode then logDecode k (m.line * 16) s else logProt (.ni k) k (if m.code ≤ 5 then 1 else if m.code = 7 then 4 else 2) (m.line * 16) s
    let s := if m.code = promote then discardCloak m.agent m.line false s else s
    { s with resp := ⟨k, st, []⟩ }

/-- What the address decode of the agent's interface answers to a line request: DECODE outside every responding part, PROT in a region that no cache
and no home serves (R70-R72, R75, R78, R269). -/
def lineRefused (s : State) (m : CMsg) : Option FStatus :=
  match regionAt s (m.line * 16) with
  | none => some .decode
  | some r => if r.cacheable then none else some .prot

/-- The request buffer of a home keeps 4 places for each agent, and one more for a request that was retried (R285, R290). -/
def noCredit (s : State) (m : CMsg) : Bool :=
  m.rc == 0 && decide (4 ≤ ((s.slice m.slice).waiting.filter (fun x => x.agent == m.agent)).length)

/-- A request leaves its agent's interface with a tag, or is held there (R41, R351, R356), and reaches its home; one that the interface decodes to
no home, or has no route for, ends there. -/
def launch (m : CMsg) (s : State) : State :=
  let k := agentEp m.agent
  let h := 8 + 2 * m.slice
  match (if routeValid s k h then lineRefused s m else some .decode) with
  | some st => endAtNi m st s
  | none =>
    match (if mustHold s k h || noCredit s m then none else allocTag k h (m.line * 16) true false s) with
    | none => hold k (.coh m) s
    | some (t, g, s) =>
      match crossMsg { m with tag := t, gen := g } s with
      | (none, s) => s
      | (some m, s) => if malformed s (cohPkt s m) then sendMsg { rsp 8 m with status := .prot } (fabViol (cohPkt s m) s) else atHome m s

/-- An agent sends a request (R280: at most one outstanding for one line). -/
def issueReq (m : CMsg) (s : State) : State :=
  if hasOut s m.agent m.line then s
  else
    let g := s.agent m.agent
    launch m (s.setAgent m.agent { g with out := g.out ++ [m] })

/-- The request an agent needs to give up line l: WB for O and M, EVICT for S and E (R284); the copy is kept until COMP (R294). A line with a request
outstanding stays until its answer (R280). -/
def evictLine (a l : Nat) (s : State) : State :=
  let s := privRead a l s
  match (if hasOut s a l then none else SMap.find l (s.agent a).lines) with
  | none => s
  | some c =>
    let dirty := c.st == .o || c.st == .m
    let s := dropLine a l s
    let g := s.agent a
    let s := s.setAgent a { g with wbq := g.wbq ++ [⟨l, c.st, c.data, false, false⟩] }
    issueReq { blankMsg 0 (if dirty then wbReq else evictReq) a (homeOf s l) l with data := if dirty then c.data else [], dirty := dirty } s

/-- The most lines an agent holds (R268), and, for a core, the 8 ways of the L2 set (R265). -/
def maxLines (a : Nat) : Nat := if a < 8 then 4096 else if a = 8 then 32 else if a = 11 then 2 else 8

def overfull (s : State) (a l : Nat) : Option Nat :=
  let g := s.agent a
  if (SMap.find l g.lines).isSome then none
  else if a < 8 then
    (if 8 ≤ (g.lines.filter (fun e => e.1 % 512 == l % 512)).length then
      (g.use.filter (fun x => x % 512 == l % 512 && !hasOut s a x)).getLast? else none)
  else if maxLines a ≤ g.lines.length then (g.use.filter (fun x => !hasOut s a x)).getLast? else none

/-- A line enters a cache of `cap` ways and `sets` sets as its latest used; the least recently used of its set leaves when there is no room. -/
def l1Touch (cap sets l : Nat) (u : List Nat) : List Nat :=
  let u := u.filter (fun x => x != l)
  let same := u.filter (fun x => x % sets == l % sets)
  l :: (if same.length < cap then u else u.filter (fun x => some x != same.getLast?))

/-- A line is installed in an agent, after an eviction if there is no room. A cloakroom entry for a line that a core's L2 takes in is discarded,
and what it served will mismatch (R181, R197). -/
def installLine (a l : Nat) (c : CLine) (s : State) : State :=
  let s := match overfull s a l with
    | some v => evictLine a v s
    | none => s
  putLine a l c (if a < 8 then discardCloak a l true s else s)

/-- The next retried request waiting for the credit of a home leaves, when none is in flight on it (R285). -/
def nextRetry (a n : Nat) (s : State) : State :=
  let g := s.agent a
  if g.out.any (fun x => x.slice == n && x.rc != 0 && !g.retryq.any (fun y => y.line == x.line)) then s
  else match g.retryq.find? (fun m => m.slice == n) with
    | some m => launch m (s.setAgent a { g with retryq := g.retryq.erase m })
    | none => s

/-- A request of an agent has its answer: it is outstanding no longer, and an answer to a retried request returns the reserved credit (R285). -/
def endRequest (a n l : Nat) (s : State) : State :=
  let retried := (s.agent a).out.any (fun r => r.line == l && r.rc != 0)
  let s := removeOut a l s
  if retried then nextRetry a n s else s

/-- DATA_S, DATA_E or DATA_M: the requester installs the line and answers DONE (R284). -/
def takeData (m : CMsg) (s : State) : State :=
  let st : CSt := if m.code = 0 then .s else if m.code = 1 then .e else .m
  let s := endRequest m.agent m.slice m.line s
  sendMsg (rsp 13 m) (installLine m.agent m.line ⟨st, m.data⟩ s)

/-- GRANT: the held line becomes M (R284), and a cloakroom entry for it is discarded (R197). -/
def takeGrant (m : CMsg) (s : State) : State :=
  let s := endRequest m.agent m.slice m.line s
  let s := match SMap.find m.line (s.agent m.agent).lines with
    | some c => putLine m.agent m.line ⟨.m, c.data⟩ (if m.agent < 8 then discardCloak m.agent m.line true s else s)
    | none => s
  sendMsg (rsp 13 m) s

/-- RETRY (R285): the request waits for the one reserved credit of its home, behind those retried before it, and is sent again with RC one higher. -/
def takeRetry (m : CMsg) (s : State) : State :=
  let s := if m.agent < 8 then pmcEvent m.agent 0x15 1 s else s
  let g := s.agent m.agent
  match g.out.find? (fun r => r.line == m.line) with
  | none => s
  | some r =>
    let r' := { r with rc := r.rc + 1 }
    nextRetry m.agent m.slice (s.setAgent m.agent { g with out := g.out.map (fun x => if x.line = m.line then r' else x), retryq := g.retryq ++ [r'] })

/-- A core's access that waits for its answer gets it. -/
def fillIo (c : Nat) (p : IoWait → Bool) (st : FStatus) (d : Line) (s : State) : State :=
  s.updCore c (fun k => { k with io := k.io.map (fun w => if w.res.isNone && p w then { w with res := some (st, d) } else w) })

/-- COMP and DATA_U end a request; their data and status reach the requester (R279, R287). -/
def takeComp (m : CMsg) (s : State) : State :=
  let s := dropWb m.agent m.line (endRequest m.agent m.slice m.line s)
  let s := if m.agent < 8 then fillIo m.agent (fun w => w.pa / 16 == m.line) m.status m.data s else s
  { s with resp := ⟨agentEp m.agent, m.status, m.data⟩ }

/-! ### The cloakroom's messages (R179-R182, R187) -/

/-- Every load after a mismatch is squashed, and with them all that the cloakroom and the tentative TLB hold (R182, R183). -/
def squashAll (c : Nat) (s : State) : State :=
  let k := s.core c
  let s := if k.cloak.isEmpty then s else pmcEvent c 0x0C k.cloak.length s
  let s := if k.ttlb.isEmpty then s else pmcEvent c 0x11 k.ttlb.length s
  s.updCore c (fun k => { k with cloak := [], ttlb := [], replay := [] })

/-- A promotion that mismatches: it is counted, its load and every younger instruction are squashed, and the load executes again (R182). -/
def promoMismatch (c : Nat) (s : State) : State := squashAll c (pmcEvent c 0x0D 1 s)

def takeDataT (m : CMsg) (s : State) : State :=
  updCloak m.agent m.line (fun e => { e with data := some m.data, epoch := m.epoch, status := m.status, pulses := 0 }) (endRequest m.agent m.slice m.line s)

def takeDecline (m : CMsg) (s : State) : State :=
  updCloak m.agent m.line (fun e => { e with declined := true }) (pmcEvent m.agent 0x0F 1 (endRequest m.agent m.slice m.line s))

/-- A line enters the L1 instruction cache of a core; the least recently used of its set leaves (R265, R266). -/
def l1iFill (c l : Nat) (d : Line) (s : State) : State :=
  s.updCore c (fun k =>
    let u := l1Touch 4 128 l k.l1iUse
    { k with l1i := (SMap.insert l d k.l1i).filter (fun e => u.contains e.1), l1iUse := u })

/-- PROMO_OK: the line is filled into L2 and L1 from the entry, in S (R182): into L1 instruction for a fetch's entry (R187). -/
def takePromoOk (m : CMsg) (s : State) : State :=
  let c := m.agent
  let s := endRequest c m.slice m.line s
  match (s.core c).cloak.find? (fun e => e.line == m.line) with
  | none => s
  | some e =>
    match e.data with
    | none => s
    | some d =>
      let s := installLine c m.line ⟨.s, d⟩ (dropCloak c m.line (pmcEvent c 0x0B 1 s))
      if e.fetch then l1iFill c m.line d s else s.updCore c (fun k => { k with l1d := l1Touch 4 128 m.line k.l1d })

/-- PROMO_FAIL: the load is squashed and the entry discarded (R182). -/
def takePromoFail (m : CMsg) (s : State) : State := promoMismatch m.agent (endRequest m.agent m.slice m.line s)

/-! ### Delivery -/

/-- A response for an agent (R351). -/
def deliverAgent (m : CMsg) (s : State) : State :=
  let p := matchTag (agentEp m.agent) m.tag m.gen s
  if !p.1 then p.2
  else match m.code with
    | 0 | 1 | 2 => takeData m p.2
    | 3 => takeDataT m p.2
    | 4 => takeComp m p.2
    | 5 => takeGrant m p.2
    | 6 => takeDecline m p.2
    | 7 => takeRetry m p.2
    | 8 => takeComp m p.2
    | 9 => takePromoOk m p.2
    | 10 => takePromoFail m p.2
    | _ => agentViolation m p.2

/-- A message reaches its destination. -/
def deliver (m : CMsg) (s : State) : State :=
  if m.cls = 2 then (if 6 ≤ m.code then agentViolation m s else answerSnoop m s)
  else if m.cls = 0 then atHome m s
  else if m.code = 13 then takeDone m s
  else if 14 ≤ m.code then protocolErr m s
  else if 11 ≤ m.code then takeAnswer m s
  else deliverAgent m s

/-- What is left of a store after its first word. -/
def StqEnt.next (e : StqEnt) : Option StqEnt :=
  match e.vals with
  | _ :: v :: t => some { e with va := e.va + 1, pa := e.pa + 1, vals := v :: t }
  | _ => none

/-- The store at the head of a store queue has waited for ownership of a line in vain: it ends with TIMEOUT, to be reported (R115, R116). -/
def storeTimeout (c l : Nat) (s : State) : State :=
  match (s.core c).stq with
  | e :: t => if e.pa / 16 = l then s.updCore c (fun k => { k with stq := e.next.toList ++ t, storeErrs := k.storeErrs ++ [⟨e.seq, e.va, .timeout⟩] }) else s
  | [] => s

/-- An agent's request has timed out (R352): its block is given TIMEOUT. -/
def requestTimeout (a l : Nat) (s : State) : State :=
  let tent := (s.agent a).out.any (fun r => r.line == l && r.code == rdT)
  let s := if a < 8 && (s.agent a).out.any (fun r => r.line == l && (r.code == rdX || r.code == upg)) then storeTimeout a l s else s
  let s := dropWb a l (endRequest a (homeOf s l) l s)
  let s := if a < 8 then fillIo a (fun w => w.pa / 16 == l) .timeout [] s else s
  let s := if tent then updCloak a l (fun e => { e with data := some [], status := .timeout, pulses := 0 }) s
    else if a < 8 then discardCloak a l true s else s
  { s with resp := ⟨agentEp a, .timeout, []⟩ }

/-- The first message in flight of a class and code to or from an agent about a line is delivered; with none, nothing happens. -/
def deliverNext (cls code a l : Nat) (s : State) : State :=
  match s.net.find? (fun m => m.cls == cls && m.code == code && m.agent == a && m.line == l) with
  | none => s
  | some m => deliver m { s with net := s.net.erase m }

/-- A held epoch event proceeds (R278). -/
def epochHoldEnd (n : Nat) (s : State) : State :=
  let s := s.setSlice n { s.slice n with gHold := false }
  match (s.slice n).trk.find? (fun e => decide (e.2.phase = .held)) with
  | none => s
  | some e => runJobs jobFuel [.finish n e.1] (setTrk n e.1 { e.2 with phase := .snoop } s)

def endHolds (s : State) : State := [0, 1, 2, 3].foldl (fun s n => epochHoldEnd n s) s

def anyHeld (s : State) : Bool := [0, 1, 2, 3].any (fun n => (s.slice n).trk.any (fun e => decide (e.2.phase = .held)))

/-- Requests of agent a that its interface holds are tried again, in order (R41, R356). -/
def releaseAgent (a : Nat) (s : State) : State :=
  let k := agentEp a
  if (s.ni k).held.any (fun h => match h with | .coh m => m.cls != 2 && m.agent == a | .io _ => false) then
    (s.ni k).held.foldl (fun s h => match h with
      | .coh m => if m.cls != 2 && m.agent == a then launch m s else hold k h s
      | .io _ => hold k h s) (s.setNi k { s.ni k with held := [] })
  else s

/-- What interfaces hold of coherence messages is tried again: requests for want of a credit or tag, and snoops behind a full queue (R41, R281). -/
def releaseMsgs (s : State) : State := (List.range 12).foldl (fun s a => releaseAgent a (releaseSnoops a s)) s

/-- The oldest message in flight is delivered; with none, a held epoch event proceeds; `none` when there is neither. -/
def netStep (s : State) : Option State :=
  match s.net with
  | m :: t => some (deliver m { s with net := t })
  | [] => if anyHeld s then some (endHolds s) else none

/-- Every message in flight is delivered and held epoch events proceed: the end of a whole access. -/
def settleNet : Nat → State → State
  | 0, s => s
  | k + 1, s => (netStep s).elim s (settleNet k)

def netFuel : Nat := 2000

/-- A whole transaction: the request is sent and everything it causes is delivered. -/
def wholeReq (m : CMsg) (s : State) : State := settleNet netFuel (issueReq m s)

/-- The status of an agent's whole request for line l: TIMEOUT while no answer comes, which the requester's interface gives (R352; log row 95). -/
def reqStatus (a l : Nat) (s : State) : FStatus := if hasOut s a l then .timeout else s.resp.status

/-- Agent a gets line l in a readable state; the status of the fill. -/
def acquireShared (a l : Nat) (s : State) : FStatus × State :=
  let s := privRead a l s
  if (SMap.find l (s.agent a).lines).isSome then (.ok, s.setAgent a { s.agent a with use := touch l (s.agent a).use })
  else
    let s := wholeReq (blankMsg 0 rdS a (homeOf s l) l) (endHolds s)
    if (SMap.find l (s.agent a).lines).isSome then (.ok, s) else (reqStatus a l s, s)

/-- How a request for ownership ended: the status of its completion unless the agent now owns the line. -/
def ownedNow (a l : Nat) (s : State) : FStatus × State :=
  match SMap.find l (s.agent a).lines with
  | some c => if c.st = .m || c.st = .e then (.ok, s) else (reqStatus a l s, s)
  | none => (reqStatus a l s, s)

/-- Agent a holds line l in E or M. -/
def ownsLine (s : State) (a l : Nat) : Bool :=
  match SMap.find l (s.agent a).lines with
  | some c => c.st = .m || c.st = .e
  | none => false

/-- Agent a gets line l in E or M; the status. -/
def acquireOwned (a l : Nat) (s : State) : FStatus × State :=
  let s := privRead a l s
  match SMap.find l (s.agent a).lines with
  | some c =>
    if c.st = .m || c.st = .e then (.ok, s.setAgent a { s.agent a with use := touch l (s.agent a).use })
    else ownedNow a l (wholeReq (blankMsg 0 upg a (homeOf s l) l) (endHolds s))
  | none => ownedNow a l (wholeReq (blankMsg 0 rdX a (homeOf s l) l) (endHolds s))

/-- An uncached read of line l at its home by agent a (R287). -/
def uncachedRead (a l : Nat) (s : State) : FStatus × Line × State :=
  let s := wholeReq (blankMsg 0 rdU a (homeOf s l) l) (endHolds s)
  (reqStatus a l s, s.resp.data, s)

def uncachedWrite (a l mask : Nat) (d : Line) (s : State) : FStatus × State :=
  let s := wholeReq { blankMsg 0 wrU a (homeOf s l) l with mask := mask, data := d } (endHolds s)
  (reqStatus a l s, s)

def uncachedAtom (a l idx : Nat) (op : AtOp) (operand cmp : Word) (s : State) : FStatus × Line × State :=
  let s := wholeReq { blankMsg 0 atomU a (homeOf s l) l with idx := idx, atop := op, operand := operand, cmp := cmp } (endHolds s)
  (reqStatus a l s, s.resp.data, s)

/-- The value other agents see at line l (the copy of an owner, else the home's), without any effect. -/
def coherentLine (s : State) (l : Nat) : Line :=
  match (List.range 12).findSome? (fun a => match SMap.find l (s.agent a).lines with
    | some c => if c.st = .m || c.st = .o || c.st = .e then some c.data else none
    | none => none) with
  | some d => d
  | none => (homeRead (homeOf s l) l false true s).2.1

/-- The homes of the lines of n words at pa cannot take agent a's request of a code now: a line is in a transaction or its request outstanding, its
DRAM channel holds it, a split of R289 runs, or a slice accepts no request (R300). -/
def homeWaits (s : State) (a code pa n : Nat) : Bool :=
  s.split.isSome || ((List.range ((pa % 16 + n + 15) / 16)).map (fun i => pa / 16 + i)).any (fun l =>
    lineBusy s (homeOf s l) l || hasOut s a l || s.bit (Reg.HS_STATUS (homeOf s l)) 1 || needsDram s (blankMsg 0 code a (homeOf s l) l))

/-! ### The commands -/

def simpleReq (code : Nat) (a : Nat) (l : BitVec 30) (s : State) : Out :=
  ok (issueReq (blankMsg 0 code a (homeOf s l.toNat) l.toNat) s)

/-- A core in paced mode takes no line, and a pair's trailer none but through fetch (R298). -/
def mayHold (s : State) (a : Nat) (own : Bool) : Bool :=
  decide (8 ≤ a) || !(s.bit (Reg.CS_PACE_CTL a) 1 || (own && a % 2 == 1 && (s.pair (a / 2)).started))

def execRdS (a : Fin 12) (l : BitVec 30) (s : State) : Out := if mayHold s a false then simpleReq rdS a l s else ok s
def execRdX (a : Fin 12) (l : BitVec 30) (s : State) : Out := if mayHold s a true then simpleReq rdX a l s else ok s
def execUpg (a : Fin 12) (l : BitVec 30) (s : State) : Out := if mayHold s a true then simpleReq upg a l s else ok s
def execRdU (a : Fin 12) (l : BitVec 30) (s : State) : Out := simpleReq rdU a l s

/-- A cache operation's message; outside boot ROM, stage memory and DRAM it completes at once with no effect (R288). -/
def cmoReq (code : Nat) (c : Fin 8) (l : BitVec 30) (s : State) : Out :=
  match regionAt s (l.toNat * 16) with
  | some r => if r.cacheable then simpleReq code c l s else ok { s with resp := ⟨c, .ok, []⟩ }
  | none => ok { s with resp := ⟨c, .ok, []⟩ }

def execCmoClean (c : Fin 8) (l : BitVec 30) (s : State) : Out := cmoReq cmoClean c l s
def execCmoClinv (c : Fin 8) (l : BitVec 30) (s : State) : Out := cmoReq cmoClinv c l s
def execCmoInv (c : Fin 8) (l : BitVec 30) (s : State) : Out := cmoReq cmoInv c l s

/-- A line that a speculative access may bring in: none in a region that is never cached (R188). -/
def mayTent (s : State) (l : Nat) : Bool := match regionAt s (l * 16) with | some r => r.cacheable | none => true

/-- RD_T (R179, R181, R185, R187): a speculative load, or a fetch, of the instruction at `pc` that misses L1 and L2 is served by the line's cloakroom
entry; with none, it takes one of the 32, and sends a tentative read. One that finds them all in use waits. -/
def execRdT (c : Fin 8) (r : TentRead) (s : State) : Out :=
  let k := s.core c
  let ln := r.line.toNat
  if (SMap.find ln (s.agent c).lines).isSome || hasOut s c ln || s.bit (Reg.CS_PACE_CTL c) 1 || !mayTent s ln then ok s
  else if k.cloak.any (fun e => e.line == ln) then ok (updCloak c ln (fun e => { e with serves := e.serves ++ [r.pc] }) s)
  else if 32 ≤ k.cloak.length then ok (pmcEvent c 0x0E 1 s)
  else simpleReq rdT c r.line (pmcEvent c 0x0A 1 (s.setCore c { k with cloak := k.cloak ++ [⟨ln, none, 0, 0, .ok, r.fetch, false, [r.pc]⟩] }))

/-- PROMOTE (R182, R283): a promotion with an epoch is compared at the home. -/
def execPromote (c : Fin 8) (l : BitVec 30) (epoch : BitVec 8) (s : State) : Out :=
  ok (issueReq { blankMsg 0 promote c (homeOf s l.toNat) l.toNat with epoch := epoch.toNat } s)

def toLine (d : List Word) : Line := (List.range 16).map (fun i => ⟨d.getD i 0, .good⟩)

/-- WR_U (R287). -/
def execWrU (a : Fin 12) (l : BitVec 30) (mask : BitVec 80) (data : List Word) (s : State) : Out :=
  ok (issueReq { blankMsg 0 wrU a (homeOf s l.toNat) l.toNat with mask := mask.toNat, data := toLine data } s)

/-- ATOM_U (R287). -/
def execAtomU (a : Fin 12) (l : BitVec 30) (idx : Fin 16) (op : AtOp) (operand cmp : Word) (s : State) : Out :=
  ok (issueReq { blankMsg 0 atomU a (homeOf s l.toNat) l.toNat with idx := idx.val, atop := op, operand := operand, cmp := cmp } s)

/-- WB: an owner of an O or M line writes it back (R284). -/
def execWb (a : Fin 12) (l : BitVec 30) (s : State) : Out :=
  ok (match SMap.find l.toNat (s.agent a).lines with
    | some c => if (c.st = .o || c.st = .m) && !hasOut s a l.toNat then evictLine a l.toNat s else s
    | none => s)

/-- EVICT: a holder of an S or E line gives it up (R284). -/
def execEvict (a : Fin 12) (l : BitVec 30) (s : State) : Out :=
  ok (match SMap.find l.toNat (s.agent a).lines with
    | some c => if (c.st = .s || c.st = .e) && !hasOut s a l.toNat then evictLine a l.toNat s else s
    | none => s)

/-- EPOCH_HOLD_END (R278). -/
def execEpochHoldEnd (n : Fin 4) (s : State) : Out := ok (epochHoldEnd n s)

def execSnpInv (a : Fin 12) (l : BitVec 30) (s : State) : Out := ok (deliverNext 2 0 a l.toNat s)
def execSnpFwdS (a : Fin 12) (l : BitVec 30) (s : State) : Out := ok (deliverNext 2 1 a l.toNat s)
def execSnpFwdX (a : Fin 12) (l : BitVec 30) (s : State) : Out := ok (deliverNext 2 2 a l.toNat s)
def execSnpGet (a : Fin 12) (l : BitVec 30) (s : State) : Out := ok (deliverNext 2 3 a l.toNat s)
def execSnpClean (a : Fin 12) (l : BitVec 30) (s : State) : Out := ok (deliverNext 2 4 a l.toNat s)
def execSnpRecall (a : Fin 12) (l : BitVec 30) (s : State) : Out := ok (deliverNext 2 5 a l.toNat s)
def execDataS (a : Fin 12) (l : BitVec 30) (s : State) : Out := ok (deliverNext 1 0 a l.toNat s)
def execDataE (a : Fin 12) (l : BitVec 30) (s : State) : Out := ok (deliverNext 1 1 a l.toNat s)
def execDataM (a : Fin 12) (l : BitVec 30) (s : State) : Out := ok (deliverNext 1 2 a l.toNat s)
def execDataT (c : Fin 8) (l : BitVec 30) (s : State) : Out := ok (deliverNext 1 3 c l.toNat s)
def execDataU (a : Fin 12) (l : BitVec 30) (s : State) : Out := ok (deliverNext 1 4 a l.toNat s)
def execCohGrant (a : Fin 12) (l : BitVec 30) (s : State) : Out := ok (deliverNext 1 5 a l.toNat s)
def execCohDecline (c : Fin 8) (l : BitVec 30) (s : State) : Out := ok (deliverNext 1 6 c l.toNat s)
def execCohRetry (a : Fin 12) (l : BitVec 30) (s : State) : Out := ok (deliverNext 1 7 a l.toNat s)
def execCohComp (a : Fin 12) (l : BitVec 30) (s : State) : Out := ok (deliverNext 1 8 a l.toNat s)
def execPromoOk (c : Fin 8) (l : BitVec 30) (s : State) : Out := ok (deliverNext 1 9 c l.toNat s)
def execPromoFail (c : Fin 8) (l : BitVec 30) (s : State) : Out := ok (deliverNext 1 10 c l.toNat s)
def execCohAck (a : Fin 12) (l : BitVec 30) (s : State) : Out := ok (deliverNext 1 11 a l.toNat s)
def execCohAckData (a : Fin 12) (l : BitVec 30) (s : State) : Out := ok (deliverNext 1 12 a l.toNat s)
def execCohDone (a : Fin 12) (l : BitVec 30) (s : State) : Out := ok (deliverNext 1 13 a l.toNat s)

/-- A cloakroom word that is read is found wrong (R203): corrected and counted, or the entry is discarded, its loads squashed and logged. -/
def cloakRead (c l : Nat) (s : State) : State :=
  if struck s (.cloak c l true) then
    squashAll c (logErr (.core c) 0x12 c (nw (l * 16)) 0 (heal (.cloak c l true) s))
  else if struck s (.cloak c l false) then pmcEvent c 0x1A 1 (heal (.cloak c l false) s)
  else s

/-- The oldest instruction that entry e serves is at the head (R182, R184): a stale entry mismatches at once; else its epoch goes to the home with a
promotion. -/
def sendPromotion (c : Nat) (e : Cloak) (s : State) : State :=
  if 3 ≤ e.pulses then promoMismatch c s
  else issueReq { blankMsg 0 promote c (homeOf s e.line) e.line with epoch := e.epoch } s

/-- CLOAKROOM_PROMOTION (R182): what the entry holds is read, then promoted. A declined entry is given up, since its load reissues as a normal read
(R180). One with an error waits for its load to retire, which raises it (R189). -/
def execCloakroomPromotion (c : Fin 8) (l : BitVec 30) (s : State) : Out :=
  ok (match (s.core c).cloak.find? (fun e => e.line == l.toNat) with
    | none => s
    | some e =>
      if e.declined then discardCloak c l.toNat false s
      else if e.data.isNone || decide (e.status ≠ .ok) then s
      else
        let s := cloakRead c l.toNat s
        if (s.core c).cloak.any (fun x => x.line == l.toNat) then sendPromotion c e s else s)

/-- CLOAK_ENTRY_STALE (R184): at the third TB_PULSE edge after its fill an entry is stale. -/
def execCloakEntryStale (c : Fin 8) (l : BitVec 30) (s : State) : Out :=
  ok (updCloak c l.toNat (fun e => if e.data.isSome then { e with pulses := 3 } else e) s)

/-- A TB_PULSE edge counts in every filled entry (R184). -/
def cloakPulse (s : State) : State :=
  (List.range 8).foldl (fun s c => if (s.core c).cloak.isEmpty then s else
    s.updCore c (fun k => { k with cloak := k.cloak.map (fun e => if e.data.isSome then { e with pulses := min 3 (e.pulses + 1) } else e) })) s

/-! ### The stage-memory split (R289) -/

/-- Step 1: every stage-memory line leaves every agent, dirty data written back by its home. -/
def recallStage (s : State) : State :=
  let ls := ((List.range 12).flatMap (fun a => (s.agent a).lines.map (·.1))).filter (fun l => stageBase ≤ l * 16 && decide (l * 16 < 0x200000))
  ls.foldl (fun s l => settleNet netFuel (atHome (blankMsg 0 recallReq 15 (homeOf s l) l) s)) s

/-- A write of HS_n_SPLIT (R289, R701): a good value before the seal starts the sequence, and the write completes at its end. -/
def splitWrite (ep n : Nat) (v : Word) (s : State) : State :=
  if s.isSealed then s
  else if 8 < fget v 3 0 then captureRsvd ep (Reg.HS_SPLIT n) v s
  else if s.split.isSome then s
  else
    let s := [0, 1, 2, 3].foldl (fun s k => s.setBit (Reg.HS_STATUS k) 0 true) (recallStage (settleNet netFuel s))
    { s with split := some (n, fget v 3 0) }

/-- Zero the SRAM words of units lo to hi - 1 of slice n. -/
def zeroUnits (n lo hi : Nat) (m : Memory) : Memory :=
  m.filter (fun e => !(n * 0x40000 + lo * 0x8000 ≤ e.1 && decide (e.1 < n * 0x40000 + hi * 0x8000)))

/-- Step 2: the dirty lines of the ways from w up are written back, and those ways hold nothing. -/
def llcShrink (n w : Nat) (s : State) : State :=
  let sl := s.slice n
  let gone := sl.llc.filter (fun e => decide (w ≤ e.2.way))
  let s := s.setSlice n { sl with llc := sl.llc.filter (fun e => !decide (w ≤ e.2.way)),
                                  llcUse := sl.llcUse.filter (fun l => !gone.any (fun e => e.1 == l)) }
  gone.foldl (fun s e => if e.2.dirty then (targetWrite n e.1 fullMask e.2.data s).2 else s) s

/-- Steps 2 to 5: last-level lines of units that leave the cache are written back, units that change role are zeroed, UNITS takes the
sum, and held requests proceed. -/
def splitEnd (s : State) : State :=
  match s.split with
  | none => s
  | some (n, u) =>
    let old := stageUnits s n
    let s := if old < u then llcShrink n (2 * (8 - u)) s else s
    let s := { s with stage := if old < u then zeroUnits n (8 - u) (8 - old) s.stage else zeroUnits n (8 - old) (8 - u) s.stage, split := none }
    let s := s.setFld (Reg.HS_SPLIT n) 3 0 u
    let s := s.setFld Reg.SYS_MAP_STAGE 5 0 (stageUnits s 0 + stageUnits s 1 + stageUnits s 2 + stageUnits s 3)
    let s := [0, 1, 2, 3].foldl (fun s k => s.setBit (Reg.HS_STATUS k) 0 false) s
    [0, 1, 2, 3].foldl (fun s k =>
      let w := (s.slice k).waiting
      w.foldl (fun s m => runJobs jobFuel [.again m] s) (s.setSlice k { s.slice k with waiting := [] })) s

/-- A write of HS_n_DIR_SEL latches the selected entry (R274). -/
def dirSelWrite (ep n : Nat) (v : Word) (s : State) : State :=
  let s := writeReg ep (Reg.HS_DIR_SEL n) v s
  let k := s.fld (Reg.HS_DIR_SEL n) 13 3 * 8 + s.fld (Reg.HS_DIR_SEL n) 2 0
  match SMap.find k (s.slice n).dir with
  | none => (s.setReg (Reg.HS_DIR_DATA n 0) 0xFFFF).setReg (Reg.HS_DIR_DATA n 1) 0
  | some e =>
    let st := match e.st with | .s => 1 | .x => 2 | .o => 3 | .b => 4
    let p := fun i => e.ptrs.getD i 15
    (s.setReg (Reg.HS_DIR_DATA n 0) (nw (e.tag * 2 ^ 21 + st * 2 ^ 18 + b2n e.ovf * 2 ^ 17 + p 3 * 2 ^ 12 + p 2 * 2 ^ 8 + p 1 * 2 ^ 4 + p 0))).setReg
      (Reg.HS_DIR_DATA n 1) (nw (e.epoch % 256))

end Sys2Proof.Machine
end

