-- ==== Sys2Proof/Machine/CoreBase.lean ====
section
/-!
DEFINITION. What every block sees of a core: registers and flags (R84-R86), its level and holds (R88, R98), whether it is stopped (R105), and the
numbers of its pair (R217).
-/
namespace Sys2Proof.Machine

/-- General register r of core c; w0 reads as zero (R84). -/
def State.gpr (s : State) (c r : Nat) : Word := if r = 0 then 0 else SMap.getD 0 r (s.core c).w

/-- Write general register r; a write to w0 is discarded (R84). -/
def State.setGpr (c r : Nat) (v : Word) (s : State) : State :=
  if r = 0 then s else s.updCore c (fun k => { k with w := SMap.put 0 r v k.w })

/-- Accumulator a of core c (R85). -/
def State.accOf (s : State) (c a : Nat) : BitVec 80 := SMap.getD 0 a (s.core c).acc

def State.setAcc (c a : Nat) (v : BitVec 80) (s : State) : State := s.updCore c (fun k => { k with acc := SMap.put 0 a v k.acc })

/-- `cs.STATUS.IE`. -/
def State.ie (s : State) (c : Nat) : Bool := s.bit (Reg.CS_STATUS c) 2

/-- `cs.STATUS.HOLDn` for level n = 1, 2, 3. -/
def State.hold (s : State) (c n : Nat) : Bool := s.bit (Reg.CS_STATUS c) (n + 2)

/-- `cs.FLAGS` as a number: Z 1, N 2, C 4, V 8, S 16 (R86). -/
def State.flags (s : State) (c : Nat) : Nat := s.fld (Reg.CS_FLAGS c) 4 0

def State.setFlags (c f : Nat) (s : State) : State := s.setFld (Reg.CS_FLAGS c) 4 0 f

/-- Stopped in the sense of R105: halted by debug, parked, stopped by a fault, or not yet started. -/
def coreStopped (k : Core) : Bool :=
  k.halted || k.parked || decide (k.run = .notStarted) || decide (k.run = .faultStop) || decide (k.run = .doubleFault)

def State.stopped (s : State) (c : Nat) : Bool := coreStopped (s.core c)

/-- Core c waits in WAITEV (R310). -/
def State.waitingEv (s : State) (c : Nat) : Bool := decide ((s.core c).run = .waiting)

/-- Core c is the trailer of a running pair (R217, R221). -/
def isTrailer (s : State) (c : Nat) : Bool := c % 2 == 1 && (s.pair (c / 2)).started

/-- Core c is the leader of a running pair. -/
def isLeader (s : State) (c : Nat) : Bool := c % 2 == 0 && (s.pair (c / 2)).started

/-- Paced mode is in force on core c (R206). -/
def isPaced (s : State) (c : Nat) : Bool := s.bit (Reg.CS_PACE_CTL c) 1

/-! ### Offers (R306, R307) -/

def srcEn (s : State) (k : Nat) : Bool := s.bit (Reg.EIU_SRC_CFG k) 0
def srcLevel (s : State) (k : Nat) : Nat := s.fld (Reg.EIU_SRC_CFG k) 13 12
def srcPart (s : State) (k : Nat) : Nat := s.fld (Reg.EIU_SRC_CFG k) 11 8
def srcTargets (s : State) (k c : Nat) : Bool := s.bit (Reg.EIU_SRC_CFG k) (16 + c)

/-- The effective priority: a PL1 source is capped by its partition (R306). -/
def effPri (s : State) (k : Nat) : Nat :=
  let p := s.fld (Reg.EIU_SRC_CFG k) 6 4
  if srcLevel s k = 1 then min p (s.fld (Reg.EIU_PART_CTL (srcPart s k)) 3 1) else p

/-- Source k is eligible on core c (R306). -/
def eligible (s : State) (c k : Nat) : Bool :=
  s.pendOf k && srcEn s k && !inService s k && srcTargets s k c && s.bit (Reg.EIU_PART_CTL (srcPart s k)) 0 &&
  (srcLevel s k != 1 || s.fld (Reg.CS_PART c) 3 0 == srcPart s k) && !isTrailer s c &&
  decide (s.fld (Reg.CS_EV_MASK c) 2 0 ≤ effPri s k) && s.eiu.insvc.all (fun e => e.2.core != c || decide (e.2.pri < effPri s k))

/-- The more urgent of an offer so far and source k: the higher effective priority, and among equals the lower number. -/
def betterOffer (s : State) (c : Nat) (best : Option Nat) (k : Nat) : Option Nat :=
  if eligible s c k then
    match best with
    | none => some k
    | some b => if effPri s b < effPri s k then some k else some b
  else best

/-- The source the event unit offers to core c (R307). -/
def offer (s : State) (c : Nat) : Option Nat :=
  if s.eiu.pend = 0 || s.bit Reg.EIU_CTL 0 then none else (List.range 256).foldl (betterOffer s c) none

/-- An asynchronous cause is pending on core c: `cs.STATUS.PEND` (R100). -/
def asyncPending (s : State) (c : Nat) : Bool :=
  let a := (s.core c).async
  a.busErr.isSome || a.paceLag || a.pairMismatch.isSome || a.pairSelf.isSome || a.quiet.isSome || (offer s c).isSome

/-! ### The quiet-deadlock condition (R313) -/

def maskCores (s : State) : List Nat := (List.range 8).filter (fun c => s.bit Reg.EIU_QUIET_MASK c)

def targetsMask (s : State) (k : Nat) : Bool := (maskCores s).any (fun c => srcTargets s k c)

def quietCond (s : State) : Bool :=
  (maskCores s).all (fun c => (s.waitingEv c || s.stopped c) && !(s.core c).latch && !s.bit (Reg.CS_TMR_CTL c) 0 && !asyncPending s c) &&
  (List.range 192).all (fun k => !(srcEn s k && targetsMask s k)) &&
  (List.range 64).all (fun j => !(srcEn s (192 + j) && s.pendOf (192 + j) && targetsMask s (192 + j)))

/-- The interval between two edges is broken. -/
def dropQuiet (s : State) : State := { s with eiu := { s.eiu with quietHeld := false } }

/-- Something of which the condition is made has changed: while the condition holds every term of it is true, so the change of a term ends it, and
the interval between two edges is broken (R331). -/
def breakQuiet (s : State) : State := { s with eiu := { s.eiu with quietHeld := s.eiu.quietHeld && quietCond s } }

/-- The same for a term of core c, when the mask names it. -/
def breakQuietOf (c : Nat) (s : State) : State := if s.bit Reg.EIU_QUIET_MASK c then breakQuiet s else s

/-- Core c changes how it stands. -/
def setRun (c : Nat) (r : RunSt) (s : State) : State := breakQuietOf c (s.updCore c (fun k => { k with run := r }))

def updAsync (c : Nat) (f : Async → Async) (s : State) : State := breakQuietOf c (s.updCore c (fun k => { k with async := f k.async }))

/-! ### The timebase (R52, R315) -/

/-- The device runs its timebase: locked, and XA present (R315, R52). -/
def tbRunning (s : State) : Bool := s.bit Reg.TB_STATUS 0 && !s.bit Reg.TB_STATUS 1

/-- The timebase stands for good: XA is lost, or the PLL has lost lock with XA present (R333, R334). -/
def xaLost (s : State) : Bool := s.bit Reg.TB_STATUS 1 || s.tb.unlocked

end Sys2Proof.Machine
end

