-- ==== Sys2Proof/Machine/Events.lean ====
section
/-!
DEFINITION. The event unit (R303-R314, R326-R331) and the timebase (R315-R323, R329, R332, R333): offers, claims and completions, the
quiet-deadlock detector, how the timebase moves, per-core timers and rate generators.
-/
namespace Sys2Proof.Machine

/-! ### Claims and completions (R308, R309) -/

/-- The claim of R308: PEND is cleared and the source is in service on core c. -/
def claimSource (c k : Nat) (s : State) : State :=
  let p := effPri s k
  { s with eiu := { s.eiu with pend := set256 k false s.eiu.pend, insvc := SMap.insert k ⟨c, p⟩ s.eiu.insvc } }

/-- A completion by core c (R309); a level source still asserted becomes pending again (R304). -/
def completeSource (c k : Nat) (s : State) : State :=
  match SMap.find k s.eiu.insvc with
  | none => s
  | some e =>
    if e.core = c then
      let s := { s with eiu := { s.eiu with insvc := SMap.erase k s.eiu.insvc } }
      breakQuiet (if levelOn s k then { s with eiu := { s.eiu with pend := set256 k true s.eiu.pend } } else s)
    else s

/-- The highest-priority source in service on core c, as `cs.EV_CLAIM` reads (R309). -/
def claimView (s : State) (c : Nat) : Word :=
  match (s.eiu.insvc.filter (fun e => e.2.core == c)).foldl
      (fun (b : Option (Nat × InSvc)) e => match b with | none => some e | some x => if x.2.pri < e.2.pri then some e else some x) none with
  | none => 0
  | some (k, e) => nw (2 ^ 39 + e.pri * 2 ^ 8 + k)

/-- Assert a source as its owner does; a source newly pending can change the detector's terms (R313). -/
def raise (k : Nat) (s : State) : State :=
  let s' := assertSource k s
  if s.pendOf k then s' else breakQuiet s'

/-! ### The quiet-deadlock detector (R313, R314) -/

/-- The detector fires (R314). -/
def quietDetect (s : State) : State :=
  let m := s.fld Reg.EIU_QUIET_MASK 7 0
  let c := s.fld Reg.EIU_QUIET_CTL 3 1
  let s := s.setFld Reg.EIU_QUIET_STAT 1 0 3
  let s := updAsync c (fun a => { a with quiet := some m }) s
  dropQuiet (logErr .eiu 0x03 c 0 (nw m) s)

/-- A sampling edge of the detector (R314); edges on one tick count once. -/
def quietSample (s : State) : State :=
  if !s.bit Reg.EIU_QUIET_CTL 0 || s.fld Reg.EIU_QUIET_MASK 7 0 == 0 || s.bit Reg.EIU_QUIET_STAT 0 then dropQuiet s
  else if tbRunning s && s.eiu.quietTick = some s.now then s
  else
    let c := quietCond s
    let s := { s with eiu := { s.eiu with quietTick := some s.now } }
    if c && s.eiu.quietHeld then quietDetect s
    else { s.setBit Reg.EIU_QUIET_STAT 1 c with eiu := { s.eiu with quietHeld := c } }

/-! ### How the timebase moves (R315-R319) -/

/-- Ticks after which TB_NOW has advanced by at least `u` units, from a state whose slew count is r modulo INTERVAL. -/
def ticksFor (mode int r u : Nat) : Nat :=
  if u = 0 then 0
  else if mode = 1 then
    let v := u + r
    (v / (int + 1)) * int + min (v % (int + 1)) int - r
  else if mode = 2 then
    let v := u + r
    let q := (v - 1) / (int - 1)
    q * int + (v - q * (int - 1)) - r
  else u

/-- Units by which TB_NOW advances in k ticks. -/
def unitsIn (mode int r k : Nat) : Nat :=
  if mode = 1 then k + (r + k) / int else if mode = 2 then k - (r + k) / int else k

def slewMode (s : State) : Nat := s.fld Reg.TB_SLEW 25 24
def slewInt (s : State) : Nat := s.fld Reg.TB_SLEW 23 0
def slewPos (s : State) : Nat := s.tb.slewCnt % slewInt s

/-- TB_NOW and the femtosecond accumulator take u units (R319). -/
def addUnits (u : Nat) (s : State) : State :=
  { s with tb := { s.tb with now := s.tb.now + BitVec.ofNat 80 u, acc := s.tb.acc + u * s.fld Reg.TB_TICK_FS 23 0 } }

/-- `fs` femtoseconds pass for what XB clocks (R37, R53). -/
def xbRun (fs : Nat) (s : State) : State := if s.tb.xbLost then s else { s with tb := { s.tb with xbFs := s.tb.xbFs + fs } }

/-- k ticks pass. -/
def advance (k : Nat) (s : State) : State :=
  let u := unitsIn (slewMode s) (slewInt s) (slewPos s) k
  let s := xbRun (k * s.fld Reg.TB_TICK_FS 23 0) (addUnits u s)
  { s with tb := { s.tb with slewCnt := s.tb.slewCnt + k } }

/-- Ticks pass until TB_NOW is at least t; none when it already is. -/
def advanceTo (t : Nat) (s : State) : State := advance (ticksFor (slewMode s) (slewInt s) (slewPos s) (t - s.now)) s

/-- Time passes until XB has run for `x` fs since reset (R36, R37): by ticks while the timebase runs, and by XB alone while it stands. -/
def xbUntil (x : Nat) (s : State) : State :=
  let fs := max 1 (s.fld Reg.TB_TICK_FS 23 0)
  if tbRunning s then advance ((x - s.tb.xbFs + fs - 1) / fs) s else xbRun (x - s.tb.xbFs) s

/-- One tick, as the block idles. -/
def idleTick (s : State) : State := if tbRunning s then advance 1 s else s

/-- A self-timed interval of 1 µs lies within ±50 % of its length (R51); its length is a free value. -/
def selfTimed (s : State) : State := xbRun (500000000 + freeNat s % 1000000001) (takeFresh s)

/-- Ticks pass until the accumulator reaches 10^9, and 10^9 is subtracted; a self-timed edge moves no tick (R319, R333). -/
def pulseTime (s : State) : State :=
  if tbRunning s then
    let fs := s.fld Reg.TB_TICK_FS 23 0
    let u := (1000000000 - s.tb.acc + fs - 1) / fs
    let s := if s.tb.acc < 1000000000 then advance (ticksFor (slewMode s) (slewInt s) (slewPos s) u) s else s
    { s with tb := { s.tb with acc := s.tb.acc - 1000000000 } }
  else selfTimed s

/-- TB_PULSE can give an edge: a running timebase with a tick length other than zero, or the self-timed reference. -/
def pulseDue (s : State) : Bool := !tbRunning s || decide (1000000000 ≤ s.tb.acc) || s.fld Reg.TB_TICK_FS 23 0 != 0

/-! ### Per-core timers (R320, R329) -/

def tmrCmp (s : State) (c : Nat) : Nat := (s.reg (Reg.CS_TMR_CMP_HI c)).toNat * 2 ^ 40 + (s.reg (Reg.CS_TMR_CMP_LO c)).toNat

def setTmrCmp (c v : Nat) (s : State) : State :=
  (s.setReg (Reg.CS_TMR_CMP_LO c) (nw v)).setReg (Reg.CS_TMR_CMP_HI c) (nw (v / 2 ^ 40))

/-- The timer of core c fires at the present tick. -/
def fireTimer (c : Nat) (s : State) : State :=
  let p := s.fld (Reg.CS_TMR_CTL c) 31 8
  let s := raise (160 + 4 * c) (s.setBit (Reg.CS_TMR_CTL c) 2 true)
  if s.bit (Reg.CS_TMR_CTL c) 1 && p != 0 then
    let n := (s.now - tmrCmp s c) / p + 1
    let s := setTmrCmp c (tmrCmp s c + n * p) s
    if 1 < n then s.setBit (Reg.CS_TMR_CTL c) 3 true else s
  else breakQuietOf c (s.setBit (Reg.CS_TMR_CTL c) 0 false)

def timerArmed (s : State) (c : Nat) : Bool := s.bit (Reg.CS_TMR_CTL c) 0

/-- The tick at which the timer of core c fires: its compare, or the tick after a write of one already passed (R329). -/
def fireTick (s : State) (c : Nat) : Nat := max (tmrCmp s c) (SMap.getD 0 c s.tb.tmrFrom)

/-- TIMER_FIRE (R320): ticks pass until the compare is reached, and the timer fires. -/
def execTimerFire (c : Fin 8) (s : State) : Out :=
  ok (if timerArmed s c && tbRunning s then fireTimer c (advanceTo (fireTick s c) s) else s)

/-- The timers a step skipped fire, once each (R332). -/
def fireSkipped (s : State) : State :=
  (List.range 8).foldl (fun s c => if timerArmed s c && decide (tmrCmp s c ≤ s.now) then fireTimer c s else s) s

/-! ### Rate generators (R321-R323) -/

def State.rgen (s : State) (g : Nat) : RGen := SMap.getD RGen.reset g s.tb.rgen
def State.setRgen (g : Nat) (v : RGen) (s : State) : State := { s with tb := { s.tb with rgen := SMap.put RGen.reset g v s.tb.rgen } }

/-- The tick of the next boundary. -/
def nextBoundary (r : RGen) : Nat := r.start + r.k * r.num / r.den

/-- A boundary is marked at tick t: COUNT, EDGE, and a new S when the rate was rewritten or the generator starts (R321, R322). -/
def markBoundary (g t : Nat) (s : State) : State :=
  let r := s.rgen g
  let s := (s.inc (Reg.TB_RGEN_COUNT g)).setReg (Reg.TB_RGEN_EDGE g) (nw t)
  if r.newRate then s.setRgen g ⟨true, t, 1, s.fld (Reg.TB_RGEN_NUM g) 31 0, s.fld (Reg.TB_RGEN_DEN g) 19 0, false⟩
  else s.setRgen g { r with start := if r.k = 0 then t else r.start, k := r.k + 1 }

/-- Boundaries at or before TB_NOW not yet marked, after the next one, in one count (R322). -/
def markSkipped (g : Nat) (s : State) : State :=
  let r := s.rgen g
  if r.running && decide (nextBoundary r ≤ s.now) then
    let s := markBoundary g s.now s
    let r := s.rgen g
    let last := ((s.now - r.start + 1) * r.den - 1) / r.num
    if r.k ≤ last then
      (s.addTo (Reg.TB_RGEN_COUNT g) (last + 1 - r.k)).setRgen g { r with k := last + 1 }
    else s
  else s

def markAllSkipped (s : State) : State := (List.range 8).foldl (fun s g => markSkipped g s) s

/-- The boundaries a step to `t` would skip on generator g. -/
def skippedCount (r : RGen) (t : Nat) : Nat :=
  if r.running && decide (nextBoundary r ≤ t) then ((t - r.start + 1) * r.den - 1) / r.num + 1 - r.k else 0

/-- A write of a generator's CTL (R321, R323): EN from 0 to 1 chooses S, EN = 0 stops it. -/
def rgenCtlWrite (ep g : Nat) (v : Word) (s : State) : State :=
  let was := s.bit (Reg.TB_RGEN_CTL g) 0
  let s := writeReg ep (Reg.TB_RGEN_CTL g) v s
  let r := s.rgen g
  if !bget v 0 then s.setRgen g { r with running := false }
  else if was then s
  else
    let t := s.now + 1
    let a := s.fld (Reg.TB_RGEN_CTL g) 39 8
    let st := if s.bit (Reg.TB_RGEN_CTL g) 1 then t + (a + 2 ^ 32 - t % 2 ^ 32) % 2 ^ 32 else t
    s.setRgen g ⟨true, st, 0, s.fld (Reg.TB_RGEN_NUM g) 31 0, s.fld (Reg.TB_RGEN_DEN g) 19 0, false⟩

/-- A write of NUM or DEN (R322): checked against the other; in force from the next boundary. -/
def rgenRateWrite (ep g : Nat) (den : Bool) (v : Word) (s : State) : State :=
  let x := if den then fget v 19 0 else fget v 31 0
  let bad := x == 0 || (if den then decide (s.fld (Reg.TB_RGEN_NUM g) 31 0 < x) else decide (x < s.fld (Reg.TB_RGEN_DEN g) 19 0))
  let a := if den then Reg.TB_RGEN_DEN g else Reg.TB_RGEN_NUM g
  if bad then captureRsvd ep a v s
  else
    let s := s.setReg a (nw x)
    let r := s.rgen g
    if r.running then s.setRgen g { r with newRate := true } else s

/-! ### Steps and slews -/

/-! ### The lattice of a paced core (R208, R317) -/

def pacePeriod (s : State) (c : Nat) : Nat := s.fld (Reg.CS_PACE_PERIOD c) 7 0

/-- The first lattice point at or after tick t. -/
def latticeAt (s : State) (c t : Nat) : Nat :=
  let g := (s.core c).grid
  let p := pacePeriod s c
  if t ≤ g then g else g + (t - g + p - 1) / p * p

/-- A grid point that a step skipped is reached without lag: the instruction's is the first lattice point at or after the present tick (R317). -/
def stepGrid (c : Nat) (s : State) : State :=
  let n := latticeAt s c s.now
  s.updCore c (fun k =>
    match k.due with
    | some (r, i) => if r < s.now then { k with due := some (n, i), grid := n - pacePeriod s c } else k
    | none => if k.grid + pacePeriod s c < s.now then { k with grid := n - pacePeriod s c } else k)

def stepGrids (s : State) : State := (List.range 8).foldl (fun s c => if isPaced s c then stepGrid c s else s) s

/-- A write of TB_STEP_LO (R316, R317, R332, R333): the step, and everything but audio frames that it skips. -/
def tbStep (v : Word) (s : State) : State :=
  let s := s.setReg Reg.TB_STEP_LO v
  if xaLost s then s
  else
    let s := addUnits ((s.reg Reg.TB_STEP_HI).toNat * 2 ^ 40 + v.toNat) s
    stepGrids (markAllSkipped (fireSkipped (s.setBit Reg.TB_STATUS 2 true)))

/-- A write of TB_SLEW restarts the slew count, whatever it changes (R316). -/
def tbSlewWrite (ep : Nat) (v : Word) (s : State) : State :=
  let s := writeReg ep Reg.TB_SLEW v s
  { s with tb := { s.tb with slewCnt := 0 } }

/-- SLEW_TICK (R316): ticks pass up to and with the next slew tick. -/
def execSlewTick (s : State) : Out :=
  ok (if tbRunning s && (slewMode s == 1 || slewMode s == 2) then advance (slewInt s - slewPos s) s else s)

/-- A fabric read of TB_NOW_LO latches TB_NOW_HI for the reader (R318). -/
def tbNowLoRead (ep : Nat) (s : State) : Word × State :=
  (s.nowLo, { s with tb := { s.tb with hiShadow := SMap.put 0 ep s.nowHi s.tb.hiShadow } })

def tbNowHiView (s : State) (ep : Nat) : Word := SMap.getD 0 ep s.tb.hiShadow

/-! ### Writes to the pages of the event unit -/

/-- A write to an EIU register: a source's word written again is good (R334); MASK, CTL and STAT of the detector break its interval (R331). -/
def eiuWrite (ep a : Nat) (v : Word) (s : State) : State :=
  if a = Reg.EIU_SWEV_TRIG then raise (192 + fget v 5 0) s
  else
    let t := if Reg.EIU_SRC_CFG 0 ≤ a && decide (a < Reg.EIU_SRC_CFG 256) then heal (.eiu (a - Reg.EIU_SRC_CFG 0)) s else s
    let s' := writeReg ep a v t
    if s'.reg a = s.reg a then s'
    else if a = Reg.EIU_QUIET_MASK || a = Reg.EIU_QUIET_CTL || a = Reg.EIU_QUIET_STAT then dropQuiet s'
    else breakQuiet s'

/-- The numbers that a chapter assigns (R303, R470, R540, R580, R595, R666, R688). -/
def sourceAssigned (k : Nat) : Bool :=
  decide (k < 90) || (decide (96 ≤ k) && decide (k < 106)) || (decide (112 ≤ k) && decide (k < 115)) || k == 128 ||
  (decide (136 ≤ k) && decide (k < 147)) || (decide (160 ≤ k) && decide (k < 192) && k % 8 != 6) || (decide (192 ≤ k) && decide (k < 256))

/-- SOURCE_ASSERT (R304): a number that no chapter assigns is never raised (R303). -/
def execSourceAssert (k : Fin 256) (s : State) : Out := ok (if sourceAssigned k then raise k s else s)

end Sys2Proof.Machine
end

