-- ==== Sys2Proof/Machine/Except.lean ====
section
/-!
DEFINITION. Exceptions of a core: target level (R93, R99), entry (R94), double fault (R120), return (R101), the lattice of a paced core (R207, R211),
event counters (R194) and the core-private structures that an entry empties (R176, R183).
-/
namespace Sys2Proof.Machine

/-- A cause as it arises: its code, nominal level, whether routable (R96), EPC, DETAIL, FADDR, and the IPA of a STAGE2_FAULT. -/
structure Exc where
  code : Nat
  nominal : Nat
  routable : Bool
  epc : Word
  detail : Nat
  faddr : Word
  ipa : Option Nat
deriving DecidableEq, Repr

/-! ### The lattice of a paced core (R207, R208, R211) -/

/-- G0: the next tick, or the next tick whose low 32 bits equal ANCHOR (R207). -/
def gridZero (s : State) (c : Nat) : Nat :=
  let t := s.now + 1
  if s.bit (Reg.CS_PACE_CTL c) 3 then t + (s.fld (Reg.CS_PACE_PERIOD c) 39 8 + 2 ^ 32 - t % 2 ^ 32) % 2 ^ 32 else t

/-- A paced core resumes at tick `now`: later grid points count from the lattice point there (R211). -/
def regrid (c : Nat) (s : State) : State :=
  if isPaced s c then s.updCore c (fun k => { k with grid := latticeAt s c s.now }) else s

/-! ### Target level (R93, R99) -/

def routeBit (s : State) (a code : Nat) : Bool := s.bit a code

/-- The level R93 gives before holds. -/
def targetLevel (s : State) (c : Nat) (e : Exc) : Nat :=
  max (max e.nominal (s.pl c))
    (max (if e.routable && routeBit s (Reg.CS_P_ROUTE c) e.code then 2 else 1) (if e.routable && routeBit s (Reg.CS_M_ROUTE c) e.code then 3 else 1))

/-- The first level from L up whose HOLD is 0; 4 when there is none (R99). -/
def freeLevel (s : State) (c L : Nat) : Nat :=
  if L ≤ 1 && !s.hold c 1 then 1 else if L ≤ 2 && !s.hold c 2 then 2 else if L ≤ 3 && !s.hold c 3 then 3 else 4

/-! ### The exception set of a level (R92) -/

def vecReg (c L : Nat) : Nat := if L = 1 then Reg.CS_K_VEC c else if L = 2 then Reg.CS_P_VEC c else Reg.CS_M_VEC c
def epcReg (c L : Nat) : Nat := vecReg c L + 1
def estReg (c L : Nat) : Nat := vecReg c L + 2
def causeReg (c L : Nat) : Nat := vecReg c L + 3
def faddrReg (c L : Nat) : Nat := vecReg c L + 4

/-- The word EST takes (R94): flags, IE and level. -/
def estWord (s : State) (c : Nat) : Word := nw (s.flags c * 8 + b2n (s.ie c) * 4 + s.pl c)

def causeWord (e : Exc) (async nested : Bool) (from_ : Nat) : Word :=
  nw (e.detail * 2 ^ 16 + from_ * 2 ^ 8 + b2n nested * 2 ^ 7 + b2n async * 2 ^ 6 + e.code)

/-- `cs.STATUS` at entry to level L: PL := L, IE := 0, HOLD of L := 1. -/
def enterStatus (st : Word) (L : Nat) : Word := bset (bset (fset st 1 0 L) 2 false) (L + 2) true

/-- Exception entry squashes every speculative instruction (R183) and empties the return stack (R176). DESIGN CHOICE (log row 96): what it discards
is counted at the level that is interrupted. -/
def squashPrivate (c : Nat) (s : State) : State := (squashAll c s).updCore c (fun k => { k with ras := [], resv := none })

/-- Flow continues at an address that no run past the last parcel led to (R80). -/
def setPc (c : Nat) (v : Word) (s : State) : State := s.updCore c (fun k => { k with pc := v, pastTop := false })

/-- A register found wrong stops the core before what reads it has any effect (R121). -/
def parityStop (c n : Nat) (s : State) : State :=
  let s := setRun c .faultStop (s.updCore c (fun k => { k with due := none, skipBreak := false }))
  raise (163 + 4 * c) (logErr (.core c) 0x11 c 0 (nw n) (heal (.coreReg c n) s))

/-- The number of R121 of the vector base an entry at level L reads. -/
def vecNum (L : Nat) : Nat := if L = 1 then 0x09 else if L = 2 then 0x18 else 0x28

/-- Exception entry at level L as one event (R94). -/
def enterLevel (c L : Nat) (e : Exc) (async nested : Bool) (s : State) : State :=
  let s := squashPrivate c s
  let s' := ((s.setReg (epcReg c L) e.epc).setReg (estReg c L) (estWord s c)).setReg (causeReg c L) (causeWord e async nested (s.pl c))
  let s' := s'.setReg (faddrReg c L) e.faddr
  let s' := match e.ipa with | some i => s'.setReg (Reg.CS_P_IPA c) (nw i) | none => s'
  let s' := s'.setReg (Reg.CS_STATUS c) (enterStatus (s.reg (Reg.CS_STATUS c)) L)
  setPc c (s.reg (vecReg c L) + (if async then 0x20 else 0)) s'

/-- The core stops by a double fault (R120). -/
def doubleFault (c : Nat) (e : Exc) (s : State) : State :=
  let pc := (s.core c).pc
  let s := (setRun c .doubleFault s).setFld (Reg.CS_DBG_CTL c) 10 8 4
  raise (163 + 4 * c) (logErr (.core c) 0x10 c pc (nw e.code) s)

/-- A synchronous cause is taken (R93-R95, R99, R120). -/
def takeSync (c : Nat) (e : Exc) (s : State) : State :=
  let L := targetLevel s c e
  let L' := freeLevel s c L
  if L' = 4 then doubleFault c e s
  else if struck s (.coreReg c (vecNum L')) then parityStop c (vecNum L') s
  else enterLevel c L' e false (decide (L < L')) s

/-! ### Asynchronous causes (R100, R114) -/

/-- Takeable at the present boundary: HOLD of L is 0, and L is above the level or equals it with IE = 1. -/
def takeable (s : State) (c L : Nat) : Bool := decide (L ≤ 3) && !s.hold c L && (decide (s.pl c < L) || (s.pl c == L && s.ie c))

def asyncExc (code nominal : Nat) (routable : Bool) (pc : Word) (detail : Nat) (faddr : Word) : Exc := ⟨code, nominal, routable, pc, detail, faddr, none⟩

/-- BUS_ERROR of a retired store, with the oldest failure's address and status (R97, R115). -/
def busExc (pc : Word) (x : StErr) (code : Nat) : Exc := asyncExc 0x0A 1 true pc code x.va

/-- The pending causes of core c in the order of R114, each with its target level and how its pending mark is cleared. -/
def asyncList (s : State) (c : Nat) (code : FStatus → Nat) : List (Exc × Nat × (State → State)) :=
  let a := (s.core c).async
  let pc := (s.core c).pc
  let add := fun (e : Exc) (clr : State → State) => [(e, targetLevel s c e, clr)]
  (match a.pairSelf with | some n => add (asyncExc 0x0F 3 false pc n 0) (updAsync c (fun a => { a with pairSelf := none })) | none => []) ++
  (match a.pairMismatch with | some n => add (asyncExc 0x0E 3 false pc n 0) (updAsync c (fun a => { a with pairMismatch := none })) | none => []) ++
  (match a.quiet with | some m => add (asyncExc 0x10 3 false pc m 0) (updAsync c (fun a => { a with quiet := none })) | none => []) ++
  (match a.busErr with | some x => add (busExc pc x (code x.st)) (updAsync c (fun a => { a with busErr := none })) | none => []) ++
  (if a.paceLag then add (asyncExc 0x0C 1 true pc (min a.missed 255) 0) (updAsync c (fun a => { a with paceLag := false, missed := 0 })) else []) ++
  (match offer s c with
    | some k => [(asyncExc 0x14 0 false pc (effPri s k * 2 ^ 8 + k) 0, max (srcLevel s k) (s.pl c), claimSource c k)]
    | none => [])

/-- The instruction in progress has an effect outside its core: it has sent an access, or set an accessed or dirty bit for one. -/
def ioStarted (k : Core) : Bool := k.io.any (fun w => decide (w.use ≠ .leaf) || w.pa != 0)

/-- The cause that would be taken at the present boundary (R114). An instruction that has an access outside the core in progress has started, and no
boundary is reached before it ends (R95). -/
def asyncNow (s : State) (c : Nat) (code : FStatus → Nat) : Option (Exc × Nat × (State → State)) :=
  if !ioStarted (s.core c) then (asyncList s c code).find? (fun x => takeable s c x.2.1) else none

/-- An asynchronous cause is taken: the claim or clearing, and the entry, as one event. -/
def takeAsync (c : Nat) (x : Exc × Nat × (State → State)) (s : State) : State :=
  if struck s (.coreReg c (vecNum x.2.1)) then parityStop c (vecNum x.2.1) s
  else enterLevel c x.2.1 x.1 true false (x.2.2 s)

/-! ### Return (R101) -/

/-- ERET at level L as one event. -/
def eretEffect (c : Nat) (s : State) : State :=
  let L := s.pl c
  let est := s.reg (estReg c L)
  let st := bset (bset (fset (s.reg (Reg.CS_STATUS c)) 1 0 (fget est 1 0)) 2 (bget est 2)) (L + 2) false
  let s' := (s.setReg (Reg.CS_STATUS c) st).setFlags c (fget est 7 3)
  (setPc c (s.reg (epcReg c L)) s').updCore c (fun k => { k with resv := none, ras := [] })

end Sys2Proof.Machine
end

