-- ==== Sys2Proof/Machine/NetIf.lean ====
section
/-!
DEFINITION. Network interfaces and routers for I/O packets: address decode (R349, R75, R78), tags and holds (R351, R356), power domains at the
destination router with wake buffers (R357-R360), and the delivery of responses (R351, R353). What a target does with a request is the argument
`srv` (`Machine/Bus.lean`).
-/
set_option linter.constructorNameAsVariable false

namespace Sys2Proof.Machine

/-- What a target does with a request that reaches it: its response, when it gives one. -/
abbrev Server := Pkt → State → Option (FStatus × Line) × State

/-! ### Address decode (R349) -/

/-- The endpoint that owns the register page at `pa`; 32 for the configuration chain of R350. -/
def pageOwner (pa : Nat) : Nat :=
  let k := (pa - 0x200000) / 0x1000
  if k ≤ 1 then 30
  else if k ≤ 7 then 28
  else if k < 0x10 then k - 8
  else if k < 0x14 then 8 + 2 * (k - 0x10)
  else if k = 0x18 then 16
  else if k = 0x19 then 22
  else if k = 0x20 || k = 0x21 then 32
  else if k = 0x28 then 20
  else if k = 0x29 then 21
  else if k = 0x2a then 20
  else if k = 0x30 || (decide (0x40 ≤ k) && decide (k < 0x50)) then 18
  else if decide (0x60 ≤ k) && decide (k < 0x68) then 24
  else if k = 0x68 || k = 0x69 then 26
  else if k = 0x70 || k = 0x71 then 28
  else 30

/-- The Cuff port that `CNS_PEER_m` names for member m (R424). -/
def cuffPortFor (s : State) (m : Nat) : Nat := 20 + s.fld (Reg.CNS_PEER m) 0 0

/-- The destination of a request; `none` is DECODE. -/
def destOf (s : State) (pa : Nat) : Option Nat :=
  match regionAt s pa with
  | none => none
  | some .rom | some .stage | some .dram => some (8 + 2 * homeOf s (pa / 16))
  | some .keep => some 28
  | some (.close n) => some n
  | some .regs => some (pageOwner pa)
  | some (.peer k) => some (cuffPortFor s ((otherMembers s).getD k 0))

/-- The first word of `n` words from `pa` that leaves the responding part of `pa` (R78), if any. -/
def leavesPart (s : State) (pa n : Nat) : Option Nat :=
  match regionAt s pa with
  | none => some pa
  | some r => ((List.range n).map (fun i => pa + i)).find? (fun a => decide (2 ^ 34 ≤ a) || decide (regionAt s a ≠ some r))

/-! ### Power domains (R357, R650) -/

/-- The domain of the block that a packet for endpoint `dst` and address `pa` reaches; `none` for the always-on neighborhood. -/
def domainOf (dst pa : Nat) : Option Nat :=
  if dst < 8 then some dst
  else if dst = 16 then some 12
  else if dst = 22 then some 13
  else if dst < 16 then some (8 + (dst - 8) / 2)
  else if dst = 18 then some 14
  else if dst = 20 || dst = 21 then some 15
  else if dst = 24 then some (if pa / 0x1000 = 0x260 then 16 else 17)
  else if dst = 26 then some 18
  else if dst = 30 then some 19
  else none

def wakeHeld (s : State) (r : Nat) : Nat := (s.fab.wake.filter (fun p => p.dst / 2 == r)).length

/-! ### Responses -/

/-- A response leaves its responder: discarded where the responder's entry for the requester is invalid (R366). -/
def respond (req : Pkt) (st : FStatus) (data : Line) (s : State) : State :=
  let d := if st = .ok || st = .poison then data else []
  let p : Pkt := { req with cls := 1, code := if req.code = 0 then 0 else 1, src := req.dst, dst := req.src, status := st, len := d.length, data := d,
                            masked := false, mask := 0, ext := PktExt.zero, atop := .cas, pl := 0, part := 0 }
  if routeValid s p.src p.dst then
    match crossFabric p s with
    | (none, s) => s
    | (some p, s) => if malformed s p then fabViol p s else { s with fab := { s.fab with inflight := s.fab.inflight ++ [p] } }
  else s.inc Reg.FAB_STALE_CNT

def serveNow (srv : Server) (p : Pkt) (s : State) : State :=
  match srv p s with
  | (some (st, d), s) => respond p st d s
  | (none, s) => s

/-! ### Arrival at the destination router (R358-R360) -/

/-- The input channels of a packet's path, first to last. -/
def pathChans (s : State) (p : Pkt) : List Nat := (pathOf s p.src p.dst).map (fun c => c.1 * 16 + c.2.1 * 2 + c.2.2)

/-- A waiting packet of the list stands in the channel. -/
def standsIn (l : List Blocked) (ch : Nat) : Bool := l.any (fun b => b.spots.any (fun x => x.1 == ch))

/-- Flits fill the 4-flit buffers of channels from the head's back; the injection queue keeps the rest (R363). -/
def placeFlits (s : State) : List Nat → Nat → List (Nat × Nat)
  | [], _ => []
  | [q], n => if n = 0 then [] else [(q, n)]
  | c :: t, n => if n = 0 then [] else let k := min n (4 - flitsIn s c); if k = 0 then placeFlits s t n else (c, k) :: placeFlits s t (n - k)

/-- A packet waits with its head as far along `chs` as it has come; its head found no credit at router r. -/
def waitIn (r : Nat) (chs : List Nat) (arrived : Bool) (p : Pkt) (s : State) : State :=
  let s := s.inc (Reg.FAB_RTR_HOLDS r)
  { s with fab := { s.fab with blocked := s.fab.blocked ++ [⟨placeFlits s (chs.reverse ++ [injection p.src]) p.flits, p, arrived⟩] } }

/-- Flits in the ejection queue of an endpoint: requests that its block holds (R41, R363). -/
def ejected (s : State) (ep : Nat) : Nat := (s.ports.held.filter (fun p => p.dst == ep)).foldl (fun n p => n + p.flits) 0

/-- The endpoint accepts no packet: its router's wake buffer of 4, or its ejection queue of 16 flits, is full (R360, R363). -/
def notAccepting (s : State) (p : Pkt) : Bool :=
  decide (16 ≤ ejected s p.dst) ||
  (match domainOf p.dst p.addr with | some d => decide (domState s d = 2) && decide (4 ≤ wakeHeld s (p.dst / 2)) | none => false)

/-- A REQ packet's endpoint takes it: into the wake buffer of a shut domain, or to its block. -/
def takeIn (srv : Server) (p : Pkt) (s : State) : State :=
  match domainOf p.dst p.addr with
  | none => serveNow srv p s
  | some d =>
    if domState s d = 2 then requestWake d false { s with fab := { s.fab with wake := s.fab.wake ++ [p] } }
    else
      let s := if domState s d = 1 then abortClose d s else s
      if domShed s d then respond p .domainOff [] s else serveNow srv p s

/-- The head of a REQ packet reaches its destination router. -/
def atRouter (srv : Server) (p : Pkt) (s : State) : State :=
  if notAccepting s p then waitIn (p.dst / 2) (pathChans s p) true p s else takeIn srv p s

/-- A REQ packet enters the fabric; it waits behind a packet that waits in a channel of its path (R360). A malformed one is answered PROT (R371). -/
def travel (srv : Server) (p : Pkt) (s : State) : State :=
  let chs := pathChans s p
  match chs.findIdx? (standsIn s.fab.blocked) with
  | some j => waitIn (chs.getD j 0 / 16) (chs.take (if flitsIn s (chs.getD j 0) < 4 then j + 1 else j)) false p s
  | none =>
    match crossFabric p s with
    | (none, s) => s
    | (some p, s) => if malformed s p then respond p .prot [] (fabViol p s) else atRouter srv p s

/-- The waiting packets that can move: the head has reached a router whose endpoint accepts it, or no packet that came before it stands in its
path. -/
def movers (s : State) : List Blocked → List Blocked → List Blocked
  | _, [] => []
  | before, b :: t =>
    let go := if b.arrived then !notAccepting s b.pkt else (pathChans s b.pkt).all (fun ch => !standsIn before ch)
    if go then b :: movers s (before ++ [b]) t else movers s (before ++ [b]) t

def headOf (b : Blocked) : Nat := match b.spots with | x :: _ => x.1 | [] => injection b.pkt.src

/-- Where channel ch stands in the round robin of a router that served `last` last. -/
def rrRank (last ch : Nat) : Nat := (ch % 16 + 15 - last % 16) % 16

/-- Of the waiting packets that can move at the router of the first of them, the one whose input channel follows the one served last (R348). -/
def rrPick (s : State) (l : List Blocked) : Option Blocked :=
  match l with
  | [] => none
  | b :: _ =>
    let r := headOf b / 16
    let last := SMap.getD 15 r s.fab.rr
    l.foldl (fun best x => match best with
      | none => some x
      | some y => if headOf x / 16 == r && decide (rrRank last (headOf x) < rrRank last (headOf y)) then some x else some y) (some b)

/-- Waiting packets move on, one after another, as far as they can. -/
def moveOn (srv : Server) : Nat → State → State
  | 0, s => s
  | f + 1, s =>
    match rrPick s (movers s [] s.fab.blocked) with
    | none => s
    | some b =>
      let s := { s with fab := { s.fab with blocked := s.fab.blocked.erase b, rr := SMap.put 15 (headOf b / 16) (headOf b % 16) s.fab.rr } }
      moveOn srv f (if b.arrived then takeIn srv b.pkt s else travel srv b.pkt s)

def unblock (srv : Server) (s : State) : State := if s.fab.blocked.isEmpty then s else moveOn srv (2 * s.fab.blocked.length + 1) s

/-- The packets buffered for domain d leave the wake buffers. -/
def takeWake (d : Nat) (s : State) : List Pkt × State :=
  let mine := s.fab.wake.filter (fun p => domainOf p.dst p.addr == some d)
  (mine, { s with fab := { s.fab with wake := s.fab.wake.filter (fun p => domainOf p.dst p.addr != some d), waking := SMap.erase d s.fab.waking } })

/-- Domain d has become OPEN: its buffered packets are delivered in arrival order (R359). -/
def deliverWake (srv : Server) (d : Nat) (s : State) : State :=
  let q := takeWake d s
  unblock srv (q.1.foldl (fun s p => atRouter srv p s) q.2)

/-- The wake of domain d failed: every packet held for it is answered DOMAIN_OFF (R359). -/
def failWake (srv : Server) (d : Nat) (s : State) : State :=
  let sw := match SMap.find d s.fab.waking with | some w => w.sw | none => false
  let q := takeWake d s
  let ep := match q.1 with | p :: _ => p.dst | [] => if d < 8 then d else if d = 12 then 16 else if d = 13 then 22 else if d = 14 then 18 else if d = 15 then 20
    else if d = 18 then 26 else 24
  let s := logErr (.ni ep) 0x21 ep 0 0 (q.2.inc Reg.FAB_WAKE_FAIL_CNT)
  let s := (s.setReg Reg.FAB_ERR_INFO (nw (ep * 2 ^ 6 + 2))).setReg Reg.FAB_ERR_ADDR (match q.1 with | p :: _ => nw p.addr | [] => 0)
  let s := q.1.foldl (fun s p => respond p .domainOff [] s) s
  unblock srv (if sw then domResult d 4 s else s)

/-! ### The initiator's interface -/

/-- A request leaves interface `p.src` with a tag, or is held there (R41, R351, R356). -/
def leave (srv : Server) (p : Pkt) (s : State) : State :=
  match (if mustHold s p.src p.dst then none else allocTag p.src p.dst p.addr false false s) with
  | none => hold p.src (.io p) s
  | some (t, g, s) => travel srv { p with tag := t, gen := g } s

def relaunch (srv : Server) (h : Held) (s : State) : State :=
  match h with
  | .io p => leave srv p s
  | .coh m => if m.cls = 2 then sendMsg m s else launch m s

/-- Requests held at interface k leave in order as far as tags and orphans allow (R356). -/
def releaseHeld (srv : Server) (k : Nat) (s : State) : State :=
  (s.ni k).held.foldl (fun s h => relaunch srv h s) (s.setNi k { s.ni k with held := [] })

/-- A completion reaches the initiator. -/
def complete (ep : Nat) (st : FStatus) (data : Line) (s : State) : State := { s with resp := ⟨ep, st, data⟩ }

/-- An I/O request of `n` words at its initiator's interface: DECODE there (R75, R78, R366), the configuration chain (R350), a core's own window
(R74), or the fabric. -/
def ioRequest (srv : Server) (p : Pkt) (n : Nat) (s : State) : State :=
  match leavesPart s p.addr n with
  | some a => complete p.src .decode [] (logDecode p.src a s)
  | none =>
    match destOf s p.addr with
    | none => complete p.src .decode [] (logDecode p.src p.addr s)
    | some d =>
      let d := if (decide (8 ≤ p.src) && decide (p.src < 16)) && decide (dramBase ≤ p.addr) then (if (dramRoute s p.addr).1 = 0 then 16 else 22) else d
      if d = 32 || (d = p.src && d < 8 && decide (p.addr < 0x80000)) then
        match srv { p with dst := d } s with
        | (some (st, x), s) => complete p.src st x s
        | (none, s) => s
      else if !routeValid s p.src d then complete p.src .decode [] (logDecode p.src p.addr s)
      else leave srv { p with dst := d } s

/-- A request packet of an initiator (R338); other agents than cores carry PL 11b and PART 0. -/
def mkReq (i : Initiator) (code addr len : Nat) (atop : AtOp) (masked : Bool) (mask : Nat) (data : Line) : Pkt :=
  { cls := 0, io := true, code := code, src := i.ep.val, dst := 0, tag := 0, gen := 0, status := .ok, addr := addr, len := len,
    pl := if i.ep.val < 8 then i.pl.val else 3, part := if i.ep.val < 8 then i.part.val else 0, atop := atop, mask := mask, masked := masked,
    data := data, ext := PktExt.zero }

/-- The packets of a transfer of n words from pa: split at every 4 KiW boundary, then into at most 16 words (R341). -/
def packetsOf : Nat → Nat → Nat → List (Nat × Nat)
  | 0, _, _ => []
  | f + 1, pa, n => if n = 0 then [] else let k := min n (min 16 (4096 - pa % 4096)); (pa, k) :: packetsOf f (pa + k) (n - k)

/-- Interfaces whose requests wait try them again. -/
def releaseAll (srv : Server) (s : State) : State :=
  s.fab.ni.foldl (fun s e => if e.2.held.isEmpty then s else releaseHeld srv e.1 s) s

/-- The response in flight for tag t of interface ep, with the rest. -/
def takeResp (s : State) (ep t code : Nat) : Option (Pkt × State) :=
  match s.fab.inflight.find? (fun p => p.dst == ep && p.tag == t && p.code == code) with
  | none => none
  | some p => some (p, { s with fab := { s.fab with inflight := s.fab.inflight.erase p } })

/-- A response arrives (R351, R353, R359 for a shut endpoint). -/
def takeResponse (srv : Server) (ep t code : Nat) (s : State) : State :=
  match takeResp s ep t code with
  | none => s
  | some (p, s) =>
    let shut := match domainOf ep 0 with | some d => decide (domState s d = 2) && ep != 24 | none => false
    if shut then s.inc Reg.FAB_STALE_CNT
    else
      let q := matchTag ep t p.gen s
      let s := if q.1 then complete ep p.status p.data q.2 else q.2
      releaseHeld srv ep s

end Sys2Proof.Machine
end

