-- ==== Sys2Proof/Machine/PortBase.lean ====
section
/-!
DEFINITION. The records of the ports that the stream engine serves, and the audio port's framing as its rings see it (R514-R516, R520).
-/
namespace Sys2Proof.Machine

def State.aud (s : State) (n : Nat) : AudPort := SMap.getD AudPort.reset n s.ports.aud
def State.setAud (n : Nat) (v : AudPort) (s : State) : State := { s with ports := { s.ports with aud := SMap.put AudPort.reset n v s.ports.aud } }

def State.midIn (s : State) (n : Nat) : MidIn := SMap.getD MidIn.reset n s.ports.midIn
def State.setMidIn (n : Nat) (v : MidIn) (s : State) : State :=
  { s with ports := { s.ports with midIn := SMap.put MidIn.reset n v s.ports.midIn } }

def State.midOut (s : State) (n : Nat) : MidOut := SMap.getD MidOut.reset n s.ports.midOut
def State.setMidOut (n : Nat) (v : MidOut) (s : State) : State :=
  { s with ports := { s.ports with midOut := SMap.put MidOut.reset n v s.ports.midOut } }

def State.i2c (s : State) (p : Nat) : I2c := SMap.getD I2c.reset p s.ports.i2c
def State.setI2c (p : Nat) (v : I2c) (s : State) : State := { s with ports := { s.ports with i2c := SMap.put I2c.reset p v s.ports.i2c } }

def State.emc (s : State) : Emc := s.ports.emc
def State.setEmc (v : Emc) (s : State) : State := { s with ports := { s.ports with emc := v } }

def State.hpt (s : State) : Hpt := s.ports.hpt
def State.setHpt (v : Hpt) (s : State) : State := { s with ports := { s.ports with hpt := v } }

/-- Endpoint k of the USB port: IN e is e, OUT e is 16 + e. -/
def State.usbEp (s : State) (k : Nat) : UsbEp := SMap.getD UsbEp.reset k s.usb.eps
def State.setUsbEp (k : Nat) (v : UsbEp) (s : State) : State := { s with usb := { s.usb with eps := SMap.put UsbEp.reset k v s.usb.eps } }

def State.cufP (s : State) (n : Nat) : CufPort := SMap.getD CufPort.reset n s.cuf
def State.setCuf (n : Nat) (v : CufPort) (s : State) : State := { s with cuf := SMap.put CufPort.reset n v s.cuf }

/-- MIDI, I2C, QSPI, eMMC, GPIO and the host port stand stopped: loss of XB (R53), or shed stop (R658). -/
def smallStopped (s : State) : Bool := s.tb.xbLost || s.bit (Reg.PWR_DOM 17) 11

/-- SLOTS of port n. -/
def audSlots (s : State) (n : Nat) : Nat := if s.fld (Reg.AUD_FMT n) 15 14 = 2 then s.fld (Reg.AUD_FMT n) 12 8 + 1 else 2

def audBits (c : Nat) : Nat := match c with | 0 => 16 | 1 => 24 | _ => 32

def audSlotBits (s : State) (n : Nat) : Nat := audBits (s.fld (Reg.AUD_FMT n) 7 6)
/-- WIDTH of port n, never above SLOT_BITS (R515). -/
def audWidth (s : State) (n : Nat) : Nat := min (audBits (s.fld (Reg.AUD_FMT n) 5 4)) (audSlotBits s n)
def audBpf (s : State) (n : Nat) : Nat := audSlots s n * audSlotBits s n

/-- The enabled slots of a direction, ascending; mask bits at and above SLOTS name no slot. -/
def audMask (s : State) (n : Nat) (out : Bool) : List Nat :=
  (List.range (min 16 (audSlots s n))).filter (fun i => s.bit (if out then Reg.AUD_SLOT_OUT n else Reg.AUD_SLOT_IN n) i)

/-- The consort's timebase is locked: `CNS_STATUS.LOCKED` (R447, R601). -/
def cnsLocked (s : State) : Bool := s.bit Reg.CNS_STATUS 4

/-- The octets of a word, octet 0 first (R56, R67). -/
def wordOctets (w : Word) : List Nat := (List.range 5).map (fun k => fget w (8 * k + 7) (8 * k))

/-- A word from up to five octets, octet 0 first; the octets missing are zero (R68). -/
def octetsWord (l : List Nat) : Word := BitVec.ofNat 40 (l.foldr (fun o acc => o % 256 + 256 * acc) 0)

/-- An octet stream packed into words (R67, R68). -/
def packOctets : Nat → List Nat → List Word
  | 0, _ => []
  | _, [] => []
  | f + 1, l => octetsWord (l.take 5) :: packOctets f (l.drop 5)

def packAll (l : List Nat) : List Word := packOctets l.length l

end Sys2Proof.Machine
end

