-- ==== Sys2Proof/Machine/Rings.lean ====
section
/-!
DEFINITION. The stream engine's functions and rings (chapter 13): address windows (R445, R446), descriptors and their checks (R447, R448), enabling and
draining (R461), commit points and status writes (R454), aborts (R462), halts (R481), master enable, resets and generations (R465-R467) and the
commands of the partition manager (R441, R442, R464).
-/
set_option linter.constructorNameAsVariable false

namespace Sys2Proof.Machine

/-! ### Rings and functions -/

def State.ring (s : State) (r : Nat) : Ring := SMap.getD Ring.reset r s.seg.rings
def State.setRing (r : Nat) (v : Ring) (s : State) : State := { s with seg := { s.seg with rings := SMap.put Ring.reset r v s.seg.rings } }

/-- The function that owns ring r; `none` in the pool (R440). -/
def ringFn (s : State) (r : Nat) : Option Nat := SMap.find r s.seg.owner
def fnOf (s : State) (r : Nat) : Nat := (ringFn s r).getD 0
def fnCreated (s : State) (f : Nat) : Bool := decide (f < 16) && s.bit (Reg.SEF_ID f) 8
def fnMe (s : State) (f : Nat) : Bool := s.bit (Reg.SEF_CTL f) 0
def fnGen (s : State) (f : Nat) : Nat := SMap.getD 0 f s.seg.gens
def fnRings (s : State) (f : Nat) : List Nat := (List.range 64).filter (fun r => decide (ringFn s r = some f))

def ringKind (s : State) (r : Nat) : Nat := s.fld (Reg.SEF_RING_CFG r) 35 32
def ringDir (s : State) (r : Nat) : Bool := s.bit (Reg.SEF_RING_CFG r) 31
def ringBind (s : State) (r : Nat) : Nat := s.fld (Reg.SEF_RING_CFG r) 24 16
def ringN (s : State) (r : Nat) : Nat := 2 ^ s.fld (Reg.SEF_RING_CFG r) 30 27
def ringEn (s : State) (r : Nat) : Bool := s.bit (Reg.SEF_RING_CFG r) 39
def ringHead (s : State) (r : Nat) : Nat := s.fld (Reg.SEF_RING_HEAD r) 15 0
def ringTail (s : State) (r : Nat) : Nat := s.fld (Reg.SEF_RING_TAIL r) 15 0
def ringState (s : State) (r : Nat) : Nat := s.fld (Reg.SEF_RING_STATUS r) 15 13
def ringBase (s : State) (r : Nat) : Nat := s.fld (Reg.SEF_RING_BASE r) 33 4 * 16
def setRingState (r v : Nat) (s : State) : State := s.setFld (Reg.SEF_RING_STATUS r) 15 13 v
def mod16 (a b : Nat) : Nat := (a + 65536 - b) % 65536
def handedOver (s : State) (r : Nat) : Nat := mod16 (ringTail s r) (ringHead s r)

/-- Receive rings (R449). -/
def ringIsRx (s : State) (r : Nat) : Bool :=
  let k := ringKind s r
  k == 2 || k == 4 || k == 6 || k == 10 || ((k == 7 || k == 8) && ringDir s r)

/-- Kinds that carry octet streams (R450). -/
def octetKind (k : Nat) : Bool := decide (3 ≤ k) && decide (k ≤ 6)

/-- Kinds whose units may span several descriptors (R449). -/
def framedKind (k : Nat) : Bool := octetKind k || k == 8

/-- The ring runs (R461): EN = 1, its function's ME = 1, and it is neither halted nor draining. -/
def ringRuns (s : State) (r : Nat) : Bool :=
  (match ringFn s r with | some f => fnMe s f | none => false) && ringEn s r && ringState s r == 1

/-- The level source of function f follows its events (R470). -/
def setEvt (f i : Nat) (s : State) : State := lv1 (64 + f) (fun s => s.setBit (Reg.SEF_EVT f) i true) s

/-! ### Requests and generations (R467) -/

def jobsOf (s : State) (f : Nat) (p : Nat → Bool) : Nat :=
  ((s.seg.rings.map (fun e => e.2.jobs)).flatten.filter (fun j => j.func == f && p j.gen)).foldl (fun n j => n + j.writes.length) 0

def reqsOf (s : State) (f : Nat) (p : Nat → Bool) : Nat := (s.seg.reqs.filter (fun e => e.2.func == f && p e.2.gen)).length

/-- OUTSTANDING and OLD_OUTSTANDING of function f. -/
def outstanding (s : State) (f : Nat) : Nat := jobsOf s f (fun g => g == fnGen s f) + reqsOf s f (fun g => g == fnGen s f)
def oldOutstanding (s : State) (f : Nat) : Nat := jobsOf s f (fun g => g != fnGen s f) + reqsOf s f (fun g => g != fnGen s f)

/-- A generation value carried by an outstanding request of f. -/
def genUsed (s : State) (f g : Nat) : Bool := jobsOf s f (fun x => x == g) + reqsOf s f (fun x => x == g) != 0

/-- The next generation that no outstanding request of f carries. -/
def nextGen (s : State) (f : Nat) : Nat :=
  ((List.range 63).map (fun i => (fnGen s f + 1 + i) % 64)).find? (fun g => !genUsed s f g) |>.getD ((fnGen s f + 1) % 64)

def advanceGen (f : Nat) (s : State) : State := { s with seg := { s.seg with gens := SMap.put 0 f (nextGen s f) s.seg.gens } }

/-- A function may issue one more request (R467). -/
def capFree (s : State) (f : Nat) : Bool := decide (outstanding s f + oldOutstanding s f < s.fld (Reg.SEF_CFG f) 5 0)

/-! ### Address windows (R445, R446) -/

def winHolds (s : State) (f a w : Nat) : Bool :=
  let x := s.reg (Reg.SEF_WIN_A f w)
  let y := s.reg (Reg.SEF_WIN_B f w)
  bget x 39 && decide (fget x 21 0 ≤ a / 4096) && decide (a / 4096 < fget x 21 0 + fget y 39 22)

def windowOf (s : State) (f a : Nat) : Option Nat := (List.range 8).find? (fun w => winHolds s f a w)

/-- The physical address of a range of n words at IPA a, when one window serves every word with the permissions needed. -/
def xlate (s : State) (f a n : Nat) (rd wr : Bool) : Option Nat :=
  match windowOf s f a with
  | none => none
  | some w =>
    let x := s.reg (Reg.SEF_WIN_A f w)
    let pages := (List.range ((a % 4096 + n + 4095) / 4096)).map (fun i => (a / 4096 + i) * 4096)
    if decide (a + n ≤ 2 ^ 34) && pages.all (fun p => windowOf s f p == some w) && (!rd || bget x 38) && (!wr || bget x 37) then
      some ((a + 2 ^ 34 + s.fld (Reg.SEF_WIN_B f w) 21 0 * 4096 - fget x 21 0 * 4096) % 2 ^ 34)
    else none

/-- The uses of R446: 0 a ring's array, 1 a buffer read, 2 a buffer written. -/
def useOk (use : Nat) : Region → Bool
  | .rom => use == 1
  | .close _ => use != 0
  | .stage => true
  | .dram => true
  | .peer _ => use != 0
  | .keep => false
  | .regs => false

/-- A range passes R445 and R446: its physical address. -/
def segRange (s : State) (f a n use : Nat) (rd wr : Bool) : Option Nat :=
  match xlate s f a n rd wr with
  | none => none
  | some pa =>
    match regionAt s pa with
    | none => none
    | some rg => if useOk use rg && (leavesPart s pa n).isNone then some pa else none

def arrayPa (s : State) (r : Nat) : Option Nat := segRange s (fnOf s r) (ringBase s r) (4 * ringN s r) 0 true true

/-- The engine gives up the descriptor lines of ring r, which leaves RUNNING (R468). -/
def evictRing (r : Nat) (s : State) : State :=
  match (if (s.agent 8).lines.isEmpty then none else arrayPa s r) with
  | none => s
  | some b =>
    let ls := ((s.agent 8).lines.map (·.1)).filter (fun l => decide (b ≤ l * 16 + 15) && decide (l * 16 < b + 4 * ringN s r))
    if ls.isEmpty then s else settleNet netFuel (ls.foldl (fun s l => evictLine 8 l s) s)

/-! ### Halts (R481) -/

/-- The function's capture of a failure (R481). -/
def captureFn (f r err ipa : Nat) (s : State) : State :=
  (s.setReg (Reg.SEF_ERR_INFO f) (nw (r * 16 + err))).setReg (Reg.SEF_ERR_ADDR f) (nw ipa)

/-- The captures of a failure that writes a record, the last of which the engine's own registers show. -/
def captureErr (f r err ipa pa : Nat) (s : State) : State :=
  ((captureFn f r err ipa s).setReg Reg.SEG_ERR_INFO (nw (r * 16 + err))).setReg Reg.SEG_ERR_ADDR (nw pa)

/-- Ring r halts at descriptor idx. -/
def haltRing (r err idx ipa pa : Nat) (s : State) : State :=
  let f := fnOf s r
  let s := evictRing r s
  let s := (setRingState r 3 (s.setFld (Reg.SEF_RING_STATUS r) 3 0 err)).setReg (Reg.SEF_RING_ERR_IDX r) (nw idx)
  let s := if err = 1 || err = 2 then s.inc (Reg.SEF_DESC_ERR_CNT f) else s
  let s := s.setRing r { s.ring r with hold := none }
  raise r (setEvt f 2 (logErr .seg 0x38 r (nw ipa) (nw (f * 256 + err)) (captureErr f r err ipa pa s)))

/-! ### Descriptors (R447, R448) -/

def descEof (d : FDesc) : Bool := bget d.w1 35
def descLen (d : FDesc) : Nat := fget d.w1 15 0
def descKctl (d : FDesc) : Nat := fget d.w1 31 16

/-- The AAF stream that a transmit queue carries, if any. -/
def queueHasAaf (s : State) (q : Nat) : Bool :=
  (List.range 16).any (fun a => s.bit (Reg.ETH_AAF_CFG a) 39 && !s.bit (Reg.ETH_AAF_CFG a) 38 && s.fld (Reg.ETH_AAF_CFG a) 37 35 == q)

def aafSamples (s : State) (a : Nat) : Nat := (s.fld (Reg.ETH_AAF_CFG a) 19 15 + 1) * s.fld (Reg.ETH_AAF_CFG a) 28 20

/-- The granule of LEN (R448, R520, R529, R551). -/
def granule (s : State) (r : Nat) : Nat :=
  match ringKind s r with
  | 1 => max 1 (audMask s (ringBind s r % 8) true).length
  | 2 => max 1 (audMask s (ringBind s r % 8) false).length
  | 3 => if queueHasAaf s (ringBind s r % 8) then 5 else 1
  | 10 => 2
  | _ => 1

/-- KCTL and LEN as the kind's chapter assigns them (R552, R566, R575). -/
def kctlOk (s : State) (r : Nat) (d : FDesc) (first : Option FDesc) : Bool :=
  let k := descKctl d
  match ringKind s r with
  | 3 =>
    k % 0x8000 < 16 && (match first with | some x => descKctl x == k | none => true) &&
    (if k < 0x8000 then k == 0
     else
      let a := k % 16
      descEof d && s.bit (Reg.ETH_AAF_CFG a) 39 && !s.bit (Reg.ETH_AAF_CFG a) 38 && s.fld (Reg.ETH_AAF_CFG a) 37 35 == ringBind s r % 8 &&
      descLen d == 5 * (1 + aafSamples s a))
  | 5 => decide (k ≤ 1)
  | _ => k == 0

/-- No reserved condition of R448 holds (for slot i + 1 of a COPY unit: R457). -/
def descOk (s : State) (r : Nat) (second : Bool) (d : FDesc) (w2 w3 : Word) (first : Option FDesc) : Bool :=
  if second then fget d.w0 39 34 == 0 && d.w1 == 0 && w2 == 0 && w3 == 0
  else
    let k := ringKind s r
    let lim := if octetKind k then 20480 else 4096
    fget d.w0 38 34 == 0 && fget d.w1 39 36 == 0 && fget d.w1 33 32 == 0 && w2 == 0 && !bget d.w1 34 && (framedKind k || !descEof d) &&
    kctlOk s r d first && decide (0 < descLen d) && decide (descLen d ≤ lim) && descLen d % granule s r == 0

def descWords (s : State) (r : Nat) (len : Nat) : Nat := if octetKind (ringKind s r) then (len + 4) / 5 else len

/-- The descriptors of the transmit unit at the front of a ring: how many, when its end has been fetched (R453). -/
def unitEnd (s : State) (r : Nat) : Option Nat :=
  let ds := (s.ring r).fetched
  if ringKind s r = 9 then (if 2 ≤ ds.length then some 2 else none)
  else if framedKind (ringKind s r) then (ds.findIdx? descEof).map (fun i => i + 1)
  else if ds.isEmpty then none else some 1

/-- The most descriptors ring r may have fetched: 2 ahead of the unit in progress (R453). -/
def fetchLimit (s : State) (r : Nat) : Nat :=
  match (s.ring r).unit with
  | some u => (if ringIsRx s r then u.lens.length + 1 else u.n) + 2
  | none => if ringIsRx s r then 2 else match unitEnd s r with | some n => n + 2 | none => 17

/-- The four words of a descriptor slot, read as the engine reads descriptors (R468). -/
def readSlot (pa : Nat) (s : State) : FStatus × List Word × State :=
  let q := acquireShared 8 (pa / 16) s
  let l := ((coherentLine q.2 (pa / 16)).drop (pa % 16)).take 4
  (if q.1 = .ok && l.any (fun w => decide (w.mark = .poison)) then .poison else q.1, l.map (fun w => w.v), q.2)

/-- DESCRIPTOR_FETCH on ring r: the descriptor after those fetched is read and checked (R448, R453, R456, R474). -/
def fetchStep (r : Nat) (s : State) : State :=
  let rg := s.ring r
  let k := rg.fetched.length
  let idx := (ringHead s r + k) % 65536
  let draining := ringState s r == 2 && rg.unit.isSome && ringIsRx s r
  if !(ringRuns s r || (draining && fnMe s (fnOf s r))) || decide (handedOver s r ≤ k) || decide (fetchLimit s r ≤ k) then s
  else if k = 16 && !ringIsRx s r && ringKind s r != 9 && framedKind (ringKind s r) && (unitEnd s r).isNone then
    haltRing r 9 idx (ringBase s r + 4 * (idx % ringN s r)) (match arrayPa s r with | some b => b + 4 * (idx % ringN s r) | none => 0) s
  else
    let ipa := ringBase s r + 4 * (idx % ringN s r)
    match arrayPa s r with
    | none => haltRing r 6 idx ipa 0 s
    | some base =>
      let pa := base + 4 * (idx % ringN s r)
      let q := readSlot pa (s.inc (Reg.SEF_REQ_CNT (fnOf s r)))
      let s := q.2.2
      if q.1 ≠ .ok then haltRing r 3 idx ipa pa s
      else
        let w := fun i => q.2.1.getD i (0 : Word)
        let second := ringKind s r == 9 && idx % 2 == 1
        let d : FDesc := ⟨idx, w 0, w 1, 0, 0⟩
        let first := if framedKind (ringKind s r) && !(rg.fetched.any descEof) then rg.fetched.head? else none
        if !descOk s r second d (w 2) (w 3) first then haltRing r 1 idx ipa pa s
        else
          let a := fget d.w0 33 0
          let rx := ringIsRx s r
          let len := if second then (match rg.fetched.getLast? with | some p => descLen p | none => 0) else descLen d
          let n := descWords s r len
          match segRange s (fnOf s r) a n (if rx || second then 2 else 1) (!(rx || second)) (rx || second) with
          | none => haltRing r 2 idx a 0 s
          | some p => s.setRing r { s.ring r with fetched := (s.ring r).fetched ++ [{ d with pa := p }] }

/-! ### Buffer pieces (R453, R468) -/

/-- A piece of at most 16 words that does not leave its line. -/
def piece (pa left : Nat) : Nat := min left (16 - pa % 16)

def peerOrClose (s : State) (pa : Nat) : Bool :=
  match regionAt s pa with | some (.close _) => true | some (.peer _) => true | _ => false

/-- An I/O request of the engine on the fabric; it waits for the tag it took, or has been answered at its interface. -/
def segIo (srv : Server) (r : Nat) (code pa n mask : Nat) (data : Line) (s : State) : Option Nat × State :=
  let p := { mkReq ⟨18, 3, 0⟩ code pa n .cas (decide (mask ≠ 0)) mask data with src := 18 }
  let t := freeTag? s 18
  let s := ioRequest srv p n s
  match t with
  | some t =>
    if (tagOf s 18 t).st = .busy then
      (some t, { s with seg := { s.seg with reqs := SMap.insert t ⟨r, fnOf s r, fnGen s (fnOf s r)⟩ s.seg.reqs } })
    else (none, s)
  | none => (none, s)

/-- A request of the engine for n words at pa is held at its home for a while, not for good (R41, R53, R300). -/
def homeBusy (s : State) (wr : Bool) (pa n : Nat) : Bool :=
  homeWaits s 8 (if wr then wrU else rdU) pa n && !s.tb.xbLost && !s.bit (Reg.HS_STATUS (homeOf s (pa / 16))) 1

/-- The engine can issue a buffer request of n words for ring r now: its function's cap, a tag, no hold at the interface, and a home that takes it
(R41, R356, R467). -/
def canIssue (s : State) (r pa n : Nat) (wr : Bool) : Bool :=
  capFree s (fnOf s r) &&
  (if peerOrClose s pa then (freeTag? s 18).isSome && (match destOf s pa with | some d => !niHolds s 18 d | none => true)
   else !homeBusy s wr pa n)

/-- How a buffer request ended: answered, or waiting for the response of its tag. -/
inductive Xfer where
  | done (st : FStatus) (d : Line) (s : State)
  | wait (t : Nat) (s : State)

/-- The worse of two statuses of the parts of one transfer: the first that is not OK. -/
def worse (a b : FStatus) : FStatus := if a = .ok then b else a

/-- Coherent reads of k words at pa by agent a, line by line. -/
def cohRead (a : Nat) : Nat → Nat → Nat → State → FStatus × Line × State
  | 0, _, _, s => (.ok, [], s)
  | f + 1, pa, k, s =>
    if k = 0 then (.ok, [], s)
    else
      let n := piece pa k
      let q := uncachedRead a (pa / 16) s
      let d := if q.1 = .ok || q.1 = .poison then (q.2.1.drop (pa % 16)).take n else List.replicate n MWord.zero
      let q2 := cohRead a f (pa + n) (k - n) q.2.2
      (worse (if q.1 = .poison && !hasPoison d then .ok else q.1) q2.1, d ++ q2.2.1, q2.2.2)

/-- Coherent writes by agent a of the octets of words at pa that `mask` enables, line by line. -/
def cohWrite (a : Nat) : Nat → Nat → Nat → Line → State → FStatus × State
  | 0, _, _, _, s => (.ok, s)
  | f + 1, pa, mask, d, s =>
    if d.isEmpty then (.ok, s)
    else
      let n := piece pa d.length
      let q := uncachedWrite a (pa / 16) (mask % 2 ^ (5 * n) * 2 ^ (5 * (pa % 16))) (List.replicate (pa % 16) MWord.zero ++ d.take n) s
      let q2 := cohWrite a f (pa + n) (mask / 2 ^ (5 * n)) (d.drop n) q.2
      (worse q.1 q2.1, q2.2)

/-- Read k words, at most 16, at pa for ring r. -/
def segRead (srv : Server) (r pa k : Nat) (s : State) : Xfer :=
  let s := s.inc (Reg.SEF_REQ_CNT (fnOf s r))
  if peerOrClose s pa then
    match segIo srv r 0 pa k 0 [] s with
    | (some t, s) => .wait t s
    | (none, s) => .done s.resp.status s.resp.data s
  else
    let q := cohRead 8 3 pa k s
    .done q.1 q.2.1 q.2.2

/-- Write at most 16 words at pa for ring r, but for the first `skip` octets. -/
def segWrite (srv : Server) (r pa skip : Nat) (d : Line) (s : State) : Xfer :=
  let s := s.inc (Reg.SEF_REQ_CNT (fnOf s r))
  let mask := 2 ^ (5 * d.length) - 2 ^ skip
  if peerOrClose s pa then
    match segIo srv r 1 pa d.length (if skip = 0 then 0 else mask) d s with
    | (some t, s) => .wait t s
    | (none, s) => .done s.resp.status [] s
  else
    let q := cohWrite 8 3 pa mask d s
    .done q.1 [] q.2

/-! ### Transmit: peripherals take data (R450, R455) -/

def setUnit (r : Nat) (u : RUnit) (s : State) : State := s.setRing r { s.ring r with unit := some u }

/-- The descriptor and offset that hold item m of a unit. -/
def locate : List FDesc → Nat → Option (FDesc × Nat)
  | [], _ => none
  | d :: t, m => if m < descLen d then some (d, m) else locate t (m - descLen d)

def unitDescs (s : State) (r : Nat) (u : RUnit) : List FDesc := (s.ring r).fetched.take u.n

def unitTotal (s : State) (r : Nat) (u : RUnit) : Nat :=
  if ringKind s r = 9 then (match (unitDescs s r u).head? with | some d => descLen d | none => 0)
  else ((unitDescs s r u).map descLen).foldl (· + ·) 0

def cufPort (s : State) (r : Nat) : Nat := ringBind s r / 256
def cufChannel (s : State) (r : Nat) : Nat := ringBind s r % 256

/-- The items that the ring's peripheral can take now. -/
def sinkRoom (s : State) (r : Nat) : Nat :=
  let b := ringBind s r
  match ringKind s r with
  | 1 => if s.bit (Reg.AUD_CTL (b % 8)) 0 then 64 - (s.aud (b % 8)).outQ.length else 0
  | 7 => 16 - (s.midOut (b % 4)).q.length
  | 5 =>
    if s.bit (Reg.USB_EPIN_CFG (b % 8)) 20 &&
       !((List.range 2).any (fun u => s.bit (Reg.USB_FB_CTL u) 0 && s.fld (Reg.USB_FB_CTL u) 3 1 == b % 8)) then 20480 else 0
  | _ => 20480

def updMsgs (n : Nat) (f : List CufMsg → List CufMsg) (s : State) : State := s.setCuf n { s.cufP n with msgs := f (s.cufP n).msgs }

/-- Words reach the ring's peripheral; for an octet kind the octets in `os`. -/
def sinkPush (r : Nat) (ws : List Word) (os : List Nat) (s : State) : State :=
  let b := ringBind s r
  match ringKind s r with
  | 1 => let p := s.aud (b % 8); s.setAud (b % 8) { p with outQ := p.outQ ++ ws.map (fun w => (w, s.now)) }
  | 7 => let p := s.midOut (b % 4); s.setMidOut (b % 4) { p with q := p.q ++ ws }
  | 3 =>
    let e := (SMap.find (b % 8) s.eth.txq).getD ⟨r, [], none, none, false⟩
    { s with eth := { s.eth with txq := SMap.insert (b % 8) { e with octets := e.octets ++ os } s.eth.txq } }
  | 5 => let e := s.usbEp (b % 8 + 1); s.setUsbEp (b % 8 + 1) { e with data := e.data ++ os, loaded := true }
  | 8 => updMsgs (cufPort s r) (fun l => l.map (fun m => if m.ring = r then { m with words := m.words ++ ws } else m)) s
  | _ => s

/-- The frame of transmit queue q is on the wire. -/
def ethOnWire (s : State) (q : Nat) : Bool := s.eth.wire == some q && decide (s.tb.xbFs < s.eth.wireEnd)

/-- The FCS of a frame that is cut short goes out inverted (R583). -/
def badFcs (l : List Nat) : List Nat := l.take (l.length - 4) ++ (l.drop (l.length - 4)).map (fun o => 255 - o)

/-- The peripheral ends a transmit unit as an aborted unit (R462, R527, R583): its queued words or octets go; frames of an audio port that lack them, or
the `rest` words of aborted units that had not reached the queue, are silent and uncounted. -/
def sinkAbort (r rest : Nat) (s : State) : State :=
  let b := ringBind s r
  match ringKind s r with
  | 1 =>
    let p := s.aud (b % 8)
    let g := max 1 (audMask s (b % 8) true).length
    s.setAud (b % 8) { p with outQ := [], lack := (p.outQ.length + rest + g - 1) / g }
  | 3 =>
    let s' := { s with eth := { s.eth with txq := SMap.erase (b % 8) s.eth.txq } }
    if ethOnWire s (b % 8) then ({ s' with eth := { s'.eth with txErr := true, line := badFcs s.eth.line } }).inc Reg.ETH_TX_ABORT_CNT else s'
  | 5 => s.setUsbEp (b % 8 + 1) { s.usbEp (b % 8 + 1) with data := [], loaded := false, zlp := false }
  | 8 => updMsgs (cufPort s r) (fun l => l.filter (fun m => m.ring != r)) s
  | _ => s

/-- Shed stop of the engine in part (R658) or FREEZE (R479): ring r starts no unit. -/
def noStart (s : State) (r : Nat) : Bool :=
  s.bit Reg.SEG_CTL 0 || (decide (4 ≤ s.fld Reg.PWR_STATUS 2 0) && !(ringKind s r == 1 || ringKind s r == 2 || ringKind s r == 10))

def freshUnit : RUnit := ⟨0, 0, 0, [], none, 0, false, none, none, 0, []⟩

/-- The partner on a Cuff port is joined: `CUF_n_STATUS.JOINED` (R393, R458). -/
def cufJoined (s : State) (n : Nat) : Bool := s.bit (Reg.CUF_STATUS n) 4

/-- A transmit unit at the front of ring r starts (R453, R458, R554, R575). -/
def txStart (r : Nat) (s : State) : State :=
  if (s.ring r).unit.isSome || !ringRuns s r || noStart s r || ringIsRx s r then s
  else
    match unitEnd s r with
    | none => s
    | some n =>
      if framedKind (ringKind s r) && decide (16 < n) then s
      else
        let u := { freshUnit with n := n }
        let s := setUnit r u s
        let total := unitTotal s r u
        match ringKind s r with
        | 3 =>
          if total < 14 || s.fld Reg.ETH_MAXLEN 13 0 - 4 < total then setUnit r { u with status := 1, complete := true } (s.inc Reg.ETH_TX_LEN_ERR_CNT)
          else s
        | 5 =>
          let c := Reg.USB_EPIN_CFG (ringBind s r % 8)
          if s.fld c 18 17 = 1 && s.fld c 10 0 * s.fld c 16 15 < total then setUnit r { u with status := 1, complete := true } s
          else
            let z := match (unitDescs s r u).head? with | some d => descKctl d == 1 && total % max 1 (s.fld c 10 0) == 0 | none => false
            s.setUsbEp (ringBind s r % 8 + 1) { s.usbEp (ringBind s r % 8 + 1) with data := [], loaded := true, zlp := z }
        | 8 =>
          if cufJoined s (cufPort s r) then updMsgs (cufPort s r) (fun l => l ++ [⟨r, cufChannel s r, [], false, 0⟩]) s
          else setUnit r { u with status := 4, complete := true } s
        | _ => s

/-- A transmit read did not return OK (R482): the record, and the status the unit commits with. -/
def dataErr (r pa ipa : Nat) (st : FStatus) (u : RUnit) (s : State) : RUnit × State :=
  let f := fnOf s r
  let err := if st = .poison then 3 else 2
  ({ u with status := if u.status = 0 then err else u.status },
    logErr .seg 0x39 r (nw ipa) (nw (statusCode st * 2 ^ 12 + f * 2 ^ 8)) (captureErr f r 0 ipa pa s))

def zeroPoison (l : Line) : List Word := l.map (fun w => if w.mark = .poison then 0 else w.v)

def countWords (r n : Nat) (s : State) : State := (s.addTo (Reg.SEF_RING_WORD_CNT r) n).addTo (Reg.SEF_WORD_CNT (fnOf s r)) n

/-- The words read for a transmit unit reach its peripheral; those of COPY are staged. -/
def txGot (r k : Nat) (st : FStatus) (d : Line) (s : State) : State :=
  match (s.ring r).unit with
  | none => s
  | some u =>
    let u := { u with wait := none }
    match locate (unitDescs s r u) u.moved with
    | none => s
    | some (ds, o) =>
      let oct := octetKind (ringKind s r)
      let w0 := if oct then o / 5 else o
      let q := if st = .ok then (u, s) else dataErr r (ds.pa + w0) (fget ds.w0 33 0 + w0) st u s
      let u := q.1
      let s := q.2
      let ws := if st = .ok || st = .poison then zeroPoison d else List.replicate k 0
      if ringKind s r = 9 then
        if st = .ok || st = .poison then setUnit r { u with staged := ws.map (fun w => ⟨w, .good⟩) } s else setUnit r { u with complete := true } s
      else if st ≠ .ok && framedKind (ringKind s r) then setUnit r { u with complete := true } (sinkAbort r 0 s)
      else
        let os := ((ws.map wordOctets).flatten).take (descLen ds - o)
        let n := if oct then os.length else k
        countWords r k (sinkPush r ws os (setUnit r { u with moved := u.moved + n } s))

/-- COPY's staged words have been written (R457). -/
def copyPut (r : Nat) (st : FStatus) (s : State) : State :=
  match (s.ring r).unit with
  | none => s
  | some u =>
    let n := u.staged.length
    if st = .ok then
      let u' := { u with wait := none, moved := u.moved + n, staged := [] }
      countWords r n (setUnit r { u' with complete := u'.moved == unitTotal s r u' } s)
    else
      let d := (s.ring r).fetched.getD 1 ⟨0, 0, 0, 0, 0⟩
      haltRing r 4 (ringHead s r) (fget d.w0 33 0) d.pa (s.setRing r { s.ring r with unit := none })

/-- One piece of a transmit unit; the second part tells whether more may follow at once. -/
def txStep (srv : Server) (r : Nat) (s : State) : State × Bool :=
  match (s.ring r).unit with
  | none => (s, false)
  | some u =>
    if u.complete || u.wait.isSome || ringIsRx s r then (s, false)
    else if !u.staged.isEmpty then
      match ((s.ring r).fetched.drop 1).head? with
      | none => (s, false)
      | some dst =>
        if !canIssue s r (dst.pa + u.moved) u.staged.length true then (s, false)
        else
          match segWrite srv r (dst.pa + u.moved) 0 u.staged s with
          | .done st _ s => (copyPut r st s, true)
          | .wait t s => (setUnit r { u with wait := some t, waitLen := u.staged.length } s, false)
    else
      match locate (unitDescs s r u) u.moved with
      | none => (s, false)
      | some (ds, o) =>
        let oct := octetKind (ringKind s r)
        let left := if oct then (descLen ds - o + 4) / 5 else descLen ds - o
        let w0 := if oct then o / 5 else o
        let k := min (min 16 left) (sinkRoom s r)
        if unitTotal s r u ≤ u.moved || k = 0 || !canIssue s r (ds.pa + w0) k false then (s, false)
        else
          match segRead srv r (ds.pa + w0) k s with
          | .done st d s => (txGot r k st d s, true)
          | .wait t s => (setUnit r { u with wait := some t, waitLen := k } s, false)

def txLoop (srv : Server) (r : Nat) : Nat → State → State
  | 0, s => s
  | f + 1, s => let q := txStep srv r s; if q.2 then txLoop srv r f q.1 else q.1

/-- A transmit ring starts a unit if it can and moves its data as far as its peripheral takes it. -/
def pump (srv : Server) (r : Nat) (s : State) : State :=
  if ringIsRx s r then s else txLoop srv r 600 (txStart r s)

/-- The transmit ring of a kind bound to `b`, in the direction out. -/
def boundRing (s : State) (kind b : Nat) (rx : Bool) : Option Nat :=
  (List.range 64).find? (fun r => (s.ring r).bound && ringKind s r == kind && ringBind s r == b && ringIsRx s r == rx)

/-- The peripheral has taken n items of the unit of ring r; the first of them at tick t (R449, R455). -/
def sinkTook (r n : Nat) (t : Word) (s : State) : State :=
  match (s.ring r).unit with
  | none => s
  | some u =>
    let u := { u with taken := u.taken + n, ts := some (u.ts.getD t) }
    setUnit r { u with complete := u.complete || decide (unitTotal s r u ≤ u.taken) } s

/-! ### Receive: sources (R455, R459, R460) -/

/-- Records of Fingertip in the order in which they leave it, its OVERFLOW record in its place (R603). -/
def fgtRecords (s : State) : List (Word × Word) :=
  match s.fgt.ovf with
  | none => s.fgt.q
  | some o =>
    s.fgt.q.take o.before ++ [(nw (7 * 2 ^ 36 + b2n o.unlocked * 2 ^ 35 + min o.n 255 * 2 ^ 27), o.tick)] ++ s.fgt.q.drop o.before

/-- The first record leaves Fingertip. -/
def fgtPop (s : State) : State :=
  match s.fgt.ovf with
  | some o =>
    if o.before = 0 then { s with fgt := { s.fgt with ovf := none } }
    else { s with fgt := { s.fgt with ovf := some { o with before := o.before - 1 }, q := s.fgt.q.drop 1 } }
  | none => { s with fgt := { s.fgt with q := s.fgt.q.drop 1 } }

def fgtPopN : Nat → State → State
  | 0, s => s
  | n + 1, s => fgtPopN n (fgtPop s)

/-- What the ring's source offers: its items (words or octets), the tick of the first, whether the unit ends with them, and an error mark. -/
structure Src where
  items : List Nat
  ts : Word
  ends : Bool
  err : Bool

def usbOutIso (s : State) (e : Nat) : Bool := s.fld (Reg.USB_EPOUT_CFG e) 18 17 == 1

/-- The packets of a list up to the one that ends a transfer (R576), and whether one does: a short packet, or XFER_MAX octets reached. -/
def usbUnit (mps xm : Nat) : List (List Nat) → Nat → List (List Nat) × Bool
  | [], _ => ([], false)
  | p :: t, n =>
    if p.length < mps || (xm != 0 && decide (xm ≤ n + p.length)) then ([p], true)
    else let q := usbUnit mps xm t (n + p.length); (p :: q.1, q.2)

def usbOutUnit (s : State) (b : Nat) : List (List Nat) × Bool :=
  let e := s.usbEp (17 + b)
  if usbOutIso s b then (e.packets.take 1, decide (1 < e.packets.length) || (e.loaded && !e.packets.isEmpty))
  else usbUnit (s.fld (Reg.USB_EPOUT_CFG b) 10 0) (s.fld (Reg.USB_EPOUT_XFER_MAX b) 15 0) e.packets 0

/-- A USB_OUT transfer as received so far. -/
def usbOutSrc (s : State) (b : Nat) : Option Src :=
  let e := s.usbEp (17 + b)
  let u := usbOutUnit s b
  if u.1.isEmpty || (usbOutIso s b && !u.2) then none
  else some ⟨u.1.flatten, e.tss.headD 0, u.2, usbOutIso s b && e.data.headD 0 == 1⟩

def rxSource (s : State) (r : Nat) : Option Src :=
  let b := ringBind s r
  match ringKind s r with
  | 2 => match (s.aud (b % 8)).inQ with
    | [] => none
    | (w, t) :: l => some ⟨((w, t) :: l).map (fun e => e.1.toNat), t, false, false⟩
  | 7 => match (s.midIn (b % 4)).q with
    | [] => none
    | (w, t) :: l => some ⟨((w, t) :: l).map (fun e => e.1.toNat), t, false, false⟩
  | 10 => match fgtRecords s with
    | [] => none
    | (w, t) :: l => some ⟨(((w, t) :: l).map (fun e => [e.1.toNat, e.2.toNat])).flatten, t, false, false⟩
  | 4 => (s.eth.fifo.find? (fun f => f.queue == b % 8)).map (fun f => ⟨f.octets, f.ts, true, f.err⟩)
  | 6 => usbOutSrc s (b % 8)
  | 8 => match SMap.find (cufChannel s r) (s.cufP (cufPort s r)).msgIn with
    | some m => if m.last && !m.drop then some ⟨m.words.map (fun w => w.toNat), 0, true, false⟩ else none
    | none => none
  | _ => none

/-- A block kind's source gives up n words. -/
def srcTake (r n : Nat) (s : State) : State :=
  let b := ringBind s r
  match ringKind s r with
  | 2 => let p := s.aud (b % 8); s.setAud (b % 8) { p with inQ := p.inQ.drop n }
  | 7 => let p := s.midIn (b % 4); s.setMidIn (b % 4) { p with q := p.q.drop n }
  | 10 => fgtPopN (n / 2) s
  | _ => s

/-- The first frame with queue q leaves a list. -/
def dropFrame (q : Nat) : List EthRx → List EthRx
  | [] => []
  | f :: t => if f.queue = q then t else f :: dropFrame q t

/-- A framed kind's source gives up its unit whole. -/
def srcPop (r : Nat) (s : State) : State :=
  let b := ringBind s r
  match ringKind s r with
  | 4 => { s with eth := { s.eth with fifo := dropFrame (b % 8) s.eth.fifo } }
  | 6 =>
    let e := s.usbEp (17 + b % 8)
    let n := (usbOutUnit s (b % 8)).1.length
    let rest := e.packets.drop n
    s.setUsbEp (17 + b % 8) { e with packets := rest, data := e.data.drop n, loaded := e.loaded && !rest.isEmpty,
                                     tss := e.tss.drop n }
  | 8 => s.setCuf (cufPort s r) { s.cufP (cufPort s r) with msgIn := SMap.erase (cufChannel s r) (s.cufP (cufPort s r)).msgIn }
  | _ => s

/-- The source's unit is not whole yet: the rest of it is still to come. -/
def restToCome (s : State) (r : Nat) : Bool := match rxSource s r with | some src => !src.ends | none => false

/-- The receive unit in progress is discarded whole, its descriptors taken back (R459, R460); what of it has not come yet is dropped as it comes. -/
def rxDiscard (r cnt : Nat) (s : State) : State :=
  let framed := framedKind (ringKind s r)
  let s := s.setRing r { s.ring r with unit := none, hold := none, dropping := (s.ring r).dropping || (framed && restToCome s r) }
  let s := if framed then srcPop r s else s
  if cnt = 0 then s.inc (Reg.SEF_RING_RX_NOBUF_DROPS r) else if cnt = 1 then s.inc (Reg.SEF_RING_RX_OTHER_DROPS r) else s

/-- A hold begins (R459); with RX_HOLD_US = 0 the unit is discarded at once. -/
def beginHold (r : Nat) (s : State) : State :=
  let s := (s.inc (Reg.SEF_RING_HOLD_CNT r)).setRing r { s.ring r with hold := some s.tb.pulses }
  if s.fld (Reg.SEF_RING_CFG2 r) 9 0 = 0 then rxDiscard r 0 s else s

/-- The words of a receive unit have been written, or not (R481). -/
def rxPut (r n : Nat) (st : FStatus) (s : State) : State :=
  match (s.ring r).unit with
  | none => s
  | some u =>
    let i := u.lens.length - 1
    if st = .ok then
      let blk := !framedKind (ringKind s r)
      let l := u.lens.getD i 0 + n
      let d := (s.ring r).fetched.getD i ⟨0, 0, 0, 0, 0⟩
      let since := if u.since.isNone && (ringKind s r == 7 || ringKind s r == 10) then some s.tb.pulses else u.since
      let u' := { u with wait := none, moved := u.moved + n, lens := u.lens.set i l, since := since, complete := blk && l == descLen d }
      let s := countWords r (descWords s r (u.lens.getD i 0 + n) - descWords s r (u.lens.getD i 0)) (setUnit r u' s)
      if blk then srcTake r n s else s
    else
      let d := (s.ring r).fetched.getD i ⟨0, 0, 0, 0, 0⟩
      haltRing r 4 d.idx (fget d.w0 33 0) d.pa (rxDiscard r 1 s)

/-- One piece of a receive unit; the second part tells whether more may follow at once. -/
def rxStep (srv : Server) (r : Nat) (s : State) : State × Bool :=
  let rg := s.ring r
  match rxSource s r with
  | none => (s, false)
  | some src =>
    match rg.unit with
    | none =>
      if !ringRuns s r || noStart s r || rg.dropping then (s, false)
      else if rg.fetched.isEmpty then
        if framedKind (ringKind s r) && handedOver s r == 0 && rg.hold.isNone then (beginHold r s, false) else (s, false)
      else (setUnit r { freshUnit with n := 1, lens := [0], ts := some src.ts, status := if src.err then 5 else 0 } s, true)
    | some u =>
      if u.complete || u.wait.isSome || rg.hold.isSome then (s, false)
      else
        let i := u.lens.length - 1
        let d := rg.fetched.getD i ⟨0, 0, 0, 0, 0⟩
        let o := u.lens.getD i 0
        let rest := if framedKind (ringKind s r) then src.items.drop u.moved else src.items
        if rest.isEmpty then
          if src.ends then (srcPop r (setUnit r { u with complete := true, status := if src.err then 5 else u.status } s), false) else (s, false)
        else if descLen d ≤ o then
          if u.lens.length = 16 then (rxDiscard r 1 s, false)
          else if u.lens.length < rg.fetched.length then (setUnit r { u with lens := u.lens ++ [0], n := u.n + 1 } s, true)
          else if handedOver s r ≤ u.lens.length then (beginHold r s, false)
          else (s, false)
        else
          let oct := octetKind (ringKind s r)
          let skip := if oct then o % 5 else 0
          let n := min (min (if oct then 80 - skip else 16) (descLen d - o)) rest.length
          let ws := if oct then packAll (List.replicate skip 0 ++ rest.take n) else (rest.take n).map (fun x => BitVec.ofNat 40 x)
          let pa := d.pa + (if oct then o / 5 else o)
          if !canIssue s r pa ws.length true then (s, false)
          else
            match segWrite srv r pa skip (ws.map (fun w => ⟨w, .good⟩)) s with
            | .done st _ s => (rxPut r n st s, true)
            | .wait t s => (setUnit r { u with wait := some t, waitLen := n } s, false)

def rxLoop (srv : Server) (r : Nat) : Nat → State → State
  | 0, s => s
  | f + 1, s => let q := rxStep srv r s; if q.2 then rxLoop srv r f q.1 else q.1

/-- The rest of a discarded unit is dropped, up to its end (R459). -/
def dropRest (r : Nat) (s : State) : State :=
  if (s.ring r).dropping then
    match rxSource s r with
    | some src => srcPop r (s.setRing r { s.ring r with dropping := !src.ends })
    | none => s
  else s

/-- A descriptor that fails its fetch or check while a unit of several descriptors is being received: the unit is discarded, and the ring has halted
(R460). -/
def fetchDesc (r : Nat) (s : State) : State :=
  let s' := fetchStep r s
  if ringState s r != 3 && ringState s' r == 3 && ringIsRx s' r && framedKind (ringKind s' r) && (s'.ring r).unit.isSome then rxDiscard r 1 s' else s'

/-- Inbound data of a ring of a function whose ME is 0 is dropped in whole units (R465). -/
def rxDropIdle (r : Nat) (s : State) : State :=
  match rxSource s r with
  | some src => if src.ends && ringEn s r && !fnMe s (fnOf s r) && ringState s r == 1 then srcPop r (s.inc (Reg.SEF_RING_RX_OTHER_DROPS r)) else s
  | none => s

/-- RX_UNIT_DATA on ring r. -/
def rxData (srv : Server) (r : Nat) (s : State) : State :=
  if !ringIsRx s r then s else rxLoop srv r 4200 (rxDropIdle r (dropRest r s))

/-! ### Commit points (R454) and status writes -/

def statWord (s : State) (status : Nat) (ts : Word) : Word :=
  nw (2 ^ 39 + b2n (!cnsLocked s) * 2 ^ 38 + status * 2 ^ 34 + ts.toNat % 2 ^ 32)

/-- The status writes of a unit's descriptors: word 2, and LEN, SOF and EOF of word 1 for a receive unit. -/
def statWrites (rx : Bool) (w2 : Word) (marks : Bool) (lens : List Nat) : Nat → List FDesc → List StatWr
  | _, [] => []
  | i, d :: t =>
    let w1 := nw (lens.getD i 0 + b2n (marks && i == 0) * 2 ^ 34 + b2n (marks && t.isEmpty) * 2 ^ 35)
    ⟨d.idx, if rx then 0x3F3 else 0x3E0, if rx then w1 else 0, w2⟩ :: statWrites rx w2 marks lens (i + 1) t

def setHead (r v : Nat) (s : State) : State := s.setReg (Reg.SEF_RING_HEAD r) (nw (v % 65536))

/-- With no descriptor ready, a transmit ring of a kind that idles counts a starvation (R449). -/
def starveCheck (r : Nat) (s : State) : State :=
  let k := ringKind s r
  if (k == 3 || k == 5 || (k == 7 && !ringDir s r)) && handedOver s r == 0 then s.inc (Reg.SEF_RING_STARVE_CNT r) else s

/-- Every line whose handed-over descriptors have all committed is evicted: those of n descriptors from index h that end their line, or that are the
last handed over (R468). -/
def evictDescs (r h n : Nat) (s : State) : State :=
  match arrayPa s r with
  | none => s
  | some base =>
    (List.range n).foldl (fun s i =>
      if (h + i) % 4 = 3 || (i + 1 = n && handedOver s r = 0) then settleNet netFuel (evictLine 8 ((base + 4 * ((h + i) % ringN s r)) / 16) s) else s) s

/-- The commit point of n descriptors at the front of ring r with their status writes. -/
def commitAt (r n : Nat) (ws : List StatWr) (int aborted : Bool) (s : State) : State :=
  let f := fnOf s r
  let h := ringHead s r
  let rg := s.ring r
  let s := s.setRing r { rg with fetched := rg.fetched.drop n, unit := none, hold := none,
                                 jobs := rg.jobs ++ [⟨f, fnGen s f, ws, n, s.nowLo, int, aborted⟩] }
  evictDescs r h n (setHead r (h + n) s)

/-- UNIT_COMMIT on ring r: the unit in progress commits if it has reached its end. -/
def unitCommit (r : Nat) (s : State) : State :=
  match (s.ring r).unit with
  | none => s
  | some u =>
    if !u.complete then s
    else
      let rx := ringIsRx s r
      let n := if rx then u.lens.length else u.n
      let ds := (s.ring r).fetched.take n
      let ts := if ringKind s r = 8 || ringKind s r = 9 then s.nowLo else u.ts.getD (freeWord s)
      let s := if u.ts.isNone then takeFresh s else s
      let w2 := statWord s u.status ts
      let ws := statWrites rx w2 true u.lens 0 (if ringKind s r = 9 then ds.take 1 else ds)
      let s := if ringKind s r = 3 && s.eth.wire == some (ringBind s r % 8) then
          let s := if ethOnWire s (ringBind s r % 8) then xbUntil s.eth.wireEnd s else s
          { s with eth := { s.eth with txq := SMap.erase (ringBind s r % 8) s.eth.txq } } else s
      starveCheck r (commitAt r n ws (ds.any (fun d => bget d.w0 39)) false s)

/-- One status write at its target. -/
def statPut (base : Option Nat) (n : Nat) (w : StatWr) (s : State) : FStatus × State :=
  match base with
  | none => (.prot, s)
  | some b =>
    let pa := b + 4 * (w.idx % n) + 1
    let o := pa % 16
    uncachedWrite 8 (pa / 16) (w.mask * 2 ^ (5 * o)) (List.replicate o MWord.zero ++ [⟨w.w1, .good⟩, ⟨w.w2, .good⟩]) s

def statPuts (base : Option Nat) (n : Nat) : List StatWr → State → Option Nat × State
  | [], s => (none, s)
  | w :: t, s =>
    let q := statPut base n w s
    if q.1 = .ok then statPuts base n t q.2 else (some w.idx, q.2)

/-- STATUS_WRITES_DONE on ring r: the status writes of its oldest commit complete, or their responses are stale (R467, R480); writes issued before a
reset may still be performed, as a free value says (R466). -/
def statusDone (r : Nat) (s : State) : State :=
  let rg := s.ring r
  match rg.jobs with
  | [] => s
  | j :: t =>
    let s := s.setRing r { rg with jobs := t }
    if 16 ≤ j.func then s.addTo Reg.SEG_STALE_CNT j.writes.length
    else if j.gen ≠ fnGen s j.func then
      let s := if freeNat s % 2 = 1 then (statPuts (arrayPa s r) (ringN s r) j.writes (takeFresh s)).2 else takeFresh s
      setEvt j.func 3 (s.addTo (Reg.SEF_STALE_CNT j.func) j.writes.length)
    else
      let q := statPuts (arrayPa s r) (ringN s r) j.writes (s.addTo (Reg.SEF_REQ_CNT j.func) j.writes.length)
      match q.1 with
      | some idx => haltRing r 5 idx (ringBase s r + 4 * (idx % ringN s r)) 0 q.2
      | none =>
        let s := (q.2.addTo (Reg.SEF_RING_DONE_CNT r) j.count).setReg (Reg.SEF_RING_LAST_TS r) j.tick
        if j.int then raise r s else s

/-! ### Aborts (R462, R465) -/


/-- Words 0 and 1 of descriptor idx: as fetched, else as memory holds them. -/
def peekDesc (r idx : Nat) (s : State) : FDesc :=
  match (s.ring r).fetched.find? (fun d => d.idx == idx) with
  | some d => d
  | none =>
    match arrayPa s r with
    | none => ⟨idx, 0, 0, 0, 0⟩
    | some b =>
      let pa := b + 4 * (idx % ringN s r)
      let l := (coherentLine s (pa / 16)).drop (pa % 16)
      ⟨idx, (l.getD 0 MWord.zero).v, (l.getD 1 MWord.zero).v, 0, 0⟩

/-- The last descriptor that an abort of idx takes: the end of the transmit unit it falls in (R462). -/
def abortEnd (s : State) (r : Nat) : Nat → Nat → Nat
  | 0, idx => idx
  | f + 1, idx =>
    if mod16 (ringTail s r) ((idx + 1) % 65536) = 0 || descEof (peekDesc r idx s) then idx else abortEnd s r f ((idx + 1) % 65536)

/-- The words of the n descriptors from HEAD that a transmit unit in progress has not yet moved. -/
def wordsLeft (r n moved : Nat) (s : State) : Nat :=
  (((List.range n).map (fun i => descLen (peekDesc r ((ringHead s r + i) % 65536) s))).foldl (· + ·) 0) - moved

/-- The unit in progress ends, and with it the n descriptors from HEAD: at its peripheral as an aborted unit, or by discard. -/
def endUnit (r cnt n : Nat) (s : State) : State :=
  match (s.ring r).unit with
  | none => s
  | some u => if ringIsRx s r then rxDiscard r cnt s else (sinkAbort r (wordsLeft r n u.moved s) s).setRing r { s.ring r with unit := none }

/-- The n descriptors from HEAD commit with ABORTED, as one event. -/
def commitAborted (r n : Nat) (s : State) : State :=
  let rx := ringIsRx s r
  let lens := match (s.ring r).unit with | some u => if rx then u.lens else [] | none => []
  let ts := match (s.ring r).unit with | some u => u.ts | none => none
  let s := endUnit r 1 n s
  let t := if ringKind s r = 8 || ringKind s r = 9 then s.nowLo else ts.getD (freeWord s)
  let s := takeFresh s
  let ds := (List.range n).map (fun i => peekDesc r ((ringHead s r + i) % 65536) s)
  let ds' := if ringKind s r = 9 then ds.filter (fun d => d.idx % 2 == 0) else ds
  let ws := statWrites rx (statWord s 1 t) false lens 0 ds'
  (commitAt r n ws (ds.any (fun d => bget d.w0 39)) true s).addTo (Reg.SEF_RING_ABORT_CNT r) n

/-- A ring's ABORT command (R462). -/
def ringAbortCmd (r idx : Nat) (s : State) : State :=
  if ringKind s r = 9 && idx % 2 = 1 then s.setBit (Reg.SEF_RING_STATUS r) 8 true
  else if mod16 (ringHead s r + 65535) idx < ringN s r then
    s.setFld (Reg.SEF_RING_STATUS r) 11 10 2
  else if mod16 idx (ringHead s r) < handedOver s r then
    let last := if ringKind s r = 9 then (idx + 1) % 65536
      else if framedKind (ringKind s r) && !ringIsRx s r then abortEnd s r 16 idx else idx
    let s := s.setRing r { s.ring r with meAbort := 0 }
    (commitAborted r (mod16 last (ringHead s r) + 1) s).setFld (Reg.SEF_RING_STATUS r) 11 10 1
  else s.setBit (Reg.SEF_RING_STATUS r) 8 true

/-- A ring's RESUME command (R463). -/
def ringResumeCmd (r : Nat) (s : State) : State :=
  if ringState s r = 3 then
    let n := match (s.ring r).unit with | some u => if ringIsRx s r then u.lens.length else u.n | none => 0
    let s := ((s.setFld (Reg.SEF_RING_STATUS r) 3 0 0).setReg (Reg.SEF_RING_ERR_IDX r) 0).setRing r { s.ring r with fetched := (s.ring r).fetched.take n }
    setRingState r 1 s
  else s.setBit (Reg.SEF_RING_STATUS r) 8 true

def ringCmd (r : Nat) (v : Word) (s : State) : State :=
  match fget v 17 16 with
  | 1 => ringAbortCmd r (fget v 15 0) s
  | 2 => ringResumeCmd r s
  | _ => s.setBit (Reg.SEF_RING_STATUS r) 8 true

/-! ### Enabling and draining (R461) -/

/-- BIND is valid for the kind (R449, R520). -/
def bindOk (s : State) (r : Nat) : Bool :=
  let b := ringBind s r
  match ringKind s r with
  | 1 => decide (b < 8) && !(audMask s b true).isEmpty && s.bit (Reg.AUD_CTL b) 3
  | 2 => decide (b < 8) && !(audMask s b false).isEmpty && s.bit (Reg.AUD_CTL b) 4
  | 3 => decide (b < 8)
  | 4 => decide (b < 8)
  | 5 => decide (b < 8)
  | 6 => decide (b < 8)
  | 7 => decide (b < 4)
  | 8 => true
  | _ => b == 0

def dirOk (s : State) (r : Nat) : Bool := !ringDir s r || ringKind s r == 7 || ringKind s r == 8

/-- Another ring holds the binding that ring r claims. -/
def bindBusy (s : State) (r : Nat) : Bool :=
  ringKind s r != 9 && (List.range 64).any (fun q => q != r && (s.ring q).bound && ringKind s q == ringKind s r && ringBind s q == ringBind s r &&
    ringDir s q == ringDir s r)

/-- EN becomes 1 (R461, R475). -/
def enableRing (r : Nat) (s : State) : State :=
  let refuse := fun e => captureFn (fnOf s r) r e (ringBase s r) ((s.setFld (Reg.SEF_RING_STATUS r) 3 0 e).setBit (Reg.SEF_RING_CFG r) 39 false)
  if ringKind s r = 0 || !bindOk s r || !dirOk s r then refuse 8
  else if (arrayPa s r).isNone then refuse 6
  else if bindBusy s r then refuse 7
  else setRingState r 1 (s.setRing r { s.ring r with fetched := [], unit := none, hold := none, bound := true })

/-- A write of a ring's CFG. -/
def ringCfgWrite (ep r : Nat) (v : Word) (s : State) : State :=
  let a := Reg.SEF_RING_CFG r
  let was := ringEn s r
  let badKind := decide (10 < fget v 35 32) || (fget v 35 32 == 10 && r != 63)
  let keep := fun f : Fld => f.name = "EN" || (!was && !(f.name = "KIND" && badKind))
  let s := writeRegIf keep ep a v s
  let s := if badKind && !was && r ≠ 63 then captureRsvd ep a v s else s
  if !was && bget v 39 then enableRing r s
  else if was && !bget v 39 then (if ringState s r = 0 then s else setRingState r 2 (evictRing r s))
  else s

/-- RING_OFF on ring r: a drained ring with no request outstanding becomes OFF and releases its binding. -/
def ringOff (r : Nat) (s : State) : State :=
  let rg := s.ring r
  if ringState s r = 2 && rg.unit.isNone && rg.jobs.isEmpty && s.seg.reqs.all (fun e => e.2.ring != r) then
    setRingState r 0 (s.setRing r { rg with fetched := [], hold := none, bound := false })
  else s

/-- QUIESCED: STATE is OFF and no request of the ring is outstanding; a reset sets it whatever older generations still await (R466). -/
def ringQuiesced (s : State) (r : Nat) : Bool :=
  let old := fun (f g : Nat) => decide (ringFn s r ≠ some f) || g != fnGen s f
  ringState s r == 0 && (s.ring r).jobs.all (fun j => old j.func j.gen) && s.seg.reqs.all (fun e => e.2.ring != r || old e.2.func e.2.gen)

/-- A write of TAIL (R451); a descriptor handed over ends a hold (R459). -/
def tailWrite (r t : Nat) (s : State) : State :=
  let n := ringN s r
  if mod16 t (ringHead s r) ≤ n && mod16 t (ringTail s r) ≤ n - handedOver s r && !(ringKind s r = 9 && t % 2 = 1) then
    let s := s.setReg (Reg.SEF_RING_TAIL r) (nw t)
    if handedOver s r ≤ ((s.ring r).unit.map (fun u => u.lens.length)).getD 0 then s else s.setRing r { s.ring r with hold := none }
  else s.setBit (Reg.SEF_RING_STATUS r) 9 true

/-! ### Master enable and reset (R465, R466) -/

def meOffRing (r : Nat) (s : State) : State :=
  match (s.ring r).unit with
  | none => s
  | some u =>
    if ringIsRx s r then rxDiscard r 1 s
    else
      let s' := (sinkAbort r (if u.moved = 0 then 0 else wordsLeft r u.n u.moved s) s).setRing r { s.ring r with unit := none }
      if u.moved = 0 then s' else s'.setRing r { s'.ring r with meAbort := u.n }

def meOnRing (r : Nat) (s : State) : State :=
  let n := (s.ring r).meAbort
  if n = 0 then s else commitAborted r n (s.setRing r { s.ring r with meAbort := 0 })

/-- `SEF_n_STATUS.QUIESCED` becomes 1 once OUTSTANDING is zero with ME = 0 (R465, R470). -/
def quiesce (f : Nat) (s : State) : State :=
  if !fnMe s f && outstanding s f == 0 && !s.bit (Reg.SEF_STATUS f) 0 then setEvt f 1 (s.setBit (Reg.SEF_STATUS f) 0 true) else s

def meWrite (f : Nat) (b : Bool) (s : State) : State :=
  let was := fnMe s f
  let s := s.setBit (Reg.SEF_CTL f) 0 b
  if was && !b then quiesce f ((fnRings s f).foldl (fun s r => meOffRing r s) s)
  else if !was && b then (fnRings s f).foldl (fun s r => meOnRing r s) (s.setBit (Reg.SEF_STATUS f) 0 false)
  else s

def resetRing (r : Nat) (s : State) : State :=
  let s := endUnit r 2 (((s.ring r).unit.map (fun u => u.n)).getD 0) (evictRing r s)
  let s := s.setRing r { Ring.reset with jobs := (s.ring r).jobs }
  let s := ((s.setBit (Reg.SEF_RING_CFG r) 39 false).setReg (Reg.SEF_RING_HEAD r) 0).setReg (Reg.SEF_RING_TAIL r) 0
  (s.setReg (Reg.SEF_RING_STATUS r) (resetOf (Reg.SEF_RING_STATUS r))).setReg (Reg.SEF_RING_ERR_IDX r) 0

/-- A function reset, as one event (R466). -/
def functionReset (f : Nat) (s : State) : State :=
  let s := (advanceGen f s).setBit (Reg.SEF_CTL f) 0 false
  let s := (fnRings s f).foldl (fun s r => resetRing r s) s
  let s := if s.bit (Reg.SEF_STATUS f) 0 then s else setEvt f 1 (s.setBit (Reg.SEF_STATUS f) 0 true)
  setEvt f 0 (s.inc (Reg.SEF_RESET_CNT f))

/-! ### The partition manager's commands (R441, R442, R464) -/

def maskRings (s : State) : List Nat :=
  (List.range 64).filter (fun r => if r < 40 then s.bit Reg.SEG_CMD_ARG0 r else s.bit Reg.SEG_CMD_ARG1 (r - 40))

def setOwner (r : Nat) (o : Option Nat) (s : State) : State :=
  { s with seg := { s.seg with owner := match o with | some f => SMap.insert r f s.seg.owner | none => SMap.erase r s.seg.owner,
                               fgtTaken := s.seg.fgtTaken || (r == 63 && o.isSome) } }

/-- CREATE f: the result and the state. -/
def segCreate (f : Nat) (s : State) : Nat × State :=
  if 16 ≤ f then (2, s)
  else if fnCreated s f then (6, s)
  else if !(maskRings s).all (fun r => (ringFn s r).isNone) then (3, s)
  else
    let s := (s.setReg (Reg.SEF_ID f) (nw (2 ^ 8 + s.fld Reg.SEG_CMD_ARG1 27 24 * 2 ^ 4 + f))).setBit (Reg.SEF_CTL f) 0 false
    let s := (List.range 8).foldl (fun s w => s.setBit (Reg.SEF_WIN_A f w) 39 false) s
    let s := s.setFld (Reg.SEF_CFG f) 5 0 48
    (0, (maskRings s).foldl (fun s r => setOwner r (some f) s) s)

/-- Requests outstanding for a function that is destroyed are no function's any more (R480). -/
def orphanReqs (f : Nat) (s : State) : State :=
  { s with seg := { s.seg with
    rings := s.seg.rings.map (fun e => (e.1, { e.2 with jobs := e.2.jobs.map (fun j => if j.func = f then { j with func := 16 } else j) })),
    reqs := s.seg.reqs.map (fun e => (e.1, if e.2.func = f then { e.2 with func := 16 } else e.2)) } }

def segDestroy (f : Nat) (s : State) : Nat × State :=
  if !fnCreated s f then (2, s)
  else if fnMe s f then (5, s)
  else if !(fnRings s f).all (fun r => ringState s r == 0) then (4, s)
  else if ringFn s 63 = some f then (3, s)
  else
    let s := advanceGen f (orphanReqs f s)
    (0, ((fnRings s f).foldl (fun s r => setOwner r none s) s).setReg (Reg.SEF_ID f) (nw f))

def segMoveRing (r f : Nat) (s : State) : Nat × State :=
  if !(fnCreated s f || f == 31) then (2, s)
  else if r = 63 && f = 31 then (3, s)
  else if !ringQuiesced s r then (4, s)
  else (0, setOwner r (if f = 31 then none else some f) s)

def segResetCmd (f : Nat) (s : State) : Nat × State := if !fnCreated s f then (2, s) else (0, functionReset f s)

/-- A write of `SEG_CMD` with its result. -/
def segCmd (v : Word) (s : State) : State :=
  let f := fget v 9 5
  let q := match fget v 3 0 with
    | 1 => segCreate f s
    | 2 => segDestroy f s
    | 3 => segMoveRing (fget v 15 10) f s
    | 4 => segResetCmd f s
    | _ => (1, s)
  q.2.setReg Reg.SEG_CMD_RESULT (nw q.1)

/-! ### Register writes and views -/

/-- A write to the SEG page. -/
def segPageWrite (ep a : Nat) (v : Word) (s : State) : State := if a = Reg.SEG_CMD then segCmd v s else writeReg ep a v s

/-- A write to a register of the page of function f, above its ring slots (R443): PROT where a PM field is written from below PL2. -/
def sefPageWrite (ep pl f a : Nat) (v : Word) (s : State) : FStatus × State :=
  let pm := a == Reg.SEF_CFG f || (decide (Reg.SEF_WIN_A f 0 ≤ a) && decide (a ≤ Reg.SEF_WIN_B f 7))
  if pm && decide (pl < 2) then (.prot, s)
  else if a = Reg.SEF_CTL f then
    let s := meWrite f (bget v 0) s
    (.ok, if bget v 1 then functionReset f s else s)
  else if a = Reg.SEF_EVT f || a = Reg.SEF_EVT_EN f then (.ok, lv1 (64 + f) (writeReg ep a v) s)
  else (.ok, writeReg ep a v s)

/-- A write to ring r's slot at offset o. -/
def ringSlotWrite (ep r o : Nat) (v : Word) (s : State) : State :=
  let a := Reg.SEF_RING_CFG r + o
  match o with
  | 0 => ringCfgWrite ep r v s
  | 1 => if ringEn s r then s else writeReg ep a v s
  | 2 => if ringEn s r then s else writeReg ep a v s
  | 4 => tailWrite r (fget v 15 0) s
  | 6 => ringCmd r v s
  | _ => writeReg ep a v s

def anyUnit (s : State) : Bool := s.seg.rings.any (fun e => e.2.unit.isSome)

def ringsWord (p : Nat → Bool) (hi : Bool) : Word := if hi then wordOfBits 24 (fun i => p (40 + i)) else wordOfBits 40 p

def segTotalOut (s : State) : Nat := s.seg.reqs.length + (s.seg.rings.map (fun e => (e.2.jobs.map (fun j => j.writes.length)).sum)).sum

/-- Computed values of the SEG page and the function pages. -/
def segView (s : State) (a : Nat) : Option Word :=
  if a = Reg.SEG_STATUS then some (nw (b2n (s.bit Reg.SEG_CTL 0 && !anyUnit s) * 2 + b2n (!anyUnit s)))
  else if a = Reg.SEG_POOL_LO then some (ringsWord (fun r => (ringFn s r).isNone) false)
  else if a = Reg.SEG_POOL_HI then some (ringsWord (fun r => (ringFn s r).isNone) true)
  else if a = Reg.SEG_FUNCS then some (wordOfBits 16 (fun f => fnCreated s f))
  else if a = Reg.SEG_TAGS then some (nw (segTotalOut s))
  else if a = Reg.SEG_LINES then some (nw (s.agent 8).lines.length)
  else if Reg.SEG_RING_OWNER 0 ≤ a && decide (a < Reg.SEG_RING_OWNER 64) then
    let r := a - Reg.SEG_RING_OWNER 0
    some (nw (ringKind s r * 2 ^ 8 + ringState s r * 2 ^ 5 + b2n (ringFn s r).isNone * 2 ^ 4 + fnOf s r))
  else if 0x240000 ≤ a && decide (a < 0x250000) then
    let f := (a - 0x240000) / 0x1000
    if a = Reg.SEF_STATUS f then
      some (nw (fnGen s f * 2 ^ 20 + oldOutstanding s f % 64 * 2 ^ 14 + outstanding s f % 64 * 2 ^ 8 + b2n (s.bit (Reg.SEF_STATUS f) 0)))
    else if a = Reg.SEF_RINGS_LO f then some (ringsWord (fun r => decide (ringFn s r = some f)) false)
    else if a = Reg.SEF_RINGS_HI f then some (ringsWord (fun r => decide (ringFn s r = some f)) true)
    else none
  else if 0x400000 ≤ a && decide (a < 0x400400) && a % 16 = 5 then
    let r := (a - 0x400000) / 16
    some (fset (s.reg a) 12 12 (b2n (ringQuiesced s r)))
  else none

/-! ### Holds and timeouts -/

/-- RX_HOLD_TIMEOUT on ring r (R459): edge RX_HOLD_US + 1 of a hold. -/
def rxHoldTimeout (r : Nat) (s : State) : State :=
  match (s.ring r).hold with
  | some t => if t + s.fld (Reg.SEF_RING_CFG2 r) 9 0 + 1 ≤ s.tb.pulses then rxDiscard r 0 s else s
  | none => s

/-- BLOCK_TIMEOUT on ring r (R455): the block commits at the second TB_PULSE edge after its first record. -/
def blockTimeout (r : Nat) (s : State) : State :=
  match (s.ring r).unit with
  | some u =>
    match u.since with
    | some t => if t + 2 ≤ s.tb.pulses && u.wait.isNone && (ringKind s r == 7 || ringKind s r == 10) then unitCommit r (setUnit r { u with complete := true } s) else s
    | none => s
  | none => s

/-- The response of the engine's request with tag t arrives: it is stale, or its ring goes on (R467, R480). -/
def segAnswer (srv : Server) (t : Nat) (st : FStatus) (d : Line) (s : State) : State :=
  match SMap.find t s.seg.reqs with
  | none => s
  | some q =>
    let s := { s with seg := { s.seg with reqs := SMap.erase t s.seg.reqs } }
    if 16 ≤ q.func then s.inc Reg.SEG_STALE_CNT
    else if q.gen ≠ fnGen s q.func then setEvt q.func 3 (s.inc (Reg.SEF_STALE_CNT q.func))
    else
      match (s.ring q.ring).unit with
      | none => s
      | some u =>
        if u.wait ≠ some t then s
        else if ringIsRx s q.ring then rxData srv q.ring (rxPut q.ring u.waitLen st s)
        else if !u.staged.isEmpty then txLoop srv q.ring 600 (copyPut q.ring st s)
        else txLoop srv q.ring 600 (txGot q.ring u.waitLen st d s)

end Sys2Proof.Machine
end

