-- ==== Sys2Proof/Machine/Audio.lean ====
section
/-!
DEFINITION. Audio ports (R514-R527, R541-R545, R549) and MIDI (R528-R531, R546).
-/
set_option linter.constructorNameAsVariable false

namespace Sys2Proof.Machine

def audStat (n i : Nat) (s : State) : State := lv1 (80 + n) (fun s => s.setBit (Reg.AUD_STATUS n) i true) s

def audGen (s : State) (n : Nat) : Nat := s.fld (Reg.AUD_CTL n) 10 8
def audMaster (s : State) (n : Nat) : Bool := s.bit (Reg.AUD_CTL n) 2
def genNum (s : State) (g : Nat) : Nat := s.fld (Reg.TB_RGEN_NUM g) 31 0
def genDen (s : State) (g : Nat) : Nat := s.fld (Reg.TB_RGEN_DEN g) 19 0

/-- A ring with EN = 1 is bound to port n. -/
def audRingEn (s : State) (n : Nat) : Bool :=
  (List.range 64).any (fun r => (s.ring r).bound && ringEn s r && (ringKind s r == 1 || ringKind s r == 2) && ringBind s r == n)

/-! ### Enable, stop (R519, R523, R527) -/

/-- The limits of R519, with its margin of 0.01 %. -/
def audRateOk (s : State) (n : Nat) : Bool :=
  let g := audGen s n
  let fs := s.fld Reg.TB_TICK_FS 23 0
  let f := 10 ^ 15 * genDen s g
  let d := genNum s g * fs
  let hi := if audSlots s n ≤ 2 then 384000 else 192000
  decide (32000 * 9999 * d ≤ f * 10000) && decide (f * 10000 ≤ hi * 10001 * d) && decide (f * audBpf s n * 10000 ≤ 49152000 * 10001 * d) &&
  s.bit (Reg.TB_RGEN_CTL g) 0

/-- The words in the output queue go; the unit they belong to counts them as taken (log row 20). -/
def audFlushOut (n : Nat) (s : State) : State :=
  let k := (s.aud n).outQ.length
  let s := s.setAud n { s.aud n with outQ := [] }
  match boundRing s 1 n false with
  | none => s
  | some r =>
    match (s.ring r).unit with
    | none => s
    | some u => let u := { u with taken := u.taken + k }; setUnit r { u with complete := u.complete || decide (unitTotal s r u ≤ u.taken) } s

/-- The port stops: clocks low, queues emptied, PRIMED cleared. -/
def audStop (n : Nat) (s : State) : State :=
  let s := audFlushOut n s
  let p := s.aud n
  (s.setAud n { p with on := false, started := false, stopping := false, inQ := [], lack := 0, sdo := [], muted := false, lens := [] }).setBit
    (Reg.AUD_STATUS n) 6 false

/-- A write of a port's CTL (R519, R527). -/
def audCtlWrite (ep n : Nat) (v : Word) (s : State) : State :=
  let a := Reg.AUD_CTL n
  let was := s.bit a 0
  let free := !was && !audRingEn s n
  let s := writeRegIf (fun f => f.name = "MUTE" || f.name = "EN" || free) ep a v s
  let p := s.aud n
  if !was && bget v 0 then
    if audRateOk s n then s.setAud n (if p.on then { p with stopping := false } else { p with on := true, stopping := false, started := false, last := s.now })
    else audStat n 5 (s.setBit a 0 false)
  else if was && !bget v 0 then s.setAud n { p with stopping := p.on }
  else s

/-- A write of FMT or a slot mask (R515, R519); a WIDTH above SLOT_BITS leaves WIDTH unchanged. -/
def audFmtWrite (ep n a : Nat) (v : Word) (s : State) : State :=
  if s.bit (Reg.AUD_CTL n) 0 || audRingEn s n then s
  else
    let old := s.fld (Reg.AUD_FMT n) 5 4
    let s := writeReg ep a v s
    if a = Reg.AUD_FMT n && decide (s.fld a 7 6 < s.fld a 5 4) then s.setFld a 5 4 old else s

/-! ### Output (R516, R522-R527) -/

def topBits (w : Nat) (x : Word) : Word := x &&& fmask 39 (40 - w)

/-- Put the words of a frame into their slots. -/
def slotWords (ws : List Word) : List Nat → List Nat → List Word
  | [], _ => []
  | i :: t, en => if en.contains i then ws.headD 0 :: slotWords (ws.drop 1) t en else 0 :: slotWords ws t en

def audUnderrun (n t : Nat) (s : State) : State := ((audStat n 0 s).inc (Reg.AUD_UNDERRUN_CNT n)).setReg (Reg.AUD_UNDER_TICK n) (nw t)

/-- The words at the front of port n's output queue that arrived 200 ns or more before tick t (R522, R544). -/
def audPresent (s : State) (n t : Nat) : Nat :=
  ((s.aud n).outQ.takeWhile (fun w => decide (200000000 ≤ (t - w.2) * s.fld Reg.TB_TICK_FS 23 0))).length

/-- The output of a frame that starts at tick t. -/
def audOut (n t : Nat) (muted : Bool) (s : State) : State :=
  let p := s.aud n
  let en := audMask s n true
  let g := en.length
  let slots := List.range (audSlots s n)
  if !s.bit (Reg.AUD_CTL n) 3 || g = 0 then s.setAud n { p with sdo := slots.map (fun _ => 0) }
  else if g ≤ audPresent s n t then
    let ws := (p.outQ.take g).map (fun w => topBits (audWidth s n) w.1)
    let s := s.setAud n { p with outQ := p.outQ.drop g, lack := 0, sdo := if muted then slots.map (fun _ => 0) else slotWords ws slots en }
    let s := (s.setBit (Reg.AUD_STATUS n) 6 true).addTo (Reg.AUD_OUT_WORD_CNT n) g
    match boundRing s 1 n false with
    | some r => sinkTook r g (nw t) s
    | none => s
  else
    let s := s.setAud n { p with lack := p.lack - 1, sdo := slots.map (fun _ => 0) }
    if p.lack ≠ 0 || !s.bit (Reg.AUD_STATUS n) 6 then s
    else
      let s := audUnderrun n t s
      match boundRing s 1 n false with
      | some r => if ringRuns s r && (s.ring r).unit.isNone && handedOver s r == 0 then s.inc (Reg.SEF_RING_STARVE_CNT r) else s
      | none => s

/-- A frame boundary of port n at tick t. -/
def audFrame (n t : Nat) (s : State) : State :=
  let p := s.aud n
  if !p.on then s
  else if p.stopping then audStop n s
  else
    let s := if p.started then s else s.setReg (Reg.AUD_START_TICK n) (nw t)
    let s := (s.inc (Reg.AUD_FRAME_CNT n)).setReg (Reg.AUD_LAST_EDGE n) (nw t)
    let shed := decide (4 ≤ s.fld Reg.PWR_STATUS 2 0)
    let muted := s.bit (Reg.AUD_CTL n) 5 || shed
    let s := if shed && !s.bit (Reg.AUD_STATUS n) 7 then s.inc (Reg.AUD_SHED_MUTE_CNT n) else s
    let s := s.setBit (Reg.AUD_STATUS n) 7 shed
    let s := if muted && !p.muted then s.setReg (Reg.AUD_MUTE_TICK n) (nw t) else s
    let ls := if p.started then ((t - p.last) :: p.lens).take 256 else []
    audOut n t muted (s.setAud n { p with started := true, last := t, muted := muted, lens := ls })

/-- The stream engine refills port n's queue when a frame has left it (R522). -/
def audFeed (srv : Server) (n : Nat) (s : State) : State := match boundRing s 1 n false with | some r => pump srv r s | none => s

def audBoundary (srv : Server) (n t : Nat) (s : State) : State := audFeed srv n (audFrame n t s)

/-- The ports that run as masters from generator g. -/
def masterPorts (s : State) (g : Nat) : List Nat := (List.range 8).filter (fun n => (s.aud n).on && audMaster s n && audGen s n == g)

/-- The tick of bit boundary j of the frame in progress, at which SCK falls (R517); with `half`, of the rise of SCK after it. -/
def bitEdge (s : State) (n j : Nat) (half : Bool) : Nat :=
  let r := s.rgen (audGen s n)
  let m := (r.k - 1) * audBpf s n + j
  r.start + (2 * m + b2n half) * r.num / (2 * r.den * audBpf s n)

/-- Bit times by which the data of a slot follow its boundary (R514). -/
def audDelay (s : State) (n : Nat) : Nat := match s.fld (Reg.AUD_FMT n) 15 14 with | 0 => 1 | 1 => 0 | _ => s.fld (Reg.AUD_FMT n) 13 13

/-- The bits of a frame whose boundaries lie before tick t. -/
def bitsBefore (s : State) (n t : Nat) : Nat := ((List.range (audBpf s n)).filter (fun j => decide (bitEdge s n j false < t))).length

/-- SCK, WS and SDO of a running master port in bit j of its frame; SDO is none at high impedance (R514-R517, R521). The last `audDelay` data bits
of a frame leave in the bits after its end. -/
def audPins (s : State) (n j t : Nat) : Bool × Bool × Option Bool :=
  let p := s.aud n
  let b := audSlotBits s n
  let ws := match s.fld (Reg.AUD_FMT n) 15 14 with | 0 => decide (b ≤ j) | 1 => decide (j < b) | _ => j == 0
  let d := j - audDelay s n
  let low := if s.bit (Reg.AUD_CTL n) 6 then none else some false
  let sdo := if s.bit (Reg.AUD_CTL n) 3 && (audMask s n true).contains (d / b) && decide (audDelay s n ≤ j) && decide (d % b < audWidth s n)
    then some (bget (p.sdo.getD (d / b) 0) (39 - d % b)) else low
  (decide (bitEdge s n j true ≤ t), ws, sdo)

/-- The bits of a frame after its first `sent` become zero (R543, R545). -/
def cutSdo (n sent : Nat) (s : State) : State :=
  let p := s.aud n
  s.setAud n { p with sdo := p.sdo.mapIdx (fun i w => topBits (min (audWidth s n) (sent - (i * audSlotBits s n + audDelay s n))) w) }

/-- The clock of port n is lost: reported, and the port stops (R543, R549). -/
def audClkLost (n : Nat) (s : State) : State :=
  let s := (audStat n 4 s).inc (Reg.AUD_CLK_LOST_CNT n)
  audStop n (logErr .aud 0x49 n 0 0 (s.setBit (Reg.AUD_CTL n) 0 false))

/-- Generator g stops: its running master ports stop at that tick (R543). -/
def genStopped (g : Nat) (s : State) : State := (masterPorts s g).foldl (fun s n => audClkLost n (cutSdo n (bitsBefore s n s.now) s)) s

/-- A step from state `old` skips k boundaries of generator g at tick t (R545): the bits whose boundaries it has not reached are zero. -/
def audSkipped (old : State) (g k t : Nat) (s : State) : State :=
  if k = 0 then s
  else (masterPorts s g).foldl (fun s n =>
    if (s.aud n).started then
      let s := (cutSdo n (bitsBefore old n (old.now + 1)) s).addTo (Reg.AUD_FRAME_CNT n) k
      s.setAud n { s.aud n with last := t }
    else s) s

/-- AUDIO_FRAME (R524) at each boundary of generator g: every running master port. -/
def audGenBoundary (srv : Server) (g t : Nat) (s : State) : State := (masterPorts s g).foldl (fun s n => audBoundary srv n t s) s

/-! ### Input (R525) -/

/-- A received frame enters the input queue, or is dropped as an overrun. -/
def audStore (n : Nat) (ws : List Word) (s : State) : State :=
  let p := s.aud n
  if ws.isEmpty then s
  else if 64 < p.inQ.length + ws.length then
    ((audStat n 1 s).inc (Reg.AUD_OVERRUN_CNT n)).setReg (Reg.AUD_OVER_TICK n) s.nowLo
  else (s.setAud n { p with inQ := p.inQ ++ ws.map (fun w => (w, nw p.last)) }).addTo (Reg.AUD_IN_WORD_CNT n) ws.length

/-- The sample of a slot, left-justified (R516). -/
def inSample (w : Nat) (x : BitVec 32) : Word := nw (x.toNat % 2 ^ w * 2 ^ (40 - w))

def audReceive (n : Nat) (slots : List (BitVec 32)) (s : State) : State :=
  let p := s.aud n
  if p.on && p.started && s.bit (Reg.AUD_CTL n) 4 then audStore n ((audMask s n false).map (fun i => inSample (audWidth s n) (slots.getD i 0))) s
  else s

def audFrameErr (n : Nat) (s : State) : State :=
  let s := ((audStat n 3 s).inc (Reg.AUD_FRAME_ERR_CNT n)).setReg (Reg.AUD_ERR_TICK n) s.nowLo
  logErr .aud 0x48 n 0 0 s

/-- A slave port samples a frame start after `periods` SCK periods (R518, R549). -/
def audSlaveStart (srv : Server) (n periods : Nat) (s : State) : State :=
  let p := s.aud n
  if !p.on || audMaster s n || xaLost s then s
  else
    let s := if p.started && periods ≠ audBpf s n && !p.stopping then
        let s := audFrameErr n s
        if s.bit (Reg.AUD_CTL n) 4 then audStore n ((audMask s n false).map (fun _ => 0)) s else s
      else s
    audBoundary srv n s.now s

/-- AUD_CLK_LOST (R549): ticks pass until four frame periods without a frame start have gone by. -/
def audSlaveLost (n : Nat) (s : State) : State :=
  let p := s.aud n
  let g := audGen s n
  if p.on && !audMaster s n && tbRunning s then
    audClkLost n (advanceTo (p.last + (4 * genNum s g + genDen s g - 1) / max 1 (genDen s g)) s)
  else s

/-- A write of `AUD_n_INJECT`. -/
def audInject (n : Nat) (v : Word) (s : State) : State :=
  let s := if bget v 0 then audUnderrun n s.now s else s
  if bget v 1 then audFrameErr n s else s

def audWrite (ep a : Nat) (v : Word) (s : State) : State :=
  let n := (a - 0x260000) / 64
  if a = Reg.AUD_CTL n then audCtlWrite ep n v s
  else if a = Reg.AUD_FMT n || a = Reg.AUD_SLOT_OUT n || a = Reg.AUD_SLOT_IN n then audFmtWrite ep n a v s
  else if a = Reg.AUD_INJECT n then audInject n v s
  else lv1 (80 + n) (writeReg ep a v) s

/-- `AUD_n_PERIOD`: the mean of the last 256 frame lengths, in 1/256 tick (R518). -/
def audPeriod (s : State) (n : Nat) : Nat :=
  let l := (s.aud n).lens
  if l.isEmpty then 0 else l.foldl (· + ·) 0 * 256 / l.length

def audView (s : State) (a : Nat) : Option Word :=
  let n := (a - 0x260000) / 64
  let p := s.aud n
  if a = Reg.AUD_OUT_LEVEL n then some (nw p.outQ.length)
  else if a = Reg.AUD_IN_LEVEL n then some (nw p.inQ.length)
  else if a = Reg.AUD_PERIOD n then some (nw (audPeriod s n))
  else none

/-! ### MIDI (R528-R531, R546) -/

def midEvt (i : Nat) (s : State) : State := lv1 96 (fun s => s.setBit Reg.MID_EVT i true) s

/-- An octet arrives on input m. -/
def midOctet (m : Nat) (o : BitVec 8) (fe : Bool) (s : State) : State :=
  let p := s.midIn m
  if p.low || smallStopped s then s
  else
    let s := s.inc (Reg.MID_IN_OCTET_CNT m)
    let s := if fe then s.inc (Reg.MID_IN_FE_CNT m) else s
    if 16 ≤ p.q.length then midEvt m ((s.inc (Reg.MID_IN_DROP_CNT m)).setMidIn m { p with ovr := true })
    else
      let w := nw (s.now % 2 ^ 30 * 2 ^ 10 + b2n fe * 2 ^ 9 + b2n p.ovr * 2 ^ 8 + o.toNat)
      s.setMidIn m { p with q := p.q ++ [(w, s.nowLo)], ovr := false }

/-- Input m is held low for longer than a frame, or has returned high (R531). -/
def midLow (m : Nat) (low : Bool) (s : State) : State :=
  let p := s.midIn m
  if smallStopped s then s
  else
    let s := if low && !p.low then s.inc (Reg.MID_IN_BREAK_CNT m) else s
    s.setMidIn m { p with low := low }

/-- 320 µs in ticks, for the compare of R546. -/
def midGap (s : State) : Nat := (320000000000 + s.fld Reg.TB_TICK_FS 23 0 - 1) / max 1 (s.fld Reg.TB_TICK_FS 23 0)

/-- The record at the front of output m is sent (R530, R546), 320 µs of XB or more after the octet before it (R528). -/
def midSend (srv : Server) (m : Nat) (s : State) : State :=
  let s := match boundRing s 7 m false with | some r => pump srv r s | none => s
  let p := s.midOut m
  match p.q with
  | [] => s
  | w :: t =>
    if smallStopped s then s
    else
      let tick := fget w 39 10
      let ahead := (tick + 2 ^ 30 - s.now % 2 ^ 30) % 2 ^ 30
      let past := decide (2 ^ 29 ≤ ahead)
      let inGap := match p.last with | some l => decide ((tick + 2 ^ 30 - l % 2 ^ 30) % 2 ^ 30 ≤ midGap s) | none => false
      let s := if bget w 9 && !past && tbRunning s then advanceTo (s.now + ahead) s else s
      let s := if p.last.isSome then xbUntil (p.lastXb + 320000000000) s else s
      let s := if bget w 9 && past && !inGap then midEvt (4 + m) (s.inc (Reg.MID_OUT_LATE_CNT m)) else s
      let s := if bget w 8 then s.inc (Reg.MID_OUT_RSVD_CNT m) else s
      let s := (s.inc (Reg.MID_OUT_OCTET_CNT m)).setMidOut m ⟨t, some s.now, s.tb.xbFs, fget w 7 0⟩
      match boundRing s 7 m false with
      | some r => pump srv r (sinkTook r 1 s.nowLo s)
      | none => s

def midView (s : State) (a : Nat) : Option Word :=
  if Reg.MID_IN_STAT 0 ≤ a && decide (a < Reg.MID_OUT_STAT 0) && (a - Reg.MID_IN_STAT 0) % 5 = 0 then
    let p := s.midIn ((a - Reg.MID_IN_STAT 0) / 5)
    some (nw (b2n p.low * 32 + p.q.length))
  else if Reg.MID_OUT_STAT 0 ≤ a && decide (a < Reg.MID_SNAP 0) && (a - Reg.MID_OUT_STAT 0) % 4 = 0 then
    some (nw (s.midOut ((a - Reg.MID_OUT_STAT 0) / 4)).q.length)
  else none

end Sys2Proof.Machine
end

