-- ==== Sys2Proof/Machine/Crc.lean ====
section
/-!
DEFINITION. The cyclic redundancy checks: CRC-32C as R377 states and the IEEE 802.3 CRC-32 that R557 names.
-/
namespace Sys2Proof.Machine

/-- n steps of a reflected CRC with polynomial p. -/
def crcSteps (p : Nat) : Nat → Nat → Nat
  | 0, c => c
  | n + 1, c => crcSteps p n (if c % 2 = 1 then (c / 2) ^^^ p else c / 2)

def crcOctets (p : Nat) : List Nat → Nat → Nat
  | [], c => c
  | o :: t, c => crcOctets p t (crcSteps p 8 (c ^^^ (o % 256)))

/-- CRC-32C: initial value FFFFFFFFh and final inversion (R377). -/
def crc32c (l : List Nat) : Nat := crcOctets 0x82F63B78 l 0xFFFFFFFF ^^^ 0xFFFFFFFF

/-- The IEEE 802.3 CRC-32. -/
def crc32 (l : List Nat) : Nat := crcOctets 0xEDB88320 l 0xFFFFFFFF ^^^ 0xFFFFFFFF

end Sys2Proof.Machine
end

