-- ==== Sys2Proof/Machine/SmallPorts.lean ====
section
/-!
DEFINITION. I2C (R532, R533), QSPI (R534), eMMC (R535, R536), GPIO (R537, R547) and the framing of the host port (R538, R539, R548), with
their failures (R549).
-/
set_option linter.constructorNameAsVariable false

namespace Sys2Proof.Machine

/-- What a register of a port does with a write: done, or held under R41. -/
inductive PortWr where
  | done (s : State)
  | held

/-- What a register of a port does with a read: its value, or held under R41. -/
inductive PortRd where
  | val (v : Word) (s : State)
  | held

/-! ### I2C -/

def i2cStat (p i : Nat) (s : State) : State := lv1 (97 + p) (fun s => s.setBit (Reg.I2C_STATUS p) i true) s

/-- A write of `I2C_p_CMD`: a push (R533). -/
def i2cPush (ep p : Nat) (v : Word) (s : State) : PortWr :=
  let c := s.i2c p
  if 4 < fget v 10 8 then .done (captureRsvd ep (Reg.I2C_CMD p) v s)
  else if 16 ≤ c.cmds.length then .held
  else .done (s.setI2c p { c with cmds := c.cmds ++ [fget v 10 8 * 256 + fget v 7 0] })

/-- Port p can run the command at the front of its queue, whose OP is `op`. -/
def i2cReady (s : State) (p op : Nat) : Bool :=
  s.bit (Reg.I2C_CTL p) 0 && !smallStopped s && (match (s.i2c p).cmds with | c :: _ => c / 256 == op | [] => false)

def i2cPop (p : Nat) (s : State) : State := s.setI2c p { s.i2c p with cmds := (s.i2c p).cmds.drop 1 }

/-- STOP has been sent. -/
def i2cEnd (p : Nat) (s : State) : State :=
  i2cStat p 0 ((s.setI2c p { s.i2c p with active := false }).inc (Reg.I2C_XFER_CNT p))

/-- The commands after the next STOP. -/
def afterStop : List Nat → List Nat
  | [] => []
  | c :: t => if c / 256 = 4 then t else afterStop t

/-- A NACK (R533): commands up to and including the next STOP are discarded, and a STOP is sent. -/
def i2cNack (p : Nat) (s : State) : State :=
  let s := i2cStat p 1 (s.inc (Reg.I2C_NACK_CNT p))
  i2cEnd p (s.setI2c p { s.i2c p with cmds := afterStop (s.i2c p).cmds })

/-- START with its address octet, or WRITE DATA (OP 0 and 1), answered by ACK or NACK. -/
def i2cSend (p op : Nat) (nack : Bool) (s : State) : State :=
  if !i2cReady s p op then s
  else
    let s := i2cPop p s
    let s := s.setI2c p { s.i2c p with active := true }
    if nack then i2cNack p s else s

/-- READ with ACK or NACK (OP 2 and 3). A full receive queue stretches SCL until an entry is freed. -/
def i2cRead (p op : Nat) (o : BitVec 8) (s : State) : State :=
  if !i2cReady s p op then s
  else
    let c := s.i2c p
    if 16 ≤ c.rx.length then (if c.stretched then s else (s.setI2c p { c with stretched := true }).inc (Reg.I2C_STRETCH_CNT p))
    else (s.setI2c p { c with cmds := c.cmds.drop 1, rx := c.rx ++ [o.toNat], stretched := false }).inc (Reg.I2C_RX_OCTET_CNT p)

def i2cStopCmd (p : Nat) (s : State) : State := if i2cReady s p 4 then i2cEnd p (i2cPop p s) else s

/-- SCL or SDA is held low (R549): the queues are emptied and the bus is released. -/
def i2cBus (p : Nat) (s : State) : State :=
  if !s.bit (Reg.I2C_CTL p) 0 || smallStopped s then s
  else logErr .i2c 0x4A p 0 0 (i2cStat p 2 ((s.setI2c p I2c.reset).inc (Reg.I2C_BUS_ERR_CNT p)))

/-- A read of `I2C_p_RXDATA` pops an octet (R698). -/
def i2cRxRead (p : Nat) (s : State) : Word × State :=
  match (s.i2c p).rx with
  | [] => (0, s)
  | o :: t => (nw (256 + o), s.setI2c p { s.i2c p with rx := t })

/-! ### QSPI -/

def qspiStart (v : Word) (s : State) : State := { s with ports := { s.ports with qspi := some v } }

/-- A write of `QSPI_CMD` (R534). -/
def qspiCmd (v : Word) (s : State) : PortWr :=
  if s.ports.qspi.isSome then .held
  else if 4 < fget v 31 29 || fget v 28 27 = 3 || 120 < fget v 6 0 then .done (s.inc Reg.QSPI_ERR_CNT)
  else .done (qspiStart v s)

/-- Write a list of words to registers from `a` on. -/
def setRegs (a : Nat) : List Word → State → State
  | [], s => s
  | w :: t, s => setRegs (a + 1) t (s.setReg a w)

/-- The transfer ends; a read brings the octets the flash gave. -/
def qspiDone (os : List (BitVec 8)) (s : State) : State :=
  match s.ports.qspi with
  | none => s
  | some v =>
    if smallStopped s then s
    else
      let len := fget v 6 0
      let l := (os.take len).map (fun o => o.toNat)
      let s := { s with ports := { s.ports with qspi := none } }
      let s := if bget v 21 then s else setRegs (Reg.QSPI_BUF 0) (packAll (l ++ List.replicate (len - l.length) 255)) s
      lv1 100 (fun s => s.setBit Reg.QSPI_STATUS 0 true) (s.inc Reg.QSPI_XFER_CNT)

/-! ### eMMC -/

def emcStat (i : Nat) (s : State) : State := lv1 101 (fun s => s.setBit Reg.EMC_STATUS i true) s

/-- A write of `EMC_CMD` (R535): held while a command is in progress, or a transfer that the command does not stop. -/
def emcCmd (v : Word) (s : State) : PortWr :=
  let e := s.emc
  if !s.bit Reg.EMC_CTL 0 then .done s
  else if e.cmd.isSome || (e.xfer.isSome && fget v 15 10 ≠ 12) then .held
  else .done ((s.setEmc { e with cmd := some v }).inc Reg.EMC_CMD_CNT)

/-- A CRC error or timeout: 0 command CRC, 1 data CRC, 2 command timeout, 3 data timeout (R549). -/
def emcFail (k : Nat) (s : State) : State :=
  let s := s.setEmc { s.emc with buf := [], cmd := none, xfer := none, left := some 0, stopped := false }
  let s := emcStat (k + 1) (s.inc (Reg.EMC_CMD_CRC_CNT + k))
  logErr .emc 0x4B 0 0 (nw (s.fld Reg.EMC_STATUS 5 1 * 2)) s

/-- A block as `EMC_DATA` carries it: 103 words, octets 2 to 4 of the last zero (R536). -/
def emcBlock (l : List Word) : List Word := (List.range 103).map (fun i => if i = 102 then l.getD i 0 &&& 0xFFFF else l.getD i 0)

/-- Blocks received go into the host's two buffers while there is room. -/
def emcTake : Nat → List Word → State → State
  | 0, _, s => s
  | f + 1, l, s =>
    let e := s.emc
    if l.length < 103 || e.left = some 0 then s
    else if 103 < e.buf.length then (if e.stopped then s else (s.setEmc { e with stopped := true }).inc Reg.EMC_CLK_STOP_CNT)
    else if Nat.testBit e.inject 2 then emcFail 3 (s.setEmc { e with inject := e.inject - 4 })
    else if Nat.testBit e.inject 1 then emcFail 1 (s.setEmc { e with inject := e.inject - 2 })
    else
      emcTake f (l.drop 103)
        ((s.setEmc { e with buf := e.buf ++ emcBlock (l.take 103), left := e.left.map (fun n => n - 1), stopped := false }).inc Reg.EMC_BLK_CNT)

/-- Whole blocks in the buffer go to the card. -/
def emcGive : Nat → State → State
  | 0, s => s
  | f + 1, s =>
    let e := s.emc
    if e.buf.length < 103 || e.left = some 0 then s
    else if Nat.testBit e.inject 2 then emcFail 3 (s.setEmc { e with inject := e.inject - 4 })
    else emcGive f ((s.setEmc { e with buf := e.buf.drop 103, left := e.left.map (fun n => n - 1) }).inc Reg.EMC_BLK_CNT)

/-- A transfer with no block left has completed. -/
def emcEnd (s : State) : State :=
  let e := s.emc
  if e.xfer.isSome && e.left = some 0 then emcStat 0 (s.setEmc { e with xfer := none, stopped := false }) else s

/-- A command's response, or blocks of the transfer, arrive or leave (R535, R536). -/
def emcDone (resp data : List Word) (s : State) : State :=
  if smallStopped s then s
  else
    let e := s.emc
    match e.cmd with
    | some v =>
      if fget v 9 8 ≠ 0 && Nat.testBit e.inject 0 then emcFail 0 (s.setEmc { e with inject := e.inject - 1 })
      else
        let n := fget v 9 8
        let s := if n = 0 then s else if n = 2 then setRegs (Reg.EMC_RESP 0) (resp.take 4) s else s.setReg (Reg.EMC_RESP 0) (resp.getD 0 0)
        if bget v 7 then
          let b := s.fld Reg.EMC_BLKCFG 15 0
          s.setEmc { e with cmd := none, xfer := some (bget v 6), left := if b = 0 then none else some b, buf := if bget v 6 then e.buf else [] }
        else emcStat 0 (s.setEmc { e with cmd := none, xfer := if fget v 15 10 = 12 then none else e.xfer,
                                          left := if fget v 15 10 = 12 then some 0 else e.left })
    | none =>
      match e.xfer with
      | none => s
      | some true => emcEnd (emcGive 2 s)
      | some false => emcEnd (emcTake 3 data s)

/-- EMC_ERR: an error the card's answer shows. -/
def emcErr (k : Nat) (s : State) : State := if (s.emc.cmd.isSome || s.emc.xfer.isSome) && !smallStopped s then emcFail k s else s

def emcDataRead (s : State) : PortRd :=
  match s.emc.buf with
  | [] => .held
  | w :: t => .val w (s.setEmc { s.emc with buf := t })

def emcDataWrite (v : Word) (s : State) : PortWr :=
  if 206 ≤ s.emc.buf.length then .held
  else .done (s.setEmc { s.emc with buf := s.emc.buf ++ [if s.emc.buf.length % 103 = 102 then v &&& 0xFFFF else v] })

/-- Tuning ends with a phase, or fails (R535). -/
def emcTune (res : Option Nat) (s : State) : State :=
  let s := s.inc Reg.EMC_TUNE_CNT
  match res with
  | some ph => emcStat 0 (s.setFld Reg.EMC_TUNE 5 0 ph)
  | none => emcStat 5 s

/-- The outcome of tuning when nothing outside says it (log row 2). -/
def freeTune (s : State) : Option Nat := if freeBool s then some (Config.freeNat (s.fresh + 1) % 64) else none

def emcWrite (ep a : Nat) (v : Word) (s : State) : PortWr :=
  if a = Reg.EMC_CMD then emcCmd v s
  else if a = Reg.EMC_DATA then emcDataWrite v s
  else if a = Reg.EMC_TUNE then .done (if bget v 6 && !smallStopped s then emcTune (freeTune s) { s with fresh := s.fresh + 2 } else s)
  else if a = Reg.EMC_INJECT then .done (s.setEmc { s.emc with inject := s.emc.inject ||| fget v 2 0 })
  else .done (lv1 101 (writeReg ep a v) s)

/-! ### GPIO -/

/-- Line l of a `_LO`, `_HI` pair of registers from `a`. -/
def gpioBit (s : State) (a l : Nat) : Bool := if l < 40 then s.bit a l else s.bit (a + 1) (l - 40)
def setGpio (a l : Nat) (b : Bool) (s : State) : State := if l < 40 then s.setBit a l b else s.setBit (a + 1) (l - 40) b

/-- An input edge on line l (R537, R547). -/
def gpioEdge (l : Nat) (rise : Bool) (s : State) : State :=
  if gpioBit s Reg.GPIO_IN_LO l = rise then s
  else
    let deb := gpioBit s Reg.GPIO_DEB_EN_LO l
    let early := match SMap.find l s.ports.gpioEdge with | some t => decide (s.tb.pulses < t + s.fld Reg.GPIO_DEB_TIME 9 0) | none => false
    if deb && early then s
    else
      let s := setGpio Reg.GPIO_IN_LO l rise { s with ports := { s.ports with gpioEdge := SMap.insert l s.tb.pulses s.ports.gpioEdge } }
      if gpioBit s (if rise then Reg.GPIO_IRQ_RISE_LO else Reg.GPIO_IRQ_FALL_LO) l then
        let same := s.reg Reg.GPIO_LAST_TICK == s.nowLo && s.reg Reg.GPIO_EVT_CNT != 0
        let line := if same then min l (s.fld Reg.GPIO_LAST_LINE 5 0) else l
        let s := ((s.setReg Reg.GPIO_LAST_LINE (nw line)).setReg Reg.GPIO_LAST_TICK s.nowLo).inc Reg.GPIO_EVT_CNT
        lv1 102 (setGpio Reg.GPIO_IRQ_STAT_LO l true) s
      else s

/-- A write of `GPIO_OUT_SET` or `GPIO_OUT_CLR`, as one event. -/
def gpioOut (hi clr : Bool) (v : Word) (s : State) : State :=
  let a := if hi then Reg.GPIO_OUT_HI else Reg.GPIO_OUT_LO
  let m := if hi then v &&& 0xFF else v
  s.setReg a (if clr then s.reg a &&& ~~~ m else s.reg a ||| m)

def gpioWrite (ep a : Nat) (v : Word) (s : State) : State :=
  if a = Reg.GPIO_OUT_SET_LO then gpioOut false false v s
  else if a = Reg.GPIO_OUT_SET_HI then gpioOut true false v s
  else if a = Reg.GPIO_OUT_CLR_LO then gpioOut false true v s
  else if a = Reg.GPIO_OUT_CLR_HI then gpioOut true true v s
  else lv1 102 (writeReg ep a v) s

/-! ### The host port -/

def hptStat (i : Nat) (s : State) : State := lv1 103 (fun s => s.setBit Reg.HPT_STATUS i true) s

/-- `HPT_STATUS` as it reads. -/
def hptStatus (s : State) : Word := fset (fset (s.reg Reg.HPT_STATUS) 13 7 s.hpt.rsp.length) 6 0 s.hpt.req.length

/-- Words of octets as the host sends them: octet 0 first. -/
def hostWords (os : List Nat) : List Word := packAll (os.take (os.length / 5 * 5))

/-- Response words leave on MISO after the status word; a partly clocked one is sent again (R538, R548). -/
def hptMiso (n : Nat) (s : State) : State :=
  let h := s.hpt
  s.setHpt { h with rsp := h.rsp.drop (n - 1), miso := if n = 0 then [] else hptStatus s :: (List.range (n - 1)).map (fun i => h.rsp.getD i 0) }

/-- A transaction's octets form one request (R539): its words without the CRC when it is accepted. -/
def hostRequest (os : List Nat) (s : State) : Option (List Word) × State :=
  let ws := hostWords os
  let s := hptMiso ws.length s
  let body := ws.dropLast
  let crc := ws.getLast?.getD 0
  if os.length % 5 ≠ 0 || ws.isEmpty then (none, (hptStat 16 s).inc Reg.HPT_FRAME_ERR_CNT)
  else if 64 < ws.length then (none, (hptStat 17 s).inc Reg.HPT_OVF_CNT)
  else if crc ≠ nw (crc32c ((body.map wordOctets).flatten)) then (none, (hptStat 15 s).inc Reg.HPT_CRC_ERR_CNT)
  else if 64 < s.hpt.req.length + body.length then (none, hptStat 18 s)
  else
    let s := (s.inc Reg.HPT_REQ_CNT).setReg Reg.HPT_LAST_TICK s.nowLo
    let s := setRegs (Reg.HPT_LAST_REQ 0) ((List.range 7).map (fun i => body.getD i 0)) s
    (some body, hptStat 14 s)

/-- Response words are queued for the host. -/
def hostRespond (ws : List Word) (s : State) : State :=
  let h := s.hpt
  (s.setHpt { h with rsp := (h.rsp ++ ws).take 64 }).addTo Reg.HPT_RSP_CNT 1

/-! ### Writes and views of these pages -/

def smallWrite (ep a : Nat) (v : Word) (s : State) : PortWr :=
  if a < 0x262000 then .done (lv1 96 (writeReg ep a v) s)
  else if a < 0x263000 then
    let p := (a - 0x262000) / 16
    if a = Reg.I2C_CMD p then i2cPush ep p v s else .done (lv1 (97 + p) (writeReg ep a v) s)
  else if a < 0x264000 then (if a = Reg.QSPI_CMD then qspiCmd v s else .done (lv1 100 (writeReg ep a v) s))
  else if a < 0x265000 then emcWrite ep a v s
  else if a < 0x266000 then .done (gpioWrite ep a v s)
  else .done (lv1 103 (writeReg ep a v) s)

def smallView (s : State) (a : Nat) : Option Word :=
  if a < 0x262000 then midView s a
  else if a < 0x263000 then
    let p := (a - 0x262000) / 16
    let c := s.i2c p
    if a = Reg.I2C_STATUS p then some (bset (s.reg a) 4 (c.active || !c.cmds.isEmpty))
    else if a = Reg.I2C_CMD_LEVEL p then some (nw c.cmds.length)
    else if a = Reg.I2C_RX_LEVEL p then some (nw c.rx.length)
    else if a = Reg.I2C_RXDATA p then some (i2cRxRead p s).1
    else none
  else if a = Reg.QSPI_STATUS then some (bset (s.reg a) 1 s.ports.qspi.isSome)
  else if a = Reg.EMC_STATUS then some (bset (s.reg a) 6 (s.emc.cmd.isSome || s.emc.xfer.isSome))
  else if a = Reg.EMC_LEVEL then some (nw s.emc.buf.length)
  else if a = Reg.HPT_STATUS then some (hptStatus s)
  else none

end Sys2Proof.Machine
end

