-- ==== Sys2Proof/Machine/Ethernet.lean ====
section
/-!
DEFINITION. The Ethernet MAC (R550-R569, R579, R581-R585, R589): transmit selection and the credit-based shaper, receive filtering and
classification, PAUSE, the stream time map, AAF streams and MDIO.
-/
set_option linter.constructorNameAsVariable false

namespace Sys2Proof.Machine

def updEth (f : Eth → Eth) (s : State) : State := { s with eth := f s.eth }

def ethStat (i : Nat) (s : State) : State := lv (fun s => s.setBit Reg.ETH_STATUS i true) s

/-- The MAC stands stopped: loss of XB (R53), or shed stop (R658). -/
def ethStopped (s : State) : Bool := s.tb.xbLost || s.bit (Reg.PWR_DOM 18) 11

/-- Non-stream traffic is refused from shedding stage 2 (R579, R656). -/
def shedNonStream (s : State) : Bool := decide (2 ≤ s.fld Reg.PWR_STATUS 2 0)

def ethGig (s : State) : Bool := s.bit Reg.ETH_CTL 2

/-- The port rate in kbit/s, and an octet time and a pause quantum in femtoseconds. -/
def ethRate (s : State) : Nat := if ethGig s then 1000000 else 100000
def octetFs (s : State) : Nat := if ethGig s then 8000000 else 80000000
def quantumFs (s : State) : Nat := 64 * octetFs s

/-! ### Queues -/

def txRing (s : State) (q : Nat) : Option Nat := boundRing s 3 q false

/-- The unit in the buffer of queue q is an AAF unit. -/
def txIsAaf (s : State) (e : EthTx) : Bool :=
  match (s.ring e.ring).unit with
  | some u => match (unitDescs s e.ring u).head? with | some d => decide (0x8000 ≤ descKctl d) | none => false
  | none => false

/-- All octets of the frame of queue q are in its buffer (R554), and an AAF frame has been built. -/
def txReady (s : State) (q : Nat) : Bool :=
  match SMap.find q s.eth.txq with
  | none => false
  | some e =>
    match (s.ring e.ring).unit with
    | none => false
    | some u => !u.complete && decide (unitTotal s e.ring u ≤ u.moved) && (!txIsAaf s e || e.stream.isSome)

/-! ### The credit-based shaper (R556) -/

def signed32 (w : Word) : Int := if fget w 31 0 < 2 ^ 31 then (fget w 31 0 : Int) else (fget w 31 0 : Int) - 2 ^ 32

def clampI (lo hi x : Int) : Int := if x < lo then lo else if hi < x then hi else x

/-- The registers that take effect at a frame start (R585), as they stand. -/
def ethWritten (s : State) : List Word :=
  [Reg.ETH_CTL, Reg.ETH_CBS_SLOPE 0, Reg.ETH_CBS_HI_CREDIT 0, Reg.ETH_CBS_LO_CREDIT 0, Reg.ETH_CBS_SLOPE 1, Reg.ETH_CBS_HI_CREDIT 1,
   Reg.ETH_CBS_LO_CREDIT 1].map s.reg

def inForce (s : State) (k : Nat) : Word := s.eth.inForce.getD k 0

/-- The time of XB at which the pause timer reaches zero. -/
def pauseEnd (s : State) : Option Nat := s.eth.pause.map (fun p => p.1 + p.2 * quantumFs s)

/-- A pause is in force (R561). -/
def pausing (s : State) : Bool := match pauseEnd s with | some x => decide (s.tb.xbFs < x) | none => false

/-- The credit of queue 6 + k after n octet times in one condition. -/
def creditAfter (s : State) (k n : Nat) (c : Int) : Int :=
  let rate : Int := ethRate s
  let slope : Int := fget (inForce s (1 + 3 * k)) 19 0
  let q := 6 + k
  let hi := signed32 (inForce s (2 + 3 * k)) * rate
  let lo := signed32 (inForce s (3 + 3 * k)) * rate
  let up := c + 8 * slope * n
  let upToZero := if up < 0 || slope = 0 then up else if 0 ≤ c then c else c + 8 * slope * (((-c) + 8 * slope - 1) / (8 * slope))
  let x :=
    if s.eth.pause.isSome && !bget (inForce s 0) 3 then c
    else if s.eth.wire = some q then c + 8 * (slope - rate) * n
    else if txReady s q then (if s.eth.wire.isSome then up else upToZero)
    else if 0 < c then 0
    else if 0 ≤ up then 0 else up
  clampI lo hi x

/-- Octet times up to time x of XB go into the credits. -/
def cbsTo (x : Nat) (s : State) : State :=
  let n := (x - s.eth.cbsXb) / octetFs s
  updEth (fun e => { e with credit6 := creditAfter s 0 n e.credit6, credit7 := creditAfter s 1 n e.credit7, cbsXb := e.cbsXb + n * octetFs s }) s

/-- Ready frames wait for the pause. -/
def markPaused (s : State) : State :=
  updEth (fun e => { e with txq := e.txq.map (fun x => (x.1, if txReady s x.1 && e.wire != some x.1 then { x.2 with paused := true } else x.2)) }) s

/-- The earlier of the frame's end and the pause's end that has passed takes its effect. -/
def ethEnds (s : State) : State :=
  let x := s.tb.xbFs
  let p := match pauseEnd s with | some y => decide (y ≤ x) | none => false
  let w := s.eth.wire.isSome && decide (s.eth.wireEnd ≤ x)
  let y := (pauseEnd s).getD 0
  if w && !(p && decide (y < s.eth.wireEnd)) then updEth (fun e => { e with wire := none }) (cbsTo s.eth.wireEnd s)
  else if p then updEth (fun e => { e with pause := none }) (markPaused (cbsTo y s))
  else s

/-- The MAC's state at this time: frames and pauses that have ended, and the credits (R556, R561). -/
def cbsAdvance (s : State) : State := cbsTo s.tb.xbFs (ethEnds (ethEnds s))

def creditOf (s : State) (q : Nat) : Int := if q = 6 then s.eth.credit6 else s.eth.credit7

/-- Queue q may start a frame (R555, R579). -/
def txEligible (s : State) (q : Nat) : Bool :=
  txReady s q && (!shedNonStream s || s.bit Reg.ETH_CTL (8 + q)) &&
  !(decide (6 ≤ q) && s.bit (Reg.ETH_CBS_SLOPE (q - 6)) 39 && decide (creditOf s q < 0))

/-! ### The stream time map and late tests (R564, R568) -/

/-- gptp_ns(t) of R564. -/
def gptpNs (s : State) (t : Nat) : Int := (s.eth.smapNs : Int) + ((t : Int) - s.eth.smapTick) * s.eth.smapScale / 2 ^ 32

def isLate (avtp : Nat) (g : Int) : Bool := decide (2 ^ 31 ≤ (((avtp : Int) - g) % 2 ^ 32).toNat)

def ptMiss (a : Nat) (s : State) : State := ethStat 4 (s.inc (Reg.ETH_AAF_PT_MISS_CNT a))

def smapCommit (s : State) : State :=
  updEth (fun e => { e with
    smapTick := (s.reg Reg.ETH_SMAP_TICK_HI).toNat * 2 ^ 40 + (s.reg Reg.ETH_SMAP_TICK_LO).toNat,
    smapNs := (s.reg Reg.ETH_SMAP_NS_HI).toNat * 2 ^ 40 + (s.reg Reg.ETH_SMAP_NS_LO).toNat,
    smapScale := (s.reg Reg.ETH_SMAP_SCALE).toNat }) s

/-! ### AAF (R565-R568) -/

def aafCh (s : State) (a : Nat) : Nat := s.fld (Reg.ETH_AAF_CFG a) 19 15 + 1
def aafSpp (s : State) (a : Nat) : Nat := s.fld (Reg.ETH_AAF_CFG a) 28 20
def aafDepth (s : State) (a : Nat) : Nat := audBits (s.fld (Reg.ETH_AAF_CFG a) 34 33)

/-- The octets of a number, most significant first. -/
def beOctets (n v : Nat) : List Nat := (List.range n).map (fun i => v / 256 ^ (n - 1 - i) % 256)
def beNat (l : List Nat) : Nat := l.foldl (fun a o => a * 256 + o) 0

def macOctets (lo hi : Word) : List Nat := wordOctets lo ++ [fget hi 7 0]
def aafId (s : State) (a : Nat) : Nat := s.fld (Reg.ETH_AAF_ID_HI a) 23 0 * 2 ^ 40 + (s.reg (Reg.ETH_AAF_ID_LO a)).toNat

/-- The 1722 format code of FORMAT (log row 21). -/
def aafFormat (f : Nat) : Nat := match f with | 0 => 4 | 1 => 3 | _ => 2

/-- The 80-bit tick nearest `TB_NOW` whose bits [31:0] equal k (R567). -/
def nearestTick (now k : Nat) : Nat :=
  let d := (k + 2 ^ 32 - now % 2 ^ 32) % 2 ^ 32
  if d < 2 ^ 31 then now + d else (now + d + 2 ^ 80 - 2 ^ 32) % 2 ^ 80

/-- The frame of a talker unit: its ring words are a header word and samples (R566, R567). -/
def aafFrame (s : State) (a : Nat) (ws : List Word) : List Nat × Option Nat :=
  let h := ws.headD 0
  let cfg := Reg.ETH_AAF_CFG a
  let avtp := ((gptpNs s (nearestTick s.now (fget h 31 0)) + s.fld (Reg.ETH_AAF_TRANSIT a) 31 0) % 2 ^ 32).toNat
  let w := aafDepth s a
  let n := aafCh s a * aafSpp s a
  let body := (((ws.drop 1).take n).map (fun x => beOctets (w / 8) (fget x 39 (40 - w)))).flatten
  let tv := bget h 32
  let hdr := [2, 0x80 + b2n (bget h 33) * 8 + b2n tv, SMap.getD 0 a s.eth.seqNo % 256, 0] ++ beOctets 8 (aafId s a) ++ beOctets 4 avtp ++
    [aafFormat (s.fld cfg 34 33)] ++ beOctets 2 (s.fld cfg 32 29 * 2 ^ 12 + aafCh s a) ++ [w] ++ beOctets 2 body.length ++ [0, 0]
  (macOctets (s.reg (Reg.ETH_AAF_DA_LO a)) (s.reg (Reg.ETH_AAF_DA_HI a)) ++ macOctets (s.reg Reg.ETH_MAC_LO) (s.reg Reg.ETH_MAC_HI) ++
    [0x81, 0] ++ beOctets 2 (s.fld cfg 14 12 * 2 ^ 13 + s.fld cfg 11 0) ++ [0x22, 0xF0] ++ hdr ++ body, if tv then some avtp else none)

/-- AAF_FRAME_BUILD on queue q. -/
def aafBuild (srv : Server) (q : Nat) (s : State) : State :=
  let s := match txRing s q with | some r => pump srv r s | none => s
  match SMap.find q s.eth.txq with
  | none => s
  | some e =>
    match (s.ring e.ring).unit with
    | none => s
    | some u =>
      if e.stream.isSome || !txIsAaf s e || decide (u.moved < unitTotal s e.ring u) then s
      else
        let a := match (unitDescs s e.ring u).head? with | some d => descKctl d % 16 | none => 0
        let f := aafFrame s a (packAll e.octets)
        updEth (fun x => { x with txq := SMap.insert q { e with octets := f.1, stream := some a, avtp := f.2 } x.txq,
                                  seqNo := SMap.insert a ((SMap.getD 0 a x.seqNo + 1) % 256) x.seqNo }) s

/-- A write of a stream's CFG (R565): EN = 1 is checked; other fields only while EN = 0. -/
def aafCfgWrite (ep a : Nat) (v : Word) (s : State) : State :=
  let r := Reg.ETH_AAF_CFG a
  let was := s.bit r 39
  let s := writeRegIf (fun f => f.name = "EN" || !was) ep r v s
  if !was && bget v 39 then
    let nsr := s.fld r 32 29
    let n := aafCh s a * aafSpp s a
    let clash := s.bit r 38 && (List.range 16).any (fun b => b != a && s.bit (Reg.ETH_AAF_CFG b) 39 && s.bit (Reg.ETH_AAF_CFG b) 38 && aafId s b == aafId s a)
    if s.fld r 34 33 = 3 || nsr < 3 || 9 < nsr || 4096 < 1 + n || s.fld Reg.ETH_MAXLEN 13 0 < 46 + n * (aafDepth s a / 8) || clash then
      ethStat 1 (s.setBit r 39 false)
    else updEth (fun e => { e with seqNo := SMap.erase a e.seqNo }) s
  else s

/-! ### Transmit (R554, R555) -/

/-- Octets of a frame on the wire, padded and with its FCS. -/
def wireOctets (l : List Nat) : Nat := max 60 l.length + 4

/-- A frame as it leaves: padded with zero octets, and with its FCS (R551). -/
def wireFrame (l : List Nat) : List Nat :=
  let p := l ++ List.replicate (60 - l.length) 0
  p ++ (List.range 4).map (fun k => crc32 p / 256 ^ k % 256)

/-- n octet times in whole ticks. -/
def octetTicks (s : State) (n : Nat) : Nat := n * octetFs s / max 1 (s.fld Reg.TB_TICK_FS 23 0)

/-- The tick of the SFD of a frame that starts now: seven preamble octets come before it (R550, R553). -/
def sfdTick (s : State) : Word := nw (s.now + octetTicks s 7)

/-- The tick of the SFD of a frame of n octets and its FCS that ends now (R553). -/
def rxSfd (s : State) (n : Nat) : Nat := s.now - octetTicks s (n + 5)

/-- Time passes to the end of the frame on the wire and of the gap after it (R555). -/
def ethGap (s : State) : State := if s.tb.xbFs < s.eth.gapEnd then xbUntil s.eth.gapEnd s else s

/-- ETH_FRAME_TRANSMIT: when the wire is free the MAC starts the ready frame of the highest eligible queue. -/
def ethTransmit (srv : Server) (s : State) : State :=
  if !s.bit Reg.ETH_CTL 0 || ethStopped s then s
  else
    let s := (List.range 8).foldl (fun s q => match txRing s q with | some r => pump srv r s | none => s) (cbsAdvance (ethGap s))
    let paused := s.eth.pause.isSome && !s.bit Reg.ETH_CTL 3
    if s.eth.wire.isSome || paused then s
    else
      match [7, 6, 5, 4, 3, 2, 1, 0].find? (fun q => txEligible s q) with
      | none => s
      | some q =>
        match SMap.find q s.eth.txq with
        | none => s
        | some e =>
          let n := wireOctets e.octets
          let s := updEth (fun x => { x with wire := some q, wireEnd := s.tb.xbFs + (8 + n) * octetFs s, gapEnd := s.tb.xbFs + (20 + n) * octetFs s,
                                             line := wireFrame e.octets, txErr := false, inForce := ethWritten s }) s
          let s := ((s.inc Reg.ETH_TX_FRAME_CNT).addTo Reg.ETH_TX_OCTET_CNT n).inc (Reg.ETH_TXQ_FRAME_CNT q)
          let s := (s.addTo (Reg.ETH_TXQ_OCTET_CNT q) n).setReg (Reg.ETH_TXQ_LAST_TS q) (sfdTick s)
          let s := if e.paused then s.inc (Reg.ETH_TXQ_PAUSED_CNT q) else s
          let s := match e.stream, e.avtp with
            | some a, some v => if isLate v (gptpNs s s.now) then ptMiss a s else s
            | _, _ => s
          if s.eth.inj then
            let s := ethStat 3 (updEth (fun x => { x with inj := false }) s)
            let s := logErr .eth 0x50 q 0 0 (s.setReg Reg.ETH_ERR_INFO (nw q))
            match (s.ring e.ring).unit with
            | some u => setUnit e.ring { u with ts := some (sfdTick s), status := 1, complete := true } (sinkAbort e.ring 0 s)
            | none => s
          else
            match (s.ring e.ring).unit with
            | some u => setUnit e.ring { u with ts := some (sfdTick s), taken := u.moved, complete := true } s
            | none => s

/-! ### PAUSE (R560-R563, R581, R582) -/

/-- A PAUSE frame with its pause_time. -/
def ethPauseFrame (t : Nat) (s : State) : State :=
  let s := cbsAdvance (s.inc Reg.ETH_PAUSE_RX_CNT)
  if s.bit Reg.ETH_CTL 3 then s
  else if t = 0 then (updEth (fun e => { e with pause := none }) s).inc Reg.ETH_PAUSE_ZERO_CNT
  else markPaused (updEth (fun e => { e with pause := some (s.tb.xbFs, t) }) s)

/-- PAUSE_END: time passes until the timer reaches zero. -/
def ethPauseOver (s : State) : State :=
  match pauseEnd s with
  | none => s
  | some x => cbsAdvance (if s.tb.xbFs < x then xbUntil x s else s)

/-- The quanta of a pause not yet over. -/
def pauseRemain (s : State) : Nat :=
  match pauseEnd s with
  | none => 0
  | some x => (x - s.tb.xbFs + quantumFs s - 1) / quantumFs s

/-- A TB_PULSE edge counts a pause in force. -/
def ethPulse (s : State) : State := if pausing s then s.inc Reg.ETH_PAUSED_TIME_CNT else s

/-! ### Receive (R557-R559, R568) -/

def fifoWords (s : State) : Nat := (s.eth.fifo.map (fun f => (f.octets.length + 4) / 5)).foldl (· + ·) 0

/-- The octets after all VLAN tags, from the EtherType on. -/
def afterTags : Nat → List Nat → List Nat
  | 0, l => l
  | f + 1, l => if l.take 2 = [0x81, 0] || l.take 2 = [0x88, 0xA8] then afterTags f (l.drop 4) else l

/-- The filter of R557. -/
def daOk (s : State) (da : List Nat) (etype : Nat) : Bool :=
  da == macOctets (s.reg Reg.ETH_MAC_LO) (s.reg Reg.ETH_MAC_HI) || da == List.replicate 6 255 ||
  (da.headD 0 % 2 == 1 && (let h := crc32 da / 2 ^ 26; if h < 40 then s.bit Reg.ETH_HASH_LO h else s.bit Reg.ETH_HASH_HI (h - 40))) ||
  s.bit Reg.ETH_CTL 4 || (etype == 0x88F7 && s.bit Reg.ETH_CLS 6)

/-- A frame for queue q enters the FIFO, or is dropped (R559, R579). -/
def ethFifoPut (q : Nat) (os : List Nat) (err : Bool) (sfd : Nat) (s : State) : State :=
  let drop := fun s : State => (s.inc (Reg.ETH_RXQ_FIFO_DROP_CNT q)).inc Reg.ETH_RX_FIFO_DROP_CNT
  if shedNonStream s && !s.bit Reg.ETH_CTL (8 + q) then s.inc Reg.ETH_SHED_DROP_CNT
  else
    match boundRing s 4 q true with
    | none => drop s
    | some r =>
      if !ringEn s r then drop s
      else if 4096 < fifoWords s + (os.length + 4) / 5 then ethStat 2 (drop s)
      else
        let s := updEth (fun e => { e with fifo := e.fifo ++ [⟨q, os, err, nw sfd⟩] }) s
        ((s.inc (Reg.ETH_RXQ_FRAME_CNT q)).addTo (Reg.ETH_RXQ_OCTET_CNT q) os.length).setReg (Reg.ETH_RXQ_LAST_TS q) (nw sfd)

/-- A listener's frame: its AAF header and payload `p` (R568). -/
def aafListen (a : Nat) (p : List Nat) (err : Bool) (sfd : Nat) (s : State) : State :=
  let cfg := Reg.ETH_AAF_CFG a
  let w := aafDepth s a
  let n := aafCh s a * aafSpp s a
  let fmt := p.getD 16 0 == aafFormat (s.fld cfg 34 33) && beNat ((p.drop 17).take 2) / 2 ^ 12 == s.fld cfg 32 29 &&
    beNat ((p.drop 17).take 2) % 2 ^ 10 == aafCh s a && p.getD 19 0 == w && beNat ((p.drop 20).take 2) == n * (w / 8)
  if !fmt then ethStat 5 (s.setBit (Reg.ETH_AAF_STAT a) 0 true)
  else
    let seq := p.getD 2 0
    let gap := match SMap.find a s.eth.seqNo with | some v => seq != (v + 1) % 256 | none => false
    let avtp := beNat ((p.drop 12).take 4)
    let tv := p.getD 1 0 % 2 == 1
    let late := tv && isLate avtp (gptpNs s sfd)
    let h := nw (seq % 32 * 2 ^ 35 + b2n gap * 2 ^ 34 + b2n late * 2 ^ 33 + b2n tv * 2 ^ 32 + avtp)
    let ws := h :: (List.range n).map (fun i => nw (beNat ((p.drop (24 + i * (w / 8))).take (w / 8)) * 2 ^ (40 - w)))
    let s := updEth (fun e => { e with seqNo := SMap.insert a seq e.seqNo }) s
    let s := s.setReg (Reg.ETH_AAF_STAT a) (fset (s.reg (Reg.ETH_AAF_STAT a)) 10 8 (seq / 32))
    let s := if gap then s.setBit (Reg.ETH_AAF_STAT a) 1 true else s
    let s := if late then ptMiss a s else s
    ethFifoPut (s.fld cfg 37 35) ((ws.map wordOctets).flatten) err sfd s

/-- The listener stream with a stream_id. -/
def listenerOf (s : State) (id : Nat) : Option Nat :=
  (List.range 16).find? (fun a => s.bit (Reg.ETH_AAF_CFG a) 39 && s.bit (Reg.ETH_AAF_CFG a) 38 && aafId s a == id)

/-- Classification (R558). -/
def ethClassify (os : List Nat) (err : Bool) (s : State) : State :=
  let l := afterTags 8 (os.drop 12)
  let etype := beNat (l.take 2)
  let p := l.drop 2
  let sfd := rxSfd s os.length
  if etype = 0x22F0 && p.headD 0 = 2 then
    match listenerOf s (beNat ((p.drop 4).take 8)) with
    | some a => aafListen a p err sfd s
    | none => s.inc Reg.ETH_AAF_CLS_DROP_CNT
  else if etype = 0x88F7 && s.bit Reg.ETH_CLS 6 then ethFifoPut (s.fld Reg.ETH_CLS 5 3) os err sfd s
  else if l.length < (os.drop 12).length && s.bit Reg.ETH_CLS 32 then
    ethFifoPut (s.fld Reg.ETH_CLS 31 8 / 8 ^ (os.getD 14 0 / 32) % 8) os err sfd s
  else ethFifoPut (s.fld Reg.ETH_CLS 2 0) os err sfd s

/-- ETH_FRAME_RECEIVED: a frame's octets from DA to the last before the FCS, and whether its FCS is good. -/
def ethReceive (os : List Nat) (fcs : Bool) (s : State) : State :=
  if !s.bit Reg.ETH_CTL 1 || ethStopped s then s
  else
    let l := afterTags 8 (os.drop 12)
    let etype := beNat (l.take 2)
    let da := os.take 6
    let s := (s.inc Reg.ETH_RX_FRAME_CNT).addTo Reg.ETH_RX_OCTET_CNT (os.length + 4)
    if os.length + 4 < 64 || s.fld Reg.ETH_MAXLEN 13 0 < os.length + 4 then s.inc Reg.ETH_RX_LEN_ERR_CNT
    else
      let s := if fcs then s else s.inc Reg.ETH_RX_FCS_ERR_CNT
      let isPause := fcs && etype == 0x8808 && beNat ((l.drop 2).take 2) == 1 &&
        (da == [1, 0x80, 0xC2, 0, 0, 1] || da == macOctets (s.reg Reg.ETH_MAC_LO) (s.reg Reg.ETH_MAC_HI))
      if isPause then ethPauseFrame (beNat ((l.drop 4).take 2)) s
      else if !fcs && !s.bit Reg.ETH_CTL 5 then s
      else if !daOk s da etype then s.inc Reg.ETH_RX_FILTER_CNT
      else if etype = 0x8808 then s.inc Reg.ETH_CTRL_DROP_CNT
      else if s.eth.inj then
        let s := ethStat 3 (updEth (fun x => { x with inj := false }) s)
        logErr .eth 0x50 0 0 1 s
      else ethClassify os (!fcs) s

/-! ### MDIO and register writes -/

def mdioCmd (ep : Nat) (v : Word) (s : State) : PortWr :=
  if s.eth.mdio.isSome then .held
  else if fget v 27 26 = 3 then .done (captureRsvd ep Reg.ETH_MDIO_CMD v s)
  else .done (updEth (fun e => { e with mdio := some v }) s)

/-- MDIO_FRAME_DONE with the data the PHY gave; an absent PHY gives FFFFh. -/
def mdioDone (d : Option (BitVec 16)) (s : State) : State :=
  match s.eth.mdio with
  | none => s
  | some v =>
    let s := updEth (fun e => { e with mdio := none }) s
    if fget v 27 26 = 2 then s.setFld Reg.ETH_MDIO_DATA 15 0 (match d with | some x => x.toNat | none => 0xFFFF) else s

def ethWrite (ep a : Nat) (v : Word) (s : State) : PortWr :=
  if a = Reg.ETH_MDIO_CMD then mdioCmd ep v s
  else if a = Reg.ETH_SMAP_COMMIT then .done (smapCommit (writeReg ep a v s))
  else if a = Reg.ETH_INJECT then .done (updEth (fun e => { e with inj := e.inj || bget v 0 }) s)
  else if a = Reg.ETH_CTL then
    let idle := !s.bit a 0 && !s.bit a 1
    .done (cbsAdvance (writeRegIf (fun f => idle || !(f.name = "SPEED" || f.name = "TXC_DLY" || f.name = "RXC_DLY")) ep a v (cbsAdvance s)))
  else if (a = Reg.ETH_CBS_SLOPE 0 || a = Reg.ETH_CBS_SLOPE 1) && decide (ethRate s < fget v 19 0) then
    .done (captureRsvd ep a v (writeRegIf (fun f => f.name = "CBS_EN") ep a v (cbsAdvance s)))
  else if Reg.ETH_AAF_CFG 0 ≤ a && decide (a < Reg.ETH_AAF_CFG 16) then
    let k := (a - Reg.ETH_AAF_CFG 0) / 8
    if a = Reg.ETH_AAF_CFG k then .done (aafCfgWrite ep k v s)
    else if a < Reg.ETH_AAF_STAT k && s.bit (Reg.ETH_AAF_CFG k) 39 then .done s
    else .done (writeReg ep a v s)
  else .done (lv (writeReg ep a v) s)

def creditView (c : Int) (rate : Nat) : Word := nw ((c / rate) % 2 ^ 32).toNat

def ethView (s : State) (a : Nat) : Option Word :=
  if a = Reg.ETH_STATUS then some (bset (s.reg a) 0 (pausing s))
  else if a = Reg.ETH_PAUSE then some (nw (pauseRemain s))
  else if a = Reg.ETH_MDIO_DATA then some (bset (s.reg a) 16 s.eth.mdio.isSome)
  else if a = Reg.ETH_CBS_CREDIT 0 then some (creditView (cbsAdvance s).eth.credit6 (ethRate s))
  else if a = Reg.ETH_CBS_CREDIT 1 then some (creditView (cbsAdvance s).eth.credit7 (ethRate s))
  else if a = Reg.ETH_TXQ_STAT then some (wordOfBits 8 (fun q => txReady s q))
  else if a = Reg.ETH_RXQ_STAT then some (wordOfBits 8 (fun q => s.eth.fifo.any (fun f => f.queue == q)))
  else none

end Sys2Proof.Machine
end

