-- ==== Sys2Proof/Machine/Usb.lean ====
section
/-!
DEFINITION. The USB port (R570-R580, R586-R589): connection, reset and suspend, endpoint 0, the eight IN and OUT endpoints and their rings, and
isochronous feedback.
-/
set_option linter.constructorNameAsVariable false

namespace Sys2Proof.Machine

/-- `USB_STATUS` bit i is set; sources 112 to 114 follow (R580). -/
def usbStat (i : Nat) (s : State) : State := relevelList s [112, 113, 114] (s.setBit Reg.USB_STATUS i true)

/-- The port stands stopped: loss of XB (R53), or shed stop (R658). -/
def usbStopped (s : State) : Bool := s.tb.xbLost || s.bit (Reg.PWR_DOM 18) 11

/-- The port answers the host (R571). -/
def usbUp (s : State) : Bool := s.bit Reg.USB_CTL 0 && s.bit Reg.USB_CTL 1 && !usbStopped s

def usbSuspended (s : State) : Bool := s.bit Reg.USB_STATUS 2

/-- High speed: negotiated, or not yet negotiated with HS_EN = 1. -/
def usbHs (s : State) : Bool :=
  s.fld Reg.USB_STATUS 1 0 == 2 || (s.fld Reg.USB_STATUS 1 0 == 0 && s.bit Reg.USB_CTL 2)

def usbCfg (out : Bool) (e : Nat) : Nat := if out then Reg.USB_EPOUT_CFG e else Reg.USB_EPIN_CFG e
def usbKey (out : Bool) (e : Nat) : Nat := if out then 17 + e else 1 + e

def updUsb (f : Usb → Usb) (s : State) : State := { s with usb := f s.usb }
def updUsbEp (k : Nat) (f : UsbEp → UsbEp) (s : State) : State := s.setUsbEp k (f (s.usbEp k))

/-! ### Connection, reset and suspend (R571) -/

/-- A transmit unit in progress ends with ABORTED; a receive unit is discarded (R460). -/
def usbEndUnit (out : Bool) (e : Nat) (s : State) : State :=
  match boundRing s (if out then 6 else 5) e out with
  | none => s
  | some r =>
    match (s.ring r).unit with
    | none => s
    | some u =>
      if out then rxDiscard r 1 s
      else setUnit r { u with status := 1, complete := true, wait := none } s

/-- Endpoint e ends in a bus reset: disabled, its unit ended, its packet buffers empty. -/
def usbResetEp (s : State) (k : Nat) : State :=
  let out := decide (8 ≤ k)
  let e := k % 8
  (usbEndUnit out e (s.setBit (usbCfg out e) 20 false)).setUsbEp (usbKey out e) UsbEp.reset

/-- BUS_RESET; `hs` when the host answered the chirp. -/
def usbBusReset (hs : Bool) (s : State) : State :=
  if !usbUp s then s
  else
    let s := (List.range 16).foldl usbResetEp (s.setReg Reg.USB_ADDR 0)
    let s := updUsb (fun u => { u with ctl := false, armed := 0, addrNext := none, fb := [], lastSof := none }) s
    let s := s.setFld Reg.USB_STATUS 2 0 (if hs && s.bit Reg.USB_CTL 2 then 2 else 1)
    usbStat 3 (s.inc Reg.USB_RESET_CNT)

/-- USB_SUSPEND: 3 ms without activity. -/
def usbSuspend (s : State) : State :=
  if !usbUp s || usbSuspended s then s else usbStat 4 ((s.setBit Reg.USB_STATUS 2 true).inc Reg.USB_SUSPEND_CNT)

/-- Resume signaling, from the host or by a write of WAKE. -/
def usbResume (s : State) : State :=
  if !usbUp s || !usbSuspended s then s else usbStat 5 ((s.setBit Reg.USB_STATUS 2 false).inc Reg.USB_RESUME_CNT)

def usbCtlWrite (ep : Nat) (v : Word) (s : State) : State :=
  let was := s.bit Reg.USB_CTL 0 && s.bit Reg.USB_CTL 1
  let s := writeReg ep Reg.USB_CTL v s
  let isOn := s.bit Reg.USB_CTL 0 && s.bit Reg.USB_CTL 1
  let s := if !s.bit Reg.USB_CTL 0 then s.setReg Reg.USB_TEST 0 else s
  let s := if was && !isOn then
      updUsb (fun u => { u with ctl := false, armed := 0, addrNext := none }) ((s.setFld Reg.USB_STATUS 2 0 0).inc Reg.USB_DISCONNECT_CNT)
    else s
  if bget v 3 then usbResume s else s

/-! ### Endpoint 0 (R572, R573, R586) -/

/-- A write to `USB_ADDR`. -/
def usbAddrWrite (a : Nat) (s : State) : State :=
  if s.usb.ctl then updUsb (fun u => { u with addrNext := some (a % 128) }) s else s.setReg Reg.USB_ADDR (nw (a % 128))

/-- The contents of the endpoint-0 buffer become free values. -/
def freeBuf (s : State) : State :=
  (List.range 13).foldl (fun s k => takeFresh (s.setReg (Reg.USB_EP0_BUF k) (freeWord s))) s

/-- A SETUP packet: its eight octets, octet 0 in [7:0]. -/
def usbSetup (p : BitVec 64) (s : State) : State :=
  if !usbUp s then s
  else
    let s := if s.usb.ctl then freeBuf s else s
    let s := (s.setReg Reg.USB_EP0_SETUP_0 (nw p.toNat)).setReg Reg.USB_EP0_SETUP_1 (nw (p.toNat / 2 ^ 40))
    let s := (s.setReg Reg.USB_EP0_STATUS 0).setBit Reg.USB_EP0_CTL 0 false
    let s := updUsb (fun u => { u with ctl := true, armed := 0, addrNext := none }) s
    usbStat 7 ((s.inc Reg.USB_SETUP_CNT).inc Reg.USB_RX_PKT_CNT)

/-- A write of `USB_EP0_CTL` arms stages. -/
def ep0CtlWrite (v : Word) (s : State) : State :=
  let s := if bget v 0 then s.setBit Reg.USB_EP0_CTL 0 true else s
  updUsb (fun u => { u with armed := u.armed ||| fget v 3 1 }) s

/-- A completed action of endpoint 0: its stage bit and EP0_DONE. -/
def ep0Done (i : Nat) (s : State) : State := usbStat 8 (s.setBit Reg.USB_EP0_STATUS i true)

/-- Endpoint 0 can act on what software armed in bit j of `armed`; a data or status stage is refused while traffic is shed (R579). -/
def ep0Act (j : Nat) (f : State → State) (s : State) : State :=
  if !usbUp s || s.bit Reg.USB_EP0_CTL 0 then s
  else if shedNonStream s then s.inc Reg.USB_SHED_NAK_CNT
  else if Nat.testBit s.usb.armed j then f (updUsb (fun u => { u with armed := u.armed - 2 ^ j }) s)
  else s

/-- The first n octets of the endpoint-0 buffer (R67). -/
def ep0Octets (s : State) (n : Nat) : List Nat := (((List.range 13).map (fun k => wordOctets (s.reg (Reg.USB_EP0_BUF k)))).flatten).take n

/-- SEND: LEN octets of the buffer leave as the next IN data packet. -/
def ep0SendPkt (s : State) : State :=
  ep0Act 0 (fun s => ep0Done 1 (updUsb (fun u => { u with line := ep0Octets s (s.fld Reg.USB_EP0_LEN 6 0) }) (s.inc Reg.USB_TX_PKT_CNT))) s

/-- The octets of an OUT data packet reach the buffer, octet 0 first (R67). -/
def ep0Store (ws : List Word) (k : Nat) (s : State) : State :=
  match ws with
  | [] => s
  | w :: t => ep0Store t (k + 1) (s.setReg (Reg.USB_EP0_BUF k) w)

/-- A packet longer than its endpoint takes (R587). -/
def usbBabble (n : Nat) (s : State) : State := usbStat 9 (logErr .usb 0x51 n 0 1 (s.inc Reg.USB_BABBLE_CNT))

def ep0RecvPkt (os : List Nat) (s : State) : State :=
  if 64 < os.length then (if usbUp s then usbBabble 0 s else s)
  else ep0Act 1 (fun s => ep0Done 2 (((ep0Store (packAll os) 0 s).setFld Reg.USB_EP0_STATUS 10 4 os.length).inc Reg.USB_RX_PKT_CNT)) s

/-- The status stage completes; a pending address takes effect (R572). -/
def ep0StatusStage (s : State) : State :=
  ep0Act 2 (fun s =>
    let s := match s.usb.addrNext with | some a => s.setReg Reg.USB_ADDR (nw a) | none => s
    ep0Done 3 (updUsb (fun u => { u with ctl := false, addrNext := none }) s)) s

/-- Endpoint 0 answers STALL. -/
def ep0StallAnswer (s : State) : State := if usbUp s && s.bit Reg.USB_EP0_CTL 0 then ep0Done 0 s else s

/-! ### Endpoint configuration (R574) -/

/-- MPS is within what USB 2.0 allows for the type and speed (PRESUMED: USB 2.0's own limits, log row 22). -/
def mpsOk (hs : Bool) (type mps : Nat) : Bool :=
  match type with
  | 1 => decide (1 ≤ mps) && decide (mps ≤ (if hs then 1024 else 1023))
  | 2 => if hs then mps == 512 else mps == 8 || mps == 16 || mps == 32 || mps == 64
  | _ => decide (1 ≤ mps) && decide (mps ≤ (if hs then 1024 else 64))

def epWords (c : Word) : Nat := (2 * fget c 10 0 * fget c 16 15 + 4) / 5

/-- Words of the packet buffers of the enabled endpoints. -/
def usbBufWords (s : State) : Nat :=
  ((List.range 16).map (fun k => let c := s.reg (usbCfg (decide (8 ≤ k)) (k % 8)); if bget c 20 then epWords c else 0)).sum

/-- A write of an endpoint's CFG (R574). -/
def usbCfgWrite (ep : Nat) (out : Bool) (e : Nat) (v : Word) (s : State) : State :=
  let a := usbCfg out e
  let s := if bget v 21 then updUsbEp (usbKey out e) (fun x => { x with toggle := false }) s else s
  if s.bit a 20 then writeRegIf (fun f => f.name = "STALL") ep a v s
  else
    let s := writeRegIf (fun f => f.name ≠ "EN") ep a v s
    if !bget v 20 then s
    else
      let c := s.reg a
      let hs := usbHs s
      let bad := fget v 18 17 == 0 || !mpsOk hs (fget c 18 17) (fget c 10 0) ||
        (fget c 16 15 != 1 && !(hs && (fget c 18 17 == 1 || fget c 18 17 == 3))) || decide (4096 < usbBufWords s + epWords c)
      if bad then usbStat 10 s
      else (s.setBit a 20 true).setUsbEp (usbKey out e) UsbEp.reset

/-! ### Packets (R575, R576) -/

def usbIso (s : State) (out : Bool) (e : Nat) : Bool := s.fld (usbCfg out e) 18 17 == 1

/-- The feedback unit that serves IN endpoint e. -/
def fbOf (s : State) (e : Nat) : Option Nat := (List.range 2).find? (fun u => s.bit (Reg.USB_FB_CTL u) 0 && s.fld (Reg.USB_FB_CTL u) 3 1 == e)

/-- A parity failure of a packet buffer (R589). -/
def usbParity (out : Bool) (e : Nat) (s : State) : State :=
  let s := updUsb (fun u => { u with inj := false }) s
  let s := s.setReg Reg.USB_ERR_INFO (nw (b2n out * 16 + e + 1))
  usbStat 12 (logErr .usb 0x52 (e + 1) 0 (nw (b2n out)) s)

/-- A packet left on IN endpoint e. -/
def usbSent (e : Nat) (os : List Nat) (s : State) : State :=
  let n := os.length
  let s := updUsb (fun u => { u with line := os }) s
  ((((s.inc Reg.USB_TX_PKT_CNT).inc (Reg.USB_EPIN_PKT_CNT e)).addTo (Reg.USB_EPIN_OCTET_CNT e) n).setReg (Reg.USB_EPIN_LAST_TICK e) s.nowLo)

/-- The packet that IN endpoint e can send now: its octets, and whether it is the zero-length packet that ends a unit. -/
def usbNextIn (s : State) (e r : Nat) : Option (List Nat × Bool) :=
  match (s.ring r).unit with
  | none => none
  | some u =>
    let x := s.usbEp (1 + e)
    let mps := max 1 (s.fld (Reg.USB_EPIN_CFG e) 10 0)
    if u.complete || !x.loaded then none
    else if x.data.isEmpty then (if x.zlp && u.taken == unitTotal s r u then some ([], true) else none)
    else if mps ≤ x.data.length || unitTotal s r u ≤ u.taken + x.data.length then some (x.data.take mps, false)
    else none

/-- The host acknowledged the packet, or it was isochronous. -/
def usbInTaken (e r : Nat) (p : List Nat) (zlp : Bool) (s : State) : State :=
  let x := s.usbEp (1 + e)
  let s := s.setUsbEp (1 + e) { x with data := x.data.drop p.length, toggle := if usbIso s false e then x.toggle else !x.toggle, zlp := x.zlp && !zlp }
  let s := sinkTook r p.length (s.reg Reg.USB_SOF_TICK) s
  match (s.ring r).unit with
  | none => s
  | some u =>
    if zlp then setUnit r { u with complete := true } s
    else if x.zlp then setUnit r { u with complete := false } s
    else s

/-- USB_IN_PACKET: an IN token on endpoint e, and whether the host's handshake comes. -/
def usbIn (srv : Server) (e : Nat) (acked : Bool) (s : State) : State :=
  if !usbUp s || usbSuspended s || !s.bit (Reg.USB_EPIN_CFG e) 20 then s
  else if s.bit (Reg.USB_EPIN_CFG e) 19 && !usbIso s false e then s
  else if shedNonStream s && !usbIso s false e then s.inc Reg.USB_SHED_NAK_CNT
  else if s.usb.inj then (usbParity false e s).inc Reg.USB_TIMEOUT_CNT
  else
    match fbOf s e with
    | some k => usbSent e ((wordOctets (s.reg (Reg.USB_FB_VALUE k))).take (if usbHs s then 4 else 3)) s
    | none =>
      let none' := fun (s : State) =>
        if usbIso s false e then
          let s := usbSent e [] s
          match boundRing s 5 e false with | some r => s.inc (Reg.SEF_RING_STARVE_CNT r) | none => s
        else s.inc (Reg.USB_EPIN_NAK_CNT e)
      match boundRing s 5 e false with
      | none => none' s
      | some r =>
        let s := pump srv r s
        match usbNextIn s e r with
        | none => none' s
        | some (p, z) =>
          let s := usbSent e p s
          if acked || usbIso s false e then usbInTaken e r p z s else s.inc Reg.USB_TIMEOUT_CNT

/-- An isochronous OUT packet, or its loss, joins the open service interval or opens one. -/
def isoAdd (x : UsbEp) (os : List Nat) (lost : Bool) (t : Word) : UsbEp :=
  if x.packets.isEmpty || x.loaded then
    { x with packets := x.packets ++ [os], data := x.data ++ [b2n lost], tss := x.tss ++ [t], loaded := false }
  else
    { x with packets := x.packets.dropLast ++ [(x.packets.getLast?.getD []) ++ os],
             data := x.data.dropLast ++ [max (x.data.getLast?.getD 0) (b2n lost)] }

def usbDrop (e : Nat) (s : State) : State :=
  let s := (s.inc (Reg.USB_EPOUT_DROP_CNT e)).setBit (Reg.USB_EPOUT_STAT e) 1 true
  updUsbEp (17 + e) (fun x => isoAdd x [] true (s.reg Reg.USB_SOF_TICK)) s

/-- Both packet buffers of OUT endpoint e hold packets not yet taken. -/
def usbFull (s : State) (e : Nat) : Bool :=
  let x := s.usbEp (17 + e)
  if usbIso s true e then (x.packets.isEmpty || x.loaded) && decide (2 ≤ (x.packets.filter (fun p => !p.isEmpty)).length)
  else decide (2 ≤ x.packets.length)

/-- Faults of a packet on the wire (R589). -/
def usbWireErr (k : Nat) (s : State) : State :=
  match k with
  | 1 => s.inc Reg.USB_CRC_ERR_CNT
  | 2 => s.inc Reg.USB_PID_ERR_CNT
  | _ => s.inc Reg.USB_BITSTUFF_ERR_CNT

/-- USB_OUT_PACKET: an OUT packet for endpoint e: its octets, its toggle, and its fault (0 none, 1 CRC, 2 PID, 3 bit stuff). -/
def usbOut (e : Nat) (os : List Nat) (toggle : Bool) (err : Nat) (s : State) : State :=
  let iso := usbIso s true e
  if !usbUp s || usbSuspended s || !s.bit (Reg.USB_EPOUT_CFG e) 20 then s
  else if err ≠ 0 then
    let s := usbWireErr err s
    if iso && err == 1 then usbDrop e s else s
  else if s.bit (Reg.USB_EPOUT_CFG e) 19 && !iso then s
  else if shedNonStream s && !iso then s.inc Reg.USB_SHED_NAK_CNT
  else if s.fld (Reg.USB_EPOUT_CFG e) 10 0 < os.length then
    let s := (usbBabble (e + 1) s).setBit (Reg.USB_EPOUT_STAT e) 2 true
    if iso then updUsbEp (17 + e) (fun x => isoAdd x [] true (s.reg Reg.USB_SOF_TICK)) s else s
  else
    let inj := s.usb.inj
    let s := if inj then usbParity true e s else s
    if inj || usbFull s e then (if iso then usbDrop e s else s.inc (Reg.USB_EPOUT_NAK_CNT e))
    else if !iso && toggle != (s.usbEp (17 + e)).toggle then s.inc Reg.USB_TOGGLE_ERR_CNT
    else
      let t := s.reg Reg.USB_SOF_TICK
      let s := updUsbEp (17 + e) (fun x => if iso then isoAdd x os false t
        else { x with packets := x.packets ++ [os], tss := x.tss ++ [t], toggle := !x.toggle }) s
      (((s.inc Reg.USB_RX_PKT_CNT).inc (Reg.USB_EPOUT_PKT_CNT e)).addTo (Reg.USB_EPOUT_OCTET_CNT e) os.length).setReg (Reg.USB_EPOUT_LAST_TICK e) s.nowLo

/-! ### SOF and feedback (R577, R578) -/

def State.usbFb (s : State) (u : Nat) : UsbFb := SMap.getD UsbFb.reset u s.usb.fb
def setUsbFb (u : Nat) (v : UsbFb) (s : State) : State := updUsb (fun x => { x with fb := SMap.put UsbFb.reset u v x.fb }) s

/-- The feedback value F of R578 for a window of d ticks; a free value where AUD_n_PERIOD is 0. -/
def fbValue (s : State) (u d : Nat) : Nat × State :=
  let c := Reg.USB_FB_CTL u
  let p := 2 ^ s.fld c 11 8
  let q := if usbHs s then 16 else 14
  let k := s.fld c 7 5
  if !s.bit c 4 then
    (d * s.fld (Reg.TB_RGEN_DEN k) 19 0 * 2 ^ q / (s.fld (Reg.TB_RGEN_NUM k) 31 0 * p), s)
  else if audPeriod s k = 0 then (freeNat s, takeFresh s)
  else (d * 2 ^ (q + 8) / (audPeriod s k * p), s)

/-- A SOF at feedback unit u; `miss` when a SOF before it was missed. -/
def fbSof (miss : Bool) (s : State) (u : Nat) : State :=
  if !s.bit (Reg.USB_FB_CTL u) 0 then s
  else
    match (s.usbFb u).openTick with
    | none => setUsbFb u ⟨some s.now, 0⟩ s
    | some t =>
      if miss then setUsbFb u ⟨some s.now, 0⟩ (s.inc Reg.USB_SOF_MISS_CNT)
      else if (s.usbFb u).sofs + 1 < 2 ^ s.fld (Reg.USB_FB_CTL u) 11 8 then setUsbFb u ⟨some t, (s.usbFb u).sofs + 1⟩ s
      else
        let f := fbValue s u (s.now - t)
        let v := (f.1 + (s.reg (Reg.USB_FB_ADJ u)).toNat) % 2 ^ 32
        usbStat 11 ((setUsbFb u ⟨some s.now, 0⟩ (f.2.setReg (Reg.USB_FB_VALUE u) (nw v))).inc (Reg.USB_FB_CNT u))

/-- A service interval of OUT endpoint e ends at a SOF numbered n in (micro)frames. -/
def isoClose (n : Nat) (s : State) (e : Nat) : State :=
  if s.bit (Reg.USB_EPOUT_CFG e) 20 && usbIso s true e && n % 2 ^ s.fld (Reg.USB_EPOUT_CFG e) 14 11 == 0 then
    updUsbEp (17 + e) (fun x => { x with loaded := x.loaded || !x.packets.isEmpty }) s
  else s

/-- SOF: frame number and microframe (0 at full speed). -/
def usbSofPkt (frame micro : Nat) (s : State) : State :=
  if !usbUp s || usbSuspended s then s
  else
    let hs := usbHs s
    let n := if hs then frame * 8 + micro else frame
    let m := if hs then 16384 else 2048
    let miss := match s.usb.lastSof with | some l => (l + 1) % m != n % m | none => false
    let s := updUsb (fun u => { u with lastSof := some (n % m) }) s
    let s := ((s.setReg Reg.USB_FRAME (nw (frame * 8 + (if hs then micro else 0)))).setReg Reg.USB_SOF_TICK s.nowLo).inc Reg.USB_SOF_CNT
    let s := (List.range 8).foldl (isoClose n) s
    usbStat 6 ((List.range 2).foldl (fbSof miss) s)

/-- A write of a feedback unit's CTL (R578). -/
def fbCtlWrite (ep u : Nat) (v : Word) (s : State) : State :=
  let a := Reg.USB_FB_CTL u
  let was := s.bit a 0
  let s := writeRegIf (fun f => f.name ≠ "EN") ep a v s
  if !bget v 0 then setUsbFb u UsbFb.reset (s.setBit a 0 false)
  else
    let e := s.fld a 3 1
    if !usbIso s false e || s.fld (Reg.USB_EPIN_CFG e) 10 0 < (if usbHs s then 4 else 3) then usbStat 10 (s.setBit a 0 was)
    else s.setBit a 0 true

/-! ### Register writes and views -/

def usbWrite (ep a : Nat) (v : Word) (s : State) : State :=
  if a = Reg.USB_CTL then usbCtlWrite ep v s
  else if a = Reg.USB_ADDR then usbAddrWrite (fget v 6 0) s
  else if a = Reg.USB_EP0_CTL then ep0CtlWrite v s
  else if a = Reg.USB_INJECT then updUsb (fun u => { u with inj := u.inj || bget v 0 }) s
  else if a = Reg.USB_FB_CTL 0 then fbCtlWrite ep 0 v s
  else if a = Reg.USB_FB_CTL 1 then fbCtlWrite ep 1 v s
  else if Reg.USB_EPIN_CFG 0 ≤ a && decide (a < Reg.USB_EPOUT_CFG 8) && a % 8 == 0 then
    usbCfgWrite ep (decide (Reg.USB_EPOUT_CFG 0 ≤ a)) ((a - Reg.USB_EPIN_CFG 0) / 8 % 8) v s
  else if a = Reg.USB_TEST && !s.bit Reg.USB_CTL 0 then s
  else lv (writeReg ep a v) s

def usbView (s : State) (a : Nat) : Option Word :=
  if a = Reg.USB_EP0_CTL then some (s.reg a &&& 1)
  else if Reg.USB_EPIN_CFG 0 ≤ a && decide (a < Reg.USB_EPOUT_CFG 8) && a % 8 == 1 then
    let out := decide (Reg.USB_EPOUT_CFG 0 ≤ a)
    let e := (a - Reg.USB_EPIN_CFG 0) / 8 % 8
    some (bset (bset (s.reg a) 3 (s.usbEp (usbKey out e)).toggle) 0 (s.bit (usbCfg out e) 19))
  else none

end Sys2Proof.Machine
end

