-- ==== Sys2Proof/Machine/Cuff.lean ====
section
/-!
DEFINITION. The Cuff link (R372-R414): packets and their checks, virtual channels and credits, sequence numbers, acknowledgment and replay,
training and retraining, the credit balance, requests to and from the partner, and the link going down.
-/
set_option linter.constructorNameAsVariable false

namespace Sys2Proof.Machine

/-! ### Slots and headers (R377, R378) -/

def sget (x : BitVec 80) (hi lo : Nat) : Nat := x.toNat / 2 ^ lo % 2 ^ (hi - lo + 1)

def slotOctets (n x : Nat) : List Nat := (List.range n).map (fun k => x / 256 ^ k % 256)

/-- The CRC of a packet (R377). -/
def cufCrc (p : CufRx) : Nat :=
  crc32c (slotOctets 10 p.hdr.toNat ++ (p.data.map (fun d => slotOctets 10 d.toNat)).flatten ++ slotOctets 6 (p.trailer.toNat / 2 ^ 32))

def cufCrcOk (p : CufRx) : Bool := cufCrc p == sget p.trailer 31 0

/-! ### The slot stream on the lanes (R375) -/

/-- Where bit i of the slot stream travels: its lane, its bit of the block's payload, and its data row. -/
def lanePlace (i : Nat) : Nat × Nat × Nat := (i / 64 % 4, i % 64, i / 256)

/-- The payloads of lanes 0 to 3 in data row r, of a stream whose bit i is bit i of `bits`. -/
def stripeRow (bits r : Nat) : List Nat := (List.range 4).map (fun l => bits / 2 ^ (256 * r + 64 * l) % 2 ^ 64)

/-- Data rows 0 to n - 1 of a stream. -/
def stripe (bits n : Nat) : List (List Nat) := (List.range n).map (stripeRow bits)

/-- The stream that rows of lane payloads carry: the receiver's inverse of `stripe`. -/
def unstripe : List (List Nat) → Nat
  | [] => 0
  | r :: t => ((r.getD 0 0) + (r.getD 1 0) * 2 ^ 64 + (r.getD 2 0) * 2 ^ 128 + (r.getD 3 0) * 2 ^ 192) + 2 ^ 256 * unstripe t

/-- Slots as one stretch of the stream, each 80 bits, bit 0 first. -/
def slotStream (l : List Nat) : Nat := l.foldr (fun x acc => x % 2 ^ 80 + 2 ^ 80 * acc) 0

/-- Data rows that slots `start` to `start + k - 1` complete: each gives every lane one block. -/
def rowsDone (start k : Nat) : Nat := (80 * (start + k)) / 256 - (80 * start) / 256

/-- The words of data slots, the earlier in the low half. -/
def cufWords (l : List (BitVec 80)) : List Word := (l.map (fun d => [nw d.toNat, nw (d.toNat / 2 ^ 40)])).flatten

/-- The packet that arrived, as header fields and words. -/
def rxPkt (p : CufRx) : CufPkt := ⟨sget p.hdr 79 76, sget p.hdr 75 72, sget p.hdr 71 60, sget p.hdr 41 0, cufWords p.data, 0, 0⟩

/-- Data slots of a packet. -/
def CufPkt.len (p : CufPkt) : Nat := (p.data.length + 1) / 2
def CufPkt.tag8 (p : CufPkt) : Nat := p.field / 16 % 256
def CufPkt.addr (p : CufPkt) : Nat := p.field / 4096 % 2 ^ 30
def CufPkt.words (p : CufPkt) : Nat := p.field % 16 + 1
def isReqType (t : Nat) : Bool := t == 2 || t == 3 || t == 4
def seqType (t : Nat) : Bool := (decide (2 ≤ t) && decide (t ≤ 8)) || decide (13 ≤ t)

/-- A slot at a packet boundary is a valid header: a TYPE other than IDLE, and a LEN that frames the packet. -/
def hdrValid (p : CufRx) : Bool := sget p.hdr 79 76 != 0 && decide (sget p.hdr 45 42 ≤ 8) && p.data.length == sget p.hdr 45 42

/-- The header slot of a packet that leaves (R378). -/
def CufSent.header (x : CufSent) : Nat :=
  x.pkt.type * 2 ^ 76 + x.pkt.vc * 2 ^ 72 + x.pkt.seq * 2 ^ 60 + x.ackk * 2 ^ 58 + x.ackseq * 2 ^ 46 + x.pkt.len * 2 ^ 42 + x.pkt.field % 2 ^ 42

/-- Two words to a data slot, the earlier below; the second word of an odd count is zero. -/
def dataSlots : List Word → List Nat
  | [] => []
  | [a] => [a.toNat]
  | a :: b :: t => (a.toNat + b.toNat * 2 ^ 40) :: dataSlots t

/-- The credit returns of a trailer, bits [79:32]; none where a test write dropped them. -/
def CufSent.trailerHi (x : CufSent) : Nat :=
  if x.lost then 0
  else
    let r := fun i => x.returns.getD i (0, 0)
    (r 0).1 * 2 ^ 44 + (r 0).2 * 2 ^ 36 + (r 1).1 * 2 ^ 32 + (r 1).2 * 2 ^ 24

/-- The slots of a packet as they leave: header, data, trailer with its CRC, inverted in one bit where a test write corrupted it (R377). -/
def CufSent.slots (x : CufSent) : List Nat :=
  let d := dataSlots x.pkt.data
  let crc := crc32c (slotOctets 10 x.header ++ (d.map (slotOctets 10)).flatten ++ slotOctets 6 x.trailerHi)
  [x.header] ++ d ++ [x.trailerHi * 2 ^ 32 + (if x.badCrc then crc ^^^ 1 else crc)]

/-- The data rows on the lanes that carry a packet's slots (R375): the first row's number and each row's four payloads, other slots' bits left 0. -/
def CufSent.rows (x : CufSent) : Nat × List (List Nat) :=
  let first := 80 * x.slot / 256
  (first, stripe (slotStream x.slots * 2 ^ (80 * x.slot - 256 * first)) ((80 * (x.slot + x.slots.length) + 255) / 256 - first))

/-! ### Port state -/

def updCuf (n : Nat) (f : CufPort → CufPort) (s : State) : State := s.setCuf n (f (s.cufP n))
def cufState (s : State) (n : Nat) : Nat := s.fld (Reg.CUF_STATUS n) 2 0
def setCufState (n v : Nat) (s : State) : State := s.setFld (Reg.CUF_STATUS n) 2 0 v
def cufUp (s : State) (n : Nat) : Bool := cufState s n == 2
def reqVcs (s : State) (n : Nat) : Nat := s.fld (Reg.CUF_VCCFG n) 10 8
def rspVcs (s : State) (n : Nat) : Nat := s.fld (Reg.CUF_VCCFG n) 13 11

/-- VC v is open (R381). -/
def openVc (s : State) (n v : Nat) : Bool := v == 8 || decide (v < reqVcs s n) || (decide (4 ≤ v) && decide (v < 4 + rspVcs s n))

/-- This port's receive allocation in force (R384, R408). -/
def allocOf (s : State) (n v : Nat) : Nat := if v = 8 then 64 else (s.cufP n).cfg.getD (2 + v) 0

def bump (m : SMap Nat) (k d : Nat) : SMap Nat := SMap.put 0 k (SMap.getD 0 k m + d) m
def dec (m : SMap Nat) (k d : Nat) : SMap Nat := SMap.put 0 k (SMap.getD 0 k m - d) m

/-- The port stands stopped: loss of XB, or shed stop (R409). -/
def cufStopped (s : State) : Bool := s.tb.xbLost || s.bit (Reg.PWR_DOM 15) 11

/-! ### Sending (R383, R385, R389) -/

/-- The credit returns of a trailer: up to two VCs, up to 255 slots each. -/
def takeReturns (s : State) (n : Nat) : List (Nat × Nat) :=
  (((List.range 9).filter (fun v => SMap.getD 0 v (s.cufP n).owed != 0)).take 2).map (fun v => (v, min 255 (SMap.getD 0 v (s.cufP n).owed)))

/-- A packet leaves with the current acknowledgment and the pending credit returns. -/
def cufSend (n : Nat) (p : CufPkt) (ackk : Nat) (s : State) : State :=
  let rs := takeReturns s n
  let c := s.cufP n
  let c := rs.foldl (fun c r => { c with owed := dec c.owed r.1 r.2, retTotal := SMap.put 0 r.1 ((SMap.getD 0 r.1 c.retTotal + r.2) % 65536) c.retTotal }) c
  let s := s.setCuf n { c with injCredit := false, injCrc := false, txSlot := c.txSlot + 2 + p.len,
                                   lastSent := some ⟨p, ackk, (c.nextRx + 4095) % 4096, c.injCrc, c.injCredit, rs, c.txSlot⟩ }
  let s := (s.inc (Reg.CUF_TX_PKT_CNT n)).addTo (Reg.CUF_TXSLOT n p.vc) (2 + p.len)
  if seqType p.type then s else s.inc (Reg.CUF_UNSEQ_CNT n)

/-- An unsequenced packet leaves on VC 8h. -/
def cufSendUnseq (n type field : Nat) (data : List Word) (ackk : Nat) (s : State) : State := cufSend n ⟨type, 8, 0, field, data, 1, 0⟩ ackk s

def replaySlots (s : State) (n : Nat) : Nat := ((s.cufP n).replay.map (fun p => 1 + p.len)).sum

/-- The first queued packet of VC v can be sent now. -/
def vcReady (s : State) (n v : Nat) : Bool :=
  match (s.cufP n).outq.find? (fun p => p.vc == v) with
  | none => false
  | some p =>
    (v == 8 || (openVc s n v && cufJoined s n)) && decide (1 + p.len ≤ SMap.getD 0 v (s.cufP n).credits) && decide (replaySlots s n + 1 + p.len ≤ 512)

/-- The VC to be served next: VC 8h, else round-robin over the data VCs. -/
def nextVc (s : State) (n : Nat) : Option Nat :=
  if vcReady s n 8 then some 8
  else (((List.range 8).map (fun i => ((s.cufP n).rr + 1 + i) % 8)).find? (fun v => vcReady s n v))

/-- The first packet of VC v is sent for the first time. -/
def sendFirst (n v : Nat) (s : State) : State :=
  let c := s.cufP n
  match c.outq.find? (fun p => p.vc == v) with
  | none => s
  | some p =>
    let q := { p with seq := c.txNext, sent := 1 }
    let c := { c with outq := c.outq.erase p, replay := c.replay ++ [q], txNext := (c.txNext + 1) % 4096,
                      credits := dec c.credits v (1 + p.len), rr := if v = 8 then c.rr else v,
                      ackSince := if c.replay.isEmpty then s.tb.pulses else c.ackSince,
                      outTags := c.outTags.map (fun e => if isReqType p.type && e.1 == p.tag && e.2.since.isNone then (e.1, { e.2 with since := some s.tb.pulses }) else e) }
    cufSend n q 1 (s.setCuf n c)

/-- Queued sequenced packets leave as far as credits and the replay buffer allow. -/
def cufPump (n : Nat) : Nat → State → State
  | 0, s => s
  | f + 1, s => if cufUp s n then (match nextVc s n with | some v => cufPump n f (sendFirst n v s) | none => s) else s

def pumpFuel : Nat := 600

def cufEnqueue (n : Nat) (p : CufPkt) (s : State) : State := updCuf n (fun c => { c with outq := c.outq ++ [p] }) s
def queued (s : State) (n v : Nat) : Nat := ((s.cufP n).outq.filter (fun p => p.vc == v)).length

/-! ### Retraining and violations (R394, R405, R413, R414) -/

def cufReason (n r : Nat) (s : State) : State := s.setFld (Reg.CUF_ERR_INFO n) 11 8 r

/-- A retrain starts, or a trigger during a retrain is counted. -/
def cufRetrain (n reason : Nat) (s : State) : State :=
  if cufUp s n then
    let s := ((setCufState n 3 s).inc (Reg.CUF_RETRAIN_CNT n)).setReg (Reg.CUF_LAST_RETRAIN n) s.nowLo
    let s := updCuf n (fun c => { c with since := s.tb.pulses, gotTs2 := false, gotAdv := false }) (cufReason n reason s)
    let s := logErr (.cuf n) 0x2A n 0 (nw reason) s
    let send := cufSendUnseq n 10 (reason * 2 ^ 38) [] 1
    raise (136 + n) (send (send (send s)))
  else if cufState s n = 3 then s.inc (Reg.CUF_RETRAIN_CNT n)
  else s

/-- Violation k of the partner, with the header slot (R414). -/
def cufViol (n k : Nat) (hdr : BitVec 80) (s : State) : State :=
  let s := (s.inc (Reg.CUF_VIOL_CNT n k)).setFld (Reg.CUF_ERR_INFO n) 7 4 k
  let s := (s.setReg (Reg.CUF_VIOL_HDR_LO n) (nw hdr.toNat)).setReg (Reg.CUF_VIOL_HDR_HI n) (nw (hdr.toNat / 2 ^ 40))
  let first := !Nat.testBit (s.cufP n).violSeen k
  let s := updCuf n (fun c => { c with violSeen := c.violSeen ||| 2 ^ k }) s
  raise (138 + n) (if first then logErr (.cuf n) 0x2B n 0 (nw k) s else s)

/-! ### Replay (R388, R389) -/

/-- A RESYNC row leaves port n: the slot stream counts from it (R375, R388). -/
def sendResync (n : Nat) (s : State) : State := updCuf n (fun c => { c with txSlot := 0 }) s

/-- Every held packet is sent again, in order; a packet sent 8 times starts a retrain. -/
def cufReplay (n : Nat) (s : State) : State :=
  if !cufUp s n then s
  else
    let ps := (s.cufP n).replay
    if ps.any (fun p => decide (8 ≤ p.sent)) then cufRetrain n 2 s
    else
      let s := updCuf n (fun c => { c with ackSince := s.tb.pulses, replay := c.replay.map (fun p => { p with sent := p.sent + 1 }) }) s
      (s.cufP n).replay.foldl (fun s p => cufSend n p 1 s) (s.addTo (Reg.CUF_REPLAY_CNT n) ps.length)

/-! ### Messages of the stream engine (R427, R458) -/

/-- Every word of the unit of ring r has reached the port. -/
def msgWhole (s : State) (r : Nat) : Bool :=
  match (s.ring r).unit with | some u => u.moved == unitTotal s r u | none => true

/-- The far end of port n as the consort record gives it: the member that `CNS_PEER` places there directly. -/
def farMember (s : State) (n : Nat) : Option Nat :=
  (List.range 4).find? (fun m => s.fld (Reg.CNS_PEER m) 2 1 == 1 && s.fld (Reg.CNS_PEER m) 0 0 == n)

/-- The consort word of a message (R427). -/
def consortWord (s : State) (n : Nat) : Word := nw (s.fld Reg.CNS_EPOCH 15 0 * 2 ^ 24 + ownId s * 2 ^ 22 + (farMember s n).getD 0 * 2 ^ 20)

/-- The next packet of a message, if enough of it has come: how many words it takes and whether it is the last. -/
def msgNext (s : State) (m : CufMsg) : Option (Nat × Bool) :=
  let cap := if m.begun then 16 else 15
  if msgWhole s m.ring then (if m.words.isEmpty then none else some (min cap m.words.length, decide (m.words.length ≤ cap)))
  else if cap < m.words.length then some (cap, false) else none

/-- One packet is made of the message of ring r. -/
def msgMake (n r : Nat) (s : State) : State :=
  match (s.cufP n).msgs.find? (fun m => m.ring == r) with
  | none => s
  | some m =>
    match msgNext s m with
    | none => s
    | some (k, last) =>
      let v := m.channel % max 1 (reqVcs s n)
      if 16 ≤ queued s n v then s
      else
        let ws := (if m.begun then [] else [consortWord s n]) ++ m.words.take k
        let f := m.channel * 2 ^ 34 + b2n (!m.begun) * 2 ^ 33 + b2n last * 2 ^ 32 + (ws.length - 1) * 2 ^ 28
        let s := updMsgs n (fun l => l.map (fun x => if x.ring = r then { x with words := x.words.drop k, begun := true, unacked := x.unacked + 1 } else x)) s
        cufEnqueue n ⟨6, v, 0, f, ws, 0, 256 + r⟩ s

/-- Messages give up packets and the port sends, as far as queues and credits allow. -/
def msgPump (n : Nat) : Nat → State → State
  | 0, s => s
  | f + 1, s =>
    let s' := (s.cufP n).msgs.foldl (fun s m => msgMake n m.ring s) s
    let s' := cufPump n pumpFuel s'
    if s' = s then s else msgPump n f s'

/-- The messages every packet of which has been acknowledged are delivered (R458). -/
def msgDone (n : Nat) (s : State) : State :=
  (s.cufP n).msgs.foldl (fun s m =>
    if m.begun && m.unacked == 0 && m.words.isEmpty && msgWhole s m.ring then
      let tot := match (s.ring m.ring).unit with | some u => unitTotal s m.ring u | none => 0
      sinkTook m.ring tot s.nowLo (updMsgs n (fun l => l.filter (fun x => x.ring != m.ring)) s)
    else s) s

/-! ### Acknowledgments and credit returns (R386, R387, R414) -/

/-- The oldest `k` held packets have been acknowledged. -/
def dropHeld (n k : Nat) (s : State) : State :=
  let c := s.cufP n
  let gone := c.replay.take k
  let c := { c with replay := c.replay.drop k, ackSince := if k = 0 then c.ackSince else s.tb.pulses,
                    msgs := c.msgs.map (fun m => { m with unacked := m.unacked - (gone.filter (fun p => p.tag == 256 + m.ring)).length }) }
  msgDone n (s.setCuf n c)

def cufAck (n ackk seq : Nat) (hdr : BitVec 80) (s : State) : State :=
  if ackk = 0 then s
  else
    let c := s.cufP n
    let base := match c.replay with | p :: _ => (p.seq + 4095) % 4096 | [] => (c.txNext + 4095) % 4096
    let k := (seq + 4096 - base) % 4096
    if ackk = 3 || c.replay.length < k then cufViol n 5 hdr s
    else
      let s := dropHeld n k s
      if ackk = 2 then cufReplay n (sendResync n (s.inc (Reg.CUF_NAK_RX_CNT n))) else s

/-- Credit returns for one VC. -/
def cufReturn (n v k : Nat) (hdr : BitVec 80) (s : State) : State :=
  if k = 0 then s
  else if 8 < v then cufViol n 7 hdr s
  else
    let c := s.cufP n
    let w := SMap.getD 0 v c.window
    let x := SMap.getD 0 v c.credits + k
    let s := s.setCuf n { c with credits := SMap.put 0 v (min x w) c.credits, gotTotal := SMap.put 0 v ((SMap.getD 0 v c.gotTotal + k) % 65536) c.gotTotal }
    if w < x then cufViol n 6 hdr s else s

/-! ### Line errors (R388) -/

/-- A bad CRC, a bad slot (`crc`) or a sequence gap: a NAK leaves and the receiver enters resync. -/
def cufRxError (n : Nat) (crc : Bool) (s : State) : State :=
  let s := if crc then updCuf n (fun c => { c with crcTimes := s.tb.pulses :: c.crcTimes.filter (fun t => decide (s.tb.pulses < t + 1000)) }) (s.inc (Reg.CUF_CRC_ERR_CNT n))
    else s
  let s := cufSendUnseq n 1 0 [] 2 ((s.setBit (Reg.CUF_STATUS n) 3 true).inc (Reg.CUF_RESYNC_CNT n))
  let s := s.inc (Reg.CUF_NAK_TX_CNT n)
  if 64 < (s.cufP n).crcTimes.length then cufRetrain n 5 s else s

/-- Blocks reach every lane of port n. -/
def laneBlocks (n k : Nat) (s : State) : State := (List.range 4).foldl (fun s l => s.addTo (Reg.CUF_LANE_BLOCKS n l) k) s

/-- RESYNC: a RESYNC row ends resync, and slot framing starts afresh (R374, R388). -/
def cufResync (n : Nat) (s : State) : State :=
  updCuf n (fun c => { c with rxSlot := 0 }) (laneBlocks n 1 (s.setBit (Reg.CUF_STATUS n) 3 false))

/-- The slots of a packet that arrives move the stream on: every data row completed gave each lane a block (R375). -/
def cufSlots (n : Nat) (x : CufRx) (s : State) : State :=
  let k := x.data.length + 2
  updCuf n (fun c => { c with rxSlot := c.rxSlot + k }) (laneBlocks n (rowsDone (s.cufP n).rxSlot k) s)

/-! ### Responses to the partner (R382, R400) -/

def statusOf (k : Nat) : FStatus :=
  match k with | 0 => .ok | 1 => .decode | 2 => .prot | 3 => .timeout | 4 => .domainOff | 5 => .poison | 6 => .linkDown | _ => .prot

/-- An RSP to the request with link tag t that came on VC v. -/
def cufRspTo (n t v : Nat) (st : FStatus) (d : Line) (s : State) : State :=
  let has := (st = .ok || st = .poison) && !d.isEmpty
  let pois := bitsToNat ((d.take 16).map (fun w => decide (w.mark = .poison)))
  let f := t * 2 ^ 34 + statusCode st * 2 ^ 31 + (if has then (d.length - 1) % 16 * 2 ^ 27 + 2 ^ 26 + pois * 2 ^ 10 else 0)
  cufEnqueue n ⟨5, 4 + v % 4 % max 1 (rspVcs s n), 0, f, if has then d.map (fun w => w.v) else [], 0, 512⟩ s

/-- The inbound request with tag t has been performed: its one RSP is queued; after a link-down there is none to answer. -/
def cufAnswer (n t : Nat) (st : FStatus) (d : Line) (s : State) : State :=
  match SMap.find t (s.cufP n).inTags with
  | none => s
  | some e => cufPump n pumpFuel (cufRspTo n t e.vc st d (updCuf n (fun c => { c with inTags := SMap.erase t c.inTags }) s))

/-! ### Requests to the partner (R399, R424, R425) -/

def freeOut (s : State) (n : Nat) (marked : Bool) : List Nat :=
  ((List.range 128).map (fun i => (if marked then 128 else 0) + i)).filter (fun t => !(s.cufP n).outTags.any (fun e => e.1 == t))

def addOut (n t : Nat) (e : CufOut) (s : State) : State := updCuf n (fun c => { c with outTags := c.outTags ++ [(t, e)] }) s

def newOut (p : Option Pkt) (relay : Option (Nat × Nat)) : CufOut := ⟨p, relay, none, none, 1, .ok, .ok, []⟩

def maskWords (m : Nat) : List Word := [nw m, nw (m / 2 ^ 40)]

/-- The packets of a local request: type, words, mask if it is a WRM. -/
def reqField (o t words : Nat) : Nat := o * 4096 + t * 16 + (words - 1)

/-- The octets that a write request enables. -/
def pktMask (p : Pkt) : Nat := if p.masked then p.mask else 2 ^ (5 * p.data.length) - 1

/-- A local request becomes one or two packets on VC v with the tags `ts`. -/
def cufIssue (n v o : Nat) (ts : List Nat) (p : Pkt) (s : State) : State :=
  let t := ts.headD 0
  let ws := p.data.map (fun w => w.v)
  let full := pktMask p % 2 ^ (5 * ws.length) == 2 ^ (5 * ws.length) - 1
  let e := newOut (some p) none
  if p.code = 0 then cufEnqueue n ⟨2, v, 0, reqField o t p.len, [], 0, t⟩ (addOut n t e s)
  else if full then cufEnqueue n ⟨3, v, 0, reqField o t ws.length, ws, 0, t⟩ (addOut n t e s)
  else if ws.length ≤ 14 then cufEnqueue n ⟨4, v, 0, reqField o t ws.length, maskWords p.mask ++ ws, 0, t⟩ (addOut n t e s)
  else
    let t2 := ts.getD 1 0
    let s := addOut n t2 { newOut none none with lead := some t } (addOut n t { e with parts := 2 } s)
    cufEnqueue n ⟨4, v, 0, reqField (o + 14) t2 (ws.length - 14), maskWords (p.mask / 2 ^ 70) ++ ws.drop 14, 0, t2⟩
      (cufEnqueue n ⟨4, v, 0, reqField o t 14, maskWords (p.mask % 2 ^ 70) ++ ws.take 14, 0, t⟩ s)

/-- A local request at port n, from its peer-window address (R404, R424): answered at once, sent or queued, or waiting for a tag or a place. -/
def cufLocal (n : Nat) (p : Pkt) (s : State) : Option (FStatus × Line) × State :=
  let m := (otherMembers s).getD ((p.addr - 2 ^ 32) / 2 ^ 30) 0
  let o := p.addr % 2 ^ 30
  let mode := s.fld (Reg.CNS_PEER m) 2 1
  let st := cufState s n
  if 2 ≤ p.code then (some (.prot, []), logProt (.cuf n) p.src 4 p.addr s)
  else if mode = 0 || !s.bit Reg.CNS_STATUS (9 + m) || !(st == 2 || st == 3) then (some (.linkDown, []), s.inc (Reg.CUF_LINKDOWN_CNT n))
  else
    let v := p.src % max 1 (reqVcs s n)
    let two := p.code == 1 && decide (14 < p.data.length) && pktMask p % 2 ^ (5 * p.data.length) != 2 ^ (5 * p.data.length) - 1
    let ts := freeOut s n (mode == 2)
    let need := if two then 2 else 1
    if SMap.getD 0 v (s.cufP n).window = 0 then (some (.prot, []), s)
    else
      let s := if st = 3 then s.inc (Reg.CUF_HELD_CNT n) else s
      if ts.length < need || 16 < queued s n v + need then (none, updCuf n (fun c => { c with waiting := c.waiting ++ [p] }) s)
      else (none, cufPump n pumpFuel (cufIssue n v o ts p s))

/-- Waiting local requests proceed as far as tags and places allow. -/
def cufRetryWaiting (n : Nat) (s : State) : State :=
  let w := (s.cufP n).waiting
  if w.isEmpty then s
  else w.foldl (fun s p => match cufLocal n p s with | (some (st, d), s) => respond p st d s | (none, s) => s) (updCuf n (fun c => { c with waiting := [] }) s)

/-! ### Requests from the partner (R400, R425, R426) -/

/-- The inbound request waits in the receive buffer when its fabric access cannot leave, or its homes cannot take it. -/
def cufBlocked (s : State) (n : Nat) (p : CufPkt) (pa : Nat) : Bool :=
  match destOf s pa with
  | none => false
  | some d => (freeTag? s (20 + n)).isNone || niHolds s (20 + n) d ||
      ((match regionAt s pa with | some r => r.cacheable | none => false) &&
       homeWaits s (9 + n) (if p.type = 2 then rdU else wrU) pa p.words)

/-- An access of the port to a region that is not coherent: its tag on the fabric, or its answer. -/
def cufIo (srv : Server) (n code pa words mask : Nat) (d : Line) (s : State) : Option Nat × State :=
  let ep := 20 + n
  let p : Pkt := { mkReq ⟨20, 3, 0⟩ code pa words .cas (decide (mask ≠ 2 ^ (5 * words) - 1)) mask d with src := ep }
  match freeTag? s ep with
  | none => (none, s)
  | some t =>
    let s := ioRequest srv p words s
    if (tagOf s ep t).st = .busy then (some t, s) else (none, s)

/-- The request at local physical address `pa` is performed (R400); `none` waits for the fabric. -/
def cufPerform (srv : Server) (n : Nat) (p : CufPkt) (pa : Nat) (s : State) : Option Nat × FStatus × Line × State :=
  let k := p.words
  let a := 9 + n
  let rd := p.type == 2
  let mask := if p.type = 4 then ((p.data.getD 0 0).toNat + (p.data.getD 1 0).toNat * 2 ^ 40) % 2 ^ (5 * k) else 2 ^ (5 * k) - 1
  let ws : Line := ((if p.type = 4 then p.data.drop 2 else p.data).take k).map (fun w => ⟨w, .good⟩)
  match leavesPart s pa k with
  | some x => (none, .decode, [], logDecode (20 + n) x s)
  | none =>
    let reg := regionAt s pa
    if (match reg with | some r => r.cacheable | none => false) then
      if rd then
        if k = 16 && pa % 16 = 0 && decide (reg ≠ some .rom) then
          let q := acquireShared a (pa / 16) s
          match SMap.find (pa / 16) (q.2.agent a).lines with
          | some c => (none, if hasPoison c.data then .poison else .ok, c.data, settleNet netFuel (evictLine a (pa / 16) q.2))
          | none => (none, q.1, [], q.2)
        else let q := cohRead a 3 pa k s; (none, q.1, q.2.1, q.2.2)
      else if reg = some .rom then (none, .prot, [], logProt (.cuf n) (20 + n) 2 pa s)
      else let q := cohWrite a 3 pa mask ws s; (none, q.1, [], q.2)
    else
      match cufIo srv n (if rd then 0 else 1) pa k mask ws s with
      | (some t, s) => (some t, .ok, [], s)
      | (none, s) => (none, s.resp.status, s.resp.data, s)

/-- The local physical address of a window offset (R426); `none` where its quarter is not exposed. -/
def exposed (s : State) (o : Nat) : Option Nat :=
  let e := Reg.CNS_EXPOSE (o / 2 ^ 28 % 4)
  if s.bit e 6 then some (s.fld e 5 0 * 2 ^ 28 + o % 2 ^ 28) else none

def addIn (n t : Nat) (e : CufIn) (s : State) : State := updCuf n (fun c => { c with inTags := SMap.insert t e c.inTags }) s

/-- A request is taken out of the receive buffer, if it can be: `none` leaves it there. A packet with tag 1 outlived its link: its RSP is
discarded (R410). -/
def cufTakeReq (srv : Server) (n : Nat) (p : CufPkt) (s : State) : Option State :=
  let t := p.tag8
  let s0 := if p.tag = 1 then s else addIn n t ⟨p.vc, none⟩ s
  let answer := fun (st : FStatus) (d : Line) (s : State) => if p.tag = 1 then s else cufAnswer n t st d s
  if 128 ≤ t then
    let m := 1 - n
    if !(cufJoined s m && (cufState s m == 2 || cufState s m == 3)) then some (answer .linkDown [] (s0.inc Reg.CNS_RELAY_CNT))
    else
      match freeOut s m false with
      | [] => none
      | u :: _ =>
        let v := p.vc % max 1 (reqVcs s m)
        if 64 ≤ ((s.cufP m).outTags.filter (fun e => e.2.relay.isSome)).length || decide (16 ≤ queued s m v) then none
        else
          let f := p.field / 4096 * 4096 + u * 16 + p.field % 16
          let s := addOut m u (newOut none (if p.tag = 1 then none else some (t, p.vc))) (s0.inc Reg.CNS_RELAY_CNT)
          some (cufPump m pumpFuel (cufEnqueue m { p with vc := v, field := f, sent := 0, tag := u } s))
  else
    match exposed s p.addr with
    | none => some (answer .prot [] s0)
    | some pa =>
      if cufBlocked s n p pa then none
      else
        match cufPerform srv n p pa s0 with
        | (some w, _, _, s) => some (if p.tag = 1 then s else addIn n t ⟨p.vc, some w⟩ s)
        | (none, st, d, s) => some (answer st d s)

/-- The fabric access with tag t of port n has been answered. -/
def cufIoDone (n t : Nat) (st : FStatus) (d : Line) (s : State) : State :=
  match (s.cufP n).inTags.find? (fun e => e.2.wait == some t) with
  | none => s
  | some e => cufAnswer n e.1 st d s

/-! ### Responses and messages from the partner (R399, R427, R435) -/

/-- The local or relayed request of an outbound tag is complete. -/
def outComplete (n : Nat) (e : CufOut) (st : FStatus) (d : Line) (s : State) : State :=
  match e.pkt, e.relay with
  | some p, _ => respond p st d s
  | none, some (t, _) => cufAnswer (1 - n) t st d s
  | none, none => s

def eraseOut (n t : Nat) (s : State) : State := updCuf n (fun c => { c with outTags := c.outTags.filter (fun e => e.1 != t) }) s
def setOut (n t : Nat) (f : CufOut → CufOut) (s : State) : State :=
  updCuf n (fun c => { c with outTags := c.outTags.map (fun e => if e.1 = t then (e.1, f e.2) else e) }) s

/-- One packet of a split request has been answered; with the last the request completes with the first non-OK status, in packet order. -/
def partDone (n t : Nat) (s : State) : State :=
  match SMap.find t (s.cufP n).outTags with
  | none => s
  | some e => if e.parts = 0 then outComplete n e (if e.status = .ok then e.other else e.status) e.data (eraseOut n t s) else s

/-- An RSP for an outstanding tag. -/
def cufTakeRsp (n : Nat) (p : CufPkt) (hdr : BitVec 80) (s : State) : State :=
  let t := p.field / 2 ^ 34
  match SMap.find t (s.cufP n).outTags with
  | none => cufViol n 8 hdr s
  | some e =>
    let k := p.field / 2 ^ 31 % 8
    let s := if k = 7 then cufViol n 10 hdr s else s
    let st := statusOf k
    let words := if p.field / 2 ^ 26 % 2 = 1 then p.field / 2 ^ 27 % 16 + 1 else 0
    let d : Line := (List.range words).map (fun i => ⟨p.data.getD i 0, if Nat.testBit (p.field / 2 ^ 10) i then .poison else .good⟩)
    let s := match e.lead with
      | some l => partDone n l (setOut n l (fun x => { x with other := st, parts := x.parts - 1 }) (eraseOut n t s))
      | none => partDone n t (setOut n t (fun x => { x with status := st, data := d, parts := x.parts - 1 }) s)
    cufRetryWaiting n s

/-- A whole message for a channel with no enabled ring bound to it is discarded and counted (R458). -/
def purgeMsg (n ch : Nat) (s : State) : State :=
  match SMap.find ch (s.cufP n).msgIn with
  | some m => if m.last && !m.drop && (boundRing s 8 (256 * n + ch) true).isNone then
      (updCuf n (fun c => { c with msgIn := SMap.erase ch c.msgIn }) s).inc Reg.SEG_UNBOUND_CNT else s
  | none => s

/-- A MSG packet: its consort word is checked and removed, and its words join the message of its channel. `none` waits: the channel's last
message has not been taken. -/
def cufTakeMsg (n : Nat) (p : CufPkt) (s : State) : Option State :=
  let ch := p.field / 2 ^ 34 % 256
  let s := purgeMsg n ch s
  let first := p.field / 2 ^ 33 % 2 == 1
  let last := p.field / 2 ^ 32 % 2 == 1
  let ws := p.data.take (p.field / 2 ^ 28 % 16 + 1)
  let ep := s.fld Reg.CNS_EPOCH 15 0
  let put := fun (m : CufMsgIn) (s : State) => updCuf n (fun c => { c with msgIn := SMap.insert ch m c.msgIn }) s
  let drop := fun (s : State) => updCuf n (fun c => { c with msgIn := SMap.erase ch c.msgIn }) s
  match SMap.find ch (s.cufP n).msgIn with
  | some m =>
    if m.last then none
    else if m.drop then some (if last then drop s else s)
    else if ep ≠ m.epoch then some (let s := s.inc Reg.CNS_STALE_MSG_CNT; if last then drop s else put { m with words := [], drop := true } s)
    else some (purgeMsg n ch (put { m with words := m.words ++ ws, last := last } s))
  | none =>
    if !first then some s
    else if fget (ws.headD 0) 39 24 ≠ ep then
      some (let s := s.inc Reg.CNS_STALE_MSG_CNT; if last then s else put ⟨[], ep, false, true⟩ s)
    else some (purgeMsg n ch (put ⟨ws.drop 1, ep, last, false⟩ s))

/-- Accepted packets leave the receive buffer in order per VC; a packet that waits holds its VC. Freed slots are owed to the partner. -/
def cufDeliver (srv : Server) (n : Nat) (s : State) : State :=
  let q := (s.cufP n).rxq
  if q.isEmpty then s else
  let step := fun (a : List Nat × State) (p : CufPkt) =>
    if a.1.contains p.vc then (a.1, updCuf n (fun c => { c with rxq := c.rxq ++ [p] }) a.2)
    else
      match (if p.type = 6 then cufTakeMsg n p a.2 else cufTakeReq srv n p a.2) with
      | none => (p.vc :: a.1, updCuf n (fun c => { c with rxq := c.rxq ++ [p] }) a.2)
      | some s => (a.1, if p.tag = 1 then s else updCuf n (fun c => { c with rxocc := dec c.rxocc p.vc (1 + p.len), owed := bump c.owed p.vc (1 + p.len) }) s)
  (q.foldl step ([], updCuf n (fun c => { c with rxq := [] }) s)).2

/-! ### Receiving (R386, R388, R390, R414) -/

/-- LEN as TYPE and the word count of FIELD give it (R379, R380). -/
def lenOk (p : CufPkt) (len : Nat) : Bool :=
  match p.type with
  | 2 => len == 0
  | 3 => len == (p.words + 1) / 2
  | 4 => decide (p.words ≤ 14) && len == 1 + (p.words + 1) / 2
  | 5 => len == (if p.field / 2 ^ 26 % 2 = 1 then (p.field / 2 ^ 27 % 16 + 2) / 2 else 0)
  | 6 => len == (p.field / 2 ^ 28 % 16 + 2) / 2
  | 7 => len == 2
  | 8 => len == (p.field / 2 ^ 26 % 16 + 2) / 2
  | 9 => len == 3
  | 11 => len == 3
  | 12 => len == 1
  | _ => len == 0

/-- The VC class a type belongs to. -/
def vcClassOk (t v : Nat) : Bool :=
  match t with
  | 2 | 3 | 4 | 6 => decide (v < 4)
  | 5 => decide (4 ≤ v) && decide (v < 8)
  | _ => v == 8

/-- Reserved bits of FIELD are zero (R380), and those of the trailer. -/
def reservedZero (p : CufRx) : Bool :=
  let f := sget p.hdr 41 0
  let ok := match sget p.hdr 79 76 with
    | 2 | 3 | 4 => true
    | 5 => f % 2 ^ 10 == 0
    | 6 => f % 2 ^ 28 == 0
    | 8 => f % 2 ^ 26 == 0
    | 9 => f % 2 ^ 23 == 0
    | 10 => f % 2 ^ 38 == 0
    | 7 => f == 0
    | _ => f == 0
  ok && sget p.trailer 55 32 == 0 && (seqType (sget p.hdr 79 76) || sget p.hdr 71 60 == 0)

/-- An accepted packet that is discarded: slots back to the partner when `ret`, PROT to a request. -/
def cufRefuse (n : Nat) (p : CufPkt) (ret prot : Bool) (s : State) : State :=
  let s := if ret then updCuf n (fun c => { c with owed := bump c.owed p.vc (1 + p.len) }) s else s
  if prot && isReqType p.type then cufPump n pumpFuel (cufRspTo n p.tag8 p.vc .prot [] s) else s

/-- A sequenced packet in its turn. `act` is what a management or IMAGE packet does. -/
def cufTakeSeq (srv : Server) (n : Nat) (x : CufRx) (act : CufPkt → State → State) (s : State) : State :=
  let p := rxPkt x
  let len := sget x.hdr 45 42
  let s := (updCuf n (fun c => { c with nextRx := (c.nextRx + 1) % 4096 }) s)
  let s := if p.vc ≤ 8 then s.addTo (Reg.CUF_RXSLOT n p.vc) (2 + len) else s
  let c := s.cufP n
  if 13 ≤ p.type then cufRefuse n p (openVc s n p.vc && p.vc ≤ 8) false (cufViol n 0 x.hdr s)
  else if 8 < p.vc || !openVc s n p.vc then cufRefuse n p false false (cufViol n 1 x.hdr s)
  else if !vcClassOk p.type p.vc then cufRefuse n p true true (cufViol n 2 x.hdr s)
  else if !lenOk p len then cufRefuse n p true true (cufViol n 3 x.hdr s)
  else if allocOf s n p.vc < SMap.getD 0 p.vc c.rxocc + SMap.getD 0 p.vc c.owed + 1 + len then cufRefuse n p false true (cufViol n 4 x.hdr s)
  else if p.vc ≠ 8 && !cufJoined s n then cufRefuse n p true true (cufViol n 15 x.hdr s)
  else
    let s := if reservedZero x then s else cufViol n 7 x.hdr s
    let free := fun (s : State) => updCuf n (fun c => { c with owed := bump c.owed p.vc (1 + len) }) s
    if p.type = 5 then free (cufTakeRsp n p x.hdr s)
    else if p.vc = 8 then free (act p s)
    else if isReqType p.type && ((SMap.find p.tag8 c.inTags).isSome || c.rxq.any (fun q => isReqType q.type && q.tag8 == p.tag8 && q.tag != 1)) then
      cufRefuse n p true false (cufViol n 9 x.hdr s)
    else
      cufDeliver srv n (updCuf n (fun c => { c with rxq := c.rxq ++ [p], rxocc := bump c.rxocc p.vc (1 + len) }) s)

/-- A packet with a good CRC: acknowledgment and credit returns apply whatever its SEQ and TYPE. -/
def cufHeard (n : Nat) (x : CufRx) (s : State) : State :=
  let s := updCuf n (fun c => { c with lastGood := s.tb.pulses }) (s.inc (Reg.CUF_RX_PKT_CNT n))
  let s := cufReturn n (sget x.trailer 79 76) (sget x.trailer 75 68) x.hdr s
  let s := cufReturn n (sget x.trailer 67 64) (sget x.trailer 63 56) x.hdr s
  cufAck n (sget x.hdr 59 58) (sget x.hdr 57 46) x.hdr s

/-- A packet arrives at port n. `seq` is what a management or IMAGE packet does, `uns` what an unsequenced one does. -/
def cufReceive (srv : Server) (n : Nat) (x : CufRx) (seq uns : CufPkt → State → State) (s : State) : State :=
  let st := cufState s n
  if !(st == 1 || st == 2 || st == 3) || (st != 2 && !(s.cufP n).gotTs2) then s
  else
  let s := cufSlots n x s
  if s.bit (Reg.CUF_STATUS n) 3 then s
  else if !hdrValid x || !cufCrcOk x then (if st = 1 then s else cufRxError n true s)
  else
    let p := rxPkt x
    if seqType p.type then
      if st = 1 then s
      else
        let s := cufHeard n x s
        let nx := (s.cufP n).nextRx
        let behind := (nx + 4096 - p.seq) % 4096
        if behind = 0 then msgPump n 64 (cufTakeSeq srv n x seq s)
        else if behind ≤ 2048 then s
        else cufRxError n false s
    else
      let s := cufHeard n x s
      let s := if p.vc = 8 && lenOk p (sget x.hdr 45 42) && reservedZero x then s
        else cufViol n (if 8 < p.vc || !openVc s n p.vc then 1 else if p.vc ≠ 8 then 2 else if !lenOk p (sget x.hdr 45 42) then 3 else 7) x.hdr s
      if p.vc ≠ 8 || !lenOk p (sget x.hdr 45 42) then s else msgPump n 64 (uns p s)

/-! ### Training (R391, R392, R396, R412) -/

/-- Configuration in force from an initial training on (R408). -/
def cufConfig (s : State) (n : Nat) : List Nat :=
  [s.fld (Reg.CUF_VCCFG n) 2 0, s.fld (Reg.CUF_VCCFG n) 6 4] ++ (List.range 8).map (fun v => s.fld (Reg.CUF_WIN n v) 9 0)

def clearLanes (n : Nat) (s : State) : State := (List.range 4).foldl (fun s l => s.setFld (Reg.CUF_LANE_STAT n l) 1 0 0) s

/-- Training begins at step 1. -/
def cufTrain (n : Nat) (s : State) : State :=
  clearLanes n (updCuf n (fun c => { c with pll := false, gotTs2 := false, gotAdv := false, cfg := cufConfig s n, since := s.tb.pulses }) (setCufState n 1 s))

/-- CUFF_TRAINING_START: the SerDes PLL has locked, and step 2 begins. -/
def cufPllLock (n : Nat) (s : State) : State :=
  if cufState s n = 1 && !(s.cufP n).pll && !cufStopped s then updCuf n (fun c => { c with pll := true, since := s.tb.pulses }) s else s

def lanesLocked (s : State) (n : Nat) : Bool := (List.range 4).all (fun l => s.bit (Reg.CUF_LANE_STAT n l) 0)

def inTraining (s : State) (n : Nat) : Bool := (cufState s n == 1 && (s.cufP n).pll) || cufState s n == 3

/-- BLOCK_LOCK: every lane locks; logical lane l is on physical lane `phys l`, inverted where bit l of `inv` is 1. -/
def cufBlockLock (n : Nat) (phys : List Nat) (inv : Nat) (s : State) : State :=
  if !inTraining s n then s
  else (List.range 4).foldl (fun s l => s.setReg (Reg.CUF_LANE_STAT n l) (nw (b2n (Nat.testBit inv l) * 16 + phys.getD l 0 % 4 * 4 + 1))) s

/-- TS2: received on all lanes with at least 16 sent: RESYNC leaves and the slot stream starts. `port` is the partner's port number, which its
blocks carry (R374). -/
def cufTs2 (n : Nat) (port : Bool) (s : State) : State :=
  if !inTraining s n || !lanesLocked s n then s
  else
    let s := (List.range 4).foldl (fun s l => s.setBit (Reg.CUF_LANE_STAT n l) 1 true) s
    updCuf n (fun c => { c with gotTs2 := true, partner := some (b2n port), txSlot := 0, rxSlot := 0 }) (s.setBit (Reg.CUF_STATUS n) 3 false)

/-- This port's entries of an ADV: ALLOC and FREE per VC (R380). -/
def advData (s : State) (n : Nat) : List Word :=
  let ent := fun v => if v < 9 && (v = 8 || decide (v % 4 < (if v < 4 then (s.cufP n).cfg.getD 0 1 else (s.cufP n).cfg.getD 1 1))) then
      allocOf s n v * 1024 + (allocOf s n v - SMap.getD 0 v (s.cufP n).rxocc) else 0
  (List.range 6).map (fun i => nw (ent (2 * i) + ent (2 * i + 1) * 2 ^ 20))

/-- ADV_DUE: an ADV leaves during training. -/
def cufAdvDue (n : Nat) (s : State) : State :=
  if inTraining s n && (s.cufP n).gotTs2 then
    let c := s.cufP n
    cufSendUnseq n 9 (c.nextRx * 2 ^ 30 + c.cfg.getD 0 1 * 2 ^ 27 + c.cfg.getD 1 1 * 2 ^ 24 + b2n c.gotAdv * 2 ^ 23) (advData s n) 0 s
  else s

/-- ALLOC and FREE of VC v in an ADV. -/
def advEntry (p : CufPkt) (v : Nat) : Nat × Nat :=
  let w := (p.data.getD (v / 2) 0).toNat / (if v % 2 = 1 then 2 ^ 20 else 1) % 2 ^ 20
  (w / 1024, w % 1024)

def vcCount (k : Nat) : Nat := if k = 0 || 4 < k then 1 else k

/-- The ADV's faults: a count of 0 or above 4, an ALLOC below 9 or a FREE above ALLOC of an open VC. -/
def advBad (p : CufPkt) (rq rs : Nat) : Bool :=
  let a := p.field / 2 ^ 27 % 8
  let b := p.field / 2 ^ 24 % 8
  a = 0 || 4 < a || b = 0 || 4 < b ||
  ((List.range 9).filter (fun v => v == 8 || decide (v < rq) || (decide (4 ≤ v) && decide (v < 4 + rs)))).any
    (fun v => decide ((advEntry p v).1 < 9) || decide ((advEntry p v).1 < (advEntry p v).2))

/-- Step 6 of R391: the partner's ADV is applied, and the port is UP. -/
def advTrain (n : Nat) (p : CufPkt) (hdr : BitVec 80) (s : State) : State :=
  let a := vcCount (p.field / 2 ^ 27 % 8)
  let b := vcCount (p.field / 2 ^ 24 % 8)
  let c := s.cufP n
  let rq := min a (c.cfg.getD 0 1)
  let rs := min b (c.cfg.getD 1 1)
  let c := { c with violSeen := 0, nextRx := 0, txNext := 0, replay := [], outq := [], owed := [], retTotal := [], gotTotal := [], watch := [],
                    rxocc := [], lastGood := s.tb.pulses, ackSince := s.tb.pulses, crcTimes := [],
                    rxq := c.rxq.map (fun q => { q with tag := 1 }) }
  let s := s.setCuf n c
  let s := if advBad p rq rs then cufViol n 12 hdr s else s
  let s := if p.field / 2 ^ 27 % 8 = c.cfg.getD 0 1 && p.field / 2 ^ 24 % 8 = c.cfg.getD 1 1 then s else cufViol n 13 hdr s
  let s := s.setFld (Reg.CUF_VCCFG n) 13 8 (rs * 8 + rq)
  let vs := (List.range 9).filter (fun v => openVc s n v)
  let s := vs.foldl (fun s v =>
    let e := advEntry p v
    let w := if e.1 < 9 then 0 else e.1
    updCuf n (fun c => { c with window := SMap.put 0 v w c.window, credits := SMap.put 0 v (min e.2 w) c.credits }) s)
    (updCuf n (fun c => { c with window := [], credits := [] }) s)
  (List.range 9).foldl (fun s v => s.setReg (Reg.CUF_SHORT n v) 0) (setCufState n 2 s)

/-- Step 5 of R395: held packets below the partner's NEXT_RX go, credits are set (R396), and the rest is replayed. -/
def advRetrain (n : Nat) (p : CufPkt) (s : State) : State :=
  let nx := p.field / 2 ^ 30 % 4096
  let c := s.cufP n
  let k := (c.replay.findIdx? (fun q => q.seq == nx)).getD c.replay.length
  let s := dropHeld n k s
  let c := s.cufP n
  let cr := (List.range 9).foldl (fun m v =>
    let held := ((c.replay.filter (fun q => q.vc == v)).map (fun q => 1 + q.len)).sum
    if openVc s n v then SMap.put 0 v (min (advEntry p v).2 (SMap.getD 0 v c.window) - held) m else m) []
  let c := { c with credits := cr, retTotal := [], gotTotal := [], watch := [], owed := [], lastGood := s.tb.pulses, crcTimes := [],
                    replay := c.replay.map (fun q => { q with sent := 0 }) }
  let s := (List.range 9).foldl (fun s v => s.setReg (Reg.CUF_SHORT n v) 0) (setCufState n 2 (s.setCuf n c))
  cufPump n pumpFuel (cufReplay n s)

/-- A received ADV (R391, R395, R414). -/
def cufTakeAdv (n : Nat) (hdr : BitVec 80) (p : CufPkt) (s : State) : State :=
  match cufState s n with
  | 2 => cufRetrain n 7 (cufViol n 11 hdr s)
  | 1 =>
    let s := updCuf n (fun c => { c with gotAdv := true }) s
    if p.field / 2 ^ 23 % 2 = 1 then advTrain n p hdr s else s
  | 3 =>
    let s := updCuf n (fun c => { c with gotAdv := true }) s
    if p.field / 2 ^ 23 % 2 = 1 then advRetrain n p s else s
  | _ => s

/-- TRAIN_TIMEOUT: 1 ms after step 2 the port starts again there (R412). -/
def cufTrainTimeout (n : Nat) (s : State) : State :=
  let c := s.cufP n
  if cufState s n = 1 && c.pll && decide (c.since + 1000 ≤ s.tb.pulses) then
    let lack := bitsToNat ((List.range 4).map (fun l => !s.bit (Reg.CUF_LANE_STAT n l) 0))
    let s := (s.inc (Reg.CUF_TRAIN_FAIL_CNT n)).setFld (Reg.CUF_ERR_INFO n) 3 0 lack
    let s := if c.failLogged then s else logErr (.cuf n) 0x29 n 0 (nw lack) s
    clearLanes n (s.setCuf n { c with since := s.tb.pulses, gotTs2 := false, gotAdv := false, failLogged := true })
  else s

/-- LOCK_LOST on lane l (R394): the clause 49 state machine that R374 names has met 16 invalid sync headers, which the lane's `_ERR` counts. -/
def cufLockLost (n l : Nat) (s : State) : State :=
  let s := (s.setFld (Reg.CUF_LANE_STAT n l) 1 0 0).addTo (Reg.CUF_LANE_ERR n l) 16
  cufRetrain n 3 s

/-- SILENCE: 50 µs of UP without a good packet. -/
def cufSilence (n : Nat) (s : State) : State :=
  if cufUp s n && decide ((s.cufP n).lastGood + 50 ≤ s.tb.pulses) then cufRetrain n 4 s else s

/-- REPLAY_TIMEOUT (R389). -/
def cufReplayTimeout (n : Nat) (s : State) : State :=
  let c := s.cufP n
  if cufUp s n && !c.replay.isEmpty && decide (c.ackSince + s.fld (Reg.CUF_TIMERS n) 5 0 + 1 ≤ s.tb.pulses) then cufReplay n s else s

/-! ### The credit balance (R397, R398) -/

/-- BALANCE_DUE: a BALANCE leaves. -/
def cufBalanceDue (n : Nat) (s : State) : State :=
  if cufUp s n then
    let g := fun v => SMap.getD 0 v (s.cufP n).retTotal
    cufSendUnseq n 11 0 ((List.range 6).map (fun i => nw (g (2 * i) + g (2 * i + 1) * 2 ^ 20))) 1 (s.inc (Reg.CUF_BALANCE_CNT n))
  else s

def shrinkLimit (s : State) (n v : Nat) : Nat := SMap.getD 0 v (s.cufP n).window * s.fld (Reg.CUF_TIMERS n) 13 7 / 100

/-- A received BALANCE. -/
def cufTakeBalance (n : Nat) (p : CufPkt) (s : State) : State :=
  if !cufUp s n then s
  else
    ((List.range 9).filter (fun v => openVc s n v)).foldl (fun s v =>
      let ret := (p.data.getD (v / 2) 0).toNat / (if v % 2 = 1 then 2 ^ 20 else 1) % 65536
      let short := (ret + 65536 - SMap.getD 0 v (s.cufP n).gotTotal) % 65536
      let tooFew := decide (shrinkLimit s n v ≤ short)
      let old := (s.cufP n).watch
      let w := if tooFew then (if (SMap.find v old).isSome then old else SMap.insert v s.tb.pulses old) else SMap.erase v old
      let s := updCuf n (fun c => { c with watch := w }) s
      s.setReg (Reg.CUF_SHORT n v) (nw (b2n tooFew * 2 ^ 17 + short))) s

/-- CREDIT_SHRINK: the watch of VC v lasts to the 1,001st edge. -/
def cufCreditShrink (n v : Nat) (s : State) : State :=
  match SMap.find v (s.cufP n).watch with
  | some t => if decide (t + 1001 ≤ s.tb.pulses) then cufRetrain n 1 s else s
  | none => s

/-! ### Link down (R410, R411) -/

/-- A message of ring r will not be delivered. -/
def msgLost (r : Nat) (s : State) : State :=
  match (s.ring r).unit with
  | some u => setUnit r { u with status := 4, complete := true, wait := none } s
  | none => s

/-- The link goes down; consort membership follows in `Machine/Cns.lean`. -/
def cufDown (n reason : Nat) (s : State) : State :=
  if !(cufState s n == 1 || cufState s n == 2 || cufState s n == 3) then s
  else
    let s := ((setCufState n 4 s).inc (Reg.CUF_DOWN_CNT n)).setReg (Reg.CUF_LAST_DOWN n) s.nowLo
    let s := (cufReason n reason s).setFld (Reg.CUF_STATUS n) 5 3 0
    let c := s.cufP n
    let s := s.setCuf n { c with outTags := [], waiting := [], outq := [], replay := [], msgs := [], inTags := [], since := s.tb.pulses,
                                 rxq := c.rxq.map (fun q => { q with tag := 1 }), pll := false, gotTs2 := false, gotAdv := false, watch := [] }
    let s := s.addTo (Reg.CUF_LINKDOWN_CNT n) ((c.outTags.filter (fun e => e.2.lead.isNone)).length + c.waiting.length)
    let s := c.outTags.foldl (fun s e => if e.2.lead.isSome then s else outComplete n e.2 .linkDown [] s) s
    let s := c.waiting.foldl (fun s p => respond p .linkDown [] s) s
    let s := c.msgs.foldl (fun s m => msgLost m.ring s) s
    raise (136 + n) (logErr (.cuf n) 0x28 n 0 (nw reason) s)

def cufRetrainTimedOut (s : State) (n : Nat) : Bool := cufState s n == 3 && decide ((s.cufP n).since + 30 ≤ s.tb.pulses)

/-- An outbound request has gone unanswered for 10 ms. -/
def cufSilentReq (s : State) (n t : Nat) : Bool :=
  match SMap.find t (s.cufP n).outTags with
  | some e => (match e.since with | some x => decide (x + 10000 ≤ s.tb.pulses) | none => false) && (cufState s n == 2 || cufState s n == 3)
  | none => false

/-- LINK_RESTART (R411). -/
def cufRestart (n : Nat) (s : State) : State :=
  if cufState s n = 4 && s.bit (Reg.CUF_CTL n) 0 && !cufStopped s && decide ((s.cufP n).since + 100 ≤ s.tb.pulses) then cufTrain n s else s

/-! ### Writes and views of the port's page -/

/-- VCCFG and WIN writes (R408). -/
def cufLkWrite (ep n a : Nat) (v : Word) (s : State) : State :=
  let s' := writeReg ep a v s
  let rq := s'.fld (Reg.CUF_VCCFG n) 2 0
  let rs := s'.fld (Reg.CUF_VCCFG n) 6 4
  let sum := (((List.range 8).filter (fun x => decide (x % 4 < (if x < 4 then rq else rs)))).map (fun x => s'.fld (Reg.CUF_WIN n x) 9 0)).sum
  let low := decide (Reg.CUF_WIN n 0 ≤ a) && decide (a < Reg.CUF_WIN n 0 + 8) && decide (fget v 9 0 < 9)
  if s.isSealed then s' else if low || decide (960 < sum) then captureRsvd ep a v s else s'

def cufView (s : State) (n a : Nat) : Option Word :=
  let c := s.cufP n
  if a = Reg.CUF_SEQ n then some (nw (c.nextRx * 4096 + c.txNext))
  else if a = Reg.CUF_TAGS n then some (nw (min 8 (s.agent (9 + n)).lines.length * 2 ^ 18 + c.inTags.length * 512 + c.outTags.length))
  else if Reg.CUF_CRED n 0 ≤ a && decide (a < Reg.CUF_CRED n 0 + 9) then
    let v := a - Reg.CUF_CRED n 0
    some (nw (SMap.getD 0 v c.window * 1024 + SMap.getD 0 v c.credits))
  else if Reg.CUF_RXOCC n 0 ≤ a && decide (a < Reg.CUF_RXOCC n 0 + 9) then some (nw (SMap.getD 0 (a - Reg.CUF_RXOCC n 0) c.rxocc))
  else if Reg.CUF_OUTQ n 0 ≤ a && decide (a < Reg.CUF_OUTQ n 0 + 9) then some (nw (min 16 (queued s n (a - Reg.CUF_OUTQ n 0))))
  else none

end Sys2Proof.Machine
end

