-- ==== Sys2Proof/Machine/Cns.lean ====
section
/-!
DEFINITION. Consorts (R415-R439): management messages, the state of a link by R420, membership and epochs, the shared time and its servo, and the
boot service.
-/
set_option linter.constructorNameAsVariable false

namespace Sys2Proof.Machine

/-! ### Management messages (R418) -/

def cnsLeader (s : State) : Bool := s.bit Reg.CNS_ID 2

/-- The two straps agree (R415). -/
def strapOk (s : State) : Bool := cnsLeader s == (ownId s == 0)

/-- The links of the port are usable. -/
def linkUp (s : State) (n : Nat) : Bool := cufUp s n

def inConsort (s : State) : Bool := s.bit Reg.CNS_STATUS 6

def setCns (f : Cns → Cns) (s : State) : State := { s with cns := f s.cns }

/-- Word 0 of a message of this device. -/
def mgmtWord0 (s : State) (kind subj : Nat) : Word :=
  nw (kind * 2 ^ 36 + ownId s * 2 ^ 34 + subj * 2 ^ 32 + s.fld Reg.CNS_EPOCH 15 0 * 2 ^ 16 + (if kind = 0 then 0x21 * 2 ^ 8 else 0) + b2n (cnsLeader s) * 2 ^ 7 +
    b2n (!s.isSealed) * 2 ^ 6 + b2n (inConsort s) * 2 ^ 5 + b2n (strapOk s) * 2 ^ 4)

/-- Four words leave port n in a HELLO packet. -/
def mgmtForward (n : Nat) (ws : List Word) (s : State) : State := cufPump n pumpFuel (cufEnqueue n ⟨7, 8, 0, 0, ws, 0, 512⟩ s)

def mgmtSend (n kind subj : Nat) (v v2 : Word) (mask : Nat) (s : State) : State := mgmtForward n [mgmtWord0 s kind subj, v, v2, nw mask] s

def sendHello (n : Nat) (s : State) : State :=
  if linkUp s n then mgmtSend n 0 0 (s.reg Reg.CNS_IMAGE_VER) (s.reg Reg.CNS_FINGERPRINT) (s.fld Reg.CNS_CFG 3 0) s else s

def sendHellos (s : State) : State := sendHello 1 (sendHello 0 s)

/-- A record of the consort, with its capture (R439). -/
def cnsLog (kind port : Nat) (info : Word) (s : State) : State :=
  logErr .cns (0x2F + cnsKind kind) port 0 info (s.setReg Reg.CNS_ERR_INFO (nw (port * 16 + kind)))
where
  /-- Records 30h STRAP_CONFLICT and 31h ROLE_CLASH stand in the other order than the KIND codes 1h and 2h. -/
  cnsKind (k : Nat) : Nat := if k = 1 then 2 else if k = 2 then 1 else k

/-! ### Membership (R420, R422, R423, R436) -/

/-- The member at the far end of a joined port. -/
def joinedFar (s : State) (n : Nat) : Option Nat := if cufJoined s n then farMember s n else none

/-- This device's joined neighbors as a mask. -/
def linkMask (s : State) : Nat := ((List.range 2).filterMap (fun n => joinedFar s n)).foldl (fun m k => m ||| 2 ^ k) 0

/-- The port of the lowest-ID joined neighbor. -/
def upstreamPort (s : State) : Option Nat :=
  match joinedFar s 0, joinedFar s 1 with
  | none, none => none
  | some _, none => some 0
  | none, some _ => some 1
  | some a, some b => some (if a < b then 0 else 1)

/-- Members reached over joined links from the members of `m`, one link further. -/
def reachStep (s : State) (m : Nat) : Nat :=
  (List.range 4).foldl (fun acc k => if Nat.testBit m k then acc ||| (if k = 0 then linkMask s else SMap.getD 0 k s.cns.links) else acc) m

def setLocked (b : Bool) (s : State) : State := s.setBit Reg.CNS_STATUS 4 b

/-- The leader's joined set; a change makes an epoch and is told on every joined link. -/
def leaderJoined (s : State) : State :=
  let m := reachStep s (reachStep s (reachStep s 1)) % 16
  if s.fld Reg.CNS_STATUS 12 9 = m then s
  else
    let s := (s.setFld Reg.CNS_STATUS 12 9 m).setFld Reg.CNS_EPOCH 15 0 (s.fld Reg.CNS_EPOCH 15 0 + 1)
    let tell := fun (n : Nat) (s : State) => if cufJoined s n then mgmtSend n 2 0 0 0 m s else s
    raise 140 (tell 1 (tell 0 s))

/-- The servo begins as before its first lock (R431, R432). -/
def servoRestart (s : State) : State := setCns (fun c => { c with lockRun := 0, everLocked := false, lastSample := s.tb.pulses }) s

/-- After a link has become joined or has stopped being so (`old` is the link mask before): membership, upstream and the message to it. -/
def membership (old : Nat) (s : State) : State :=
  if cnsLeader s then (if inConsort s then leaderJoined s else s)
  else
    let new := linkMask s
    let s := match upstreamPort s with
      | some n =>
        let u := (joinedFar s n).getD 0
        let lost := !(old != 0 && s.fld Reg.CNS_STATUS 8 7 == u)
        let s := s.setFld Reg.CNS_STATUS 8 7 u
        if lost then setLocked false (setCns (fun c => { c with lockRun := 0 }) s) else s
      | none => if old ≠ 0 then setLocked true (s.setFld Reg.CNS_STATUS 8 7 0) else s
    let enters := old == 0 && new != 0
    let s := s.setBit Reg.CNS_STATUS 6 (new != 0)
    let s := if enters && !s.cns.everLocked then servoRestart s else s
    let s := if enters then sendHellos s else s
    if new = old then s
    else match upstreamPort s with
      | some n => mgmtSend n 3 (ownId s) 0 0 new s
      | none => s

/-- JOINED and APART of port n. -/
def setLink (n : Nat) (joined apart : Bool) (s : State) : State :=
  let old := linkMask s
  membership old ((s.setBit (Reg.CUF_STATUS n) 4 joined).setBit (Reg.CUF_STATUS n) 5 apart)

/-- The partner is the far end that the link list gives for port n: its ID, and the port number of its training blocks where both are known. -/
def atFarEnd (s : State) (n src : Nat) : Bool :=
  farMember s n == some src &&
  (match SMap.find n s.cns.far, (s.cufP n).partner with | some e, some q => e.2 == q | _, _ => true)

/-- The state of a link from the partner's latest HELLO: the first row of R420's table that matches. -/
def cnsDecide (n : Nat) (ws : List Word) (s : State) : State :=
  let w := ws.headD 0
  let src := fget w 35 34
  let apart := setLink n false true
  if !strapOk s || !bget w 4 then apart s
  else if cnsLeader s && bget w 7 then apart (cnsLog 1 n 0 (s.inc Reg.CNS_ROLE_CLASH_CNT))
  else if ownId s = src then apart (cnsLog 3 n 0 s)
  else if s.isSealed && !atFarEnd s n src then apart (cnsLog 4 n 0 s)
  else if !s.isSealed || bget w 6 then apart s
  else if s.fld Reg.CNS_FINGERPRINT 31 0 ≠ fget (ws.getD 2 0) 31 0 then
    apart (cnsLog 5 n (nw (fget (ws.getD 2 0) 31 0)) (s.inc Reg.CNS_FP_MISMATCH_CNT))
  else if !inConsort s && !bget w 5 then setLink n false false s
  else
    let s := setLink n true false s
    cufPump n pumpFuel (cufRetryWaiting n s)

/-- The links are decided again with the device's own new state (R421). -/
def cnsHello (n : Nat) (ws : List Word) (s : State) : State :=
  let s := (List.range 3).foldl (fun s i => s.setReg (Reg.CNS_RX_HELLO (3 * n + i)) (ws.getD i 0)) s
  cnsDecide n ws (setCns (fun c => { c with hello := SMap.insert n ws c.hello }) s)

/-- Port n has gone down, for whatever reason: membership follows (R410, R436). -/
def linkDown (n reason : Nat) (s : State) : State :=
  let old := linkMask s
  let s := cufDown n reason s
  membership old (setCns (fun c => { c with hello := SMap.erase n c.hello, imgLeft := SMap.erase n c.imgLeft, serve := SMap.erase n c.serve }) s)

/-- EPOCH: adopted by a follower and forwarded on its other joined link. -/
def takeEpoch (n : Nat) (ws : List Word) (s : State) : State :=
  if cnsLeader s || !cufJoined s n then s
  else
    let m := fget (ws.getD 3 0) 3 0
    let s' := (s.setFld Reg.CNS_EPOCH 15 0 (fget (ws.headD 0) 31 16)).setFld Reg.CNS_STATUS 12 9 m
    let s' := if s.fld Reg.CNS_STATUS 12 9 = m then s' else raise 140 s'
    if cufJoined s' (1 - n) then mgmtForward (1 - n) ws s' else s'

/-- LINKS: forwarded toward the leader, or recorded by it. -/
def takeLinks (n : Nat) (ws : List Word) (s : State) : State :=
  if !cufJoined s n then s
  else if cnsLeader s then
    leaderJoined (setCns (fun c => { c with links := SMap.put 0 (fget (ws.headD 0) 35 34) (fget (ws.getD 3 0) 3 0) c.links }) s)
  else match upstreamPort s with
    | some u => if u = n then s else mgmtForward u ws s
    | none => s

/-! ### Shared time (R428-R432) -/

/-- An 80-bit tick held in two registers. -/
def tick2 (s : State) (lo hi : Nat) : Int := Int.ofNat ((s.reg hi).toNat * 2 ^ 40 + (s.reg lo).toNat)

/-- TIME_SEND: a TIME packet leaves a joined link. -/
def timeSend (n : Nat) (s : State) : State :=
  if cufUp s n && cufJoined s n then
    cufSendUnseq n 12 0 [s.nowLo, s.nowHi] 1 ((s.setReg (Reg.CUF_TIME_TX_LO n) s.nowLo).setReg (Reg.CUF_TIME_TX_HI n) s.nowHi)
  else s

/-- TIME: captured, and answered with a SYNC. -/
def takeTime (n : Nat) (p : CufPkt) (s : State) : State :=
  let s := (s.setReg (Reg.CUF_TIME_PEER_LO n) (p.data.getD 0 0)).setReg (Reg.CUF_TIME_PEER_HI n) (p.data.getD 1 0)
  let s := (s.setReg (Reg.CUF_TIME_RX_LO n) s.nowLo).setReg (Reg.CUF_TIME_RX_HI n) s.nowHi
  let d := tick2 s (Reg.CUF_TIME_RX_LO n) (Reg.CUF_TIME_RX_HI n) - tick2 s (Reg.CUF_TIME_PEER_LO n) (Reg.CUF_TIME_PEER_HI n)
  if cufJoined s n then mgmtSend n 1 0 (BitVec.ofInt 40 d) (p.data.getD 0 0) 0 s else s

/-- |θ| ticks are longer than `us` microseconds. -/
def longerThan (s : State) (t : Int) (us : Nat) : Bool := decide (us * 1000000000 < t.natAbs * s.fld Reg.TB_TICK_FS 23 0)

/-- PERIOD_US in ticks, to the nearest. -/
def periodTicks (s : State) : Nat :=
  let fs := max 1 (s.fld Reg.TB_TICK_FS 23 0)
  (s.fld Reg.CNS_SERVO_CTL 29 20 * 1000000000 + fs / 2) / fs

/-- The slew the servo sets: as a write of `TB_SLEW` does, it restarts the slew count (R316). -/
def servoSlew (mode int : Nat) (s : State) : State :=
  let s := s.setFld Reg.TB_SLEW 25 24 mode
  let s := if mode = 0 then s else s.setFld Reg.TB_SLEW 23 0 int
  { s with tb := { s.tb with slewCnt := 0 } }

/-- A step of `TB_NOW` by TB_STEP_HI and `v` with all it skips: timers, boundaries and audio frames (R317, R332, R437, R545). -/
def tbStepAll (v : Word) (s : State) : State :=
  let s' := tbStep v s
  (List.range 8).foldl (fun x g => audSkipped s g (skippedCount (s.rgen g) s'.now) s'.now x) s'

/-- What the servo does with θ (R430). -/
def servoAct (t : Int) (s : State) : State :=
  if t < - Int.ofNat (s.fld Reg.CNS_SERVO_CTL 9 0) then
    tbStepAll (nw t.natAbs) (s.setReg Reg.TB_STEP_HI 0)
  else if t = 0 then servoSlew 0 0 s
  else servoSlew (if t < 0 then 1 else 2) (min 1000000 (max 1000 (periodTicks s / t.natAbs))) s

def timeApart (port : Nat) (t : Word) (s : State) : State :=
  let s := (s.setFld Reg.TB_SLEW 25 24 0).setBit Reg.CNS_STATUS 5 true
  let s := if inConsort s then setLocked false s else s
  raise 141 (cnsLog 7 port t (s.inc Reg.CNS_TIME_APART_CNT))

def timeDrift (port : Nat) (t : Word) (s : State) : State :=
  raise 141 (cnsLog 6 port t ((setLocked false (s.setBit Reg.CNS_STATUS 3 true)).inc Reg.CNS_DRIFT_CNT))

/-- A follower's servo runs: SERVO_EN, not time-apart. -/
def servoRuns (s : State) : Bool := !cnsLeader s && s.bit Reg.CNS_CTL 1 && !s.bit Reg.CNS_STATUS 5

/-- SYNC from the upstream, for the TIME packet this side sent last. -/
def cnsSync (n : Nat) (ws : List Word) (s : State) : State :=
  if !servoRuns s || upstreamPort s ≠ some n || ws.getD 2 0 ≠ s.reg (Reg.CUF_TIME_TX_LO n) then s
  else
    let a := tick2 s (Reg.CUF_TIME_RX_LO n) (Reg.CUF_TIME_RX_HI n) - tick2 s (Reg.CUF_TIME_PEER_LO n) (Reg.CUF_TIME_PEER_HI n)
    let d := (ws.getD 1 0).toInt
    let t := (a - d).tdiv 2
    let s := (s.setReg Reg.CNS_OFFSET (BitVec.ofInt 40 t)).setReg Reg.CNS_DELAY (BitVec.ofInt 40 ((a + d).tdiv 2))
    let s := setCns (fun c => { c with lastSample := s.tb.pulses }) (s.setReg Reg.CNS_LAST_SYNC s.nowLo)
    let drift := s.cns.everLocked && longerThan s t 2
    let far := s.cns.everLocked && longerThan s t 20
    let s := if drift then timeDrift n (BitVec.ofInt 40 t) s else s
    if far then timeApart n (BitVec.ofInt 40 t) s
    else
      let s := servoAct t s
      if t.natAbs ≤ s.fld Reg.CNS_SERVO_CTL 19 10 then
        let s := setCns (fun c => { c with lockRun := c.lockRun + 1 }) s
        if 8 ≤ s.cns.lockRun then setLocked true (setCns (fun c => { c with everLocked := true }) s) else s
      else setCns (fun c => { c with lockRun := 0 }) s

/-- TIME_APART: 10 ms without an accepted sample. -/
def timeApartDue (s : State) : State :=
  if servoRuns s && s.cns.everLocked && decide (s.cns.lastSample + 10000 ≤ s.tb.pulses) then
    timeApart ((upstreamPort s).getD 0) (s.reg Reg.CNS_OFFSET) s
  else s

/-- A write of `CNS_CTL`; REJOIN_TIME leaves time-apart. -/
def cnsCtlWrite (ep : Nat) (v : Word) (s : State) : State :=
  let s := writeReg ep Reg.CNS_CTL v s
  if bget v 2 && s.bit Reg.CNS_STATUS 5 then servoRestart (s.setBit Reg.CNS_STATUS 5 false) else s

/-! ### Booting followers (R433) -/

/-- This device takes its image from Cuff and waits for a stream. -/
def cuffBoot (s : State) : Bool :=
  s.boot.cufSrc && (s.fld Reg.BSQ_STATUS 9 7 == 2 || s.fld Reg.BSQ_STATUS 9 7 == 3) && s.fld Reg.BSQ_STATUS 6 5 == 2

/-- BOOT_REQ_DUE: on every UP port until an IMAGE stream begins. -/
def bootReqDue (s : State) : State :=
  if cuffBoot s && s.boot.imgFor.isNone then
    let ups := (List.range 2).filter (fun n => cufUp s n)
    let s := ups.foldl (fun s n => mgmtSend n 4 (ownId s) 0 0 0 s) s
    if s.boot.began || ups.isEmpty then s else { s with boot := { s.boot with began := true, since := s.tb.pulses } }
  else s

/-- One more IMAGE packet of the stream served on port n, while its queue has a place. -/
def servePump (n : Nat) : Nat → State → State
  | 0, s => s
  | f + 1, s =>
    match SMap.find n s.cns.serve with
    | some (ws, b) =>
      if 16 ≤ queued s n 8 || !cufUp s n then s
      else
        let k := min 16 ws.length
        let s := setCns (fun c => { c with serve := if ws.length ≤ 16 then SMap.erase n c.serve else SMap.insert n (ws.drop 16, (b + 1) % 4096) c.serve }) s
        servePump n f (cufPump n pumpFuel (cufEnqueue n ⟨8, 8, 0, b * 2 ^ 30 + (k - 1) * 2 ^ 26, ws.take 16, 0, 512⟩ s))
    | none => s

/-- BOOT_REQ: served by the leader from the QSPI slot it booted from, whose words are `flash`; forwarded by a joined relay. -/
def takeBootReq (n : Nat) (flash ws : List Word) (s : State) : State :=
  if cnsLeader s then
    if !s.isSealed then s
    else if s.fld Reg.BSQ_STATUS 6 5 ≠ 0 then s.inc Reg.BSQ_SERVE_REFUSED
    else if (SMap.find n s.cns.serve).isSome then s
    else
      let len := s.fld Reg.BSQ_IMAGE_LEN 31 0
      let img := (flash ++ List.replicate (len - flash.length) 0).take len
      let s := mgmtSend n 5 (fget (ws.headD 0) 35 34) (nw len) 0 0 s
      servePump n 32 (setCns (fun c => { c with serve := SMap.insert n (img, 0) c.serve }) s)
  else if inConsort s then
    match upstreamPort s with
    | some u => if u = n then s else mgmtForward u ws s
    | none => s
  else s

/-- IMAGE_FOR: the stream is this device's own, or passes through it. -/
def takeImageFor (n : Nat) (ws : List Word) (s : State) : State :=
  if fget (ws.headD 0) 33 32 = ownId s then
    if cuffBoot s && s.boot.imgFor.isNone then
      { s with boot := { s.boot with imgFor := some ((ws.getD 1 0).toNat, n), since := s.tb.pulses, began := true } }
    else s
  else mgmtForward (1 - n) ws (setCns (fun c => { c with imgLeft := SMap.insert n (ws.getD 1 0).toNat c.imgLeft }) s)

/-- IMAGE: the words of a stream that passes through, or of this device's own. -/
def takeImage (n : Nat) (p : CufPkt) (s : State) : State :=
  let k := p.field / 2 ^ 26 % 16 + 1
  match SMap.find n s.cns.imgLeft with
  | some left =>
    let s := setCns (fun c => { c with imgLeft := if left ≤ k then SMap.erase n c.imgLeft else SMap.insert n (left - k) c.imgLeft }) s
    cufPump (1 - n) pumpFuel (cufEnqueue (1 - n) { p with sent := 0, tag := 512 } s)
  | none =>
    match s.boot.imgFor with
    | some (len, port) =>
      if port ≠ n || !cuffBoot s then s
      else
        let add := fun (l : List Word) => (l ++ p.data.take k).take len
        let b := s.boot
        { s with boot := if s.fld Reg.BSQ_STATUS 9 7 = 2 then { b with img := add b.img, since := s.tb.pulses }
                         else { b with again := add b.again, since := s.tb.pulses } }
    | none => s

/-! ### A packet on VC 8h -/

/-- Reserved KINDs, and fields that KIND does not use or that are reserved and not zero. -/
def mgmtBad (ws : List Word) : Bool :=
  let w := ws.headD 0
  let k := fget w 39 36
  decide (5 < k) || fget w 3 0 != 0 || fget (ws.getD 3 0) 39 4 != 0 || (k != 0 && fget w 15 8 != 0) ||
  (decide (2 ≤ k) && decide (k ≤ 4) && ws.getD 1 0 != 0) || (k == 0 && fget (ws.getD 1 0) 39 24 != 0) || (decide (2 ≤ k) && ws.getD 2 0 != 0) ||
  (k == 0 && fget (ws.getD 2 0) 39 32 != 0) || (!(k == 0 || k == 2 || k == 3) && fget (ws.getD 3 0) 3 0 != 0)

def mgmtTake (n : Nat) (flash ws : List Word) (s : State) : State :=
  if mgmtBad ws then cnsLog 8 n 0 s
  else match fget (ws.headD 0) 39 36 with
    | 0 => cnsHello n ws s
    | 1 => cnsSync n ws s
    | 2 => takeEpoch n ws s
    | 3 => takeLinks n ws s
    | 4 => takeBootReq n flash ws s
    | _ => takeImageFor n ws s

/-- A sequenced packet on VC 8h; HELLO packets of a retrain wait for its end (R434). -/
def mgmtPacket (n : Nat) (flash : List Word) (p : CufPkt) (s : State) : State :=
  if p.type = 8 then takeImage n p s
  else if cufState s n = 3 then setCns (fun c => { c with held := c.held ++ [(n, p.data)] }) s
  else mgmtTake n flash p.data s

/-- The held HELLO packets of port n, once it is UP again. -/
def mgmtHeld (n : Nat) (s : State) : State :=
  if cufUp s n then
    let mine := s.cns.held.filter (fun e => e.1 == n)
    mine.foldl (fun s e => mgmtTake n [] e.2 s) (setCns (fun c => { c with held := c.held.filter (fun e => e.1 != n) }) s)
  else s

/-- An ADV; a port that comes UP from training sends HELLO (R391, R419). -/
def takeAdv (n : Nat) (hdr : BitVec 80) (p : CufPkt) (s : State) : State :=
  let was := cufState s n
  let s := cufTakeAdv n hdr p s
  if cufUp s n then mgmtHeld n (if was = 1 then sendHello n s else s) else s

/-- An unsequenced packet of type ADV, RETRAIN, BALANCE, TIME or NULL. -/
def unseqPacket (n : Nat) (hdr : BitVec 80) (p : CufPkt) (s : State) : State :=
  match p.type with
  | 9 => takeAdv n hdr p s
  | 10 => if cufUp s n then cufRetrain n 7 s else s
  | 11 => cufTakeBalance n p s
  | 12 => takeTime n p s
  | _ => s

/-- A packet arrives at port n. -/
def cufRx (srv : Server) (n : Nat) (flash : List Word) (x : CufRx) (s : State) : State :=
  servePump n 32 (servePump (1 - n) 32 (cufReceive srv n x (mgmtPacket n flash) (unseqPacket n x.hdr) s))

/-! ### The links of the sequencer and of shedding -/

/-- A write of `CUF_n_CTL` (R372, R409): EN starts training or takes the link down; RETRAIN and the injections act. -/
def cufCtlWrite (ep n : Nat) (v : Word) (s : State) : State :=
  let was := s.bit (Reg.CUF_CTL n) 0
  let s := writeReg ep (Reg.CUF_CTL n) v s
  let on := s.bit (Reg.CUF_CTL n) 0
  let s := if on && !was && !cufStopped s then cufTrain n (updCuf n (fun c => { c with failLogged := false }) s)
    else if was && !on then linkDown n 15 s else s
  if bget v 1 then cufRetrain n 6 s else s

end Sys2Proof.Machine
end

