-- ==== Sys2Proof/Machine/Keep.lean ====
section
/-!
DEFINITION. The keep store (R607-R609, R613, R618): words with their check bits, the pages that accept a store, and the three commands.
-/
set_option linter.constructorNameAsVariable false

namespace Sys2Proof.Machine

/-- The presence window is open (R639). -/
def presenceOpen (s : State) : Bool := s.bit Reg.BSQ_PRESENCE 16

def kepStat (i : Nat) (s : State) : State := lv1 89 (fun s => s.setBit Reg.KEP_STATUS i true) s

def setKeep (o : Nat) (w : MWord) (s : State) : State := { s with keep := memWrite o w s.keep }

/-- The keep store writes one word; a word that is not poisoned takes an armed injection (`KEP_INJECT`). -/
def keepPut (o : Nat) (w : MWord) (s : State) : State :=
  let s := s.inc Reg.KEP_WR_CNT
  if w.mark = .poison || s.keepInj = 0 then setKeep o w s
  else { setKeep o ⟨w.v, if s.keepInj = 2 then .two else .one⟩ s with keepInj := 0 }

/-- One word is read (R618): a correctable error is corrected and rewritten, an uncorrectable one poisons the word. -/
def keepGet (o : Nat) (s : State) : MWord × State :=
  let s := s.inc Reg.KEP_RD_CNT
  let w := memRead s.keep o
  match w.mark with
  | .one => (⟨w.v, .good⟩, (setKeep o ⟨w.v, .good⟩ s).inc Reg.KEP_CE_CNT)
  | .two =>
    let v := w.v ^^^ 3
    let syn := Config.eccSyndrome w.v v % 256
    let s := (setKeep o ⟨v, .poison⟩ s).inc Reg.KEP_UE_CNT
    let s := (s.setReg Reg.KEP_ERR_ADDR (nw (0x10000 + o))).setReg Reg.KEP_ERR_INFO (nw (syn * 4 + 1))
    (⟨v, .poison⟩, kepStat 3 (logErr .kep 0x58 0 (nw (0x10000 + o)) (nw syn) s))
  | _ => (w, s)

def keepGets : Nat → Nat → State → Line × State
  | _, 0, s => ([], s)
  | o, n + 1, s =>
    let p := keepGet o s
    let q := keepGets (o + 1) n p.2
    (p.1 :: q.1, q.2)

/-- A read of n words at offset o: POISON if any word is. -/
def keepRead (o n : Nat) (s : State) : (FStatus × Line) × State :=
  let p := keepGets o n s
  ((if hasPoison p.1 then .poison else .ok, p.1), p.2)

/-- The page of offset o accepts a store (R608). -/
def keepPageOk (s : State) (o : Nat) : Bool :=
  let p := o / 256
  if p < 16 then presenceOpen s else if p < 32 then true else !s.bit (Reg.KEP_WP ((p - 32) / 40)) ((p - 32) % 40)

/-- Words written one by one, each with its octet enables; a part write rewrites its word inside the store (R60). -/
def keepPuts : Nat → Nat → Line → State → State
  | _, _, [], s => s
  | o, mask, w :: t, s =>
    if mask % 32 = 31 then keepPuts (o + 1) (mask / 32) t (keepPut o w s)
    else
      let p := keepGet o s
      keepPuts (o + 1) (mask / 32) t (keepPut o (mergeMWord mask p.1 w) p.2)

/-- A store by endpoint `ep`; `kind` is the access kind of R671's ADDR_PROT. -/
def keepStore (ep kind o mask : Nat) (d : Line) (s : State) : FStatus × State :=
  match ((List.range d.length).map (fun i => o + i)).find? (fun a => !keepPageOk s a) with
  | some a =>
    let s := (s.setReg Reg.KEP_ERR_ADDR (nw (0x10000 + a))).setReg Reg.KEP_ERR_INFO 2
    (.prot, kepStat 2 (logProt .kep ep kind (0x10000 + a) (s.inc Reg.KEP_PROT_CNT)))
  | none => (.ok, keepPuts o mask d s)

/-! ### Layers (R604) and commands (R609) -/

def layerValid (ws : List Word) : Bool :=
  let w := fun i => ws.getD i 0
  fget (w 0) 39 32 == 1 && fget (w 0) 7 0 == 0 && fget (w 1) 39 32 == 0 &&
  fget (w 1) 31 0 == crc32c (((ws.drop 2).map wordOctets).flatten) &&
  (List.range 128).all (fun k => fget (w (2 + k)) 39 28 == 0) && (List.range 128).all (fun k => fget (w (130 + k)) 39 16 == 0) &&
  fget (w 258) 39 10 == 0 && fget (w 258) 9 0 != 0 && (List.range 24).all (fun k => fget (w (259 + k)) 39 30 == 0) &&
  (ws.drop 283).all (fun x => x == 0)

/-- The 512 words of the layer at offset o, none if one of them is poisoned or they form no valid layer. -/
def readLayer (o : Nat) (s : State) : Option (List Word) × State :=
  let p := keepGets o 512 s
  let ws := p.1.map (fun w => w.v)
  (if hasPoison p.1 || !layerValid ws then none else some ws, p.2)

def keepZero (o n : Nat) (s : State) : State := keepPuts o (2 ^ (5 * n) - 1) (List.replicate n MWord.zero) s

/-- Words 2 to 511 of a layer are copied to the active layer, then words 0 and 1. -/
def copyLayer (ws : List Word) (s : State) : State :=
  let g := fun (l : List Word) => l.map (fun v => (⟨v, .good⟩ : MWord))
  keepPuts 0x1200 (2 ^ 10 - 1) (g (ws.take 2)) (keepPuts 0x1202 (2 ^ 2550 - 1) (g (ws.drop 2)) s)

/-- A command of the keep store: its result and whether it succeeded in changing the active layer. -/
def keepRun (op : Nat) (s : State) : Nat × State :=
  match op with
  | 1 =>
    if !presenceOpen s then (2, s)
    else
      match readLayer 0 s with
      | (none, s) => (3, s)
      | (some ws, s) => (0, copyLayer ws (keepZero 0x1000 512 s))
  | 2 => (0, keepZero 0x1000 4096 s)
  | 3 =>
    match readLayer 0x1000 s with
    | (none, s) => (3, s)
    | (some ws, s) => (0, copyLayer ws s)
  | _ => (1, s)

/-- A finished command; a success while Fingertip is enabled starts a load (R605). -/
def keepCmd (op : Nat) (s : State) : Nat × State :=
  let p := keepRun op s
  let s := kepStat 1 (p.2.setReg Reg.KEP_CMD_RESULT (nw p.1))
  (p.1, if p.1 = 0 && s.bit Reg.FGT_CTL 0 then { s with fgt := { s.fgt with loading := true } } else s)

def kepWrite (ep a : Nat) (v : Word) (s : State) : State :=
  if a = Reg.KEP_CMD then (keepCmd (fget v 3 0) s).2
  else if a = Reg.KEP_INJECT then
    if bget v 1 then { s with keepInj := 2 } else if bget v 0 then { s with keepInj := 1 } else s
  else lv1 89 (writeReg ep a v) s

def kepView (s : State) (a : Nat) : Option Word := if a = Reg.KEP_STATUS then some (bset (s.reg a) 5 (presenceOpen s)) else none

end Sys2Proof.Machine
end

