-- ==== Sys2Proof/Machine/Fingertip.lean ====
section
/-!
DEFINITION. Fingertip (R590-R606, R611-R617): the scan timeline, contacts, key states, velocities, analog inputs, the event queue and the
working calibration copy.
-/
set_option linter.constructorNameAsVariable false

namespace Sys2Proof.Machine

def updFgt (f : Fgt → Fgt) (s : State) : State := { s with fgt := f s.fgt }
def fgtStat (i : Nat) (s : State) : State := lv1 88 (fun s => s.setBit Reg.FGT_STATUS i true) s
def fgtErr (kind x : Nat) (s : State) : State := s.setReg Reg.FGT_ERR_INFO (nw (kind * 256 + x % 256))

def State.contact (s : State) (c : Nat) : FgtContact := SMap.getD FgtContact.reset c s.fgt.contacts
def setContact (c : Nat) (v : FgtContact) (s : State) : State := updFgt (fun f => { f with contacts := SMap.put FgtContact.reset c v f.contacts }) s
def State.fkey (s : State) (k : Nat) : FgtKey := SMap.getD FgtKey.reset k s.fgt.keys
def setFkey (k : Nat) (v : FgtKey) (s : State) : State := updFgt (fun f => { f with keys := SMap.put FgtKey.reset k v f.keys }) s

/-! ### Keys and their contacts (R591) -/

def fgtThree (s : State) : Bool := s.bit Reg.FGT_KEYS 8
def fgtKeys (s : State) : Nat := s.fld Reg.FGT_KEYS 7 0
def perKey (s : State) : Nat := if fgtThree s then 3 else 2

/-- The key that contact c belongs to, with its place: 0 A, 1 B, 2 C; none for a switch. -/
def keyOf (s : State) (c : Nat) : Option (Nat × Nat) :=
  let k := c / perKey s
  if k < fgtKeys s then some (k, c % perKey s) else none

def keyContacts (s : State) (k : Nat) : List Nat := (List.range (perKey s)).map (fun i => k * perKey s + i)
def anyClosed (s : State) (k : Nat) : Bool := (keyContacts s k).any (fun c => (s.contact c).closed)

/-- A drive line is hot (R593). -/
def hotLine (s : State) (d : Nat) : Bool :=
  s.fgt.keys.any (fun e => (e.2.st == 1 || e.2.st == 3 || e.2.st == 4) && (keyContacts s e.1).any (fun c => c / 16 == d))

def hotLines (s : State) : List Nat := (List.range 16).filter (hotLine s)

/-! ### The event queue (R601-R603) -/

def fgtAge (s : State) (t : Word) : Nat := (s.nowLo - t).toNat

/-- The place of a record among those of its tick (R602): key events by key, switch events by contact, ANALOG, then the others. -/
def recRank (w : Word) : Nat :=
  let t := fget w 39 36
  (if t ≤ 3 then 0 else if t ≤ 5 then 1 else if t = 6 then 2 else 3) * 256 + fget w 34 27

/-- Insert a record in the order of TICK (R602). -/
def insertByAge (s : State) (r : Word × Word) : List (Word × Word) → List (Word × Word)
  | [] => [r]
  | x :: t =>
    if fgtAge s x.2 < fgtAge s r.2 || (x.2 == r.2 && decide (recRank r.1 < recRank x.1)) then r :: x :: t else x :: insertByAge s r t

/-- The ring cannot take a record now. -/
def fgtRingIdle (s : State) : Bool := !ringRuns s 63 || handedOver s 63 == 0

def recIndex (w : Word) : Nat := fget w 34 27

/-- The high-water mark of the queue. -/
def fgtHigh (s : State) : State :=
  let n := (fgtRecords s).length
  if s.fld Reg.FGT_QUEUE 13 7 < n then s.setFld Reg.FGT_QUEUE 13 7 n else s

/-- A record is dropped: the OVERFLOW record in the reserved place counts it (R603). -/
def fgtDropRec (x : Nat) (s : State) : State :=
  let s := fgtStat 4 (fgtErr 2 x (s.inc Reg.FGT_DROP_CNT))
  fgtHigh (updFgt (fun f => { f with ovf := match f.ovf with
    | none => some ⟨1, s.nowLo, f.q.length, !cnsLocked s⟩
    | some o => some { o with n := o.n + 1 } }) s)

/-- An ANALOG record of channel j replaces the one queued. -/
def coalesce (r : Word × Word) : List (Word × Word) → List (Word × Word)
  | [] => []
  | x :: t => if fget x.1 39 36 = 6 && recIndex x.1 == recIndex r.1 then r :: t else x :: coalesce r t

/-- A record enters the queue. -/
def fgtQueue (r : Word × Word) (s : State) : State :=
  if fget r.1 39 36 = 6 && s.fgt.q.any (fun x => fget x.1 39 36 == 6 && recIndex x.1 == recIndex r.1) then
    (updFgt (fun f => { f with q := coalesce r f.q }) s).inc Reg.FGT_AIN_COALESCE_CNT
  else if 63 ≤ s.fgt.q.length then fgtDropRec (recIndex r.1) s
  else
    let q := insertByAge s r s.fgt.q
    let pos := (q.findIdx? (fun x => x == r)).getD 0
    let s := updFgt (fun f => { f with q := q, ovf := f.ovf.map (fun o => if pos < o.before then { o with before := o.before + 1 } else o) }) s
    let s := (s.inc Reg.FGT_EVENT_CNT).setReg Reg.FGT_LAST_TICK s.nowLo
    let s := if fgtRingIdle s then s.inc Reg.FGT_HOLD_CNT else s
    fgtHigh s

/-- Word 0 of a record (R601). -/
def fgtWord0 (s : State) (type index value interval : Nat) : Word :=
  nw (type * 2 ^ 36 + b2n (!cnsLocked s) * 2 ^ 35 + index % 256 * 2 ^ 27 + value % 65536 * 2 ^ 11 + min interval 2047)

def fgtEvent (type index value interval : Nat) (tick : Word) (s : State) : State := fgtQueue (fgtWord0 s type index value interval, tick) s

def seqErr (k : Nat) (s : State) : State := fgtStat 3 (fgtErr 3 k (s.inc Reg.FGT_SEQ_ERR_CNT))

/-! ### Velocity (R598) -/

def calWord (s : State) (i : Nat) : Word := s.fgt.cal.getD i 0
def calCurve (s : State) (i : Nat) : Int := (fget (calWord s (130 + i)) 15 0 : Nat)

/-- The two's-complement value of a w-bit field. -/
def signedOf (w x : Nat) : Int := if x < 2 ^ (w - 1) then (x : Int) else (x : Int) - 2 ^ w

def velocity (s : State) (k t : Nat) : Nat :=
  let c := calWord s (2 + k)
  let step := fget (calWord s 258) 9 0
  let t1 := (max 0 ((t * fget c 15 0 / 4096 : Nat) + signedOf 12 (fget c 27 16))).toNat
  let i := t1 / max 1 step
  if 127 ≤ i then (calCurve s 127).toNat
  else
    let r := t1 - i * step
    (calCurve s i + Int.fdiv ((calCurve s (i + 1) - calCurve s i) * (r : Nat)) ((max 1 step : Nat) : Int)).toNat

/-- A key event with its velocity: types 0 NOTE_ON, 1 RESTRIKE, 2 NOTE_OFF. -/
def noteEvent (type k t : Nat) (tick : Word) (s : State) : State :=
  let w := fgtWord0 s type k (velocity s k t) t
  let s := s.inc (match type with | 0 => Reg.FGT_NOTE_ON_CNT | 1 => Reg.FGT_RESTRIKE_CNT | _ => Reg.FGT_NOTE_OFF_CNT)
  fgtQueue (w, tick) (s.setReg (Reg.FGT_KEY_LAST k) w)

/-! ### Key states (R595, R596, R617) -/

/-- TB_PULSE_CNT differences. -/
def pulseDiff (a b : Nat) : Nat := (a + 2 ^ 40 - b) % 2 ^ 40

/-- A change of key k's contact at `place` dated at pulse d and tick t. -/
def keyChange (k place : Nat) (closed : Bool) (d : Nat) (t : Word) (s : State) : State :=
  let x := s.fkey k
  let three := fgtThree s
  let first := if three then 1 else 0
  let second := first + 1
  let firstClosed := (s.contact (k * perKey s + first)).closed
  match x.st with
  | 0 =>
    if closed && place == first then setFkey k { x with st := 1, start := some d } s
    else if closed && place == second && !firstClosed then setFkey k ⟨2, none, none⟩ (seqErr k (noteEvent 0 k 0 t s))
    else s
  | 1 =>
    if closed && place == second then setFkey k ⟨2, none, none⟩ (noteEvent 0 k (pulseDiff d (x.start.getD d)) t s)
    else if !closed && place == first then setFkey k FgtKey.reset s
    else s
  | 2 => if !closed && place == 1 then setFkey k ⟨3, none, some d⟩ s else s
  | 3 =>
    if !closed && place == 0 then setFkey k FgtKey.reset (noteEvent 2 k (pulseDiff d (x.rel.getD d)) t s)
    else if closed && place == 1 then setFkey k (if three then ⟨4, some d, x.rel⟩ else ⟨2, none, none⟩) s
    else s
  | 4 =>
    if closed && place == 2 then setFkey k ⟨2, none, none⟩ (noteEvent 1 k (pulseDiff d (x.start.getD d)) t s)
    else if !closed && place == 1 then setFkey k ⟨3, none, some d⟩ s
    else s
  | 5 => if !closed && !anyClosed s k then setFkey k FgtKey.reset s else s
  | _ => s

/-- R596: every contact of the key reads open. -/
def keyAllOpen (k d : Nat) (t : Word) (s : State) : State :=
  let x := s.fkey k
  if (x.st == 2 || x.st == 3 || x.st == 4) && !anyClosed s k then
    let i := match x.rel with | some r => pulseDiff d r | none => 0
    setFkey k FgtKey.reset (seqErr k (noteEvent 2 k i t s))
  else s

/-! ### Samples (R594, R597) -/

/-- A contact's first sample. -/
def firstSample (c : Nat) (closed : Bool) (d : Nat) (s : State) : State :=
  let s := setContact c ⟨closed, 0, d, s.nowLo⟩ s
  if !closed then s
  else
    match keyOf s c with
    | none => fgtEvent 4 c 0 0 s.nowLo (s.inc Reg.FGT_SWITCH_CNT)
    | some (k, _) =>
      if (s.fkey k).st = 5 then s
      else fgtStat 2 (fgtEvent 3 k 0 0 s.nowLo ((setFkey k ⟨5, none, none⟩ s).inc Reg.FGT_HELD_CNT))

/-- A later sample: the debounce run, and whether the contact's change is accepted. -/
def debounce (c : Nat) (closed : Bool) (d : Nat) (s : State) : Bool × State :=
  let x := s.contact c
  if closed == x.closed then (false, setContact c { x with run := 0 } s)
  else
    let y := if x.run = 0 then { x with run := 1, date := d, tick := s.nowLo } else { x with run := x.run + 1 }
    (decide (s.fld Reg.FGT_SCAN 10 9 < y.run), setContact c y s)

/-- The contact takes its new state. -/
def accept (c : Nat) (s : State) : State :=
  let x := s.contact c
  setContact c { x with closed := !x.closed, run := 0 } s

/-- The accepted changes of one key, in their order (R617), then R596. -/
def keyChanges (k : Nat) (cs : List Nat) (s : State) : State :=
  let press := cs.all (fun c => !(s.contact c).closed)
  let cs := if press then cs else cs.reverse
  let s := cs.foldl (fun s c =>
    let s := accept c s
    let x := s.contact c
    keyChange k (c % perKey s) x.closed x.date x.tick s) s
  let last := s.contact (cs.getLastD 0)
  keyAllOpen k last.date last.tick s

def switchChange (s : State) (c : Nat) : State :=
  let s := accept c s
  fgtEvent (if (s.contact c).closed then 4 else 5) c 0 0 (s.contact c).tick (s.inc Reg.FGT_SWITCH_CNT)

/-- Drive line `line` is sampled at pulse d; bit i of `closed` is sense line i read low. -/
def sampleLine (line closed d : Nat) (s : State) : State :=
  let cs := (List.range 16).map (fun i => 16 * line + i)
  if !Nat.testBit s.fgt.seen line then
    let s := updFgt (fun f => { f with seen := f.seen ||| 2 ^ line }) s
    let keys := cs.filter (fun c => (keyOf s c).isSome)
    let sws := cs.filter (fun c => (keyOf s c).isNone)
    (keys ++ sws).foldl (fun s c => firstSample c (Nat.testBit closed (c % 16)) d s) s
  else
    let p := cs.foldl (fun (p : List Nat × State) c =>
      let q := debounce c (Nat.testBit closed (c % 16)) d p.2
      (if q.1 then p.1 ++ [c] else p.1, q.2)) ([], s)
    let s := p.2
    let ks := ((p.1.filterMap (fun c => (keyOf s c).map (fun x => x.1))).dedup)
    let s := ks.foldl (fun s k => keyChanges k (p.1.filter (fun c => (keyOf s c).map (fun x => x.1) == some k)) s) s
    (p.1.filter (fun c => (keyOf s c).isNone)).foldl switchChange s

/-! ### Calibration (R605) -/

def builtinLayer : List Word :=
  let body := List.replicate 128 (nw 4096) ++ (List.range 128).map (fun i => nw (65535 - 508 * i)) ++ [nw 16] ++ List.replicate 24 (nw 16384) ++
    List.replicate 229 0
  nw (2 ^ 32) :: nw (crc32c ((body.map wordOctets).flatten)) :: body

/-- A load finishes: active, factory or built-in layer (R605, R612). -/
def calLoad (s : State) : State :=
  if !s.fgt.loading then s
  else
    let s := updFgt (fun f => { f with loading := false }) s
    match readLayer 0x1200 s with
    | (some ws, s) => updFgt (fun f => { f with next := some (ws, 1) }) s
    | (none, s) =>
      let q := readLayer 0 s
      let src := if q.1.isSome then 2 else 3
      let bad := if q.1.isSome then 1 else 3
      let s := logErr .fgt 0x59 0 0 (nw bad) (fgtErr 1 bad q.2)
      updFgt (fun f => { f with next := some (q.1.getD builtinLayer, src) }) s

/-- The loaded copy takes effect at a scan start, as one event. -/
def calTakeEffect (s : State) : State :=
  match s.fgt.next with
  | none => s
  | some (ws, src) =>
    let s := updFgt (fun f => { f with next := none, cal := ws, calSrc := src }) (s.inc Reg.FGT_RELOAD_CNT)
    let s := if src = 1 then s else s.inc Reg.FGT_CAL_FALLBACK_CNT
    let s := (s.setBit Reg.FGT_STATUS 5 (src == 2)).setBit Reg.FGT_STATUS 6 (src == 3)
    fgtStat 1 (fgtEvent 8 src (if src = 3 then 0 else fget (ws.getD 0 0) 23 8) 0 s.nowLo s)

/-! ### Analog channels start over (R600) -/

def State.ain (s : State) (j : Nat) : FgtAin := SMap.getD FgtAin.reset j s.fgt.ain
def setAin (j : Nat) (v : FgtAin) (s : State) : State := updFgt (fun f => { f with ain := SMap.put FgtAin.reset j v f.ain }) s

/-- Channels in `m` start over: their next four samples are discarded, and VALID waits for the fifth. -/
def anaRestart (m : Nat) (s : State) : State :=
  (List.range 24).foldl (fun s j =>
    if Nat.testBit m j then setAin j ⟨0, 0, s.now⟩ (s.setBit (Reg.FGT_AIN_VAL j) 30 false) else s) s

/-! ### The scan timeline (R592, R593, R606) -/

/-- The slot that begins now. -/
def nextSlot (hot : List Nat) (s : State) : State :=
  let f := s.fgt
  if f.nextLine < 16 && !(f.regular && !hot.isEmpty) then
    updFgt (fun f => { f with drive := some f.nextLine, regular := true, nextLine := f.nextLine + 1 }) s
  else
    match hot with
    | [] => updFgt (fun f => { f with drive := none, regular := false }) s
    | h :: _ =>
      let d := (hot.find? (fun x => decide (f.chaseLast < x))).getD h
      (updFgt (fun f => { f with drive := some d, regular := false, chaseLast := d }) s).inc Reg.FGT_CHASE_CNT

/-- Scanning stops: every key and switch state is cleared, and the queue keeps its records. -/
def fgtHalt (s : State) : State :=
  updFgt (fun f => { f with running := false, stopping := false, seen := 0, drive := none, regular := false, nextLine := 16, chaseLast := 15,
                            contacts := [], keys := [], ain := [] }) s

/-- A scan start at this edge. -/
def scanStart (s : State) : State :=
  let s := if s.fgt.stopping then fgtHalt s else s
  let begins := s.fgt.starting && s.fgt.next.isSome
  let s := calTakeEffect s
  let s := if begins then
      anaRestart (2 ^ 24 - 1) ((updFgt (fun f => { f with starting := false, running := true, seen := 0 }) s).setReg Reg.FGT_START_TICK s.nowLo)
    else s
  if s.fgt.running then
    (updFgt (fun f => { f with drive := some 0, regular := true, nextLine := 1 }) s).inc Reg.FGT_SCAN_CNT
  else s

/-- A TB_PULSE edge at Fingertip, TB_PULSE_CNT counted: the slot that ends is sampled, and the next begins. Edges that a step piled up on one
tick sample once, at the last of them (R614). -/
def fgtPulse (closed : Nat) (s : State) : State :=
  if xaLost s then s
  else
    let d := (s.reg Reg.TB_PULSE_CNT).toNat
    let hot := hotLines s
    let line := s.fgt.drive
    let passed := decide (1000000000 ≤ s.tb.acc)
    let s := if s.fgt.running && !passed then (match line with | some l => sampleLine l closed d s | none => s) else s
    if d % max 1 (s.fld Reg.FGT_SCAN 8 0) = 0 then scanStart s
    else if s.fgt.running then nextSlot hot s else s

/-! ### Analog inputs (R599, R600, R616) -/

/-- Ps: the sample period in ticks. -/
def anaPeriod (s : State) : Nat :=
  let fs := max 1 (s.fld Reg.TB_TICK_FS 23 0)
  24 * ((125000000000 + 12 * fs) / (24 * fs))

/-- The first instant after tick t at which channel j is sampled. -/
def anaNext (s : State) (j t : Nat) : Nat :=
  let ps := anaPeriod s
  let ph := j * (ps / 24)
  t + 1 + (ph + ps - (t + 1) % ps) % ps

/-- The calibrated value of a raw sample. -/
def anaCal (s : State) (j raw : Nat) : Nat :=
  let c := calWord s (259 + j)
  let x := Int.fdiv (((raw : Int) - (fget c 29 16 : Nat)) * (fget c 15 0 : Nat)) 16384
  (max 0 (min 16383 x)).toNat

def anaEvent (j y : Nat) (s : State) : State :=
  let s := (s.inc Reg.FGT_AIN_EVT_CNT).setReg (Reg.FGT_AIN_VAL j) (bset (fset (s.reg (Reg.FGT_AIN_VAL j)) 13 0 y) 30 true)
  fgtEvent 6 j y 0 s.nowLo s

/-- ANALOG_SAMPLE: channel j converts to `raw` at its next instant. -/
def anaSample (j raw : Nat) (s : State) : State :=
  if !s.fgt.running || !s.bit Reg.FGT_AIN_EN j || !tbRunning s || s.fld Reg.TB_TICK_FS 23 0 == 0 then s
  else
    let x := s.ain j
    let t := anaNext s j x.last
    let s := advanceTo t s
    let s := s.setFld (Reg.FGT_AIN_VAL j) 29 16 raw
    let x := { x with last := s.now }
    if x.n < 4 then setAin j { x with n := x.n + 1 } (s.inc Reg.FGT_AIN_DISCARD_CNT)
    else
      let c := anaCal s j raw
      if x.n = 4 then anaEvent j c (setAin j { x with n := 5, y := c } s)
      else
        let sh := s.fld (Reg.FGT_AIN_CFG j) 2 0
        let y := ((x.y : Int) + Int.fdiv ((c : Int) - (x.y : Int)) ((2 ^ sh : Nat) : Int)).toNat
        let s := setAin j { x with y := y } s
        let l := s.fld (Reg.FGT_AIN_VAL j) 13 0
        if s.fld (Reg.FGT_AIN_CFG j) 13 4 < (y - l) + (l - y) then anaEvent j y s else s

/-- The timebase PLL has locked again. -/
def fgtRelock (s : State) : State := if s.fgt.running then anaRestart (2 ^ 24 - 1) s else s

/-! ### Register writes and views -/

def fgtCtlWrite (ep : Nat) (v : Word) (s : State) : State :=
  let was := s.bit Reg.FGT_CTL 0
  let s := writeReg ep Reg.FGT_CTL v s
  let isOn := s.bit Reg.FGT_CTL 0
  if isOn && !was then updFgt (fun f => { f with loading := true, next := none, starting := !f.running, stopping := false }) s
  else if was && !isOn then updFgt (fun f => { f with starting := false, stopping := f.running }) s
  else if bget v 1 then updFgt (fun f => { f with loading := true }) s
  else s

/-- A write of `FGT_KEYS` (R591). -/
def fgtKeysWrite (ep : Nat) (v : Word) (s : State) : State :=
  if s.bit Reg.FGT_CTL 0 then s
  else if (if bget v 8 then 85 else 128) < fget v 7 0 then captureRsvd ep Reg.FGT_KEYS v s
  else writeReg ep Reg.FGT_KEYS v s

def fgtWrite (ep a : Nat) (v : Word) (s : State) : State :=
  if a = Reg.FGT_CTL then fgtCtlWrite ep v s
  else if a = Reg.FGT_KEYS then fgtKeysWrite ep v s
  else if a = Reg.FGT_SCAN && s.bit Reg.FGT_CTL 0 then s
  else if a = Reg.FGT_INJECT then
    let s := if bget v 1 then seqErr 0 s else s
    if bget v 0 then fgtDropRec 0 s else s
  else if a = Reg.FGT_AIN_EN then
    let old := s.fld a 23 0
    let s := writeReg ep a v s
    anaRestart (s.fld a 23 0 ^^^ (s.fld a 23 0 &&& old)) s
  else lv1 88 (writeReg ep a v) s

def fgtView (s : State) (a : Nat) : Option Word :=
  if a = Reg.FGT_STATUS then some (bset (s.reg a) 0 s.fgt.running)
  else if a = Reg.FGT_CAL_DATA then some (calWord s (s.fld Reg.FGT_CAL_SEL 8 0))
  else if a = Reg.FGT_QUEUE then some (fset (s.reg a) 6 0 (fgtRecords s).length)
  else if a = Reg.FGT_HOT then some (wordOfBits 16 (hotLine s))
  else if a = Reg.FGT_CAL_HDR then some (nw (fget (calWord s 0) 39 8 * 256 + s.fgt.calSrc))
  else if Reg.FGT_CONTACT 0 ≤ a && decide (a < Reg.FGT_CONTACT 7) then
    let w := a - Reg.FGT_CONTACT 0
    some (wordOfBits 40 (fun j => decide (40 * w + j < 256) && (s.contact (40 * w + j)).closed))
  else if Reg.FGT_KEY_STATE 0 ≤ a && decide (a < Reg.FGT_KEY_STATE 16) then
    let w := a - Reg.FGT_KEY_STATE 0
    some (nw ((List.range 8).foldr (fun i acc => (s.fkey (8 * w + i)).st + 16 * acc) 0))
  else none

end Sys2Proof.Machine
end

