-- ==== Sys2Proof/Machine/Control.lean ====
section
/-!
DEFINITION. The pages that control the device: starting cores and pairs (R218, R636), debug halt, resume and step (R680, R681), power domains
(R650-R653), the boot sequencer's page (chapter 18), Hatcheck's page (R672-R674) and the error log (R667-R669).
-/
set_option linter.constructorNameAsVariable false

namespace Sys2Proof.Machine

/-! ### Registers at their reset values (R700, R701) -/

/-- The bits of a register that are LK. -/
def lkMask (a : Nat) : Word := (fieldsAt a).foldl (fun m f => if f.acc = .lk then m ||| fmask f.hi f.lo else m) 0

/-- The registers that `p` names take their reset values, except sealed LK fields where `keepLk`. -/
def resetRegs (p : Nat → Bool) (keepLk : Bool) (s : State) : State :=
  (s.regs.map (fun e => e.1)).foldl (fun t k =>
    if p k then
      let m := if keepLk then lkMask k else 0
      t.setReg k ((s.reg k &&& m) ||| (resetOf k &&& ~~~m))
    else t) s

def corePage (c : Nat) : Nat := 0x208000 + 0x1000 * c
def inPage (b n a : Nat) : Bool := decide (b ≤ a) && decide (a < b + n)

/-! ### Starting cores (R192, R636) -/

/-- Core c with every register and private structure at its reset value; LK fields keep their sealed values. -/
def resetCore (c : Nat) (s : State) : State :=
  let s := resetRegs (inPage (corePage c) 0x80) s.isSealed s
  let s := s.setAgent c { s.agent c with lines := [] }
  s.setCore c Core.reset

/-- The architectural state of a core. -/
def snapCore (s : State) (c : Nat) : Snap :=
  let k := s.core c
  ⟨k.w, k.acc, k.pc, k.timeHi, k.resv, (List.range 0x70).foldl (fun m o => if (SMap.find (corePage c + o) s.regs).isSome then SMap.insert o (s.reg (corePage c + o)) m else m) []⟩

/-- Core c takes an architectural state recorded from core d, of its control registers the first `n`; `cs.CORE_ID` stays its own (R218). -/
def adoptCore (c d n : Nat) (x : Snap) (s : State) : State :=
  let s := s.updCore c (fun k => { k with w := x.w, acc := x.acc, pc := x.pc, pastTop := false, timeHi := x.timeHi, resv := x.resv })
  (List.range n).foldl (fun s o =>
    if o = 3 then s
    else s.setReg (corePage c + o) (match SMap.find o x.cs with | some v => v | none => resetOf (corePage d + o))) s

/-- The pair starts: the leader's state is copied into the trailer, and both cores run (R218). -/
def pairStart (n : Nat) (s : State) : State :=
  let s := adoptCore (2 * n + 1) (2 * n) 0x70 (snapCore s (2 * n)) s
  let s := s.updCore (2 * n + 1) (fun k => { k with run := .running, halted := false, parked := false, haltReq := false, stepping := false })
  (s.setPair n { Pair.reset with started := true }).setBit (Reg.PAIR_STAT n) 0 true

/-- A core leaves the stopped state: the leader of a pair with EN = 1 that has not started starts it. -/
def afterStart (c : Nat) (s : State) : State :=
  if c % 2 = 0 && s.bit (Reg.PAIR_CTL (c / 2)) 0 && !(s.pair (c / 2)).started then pairStart (c / 2) s else s

def runCore (c : Nat) (pc : Word) (s : State) : State :=
  afterStart c (breakQuietOf c ((resetCore c s).updCore c (fun k => { k with run := .running, pc := pc, pastTop := false })))

/-- One bit of `BSQ_CORE_CTL.START`. -/
def coreStart (c : Nat) (s : State) : State :=
  let ok := s.isSealed && s.stopped c && !(s.core c).parked && !(c % 2 == 1 && s.bit (Reg.PAIR_CTL (c / 2)) 0) && domState s c == 0
  if ok then runCore c (s.reg (Reg.BSQ_CORE_ENTRY c)) s else s.setBit Reg.BSQ_CORE_STAT 8 true

/-! ### Debug halt, resume and step (R680, R681) -/

def dbgRefuse (s : State) : State := s.setBit Reg.DBG_CORE_STAT 8 true
def dbgEvt (i : Nat) (s : State) : State := lv1 146 (fun s => s.setBit Reg.DBG_EVT i true) s

/-- Core c halts where it stands; a wait ends without completing its WAITEV (R310). -/
def haltCore (c reason : Nat) (s : State) : State :=
  let s := s.updCore c (fun k => { k with halted := true, haltReq := false, stepping := false, run := if k.run = .waiting then .running else k.run,
                                          pc := if k.run = .waiting then k.pc - 1 else k.pc,
                                          pastTop := if k.run = .waiting then false else k.pastTop })
  breakQuietOf c (dbgEvt 2 (((s.setFld (Reg.CS_DBG_CTL c) 10 8 reason).setReg (Reg.DBG_CORE_PC c) (s.core c).pc).inc (Reg.DBG_CORE_HALT_CNT c)))

/-- A halt request: at the next instruction boundary, which is that after an instruction in progress, or at the grid point of one that has executed
(R680). -/
def dbgHalt (c : Nat) (s : State) : State :=
  if s.stopped c || isTrailer s c then dbgRefuse s
  else if (s.core c).due.isSome || ioStarted (s.core c) then s.updCore c (fun k => { k with haltReq := true })
  else haltCore c 0 s

/-- Halted by debug in the sense of R681: a double fault counts. -/
def dbgHalted (s : State) (c : Nat) : Bool := (s.core c).halted || decide ((s.core c).run = .doubleFault)

def dbgRelease (c : Nat) (step : Bool) (s : State) : State :=
  if !dbgHalted s c || isTrailer s c then dbgRefuse s
  else
    let s := if step then s.inc Reg.DBG_STEP_CNT else s
    let s := s.updCore c (fun k => { k with halted := false, run := if k.run = .doubleFault then .running else k.run, skipBreak := true, stepping := step })
    afterStart c (breakQuietOf c (regrid c s))

def eachBit (n : Nat) (v : Word) (f : Nat → State → State) (s : State) : State := (List.range n).foldl (fun s c => if bget v c then f c s else s) s

/-- A write to the DBG page; a mailbox status that becomes FULL or not FULL sets its event (R684). -/
def dbgWrite (ep a : Nat) (v : Word) (s : State) : State :=
  if a = Reg.DBG_CORE_HALT then eachBit 8 v dbgHalt s
  else if a = Reg.DBG_CORE_RESUME then eachBit 8 v (fun c => dbgRelease c false) s
  else if a = Reg.DBG_CORE_STEP then eachBit 8 v (fun c => dbgRelease c true) s
  else
    let s' := lv1 146 (writeReg ep a v) s
    if a = Reg.DBG_MBOX_IN_STAT && bget v 7 then dbgEvt 0 s'
    else if a = Reg.DBG_MBOX_OUT_STAT && s.bit a 7 && !s'.bit a 7 then dbgEvt 1 s'
    else s'

def dbgView (s : State) (a : Nat) : Option Word :=
  if a = Reg.DBG_CORE_STAT then some (fset (s.reg a) 7 0 (bitsToNat ((List.range 8).map (dbgHalted s))))
  else if Reg.DBG_CORE_PC 0 ≤ a && decide (a < Reg.DBG_CORE_PC 8) && dbgHalted s (a - Reg.DBG_CORE_PC 0) then some (s.core (a - Reg.DBG_CORE_PC 0)).pc
  else if a = Reg.DBG_STATUS then some (bset (bset 0 1 (s.bit Reg.BSQ_DEBUG 0)) 0 (s.jtag.wait.isSome))
  else none

/-! ### The boot sequencer's page -/

def unlock (s : State) : State := (s.setBit Reg.BSQ_DEBUG 0 true).inc Reg.BSQ_UNLOCK_CNT
def relock (s : State) : State := s.setBit Reg.BSQ_DEBUG 0 false

/-- The hash in `BSQ_FUSE_DATA` (R638). -/
def fuseData (s : State) : BitVec 256 := BitVec.ofNat 256 (((List.range 7).map (fun k => (s.reg (Reg.BSQ_FUSE_DATA k)).toNat * 2 ^ (40 * k))).sum)

/-- The fused hash as the registers show it. -/
def showFuses (h : BitVec 256) (s : State) : State :=
  (List.range 7).foldl (fun s k => s.setReg (Reg.BSQ_KEY_HASH k) (nw (h.toNat / 2 ^ (40 * k)))) (s.setBit Reg.BSQ_FUSE_STAT 0 (h == 0))

/-- A write of `BSQ_FUSE_CTL.PROGRAM`; the device shows the supply in range unless it has fallen past the last stage. -/
def fuseProgram (s : State) : State :=
  if presenceOpen s && s.boot.fuses == 0 && !s.bit Reg.BSQ_FUSE_STAT 1 && s.boot.prog.isNone then
    { s.setBit Reg.BSQ_FUSE_STAT 1 true with boot := { s.boot with prog := some (fuseData s) } }
  else s.setBit Reg.BSQ_FUSE_STAT 3 true

def bsqWrite (ep a : Nat) (v : Word) (s : State) : State :=
  if a = Reg.BSQ_DEBUG then (if bget v 1 then relock s else s)
  else if a = Reg.BSQ_FUSE_CTL then (if bget v 0 then fuseProgram s else s)
  else if a = Reg.BSQ_CORE_CTL then eachBit 8 v coreStart s
  else if a = Reg.BSQ_FUSE_DATA 6 then s.setReg a (v &&& 0xFFFF)
  else writeReg ep a v s

/-- `BSQ_PRESENCE` counts the milliseconds left; `BSQ_CORE_STAT` shows the cores that are not stopped; PROGRAM stands while the fuses are programmed. -/
def bsqView (s : State) (a : Nat) : Option Word :=
  if a = Reg.BSQ_FUSE_CTL then some (bset (s.reg a) 0 s.boot.prog.isSome) else
  if a = Reg.BSQ_CORE_STAT then some (fset (s.reg a) 7 0 (bitsToNat ((List.range 8).map (fun c => !s.stopped c))))
  else if a = Reg.BSQ_PRESENCE then
    some (fset (s.reg a) 14 0 (if presenceOpen s then (30000000 - min 30000000 (s.tb.pulses - s.boot.presAt) + 999) / 1000 else 0))
  else none

/-! ### Power domains (R650-R653, R658) -/

/-- Agents of a domain. -/
def domAgents (d : Nat) : List Nat := if d < 8 then [d] else if d = 14 then [8] else if d = 15 then [9, 10] else []

/-- Network interfaces of a domain. -/
def domEps (d : Nat) : List Nat :=
  if d < 8 then [d] else if d = 12 then [16] else if d = 13 then [22] else if d = 14 then [18] else if d = 15 then [20, 21]
  else if d = 16 || d = 17 then [24] else if d = 18 then [26] else []

/-- Domains that software may shut: the core only while stopped. -/
def mayShut (s : State) (d : Nat) : Bool := (decide (d < 8) && s.stopped d) || (decide (12 ≤ d) && decide (d ≤ 18))

/-- The agents of a closing domain write back and evict their lines (R297). -/
def evictAll (a : Nat) (s : State) : State := (s.agent a).lines.foldl (fun s e => settleNet netFuel (evictLine a e.1 s)) s

/-- A power-down request. -/
def domainClose (d : Nat) (s : State) : State :=
  if domState s d ≠ 0 || !mayShut s d || domShed s d then domResult d 3 s
  else (domAgents d).foldl (fun s a => evictAll a s) ((s.setFld (Reg.PWR_DOM d) 8 7 1).setFld (Reg.PWR_DOM d) 10 9 0)

def tagsFree (s : State) (ep : Nat) : Bool := (s.ni ep).tags.all (fun e => decide (e.2.st = .free)) && (s.ni ep).held.isEmpty

/-- A closing domain has drained (R358). -/
def drained (s : State) (d : Nat) : Bool :=
  (domAgents d).all (fun a => (s.agent a).lines.isEmpty && (s.agent a).out.isEmpty && (s.agent a).wbq.isEmpty) && (domEps d).all (tagsFree s) &&
  (s.fab.wake ++ s.fab.blocked.map (fun b => b.pkt)).all (fun p => domainOf p.dst p.addr != some d)

/-- DOMAIN_SHUT: the domain becomes SHUT; a DMC enters self-refresh first (R512). -/
def domainShut (d : Nat) (s : State) : State :=
  if domState s d = 1 && drained s d then
    let s := if d = 12 then dmcStop 0 s else if d = 13 then dmcStop 1 s else s
    domResult d 1 (s.setFld (Reg.PWR_DOM d) 8 7 2)
  else s

/-- What a shut domain loses, as it shows once the domain has woken (R653). -/
def domainReset (d : Nat) (s : State) : State :=
  let rr := fun (b n : Nat) (s : State) => resetRegs (inPage b n) s.isSealed s
  if d < 8 then resetCore d s
  else if d = 12 || d = 13 then
    let n := d - 12
    let keep := fun (a : Nat) => inPage (Reg.DMC_FILL n 0) 4 a || inPage (Reg.DMC_WAT n 0) 64 a || a == Reg.DMC_WAT_STAT n || a == Reg.DMC_FRESH_LEFT n
    let s := resetRegs (fun a => inPage (0x218000 + 0x1000 * n) 0x1000 a && !keep a) s.isSealed s
    let m := s.dmc n
    dmcResume n (s.setDmc n { Dmc.reset with dram := m.dram, notFresh := m.notFresh, waits := m.waits, selfRef := true })
  else if d = 14 then
    let s := (List.range 0x10).foldl (fun s k => rr (0x240000 + 0x1000 * k) 0x1000 s) (rr 0x230000 0x1000 (rr 0x400000 0x410 s))
    { s with seg := Seg.reset }
  else if d = 15 then { rr 0x228000 0x3000 s with cuf := [], cns := { Cns.reset with far := s.cns.far } }
  else if d = 16 then { rr 0x260000 0x1000 s with ports := { s.ports with aud := [] } }
  else if d = 17 then
    let s := rr 0x261000 0x5000 s
    { s with ports := { Ports.reset with aud := s.ports.aud } }
  else if d = 18 then { rr 0x268000 0x2000 s with eth := Eth.reset, usb := Usb.reset }
  else s

/-- DOMAIN_OPEN: a waking domain becomes OPEN and its packets are delivered. -/
def domainOpen (srv : Server) (d : Nat) (s : State) : State :=
  match SMap.find d s.fab.waking with
  | some w =>
    if domState s d = 2 && !domShed s d then
      let s := (domainReset d s).setFld (Reg.PWR_DOM d) 8 7 0
      let s := deliverWake srv d (if w.sw then domResult d 1 s else s)
      if d = 12 || d = 13 then retryHomes s else s
    else s
  | none => s

/-- FAB_WAKE_FAIL: 50 µs have passed, or PWR refuses (R359, R658). -/
def wakeFailed (srv : Server) (d : Nat) (s : State) : State :=
  match SMap.find d s.fab.waking with
  | some w => if domShed s d || decide (w.since + 51 ≤ s.tb.pulses) then
      let s := failWake srv d s
      if d = 12 then dramFail 0 s else if d = 13 then dramFail 1 s else s
    else s
  | none => s

def pwrDomWrite (d : Nat) (v : Word) (s : State) : State :=
  let s := s.setBit (Reg.PWR_DOM d) 3 (bget v 3)
  let s := if bget v 0 then domainClose d s else s
  if bget v 1 && domState s d == 2 then requestWake d true s else s

def pwrWrite (ep a : Nat) (v : Word) (s : State) : State :=
  if Reg.PWR_DOM 0 ≤ a && decide (a < Reg.PWR_DOM 21) then pwrDomWrite (a - Reg.PWR_DOM 0) v s
  else if a = Reg.PWR_VMIN then s.setReg a (s.reg Reg.PWR_VMON)
  else lv1 143 (writeReg ep a v) s

/-- A domain's blocks have nothing to do (R650). -/
def domIdle (s : State) (d : Nat) : Bool :=
  if d < 8 then (s.stopped d || s.waitingEv d) && (s.agent d).out.isEmpty
  else if d < 12 then (s.slice (d - 8)).trk.isEmpty
  else if d < 14 then (s.dmc (d - 12)).wq.isEmpty && (s.dmc (d - 12)).waits.isEmpty && decide ((s.dmc (d - 12)).busy = none)
  else if d = 14 then s.seg.reqs.isEmpty && !anyUnit s
  else if d = 15 then !s.bit (Reg.CUF_CTL 0) 0 && !s.bit (Reg.CUF_CTL 1) 0
  else if d = 16 then (List.range 8).all (fun n => !s.bit (Reg.AUD_CTL n) 0)
  else if d = 17 then s.ports.held.all (fun p => decide (p.addr < 0x260000)) && s.hpt.req.isEmpty && s.ports.qspi.isNone && (List.range 3).all (fun p => (s.i2c p).cmds.isEmpty) && s.emc.cmd.isNone
  else if d = 18 then !s.bit Reg.ETH_CTL 0 && !s.bit Reg.ETH_CTL 1 && !s.bit Reg.USB_CTL 0
  else false

/-- Domains that enter RETAIN, with the core's conditions. -/
def mayRetain (s : State) (d : Nat) : Bool :=
  decide (d < 19) && (decide (8 ≤ d) || (!isPaced s d && !(s.pair (d / 2)).started))

/-- RETAIN_ENTRY (R651); for a DMC it is self-refresh. -/
def retainEntry (d : Nat) (s : State) : State :=
  if domState s d = 0 && domIdle s d && mayRetain s d && !s.bit (Reg.PWR_DOM d) 3 && !domShed s d && s.fld (Reg.PWR_DOM d) 10 9 != 2 then
    let s := s.setFld (Reg.PWR_DOM d) 10 9 2
    if d = 12 then selfRefresh 0 s else if d = 13 then selfRefresh 1 s else s
  else s

/-- Work that reaches a domain ends its retention. -/
def wakeLevel (d : Nat) (s : State) : State :=
  if s.fld (Reg.PWR_DOM d) 10 9 = 2 then
    let s := s.setFld (Reg.PWR_DOM d) 10 9 0
    if (d = 12 || d = 13) && !domShed s d then s.setDmc (d - 12) { s.dmc (d - 12) with selfRef := false } else s
  else s

/-- LEVEL: GATED while an ACTIVE domain is idle. -/
def pwrView (s : State) (a : Nat) : Option Word :=
  if Reg.PWR_DOM 0 ≤ a && decide (a < Reg.PWR_DOM 21) then
    let d := a - Reg.PWR_DOM 0
    some (if s.fld a 10 9 = 0 && domState s d == 0 && domIdle s d then fset (s.reg a) 10 9 1 else s.reg a)
  else none

/-! ### Hatcheck's page and the error log -/

/-- A write of `HAT_CTL` (R672, R674, R686): ARM, then TRIG. -/
def hatCtlWrite (ep : Nat) (v : Word) (s : State) : State :=
  let s := writeReg ep Reg.HAT_CTL v s
  let s := s.setBit Reg.HAT_CTL 0 false
  let s := if !bget v 0 then s
    else if s.bit Reg.HAT_STATUS 2 then { s with hat := { s.hat with armAfter := true } }
    else s.setReg Reg.HAT_STATUS (bset (bset (fset (s.reg Reg.HAT_STATUS) 8 4 0) 1 false) 0 true)
  if bget v 1 then hatTrigger 0 0 noRec s else s

def hatWrite (ep a : Nat) (v : Word) (s : State) : State := if a = Reg.HAT_CTL then lv1 145 (hatCtlWrite ep v) s else lv1 145 (writeReg ep a v) s

def errlogCount (s : State) : Nat := s.errlog.recs.length

/-- The count shown and the level source of the log (R304, chapter 20). -/
def showLog (s : State) : State := s.setFld Reg.SYS_ERRLOG_STAT 4 0 s.errlog.recs.length

/-- ERRLOG_RECORD (R667, R668, R672, R687): the collector takes the oldest record offered. -/
def collect (s : State) : State :=
  match s.errlog.await with
  | [] => s
  | r :: t =>
    let s := { s with errlog := { s.errlog with await := t } }
    let lost := decide (16 ≤ s.errlog.recs.length)
    let seq := if lost then 0 else s.errlog.seq
    let rec_ : LogRec := ⟨nw (r.kind * 2 ^ 32 + r.unit * 2 ^ 21 + seq * 2 ^ 5), r.tick, r.addr, r.info⟩
    let s := if lost then (s.setBit Reg.SYS_ERRLOG_STAT 5 true).inc Reg.SYS_ERRLOG_LOST_CNT
      else lv1 144 (fun s => showLog { s.inc Reg.SYS_ERRLOG_TOTAL_CNT with
        errlog := { s.errlog with recs := s.errlog.recs ++ [rec_], seq := (s.errlog.seq + 1) % 2 ^ 16 } }) s
    if s.bit (Reg.HAT_KIND_EN (r.kind / 40)) (r.kind % 40) then
      hatTrigger 4 (nw (b2n lost * 2 ^ 24 + r.kind * 2 ^ 16 + seq)) rec_ s
    else s

def errlogPop (s : State) : State := showLog { s with errlog := { s.errlog with recs := s.errlog.recs.drop 1 } }

/-- A slot of SYS_ERRLOG found wrong reads KIND FFh and zeros, and is counted (R691). -/
def errlogParity (s : State) : State :=
  if struck s .logSlot && !s.errlog.recs.isEmpty then
    (heal .logSlot { s with errlog := { s.errlog with recs := ⟨nw (0xFF * 2 ^ 32), 0, 0, 0⟩ :: s.errlog.recs.drop 1 } }).inc Reg.SYS_ERRLOG_LOST_CNT
  else s

/-- A read of TOP_0 latches the rest of the record for the reader (R669). -/
def errlogTop (ep : Nat) (s : State) : Word × State :=
  let s := errlogParity s
  match s.errlog.recs with
  | [] => (0, { s with errlog := { s.errlog with shadow := SMap.erase ep s.errlog.shadow } })
  | r :: _ => (r.w0, { s with errlog := { s.errlog with shadow := SMap.insert ep r s.errlog.shadow } })

def errlogShadow (s : State) (ep k : Nat) : Word :=
  match SMap.find ep s.errlog.shadow with
  | none => 0
  | some r => if k = 1 then r.w1 else if k = 2 then r.w2 else r.w3

def sysWrite (ep a : Nat) (v : Word) (s : State) : State :=
  if a = Reg.SYS_ERRLOG_POP then (if bget v 0 then errlogPop s else s)
  else lv1 144 (writeReg ep a v) s

/-- The code of `STATUS[2:0]` (R721). -/
def statusPins (s : State) : Nat :=
  if s.boot.inReset || s.pwr.halted then 0
  else if s.bit Reg.TB_STATUS 1 || s.tb.xbLost then 7
  else match s.fld Reg.BSQ_STATUS 9 7 with
    | 0 => 1 | 1 => 1 | 2 => 2 | 3 => 3 | 4 => 4 | 5 => 5 | _ => 6

def sysView (s : State) (a : Nat) : Option Word := if a = Reg.SYS_STATUS_PINS then some (nw (statusPins s)) else none

end Sys2Proof.Machine
end

