-- ==== Sys2Proof/Machine/Translate.lean ====
section
/-!
DEFINITION. Translation (chapter 07): regimes (R235), the walk through both stages (R238-R243), permission checks and reasons (R244, R245, R255,
R256), accessed and dirty bits (R247, R261), TLBs (R249-R252, R258) and walks in paced mode (R262).
-/
set_option linter.constructorNameAsVariable false

namespace Sys2Proof.Machine

/-- What an access needs (R244) and how its faults are reported (R255). -/
structure Access where
  r : Bool
  w : Bool
  x : Bool
  /-- 3 FETCH_FAULT, 4 LOAD_FAULT, 5 STORE_FAULT -/
  cause : Nat
  /-- the access dirties its page: a store kind that is no cache operation (R247) -/
  dirties : Bool
deriving DecidableEq, Repr

def aFetch : Access := ⟨false, false, true, 3, false⟩
def aLoad : Access := ⟨true, false, false, 4, false⟩
def aStore : Access := ⟨false, true, false, 5, true⟩
def aAtomic : Access := ⟨true, true, false, 5, true⟩
def aClean : Access := ⟨true, false, false, 4, false⟩
def aInv : Access := ⟨false, true, false, 5, false⟩
def aIcInv : Access := ⟨false, false, true, 4, false⟩

/-- A retirement's update of a leaf (R247): the word translated, the physical address of the table word, the word walked, the word written. -/
structure LeafUpd where
  va : Word
  pa : Nat
  old : Word
  new : Word
deriving DecidableEq, Repr

inductive XRes where
  | ok (pa : Nat) (uncached : Bool) (upd : Option LeafUpd) (s : State)
  | fault (e : Exc) (s : State)
  /-- a table word cannot be read now: the access waits -/
  | wait (s : State)

def statusExc (pc : Word) (st : FStatus) (va : Word) : Exc :=
  if st = .poison then ⟨0x0B, 1, true, pc, 0, va, none⟩ else ⟨0x0A, 1, true, pc, statusCode st, va, none⟩

def xFault (c : Nat) (s : State) (a : Access) (reason : Nat) (va : Word) : XRes := .fault ⟨a.cause, 1, true, (s.core c).pc, reason, va, none⟩ s

def s2Fault (c : Nat) (s : State) (reason : Nat) (va : Word) (ipa : Nat) : XRes :=
  .fault ⟨0x13, 2, false, (s.core c).pc, reason, va, some ipa⟩ s

/-! ### Entries (R237-R239) -/

def eV (e : Word) : Bool := bget e 0
def eT (e : Word) : Bool := bget e 1
def eR (e : Word) : Bool := bget e 2
def eW (e : Word) : Bool := bget e 3
def eX (e : Word) : Bool := bget e 4
def ePpn (e : Word) : Nat := fget e 39 18

/-- A valid entry that R238 reserves, at a level of stage 1 or stage 2. -/
def eReserved (e : Word) (level : Nat) (stage2 : Bool) : Bool :=
  if eT e then level == 3 || fget e 11 2 != 0
  else (!stage2 && level == 1) || (eW e && !eR e) || decide (2 ≤ fget e 10 9) || (level == 2 && ePpn e % 4096 != 0) ||
    (stage2 && (bget e 11 || fget e 8 5 != 0))

/-- Output address of a leaf for an input address (R239). -/
def leafOut (e : Word) (level x : Nat) : Nat := if level = 3 then ePpn e * 2 ^ 12 + x % 2 ^ 12 else ePpn e / 2 ^ 12 * 2 ^ 24 + x % 2 ^ 24

/-! ### Table-word reads (R241, R242) -/

/-- A request of core c for line l would have to wait: the line is in a transaction, or the interface holds. -/
def mustWait (s : State) (c l : Nat) : Bool :=
  lineBusy s (homeOf s l) l || niHolds s c (8 + 2 * homeOf s l) || hasOut s c l || s.split.isSome || (freeTag? s c).isNone

/-- The access of the instruction in progress for a use at an address, if it has been made. -/
def ioFind (s : State) (c : Nat) (u : IoUse) (pa : Nat) : Option IoWait := (s.core c).io.find? (fun w => decide (w.use = u) && w.pa == pa)

def ioPut (c : Nat) (w : IoWait) (s : State) : State := s.updCore c (fun k => { k with io := k.io ++ [w] })

/-- A word read: its status and the word, or the read waits for its answer. -/
inductive WRes where
  | got (st : FStatus) (w : MWord) (s : State)
  | wait (s : State)

/-- A status of a line read as it concerns one of its words: POISON only where that word is poisoned. -/
def wordOf (st : FStatus) (d : Line) (i : Nat) (s : State) : WRes :=
  let w := d.getD i MWord.zero
  .got (if st = .ok ∨ st = .poison then (if w.mark = .poison then .poison else .ok) else st) w s

def holdsLine (s : State) (c l : Nat) : Bool := (SMap.find l (s.agent c).lines).isSome

/-- One word read coherently by core c for a use: through its L2, or uncached at the home (R287). A request that is not answered at once leaves the
access waiting. -/
def coherentWord (c pa : Nat) (u : IoUse) (uncached : Bool) (s : State) : WRes :=
  let l := pa / 16
  let sent := ioFind s c u pa
  if !uncached && holdsLine s c l then
    let r := acquireShared c l s
    wordOf .ok ((SMap.find l (r.2.agent c).lines).elim [] (·.data)) (pa % 16) r.2
  else match sent with
    | some ⟨_, _, some q⟩ => wordOf q.1 q.2 (pa % 16) s
    | _ =>
      if hasOut s c l then .wait s
      else if uncached then
        let r := uncachedRead c l s
        if hasOut r.2.2 c l then .wait (ioPut c ⟨u, pa, none⟩ r.2.2) else wordOf r.1 r.2.1 (pa % 16) r.2.2
      else
        let r := acquireShared c l s
        match SMap.find l (r.2.agent c).lines with
        | some x => wordOf .ok x.data (pa % 16) r.2
        | none => if hasOut r.2 c l then .wait (ioPut c ⟨u, pa, none⟩ r.2) else .got r.1 MWord.zero r.2

/-! ### Stores not yet performed (R107, R181, R222) -/

/-- The retired stores of core c still in its store queue, and a leader's in the hold buffer, oldest first. -/
def openStores (s : State) (c : Nat) : List StqEnt :=
  (s.core c).stq ++ (if isLeader s c then (s.pair (c / 2)).hold.map (·.ent) else [])

def StqEnt.covers (e : StqEnt) (pa : Nat) : Bool := decide (e.pa ≤ pa) && decide (pa < e.pa + e.vals.length)

/-- A word as the core's own open stores leave it. -/
def storesOver (s : State) (c pa : Nat) (w : MWord) : MWord :=
  (openStores s c).foldl (fun w e => if e.covers pa then mergeMWord e.mask w ⟨e.vals.getD (pa - e.pa) 0, .good⟩ else w) w

/-- An open store holds the whole word: a load takes it there and makes no access (R181, R222). -/
def storeServes (s : State) (c pa : Nat) : Bool := (openStores s c).any (fun e => e.covers pa && e.mask == 31)

/-! ### What the cloakroom holds (R181-R189) -/

/-- A tentative read met an error, and its access retires: the exception is raised from the status the entry holds, and the record that the read
would have made is written now (R189). -/
def tentErr (c pa : Nat) (st : FStatus) (s : State) : State :=
  if st = .decode then logDecode c pa s
  else if st = .prot then logProt (.ni c) c 1 pa s
  else (homeRead (homeOf s (pa / 16)) (pa / 16) false true s).2.2

/-- How the promotion of a line ends: done; the load or walk it served executes again, with a normal read (R182, R199); or it waits for its
answer. -/
inductive PRes where
  | done (s : State)
  | again (s : State)
  | wait (s : State)

/-- The oldest instruction that an entry serves is at the head: the line is promoted. -/
def promoteLine (c l : Nat) (s : State) : PRes :=
  match (s.core c).cloak.find? (fun e => e.line == l) with
  | none => .done s
  | some e =>
    if hasOut s c l then .wait s
    else if e.declined then .again (discardCloak c l false s)
    else
      let t := cloakRead c l s
      if !(t.core c).cloak.any (fun x => x.line == l) then .again t
      else
        let t := settleNet netFuel (sendPromotion c e (endHolds t))
        if (t.core c).cloak.any (fun x => x.line == l) then .wait t
        else if holdsLine t c l then .done t else .again t

def promoteLines (c : Nat) : List Nat → State → PRes
  | [], s => .done s
  | l :: t, s => match promoteLine c l s with | .done s => promoteLines c t s | x => x

/-- What the access of the instruction at the head finds of its line in the cloakroom: nothing, after a promotion or a mismatch; an error; or it
waits. -/
inductive CRes where
  | go (s : State)
  | bad (st : FStatus) (s : State)
  | wait (s : State)

/-- A load, fetch or table read of the instruction at the head meets the line's cloakroom entry. What an entry discarded before served mismatches
now (R181, R197). -/
def useCloak (c pa : Nat) (s : State) : CRes :=
  let s := if (s.core c).replay.contains (s.core c).pc then promoMismatch c s else s
  match (s.core c).cloak.find? (fun e => e.line == pa / 16) with
  | none => .go s
  | some e =>
    if e.data.isSome && decide (e.status ≠ .ok) && decide (e.status ≠ .poison) then .bad e.status (tentErr c pa e.status (discardCloak c (pa / 16) false s))
    else match promoteLine c (pa / 16) s with
      | .done s => .go s
      | .again s => .go s
      | .wait s => .wait s

inductive TRes where
  | ok (e : Word) (s : State)
  | bad (st : FStatus) (s : State)
  | wait (s : State)

/-- A speculative walk has read the table word from an entry of the cloakroom: the instruction is one more that the entry serves (R186). -/
def serveWalk (c l : Nat) (s : State) : State :=
  updCloak c l (fun e => if e.serves.contains (s.core c).pc then e else { e with serves := e.serves ++ [(s.core c).pc] }) s

/-- A table word (R241, R242): from the core's open stores, its own close memory, a line in the cloakroom, or a coherent read. -/
def tableRead (c pa : Nat) (s : State) : TRes :=
  let fin := fun (st : FStatus) (w : MWord) (s : State) =>
    let w := storesOver s c pa w
    if st ≠ .ok && st ≠ .poison then TRes.bad st s else if w.mark = .poison then .bad .poison s else .ok w.v s
  match regionAt s pa with
  | some (.close n) => if n = c then fin .ok (memRead s.close (c * 0x4000 + pa % 0x4000)) s else .bad .prot s
  | some .stage | some .dram =>
    if !isPaced s c && holdsLine s c (pa / 16) && !hasOut s c (pa / 16) then
      match coherentWord c pa .table false s with
      | .wait s => .wait s
      | .got st w s => fin st w s
    else match (if isPaced s c then none else (s.core c).cloak.find? (fun e => e.line == pa / 16)) with
    | some ⟨_, some d, _, _, .ok, _, false, _⟩ => fin .ok (d.getD (pa % 16) MWord.zero) (serveWalk c (pa / 16) s)
    | _ =>
      if mustWait s c (pa / 16) && (ioFind s c .table pa).isNone then .wait s
      else match (if isPaced s c then CRes.go s else useCloak c pa s) with
        | .wait s => .wait s
        | .bad st s => .bad st s
        | .go s =>
          match coherentWord c pa .table (isPaced s c) s with
          | .wait s => .wait s
          | .got st w s => fin st w s
  | none =>
    if dramBase ≤ pa || (stageBase ≤ pa && decide (pa < 0x200000)) then .bad .decode (logDecode c pa s) else .bad .prot s
  | _ => .bad .prot s

/-- An entry of structure k of core c found wrong (R264): its record; the caller drops the entry. -/
def tlbErr (c k : Nat) (s : State) : State := logErr (.core c) 0x13 c 0 (nw k) (heal (.tlb c k) s)

/-! ### Stage 2 -/

def fifoPut {α : Type} (cap : Nat) (x : α) (l : List α) : List α := (x :: l).take cap

/-- An entry enters a structure of 4 ways; the oldest of its set leaves where there is no room. DESIGN CHOICE (log row 35): the set is a page number
modulo the number of sets. -/
def setPut {α : Type} (sets : Nat) (page : α → Nat) (x : α) (l : List α) : List α :=
  let mine := fun (y : α) => page y % sets == page x % sets
  if (l.filter mine).length < 4 then x :: l
  else x :: (l.filter (fun y => !mine y) ++ (l.filter mine).take 3)

/-- The stage-2 TLB: 16 sets of 4 ways (R249). -/
def s2Put (ibase lg : Nat) (e : Word) (c : Nat) (s : State) : State :=
  s.updCore c (fun k => { k with s2tlb := setPut 16 S2Ent.ibase ⟨s.fld (Reg.CS_PART c) 3 0, ibase, lg, e⟩ k.s2tlb })

/-- A stage-2 leaf found: its entry and level, with what was read on the way. -/
inductive S2Res where
  | ok (pa : Nat) (e : Word) (level : Nat) (s : State)
  | bad (reason : Nat) (s : State)
  | stop (st : FStatus) (s : State)
  | wait (s : State)

def s2Hits (s : State) (c ipa : Nat) : List S2Ent :=
  ((s.core c).s2tlb).filter (fun t => t.part == s.fld (Reg.CS_PART c) 3 0 && t.ibase == ipa / 2 ^ t.lg)

/-- The two-level walk of an IPA (R240), through the stage-2 TLB. -/
def stage2Walk (c ipa : Nat) (s : State) : S2Res :=
  let s := if struck s (.tlb c 4) && !(s2Hits s c ipa).isEmpty then
      tlbErr c 4 (s.updCore c (fun k => { k with s2tlb := k.s2tlb.filter (fun t => !(s2Hits s c ipa).contains t) })) else s
  match s2Hits s c ipa with
  | [t] => .ok (leafOut t.entry (if t.lg = 12 then 3 else 2) ipa) t.entry (if t.lg = 12 then 3 else 2) s
  | hits =>
    let s := if hits.isEmpty then s else s.updCore c (fun k => { k with s2tlb := k.s2tlb.filter (fun t => !hits.contains t) })
    match tableRead c (s.fld (Reg.CS_PT2_BASE c) 33 10 * 2 ^ 10 + ipa / 2 ^ 24 % 1024) s with
    | .wait s => .wait s
    | .bad st s => .stop st s
    | .ok e2 s =>
      if !eV e2 then .bad 0 s
      else if eReserved e2 2 true then .bad 1 s
      else if !eT e2 then
        .ok (leafOut e2 2 ipa) e2 2 (s2Put (ipa / 2 ^ 24) 24 e2 c s)
      else match tableRead c (ePpn e2 * 2 ^ 12 + ipa / 2 ^ 12 % 4096) s with
        | .wait s => .wait s
        | .bad st s => .stop st s
        | .ok e3 s =>
          if !eV e3 then .bad 0 s
          else if eReserved e3 3 true then .bad 1 s
          else .ok (leafOut e3 3 ipa) e3 3 (s2Put (ipa / 2 ^ 12) 12 e3 c s)

def s2On (s : State) (c : Nat) : Bool := s.bit (Reg.CS_PT2_BASE c) 39
def s1On (s : State) (c : Nat) : Bool := s.bit (Reg.CS_PT1_BASE c) 39
def hauOn (s : State) (c : Nat) : Bool := s.bit (Reg.CS_PT1_BASE c) 38

/-- Stage 2 of any IPA: the identity while it is off. -/
def stage2 (c ipa : Nat) (s : State) : S2Res := if s2On s c then stage2Walk c ipa s else .ok ipa 0x1C 2 s

/-! ### Stage 1 -/

/-- Address of the table word of level n, and the index of a virtual address there (R239). -/
def s1Index (level : Nat) (va : Nat) : Nat :=
  if level = 1 then va / 2 ^ 36 % 16 else if level = 2 then va / 2 ^ 24 % 4096 else va / 2 ^ 12 % 4096

/-- How a stage-1 walk ends: the leaf, its level, where it lies, and whether stage 2 lets it be written. -/
inductive S1Res where
  | leaf (e : Word) (level ipa pa : Nat) (w : Bool) (s : State)
  | done (x : XRes)

def wcFind (s : State) (c level key : Nat) : Option Word :=
  ((s.core c).wcache.find? (fun t => t.part == s.fld (Reg.CS_PART c) 3 0 && t.asid == s.fld (Reg.CS_ASID c) 11 0 && t.s1on && t.s2on == s2On s c &&
    t.level == level && t.key == key)).map (·.entry)

def wcPut (c level key : Nat) (e : Word) (s : State) : State :=
  s.updCore c (fun k => { k with wcache := fifoPut 16 ⟨s.fld (Reg.CS_PART c) 3 0, s.fld (Reg.CS_ASID c) 11 0, true, s2On s c, level, key, e⟩ k.wcache })

/-- A walk-cache entry found wrong is dropped (R264). -/
def wcParity (c level key : Nat) (s : State) : State :=
  match wcFind s c level key with
  | none => s
  | some e => if struck s (.tlb c 3) then tlbErr c 3 (s.updCore c (fun k => { k with wcache := k.wcache.filter (fun t =>
      !(t.level == level && t.key == key && t.entry == e)) })) else s

/-- The walk from the table at IPA t at a level, `n` levels left. -/
def walkFrom (c : Nat) (a : Access) (va : Word) : Nat → Nat → Nat → State → S1Res
  | 0, _, _, s => .done (.wait s)
  | n + 1, level, t, s =>
    let ipa := (t + s1Index level va.toNat) % 2 ^ 34
    let key := if level = 1 then va.toNat / 2 ^ 36 else va.toNat / 2 ^ 24
    let go := fun (e : Word) (pa : Nat) (w : Bool) (s : State) =>
      if !eV e then S1Res.done (xFault c s a 0 va)
      else if eReserved e level false then .done (xFault c s a 1 va)
      else if eT e then walkFrom c a va n (level + 1) (ePpn e * 2 ^ 12) (wcPut c level key e s)
      else .leaf e level ipa pa w s
    let s := if level < 3 then wcParity c level key s else s
    match (if level < 3 then wcFind s c level key else none) with
    | some e => walkFrom c a va n (level + 1) (ePpn e * 2 ^ 12) s
    | none =>
      match stage2 c ipa s with
      | .wait s => .done (.wait s)
      | .bad r s => .done (s2Fault c s (9 + r) va ipa)
      | .stop st s => .done (.fault (statusExc (s.core c).pc st va) s)
      | .ok pa e2 _ s =>
        if s2On s c && !eR e2 then .done (s2Fault c s 0xB va ipa)
        else match tableRead c pa s with
          | .wait s => .done (.wait s)
          | .bad st s => .done (.fault (statusExc (s.core c).pc st va) s)
          | .ok e s => go e pa (!s2On s c || eW e2) s

/-! ### Permissions (R243-R245) -/

def perms (e : Word) : Nat := b2n (eR e) + 2 * b2n (eW e) + 4 * b2n (eX e)

/-- The reason of the first missing permission: READ, WRITE, EXEC. -/
def missing (a : Access) (p : Nat) : Option Nat :=
  if a.r && !p.testBit 0 then some 2 else if a.w && !p.testBit 1 then some 3 else if a.x && !p.testBit 2 then some 4 else none

/-- The stage-1 checks in their order (R245). -/
def s1Check (pl : Nat) (hau : Bool) (a : Access) (t : TlbEnt) : Option Nat :=
  if pl = 0 && !t.u then some 5
  else match missing a t.p1 with
    | some r => some r
    | none =>
      if pl = 1 && a.cause == 3 && t.pxn then some 4
      else if !t.a && !hau then some 6
      else if a.w && !t.d && !hau then some 7
      else none

/-- A combined entry serves an access, or faults (R240, R243-R245, R247, R261). -/
def useEntry (c : Nat) (a : Access) (va : Word) (t : TlbEnt) (s : State) : XRes :=
  let ipa := t.ibase * 2 ^ t.lg + va.toNat % 2 ^ t.lg
  match (if t.s2on then missing a t.p2 else none) with
  | some r => s2Fault c s r va ipa
  | none =>
    if !t.s1on then .ok (t.pbase * 2 ^ t.lg + va.toNat % 2 ^ t.lg) t.uncached none s
    else match s1Check (s.pl c) (hauOn s c) a t with
      | some r => xFault c s a r va
      | none =>
        let setA := !t.a
        let setD := a.dirties && !t.d
        if (setA || setD) && !t.leafW then s2Fault c s 0xC va t.leafIpa
        else
          .ok (t.pbase * 2 ^ t.lg + va.toNat % 2 ^ t.lg) t.uncached
            (if setA || setD then some ⟨va, t.leafPa, t.leaf, bset (if setD then bset t.leaf 8 true else t.leaf) 7 true⟩ else none) s

/-! ### TLBs -/

def tlbMatch (s : State) (c : Nat) (va : Word) (t : TlbEnt) : Bool :=
  t.part == s.fld (Reg.CS_PART c) 3 0 && (t.g || t.asid == s.fld (Reg.CS_ASID c) 11 0) && t.s1on == s1On s c && t.s2on == s2On s c &&
  t.vbase == va.toNat / 2 ^ t.lg

/-- The structure searched first for an access. -/
def tlbOf (k : Core) (fetch : Bool) : List TlbEnt := if fetch then k.itlb else k.dtlb

def setTlb (fetch : Bool) (l : List TlbEnt) (k : Core) : Core := if fetch then { k with itlb := l } else { k with dtlb := l }

/-- Fill the first-level TLB of an access and the second-level TLB of 128 sets. -/
def tlbFill (c : Nat) (fetch : Bool) (t : TlbEnt) (s : State) : State :=
  s.updCore c (fun k =>
    let k := setTlb fetch (fifoPut (if fetch then 16 else 32) t (tlbOf k fetch)) k
    { k with l2tlb := setPut 128 TlbEnt.vbase t k.l2tlb })

def tlbDrop (c : Nat) (p : TlbEnt → Bool) (s : State) : State :=
  s.updCore c (fun k => { k with itlb := k.itlb.filter (fun t => !p t), dtlb := k.dtlb.filter (fun t => !p t), l2tlb := k.l2tlb.filter (fun t => !p t) })

/-- The combined entry of a finished walk (R243). -/
def combine (s : State) (c : Nat) (va : Word) (e : Option (Word × Nat × Nat × Nat × Bool)) (pa : Nat) (e2 : Word) (l2 : Nat) (ipa : Nat) : TlbEnt :=
  let lg1 := match e with | some (_, level, _) => if level = 3 then 12 else 24 | none => 24
  let lg := if s2On s c then min lg1 (if l2 = 3 then 12 else 24) else lg1
  { part := s.fld (Reg.CS_PART c) 3 0, asid := s.fld (Reg.CS_ASID c) 11 0, g := match e with | some (w, _) => bget w 6 | none => false,
    s1on := e.isSome, s2on := s2On s c, vbase := va.toNat / 2 ^ lg, lg := lg, ibase := ipa / 2 ^ lg, pbase := pa / 2 ^ lg,
    p1 := match e with | some (w, _) => perms w | none => 7, p2 := perms e2, u := match e with | some (w, _) => bget w 5 | none => true,
    pxn := match e with | some (w, _) => bget w 11 | none => false,
    uncached := (match e with | some (w, _) => fget w 10 9 == 1 | none => false) || (s2On s c && fget e2 10 9 == 1),
    a := match e with | some (w, _) => bget w 7 | none => true, d := match e with | some (w, _) => bget w 8 | none => true,
    leafPa := match e with | some (_, _, _, p, _) => p | none => 0, leafIpa := match e with | some (_, _, i, _) => i | none => 0,
    leaf := match e with | some (w, _) => w | none => 0, leafW := match e with | some (_, _, _, _, w) => w | none => true }

/-! ### Excursions (R214-R216, R262) -/

/-- An excursion is counted, with its kind (0 LOAD, 1 STORE, 2 FETCH, 3 WALK) and virtual address. -/
def countExcursion (c kind : Nat) (va : Word) (s : State) : State :=
  let x := s.fld (Reg.CS_PACE_STAT c) 19 0
  let s := s.setReg (Reg.CS_PACE_STAT c) (fset (fset (s.reg (Reg.CS_PACE_STAT c)) 39 38 kind) 19 0 (if x = 2 ^ 20 - 1 then x else x + 1))
  (s.setReg (Reg.CS_PACE_EXC c) va).updCore c (fun k => { k with excursed := true })

def strictNow (s : State) (c : Nat) : Bool := s.bit (Reg.CS_PACE_CTL c) (4 + s.pl c)

def excursionExc (pc va : Word) : Exc := ⟨0x0D, 1, true, pc, 0, va, none⟩

/-- Both stages of a walk, and the access through what they give; the combined entry where no fault ends it. -/
def walkOnce (c : Nat) (a : Access) (va : Word) (s : State) : XRes × Option TlbEnt :=
  let finish := fun (e : Option (Word × Nat × Nat × Nat × Bool)) (ipa : Nat) (s : State) =>
    match stage2 c ipa s with
    | .wait s => (XRes.wait s, none)
    | .bad r s => (s2Fault c s r va ipa, none)
    | .stop st s => (.fault (statusExc (s.core c).pc st va) s, none)
    | .ok pa e2 l2 s =>
      let t := combine s c va e pa e2 l2 ipa
      match useEntry c a va t s with
      | .ok pa u upd s => (.ok pa u upd s, some t)
      | x => (x, none)
  if s1On s c then
    match walkFrom c a va 3 1 (s.fld (Reg.CS_PT1_BASE c) 33 4 * 16) s with
    | .done x => (x, none)
    | .leaf e level ipa pa w s => finish (some (e, level, ipa, pa, w)) (leafOut e level va.toNat) s
  else finish none va.toNat s

/-! ### Tentative entries (R186) -/

/-- The lines in the cloakroom that serve the instruction at the head. -/
def tentLines (s : State) (c : Nat) : List Nat :=
  ((s.core c).cloak.filter (fun e => e.serves.contains (s.core c).pc && e.data.isSome && !e.fetch)).map (·.line)

def dropTent (c : Nat) (t : TentEnt) (s : State) : State := s.updCore c (fun k => { k with ttlb := k.ttlb.filter (fun x => x != t) })

/-- The instruction that caused a walk is at the head: the walk's lines are promoted, and the tentative entry moves into the TLB; on a mismatch, or an
entry found wrong (R264), the walk runs again. -/
def tentMove (c : Nat) (a : Access) (va : Word) (t : TentEnt) (again : State → XRes) (s : State) : XRes :=
  if struck s (.tlb c 5) then again (pmcEvent c 0x11 1 (dropTent c t (tlbErr c 5 s)))
  else match promoteLines c t.lines s with
    | .wait s => .wait s
    | .again s => again s
    | .done s =>
      match useEntry c a va t.entry (dropTent c t s) with
      | .ok pa u upd s => .ok pa u upd (tlbFill c t.fetch t.entry s)
      | x => x

/-- The walk of a TLB miss. Where it read through the cloakroom, its result is a tentative entry until its lines are promoted, and no fault stands
on a line that mismatches; `n` walks are left. -/
def walkTent (c : Nat) (a : Access) (va : Word) : Nat → State → XRes
  | 0, s => .wait s
  | n + 1, s =>
    let fetch := a.cause == 3
    match walkOnce c a va s with
    | (.ok pa u upd s, some t) =>
      if (tentLines s c).isEmpty then .ok pa u upd (tlbFill c fetch t s)
      else
        let e : TentEnt := ⟨(s.core c).pc, tentLines s c, fetch, t⟩
        tentMove c a va e (walkTent c a va n) (s.updCore c (fun k => { k with ttlb := fifoPut 4 e k.ttlb }))
    | (.fault e s, _) =>
      if (tentLines s c).isEmpty then .fault e s
      else match promoteLines c (tentLines s c) s with
        | .wait s => .wait s
        | .again s => walkTent c a va n s
        | .done s => .fault e s
    | (x, _) => x

/-- A TLB miss: a virtual address out of range needs no walk; a walk of a paced core is an excursion (R262). -/
def xWalk (c : Nat) (a : Access) (va : Word) (s : State) : XRes :=
  if !s1On s c && va.toNat / 2 ^ 34 != 0 then xFault c s a 8 va
  else
    let s := if isPaced s c then countExcursion c 3 va s else s
    if isPaced s c && strictNow s c then .fault (excursionExc (s.core c).pc va) s
    else match (s.core c).ttlb.find? (fun t => t.pc == (s.core c).pc && t.fetch == (a.cause == 3) && tlbMatch s c va t.entry) with
      | some t => tentMove c a va t (walkTent c a va 3) s
      | none => walkTent c a va 3 s

/-- Entries found wrong in the first-level or second-level TLB are dropped before the lookup goes on (R264). -/
def tlbParity (c : Nat) (fetch : Bool) (va : Word) (s : State) : State :=
  let m := tlbMatch s c va
  let k := if fetch then 0 else 1
  let s := if struck s (.tlb c k) && (tlbOf (s.core c) fetch).any m then
      tlbErr c k (s.updCore c (fun x => setTlb fetch ((tlbOf x fetch).filter (fun t => !m t)) x)) else s
  if struck s (.tlb c 2) && !(tlbOf (s.core c) fetch).any m && (s.core c).l2tlb.any m then
    tlbErr c 2 (s.updCore c (fun x => { x with l2tlb := x.l2tlb.filter (fun t => !m t) }))
  else s

/-- Translation of one word (R235, R240, R249, R250, R258). -/
def translate (c : Nat) (a : Access) (va : Word) (s : State) : XRes :=
  if 2 ≤ s.pl c || (!s1On s c && !s2On s c) then
    if va.toNat / 2 ^ 34 != 0 then xFault c s a 8 va else .ok va.toNat false none s
  else
    let fetch := a.cause == 3
    let s := tlbParity c fetch va s
    match (tlbOf (s.core c) fetch).filter (tlbMatch s c va) with
    | [t] => useEntry c a va t s
    | _ :: _ :: _ => xWalk c a va (tlbDrop c (tlbMatch s c va) s)
    | [] =>
      match (s.core c).l2tlb.filter (tlbMatch s c va) with
      | [t] =>
        (match useEntry c a va t s with
          | .ok pa u upd s => .ok pa u upd (s.updCore c (fun k => setTlb fetch (fifoPut (if fetch then 16 else 32) t (tlbOf k fetch)) k))
          | x => x)
      | [] => xWalk c a va (pmcEvent c 0x10 1 s)
      | _ => xWalk c a va (tlbDrop c (tlbMatch s c va) s)

/-! ### TLB operations (R252) -/

/-- A TLB operation discards every tentative entry. -/
def dropTents (c : Nat) (s : State) : State :=
  if (s.core c).ttlb.isEmpty then s else (pmcEvent c 0x11 (s.core c).ttlb.length s).updCore c (fun k => { k with ttlb := [] })

def tlbInvVa (c : Nat) (va : Word) (s : State) : State :=
  let p := s.fld (Reg.CS_PART c) 3 0
  let a := s.fld (Reg.CS_ASID c) 11 0
  (tlbDrop c (fun t => t.part == p && t.vbase == va.toNat / 2 ^ t.lg && (t.asid == a || t.g)) (dropTents c s)).updCore c (fun k =>
    { k with wcache := k.wcache.filter (fun t => t.part != p) })

def tlbInvAsid (c asid : Nat) (s : State) : State :=
  let p := s.fld (Reg.CS_PART c) 3 0
  (tlbDrop c (fun t => t.part == p && t.asid == asid && !t.g) (dropTents c s)).updCore c (fun k =>
    { k with wcache := k.wcache.filter (fun t => !(t.part == p && t.asid == asid)) })

def tlbInvAll (c : Nat) (s : State) : State :=
  let p := s.fld (Reg.CS_PART c) 3 0
  (tlbDrop c (fun t => t.part == p) (dropTents c s)).updCore c (fun k => { k with wcache := k.wcache.filter (fun t => t.part != p) })

def tlbInvPart (c p : Nat) (s : State) : State :=
  (tlbDrop c (fun t => t.part == p) (dropTents c s)).updCore c (fun k =>
    { k with wcache := k.wcache.filter (fun t => t.part != p), s2tlb := k.s2tlb.filter (fun t => t.part != p) })

end Sys2Proof.Machine
end

