-- ==== Sys2Proof/Machine/Csr.lean ====
section
/-!
DEFINITION. The control registers of a core (R102-R106, R122): which exist and from which level, what a read gives and what a write does, by the
core itself or by another agent while the core is stopped (R105).
-/
set_option linter.constructorNameAsVariable false

namespace Sys2Proof.Machine

/-- Min PL of an assigned cs number (R122). -/
def csMinPl (cs : Nat) : Option Nat :=
  if cs ≤ 0x07 then some 0
  else if cs ≤ 0x16 then some 1
  else if cs = 0x17 then none
  else if cs ≤ 0x21 then some 2
  else if cs ≤ 0x27 then none
  else if cs ≤ 0x39 then some 3
  else if cs ≤ 0x3F then none
  else if cs ≤ 0x5F then some 1
  else if cs ≤ 0x6C then some 3
  else none

/-- What a register of core c shows (R106, R309, R310 and the tables of the owning chapters); without the side effect of `cs.TIME_LO`. -/
def csView (s : State) (c cs : Nat) : Word :=
  let a := corePage c + cs
  if cs = 0x01 then s.nowLo
  else if cs = 0x02 then (s.core c).timeHi
  else if cs = 0x03 then nw (ownId s * 8 + c)
  else if cs = 0x06 then nw (b2n (s.core c).resv.isSome)
  else if cs = 0x08 then bset (s.reg a) 6 (asyncPending s c)
  else if cs = 0x16 then claimView s c
  else if cs = 0x39 then bset (bset (s.reg a) 2 (s.core c).parked) 3 (decide (3 ≤ s.fld Reg.PWR_STATUS 2 0) && s.fld a 1 0 == 0)
  else s.reg a

/-- A read of a control register; `cs.TIME_LO` latches the high word (R106). -/
def csRead (c cs : Nat) (s : State) : Word × State :=
  if cs = 0x01 then (s.nowLo, s.updCore c (fun k => { k with timeHi := s.nowHi })) else (csView s c cs, s)

/-- BTB_INV: every entry becomes invalid; a set's round-robin pointer moves only on allocation (R172). -/
def btbInvalidate (c : Nat) (s : State) : State := s.updCore c (fun k => { k with btb := [] })

def emptyRas (c : Nat) (s : State) : State := s.updCore c (fun k => { k with ras := [] })

/-- Fields of `cs.STATUS` that the level admits: HOLD2 from PL2, HOLD3 from PL3. -/
def statusKeep (pl : Nat) (f : Fld) : Bool := !(f.lo == 4 && decide (pl < 2)) && !(f.lo == 5 && decide (pl < 3))

/-- Steps 2 and 3 of R206: what the core holds is written back and dropped, and its prefetcher stops. -/
def paceEntry (c : Nat) (s : State) : State :=
  evictAll c ((squashAll c s).updCore c (fun k => { k with pacing := true, l1i := [], l1iUse := [], l1d := [], streams := [], pfq := [] }))

/-- A write of `cs.PACE_CTL` (R206, R212). -/
def paceCtlWrite (ep c : Nat) (v : Word) (s : State) : State :=
  let a := Reg.CS_PACE_CTL c
  let was := s.bit a 0
  let s := writeReg ep a v s
  if bget v 0 && !was && !s.bit a 1 then paceEntry c s
  else if !bget v 0 then (s.setBit a 1 false).updCore c (fun k => { k with pacing := false })
  else s

/-- PACE_WRITEBACK_DONE (R206): nothing of the core is left anywhere, ACTIVE becomes 1 and G0 is chosen. -/
def paceActive (c : Nat) (s : State) : State :=
  let g := s.agent c
  if (s.core c).pacing && g.lines.isEmpty && g.out.isEmpty then
    let s := s.setBit (Reg.CS_PACE_CTL c) 1 true
    s.updCore c (fun k => { k with pacing := false, grid := gridZero s c, due := none })
  else s

def pacePeriodWrite (ep c : Nat) (v : Word) (s : State) : State :=
  let s := writeReg ep (Reg.CS_PACE_PERIOD c) v s
  if isPaced s c then s.updCore c (fun k => { k with grid := gridZero s c }) else s

/-- A write of `cs.PMC_SEL_k`: PLM bits above the level stay as they are (R201). -/
def pmcSelWrite (ep c a : Nat) (v : Word) (s : State) : State :=
  let pl := s.pl c
  let old := s.reg a
  let v := if pl < 3 then bset v 11 (bget old 11) else v
  let v := if pl < 2 then bset v 10 (bget old 10) else v
  writeReg ep a v s

/-- A write of `cs.TMR_CMP_LO` (R320): the held high word takes effect with it; a compare already passed fires at the next tick (R329). -/
def tmrCmpWrite (ep c : Nat) (v : Word) (s : State) : State :=
  let s' := writeReg ep (Reg.CS_TMR_CMP_LO c) v s
  let s' := match SMap.find c s.tb.cmpHi with
    | some h => { s'.setReg (Reg.CS_TMR_CMP_HI c) h with tb := { s'.tb with cmpHi := SMap.erase c s'.tb.cmpHi } }
    | none => s'
  { s' with tb := { s'.tb with tmrFrom := SMap.put 0 c (if tmrCmp s' c ≤ s'.now then s'.now + 1 else 0) s'.tb.tmrFrom } }

/-- A write of a control register, with its action; the level of the core counts for an agent's store too (R105). -/
def csWrite (ep c cs : Nat) (v : Word) (s : State) : State :=
  let a := corePage c + cs
  let s' :=
    if cs = 0x08 then writeRegIf (statusKeep (s.pl c)) ep a v s
    else if cs = 0x11 then emptyRas c (writeReg ep a v s)
    else if cs = 0x2F then
      let s := emptyRas c (writeReg ep a v s)
      if bget v 2 then btbInvalidate c s else s
    else if cs = 0x12 then tmrCmpWrite ep c v s
    else if cs = 0x13 then { s with tb := { s.tb with cmpHi := SMap.insert c v s.tb.cmpHi } }
    else if cs = 0x16 then completeSource c (fget v 7 0) s
    else if cs = 0x30 then paceCtlWrite ep c v s
    else if cs = 0x31 then pacePeriodWrite ep c v s
    else if 0x50 ≤ cs && decide (cs < 0x5F) then pmcSelWrite ep c a v s
    else writeReg ep a v s
  if asyncPending s c = asyncPending s' c && s.bit (Reg.CS_TMR_CTL c) 0 = s'.bit (Reg.CS_TMR_CTL c) 0 then s' else breakQuietOf c s'

/-- A store of another agent to a core page (R105). -/
def corePageStore (ep c cs : Nat) (v : Word) (s : State) : FStatus × State :=
  if s.stopped c then (.ok, csWrite ep c cs v s) else (.prot, s)

end Sys2Proof.Machine
end

