-- ==== Sys2Proof/Machine/View.lean ====
section
/-!
DEFINITION. What every register shows to a reader (R692, R694): the stored word, or the value its block computes. No read here has a side effect;
those of R698 are in `Machine/Bus.lean`.
-/
set_option linter.constructorNameAsVariable false

namespace Sys2Proof.Machine

/-- The event unit's computed values (R304, R308, chapter 09 Registers). -/
def eiuView (s : State) (a : Nat) : Option Word :=
  if Reg.EIU_PEND 0 ≤ a && decide (a < Reg.EIU_PEND 7) then
    some (wordOfBits 40 (fun j => decide (40 * (a - Reg.EIU_PEND 0) + j < 256) && s.pendOf (40 * (a - Reg.EIU_PEND 0) + j)))
  else if Reg.EIU_PART_STAT 0 ≤ a && decide (a < Reg.EIU_PART_STAT 16) then
    some (nw ((List.range 256).filter (fun k => srcPart s k == a - Reg.EIU_PART_STAT 0 && srcEn s k && srcLevel s k == 1 && s.pendOf k)).length)
  else if Reg.EIU_SRC_CFG 0 ≤ a && decide (a < Reg.EIU_SRC_CFG 256) then
    some (bset (bset (s.reg a) 1 (s.pendOf (a - Reg.EIU_SRC_CFG 0))) 2 (inService s (a - Reg.EIU_SRC_CFG 0)))
  else if Reg.EIU_CORE_STATE 0 ≤ a && decide (a < Reg.EIU_CORE_STATE 8) then
    let c := a - Reg.EIU_CORE_STATE 0
    let o := match offer s c with | some k => 2 ^ 10 + k * 4 | none => 0
    some (nw (o + b2n (s.core c).latch * 2 + b2n (s.waitingEv c)))
  else if Reg.EIU_CORE_INSVC 0 ≤ a && decide (a < Reg.EIU_CORE_INSVC 8) then
    some (wordOfBits 8 (fun p => s.eiu.insvc.any (fun e => e.2.core == a - Reg.EIU_CORE_INSVC 0 && e.2.pri == p)))
  else none

/-- A home slice's priority slots and tracker. -/
def hsView (s : State) (a : Nat) : Option Word :=
  let n := (a - 0x210000) / 0x1000
  let show_ := fun (m : CMsg) (x : Nat) => some (nw (2 ^ 39 + x + m.line % 2 ^ 30))
  if Reg.HS_PSLOT n 0 ≤ a && decide (a < Reg.HS_PSLOT n 12) then
    match SMap.find (a - Reg.HS_PSLOT n 0) (s.slice n).pslot with
    | some m => show_ m 0
    | none => some 0
  else if Reg.HS_TRK n 0 ≤ a && decide (a < Reg.HS_TRK n 48) then
    match SMap.find (a - Reg.HS_TRK n 0) (s.slice n).trk with
    | some t => show_ t.req (t.req.agent * 2 ^ 35 + t.req.code % 32 * 2 ^ 30)
    | none => some 0
  else none

/-- The selected word of the fresh map (R500), of 131,072 bits, and CAP_GIW (R487). -/
def dmcView (s : State) (a : Nat) : Option Word :=
  let n := (a - 0x218000) / 0x1000
  if a = Reg.DMC_FRESH_DATA n then
    let w := s.fld (Reg.DMC_FRESH_SEL n) 11 0
    some (wordOfBits 40 (fun j => decide (40 * w + j < 131072) && isFresh s n (40 * w + j)))
  else if a = Reg.DMC_GEOM n then some (fset (s.reg a) 6 4 (dmcCap s n))
  else none

def fabView (s : State) (a : Nat) : Option Word :=
  if a = Reg.FAB_RT_DATA then some (rtDataView s)
  else if Reg.FAB_RTR_STAT 0 ≤ a && decide (a < Reg.FAB_RTR_STAT 16) then some (fset (s.reg a) 2 0 (wakeHeld s (a - Reg.FAB_RTR_STAT 0)))
  else if Reg.FAB_NI_STATUS 0 ≤ a && decide (a < Reg.FAB_NI_STATUS 32) then some (niStatusView s (a - Reg.FAB_NI_STATUS 0))
  else if Reg.FAB_NI_HELD 0 ≤ a && decide (a < Reg.FAB_NI_HELD 32) then some (niHeldView s (a - Reg.FAB_NI_HELD 0))
  else none

/-- LAG of a pair. -/
def pairView (s : State) (a : Nat) : Option Word :=
  let n := (a - 0x278000) / 0x20
  if a = Reg.PAIR_STAT n then some (fset (s.reg a) 13 7 (s.pair n).entries.length) else none

def tbView (s : State) (ep a : Nat) : Option Word :=
  if a = Reg.TB_NOW_LO then some s.nowLo else if a = Reg.TB_NOW_HI then some (tbNowHiView s ep) else none

def logView (s : State) (ep a : Nat) : Option Word :=
  if a = Reg.SYS_ERRLOG_TOP 0 then some (match s.errlog.recs with | r :: _ => r.w0 | [] => 0)
  else if Reg.SYS_ERRLOG_TOP 1 ≤ a && decide (a ≤ Reg.SYS_ERRLOG_TOP 3) then some (errlogShadow s ep (a - Reg.SYS_ERRLOG_TOP 0))
  else sysView s a

/-- `HATCHECK_IO` stands high, by its pull-up, unless the device drives it (R678); ARM stands while it waits for a latch to end (R27, R686). -/
def hatView (s : State) (a : Nat) : Option Word :=
  if a = Reg.HAT_PIN then some (bset (s.reg a) 0 (!s.bit a 1))
  else if a = Reg.HAT_CTL then some (bset (s.reg a) 0 s.hat.armAfter)
  else none

/-- What the register at `a` shows to endpoint `ep`; ring registers stand at their internal address. -/
def regView (s : State) (ep a : Nat) : Word :=
  let k := (a - 0x200000) / 0x1000
  let v :=
    if 0x400000 ≤ a then segView s a
    else if k = 0 then logView s ep a
    else if k = 1 then bsqView s a
    else if k = 2 then pwrView s a
    else if k = 3 then tbView s ep a
    else if k < 8 then eiuView s a
    else if k < 0x10 then some (csView s (k - 8) (a % 0x1000))
    else if k < 0x14 then hsView s a
    else if k = 0x18 || k = 0x19 then dmcView s a
    else if k = 0x20 then fabView s a
    else if k = 0x28 then cufView s 0 a
    else if k = 0x29 then cufView s 1 a
    else if k = 0x30 || (decide (0x40 ≤ k) && decide (k < 0x50)) then segView s a
    else if k = 0x60 then audView s a
    else if (decide (0x61 ≤ k) && decide (k < 0x66)) || k = 0x7f then smallView s a
    else if k = 0x68 then ethView s a
    else if k = 0x69 then usbView s a
    else if k = 0x70 then fgtView s a
    else if k = 0x71 then kepView s a
    else if k = 0x78 then pairView s a
    else if k = 0x79 then hatView s a
    else if k = 0x7a then dbgView s a
    else none
  v.getD (s.reg a)

end Sys2Proof.Machine
end

