-- ==== Sys2Proof/Machine/Bus.lean ====
section
/-!
DEFINITION. The targets of I/O requests (R72-R75, R105, R443, R444, R695-R698, R710, R712): registers, close memory, the keep store, peer windows
and the homes, as one `Server`; and a command that is a write of one register.
-/
set_option linter.constructorNameAsVariable false

namespace Sys2Proof.Machine

/-! ### Registers -/

/-- What a register access comes to: its status and value, or held under R41. -/
inductive RegRes where
  | done (st : FStatus) (v : Word) (s : State)
  | held

/-- The block that owns register page k, as it names itself in the error log. -/
def blkOfPage (k : Nat) : BlkId :=
  if k = 0 then .sys else if k = 1 then .bsq else if k = 2 then .pwr else if k = 3 then .tb else if k < 8 then .eiu
  else if k < 0x10 then .core (k - 8) else if k < 0x14 then .hs (k - 0x10) else if k = 0x18 then .dmc 0 else if k = 0x19 then .dmc 1
  else if k = 0x20 || k = 0x21 then .fab else if k = 0x28 then .cuf 0 else if k = 0x29 then .cuf 1 else if k = 0x2a then .cns
  else if k < 0x60 then .seg else if k = 0x60 then .aud else if k = 0x61 then .mid else if k = 0x62 then .i2c else if k = 0x63 then .qspi
  else if k = 0x64 then .emc else if k = 0x65 then .gpio else if k = 0x68 then .eth else if k = 0x69 then .usb else if k = 0x70 then .fgt
  else if k = 0x71 then .kep else if k = 0x78 then .pair 4 else if k = 0x79 then .hat else if k = 0x7a then .dbg else .hpt

def regPage (a : Nat) : Nat := (a - 0x200000) / 0x1000

/-- A write of `PAIR_n_CTL` (R217, R226): EN := 1 needs both cores stopped; EN := 0 drains a running pair, and unpairs a stopped one. -/
def pairCtlWrite (ep n : Nat) (v : Word) (s : State) : State :=
  let a := Reg.PAIR_CTL n
  let was := s.bit a 0
  let s := writeRegIf (fun f => f.lo != 0 && (f.lo != 2 || !was)) ep a v s
  if bget v 0 && !was then
    if s.stopped (2 * n) && s.stopped (2 * n + 1) then (s.setBit a 0 true).setBit (Reg.PAIR_STAT n) 2 false else s.setBit (Reg.PAIR_STAT n) 3 true
  else if !bget v 0 && was then
    if (s.pair n).started && !s.bit (Reg.PAIR_STAT n) 1 then s.setPair n { s.pair n with draining := true }
    else ((s.setBit a 0 false).setBit (Reg.PAIR_STAT n) 1 false).setPair n Pair.reset
  else s

def pairWrite (ep a : Nat) (v : Word) (s : State) : State :=
  let n := (a - 0x278000) / 0x20
  if a = Reg.PAIR_CTL n then pairCtlWrite ep n v s
  else if a = Reg.PAIR_INJECT n then
    let p := s.pair n
    s.setPair n { p with injDisagree := p.injDisagree || bget v 3, injMissCanary := p.injMissCanary || bget v 2, injParity := p.injParity || bget v 1,
                         injMismatch := p.injMismatch || bget v 0 }
  else writeReg ep a v s

/-- A write to the timebase page (R316, R321-R323); a generator that stops takes the clock of its audio ports with it. -/
def tbWrite (ep a : Nat) (v : Word) (s : State) : State :=
  if a = Reg.TB_STEP_LO then tbStepAll v s
  else if a = Reg.TB_SLEW then tbSlewWrite ep v s
  else if Reg.TB_RGEN_CTL 0 ≤ a && decide (a < Reg.TB_RGEN_CTL 8) then
    let g := (a - Reg.TB_RGEN_CTL 0) / 8
    if a = Reg.TB_RGEN_CTL g then
      let s' := rgenCtlWrite ep g v s
      if s.bit a 0 && !bget v 0 then genStopped g s' else s'
    else if a = Reg.TB_RGEN_NUM g then rgenRateWrite ep g false v s
    else if a = Reg.TB_RGEN_DEN g then rgenRateWrite ep g true v s
    else writeReg ep a v s
  else writeReg ep a v s

/-- A write of `HS_n_SPLIT` that runs the sequence of R289, and completes only at its end. -/
def holdsSplit (s : State) (a : Nat) (v : Word) : Bool := a == Reg.HS_SPLIT ((a - 0x210000) / 0x1000) && !s.isSealed && decide (fget v 3 0 ≤ 8)

/-- A held write of `HS_n_SPLIT` starts the sequence when none runs. -/
def startSplit (p : Pkt) (s : State) : State :=
  let n := (p.addr - 0x210000) / 0x1000
  if p.code = 1 && p.addr = Reg.HS_SPLIT n && s.split.isNone then splitWrite p.src n (p.data.getD 0 MWord.zero).v s else s

def hsWrite (ep a : Nat) (v : Word) (s : State) : State :=
  let n := (a - 0x210000) / 0x1000
  if a = Reg.HS_SPLIT n then splitWrite ep n v s else if a = Reg.HS_DIR_SEL n then dirSelWrite ep n v s else writeReg ep a v s

def dmcWrite (ep a : Nat) (v : Word) (s : State) : State :=
  let n := (a - 0x218000) / 0x1000
  if a = Reg.DMC_CTL n then retryHomes (writeDmcCtl ep n v s)
  else if a = Reg.DMC_ILV n then writeDmcIlv ep n v s
  else if a = Reg.DMC_INJECT n then writeDmcInject n v s
  else writeReg ep a v s

/-- A write to a Cuff port's page; of `CUF_n_INJECT`, a garbage slot reaches only the partner. -/
def cufWrite (ep n a : Nat) (v : Word) (s : State) : State :=
  if a = Reg.CUF_CTL n then cufCtlWrite ep n v s
  else if a = Reg.CUF_VCCFG n || (decide (Reg.CUF_WIN n 0 ≤ a) && decide (a < Reg.CUF_WIN n 0 + 8)) then cufLkWrite ep n a v s
  else if a = Reg.CUF_INJECT n then
    updCuf n (fun c => { c with injCredit := c.injCredit || bget v 2, injCrc := c.injCrc || bget v 0, txSlot := c.txSlot + b2n (bget v 1) }) s
  else writeReg ep a v s

/-- Writes that the owning chapter admits only from a header PL (R710). -/
def plRefused (pl a : Nat) : Bool :=
  (decide (pl < 3) && (a == Reg.BSQ_CORE_CTL || (decide (Reg.BSQ_CORE_ENTRY 0 ≤ a) && decide (a < Reg.BSQ_CORE_ENTRY 8)))) ||
  (decide (pl < 2) && decide (Reg.PWR_DOM 0 ≤ a) && decide (a < Reg.PWR_DOM 21))

def fine (s : State) : RegRes := .done .ok 0 s

/-- A write of an assigned register outside the function pages. -/
def pageWrite (ep pl a : Nat) (v : Word) (s : State) : RegRes :=
  let k := regPage a
  if plRefused pl a then .done .prot 0 s
  else if k = 0 then fine (sysWrite ep a v s)
  else if k = 1 then fine (bsqWrite ep a v s)
  else if k = 2 then fine (pwrWrite ep a v s)
  else if k = 3 then fine (tbWrite ep a v s)
  else if k < 8 then fine (eiuWrite ep a v s)
  else if k < 0x10 then let q := corePageStore ep (k - 8) (a % 0x1000) v s; .done q.1 0 q.2
  else if k < 0x14 then (if holdsSplit s a v then .held else fine (hsWrite ep a v s))
  else if k < 0x20 then fine (dmcWrite ep a v s)
  else if a = Reg.FAB_RT_DATA then fine (rtDataWrite ep v s)
  else if k < 0x28 then fine (writeReg ep a v s)
  else if k < 0x2a then fine (cufWrite ep (k - 0x28) a v s)
  else if k = 0x2a then fine (if a = Reg.CNS_CTL then cnsCtlWrite ep v s else writeReg ep a v s)
  else if k = 0x30 then fine (segPageWrite ep a v s)
  else if k = 0x60 then fine (audWrite ep a v s)
  else if k < 0x66 || k = 0x7f then (match smallWrite ep a v s with | .done s => fine s | .held => .held)
  else if k = 0x68 then (match ethWrite ep a v s with | .done s => fine s | .held => .held)
  else if k = 0x69 then fine (usbWrite ep a v s)
  else if k = 0x70 then fine (fgtWrite ep a v s)
  else if k = 0x71 then fine (kepWrite ep a v s)
  else if k = 0x78 then fine (pairWrite ep a v s)
  else if k = 0x79 then fine (hatWrite ep a v s)
  else fine (dbgWrite ep a v s)

/-- A read of a control register finds its word wrong: its core stops, whoever reads (R121). -/
def guardCs (c cs : Nat) (s : State) : State := if struck s (.coreReg c cs) then parityStop c cs s else s

/-- A read of an assigned register outside the function pages, with the side effects of R698. -/
def pageRead (ep a : Nat) (s : State) : RegRes :=
  let k := regPage a
  if a = Reg.SYS_ERRLOG_TOP 0 then let q := errlogTop ep s; .done .ok q.1 q.2
  else if a = Reg.TB_NOW_LO then let q := tbNowLoRead ep s; .done .ok q.1 q.2
  else if decide (8 ≤ k) && decide (k < 0x10) then let q := csRead (k - 8) (a % 0x1000) (guardCs (k - 8) (a % 0x1000) s); .done .ok q.1 q.2
  else if k = 0x62 && a = Reg.I2C_RXDATA ((a - 0x262000) / 16) then let q := i2cRxRead ((a - 0x262000) / 16) s; .done .ok q.1 q.2
  else if a = Reg.EMC_DATA then (match emcDataRead s with | .val v s => .done .ok v s | .held => .held)
  else if a = Reg.DMC_FRESH_DATA (k - 0x18) then
    let s := mapRead (k - 0x18) (40 * s.fld (Reg.DMC_FRESH_SEL (k - 0x18)) 11 0) s
    .done .ok (regView s ep a) s
  else .done .ok (regView s ep a) s

/-- A single-word access to the register at `a`: `w` is the word of a write. The function pages follow R443 and R444. -/
def regAccess (ep pl a : Nat) (w : Option Word) (s : State) : RegRes :=
  let k := regPage a
  let o := a % 0x1000
  let decode := fun (s : State) => RegRes.done .decode 0 (logErr (blkOfPage k) 0x08 0 (nw a) (nw ep) s)
  if decide (0x40 ≤ k) && decide (k < 0x50) then
    let f := k - 0x40
    if !fnCreated s f && !(o == 0 && w.isNone) then .done .prot 0 s
    else if o < 0x20 then
      match w with
      | some v => let q := sefPageWrite ep pl f a v s; .done q.1 0 q.2
      | none => .done .ok (regView s ep a) s
    else if 0x100 ≤ o && decide (o < 0x500) then
      let r := (o - 0x100) / 16
      if ringFn s r = some f then
        match w with
        | some v => fine (ringSlotWrite ep r (o % 16) v s)
        | none => .done .ok (regView s ep (Reg.SEF_RING_CFG r + o % 16)) s
      else fine (s.inc (Reg.SEF_FOREIGN_CNT f))
    else decode s
  else if (regAt a).isNone then decode s
  else match w with
    | some v => pageWrite ep pl a v s
    | none => pageRead ep a (if Reg.EIU_SRC_CFG 0 ≤ a && decide (a < Reg.EIU_SRC_CFG 256) then eiuRead (a - Reg.EIU_SRC_CFG 0) s else s)

/-! ### The server -/

/-- The kind of access of R72 that a request is; a masked read is an octet load. -/
def pktKind (p : Pkt) : Kind :=
  if 2 ≤ p.code then .atomic
  else if p.code = 0 then (if p.len ≤ 1 then (if p.masked then .octetLoad else .load) else .multiLoad)
  else if p.masked then .octetStore
  else if p.data.length ≤ 1 then .store else .multiStore

/-- The coherence agent of an endpoint's requests to boot ROM, stage memory and DRAM; 11 where the endpoint is none. -/
def agentOf (ep : Nat) : Nat := if ep < 8 then ep else if ep = 18 then 8 else if ep = 20 then 9 else if ep = 21 then 10 else 11

def pktOctets (p : Pkt) : Nat := if p.masked then p.mask else 2 ^ (5 * p.data.length) - 1

/-- An atomic of R110 on one stored word: its status, the old word, and the word it stores. -/
def atomOn (p : Pkt) (w : MWord) : FStatus × Line × MWord :=
  if w.mark = .poison then (.poison, [w], w)
  else (.ok, [w], ⟨atomResult p.atop w.v (p.data.getD 0 MWord.zero).v (p.data.getD 1 MWord.zero).v, .good⟩)

/-- Close memory of core c (R71): the owner's and other agents' accesses alike. -/
def closeServe (p : Pkt) (c : Nat) (s : State) : (FStatus × Line) × State :=
  let i := c * 0x4000 + (p.addr - 0x40000 - c * 0x8000)
  let wrote := fun (s : State) => clearResv p.src ((p.addr + max 1 p.data.length - 1) / 16) (clearResv p.src (p.addr / 16) s)
  if p.code = 0 then
    let d := memReadN s.close i (max 1 p.len)
    ((if hasPoison d then .poison else .ok, d), s)
  else if p.code = 1 then
    let d := mergeLine (pktOctets p) (memReadN s.close i p.data.length) p.data
    ((.ok, []), wrote { s with close := memWriteN i d s.close })
  else
    let q := atomOn p (memRead s.close i)
    ((q.1, q.2.1), clearResv p.src (p.addr / 16) { s with close := memWrite i q.2.2 s.close })

/-- A request that the homes serve (R287), line by line. -/
def homeServe (p : Pkt) (s : State) : (FStatus × Line) × State :=
  let a := agentOf p.src
  if p.code = 0 then let q := cohRead a 3 p.addr (max 1 p.len) s; ((q.1, q.2.1), q.2.2)
  else if p.code = 1 then let q := cohWrite a 3 p.addr (pktOctets p) p.data s; ((q.1, []), q.2)
  else
    let q := uncachedAtom a (p.addr / 16) (p.addr % 16) p.atop (p.data.getD 0 MWord.zero).v (p.data.getD 1 MWord.zero).v s
    ((q.1, q.2.1), q.2.2)

/-- A request at a DRAM controller (R489): a home's, for one line; every other is refused. -/
def dmcServe (p : Pkt) (s : State) : (FStatus × Line) × State :=
  let l := p.addr / 16
  let home := decide (8 ≤ p.src) && decide (p.src < 16) && p.addr % 16 == 0
  if home && p.code == 0 && p.len == 16 then
    let q := dmcReadLine l p.src s
    ((q.1, q.2.1), q.2.2)
  else if home && p.code == 1 && p.data.length == 16 then
    let q := dmcWriteLine l p.src (pktOctets p) p.data s
    ((q.1, []), q.2)
  else ((.prot, []), dmcRefuse (p.dst / 22) 0x09 p.addr p.src (pktKind p).code s)

/-- A packet's request has to wait at the controller (R41, R53, R504, R510). -/
def dmcWaits (p : Pkt) (s : State) : Bool := dramHolds s (p.addr / 16) || (p.code == 1 && dramFull s (p.addr / 16))

/-- The block that reports a refused access to a region (R83). -/
def blkOfRegion (s : State) (pa dst : Nat) : Region → BlkId
  | .regs => blkOfPage (regPage pa)
  | .close c => .core c
  | .keep => .kep
  | .peer _ => .cuf (dst - 20)
  | _ => .hs (homeOf s (pa / 16))

/-- The homes of a packet's lines cannot take it now. -/
def homeHolds (p : Pkt) (s : State) : Bool :=
  homeWaits s (agentOf p.src) (if p.code = 0 then rdU else if p.code = 1 then wrU else atomU) p.addr (max 1 (max p.len p.data.length))

/-- The block holds the request until it can serve it (R41). -/
def holdPacket (p : Pkt) (s : State) : Option (FStatus × Line) × State := (none, { s with ports := { s.ports with held := s.ports.held ++ [p] } })

def answerNow (q : (FStatus × Line) × State) : Option (FStatus × Line) × State := (some q.1, q.2)

/-- The region of a request that its interface has decoded: the limits in force then govern it, whatever they are by now (R81). -/
def decodedAs (s : State) (pa : Nat) : Option Region :=
  (regionAt s pa).or (if stageBase ≤ pa && decide (pa < 0x200000) then some .stage else if dramBase ≤ pa then some .dram else none)

/-- What every target does with a request that reaches it. -/
def busSrv : Server := fun p s =>
  let s := match domainOf p.dst p.addr with | some d => wakeLevel d s | none => s
  if (p.dst = 16 || p.dst = 22) && decide (dramBase ≤ p.addr) then
    if dmcWaits p s then (let s := noteStall (p.addr / 16) (dramWake (p.addr / 16) s); holdPacket p s) else answerNow (dmcServe p (endStall (p.addr / 16) s))
  else
    match decodedAs s p.addr with
    | none => (some (.decode, []), logDecode p.src p.addr s)
    | some r =>
      if !accepts r (pktKind p) then (some (.prot, []), logProt (blkOfRegion s p.addr p.dst r) p.src (pktKind p).code p.addr s)
      else
        match r with
        | .close c => answerNow (closeServe p c s)
        | .keep =>
          if p.code = 0 then answerNow (keepRead (p.addr - 0x10000) (max 1 p.len) s)
          else let q := keepStore p.src (pktKind p).code (p.addr - 0x10000) (pktOctets p) p.data s; (some (q.1, []), q.2)
        | .regs =>
          match regAccess p.src p.pl p.addr (if p.code = 0 then none else some (p.data.getD 0 MWord.zero).v) s with
          | .done st v s => (some (st, if p.code = 0 then [⟨v, .good⟩] else []), s)
          | .held => (none, startSplit p (holdPacket p s).2)
        | .peer _ => cufLocal (p.dst - 20) p s
        | _ => let s := settleNet netFuel s; if homeHolds p s then holdPacket p (dramWake (p.addr / 16) s) else answerNow (homeServe p s)

/-- Requests that a port held (R41), requests that wait for a Cuff tag or place, and received packets that waited are tried again. -/
def retryHeld (s : State) : State :=
  let s := if s.ports.held.isEmpty then s
    else s.ports.held.foldl (fun s p => serveNow busSrv p s) { s with ports := { s.ports with held := [] } }
  let s := unblock busSrv s
  let s := if s.fab.ni.all (fun e => e.2.held.isEmpty) then s else releaseAll busSrv (releaseMsgs s)
  [0, 1].foldl (fun s n => cufDeliver busSrv n (cufRetryWaiting n s)) s

/-- The sequence of R289 on slice n ends: its write completes. -/
def finishSplit (n u : Nat) (s : State) : State :=
  let s := splitEnd s
  match s.ports.held.find? (fun p => p.code == 1 && p.addr == Reg.HS_SPLIT n && fget (p.data.getD 0 MWord.zero).v 3 0 == u) with
  | some p => respond p .ok [] { s with ports := { s.ports with held := s.ports.held.erase p } }
  | none => s

/-! ### Commands that are accesses -/

def initPl (i : Initiator) : Nat := if i.ep.val < 8 then i.pl.val else 3

/-- One packet of initiator i over the fabric. -/
def sendPacket (i : Initiator) (code a len : Nat) (atop : AtOp) (mask : Option Nat) (data : Line) (s : State) : State :=
  ioRequest busSrv (mkReq i code a len atop mask.isSome (mask.getD 0) data) (if code = 0 then len else if code = 1 then data.length else 1) s

/-- A transfer of initiator i over the fabric: a core's is one packet; the interface of any other splits it (R341). -/
def sendIo (i : Initiator) (code a len : Nat) (atop : AtOp) (mask : Option Nat) (data : Line) (s : State) : State :=
  if i.ep.val < 8 || code = 2 then sendPacket i code a len atop mask data s
  else
    (packetsOf (len / 16 + 3) a len).foldl (fun s q =>
      sendPacket i code q.1 q.2 atop (mask.map (fun m => m / 2 ^ (5 * (q.1 - a)) % 2 ^ (5 * q.2))) ((data.drop (q.1 - a)).take q.2) s) s

/-- A request for the register at `a` reaches its block at once: the block's domain is open. -/
def atBlock (s : State) (a : Nat) : Bool :=
  match regionAt s a with
  | some .regs => (match domainOf (pageOwner a) a with | some d => domState s d == 0 && !domShed s d | none => true)
  | _ => false

/-- What the initiator of an access to one register gets; an access that the block cannot take at once stands as any request of R338 does. -/
def regAnswer (i : Initiator) (a : Nat) (w : Option Word) (s : State) : RegRes → State
  | .done st v s => retryHeld (complete i.ep st (if w.isSome then [] else [⟨v, .good⟩]) s)
  | .held => sendIo i (b2n w.isSome) a 1 .cas none (match w with | some v => [⟨v, .good⟩] | none => []) s

/-- A write of one register that reaches its block: its completion is at the initiator when the command ends. -/
def regCmd (i : Initiator) (a : Nat) (v : Word) (s : State) : State :=
  regAnswer i a (some v) s (if atBlock s a then regAccess i.ep (initPl i) a (some v) s else .held)

/-- A read of one register that reaches its block. -/
def regReadCmd (i : Initiator) (a : Nat) (s : State) : State := regAnswer i a none s (regAccess i.ep (initPl i) a none s)

end Sys2Proof.Machine
end

