-- ==== Sys2Proof/Machine/CoreMem.lean ====
section
/-!
DEFINITION. Memory accesses of a core: translation and the order of causes (R113, R254), watchpoints (R679), excursions (R214-R216), the region check
(R77), loads, stores, atomics and reservations (R107-R111, R115, R139-R143), the update of accessed and dirty bits (R247), cache operations (R288)
and instruction fetch (R157, R187).
-/
set_option linter.constructorNameAsVariable false

namespace Sys2Proof.Machine

/-- How a part of an instruction ends: with a value; with a synchronous cause; with a debug halt in place of one (R680); or it waits. -/
inductive MRes (α : Type) where
  | ok (v : α) (s : State)
  | exc (e : Exc) (s : State)
  | halt (reason : Nat) (s : State)
  | wait (s : State)
  /-- a register that it reads is found wrong (R121) -/
  | parity (n : Nat) (s : State)
  /-- an access outside the core is to be made, and these leaves' accessed and dirty bits come before it (R247) -/
  | leaf (u : List LeafUpd) (s : State)

def MRes.bind {α β : Type} (x : MRes α) (f : α → State → MRes β) : MRes β :=
  match x with
  | .ok v s => f v s
  | .exc e s => .exc e s
  | .halt r s => .halt r s
  | .wait s => .wait s
  | .parity n s => .parity n s
  | .leaf u s => .leaf u s

/-- Leaves to update that an earlier part of the instruction found. -/
def MRes.withLeaf {α : Type} (u : List LeafUpd) (x : MRes α) : MRes α :=
  match x with
  | .leaf v s => .leaf (u ++ v) s
  | x => x

/-- One word of an access, translated. -/
structure Spot where
  va : Word
  pa : Nat
  uncached : Bool
deriving DecidableEq, Repr

/-- What an access is: its permissions, its kind in the table of R72, what a watchpoint matches, and its excursion kind (0 LOAD, 1 STORE). -/
structure MemKind where
  acc : Access
  kind : Kind
  rd : Bool
  wr : Bool
  exKind : Nat
deriving DecidableEq, Repr

def mkLoad : MemKind := ⟨aLoad, .load, true, false, 0⟩
def mkStore : MemKind := ⟨aStore, .store, false, true, 1⟩
def mkLoad2 : MemKind := ⟨aLoad, .multiLoad, true, false, 0⟩
def mkStore2 : MemKind := ⟨aStore, .multiStore, false, true, 1⟩
def mkOctLoad : MemKind := ⟨aLoad, .octetLoad, true, false, 0⟩
def mkOctStore : MemKind := ⟨aStore, .octetStore, false, true, 1⟩
def mkAtomic : MemKind := ⟨aAtomic, .atomic, true, true, 1⟩
def mkLL : MemKind := ⟨aLoad, .atomic, true, false, 0⟩
def mkSC : MemKind := ⟨aStore, .atomic, false, true, 1⟩

def corePc (s : State) (c : Nat) : Word := (s.core c).pc

/-! ### Translation of all words -/

/-- One update of a leaf that several words share. -/
def mergeUpds (l m : List LeafUpd) : List LeafUpd := l ++ m.filter (fun u => !l.any (fun x => x.pa == u.pa && x.new == u.new))

structure Xl where
  spots : List Spot
  upds : List LeafUpd
  faults : List Exc
  waits : Bool
  st : State

def xlStep (c : Nat) (a : Access) (x : Xl) (va : Word) : Xl :=
  if x.waits then x
  else match translate c a va x.st with
    | .ok pa u upd s => { x with spots := x.spots ++ [⟨va, pa, u⟩], upds := mergeUpds x.upds upd.toList, st := s }
    | .fault e s => { x with faults := x.faults ++ [e], st := s }
    | .wait s => { x with waits := true, st := s }

/-- The words in rising order: a pair may wrap at 2^40, and its word 0 is then the lowest-addressed and the access's first word (R77, R254;
DESIGN CHOICE, log row 98). -/
def rising (vas : List Word) : List Word := if vas = [-1, 0] then [0, -1] else vas

def xlateAll (c : Nat) (a : Access) (vas : List Word) (s : State) : Xl := (rising vas).foldl (xlStep c a) ⟨[], [], [], false, s⟩

/-- Place of a cause in the order of R113: translation faults, excursions, (watch), bus errors, poison. -/
def excRank (e : Exc) : Nat := if e.code = 0x0D then 1 else if e.code = 0x0A then 3 else if e.code = 0x0B then 4 else 0

/-- The first fault of a rank. -/
def faultOf (l : List Exc) (r : Nat) : Option Exc := l.find? (fun e => excRank e == r)

/-! ### Watchpoints (R679) -/

def watchMatch (s : State) (c : Nat) (k : MemKind) (va : Word) : Bool :=
  let w := s.reg (Reg.CS_WATCH_CTL c)
  bget w 0 && bget w (8 + s.pl c) && ((k.rd && bget w 1) || (k.wr && bget w 2)) &&
  va.toNat / 2 ^ fget w 7 4 == (s.reg (Reg.CS_WATCH_ADDR c)).toNat / 2 ^ fget w 7 4

def watchExc (pc va : Word) : Exc := ⟨0x12, 1, true, pc, 0, va, none⟩

/-! ### The checks before an access -/

def ownClose (s : State) (c pa : Nat) : Bool := decide (regionAt s pa = some (.close c))

/-- The spot that leaves the responding part of the first word (R77). -/
def spansAt (s : State) (spots : List Spot) : Option Spot :=
  match spots with
  | [] => none
  | [_] => none
  | p :: t => if (regionAt s p.pa).isNone then some p else t.find? (fun q => decide (regionAt s q.pa ≠ regionAt s p.pa))

/-- Everything R113 puts before the access itself, from item 6 on; then the spots in the order asked and the leaves to update. A non-strict excursion
is counted. An access that spans regions is logged as R83 states, whose row R164's "none writes a record" contradicts (R29; log row 99). -/
def memCheck (c : Nat) (k : MemKind) (vas : List Word) (s : State) : MRes (List Spot × List LeafUpd) :=
  let x := xlateAll c k.acc vas s
  let pc := corePc s c
  if x.waits then .wait x.st
  else match faultOf x.faults 0 with
    | some e => .exc e x.st
    | none =>
      match faultOf x.faults 1 with
      | some e => .exc e x.st
      | none =>
        let out := if isPaced s c then x.spots.find? (fun p => !ownClose x.st c p.pa) else none
        match (if strictNow s c then out else none) with
        | some p => .exc (excursionExc pc p.va) (countExcursion c k.exKind p.va x.st)
        | none =>
          match (rising vas).find? (watchMatch s c k) with
          | some va => if s.bit (Reg.CS_WATCH_CTL c) 3 then .halt 3 x.st else .exc (watchExc pc va) x.st
          | none =>
            match x.faults with
            | e :: t => .exc ((faultOf (e :: t) 3).getD e) x.st
            | [] =>
              match spansAt x.st x.spots with
              | some p => .exc (statusExc pc .decode p.va) (logErr (.core c) 0x08 0 (nw p.pa) (nw c) x.st)
              | none =>
                let s := match out with | some p => countExcursion c k.exKind p.va x.st | none => x.st
                .ok (vas.filterMap (fun va => x.spots.find? (fun p => p.va == va)), x.upds) s

/-! ### Accesses outside the core (R74, R188, R341) -/

def initOf (s : State) (c : Nat) : Initiator := ⟨BitVec.toFin (BitVec.ofNat 5 c), BitVec.toFin (BitVec.ofNat 2 (s.pl c)), BitVec.toFin (BitVec.ofNat 4 (s.fld (Reg.CS_PART c) 3 0))⟩

/-- Accesses to `pa` go over the fabric and not through the homes: another core's close memory, the keep store, registers, peer windows. -/
def leavesCore (s : State) (c pa : Nat) : Bool :=
  match regionAt s pa with
  | none => false
  | some (.close n) => n != c
  | some r => !r.cacheable

/-- The accessed and dirty bits of the instruction stand as its accesses need them. -/
def armed (s : State) (c : Nat) : Bool := (s.core c).io.any (fun w => decide (w.use = .leaf))

/-- The bits have been set by `n` compare-and-swaps. -/
def arm (c n : Nat) (s : State) : State := if armed s c then s else ioPut c ⟨.leaf, n, some (.ok, [])⟩ s

/-- Before an access outside the core that its target may not undo, the leaves of the instruction are updated (R247). -/
def leafFirst {α : Type} (c : Nat) (out : Bool) (u : List LeafUpd) (s : State) (go : State → MRes α) : MRes α :=
  if out && (!armed s c || !u.isEmpty) then .leaf u s else go s

/-- A request for `pa` cannot leave the interface now (R351, R356); a load or atomic waits too for the core's earlier stores to its page (R107). -/
def ioMustWait (s : State) (c pa : Nat) (load : Bool) : Bool :=
  (load && ((s.core c).outStores.any (fun e => e.1 / 0x1000 == pa / 0x1000) || (openStores s c).any (fun e => e.pa / 0x1000 == pa / 0x1000))) ||
  (freeTag? s c).isNone || (match destOf s pa with | some d => mustHold s c d | none => false)

/-- A request leaves as one packet: its completion, if it is there by the end of the command. -/
def ioSend (c code pa len : Nat) (atop : AtOp) (mask : Option Nat) (data : Line) (s : State) : Option (FStatus × Line) × State :=
  let t := (freeTag? s c).getD 0
  let s := ioRequest busSrv (mkReq (initOf s c) code pa (if code = 2 then 2 else len) atop mask.isSome (mask.getD 0) data) len s
  if (tagOf s c t).st = .busy then
    let s := takeResponse busSrv c t (if code = 0 then 0 else 1) s
    if (tagOf s c t).st = .busy then (none, s) else (some (s.resp.status, s.resp.data), s)
  else (some (s.resp.status, s.resp.data), s)

/-- A leader's load that waits for its own held stores waits for the trailer (R225). -/
def waitPair (c : Nat) (s : State) : State :=
  if isLeader s c then s.setPair (c / 2) { s.pair (c / 2) with blocked := true, waited := true } else s

/-- An access on the fabric, made once in its instruction: its answer when that is there. -/
def ioAccess (c : Nat) (u : IoUse) (code pa len : Nat) (atop : AtOp) (mask : Option Nat) (data : Line) (s : State) : MRes (FStatus × Line) :=
  match ioFind s c u pa with
  | some w => (match w.res with | some r => .ok r s | none => .wait s)
  | none =>
    if ioMustWait s c pa (u != .store) then .wait (if (openStores s c).isEmpty then s else waitPair c s)
    else
      let q := ioSend c code pa len atop mask data s
      let s := ioPut c ⟨u, pa, q.1⟩ q.2
      match q.1 with
      | some r => .ok r s
      | none => .wait s

/-- What the response to core c about address `pa` belongs to: the oldest store outstanding there, or the access that waits. Errors of retired stores
stand in program order (R115). -/
def coreResponse (c pa code : Nat) (st : FStatus) (d : Line) (s : State) : State :=
  let k := s.core c
  match (if code = 1 then k.outStores.find? (fun e => e.1 == pa) else none) with
  | some e =>
    let before := k.storeErrs.takeWhile (fun x => decide (x.seq < e.2.1))
    s.setCore c { k with outStores := k.outStores.erase e,
                         storeErrs := if st = .ok then k.storeErrs else before ++ [⟨e.2.1, e.2.2, st⟩] ++ k.storeErrs.drop before.length }
  | none => fillIo c (fun w => w.pa == pa) st d s

/-! ### L1 data (R265, R266), and the prefetcher (R267) -/

/-- An access to a cacheable line that the core's L2 holds: a miss of L1 data is counted, and the line is in L1 data. -/
def l1dUse (c l : Nat) (s : State) : State :=
  if holdsLine s c l then
    let s := if (s.core c).l1d.contains l then s else pmcEvent c 0x08 1 s
    s.updCore c (fun k => { k with l1d := l1Touch 4 128 l k.l1d })
  else pmcEvent c 0x08 1 s

def l2Count (c l : Nat) (s : State) : State := if holdsLine s c l then s else pmcEvent c 0x09 1 s

/-- The streams of a prefetcher after an access to line l, and the line to ask for next: a stream whose stride it continues asks for the line one
stride on, within the page; else the stream last in its page takes the new stride; else a new stream begins, the oldest of 16 leaving. -/
def trainStreams (l : Nat) (ss : List Stream) : List Stream × Option Nat :=
  if ss.any (fun x => x.last == l) then (ss, none)
  else match ss.find? (fun x => x.stride != 0 && (x.last : Int) + x.stride == l) with
    | some x =>
      let n := (l : Int) + x.stride
      (⟨l, x.stride⟩ :: ss.erase x, if 0 ≤ n && n / 256 == (l / 256 : Nat) then some n.toNat else none)
    | none =>
      match ss.find? (fun x => x.last / 256 == l / 256) with
      | some x => (⟨l, (l : Int) - x.last⟩ :: ss.erase x, none)
      | none => ((⟨l, 0⟩ :: ss).take 16, none)

/-- The prefetcher may ask for lines (R267, R657). -/
def prefetches (s : State) (c : Nat) : Bool :=
  !s.bit (Reg.CS_BR_CTL c) 1 && !isPaced s c && !(s.core c).pacing && s.fld Reg.PWR_STATUS 2 0 == 0 && decide (domState s c = 0)

/-- A retiring load or fetch trains the prefetcher (R189, R267). DESIGN CHOICE (log row 100): how it detects a sequence. -/
def train (c l : Nat) (s : State) : State :=
  if prefetches s c then
    s.updCore c (fun k => { k with streams := (trainStreams l k.streams).1, pfq := k.pfq ++ (trainStreams l k.streams).2.toList })
  else s

/-- The prefetcher asks for the lines it has found: RD_S requests for lines of boot ROM, stage memory and DRAM that the core lacks. -/
def prefetch (c : Nat) (s : State) : State :=
  match (s.core c).pfq with
  | [] => s
  | q =>
    let s := s.updCore c (fun k => { k with pfq := [] })
    if prefetches s c then
      q.foldl (fun s l =>
        let m := blankMsg 0 rdS c (homeOf s l) l
        if holdsLine s c l || hasOut s c l || (lineRefused s m).isSome || (freeTag? s c).isNone then s else pmcEvent c 0x16 1 (issueReq m s)) s
    else s

/-! ### Loads -/

/-- The core's access goes to the homes without its caches (R215, R287). -/
def goesUncached (s : State) (c : Nat) (p : Spot) : Bool := p.uncached || isPaced s c

def refuse (c : Nat) (k : MemKind) (r : Region) (pa : Nat) (s : State) : State := logProt (blkOfRegion s pa ((destOf s pa).getD 20) r) c k.kind.code pa s

/-- A word of boot ROM, stage memory or DRAM. -/
def cacheWord (c : Nat) (p : Spot) (s : State) : MRes (FStatus × MWord) :=
  let l := p.pa / 16
  let got := fun (x : WRes) (f : State → State) =>
    match x with
    | .wait s => MRes.wait s
    | .got st w s => .ok (st, w) (f s)
  if storeServes s c p.pa then .ok (.ok, MWord.zero) s
  else if mustWait s c l && (ioFind s c .load p.pa).isNone && (goesUncached s c p || !holdsLine s c l || hasOut s c l) then .wait s
  else if goesUncached s c p then got (coherentWord c p.pa .load true s) id
  else match useCloak c p.pa s with
    | .wait s => .wait s
    | .bad st s => .ok (st, MWord.zero) s
    | .go s => got (coherentWord c p.pa .load false (l2Count c l s)) (fun s => train c l (l1dUse c l s))

def cacheWords (c : Nat) : List Spot → State → MRes (List (FStatus × MWord))
  | [], s => .ok [] s
  | p :: t, s => (cacheWord c p s).bind (fun q s => (cacheWords c t s).bind (fun qs s => .ok (q :: qs) s))

/-- The words of an answer to a read of `n` words. -/
def ioWordsOf (n : Nat) (r : FStatus × Line) : List (FStatus × MWord) := (List.range n).map (fun i => (r.1, r.2.getD i MWord.zero))

/-- Words that lie outside the core: one packet where they are consecutive (R341), else one each. -/
def ioLoads (c : Nat) (u : IoUse) (mask : Option Nat) (spots : List Spot) (s : State) : MRes (List (FStatus × MWord)) :=
  let one := fun (p : Spot) (n : Nat) (s : State) => (ioAccess c u 0 p.pa n .cas mask [] s).bind (fun r s => MRes.ok (ioWordsOf n r) s)
  match spots with
  | [p] => one p 1 s
  | [p, q] => if q.pa = p.pa + 1 then one p 2 s else (one p 1 s).bind (fun x s => (one q 1 s).bind (fun y s => .ok (x ++ y) s))
  | _ => .ok [] s

/-- The words at the spots of an access, which lie in one part of one region (R77): each with its status. -/
def readSpots (c : Nat) (k : MemKind) (spots : List Spot) (s : State) : MRes (List (FStatus × MWord)) :=
  let a := (spots.map (·.pa)).headD 0
  let all := fun (st : FStatus) => spots.map (fun _ => (st, MWord.zero))
  match regionAt s a with
  | none => .ok (all .decode) (logDecode c a s)
  | some (.close n) =>
    if n = c then .ok (spots.map (fun p => (.ok, memRead s.close (c * 0x4000 + p.pa % 0x4000)))) s
    else if spots.all (fun p => storeServes s c p.pa) then .ok (all .ok) s
    else ioLoads c .load none spots s
  | some r =>
    if r.cacheable then (if accepts r k.kind then cacheWords c spots s else .ok (all .prot) (refuse c k r a s))
    else if !accepts r k.kind && (k.kind = .atomic || (k.kind = .multiLoad)) then .ok (all .prot) (refuse c k r a s)
    else if r ≠ .regs && spots.all (fun p => storeServes s c p.pa) then .ok (all .ok) s
    else ioLoads c .load (if k.kind = .octetLoad then some 31 else none) spots s

/-- Loads of the words at the spots: a status other than OK, then a poisoned word, is a precise cause (R96, R113, R301). The core's own open stores
are seen (R107, R181, R222). -/
def loadSpots (c : Nat) (k : MemKind) (spots : List Spot) (s : State) : MRes (List Word) :=
  (readSpots c k spots s).bind (fun qs s =>
    let x := spots.zip qs
    match x.find? (fun e => e.2.1 != .ok && e.2.1 != .poison) with
    | some e => .exc (statusExc (corePc s c) e.2.1 e.1.va) s
    | none =>
      let ws := x.map (fun e => (e.1.va, storesOver s c e.1.pa e.2.2))
      match ws.find? (fun e => decide (e.2.mark = .poison)) with
      | some e => .exc (statusExc (corePc s c) .poison e.1) s
      | none => .ok (ws.map (fun e => e.2.v)) s)

def loadSpot (c : Nat) (k : MemKind) (p : Spot) (s : State) : MRes Word := (loadSpots c k [p] s).bind (fun ws s => .ok (ws.headD 0) s)

/-- A value from outside the core, as a pair's delay entry records it (R219). -/
def noteOutside (c : Nat) (ws : List Word) (s : State) : State :=
  if isLeader s c then s.setPair (c / 2) { s.pair (c / 2) with outside := (s.pair (c / 2)).outside ++ ws } else s

/-! ### Stores -/

/-- A line the core owns takes a word. -/
def putWord (c pa mask : Nat) (v : Word) (s : State) : State :=
  let l := pa / 16
  match SMap.find l (s.agent c).lines with
  | none => s
  | some x => clearResv c l (putLine c l ⟨.m, x.data.set (pa % 16) (mergeMWord mask (x.data.getD (pa % 16) MWord.zero) ⟨v, .good⟩)⟩ s)

/-- Words of the core's own close memory. -/
def putClose (c pa mask : Nat) (vs : List Word) (s : State) : State :=
  (vs.zipIdx pa).foldl (fun s e =>
    let i := c * 0x4000 + e.2 % 0x4000
    clearResv c (e.2 / 16) { s with close := memWrite i (mergeMWord mask (memRead s.close i) ⟨e.1, .good⟩) s.close }) s

/-- The kind of R72 that a store of these octets of so many words is. -/
def storeKind (mask n : Nat) : Kind := if mask ≠ 31 then .octetStore else if n ≤ 1 then .store else .multiStore

/-- The outcome of a store at its target: the rest of it that is still to be performed, and its status when the completion is there, else the store is
outstanding. -/
structure Stored where
  st : Option FStatus
  rest : Option StqEnt

/-- A store is performed at its target as far as one access takes it: a whole access outside the core is one packet, one of a cacheable region takes a
word. -/
def writeEnt (c : Nat) (k : Kind) (e : StqEnt) (s : State) : MRes Stored :=
  let l := e.pa / 16
  let v := e.vals.headD 0
  let io := fun (s : State) =>
    if ioMustWait s c e.pa false then MRes.wait s
    else
      let q := ioSend c 1 e.pa e.vals.length .cas (if e.mask = 31 then none else some e.mask) (e.vals.map (fun v => ⟨v, .good⟩)) s
      .ok ⟨q.1.map (·.1), none⟩ q.2
  match regionAt s e.pa with
  | none => .ok ⟨some .decode, none⟩ (logDecode c e.pa s)
  | some (.close n) => if n = c then .ok ⟨some .ok, none⟩ (putClose c e.pa e.mask e.vals s) else io s
  | some r =>
    if !accepts r k && (r.cacheable || k = .atomic || k = .multiStore) then .ok ⟨some .prot, none⟩ (logProt (blkOfRegion s e.pa ((destOf s e.pa).getD 20) r) c k.code e.pa s)
    else if !r.cacheable then io s
    else if e.uncached || isPaced s c then
      if mustWait s c l then .wait s
      else
        let q := uncachedWrite c l (e.mask * 2 ^ (5 * (e.pa % 16))) (List.replicate (e.pa % 16) MWord.zero ++ [⟨v, .good⟩]) s
        if hasOut q.2 c l then .ok ⟨none, e.next⟩ q.2 else .ok ⟨some q.1, e.next⟩ q.2
    else if mustWait s c l && !(ownsLine s c l && !hasOut s c l) then .wait s
    else
      let q := acquireOwned c l (l2Count c l s)
      if hasOut q.2 c l then .wait q.2
      else .ok ⟨some q.1, e.next⟩ (if q.1 = .ok then putWord c e.pa e.mask v (l1dUse c l q.2) else l1dUse c l q.2)

/-- A retired store's error waits to be reported, in its place of the program order (R115). -/
def storeErr (c seq : Nat) (va : Word) (st : FStatus) (s : State) : State :=
  s.updCore c (fun k =>
    let before := k.storeErrs.takeWhile (fun x => decide (x.seq < seq))
    { k with storeErrs := before ++ [⟨seq, va, st⟩] ++ k.storeErrs.drop before.length })

/-- One access of a retired store; an error status is reported later (R115), and a store without its completion is outstanding. -/
def performEnt (c : Nat) (e : StqEnt) (s : State) : MRes (Option StqEnt) :=
  (writeEnt c (storeKind e.mask e.vals.length) e s).bind (fun x s =>
    match x.st with
    | some st => .ok x.rest (if st = .ok then s else storeErr c e.seq e.va st s)
    | none => .ok x.rest (s.updCore c (fun k => { k with outStores := k.outStores ++ [(e.pa, e.seq, e.va)] })))

/-- Retired stores leave the store queue in program order, as far as they can now (R168). -/
def drainStq (c : Nat) : Nat → State → State
  | 0, s => s
  | n + 1, s =>
    match (s.core c).stq with
    | [] => s
    | e :: t =>
      match performEnt c e s with
      | .ok rest s => drainStq c n (s.updCore c (fun k => { k with stq := rest.toList ++ t }))
      | .wait s => s
      | _ => s

/-- A store of a paced core outside its close memory, and an SC, is precise: the instruction completes with its answer (R111, R215). -/
def preciseEnt (c : Nat) (k : Kind) (e : StqEnt) (s : State) : MRes (Option StqEnt) :=
  let fin := fun (st : FStatus) (rest : Option StqEnt) (s : State) => if st = .ok then MRes.ok rest s else .exc (statusExc (corePc s c) st e.va) s
  let rest := if leavesCore s c e.pa then none else e.next
  match ioFind s c .store e.pa with
  | some w => (match w.res with | some r => fin r.1 rest s | none => .wait s)
  | none =>
    (writeEnt c k e s).bind (fun x s =>
      let s := ioPut c ⟨.store, e.pa, x.st.map (fun st => (st, []))⟩ s
      match x.st with
      | some st => fin st x.rest s
      | none => .wait s)

/-- The parts of a precise store one after the other; where a later one fails at once, none is performed (R95). -/
def preciseAll (c : Nat) (k : Kind) (e : StqEnt) (s : State) : MRes Unit :=
  let second := fun (s : State) =>
    match (if regionAt s e.pa = some (.close c) || leavesCore s c e.pa then none else e.next) with
    | none => MRes.ok () s
    | some f => (preciseEnt c k f s).bind (fun _ s => .ok () s)
  match (if (ioFind s c .store e.pa).isNone then second s else .ok () s) with
  | .exc x s => .exc x s
  | .wait _ => .wait s
  | _ => (preciseEnt c k e s).bind (fun _ s => second s)

def pairBlocked (c : Nat) (s : State) : State := s.setPair (c / 2) { s.pair (c / 2) with blocked := true, waited := true }

/-- The stores of an access: one of consecutive words, or one for each of two words that translation parts. -/
def storeEnts (mask : Nat) (ps : List (Spot × Word)) (seq : Nat) : List StqEnt :=
  match ps with
  | [(p, v)] => [⟨seq, p.va, p.pa, mask, [v], p.uncached⟩]
  | [(p, v), (q, w)] =>
    if q.pa = p.pa + 1 && p.uncached == q.uncached then [⟨seq, p.va, p.pa, mask, [v, w], p.uncached⟩]
    else [⟨seq, p.va, p.pa, mask, [v], p.uncached⟩, ⟨seq + 1, q.va, q.pa, mask, [w], q.uncached⟩]
  | _ => []

/-- A store of the instruction: a leader's enters the hold buffer of 64 (R219, R222; log row 101); a paced core's outside its close memory is
precise (R215); any other enters the store queue of 32, to be performed once it has retired (R168, R169). DESIGN CHOICE (log row 109): a paced
leader's store outside its close memory is held as R222 has it, and is not precise. -/
def storeSpots (c mask : Nat) (ps : List (Spot × Word)) (s : State) : MRes Unit :=
  let k := s.core c
  let es := storeEnts mask ps k.stSeq
  let q := s.pair (c / 2)
  let s' := s.updCore c (fun k => { k with stSeq := k.stSeq + es.length })
  if isLeader s c then
    if 64 < q.hold.length + es.length then .wait (pairBlocked c s)
    else .ok () (s'.setPair (c / 2) { q with hold := q.hold ++ es.map (fun e => ⟨q.leadGroups, e⟩) })
  else if isPaced s c then
    (es.foldl (fun (x : MRes Unit) e => x.bind (fun _ s => preciseAll c (storeKind mask e.vals.length) e s)) (.ok () s))
  else if 32 < k.stq.length + es.length then .wait (pmcEvent c 0x14 1 s)
  else .ok () (s'.updCore c (fun k => { k with stq := k.stq ++ es }))

/-- Every earlier store of the core has its completion response (R108, R109): none is open or outstanding, and a leader's groups have left the pair. -/
def storesDone (s : State) (c : Nat) : Bool :=
  (s.core c).stq.isEmpty && (s.core c).outStores.isEmpty && (!isLeader s c || ((s.pair (c / 2)).hold.isEmpty && (s.pair (c / 2)).entries.isEmpty))

/-- The leader's earlier groups are compared (R222). -/
def groupsDone (s : State) (c : Nat) : Bool := !isLeader s c || ((s.pair (c / 2)).hold.isEmpty && (s.pair (c / 2)).entries.isEmpty)

/-- An instruction that waits for its stores; a leader's then waits for the trailer. -/
def waitStores (c : Nat) (s : State) : State := if isLeader s c then pairBlocked c s else s

/-! ### Atomics, LL and SC (R110, R111) -/

def needOk (c : Nat) (va : Word) (q : FStatus × MWord) (s : State) : MRes Word :=
  if q.1 ≠ .ok && q.1 ≠ .poison then .exc (statusExc (corePc s c) q.1 va) s
  else if q.1 = .poison || q.2.mark = .poison then .exc (statusExc (corePc s c) .poison va) s
  else .ok q.2.v s

/-- CAS, FADD or SWAP on the word at a spot: its status and the old word. -/
def atomRaw (c : Nat) (p : Spot) (op : AtOp) (operand cmp : Word) (s : State) : MRes (FStatus × MWord) :=
  let new := fun (w : MWord) => atomResult op w.v operand cmp
  let l := p.pa / 16
  let good := fun (q : FStatus × MWord) => (q.1 = .ok || q.1 = .poison) && q.2.mark ≠ .poison
  let io := fun (s : State) => (ioAccess c .atomic 2 p.pa 1 op none [⟨operand, .good⟩, ⟨cmp, .good⟩] s).bind (fun r s => MRes.ok (r.1, r.2.getD 0 MWord.zero) s)
  match regionAt s p.pa with
  | none => .ok (.decode, MWord.zero) (logDecode c p.pa s)
  | some (.close n) =>
    if n = c then
      let i := c * 0x4000 + p.pa % 0x4000
      let w := memRead s.close i
      .ok (.ok, w) (if w.mark = .poison then s else clearResv c l { s with close := memWrite i ⟨new w, .good⟩ s.close })
    else io s
  | some r =>
    if !accepts r .atomic then (if r.cacheable then .ok (.prot, MWord.zero) (refuse c mkAtomic r p.pa s) else io s)
    else match ioFind s c .atomic p.pa with
    | some ⟨_, _, some q⟩ => .ok (q.1, q.2.getD 0 MWord.zero) s
    | _ =>
      if mustWait s c l then .wait s
      else if goesUncached s c p then
        let q := uncachedAtom c l (p.pa % 16) op operand cmp s
        if hasOut q.2.2 c l then .wait (ioPut c ⟨.atomic, p.pa, none⟩ q.2.2) else .ok (q.1, q.2.1.getD 0 MWord.zero) q.2.2
      else
        let q := acquireOwned c l (l2Count c l s)
        if hasOut q.2 c l then .wait (ioPut c ⟨.atomic, p.pa, none⟩ q.2)
        else
          let w := ((SMap.find l (q.2.agent c).lines).elim [] (·.data)).getD (p.pa % 16) MWord.zero
          .ok (q.1, w) (if good (q.1, w) then putWord c p.pa 31 (new w) (l1dUse c l q.2) else q.2)

/-- The old word, or the precise cause of the failure. -/
def atomSpot (c : Nat) (p : Spot) (op : AtOp) (operand cmp : Word) (s : State) : MRes Word :=
  (atomRaw c p op operand cmp s).bind (fun q s => needOk c p.va q s)

def setResv (c : Nat) (l : Option Nat) (s : State) : State := s.updCore c (fun k => { k with resv := l })

/-- SC: the word is written only under a reservation of its line, which ends; the value for rd. A write that has been made is not judged again. -/
def condStore (c : Nat) (p : Spot) (v : Word) (s : State) : MRes Word :=
  if (s.core c).resv ≠ some (p.pa / 16) && (ioFind s c .store p.pa).isNone then .ok 1 (setResv c none s)
  else (preciseEnt c .atomic ⟨0, p.va, p.pa, 31, [v], p.uncached⟩ s).bind (fun _ s => MRes.ok 0 (setResv c none s))

/-! ### Accessed and dirty bits (R247) -/

/-- The translations of a leaf that has been updated. -/
def relabel (u : LeafUpd) (t : TlbEnt) : TlbEnt :=
  if t.s1on && t.leafPa = u.pa && t.leaf = u.old then { t with leaf := u.new, a := bget u.new 7, d := bget u.new 8 } else t

def leafDone (c : Nat) (u : LeafUpd) (s : State) : State :=
  s.updCore c (fun k => { k with itlb := k.itlb.map (relabel u), dtlb := k.dtlb.map (relabel u), l2tlb := k.l2tlb.map (relabel u) })

/-- The translations of a leaf, and table words read for them, are discarded. -/
def leafDrop (c : Nat) (u : LeafUpd) (s : State) : State :=
  (tlbDrop c (fun t => t.s1on && t.leafPa == u.pa) s).updCore c (fun k => { k with io := k.io.filter (fun w => decide (w.use ≠ .table)) })

/-- A compare-and-swap on a leaf: whether it was made. An error status is an asynchronous BUS_ERROR, the instruction does not retire and no entry is
kept (R264; log row 102). -/
def leafCas (c : Nat) (u : LeafUpd) (s : State) : MRes Bool :=
  (atomRaw c ⟨u.va, u.pa, false⟩ .cas u.new u.old s).bind (fun q s =>
    if q.1 ≠ .ok || q.2.mark = .poison then
      .wait (leafDrop c u (storeErr c (s.core c).stSeq u.va (if q.1 = .ok then .poison else q.1) (s.updCore c (fun k => { k with stSeq := k.stSeq + 1 }))))
    else if q.2.v = u.old then .ok true (leafDone c u s)
    else .ok false (leafDrop c u s))

/-- Compare-and-swaps one after the other, up to the first that does not find the word walked. -/
def leafCasAll (c : Nat) : List LeafUpd → State → MRes Bool
  | [], s => .ok true s
  | u :: t, s => (leafCas c u s).bind (fun b s => if b then leafCasAll c t s else .ok false s)

/-- A leaf still reads as it was walked; a word that cannot be read is left to the compare-and-swap to report. -/
def leafHolds (c : Nat) (u : LeafUpd) (s : State) : MRes Bool :=
  let l := u.pa / 16
  let same := fun (st : FStatus) (w : MWord) => decide (st ≠ .ok) || decide (w.v = u.old)
  match regionAt s u.pa with
  | some (.close _) => .ok (same .ok (memRead s.close (c * 0x4000 + u.pa % 0x4000))) s
  | _ =>
    if mustWait s c l then .wait s
    else if isPaced s c then
      match coherentWord c u.pa .table true s with
      | .wait s => .wait s
      | .got st w s => .ok (same st w) s
    else
      let q := acquireOwned c l s
      if hasOut q.2 c l then .wait q.2
      else .ok (same q.1 (((SMap.find l (q.2.agent c).lines).elim [] (·.data)).getD (u.pa % 16) MWord.zero)) q.2

def leavesHold (c : Nat) : List LeafUpd → State → MRes Bool
  | [], s => .ok true s
  | u :: t, s => (leafHolds c u s).bind (fun b s => if b then leavesHold c t s else .ok false (leafDrop c u s))

/-- The leaves of one instruction are set all or none (R248): the swaps are made once every word is found as it was walked. -/
def leafSet (c : Nat) (l : List LeafUpd) (s : State) : MRes Bool :=
  match l with
  | _ :: _ :: _ => (leavesHold c l s).bind (fun b s => if b then leafCasAll c l s else .ok false s)
  | l => leafCasAll c l s

/-! ### Cache operations (R288) -/

/-- The executing core applies the operation to its own copy: a dirty one goes home for DC.CLEAN, and leaves the core for DC.CLINV; DC.INV discards
it. -/
def ownCopy (c code l : Nat) (s : State) : State :=
  match SMap.find l (s.agent c).lines with
  | none => s
  | some x =>
    if code = cmoInv then settleNet netFuel (evictLine c l (putLine c l ⟨if x.st = .m ∨ x.st = .e then .e else .s, x.data⟩ s))
    else if code = cmoClinv || x.st = .m || x.st = .o then settleNet netFuel (evictLine c l s)
    else s

/-- DC.CLEAN, DC.CLINV or DC.INV on the line of a word, once its earlier stores are performed; a failure is reported as a store's (R115). -/
def cacheOp (c code : Nat) (p : Spot) (s : State) : MRes Unit :=
  let l := p.pa / 16
  match regionAt s p.pa with
  | some r =>
    if r.cacheable then
      match ioFind s c .store p.pa with
      | some ⟨_, _, some q⟩ =>
        .ok () (if q.1 = .ok then s else storeErr c (s.core c).stSeq p.va q.1 (s.updCore c (fun k => { k with stSeq := k.stSeq + 1 })))
      | some _ => .wait s
      | none =>
        if !(openStores s c).isEmpty then .wait (waitStores c s)
        else if mustWait s c l then .wait s
        else
          let s := ownCopy c code l s
          if hasOut s c l then .wait s
          else
            let s := wholeReq (blankMsg 0 code c (homeOf s l) l) (endHolds s)
            if hasOut s c l then .wait (ioPut c ⟨.store, p.pa, none⟩ s)
            else .ok () (if s.resp.status = .ok then s else storeErr c (s.core c).stSeq p.va s.resp.status (s.updCore c (fun k => { k with stSeq := k.stSeq + 1 })))
    else .ok () s
  | none => .ok () s

def l1iDrop (c l : Nat) (s : State) : State :=
  s.updCore c (fun k => { k with l1i := SMap.erase l k.l1i, l1iUse := k.l1iUse.filter (fun x => x != l) })

/-! ### Instruction fetch (R157, R187, R214) -/

/-- The word of an instruction at a spot: from L1 instruction, L2, a promoted cloakroom line, or a coherent read (R187); its bits do not matter here,
since the command brings the instruction (log row 9). -/
def fetchSpot (c : Nat) (p : Spot) (s : State) : MRes Unit :=
  let l := p.pa / 16
  let fin := fun (st : FStatus) (w : MWord) (s : State) =>
    if st ≠ .ok && st ≠ .poison then MRes.exc (statusExc (corePc s c) st p.va) s
    else if w.mark = .poison then .exc (statusExc (corePc s c) .poison p.va) s else .ok () s
  match regionAt s p.pa with
  | none => fin .decode MWord.zero (logDecode c p.pa s)
  | some (.close n) =>
    if n = c then fin .ok (memRead s.close (c * 0x4000 + p.pa % 0x4000)) s
    else (ioAccess c .fetch 0 p.pa 1 .cas none [] s).bind (fun r s => fin r.1 (r.2.getD 0 MWord.zero) s)
  | some r =>
    if !accepts r .fetch then fin .prot MWord.zero (logProt (blkOfRegion s p.pa ((destOf s p.pa).getD 20) r) c 0 p.pa s)
    else if goesUncached s c p then
      if mustWait s c l && (ioFind s c .fetch p.pa).isNone then .wait s
      else match coherentWord c p.pa .fetch true s with
        | .wait s => .wait s
        | .got st w s => fin st w s
    else
      let s := if struck s (.l1iWord c l) && (SMap.find l (s.core c).l1i).isSome then l1iDrop c l (heal (.l1iWord c l) s) else s
      match SMap.find l (s.core c).l1i with
      | some d => fin .ok (d.getD (p.pa % 16) MWord.zero) (train c l (s.updCore c (fun k => { k with l1iUse := l1Touch 4 128 l k.l1iUse })))
      | none =>
        if mustWait s c l && (ioFind s c .fetch p.pa).isNone && (!holdsLine s c l || hasOut s c l) then .wait s
        else match useCloak c p.pa (pmcEvent c 0x07 1 s) with
          | .wait s => .wait s
          | .bad st s => fin st MWord.zero s
          | .go s =>
            match coherentWord c p.pa .fetch false (l2Count c l s) with
            | .wait s => .wait s
            | .got st w s =>
              match SMap.find l (s.agent c).lines with
              | some x => fin st w (train c l (l1iFill c l x.data s))
              | none => fin st w s

/-- One word of a fetch: translation, the paced excursion, then the word (R113, R157, R216); the leaf to update. -/
def fetchWord (c : Nat) (va : Word) (s : State) : MRes (List LeafUpd) :=
  match translate c aFetch va s with
  | .wait s => .wait s
  | .fault e s => .exc e s
  | .ok pa u upd s =>
    let out := isPaced s c && !ownClose s c pa
    if out && strictNow s c then .exc (excursionExc (corePc s c) va) (countExcursion c 2 va s)
    else
      let s := if out then countExcursion c 2 va s else s
      leafFirst c (leavesCore s c pa) upd.toList s (fun s => (fetchSpot c ⟨va, pa, u⟩ s).bind (fun _ s => MRes.ok upd.toList s))

/-- The fetch past the last parcel address (R80). DESIGN CHOICE (log row 103): its EPC is the address that flow wraps to. -/
def pastEnd (pc : Word) : Exc := ⟨3, 1, true, pc, 8, 0x8000000000, none⟩

/-- An error of a fetched word itself, as against its translation: items 10 and 11 of R113. -/
def lateCause (e : Exc) : Bool := e.code == 0x0A || e.code == 0x0B

/-- The parcels of the instruction at the program address: one, or two where it is long. An error of the second parcel's word comes after UNDEF and
PRIV where the first parcel decides them (`early`; R113). -/
def fetchInsn (c : Nat) (long : Bool) (early : Option Exc) (s : State) : MRes (List LeafUpd) :=
  let pc := corePc s c
  if (s.core c).pastTop then .exc (pastEnd pc) s
  else (fetchWord c (pc >>> 1) s).bind (fun u s =>
    if !long || !bget pc 0 then .ok u s
    else if pc = -1 then .exc (pastEnd pc) s
    else match ((fetchWord c ((pc + 1) >>> 1) s).withLeaf u).bind (fun u2 s => MRes.ok (mergeUpds u u2) s) with
      | .exc e t => if lateCause e then (match early with | some x => .exc x s | none => .exc e t) else .exc e t
      | x => x)

end Sys2Proof.Machine
end

