-- ==== Sys2Proof/Machine/CoreRun.lean ====
section
/-!
DEFINITION. How a core runs an instruction: the order of causes (R113), retirement (R95, R194, R204), branch prediction state (R172-R178), the
retirement groups of a pair's leader (R219), and the lattice of a paced core (R208-R211).
-/
set_option linter.constructorNameAsVariable false

namespace Sys2Proof.Machine

/-- A branch as it retires: its kind, whether taken, and its target. -/
structure Br where
  cond : Bool
  /-- the static guess of R171 -/
  guess : Bool
  taken : Bool
  target : Word
  push : Bool
  ret : Bool
deriving DecidableEq, Repr

/-- What an instruction that completes leaves to its retirement: leaves to update, the next parcel address, the branch it was, whether it waits in
WAITEV, whether it halts the core (BREAK under R680), and whether its next address is no sequential one (ERET). -/
structure Ret where
  upds : List LeafUpd
  next : Word
  br : Option Br
  waits : Bool
  halts : Bool
  jump : Bool

/-- Sequential completion at an address. -/
def retTo (next : Word) : Ret := ⟨[], next, none, false, false, false⟩

/-- An instruction: its parcels, its cost on the grid (R208), its minimum level (R91), whether its operands are reserved (R125), its first parcel, and what
it does. -/
structure Insn where
  long : Bool
  cost : Nat
  minPl : Nat
  undef : Bool
  parcel : Nat
  body : Nat → State → MRes Ret
  /-- the first parcel alone decides UNDEF and PRIV -/
  early : Bool
  /-- the registers it writes, as R121 numbers them -/
  dests : List Nat
  /-- the event counter that it writes with a given value -/
  counter : Option Nat

def mkInsn (long : Bool) (cost minPl : Nat) (undef : Bool) (parcel : Nat) (body : Nat → State → MRes Ret) : Insn :=
  ⟨long, cost, minPl, undef, parcel, body, true, [], none⟩

def nextPc (s : State) (c : Nat) (long : Bool) : Word := corePc s c + (if long then 2 else 1)

/-- Sequential completion. -/
def seqRet (long : Bool) (c : Nat) (s : State) : MRes Ret := .ok (retTo (nextPc s c long)) s

/-- An instruction that only changes the core's own state. -/
def plainInsn (long : Bool) (cost : Nat) (f : Nat → State → State) : Insn :=
  mkInsn long cost 0 false 0 (fun c s => seqRet long c (f c s))

/-! ### Branch prediction (R172-R178) -/

def predOff (s : State) (c : Nat) : Bool := s.bit (Reg.CS_BR_CTL c) 0 || isPaced s c

/-- The context of R173: tag and key. -/
def btbCtx (s : State) (c : Nat) : Nat × Nat :=
  if s.pl c < 2 then (s.fld (Reg.CS_BTB_KEY c) 31 20, s.fld (Reg.CS_BTB_KEY c) 19 0) else (0, s.fld (Reg.CS_BR_CTL c) 23 4)

def btbSet (a : Word) (key : Nat) : Nat :=
  let x := (a.toNat % 2 ^ 20) ^^^ key
  (x % 256) ^^^ (x / 256 % 256) ^^^ (x / 2 ^ 16)

/-- The way of the set that holds the branch in the present context. -/
def btbFind (s : State) (c : Nat) (a : Word) : Option (Nat × BtbEnt) :=
  let x := btbCtx s c
  ((List.range 4).map (fun w => btbSet a x.2 * 4 + w)).findSome? (fun i =>
    match SMap.find i (s.core c).btb with
    | some e => if e.addr = a && e.tag = x.1 && e.part = s.fld (Reg.CS_PART c) 3 0 && e.pl = s.pl c then some (i, e) else none
    | none => none)

/-- Training by a taken branch (R174). -/
def btbTrain (c : Nat) (a target : Word) (s : State) : State :=
  match btbFind s c a with
  | some (i, e) => if e.target = target then s else s.updCore c (fun k => { k with btb := SMap.insert i { e with target := target } k.btb })
  | none =>
    let x := btbCtx s c
    let set := btbSet a x.2
    let e : BtbEnt := ⟨a, target, x.1, s.fld (Reg.CS_PART c) 3 0, s.pl c⟩
    s.updCore c (fun k =>
      let r := SMap.getD 0 set k.btbRR
      { k with btb := SMap.insert (set * 4 + r) e k.btb, btbRR := SMap.put 0 set ((r + 1) % 4) k.btbRR })

/-- The entry that serves a branch, and the top of the return stack at a pop, found wrong (R203). -/
def predParity (c : Nat) (a : Word) (ret : Bool) (s : State) : State :=
  let s := match btbFind s c a with
    | some (i, _) => if struck s (.btb c a) then pmcEvent c 0x19 1 (heal (.btb c a) (s.updCore c (fun k => { k with btb := SMap.erase i k.btb }))) else s
    | none => s
  if ret && struck s (.ras c) && !(s.core c).ras.isEmpty then pmcEvent c 0x19 1 (heal (.ras c) (s.updCore c (fun k => { k with ras := [] }))) else s

/-- A branch retires: its events, and the training of the buffer and the return stack (R176, R204). DESIGN CHOICE (log row 97): DIR_MISGUESS is counted
also while no guess is used, as R171 fixes what the guess would be. -/
def retireBranch (c : Nat) (a : Word) (b : Br) (s : State) : State :=
  let off := predOff s c
  let s := if off then s else predParity c a b.ret s
  let top := if off then none else (s.core c).ras.head?
  let hit := !off && (btbFind s c a).isSome
  let ev := fun (k : Nat) (on : Bool) (s : State) => if on then pmcEvent c k 1 s else s
  let s := ev 0x05 (b.ret && top.isSome && top != some b.target)
    (ev 0x04 (b.taken && !(b.ret && top.isSome) && !hit) (ev 0x03 (b.cond && b.taken != b.guess) (pmcEvent c 0x02 1 s)))
  if off then s
  else
    let s := if b.taken then btbTrain c a b.target s else s
    if b.push then s.updCore c (fun k => { k with ras := ((a + 2) :: k.ras).take 16 })
    else if b.ret then s.updCore c (fun k => { k with ras := k.ras.drop 1 })
    else s

/-! ### The causes before an instruction's own (R113, R679) -/

def brkMatch (s : State) (c n : Nat) : Bool :=
  s.bit (Reg.CS_DBG_CTL c) n && s.bit (Reg.CS_DBG_CTL c) (4 + s.pl c) && decide (s.reg (Reg.CS_BREAK_ADDR c n) = corePc s c)

def breakExc (pc : Word) (detail : Nat) : Exc := ⟨0x11, 1, true, pc, detail, 0, none⟩
def undefExc (pc : Word) (parcel : Nat) : Exc := ⟨1, 1, true, pc, parcel, 0, none⟩
def privExc (pc : Word) (parcel : Nat) : Exc := ⟨2, 1, true, pc, parcel, 0, none⟩
def alignExc (pc ptr : Word) : Exc := ⟨6, 1, true, pc, 0, ptr, none⟩

/-- UNDEF or PRIV of an instruction, where its first parcel decides it (R113). -/
def earlyCause (s : State) (c : Nat) (i : Insn) : Option Exc :=
  if !i.early then none
  else if i.undef then some (undefExc (corePc s c) i.parcel)
  else if s.pl c < i.minPl then some (privExc (corePc s c) i.parcel)
  else none

/-- A counter that the instruction writes counts what occurred in it from the written value (R202): `s` before it, `t` before its write, `u` after. -/
def lateCounts (c : Nat) (i : Insn) (s t u : State) : State :=
  match i.counter with
  | some k => u.setReg (Reg.CS_PMC c k) (u.reg (Reg.CS_PMC c k) + (t.reg (Reg.CS_PMC c k) - s.reg (Reg.CS_PMC c k)))
  | none => u

/-- The instruction, up to its effect. -/
def attempt (c : Nat) (i : Insn) (s : State) : MRes Ret :=
  let pc := corePc s c
  if !(s.core c).pastTop && !(s.core c).skipBreak && (brkMatch s c 0 || brkMatch s c 1) then
    if s.bit (Reg.CS_DBG_CTL c) 3 then .halt 2 s else .exc (breakExc pc (1 + 2 * b2n (!brkMatch s c 0))) s
  else
    (fetchInsn c i.long (earlyCause s c i) s).bind (fun u t =>
      if i.undef then .exc (undefExc pc i.parcel) t
      else if t.pl c < i.minPl then .exc (privExc pc i.parcel) t
      else ((i.body c t).withLeaf u).bind (fun r v => .ok { r with upds := mergeUpds u r.upds } (lateCounts c i s t v)))

/-- The instruction with the accessed and dirty bits it sets, which come first (R247); a leaf that has changed is walked again. -/
def attemptAll (c : Nat) (i : Insn) : Nat → State → MRes Ret
  | 0, s => .wait s
  | n + 1, s =>
    match attempt c i s with
    | .ok r t =>
      if r.upds.isEmpty then .ok r t
      else (leafSet c r.upds s).bind (fun b s => if b then attempt c i s else attemptAll c i n s)
    | .leaf u t => (leafSet c u t).bind (fun b s => if b then attemptAll c i n (arm c u.length s) else attemptAll c i n s)
    | x => x

/-! ### Retirement -/

/-- Events of which one occurrence is a retired access (R204): 07h, 08h, 09h, 10h and 17h. -/
def retiredKind (ev : Nat) : Bool := [0x07, 0x08, 0x09, 0x10, 0x17].contains ev

/-- The counters of core c that count retired accesses, as they were in `old`: an instruction that does not retire leaves them (R194, R204). -/
def keepCounts (c : Nat) (old s : State) : State :=
  (List.range 16).foldl (fun s k =>
    if retiredKind (s.fld (Reg.CS_PMC_SEL c k) 7 0) then
      (s.setReg (Reg.CS_PMC c k) (old.reg (Reg.CS_PMC c k))).setReg (Reg.CS_PMC_SEL c k) (old.reg (Reg.CS_PMC_SEL c k))
    else s) s

def keepExcursions (c : Nat) (old s : State) : State :=
  (s.setReg (Reg.CS_PACE_STAT c) (old.reg (Reg.CS_PACE_STAT c))).setReg (Reg.CS_PACE_EXC c) (old.reg (Reg.CS_PACE_EXC c))

/-- Replacement order: what was held before stands in its old order, behind what has come since. -/
def keepOrder (old new : List Nat) : List Nat := new.filter (fun l => !old.contains l) ++ old.filter (fun l => new.contains l)

/-- The replacement state of the caches of core c and its prefetcher, which only retired accesses change (R189, R190). -/
def keepUse (c : Nat) (old s : State) : State :=
  let g := s.agent c
  (s.setAgent c { g with use := keepOrder (old.agent c).use g.use }).updCore c (fun k =>
    { k with l1d := keepOrder (old.core c).l1d k.l1d, l1iUse := keepOrder (old.core c).l1iUse k.l1iUse, streams := (old.core c).streams,
             pfq := (old.core c).pfq })

/-- The value a register of R121's numbers holds, in words. -/
def destWords (s : State) (c n : Nat) : List Word :=
  if n < 0x80 then [s.reg (corePage c + n)]
  else if n < 0xC0 then [s.gpr c (n - 0x80)]
  else [(s.accOf c (n - 0xC0)).setWidth 40, (s.accOf c (n - 0xC0) >>> 40).setWidth 40]

/-- The words the leader signs: the destination values, flags, stores and next address of its group (R219). -/
def groupWords (dests : List Nat) (new : State) (c : Nat) : List Word :=
  let p := new.pair (c / 2)
  dests.flatMap (destWords new c) ++ [nw (new.flags c)] ++
  (p.hold.filter (fun h => h.group == p.leadGroups)).flatMap (fun h => h.ent.va :: h.ent.vals) ++ [corePc new c]

/-- The leader writes the delay entry of the group it has retired (R219). -/
def leaderGroup (dests : List Nat) (old : State) (c : Nat) (s : State) : State :=
  if isLeader old c then
    let p := s.pair (c / 2)
    let e : DelayEnt := ⟨1, Config.groupSig (groupWords dests s c), corePc old c, p.outside, p.cause, p.injParity, snapCore s c⟩
    let n := p.entries.length + 1
    let s := s.setPair (c / 2) { p with entries := p.entries ++ [e], leadGroups := p.leadGroups + 1, outside := [], cause := none, injParity := false,
                                        blocked := false, waited := false, atom := none }
    if (s.reg (Reg.PAIR_HIGH_WATER (c / 2))).toNat < n then s.setReg (Reg.PAIR_HIGH_WATER (c / 2)) (nw n) else s
  else s

/-- A park that awaited this boundary is taken (R657, R689). -/
def parkNow (c : Nat) (s : State) : State :=
  if Nat.testBit s.pwr.parking c then
    breakQuietOf c ({ s with pwr := { s.pwr with parking := s.pwr.parking - 2 ^ c } }.updCore c (fun k => { k with parked := true }))
  else s

/-- The instruction boundary after a retirement or an exception entry: a park, then a debug halt (R681, R689). -/
def boundary (c : Nat) (s : State) : State :=
  let s := parkNow c s
  let k := s.core c
  if k.parked then s.updCore c (fun k => { k with haltReq := false, stepping := false })
  else if k.haltReq then haltCore c 0 s
  else if k.stepping && decide (k.run = .running) then haltCore c 1 s
  else s

def endInsn (c : Nat) (s : State) : State :=
  let s := s.updCore c (fun k => { k with io := [], excursed := false, strayed := false })
  if isLeader s c then s.setPair (c / 2) { s.pair (c / 2) with outside := [], atom := none } else s

/-- A synchronous cause ends the instruction. -/
def commitExc (c : Nat) (e : Exc) (old s : State) : State :=
  boundary c (takeSync c e (endInsn c ((keepUse c old (keepCounts c old s)).updCore c (fun k => { k with skipBreak := false }))))

/-- Sequential flow past the last parcel address (R80). -/
def ranOff (pc : Word) (r : Ret) : Bool :=
  !r.jump && (match r.br with | some b => !b.taken | none => true) && decide (r.next.toNat < pc.toNat) && decide (2 ^ 40 - 2 ≤ pc.toNat) && decide (r.next.toNat < 2)

/-- The instruction retires: RET_COUNT, its events at the level it ran at, branch training, the program address, and the leader's group. Flow that
has run past the last parcel faults as it fetches on. -/
def retire (c : Nat) (dests : List Nat) (r : Ret) (old s : State) : State :=
  let pc := corePc old c
  let lvl := old.pl c
  let s := if r.waits && !isPaced old c then s else
    let st := s.reg (Reg.CS_STATUS c)
    let s := s.setReg (Reg.CS_STATUS c) (fset st 1 0 lvl)
    let s := pmcEvent c 0x01 1 (s.inc (Reg.CS_RET_COUNT c))
    let s := match r.br with | some b => retireBranch c pc b s | none => s
    s.setReg (Reg.CS_STATUS c) st
  let s := s.updCore c (fun k => { k with pc := r.next, skipBreak := false, pastTop := ranOff pc r })
  let s := endInsn c (if r.waits && !isPaced old c then s else leaderGroup dests old c s)
  if r.waits then setRun c .waiting (pmcEvent c 0x18 1 s)
  else if r.halts then haltCore c 2 s
  else boundary c s

/-- An instruction reads registers before it has any effect (R121). -/
def guardReads (rs : Nat → State → List Nat) (x : Insn) : Insn :=
  { x with body := fun c s => match (rs c s).find? (fun n => struck s (.coreReg c n)) with | some n => .parity n s | none => x.body c s }

/-- An instruction that executes only once every older store has left the store queue (R168). -/
def afterStores (x : Insn) : Insn := { x with body := fun c s => if (s.core c).stq.isEmpty then x.body c s else .wait s }

/-- How an attempt of an instruction that writes `dests` ends, in an unpaced core. -/
def settleInsn (c : Nat) (dests : List Nat) (old : State) : MRes Ret → State
  | .ok r s => retire c dests r old s
  | .exc e s => commitExc c e old s
  | .halt n s => haltCore c n (endInsn c (keepUse c old (keepCounts c old s)))
  | .parity n s => parityStop c n (endInsn c (keepUse c old (keepCounts c old s)))
  | .wait s | .leaf _ s =>
    (keepExcursions c old (keepUse c old (keepCounts c old s))).updCore c (fun k => { k with excursed := false, strayed := false })

/-- Core c stands before an instruction it may start: it runs, is neither the trailer of a pair nor in paced entry, and no cause is taken first
(R100, R114, R221). -/
def mayStart (s : State) (c : Nat) : Bool :=
  let k := s.core c
  decide (k.run = .running) && !k.halted && !k.parked && !k.pacing && !isTrailer s c && k.due.isNone && domState s c == 0 &&
  (asyncNow s c statusCode).isNone

/-- The leader holds while its delay registers are full, or while its pair drains (R219, R226). -/
def delayFull (s : State) (c : Nat) : Bool := isLeader s c && (decide (80 ≤ (s.pair (c / 2)).entries.length) || (s.pair (c / 2)).draining)

/-- An unpaced core executes an instruction. -/
def runNow (c : Nat) (i : Insn) (s : State) : State :=
  if delayFull s c then pairBlocked c s else settleInsn c i.dests s (attemptAll c i 4 s)

/-! ### The lattice (R208-R211) -/

/-- An instruction or entry that retires `late` lattice points after its grid point lags (R210). -/
def paceLag (c late : Nat) (s : State) : State :=
  if late = 0 then s
  else
    let m := s.fld (Reg.CS_PACE_STAT c) 37 20
    let s := s.setFld (Reg.CS_PACE_STAT c) 37 20 (min (m + late) (2 ^ 18 - 1))
    let on := s.bit (Reg.CS_PACE_CTL c) 2
    let s := updAsync c (fun a => { a with missed := a.missed + late, paceLag := a.paceLag || on }) s
    raise (161 + 4 * c) s

/-- At a period of 6 ticks or more an instruction lags only where R209 does not bound it: a leader's that has waited for the trailer (R225), and a
cache operation on a line outside the core's close memory (R227). -/
def lateBy (s : State) (c late : Nat) : Nat :=
  if 6 ≤ pacePeriod s c && !(s.core c).strayed && !(isLeader s c && (s.pair (c / 2)).waited) then 0 else late

/-- An entry is bounded at such a period (R211). -/
def entryLate (s : State) (c late : Nat) : Nat := if 6 ≤ pacePeriod s c then 0 else late

def setGrid (c g : Nat) (s : State) : State := s.updCore c (fun k => { k with grid := g, due := none })

/-- The grid point of an exception entry at this boundary (R211). -/
def entryGrid (s : State) (c late : Nat) : Nat := (s.core c).grid + (3 + late) * pacePeriod s c

/-- A paced instruction reaches the grid point at which it retires, `late` lattice points after its own (R208, R210, R215). DESIGN CHOICE (log row
104): an entry for a late error answer to an excursion keeps the grid point of R211, though it may be past. -/
def gridPoint (c late : Nat) (i : Insn) (r : Nat) (s : State) : State :=
  if delayFull s c then pairBlocked c s
  else
    let p := pacePeriod s c
    let first := attemptAll c i 4 s
    match first with
    | .wait _ | .leaf _ _ => settleInsn c i.dests s first
    | .exc _ _ =>
      let n := entryLate s c late
      let t := advanceTo (entryGrid s c n) s
      match attemptAll c i 4 t with
      | .exc e u => commitExc c e t (setGrid c (entryGrid s c n) (paceLag c n u))
      | x => settleInsn c i.dests t x
    | .parity n u => settleInsn c i.dests s (.parity n u)
    | .halt n u => haltCore c n (endInsn c (keepCounts c s (setGrid c (s.core c).grid u)))
    | .ok _ u =>
      let x := (u.core c).excursed
      let n := if x then late else lateBy u c late
      let t := advanceTo (r + n * p) s
      match attemptAll c i 4 t with
      | .ok q v =>
        let v := if x then v else paceLag c n v
        let v := if isPaced v c && (v.core c).grid == (t.core c).grid then setGrid c (r + n * p) v else v.updCore c (fun k => { k with due := none })
        retire c i.dests q t v
      | y => settleInsn c i.dests t y

end Sys2Proof.Machine
end

