-- ==== Sys2Proof/Machine/Flags.lean ====
section
/-!
DEFINITION. Flags (R86, R155) and the integer operations that set them: results, carries, overflows and saturation of majors 00h-15h (R129-R138,
R156), and the conditions of R134.
-/
set_option linter.constructorNameAsVariable false

namespace Sys2Proof.Machine

/-- What an operation gives: its result, carry, overflow, whether it saturated, and whether it is one of the arithmetic ops of R155. -/
structure AluRes where
  r : Word
  c : Bool
  v : Bool
  sat : Bool
deriving DecidableEq, Repr

/-- `cs.FLAGS` from its bits (R86). -/
def packFlags (z n c v s : Bool) : Nat := b2n z + 2 * b2n n + 4 * b2n c + 8 * b2n v + 16 * b2n s

def flagZ (f : Nat) : Bool := f.testBit 0
def flagN (f : Nat) : Bool := f.testBit 1
def flagC (f : Nat) : Bool := f.testBit 2
def flagV (f : Nat) : Bool := f.testBit 3
def flagS (f : Nat) : Bool := f.testBit 4

/-- Z and N from a result, C and V as given, S sticky. -/
def flagsOf (old : Nat) (r : Word) (c v sat : Bool) : Nat := packFlags (r == 0) (r.getLsbD 39) c v (flagS old || sat)

/-- S alone is set by saturation. -/
def stickyS (old : Nat) (sat : Bool) : Nat := packFlags (flagZ old) (flagN old) (flagC old) (flagV old) (flagS old || sat)

/-- The conditions of R134. -/
def condTrue (f cond : Nat) : Bool :=
  let n := flagN f
  let v := flagV f
  match cond with
  | 0 => flagZ f
  | 1 => !flagZ f
  | 2 => flagC f
  | 3 => !flagC f
  | 4 => n
  | 5 => !n
  | 6 => v
  | 7 => !v
  | 8 => !flagC f && !flagZ f
  | 9 => flagC f || flagZ f
  | 10 => n == v
  | 11 => n != v
  | 12 => !flagZ f && n == v
  | 13 => flagZ f || n != v
  | 14 => flagS f
  | _ => !flagS f

/-! ### Integers -/

def minInt : Int := -(2 ^ 39)
def maxInt : Int := 2 ^ 39 - 1

def inRange (lo hi x : Int) : Bool := decide (lo ≤ x) && decide (x ≤ hi)

/-- The nearer bound when x lies outside (R156). -/
def clamp (lo hi x : Int) : Int := if x < lo then lo else if hi < x then hi else x

def overflows (x : Int) : Bool := !inRange minInt maxInt x

def w40 (x : Int) : Word := BitVec.ofInt 40 x

/-- Bits [5:0] of a register shift amount (R130). -/
def shAmount (b : Word) : Nat := b.toNat % 64

def shlW (a : Word) (n : Nat) : Word := a <<< n
def shrW (a : Word) (n : Nat) : Word := a >>> n
def sarW (a : Word) (n : Nat) : Word := a.sshiftRight n
def rorW (a : Word) (n : Nat) : Word := a.rotateRight (n % 40)

/-- Majors 00h-07h (R129, R130). -/
def saluOp (op : SAlu) (a b : Word) : Word :=
  match op with
  | .add => a + b
  | .sub => a - b
  | .and => a &&& b
  | .or => a ||| b
  | .xor => a ^^^ b
  | .shl => shlW a (shAmount b)
  | .shr => shrW a (shAmount b)
  | .sar => sarW a (shAmount b)

def plain (r : Word) : AluRes := ⟨r, false, false, false⟩

def addRes (a b : Word) (cin : Nat) : AluRes :=
  ⟨a + b + BitVec.ofNat 40 cin, decide (2 ^ 40 ≤ a.toNat + b.toNat + cin), overflows (a.toInt + b.toInt + cin), false⟩

def subRes (a b : Word) (bin : Nat) : AluRes :=
  ⟨a - b - BitVec.ofNat 40 bin, decide (a.toNat < b.toNat + bin), overflows (a.toInt - b.toInt - bin), false⟩

/-- The saturated form of an exact result, with the carry of the unsigned operation (R155, R156). -/
def satRes (x : Int) (c : Bool) : AluRes := ⟨w40 (clamp minInt maxInt x), c, overflows x, overflows x⟩

def mulRes (a b : Word) : AluRes := ⟨a * b, false, overflows (a.toInt * b.toInt), false⟩

/-- −2^39 by −1 (R137). -/
def divOverflow (a b : Word) : Bool := a.toInt == minInt && b.toInt == -1

/-- The divisions (R137): `z` is the result for a zero divisor, `q` for another. -/
def divRes (a b q z : Word) (signed : Bool) : AluRes := if b = 0 then ⟨z, true, false, false⟩ else ⟨q, false, signed && divOverflow a b, false⟩

/-- Element k of a word as 2 × Q1.19 (R64). -/
def elem (w : Word) (k : Nat) : Int := ((w >>> (20 * k)).setWidth 20 : BitVec 20).toInt

/-- A paired result, each element saturating on its own (R156). -/
def pairRes (x0 x1 : Int) : AluRes :=
  let lo : Int := -(2 ^ 19)
  let hi : Int := 2 ^ 19 - 1
  ⟨(BitVec.ofInt 20 (clamp lo hi x1)) ++ (BitVec.ofInt 20 (clamp lo hi x0)), false, false, !inRange lo hi x0 || !inRange lo hi x1⟩

/-- rs1 × rs2 of two Q1.19 values, rounded half up to Q1.19 (R136). -/
def mulQ19 (x y : Int) : Int := (x * y + 2 ^ 18) / 2 ^ 19

def leadingZeros (a : Word) : Nat := (List.range 40).foldl (fun n i => if a.getLsbD i then 39 - i else n) 40

def popCount (a : Word) : Nat := (List.range 40).foldl (fun n i => n + b2n (a.getLsbD i)) 0

/-- Major 10h (R136); `cin` is flag C. -/
def laluOp (op : LAlu) (a b : Word) (cin : Nat) : AluRes :=
  match op with
  | .add => addRes a b 0
  | .sub => subRes a b 0
  | .adc => addRes a b cin
  | .sbc => subRes a b cin
  | .and => plain (a &&& b)
  | .or => plain (a ||| b)
  | .xor => plain (a ^^^ b)
  | .andn => plain (a &&& ~~~ b)
  | .shl => plain (shlW a (shAmount b))
  | .shr => plain (shrW a (shAmount b))
  | .sar => plain (sarW a (shAmount b))
  | .ror => plain (rorW a (shAmount b))
  | .mul => mulRes a b
  | .mulhs => plain (w40 (a.toInt * b.toInt / 2 ^ 40))
  | .mulhu => plain (BitVec.ofNat 40 (a.toNat * b.toNat / 2 ^ 40))
  | .divs => divRes a b (w40 (a.toInt.tdiv b.toInt)) (-1) true
  | .divu => divRes a b (BitVec.ofNat 40 (a.toNat / b.toNat)) (-1) false
  | .rems => divRes a b (w40 (a.toInt.tmod b.toInt)) a true
  | .remu => divRes a b (BitVec.ofNat 40 (a.toNat % b.toNat)) a false
  | .min => plain (if a.toInt ≤ b.toInt then a else b)
  | .max => plain (if a.toInt ≤ b.toInt then b else a)
  | .minu => plain (if a.toNat ≤ b.toNat then a else b)
  | .maxu => plain (if a.toNat ≤ b.toNat then b else a)
  | .adds => satRes (a.toInt + b.toInt) (decide (2 ^ 40 ≤ a.toNat + b.toNat))
  | .subs => satRes (a.toInt - b.toInt) (decide (a.toNat < b.toNat))
  | .abss => satRes (if a.toInt < 0 then -a.toInt else a.toInt) false
  | .clz => plain (BitVec.ofNat 40 (leadingZeros a))
  | .popc => plain (BitVec.ofNat 40 (popCount a))
  | .padds => pairRes (elem a 0 + elem b 0) (elem a 1 + elem b 1)
  | .psubs => pairRes (elem a 0 - elem b 0) (elem a 1 - elem b 1)
  | .pmulr => pairRes (mulQ19 (elem a 0) (elem b 0)) (mulQ19 (elem a 1) (elem b 1))

/-- Major 11h, the ops that write rd (R138). -/
def ialuOp (op : IAlu) (a b : Word) : AluRes :=
  match op with
  | .addi => addRes a b 0
  | .andi => plain (a &&& b)
  | .ori => plain (a ||| b)
  | .xori => plain (a ^^^ b)
  | .muli => mulRes a b
  | .addsi => satRes (a.toInt + b.toInt) (decide (2 ^ 40 ≤ a.toNat + b.toNat))

/-- The compare group (R132). -/
def cmpOp (op : CmpOp) (a b : Word) : AluRes :=
  match op with
  | .cmp => subRes a b 0
  | .cmn => addRes a b 0
  | .tst => plain (a &&& b)

/-- Flags after majors 10h and 11h (R155). -/
def aluFlags (old : Nat) (f : Bool) (x : AluRes) : Nat := if f then flagsOf old x.r x.c x.v x.sat else stickyS old x.sat

/-- Major 14h (R138): bits [p+w-1:p]. -/
def bitField (op : BitOp) (rd rs1 : Word) (p w : Nat) : Word :=
  match op with
  | .extu => BitVec.ofNat 40 (rs1.toNat / 2 ^ p % 2 ^ w)
  | .exts => BitVec.ofInt 40 ((BitVec.ofNat w (rs1.toNat / 2 ^ p)).toInt)
  | .ins =>
    let m := BitVec.ofNat 40 ((2 ^ w - 1) * 2 ^ p)
    (rd &&& ~~~ m) ||| ((rs1 <<< p) &&& m)

end Sys2Proof.Machine
end

