-- ==== Sys2Proof/Machine/F40.lean ====
section
/-!
DEFINITION. F40 arithmetic (R66, R148-R152): values, one rounding, sticky bits, conversions and compare.
-/
set_option linter.constructorNameAsVariable false

namespace Sys2Proof.Machine

/-- Rounding modes in the order of `cs.F40_CTL.RM` (R165). -/
inductive FMode where
  | nearest | zero | down | up
deriving DecidableEq, Repr

def FMode.index : FMode → Nat
  | .nearest => 0 | .zero => 1 | .down => 2 | .up => 3

/-- An F40 value (R66): a finite one is (-1)^neg × m × 2^e. -/
inductive FVal where
  | fin (neg : Bool) (m : Nat) (e : Int)
  | inf (neg : Bool)
  | qnan
  | snan
deriving DecidableEq, Repr

/-- Sticky bits of `cs.F40_CTL`: NX 1, UF 2, OF 4, DZ 8, NV 16. -/
def fNX : Nat := 1
def fUF : Nat := 2
def fOF : Nat := 4
def fDZ : Nat := 8
def fNV : Nat := 16

/-- The operand's value; with FTZ a subnormal is a zero of its sign (R151). -/
def fDecode (ftz : Bool) (w : Word) : FVal :=
  let neg := w.getLsbD 39
  let e := fget w 38 31
  let f := fget w 30 0
  if e = 255 then (if f = 0 then .inf neg else if bget w 30 then .qnan else .snan)
  else if e = 0 then .fin neg (if ftz then 0 else f) (-157)
  else .fin neg (2 ^ 31 + f) ((e : Int) - 158)

def fPack (neg : Bool) (e f : Nat) : Word := nw40 (b2n neg * 2 ^ 39 + e * 2 ^ 31 + f)
where nw40 (n : Nat) : Word := BitVec.ofNat 40 n

def fNaN : Word := 0x7FC0000000
def fInf (neg : Bool) : Word := fPack neg 255 0
def fMax (neg : Bool) : Word := fPack neg 254 (2 ^ 31 - 1)
def fZero (neg : Bool) : Word := fPack neg 0 0

/-- Whether a magnitude is rounded up: the removed part compared with half, and whether anything was removed. -/
def roundUp (m : FMode) (neg odd : Bool) (rem half : Nat) (sticky : Bool) : Bool :=
  match m with
  | .nearest => decide (half < rem) || (rem == half && half != 0 && (sticky || odd))
  | .zero => false
  | .down => neg && (rem != 0 || sticky)
  | .up => !neg && (rem != 0 || sticky)

/-- (m + δ) × 2^e, with δ in [0, 1) other than 0 when `sticky`, rounded to a multiple of 2^q: the multiple, and whether inexact. -/
def roundTo (mode : FMode) (neg : Bool) (m : Nat) (e : Int) (sticky : Bool) (q : Int) : Nat × Bool :=
  if q ≤ e then (m * 2 ^ (e - q).toNat, sticky)
  else
    let k := (q - e).toNat
    let t := m / 2 ^ k
    let rem := m % 2 ^ k
    (t + b2n (roundUp mode neg (t % 2 == 1) rem (2 ^ (k - 1)) sticky), rem != 0 || sticky)

/-- The exact result (m + δ) × 2^e, m other than 0, rounded once to F40 (R150, R151): the word and the sticky bits. -/
def fRound (mode : FMode) (ftz neg : Bool) (m : Nat) (e : Int) (sticky : Bool) : Word × Nat :=
  let top : Int := e + (Nat.log2 m : Int)
  let q : Int := max (top - 31) (-157)
  let r := roundTo mode neg m e sticky q
  let (m', q') := if r.1 = 2 ^ 32 then (2 ^ 31, q + 1) else (r.1, q)
  let wide := roundTo mode neg m e sticky (top - 31)
  let tiny := decide (top < -126) && (!Config.tinyAfterRounding || !(top == -127 && wide.1 == 2 ^ 32))
  if m' < 2 ^ 31 then
    if ftz && m' != 0 then (fZero neg, fUF + fNX)
    else (fPack neg 0 m', if r.2 then fNX + (if tiny then fUF else 0) else 0)
  else
    let ex := q' + 158
    if 255 ≤ ex then
      (match mode with
        | .nearest => fInf neg
        | .zero => fMax neg
        | .down => if neg then fInf neg else fMax neg
        | .up => if neg then fMax neg else fInf neg, fOF + fNX)
    else (fPack neg ex.toNat (m' - 2 ^ 31), if r.2 then fNX + (if tiny then fUF else 0) else 0)

/-- A signed exact value x × 2^e; `zneg` is the sign of a zero. -/
def fRoundInt (mode : FMode) (ftz zneg : Bool) (x : Int) (e : Int) : Word × Nat :=
  if x = 0 then (fZero zneg, 0) else fRound mode ftz (decide (x < 0)) x.natAbs e false

def isSnan (x : FVal) : Bool := decide (x = .snan)
def isNan (x : FVal) : Bool := decide (x = .snan) || decide (x = .qnan)

/-- The NaN result of an operation, with NV for a signaling operand. -/
def nanRes (l : List FVal) : Word × Nat := (fNaN, if l.any isSnan then fNV else 0)

def sgn (neg : Bool) (m : Nat) : Int := if neg then -(m : Int) else m

/-- The sum of two values. -/
def fAddV (mode : FMode) (ftz : Bool) (x y : FVal) : Word × Nat :=
  match x, y with
  | .fin n1 m1 e1, .fin n2 m2 e2 =>
    let e := min e1 e2
    let s := sgn n1 (m1 * 2 ^ (e1 - e).toNat) + sgn n2 (m2 * 2 ^ (e2 - e).toNat)
    fRoundInt mode ftz (if n1 = n2 then n1 else Config.cancelNegative mode.index) s e
  | .inf a, .inf b => if a = b then (fInf a, 0) else (fNaN, fNV)
  | .inf a, .fin _ _ _ => (fInf a, 0)
  | .fin _ _ _, .inf b => (fInf b, 0)
  | _, _ => nanRes [x, y]

def fNegV : FVal → FVal
  | .fin n m e => .fin (!n) m e
  | .inf n => .inf (!n)
  | x => x

/-- The exact product, with `none` for the invalid 0 × ∞. -/
def fMulV (x y : FVal) : Option FVal :=
  match x, y with
  | .fin n1 m1 e1, .fin n2 m2 e2 => some (.fin (n1 != n2) (m1 * m2) (e1 + e2))
  | .inf a, .inf b => some (.inf (a != b))
  | .inf a, .fin n m _ => if m = 0 then none else some (.inf (a != n))
  | .fin n m _, .inf b => if m = 0 then none else some (.inf (n != b))
  | _, _ => some .qnan

def fMul (mode : FMode) (ftz : Bool) (x y : FVal) : Word × Nat :=
  if isNan x || isNan y then nanRes [x, y]
  else match fMulV x y with
    | none => (fNaN, fNV)
    | some (.fin n m e) => fRoundInt mode ftz n (sgn n m) e
    | some (.inf n) => (fInf n, 0)
    | some _ => (fNaN, 0)

/-- rd + rs1 × rs2 with one rounding. -/
def fFma (mode : FMode) (ftz : Bool) (d x y : FVal) : Word × Nat :=
  let sn := if isSnan d || isSnan x || isSnan y then fNV else 0
  if isNan x || isNan y then (fNaN, sn)
  else match fMulV x y with
    | none => (fNaN, fNV)
    | some p => if isNan d then (fNaN, sn) else fAddV mode ftz d p

def fDiv (mode : FMode) (ftz : Bool) (x y : FVal) : Word × Nat :=
  match x, y with
  | .fin n1 m1 e1, .fin n2 m2 e2 =>
    if m2 = 0 then (if m1 = 0 then (fNaN, fNV) else (fInf (n1 != n2), fDZ))
    else if m1 = 0 then (fZero (n1 != n2), 0)
    else fRound mode ftz (n1 != n2) (m1 * 2 ^ 72 / m2) (e1 - e2 - 72) (m1 * 2 ^ 72 % m2 != 0)
  | .inf _, .inf _ => (fNaN, fNV)
  | .inf a, .fin n _ _ => (fInf (a != n), 0)
  | .fin n _ _, .inf b => (fZero (n != b), 0)
  | _, _ => nanRes [x, y]

/-- The integer square root, bit by bit from bit k - 1. -/
def isqrt (n : Nat) : Nat → Nat → Nat
  | 0, r => r
  | k + 1, r => isqrt n k (if (r + 2 ^ k) * (r + 2 ^ k) ≤ n then r + 2 ^ k else r)

def fSqrt (mode : FMode) (ftz : Bool) (x : FVal) : Word × Nat :=
  match x with
  | .fin n m e =>
    if m = 0 then (fZero n, 0)
    else if n then (fNaN, fNV)
    else
      let (m', e') := if e % 2 = 0 then (m * 2 ^ 80, e - 80) else (m * 2 ^ 81, e - 81)
      let r := isqrt m' 58 0
      fRound mode ftz false r (e' / 2) (r * r != m')
  | .inf n => if n then (fNaN, fNV) else (fInf false, 0)
  | _ => nanRes [x]

/-- Order of two values that are not NaN: less, and equal; -0 equals +0. -/
def fLess (x y : FVal) : Bool :=
  match x, y with
  | .fin n1 m1 e1, .fin n2 m2 e2 =>
    let e := min e1 e2
    decide (sgn n1 (m1 * 2 ^ (e1 - e).toNat) < sgn n2 (m2 * 2 ^ (e2 - e).toNat))
  | .inf a, .inf b => a && !b
  | .inf a, _ => a
  | _, .inf b => !b
  | _, _ => false

def fNegOf : FVal → Bool
  | .fin n _ _ => n
  | .inf n => n
  | _ => false

/-- FMIN and FMAX (R148): -0 < +0; a NaN operand yields the other operand. -/
def fMinMax (ftz max : Bool) (a b : Word) : Word × Nat :=
  let fl := fun w : Word => if ftz && fget w 38 31 == 0 then fZero (w.getLsbD 39) else w
  let x := fDecode ftz a
  let y := fDecode ftz b
  let st := if isSnan x || isSnan y then fNV else 0
  if isNan x && isNan y then (fNaN, st)
  else if isNan x then (fl b, st)
  else if isNan y then (fl a, st)
  else
    let less := fLess x y || (!fLess y x && fNegOf x && !fNegOf y)
    (if less != max then fl a else fl b, st)

/-- FCMP (R152): flags Z, N, C, V with S kept, and NV for a signaling operand. -/
def fCmp (ftz : Bool) (old : Nat) (a b : Word) : Nat × Nat :=
  let x := fDecode ftz a
  let y := fDecode ftz b
  let st := if isSnan x || isSnan y then fNV else 0
  let s := flagS old
  if isNan x || isNan y then (packFlags false false false true s, st)
  else if fLess x y then (packFlags false true false false s, st)
  else if fLess y x then (packFlags false false false false s, st)
  else (packFlags true false false false s, st)

/-- A conversion to an integer multiple of 2^-k (R150). -/
def fToInt (mode : FMode) (ftz : Bool) (k : Nat) (a : Word) : Word × Nat :=
  match fDecode ftz a with
  | .fin n m e =>
    let r := roundTo mode n m (e + k) false 0
    let x := sgn n r.1
    if overflows x then (w40 (clamp minInt maxInt x), fNV) else (w40 x, if r.2 then fNX else 0)
  | .inf n => (w40 (if n then minInt else maxInt), fNV)
  | _ => (0, fNV)

/-- The rounding mode of an instruction (R149). -/
def fMode (rm : Rmi) (dyn : Nat) : FMode :=
  match rm with
  | .nearest => .nearest
  | .zero => .zero
  | .down => .down
  | .up => .up
  | .dyn => match dyn with | 0 => .nearest | 1 => .zero | 2 => .down | _ => .up

end Sys2Proof.Machine
end

