-- ==== Sys2Proof/Machine/Mac.lean ====
section
/-!
DEFINITION. The multiply-accumulate class (R144-R147): products, rounding, accumulator bounds and extraction.
-/
namespace Sys2Proof.Machine

/-- x / 2^k rounded to an integer (R146). -/
def roundShift (rm : MRound) (x : Int) (k : Nat) : Int :=
  match rm with
  | .floor => x / 2 ^ k
  | .halfUp => if k = 0 then x else (x + 2 ^ (k - 1)) / 2 ^ k
  | .halfEven =>
    let q := x / 2 ^ k
    let r := x % 2 ^ k
    if 2 ^ k < 2 * r || (2 * r == 2 ^ k && q % 2 != 0) then q + 1 else q

/-- P of R145: the exact Q2.78 product rounded to Q10.70. -/
def macP (rm : MRound) (a b : Word) : Int := roundShift rm (a.toInt * b.toInt) 8

def accLo : Int := -(2 ^ 79)
def accHi : Int := 2 ^ 79 - 1

def accWrap (x : Int) : BitVec 80 × Bool := (BitVec.ofInt 80 x, false)

/-- The nearer accumulator bound, with S (R147). -/
def accSat (x : Int) : BitVec 80 × Bool := (BitVec.ofInt 80 (clamp accLo accHi x), !inRange accLo accHi x)

/-- An extraction (R147): a × 2^SH rounded to a multiple of 2^-39 or 2^-31 and saturated. -/
def extract (rm : MRound) (sh drop : Nat) (a : BitVec 80) : Word × Bool :=
  let x := roundShift rm (a.toInt * 2 ^ sh) drop
  (w40 (clamp minInt maxInt x), overflows x)

/-- A Q1.39 value in an accumulator (R65). -/
def placeQ (a : Word) : BitVec 80 := BitVec.ofInt 80 (a.toInt * 2 ^ 31)

/-- PMAC's products in Q10.70 (R145). -/
def pmacSum (a b : Word) : Int := (elem a 0 * elem b 0 + elem a 1 * elem b 1) * 2 ^ 32

end Sys2Proof.Machine
end

