-- ==== Sys2Proof/Machine/InsnAlu.lean ====
section
/-!
DEFINITION. The register-only instructions: short and long integer operations, constants, bit fields and selects (R129-R138), the
multiply-accumulate class (R144-R147) and F40 arithmetic (R148-R152), with their costs (R208).
-/
set_option linter.constructorNameAsVariable false

namespace Sys2Proof.Machine

/-- S is set by an operation that saturated (R155). -/
def orS (c : Nat) (sat : Bool) (s : State) : State := s.setFlags c (stickyS (s.flags c) sat)

def insnShortAlu (op : SAlu) (rd rs1 rs2 : Nat) : Insn :=
  plainInsn false 1 (fun c s => s.setGpr c rd (saluOp op (s.gpr c rs1) (s.gpr c rs2)))

/-- Majors 08h-0Ah (R131). -/
def simmOp (op : SImm) (rd : Word) (reg : Nat → Word) : Word :=
  match op with
  | .addiS i => rd + i.signExtend 40
  | .liS i => i.signExtend 40
  | .shli n => shlW rd n
  | .shri n => shrW rd n
  | .sari n => sarW rd n
  | .mov rs => reg rs

def insnShortImm (rd : Nat) (op : SImm) : Insn := plainInsn false 1 (fun c s => s.setGpr c rd (simmOp op (s.gpr c rd) (s.gpr c)))

def accMove (op : AccMove) (c : Nat) (s : State) : State :=
  match op with
  | .rda rd a => let x := extract .halfUp 0 31 (s.accOf c a); orS c x.2 (s.setGpr c rd x.1)
  | .rdaHi rd a => s.setGpr c rd ((s.accOf c a >>> 40).setWidth 40)
  | .rdaLo rd a => s.setGpr c rd ((s.accOf c a).setWidth 40)
  | .clra a => s.setAcc c a 0

def insnAccMove (op : AccMove) : Insn := plainInsn false 1 (accMove op)

/-- Flags of the compare group: S unchanged (R132). -/
def cmpFlags (op : CmpOp) (a b : Word) (c : Nat) (s : State) : State :=
  let x := cmpOp op a b
  s.setFlags c (flagsOf (s.flags c) x.r x.c x.v false)

def insnCompare (op : CmpOp) (rs1 rs2 : Nat) : Insn := plainInsn false 2 (fun c s => cmpFlags op (s.gpr c rs1) (s.gpr c rs2) c s)

def divides (op : LAlu) : Bool := op = .divs || op = .divu || op = .rems || op = .remu

/-- The result and flags of majors 10h and 11h. -/
def aluWrite (rd : Nat) (f : Bool) (x : AluRes) (c : Nat) (s : State) : State := (s.setGpr c rd x.r).setFlags c (aluFlags (s.flags c) f x)

def insnLongAlu (op : LAlu) (f : Bool) (rd rs1 rs2 : Nat) : Insn :=
  plainInsn true (if divides op then 7 else 1) (fun c s => aluWrite rd f (laluOp op (s.gpr c rs1) (s.gpr c rs2) (b2n (flagC (s.flags c)))) c s)

def immAlu (op : ImmOp) (c : Nat) (s : State) : State :=
  match op with
  | .alu op f rd rs1 imm => aluWrite rd f (ialuOp op (s.gpr c rs1) (imm.signExtend 40)) c s
  | .cmpi rs1 imm => cmpFlags .cmp (s.gpr c rs1) (imm.signExtend 40) c s
  | .tsti rs1 imm => cmpFlags .tst (s.gpr c rs1) (imm.signExtend 40) c s

def insnImmAlu (op : ImmOp) : Insn := plainInsn true 1 (immAlu op)

def longImm (op : LImm) (c : Nat) (s : State) : State :=
  match op with
  | .li rd imm => s.setGpr c rd (imm.signExtend 40)
  | .lui rd imm => s.setGpr c rd (imm.setWidth 40 <<< 20)
  | .orz rd rs1 imm => s.setGpr c rd (s.gpr c rs1 ||| imm.setWidth 40)

def insnLongImm (op : LImm) : Insn := plainInsn true 1 (longImm op)

def insnAdr (word : Bool) (rd : Nat) (imm : BitVec 20) : Insn :=
  plainInsn true 1 (fun c s => s.setGpr c rd ((if word then corePc s c >>> 1 else corePc s c) + imm.signExtend 40))

def bitOpCode : BitOp → Nat | .extu => 0 | .exts => 1 | .ins => 2

/-- Major 14h; a field past bit 39 is reserved (R138). -/
def insnBitField (op : BitOp) (rd rs1 p w1 : Nat) : Insn :=
  { plainInsn true 1 (fun c s => s.setGpr c rd (bitField op (s.gpr c rd) (s.gpr c rs1) p (w1 + 1))) with
    undef := decide (40 < p + w1 + 1), early := false, parcel := 0x14 * 2 ^ 15 + rd * 2 ^ 10 + rs1 * 2 ^ 5 + bitOpCode op }

def select (op : SelOp) (c : Nat) (s : State) : State :=
  match op with
  | .sel rd rs1 rs2 cond => s.setGpr c rd (if condTrue (s.flags c) cond then s.gpr c rs1 else s.gpr c rs2)
  | .setc rd cond => s.setGpr c rd (if condTrue (s.flags c) cond then 1 else 0)

def insnSel (op : SelOp) : Insn := plainInsn true 1 (select op)

/-! ### Multiply-accumulate (R145, R147) -/

def accWrite (a : Nat) (x : BitVec 80 × Bool) (c : Nat) (s : State) : State := orS c x.2 (s.setAcc c a x.1)

def macOp (op : MacOp) (c : Nat) (s : State) : State :=
  let acc := fun a : Nat => (s.accOf c a).toInt
  let r := s.gpr c
  match op with
  | .mulA rm a x y => accWrite a (accWrap (macP rm (r x) (r y))) c s
  | .mac rm a x y => accWrite a (accWrap (acc a + macP rm (r x) (r y))) c s
  | .msu rm a x y => accWrite a (accWrap (acc a - macP rm (r x) (r y))) c s
  | .macs rm a x y => accWrite a (accSat (acc a + macP rm (r x) (r y))) c s
  | .msus rm a x y => accWrite a (accSat (acc a - macP rm (r x) (r y))) c s
  | .pmac a x y => accWrite a (accWrap (acc a + pmacSum (r x) (r y))) c s
  | .mova a x => accWrite a (placeQ (r x), false) c s
  | .adda a b => accWrite a (accWrap (acc a + acc b)) c s
  | .addas a b => accWrite a (accSat (acc a + acc b)) c s
  | .asr a x => accWrite a ((s.accOf c a).sshiftRight ((r x).toNat % 128), false) c s
  | .asls a x => accWrite a (accSat (acc a * 2 ^ ((r x).toNat % 128))) c s
  | .exta rm sh rd a => let x := extract rm sh 31 (s.accOf c a); orS c x.2 (s.setGpr c rd x.1)
  | .extq9 rm sh rd a => let x := extract rm sh 39 (s.accOf c a); orS c x.2 (s.setGpr c rd x.1)

def insnMac (op : MacOp) : Insn := plainInsn true 1 (macOp op)

/-! ### F40 (R148-R152, R165) -/

/-- The sticky bits of `cs.F40_CTL` take what an operation raises. -/
def fSticky (c st : Nat) (s : State) : State := s.setFld (Reg.CS_F40_CTL c) 4 0 (s.fld (Reg.CS_F40_CTL c) 4 0 ||| st)

def fpResult (op : FOp) (c : Nat) (s : State) : Nat × Word × Nat :=
  let ftz := s.bit (Reg.CS_F40_CTL c) 7
  let md := fun rm => fMode rm (s.fld (Reg.CS_F40_CTL c) 6 5)
  let v := fun r : Nat => fDecode ftz (s.gpr c r)
  match op with
  | .fadd rd a b rm => (rd, fAddV (md rm) ftz (v a) (v b))
  | .fsub rd a b rm => (rd, fAddV (md rm) ftz (v a) (fNegV (v b)))
  | .fmul rd a b rm => (rd, fMul (md rm) ftz (v a) (v b))
  | .fdiv rd a b rm => (rd, fDiv (md rm) ftz (v a) (v b))
  | .fsqrt rd a rm => (rd, fSqrt (md rm) ftz (v a))
  | .fma rd a b rm => (rd, fFma (md rm) ftz (v rd) (v a) (v b))
  | .fmin rd a b _ => (rd, fMinMax ftz false (s.gpr c a) (s.gpr c b))
  | .fmax rd a b _ => (rd, fMinMax ftz true (s.gpr c a) (s.gpr c b))
  | .fneg rd a => (rd, s.gpr c a ^^^ 0x8000000000, 0)
  | .fabs rd a => (rd, s.gpr c a &&& 0x7FFFFFFFFF, 0)
  | .cvtIF rd a rm => (rd, fRoundInt (md rm) ftz false (s.gpr c a).toInt 0)
  | .cvtFI rd a rm => (rd, fToInt (md rm) ftz 0 (s.gpr c a))
  | .cvtQF rd a rm => (rd, fRoundInt (md rm) ftz false (s.gpr c a).toInt (-39))
  | .cvtFQ rd a rm => (rd, fToInt (md rm) ftz 39 (s.gpr c a))

def fpOp (op : FOp) (c : Nat) (s : State) : State :=
  let x := fpResult op c s
  fSticky c x.2.2 (s.setGpr c x.1 x.2.1)

def fpCost : FOp → Nat
  | .fdiv _ _ _ _ => 4
  | .fsqrt _ _ _ => 5
  | _ => 1

def insnFp (op : FOp) : Insn := plainInsn true (fpCost op) (fpOp op)

def insnFcmp (rs1 rs2 : Nat) : Insn :=
  plainInsn true 1 (fun c s =>
    let x := fCmp (s.bit (Reg.CS_F40_CTL c) 7) (s.flags c) (s.gpr c rs1) (s.gpr c rs2)
    fSticky c x.2 (s.setFlags c x.1))

end Sys2Proof.Machine
end

