-- ==== Sys2Proof/Machine/InsnMem.lean ====
section
/-!
DEFINITION. Loads, stores and atomics (R107-R111, R139-R143, R160): address, checks, access, and the registers written.
-/
set_option linter.constructorNameAsVariable false

namespace Sys2Proof.Machine

/-- An L-form memory instruction of a cost, from the state after its access. -/
def memInsn (cost : Nat) (body : Nat → State → MRes (List LeafUpd)) : Insn :=
  mkInsn true cost 0 false 0 (fun c s => (body c s).bind (fun u s => .ok { retTo (nextPc s c true) with upds := u } s))

def eaOf (s : State) (c rb : Nat) (off : BitVec 20) : Word := s.gpr c rb + off.signExtend 40

/-- Some word of an access is accessed outside the core. -/
def anyLeaves (s : State) (c : Nat) (spots : List Spot) : Bool := spots.any (fun p => leavesCore s c p.pa)

/-- The words of a load, with its leaves to update. -/
def loadAll (c : Nat) (k : MemKind) (vas : List Word) (s : State) : MRes (List LeafUpd × List Word) :=
  (memCheck c k vas s).bind (fun q s =>
    leafFirst c (anyLeaves s c q.1) q.2 s (fun s => (loadSpots c k q.1 s).bind (fun ws s => .ok (q.2, ws) (noteOutside c ws s))))

/-- A store of whole words or of the octets of `mask`. -/
def storeAll (c : Nat) (k : MemKind) (mask : Nat) (vas vs : List Word) (s : State) : MRes (List LeafUpd) :=
  (memCheck c k vas s).bind (fun q s =>
    leafFirst c (isPaced s c && !isLeader s c && anyLeaves s c q.1) q.2 s (fun s => (storeSpots c mask (q.1.zip vs) s).bind (fun _ s => .ok q.2 s)))

/-- A release access waits until every earlier store has its completion (R109). -/
def released (c : Nat) (rl : Bool) (s : State) (f : State → MRes (List LeafUpd)) : MRes (List LeafUpd) :=
  if rl && !storesDone s c then .wait (waitStores c s) else f s

def loadWordTo (rt : Nat) (va : Nat → State → Word) : Insn :=
  memInsn 1 (fun c s => (loadAll c mkLoad [va c s] s).bind (fun q s => .ok q.1 (s.setGpr c rt (q.2.headD 0))))

def storeWordFrom (rt : Nat) (rl : Bool) (va : Nat → State → Word) : Insn :=
  memInsn 1 (fun c s => released c rl s (fun s => storeAll c mkStore 31 [va c s] [s.gpr c rt] s))

def insnLw (rt rb : Nat) (off : BitVec 20) : Insn := loadWordTo rt (fun c s => eaOf s c rb off)
def insnSw (rt rb : Nat) (off : BitVec 20) : Insn := storeWordFrom rt false (fun c s => eaOf s c rb off)
def insnLwAq (rt rb : Nat) (off : BitVec 20) : Insn := loadWordTo rt (fun c s => eaOf s c rb off)
def insnSwRl (rt rb : Nat) (off : BitVec 20) : Insn := storeWordFrom rt true (fun c s => eaOf s c rb off)

def indexed_ (s : State) (c rb rx sc : Nat) : Word := s.gpr c rb + s.gpr c rx <<< sc

def insnLwx (rt rb rx sc : Nat) : Insn := loadWordTo rt (fun c s => indexed_ s c rb rx sc)
def insnSwx (rt rb rx sc : Nat) : Insn := storeWordFrom rt false (fun c s => indexed_ s c rb rx sc)

/-- LD2: rt is even (R139). -/
def insnLd2 (rt rb : Nat) (off : BitVec 20) : Insn :=
  memInsn 2 (fun c s =>
    let a := eaOf s c rb off
    (loadAll c mkLoad2 [a, a + 1] s).bind (fun q s => .ok q.1 ((s.setGpr c (2 * rt) (q.2.getD 0 0)).setGpr c (2 * rt + 1) (q.2.getD 1 0))))

def insnSd2 (rt rb : Nat) (off : BitVec 20) : Insn :=
  memInsn 2 (fun c s => let a := eaOf s c rb off; storeAll c mkStore2 31 [a, a + 1] [s.gpr c (2 * rt), s.gpr c (2 * rt + 1)] s)

/-- LA and SA: the low word at the lower address (R57). -/
def insnLa (a rb : Nat) (off : BitVec 20) : Insn :=
  memInsn 2 (fun c s =>
    let x := eaOf s c rb off
    (loadAll c mkLoad2 [x, x + 1] s).bind (fun q s => .ok q.1 (s.setAcc c a (q.2.getD 1 0 ++ q.2.getD 0 0))))

def insnSa (a rb : Nat) (off : BitVec 20) : Insn :=
  memInsn 2 (fun c s =>
    let x := eaOf s c rb off
    storeAll c mkStore2 31 [x, x + 1] [(s.accOf c a).setWidth 40, (s.accOf c a >>> 40).setWidth 40] s)

/-! ### Octets (R58-R60, R140) -/

/-- The octet that a pointer and an offset name: its number q'. -/
def octetOf (p : Word) (off : BitVec 20) : Nat :=
  ((((p.toNat / 8 * 5 + p.toNat % 8 : Nat) : Int) + off.toInt) % (5 * 2 ^ 37)).toNat

/-- The ALIGN check comes before the address is formed (R59). -/
def aligned (rb : Nat) (body : Nat → State → MRes (List LeafUpd)) : Insn :=
  memInsn 1 (fun c s => if 5 ≤ (s.gpr c rb).toNat % 8 then .exc (alignExc (corePc s c) (s.gpr c rb)) s else body c s)

def octetFrom (w : Word) (k : Nat) : BitVec 8 := (w >>> (8 * k)).setWidth 8

def loadOctet (rt rb : Nat) (off : BitVec 20) (ext : BitVec 8 → Word) : Insn :=
  aligned rb (fun c s =>
    let q := octetOf (s.gpr c rb) off
    (loadAll c mkOctLoad [BitVec.ofNat 40 (q / 5)] s).bind (fun x s => .ok x.1 (s.setGpr c rt (ext (octetFrom (x.2.headD 0) (q % 5))))))

def insnLbu (rt rb : Nat) (off : BitVec 20) : Insn := loadOctet rt rb off (fun o => o.setWidth 40)
def insnLbs (rt rb : Nat) (off : BitVec 20) : Insn := loadOctet rt rb off (fun o => o.signExtend 40)

def insnSb (rt rb : Nat) (off : BitVec 20) : Insn :=
  aligned rb (fun c s =>
    let q := octetOf (s.gpr c rb) off
    storeAll c mkOctStore (2 ^ (q % 5)) [BitVec.ofNat 40 (q / 5)] [((s.gpr c rt).setWidth 8).setWidth 40 <<< (8 * (q % 5))] s)

/-! ### Atomics (R110, R111, R141, R222) -/

/-- The comparator has matched the address and operands of the leader's atomic (R222). -/
def atomMatched (s : State) (c : Nat) (ws : List Word) : Bool := !isLeader s c || (s.pair (c / 2)).atom == some (ws, true)

/-- The leader offers an atomic's address and operands for comparison, and waits. -/
def offerAtom (c : Nat) (ws : List Word) (s : State) : State :=
  let s := pairBlocked c s
  if (s.pair (c / 2)).atom = some (ws, false) then s else s.setPair (c / 2) { s.pair (c / 2) with atom := some (ws, false) }

/-- An atomic of a kind on the word at rb with operands: it waits for a leader's groups, and for its own address and operands, to be compared and, as a
release, for its stores; it is counted. -/
def atomicInsn (k : MemKind) (rb : Nat) (ops : List Nat) (rl : Bool) (act : Nat → Spot → State → MRes State) : Insn :=
  memInsn 2 (fun c s =>
    let ws := (rb :: ops).map (s.gpr c)
    if !groupsDone s c then .wait (pairBlocked c s)
    else if !atomMatched s c ws then .wait (offerAtom c ws s)
    else released c rl s (fun s =>
      (memCheck c k [s.gpr c rb] s).bind (fun q s =>
        leafFirst c (anyLeaves s c q.1) q.2 s (fun s =>
          match q.1 with
          | p :: _ => (act c p s).bind (fun t _ => .ok q.2 (pmcEvent c 0x17 1 t))
          | [] => .wait s))))

/-- The old word goes to rd, and to a pair's delay entry. -/
def oldTo (c rd : Nat) (x : MRes Word) : MRes State := x.bind (fun w s => .ok ((noteOutside c [w] s).setGpr c rd w) s)

def insnCas (rd rb rs rc : Nat) (rl : Bool) : Insn :=
  atomicInsn mkAtomic rb [rs, rc] rl (fun c p s => oldTo c rd (atomSpot c p .cas (s.gpr c rs) (s.gpr c rc) s))
def insnFadd (rd rb rs : Nat) (rl : Bool) : Insn := atomicInsn mkAtomic rb [rs] rl (fun c p s => oldTo c rd (atomSpot c p .fadd (s.gpr c rs) 0 s))
def insnSwap (rd rb rs : Nat) (rl : Bool) : Insn := atomicInsn mkAtomic rb [rs] rl (fun c p s => oldTo c rd (atomSpot c p .swap (s.gpr c rs) 0 s))

/-- LL sets the reservation on the line of its word. -/
def insnLl (rd rb : Nat) : Insn :=
  atomicInsn mkLL rb [] false (fun c p s => oldTo c rd ((loadSpot c mkLL p s).bind (fun w s => .ok w (setResv c (some (p.pa / 16)) s))))

def insnSc (rd rb rs : Nat) (rl : Bool) : Insn := atomicInsn mkSC rb [rs] rl (fun c p s => oldTo c rd (condStore c p (s.gpr c rs) s))

end Sys2Proof.Machine
end

