-- ==== Sys2Proof/Machine/InsnSys.lean ====
section
/-!
DEFINITION. Branches (R133-R135), calls of higher levels (R90), fences, events and returns (R101, R108, R153, R310, R311), and the operations on control
registers, caches and TLBs (R103, R154, R161, R252, R288).
-/
set_option linter.constructorNameAsVariable false

namespace Sys2Proof.Machine

/-! ### Branches -/

/-- A branch: when it is taken and where it goes; its effect on registers is `link`. -/
def branchInsn (long cond : Bool) (guess : Bool) (taken : Nat → State → Bool) (target : Nat → State → Word) (push ret : Bool)
    (link : Nat → State → State) : Insn :=
  mkInsn long 2 0 false 0 (fun c s =>
    let t := target c s
    let on := taken c s
    .ok { retTo (if on then t else nextPc s c long) with br := some ⟨cond, guess, on, t, push, ret⟩ } (link c s))

def noLink (_ : Nat) (s : State) : State := s
def always_ (_ : Nat) (_ : State) : Bool := true

/-- The link value of CALL and JALR. -/
def linkTo (rd : Nat) (c : Nat) (s : State) : State := s.setGpr c rd (corePc s c + 2)

/-- R171: a conditional branch is guessed taken when its offset is zero or less. -/
def backward {n : Nat} (off : BitVec n) : Bool := decide (off.toInt ≤ 0)

def insnCbz (rs : Nat) (sense : Bool) (off : BitVec 9) : Insn :=
  branchInsn false true (backward off) (fun c s => (s.gpr c rs == 0) != sense) (fun c s => corePc s c + off.signExtend 40) false false noLink
def insnBc (cond : Nat) (off : BitVec 11) : Insn :=
  branchInsn false true (backward off) (fun c s => condTrue (s.flags c) cond) (fun c s => corePc s c + off.signExtend 40) false false noLink
def insnB (off : BitVec 15) : Insn := branchInsn false false true always_ (fun c s => corePc s c + off.signExtend 40) false false noLink
def insnBrL (off : BitVec 30) : Insn := branchInsn true false true always_ (fun c s => corePc s c + off.signExtend 40) false false noLink
def insnCall (off : BitVec 30) : Insn := branchInsn true false true always_ (fun c s => corePc s c + off.signExtend 40) true false (linkTo 31)
def insnJalr (rd rs1 : Nat) (off : BitVec 20) : Insn :=
  branchInsn true false true always_ (fun c s => s.gpr c rs1 + off.signExtend 40) (rd == 31) (rd == 0 && rs1 == 31 && off == 0) (linkTo rd)
def insnBcL (cond : Nat) (off : BitVec 20) : Insn :=
  branchInsn true true (backward off) (fun c s => condTrue (s.flags c) cond) (fun c s => corePc s c + off.signExtend 40) false false noLink

/-! ### Calls, fences, events -/

/-- First parcel of an S-form system instruction: sub-major and bits [11:0]. -/
def sysParcel (sub low : Nat) : Nat := 0x1F * 2 ^ 15 + sub * 2 ^ 12 + low

/-- SVC, PMC or MNC: the cause with the immediate, its EPC the next instruction (R90, R96). -/
def callInsn (sub minPl code nominal : Nat) (routable : Bool) (imm : BitVec 12) : Insn :=
  mkInsn false 3 minPl false (sysParcel sub imm.toNat) (fun c s => .exc ⟨code, nominal, routable, nextPc s c false, imm.toNat, 0, none⟩ s)

def insnSvc (imm : BitVec 12) : Insn := callInsn 0 0 7 1 true imm
def insnPmc (imm : BitVec 12) : Insn := callInsn 1 1 8 2 false imm
def insnMnc (imm : BitVec 12) : Insn := callInsn 2 2 9 3 false imm

def insnNop : Insn := plainInsn false 1 noLink

/-- Loads complete in order here, so a fence waits only for the stores it orders (R108, R222). -/
def fenceInsn (stores : Bool) : Insn :=
  mkInsn false 3 0 false 0 (fun c s => if stores && !storesDone s c then .wait (waitStores c s) else seqRet false c s)

def setLatch (c : Nat) (b : Bool) (s : State) : State := breakQuietOf c (s.updCore c (fun k => { k with latch := b }))

/-- A WAITEV can complete: the wake latch or PEND (R310). -/
def wakeUp (s : State) (c : Nat) : Bool := (s.core c).latch || asyncPending s c

def insnWaitev : Insn :=
  mkInsn false 1 0 false 0 (fun c s =>
    if wakeUp s c then seqRet false c (setLatch c false s) else .ok { retTo (nextPc s c false) with waits := true } s)

def insnSev : Insn :=
  mkInsn false 1 0 false 0 (fun c s =>
    if !storesDone s c then .wait (waitStores c s)
    else seqRet false c ((List.range 8).foldl (fun s n => if s.bit (Reg.EIU_SEV_GROUP c) n then setLatch n true s else s) s))

def insnEret : Insn :=
  mkInsn false 3 1 false (sysParcel 3 (6 * 2 ^ 8)) (fun c s => let t := eretEffect c s; .ok { retTo (corePc t c) with jump := true } t)

/-- BREAK: the cause, or a debug halt after it (R680). -/
def insnBreak : Insn :=
  mkInsn false 3 0 false 0 (fun c s =>
    if s.bit (Reg.CS_DBG_CTL c) 3 && s.bit (Reg.CS_DBG_CTL c) (4 + s.pl c) then .ok { retTo (nextPc s c false) with halts := true } s
    else .exc (breakExc (corePc s c) 0) s)

/-! ### Control registers (R103, R154, R161) -/

/-- First parcel of an L-form system instruction. -/
def longParcel (r op : Nat) : Nat := 0x1F * 2 ^ 15 + 2 ^ 14 + r * 2 ^ 9 + op * 2 ^ 4

/-- A control-register instruction of an opcode: UNDEF for an unassigned number, PRIV below the register's level. -/
def csInsn (r cs op cost : Nat) (act : Nat → State → State) : Insn :=
  { mkInsn true cost ((csMinPl cs).getD 0) (csMinPl cs).isNone (longParcel r op) (fun c s => seqRet true c (act c s)) with early := false }

/-- Registers that show what comes from outside the core's own instructions: a pair's trailer receives these values from the leader (R218, R219; log
row 105). -/
def csOutside (cs : Nat) : Bool :=
  [0x01, 0x02, 0x03, 0x06, 0x08, 0x12, 0x13, 0x14, 0x16, 0x32, 0x33, 0x39].contains cs || (decide (0x40 ≤ cs) && decide (cs < 0x50)) ||
  decide (0x5F ≤ cs)

def insnCsrr (r cs : Nat) : Insn :=
  csInsn r cs 0 1 (fun c s => let q := csRead c cs s; (if csOutside cs then noteOutside c [q.1] q.2 else q.2).setGpr c r q.1)

def insnCsrw (r cs : Nat) : Insn :=
  { csInsn r cs 1 3 (fun c s => csWrite c c cs (s.gpr c r) s) with counter := if 0x40 ≤ cs ∧ cs < 0x50 then some (cs - 0x40) else none }

/-- The word that CSRSET or CSRCLR offers to one field (R161). -/
def setClrField (isSet : Bool) (old r : Word) (f : Fld) : Word :=
  let m := fmask f.hi f.lo
  match f.acc with
  | .rw => m &&& (if isSet then old ||| r else old &&& ~~~r)
  | .lk => m &&& (if isSet then old ||| r else old &&& ~~~r)
  | .w1s => m &&& (if isSet then r else 0)
  | .w1c => m &&& (if isSet then 0 else r)
  | .wo => m &&& (if isSet then r else 0)
  | .ro => 0

def setClrWord (isSet : Bool) (c cs : Nat) (r : Word) (s : State) : Word :=
  (fieldsAt (corePage c + cs)).foldl (fun w f => w ||| setClrField isSet (csView s c cs) r f) 0

def insnCsrset (r cs : Nat) : Insn := csInsn r cs 2 3 (fun c s => csWrite c c cs (setClrWord true c cs (s.gpr c r) s) s)
def insnCsrclr (r cs : Nat) : Insn := csInsn r cs 3 3 (fun c s => csWrite c c cs (setClrWord false c cs (s.gpr c r) s) s)

/-! ### Cache and TLB operations -/

/-- A cache operation of a paced core on a line outside its close memory, which R209 does not bound. -/
def stray (c pa : Nat) (s : State) : State := if isPaced s c && !ownClose s c pa then s.updCore c (fun k => { k with strayed := true }) else s

/-- The line of the virtual word in r, translated for an operation (R288). -/
def lineInsn (r op minPl : Nat) (a : Access) (act : Nat → Spot → State → MRes Unit) : Insn :=
  mkInsn true 3 minPl false (longParcel r op) (fun c s =>
    match translate c a (s.gpr c r) s with
    | .wait s => .wait s
    | .fault e s => .exc e s
    | .ok pa u upd t =>
      (act c ⟨s.gpr c r, pa, u⟩ (stray c pa t)).bind (fun _ s => .ok { retTo (nextPc s c true) with upds := upd.toList } s))

def insnDcClean (r : Nat) : Insn := lineInsn r 4 0 aClean (fun c p s => cacheOp c cmoClean p s)
def insnDcClinv (r : Nat) : Insn := lineInsn r 5 0 aClean (fun c p s => cacheOp c cmoClinv p s)
def insnDcInv (r : Nat) : Insn := lineInsn r 6 1 aInv (fun c p s => cacheOp c cmoInv p s)
def insnIcInv (r : Nat) : Insn := lineInsn r 7 0 aIcInv (fun c p s => .ok () (l1iDrop c (p.pa / 16) s))

def tlbInsn (r op minPl : Nat) (act : Nat → State → State) : Insn :=
  mkInsn true 3 minPl false (longParcel r op) (fun c s => seqRet true c (act c s))

def insnTlbInvVa (r : Nat) : Insn := tlbInsn r 8 1 (fun c s => tlbInvVa c (s.gpr c r) s)
def insnTlbInvAsid (imm : BitVec 12) : Insn := tlbInsn 0 9 1 (fun c s => tlbInvAsid c imm.toNat s)
def insnTlbInvAll : Insn := tlbInsn 0 10 1 tlbInvAll
def insnTlbInvPart (r : Nat) : Insn := tlbInsn r 11 2 (fun c s => tlbInvPart c ((s.gpr c r).toNat % 16) s)

end Sys2Proof.Machine
end

