-- ==== Sys2Proof/Machine/Pairs.lean ====
section
/-!
DEFINITION. Glove pairs (R217-R234): the trailer's retirement of a group, the comparator's two halves and its canary, the release of held stores,
mismatches and self-faults, and draining.
-/
set_option linter.constructorNameAsVariable false

namespace Sys2Proof.Machine

/-! ### Held stores (R222) -/

/-- A held store leaves the pair as the leader's retired stores do; what of it cannot leave yet. -/
def releaseStore (n : Nat) : Nat → StqEnt → State → Option StqEnt × State
  | 0, e, s => (some e, s)
  | k + 1, e, s =>
    if !(s.core (2 * n)).stq.isEmpty then (some e, s)
    else match performEnt (2 * n) e s with
      | .ok none s => (none, s)
      | .ok (some f) s => releaseStore n k f s
      | .wait s => (some e, s)
      | _ => (some e, s)

/-- Held stores leave in program order, as far as they can now; the rest. -/
def releaseStores (n : Nat) : List HeldStore → State → List HeldStore × State
  | [], s => ([], s)
  | h :: t, s =>
    match releaseStore n 2 h.ent s with
    | (none, s) => releaseStores n t s
    | (some e, s) => ({ h with ent := e } :: t, s)

/-! ### Faults (R232, R233) -/

/-- The capture registers: a real mismatch of stores names the first that differs (`d`: its address, the leader's and the trailer's datum). -/
def pairCapture (n g : Nat) (e : DelayEnt) (tsig : Word) (d : Option (Word × Word × Word)) (a b : Bool) (fault : Nat) (s : State) : State :=
  let s := ((s.setReg (Reg.PAIR_FAULT_GROUP n) (nw g)).setReg (Reg.PAIR_FAULT_EPC n) e.epc).setReg (Reg.PAIR_LEAD_SIG n) e.sig
  let x := d.getD (0, 0, 0)
  let s := (((s.setReg (Reg.PAIR_TRAIL_SIG n) tsig).setReg (Reg.PAIR_FAULT_ADDR n) x.1).setReg (Reg.PAIR_LEAD_DATA n) x.2.1).setReg (Reg.PAIR_TRAIL_DATA n) x.2.2
  s.setReg (Reg.PAIR_STAT n) (bset (bset (fset (s.reg (Reg.PAIR_STAT n)) 6 4 fault) 14 a) 15 b)

/-- The record, the pair's event source, and the cause on the core that NOTIFY names unless it is a member (R234). DESIGN CHOICE (log row 106): of two
pairs that notify one core of one cause before it is taken, the cause names the later. -/
def pairReport (n kind g info : Nat) (f : Async → Async) (s : State) : State :=
  let c := s.fld (Reg.PAIR_CTL n) 15 13
  let s := raise (162 + 8 * n) (logErr (.pair n) kind n (nw g) (nw info) s)
  if c / 2 = n then s else updAsync c f s

def stopMember (c : Nat) (s : State) : State :=
  raise (163 + 4 * c) (setRun c .faultStop (s.updCore c (fun k => { k with due := none, io := [] })))

/-- Both cores stop, and the stores of the faulting group and later are discarded. -/
def pairStop (n : Nat) (s : State) : State :=
  let s := stopMember (2 * n + 1) (stopMember (2 * n) s)
  let s := s.setPair n { Pair.reset with leadGroups := (s.pair n).leadGroups }
  s.setReg (Reg.PAIR_STAT n) (bset (bset (s.reg (Reg.PAIR_STAT n)) 1 true) 0 false)

def pairMismatch (n g : Nat) (e : DelayEnt) (tsig : Word) (d : Option (Word × Word × Word)) (s : State) : State :=
  let s := (pairCapture n g e tsig d true true 1 (pairStop n s)).inc (Reg.PAIR_MISMATCH_CNT n)
  pairReport n 0x14 g 0 (fun a => { a with pairMismatch := some n }) s

/-- The cores part: the trailer is an independent stopped core, the leader continues alone, and stores still held leave as they can (R226, R233).
DESIGN CHOICE (log row 107): PAIR_CTL.EN becomes 0 at every split, after a self-fault too. -/
def pairSplit (n : Nat) (s : State) : State :=
  let h := (s.pair n).hold
  let s := (setRun (2 * n + 1) .notStarted s).setBit (Reg.PAIR_CTL n) 0 false
  let s := s.setReg (Reg.PAIR_STAT n) (bset (bset (s.reg (Reg.PAIR_STAT n)) 2 true) 0 false)
  s.setPair n { Pair.reset with hold := h }

/-- PAIR_SELFFAULT (R233). DESIGN CHOICE (log row 108): HALT_BOTH counts no mismatch, though its steps are R232's. -/
def pairSelfFault (n g : Nat) (e : DelayEnt) (tsig : Word) (a b : Bool) (fault : Nat) (s : State) : State :=
  let s := (pairCapture n g e tsig none a b fault s).inc (Reg.PAIR_SELF_CNT n)
  let s := if s.fld (Reg.PAIR_CTL n) 10 9 = 1 then pairStop n s
    else
      let q := releaseStores n (s.pair n).hold s
      pairSplit n (q.2.setPair n { q.2.pair n with hold := q.1 })
  pairReport n 0x15 g fault (fun x => { x with pairSelf := some n }) s

/-! ### Group comparison (R220, R223, R224) -/

/-- The trailer's signature: the leader's, unless a test write corrupts it. -/
def trailSig (e : DelayEnt) (p : Pair) (s : State) : Word := if p.injMismatch then e.sig ^^^ (freeWord s ||| 1) else e.sig

/-- The stores of a group as the comparator sees them: address and datum of each word (R223). -/
def storeWords (l : List HeldStore) : List (Word × Word) := l.flatMap (fun h => h.ent.vals.zipIdx.map (fun v => (h.ent.va + BitVec.ofNat 40 v.2, v.1)))

/-- The first store whose address or datum differs between the leader's hold buffer and the trailer. -/
def storeDiffer (lead trail : List (Word × Word)) : Option (Word × Word × Word) :=
  ((lead.zip trail).find? (fun x => x.1 != x.2)).map (fun x => (x.1.1, x.1.2, x.2.2))

/-- A matched group: its stores leave, the trailer stands after it. The group stays where a store cannot leave yet. -/
def groupMatched (n g : Nat) (e : DelayEnt) (s : State) : State :=
  let p := s.pair n
  let mine := p.hold.takeWhile (fun h => h.group == g)
  let q := releaseStores n mine s
  if q.1.isEmpty then
    let s := q.2.setPair n { p with entries := p.entries.drop 1, hold := p.hold.drop mine.length, blocked := false, injDisagree := false, canaryDone := false }
    adoptCore (2 * n + 1) (2 * n) 0x60 e.after (s.inc (Reg.PAIR_GROUPS n))
  else q.2.setPair n { p with hold := q.1 ++ p.hold.drop mine.length }

/-- The signature with one bit inverted that the canary of group g compares (R224). -/
def canarySig (period g : Nat) (sig : Word) : Word := sig ^^^ nw (2 ^ (g / period % 40))

/-- The trailer retires the oldest group and the comparator compares it: parity, the canary's extra comparison, then the real one, in which each half
compares the signature and every held store. -/
def compareGroup (n : Nat) (s : State) : State :=
  let p := s.pair n
  match p.entries with
  | [] =>
    match p.atom with
    | some (ws, _) => s.setPair n { p with atom := some (ws, true), blocked := false }
    | none => s
  | e :: _ =>
    let g := p.leadGroups - p.entries.length
    let ts := trailSig e p s
    let s := if p.injMismatch then takeFresh s else s
    let mine := p.hold.takeWhile (fun h => h.group == g)
    let d := storeDiffer (storeWords mine) (storeWords mine)
    let real := fun (s : State) =>
      let a := decide (ts ≠ e.sig) || d.isSome
      let b := a != p.injDisagree
      if a && b then pairMismatch n g e ts d s
      else if a != b then pairSelfFault n g e ts a b 4 (s.setPair n { s.pair n with injDisagree := false })
      else groupMatched n g e s
    let period := s.fld (Reg.PAIR_CANARY n) 15 0
    if struck s (.pairEnt n false) then pairSelfFault n g e ts false false 2 (heal (.pairEnt n false) s)
    else if struck s (.pairEnt n true) && !mine.isEmpty then pairSelfFault n g e ts false false 2 (heal (.pairEnt n true) s)
    else if e.badParity then pairSelfFault n g e ts false false 2 s
    else if g % period = 0 && !p.canaryDone then
      let b := decide (canarySig period g e.sig ≠ ts)
      let a := b && !p.injMissCanary
      if a && b then real ((s.setPair n { p with canaryDone := true }).inc (Reg.PAIR_CANARY_CNT n))
      else if decide (ts ≠ e.sig) && !p.injDisagree then real s
      else pairSelfFault n g e ts a b 3 s
    else real s

/-- The trailer may retire a group: the leader is DELAY groups on, or cannot retire further until the group is compared (R220, R681). -/
def trailerMay (s : State) (n : Nat) : Bool :=
  let p := s.pair n
  p.started && (!p.entries.isEmpty || p.atom.isSome) &&
  (decide (s.fld (Reg.PAIR_CTL n) 8 2 < p.entries.length) || p.blocked || p.draining || s.stopped (2 * n) || xaLost s || p.atom.isSome)

/-! ### Draining (R226) -/

def compareAll (n : Nat) : Nat → State → State
  | 0, s => s
  | k + 1, s => if (s.pair n).entries.isEmpty then s else compareAll n k (compareGroup n s)

/-- A draining pair: every group is compared, every held store leaves, and the pair splits; a park that awaited the drain follows (R229). -/
def drainPair (n : Nat) (s : State) : State :=
  let s := compareAll n 81 s
  let p := s.pair n
  if p.started && p.draining && p.entries.isEmpty && p.hold.isEmpty then
    let s := parkNow (2 * n + 1) (pairSplit n s)
    if (s.core (2 * n)).due.isSome then s else parkNow (2 * n) s
  else s

/-- Stores that a split left behind leave as soon as they can. -/
def restStores (n : Nat) (s : State) : State :=
  let p := s.pair n
  if !p.started && !p.hold.isEmpty then let q := releaseStores n p.hold s; q.2.setPair n { q.2.pair n with hold := q.1 } else s

def settlePair (n : Nat) (s : State) : State := restStores n (if (s.pair n).draining then drainPair n s else s)

/-- What a command sets in motion inside the device by the time it ends: retired stores, prefetches, offers of sources, held requests, draining
pairs. -/
def settleAll (s : State) : State :=
  let s := (List.range 8).foldl (fun s c => prefetch c (drainStq c 68 s)) s
  (List.range 4).foldl (fun s n => settlePair n s) (retryHeld (eiuOffers s))

def okSettled (s : State) : Out := ok (settleAll s)

end Sys2Proof.Machine
end

