-- ==== Sys2Proof/Machine/CoreIssue.lean ====
section
/-!
DEFINITION. The instruction that a command stands for, and how a core takes it: at once, or on its grid (R208). Reserved encodings (R125), waking (R310)
and the asynchronous causes (R100, R115, R211).
-/
set_option linter.constructorNameAsVariable false

namespace Sys2Proof.Machine

/-! ### Reserved encodings (R125, R128-R154) -/

def pfld (p : Parcel) (hi lo : Nat) : Nat := p.toNat / 2 ^ lo % 2 ^ (hi - lo + 1)

/-- Reserved operand fields of the MAC class, by op (R144-R146). -/
def macReserved (p q : Parcel) : Bool :=
  let op := pfld q 7 0
  let rd := pfld p 14 10 != 0
  let r1 := pfld p 9 5 != 0
  let r2 := pfld p 4 0 != 0
  let rm := pfld q 9 8
  let b := pfld q 15 13 != 0
  let sh := pfld q 19 16 != 0
  if op ≤ 4 then rd || b || sh || rm == 3
  else if op = 5 then rd || b || sh || rm != 0
  else if op = 6 then rd || r2 || b || sh || rm != 0
  else if op ≤ 8 then rd || r1 || r2 || sh || rm != 0
  else if op ≤ 10 then rd || r1 || b || sh || rm != 0
  else if op ≤ 12 then r1 || r2 || b || rm == 3
  else true

/-- Reserved operand fields of major 1Eh (R148, R149). -/
def fpReserved (p q : Parcel) : Bool :=
  let op := pfld q 7 0
  let rmi := pfld q 10 8
  pfld q 19 11 != 0 || decide (0x0F ≤ op) ||
  ((op == 4 || op == 8 || op == 9 || decide (0x0B ≤ op)) && pfld p 4 0 != 0) ||
  (if op = 8 || op = 9 || op = 10 then rmi != 0 else decide (5 ≤ rmi)) || (op == 10 && pfld p 14 10 != 0)

/-- Major 1Fh (R153, R154). -/
def sysReserved (p q : Parcel) : Bool :=
  if pfld p 14 14 = 0 then pfld p 13 12 == 3 && (decide (8 ≤ pfld p 11 8) || pfld p 7 0 != 0)
  else
    let op := pfld p 8 4
    let r := pfld p 13 9 != 0
    let cs := pfld q 6 0
    let imm := pfld q 18 7 != 0
    pfld p 3 0 != 0 || pfld q 19 19 != 0 ||
    (if op ≤ 3 then imm || (csMinPl cs).isNone
     else if op ≤ 8 || op = 11 then imm || cs != 0
     else if op = 9 then r || cs != 0
     else if op = 10 then r || cs != 0 || imm
     else true)

/-- The parcels spell an instruction that raises UNDEF (R125). -/
def undefined (p q : Parcel) : Bool :=
  let op5 := pfld p 4 0
  let r1 := pfld p 9 5 != 0
  let r2 := pfld p 4 0 != 0
  let rd := pfld p 14 10
  match pfld p 19 15 with
  | 0x0A => if pfld p 9 8 = 3 then pfld p 7 5 != 0 else pfld p 7 6 != 0 || decide (40 ≤ pfld p 5 0)
  | 0x0B => pfld p 4 0 != 0 || (pfld p 9 8 == 3 && rd != 0)
  | 0x0C => decide (3 ≤ op5)
  | 0x10 => pfld q 19 9 != 0 || decide (0x1F ≤ pfld q 7 0) || (decide (0x19 ≤ pfld q 7 0) && decide (pfld q 7 0 ≤ 0x1B) && r2)
  | 0x11 => decide (8 ≤ pfld p 3 0) || (decide (6 ≤ pfld p 3 0) && (rd != 0 || pfld p 4 4 != 0))
  | 0x12 => decide (3 ≤ op5) || (decide (op5 ≤ 1) && r1)
  | 0x13 => decide (2 ≤ op5) || r1
  | 0x14 => decide (3 ≤ op5) || pfld q 19 12 != 0 || decide (39 < pfld q 5 0) || decide (40 < pfld q 5 0 + pfld q 11 6 + 1)
  | 0x15 => pfld q 19 5 != 0 || (pfld q 4 4 == 1 && (r1 || r2))
  | 0x16 => true
  | 0x17 => true
  | 0x18 => decide (8 ≤ op5) || ((op5 == 4 || op5 == 5) && rd % 2 == 1) || ((op5 == 6 || op5 == 7) && decide (8 ≤ rd))
  | 0x19 => decide (3 ≤ op5)
  | 0x1A =>
    let op := pfld p 2 0
    let rs := pfld q 4 0 != 0
    let rc := pfld q 9 5 != 0
    decide (5 ≤ op) || pfld q 19 10 != 0 || (op != 0 && rc) || (op == 3 && (rs || pfld p 4 4 != 0)) || (op == 4 && pfld p 3 3 != 0)
  | 0x1B => decide (2 ≤ op5) || pfld q 19 7 != 0
  | 0x1C => decide (4 ≤ op5) || (op5 == 3 && (pfld p 14 14 != 0 || r1))
  | 0x1D => macReserved p q
  | 0x1E => fpReserved p q
  | 0x1F => sysReserved p q
  | _ => false

/-- The first parcel alone shows that (R113). -/
def undefinedFirst (p : Parcel) : Bool :=
  let op5 := pfld p 4 0
  match pfld p 19 15 with
  | 0x10 | 0x15 | 0x1D | 0x1E => false
  | 0x14 => decide (3 ≤ op5)
  | 0x1A => decide (5 ≤ pfld p 2 0) || (pfld p 2 0 == 3 && pfld p 4 4 != 0) || (pfld p 2 0 == 4 && pfld p 3 3 != 0)
  | 0x1B => decide (2 ≤ op5)
  | 0x1F => if pfld p 14 14 = 0 then sysReserved p 0 else pfld p 3 0 != 0 || decide (12 ≤ pfld p 8 4) || ((pfld p 8 4 == 9 || pfld p 8 4 == 10) && pfld p 13 9 != 0)
  | _ => undefined p 0

/-- A long form (R123). -/
def isLong (p : Parcel) : Bool := decide (0x10 ≤ pfld p 19 15) && (pfld p 19 15 != 0x1F || pfld p 14 14 == 1)

/-! ### The instruction of a command -/

/-- A fetch that is to fault (R157): an instruction that never gets past its fetch. -/
def insnFetchFault : Insn := mkInsn true 3 0 false 0 (fun _ s => .wait s)

def plainInsnOf : Instr → Option (Nat × Insn)
  | .shortRegisterAlu c op rd rs1 rs2 => some (c, insnShortAlu op rd rs1 rs2)
  | .shortImmediate c rd op => some (c, insnShortImm rd op)
  | .accumulatorMove c op => some (c, insnAccMove op)
  | .compare c op rs1 rs2 => some (c, insnCompare op rs1 rs2)
  | .cbz c rs sense off => some (c, insnCbz rs sense off)
  | .bc c cond off => some (c, insnBc cond off)
  | .branch c off => some (c, insnB off)
  | .brL c off => some (c, insnBrL off)
  | .call c off => some (c, insnCall off)
  | .jalr c rd rs1 off => some (c, insnJalr rd rs1 off)
  | .bcL c cond off => some (c, insnBcL cond off)
  | .longRegisterAlu c op f rd rs1 rs2 => some (c, insnLongAlu op f rd rs1 rs2)
  | .immediateAlu c op => some (c, insnImmAlu op)
  | .longImmediate c op => some (c, insnLongImm op)
  | .adr c word rd imm => some (c, insnAdr word rd imm)
  | .bitField c op rd rs1 p w1 => some (c, insnBitField op rd rs1 p w1)
  | .sel c op => some (c, insnSel op)
  | .lw c rt rb off => some (c, insnLw rt rb off)
  | .sw c rt rb off => some (c, insnSw rt rb off)
  | .lwAq c rt rb off => some (c, insnLwAq rt rb off)
  | .swRl c rt rb off => some (c, insnSwRl rt rb off)
  | .ld2 c rt rb off => some (c, insnLd2 rt rb off)
  | .sd2 c rt rb off => some (c, insnSd2 rt rb off)
  | .la c a rb off => some (c, insnLa a rb off)
  | .sa c a rb off => some (c, insnSa a rb off)
  | .lbu c rt rb off => some (c, insnLbu rt rb off)
  | .lbs c rt rb off => some (c, insnLbs rt rb off)
  | .sb c rt rb off => some (c, insnSb rt rb off)
  | .lwx c rt rb rx sc => some (c, insnLwx rt rb rx sc)
  | .swx c rt rb rx sc => some (c, insnSwx rt rb rx sc)
  | .cas c rd rb rs rc _ rl => some (c, insnCas rd rb rs rc rl)
  | .fadd c rd rb rs _ rl => some (c, insnFadd rd rb rs rl)
  | .swapInsn c rd rb rs _ rl => some (c, insnSwap rd rb rs rl)
  | .ll c rd rb _ => some (c, insnLl rd rb)
  | .sc c rd rb rs rl => some (c, insnSc rd rb rs rl)
  | .multiplyAccumulate c op => some (c, insnMac op)
  | .floatingPoint c op => some (c, insnFp op)
  | .fcmp c rs1 rs2 => some (c, insnFcmp rs1 rs2)
  | .svc c imm => some (c, insnSvc imm)
  | .pmc c imm => some (c, insnPmc imm)
  | .mnc c imm => some (c, insnMnc imm)
  | .nop c => some (c, insnNop)
  | .fenceR c => some (c, fenceInsn false)
  | .fenceW c => some (c, fenceInsn true)
  | .fenceA c => some (c, fenceInsn true)
  | .waitev c => some (c, insnWaitev)
  | .sev c => some (c, insnSev)
  | .eret c => some (c, insnEret)
  | .breakInsn c => some (c, insnBreak)
  | .csrr c r cs => some (c, insnCsrr r cs)
  | .csrw c r cs => some (c, insnCsrw r cs)
  | .csrset c r cs => some (c, insnCsrset r cs)
  | .csrclr c r cs => some (c, insnCsrclr r cs)
  | .dcClean c r => some (c, insnDcClean r)
  | .dcClinv c r => some (c, insnDcClinv r)
  | .dcInv c r => some (c, insnDcInv r)
  | .icInv c r => some (c, insnIcInv r)
  | .tlbInvVa c r => some (c, insnTlbInvVa r)
  | .tlbInvAsid c imm => some (c, insnTlbInvAsid imm)
  | .tlbInvAll c => some (c, insnTlbInvAll)
  | .tlbInvPart c r => some (c, insnTlbInvPart r)
  | .undef c p0 p1 => if undefined p0 p1 then 
    some (c, { mkInsn (isLong p0) 3 0 true p0.toNat (fun _ s => .wait s) with early := undefinedFirst p0 }) else none
  | .fetchFault c => some (c, insnFetchFault)
  | _ => none

/-- Numbers of R121 for general registers (w0 holds none) and accumulators. -/
def wNums (l : List Nat) : List Nat := (l.filter (fun r => r != 0)).map (fun r => 0x80 + r)
def aNum (a : Nat) : Nat := 0xC0 + a

/-- The registers an instruction names as sources, as R121 numbers them. -/
def regsRead : Instr → List Nat
  | .shortRegisterAlu _ _ _ a b => wNums [a, b]
  | .shortImmediate _ rd op => wNums (match op with | .liS _ => [] | .mov rs => [rs.val] | _ => [rd.val])
  | .accumulatorMove _ op => match op with | .rda _ a | .rdaHi _ a | .rdaLo _ a => [aNum a] | .clra _ => []
  | .compare _ _ a b => wNums [a, b]
  | .cbz _ r _ _ => wNums [r]
  | .jalr _ _ r _ => wNums [r]
  | .longRegisterAlu _ _ _ _ a b => wNums [a, b]
  | .immediateAlu _ op => wNums (match op with | .alu _ _ _ r _ | .cmpi r _ | .tsti r _ => [r.val])
  | .longImmediate _ op => wNums (match op with | .orz _ r _ => [r.val] | _ => [])
  | .bitField _ op rd r _ _ => wNums (if op = .ins then [rd.val, r.val] else [r.val])
  | .sel _ op => wNums (match op with | .sel _ a b _ => [a.val, b.val] | .setc _ _ => [])
  | .lw _ _ rb _ | .lwAq _ _ rb _ | .lbu _ _ rb _ | .lbs _ _ rb _ | .ld2 _ _ rb _ | .la _ _ rb _ | .ll _ _ rb _ => wNums [rb]
  | .sw _ rt rb _ | .swRl _ rt rb _ | .sb _ rt rb _ => wNums [rt, rb]
  | .sd2 _ rt rb _ => wNums [2 * rt, 2 * rt + 1, rb]
  | .sa _ a rb _ => aNum a :: wNums [rb]
  | .lwx _ _ rb rx _ => wNums [rb, rx]
  | .swx _ rt rb rx _ => wNums [rt, rb, rx]
  | .cas _ _ rb rs rc _ _ => wNums [rb, rs, rc]
  | .fadd _ _ rb rs _ _ | .swapInsn _ _ rb rs _ _ | .sc _ _ rb rs _ => wNums [rb, rs]
  | .multiplyAccumulate _ op =>
    match op with
    | .mulA _ _ x y => wNums [x, y]
    | .mac _ a x y | .msu _ a x y | .macs _ a x y | .msus _ a x y | .pmac a x y => aNum a :: wNums [x, y]
    | .mova _ x => wNums [x]
    | .adda a b | .addas a b => [aNum a, aNum b]
    | .asr a x | .asls a x => aNum a :: wNums [x]
    | .exta _ _ _ a | .extq9 _ _ _ a => [aNum a]
  | .floatingPoint _ op => wNums (match op with
    | .fadd _ a b _ | .fsub _ a b _ | .fmul _ a b _ | .fdiv _ a b _ | .fmin _ a b _ | .fmax _ a b _ => [a.val, b.val]
    | .fma rd a b _ => [rd.val, a.val, b.val]
    | .fsqrt _ a _ | .fneg _ a | .fabs _ a | .cvtIF _ a _ | .cvtFI _ a _ | .cvtQF _ a _ | .cvtFQ _ a _ => [a.val])
  | .fcmp _ a b => wNums [a, b]
  | .csrr _ _ cs => [cs.val]
  | .csrw _ r _ => wNums [r]
  | .csrset _ r cs | .csrclr _ r cs => cs.val :: wNums [r]
  | .dcClean _ r | .dcClinv _ r | .dcInv _ r | .icInv _ r | .tlbInvVa _ r | .tlbInvPart _ r => wNums [r]
  | _ => []

/-- Those it reads besides: the flags, `cs.F40_CTL`, and the exception registers that ERET restores from. -/
def regsImplied : Instr → Nat → State → List Nat
  | .bc _ _ _, _, _ | .bcL _ _ _, _, _ | .sel _ _, _, _ => [0x00]
  | .longRegisterAlu _ op _ _ _ _, _, _ => if op = .adc || op = .sbc then [0x00] else []
  | .floatingPoint _ _, _, _ | .fcmp _ _ _, _, _ => [0x04]
  | .eret _, c, s => [vecNum (s.pl c) + 1, vecNum (s.pl c) + 2]
  | _, _, _ => []

/-- The registers an instruction writes, as R121 numbers them. -/
def regsWritten : Instr → List Nat
  | .shortRegisterAlu _ _ rd _ _ | .shortImmediate _ rd _ | .longRegisterAlu _ _ _ rd _ _ | .adr _ _ rd _ | .bitField _ _ rd _ _ _ => wNums [rd]
  | .accumulatorMove _ op => match op with | .rda rd _ | .rdaHi rd _ | .rdaLo rd _ => wNums [rd] | .clra a => [aNum a]
  | .call _ _ => wNums [31]
  | .jalr _ rd _ _ => wNums [rd]
  | .immediateAlu _ op => match op with | .alu _ _ rd _ _ => wNums [rd] | _ => []
  | .longImmediate _ op => match op with | .li rd _ | .lui rd _ | .orz rd _ _ => wNums [rd]
  | .sel _ op => match op with | .sel rd _ _ _ | .setc rd _ => wNums [rd]
  | .lw _ rt _ _ | .lwAq _ rt _ _ | .lbu _ rt _ _ | .lbs _ rt _ _ | .lwx _ rt _ _ _ => wNums [rt]
  | .ld2 _ rt _ _ => wNums [2 * rt, 2 * rt + 1]
  | .la _ a _ _ => [aNum a]
  | .cas _ rd _ _ _ _ _ | .fadd _ rd _ _ _ _ | .swapInsn _ rd _ _ _ _ | .ll _ rd _ _ | .sc _ rd _ _ _ => wNums [rd]
  | .multiplyAccumulate _ op =>
    match op with
    | .mulA _ a _ _ | .mac _ a _ _ | .msu _ a _ _ | .macs _ a _ _ | .msus _ a _ _ | .pmac a _ _ | .mova a _ | .adda a _ | .addas a _ | .asr a _
    | .asls a _ => [aNum a]
    | .exta _ _ rd _ | .extq9 _ _ rd _ => wNums [rd]
  | .floatingPoint _ op => 0x04 :: (match op with
    | .fadd rd _ _ _ | .fsub rd _ _ _ | .fmul rd _ _ _ | .fdiv rd _ _ _ | .fmin rd _ _ _ | .fmax rd _ _ _ | .fma rd _ _ _
    | .fsqrt rd _ _ | .fneg rd _ | .fabs rd _ | .cvtIF rd _ _ | .cvtFI rd _ _ | .cvtQF rd _ _ | .cvtFQ rd _ _ => wNums [rd.val])
  | .fcmp _ _ _ => [0x04]
  | .csrr _ r _ => wNums [r]
  | .csrw _ _ cs | .csrset _ _ cs | .csrclr _ _ cs => [cs.val]
  | .eret _ => [0x08]
  | _ => []

/-- Instructions that execute only when every older store has left the store queue (R168). -/
def serial : Instr → Bool
  | .csrw _ _ _ | .csrset _ _ _ | .csrclr _ _ _ | .fenceR _ | .fenceW _ | .fenceA _ | .waitev _ | .sev _ | .eret _ | .svc _ _ | .pmc _ _ | .mnc _ _
  | .breakInsn _ | .tlbInvVa _ _ | .tlbInvAsid _ _ | .tlbInvAll _ | .tlbInvPart _ _ | .dcInv _ _ | .icInv _ _ | .cas _ _ _ _ _ _ _
  | .fadd _ _ _ _ _ _ | .swapInsn _ _ _ _ _ _ | .ll _ _ _ _ | .sc _ _ _ _ _ => true
  | _ => false

/-- The instruction of a core command, which reads its registers first (R121). -/
def insnOf (i : Instr) : Option (Nat × Insn) :=
  (plainInsnOf i).map (fun q =>
    let x := if serial i then afterStores q.2 else q.2
    (q.1, { guardReads (fun c s => regsRead i ++ regsImplied i c s) x with dests := regsWritten i }))

/-- A core takes an instruction: an unpaced core executes it, a paced one starts it, to retire at its grid point (R208). -/
def runInsn (i : Instr) (s : State) : State :=
  match insnOf i with
  | none => s
  | some (c, x) =>
    if !mayStart s c then s
    else if isPaced s c then s.updCore c (fun k => { k with due := some (k.grid + x.cost * pacePeriod s c, i) })
    else settleAll (runNow c x s)

/-! ### Waking and asynchronous causes -/

/-- A waiting core completes its WAITEV (R310, R211); a paced core's has retired already. -/
def wakeCore (c : Nat) (s : State) : State :=
  let old := s.updCore c (fun k => { k with pc := k.pc - 1 })
  let s := regrid c (setRun c .running (setLatch c false s))
  boundary c (if isPaced s c then s else leaderGroup [] old c (pmcEvent c 0x01 1 (s.inc (Reg.CS_RET_COUNT c))))

def canWake (s : State) (c : Nat) : Bool :=
  decide ((s.core c).run = .waiting) && !(s.core c).halted && !(s.core c).parked && !isTrailer s c && wakeUp s c

/-- The cause takeable now is taken; a leader's goes into its next delay entry (R219, R221). -/
def enterAsync (c : Nat) (s : State) : State :=
  match asyncNow s c statusCode with
  | none => s
  | some x =>
    let s := takeAsync c x (endInsn c s)
    let s := if isLeader s c then s.setPair (c / 2) { s.pair (c / 2) with cause := some x.1.code } else s
    boundary c s

/-- ASYNCHRONOUS_EXCEPTION (R100, R114): at a boundary; on a paced core the entry is an instruction of cost 3 (R211). -/
def execAsynchronousException (c : Fin 8) (s : State) : Out :=
  let s := eiuOffers s
  let s' := if canWake s c then wakeCore c s else s
  let k := s'.core c
  ok (if decide (k.run = .running) && !k.halted && !k.parked && !k.pacing && !isTrailer s' c && k.due.isNone && !delayFull s' c
        && domState s' c == 0 && (asyncNow s' c statusCode).isSome then
      if isPaced s' c then s'.updCore c (fun k => { k with due := some (entryGrid s' c 0, .asynchronousException c) }) else enterAsync c s'
    else s)

/-- WAKE (R310). -/
def execCoreWake (c : Fin 8) (s : State) : Out :=
  let s := eiuOffers s
  ok (if canWake s c then wakeCore c s else s)

/-- STORE_ERROR_RESPONSE (R115): the oldest unreported failure raises BUS_ERROR; while one is pending, the older of the two stays and the other is
counted. -/
def execStoreErrorResponse (c : Fin 8) (s : State) : Out :=
  ok (match (s.core c).storeErrs with
    | [] => s
    | e :: t =>
      let s' := s.updCore c (fun k => { k with storeErrs := t })
      match (s.core c).async.busErr with
      | none => updAsync c (fun a => { a with busErr := some e }) s'
      | some x => pmcEvent c 0x3F 1 (if e.seq < x.seq then updAsync c (fun a => { a with busErr := some e }) s' else s'))

/-- BRANCH_RESOLUTION (R177, R183, R190): a wrong guess squashes `count` younger instructions, of which those at the addresses `squashed` used the
cloakroom or the tentative TLB; an entry goes when everything it served has. -/
def execBranchResolution (c : Fin 8) (wrong : Bool) (squashed : List Word) (count : Fin 128) (s : State) : Out :=
  ok (if !wrong || predOff s c then s
    else
      let left := fun (l : List Word) => squashed.foldl (fun l p => l.erase p) l
      let k := s.core c
      let cloak := (k.cloak.map (fun e => { e with serves := left e.serves })).filter (fun e => !e.serves.isEmpty)
      let ttlb := k.ttlb.filter (fun t => !squashed.contains t.pc)
      let s := pmcEvent c 0x11 (k.ttlb.length - ttlb.length) (pmcEvent c 0x0C (k.cloak.length - cloak.length) (pmcEvent c 0x06 count s))
      s.updCore c (fun k => { k with cloak := cloak, ttlb := ttlb, replay := left k.replay }))

/-- PACE_WRITEBACK_DONE (R206). -/
def execPaceWritebackDone (c : Fin 8) (s : State) : Out := ok (paceActive c s)

/-- GRID_POINT (R208, R210): the instruction or entry in progress retires, `completed` lattice points after its grid point. -/
def execGridPoint (c : Fin 8) (completed : Nat) (s : State) : Out :=
  let k := s.core c
  match k.due with
  | none => ok s
  | some (r, i) =>
    if !tbRunning s || k.halted || k.parked || decide (k.run ≠ .running) || !isPaced s c then ok s
    else match i with
      | .asynchronousException _ =>
        let n := entryLate s c completed
        let g := entryGrid s c n
        okSettled (enterAsync c (paceLag c n (setGrid c g (advanceTo g s))))
      | i =>
        match insnOf i with
        | none => ok s
        | some (_, x) => okSettled (gridPoint c completed x r s)

/-! ### Pages of cores and pairs -/

/-- CORE_PAGE_STORE (R105). -/
def execCorePageStore (i : Initiator) (c : Fin 8) (cs : Fin 128) (v : Word) (s : State) : Out := okSettled (regCmd i (corePage c + cs) v s)

def execPairEnable (i : Initiator) (n : Fin 4) (v : Word) (s : State) : Out := okSettled (regCmd i (Reg.PAIR_CTL n) (bset v 0 true) s)
def execPairDrain (i : Initiator) (n : Fin 4) (v : Word) (s : State) : Out := okSettled (regCmd i (Reg.PAIR_CTL n) (bset v 0 false) s)
def execPairInjectDisagree (i : Initiator) (n : Fin 4) (v : Word) (s : State) : Out := okSettled (regCmd i (Reg.PAIR_INJECT n) (bset v 3 true) s)
def execPairInjectMissCanary (i : Initiator) (n : Fin 4) (v : Word) (s : State) : Out := okSettled (regCmd i (Reg.PAIR_INJECT n) (bset v 2 true) s)
def execPairInjectParity (i : Initiator) (n : Fin 4) (v : Word) (s : State) : Out := okSettled (regCmd i (Reg.PAIR_INJECT n) (bset v 1 true) s)
def execPairInjectMismatch (i : Initiator) (n : Fin 4) (v : Word) (s : State) : Out := okSettled (regCmd i (Reg.PAIR_INJECT n) (bset v 0 true) s)

/-- GROUP_COMPARE (R220, R223). -/
def execGroupCompare (n : Fin 4) (s : State) : Out := okSettled (if trailerMay s n then compareGroup n s else s)

end Sys2Proof.Machine
end

