-- ==== Sys2Proof/Machine/Cores.lean ====
section
/-!
DEFINITION. The meanings of the core-instruction rows: each is its instruction (`insnOf`) taken by its core (`runInsn`).
-/
set_option linter.constructorNameAsVariable false

namespace Sys2Proof.Machine

/-- SHORT_REGISTER_ALU (R129). -/
def execShortRegisterAlu (c : Fin 8) (op : SAlu) (rd rs1 rs2 : Fin 32) (s : State) : Out := ok (runInsn (.shortRegisterAlu c op rd rs1 rs2) s)

/-- SHORT_IMMEDIATE (R131). -/
def execShortImmediate (c : Fin 8) (rd : Fin 32) (op : SImm) (s : State) : Out := ok (runInsn (.shortImmediate c rd op) s)

/-- ACCUMULATOR_MOVE (R131). -/
def execAccumulatorMove (c : Fin 8) (op : AccMove) (s : State) : Out := ok (runInsn (.accumulatorMove c op) s)

/-- COMPARE (R132). -/
def execCompare (c : Fin 8) (op : CmpOp) (rs1 rs2 : Fin 32) (s : State) : Out := ok (runInsn (.compare c op rs1 rs2) s)

/-- CBZ (R133). -/
def execCbz (c : Fin 8) (rs : Fin 32) (sense : Bool) (off : BitVec 9) (s : State) : Out := ok (runInsn (.cbz c rs sense off) s)

/-- BC (R133). -/
def execBc (c : Fin 8) (cond : Fin 16) (off : BitVec 11) (s : State) : Out := ok (runInsn (.bc c cond off) s)

/-- B (R133). -/
def execBranch (c : Fin 8) (off : BitVec 15) (s : State) : Out := ok (runInsn (.branch c off) s)

/-- BR_L (R135). -/
def execBrL (c : Fin 8) (off : BitVec 30) (s : State) : Out := ok (runInsn (.brL c off) s)

/-- CALL (R135). -/
def execCall (c : Fin 8) (off : BitVec 30) (s : State) : Out := ok (runInsn (.call c off) s)

/-- JALR (R135). -/
def execJalr (c : Fin 8) (rd rs1 : Fin 32) (off : BitVec 20) (s : State) : Out := ok (runInsn (.jalr c rd rs1 off) s)

/-- BC_L (R135). -/
def execBcL (c : Fin 8) (cond : Fin 16) (off : BitVec 20) (s : State) : Out := ok (runInsn (.bcL c cond off) s)

/-- LONG_REGISTER_ALU (R136). -/
def execLongRegisterAlu (c : Fin 8) (op : LAlu) (f : Bool) (rd rs1 rs2 : Fin 32) (s : State) : Out := ok (runInsn (.longRegisterAlu c op f rd rs1 rs2) s)

/-- IMMEDIATE_ALU (R138). -/
def execImmediateAlu (c : Fin 8) (op : ImmOp) (s : State) : Out := ok (runInsn (.immediateAlu c op) s)

/-- LONG_IMMEDIATE (R138). -/
def execLongImmediate (c : Fin 8) (op : LImm) (s : State) : Out := ok (runInsn (.longImmediate c op) s)

/-- ADR (R138). -/
def execAdr (c : Fin 8) (word : Bool) (rd : Fin 32) (imm : BitVec 20) (s : State) : Out := ok (runInsn (.adr c word rd imm) s)

/-- BIT_FIELD (R138). -/
def execBitField (c : Fin 8) (op : BitOp) (rd rs1 : Fin 32) (p w1 : Fin 40) (s : State) : Out := ok (runInsn (.bitField c op rd rs1 p w1) s)

/-- SEL (R138). -/
def execSel (c : Fin 8) (op : SelOp) (s : State) : Out := ok (runInsn (.sel c op) s)

/-- LW (R139). -/
def execLw (c : Fin 8) (rt rb : Fin 32) (off : BitVec 20) (s : State) : Out := ok (runInsn (.lw c rt rb off) s)

/-- SW (R139). -/
def execSw (c : Fin 8) (rt rb : Fin 32) (off : BitVec 20) (s : State) : Out := ok (runInsn (.sw c rt rb off) s)

/-- LW_AQ (R139). -/
def execLwAq (c : Fin 8) (rt rb : Fin 32) (off : BitVec 20) (s : State) : Out := ok (runInsn (.lwAq c rt rb off) s)

/-- SW_RL (R139). -/
def execSwRl (c : Fin 8) (rt rb : Fin 32) (off : BitVec 20) (s : State) : Out := ok (runInsn (.swRl c rt rb off) s)

/-- LD2 (R139). -/
def execLd2 (c : Fin 8) (rt : Fin 16) (rb : Fin 32) (off : BitVec 20) (s : State) : Out := ok (runInsn (.ld2 c rt rb off) s)

/-- SD2 (R139). -/
def execSd2 (c : Fin 8) (rt : Fin 16) (rb : Fin 32) (off : BitVec 20) (s : State) : Out := ok (runInsn (.sd2 c rt rb off) s)

/-- LA (R139). -/
def execLa (c : Fin 8) (a : Fin 8) (rb : Fin 32) (off : BitVec 20) (s : State) : Out := ok (runInsn (.la c a rb off) s)

/-- SA (R139). -/
def execSa (c : Fin 8) (a : Fin 8) (rb : Fin 32) (off : BitVec 20) (s : State) : Out := ok (runInsn (.sa c a rb off) s)

/-- LBU (R140). -/
def execLbu (c : Fin 8) (rt rb : Fin 32) (off : BitVec 20) (s : State) : Out := ok (runInsn (.lbu c rt rb off) s)

/-- LBS (R140). -/
def execLbs (c : Fin 8) (rt rb : Fin 32) (off : BitVec 20) (s : State) : Out := ok (runInsn (.lbs c rt rb off) s)

/-- SB (R140). -/
def execSb (c : Fin 8) (rt rb : Fin 32) (off : BitVec 20) (s : State) : Out := ok (runInsn (.sb c rt rb off) s)

/-- LWX (R142). -/
def execLwx (c : Fin 8) (rt rb rx : Fin 32) (sc : Fin 4) (s : State) : Out := ok (runInsn (.lwx c rt rb rx sc) s)

/-- SWX (R142). -/
def execSwx (c : Fin 8) (rt rb rx : Fin 32) (sc : Fin 4) (s : State) : Out := ok (runInsn (.swx c rt rb rx sc) s)

/-- CAS (R141). -/
def execCas (c : Fin 8) (rd rb rs rc : Fin 32) (aq rl : Bool) (s : State) : Out := ok (runInsn (.cas c rd rb rs rc aq rl) s)

/-- FADD (R141). -/
def execFadd (c : Fin 8) (rd rb rs : Fin 32) (aq rl : Bool) (s : State) : Out := ok (runInsn (.fadd c rd rb rs aq rl) s)

/-- SWAP (R141). -/
def execSwapInsn (c : Fin 8) (rd rb rs : Fin 32) (aq rl : Bool) (s : State) : Out := ok (runInsn (.swapInsn c rd rb rs aq rl) s)

/-- LL (R111). -/
def execLl (c : Fin 8) (rd rb : Fin 32) (aq : Bool) (s : State) : Out := ok (runInsn (.ll c rd rb aq) s)

/-- SC (R111). -/
def execSc (c : Fin 8) (rd rb rs : Fin 32) (rl : Bool) (s : State) : Out := ok (runInsn (.sc c rd rb rs rl) s)

/-- MULTIPLY_ACCUMULATE (R145). -/
def execMultiplyAccumulate (c : Fin 8) (op : MacOp) (s : State) : Out := ok (runInsn (.multiplyAccumulate c op) s)

/-- FLOATING_POINT (R150). -/
def execFloatingPoint (c : Fin 8) (op : FOp) (s : State) : Out := ok (runInsn (.floatingPoint c op) s)

/-- FCMP (R152). -/
def execFcmp (c : Fin 8) (rs1 rs2 : Fin 32) (s : State) : Out := ok (runInsn (.fcmp c rs1 rs2) s)

/-- SVC (R90). -/
def execSvc (c : Fin 8) (imm : BitVec 12) (s : State) : Out := ok (runInsn (.svc c imm) s)

/-- PMC (R90). -/
def execPmc (c : Fin 8) (imm : BitVec 12) (s : State) : Out := ok (runInsn (.pmc c imm) s)

/-- MNC (R90). -/
def execMnc (c : Fin 8) (imm : BitVec 12) (s : State) : Out := ok (runInsn (.mnc c imm) s)

/-- NOP (R153). -/
def execNop (c : Fin 8) (s : State) : Out := ok (runInsn (.nop c) s)

/-- FENCE_R (R108). -/
def execFenceR (c : Fin 8) (s : State) : Out := ok (runInsn (.fenceR c) s)

/-- FENCE_W (R108). -/
def execFenceW (c : Fin 8) (s : State) : Out := ok (runInsn (.fenceW c) s)

/-- FENCE_A (R108). -/
def execFenceA (c : Fin 8) (s : State) : Out := ok (runInsn (.fenceA c) s)

/-- WAITEV (R310). -/
def execWaitev (c : Fin 8) (s : State) : Out := ok (runInsn (.waitev c) s)

/-- SEV (R311). -/
def execSev (c : Fin 8) (s : State) : Out := ok (runInsn (.sev c) s)

/-- ERET (R101). -/
def execEret (c : Fin 8) (s : State) : Out := ok (runInsn (.eret c) s)

/-- BREAK (R153). -/
def execBreakInsn (c : Fin 8) (s : State) : Out := ok (runInsn (.breakInsn c) s)

/-- CSRR (R154). -/
def execCsrr (c : Fin 8) (r : Fin 32) (cs : Fin 128) (s : State) : Out := ok (runInsn (.csrr c r cs) s)

/-- CSRW (R154). -/
def execCsrw (c : Fin 8) (r : Fin 32) (cs : Fin 128) (s : State) : Out := ok (runInsn (.csrw c r cs) s)

/-- CSRSET (R161). -/
def execCsrset (c : Fin 8) (r : Fin 32) (cs : Fin 128) (s : State) : Out := ok (runInsn (.csrset c r cs) s)

/-- CSRCLR (R161). -/
def execCsrclr (c : Fin 8) (r : Fin 32) (cs : Fin 128) (s : State) : Out := ok (runInsn (.csrclr c r cs) s)

/-- DC_CLEAN (R288). -/
def execDcClean (c : Fin 8) (r : Fin 32) (s : State) : Out := ok (runInsn (.dcClean c r) s)

/-- DC_CLINV (R288). -/
def execDcClinv (c : Fin 8) (r : Fin 32) (s : State) : Out := ok (runInsn (.dcClinv c r) s)

/-- DC_INV (R288). -/
def execDcInv (c : Fin 8) (r : Fin 32) (s : State) : Out := ok (runInsn (.dcInv c r) s)

/-- IC_INV (R288). -/
def execIcInv (c : Fin 8) (r : Fin 32) (s : State) : Out := ok (runInsn (.icInv c r) s)

/-- TLB_INV_VA (R252). -/
def execTlbInvVa (c : Fin 8) (r : Fin 32) (s : State) : Out := ok (runInsn (.tlbInvVa c r) s)

/-- TLB_INV_ASID (R252). -/
def execTlbInvAsid (c : Fin 8) (imm : BitVec 12) (s : State) : Out := ok (runInsn (.tlbInvAsid c imm) s)

/-- TLB_INV_ALL (R252). -/
def execTlbInvAll (c : Fin 8) (s : State) : Out := ok (runInsn (.tlbInvAll c) s)

/-- TLB_INV_PART (R252). -/
def execTlbInvPart (c : Fin 8) (r : Fin 32) (s : State) : Out := ok (runInsn (.tlbInvPart c r) s)

/-- UNDEF (R125). -/
def execUndef (c : Fin 8) (p0 p1 : Parcel) (s : State) : Out := ok (runInsn (.undef c p0 p1) s)

/-- FETCH_FAULT (R157). -/
def execFetchFault (c : Fin 8) (s : State) : Out := ok (runInsn (.fetchFault c) s)

end Sys2Proof.Machine
end

