-- ==== Sys2Proof/Machine/Boot.lean ====
section
/-!
DEFINITION. Start-up (chapter 18): reset and strap sampling, the boot sources, the two passes over a Dukar image, the records, the seal and the
release of core 0, the key-hash fuses, the presence window and the commands of the host port.
-/
set_option linter.constructorNameAsVariable false

namespace Sys2Proof.Machine

/-! ### Reset (R619, R620, R700) -/

/-- The registers of `s` that a reset leaves: those of the always-on supply monitors (R656, R660, R700). -/
def keptRegs : List Nat := [Reg.PWR_HALT_CNT, Reg.PWR_VMON, Reg.PWR_VMIN]

/-- The device after a reset from state `s`: everything at its reset value, but the keep store, the fuses, the waiting commands and, unless the
power has just come, the always-on supply monitors with the shedding stage they hold and the JTAG port's registers. -/
def resetDevice (cold : Bool) (s : State) : State :=
  let t : State := { State.reset with pending := s.pending, fresh := s.fresh, keep := s.keep, boot := { Boot.reset with fuses := s.boot.fuses } }
  if cold then t
  else
    let t := { t with pwr := { s.pwr with parking := 0, halted := false, recov := 0 }, jtag := { Jtag.reset with ir := s.jtag.ir, cells := s.jtag.cells } }
    let t := (keptRegs).foldl (fun t a => t.setReg a (s.reg a)) t
    t.setReg Reg.PWR_STATUS (fset (fset 0 6 6 (s.fld Reg.PWR_STATUS 6 6)) 2 0 (s.fld Reg.PWR_STATUS 2 0))

/-- `BSQ_STATUS.STATE`. -/
def bsqState (s : State) : Nat := s.fld Reg.BSQ_STATUS 9 7
def setBsqState (v : Nat) (s : State) : State := s.setFld Reg.BSQ_STATUS 9 7 v
def setBoot (f : Boot → Boot) (s : State) : State := { s with boot := f s.boot }

/-! ### Boot sources (R622, R623) -/

/-- The order of R622: 0 and 1 the QSPI slots, 2 the host port, 3 Cuff. -/
def bootOrder (sel : Nat) : List Nat := match sel with | 0 => [0, 1, 2, 3] | 1 => [2, 0, 1, 3] | 2 => [3, 0, 1, 2] | _ => [0, 1]

/-- The source of the attempt in progress; the host's when the order is exhausted (R649). -/
def bootSource (s : State) : Nat := (bootOrder (s.fld Reg.BSQ_STRAPS 4 3)).getD s.boot.src 2

/-- A failure of R647: its code, the record index and the word offset. -/
def bootFailed (code rec off : Nat) (s : State) : State :=
  ((s.setFld Reg.BSQ_STATUS 3 0 code).setReg Reg.BSQ_FAIL_INFO (nw (rec % 2 ^ 16 * 2 ^ 24 + off % 2 ^ 24))).inc Reg.BSQ_FAIL_CNT

def logBootFail (code : Nat) (s : State) : State := logErr .bsq 0x61 0 (s.reg Reg.BSQ_FAIL_INFO) (nw code) s

/-- An attempt begins: its source is shown as tried, and nothing has been read from it. -/
def beginAttempt (k source slot : Nat) (s : State) : State :=
  let s := if k < 8 then s.setBit Reg.BSQ_SOURCE k true else s
  let s := ((setBsqState 2 s).setFld Reg.BSQ_STATUS 6 5 source).setFld Reg.BSQ_STATUS 4 4 slot
  setBoot (fun b => { b with src := k, img := [], again := [], pos := 16, recIdx := 0, entrySet := false, since := s.tb.pulses, began := false, imgFor := none }) s

/-- The source with index k fails (R624). -/
def sourceFails (k code rec off : Nat) (s : State) : State := logErr .bsq 0x60 k 0 (nw code) (bootFailed code rec off s)

/-- The first source from index k on that can be read; where none is left the sequencer waits for the host (R649). -/
def trySource : Nat → Nat → State → State
  | 0, _, s => s
  | f + 1, k, s =>
    match (bootOrder (s.fld Reg.BSQ_STRAPS 4 3))[k]? with
    | none =>
      let s := logBootFail (s.fld Reg.BSQ_STATUS 3 0) s
      setBoot (fun b => { b with src := 9, img := [], since := s.tb.pulses }) (setBsqState 6 s)
    | some 2 => beginAttempt k 1 0 s
    | some 3 =>
      if cnsLeader s || !strapOk s then trySource f (k + 1) s
      else
        let s := beginAttempt k 2 0 s
        if s.tb.xbLost then trySource f (k + 1) (sourceFails k 1 0 0 s)
        else setBoot (fun b => { b with cufSrc := true }) (cufCtlWrite 30 1 1 (cufCtlWrite 30 0 1 s))
    | some slot =>
      let s := beginAttempt k 0 slot s
      if s.tb.xbLost then trySource f (k + 1) (sourceFails k 1 0 0 s) else s

/-- The attempt in progress fails in pass 1, and the next source is tried. -/
def failPass1 (code rec off : Nat) (s : State) : State := trySource 6 (s.boot.src + 1) (sourceFails s.boot.src code rec off s)

/-- A stop in pass 2 (R647, R648): the records applied stay applied. -/
def stopBoot (code : Nat) (s : State) : State :=
  setBsqState 5 (logBootFail code (bootFailed code s.boot.recIdx s.boot.pos { s with boot := { s.boot with dram := none } }))

/-- Step 6 of R619 begins when the stage is at most 1 (R663). -/
def startPass1 (s : State) : State := if bsqState s = 1 && decide (s.fld Reg.PWR_STATUS 2 0 < 2) then trySource 6 0 s else s

/-- The shedding actions of the stage in force on a device that has just left reset (R656-R658). -/
def shedAtReset (s : State) : State :=
  let g := s.fld Reg.PWR_STATUS 2 0
  let s := (List.range 8).foldl (fun s c =>
    let r := s.fld (Reg.CS_SHED_RANK c) 1 0
    if (decide (2 ≤ g) && r == 2) || (decide (3 ≤ g) && r == 1) then s.updCore c (fun k => { k with parked := true }) else s) s
  if 4 ≤ g then [12, 13, 15, 17, 18].foldl (fun s d => s.setBit (Reg.PWR_DOM d) 11 true) s else s

/-- The timeline of R619 from step 3: straps and fuses are read, SRAM is zero, and pass 1 begins. -/
def runTimeline (x : Straps) (s : State) : State :=
  let s := s.setReg Reg.BSQ_STRAPS (nw (x.bootSel.toNat * 8 + b2n x.leader * 4 + x.id.toNat))
  let s := s.setReg Reg.CNS_ID (nw (b2n x.leader * 4 + x.id.toNat))
  let s := shedAtReset (showFuses s.boot.fuses s)
  let s := if strapOk s then s
    else cnsLog 2 0 0 { s.setBit Reg.CNS_STATUS 2 true with cns := { s.cns with conflictLogged := true } }
  startPass1 (setBsqState 1 s)

/-! ### Pass 1 (R624, R626-R628) -/

def magic : Word := 0x52414B5544
def imgWord (l : List Word) (i : Nat) : Word := l.getD i 0
def imgOctets (l : List Word) : List Nat := (l.map wordOctets).flatten
def toOctets (l : List Nat) : List (BitVec 8) := l.map (fun o => BitVec.ofNat 8 o)

/-- LENGTH of an image. -/
def imgLength (l : List Word) : Nat := fget (imgWord l 2) 31 0

/-- The checks of the header in the order of R627's table: the code and the word of the first that fails. -/
def headerCheck (limit : Nat) (l : List Word) : Option (Nat × Nat) :=
  let w := imgWord l
  let hdr := fun (bad : Bool) (i : Nat) => if bad then some (2, i) else none
  if w 0 ≠ magic then some (1, 0)
  else
    [hdr (fget (w 1) 39 32 != 1 || fget (w 1) 31 24 != 0) 1,
     hdr (fget (w 2) 39 32 != 0 || decide (imgLength l < 20) || decide (limit < imgLength l)) 2,
     hdr (fget (w 3) 39 16 != 0) 3, hdr (fget (w 4) 39 8 != 0) 4,
     if fget (w 4) 7 0 = 0 || fget (w 4) 7 0 = 0x21 then none else some (8, 4)].findSome? id
    |>.or (((List.range 10).map (fun i => hdr (w (5 + i) != 0) (5 + i))).findSome? id)
    |>.or (hdr (fget (w 15) 39 32 != 0 || fget (w 15) 31 0 != crc32c (imgOctets (l.take 15))) 15)

def recType (h : Word) : Nat := fget h 39 32
def recLen (h : Word) : Nat := fget h 23 0
def recKnown (t : Nat) : Bool := (decide (1 ≤ t) && decide (t ≤ 15)) || t == 0xFF
def recSingle (t : Nat) : Bool := t == 1 || t == 5 || t == 6 || t == 8 || t == 10 || t == 11 || t == 14 || t == 15 || t == 0xFF
def ones (x : Nat) : Nat := (List.range 16).foldl (fun n i => n + b2n (x.testBit i)) 0

/-- The rule of R629 on LEN of a known type, whose first body word is `w`. -/
def recLenOk (t len : Nat) (w : Word) : Bool :=
  match t with
  | 1 => len == 1 + 11 * ones (fget w 7 6)
  | 4 => len == 1
  | 5 => len == 1 + 10 * ones (fget w 1 0)
  | 6 => len == 18 + fget w 7 4 && decide (fget w 7 4 ≤ 4)
  | 7 => len == 1 + 19 * fget w 4 0 && decide (fget w 4 0 ≤ 16)
  | 8 => len == 1
  | 9 => decide (2 ≤ len)
  | 10 => len == 1
  | 11 => len == 1
  | 12 => len == 1 + 2 * ones (fget w 7 0) + 4 * ones (fget w 15 8)
  | 13 => len % 3 == 0
  | 14 => len == 27
  | 15 => len == 20
  | 0xFF => len == 1
  | _ => true

/-- The records of an image from word i on: type, word and LEN of each, or the code, record and word of the first breach. `prev` holds the records
already walked, latest first. -/
def walkRecords (l : List Word) (length : Nat) : Nat → Nat → List (Nat × Nat × Nat) → (Nat × Nat × Nat) ⊕ List (Nat × Nat × Nat)
  | 0, i, prev => .inl (3, prev.length, i)
  | f + 1, i, prev =>
    if length ≤ i then .inr prev.reverse
    else
      let h := imgWord l i
      let t := recType h
      let n := recLen h
      if fget h 31 24 ≠ 0 || length < i + 1 + n then .inl (3, prev.length, i)
      else if !recKnown t && decide (t < 128) then .inl (4, prev.length, i)
      else if recKnown t && (!recLenOk t n (imgWord l (i + 1)) || (recSingle t && prev.any (fun r => r.1 == t))) then .inl (3, prev.length, i)
      else walkRecords l length f (i + 1 + n) ((t, i, n) :: prev)

/-- The rules of R628 on the list of records: it ends in SIGNATURE and END, ENTRY is there, and RECORD_COUNT agrees. -/
def listOk (count : Nat) (r : List (Nat × Nat × Nat)) : Bool :=
  r.length == count && r.any (fun x => x.1 == 10) && (r.reverse.take 2).map (·.1) == [0xFF, 15]

/-- The octets of the SIGNATURE body at word i. -/
def sigOctets (l : List Word) (i : Nat) : List Nat := imgOctets ((l.drop (i + 1)).take 20)

def octetsVec (w : Nat) (l : List Nat) : BitVec w := BitVec.ofNat w (l.foldr (fun o acc => o + 256 * acc) 0)

/-- SHA-256 over the words before SIGNATURE at word i (R626). -/
def imgDigest (l : List Word) (i : Nat) : BitVec 256 := Config.sha256 (toOctets (imgOctets (l.take i)))

def vecOctets (n : Nat) (x : Nat) : List Nat := (List.range n).map (fun i => x / 256 ^ i % 256)

/-- The checks of pass 1 in the order of R624: the digest, or the code, record and word of the failure. -/
def pass1 (limit : Nat) (fuses : BitVec 256) (l : List Word) : (Nat × Nat × Nat) ⊕ BitVec 256 :=
  match headerCheck limit l with
  | some (c, w) => .inl (c, 0, w)
  | none =>
    let len := imgLength l
    match walkRecords l len (len + 1) 16 [] with
    | .inl e => .inl e
    | .inr r =>
      let last := r.length - 1
      if !listOk (fget (imgWord l 3) 15 0) r then .inl (3, last, (r.getLast?.getD (0, 0, 0)).2.1)
      else
        let e := len - 2
        let g := len - 23
        let os := sigOctets l g
        let dig := imgDigest l g
        if fget (imgWord l (e + 1)) 39 32 ≠ 0 || fget (imgWord l (e + 1)) 31 0 ≠ crc32c (imgOctets (l.take (e + 1))) then .inl (5, last, e + 1)
        else if fuses ≠ 0 && decide (Config.sha256 (toOctets (os.take 32)) ≠ fuses) then .inl (6, last - 1, g)
        else if ((os.drop 32).take 3).any (fun o => o != 0) || os.getD 99 0 != 0 ||
            !Config.ed25519Verify (octetsVec 256 (os.take 32)) (toOctets (vecOctets 32 dig.toNat)) (octetsVec 512 ((os.drop 35).take 64)) then
          .inl (7, last - 1, g)
        else .inr dig

/-- The largest image of a source: a QSPI slot holds 8,388,608 octets. -/
def sourceLimit (src : Nat) : Nat := if src < 2 then 1677721 else 2 ^ 32 - 1

/-- The words that have come from a host or Cuff source decide the attempt: the first is not MAGIC, the header fails, or the image is whole. -/
def imageIn (s : State) (l : List Word) : Bool :=
  match l with
  | [] => false
  | w :: _ => w != magic || (decide (16 ≤ l.length) && ((headerCheck (sourceLimit (bootSource s)) l).isSome || decide (imgLength l ≤ l.length)))

/-- PASS1_CHECK: `flash` is what the QSPI slot holds in pass 1 and `again` what it holds in pass 2; the words of another source have come already. -/
def pass1Check (flash again : List Word) (s : State) : State :=
  if bsqState s ≠ 2 then s
  else
    let qspi := decide (bootSource s < 2)
    let l := if qspi then flash else s.boot.img
    if !qspi && !imageIn s l then s
    else if qspi && s.tb.xbLost then failPass1 1 0 0 s
    else
      match pass1 (sourceLimit (bootSource s)) s.boot.fuses l with
      | .inl (c, r, w) => failPass1 c r w s
      | .inr d =>
        let v := nw (fget (imgWord l 1) 23 0)
        let s := (((setBsqState 3 s).setReg Reg.BSQ_IMAGE_VER v).setReg Reg.CNS_IMAGE_VER v).setReg Reg.BSQ_IMAGE_LEN (nw (imgLength l))
        setBoot (fun b => { b with digest := d, pos := 16, recIdx := 0, entrySet := false, imgFor := none, began := false, since := s.tb.pulses,
                                   again := if qspi then again.take (imgLength l) else [] }) s

/-! ### Pass 2: the next record -/

/-- The words of pass 2 that have been read: a QSPI slot is read as far as needed. -/
def pass2Has (s : State) (n : Nat) : Bool := bootSource s < 2 || decide (n ≤ s.boot.again.length)

/-- The word of the next record that is applied, and its index: unknown types with bit 7 set are passed over. -/
def nextRecord (s : State) (len : Nat) : Nat → Nat → Nat → Option (Nat × Nat)
  | 0, _, _ => none
  | f + 1, i, k =>
    if len ≤ i || !pass2Has s (i + 1) then none
    else
      let h := imgWord s.boot.again i
      if !recKnown (recType h) && decide (128 ≤ recType h) then nextRecord s len f (i + 1 + recLen h) (k + 1) else some (i, k)

/-- The next record: its word, its index and its body, when it has the type asked for and is well formed and whole. -/
def recordAt (s : State) (t : Nat) : Option (Nat × Nat × List Word) :=
  let len := s.fld Reg.BSQ_IMAGE_LEN 31 0
  if bsqState s ≠ 3 || s.boot.dram.isSome then none
  else
    match nextRecord s len (len + 1) s.boot.pos s.boot.recIdx with
    | none => none
    | some (i, k) =>
      let h := imgWord s.boot.again i
      let n := recLen h
      if recType h = t && fget h 31 24 = 0 && i + 1 + n ≤ len && recLenOk t n (imgWord s.boot.again (i + 1)) && pass2Has s (i + 1 + n) then
        some (i, k, (List.range n).map (fun j => imgWord s.boot.again (i + 1 + j)))
      else none

/-- A state on the way through a record, and the code that has stopped the boot. -/
abbrev Applied := State × Option Nat

def stopIf (c : Bool) (code : Nat) (r : Applied) : Applied := if r.2.isNone && c then (r.1, some code) else r

/-- The block at `a`, as a request of the sequencer reaches it: its domain is open, or is woken first; `none` is DOMAIN_OFF (R358, R359, R646). -/
def seqReach (a : Nat) (s : State) : Option State :=
  match (destOf s a).bind (fun dst => domainOf dst a) with
  | none => some s
  | some d =>
    if domShed s d then none
    else if domState s d = 2 then some (domainOpen busSrv d (requestWake d false s))
    else if domState s d = 1 then some (abortClose d s)
    else some s

/-- A register access of the sequencer: what it answers, where the boot goes on, and the state. -/
def seqAccess (a : Nat) (w : Option Word) (r : Applied) : Word × Applied :=
  if r.2.isSome then (0, r)
  else
    match seqReach a r.1 with
    | none => (0, (r.1, some 9))
    | some s =>
      match regAccess 30 3 a w (if w.isSome then s.setBit Reg.SYS_STATUS 0 false else s) with
      | .done st v t => (v, (t, if st = .ok && (w.isNone || !t.bit Reg.SYS_STATUS 0) then none else some 9))
      | .held =>
        match w with
        | some v => if holdsSplit s a v then (0, (splitEnd (splitWrite 30 ((a - 0x210000) / 0x1000) v s), none)) else (0, (s, some 9))
        | none => (0, (s, some 9))

/-- A register write of the sequencer (R629, R633); a write of the stage split waits for the sequence of R289. -/
def pokeReg (a : Nat) (v : Word) (r : Applied) : Applied := (seqAccess a (some v) r).2

/-- A register read of the sequencer. -/
def peekReg (a : Nat) (r : Applied) : Word × Applied := seqAccess a none r

def pokes : List (Nat × Word) → Applied → Applied
  | [], r => r
  | (a, v) :: t, r => pokes t (pokeReg a v r)

/-- The record at index k with word i has been applied. -/
def recordDone (i k n : Nat) (s : State) : State :=
  retryHeld (setBoot (fun b => { b with pos := i + 1 + n, recIdx := k + 1, since := s.tb.pulses }) (s.inc Reg.BSQ_RECORD_CNT))

/-- The row of record type t: the next record, if it is one, is applied by `f`; a failure stops the boot at it. -/
def applyRecord (t : Nat) (f : List Word → Applied → Applied) (s : State) : State :=
  match recordAt s t with
  | none => s
  | some (i, k, b) =>
    match f b (s, none) with
    | (s, none) => recordDone i k b.length s
    | (s, some c) => stopBoot c (setBoot (fun x => { x with pos := i, recIdx := k }) s)

/-! ### The records (R629, R630, R632) -/

/-- The channels of a word-0 mask whose bit for channel n is 6 + n. -/
def dramChannels (w : Word) : List Nat := (List.range 2).filter (fun n => bget w (6 + n))

def dramWrites (b : List Word) : List (Nat × Nat) → List (Nat × Word)
  | [] => []
  | (j, n) :: t =>
    let w := fun i => b.getD (1 + 11 * j + i) 0
    [(Reg.DMC_GEOM n, w 0), (Reg.DMC_REFRESH n, w 1)] ++ (List.range 8).map (fun i => (Reg.DMC_TIM_0 n + i, w (2 + i))) ++ [(Reg.DMC_CTL n, w 10)]
      ++ dramWrites b t

def indexed (l : List Nat) : List (Nat × Nat) := (List.range l.length).zip l

def applyDram (b : List Word) (r : Applied) : Applied :=
  let w := b.getD 0 0
  let r := pokes (dramWrites b (indexed (dramChannels w)))
    (stopIf (fget w 39 8 != 0) 9 r)
  pokes [(Reg.DMC_ILV 0, nw (fget w 5 4)), (Reg.SYS_MAP_DRAM, nw (fget w 3 0))] r

/-- The sequencer waits for READY or TRAIN_FAIL on every channel with EN = 1, for at most 20 ms (R629, R633). -/
def dramPoll (s : State) : State :=
  match s.boot.dram with
  | none => s
  | some t =>
    let on := (List.range 2).filter (fun n => s.bit (Reg.DMC_CTL n) 0)
    if on.any (fun n => s.bit (Reg.DMC_STATUS n) 2) then stopBoot 12 s
    else if on.all (fun n => s.bit (Reg.DMC_STATUS n) 1) then
      let i := s.boot.pos
      recordDone i s.boot.recIdx (recLen (imgWord s.boot.again i)) (setBoot (fun b => { b with dram := none }) s)
    else if t + 20001 ≤ s.tb.pulses then stopBoot 12 s
    else s

/-- The record DRAM_TIMING: its writes, then the wait. -/
def recordDram (s : State) : State :=
  match recordAt s 1 with
  | none => s
  | some (i, k, b) =>
    match applyDram b (s, none) with
    | (s, none) => dramPoll (setBoot (fun x => { x with pos := i, recIdx := k, dram := some s.tb.pulses }) s)
    | (s, some c) => stopBoot c (setBoot (fun x => { x with pos := i, recIdx := k }) s)

def applyPinmux (b : List Word) (r : Applied) : Applied :=
  b.foldl (fun r v =>
    let l := fget v 13 8
    let a := Reg.SYS_PINMUX 0 + l / 10
    let r := stopIf (fget v 39 14 != 0 || fget v 7 4 != 0 || decide (47 < l)) 9 r
    pokeReg a (fset (r.1.reg a) (4 * (l % 10) + 3) (4 * (l % 10)) (fget v 3 0)) r) r

def applyRoutes (b : List Word) (r : Applied) : Applied :=
  b.foldl (fun r v =>
    pokes [(Reg.FAB_RT_SEL, nw (fget v 25 16)), (Reg.FAB_RT_DATA, nw (fget v 15 0))] (stopIf (fget v 39 26 != 0) 9 r)) r

def applySplit (b : List Word) (r : Applied) : Applied :=
  let w := b.getD 0 0
  (List.range 4).foldl (fun r n =>
    pokeReg (Reg.HS_SPLIT n) (nw (fget w (4 * n + 3) (4 * n))) r) (stopIf (fget w 39 16 != 0) 9 r)

def cuffWrites (b : List Word) : List (Nat × Nat) → List (Nat × Word)
  | [] => []
  | (j, n) :: t =>
    let w := fun i => b.getD (1 + 10 * j + i) 0
    [(Reg.CUF_VCCFG n, w 0), (Reg.CUF_TIMERS n, w 1)] ++ (List.range 8).map (fun v => (Reg.CUF_WIN n v, w (2 + v))) ++ cuffWrites b t

def applyCuff (b : List Word) (r : Applied) : Applied :=
  let w := b.getD 0 0
  let ports := (List.range 2).filter (fun n => bget w n)
  let r := pokes (cuffWrites b (indexed ports)) (stopIf (fget w 39 2 != 0) 9 r)
  (setBoot (fun x => { x with cufMask := fget w 1 0 }) r.1, r.2)

/-- A link of a CONSORT record: its two ends as (ID, port). -/
structure Link where
  a : Nat × Nat
  b : Nat × Nat
deriving DecidableEq, Repr

def linkOf (w : Word) : Link := ⟨(fget w 7 6, fget w 5 5), (fget w 4 3, fget w 2 2)⟩

/-- The port of member x toward member y over a direct link. -/
def linkPort (ls : List Link) (x y : Nat) : Option Nat :=
  ls.findSome? (fun l => if l.a.1 = x && l.b.1 = y then some l.a.2 else if l.b.1 = x && l.a.1 = y then some l.b.2 else none)

/-- The lowest-ID member linked to both (R417). -/
def relayOf (ls : List Link) (x y : Nat) : Option Nat := (List.range 4).find? (fun z => (linkPort ls x z).isSome && (linkPort ls y z).isSome)

def distinct (l : List (Nat × Nat)) : Bool := match l with | [] => true | x :: t => !t.contains x && distinct t

/-- The checks of R630 and R417. -/
def consortOk (own members : Nat) (ls : List Link) : Bool :=
  members.testBit 0 && members.testBit own &&
  ls.all (fun l => members.testBit l.a.1 && members.testBit l.b.1 && l.a.1 != l.b.1) &&
  distinct (ls.flatMap (fun l => [l.a, l.b])) &&
  (List.range 4).all (fun x => (List.range 4).all (fun y =>
    (ls.filter (fun l => l.a.1 == x && l.b.1 == y || l.b.1 == x && l.a.1 == y)).length ≤ 1 &&
    (x == y || !members.testBit x || !members.testBit y || (linkPort ls x y).isSome || (relayOf ls x y).isSome)))

def applyConsort (b : List Word) (r : Applied) : Applied :=
  let w := b.getD 0 0
  let own := ownId r.1
  let members := fget w 3 0
  let n := fget w 7 4
  let ws := (b.drop 1).take n
  let ls := ws.map linkOf
  let r := stopIf (fget w 39 8 != 0 || ws.any (fun v => fget v 39 8 != 0 || fget v 1 0 != 0) || !consortOk own members ls) 11 r
  let expose := (List.range 4).map (fun q => (Reg.CNS_EXPOSE q, b.getD (1 + n + 4 * own + q) 0))
  let peers := ((List.range 4).filter (fun m => members.testBit m && m != own)).map (fun m =>
    match linkPort ls own m with
    | some p => (Reg.CNS_PEER m, nw (2 + p))
    | none => (Reg.CNS_PEER m, nw (4 + ((linkPort ls own ((relayOf ls own m).getD 0)).getD 0))))
  let ends := ls.flatMap (fun l => [(l.a, l.b), (l.b, l.a)])
  let far := (List.range 2).foldl (fun m p => match ends.find? (fun e => e.1 == (own, p)) with | some e => SMap.insert p e.2 m | none => m) []
  let r := ({ r.1 with cns := { r.1.cns with far := far } }, r.2)
  pokes ((Reg.CNS_CFG, nw members) :: expose ++ [(Reg.CNS_SERVO_CTL, b.getD (17 + n) 0)] ++ peers) r

def applyPartition (b : List Word) (r : Applied) (j : Nat) : Applied :=
  let w := fun i => b.getD (1 + 19 * j + i) 0
  let f := fget (w 0) 4 0
  let bad := fget (w 0) 39 13 != 0 || fget (w 0) 7 5 != 0 || decide (15 < fget (w 0) 12 8) || fget (w 2) 39 24 != 0
  let r := pokes [(Reg.SEG_CMD_ARG0, w 1), (Reg.SEG_CMD_ARG1, nw (fget (w 0) 12 8 * 2 ^ 24 + fget (w 2) 23 0)), (Reg.SEG_CMD, nw (f * 32 + 1))] (stopIf bad 9 r)
  let r := stopIf (r.1.fld Reg.SEG_CMD_RESULT 3 0 != 0) 9 r
  pokes ((List.range 16).map (fun i => (Reg.SEF_WIN_A f 0 + i, w (3 + i)))) r

def applyPartitions (b : List Word) (r : Applied) : Applied :=
  let w := b.getD 0 0
  (List.range (fget w 4 0)).foldl (applyPartition b) (stopIf (fget w 39 5 != 0) 9 r)

def applyShedRanks (b : List Word) (r : Applied) : Applied :=
  let w := b.getD 0 0
  pokes ((List.range 8).map (fun c => (Reg.CS_SHED_RANK c, nw (fget w (2 * c + 1) (2 * c))))) (stopIf (fget w 39 16 != 0) 9 r)

/-- A destination of PAYLOAD_LOAD (R632): one responding part of close memory, stage memory or DRAM whose channels are READY. -/
def payloadOk (s : State) (d n : Nat) : Bool :=
  (leavesPart s d n).isNone &&
  (match regionAt s d with
   | some (.close _) => true
   | some .stage => true
   | some .dram => (List.range ((d % 16 + n + 15) / 16)).all (fun i => s.bit (Reg.DMC_STATUS (dramRoute s (d / 16 * 16 + 16 * i)).1) 1)
   | _ => false)

def applyPayload (b : List Word) (r : Applied) : Applied :=
  let d := (b.getD 0 0).toNat
  let ws : Line := (b.drop 1).map (fun v => ⟨v, .good⟩)
  let r := stopIf (decide (2 ^ 34 ≤ d) || !payloadOk r.1 d ws.length) 10 r
  if r.2.isSome then r
  else
    match seqReach d r.1, regionAt r.1 d with
    | none, _ => (r.1, some 9)
    | some s, some (.close c) => ((closeServe (mkReq ⟨30, 3, 0⟩ 1 d ws.length .cas false 0 ws) c s).2, none)
    | some s, _ =>
      let q := cohWrite 11 (ws.length / 16 + 2) d (2 ^ (5 * ws.length) - 1) ws s
      (q.2, if q.1 = .ok then none else some 9)

def applyEntry (b : List Word) (r : Applied) : Applied :=
  let v := b.getD 0 0
  (setBoot (fun x => { x with entrySet := true }) ((r.1.setReg (Reg.BSQ_CORE_ENTRY 0) v).setReg Reg.BSQ_ENTRY v), r.2)

def applyClocks (b : List Word) (r : Applied) : Applied :=
  let w := b.getD 0 0
  pokeReg Reg.TB_TICK_FS (if bget w 0 then 1107214 else 1017253) (stopIf (fget w 39 1 != 0) 9 r)

def applyAudio (b : List Word) (r : Applied) : Applied :=
  let w := b.getD 0 0
  let gs := (List.range 8).filter (fun g => bget w g)
  let ps := (List.range 8).filter (fun p => bget w (8 + p))
  let r := (indexed gs).foldl (fun r e =>
    let r := pokes [(Reg.TB_RGEN_NUM e.2, b.getD (1 + 2 * e.1) 0), (Reg.TB_RGEN_DEN e.2, b.getD (2 + 2 * e.1) 0)] r
    pokeReg (Reg.TB_RGEN_CTL e.2) (bset (r.1.reg (Reg.TB_RGEN_CTL e.2)) 0 true) r) (stopIf (fget w 39 16 != 0) 9 r)
  (indexed ps).foldl (fun r e =>
    let v := fun i => b.getD (1 + 2 * gs.length + 4 * e.1 + i) 0
    pokes [(Reg.AUD_CTL e.2, v 0), (Reg.AUD_FMT e.2, v 1), (Reg.AUD_SLOT_OUT e.2, v 2), (Reg.AUD_SLOT_IN e.2, v 3)] (stopIf (bget (v 0) 0) 9 r)) r

/-- A REGISTER_POKE address (R632). -/
def pokeOk (s : State) (a : Nat) : Bool :=
  decide (regionAt s a = some .regs) && pageAssigned (regPage a) && regPage a != 1 && (regPage a != 0x7f || a == Reg.HPT_CTL)

def applyPoke (b : List Word) (r : Applied) : Applied :=
  (List.range (b.length / 3)).foldl (fun r j =>
    let a := (b.getD (3 * j) 0).toNat
    let v := b.getD (3 * j + 1) 0
    let m := b.getD (3 * j + 2) 0
    let r := stopIf (!pokeOk r.1 a) 10 r
    if m = BitVec.allOnes 40 then pokeReg a v r
    else
      let q := peekReg a r
      pokeReg a ((q.1 &&& ~~~m) ||| (v &&& m)) q.2) r

def applyFingertip (b : List Word) (r : Applied) : Applied :=
  pokes ([(Reg.FGT_KEYS, b.getD 0 0), (Reg.FGT_SCAN, b.getD 1 0), (Reg.FGT_AIN_EN, b.getD 2 0)] ++
    (List.range 24).map (fun j => (Reg.FGT_AIN_CFG j, b.getD (3 + j) 0))) r

/-! ### END, the seal and the release of core 0 (R625, R631, R634, R635) -/

/-- The words of the CUFF, CONSORT and CLOCKS records, whole and in image order. -/
def fingerprintWords (l : List Word) (r : List (Nat × Nat × Nat)) : List Word :=
  (r.filter (fun x => x.1 == 5 || x.1 == 6 || x.1 == 11)).flatMap (fun x => (l.drop x.2.1).take (1 + x.2.2))

/-- Ports enabled for the Cuff source go down, and the ports of the CUFF record are enabled. -/
def sealPort (s : State) (n : Nat) : State :=
  let s := if s.boot.cufSrc then cufCtlWrite 30 n (bset (s.reg (Reg.CUF_CTL n)) 0 false) s else s
  if s.boot.cufMask.testBit n then cufCtlWrite 30 n (bset (s.reg (Reg.CUF_CTL n)) 0 true) s else s

/-- The seal, and core 0. -/
def sealDevice (s : State) : State :=
  let s := ((s.setBit Reg.BSQ_STATUS 10 true).setBit Reg.FAB_STATUS 0 true).setReg Reg.BSQ_SEAL_TICK s.nowLo
  let s := if cnsLeader s && strapOk s then (s.setBit Reg.CNS_STATUS 6 true).setFld Reg.CNS_STATUS 12 9 1 else s
  let s := sealPort (sealPort (sendHellos s) 0) 1
  runCore 0 (s.reg (Reg.BSQ_CORE_ENTRY 0)) (setBsqState 4 s)

/-- The records of pass 2, when they are well formed. -/
def pass2Records (s : State) : Option (List (Nat × Nat × Nat)) :=
  let len := s.fld Reg.BSQ_IMAGE_LEN 31 0
  match walkRecords s.boot.again len (len + 1) 16 [] with
  | .inl _ => none
  | .inr r => some r

/-- Register writes that blocks have accepted have not all completed: the seal takes effect after them (R28). -/
def sealWaits (s : State) : Bool := s.split.isSome || s.ports.held.any (fun p => p.code == 1 && regionAt s p.addr == some .regs)

/-- The row END: after the last record the digests are compared; a stream whose records have come apart ends here as well. -/
def recordEnd (s : State) : State :=
  let len := s.fld Reg.BSQ_IMAGE_LEN 31 0
  if bsqState s ≠ 3 || s.boot.dram.isSome || !pass2Has s len || sealWaits s then s
  else
    match pass2Records s with
    | none => stopBoot 13 s
    | some r =>
      let sig := ((r.find? (fun x => x.1 == 15)).getD (0, 0, 0)).2.1
      if sig = 0 || imgDigest s.boot.again sig ≠ s.boot.digest then stopBoot 13 s
      else
        match recordAt s 0xFF with
        | none => s
        | some _ =>
          if !s.boot.entrySet then stopBoot 14 s
          else
            let fp := nw (crc32c (imgOctets (fingerprintWords s.boot.again r)))
            sealDevice ((s.inc Reg.BSQ_RECORD_CNT).setReg Reg.CNS_FINGERPRINT fp)

/-- BOOT_SOURCE_TIMEOUT (R623, R625, R629): a host is silent for 1 s, no IMAGE_FOR comes within 1 s, a stream pauses for 10 ms, or DRAM is not READY
after 20 ms. -/
def bootTimeout (s : State) : State :=
  if s.boot.dram.isSome then dramPoll s
  else if bsqState s ≠ 2 && bsqState s ≠ 3 then s
  else
    let src := bootSource s
    let lim := if src = 2 || (src = 3 && s.boot.imgFor.isNone) then 1000001 else 10001
    let whole := if bsqState s = 2 then imageIn s s.boot.img else pass2Has s (s.fld Reg.BSQ_IMAGE_LEN 31 0)
    if src < 2 || whole || s.tb.pulses < s.boot.since + lim then s
    else if bsqState s = 2 then failPass1 1 0 s.boot.img.length s
    else stopBoot 13 s

/-! ### The fuses and the presence window (R638, R639) -/

/-- Programming ends; `got` is what the fuses read back. -/
def fuseDone (got : BitVec 256) (s : State) : State :=
  match s.boot.prog with
  | none => s
  | some h =>
    let s := setBoot (fun b => { b with fuses := got, prog := none }) (s.setBit Reg.BSQ_FUSE_STAT 1 false)
    if got = h then s else logErr .bsq 0x62 0 0 0 (s.setBit Reg.BSQ_FUSE_STAT 2 true)

def presenceOpens (s : State) : State :=
  raise 142 (setBoot (fun b => { b with presAt := s.tb.pulses }) ((s.setFld Reg.BSQ_PRESENCE 16 15 3).inc Reg.BSQ_PRESENCE_CNT))

def presenceCloses (low : Bool) (s : State) : State :=
  if presenceOpen s && decide (s.boot.presAt + 30000000 ≤ s.tb.pulses) then s.setFld Reg.BSQ_PRESENCE 16 15 (b2n low) else s

/-! ### The host port (R642-R645) -/

def hostOpcode (r : List Word) : Nat := fget (r.headD 0) 39 32
def hostArg (r : List Word) (i : Nat) : Word := r.getD (1 + i) 0

/-- A response: header, data and CRC (R642). -/
def respondHost (r : List Word) (result : Nat) (data : List Word) (s : State) : State :=
  let ws := nw (hostOpcode r * 2 ^ 32 + fget (r.headD 0) 31 24 * 2 ^ 24 + result * 2 ^ 20 + data.length) :: data
  hostRespond (ws ++ [nw (crc32c (imgOctets ws))]) s

/-- The request at the front has been performed. -/
def popHost (r : List Word) (s : State) : State :=
  let s := setBoot (fun b => { b with reqs := b.reqs.drop 1, hostWait := none }) s
  s.setHpt { s.hpt with req := s.hpt.req.drop r.length }

def hostAssigned (op : Nat) : Bool := op == 1 || op == 2 || op == 3 || op == 0x10 || op == 0x11 || (decide (0x20 ≤ op) && decide (op ≤ 0x24))

/-- Requests with an unassigned opcode at the front are answered at once. -/
def answerBadOps : Nat → State → State
  | 0, s => s
  | f + 1, s =>
    match s.boot.reqs with
    | r :: _ => if hostAssigned (hostOpcode r) || 60 < s.hpt.rsp.length then s else answerBadOps f (respondHost r 1 [] (popHost r s))
    | [] => s

/-- NARGS agrees with the words sent and lies in the command's range. -/
def hostArgsOk (r : List Word) (lo hi : Nat) : Bool :=
  fget (r.headD 0) 5 0 == r.length - 1 && decide (lo ≤ r.length - 1) && decide (r.length - 1 ≤ hi) && fget (r.headD 0) 23 6 == 0

/-- The sequencer takes an image from the host, or waits for one (R645, R649). -/
def hostImage (s : State) : Bool :=
  ((bsqState s == 2 || bsqState s == 3) && s.fld Reg.BSQ_STATUS 6 5 == 1) || bsqState s == 6

/-- A host command: the request at the front of the queue, if it has this opcode and the response queue has room; argument range, then gate, then the
action (R643). -/
def hostCommand (op lo hi : Nat) (gate : State → Bool) (act : List Word → State → State) (s : State) : State :=
  match s.boot.reqs with
  | [] => s
  | r :: _ =>
    if hostOpcode r ≠ op || s.boot.hostWait.isSome || 58 < s.hpt.rsp.length then s
    else
      answerBadOps 64 (
        if !hostArgsOk r lo hi then respondHost r 2 [] (popHost r s)
        else if (!s.bit Reg.HPT_CTL 0 && op ≠ 1 && op ≠ 2 && !(op == 3 && hostImage s)) || !gate s then respondHost r 3 [] (popHost r s)
        else act r s)

def always (_ : State) : Bool := true
def debugUnlocked (s : State) : Bool := s.bit Reg.BSQ_DEBUG 0

def hostStatusAct (r : List Word) (s : State) : State :=
  let v := fun a => regView s 30 a
  respondHost r 0 [v Reg.BSQ_STATUS, v Reg.BSQ_FAIL_INFO, v Reg.BSQ_PRESENCE, v Reg.BSQ_DEBUG] (popHost r s)

/-- The words of a stream that has come so far, with those of one more chunk; nothing beyond the image's end is kept. -/
def addChunk (l c : List Word) : List Word :=
  let t := l ++ c
  if 16 ≤ t.length && (headerCheck (sourceLimit 2) t).isNone then t.take (imgLength t) else t

def streamAct (r : List Word) (s : State) : State :=
  if !hostImage s then respondHost r 5 [] (popHost r s)
  else
    let two := bsqState s == 3
    let l := if two then s.boot.again else if bsqState s = 6 then [] else s.boot.img
    let answer := fun (code n : Nat) (s : State) => respondHost r code [nw ((if two then 2 else 1) * 2 ^ 38 + n)] (popHost r s)
    if fget (hostArg r 0) 31 0 ≠ l.length then answer 6 l.length s
    else
      let s := if bsqState s = 6 then beginAttempt 9 1 0 s else s
      let t := if two then (l ++ r.drop 2).take (s.fld Reg.BSQ_IMAGE_LEN 31 0) else addChunk l (r.drop 2)
      let s := setBoot (fun b => if two then { b with again := t, since := s.tb.pulses } else { b with img := t, since := s.tb.pulses }) s
      answer 0 t.length s

/-- The fabric access of READ_WORD or WRITE_WORD has ended. -/
def hostAnswer (r : List Word) (st : FStatus) (d : Line) (s : State) : State :=
  let s := popHost r s
  if st ≠ .ok then respondHost r 4 [nw (statusCode st)] s
  else respondHost r 0 (if hostOpcode r = 0x10 then [(d.getD 0 MWord.zero).v] else []) s

/-- Stands in `hostWait` and `Jtag.wait` for the tag of an access that its interface still holds. -/
def heldTag : Nat := 256

/-- An access of endpoint 30: the tag it waits for, when its response is not there yet. -/
def access30 (code a : Nat) (data : Line) (s : State) : Option Nat × State :=
  let t := freeTag? s 30
  let n := (s.ni 30).held.length
  let s := sendIo ⟨30, 3, 0⟩ code a 1 .cas none data s
  if n < (s.ni 30).held.length then (some heldTag, s)
  else match t with
  | none => (none, s)
  | some t =>
    if (tagOf s 30 t).st ≠ .busy then (none, s)
    else if s.fab.inflight.any (fun p => p.dst == 30 && p.tag == t) then (none, takeResponse busSrv 30 t code s)
    else (some t, s)

def hostAccess (r : List Word) (s : State) : State :=
  if 2 ^ 34 ≤ (hostArg r 0).toNat then hostAnswer r .decode [] s
  else
    match access30 (if hostOpcode r = 0x10 then 0 else 1) (hostArg r 0).toNat (if hostOpcode r = 0x10 then [] else [⟨hostArg r 1, .good⟩]) s with
    | (some t, s) => setBoot (fun b => { b with hostWait := some (t, r) }) s
    | (none, s) => retryHeld (hostAnswer r s.resp.status s.resp.data s)

/-- The completion of endpoint 30's tag t serves the host command that waits for it. -/
def hostTagDone (t : Nat) (st : FStatus) (d : Line) (s : State) : State :=
  match s.boot.hostWait with
  | some (u, r) => if u = t then answerBadOps 64 (hostAnswer r st d s) else s
  | none => s

def keepHostAct (op : Nat) (r : List Word) (s : State) : State :=
  let q := keepCmd op s
  respondHost r 7 [nw q.1] (popHost r q.2)

/-- FACTORY_WRITE: words stored one by one from the address, up to the first failure. -/
def factoryWords (o : Nat) : Nat → List Word → State → Option (FStatus × Nat) × State
  | _, [], s => (none, s)
  | k, w :: t, s =>
    match keepStore 30 2 (o + k) 31 [⟨w, .good⟩] s with
    | (.ok, s) => factoryWords o (k + 1) t s
    | (st, s) => (some (st, k), s)

def factoryAct (r : List Word) (s : State) : State :=
  let a := (hostArg r 0).toNat
  if a < 0x10000 || 0x11000 ≤ a then respondHost r 2 [] (popHost r s)
  else
    match factoryWords (a - 0x10000) 0 (r.drop 2) s with
    | (none, s) => respondHost r 0 [] (popHost r s)
    | (some (st, k), s) => respondHost r 4 [nw (k * 2 ^ 8 + statusCode st)] (popHost r s)

/-- The reset that a host RESET asks for, after 10 µs (R644); first the request itself. -/
def hostResetCmd (x : Straps) (s : State) : State :=
  match s.boot.hostReset with
  | some t => if t + 11 ≤ s.tb.pulses then runTimeline x (resetDevice false s) else s
  | none => hostCommand 2 1 1 always (fun r s =>
      if hostArg r 0 = 0x5E7A5E7 then popHost r (setBoot (fun b => { b with hostReset := some s.tb.pulses }) s)
      else respondHost r 2 [] (popHost r s)) s

/-- A transaction of the host port: a request that is accepted joins the queue. -/
def hostTransaction (os : List (BitVec 8)) (s : State) : State :=
  if domShed s 17 || domState s 17 = 2 then s.setHpt { s.hpt with miso := List.replicate (os.length / 5) 0 }
  else
    match hostRequest (os.map BitVec.toNat) s with
    | (none, s) => s
    | (some r, s) =>
      let s := s.setHpt { s.hpt with req := s.hpt.req ++ r }
      answerBadOps 64 (setBoot (fun b => { b with reqs := b.reqs ++ [r] }) s)

end Sys2Proof.Machine
end

