-- ==== Sys2Proof/Machine/Power.lean ====
section
/-!
DEFINITION. The supply monitors, the shedding stages with what they do and undo, and the orderly halt (R654-R666), and the loss of a crystal
(R51-R53).
-/
set_option linter.constructorNameAsVariable false

namespace Sys2Proof.Machine

/-! ### Parking cores (R229, R657) -/

def setParked (c : Nat) (b : Bool) (s : State) : State := breakQuietOf c (s.updCore c (fun k => { k with parked := b }))

def awaitPark (c : Nat) (s : State) : State := { s with pwr := { s.pwr with parking := s.pwr.parking ||| 2 ^ c } }

/-- Core c parks: at once where it stands at a boundary, a waiting one before its WAITEV (R310); at the grid point of an instruction in progress; a
member of a running pair after the pair's drain. -/
def parkCore (c : Nat) (s : State) : State :=
  let k := s.core c
  if (s.pair (c / 2)).started then
    let s := awaitPark c (awaitPark (c / 2 * 2) s)
    s.setPair (c / 2) { s.pair (c / 2) with draining := true }
  else if (k.due.isSome || ioStarted k) && !k.halted then awaitPark c s
  else
    setParked c true (s.updCore c (fun k => { k with run := if k.run = .waiting then .running else k.run, pc := if k.run = .waiting then k.pc - 1 else k.pc,
                                                     pastTop := if k.run = .waiting then false else k.pastTop,
                                                     haltReq := false }))

/-- Core c is released: it goes on where it stopped, a paced one from the lattice point at this tick (R211); a park not yet taken is withdrawn
(R661). -/
def unparkCore (c : Nat) (s : State) : State :=
  let s := { s with pwr := { s.pwr with parking := if Nat.testBit s.pwr.parking c then s.pwr.parking - 2 ^ c else s.pwr.parking } }
  if (s.core c).parked then
    let s := setParked c false s
    if s.stopped c then s else afterStart c (regrid c s)
  else s

def rankCores (s : State) (r : Nat) : List Nat := (List.range 8).filter (fun c => s.fld (Reg.CS_SHED_RANK c) 1 0 == r)

/-! ### The shed stop of stage 4 (R658) -/

def shedDomains : List Nat := [12, 13, 15, 17, 18]

/-- A controller completes its write queue and enters self-refresh. -/
def dmcShed (n : Nat) (s : State) : State :=
  if dmcSt s n = .serving then selfRefresh n (drainAll n (s.dmc n).wq.length s) else s

def dmcUnshed (n : Nat) (s : State) : State :=
  if domState s (12 + n) = 2 then s else s.setDmc n { s.dmc n with selfRef := false }

def shedStop (s : State) : State :=
  let s := dmcShed 1 (dmcShed 0 s)
  let s := linkDown 1 15 (linkDown 0 15 s)
  shedDomains.foldl (fun s d => s.setBit (Reg.PWR_DOM d) 11 true) s

def shedResume (s : State) : State :=
  retryHomes (dmcUnshed 1 (dmcUnshed 0 (shedDomains.foldl (fun s d => s.setBit (Reg.PWR_DOM d) 11 false) s)))

/-! ### Stages (R656-R661) -/

/-- Entry thresholds in mV; exit thresholds lie 20 mV higher. -/
def entryBelow (k : Nat) : Nat := match k with | 1 => 780 | 2 => 760 | 3 => 740 | 4 => 720 | _ => 680
def exitAt (k : Nat) : Nat := entryBelow k + 20

def shedStage (s : State) : Nat := s.fld Reg.PWR_STATUS 2 0

def stageAct (k : Nat) (s : State) : State :=
  match k with
  | 2 => (rankCores s 2).foldl (fun s c => parkCore c s) s
  | 3 => (rankCores s 1).foldl (fun s c => parkCore c s) s
  | 4 => shedStop s
  | _ => s

def stageUndo (k : Nat) (s : State) : State :=
  match k with
  | 2 => (rankCores s 2).foldl (fun s c => unparkCore c s) s
  | 3 => (rankCores s 1).foldl (fun s c => unparkCore c s) s
  | 4 => shedResume s
  | _ => s

/-- The orderly halt: the keep store has stored what it accepted, every core stops, and internal reset is held (R660). -/
def orderlyHalt (s : State) : State :=
  let s := (s.setFld Reg.PWR_HALT_CNT 15 0 (s.fld Reg.PWR_HALT_CNT 15 0 + 1)).setBit Reg.PWR_STATUS 6 true
  let t := resetDevice false s
  { t with pwr := { t.pwr with halted := true, above := 0, recov := 0 } }

/-- Stage k is entered at a reading (R656, R659); in a device held in reset only the stage is kept. -/
def enterStage (k reading : Nat) (s : State) : State :=
  let s := s.setFld Reg.PWR_STATUS 2 0 k
  if s.pwr.halted then (if k = 5 then orderlyHalt s else s)
  else
    let s := logErr .pwr 0x68 0 0 (nw (reading * 2 ^ 8 + k)) (s.inc (Reg.PWR_STAGE_CNT (k - 1)))
    let s := lv1 143 (fun s => s.setBit Reg.PWR_STATUS 3 true) (s.setReg Reg.PWR_LAST_TICK s.nowLo)
    if k = 5 then orderlyHalt s else stageAct k s

/-- Every stage from the present one up to k, in order (R665). -/
def enterStages (reading : Nat) : Nat → State → State
  | 0, s => s
  | n + 1, s => let k := shedStage s + 1; enterStages reading n (enterStage k reading s)

/-- The present stage k is left for k - 1 (R656, R657, R663). -/
def leaveStage (s : State) : State :=
  let k := shedStage s
  let s := (s.setFld Reg.PWR_STATUS 2 0 (k - 1))
  let s := { s with pwr := { s.pwr with above := 0 } }
  if s.pwr.halted then s
  else
    let s := lv1 143 (fun s => s.setBit Reg.PWR_STATUS 4 true) (s.setReg Reg.PWR_LAST_TICK s.nowLo)
    startPass1 (stageUndo k s)

/-- The highest stage whose entry threshold both of two consecutive readings lie below. -/
def stageFor (a b : Nat) : Nat := ((List.range 6).filter (fun k => k != 0 && decide (a < entryBelow k) && decide (b < entryBelow k))).getLastD 0

/-- `PWR_VMON` and `PWR_VMIN` take the reading; monitors that differ by more than 50 mV are recorded once per run. -/
def takeReading (low high : Nat) (s : State) : State :=
  let s := if s.pwr.last.isNone || decide (low < s.fld Reg.PWR_VMIN 10 0) then s.setReg Reg.PWR_VMIN (nw low) else s
  let s := s.setReg Reg.PWR_VMON (nw low)
  if low + 50 < high then
    if s.pwr.disagree then s
    else
      let s := { s with pwr := { s.pwr with disagree := true } }
      if s.pwr.halted then s else logErr .pwr 0x69 0 0 (nw (high * 2 ^ 11 + low)) s
  else { s with pwr := { s.pwr with disagree := false } }

/-- A sample `ns` nanoseconds after the last one (R654, R656). -/
def supplySample (ns : Nat) (rs : List Nat) (s : State) : State :=
  let low := rs.foldl min 2047
  let high := rs.foldl max 0
  let prev := s.pwr.last.getD 2047
  let s := takeReading low high s
  let held := fun t => s.pwr.last.isSome && decide (t ≤ prev) && decide (t ≤ low)
  let recov := if s.pwr.halted && held 700 then s.pwr.recov + ns else 0
  let g := shedStage s
  let above := if g != 0 && held (exitAt g) then s.pwr.above + ns else 0
  let s := { s with pwr := { s.pwr with last := some low, recov := recov, above := above } }
  let k := stageFor prev low
  if g < k then enterStages low (k - g) { s with pwr := { s.pwr with above := 0 } }
  else if g != 0 && decide (50000 ≤ above) then leaveStage s
  else s

/-! ### Loss of a crystal (R51-R54) -/

/-- Loss of XA: the timebase holds, and audio ports stop with their outputs low. Timers, paced cores and Fingertip stop with the timebase. -/
def xaGone (s : State) : State :=
  (List.range 8).foldl (fun s n => if (s.aud n).on then audStop n s else s) s

/-- Loss of XB (R53): DRAM, the Cuff ports, Ethernet, USB, QSPI, eMMC, I2C and MIDI stop. Requests to DRAM stay unanswered, and time out at their
initiators. -/
def xbGone (s : State) : State :=
  let s := { s with tb := { s.tb with xbLost := true } }
  let s := linkDown 1 15 (linkDown 0 15 s)
  let s := [0, 1].foldl (fun s n => s.setDmc n { s.dmc n with busy := none, wq := [], waits := [], stalls := [], openRow := [] }) s
  [0, 1].foldl (fun s n => setUrgent n s) s

/-- A monitor declares its input lost (R51). -/
def clockLost (xb : Bool) (s : State) : State :=
  let s := raise 128 (logErr .tb 0x01 (b2n xb) 0 0 s)
  if xb then xbGone s else xaGone (s.setBit Reg.TB_STATUS 1 true)

/-- The timebase PLL loses lock with XA present (R334): LOCKED reads 0, and the timebase stands as after a loss of XA. -/
def pllUnlocked (s : State) : State :=
  let s := raise 128 (logErr .tb 0x02 0 0 0 (s.setBit Reg.TB_STATUS 0 false))
  xaGone { s with tb := { s.tb with unlocked := true } }

end Sys2Proof.Machine
end

