-- ==== Sys2Proof/Machine/Hatcheck.lean ====
section
/-!
DEFINITION. Hatcheck's latch: the snapshot words of the 47 holders (R675-R677), the release of `HATCHECK_IO` (R678), and the pin's trigger (R672).
-/
set_option linter.constructorNameAsVariable false

namespace Sys2Proof.Machine

/-! ### Snapshot words (R676, R677) -/

/-- A register as a single-word load shows it. -/
def shown (s : State) (a : Nat) : Word := regView s 30 a

/-- The assigned registers from `a` on, `n` offsets, as words. -/
def shownRange (s : State) (a n : Nat) : List Word := ((List.range n).filter (fun i => (regAt (a + i)).isSome)).map (fun i => shown s (a + i))

/-- Fields packed into a word: value and lowest bit. -/
def packed (l : List (Nat × Nat)) : Word := nw ((l.map (fun p => p.1 * 2 ^ p.2)).foldl (· + ·) 0)

def coreStand (k : Core) : Nat :=
  if k.halted || decide (k.run = .doubleFault) then 2 else if k.parked then 3
  else match k.run with | .running => 0 | .waiting => 1 | .faultStop => 4 | .doubleFault => 2 | .notStarted => 5

/-- Core c. The parcels at the program address are a free value: the commands bring the instructions (log row 9). -/
def snapOfCore (s : State) (c : Nat) : List Word :=
  let k := s.core c
  let cs := fun n => csView s c n
  let v := fun a => shown s a
  [corePc s c, freeWord s, v (Reg.CS_STATUS c), v (Reg.CS_FLAGS c), v (Reg.CS_RET_COUNT c), v (Reg.CS_K_CAUSE c), v (Reg.CS_P_CAUSE c),
   v (Reg.CS_M_CAUSE c),
   packed [(b2n k.due.isSome, 0), ((k.io.filter (fun w => decide (w.use ≠ .leaf))).length, 8), (min 63 (k.stq.length + k.outStores.length), 14), (k.cloak.length, 20),
           (min 15 ((s.agent c).out.filter (fun m => decide (m.code ≤ rdU))).length, 26), (min 31 (s.agent c).out.length, 30)],
   packed [(s.fld (Reg.CS_PART c) 3 0, 0), (s.fld (Reg.CS_ASID c) 11 0, 4)],
   v (Reg.CS_PACE_STAT c), cs (Reg.CS_PMC 0 15 - 0x208000), nw (coreStand k)]

def snapOfPair (s : State) (n : Nat) : List Word :=
  [Reg.PAIR_CTL n, Reg.PAIR_STAT n, Reg.PAIR_CANARY n, Reg.PAIR_GROUPS n, Reg.PAIR_CANARY_CNT n, Reg.PAIR_SELF_CNT n, Reg.PAIR_MISMATCH_CNT n,
   Reg.PAIR_FAULT_GROUP n].map (shown s)

def snapOfSlice (s : State) (n : Nat) : List Word :=
  let sl := s.slice n
  [shown s (Reg.HS_STATUS n), shown s (Reg.HS_EPOCH n),
   packed [(sl.trk.length, 0), (sl.waiting.length, 6), ((sl.trk.map (fun e => e.2.await.length)).foldl (· + ·) 0, 12)],
   wordOfBits 12 (fun a => (SMap.find a sl.pslot).isSome),
   shown s (Reg.HS_ERR_ADDR n), shown s (Reg.HS_ERR_INFO n), shown s (Reg.HS_ECC_CORR n), shown s (Reg.HS_ECC_UNCORR n)] ++
  (List.range 8).map (fun k => shown s (Reg.HS_CNT n k))

def snapOfEiu (s : State) : List Word :=
  (List.range 7).map (fun k => shown s (Reg.EIU_PEND k)) ++ (List.range 8).map (fun k => shown s (Reg.EIU_CORE_STATE k)) ++
  [Reg.EIU_CTL, Reg.EIU_STATUS, Reg.EIU_QUIET_MASK, Reg.EIU_QUIET_STAT].map (shown s)

def snapOfTb (s : State) : List Word :=
  [s.nowLo, s.nowHi, shown s Reg.TB_STATUS, shown s Reg.TB_SLEW, shown s Reg.TB_PULSE_CNT, wordOfBits 8 (fun g => s.bit (Reg.TB_RGEN_CTL g) 0),
   shown s Reg.TB_TICK_FS]

/-- The fabric: the flits held in the input buffers of each port of a router, and its wake buffer; then the interfaces, two to a word. -/
def snapOfFab (s : State) : List Word :=
  (List.range 16).map (fun r =>
    let spots := s.fab.blocked.flatMap (fun b => b.spots)
    let q := fun port => ((spots.filter (fun x => x.1 / 16 == r && x.1 / 2 % 8 == port)).map (fun x => x.2)).sum
    packed [(q 0, 0), (q 1, 5), (q 2, 10), (q 3, 15), (q 4, 20), (wakeHeld s r, 25), (b2n (s.bit (Reg.FAB_RTR_STAT r) 2), 28)]) ++
  (List.range 16).map (fun j => packed [((niStatusView s (2 * j)).toNat % 2 ^ 19, 0), ((niStatusView s (2 * j + 1)).toNat % 2 ^ 19, 20)])

def snapOfProbes (s : State) : List Word :=
  [packed [(b2n (s.bit Reg.PRB_STATUS 0), 0), (b2n (s.bit Reg.PRB_CTL 0), 1), (s.fab.trace.length, 2)], shown s Reg.PRB_TRACE_WPTR] ++
  (List.range 8).map (fun k => shown s (Reg.PRB_n_COUNT k))

def snapOfCuf (s : State) (n : Nat) : List Word :=
  [Reg.CUF_STATUS n, Reg.CUF_SEQ n, Reg.CUF_TAGS n, Reg.CUF_ERR_INFO n].map (shown s) ++
  (List.range 9).map (fun v => shown s (Reg.CUF_CRED n v)) ++ (List.range 9).map (fun v => shown s (Reg.CUF_RXOCC n v)) ++
  (List.range 9).map (fun v => shown s (Reg.CUF_OUTQ n v)) ++
  [packed [(replaySlots s n, 0), (match (s.cufP n).replay with | p :: _ => p.seq | [] => 0, 10)]]

def ringMask (p : Nat → Bool) : List Word := [ringsWord p false, ringsWord p true]

def snapOfSeg (s : State) : List Word :=
  [Reg.SEG_STATUS, Reg.SEG_FUNCS, Reg.SEG_POOL_LO, Reg.SEG_POOL_HI, Reg.SEG_TAGS, Reg.SEG_LINES, Reg.SEG_ERR_INFO, Reg.SEG_ERR_ADDR].map (shown s) ++
  ringMask (fun r => ringState s r == 1) ++ ringMask (fun r => ringState s r == 3) ++ ringMask (fun r => (s.ring r).hold.isSome) ++
  ringMask (fun r => (s.ring r).unit.isSome)

def snapOfDmc (s : State) (n : Nat) : List Word :=
  let d := s.dmc n
  let rmw := (d.wq.filter (fun e => !e.ahead && e.mask % 2 ^ 80 != 2 ^ 80 - 1)).length
  let opened := fun r => bitsToNat ((List.range 16).map (fun b => d.openRow.any (fun e => e.1 == 16 * r + b)))
  [shown s (Reg.DMC_STATUS n), packed [(0, 0), (d.wq.length, 6), (rmw, 12)]] ++ (List.range 4).map (fun k => shown s (Reg.DMC_FILL n k)) ++
  [Reg.DMC_WAT_STAT n, Reg.DMC_SCRUB_PTR n, Reg.DMC_ERR_ADDR n, Reg.DMC_ERR_INFO n, Reg.DMC_FRESH_LEFT n, Reg.DMC_LAST_FILL_TICK n].map (shown s) ++
  shownRange s (0x218020 + 0x1000 * n) 16 ++
  [shown s (Reg.DMC_SELFREF_CNT n), packed [(SMap.getD 0 0 d.postponed, 0), (SMap.getD 0 1 d.postponed, 4)], packed [(opened 0, 0), (opened 1, 16)],
   shown s (Reg.DMC_REFRESH n)]

def snapOfMid (s : State) : List Word :=
  [shown s Reg.MID_EVT] ++ (List.range 4).map (fun k => shown s (Reg.MID_IN_STAT k)) ++ (List.range 4).map (fun k => shown s (Reg.MID_OUT_STAT k)) ++
  [shown s Reg.MID_EVT_EN]

/-- eMMC: the line levels are the lines at rest, held high. -/
def snapOfEmc (s : State) : List Word :=
  shownRange s 0x264000 24 ++ [nw (s.emc.left.getD 0), packed [(255, 0), (1, 8)]] ++ List.replicate 14 0

def snapOfEth (s : State) : List Word :=
  [shown s Reg.ETH_STATUS, shown s Reg.ETH_PAUSE, shown s Reg.ETH_TXQ_STAT, shown s Reg.ETH_RXQ_STAT, nw (fifoWords s), shown s (Reg.ETH_CBS_CREDIT 0),
   shown s (Reg.ETH_CBS_CREDIT 1), shown s Reg.ETH_CTL] ++
  (List.range 8).map (fun q => nw (match SMap.find q s.eth.txq with | some e => (e.octets.length + 4) / 5 | none => 0)) ++
  [Reg.ETH_RX_FIFO_DROP_CNT, Reg.ETH_PAUSE_RX_CNT, Reg.ETH_TX_ABORT_CNT, Reg.ETH_SHED_DROP_CNT].map (shown s)

def snapOfUsb (s : State) : List Word :=
  [Reg.USB_STATUS, Reg.USB_FRAME, Reg.USB_SOF_TICK, Reg.USB_EP0_STATUS].map (shown s) ++
  (List.range 8).map (fun e => packed [((shown s (Reg.USB_EPIN_STAT e)).toNat % 16, 0), ((shown s (Reg.USB_EPOUT_STAT e)).toNat % 16, 4)]) ++
  [Reg.USB_FB_VALUE 0, Reg.USB_FB_VALUE 1, Reg.USB_CRC_ERR_CNT, Reg.USB_TIMEOUT_CNT, Reg.USB_BABBLE_CNT, Reg.USB_SOF_MISS_CNT,
   Reg.USB_SHED_NAK_CNT].map (shown s)

def snapOfFgt (s : State) : List Word :=
  (List.range 7).map (fun k => shown s (Reg.FGT_CONTACT k)) ++ (List.range 16).map (fun k => shown s (Reg.FGT_KEY_STATE k)) ++
  (List.range 24).map (fun k => shown s (Reg.FGT_AIN_VAL k)) ++
  [Reg.FGT_STATUS, Reg.FGT_QUEUE, Reg.FGT_HOT, Reg.FGT_CAL_HDR, Reg.FGT_SCAN, Reg.FGT_KEYS].map (shown s) ++ shownRange s 0x270010 16

/-- STATE and LEVEL of ten domains. -/
def domWord (s : State) (w : Nat) : Word :=
  packed ((List.range 10).filterMap (fun j =>
    let d := 10 * w + j
    if d < 21 then some (domState s d + 4 * fget (shown s (Reg.PWR_DOM d)) 10 9, 4 * j) else none))

def snapOfPwr (s : State) : List Word :=
  [shown s Reg.PWR_STATUS, shown s Reg.PWR_VMON, shown s Reg.PWR_VMIN, domWord s 0, domWord s 1, domWord s 2, wordOfBits 21 (fun d => domShed s d)]

/-- Holder h: the power domain it lies in, the address of its first snapshot word, and its words. -/
def holder (s : State) (h : Nat) : Option Nat × Nat × List Word :=
  if h < 8 then (some h, Reg.CS_SNAP h 0, snapOfCore s h)
  else if h < 12 then (some 19, Reg.PAIR_SNAP (h - 8) 0, snapOfPair s (h - 8))
  else if h < 16 then (some (h - 4), Reg.HS_SNAP (h - 12) 0, snapOfSlice s (h - 12))
  else if h = 16 then (none, Reg.EIU_SNAP 0, snapOfEiu s)
  else if h = 17 then (none, Reg.TB_SNAP 0, snapOfTb s)
  else if h = 18 then (some 20, Reg.FAB_SNAP 0, snapOfFab s)
  else if h = 19 then (some 20, Reg.PRB_SNAP 0, snapOfProbes s)
  else if h < 22 then (some 15, Reg.CUF_SNAP (h - 20) 0, snapOfCuf s (h - 20))
  else if h = 22 then (some 15, Reg.CNS_SNAP 0, shownRange s 0x22a000 16)
  else if h = 23 then (some 14, Reg.SEG_SNAP 0, snapOfSeg s)
  else if h < 26 then (some (h - 12), Reg.DMC_SNAP (h - 24) 0, snapOfDmc s (h - 24))
  else if h < 34 then (some 16, Reg.AUD_SNAP (h - 26) 0, shownRange s (0x260000 + 64 * (h - 26)) 16)
  else if h = 34 then (some 17, Reg.MID_SNAP 0, snapOfMid s)
  else if h < 38 then (some 17, Reg.I2C_SNAP (h - 35) 0, [Reg.I2C_STATUS (h - 35), Reg.I2C_CMD_LEVEL (h - 35), Reg.I2C_RX_LEVEL (h - 35)].map (shown s))
  else if h = 38 then (some 17, Reg.EMC_SNAP 0, snapOfEmc s)
  else if h = 39 then (some 17, Reg.GPIO_SNAP 0, shownRange s 0x265000 32)
  else if h = 40 then (some 17, Reg.HPT_SNAP 0, shownRange s 0x27f000 8)
  else if h = 41 then (some 18, Reg.ETH_SNAP 0, snapOfEth s)
  else if h = 42 then (some 18, Reg.USB_SNAP 0, snapOfUsb s)
  else if h = 43 then (none, Reg.FGT_SNAP 0, snapOfFgt s)
  else if h = 44 then (none, Reg.KEP_SNAP 0, [shown s Reg.KEP_STATUS, shown s Reg.KEP_CMD_RESULT, shown s Reg.KEP_ERR_ADDR, shown s Reg.KEP_ERR_INFO, 0])
  else if h = 45 then (some 19, Reg.BSQ_SNAP 0, [Reg.BSQ_STATUS, Reg.BSQ_FAIL_INFO, Reg.BSQ_PRESENCE, Reg.BSQ_DEBUG, Reg.BSQ_CORE_STAT, Reg.BSQ_SOURCE].map (shown s))
  else (none, Reg.PWR_SNAP 0, snapOfPwr s)

/-- Holder h latches the words of `old`; one that is SHUT or comes later than 1 µs does not, and a late one is counted (R675, R691). -/
def latchHolder (old : State) (late : Nat) (s : State) (h : Nat) : State :=
  let q := holder old h
  let shut := match q.1 with | some d => domState old d == 2 | none => false
  if shut then s
  else if Nat.testBit late h then s.inc Reg.HAT_MISSED_CNT
  else
    let s := setRegs q.2.1 q.2.2 s
    if h < 40 then s.setBit Reg.HAT_VALID_LO h true else s.setBit Reg.HAT_VALID_HI (h - 40) true

/-! ### The latch (R673, R674, R686) -/

def hatArm (s : State) : State := s.setReg Reg.HAT_STATUS (bset (bset (fset (s.reg Reg.HAT_STATUS) 8 4 0) 1 false) 0 true)

/-- The holders have latched: BUSY and LATCHED, the history entry, and an ARM that waited. -/
def latchDone (s : State) : State :=
  let s := s.setReg Reg.HAT_STATUS (bset (bset (s.reg Reg.HAT_STATUS) 2 false) 1 true)
  let k := s.fld Reg.HAT_HIST_PTR 2 0
  let cause := nw (s.fld Reg.HAT_CAUSE_INFO 31 0 * 2 ^ 8 + s.fld Reg.HAT_STATUS 11 4)
  let s := (s.setReg (Reg.HAT_HIST_TICK k) (s.reg Reg.HAT_LATCH_TICK_LO)).setReg (Reg.HAT_HIST_CAUSE k) cause
  let s := (s.setReg Reg.HAT_HIST_PTR (nw ((k + 1) % 8))).inc Reg.HAT_LATCH_CNT
  let again := s.hat.armAfter
  let s := { s with hat := { s.hat with latch := none, armAfter := false } }
  if again then hatArm s else s

/-- HATCHECK_LATCH: the delay has passed and every holder latches as of now. -/
def hatLatch (late : Nat) (s : State) : State :=
  if s.hat.latch = some 0 then
    let old := s
    let s := (takeFresh s).setReg Reg.HAT_VALID_LO 0 |>.setReg Reg.HAT_VALID_HI 0
    lv1 145 latchDone ((List.range 47).foldl (latchHolder old late) s)
  else s

/-- A TB_PULSE edge counts the delay down, and the second after a latch releases `HATCHECK_IO` (R673, R678). -/
def hatPulse (s : State) : State :=
  let h := s.hat
  let s := { s with hat := { h with latch := (match h.latch with | some (k + 1) => some k | x => x), quiet := false } }
  if h.latch.isSome then s
  else match h.drive with
    | some (k + 2) => { s with hat := { s.hat with drive := some (k + 1) } }
    | some _ => { s.setBit Reg.HAT_PIN 1 false with hat := { s.hat with drive := none, quiet := true } }
    | none => s

/-- The pin's trigger: not from the device's own pulse. -/
def hatPin (s : State) : State := if s.hat.drive.isSome || s.hat.quiet then s else lv1 145 (hatTrigger 2 0 noRec) s

end Sys2Proof.Machine
end

