-- ==== Sys2Proof/Machine/Jtag.lean ====
section
/-!
DEFINITION. The JTAG port (R682, R683, R736): its instruction register and boundary register, and the debug port's operations.
-/
set_option linter.constructorNameAsVariable false

namespace Sys2Proof.Machine

def setJtag (f : Jtag → Jtag) (s : State) : State := { s with jtag := f s.jtag }

/-- The reach of READ and WRITE while UNLOCKED is 0: the HAT page, the error log, and the mailboxes with their status. -/
def lockedReach (a : Nat) : Bool :=
  (decide (0x279000 ≤ a) && decide (a < 0x279028)) || (decide (Reg.SYS_ERRLOG_STAT ≤ a) && decide (a ≤ Reg.SYS_ERRLOG_TOTAL_CNT)) ||
  a == Reg.DBG_STATUS || a == Reg.DBG_MBOX_IN_STAT || a == Reg.DBG_MBOX_OUT_STAT ||
  (decide (Reg.DBG_MBOX_IN 0 ≤ a) && decide (a < Reg.DBG_MBOX_OUT 64))

def jtagAddr (s : State) : Nat := s.fld Reg.DBG_JTAG_ADDR 33 0

/-- ADDR takes a value: the lines it has left are evicted. -/
def jtagGoto (a : Nat) (s : State) : State :=
  let s := s.setReg Reg.DBG_JTAG_ADDR (nw (a % 2 ^ 34))
  let gone := s.jtag.lines.filter (fun l => l != a % 2 ^ 34 / 16)
  let s := gone.foldl (fun s l => settleNet netFuel (evictLine 11 l s)) s
  setJtag (fun j => { j with lines := j.lines.filter (fun l => !gone.contains l) }) s

/-- An operation ends: STATUS (0 OK, 1 BUSY, 2 FABRIC, 3 LOCKED, 4 NO_PRESENCE), the fabric status and DATA. -/
def jtagDone (status fstat : Nat) (data : Word) (s : State) : State :=
  setJtag (fun j => { j with status := status, fstat := fstat, data := data, wait := none }) s

/-- An access ends with a fabric status; ADDR steps unless it failed (R691). -/
def jtagAccessDone (st : FStatus) (data : Word) (s : State) : State :=
  if st = .ok then
    let s := jtagDone 0 0 (if s.jtag.reads then data else s.jtag.data) s
    if s.jtag.step then jtagGoto (jtagAddr s + 1) s else s
  else jtagDone 2 (statusCode st) s.jtag.data s

/-- The capture before an operation: `DBG_LAST_OP` shows the STATUS and fabric status of the last finished one. -/
def jtagCapture (s : State) : State := s.setReg Reg.DBG_LAST_OP (nw (s.jtag.status * 16 + s.jtag.fstat % 8))

/-- An operation of the debug port: taken while DBG is in the instruction register; discarded while the previous one runs. -/
def jtagOp (f : State → State) (s : State) : State :=
  if s.jtag.ir ≠ 0x10 then s
  else
    let s := jtagCapture s
    if s.jtag.wait.isSome then setJtag (fun j => { j with status := 1 }) s else f s

/-- The memory that the debug agent reads and writes coherently, as agent 11. -/
def jtagCoherent (s : State) (a : Nat) : Bool := match regionAt s a with | some r => r.cacheable | none => false

/-- An access by READ or WRITE: the line's home, or the fabric, whose response may come later. -/
def jtagAccess (reads step : Bool) (v : Word) (s : State) : State :=
  let a := jtagAddr s
  let s := setJtag (fun j => { j with reads := reads, step := step }) s
  if !debugUnlocked s && !lockedReach a then (jtagDone 3 0 s.jtag.data s).inc Reg.DBG_LOCKED_CNT
  else
    let s := s.inc Reg.DBG_ACCESS_CNT
    let l := a / 16
    if jtagCoherent s a && reads then
      let q := acquireShared 11 l s
      let s := setJtag (fun j => { j with lines := if j.lines.contains l then j.lines else l :: j.lines }) q.2
      match SMap.find l (s.agent 11).lines with
      | some x =>
        let w := x.data.getD (a % 16) MWord.zero
        jtagAccessDone (if w.mark = .poison then .poison else .ok) w.v s
      | none => jtagAccessDone q.1 0 s
    else if jtagCoherent s a then
      let q := uncachedWrite 11 l (31 * 2 ^ (5 * (a % 16))) (List.replicate (a % 16) MWord.zero ++ [⟨v, .good⟩]) s
      jtagAccessDone q.1 0 q.2
    else
      match access30 (if reads then 0 else 1) a (if reads then [] else [⟨v, .good⟩]) s with
      | (some t, s) => setJtag (fun j => { j with wait := some t }) s
      | (none, s) => jtagAccessDone s.resp.status (match s.resp.data with | w :: _ => w.v | [] => 0) s

/-- The completion of endpoint 30's tag t serves the operation that waits for it. -/
def jtagTagDone (t : Nat) (st : FStatus) (d : Line) (s : State) : State :=
  if s.jtag.wait = some t then jtagAccessDone st (match d with | w :: _ => w.v | [] => 0) s else s

/-- The instruction register and the boundary register are loaded (R682, R736). -/
def jtagLoad (ir : BitVec 6) (cells : BitVec 1077) (s : State) : State :=
  setJtag (fun j => { j with ir := ir.toNat, cells := if ir = 0 || ir = 1 then cells else j.cells }) s

end Sys2Proof.Machine
end

