-- ==== Sys2Proof/Machine/RowsBoot.lean ====
section
/-!
DEFINITION. Rows of the boot sequencer and the host's commands (chapter 18), of the error log, Hatcheck and debug (chapter 20), and plain register
writes (chapter 21).
-/
set_option linter.constructorNameAsVariable false

namespace Sys2Proof.Machine

/-! ### Pass 1, and sources that fail (R622-R624) -/

/-- PASS1_CHECK: what a QSPI slot holds in pass 1 and in pass 2. -/
def execPass1Check (flash again : List Word) (s : State) : Out := okSettled (pass1Check flash again s)
/-- BOOT_SOURCE_TIMEOUT. -/
def execBootSourceTimeout (s : State) : Out := okSettled (bootTimeout s)

/-! ### The records (R629) -/

/-- DRAM_TIMING. -/
def execRecDramTiming (s : State) : Out := okSettled (recordDram s)
/-- PINMUX. -/
def execRecPinmux (s : State) : Out := okSettled (applyRecord 2 applyPinmux s)
/-- ROUTES. -/
def execRecRoutes (s : State) : Out := okSettled (applyRecord 3 applyRoutes s)
/-- STAGE_SPLIT. -/
def execRecStageSplit (s : State) : Out := okSettled (if s.split.isSome then s else applyRecord 4 applySplit s)
/-- CUFF. -/
def execRecCuff (s : State) : Out := okSettled (applyRecord 5 applyCuff s)
/-- CONSORT (R630). -/
def execRecConsort (s : State) : Out := okSettled (applyRecord 6 applyConsort s)
/-- PARTITIONS. -/
def execRecPartitions (s : State) : Out := okSettled (applyRecord 7 applyPartitions s)
/-- SHED_RANKS. -/
def execRecShedRanks (s : State) : Out := okSettled (applyRecord 8 applyShedRanks s)
/-- PAYLOAD_LOAD (R632). -/
def execRecPayloadLoad (s : State) : Out := okSettled (applyRecord 9 applyPayload s)
/-- ENTRY. -/
def execRecEntry (s : State) : Out := okSettled (applyRecord 10 applyEntry s)
/-- CLOCKS. -/
def execRecClocks (s : State) : Out := okSettled (applyRecord 11 applyClocks s)
/-- AUDIO_DEFAULTS. -/
def execRecAudioDefaults (s : State) : Out := okSettled (applyRecord 12 applyAudio s)
/-- REGISTER_POKE (R632). -/
def execRecRegisterPoke (s : State) : Out := okSettled (applyRecord 13 applyPoke s)
/-- FINGERTIP. -/
def execRecFingertip (s : State) : Out := okSettled (applyRecord 14 applyFingertip s)
/-- SIGNATURE has no effect in pass 2. -/
def execRecSignature (s : State) : Out := okSettled (applyRecord 15 (fun _ r => r) s)
/-- END (R625, R634, R635). -/
def execEndRecord (s : State) : Out := okSettled (recordEnd s)

/-! ### Cores, fuses, the presence window (R636-R641) -/

/-- CORE_START (R636). -/
def execCoreStart (i : Initiator) (v : Word) (s : State) : Out := okSettled (regCmd i Reg.BSQ_CORE_CTL v s)
/-- PROGRAM (R638). -/
def execFuseProgram (i : Initiator) (v : Word) (s : State) : Out := okSettled (regCmd i Reg.BSQ_FUSE_CTL (bset v 0 true) s)
/-- FUSE_PROGRAM_DONE (R638): what the fuses read back. -/
def execFuseProgramDone (got : BitVec 256) (s : State) : Out := okSettled (fuseDone got s)
/-- PRESENCE_WINDOW_OPEN (R639): out of reset, `PRESENCE_N` has been low for 2,000,000 edges. -/
def execPresenceWindowOpen (s : State) : Out :=
  okSettled (if !s.boot.inReset && !s.pwr.halted && decide (2000000 ≤ s.tb.pulses) && !presenceOpen s then presenceOpens s else s)
/-- PRESENCE_WINDOW_CLOSE (R639): `low` is `PRESENCE_N` at the closing. -/
def execPresenceWindowClose (low : Bool) (s : State) : Out := okSettled (presenceCloses low s)
/-- DEBUG_RELOCK (R641). -/
def execDebugRelock (i : Initiator) (v : Word) (s : State) : Out := okSettled (regCmd i Reg.BSQ_DEBUG (bset v 1 true) s)

/-! ### The host's commands (R643-R645) -/

/-- STATUS. -/
def execHostStatus (s : State) : Out := okSettled (hostCommand 1 0 0 always hostStatusAct s)
/-- STREAM_IMAGE. -/
def execStreamImage (s : State) : Out := okSettled (hostCommand 3 2 62 always streamAct s)
/-- READ_WORD. -/
def execReadWord (s : State) : Out := okSettled (hostCommand 0x10 1 1 debugUnlocked hostAccess s)
/-- WRITE_WORD. -/
def execWriteWord (s : State) : Out := okSettled (hostCommand 0x11 2 2 debugUnlocked hostAccess s)
/-- DEBUG_UNLOCK (R641). -/
def execDebugUnlock (s : State) : Out := okSettled (hostCommand 0x20 0 0 presenceOpen (fun r s => respondHost r 0 [] (popHost r (unlock s))) s)
/-- HOST_RESTORE_FACTORY. -/
def execHostRestoreFactory (s : State) : Out := okSettled (hostCommand 0x21 0 0 presenceOpen (keepHostAct 1) s)
/-- HOST_ERASE_USER. -/
def execHostEraseUser (s : State) : Out := okSettled (hostCommand 0x22 0 0 presenceOpen (keepHostAct 2) s)
/-- HOST_APPLY_USER. -/
def execHostApplyUser (s : State) : Out := okSettled (hostCommand 0x23 0 0 debugUnlocked (keepHostAct 3) s)
/-- FACTORY_WRITE. -/
def execFactoryWrite (s : State) : Out := okSettled (hostCommand 0x24 2 61 presenceOpen factoryAct s)

/-! ### The error log and Hatcheck (R667-R678) -/

/-- ERRLOG_RECORD (R667). -/
def execErrlogRecord (s : State) : Out := okSettled (collect s)
/-- ERRLOG_POP (R669). -/
def execErrlogPop (i : Initiator) (v : Word) (s : State) : Out := okSettled (regCmd i Reg.SYS_ERRLOG_POP (bset v 0 true) s)
/-- ERRLOG_TOP_READ (R669). -/
def execErrlogTopRead (i : Initiator) (s : State) : Out := okSettled (regReadCmd i (Reg.SYS_ERRLOG_TOP 0) s)
/-- TRIG (R672). -/
def execHatTrigWrite (i : Initiator) (v : Word) (s : State) : Out := okSettled (regCmd i Reg.HAT_CTL (bset v 1 true) s)
/-- ARM (R674). -/
def execHatArm (i : Initiator) (v : Word) (s : State) : Out := okSettled (regCmd i Reg.HAT_CTL (bset v 0 true) s)
/-- HATCHECK_PIN_TRIGGER (R672). -/
def execHatcheckPinTrigger (s : State) : Out := okSettled (hatPin s)
/-- HATCHECK_LATCH (R673, R675): bit h of `late` is a holder that comes later than 1 µs. -/
def execHatcheckLatch (late : BitVec 47) (s : State) : Out := okSettled (if s.hat.latch = some 0 then hatLatch late.toNat s else s)

/-! ### Debug (R680-R684, R736) -/

/-- DBG_CORE_HALT (R680). -/
def execDbgCoreHalt (i : Initiator) (v : Word) (s : State) : Out := okSettled (regCmd i Reg.DBG_CORE_HALT v s)
/-- DBG_CORE_RESUME (R681). -/
def execDbgCoreResume (i : Initiator) (v : Word) (s : State) : Out := okSettled (regCmd i Reg.DBG_CORE_RESUME v s)
/-- DBG_CORE_STEP (R681). -/
def execDbgCoreStep (i : Initiator) (v : Word) (s : State) : Out := okSettled (regCmd i Reg.DBG_CORE_STEP v s)
/-- ADDR (R682). -/
def execJtagAddr (v : Word) (s : State) : Out := okSettled (jtagOp (fun s => jtagDone 0 0 s.jtag.data (jtagGoto (fget v 33 0) s)) s)
/-- READ (R683): the address steps if bit 0 of the operand is 1. -/
def execJtagRead (v : Word) (s : State) : Out := okSettled (jtagOp (jtagAccess true (bget v 0) 0) s)
/-- WRITE (R683). -/
def execJtagWrite (v : Word) (s : State) : Out := okSettled (jtagOp (jtagAccess false true v) s)
/-- UNLOCK (R641, R682). -/
def execJtagUnlock (_v : Word) (s : State) : Out :=
  okSettled (jtagOp (fun s => if presenceOpen s then jtagDone 0 0 s.jtag.data (unlock s) else jtagDone 4 0 s.jtag.data s) s)
/-- RELOCK (R682). -/
def execJtagRelock (_v : Word) (s : State) : Out := okSettled (jtagOp (fun s => jtagDone 0 0 s.jtag.data (relock s)) s)
/-- HAT_TRIG (R672, R682). -/
def execJtagHatTrig (_v : Word) (s : State) : Out :=
  okSettled (jtagOp (fun s => jtagDone 0 0 s.jtag.data (lv1 145 (hatTrigger 1 0 noRec) s)) s)
/-- JTAG_NOP (R682): OP 0 leaves the status as it is; a reserved OP gives BAD_OP. -/
def execJtagNop (op : Fin 16) (s : State) : Out :=
  okSettled (jtagOp (fun s => if 7 ≤ op.val then jtagDone 5 0 s.jtag.data s else s) s)
/-- JTAG_INSTRUCTION_UPDATE (R682, R736): the instruction register, and the boundary register's cells. -/
def execJtagInstructionUpdate (ir : BitVec 6) (cells : BitVec 1077) (s : State) : Out := okSettled (jtagLoad ir cells s)
/-- MAILBOX_WRITE (R684). -/
def execMailboxWrite (i : Initiator) (out : Bool) (v : Word) (s : State) : Out :=
  okSettled (regCmd i (if out then Reg.DBG_MBOX_OUT_STAT else Reg.DBG_MBOX_IN_STAT) v s)

/-- REGISTER_WRITE (R18, R695-R697): a word stored at any address. -/
def execRegisterWrite (i : Initiator) (a : Fin 17179869184) (v : Word) (s : State) : Out := okSettled (regCmd i a v s)

end Sys2Proof.Machine
end

