-- ==== Sys2Proof/Machine/RowsClock.lean ====
section
/-!
DEFINITION. Rows of start-up, clocks, events and the timebase (chapters 09 and 18, R51-R54, R619-R621, R660, R719).
-/
set_option linter.constructorNameAsVariable false

namespace Sys2Proof.Machine

/-! ### Start-up -/

/-- POWER_ON (R619). -/
def execPowerOn (x : Straps) (s : State) : Out := okSettled (runTimeline x (resetDevice true s))

/-- RESET_N_LOW (R719): internal reset is held. -/
def execResetNLow (s : State) : Out :=
  let t := resetDevice false s
  okSettled { t with boot := { t.boot with inReset := true }, pwr := { t.pwr with halted := s.pwr.halted, recov := s.pwr.recov } }

/-- RESET_N_RISE (R619, R719): the timeline from step 3; a device that an orderly halt holds waits for its supply (R660). -/
def execResetNRise (x : Straps) (s : State) : Out :=
  if s.pwr.halted then okSettled { s with boot := { s.boot with inReset := false } } else okSettled (runTimeline x (resetDevice false s))

/-- HALT_RELEASE (R660). -/
def execHaltRelease (x : Straps) (s : State) : Out :=
  okSettled (if s.pwr.halted && decide (1000000 ≤ s.pwr.recov) && !s.boot.inReset then runTimeline x (resetDevice false s) else s)

/-- HOST_RESET (R644). -/
def execHostReset (x : Straps) (s : State) : Out := okSettled (hostResetCmd x s)

/-! ### Clocks -/

/-- The device is out of reset. -/
def outOfReset (s : State) : Bool := !s.boot.inReset && !s.pwr.halted

/-- The timebase PLL locks (R315, R319). -/
def pllLocked (s : State) : State :=
  let s := s.setBit Reg.TB_STATUS 0 true
  fgtRelock { s with tb := { s.tb with acc := 0, everLocked := true } }

/-- TB_PLL_LOCK (R315): not after a loss of XA (R54). -/
def execTbPllLock (s : State) : Out := okSettled (if outOfReset s && !s.bit Reg.TB_STATUS 0 && !xaLost s then pllLocked s else s)

/-- TB_PLL_UNLOCK (R334). -/
def execTbPllUnlock (s : State) : Out := okSettled (if s.bit Reg.TB_STATUS 0 && !xaLost s then pllUnlocked s else s)

/-- TB_PLL_LOCK_TIMEOUT (R621). -/
def execTbPllLockTimeout (s : State) : Out :=
  okSettled (if outOfReset s && !s.bit Reg.TB_STATUS 0 && !s.tb.everLocked && !xaLost s then clockLost false s else s)

/-- CLOCK_LOST (R51): an input is declared lost once (R54). -/
def execClockLost (xb : Bool) (s : State) : Out :=
  okSettled (if outOfReset s && !(if xb then s.tb.xbLost else s.bit Reg.TB_STATUS 1) then clockLost xb s else s)

/-- One TB_PULSE edge: the count, and what samples at it. -/
def pulseEdge (closed : Nat) (s : State) : State :=
  let s := pulseTime s
  let s := { s with tb := { s.tb with pulses := s.tb.pulses + 1 } }
  fgtPulse closed (ethPulse (hatPulse (quietSample (cloakPulse (s.inc Reg.TB_PULSE_CNT)))))

/-- TB_PULSE (R319): `closed` has bit i set where sense line i of Fingertip reads low at the end of this interval (R594). -/
def execTbPulse (closed : BitVec 16) (s : State) : Out := okSettled (if outOfReset s && pulseDue s then pulseEdge closed.toNat s else s)

/-! ### The event unit -/

/-- EIU_CONFIG_WRITE (R328): a source's word, or a partition's (k modulo 16). -/
def execEiuConfigWrite (i : Initiator) (isPart : Bool) (k : Fin 256) (v : Word) (s : State) : Out :=
  okSettled (regCmd i (if isPart then Reg.EIU_PART_CTL (k.val % 16) else Reg.EIU_SRC_CFG k) v s)

/-- SWEV_TRIG (R312). -/
def execSwevTrig (i : Initiator) (k : Fin 64) (s : State) : Out := okSettled (regCmd i Reg.EIU_SWEV_TRIG (nw k) s)

/-! ### The timebase page -/

/-- TB_STEP (R316). -/
def execTbStep (i : Initiator) (v : Word) (s : State) : Out := okSettled (regCmd i Reg.TB_STEP_LO v s)

/-- TB_SLEW_WRITE (R316). -/
def execTbSlewWrite (i : Initiator) (v : Word) (s : State) : Out := okSettled (regCmd i Reg.TB_SLEW v s)

/-- TB_NOW_LO_READ (R318). -/
def execTbNowLoRead (i : Initiator) (s : State) : Out := okSettled (regReadCmd i Reg.TB_NOW_LO s)

/-- RGEN_ENABLE (R321). -/
def execRgenEnable (i : Initiator) (g : Fin 8) (v : Word) (s : State) : Out := okSettled (regCmd i (Reg.TB_RGEN_CTL g) (bset v 0 true) s)

/-- RGEN_DISABLE (R323, R543). -/
def execRgenDisable (i : Initiator) (g : Fin 8) (v : Word) (s : State) : Out := okSettled (regCmd i (Reg.TB_RGEN_CTL g) (bset v 0 false) s)

/-- RGEN_RATE_WRITE (R322). -/
def execRgenRateWrite (i : Initiator) (g : Fin 8) (den : Bool) (v : Word) (s : State) : Out :=
  okSettled (regCmd i (if den then Reg.TB_RGEN_DEN g else Reg.TB_RGEN_NUM g) v s)

/-- The next boundary of a running generator: ticks pass up to it, it is marked, and its master audio ports take a frame (R321, R524). -/
def rateBoundary (g : Nat) (s : State) : State :=
  let b := nextBoundary (s.rgen g)
  let t := if s.now < b then (advanceTo b s).now else b
  let s := if s.now < b then advanceTo b s else s
  audGenBoundary busSrv g t (markBoundary g t s)

/-- RATE_BOUNDARY (R321). -/
def execRateBoundary (g : Fin 8) (s : State) : Out := okSettled (if tbRunning s && (s.rgen g).running then rateBoundary g s else s)

end Sys2Proof.Machine
end

