-- ==== Sys2Proof/Machine/RowsCuff.lean ====
section
/-!
DEFINITION. Rows of the Cuff links (chapter 11) and of consorts (chapter 12). A packet row takes what arrives by its content, whatever row brings it.
-/
set_option linter.constructorNameAsVariable false

namespace Sys2Proof.Machine

/-- A packet reaches port n. -/
def rowRx (n : Nat) (p : CufRx) (s : State) : Out := okSettled (cufRx busSrv n [] p s)

/-! ### Training (R391-R393, R412) -/

/-- CUFF_TRAINING_START. -/
def execCuffTrainingStart (n : Fin 2) (s : State) : Out := okSettled (cufPllLock n s)

/-- BLOCK_LOCK. -/
def execBlockLock (n : Fin 2) (p0 p1 p2 p3 : Fin 4) (inv : BitVec 4) (s : State) : Out :=
  okSettled (cufBlockLock n [p0.val, p1.val, p2.val, p3.val] inv.toNat s)

/-- TS2. -/
def execTs2 (b : Ts2Block) (s : State) : Out := okSettled (cufTs2 b.n b.port s)

/-- ADV_DUE. -/
def execAdvDue (n : Fin 2) (s : State) : Out := okSettled (cufAdvDue n s)

/-- TRAIN_TIMEOUT. -/
def execTrainTimeout (n : Fin 2) (s : State) : Out := okSettled (cufTrainTimeout n s)

/-- LINK_RESTART (R411). -/
def execLinkRestart (n : Fin 2) (s : State) : Out := okSettled (cufRestart n s)

/-- LOCK_LOST (R394): a lane of a port that trains or is UP. -/
def execLockLost (n : Fin 2) (lane : Fin 4) (s : State) : Out :=
  okSettled (if cufState s n == 1 || cufState s n == 2 || cufState s n == 3 then cufLockLost n lane s else s)

/-- ALIGN (R376): a block on each lane, and the skew of each. -/
def execCufAlign (n : Fin 2) (s0 s1 s2 s3 : BitVec 6) (s : State) : Out :=
  okSettled (if cufState s n == 2 || cufState s n == 3 then
    let s := laneBlocks n 1 s
    (((s.setReg (Reg.CUF_LANE_SKEW n 0) (nw s0.toNat)).setReg (Reg.CUF_LANE_SKEW n 1) (nw s1.toNat)).setReg (Reg.CUF_LANE_SKEW n 2) (nw s2.toNat)).setReg
      (Reg.CUF_LANE_SKEW n 3) (nw s3.toNat)
  else s)

/-! ### Packets that arrive -/

/-- ADV (R391, R392, R395). -/
def execCufAdv (n : Fin 2) (p : CufRx) (s : State) : Out := rowRx n p s
/-- RD (R400). -/
def execCufRd (n : Fin 2) (p : CufRx) (s : State) : Out := rowRx n p s
/-- WR (R400). -/
def execCufWr (n : Fin 2) (p : CufRx) (s : State) : Out := rowRx n p s
/-- WRM (R400). -/
def execCufWrm (n : Fin 2) (p : CufRx) (s : State) : Out := rowRx n p s
/-- RSP (R399). -/
def execCufRsp (n : Fin 2) (p : CufRx) (s : State) : Out := rowRx n p s
/-- MSG (R427). -/
def execCufMsg (n : Fin 2) (p : CufRx) (s : State) : Out := rowRx n p s
/-- IMAGE (R433). -/
def execCufImage (n : Fin 2) (p : CufRx) (s : State) : Out := rowRx n p s
/-- TIME (R401, R428). -/
def execCufTime (n : Fin 2) (p : CufRx) (s : State) : Out := rowRx n p s
/-- BALANCE (R397). -/
def execCufBalance (n : Fin 2) (p : CufRx) (s : State) : Out := rowRx n p s
/-- RETRAIN (R395). -/
def execCufRetrain (n : Fin 2) (p : CufRx) (s : State) : Out := rowRx n p s
/-- NAK (R388). -/
def execCufNak (n : Fin 2) (p : CufRx) (s : State) : Out := rowRx n p s
/-- HELLO (R420). -/
def execCnsHello (n : Fin 2) (p : CufRx) (s : State) : Out := rowRx n p s
/-- SYNC (R429). -/
def execCnsSync (n : Fin 2) (p : CufRx) (s : State) : Out := rowRx n p s
/-- EPOCH (R422). -/
def execCnsEpoch (n : Fin 2) (p : CufRx) (s : State) : Out := rowRx n p s
/-- LINKS (R422). -/
def execCnsLinks (n : Fin 2) (p : CufRx) (s : State) : Out := rowRx n p s
/-- BOOT_REQ (R433): `flash` is the image in the slot the leader booted from. -/
def execBootReq (n : Fin 2) (p : CufRx) (flash : List Word) (s : State) : Out := okSettled (cufRx busSrv n flash p s)
/-- IMAGE_FOR (R433). -/
def execImageFor (n : Fin 2) (p : CufRx) (s : State) : Out := rowRx n p s

/-- NULL (R385): one arrives, or one leaves that is due for an acknowledgment or for credits owed. -/
def execCufNull (n : Fin 2) (p : Option CufRx) (s : State) : Out :=
  match p with
  | some x => rowRx n x s
  | none => okSettled (if cufUp s n then cufSendUnseq n 1 0 [] 1 s else s)

/-- RESYNC (R388): a RESYNC row arrives. -/
def execCufResync (n : Fin 2) (s : State) : Out := okSettled (cufResync n s)

/-! ### What falls due at a port -/

/-- REPLAY_TIMEOUT (R389). -/
def execReplayTimeout (n : Fin 2) (s : State) : Out := okSettled (cufReplayTimeout n s)

/-- BALANCE_DUE (R385). -/
def execBalanceDue (n : Fin 2) (s : State) : Out := okSettled (cufBalanceDue n s)

/-- SILENCE (R394). -/
def execCufSilence (n : Fin 2) (s : State) : Out := okSettled (cufSilence n s)

/-- RETRAIN_TIMEOUT (R396): the link goes down with the retrain's own reason. -/
def execRetrainTimeout (n : Fin 2) (s : State) : Out := okSettled (if cufRetrainTimedOut s n then linkDown n (s.fld (Reg.CUF_ERR_INFO n) 11 8) s else s)

/-- CREDIT_SHRINK (R398). -/
def execCreditShrink (n : Fin 2) (v : Fin 9) (s : State) : Out := okSettled (cufCreditShrink n v s)

/-- PARTNER_SILENT (R410, R414). -/
def execPartnerSilent (n : Fin 2) (tag : Fin 256) (s : State) : Out :=
  okSettled (if cufSilentReq s n tag then linkDown n 14 (cufViol n 14 0 s) else s)

/-! ### Writes to a port's page -/

/-- CUF_RETRAIN_WRITE (R394). -/
def execCufRetrainWrite (i : Initiator) (n : Fin 2) (v : Word) (s : State) : Out := okSettled (regCmd i (Reg.CUF_CTL n) (bset v 1 true) s)
/-- CUF_EN_WRITE (R372, R409). -/
def execCufEnWrite (i : Initiator) (n : Fin 2) (v : Word) (s : State) : Out := okSettled (regCmd i (Reg.CUF_CTL n) v s)
/-- LOSE_CREDIT (R397). -/
def execLoseCredit (i : Initiator) (n : Fin 2) (v : Word) (s : State) : Out := okSettled (regCmd i (Reg.CUF_INJECT n) (bset v 2 true) s)
/-- BAD_SLOT (R388). -/
def execBadSlot (i : Initiator) (n : Fin 2) (v : Word) (s : State) : Out := okSettled (regCmd i (Reg.CUF_INJECT n) (bset v 1 true) s)
/-- BAD_CRC (R388). -/
def execBadCrc (i : Initiator) (n : Fin 2) (v : Word) (s : State) : Out := okSettled (regCmd i (Reg.CUF_INJECT n) (bset v 0 true) s)

/-! ### The consort -/

/-- TIME_SEND (R428). -/
def execTimeSend (n : Fin 2) (s : State) : Out := okSettled (timeSend n s)
/-- TIME_APART (R432). -/
def execTimeApart (s : State) : Out := okSettled (timeApartDue s)
/-- BOOT_REQ_DUE (R433). -/
def execBootReqDue (s : State) : Out := okSettled (bootReqDue s)
/-- REJOIN_TIME (R432). -/
def execRejoinTime (i : Initiator) (v : Word) (s : State) : Out := okSettled (regCmd i Reg.CNS_CTL (bset v 2 true) s)

end Sys2Proof.Machine
end

