-- ==== Sys2Proof/Machine/RowsFabric.lean ====
section
/-!
DEFINITION. Rows of the fabric, its power domains and its trace writer (chapter 10), and register writes of the homes and the DRAM controllers.
-/
set_option linter.constructorNameAsVariable false

namespace Sys2Proof.Machine

def goodLine (l : List Word) : Line := l.map (fun w => ⟨w, .good⟩)

/-! ### Requests (R338, R339) -/

/-- The most words an initiator presents at once (R341, R338): a core's access is one packet. -/
def mostWords (i : Initiator) : Nat := if i.ep.val < 8 then 16 else 4096

/-- IO_RD: a read of `len` words. -/
def execIoRd (i : Initiator) (a : Fin 17179869184) (len : Fin 4097) (s : State) : Out :=
  okSettled (if len.val = 0 then s else sendIo i 0 a (min len (mostWords i)) .cas none [] s)

/-- IO_WR: a mask has five bits for each word. -/
def execIoWr (i : Initiator) (a : Fin 17179869184) (mask : Option Nat) (data : List Word) (s : State) : Out :=
  let d := data.take (mostWords i)
  okSettled (if d.isEmpty then s else sendIo i 1 a d.length .cas (mask.map (fun m => m % 2 ^ (5 * d.length))) (goodLine d) s)

/-- IO_ATOM. -/
def execIoAtom (i : Initiator) (a : Fin 17179869184) (op : AtOp) (operand cmp : Word) (s : State) : Out :=
  okSettled (sendIo i 2 a 2 op none (goodLine [operand, cmp]) s)

/-! ### Responses and tags (R351-R356) -/

/-- The completion of endpoint 30's tag: the host's command or the debug port's operation that waits for it; one whose access was held when it was
issued waits for the first completion that no other waits for. -/
def done30 (tag : Nat) (st : FStatus) (d : Line) (s : State) : State :=
  let h := s.boot.hostWait.map (fun x => x.1)
  if h = some tag then hostTagDone tag st d s
  else if s.jtag.wait = some tag then jtagTagDone tag st d s
  else if h = some heldTag then hostTagDone heldTag st d s
  else jtagTagDone heldTag st d s

/-- What a completion does at its initiator: core c, the stream engine, a Cuff port, or endpoint 30's host port and debug port. -/
def delivered (ep tag pa code : Nat) (st : FStatus) (d : Line) (s : State) : State :=
  if ep < 8 then coreResponse ep pa code st d s
  else if ep = 18 then segAnswer busSrv tag st d s
  else if ep = 20 || ep = 21 then cufIoDone (ep - 20) tag st d s
  else if ep = 30 then done30 tag st d s
  else s

/-- The response in flight for a tag arrives; where it completes the tag, its initiator goes on. -/
def ioArrives (ep tag code : Nat) (s : State) : State :=
  match takeResp s ep tag code with
  | none => s
  | some (p, _) =>
    let v := tagOf s ep tag
    let live := decide (v.st = .busy) && v.gen == p.gen
    let s := takeResponse busSrv ep tag code s
    if live then delivered ep tag v.addr code p.status p.data s else s

/-- IO_DATA. -/
def execIoData (ep : Fin 32) (tag : Fin 256) (s : State) : Out := okSettled (ioArrives ep tag 0 s)

/-- IO_COMP. -/
def execIoComp (ep : Fin 32) (tag : Fin 256) (s : State) : Out := okSettled (ioArrives ep tag 1 s)

/-- A BUSY tag has expired: its block is given TIMEOUT (R352). -/
def tagTimeout (ep tag : Nat) (s : State) : State :=
  let v := tagOf s ep tag
  let s := expireTag ep tag s
  if v.snp then snoopTimeout ((ep - 8) / 2) (agentOf v.dst) (v.addr / 16) s
  else if v.coh then requestTimeout (agentOf ep) (v.addr / 16) s
  else delivered ep tag v.addr (if ep < 8 && ((s.core ep).outStores.any (fun e => e.1 == v.addr)) then 1 else 0) .timeout [] (complete ep .timeout [] s)

/-- FAB_TIMEOUT (R352). -/
def execFabTimeout (ep : Fin 32) (tag : Fin 256) (s : State) : Out := okSettled (if tagExpired s ep tag then tagTimeout ep tag s else s)

/-- TAG_RETIREMENT (R353, R356). -/
def execTagRetirement (ep : Fin 32) (tag : Fin 256) (s : State) : Out :=
  okSettled (if tagRetires s ep tag then releaseHeld busSrv ep (clearTag ep tag (tagOf s ep tag).gen s) else s)

/-! ### Power domains (R358, R359, R651, R652) -/

/-- DOMAIN_CLOSE (R358). -/
def execDomainClose (d : Fin 21) (s : State) : Out :=
  okSettled (if domState s d = 0 && mayShut s d && !domShed s d then domainClose d s else s)

/-- DOMAIN_SHUT (R358, R652). -/
def execDomainShut (d : Fin 21) (s : State) : Out := okSettled (domainShut d s)

/-- DOMAIN_OPEN (R359, R653). -/
def execDomainOpen (d : Fin 21) (s : State) : Out := okSettled (domainOpen busSrv d s)

/-- FAB_WAKE_FAIL (R359). -/
def execFabWakeFail (d : Fin 21) (s : State) : Out := okSettled (wakeFailed busSrv d s)

/-- SHUT (R652). -/
def execPwrShut (i : Initiator) (d : Fin 21) (v : Word) (s : State) : Out := okSettled (regCmd i (Reg.PWR_DOM d) (bset v 0 true) s)

/-- DOMAIN_WAKE (R652). -/
def execDomainWake (i : Initiator) (d : Fin 21) (v : Word) (s : State) : Out := okSettled (regCmd i (Reg.PWR_DOM d) (bset v 1 true) s)

/-- RETAIN_ENTRY (R651). -/
def execRetainEntry (d : Fin 21) (s : State) : Out := okSettled (retainEntry d s)

/-- SUPPLY_SAMPLE (R654, R656): a reading of 5 mV steps from each of the four monitors, `ns` after the last sample. -/
def execSupplySample (ns : Fin 151) (r0 r1 r2 r3 : Fin 410) (s : State) : Out :=
  okSettled (supplySample ns [5 * r0.val, 5 * r1.val, 5 * r2.val, 5 * r3.val] s)

/-- PWR_VMIN_WRITE (R654). -/
def execPwrVminWrite (i : Initiator) (v : Word) (s : State) : Out := okSettled (regCmd i Reg.PWR_VMIN v s)

/-! ### The trace writer and the routes -/

/-- Four records leave as one line of stage memory (R362); after the last line of the range the writer wraps or stops. -/
def traceWrite (s : State) : State :=
  let w := s.fld Reg.PRB_TRACE_WPTR 15 0
  let base := s.fld Reg.PRB_TRACE_BASE 33 4
  let ws := ((s.fab.trace.take 4).map (fun r => [r.w0, r.w1, r.w2, r.w3])).flatten
  let s := { s with fab := { s.fab with trace := s.fab.trace.drop 4 } }
  let s := (uncachedWrite 11 (base + w) fullMask (goodLine ws) s).2
  let n := s.fld Reg.PRB_TRACE_SIZE 15 0
  if w + 1 < n then s.setReg Reg.PRB_TRACE_WPTR (nw (w + 1))
  else if s.bit Reg.PRB_CTL 1 then s.setReg Reg.PRB_TRACE_WPTR 0
  else (s.setReg Reg.PRB_TRACE_WPTR (nw (w + 1))).setBit Reg.PRB_STATUS 0 true

/-- TRACE_WRITE (R362): the writer has one line on its way at a time. -/
def execTraceWrite (s : State) : Out :=
  okSettled (if 4 ≤ s.fab.trace.length && !s.bit Reg.PRB_STATUS 0 && (s.agent 11).out.isEmpty then traceWrite s else s)

/-- FAB_RT_DATA_WRITE (R366). -/
def execFabRtDataWrite (i : Initiator) (v : Word) (s : State) : Out := okSettled (regCmd i Reg.FAB_RT_DATA v s)

/-! ### Homes and DRAM controllers -/

/-- HS_SPLIT_WRITE (R289). -/
def execHsSplitWrite (i : Initiator) (n : Fin 4) (v : Word) (s : State) : Out := okSettled (regCmd i (Reg.HS_SPLIT n) v s)

/-- STAGE_SPLIT_COMPLETE (R289). -/
def execStageSplitComplete (n : Fin 4) (s : State) : Out :=
  okSettled (match s.split with
    | some (k, u) => if k = n.val then finishSplit n u s else s
    | none => s)

/-- HS_DIR_SEL_WRITE (R274). -/
def execHsDirSelWrite (i : Initiator) (n : Fin 4) (v : Word) (s : State) : Out := okSettled (regCmd i (Reg.HS_DIR_SEL n) v s)

/-- DMC_ENABLE (R498). -/
def execDmcEnable (i : Initiator) (n : Fin 2) (v : Word) (s : State) : Out := okSettled (regCmd i (Reg.DMC_CTL n) (bset v 0 true) s)

/-- DMC_STOP (R510). -/
def execDmcStop (i : Initiator) (n : Fin 2) (v : Word) (s : State) : Out := okSettled (regCmd i (Reg.DMC_CTL n) (bset v 0 false) s)

/-- A bring-up or resume ends: what waited for the channel goes on, and so does the boot. -/
def seqEnd (n : Nat) (resume : Bool) (fail : Option (Bool × Fin 6)) (trained : List Word) (s : State) : State :=
  if (s.dmc n).busy = some resume && !s.tb.xbLost then
    let s := dmcSeqDone n resume fail trained s
    dramPoll (retryHomes (retryWaits n s))
  else s

/-- DMC_BRINGUP_DONE (R498). -/
def execDmcBringupDone (n : Fin 2) (fail : Option (Bool × Fin 6)) (trained : List Word) (s : State) : Out := okSettled (seqEnd n false fail trained s)

/-- DMC_RESUME_DONE (R512). -/
def execDmcResumeDone (n : Fin 2) (fail : Option (Bool × Fin 6)) (trained : List Word) (s : State) : Out := okSettled (seqEnd n true fail trained s)

/-- What waits at channel n goes on where it can (R41, R504). -/
def dmcGoesOn (n : Nat) (s : State) : State := if dmcSt s n = .serving then retryHomes (retryWaits n s) else s

/-- FILL_STEP (R503, R504). -/
def execFillStep (n : Fin 2) (k : Fin 4) (s : State) : Out := okSettled (dmcGoesOn n (fillStep n k s))

/-- FILL_WAIT_END (R504): what waits under R504 proceeds once a table entry or slot is free. -/
def execFillWaitEnd (n : Fin 2) (s : State) : Out := okSettled (dmcGoesOn n s)

/-- WRITE_QUEUE_WRITE (R491). -/
def execWriteQueueWrite (n : Fin 2) (s : State) : Out := okSettled (if dmcSt s n = .serving then dmcGoesOn n (drainOne n s) else s)

/-- SINGLE (R752). -/
def execDmcInjectSingle (i : Initiator) (n : Fin 2) (v : Word) (s : State) : Out :=
  okSettled (regCmd i (Reg.DMC_INJECT n) (bset (bset v 0 true) 1 false) s)

/-- DOUBLE (R752). -/
def execDmcInjectDouble (i : Initiator) (n : Fin 2) (v : Word) (s : State) : Out := okSettled (regCmd i (Reg.DMC_INJECT n) (bset v 1 true) s)

/-- FRESH_PARITY (R513). -/
def execDmcInjectFreshParity (i : Initiator) (n : Fin 2) (v : Word) (s : State) : Out := okSettled (regCmd i (Reg.DMC_INJECT n) (bset v 2 true) s)

end Sys2Proof.Machine
end

