-- ==== Sys2Proof/Machine/RowsNet.lean ====
section
/-!
DEFINITION. Rows of Ethernet and USB (chapter 16), of Fingertip and the keep store (chapter 17).
-/
set_option linter.constructorNameAsVariable false

namespace Sys2Proof.Machine

/-! ### Ethernet (R554-R569) -/

/-- ETH_FRAME_RECEIVED: the octets of a frame before its FCS, and whether the FCS is good. -/
def execEthFrameReceived (os : List (BitVec 8)) (fcs : Bool) (s : State) : Out := okSettled (ethReceive (os.map BitVec.toNat) fcs s)
/-- PAUSE (R561): a PAUSE frame reaches a receiver that is on. -/
def execEthPause (t : BitVec 16) (s : State) : Out := okSettled (if s.bit Reg.ETH_CTL 1 && !ethStopped s then ethPauseFrame t.toNat s else s)
/-- PAUSE_END (R561). -/
def execEthPauseEnd (s : State) : Out := okSettled (ethPauseOver s)
/-- ETH_FRAME_TRANSMIT (R555). -/
def execEthFrameTransmit (s : State) : Out := okSettled (ethTransmit busSrv s)
/-- AAF_FRAME_BUILD (R567). -/
def execAafFrameBuild (q : Fin 8) (s : State) : Out := okSettled (if ethStopped s then s else aafBuild busSrv q s)
/-- ETH_SMAP_COMMIT (R564). -/
def execEthSmapCommit (i : Initiator) (v : Word) (s : State) : Out := okSettled (regCmd i Reg.ETH_SMAP_COMMIT v s)
/-- AAF_STREAM_ENABLE (R565). -/
def execAafStreamEnable (i : Initiator) (a : Fin 16) (v : Word) (s : State) : Out := okSettled (regCmd i (Reg.ETH_AAF_CFG a) (bset v 39 true) s)
/-- MDIO_CMD_WRITE (R569). -/
def execMdioCmdWrite (i : Initiator) (v : Word) (s : State) : Out := okSettled (regCmd i Reg.ETH_MDIO_CMD v s)
/-- MDIO_FRAME_DONE (R569): the word an answering PHY gave. -/
def execMdioFrameDone (d : Option (BitVec 16)) (s : State) : Out := okSettled (if ethStopped s then s else mdioDone d s)

/-! ### USB (R570-R578) -/

/-- BUS_RESET (R571): `hs` is the host's answer to the chirp. -/
def execBusReset (hs : Bool) (s : State) : Out := okSettled (usbBusReset hs s)
/-- USB_SUSPEND (R571). -/
def execUsbSuspend (s : State) : Out := okSettled (usbSuspend s)
/-- USB_RESUME (R571). -/
def execUsbResume (s : State) : Out := okSettled (usbResume s)
/-- USB_WAKE (R571). -/
def execUsbWake (i : Initiator) (v : Word) (s : State) : Out := okSettled (regCmd i Reg.USB_CTL (bset v 3 true) s)
/-- USB_ADDR_WRITE (R572). -/
def execUsbAddrWrite (i : Initiator) (v : Word) (s : State) : Out := okSettled (regCmd i Reg.USB_ADDR v s)
/-- SETUP (R573). -/
def execUsbSetup (p : BitVec 64) (s : State) : Out := okSettled (usbSetup p s)
/-- SEND (R573). -/
def execEp0Send (s : State) : Out := okSettled (ep0SendPkt s)
/-- RECV (R573). -/
def execEp0Recv (os : List (BitVec 8)) (s : State) : Out := okSettled (ep0RecvPkt (os.map BitVec.toNat) s)
/-- STATUS_ACK (R573). -/
def execEp0StatusAck (s : State) : Out := okSettled (ep0StatusStage s)
/-- STALL (R573). -/
def execEp0Stall (s : State) : Out := okSettled (ep0StallAnswer s)
/-- USB_IN_PACKET (R575): `acked` is the host's handshake. -/
def execUsbInPacket (e : Fin 8) (acked : Bool) (s : State) : Out := okSettled (usbIn busSrv e acked s)
/-- USB_OUT_PACKET (R576): `err` is 0 none, 1 CRC, 2 PID, 3 bit stuffing. -/
def execUsbOutPacket (e : Fin 8) (os : List (BitVec 8)) (toggle : Bool) (err : Fin 4) (s : State) : Out :=
  okSettled (usbOut e (os.map BitVec.toNat) toggle err s)
/-- SOF (R577). -/
def execUsbSof (frame : BitVec 11) (micro : Fin 8) (s : State) : Out := okSettled (usbSofPkt frame.toNat micro s)
/-- USB_EP_ENABLE (R574). -/
def execUsbEpEnable (i : Initiator) (out : Bool) (e : Fin 8) (v : Word) (s : State) : Out := okSettled (regCmd i (usbCfg out e) (bset v 20 true) s)
/-- RESET_TOGGLE (R574). -/
def execResetToggle (i : Initiator) (out : Bool) (e : Fin 8) (v : Word) (s : State) : Out := okSettled (regCmd i (usbCfg out e) (bset v 21 true) s)
/-- USB_TEST_WRITE (R570). -/
def execUsbTestWrite (i : Initiator) (v : Word) (s : State) : Out := okSettled (regCmd i Reg.USB_TEST v s)

/-! ### Fingertip (R596-R606) -/

/-- ANALOG_SAMPLE (R600). -/
def execAnalogSample (j : Fin 24) (raw : BitVec 14) (s : State) : Out := okSettled (anaSample j raw.toNat s)
/-- FGT_ENABLE (R606). -/
def execFgtEnable (i : Initiator) (v : Word) (s : State) : Out := okSettled (regCmd i Reg.FGT_CTL (bset v 0 true) s)
/-- FGT_DISABLE (R606). -/
def execFgtDisable (i : Initiator) (v : Word) (s : State) : Out := okSettled (regCmd i Reg.FGT_CTL (bset v 0 false) s)
/-- RELOAD (R605). -/
def execFgtReload (i : Initiator) (v : Word) (s : State) : Out := okSettled (regCmd i Reg.FGT_CTL (bset v 1 true) s)
/-- CAL_LOAD_DONE (R605, R612). -/
def execCalLoadDone (s : State) : Out := okSettled (calLoad s)
/-- SEQ (R596). -/
def execFgtInjectSeq (i : Initiator) (v : Word) (s : State) : Out := okSettled (regCmd i Reg.FGT_INJECT (bset v 1 true) s)
/-- DROP (R603). -/
def execFgtInjectDrop (i : Initiator) (v : Word) (s : State) : Out := okSettled (regCmd i Reg.FGT_INJECT (bset v 0 true) s)

/-! ### The keep store (R608, R609, R618) -/

/-- RESTORE_FACTORY. -/
def execRestoreFactory (i : Initiator) (v : Word) (s : State) : Out := okSettled (regCmd i Reg.KEP_CMD (fset v 3 0 1) s)
/-- ERASE_USER. -/
def execEraseUser (i : Initiator) (v : Word) (s : State) : Out := okSettled (regCmd i Reg.KEP_CMD (fset v 3 0 2) s)
/-- APPLY_USER. -/
def execApplyUser (i : Initiator) (v : Word) (s : State) : Out := okSettled (regCmd i Reg.KEP_CMD (fset v 3 0 3) s)
/-- KEP_WP_WRITE. -/
def execKepWpWrite (i : Initiator) (w : Fin 6) (v : Word) (s : State) : Out := okSettled (regCmd i (Reg.KEP_WP w) v s)
/-- KEP_INJECT. -/
def execKepInject (i : Initiator) (v : Word) (s : State) : Out := okSettled (regCmd i Reg.KEP_INJECT v s)

end Sys2Proof.Machine
end

