-- ==== Sys2Proof/Machine/RowsPorts.lean ====
section
/-!
DEFINITION. Rows of audio, MIDI, I2C, QSPI, eMMC, GPIO and the host port's wires (chapter 15).
-/
set_option linter.constructorNameAsVariable false

namespace Sys2Proof.Machine

/-! ### Audio (R518-R527, R549) -/

/-- AUDIO_ENABLE (R519). -/
def execAudioEnable (i : Initiator) (n : Fin 8) (v : Word) (s : State) : Out := okSettled (regCmd i (Reg.AUD_CTL n) (bset v 0 true) s)
/-- AUDIO_DISABLE (R527). -/
def execAudioDisable (i : Initiator) (n : Fin 8) (v : Word) (s : State) : Out := okSettled (regCmd i (Reg.AUD_CTL n) (bset v 0 false) s)
/-- SLAVE_FRAME_START (R518): after `periods` SCK periods. -/
def execSlaveFrameStart (n : Fin 8) (periods : Nat) (s : State) : Out := okSettled (audSlaveStart busSrv n periods s)
/-- AUDIO_FRAME_RECEIVED (R525): slot k's bits, right-justified. -/
def execAudioFrameReceived (n : Fin 8) (slots : List (BitVec 32)) (s : State) : Out := okSettled (audReceive n slots s)
/-- AUD_CLK_LOST (R549). -/
def execAudClkLost (n : Fin 8) (s : State) : Out := okSettled (audSlaveLost n s)
/-- UNDERRUN (R524). -/
def execAudInjectUnderrun (i : Initiator) (n : Fin 8) (v : Word) (s : State) : Out := okSettled (regCmd i (Reg.AUD_INJECT n) (bset v 0 true) s)
/-- FRAME_ERR (R549). -/
def execAudInjectFrameErr (i : Initiator) (n : Fin 8) (v : Word) (s : State) : Out := okSettled (regCmd i (Reg.AUD_INJECT n) (bset v 1 true) s)

/-! ### MIDI (R529-R531) -/

/-- MIDI_OCTET_RECEIVED (R531): `stopLow` is a stop bit that reads low. -/
def execMidiOctetReceived (m : Fin 4) (o : BitVec 8) (stopLow : Bool) (s : State) : Out := okSettled (midOctet m o stopLow s)
/-- MIDI_SEND (R530). -/
def execMidiSend (m : Fin 4) (s : State) : Out := okSettled (midSend busSrv m s)
/-- MIDI_BREAK (R531): the line is held low, or has returned high. -/
def execMidiBreak (m : Fin 4) (low : Bool) (s : State) : Out := okSettled (midLow m low s)

/-! ### I2C (R533, R549) -/

/-- START, with the slave's answer to the address octet. -/
def execI2cStart (p : Fin 3) (nack : Bool) (s : State) : Out := okSettled (i2cSend p 0 nack s)
/-- WRITE_DATA, with the slave's answer. -/
def execI2cWriteData (p : Fin 3) (nack : Bool) (s : State) : Out := okSettled (i2cSend p 1 nack s)
/-- READ_ACK. -/
def execI2cReadAck (p : Fin 3) (o : BitVec 8) (s : State) : Out := okSettled (i2cRead p 2 o s)
/-- READ_NACK. -/
def execI2cReadNack (p : Fin 3) (o : BitVec 8) (s : State) : Out := okSettled (i2cRead p 3 o s)
/-- STOP. -/
def execI2cStop (p : Fin 3) (s : State) : Out := okSettled (i2cStopCmd p s)
/-- I2C_BUS (R549). -/
def execI2cBus (p : Fin 3) (s : State) : Out := okSettled (i2cBus p s)
/-- I2C_RXDATA_READ (R698). -/
def execI2cRxdataRead (i : Initiator) (p : Fin 3) (s : State) : Out := okSettled (regReadCmd i (Reg.I2C_RXDATA p) s)

/-! ### QSPI and eMMC (R534-R536, R549) -/

/-- QSPI_CMD_WRITE. -/
def execQspiCmdWrite (i : Initiator) (v : Word) (s : State) : Out := okSettled (regCmd i Reg.QSPI_CMD v s)
/-- QSPI_TRANSFER_DONE: the octets the flash gave. -/
def execQspiTransferDone (os : List (BitVec 8)) (s : State) : Out := okSettled (qspiDone os s)
/-- EMC_CMD_WRITE. -/
def execEmcCmdWrite (i : Initiator) (v : Word) (s : State) : Out := okSettled (regCmd i Reg.EMC_CMD v s)
/-- EMC_DONE: the response and blocks the card gave. -/
def execEmcDone (resp data : List Word) (s : State) : Out := okSettled (emcDone resp data s)
/-- EMC_ERR (R549). -/
def execEmcErr (k : Fin 4) (s : State) : Out := okSettled (emcErr k s)
/-- EMC_DATA_ACCESS (R536): a write of `w`, or a read. -/
def execEmcDataAccess (i : Initiator) (w : Option Word) (s : State) : Out :=
  okSettled (match w with | some v => regCmd i Reg.EMC_DATA v s | none => regReadCmd i Reg.EMC_DATA s)
/-- EMC_TUNE_START (R535). -/
def execEmcTuneStart (i : Initiator) (v : Word) (s : State) : Out := okSettled (regCmd i Reg.EMC_TUNE (bset v 6 true) s)
/-- EMC_INJECT (R549). -/
def execEmcInject (i : Initiator) (v : Word) (s : State) : Out := okSettled (regCmd i Reg.EMC_INJECT v s)

/-! ### GPIO (R537, R547) -/

/-- GPIO_EDGE. -/
def execGpioEdge (l : Fin 48) (rise : Bool) (s : State) : Out := okSettled (gpioEdge l rise s)
/-- GPIO_OUT_SET. -/
def execGpioOutSet (i : Initiator) (hi : Bool) (v : Word) (s : State) : Out :=
  okSettled (regCmd i (if hi then Reg.GPIO_OUT_SET_HI else Reg.GPIO_OUT_SET_LO) v s)
/-- GPIO_OUT_CLR. -/
def execGpioOutClr (i : Initiator) (hi : Bool) (v : Word) (s : State) : Out :=
  okSettled (regCmd i (if hi then Reg.GPIO_OUT_CLR_HI else Reg.GPIO_OUT_CLR_LO) v s)

/-- HOST_TRANSACTION (R538, R539): the octets of one transaction of the host port. -/
def execHostTransaction (os : List (BitVec 8)) (s : State) : Out := okSettled (hostTransaction os s)

end Sys2Proof.Machine
end

