-- ==== Sys2Proof/Machine/RowsSeg.lean ====
section
/-!
DEFINITION. Rows of the stream engine (chapter 13).
-/
set_option linter.constructorNameAsVariable false

namespace Sys2Proof.Machine

/-- The address of offset o of ring r's slot in the page of function f (R443). -/
def slotAddr (f r o : Nat) : Nat := 0x240100 + 0x1000 * f + 16 * r + o

/-! ### The engine's own page (R442, R464, R479) -/

/-- CREATE (R442). -/
def execSegCreate (i : Initiator) (v : Word) (s : State) : Out := okSettled (regCmd i Reg.SEG_CMD (fset v 3 0 1) s)
/-- DESTROY (R442). -/
def execSegDestroy (i : Initiator) (v : Word) (s : State) : Out := okSettled (regCmd i Reg.SEG_CMD (fset v 3 0 2) s)
/-- MOVE_RING (R464). -/
def execMoveRing (i : Initiator) (v : Word) (s : State) : Out := okSettled (regCmd i Reg.SEG_CMD (fset v 3 0 3) s)
/-- RESET (R442, R466). -/
def execSegReset (i : Initiator) (v : Word) (s : State) : Out := okSettled (regCmd i Reg.SEG_CMD (fset v 3 0 4) s)
/-- FREEZE_WRITE (R479). -/
def execFreezeWrite (i : Initiator) (v : Word) (s : State) : Out := okSettled (regCmd i Reg.SEG_CTL v s)

/-! ### Function pages (R443, R444, R451, R461-R466) -/

/-- FUNCTION_RESET (R466). -/
def execFunctionReset (i : Initiator) (f : Fin 16) (v : Word) (s : State) : Out := okSettled (regCmd i (Reg.SEF_CTL f) (bset v 1 true) s)
/-- MASTER_ENABLE_WRITE (R465). -/
def execMasterEnableWrite (i : Initiator) (f : Fin 16) (v : Word) (s : State) : Out := okSettled (regCmd i (Reg.SEF_CTL f) (bset v 1 false) s)
/-- TAIL_WRITE (R451). -/
def execTailWrite (i : Initiator) (f : Fin 16) (r : Fin 64) (v : Word) (s : State) : Out := okSettled (regCmd i (slotAddr f r 4) v s)
/-- RING_ENABLE (R461). -/
def execRingEnable (i : Initiator) (f : Fin 16) (r : Fin 64) (v : Word) (s : State) : Out := okSettled (regCmd i (slotAddr f r 0) (bset v 39 true) s)
/-- RING_DRAIN (R461). -/
def execRingDrain (i : Initiator) (f : Fin 16) (r : Fin 64) (v : Word) (s : State) : Out := okSettled (regCmd i (slotAddr f r 0) (bset v 39 false) s)
/-- ABORT (R462). -/
def execRingAbort (i : Initiator) (f : Fin 16) (r : Fin 64) (v : Word) (s : State) : Out := okSettled (regCmd i (slotAddr f r 6) (fset v 17 16 1) s)
/-- RESUME (R463). -/
def execRingResume (i : Initiator) (f : Fin 16) (r : Fin 64) (v : Word) (s : State) : Out := okSettled (regCmd i (slotAddr f r 6) (fset v 17 16 2) s)

/-- FOREIGN_SLOT_READ (R444): a slot of a ring that another function, or the pool, owns. -/
def execForeignSlotRead (i : Initiator) (f : Fin 16) (r : Fin 64) (o : Fin 16) (s : State) : Out :=
  okSettled (if ringFn s r = some f.val then s else regReadCmd i (slotAddr f r o) s)

/-! ### What the engine does -/

/-- The engine moves: its domain is open, and neither XB nor shedding has stopped it. -/
def segRuns (s : State) : Bool := domState s 14 == 0

/-- FUNCTION_QUIESCED (R465). -/
def execFunctionQuiesced (f : Fin 16) (s : State) : Out := okSettled (quiesce f s)
/-- RING_OFF (R461). -/
def execRingOff (r : Fin 64) (s : State) : Out := okSettled (ringOff r s)
/-- DESCRIPTOR_FETCH (R448, R453); the unit that it completes starts. -/
def execDescriptorFetch (r : Fin 64) (s : State) : Out := okSettled (if segRuns s then pump busSrv r (fetchDesc r s) else s)
/-- UNIT_COMMIT (R454). -/
def execUnitCommit (r : Fin 64) (s : State) : Out := okSettled (if segRuns s then pump busSrv r (unitCommit r s) else s)
/-- STATUS_WRITES_DONE (R454). -/
def execStatusWritesDone (r : Fin 64) (s : State) : Out := okSettled (statusDone r s)
/-- RX_UNIT_DATA (R459). -/
def execRxUnitData (r : Fin 64) (s : State) : Out := okSettled (if segRuns s then rxData busSrv r s else s)
/-- RX_HOLD_TIMEOUT (R459). -/
def execRxHoldTimeout (r : Fin 64) (s : State) : Out := okSettled (rxHoldTimeout r s)
/-- BLOCK_TIMEOUT (R455). -/
def execBlockTimeout (r : Fin 64) (s : State) : Out := okSettled (blockTimeout r s)

end Sys2Proof.Machine
end

