-- ==== Sys2Proof/Machine/Dispatch.lean ====
section
/-!
DEFINITION. One arm per command: a direct call of its meaning, or its rejection by name.
-/
namespace Sys2Proof.Machine

def exec (i : Instr) (s : State) : Host.Outcome State Fault Refusal :=
  match i with
  | .powerOn x => Sys2Proof.Machine.execPowerOn x s
  | .resetNRise x => Sys2Proof.Machine.execResetNRise x s
  | .tbPllLock => Sys2Proof.Machine.execTbPllLock s
  | .tbPllUnlock => Sys2Proof.Machine.execTbPllUnlock s
  | .clockLost xb => Sys2Proof.Machine.execClockLost xb s
  | .tbPulse closed => Sys2Proof.Machine.execTbPulse closed s
  | .shortRegisterAlu c op rd rs1 rs2 => Sys2Proof.Machine.execShortRegisterAlu c op rd rs1 rs2 s
  | .shortImmediate c rd op => Sys2Proof.Machine.execShortImmediate c rd op s
  | .accumulatorMove c op => Sys2Proof.Machine.execAccumulatorMove c op s
  | .compare c op rs1 rs2 => Sys2Proof.Machine.execCompare c op rs1 rs2 s
  | .cbz c rs sense off => Sys2Proof.Machine.execCbz c rs sense off s
  | .bc c cond off => Sys2Proof.Machine.execBc c cond off s
  | .branch c off => Sys2Proof.Machine.execBranch c off s
  | .brL c off => Sys2Proof.Machine.execBrL c off s
  | .call c off => Sys2Proof.Machine.execCall c off s
  | .jalr c rd rs1 off => Sys2Proof.Machine.execJalr c rd rs1 off s
  | .bcL c cond off => Sys2Proof.Machine.execBcL c cond off s
  | .branchResolution c wrong squashed count => Sys2Proof.Machine.execBranchResolution c wrong squashed count s
  | .longRegisterAlu c op f rd rs1 rs2 => Sys2Proof.Machine.execLongRegisterAlu c op f rd rs1 rs2 s
  | .immediateAlu c op => Sys2Proof.Machine.execImmediateAlu c op s
  | .longImmediate c op => Sys2Proof.Machine.execLongImmediate c op s
  | .adr c word rd imm => Sys2Proof.Machine.execAdr c word rd imm s
  | .bitField c op rd rs1 p w1 => Sys2Proof.Machine.execBitField c op rd rs1 p w1 s
  | .sel c op => Sys2Proof.Machine.execSel c op s
  | .lw c rt rb off => Sys2Proof.Machine.execLw c rt rb off s
  | .sw c rt rb off => Sys2Proof.Machine.execSw c rt rb off s
  | .lwAq c rt rb off => Sys2Proof.Machine.execLwAq c rt rb off s
  | .swRl c rt rb off => Sys2Proof.Machine.execSwRl c rt rb off s
  | .ld2 c rt rb off => Sys2Proof.Machine.execLd2 c rt rb off s
  | .sd2 c rt rb off => Sys2Proof.Machine.execSd2 c rt rb off s
  | .la c a rb off => Sys2Proof.Machine.execLa c a rb off s
  | .sa c a rb off => Sys2Proof.Machine.execSa c a rb off s
  | .lbu c rt rb off => Sys2Proof.Machine.execLbu c rt rb off s
  | .lbs c rt rb off => Sys2Proof.Machine.execLbs c rt rb off s
  | .sb c rt rb off => Sys2Proof.Machine.execSb c rt rb off s
  | .lwx c rt rb rx sc => Sys2Proof.Machine.execLwx c rt rb rx sc s
  | .swx c rt rb rx sc => Sys2Proof.Machine.execSwx c rt rb rx sc s
  | .cas c rd rb rs rc aq rl => Sys2Proof.Machine.execCas c rd rb rs rc aq rl s
  | .fadd c rd rb rs aq rl => Sys2Proof.Machine.execFadd c rd rb rs aq rl s
  | .swapInsn c rd rb rs aq rl => Sys2Proof.Machine.execSwapInsn c rd rb rs aq rl s
  | .ll c rd rb aq => Sys2Proof.Machine.execLl c rd rb aq s
  | .sc c rd rb rs rl => Sys2Proof.Machine.execSc c rd rb rs rl s
  | .multiplyAccumulate c op => Sys2Proof.Machine.execMultiplyAccumulate c op s
  | .floatingPoint c op => Sys2Proof.Machine.execFloatingPoint c op s
  | .fcmp c rs1 rs2 => Sys2Proof.Machine.execFcmp c rs1 rs2 s
  | .svc c imm => Sys2Proof.Machine.execSvc c imm s
  | .pmc c imm => Sys2Proof.Machine.execPmc c imm s
  | .mnc c imm => Sys2Proof.Machine.execMnc c imm s
  | .nop c => Sys2Proof.Machine.execNop c s
  | .fenceR c => Sys2Proof.Machine.execFenceR c s
  | .fenceW c => Sys2Proof.Machine.execFenceW c s
  | .fenceA c => Sys2Proof.Machine.execFenceA c s
  | .waitev c => Sys2Proof.Machine.execWaitev c s
  | .coreWake c => Sys2Proof.Machine.execCoreWake c s
  | .sev c => Sys2Proof.Machine.execSev c s
  | .eret c => Sys2Proof.Machine.execEret c s
  | .breakInsn c => Sys2Proof.Machine.execBreakInsn c s
  | .csrr c r cs => Sys2Proof.Machine.execCsrr c r cs s
  | .csrw c r cs => Sys2Proof.Machine.execCsrw c r cs s
  | .csrset c r cs => Sys2Proof.Machine.execCsrset c r cs s
  | .csrclr c r cs => Sys2Proof.Machine.execCsrclr c r cs s
  | .dcClean c r => Sys2Proof.Machine.execDcClean c r s
  | .dcClinv c r => Sys2Proof.Machine.execDcClinv c r s
  | .dcInv c r => Sys2Proof.Machine.execDcInv c r s
  | .icInv c r => Sys2Proof.Machine.execIcInv c r s
  | .tlbInvVa c r => Sys2Proof.Machine.execTlbInvVa c r s
  | .tlbInvAsid c imm => Sys2Proof.Machine.execTlbInvAsid c imm s
  | .tlbInvAll c => Sys2Proof.Machine.execTlbInvAll c s
  | .tlbInvPart c r => Sys2Proof.Machine.execTlbInvPart c r s
  | .asynchronousException c => Sys2Proof.Machine.execAsynchronousException c s
  | .storeErrorResponse c => Sys2Proof.Machine.execStoreErrorResponse c s
  | .corePageStore src c cs v => Sys2Proof.Machine.execCorePageStore src c cs v s
  | .cloakroomPromotion c l => Sys2Proof.Machine.execCloakroomPromotion c l s
  | .cloakEntryStale c l => Sys2Proof.Machine.execCloakEntryStale c l s
  | .paceWritebackDone c => Sys2Proof.Machine.execPaceWritebackDone c s
  | .gridPoint c completed => Sys2Proof.Machine.execGridPoint c completed s
  | .pairEnable src n v => Sys2Proof.Machine.execPairEnable src n v s
  | .groupCompare n => Sys2Proof.Machine.execGroupCompare n s
  | .pairDrain src n v => Sys2Proof.Machine.execPairDrain src n v s
  | .pairInjectDisagree src n v => Sys2Proof.Machine.execPairInjectDisagree src n v s
  | .pairInjectMissCanary src n v => Sys2Proof.Machine.execPairInjectMissCanary src n v s
  | .pairInjectParity src n v => Sys2Proof.Machine.execPairInjectParity src n v s
  | .pairInjectMismatch src n v => Sys2Proof.Machine.execPairInjectMismatch src n v s
  | .rdS a l => Sys2Proof.Machine.execRdS a l s
  | .rdX a l => Sys2Proof.Machine.execRdX a l s
  | .upg a l => Sys2Proof.Machine.execUpg a l s
  | .rdT c r => Sys2Proof.Machine.execRdT c r s
  | .promote c l epoch => Sys2Proof.Machine.execPromote c l epoch s
  | .rdU a l => Sys2Proof.Machine.execRdU a l s
  | .wrU a l mask data => Sys2Proof.Machine.execWrU a l mask data s
  | .atomU a l idx op operand cmp => Sys2Proof.Machine.execAtomU a l idx op operand cmp s
  | .wb a l => Sys2Proof.Machine.execWb a l s
  | .evict a l => Sys2Proof.Machine.execEvict a l s
  | .cmoClean c l => Sys2Proof.Machine.execCmoClean c l s
  | .cmoClinv c l => Sys2Proof.Machine.execCmoClinv c l s
  | .cmoInv c l => Sys2Proof.Machine.execCmoInv c l s
  | .epochHoldEnd n => Sys2Proof.Machine.execEpochHoldEnd n s
  | .snpInv a l => Sys2Proof.Machine.execSnpInv a l s
  | .snpFwdS a l => Sys2Proof.Machine.execSnpFwdS a l s
  | .snpFwdX a l => Sys2Proof.Machine.execSnpFwdX a l s
  | .snpGet a l => Sys2Proof.Machine.execSnpGet a l s
  | .snpClean a l => Sys2Proof.Machine.execSnpClean a l s
  | .snpRecall a l => Sys2Proof.Machine.execSnpRecall a l s
  | .dataS a l => Sys2Proof.Machine.execDataS a l s
  | .dataE a l => Sys2Proof.Machine.execDataE a l s
  | .dataM a l => Sys2Proof.Machine.execDataM a l s
  | .dataT c l => Sys2Proof.Machine.execDataT c l s
  | .dataU a l => Sys2Proof.Machine.execDataU a l s
  | .cohGrant a l => Sys2Proof.Machine.execCohGrant a l s
  | .cohDecline c l => Sys2Proof.Machine.execCohDecline c l s
  | .cohRetry a l => Sys2Proof.Machine.execCohRetry a l s
  | .cohComp a l => Sys2Proof.Machine.execCohComp a l s
  | .promoOk c l => Sys2Proof.Machine.execPromoOk c l s
  | .promoFail c l => Sys2Proof.Machine.execPromoFail c l s
  | .cohAck a l => Sys2Proof.Machine.execCohAck a l s
  | .cohAckData a l => Sys2Proof.Machine.execCohAckData a l s
  | .cohDone a l => Sys2Proof.Machine.execCohDone a l s
  | .hsSplitWrite src n v => Sys2Proof.Machine.execHsSplitWrite src n v s
  | .stageSplitComplete n => Sys2Proof.Machine.execStageSplitComplete n s
  | .hsDirSelWrite src n v => Sys2Proof.Machine.execHsDirSelWrite src n v s
  | .sourceAssert k => Sys2Proof.Machine.execSourceAssert k s
  | .eiuConfigWrite src isPart k v => Sys2Proof.Machine.execEiuConfigWrite src isPart k v s
  | .swevTrig src k => Sys2Proof.Machine.execSwevTrig src k s
  | .tbStep src v => Sys2Proof.Machine.execTbStep src v s
  | .tbSlewWrite src v => Sys2Proof.Machine.execTbSlewWrite src v s
  | .slewTick => Sys2Proof.Machine.execSlewTick s
  | .tbNowLoRead src => Sys2Proof.Machine.execTbNowLoRead src s
  | .timerFire c => Sys2Proof.Machine.execTimerFire c s
  | .rateBoundary g => Sys2Proof.Machine.execRateBoundary g s
  | .rgenEnable src g v => Sys2Proof.Machine.execRgenEnable src g v s
  | .rgenDisable src g v => Sys2Proof.Machine.execRgenDisable src g v s
  | .rgenRateWrite src g den v => Sys2Proof.Machine.execRgenRateWrite src g den v s
  | .ioRd src a len => Sys2Proof.Machine.execIoRd src a len s
  | .ioWr src a mask data => Sys2Proof.Machine.execIoWr src a mask data s
  | .ioAtom src a op operand cmp => Sys2Proof.Machine.execIoAtom src a op operand cmp s
  | .ioData ep tag => Sys2Proof.Machine.execIoData ep tag s
  | .ioComp ep tag => Sys2Proof.Machine.execIoComp ep tag s
  | .fabTimeout ep tag => Sys2Proof.Machine.execFabTimeout ep tag s
  | .tagRetirement ep tag => Sys2Proof.Machine.execTagRetirement ep tag s
  | .domainClose d => Sys2Proof.Machine.execDomainClose d s
  | .domainShut d => Sys2Proof.Machine.execDomainShut d s
  | .domainOpen d => Sys2Proof.Machine.execDomainOpen d s
  | .fabWakeFail d => Sys2Proof.Machine.execFabWakeFail d s
  | .traceWrite => Sys2Proof.Machine.execTraceWrite s
  | .fabRtDataWrite src v => Sys2Proof.Machine.execFabRtDataWrite src v s
  | .cuffTrainingStart n => Sys2Proof.Machine.execCuffTrainingStart n s
  | .blockLock n p0 p1 p2 p3 inv => Sys2Proof.Machine.execBlockLock n p0 p1 p2 p3 inv s
  | .ts2 b => Sys2Proof.Machine.execTs2 b s
  | .cufAdv n p => Sys2Proof.Machine.execCufAdv n p s
  | .trainTimeout n => Sys2Proof.Machine.execTrainTimeout n s
  | .lockLost n lane => Sys2Proof.Machine.execLockLost n lane s
  | .cufRd n p => Sys2Proof.Machine.execCufRd n p s
  | .cufWr n p => Sys2Proof.Machine.execCufWr n p s
  | .cufWrm n p => Sys2Proof.Machine.execCufWrm n p s
  | .cufRsp n p => Sys2Proof.Machine.execCufRsp n p s
  | .cufMsg n p => Sys2Proof.Machine.execCufMsg n p s
  | .cufImage n p => Sys2Proof.Machine.execCufImage n p s
  | .cufTime n p => Sys2Proof.Machine.execCufTime n p s
  | .cufBalance n p => Sys2Proof.Machine.execCufBalance n p s
  | .cufRetrain n p => Sys2Proof.Machine.execCufRetrain n p s
  | .cufNull n p => Sys2Proof.Machine.execCufNull n p s
  | .cufNak n p => Sys2Proof.Machine.execCufNak n p s
  | .cufResync n => Sys2Proof.Machine.execCufResync n s
  | .replayTimeout n => Sys2Proof.Machine.execReplayTimeout n s
  | .cufAlign n s0 s1 s2 s3 => Sys2Proof.Machine.execCufAlign n s0 s1 s2 s3 s
  | .balanceDue n => Sys2Proof.Machine.execBalanceDue n s
  | .advDue n => Sys2Proof.Machine.execAdvDue n s
  | .cufSilence n => Sys2Proof.Machine.execCufSilence n s
  | .retrainTimeout n => Sys2Proof.Machine.execRetrainTimeout n s
  | .creditShrink n v => Sys2Proof.Machine.execCreditShrink n v s
  | .partnerSilent n tag => Sys2Proof.Machine.execPartnerSilent n tag s
  | .linkRestart n => Sys2Proof.Machine.execLinkRestart n s
  | .cufRetrainWrite src n v => Sys2Proof.Machine.execCufRetrainWrite src n v s
  | .cufEnWrite src n v => Sys2Proof.Machine.execCufEnWrite src n v s
  | .loseCredit src n v => Sys2Proof.Machine.execLoseCredit src n v s
  | .badSlot src n v => Sys2Proof.Machine.execBadSlot src n v s
  | .badCrc src n v => Sys2Proof.Machine.execBadCrc src n v s
  | .timeSend n => Sys2Proof.Machine.execTimeSend n s
  | .cnsHello n p => Sys2Proof.Machine.execCnsHello n p s
  | .cnsSync n p => Sys2Proof.Machine.execCnsSync n p s
  | .timeApart => Sys2Proof.Machine.execTimeApart s
  | .cnsEpoch n p => Sys2Proof.Machine.execCnsEpoch n p s
  | .cnsLinks n p => Sys2Proof.Machine.execCnsLinks n p s
  | .bootReq n p flash => Sys2Proof.Machine.execBootReq n p flash s
  | .bootReqDue => Sys2Proof.Machine.execBootReqDue s
  | .imageFor n p => Sys2Proof.Machine.execImageFor n p s
  | .rejoinTime src v => Sys2Proof.Machine.execRejoinTime src v s
  | .segCreate src v => Sys2Proof.Machine.execSegCreate src v s
  | .segDestroy src v => Sys2Proof.Machine.execSegDestroy src v s
  | .moveRing src v => Sys2Proof.Machine.execMoveRing src v s
  | .segReset src v => Sys2Proof.Machine.execSegReset src v s
  | .functionReset src f v => Sys2Proof.Machine.execFunctionReset src f v s
  | .masterEnableWrite src f v => Sys2Proof.Machine.execMasterEnableWrite src f v s
  | .functionQuiesced f => Sys2Proof.Machine.execFunctionQuiesced f s
  | .tailWrite src f r v => Sys2Proof.Machine.execTailWrite src f r v s
  | .ringEnable src f r v => Sys2Proof.Machine.execRingEnable src f r v s
  | .ringDrain src f r v => Sys2Proof.Machine.execRingDrain src f r v s
  | .ringOff r => Sys2Proof.Machine.execRingOff r s
  | .descriptorFetch r => Sys2Proof.Machine.execDescriptorFetch r s
  | .unitCommit r => Sys2Proof.Machine.execUnitCommit r s
  | .statusWritesDone r => Sys2Proof.Machine.execStatusWritesDone r s
  | .rxUnitData r => Sys2Proof.Machine.execRxUnitData r s
  | .rxHoldTimeout r => Sys2Proof.Machine.execRxHoldTimeout r s
  | .blockTimeout r => Sys2Proof.Machine.execBlockTimeout r s
  | .ringAbort src f r v => Sys2Proof.Machine.execRingAbort src f r v s
  | .ringResume src f r v => Sys2Proof.Machine.execRingResume src f r v s
  | .freezeWrite src v => Sys2Proof.Machine.execFreezeWrite src v s
  | .fillStep n k => Sys2Proof.Machine.execFillStep n k s
  | .fillWaitEnd n => Sys2Proof.Machine.execFillWaitEnd n s
  | .writeQueueWrite n => Sys2Proof.Machine.execWriteQueueWrite n s
  | .dmcScrub n => Sys2Proof.Machine.execDmcScrub n s
  | .dmcRefresh n rank postpone => Sys2Proof.Machine.execDmcRefresh n rank postpone s
  | .zqcs n rank => Sys2Proof.Machine.execZqcs n rank s
  | .dmcEnable src n v => Sys2Proof.Machine.execDmcEnable src n v s
  | .dmcBringupDone n fail trained => Sys2Proof.Machine.execDmcBringupDone n fail trained s
  | .dmcStop src n v => Sys2Proof.Machine.execDmcStop src n v s
  | .dmcResumeDone n fail trained => Sys2Proof.Machine.execDmcResumeDone n fail trained s
  | .dmcInjectSingle src n v => Sys2Proof.Machine.execDmcInjectSingle src n v s
  | .dmcInjectDouble src n v => Sys2Proof.Machine.execDmcInjectDouble src n v s
  | .dmcInjectFreshParity src n v => Sys2Proof.Machine.execDmcInjectFreshParity src n v s
  | .audioEnable src n v => Sys2Proof.Machine.execAudioEnable src n v s
  | .audioDisable src n v => Sys2Proof.Machine.execAudioDisable src n v s
  | .slaveFrameStart n periods => Sys2Proof.Machine.execSlaveFrameStart n periods s
  | .audioFrameReceived n slots => Sys2Proof.Machine.execAudioFrameReceived n slots s
  | .audClkLost n => Sys2Proof.Machine.execAudClkLost n s
  | .audInjectUnderrun src n v => Sys2Proof.Machine.execAudInjectUnderrun src n v s
  | .audInjectFrameErr src n v => Sys2Proof.Machine.execAudInjectFrameErr src n v s
  | .midiOctetReceived m o stopLow => Sys2Proof.Machine.execMidiOctetReceived m o stopLow s
  | .midiSend m => Sys2Proof.Machine.execMidiSend m s
  | .i2cStart p nack => Sys2Proof.Machine.execI2cStart p nack s
  | .i2cWriteData p nack => Sys2Proof.Machine.execI2cWriteData p nack s
  | .i2cReadAck p o => Sys2Proof.Machine.execI2cReadAck p o s
  | .i2cReadNack p o => Sys2Proof.Machine.execI2cReadNack p o s
  | .i2cStop p => Sys2Proof.Machine.execI2cStop p s
  | .i2cBus p => Sys2Proof.Machine.execI2cBus p s
  | .qspiCmdWrite src v => Sys2Proof.Machine.execQspiCmdWrite src v s
  | .qspiTransferDone os => Sys2Proof.Machine.execQspiTransferDone os s
  | .emcCmdWrite src v => Sys2Proof.Machine.execEmcCmdWrite src v s
  | .emcDone resp data => Sys2Proof.Machine.execEmcDone resp data s
  | .emcErr k => Sys2Proof.Machine.execEmcErr k s
  | .emcDataAccess src w => Sys2Proof.Machine.execEmcDataAccess src w s
  | .emcTuneStart src v => Sys2Proof.Machine.execEmcTuneStart src v s
  | .emcInject src v => Sys2Proof.Machine.execEmcInject src v s
  | .gpioEdge l rise => Sys2Proof.Machine.execGpioEdge l rise s
  | .gpioOutSet src hi v => Sys2Proof.Machine.execGpioOutSet src hi v s
  | .gpioOutClr src hi v => Sys2Proof.Machine.execGpioOutClr src hi v s
  | .hostTransaction os => Sys2Proof.Machine.execHostTransaction os s
  | .hostStatus => Sys2Proof.Machine.execHostStatus s
  | .hostReset x => Sys2Proof.Machine.execHostReset x s
  | .streamImage => Sys2Proof.Machine.execStreamImage s
  | .readWord => Sys2Proof.Machine.execReadWord s
  | .writeWord => Sys2Proof.Machine.execWriteWord s
  | .debugUnlock => Sys2Proof.Machine.execDebugUnlock s
  | .hostRestoreFactory => Sys2Proof.Machine.execHostRestoreFactory s
  | .hostEraseUser => Sys2Proof.Machine.execHostEraseUser s
  | .hostApplyUser => Sys2Proof.Machine.execHostApplyUser s
  | .factoryWrite => Sys2Proof.Machine.execFactoryWrite s
  | .ethFrameReceived os fcs => Sys2Proof.Machine.execEthFrameReceived os fcs s
  | .ethPause t => Sys2Proof.Machine.execEthPause t s
  | .ethPauseEnd => Sys2Proof.Machine.execEthPauseEnd s
  | .ethFrameTransmit => Sys2Proof.Machine.execEthFrameTransmit s
  | .aafFrameBuild q => Sys2Proof.Machine.execAafFrameBuild q s
  | .ethSmapCommit src v => Sys2Proof.Machine.execEthSmapCommit src v s
  | .aafStreamEnable src a v => Sys2Proof.Machine.execAafStreamEnable src a v s
  | .mdioCmdWrite src v => Sys2Proof.Machine.execMdioCmdWrite src v s
  | .mdioFrameDone d => Sys2Proof.Machine.execMdioFrameDone d s
  | .busReset hs => Sys2Proof.Machine.execBusReset hs s
  | .usbSuspend => Sys2Proof.Machine.execUsbSuspend s
  | .usbResume => Sys2Proof.Machine.execUsbResume s
  | .usbWake src v => Sys2Proof.Machine.execUsbWake src v s
  | .usbAddrWrite src v => Sys2Proof.Machine.execUsbAddrWrite src v s
  | .usbSetup p => Sys2Proof.Machine.execUsbSetup p s
  | .ep0Send => Sys2Proof.Machine.execEp0Send s
  | .ep0Recv os => Sys2Proof.Machine.execEp0Recv os s
  | .ep0StatusAck => Sys2Proof.Machine.execEp0StatusAck s
  | .ep0Stall => Sys2Proof.Machine.execEp0Stall s
  | .usbInPacket e acked => Sys2Proof.Machine.execUsbInPacket e acked s
  | .usbOutPacket e os toggle err => Sys2Proof.Machine.execUsbOutPacket e os toggle err s
  | .usbSof frame micro => Sys2Proof.Machine.execUsbSof frame micro s
  | .usbEpEnable src out e v => Sys2Proof.Machine.execUsbEpEnable src out e v s
  | .resetToggle src out e v => Sys2Proof.Machine.execResetToggle src out e v s
  | .usbTestWrite src v => Sys2Proof.Machine.execUsbTestWrite src v s
  | .analogSample j raw => Sys2Proof.Machine.execAnalogSample j raw s
  | .fgtEnable src v => Sys2Proof.Machine.execFgtEnable src v s
  | .fgtDisable src v => Sys2Proof.Machine.execFgtDisable src v s
  | .fgtReload src v => Sys2Proof.Machine.execFgtReload src v s
  | .calLoadDone => Sys2Proof.Machine.execCalLoadDone s
  | .fgtInjectSeq src v => Sys2Proof.Machine.execFgtInjectSeq src v s
  | .fgtInjectDrop src v => Sys2Proof.Machine.execFgtInjectDrop src v s
  | .restoreFactory src v => Sys2Proof.Machine.execRestoreFactory src v s
  | .eraseUser src v => Sys2Proof.Machine.execEraseUser src v s
  | .applyUser src v => Sys2Proof.Machine.execApplyUser src v s
  | .kepWpWrite src w v => Sys2Proof.Machine.execKepWpWrite src w v s
  | .kepInject src v => Sys2Proof.Machine.execKepInject src v s
  | .pass1Check flash again => Sys2Proof.Machine.execPass1Check flash again s
  | .bootSourceTimeout => Sys2Proof.Machine.execBootSourceTimeout s
  | .recDramTiming => Sys2Proof.Machine.execRecDramTiming s
  | .recPinmux => Sys2Proof.Machine.execRecPinmux s
  | .recRoutes => Sys2Proof.Machine.execRecRoutes s
  | .recStageSplit => Sys2Proof.Machine.execRecStageSplit s
  | .recCuff => Sys2Proof.Machine.execRecCuff s
  | .recConsort => Sys2Proof.Machine.execRecConsort s
  | .recPartitions => Sys2Proof.Machine.execRecPartitions s
  | .recShedRanks => Sys2Proof.Machine.execRecShedRanks s
  | .recPayloadLoad => Sys2Proof.Machine.execRecPayloadLoad s
  | .recEntry => Sys2Proof.Machine.execRecEntry s
  | .recClocks => Sys2Proof.Machine.execRecClocks s
  | .recAudioDefaults => Sys2Proof.Machine.execRecAudioDefaults s
  | .recRegisterPoke => Sys2Proof.Machine.execRecRegisterPoke s
  | .recFingertip => Sys2Proof.Machine.execRecFingertip s
  | .recSignature => Sys2Proof.Machine.execRecSignature s
  | .endRecord => Sys2Proof.Machine.execEndRecord s
  | .coreStart src v => Sys2Proof.Machine.execCoreStart src v s
  | .fuseProgram src v => Sys2Proof.Machine.execFuseProgram src v s
  | .fuseProgramDone got => Sys2Proof.Machine.execFuseProgramDone got s
  | .presenceWindowOpen => Sys2Proof.Machine.execPresenceWindowOpen s
  | .presenceWindowClose low => Sys2Proof.Machine.execPresenceWindowClose low s
  | .debugRelock src v => Sys2Proof.Machine.execDebugRelock src v s
  | .pwrShut src d v => Sys2Proof.Machine.execPwrShut src d v s
  | .domainWake src d v => Sys2Proof.Machine.execDomainWake src d v s
  | .retainEntry d => Sys2Proof.Machine.execRetainEntry d s
  | .supplySample ns r0 r1 r2 r3 => Sys2Proof.Machine.execSupplySample ns r0 r1 r2 r3 s
  | .haltRelease x => Sys2Proof.Machine.execHaltRelease x s
  | .pwrVminWrite src v => Sys2Proof.Machine.execPwrVminWrite src v s
  | .errlogRecord => Sys2Proof.Machine.execErrlogRecord s
  | .errlogPop src v => Sys2Proof.Machine.execErrlogPop src v s
  | .errlogTopRead src => Sys2Proof.Machine.execErrlogTopRead src s
  | .hatTrigWrite src v => Sys2Proof.Machine.execHatTrigWrite src v s
  | .hatArm src v => Sys2Proof.Machine.execHatArm src v s
  | .hatcheckPinTrigger => Sys2Proof.Machine.execHatcheckPinTrigger s
  | .hatcheckLatch late => Sys2Proof.Machine.execHatcheckLatch late s
  | .dbgCoreHalt src v => Sys2Proof.Machine.execDbgCoreHalt src v s
  | .dbgCoreResume src v => Sys2Proof.Machine.execDbgCoreResume src v s
  | .dbgCoreStep src v => Sys2Proof.Machine.execDbgCoreStep src v s
  | .jtagAddr v => Sys2Proof.Machine.execJtagAddr v s
  | .jtagRead v => Sys2Proof.Machine.execJtagRead v s
  | .jtagWrite v => Sys2Proof.Machine.execJtagWrite v s
  | .jtagUnlock v => Sys2Proof.Machine.execJtagUnlock v s
  | .jtagRelock v => Sys2Proof.Machine.execJtagRelock v s
  | .jtagHatTrig v => Sys2Proof.Machine.execJtagHatTrig v s
  | .jtagNop op => Sys2Proof.Machine.execJtagNop op s
  | .mailboxWrite src out v => Sys2Proof.Machine.execMailboxWrite src out v s
  | .registerWrite src a v => Sys2Proof.Machine.execRegisterWrite src a v s
  | .resetNLow => Sys2Proof.Machine.execResetNLow s
  | .tbPllLockTimeout => Sys2Proof.Machine.execTbPllLockTimeout s
  | .undef c p0 p1 => Sys2Proof.Machine.execUndef c p0 p1 s
  | .fetchFault c => Sys2Proof.Machine.execFetchFault c s
  | .midiBreak m low => Sys2Proof.Machine.execMidiBreak m low s
  | .jtagInstructionUpdate ir cells => Sys2Proof.Machine.execJtagInstructionUpdate ir cells s
  | .i2cRxdataRead src p => Sys2Proof.Machine.execI2cRxdataRead src p s
  | .foreignSlotRead src f r o => Sys2Proof.Machine.execForeignSlotRead src f r o s

end Sys2Proof.Machine
end

