-- ==== Sys2Proof/Safety.lean ====
section
/-!
DEFINITION. What counts as a safe run, and the terms in which claims are made: a calm device, a core that is ready for an instruction, what an instruction
that retires leaves as it was, and the level rule of event sources.
-/
namespace Sys2Proof.Machine

/-- The step from `s` goes on. -/
def State.goesOn (s : State) : Prop := ∃ s', step s = .next s'

/-- Nothing waits to proceed by itself when a command ends: no upset of storage, no retired store or prefetch that a core has still to make, no access
that an interface, a router, a port, a Cuff port or a pair holds. -/
structure Calm (s : State) : Prop where
  flaws : s.flaws = []
  held : s.ports.held = []
  retired : ∀ c, c < 8 → (s.core c).stq = [] ∧ (s.core c).pfq = []
  blocked : s.fab.blocked = []
  inter : s.fab.ni.all (fun e => e.2.held.isEmpty) = true
  waiting : ∀ n, n < 2 → (s.cufP n).waiting = []
  rxq : ∀ n, n < 2 → (s.cufP n).rxq = []
  draining : ∀ n, n < 4 → (s.pair n).draining = false
  stores : ∀ n, n < 4 → (s.pair n).started = true ∨ (s.pair n).hold = []
  sources : s.eiu.inq = [] ∧ s.eiu.owed = []

/-- Every asserted level source is pending or in service (R304). -/
def LevelHeld (s : State) : Prop := ∀ k, k ∈ levelSources → levelOn s k = true → s.pendOf k = true ∨ inService s k = true

/-- Every memory is in its canonical form. -/
def MemoryWf (s : State) : Prop := Memory.wf s.close = true ∧ Memory.wf s.stage = true ∧ Memory.wf s.keep = true

/-- Everything that holds memory words is as it was: close memory, stage memory, the keep store, the DRAM channels, the caches. -/
structure SameMemory (s t : State) : Prop where
  close : t.close = s.close
  stage : t.stage = s.stage
  keep : t.keep = s.keep
  dmcs : t.dmcs = s.dmcs
  agents : t.agents = s.agents
  slices : t.slices = s.slices

/-- Core c may start an instruction here: it runs unpaced and alone, no cause, breakpoint, halt or park comes first (R113, R114), the instruction's
parcels are there, and they do not end the address space (R80). -/
structure Ready (s : State) (c : Nat) (long : Bool) : Prop where
  calm : Calm s
  start : mayStart s c = true
  unpaced : isPaced s c = false
  alone : (s.pair (c / 2)).started = false
  noBreak : s.bit (Reg.CS_DBG_CTL c) 0 = false ∧ s.bit (Reg.CS_DBG_CTL c) 1 = false
  noHalt : (s.core c).haltReq = false ∧ (s.core c).stepping = false
  noPark : Nat.testBit s.pwr.parking c = false
  fetch : ∀ early, fetchInsn c long early s = .ok [] s
  inner : (s.core c).pc.toNat < 2 ^ 40 - 2

/-- The control registers of core c that any retirement may change: RET_COUNT, the event counters and their selectors (R194, R202). -/
def countsOf (c a : Nat) : Prop := a = Reg.CS_RET_COUNT c ∨ ∃ k, k < 16 ∧ (a = Reg.CS_PMC c k ∨ a = Reg.CS_PMC_SEL c k)

/-- What the retirement of an instruction of core c always leaves: the next parcel address, the count of retired instructions, other cores, and every
memory. -/
structure Retired (c : Nat) (next : Word) (s t : State) : Prop where
  pc : (t.core c).pc = next
  count : t.reg (Reg.CS_RET_COUNT c) = s.reg (Reg.CS_RET_COUNT c) + 1
  others : ∀ d, d ≠ c → t.core d = s.core d

/-- Register rd takes v (w0 takes nothing, R84), and every other general register keeps its value. -/
def GprResult (c rd : Nat) (v : Word) (s t : State) : Prop :=
  t.gpr c rd = (if rd = 0 then 0 else v) ∧ ∀ r, r ≠ rd → t.gpr c r = s.gpr c r

/-- Every general register keeps its value. -/
def SameGprs (c : Nat) (s t : State) : Prop := ∀ r, t.gpr c r = s.gpr c r

/-- Every accumulator keeps its value. -/
def SameAccs (c : Nat) (s t : State) : Prop := ∀ a, t.accOf c a = s.accOf c a

/-- Every register of the device but the counts of core c, and but the registers of a list, keeps its value. -/
def SameRegsBut (c : Nat) (l : List Nat) (s t : State) : Prop := ∀ a, ¬ countsOf c a → a ∉ l → t.reg a = s.reg a

/-- The level of R93 before holds: the cause's own level, the present level, and what the route registers give a routable cause. -/
def baseLevel (s : State) (c nominal code : Nat) (routable : Bool) : Nat :=
  max (max nominal (s.pl c)) (max (if routable && s.bit (Reg.CS_P_ROUTE c) code then 2 else 1) (if routable && s.bit (Reg.CS_M_ROUTE c) code then 3 else 1))

/-- L is the first level from the base up whose HOLD is 0 (R99). -/
def EntersAt (s : State) (c base L : Nat) : Prop := base ≤ L ∧ L ≤ 3 ∧ s.hold c L = false ∧ ∀ m, base ≤ m → m < L → s.hold c m = true

/-- Core c has entered level L for a synchronous cause, as one event (R94): the level's set of registers, the status, the vector; general registers,
accumulators, other cores and every memory are as they were. -/
structure Entered (c base L code detail : Nat) (epc faddr : Word) (s t : State) : Prop where
  pl : t.pl c = L
  ie : t.ie c = false
  hold : t.hold c L = true
  epc : t.reg (epcReg c L) = epc
  est : t.reg (estReg c L) = BitVec.ofNat 40 (s.flags c * 8 + (if s.ie c then 4 else 0) + s.pl c)
  cause : t.reg (causeReg c L) = BitVec.ofNat 40 (detail * 2 ^ 16 + s.pl c * 2 ^ 8 + (if base < L then 2 ^ 7 else 0) + code)
  faddr : t.reg (faddrReg c L) = faddr
  pc : (t.core c).pc = s.reg (vecReg c L)
  gprs : SameGprs c s t
  accs : SameAccs c s t
  others : ∀ d, d ≠ c → t.core d = s.core d
  memory : SameMemory s t

/-- What each operation of R136 gives from the words a and b and the carry. -/
def LongAluMeans (op : LAlu) (a b cin v : Word) : Prop :=
  match op with
  | .add => v = a + b
  | .sub => v = a - b
  | .adc => v = a + b + cin
  | .sbc => v = a - b - cin
  | .and => v = a &&& b
  | .or => v = a ||| b
  | .xor => v = a ^^^ b
  | .andn => v = a &&& ~~~b
  | .shl => v = a <<< (b.toNat % 64)
  | .shr => v = a >>> (b.toNat % 64)
  | .sar => v = a.sshiftRight (b.toNat % 64)
  | .ror => v = a.rotateRight (b.toNat % 64 % 40)
  | .mul => v = a * b
  | .mulhs => v = BitVec.ofInt 40 (a.toInt * b.toInt / 2 ^ 40)
  | .mulhu => v.toNat = a.toNat * b.toNat / 2 ^ 40
  | .divs => v = if b = 0 then -1 else BitVec.ofInt 40 (a.toInt.tdiv b.toInt)
  | .divu => v = if b = 0 then -1 else BitVec.ofNat 40 (a.toNat / b.toNat)
  | .rems => v = if b = 0 then a else BitVec.ofInt 40 (a.toInt.tmod b.toInt)
  | .remu => v = if b = 0 then a else BitVec.ofNat 40 (a.toNat % b.toNat)
  | .min => v.toInt = min a.toInt b.toInt
  | .max => v.toInt = max a.toInt b.toInt
  | .minu => v.toNat = min a.toNat b.toNat
  | .maxu => v.toNat = max a.toNat b.toNat
  | .adds => v.toInt = max (-(2 ^ 39)) (min (2 ^ 39 - 1) (a.toInt + b.toInt))
  | .subs => v.toInt = max (-(2 ^ 39)) (min (2 ^ 39 - 1) (a.toInt - b.toInt))
  | .abss => v.toInt = min (2 ^ 39 - 1) |a.toInt|
  | .clz => ∀ n, v.toNat = n ↔ n ≤ 40 ∧ a.toNat < 2 ^ (40 - n) ∧ (n < 40 → 2 ^ (39 - n) ≤ a.toNat)
  | .popc => v.toNat = ((List.range 40).filter (fun i => a.getLsbD i)).length
  | .padds => ∀ k, k < 2 → elem v k = max (-(2 ^ 19)) (min (2 ^ 19 - 1) (elem a k + elem b k))
  | .psubs => ∀ k, k < 2 → elem v k = max (-(2 ^ 19)) (min (2 ^ 19 - 1) (elem a k - elem b k))
  | .pmulr => ∀ k, k < 2 → elem v k = max (-(2 ^ 19)) (min (2 ^ 19 - 1) ((elem a k * elem b k + 2 ^ 18) / 2 ^ 19))

/-- What each immediate operation of R138 gives. -/
def ImmMeans (op : IAlu) (a : Word) (imm : BitVec 20) (v : Word) : Prop :=
  match op with
  | .addi => v = a + imm.signExtend 40
  | .andi => v = a &&& imm.signExtend 40
  | .ori => v = a ||| imm.signExtend 40
  | .xori => v = a ^^^ imm.signExtend 40
  | .muli => v = a * imm.signExtend 40
  | .addsi => v.toInt = max (-(2 ^ 39)) (min (2 ^ 39 - 1) (a.toInt + imm.toInt))

/-- What each bit-field operation of R138 gives: p and w1 name the field, old is the destination's word. -/
def BitFieldMeans (op : BitOp) (p w1 : Nat) (a old v : Word) : Prop :=
  ∀ i, i < 40 → v.getLsbD i = (match op with
    | .extu => decide (i ≤ w1) && a.getLsbD (p + i)
    | .exts => a.getLsbD (p + min i w1)
    | .ins => if p ≤ i ∧ i ≤ p + w1 then a.getLsbD (i - p) else old.getLsbD i)

/-- x / 2^k rounded to an integer as RM says (R145). -/
def roundedDiv (rm : MRound) (x : Int) (k : Nat) : Int :=
  match rm with
  | .floor => x / 2 ^ k
  | .halfUp => (2 * x + 2 ^ k) / 2 ^ (k + 1)
  | .halfEven => if (2 * x + 2 ^ k) % 2 ^ (k + 1) = 0 then 2 * ((x + 2 ^ k) / 2 ^ (k + 1)) else (2 * x + 2 ^ k) / 2 ^ (k + 1)

/-- x limited to the signed integers of n bits. -/
def clampInt (n : Nat) (x : Int) : Int := max (-(2 ^ (n - 1))) (min (2 ^ (n - 1) - 1) x)

/-- The accumulator that an operation of R145 or R146 writes, and its new value; none for the extractions. -/
def macMeans (s : State) (c : Nat) : MacOp → Option (Nat × BitVec 80)
  | .mulA rm x rs1 rs2 => some (x, BitVec.ofInt 80 (roundedDiv rm ((s.gpr c rs1).toInt * (s.gpr c rs2).toInt) 8))
  | .mac rm x rs1 rs2 => some (x, BitVec.ofInt 80 ((s.accOf c x).toInt + roundedDiv rm ((s.gpr c rs1).toInt * (s.gpr c rs2).toInt) 8))
  | .msu rm x rs1 rs2 => some (x, BitVec.ofInt 80 ((s.accOf c x).toInt - roundedDiv rm ((s.gpr c rs1).toInt * (s.gpr c rs2).toInt) 8))
  | .macs rm x rs1 rs2 => some (x, BitVec.ofInt 80 (clampInt 80 ((s.accOf c x).toInt + roundedDiv rm ((s.gpr c rs1).toInt * (s.gpr c rs2).toInt) 8)))
  | .msus rm x rs1 rs2 => some (x, BitVec.ofInt 80 (clampInt 80 ((s.accOf c x).toInt - roundedDiv rm ((s.gpr c rs1).toInt * (s.gpr c rs2).toInt) 8)))
  | .pmac x rs1 rs2 => some (x, BitVec.ofInt 80 ((s.accOf c x).toInt +
      (elem (s.gpr c rs1) 0 * elem (s.gpr c rs2) 0 + elem (s.gpr c rs1) 1 * elem (s.gpr c rs2) 1) * 2 ^ 32))
  | .mova x rs1 => some (x, BitVec.ofInt 80 ((s.gpr c rs1).toInt * 2 ^ 31))
  | .adda x b => some (x, s.accOf c x + s.accOf c b)
  | .addas x b => some (x, BitVec.ofInt 80 (clampInt 80 ((s.accOf c x).toInt + (s.accOf c b).toInt)))
  | .asr x rs2 => some (x, (s.accOf c x).sshiftRight ((s.gpr c rs2).toNat % 128))
  | .asls x rs2 => some (x, BitVec.ofInt 80 (clampInt 80 ((s.accOf c x).toInt * 2 ^ ((s.gpr c rs2).toNat % 128))))
  | .exta .. => none
  | .extq9 .. => none

/-- An F40 word that is a NaN, and a signaling one (R149). -/
def isNaN40 (w : Word) : Bool := fget w 38 31 == 255 && fget w 30 0 != 0
def isSignaling40 (w : Word) : Bool := isNaN40 w && !bget w 30

/-- The destination of an F40 operation. -/
def floatDest : FOp → Nat
  | .fadd r _ _ _ | .fsub r _ _ _ | .fmul r _ _ _ | .fdiv r _ _ _ | .fma r _ _ _ | .fmin r _ _ _ | .fmax r _ _ _ | .fsqrt r _ _
  | .fneg r _ | .fabs r _ | .cvtIF r _ _ | .cvtFI r _ _ | .cvtQF r _ _ | .cvtFQ r _ _ => r

/-- A subnormal word is a zero of its sign when FTZ is 1 (R151). -/
def flushed40 (ftz : Bool) (w : Word) : Word := if ftz && fget w 38 31 == 0 then w &&& 0x8000000000 else w

/-- The order of the F40 words that are no NaN: their magnitudes with their signs; -0 and +0 are equal (R152). -/
def order40 (ftz : Bool) (w : Word) : Int := if bget w 39 then -(fget (flushed40 ftz w) 38 0 : Int) else fget (flushed40 ftz w) 38 0

/-- What an F40 operation gives where R148, R150 and R151 name the word itself: v is its result and ctl the control register after it. -/
def FloatMeans (s : State) (c : Nat) (op : FOp) (v ctl : Word) : Prop :=
  let nan := fun r : Nat => isNaN40 (s.gpr c r) = true
  let signals := fun r : Nat => isSignaling40 (s.gpr c r) = true
  let flush := fun r : Nat => flushed40 (s.bit (Reg.CS_F40_CTL c) 7) (s.gpr c r)
  match op with
  | .fneg _ a => v = s.gpr c a ^^^ 0x8000000000 ∧ ctl = s.reg (Reg.CS_F40_CTL c)
  | .fabs _ a => v = s.gpr c a &&& 0x7FFFFFFFFF ∧ ctl = s.reg (Reg.CS_F40_CTL c)
  | .fadd _ a b _ | .fsub _ a b _ | .fmul _ a b _ | .fdiv _ a b _ =>
    (nan a ∨ nan b → v = 0x7FC0000000) ∧ (signals a ∨ signals b → bget ctl 4 = true)
  | .fma r a b _ => (nan a ∨ nan b ∨ nan r → v = 0x7FC0000000) ∧ (signals a ∨ signals b ∨ signals r → bget ctl 4 = true)
  | .fmin _ a b _ | .fmax _ a b _ =>
    (nan a → v = if isNaN40 (s.gpr c b) then 0x7FC0000000 else flush b) ∧ (nan b → v = if isNaN40 (s.gpr c a) then 0x7FC0000000 else flush a) ∧
    (signals a ∨ signals b → bget ctl 4 = true)
  | .fsqrt _ a _ => (nan a → v = 0x7FC0000000) ∧ (signals a → bget ctl 4 = true)
  | .cvtIF _ a _ | .cvtQF _ a _ => s.gpr c a = 0 → v = 0 ∧ ctl = s.reg (Reg.CS_F40_CTL c)
  | .cvtFI _ a _ | .cvtFQ _ a _ => nan a → v = 0 ∧ bget ctl 4 = true

/-- Word addresses of core c's own close memory (R71). -/
def ownWord (c : Nat) (va : Word) : Prop := 0x40000 + c * 0x8000 ≤ va.toNat ∧ va.toNat < 0x40000 + c * 0x8000 + 0x4000

/-- Where close memory holds word `va` of core c. -/
def closeKey (c : Nat) (va : Word) : Nat := c * 0x4000 + va.toNat % 0x4000

/-- Core c is ready, runs at a level that uses physical addresses (R235), and has no watchpoint (R679). -/
structure ReadyPhys (s : State) (c : Nat) : Prop where
  ready : Ready s c true
  level : 2 ≤ s.pl c
  noWatch : s.bit (Reg.CS_WATCH_CTL c) 0 = false
  noIo : (s.core c).io = []
  noOut : (s.core c).outStores = []

/-- The close-memory word at `va` is w, and good. -/
def holdsWord (s : State) (c : Nat) (va w : Word) : Prop := memRead s.close (closeKey c va) = ⟨w, .good⟩

/-- What a store of core c to its own close memory leaves: the words of a list of keys and values, every other word of every memory, the reservations of
others on other lines (R111), and the registers of the core. -/
structure ClosePut (c : Nat) (puts : List (Nat × Word)) (s t : State) : Prop where
  put : ∀ kv, kv ∈ puts → (memRead t.close kv.1).v = kv.2
  rest : ∀ k, (∀ kv, kv ∈ puts → kv.1 ≠ k) → memRead t.close k = memRead s.close k
  stage : t.stage = s.stage
  keep : t.keep = s.keep
  dmcs : t.dmcs = s.dmcs
  agents : t.agents = s.agents
  slices : t.slices = s.slices
  othersGprs : ∀ d, d ≠ c → SameGprs d s t ∧ SameAccs d s t ∧ (t.core d).pc = (s.core d).pc

/-! ### Accesses to registers -/

/-- A register access at `a` reaches its block at once: the device is calm and the block's domain is open (R338, R357, R359). -/
structure Reaches (a : Nat) (s : State) : Prop where
  calm : Calm s
  isOpen : ∀ d, domainOf (pageOwner a) a = some d → domState s d = 0 ∧ domShed s d = false

/-- Every register but those of a list keeps its value. -/
def RegsBut (l : List Nat) (s t : State) : Prop := ∀ a, a ∉ l → t.reg a = s.reg a

/-- A write of initiator i has been taken and answered OK: every register but those of a list keeps its value, no core and no memory word changes. -/
structure Took (i : Initiator) (free : List Nat) (s t : State) : Prop where
  answer : t.resp = ⟨i.ep, .ok, []⟩
  regs : RegsBut free s t
  cores : t.cores = s.cores
  memory : SameMemory s t

/-- Core c may start an instruction here whose fetch has not been looked at. -/
structure Poised (s : State) (c : Nat) : Prop where
  calm : Calm s
  start : mayStart s c = true
  unpaced : isPaced s c = false
  alone : (s.pair (c / 2)).started = false
  noBreak : s.bit (Reg.CS_DBG_CTL c) 0 = false ∧ s.bit (Reg.CS_DBG_CTL c) 1 = false
  noHalt : (s.core c).haltReq = false ∧ (s.core c).stepping = false
  noPark : Nat.testBit s.pwr.parking c = false

/-- Core c stands alone between instructions: it is no member of a running pair, and no halt, park or step waits for it. -/
structure Undisturbed (s : State) (c : Nat) : Prop where
  calm : Calm s
  alone : (s.pair (c / 2)).started = false
  here : (s.core c).halted = false ∧ (s.core c).parked = false
  noHalt : (s.core c).haltReq = false ∧ (s.core c).stepping = false
  noPark : Nat.testBit s.pwr.parking c = false

/-- Core c retires an instruction that changes nothing else. -/
structure Retires (c : Nat) (next : Word) (s t : State) : Prop where
  gprs : SameGprs c s t
  accs : SameAccs c s t
  retired : Retired c next s t
  regs : SameRegsBut c [] s t
  memory : SameMemory s t

/-- Nothing of the registers, the cores and the memories changes. -/
structure Idles (s t : State) : Prop where
  regs : RegsBut [] s t
  cores : t.cores = s.cores
  memory : SameMemory s t

/-- The TLBs of core c keep exactly the entries that `p` does not name; its tentative entries are gone (R252). -/
structure TlbsWithout (c : Nat) (p : TlbEnt → Bool) (s t : State) : Prop where
  instr : (t.core c).itlb = (s.core c).itlb.filter (fun e => !p e)
  data : (t.core c).dtlb = (s.core c).dtlb.filter (fun e => !p e)
  second : (t.core c).l2tlb = (s.core c).l2tlb.filter (fun e => !p e)
  tentative : (t.core c).ttlb = []

/-- Source k is pending afterwards; an assertion while it was pending already is counted (R304). -/
def AssertedOnce (k : Nat) (s t : State) : Prop :=
  t.pendOf k = true ∧ t.reg (Reg.EIU_SRC_CNT k) = if s.pendOf k then s.reg (Reg.EIU_SRC_CNT k) + 1 else s.reg (Reg.EIU_SRC_CNT k)

/-- The registers that capture a reserved write (R696). -/
def rsvdRegs : List Nat := [Reg.SYS_STATUS, Reg.SYS_RSVD_ADDR, Reg.SYS_RSVD_DATA, Reg.SYS_RSVD_CNT]

/-! ### Messages and packets -/

/-- Interfaces x and y reach one another over the fabric, x can send to y now, and no flaw and no probe is on the way (R351, R356, R361, R366, R371). -/
structure Linked (s : State) (x y : Nat) : Prop where
  flaws : s.flaws = []
  there : routeValid s x y = true
  back : routeValid s y x = true
  flows : mustHold s x y = false
  tag : (freeTag? s x).isSome = true
  probes : ∀ k, k < 8 → s.bit (Reg.PRB_n_CTL k) 0 = false

/-- Home n is at rest, and ready for a transaction on line l of stage memory that its directory does not name. -/
structure HomeReady (s : State) (n l : Nat) : Prop where
  stage : 0x100000 ≤ l * 16 ∧ l * 16 < 0x200000
  there : regionAt s (l * 16) = some .stage
  up : s.bit (Reg.HS_STATUS n) 1 = false
  split : s.split = none
  noTrk : (s.slice n).trk = []
  quiet : (s.slice n).waiting = [] ∧ (s.slice n).pslotOrder = []
  epoch : (s.slice n).gHold = false
  llc : llcGet s n l = none

/-- Agent a may send a request for line l of stage memory, whose home is ready and has no entry for it but has room for one. -/
structure FreeLine (s : State) (a l : Nat) : Prop where
  linked : Linked s (agentEp a) (hsEp (homeOf s l))
  ready : HomeReady s (homeOf s l) l
  idle : hasOut s a l = false
  free : dirWay s (homeOf s l) l = none
  room : ∃ k, allocWay s (homeOf s l) l = some (k, true)

/-- One more message is in flight, the last: its class, code, agent, slice, line and data. -/
structure Sent (net : List CMsg) (cls code a n l : Nat) (data : Line) (t : State) : Prop where
  before : t.net.dropLast = net
  last : t.net.getLast?.map (fun m => (m.cls, m.code, m.agent, m.slice, m.line, m.data)) = some (cls, code, a, n, l, data)

/-- The oldest message in flight of a class and code about line l to or from agent a. -/
def inFlight (s : State) (cls code a l : Nat) : Option CMsg :=
  s.net.find? (fun m => m.cls == cls && m.code == code && m.agent == a && m.line == l)

/-- Tag t of interface x awaits the response that carries generation g. -/
def awaits (s : State) (x t g : Nat) : Prop := (tagOf s x t).st = .busy ∧ (tagOf s x t).gen = g

/-- The words of line l of stage memory. -/
def stageLine (s : State) (l : Nat) : Line := memReadN s.stage (stageIndex s (l * 16)) 16

/-- The sharers and the state of the directory entry of line l. -/
def entryOf (s : State) (n l : Nat) : Option (DirSt × List Nat × Bool × Nat) := (dirGet s n l).map (fun e => (e.st, e.ptrs, e.ovf, e.epoch))

/-- One more response is in flight, the last: from endpoint d to endpoint x, with its status and data. -/
structure Replied (s : State) (x d : Nat) (st : FStatus) (data : Line) (t : State) : Prop where
  before : t.fab.inflight.dropLast = s.fab.inflight
  last : t.fab.inflight.getLast?.map (fun p => (p.dst, p.src, p.status, p.data)) = some (x, d, st, data)

/-- A request of endpoint x reaches the block of endpoint d at once: a route both ways, a tag, no packet in the way, and an open domain. -/
structure Path (s : State) (x d : Nat) : Prop where
  calm : Calm s
  linked : Linked s x d
  clear : s.fab.blocked = []
  isOpen : ∀ k, domainOf d 0 = some k → domState s k = 0 ∧ domShed s k = false

/-- Tag t of interface x is free again, at generation g. -/
def freed (s : State) (x t g : Nat) : Prop := (tagOf s x t).st = .free ∧ (tagOf s x t).gen = g

/-! ### The Cuff links -/

/-- A packet with a good CRC and no fault reaches port n, which is UP or, once it has heard TS2, trains; it returns no credits; a sequenced one comes in its turn
and finds room; nothing waits to leave either port (R377-R390). -/
structure Arrives (s : State) (n : Nat) (x : CufRx) (kind ackk : Nat) : Prop where
  calm : Calm s
  state : s.fld (Reg.CUF_STATUS n) 2 0 = 2 ∨ (s.fld (Reg.CUF_STATUS n) 2 0 = 1 ∧ (s.cufP n).gotTs2 = true ∧ seqType kind = false)
  noResync : s.bit (Reg.CUF_STATUS n) 3 = false
  good : hdrValid x = true ∧ cufCrcOk x = true ∧ reservedZero x = true ∧ lenOk (rxPkt x) (sget x.hdr 45 42) = true
  isKind : (rxPkt x).type = kind
  vc : vcClassOk kind (rxPkt x).vc = true ∧ openVc s n (rxPkt x).vc = true
  member : (rxPkt x).vc ≠ 8 → cufJoined s n = true
  noReturns : sget x.trailer 75 68 = 0 ∧ sget x.trailer 63 56 = 0
  acks : sget x.hdr 59 58 = ackk
  inTurn : seqType kind = true → (rxPkt x).seq = (s.cufP n).nextRx
  room : seqType kind = true →
    SMap.getD 0 (rxPkt x).vc (s.cufP n).rxocc + SMap.getD 0 (rxPkt x).vc (s.cufP n).owed + 1 + sget x.hdr 45 42 ≤ allocOf s n (rxPkt x).vc
  idle : ∀ m, m < 2 → (s.cufP m).outq = [] ∧ (s.cufP m).replay = [] ∧ (s.cufP m).msgs = [] ∧ SMap.find m s.cns.serve = none

/-- A management message of a KIND that breaks no rule reaches port n (R418). -/
structure Mgmt (s : State) (n : Nat) (x : CufRx) (kind : Nat) (w0 w1 w2 w3 : Word) : Prop where
  arrives : Arrives s n x 7 0
  up : s.fld (Reg.CUF_STATUS n) 2 0 = 2
  words : (rxPkt x).data = [w0, w1, w2, w3]
  fine : mgmtBad [w0, w1, w2, w3] = false
  kind : fget w0 39 36 = kind

/-- The port counts the packet; a sequenced one moves NEXT_RX. -/
structure Heard (n type : Nat) (s t : State) : Prop where
  count : t.reg (Reg.CUF_RX_PKT_CNT n) = s.reg (Reg.CUF_RX_PKT_CNT n) + 1
  good : (t.cufP n).lastGood = s.tb.pulses
  turn : (t.cufP n).nextRx = if seqType type then ((s.cufP n).nextRx + 1) % 4096 else (s.cufP n).nextRx

/-- The first packet of port n that has left and is not acknowledged, or waits to leave. -/
def firstOut (s : State) (n : Nat) : Option CufPkt := ((s.cufP n).replay ++ (s.cufP n).outq).head?

/-- Port n has begun a retrain for a reason (R394, R395). -/
structure Retrains (n reason : Nat) (s t : State) : Prop where
  state : t.fld (Reg.CUF_STATUS n) 2 0 = 3
  count : t.reg (Reg.CUF_RETRAIN_CNT n) = s.reg (Reg.CUF_RETRAIN_CNT n) + 1
  reason : t.fld (Reg.CUF_ERR_INFO n) 11 8 = reason
  tick : t.reg (Reg.CUF_LAST_RETRAIN n) = s.nowLo
  event : t.pendOf (136 + n) = true

/-- Port n has gone down for a reason (R410). -/
structure GoesDown (n reason : Nat) (s t : State) : Prop where
  state : t.fld (Reg.CUF_STATUS n) 2 0 = 4
  count : t.reg (Reg.CUF_DOWN_CNT n) = s.reg (Reg.CUF_DOWN_CNT n) + 1
  reason : t.fld (Reg.CUF_ERR_INFO n) 11 8 = reason
  tick : t.reg (Reg.CUF_LAST_DOWN n) = s.nowLo
  gone : (t.cufP n).outTags = [] ∧ (t.cufP n).replay = [] ∧ (t.cufP n).outq = []
  apart : t.bit (Reg.CUF_STATUS n) 4 = false
  event : t.pendOf (136 + n) = true

/-! ### The stream engine -/

/-- Function f has been reset: a new generation, ME = 0, its rings off and empty, QUIESCED (R466). -/
structure FunctionIsReset (f : Nat) (s t : State) : Prop where
  gen : fnGen t f ≠ fnGen s f
  me : fnMe t f = false
  rings : ∀ r, r < 64 → ringFn s r = some f → ringState t r = 0 ∧ ringEn t r = false ∧ ringHead t r = 0 ∧ ringTail t r = 0 ∧ (t.ring r).unit = none ∧
    (t.ring r).fetched = [] ∧ (t.ring r).bound = false
  quiesced : t.bit (Reg.SEF_STATUS f) 0 = true
  count : t.reg (Reg.SEF_RESET_CNT f) = s.reg (Reg.SEF_RESET_CNT f) + 1
  event : t.bit (Reg.SEF_EVT f) 0 = true
  owners : t.seg.owner = s.seg.owner

/-! ### Ports -/

/-- Audio port n runs as a slave that sends: it has output slots and no ring, and is neither muted nor shed (R518, R524). -/
structure SlaveSends (s : State) (n : Nat) : Prop where
  calm : Calm s
  on : (s.aud n).on = true ∧ (s.aud n).stopping = false
  slave : audMaster s n = false ∧ xaLost s = false
  noRing : boundRing s 1 n false = none
  slots : s.bit (Reg.AUD_CTL n) 3 = true ∧ audMask s n true ≠ []
  loud : s.fld Reg.PWR_STATUS 2 0 = 0 ∧ s.bit (Reg.AUD_CTL n) 5 = false ∧ s.bit (Reg.AUD_STATUS n) 7 = false

/-! ### The host port -/

/-- The one request of the host is r, whole and well formed, with this opcode and n arguments, and the response queue has room (R642, R643). -/
structure HostAsks (s : State) (op n : Nat) (r : List Word) : Prop where
  calm : Calm s
  front : s.boot.reqs = [r]
  idle : s.boot.hostWait = none
  room : s.hpt.rsp.length ≤ 58
  code : hostOpcode r = op
  args : r.length = n + 1 ∧ fget (r.headD 0) 5 0 = n ∧ fget (r.headD 0) 23 6 = 0

/-- The request r has been answered: a header with the RESULT and the number of data words, the data, and the CRC (R642). -/
structure HostTold (r : List Word) (result : Nat) (data : List Word) (s t : State) : Prop where
  gone : t.boot.reqs = [] ∧ t.boot.hostWait = none ∧ t.hpt.req = s.hpt.req.drop r.length
  words : t.hpt.rsp.take (s.hpt.rsp.length + 1 + data.length) =
    s.hpt.rsp ++ BitVec.ofNat 40 (hostOpcode r * 2 ^ 32 + fget (r.headD 0) 31 24 * 2 ^ 24 + result * 2 ^ 20 + data.length) :: data
  crc : t.hpt.rsp.drop (s.hpt.rsp.length + 1 + data.length) =
    [BitVec.ofNat 40 (crc32c (imgOctets ((t.hpt.rsp.drop s.hpt.rsp.length).take (1 + data.length))))]
  count : t.reg Reg.HPT_RSP_CNT = s.reg Reg.HPT_RSP_CNT + 1

/-! ### The boot sequencer -/

/-- Pass 2 stands before record k of type `type` at word i, with this body; no write is held and no stop stands (R629). -/
structure RecNext (s : State) (type i k : Nat) (b : List Word) : Prop where
  calm : Calm s
  here : recordAt s type = some (i, k, b)

/-- The record at word i with n body words has been applied, and pass 2 goes on (R629). -/
structure RecDone (i k n : Nat) (s t : State) : Prop where
  pos : t.boot.pos = i + 1 + n
  index : t.boot.recIdx = k + 1
  count : t.reg Reg.BSQ_RECORD_CNT = s.reg Reg.BSQ_RECORD_CNT + 1
  state : t.fld Reg.BSQ_STATUS 9 7 = 3

/-- The boot has stopped with a code (R647, R648). -/
structure BootStops (code : Nat) (s t : State) : Prop where
  state : t.fld Reg.BSQ_STATUS 9 7 = 5
  code : t.fld Reg.BSQ_STATUS 3 0 = code
  count : t.reg Reg.BSQ_FAIL_CNT = s.reg Reg.BSQ_FAIL_CNT + 1

/-! ### Hatcheck and the debug port -/

/-- A trigger of source j has begun a latch, which is due after HAT_DELAY edges (R673). -/
structure HatBegins (j : Nat) (s t : State) : Prop where
  status : t.bit Reg.HAT_STATUS 0 = false ∧ t.bit Reg.HAT_STATUS 2 = true ∧ t.bit Reg.HAT_STATUS (4 + j) = true
  first : t.fld Reg.HAT_STATUS 11 9 = j
  tick : t.reg Reg.HAT_LATCH_TICK_LO = s.nowLo ∧ t.reg Reg.HAT_LATCH_TICK_HI = s.nowHi
  due : t.hat.latch = some (s.fld Reg.HAT_DELAY 9 0)

/-- The debug port takes an operation: DBG is in the instruction register, and none is in progress (R682). -/
structure JtagReady (s : State) : Prop where
  calm : Calm s
  ir : s.jtag.ir = 0x10
  free : s.jtag.wait = none

/-- An operation of the debug port has ended; `DBG_LAST_OP` shows how the one before it ended (R682). -/
structure JtagEnds (status : Nat) (s t : State) : Prop where
  status : t.jtag.status = status
  free : t.jtag.wait = none
  last : t.reg Reg.DBG_LAST_OP = BitVec.ofNat 40 (s.jtag.status * 16 + s.jtag.fstat % 8)
  memory : SameMemory s t

/-! ### Plain registers -/

/-- Registers whose write has no effect but on their own fields: the plain ones of the boot, fabric, probe and consort pages. -/
def plainReg (a : Nat) : Bool :=
  (regAt a).isSome &&
  ((regPage a == 1 && a != Reg.BSQ_DEBUG && a != Reg.BSQ_FUSE_CTL && a != Reg.BSQ_CORE_CTL && a != Reg.BSQ_FUSE_DATA 6) ||
   ((regPage a == 0x20 || regPage a == 0x21) && a != Reg.FAB_RT_DATA) || (regPage a == 0x2a && a != Reg.CNS_CTL))

/-- What a write of v makes of a field of the register at a (R18, R28, R695). -/
def writtenField (s : State) (a : Nat) (f : Fld) (v : Word) : Nat :=
  let old := s.fld a f.hi f.lo
  let new := if fieldOk a f (fget v f.hi f.lo) then fget v f.hi f.lo else old
  match f.acc with
  | .ro => old
  | .wo => old
  | .rw => new
  | .lk => if s.isSealed then old else new
  | .w1c => fget (s.reg a &&& ~~~ v) f.hi f.lo
  | .w1s => fget (s.reg a ||| v) f.hi f.lo

/-- The write of v would place a reserved value in a field that takes writes (R695). -/
def reservedWrite (s : State) (a : Nat) (v : Word) : Prop :=
  ∃ f, f ∈ fieldsAt a ∧ (f.acc = .rw ∨ (f.acc = .lk ∧ s.isSealed = false)) ∧ fieldOk a f (fget v f.hi f.lo) = false

end Sys2Proof.Machine
end

