-- ==== Sys2Proof/Certificates/Slice0/Obligations.lean ====
section
/-!
DEFINITION. The statements of this model. A rule R<n> in a docstring says where a statement's clauses come from; the assumption log's rows
named there are the model's own choices that the statement rests on. Every statement about an instruction is about the command that
carries its operands, sent in program order (log rows 1, 9 and 16).
-/
set_option linter.constructorNameAsVariable false

open Sys2Proof Sys2Proof.Machine

/-- R129, R131: what the short register and immediate operations write; flags, accumulators and memory are left. -/
def Obligations.ShortAluResult : Prop :=
  ∀ (c : Fin 8) (s : State), Ready s c false →
    (∀ (op : SAlu) (rd rs1 rs2 : Fin 32),
      let a := s.gpr c rs1
      let b := s.gpr c rs2
      let v : Word := match op with
        | .add => a + b
        | .sub => a - b
        | .and => a &&& b
        | .or => a ||| b
        | .xor => a ^^^ b
        | .shl => a <<< (b.toNat % 64)
        | .shr => a >>> (b.toNat % 64)
        | .sar => a.sshiftRight (b.toNat % 64)
      ∃ t, exec (.shortRegisterAlu c op rd rs1 rs2) s = .next t ∧ GprResult c rd v s t ∧ SameAccs c s t ∧
        Retired c ((s.core c).pc + 1) s t ∧ SameRegsBut c [] s t ∧ SameMemory s t) ∧
    (∀ (rd : Fin 32) (op : SImm),
      let v : Word := match op with
        | .addiS i => s.gpr c rd + i.signExtend 40
        | .liS i => i.signExtend 40
        | .shli n => s.gpr c rd <<< n.val
        | .shri n => s.gpr c rd >>> n.val
        | .sari n => (s.gpr c rd).sshiftRight n.val
        | .mov rs => s.gpr c rs
      ∃ t, exec (.shortImmediate c rd op) s = .next t ∧ GprResult c rd v s t ∧ SameAccs c s t ∧
        Retired c ((s.core c).pc + 1) s t ∧ SameRegsBut c [] s t ∧ SameMemory s t)

/-- R132, R155: the compare group sets Z, N, C and V from a difference, a sum or an AND, leaves S, and writes nothing else. -/
def Obligations.CompareFlags : Prop :=
  ∀ (c : Fin 8) (op : CmpOp) (rs1 rs2 : Fin 32) (s : State), Ready s c false →
    let a := s.gpr c rs1
    let b := s.gpr c rs2
    let r : Word := match op with | .cmp => a - b | .cmn => a + b | .tst => a &&& b
    let carry : Bool := match op with
      | .cmp => decide (a.toNat < b.toNat)
      | .cmn => decide (2 ^ 40 ≤ a.toNat + b.toNat)
      | .tst => false
    let vflag : Bool := match op with
      | .cmp => decide (r.toInt ≠ a.toInt - b.toInt)
      | .cmn => decide (r.toInt ≠ a.toInt + b.toInt)
      | .tst => false
    ∃ t, exec (.compare c op rs1 rs2) s = .next t ∧ SameGprs c s t ∧ SameAccs c s t ∧
      flagZ (t.flags c) = decide (r = 0) ∧ flagN (t.flags c) = decide (r.toInt < 0) ∧ flagC (t.flags c) = carry ∧ flagV (t.flags c) = vflag ∧
      flagS (t.flags c) = flagS (s.flags c) ∧
      Retired c ((s.core c).pc + 1) s t ∧ SameRegsBut c [Reg.CS_FLAGS c] s t ∧ SameMemory s t

/-- R136, R155: the results of the long register operations; the exact products, quotients and remainders are those of the integers the words stand
for. With F = 0 no flag but S changes; with F = 1 and a destination other than w0, Z and N describe the result; S never falls. No other general
register, no accumulator, no memory and no register but cs.FLAGS and the counts of the core changes. -/
def Obligations.LongAluResult : Prop :=
  ∀ (c : Fin 8) (op : LAlu) (f : Bool) (rd rs1 rs2 : Fin 32) (s : State), Ready s c true →
    let a := s.gpr c rs1
    let b := s.gpr c rs2
    let cin := if flagC (s.flags c) then 1 else 0
    ∃ (v : Word) (t : State), exec (.longRegisterAlu c op f rd rs1 rs2) s = .next t ∧ GprResult c rd v s t ∧ SameAccs c s t ∧
      Retired c ((s.core c).pc + 2) s t ∧ SameRegsBut c [Reg.CS_FLAGS c] s t ∧ SameMemory s t ∧
      LongAluMeans op a b cin v ∧ (flagS (s.flags c) = true → flagS (t.flags c) = true) ∧
      (f = false → flagZ (t.flags c) = flagZ (s.flags c) ∧ flagN (t.flags c) = flagN (s.flags c) ∧ flagC (t.flags c) = flagC (s.flags c) ∧
        flagV (t.flags c) = flagV (s.flags c)) ∧
      (f = true → rd ≠ 0 → flagZ (t.flags c) = decide (v = 0) ∧ flagN (t.flags c) = decide (v.toInt < 0))

/-- R138, R155: the results of the immediate operations, constants, addresses, bit fields that end at bit 39 at the latest, selects and condition
values, with all flags of CMPI and TSTI. Each bit of a bit field's result is named: EXTU and EXTS bring bits p to p + w - 1 down and extend them;
INS puts the low w bits of rs1 there and keeps the others. No accumulator, no memory and no register but the destination, cs.FLAGS (major 11h only)
and the counts of the core changes. -/
def Obligations.ImmediateResult : Prop :=
  ∀ (c : Fin 8) (s : State), Ready s c true →
    (∀ (op : IAlu) (f : Bool) (rd rs1 : Fin 32) (imm : BitVec 20),
      let a := s.gpr c rs1
      ∃ (v : Word) (t : State), exec (.immediateAlu c (.alu op f rd rs1 imm)) s = .next t ∧ GprResult c rd v s t ∧ SameAccs c s t ∧
        Retired c ((s.core c).pc + 2) s t ∧ SameRegsBut c [Reg.CS_FLAGS c] s t ∧ SameMemory s t ∧
        ImmMeans op a imm v ∧ (flagS (s.flags c) = true → flagS (t.flags c) = true) ∧
        (f = false → flagZ (t.flags c) = flagZ (s.flags c) ∧ flagN (t.flags c) = flagN (s.flags c) ∧ flagC (t.flags c) = flagC (s.flags c) ∧
          flagV (t.flags c) = flagV (s.flags c)) ∧
        (f = true → rd ≠ 0 → flagZ (t.flags c) = decide (v = 0) ∧ flagN (t.flags c) = decide (v.toInt < 0))) ∧
    (∀ (rs1 : Fin 32) (imm : BitVec 20),
      let a := s.gpr c rs1
      let i : Word := imm.signExtend 40
      (∃ t, exec (.immediateAlu c (.cmpi rs1 imm)) s = .next t ∧ flagZ (t.flags c) = decide (a = i) ∧ flagC (t.flags c) = decide (a.toNat < i.toNat) ∧
        flagN (t.flags c) = decide ((a - i).toInt < 0) ∧ flagV (t.flags c) = decide ((a - i).toInt ≠ a.toInt - i.toInt) ∧ flagS (t.flags c) = flagS (s.flags c) ∧
        SameGprs c s t ∧ SameAccs c s t ∧ Retired c ((s.core c).pc + 2) s t ∧ SameRegsBut c [Reg.CS_FLAGS c] s t ∧ SameMemory s t) ∧
      (∃ t, exec (.immediateAlu c (.tsti rs1 imm)) s = .next t ∧ flagZ (t.flags c) = decide (a &&& i = 0) ∧ flagC (t.flags c) = false ∧
        flagN (t.flags c) = decide ((a &&& i).toInt < 0) ∧ flagV (t.flags c) = false ∧ flagS (t.flags c) = flagS (s.flags c) ∧
        SameGprs c s t ∧ SameAccs c s t ∧ Retired c ((s.core c).pc + 2) s t ∧ SameRegsBut c [Reg.CS_FLAGS c] s t ∧ SameMemory s t)) ∧
    (∀ op : LImm,
      let rv : Fin 32 × Word := match op with
        | .li rd imm => (rd, imm.signExtend 40)
        | .lui rd imm => (rd, imm.setWidth 40 <<< 20)
        | .orz rd rs1 imm => (rd, s.gpr c rs1 ||| imm.setWidth 40)
      ∃ t, exec (.longImmediate c op) s = .next t ∧ GprResult c rv.1 rv.2 s t ∧ SameAccs c s t ∧
        Retired c ((s.core c).pc + 2) s t ∧ SameRegsBut c [] s t ∧ SameMemory s t) ∧
    (∀ (word : Bool) (rd : Fin 32) (imm : BitVec 20),
      ∃ t, exec (.adr c word rd imm) s = .next t ∧
        GprResult c rd ((if word then (s.core c).pc >>> 1 else (s.core c).pc) + imm.signExtend 40) s t ∧ SameAccs c s t ∧
        Retired c ((s.core c).pc + 2) s t ∧ SameRegsBut c [] s t ∧ SameMemory s t) ∧
    (∀ (op : BitOp) (rd rs1 : Fin 32) (p w1 : Fin 40), p.val + w1.val < 40 →
      let a := s.gpr c rs1
      ∃ (v : Word) (t : State), exec (.bitField c op rd rs1 p w1) s = .next t ∧ GprResult c rd v s t ∧ SameAccs c s t ∧
        Retired c ((s.core c).pc + 2) s t ∧ SameRegsBut c [] s t ∧ SameMemory s t ∧
        BitFieldMeans op p w1 a (s.gpr c rd) v) ∧
    (∀ (rd rs1 rs2 : Fin 32) (cond : Fin 16),
      ∃ t, exec (.sel c (.sel rd rs1 rs2 cond)) s = .next t ∧
        GprResult c rd (if condTrue (s.flags c) cond then s.gpr c rs1 else s.gpr c rs2) s t ∧ SameAccs c s t ∧
        Retired c ((s.core c).pc + 2) s t ∧ SameRegsBut c [] s t ∧ SameMemory s t) ∧
    (∀ (rd : Fin 32) (cond : Fin 16),
      ∃ t, exec (.sel c (.setc rd cond)) s = .next t ∧ GprResult c rd (if condTrue (s.flags c) cond then 1 else 0) s t ∧ SameAccs c s t ∧
        Retired c ((s.core c).pc + 2) s t ∧ SameRegsBut c [] s t ∧ SameMemory s t)

/-- R131, R145-R147: the accumulator moves and the multiply-accumulate class: products rounded to Q10.70 as RM says, and sums that wrap or saturate. -/
def Obligations.AccumulatorResult : Prop :=
  ∀ (c : Fin 8) (s : State),
    (Ready s c true →
      (∀ (op : MacOp) (a : Nat) (v : BitVec 80), macMeans s c op = some (a, v) →
        ∃ t, exec (.multiplyAccumulate c op) s = .next t ∧ t.accOf c a = v ∧ (∀ b, b ≠ a → t.accOf c b = s.accOf c b) ∧ SameGprs c s t ∧
          Retired c ((s.core c).pc + 2) s t ∧ SameRegsBut c [Reg.CS_FLAGS c] s t ∧ SameMemory s t) ∧
      (∀ (q9 : Bool) (rm : MRound) (sh : Fin 16) (rd : Fin 32) (a : Fin 8),
        let x := roundedDiv rm ((s.accOf c a).toInt * 2 ^ sh.val) (if q9 then 39 else 31)
        ∃ t, exec (.multiplyAccumulate c (if q9 then .extq9 rm sh rd a else .exta rm sh rd a)) s = .next t ∧
          GprResult c rd (BitVec.ofInt 40 (clampInt 40 x)) s t ∧ flagS (t.flags c) = (flagS (s.flags c) || decide (x ≠ clampInt 40 x)) ∧
          flagZ (t.flags c) = flagZ (s.flags c) ∧ SameAccs c s t ∧
          Retired c ((s.core c).pc + 2) s t ∧ SameRegsBut c [Reg.CS_FLAGS c] s t ∧ SameMemory s t)) ∧
    (Ready s c false → ∀ (rd : Fin 32) (a : Fin 8),
      (∃ t, exec (.accumulatorMove c (.rda rd a)) s = .next t ∧
        GprResult c rd (BitVec.ofInt 40 (clampInt 40 (roundedDiv .halfUp (s.accOf c a).toInt 31))) s t ∧
        SameAccs c s t ∧ Retired c ((s.core c).pc + 1) s t ∧ SameRegsBut c [Reg.CS_FLAGS c] s t ∧ SameMemory s t) ∧
      (∃ t, exec (.accumulatorMove c (.rdaHi rd a)) s = .next t ∧ GprResult c rd ((s.accOf c a).extractLsb' 40 40) s t ∧
        SameAccs c s t ∧ Retired c ((s.core c).pc + 1) s t ∧ SameRegsBut c [] s t ∧ SameMemory s t) ∧
      (∃ t, exec (.accumulatorMove c (.rdaLo rd a)) s = .next t ∧ GprResult c rd ((s.accOf c a).extractLsb' 0 40) s t ∧
        SameAccs c s t ∧ Retired c ((s.core c).pc + 1) s t ∧ SameRegsBut c [] s t ∧ SameMemory s t) ∧
      (∃ t, exec (.accumulatorMove c (.clra a)) s = .next t ∧ t.accOf c a = 0 ∧ (∀ b, b ≠ a.val → t.accOf c b = s.accOf c b) ∧ SameGprs c s t ∧
        Retired c ((s.core c).pc + 1) s t ∧ SameRegsBut c [] s t ∧ SameMemory s t))

/-- R148, R150, R152, R165: every F40 operation ends with a result in its destination, changes no other general register and no accumulator, clears no sticky
bit of F40_CTL and changes none of its bits above NV. FNEG inverts and FABS clears the sign bit, and both leave F40_CTL. A NaN among the operands of FADD,
FSUB, FMUL, FDIV, FMA or FSQRT gives the default NaN; FMIN and FMAX give the other operand for one NaN and the default NaN for two; a signaling NaN of these
sets NV; a NaN converted to an integer or to Q1.39 gives 0 with NV, and 0 converted to F40 gives 0. FCMP sets Z for equal, N for less, and V alone for a NaN,
clears C, leaves S, and sets NV for a signaling NaN only. The statement says no more of the rounded results.
The model's choices: log row 7. -/
def Obligations.FloatResult : Prop :=
  ∀ (c : Fin 8) (s : State), Ready s c true →
    let ctl := Reg.CS_F40_CTL c
    (∀ op : FOp, ∃ (v : Word) (t : State), exec (.floatingPoint c op) s = .next t ∧ GprResult c (floatDest op) v s t ∧ SameAccs c s t ∧
      Retired c ((s.core c).pc + 2) s t ∧ SameRegsBut c [ctl] s t ∧ SameMemory s t ∧
      (∀ i, i < 40 → bget (s.reg ctl) i = true → bget (t.reg ctl) i = true) ∧
      (∀ i, 5 ≤ i → bget (t.reg ctl) i = bget (s.reg ctl) i) ∧ FloatMeans s c op v (t.reg ctl)) ∧
    (∀ rs1 rs2 : Fin 32,
      let a := s.gpr c rs1
      let b := s.gpr c rs2
      let key := order40 (s.bit ctl 7)
      let unordered := isNaN40 a || isNaN40 b
      ∃ t, exec (.fcmp c rs1 rs2) s = .next t ∧ SameGprs c s t ∧ SameAccs c s t ∧
        flagV (t.flags c) = unordered ∧ flagZ (t.flags c) = (!unordered && decide (key a = key b)) ∧ flagN (t.flags c) = (!unordered && decide (key a < key b)) ∧
        flagC (t.flags c) = false ∧ flagS (t.flags c) = flagS (s.flags c) ∧
        t.bit ctl 4 = (s.bit ctl 4 || isSignaling40 a || isSignaling40 b) ∧ (∀ i, i ≠ 4 → t.bit ctl i = s.bit ctl i) ∧
        Retired c ((s.core c).pc + 2) s t ∧ SameRegsBut c [Reg.CS_FLAGS c, ctl] s t ∧ SameMemory s t)

/-- R133, R135: where the branches go and the link they write. -/
def Obligations.BranchTarget : Prop :=
  ∀ (c : Fin 8) (s : State),
    let pc := (s.core c).pc
    (Ready s c false →
      (∀ (rs : Fin 32) (sense : Bool) (off : BitVec 9), ∃ t, exec (.cbz c rs sense off) s = .next t ∧ SameGprs c s t ∧ SameAccs c s t ∧
        Retired c (if decide (s.gpr c rs = 0) != sense then pc + off.signExtend 40 else pc + 1) s t ∧ SameRegsBut c [] s t ∧ SameMemory s t) ∧
      (∀ (cond : Fin 16) (off : BitVec 11), ∃ t, exec (.bc c cond off) s = .next t ∧ SameGprs c s t ∧ SameAccs c s t ∧
        Retired c (if condTrue (s.flags c) cond then pc + off.signExtend 40 else pc + 1) s t ∧ SameRegsBut c [] s t ∧ SameMemory s t) ∧
      (∀ off : BitVec 15, ∃ t, exec (.branch c off) s = .next t ∧ SameGprs c s t ∧ SameAccs c s t ∧ Retired c (pc + off.signExtend 40) s t ∧
        SameRegsBut c [] s t ∧ SameMemory s t)) ∧
    (Ready s c true →
      (∀ off : BitVec 30, ∃ t, exec (.brL c off) s = .next t ∧ SameGprs c s t ∧ SameAccs c s t ∧ Retired c (pc + off.signExtend 40) s t ∧
        SameRegsBut c [] s t ∧ SameMemory s t) ∧
      (∀ off : BitVec 30, ∃ t, exec (.call c off) s = .next t ∧ GprResult c 31 (pc + 2) s t ∧ SameAccs c s t ∧
        Retired c (pc + off.signExtend 40) s t ∧ SameRegsBut c [] s t ∧ SameMemory s t) ∧
      (∀ (rd rs1 : Fin 32) (off : BitVec 20), ∃ t, exec (.jalr c rd rs1 off) s = .next t ∧ GprResult c rd (pc + 2) s t ∧ SameAccs c s t ∧
        Retired c (s.gpr c rs1 + off.signExtend 40) s t ∧ SameRegsBut c [] s t ∧ SameMemory s t) ∧
      (∀ (cond : Fin 16) (off : BitVec 20), ∃ t, exec (.bcL c cond off) s = .next t ∧ SameGprs c s t ∧ SameAccs c s t ∧
        Retired c (if condTrue (s.flags c) cond then pc + off.signExtend 40 else pc + 2) s t ∧ SameRegsBut c [] s t ∧ SameMemory s t))

/-- R90, R93, R94, R96, R99: SVC, PMC and MNC enter the first free level from their own up; EPC is the next instruction and DETAIL the immediate. -/
def Obligations.CallEntry : Prop :=
  ∀ (c : Fin 8) (imm : BitVec 12) (L : Nat) (s : State), Ready s c false →
    let next := (s.core c).pc + 1
    (EntersAt s c (baseLevel s c 1 7 true) L →
      ∃ t, exec (.svc c imm) s = .next t ∧ Entered c (baseLevel s c 1 7 true) L 7 imm.toNat next 0 s t) ∧
    (1 ≤ s.pl c → EntersAt s c (baseLevel s c 2 8 false) L →
      ∃ t, exec (.pmc c imm) s = .next t ∧ Entered c (baseLevel s c 2 8 false) L 8 imm.toNat next 0 s t) ∧
    (2 ≤ s.pl c → EntersAt s c (baseLevel s c 3 9 false) L →
      ∃ t, exec (.mnc c imm) s = .next t ∧ Entered c (baseLevel s c 3 9 false) L 9 imm.toNat next 0 s t)

/-- R91, R93, R94, R120, R125, R153: reserved encodings raise UNDEF, a call below its level raises PRIV, BREAK without a debug halt raises its cause; EPC is the
instruction's own address and DETAIL its first parcel (0 for BREAK). A cause with no free level from its base up stops the core and keeps its registers.
The model's choices: log row 27. -/
def Obligations.UndefPrivBreak : Prop :=
  ∀ (c : Fin 8) (L : Nat) (s : State),
    let pc := (s.core c).pc
    (∀ p0 p1 : Parcel, undefined p0 p1 = true → Ready s c (isLong p0) → EntersAt s c (baseLevel s c 1 1 true) L →
      ∃ t, exec (.undef c p0 p1) s = .next t ∧ Entered c (baseLevel s c 1 1 true) L 1 p0.toNat pc 0 s t) ∧
    (∀ imm : BitVec 12, Ready s c false → EntersAt s c (baseLevel s c 1 2 true) L →
      (s.pl c = 0 → ∃ t, exec (.pmc c imm) s = .next t ∧ Entered c (baseLevel s c 1 2 true) L 2 (0xF9000 + imm.toNat) pc 0 s t) ∧
      (s.pl c ≤ 1 → ∃ t, exec (.mnc c imm) s = .next t ∧ Entered c (baseLevel s c 1 2 true) L 2 (0xFA000 + imm.toNat) pc 0 s t)) ∧
    (Ready s c false → s.bit (Reg.CS_DBG_CTL c) 3 = false → EntersAt s c (baseLevel s c 1 0x11 true) L →
      ∃ t, exec (.breakInsn c) s = .next t ∧ Entered c (baseLevel s c 1 0x11 true) L 0x11 0 pc 0 s t) ∧
    (∀ imm : BitVec 12, Ready s c false → (∀ m, baseLevel s c 1 7 true ≤ m → m ≤ 3 → s.hold c m = true) →
      ∃ t, exec (.svc c imm) s = .next t ∧ (t.core c).run = .doubleFault ∧ (t.core c).pc = pc ∧ SameGprs c s t ∧ SameAccs c s t ∧
        t.reg (Reg.CS_STATUS c) = s.reg (Reg.CS_STATUS c) ∧ t.fld (Reg.CS_DBG_CTL c) 10 8 = 4 ∧ SameMemory s t)

/-- R101: ERET restores the level, IE and the flags that EST holds, clears the HOLD of the level it leaves, and goes to EPC. -/
def Obligations.ReturnRestores : Prop :=
  ∀ (c : Fin 8) (s : State), Ready s c false → 1 ≤ s.pl c →
    let est := s.reg (estReg c (s.pl c))
    ∃ t, exec (.eret c) s = .next t ∧ (t.core c).pc = s.reg (epcReg c (s.pl c)) ∧ t.pl c = fget est 1 0 ∧ t.ie c = bget est 2 ∧
      t.flags c = fget est 7 3 ∧ t.hold c (s.pl c) = false ∧ (∀ m, 1 ≤ m → m ≤ 3 → m ≠ s.pl c → t.hold c m = s.hold c m) ∧
      SameGprs c s t ∧ SameAccs c s t ∧ (t.core c).resv = none ∧ SameRegsBut c [Reg.CS_STATUS c, Reg.CS_FLAGS c] s t ∧ SameMemory s t

/-- R139, R140, R142, R57, R59: loads from a core's own close memory, at a level that uses physical addresses.
The model's choices: log row 16. -/
def Obligations.LoadResult : Prop :=
  ∀ (c : Fin 8) (s : State), ReadyPhys s c →
    let next := (s.core c).pc + 2
    let ends : State → Prop := fun t => Retired c next s t ∧ SameRegsBut c [] s t ∧ SameMemory s t
    (∀ (rt rb : Fin 32) (off : BitVec 20) (w : Word), ownWord c (s.gpr c rb + off.signExtend 40) → holdsWord s c (s.gpr c rb + off.signExtend 40) w →
      (∃ t, exec (.lw c rt rb off) s = .next t ∧ GprResult c rt w s t ∧ SameAccs c s t ∧ ends t) ∧
      (∃ t, exec (.lwAq c rt rb off) s = .next t ∧ GprResult c rt w s t ∧ SameAccs c s t ∧ ends t)) ∧
    (∀ (rt rb rx : Fin 32) (sc : Fin 4) (w : Word), ownWord c (s.gpr c rb + s.gpr c rx <<< sc.val) → holdsWord s c (s.gpr c rb + s.gpr c rx <<< sc.val) w →
      ∃ t, exec (.lwx c rt rb rx sc) s = .next t ∧ GprResult c rt w s t ∧ SameAccs c s t ∧ ends t) ∧
    (∀ (rt rb : Fin 32) (off : BitVec 20) (va w : Word) (k : Nat), (s.gpr c rb).toNat % 8 < 5 → k < 5 →
      (va.toNat * 5 + k : Int) = ((s.gpr c rb).toNat / 8 * 5 + (s.gpr c rb).toNat % 8 + off.toInt) % (5 * 2 ^ 37) →
      ownWord c va → holdsWord s c va w →
      (∃ t, exec (.lbu c rt rb off) s = .next t ∧ GprResult c rt ((w.extractLsb' (8 * k) 8).setWidth 40) s t ∧ SameAccs c s t ∧ ends t) ∧
      (∃ t, exec (.lbs c rt rb off) s = .next t ∧ GprResult c rt ((w.extractLsb' (8 * k) 8).signExtend 40) s t ∧ SameAccs c s t ∧ ends t)) ∧
    (∀ (rb : Fin 32) (off : BitVec 20) (w0 w1 : Word), ownWord c (s.gpr c rb + off.signExtend 40) → ownWord c (s.gpr c rb + off.signExtend 40 + 1) →
      holdsWord s c (s.gpr c rb + off.signExtend 40) w0 → holdsWord s c (s.gpr c rb + off.signExtend 40 + 1) w1 →
      (∀ rt : Fin 16, ∃ t, exec (.ld2 c rt rb off) s = .next t ∧ t.gpr c (2 * rt.val) = (if rt = 0 then 0 else w0) ∧ t.gpr c (2 * rt.val + 1) = w1 ∧
        (∀ r, r ≠ 2 * rt.val → r ≠ 2 * rt.val + 1 → t.gpr c r = s.gpr c r) ∧ SameAccs c s t ∧ ends t) ∧
      (∀ a : Fin 8, ∃ t, exec (.la c a rb off) s = .next t ∧ t.accOf c a = w1 ++ w0 ∧ (∀ b, b ≠ a.val → t.accOf c b = s.accOf c b) ∧
        SameGprs c s t ∧ ends t))

/-- R139, R140, R142, R57, R107: stores to a core's own close memory, at a level that uses physical addresses: the words stored, and every other word of
every memory as it was.
The model's choices: log row 16. -/
def Obligations.StoreResult : Prop :=
  ∀ (c : Fin 8) (s : State), ReadyPhys s c →
    let ends : State → Prop := fun t => SameGprs c s t ∧ SameAccs c s t ∧ (t.core c).pc = (s.core c).pc + 2 ∧ SameRegsBut c [] s t
    (∀ (rt rb : Fin 32) (off : BitVec 20),
      let va := s.gpr c rb + off.signExtend 40
      ownWord c va →
      (∃ t, exec (.sw c rt rb off) s = .next t ∧ ClosePut c [(closeKey c va, s.gpr c rt)] s t ∧ ends t) ∧
      (∃ t, exec (.swRl c rt rb off) s = .next t ∧ ClosePut c [(closeKey c va, s.gpr c rt)] s t ∧ ends t)) ∧
    (∀ (rt rb rx : Fin 32) (sc : Fin 4),
      let va := s.gpr c rb + s.gpr c rx <<< sc.val
      ownWord c va → ∃ t, exec (.swx c rt rb rx sc) s = .next t ∧ ClosePut c [(closeKey c va, s.gpr c rt)] s t ∧ ends t) ∧
    (∀ (rt rb : Fin 32) (off : BitVec 20) (va w : Word) (k : Nat), (s.gpr c rb).toNat % 8 < 5 → k < 5 →
      (va.toNat * 5 + k : Int) = ((s.gpr c rb).toNat / 8 * 5 + (s.gpr c rb).toNat % 8 + off.toInt) % (5 * 2 ^ 37) →
      ownWord c va → holdsWord s c va w →
      ∃ (v : Word) (t : State), exec (.sb c rt rb off) s = .next t ∧ ClosePut c [(closeKey c va, v)] s t ∧ ends t ∧
        ∀ i, i < 40 → v.getLsbD i = if 8 * k ≤ i ∧ i < 8 * k + 8 then (s.gpr c rt).getLsbD (i - 8 * k) else w.getLsbD i) ∧
    (∀ (rb : Fin 32) (off : BitVec 20),
      let va := s.gpr c rb + off.signExtend 40
      ownWord c va → ownWord c (va + 1) →
      (∀ rt : Fin 16, ∃ t, exec (.sd2 c rt rb off) s = .next t ∧
        ClosePut c [(closeKey c va, s.gpr c (2 * rt.val)), (closeKey c (va + 1), s.gpr c (2 * rt.val + 1))] s t ∧ ends t) ∧
      (∀ a : Fin 8, ∃ t, exec (.sa c a rb off) s = .next t ∧
        ClosePut c [(closeKey c va, (s.accOf c a).extractLsb' 0 40), (closeKey c (va + 1), (s.accOf c a).extractLsb' 40 40)] s t ∧ ends t))

/-- R59: an octet access whose pointer's low three bits are 5 to 7 raises ALIGN with the pointer, and stores nothing. -/
def Obligations.OctetPointerAlign : Prop :=
  ∀ (c : Fin 8) (rt rb : Fin 32) (off : BitVec 20) (L : Nat) (s : State), Ready s c true → 5 ≤ (s.gpr c rb).toNat % 8 →
    EntersAt s c (baseLevel s c 1 6 true) L →
    (∃ t, exec (.lbu c rt rb off) s = .next t ∧ Entered c (baseLevel s c 1 6 true) L 6 0 (s.core c).pc (s.gpr c rb) s t) ∧
    (∃ t, exec (.lbs c rt rb off) s = .next t ∧ Entered c (baseLevel s c 1 6 true) L 6 0 (s.core c).pc (s.gpr c rb) s t) ∧
    (∃ t, exec (.sb c rt rb off) s = .next t ∧ Entered c (baseLevel s c 1 6 true) L 6 0 (s.core c).pc (s.gpr c rb) s t)

/-- R110, R111, R141: the atomics on a word of a core's own close memory: rd takes the old word and the word takes its new value; LL sets the reservation and
SC stores only under it.
The model's choices: log row 18. -/
def Obligations.AtomicResult : Prop :=
  ∀ (c : Fin 8) (rb : Fin 32) (w : Word) (s : State), ReadyPhys s c →
    let va := s.gpr c rb
    let ends : State → Prop := fun t => SameAccs c s t ∧ (t.core c).pc = (s.core c).pc + 2 ∧ SameRegsBut c [] s t
    ownWord c va → holdsWord s c va w →
    (∀ (rd rs rc : Fin 32) (aq rl : Bool), ∃ t, exec (.cas c rd rb rs rc aq rl) s = .next t ∧ GprResult c rd w s t ∧
      ClosePut c [(closeKey c va, if w = s.gpr c rc then s.gpr c rs else w)] s t ∧ ends t) ∧
    (∀ (rd rs : Fin 32) (aq rl : Bool), ∃ t, exec (.fadd c rd rb rs aq rl) s = .next t ∧ GprResult c rd w s t ∧
      ClosePut c [(closeKey c va, w + s.gpr c rs)] s t ∧ ends t) ∧
    (∀ (rd rs : Fin 32) (aq rl : Bool), ∃ t, exec (.swapInsn c rd rb rs aq rl) s = .next t ∧ GprResult c rd w s t ∧
      ClosePut c [(closeKey c va, s.gpr c rs)] s t ∧ ends t) ∧
    (∀ (rd : Fin 32) (aq : Bool), ∃ t, exec (.ll c rd rb aq) s = .next t ∧ GprResult c rd w s t ∧ (t.core c).resv = some (va.toNat / 16) ∧
      SameMemory s t ∧ ends t) ∧
    (∀ (rd rs : Fin 32) (rl : Bool),
      ((s.core c).resv = some (va.toNat / 16) → ∃ t, exec (.sc c rd rb rs rl) s = .next t ∧ GprResult c rd 0 s t ∧
        ClosePut c [(closeKey c va, s.gpr c rs)] s t ∧ (t.core c).resv = none ∧ ends t) ∧
      ((s.core c).resv ≠ some (va.toNat / 16) → ∃ t, exec (.sc c rd rb rs rl) s = .next t ∧ GprResult c rd 1 s t ∧ SameMemory s t ∧
        (t.core c).resv = none ∧ ends t))

/-- R153, R108, R310, R311: NOP; the fences and SEV of a core with no store outstanding; SEV sets the wake latches of its group; WAITEV completes where the
latch or PEND is 1 and clears the latch, and else waits.
The model's choices: log row 24. -/
def Obligations.NopFenceWait : Prop :=
  ∀ (c : Fin 8) (s : State), Ready s c false →
    let next := (s.core c).pc + 1
    (∃ t, exec (.nop c) s = .next t ∧ Retires c next s t) ∧
    (∃ t, exec (.fenceR c) s = .next t ∧ Retires c next s t) ∧
    ((s.core c).outStores = [] →
      (∃ t, exec (.fenceW c) s = .next t ∧ Retires c next s t) ∧
      (∃ t, exec (.fenceA c) s = .next t ∧ Retires c next s t) ∧
      (∃ t, exec (.sev c) s = .next t ∧ (t.core c).pc = next ∧ SameGprs c s t ∧ SameAccs c s t ∧ SameRegsBut c [] s t ∧ SameMemory s t ∧
        t.reg (Reg.CS_RET_COUNT c) = s.reg (Reg.CS_RET_COUNT c) + 1 ∧
        ∀ n, n < 8 → (t.core n).latch = ((s.core n).latch || s.bit (Reg.EIU_SEV_GROUP c) n))) ∧
    ((s.core c).latch = true ∨ asyncPending s c = true →
      ∃ t, exec (.waitev c) s = .next t ∧ Retires c next s t ∧ (t.core c).latch = false ∧ (t.core c).run = .running) ∧
    ((s.core c).latch = false → asyncPending s c = false →
      ∃ t, exec (.waitev c) s = .next t ∧ (t.core c).run = .waiting ∧ (t.core c).pc = next ∧ SameGprs c s t ∧ SameAccs c s t ∧ SameMemory s t ∧
        SameRegsBut c [] s t ∧ t.reg (Reg.CS_RET_COUNT c) = s.reg (Reg.CS_RET_COUNT c))

/-- R103, R106, R122, R154, R161: CSRR gives what the register shows, and TIME_LO latches TIME_HI; CSRW, CSRSET and CSRCLR of the whole-word registers;
an unassigned number raises UNDEF, a register above the level PRIV. -/
def Obligations.ControlRegisterMoves : Prop :=
  ∀ (c : Fin 8) (r : Fin 32) (cs : Fin 128) (s : State), Ready s c true →
    let a := Reg.CS_FLAGS c + cs
    let pc := (s.core c).pc
    (∀ m, csMinPl cs = some m → m ≤ s.pl c →
      ∃ t, exec (.csrr c r cs) s = .next t ∧ GprResult c r (csView s c cs) s t ∧ SameAccs c s t ∧ Retired c (pc + 2) s t ∧ SameRegsBut c [] s t ∧
        SameMemory s t ∧ (cs = 1 → (r ≠ 0 → t.gpr c r = s.nowLo) ∧ (t.core c).timeHi = s.nowHi)) ∧
    (∀ m, (cs.val, m) ∈ [(0x05, 0), (0x0A, 1), (0x0D, 1), (0x0E, 1), (0x19, 2), (0x1C, 2), (0x1D, 2), (0x29, 3), (0x2C, 3), (0x2D, 3), (0x34, 3), (0x36, 3),
        (0x37, 3)] → m ≤ s.pl c →
      (∃ t, exec (.csrw c r cs) s = .next t ∧ t.reg a = s.gpr c r ∧ SameGprs c s t ∧ SameAccs c s t ∧ Retired c (pc + 2) s t ∧
        SameRegsBut c [a] s t ∧ SameMemory s t) ∧
      (∃ t, exec (.csrset c r cs) s = .next t ∧ t.reg a = s.reg a ||| s.gpr c r ∧ SameGprs c s t ∧ SameAccs c s t ∧ Retired c (pc + 2) s t ∧
        SameRegsBut c [a] s t ∧ SameMemory s t) ∧
      (∃ t, exec (.csrclr c r cs) s = .next t ∧ t.reg a = s.reg a &&& ~~~(s.gpr c r) ∧ SameGprs c s t ∧ SameAccs c s t ∧ Retired c (pc + 2) s t ∧
        SameRegsBut c [a] s t ∧ SameMemory s t)) ∧
    (∀ L, csMinPl cs = none → EntersAt s c (baseLevel s c 1 1 true) L →
      ∃ t, exec (.csrr c r cs) s = .next t ∧ Entered c (baseLevel s c 1 1 true) L 1 (0xFC000 + r * 2 ^ 9) pc 0 s t) ∧
    (∀ L m, csMinPl cs = some m → s.pl c < m → EntersAt s c (baseLevel s c 1 2 true) L →
      ∃ t, exec (.csrw c r cs) s = .next t ∧ Entered c (baseLevel s c 1 2 true) L 2 (0xFC010 + r * 2 ^ 9) pc 0 s t)

/-- R154, R252, R288: the cache operations on a core's own close memory change nothing, IC.INV drops the line of L1 instruction, and each TLB operation
removes exactly the combined entries of its table, and every tentative entry.
The model's choices: log row 35. -/
def Obligations.CacheAndTlbOps : Prop :=
  ∀ (c : Fin 8) (r : Fin 32) (s : State), ReadyPhys s c →
    let next := (s.core c).pc + 2
    let ends : State → Prop := fun t => SameGprs c s t ∧ SameAccs c s t ∧ Retired c next s t ∧ SameRegsBut c [] s t ∧ SameMemory s t
    let part := s.fld (Reg.CS_PART c) 3 0
    (ownWord c (s.gpr c r) →
      (∃ t, exec (.dcClean c r) s = .next t ∧ ends t) ∧ (∃ t, exec (.dcClinv c r) s = .next t ∧ ends t) ∧ (∃ t, exec (.dcInv c r) s = .next t ∧ ends t)) ∧
    ((s.gpr c r).toNat < 2 ^ 34 →
      ∃ t, exec (.icInv c r) s = .next t ∧ ends t ∧ SMap.find ((s.gpr c r).toNat / 16) (t.core c).l1i = none ∧
        ∀ l, l ≠ (s.gpr c r).toNat / 16 → SMap.find l (t.core c).l1i = SMap.find l (s.core c).l1i) ∧
    (∃ t, exec (.tlbInvVa c r) s = .next t ∧ ends t ∧
      TlbsWithout c (fun e => e.part == part && e.vbase == (s.gpr c r).toNat / 2 ^ e.lg && (e.asid == s.fld (Reg.CS_ASID c) 11 0 || e.g)) s t ∧
      (t.core c).wcache = (s.core c).wcache.filter (fun e => e.part != part)) ∧
    (∀ imm : BitVec 12, ∃ t, exec (.tlbInvAsid c imm) s = .next t ∧ ends t ∧ TlbsWithout c (fun e => e.part == part && e.asid == imm.toNat && !e.g) s t ∧
      (t.core c).wcache = (s.core c).wcache.filter (fun e => !(e.part == part && e.asid == imm.toNat))) ∧
    (∃ t, exec (.tlbInvAll c) s = .next t ∧ ends t ∧ TlbsWithout c (fun e => e.part == part) s t ∧
      (t.core c).wcache = (s.core c).wcache.filter (fun e => e.part != part)) ∧
    (let p := (s.gpr c r).toNat % 16
     ∃ t, exec (.tlbInvPart c r) s = .next t ∧ ends t ∧ TlbsWithout c (fun e => e.part == p) s t ∧
      (t.core c).wcache = (s.core c).wcache.filter (fun e => e.part != p) ∧ (t.core c).s2tlb = (s.core c).s2tlb.filter (fun e => e.part != p))

/-- R235, R256, R96, R115, R100, R310, R177: a fetch above the physical space faults with reason RANGE; a waiting core wakes; a store's error becomes pending and is taken as an
asynchronous entry; a wrong guess squashes the cloakroom entries of younger instructions.
The model's choices: log rows 13, 24, 26. -/
def Obligations.CoreEvents : Prop :=
  ∀ (c : Fin 8) (s : State),
    (∀ L, Poised s c → 2 ≤ s.pl c → 2 ^ 35 ≤ (s.core c).pc.toNat → EntersAt s c (baseLevel s c 1 3 true) L →
      ∃ t, exec (.fetchFault c) s = .next t ∧ Entered c (baseLevel s c 1 3 true) L 3 8 (s.core c).pc ((s.core c).pc >>> 1) s t) ∧
    (Undisturbed s c → isPaced s c = false → (s.core c).run = .waiting → (s.core c).latch = true ∨ asyncPending s c = true →
      ∃ t, exec (.coreWake c) s = .next t ∧ (t.core c).run = .running ∧ (t.core c).latch = false ∧ (t.core c).pc = (s.core c).pc ∧
        t.reg (Reg.CS_RET_COUNT c) = s.reg (Reg.CS_RET_COUNT c) + 1 ∧ SameGprs c s t ∧ SameAccs c s t ∧ SameRegsBut c [] s t ∧ SameMemory s t) ∧
    (∀ e rest, (s.core c).storeErrs = e :: rest →
      ∃ t, exec (.storeErrorResponse c) s = .next t ∧ (t.core c).storeErrs = rest ∧
        (t.core c).async.busErr = some (match (s.core c).async.busErr with | none => e | some x => if e.seq < x.seq then e else x) ∧ SameGprs c s t ∧ (t.core c).pc = (s.core c).pc ∧ SameRegsBut c [] s t ∧ SameMemory s t) ∧
    (∀ q va st L, Undisturbed s c → (s.core c).io = [] → isPaced s c = false → (s.core c).run = .running → (s.core c).pacing = false → (s.core c).due = none → domState s c = 0 →
      (s.core c).async.pairSelf = none → (s.core c).async.pairMismatch = none → (s.core c).async.quiet = none → (s.core c).async.busErr = some ⟨q, va, st⟩ →
      L = baseLevel s c 1 0xA true → L ≤ 3 → s.hold c L = false → (s.pl c < L ∨ s.ie c = true) →
      ∃ t, exec (.asynchronousException c) s = .next t ∧ t.pl c = L ∧ t.ie c = false ∧ t.hold c L = true ∧ t.reg (epcReg c L) = (s.core c).pc ∧
        t.reg (estReg c L) = BitVec.ofNat 40 (s.flags c * 8 + (if s.ie c then 4 else 0) + s.pl c) ∧
        t.reg (causeReg c L) = BitVec.ofNat 40 (statusCode st * 2 ^ 16 + s.pl c * 2 ^ 8 + 2 ^ 6 + 0xA) ∧ t.reg (faddrReg c L) = va ∧
        (t.core c).pc = s.reg (vecReg c L) + 0x20 ∧ (t.core c).async.busErr = none ∧ SameGprs c s t ∧ SameAccs c s t ∧ SameMemory s t) ∧
    (∀ (squashed : List Word) (count : Fin 128),
      (∃ t, exec (.branchResolution c false squashed count) s = .next t ∧ Idles s t) ∧
      (predOff s c = false → ∃ t, exec (.branchResolution c true squashed count) s = .next t ∧ SameGprs c s t ∧ (t.core c).pc = (s.core c).pc ∧
        SameRegsBut c [] s t ∧ SameMemory s t ∧
        (t.core c).cloak = ((s.core c).cloak.map (fun e => { e with serves := squashed.foldl (fun l p => l.erase p) e.serves })).filter
          (fun e => !e.serves.isEmpty) ∧
        (t.core c).ttlb = (s.core c).ttlb.filter (fun x => !squashed.contains x.pc)))

/-- Cases of R206, R208, R209 and R210. Each instruction named in the list, started on a paced core, is due its cost times the period after the
core's last grid point, and until then changes nothing. A NOP that is due in close memory and is not late retires at its grid point, which becomes
the core's last. PACE_WRITEBACK_DONE sets ACTIVE when no line and no request of the entering core is left, and does nothing on a core that is not
entering. The model's choices: log row 25. -/
def Obligations.PacedCore : Prop :=
  ∀ (c : Fin 8) (s : State),
    (∀ (a : SAlu) (l : LAlu) (k : CmpOp) (f : Bool) (rd rs1 rs2 : Fin 32) (cs : Fin 128) (imm : BitVec 12) (off : BitVec 20) (i : Instr) (cost : Nat),
      (i, cost) ∈ [(.nop c, 1), (.sev c, 1), (.waitev c, 1), (.csrr c rd cs, 1), (.shortRegisterAlu c a rd rs1 rs2, 1),
        (.longRegisterAlu c l f rd rs1 rs2, if l ∈ [LAlu.divs, .divu, .rems, .remu] then 7 else 1), (.compare c k rs1 rs2, 2), (.lw c rd rs1 off, 1),
        (.sw c rd rs1 off, 1), (.cas c rd rs1 rs2 rd f f, 2), (.csrw c rd cs, 3), (.fenceA c, 3), (.dcClean c rs1, 3), (.tlbInvAll c, 3), (.svc c imm, 3),
        (.breakInsn c, 3), (.eret c, 3)] →
      mayStart s c = true → isPaced s c = true →
      ∃ t, exec i s = .next t ∧ (t.core c).due = some ((s.core c).grid + cost * s.fld (Reg.CS_PACE_PERIOD c) 7 0, i) ∧
        (t.core c).pc = (s.core c).pc ∧ SameGprs c s t ∧ SameAccs c s t ∧ RegsBut [] s t ∧ SameMemory s t) ∧
    (∀ r completed, Undisturbed s c → isPaced s c = true → s.bit Reg.TB_STATUS 0 = true → s.bit Reg.TB_STATUS 1 = false → s.fld Reg.TB_SLEW 25 24 = 0 →
      s.now ≤ r → r < 2 ^ 80 → (s.core c).run = .running → (s.core c).due = some (r, .nop c) → (s.core c).excursed = false →
      (completed = 0 ∨ 6 ≤ s.fld (Reg.CS_PACE_PERIOD c) 7 0) → s.bit (Reg.CS_DBG_CTL c) 0 = false → s.bit (Reg.CS_DBG_CTL c) 1 = false →
      2 ≤ s.pl c → (s.core c).pc.toNat < 2 ^ 40 - 2 → ownWord c ((s.core c).pc >>> 1) → (memRead s.close (closeKey c ((s.core c).pc >>> 1))).mark = .good →
      ∃ t, exec (.gridPoint c completed) s = .next t ∧ t.now = r ∧ (t.core c).due = none ∧ (t.core c).grid = r ∧ (t.core c).pc = (s.core c).pc + 1 ∧
        t.reg (Reg.CS_RET_COUNT c) = s.reg (Reg.CS_RET_COUNT c) + 1 ∧ SameGprs c s t ∧ SameAccs c s t ∧ SameRegsBut c [] s t ∧ SameMemory s t) ∧
    ((s.core c).pacing = true → (s.agent c).lines = [] → (s.agent c).out = [] →
      ∃ t, exec (.paceWritebackDone c) s = .next t ∧ t.bit (Reg.CS_PACE_CTL c) 1 = true ∧ (t.core c).pacing = false ∧ (t.core c).due = none ∧
        (s.bit (Reg.CS_PACE_CTL c) 3 = false → (t.core c).grid = s.now + 1) ∧ RegsBut [Reg.CS_PACE_CTL c] s t ∧ SameMemory s t) ∧
    ((s.core c).pacing = false → ∃ t, exec (.paceWritebackDone c) s = .next t ∧ Idles s t)

/-- R105, R217, R226, R233: the registers of a pair and of a stopped core, written over the fabric.
The model's choices: log row 34. -/
def Obligations.PairAndCoreWrites : Prop :=
  ∀ (i : Initiator) (s : State),
    (∀ (n : Fin 4) (v : Word), Reaches (Reg.PAIR_CTL n) s →
      (s.bit (Reg.PAIR_CTL n) 0 = false → s.stopped (2 * n) = true → s.stopped (2 * n + 1) = true →
        ∃ t, exec (.pairEnable i n v) s = .next t ∧ Took i (Reg.PAIR_CTL n :: Reg.PAIR_STAT n :: rsvdRegs) s t ∧ t.bit (Reg.PAIR_CTL n) 0 = true ∧
          t.fld (Reg.PAIR_CTL n) 15 13 = fget v 15 13 ∧ t.bit (Reg.PAIR_STAT n) 2 = false) ∧
      (s.bit (Reg.PAIR_CTL n) 0 = false → s.stopped (2 * n) = false ∨ s.stopped (2 * n + 1) = false →
        ∃ t, exec (.pairEnable i n v) s = .next t ∧ Took i (Reg.PAIR_CTL n :: Reg.PAIR_STAT n :: rsvdRegs) s t ∧ t.bit (Reg.PAIR_CTL n) 0 = false ∧
          t.bit (Reg.PAIR_STAT n) 3 = true) ∧
      (s.bit (Reg.PAIR_CTL n) 0 = true → (s.pair n).started = false →
        ∃ t, exec (.pairDrain i n v) s = .next t ∧ Took i (Reg.PAIR_CTL n :: Reg.PAIR_STAT n :: rsvdRegs) s t ∧ t.bit (Reg.PAIR_CTL n) 0 = false ∧
          t.bit (Reg.PAIR_STAT n) 1 = false) ∧
      (s.bit (Reg.PAIR_CTL n) 0 = true → (s.pair n).started = true → s.bit (Reg.PAIR_STAT n) 1 = false → (s.pair n).entries = [] → (s.pair n).hold = [] →
        Nat.testBit s.pwr.parking (2 * n) = false → Nat.testBit s.pwr.parking (2 * n + 1) = false →
        ∃ t, exec (.pairDrain i n v) s = .next t ∧ t.bit (Reg.PAIR_CTL n) 0 = false ∧ t.bit (Reg.PAIR_STAT n) 2 = true ∧ t.bit (Reg.PAIR_STAT n) 0 = false ∧
          (t.pair n).started = false ∧ (t.core (2 * n + 1)).run = .notStarted ∧ t.core (2 * n) = s.core (2 * n))) ∧
    (∀ (n : Fin 4) (v : Word), Reaches (Reg.PAIR_INJECT n) s →
      let q := fun (j : Nat) (t : State) => Took i [] s t ∧ (t.pair n).injMismatch = ((s.pair n).injMismatch || bget v 0 || j == 0) ∧
        (t.pair n).injParity = ((s.pair n).injParity || bget v 1 || j == 1) ∧ (t.pair n).injMissCanary = ((s.pair n).injMissCanary || bget v 2 || j == 2) ∧
        (t.pair n).injDisagree = ((s.pair n).injDisagree || bget v 3 || j == 3)
      (∃ t, exec (.pairInjectMismatch i n v) s = .next t ∧ q 0 t) ∧ (∃ t, exec (.pairInjectParity i n v) s = .next t ∧ q 1 t) ∧
      (∃ t, exec (.pairInjectMissCanary i n v) s = .next t ∧ q 2 t) ∧ (∃ t, exec (.pairInjectDisagree i n v) s = .next t ∧ q 3 t)) ∧
    (∀ (c : Fin 8) (cs : Fin 128) (v : Word), Reaches (Reg.CS_FLAGS c + cs) s → cs.val ∈ [0x05, 0x0A, 0x0D, 0x0E, 0x19, 0x1C, 0x1D, 0x29, 0x2C, 0x2D, 0x34, 0x36, 0x37] →
      (s.stopped c = true → ∃ t, exec (.corePageStore i c cs v) s = .next t ∧ Took i [Reg.CS_FLAGS c + cs] s t ∧ t.reg (Reg.CS_FLAGS c + cs) = v) ∧
      (s.stopped c = false → ∃ t, exec (.corePageStore i c cs v) s = .next t ∧ t.resp = ⟨i.ep, .prot, []⟩ ∧ Idles s t))

/-- R220, R223, R224, R233: a group that matches is counted and the trailer stands after it; a real mismatch stops both cores.
The model's choices: log rows 31, 32. -/
def Obligations.GroupComparison : Prop :=
  ∀ (n : Fin 4) (s : State) (e : DelayEnt) (rest : List DelayEnt), Calm s → trailerMay s n = true → (s.pair n).entries = e :: rest → (s.pair n).hold = [] →
    (s.pair n).injDisagree = false → e.badParity = false →
    ((s.pair n).injMismatch = false → (s.pair n).injMissCanary = false →
      ∃ t, exec (.groupCompare n) s = .next t ∧ (t.pair n).entries = rest ∧ t.reg (Reg.PAIR_GROUPS n) = s.reg (Reg.PAIR_GROUPS n) + 1 ∧
        t.reg (Reg.PAIR_CANARY_CNT n) = s.reg (Reg.PAIR_CANARY_CNT n) +
          (if ((s.pair n).leadGroups - (rest.length + 1)) % s.fld (Reg.PAIR_CANARY n) 15 0 = 0 then 1 else 0) ∧
        (t.core (2 * n + 1)).pc = e.after.pc ∧ (∀ r, t.gpr (2 * n + 1) r = if r = 0 then 0 else SMap.getD 0 r e.after.w) ∧
        t.core (2 * n) = s.core (2 * n) ∧ SameMemory s t) ∧
    ((s.pair n).injMismatch = true →
      ∃ t, exec (.groupCompare n) s = .next t ∧ (t.core (2 * n)).run = .faultStop ∧ (t.core (2 * n + 1)).run = .faultStop ∧
        t.reg (Reg.PAIR_MISMATCH_CNT n) = s.reg (Reg.PAIR_MISMATCH_CNT n) + 1 ∧ t.bit (Reg.PAIR_STAT n) 1 = true ∧ t.fld (Reg.PAIR_STAT n) 6 4 = 1 ∧
        t.reg (Reg.PAIR_FAULT_EPC n) = e.epc ∧ t.reg (Reg.PAIR_LEAD_SIG n) = e.sig ∧ SameMemory s t)

/-- The queue: a step takes the command at its front and runs exec on it with the rest of the queue; on an empty queue the timebase counts one tick
(the model's choice, log row 8).
The model's choices: log row 8. -/
def Obligations.StepRunsFront : Prop :=
  ∀ s : State,
    (∀ c rest, s.pending = c :: rest → step s = exec c { s with pending := rest }) ∧
    (s.pending = [] → ∃ t, step s = .next t ∧ Idles s t ∧ t.pending = [] ∧
      (s.bit Reg.TB_STATUS 0 = true → s.bit Reg.TB_STATUS 1 = false → s.fld Reg.TB_SLEW 25 24 = 0 → t.now = (s.now + 1) % 2 ^ 80) ∧
      (s.bit Reg.TB_STATUS 0 = false ∨ s.bit Reg.TB_STATUS 1 = true → t = s))

/-- Every command, with any operands and in any state, answers a next state: no meaning of this model ends in a fault or a refusal. What each
command does is said by the other statements; this one says that none stops the device. -/
def Obligations.EveryCommandCompletes : Prop := ∀ (i : Instr) (s : State), ∃ t, exec i s = .next t

/-- R304: no step lets a level source that its owner asserts be neither pending nor in service, and none leaves an assertion waiting in the event
unit's queue or at its owner (R324). The model's choices: log rows 14, 39. -/
def Obligations.LevelHeldKept : Prop := ∀ s t : State, LevelHeld s → s.eiu.inq = [] → s.eiu.owed = [] → step s = .next t →
  LevelHeld t ∧ t.eiu.inq = [] ∧ t.eiu.owed = []

/-- The machine after reset: what the register tables give, no core started, no interrupt pending, and the invariants of the model.
The model's choices: log row 11. -/
def Obligations.ResetState : Prop :=
  LevelHeld State.reset ∧ MemoryWf State.reset ∧ State.reset.pending = [] ∧ State.reset.now = 0 ∧ State.reset.eiu.pend = 0 ∧
  (∀ c, c < 8 → (State.reset.core c).run = .notStarted ∧ State.reset.pl c = 3 ∧ State.reset.ie c = false ∧ State.reset.bit (Reg.CS_PACE_CTL c) 1 = false) ∧
  (∀ k, k < 256 → State.reset.reg (Reg.EIU_SRC_CFG k) = 0x1000) ∧
  (∀ a f, f ∈ fieldsAt a → resetSpecial a = none → State.reset.fld a f.hi f.lo = f.reset)

/-- R303, R304, R312, R327, R328: an assertion of a source that a chapter assigns latches PEND, or counts where PEND is 1 already, and one of any
other number does nothing; a software event is source 192 + k; a source's configuration takes the fields of its word, a LEVEL of 0 being a reserved
write, and leaves PEND. The model's choices: log rows 14, 39. -/
def Obligations.EventSources : Prop :=
  ∀ (i : Initiator) (k : Fin 256) (v : Word) (s : State),
    let a := Reg.EIU_SRC_CFG k
    let p := Reg.EIU_PART_CTL (k.val % 16)
    (s.eiu.inq = [] → s.eiu.owed = [] → sourceAssigned k = true →
      ∃ t, exec (.sourceAssert k) s = .next t ∧ AssertedOnce k s t ∧ RegsBut [Reg.EIU_SRC_CNT k] s t ∧ t.cores = s.cores ∧ SameMemory s t) ∧
    (s.eiu.inq = [] → s.eiu.owed = [] → sourceAssigned k = false → ∃ t, exec (.sourceAssert k) s = .next t ∧ Idles s t ∧ ∀ m, m ∉ levelSources → t.pendOf m = true → s.pendOf m = true) ∧
    (∀ e : Fin 64, Reaches Reg.EIU_SWEV_TRIG s → ∃ t, exec (.swevTrig i e) s = .next t ∧ AssertedOnce (192 + e) s t ∧
      Took i [Reg.EIU_SRC_CNT (192 + e)] s t) ∧
    (Reaches a s → ∃ t, exec (.eiuConfigWrite i false k v) s = .next t ∧ Took i (a :: rsvdRegs) s t ∧ t.eiu.insvc = s.eiu.insvc ∧
      (∀ m, s.pendOf m = true → t.pendOf m = true) ∧ t.bit a 0 = bget v 0 ∧ t.fld a 6 4 = fget v 6 4 ∧ t.fld a 11 8 = fget v 11 8 ∧
      t.fld a 23 16 = fget v 23 16 ∧ t.fld a 13 12 = (if fget v 13 12 = 0 then s.fld a 13 12 else fget v 13 12)) ∧
    (Reaches p s → ∃ t, exec (.eiuConfigWrite i true k v) s = .next t ∧ Took i (p :: rsvdRegs) s t ∧ t.eiu.insvc = s.eiu.insvc ∧
      t.bit p 0 = bget v 0 ∧ t.fld p 3 1 = fget v 3 1)

/-- R51, R315, R316, R318, R319, R320, R333, R334: what moves the timebase, and what its movement does.
The model's choices: log rows 8, 42, 43, 44, 45. -/
def Obligations.TimebaseCommands : Prop :=
  ∀ (i : Initiator) (v : Word) (s : State), Calm s →
    let running := s.bit Reg.TB_STATUS 0 = true ∧ s.bit Reg.TB_STATUS 1 = false
    (Reaches Reg.TB_STEP_LO s → s.bit Reg.TB_STATUS 1 = false → (∀ g, g < 8 → (s.rgen g).running = false) →
      ∃ t, exec (.tbStep i v) s = .next t ∧ t.now = (s.now + (s.reg Reg.TB_STEP_HI).toNat * 2 ^ 40 + v.toNat) % 2 ^ 80 ∧ t.bit Reg.TB_STATUS 2 = true ∧
        t.reg Reg.TB_STEP_LO = v ∧ t.resp = ⟨i.ep, .ok, []⟩ ∧
        (∀ c, c < 8 → s.bit (Reg.CS_TMR_CTL c) 0 = true → s.bit (Reg.CS_TMR_CTL c) 1 = false →
          (tmrCmp s c ≤ t.now → t.bit (Reg.CS_TMR_CTL c) 2 = true ∧ t.bit (Reg.CS_TMR_CTL c) 0 = false ∧ t.pendOf (160 + 4 * c) = true) ∧
          (t.now < tmrCmp s c → t.bit (Reg.CS_TMR_CTL c) 2 = s.bit (Reg.CS_TMR_CTL c) 2 ∧ t.bit (Reg.CS_TMR_CTL c) 0 = true))) ∧
    (Reaches Reg.TB_STEP_LO s → s.bit Reg.TB_STATUS 1 = true →
      ∃ t, exec (.tbStep i v) s = .next t ∧ t.now = s.now ∧ t.reg Reg.TB_STEP_LO = v ∧ Took i [Reg.TB_STEP_LO] s t) ∧
    (Reaches Reg.TB_SLEW s → fget v 25 24 < 3 → 1000 ≤ fget v 23 0 →
      ∃ t, exec (.tbSlewWrite i v) s = .next t ∧ Took i (Reg.TB_SLEW :: rsvdRegs) s t ∧ t.fld Reg.TB_SLEW 25 24 = fget v 25 24 ∧
        t.fld Reg.TB_SLEW 23 0 = fget v 23 0 ∧ t.now = s.now ∧ t.tb.slewCnt = 0) ∧
    (running → s.fld Reg.TB_SLEW 25 24 = 1 → s.tb.slewCnt < slewInt s →
      ∃ t, exec .slewTick s = .next t ∧ t.now = (s.now + (slewInt s - s.tb.slewCnt) + 1) % 2 ^ 80 ∧ Idles s t) ∧
    (running → s.fld Reg.TB_SLEW 25 24 = 2 → s.tb.slewCnt < slewInt s →
      ∃ t, exec .slewTick s = .next t ∧ t.now = (s.now + (slewInt s - s.tb.slewCnt) - 1) % 2 ^ 80 ∧ Idles s t) ∧
    (∃ t, exec (.tbNowLoRead i) s = .next t ∧ t.resp = ⟨i.ep, .ok, [⟨s.nowLo, .good⟩]⟩ ∧ t.now = s.now ∧
      regView t i.ep Reg.TB_NOW_HI = s.nowHi ∧ Idles s t) ∧
    (∀ c : Fin 8, running → s.fld Reg.TB_SLEW 25 24 = 0 → s.bit (Reg.CS_TMR_CTL c) 0 = true → s.bit (Reg.CS_TMR_CTL c) 1 = false → fireTick s c < 2 ^ 80 →
      ∃ t, exec (.timerFire c) s = .next t ∧ t.now = max s.now (fireTick s c) ∧ t.bit (Reg.CS_TMR_CTL c) 2 = true ∧ t.bit (Reg.CS_TMR_CTL c) 0 = false ∧
        AssertedOnce (160 + 4 * c) s t ∧ RegsBut [Reg.CS_TMR_CTL c, Reg.EIU_SRC_CNT (160 + 4 * c)] s t ∧ SameMemory s t) ∧
    (∀ c : Fin 8, running → s.fld Reg.TB_SLEW 25 24 = 0 → s.bit (Reg.CS_TMR_CTL c) 0 = true → s.bit (Reg.CS_TMR_CTL c) 1 = true →
      s.fld (Reg.CS_TMR_CTL c) 31 8 ≠ 0 → s.now ≤ tmrCmp s c → fireTick s c = tmrCmp s c → tmrCmp s c + 2 ^ 24 < 2 ^ 80 →
      ∃ t, exec (.timerFire c) s = .next t ∧ t.now = tmrCmp s c ∧ tmrCmp t c = tmrCmp s c + s.fld (Reg.CS_TMR_CTL c) 31 8 ∧
        t.bit (Reg.CS_TMR_CTL c) 2 = true ∧ t.bit (Reg.CS_TMR_CTL c) 0 = true ∧ AssertedOnce (160 + 4 * c) s t ∧ SameMemory s t) ∧
    (s.boot.inReset = false → s.pwr.halted = false → ∀ closed : BitVec 16,
      (¬ running → ∃ t, exec (.tbPulse closed) s = .next t ∧ t.reg Reg.TB_PULSE_CNT = s.reg Reg.TB_PULSE_CNT + 1 ∧ t.now = s.now) ∧
      (running → s.fld Reg.TB_SLEW 25 24 = 0 → s.fld Reg.TB_TICK_FS 23 0 ≠ 0 → s.now + 2 ^ 30 < 2 ^ 80 →
        ∃ t, exec (.tbPulse closed) s = .next t ∧ t.reg Reg.TB_PULSE_CNT = s.reg Reg.TB_PULSE_CNT + 1 ∧ s.now ≤ t.now ∧
          t.tb.acc + 1000000000 = s.tb.acc + (t.now - s.now) * s.fld Reg.TB_TICK_FS 23 0 ∧
          (t.now = s.now ∨ s.tb.acc + (t.now - s.now - 1) * s.fld Reg.TB_TICK_FS 23 0 < 1000000000))) ∧
    (s.boot.inReset = false → s.pwr.halted = false → s.bit Reg.TB_STATUS 0 = false → s.bit Reg.TB_STATUS 1 = false → s.tb.unlocked = false →
      ∃ t, exec .tbPllLock s = .next t ∧ t.bit Reg.TB_STATUS 0 = true ∧ t.tb.acc = 0 ∧ t.now = s.now ∧ SameMemory s t) ∧
    (s.bit Reg.TB_STATUS 0 = true → s.bit Reg.TB_STATUS 1 = false → s.tb.unlocked = false →
      ∃ t, exec .tbPllUnlock s = .next t ∧ t.bit Reg.TB_STATUS 0 = false ∧ t.bit Reg.TB_STATUS 1 = false ∧ AssertedOnce 128 s t ∧ t.now = s.now ∧
        (s.errlog.await = [] → t.errlog.await.map (fun r => (r.blk, r.kind)) = [(.tb, 2)])) ∧
    (s.boot.inReset = false → s.pwr.halted = false → s.bit Reg.TB_STATUS 0 = false → s.tb.everLocked = false → s.bit Reg.TB_STATUS 1 = false → s.tb.unlocked = false →
      ∃ t, exec .tbPllLockTimeout s = .next t ∧ t.bit Reg.TB_STATUS 1 = true ∧ AssertedOnce 128 s t ∧ t.now = s.now) ∧
    (s.boot.inReset = false → s.pwr.halted = false → s.bit Reg.TB_STATUS 1 = false →
      ∃ t, exec (.clockLost false) s = .next t ∧ t.bit Reg.TB_STATUS 1 = true ∧ AssertedOnce 128 s t ∧ t.now = s.now)

/-- R321-R323: a generator starts at the next tick, or at the next tick that meets its anchor; it marks S + floor(k NUM / DEN); it stops at once; its rate is
checked, and a rate written while it runs is in force from the next boundary.
The model's choices: log rows 8, 41. -/
def Obligations.RateGenerators : Prop :=
  ∀ (i : Initiator) (g : Fin 8) (v : Word) (s : State), Reaches (Reg.TB_RGEN_CTL g) s →
    let c := Reg.TB_RGEN_CTL g
    let quiet := ∀ n, n < 8 → (s.aud n).started = false ∧ s.bit (Reg.AUD_CTL n) 0 = false
    (s.bit c 0 = false → ∃ t, exec (.rgenEnable i g v) s = .next t ∧ Took i (c :: rsvdRegs) s t ∧ t.bit c 0 = true ∧ t.fld c 39 8 = fget v 39 8 ∧
      (t.rgen g).running = true ∧ (t.rgen g).k = 0 ∧ (t.rgen g).num = s.fld (Reg.TB_RGEN_NUM g) 31 0 ∧ (t.rgen g).den = s.fld (Reg.TB_RGEN_DEN g) 19 0 ∧
      (bget v 1 = false → (t.rgen g).start = s.now + 1) ∧
      (bget v 1 = true → s.now < (t.rgen g).start ∧ (t.rgen g).start ≤ s.now + 2 ^ 32 ∧ (t.rgen g).start % 2 ^ 32 = fget v 39 8)) ∧
    (quiet → ∃ t, exec (.rgenDisable i g v) s = .next t ∧ Took i (c :: rsvdRegs) s t ∧ t.bit c 0 = false ∧ (t.rgen g).running = false) ∧
    (let x := fget v 31 0
     ∃ t, exec (.rgenRateWrite i g false v) s = .next t ∧ Took i (Reg.TB_RGEN_NUM g :: rsvdRegs) s t ∧
      (x = 0 ∨ x < s.fld (Reg.TB_RGEN_DEN g) 19 0 → t.reg (Reg.TB_RGEN_NUM g) = s.reg (Reg.TB_RGEN_NUM g) ∧ t.rgen g = s.rgen g ∧
        t.reg Reg.SYS_RSVD_DATA = v ∧ t.reg Reg.SYS_RSVD_CNT = s.reg Reg.SYS_RSVD_CNT + 1) ∧
      (x ≠ 0 → s.fld (Reg.TB_RGEN_DEN g) 19 0 ≤ x → t.fld (Reg.TB_RGEN_NUM g) 31 0 = x ∧ ((s.rgen g).running = true → (t.rgen g).newRate = true))) ∧
    (let x := fget v 19 0
     ∃ t, exec (.rgenRateWrite i g true v) s = .next t ∧ Took i (Reg.TB_RGEN_DEN g :: rsvdRegs) s t ∧
      (x = 0 ∨ s.fld (Reg.TB_RGEN_NUM g) 31 0 < x → t.reg (Reg.TB_RGEN_DEN g) = s.reg (Reg.TB_RGEN_DEN g) ∧ t.rgen g = s.rgen g) ∧
      (x ≠ 0 → x ≤ s.fld (Reg.TB_RGEN_NUM g) 31 0 → t.fld (Reg.TB_RGEN_DEN g) 19 0 = x)) ∧
    (quiet → s.bit Reg.TB_STATUS 0 = true → s.bit Reg.TB_STATUS 1 = false → s.fld Reg.TB_SLEW 25 24 = 0 → (s.rgen g).running = true →
      s.now ≤ nextBoundary (s.rgen g) → nextBoundary (s.rgen g) < 2 ^ 80 →
      ∃ t, exec (.rateBoundary g) s = .next t ∧ t.now = nextBoundary (s.rgen g) ∧
        nextBoundary (s.rgen g) = (s.rgen g).start + (s.rgen g).k * (s.rgen g).num / (s.rgen g).den ∧
        t.reg (Reg.TB_RGEN_COUNT g) = s.reg (Reg.TB_RGEN_COUNT g) + 1 ∧ t.reg (Reg.TB_RGEN_EDGE g) = BitVec.ofNat 40 t.now ∧
        ((s.rgen g).newRate = false → (t.rgen g).k = (s.rgen g).k + 1) ∧
        ((s.rgen g).newRate = true → (t.rgen g).start = t.now ∧ (t.rgen g).k = 1 ∧ (t.rgen g).num = s.fld (Reg.TB_RGEN_NUM g) 31 0) ∧
        RegsBut [Reg.TB_RGEN_COUNT g, Reg.TB_RGEN_EDGE g] s t ∧ SameMemory s t)

/-- R619, R620, R622, R644, R660, R719: the reset pin, the release of a halted device and a host reset hold or start the timeline; no timeline keeps a command,
a core or an event from before, and each shows its straps.
The model's choices: log rows 11, 12, 46, 47, 48. -/
def Obligations.StartUp : Prop :=
  ∀ (x : Straps) (s : State), Calm s →
    let starts := fun (t : State) => t.pending = s.pending ∧ (∀ c, c < 8 → (t.core c).run = .notStarted) ∧ t.boot.inReset = false ∧ t.pwr.halted = false ∧
      t.fld Reg.BSQ_STRAPS 4 3 = x.bootSel.toNat ∧ t.bit Reg.BSQ_STRAPS 2 = x.leader ∧ t.fld Reg.BSQ_STRAPS 1 0 = x.id.toNat ∧ t.now = 0 ∧
      t.close = [] ∧ t.keep = s.keep ∧ t.boot.fuses = s.boot.fuses
    (∃ t, exec (.powerOn x) s = .next t ∧ starts t) ∧
    (s.pwr.halted = false → ∃ t, exec (.resetNRise x) s = .next t ∧ starts t) ∧
    (s.pwr.halted = true → ∃ t, exec (.resetNRise x) s = .next t ∧ t.boot.inReset = false ∧ t.pwr.halted = true ∧ Idles s t) ∧
    (∃ t, exec .resetNLow s = .next t ∧ t.boot.inReset = true ∧ (∀ c, c < 8 → (t.core c).run = .notStarted) ∧ t.pwr.halted = s.pwr.halted ∧ t.now = 0 ∧
      t.pending = s.pending ∧ t.eiu.pend = levelPend t ∧ t.keep = s.keep) ∧
    (s.pwr.halted = true → 1000000 ≤ s.pwr.recov → s.boot.inReset = false → ∃ t, exec (.haltRelease x) s = .next t ∧ starts t) ∧
    (∀ p, s.boot.hostReset = some p → p + 11 ≤ s.tb.pulses → ∃ t, exec (.hostReset x) s = .next t ∧ starts t)

/-- R179, R182, R274, R276, R279, R283, R284, R287: a request for a line that no agent holds is answered by its home: RD_S grants it exclusively, RD_X and UPG
grant ownership, RD_U reads, WR_U and ATOM_U act on the stored words, RD_T gives the word's epoch, PROMOTE compares it, and cache maintenance completes.
The model's choices: log rows 36, 37. -/
def Obligations.CoherenceRequests : Prop :=
  ∀ (a : Fin 12) (l : BitVec 30) (s : State), FreeLine s a l.toNat →
    let n := homeOf s l.toNat
    let g := s.fld (Reg.HS_EPOCH n) 7 0
    let old := stageLine s l.toNat
    let sent : Nat → Line → State → Prop := fun code data t => Sent s.net 1 code a n l.toNat data t
    let granted : State → Prop := fun t => entryOf t n l.toNat = some (.b, [a.val, 15, 15, 15], false, (g + 1) % 256) ∧
      t.fld (Reg.HS_EPOCH n) 7 0 = (g + 1) % 256 ∧ hasOut t a l.toNat = true ∧ t.stage = s.stage ∧ t.cores = s.cores
    let done : State → Prop := fun t => dirWay t n l.toNat = none ∧ (t.slice n).trk = []
    ((mayHold s a false = true → ∃ t, exec (.rdS a l) s = .next t ∧ sent 1 old t ∧ ((∀ c, c < 8 → c ≠ a.val → (s.core c).resv ≠ some l.toNat) → granted t)) ∧
     (mayHold s a true = true → ∃ t, exec (.rdX a l) s = .next t ∧ sent 2 old t ∧ ((∀ c, c < 8 → c ≠ a.val → (s.core c).resv ≠ some l.toNat) → granted t)) ∧
     (mayHold s a true = true → ∃ t, exec (.upg a l) s = .next t ∧ sent 2 old t ∧ ((∀ c, c < 8 → c ≠ a.val → (s.core c).resv ≠ some l.toNat) → granted t))) ∧
    (∃ t, exec (.rdU a l) s = .next t ∧ sent 4 old t ∧ done t ∧ t.fld (Reg.HS_EPOCH n) 7 0 = g ∧ t.stage = s.stage ∧ t.cores = s.cores) ∧
    (∀ (mask : BitVec 80) (data : List Word), ∃ t, exec (.wrU a l mask data) s = .next t ∧ sent 8 [] t ∧ done t ∧
      t.fld (Reg.HS_EPOCH n) 7 0 = (g + 1) % 256 ∧ stageLine t l.toNat = mergeLine mask.toNat old (toLine data) ∧
      ∀ k, k < stageIndex s (l.toNat * 16) ∨ stageIndex s (l.toNat * 16) + 16 ≤ k → memRead t.stage k = memRead s.stage k) ∧
    (∀ (idx : Fin 16) (op : AtOp) (operand cmp : Word), (old.getD idx MWord.zero).mark = .good →
      ∃ t, exec (.atomU a l idx op operand cmp) s = .next t ∧ sent 8 [old.getD idx MWord.zero] t ∧ done t ∧ t.fld (Reg.HS_EPOCH n) 7 0 = (g + 1) % 256 ∧
        (hasPoison old = false → stageLine t l.toNat = old.set idx ⟨atomResult op (old.getD idx MWord.zero).v operand cmp, .good⟩)) ∧
    (∀ c : Fin 8, a.val = c.val →
      ((s.core c).cloak.length < 32 → (∀ e ∈ (s.core c).cloak, e.line ≠ l.toNat) → SMap.find l.toNat (s.agent c).lines = none →
        s.bit (Reg.CS_PACE_CTL c) 1 = false →
        ∀ (fetch : Bool) (pc : Word), ∃ t, exec (.rdT c ⟨l, fetch, pc⟩) s = .next t ∧ sent 3 old t ∧ t.net.getLast?.map (·.epoch) = some g ∧ done t ∧ t.fld (Reg.HS_EPOCH n) 7 0 = g ∧
          (t.core c).cloak = (s.core c).cloak ++ [⟨l.toNat, none, 0, 0, .ok, fetch, false, [pc]⟩]) ∧
      (∀ epoch : BitVec 8,
        (epoch.toNat ≠ g → ∃ t, exec (.promote c l epoch) s = .next t ∧ sent 10 [] t ∧ done t ∧ t.fld (Reg.HS_EPOCH n) 7 0 = g) ∧
        (epoch.toNat = g → ∃ t, exec (.promote c l epoch) s = .next t ∧ sent 9 [] t ∧ t.fld (Reg.HS_EPOCH n) 7 0 = g ∧
          entryOf t n l.toNat = some (.s, [c.val, 15, 15, 15], false, g))) ∧
      (∃ t, exec (.cmoClean c l) s = .next t ∧ sent 8 [] t ∧ done t ∧ t.fld (Reg.HS_EPOCH n) 7 0 = g ∧ t.stage = s.stage) ∧
      (∃ t, exec (.cmoClinv c l) s = .next t ∧ sent 8 [] t ∧ done t ∧ t.fld (Reg.HS_EPOCH n) 7 0 = g ∧ t.stage = s.stage) ∧
      (∃ t, exec (.cmoInv c l) s = .next t ∧ sent 8 [] t ∧ done t ∧ t.fld (Reg.HS_EPOCH n) 7 0 = (g + 1) % 256 ∧ t.stage = s.stage) ∧
      (∀ e rest, (s.core c).cloak = e :: rest → e.line = l.toNat → e.data ≠ none → e.declined = false → e.status = .ok → e.pulses < 3 → e.epoch % 256 ≠ g →
        ∃ t, exec (.cloakroomPromotion c l) s = .next t ∧ sent 10 [] t ∧ done t))

/-- R275, R281, R283, R284, R294: an agent gives up a line that it alone holds: WB of an O or M copy writes the line at its home, EVICT of an S or E copy does
not; the home completes the request and its entry becomes free, and the agent keeps the copy for snoops until then.
The model's choices: log row 36. -/
def Obligations.LineGivenUp : Prop :=
  ∀ (a : Fin 12) (l : BitVec 30) (c : CLine) (k : Nat) (e : DirEnt) (s : State),
    let n := homeOf s l.toNat
    Linked s (agentEp a) (hsEp n) → HomeReady s n l.toNat → hasOut s a l.toNat = false → SMap.find l.toNat (s.agent a).lines = some c → c.data.length = 16 →
    dirWay s n l.toNat = some k → dirGet s n l.toNat = some e → e.ptrs = [a.val, 15, 15, 15] → e.ovf = false →
    let gone : State → Prop := fun t => Sent s.net 1 8 a n l.toNat [] t ∧ dirWay t n l.toNat = none ∧ SMap.find l.toNat (t.agent a).lines = none ∧
      (t.agent a).wbq = (s.agent a).wbq ++ [⟨l.toNat, c.st, c.data, false, false⟩] ∧ hasOut t a l.toNat = true
    ((c.st = .o ∨ c.st = .m) → (e.st = .x ∨ e.st = .o) → ∃ t, exec (.wb a l) s = .next t ∧ gone t ∧ stageLine t l.toNat = c.data) ∧
    ((c.st = .s ∧ e.st = .s ∨ c.st = .e ∧ e.st = .x) → ∃ t, exec (.evict a l) s = .next t ∧ gone t ∧ t.stage = s.stage)

/-- R284: what each snoop does to an agent's copy, and its answer: ACK (11) or ACK_DATA (12). -/
def Obligations.SnoopAnswers : Prop :=
  ∀ (a : Fin 12) (l : BitVec 30) (m : CMsg) (c : CLine) (s : State), s.flaws = [] → (∀ k, k < 8 → s.bit (Reg.PRB_n_CTL k) 0 = false) →
    routeValid s (agentEp a) (hsEp m.slice) = true → SMap.find l.toNat (s.agent a).lines = some c → c.data.length = 16 →
    let becomes : Option CSt → Bool → State → Prop := fun next data t =>
      SMap.find l.toNat (t.agent a).lines = next.map (fun st => ⟨st, c.data⟩) ∧
      (data = true → Sent (s.net.erase m) 1 12 a m.slice l.toNat c.data t) ∧ (data = false → Sent (s.net.erase m) 1 11 a m.slice l.toNat [] t) ∧
      (∀ x, x ≠ a.val → t.agent x = s.agent x) ∧ t.close = s.close ∧ t.stage = s.stage ∧ t.slices = s.slices
    (inFlight s 2 0 a l.toNat = some m → ∃ t, exec (.snpInv a l) s = .next t ∧ becomes none false t) ∧
    (∀ next data, (c.st, next, data) ∈ [(CSt.m, some CSt.o, true), (.e, some .s, true), (.o, some .o, true), (.s, some .s, false)] →
      inFlight s 2 1 a l.toNat = some m → ∃ t, exec (.snpFwdS a l) s = .next t ∧ becomes next data t) ∧
    (∀ next data, (c.st, next, data) ∈ [(CSt.m, (none : Option CSt), true), (.e, none, true), (.o, none, true)] →
      inFlight s 2 2 a l.toNat = some m → ∃ t, exec (.snpFwdX a l) s = .next t ∧ becomes next data t) ∧
    (∀ next data, (c.st, next, data) ∈ [(CSt.m, some CSt.o, true), (.e, some .e, true), (.o, some .o, true), (.s, some .s, false)] →
      inFlight s 2 3 a l.toNat = some m → ∃ t, exec (.snpGet a l) s = .next t ∧ becomes next data t) ∧
    (∀ next data, (c.st, next, data) ∈ [(CSt.m, some CSt.e, true), (.o, some .s, true), (.e, some .e, false), (.s, some .s, false)] →
      inFlight s 2 4 a l.toNat = some m → ∃ t, exec (.snpClean a l) s = .next t ∧ becomes next data t) ∧
    (∀ next data, (c.st, next, data) ∈ [(CSt.m, (none : Option CSt), true), (.o, none, true), (.e, none, false), (.s, none, false)] →
      inFlight s 2 5 a l.toNat = some m → ∃ t, exec (.snpRecall a l) s = .next t ∧ becomes next data t)

/-- R179-R182, R279, R281, R284, R285: what the answers do at the requester: data is installed and DONE sent, GRANT makes the held copy M, COMP and DATA_U end a
request with their status and data, a tentative read fills or marks its cloakroom entry, a promotion fills the caches or drops the entry, and RETRY raises RC. -/
def Obligations.AnswersAtTheRequester : Prop :=
  ∀ (a : Fin 12) (l : BitVec 30) (m : CMsg) (s : State), s.flaws = [] → (∀ k, k < 8 → s.bit (Reg.PRB_n_CTL k) 0 = false) →
    routeValid s (agentEp a) (hsEp m.slice) = true → awaits s (agentEp a) m.tag m.gen →
    let installs : CSt → State → Prop := fun st t => SMap.find l.toNat (t.agent a).lines = some ⟨st, m.data⟩ ∧
      Sent (s.net.erase m) 1 13 a m.slice l.toNat [] t ∧ hasOut t a l.toNat = false ∧ t.stage = s.stage ∧ t.close = s.close
    let ends : State → Prop := fun t => t.resp = ⟨agentEp a, m.status, m.data⟩ ∧ hasOut t a l.toNat = false ∧ t.net = s.net.erase m ∧
      (t.agent a).lines = (s.agent a).lines ∧ (t.agent a).wbq = (s.agent a).wbq.filter (fun w => w.line != l.toNat) ∧ t.stage = s.stage
    let first := (s.agent a).out.all (fun r => r.line != l.toNat || r.rc == 0) = true
    (first → overfull s a l.toNat = none →
      (inFlight s 1 0 a l.toNat = some m → ∃ t, exec (.dataS a l) s = .next t ∧ installs .s t) ∧
      (inFlight s 1 1 a l.toNat = some m → ∃ t, exec (.dataE a l) s = .next t ∧ installs .e t) ∧
      (inFlight s 1 2 a l.toNat = some m → ∃ t, exec (.dataM a l) s = .next t ∧ installs .m t)) ∧
    (∀ c, first → inFlight s 1 5 a l.toNat = some m → SMap.find l.toNat (s.agent a).lines = some c →
      ∃ t, exec (.cohGrant a l) s = .next t ∧ SMap.find l.toNat (t.agent a).lines = some ⟨.m, c.data⟩ ∧
        Sent (s.net.erase m) 1 13 a m.slice l.toNat [] t ∧ hasOut t a l.toNat = false) ∧
    (first →
      (inFlight s 1 4 a l.toNat = some m → ∃ t, exec (.dataU a l) s = .next t ∧ ends t) ∧
      (inFlight s 1 8 a l.toNat = some m → ∃ t, exec (.cohComp a l) s = .next t ∧ ends t)) ∧
    (∀ r, inFlight s 1 7 a l.toNat = some m → (s.agent a).out = [r] → (s.agent a).retryq = [] → r.line = l.toNat → r.slice = m.slice →
      lineRefused s r = none → (cohPkt s { r with rc := r.rc + 1 }).misformed = false →
      ∃ t, exec (.cohRetry a l) s = .next t ∧ (t.agent a).out = [{ r with rc := r.rc + 1 }]) ∧
    (∀ c : Fin 8, a.val = c.val → first →
      (inFlight s 1 3 c l.toNat = some m → ∃ t, exec (.dataT c l) s = .next t ∧ hasOut t c l.toNat = false ∧ t.net = s.net.erase m ∧
        (t.agent c).lines = (s.agent c).lines ∧ (t.core c).cloak = (s.core c).cloak.map (fun e =>
          if e.line = l.toNat then { e with data := some m.data, epoch := m.epoch, status := m.status, pulses := 0 } else e)) ∧
      (inFlight s 1 6 c l.toNat = some m → ∃ t, exec (.cohDecline c l) s = .next t ∧ hasOut t c l.toNat = false ∧ t.net = s.net.erase m ∧
        (t.core c).cloak = (s.core c).cloak.map (fun e => if e.line = l.toNat then { e with declined := true } else e)) ∧
      (∀ e d rest, inFlight s 1 9 c l.toNat = some m → overfull s c l.toNat = none → (s.core c).cloak = e :: rest → e.line = l.toNat → e.data = some d →
        ∃ t, exec (.promoOk c l) s = .next t ∧ SMap.find l.toNat (t.agent c).lines = some ⟨.s, d⟩ ∧ hasOut t c l.toNat = false ∧
          ∀ x ∈ (t.core c).cloak, x.line ≠ l.toNat) ∧
      (inFlight s 1 10 c l.toNat = some m → ∃ t, exec (.promoFail c l) s = .next t ∧ hasOut t c l.toNat = false ∧ (t.agent c).lines = (s.agent c).lines ∧
        (t.core c).cloak = [] ∧ (t.core c).ttlb = []))

/-- Cases of R278 and R281 at a home with one transaction. ACK and ACK_DATA of one of several awaited agents strike it from those awaited, and
ACK_DATA's line, dirty mark and owner mark are kept. DONE of the requester ends the transaction and leaves the entry in the state that the
transaction named, with its pointers, OVF and epoch. The end of the 18 ns hold changes nothing else where no transaction is held, and leaves none
held where the only one is. The model's choices: log rows 36, 37. -/
def Obligations.HomeAnswers : Prop :=
  (∀ (a : Fin 12) (l : BitVec 30) (m : CMsg) (k : Nat) (x : Trk) (s : State), (s.slice m.slice).trk = [(k, x)] → x.req.line = l.toNat → x.phase = .snoop → x.await.contains a.val = true →
    (x.await.erase a.val).isEmpty = false → awaits s (hsEp m.slice) m.tag m.gen →
    (inFlight s 1 11 a l.toNat = some m → ∃ t, exec (.cohAck a l) s = .next t ∧ t.net = s.net.erase m ∧
      (t.slice m.slice).trk = [(k, { x with await := x.await.erase a.val })]) ∧
    (inFlight s 1 12 a l.toNat = some m → ∃ t, exec (.cohAckData a l) s = .next t ∧ t.net = s.net.erase m ∧
      (t.slice m.slice).trk = [(k, { x with await := x.await.erase a.val, data := some m.data, dirty := x.dirty || m.dirty,
                                            ownerM := x.ownerM || (m.epoch == 1) })])) ∧
  (∀ (a : Fin 12) (l : BitVec 30) (m : CMsg) (k : Nat) (x : Trk) (e : DirEnt) (s : State), (s.slice m.slice).trk = [(k, x)] → x.req.line = l.toNat → x.phase = .awaitDone →
    x.req.agent = a.val → ((s.slice m.slice).waiting = [] ∧ (s.slice m.slice).pslotOrder = []) →
    dirGet s m.slice l.toNat = some e → (holders e).isEmpty = false → inFlight s 1 13 a l.toNat = some m →
    ∃ t, exec (.cohDone a l) s = .next t ∧ t.net = s.net.erase m ∧ (t.slice m.slice).trk = [] ∧
      entryOf t m.slice l.toNat = some (settledState e x.after, e.ptrs, e.ovf, e.epoch)) ∧
  (∀ (n : Fin 4) (s : State),
    ((∀ e ∈ (s.slice n).trk, e.2.phase ≠ .held) → ∃ t, exec (.epochHoldEnd n) s = .next t ∧ t.slice n = { s.slice n with gHold := false } ∧
      (∀ k, k ≠ n.val → t.slice k = s.slice k) ∧ t.net = s.net ∧ RegsBut [] s t ∧ t.cores = s.cores ∧ t.agents = s.agents ∧ t.stage = s.stage ∧ t.close = s.close) ∧
    (∀ (k : Nat) (x : Trk), (s.slice n).trk = [(k, x)] → x.phase = .held → (s.slice n).waiting = [] → (s.slice n).pslotOrder = [] →
      ∃ t, exec (.epochHoldEnd n) s = .next t ∧ ∀ e ∈ (t.slice n).trk, e.2.phase ≠ .held))

/-- Cases of R181, R184, R274 and R289. A cloakroom entry with three pulses is not promoted: the cloakroom and the tentative TLB are emptied and the
caches stay. CLOAK_ENTRY_STALE gives a filled entry three pulses. A split write of up to 8 units before the seal starts the sequence, sets
SPLIT_BUSY at every home and stays unanswered until its end; one of more is a reserved write; one after the seal does nothing. The end of a split of
up to 8 units that does not shrink its slice, whose last-level cache is empty, gives STAGE_UNITS, the whole stage size and zeroed units. A directory
selection shows the entry or, where there is none, an empty one. The model's choices: log rows 38, 88. -/
def Obligations.HomeControl : Prop :=
  (∀ (i : Initiator) (n : Fin 4) (v : Word) (s : State),
    (∀ (c : Fin 8) (l : BitVec 30) (e : Cloak) (rest : List Cloak), (s.core c).cloak = e :: rest → e.line = l.toNat → e.data ≠ none →
      (s.flaws = [] → e.declined = false → e.status = .ok → 3 ≤ e.pulses → ∃ t, exec (.cloakroomPromotion c l) s = .next t ∧ t.net = s.net ∧
        (t.core c).cloak = [] ∧ (t.core c).ttlb = [] ∧ (t.agent c).lines = (s.agent c).lines) ∧
      (∃ t, exec (.cloakEntryStale c l) s = .next t ∧ (t.core c).cloak.head?.map (fun x => (x.line, x.data, x.pulses)) = some (e.line, e.data, 3))) ∧
    (Reaches (Reg.HS_SPLIT n) s →
      (fget v 3 0 ≤ 8 → s.isSealed = false → s.split = none → s.net = [] → Linked s i.ep (hsEp n) → s.fab.blocked = [] →
        ∃ t, exec (.hsSplitWrite i n v) s = .next t ∧ t.split = some (n.val, fget v 3 0) ∧ t.resp = s.resp ∧ t.ports.held.length = 1 ∧
          ∀ k, k < 4 → t.bit (Reg.HS_STATUS k) 0 = true) ∧
      (8 < fget v 3 0 → s.isSealed = false → ∃ t, exec (.hsSplitWrite i n v) s = .next t ∧ Took i rsvdRegs s t ∧ t.reg Reg.SYS_RSVD_DATA = v) ∧
      (s.isSealed = true → ∃ t, exec (.hsSplitWrite i n v) s = .next t ∧ Took i [] s t)) ∧
    (∀ u, Calm s → s.split = some (n.val, u) → u ≤ 8 → (∀ k, k < 4 → (s.slice k).waiting = []) → s.fld (Reg.HS_SPLIT n) 3 0 ≤ u → (s.slice n).llc = [] →
      ∃ t, exec (.stageSplitComplete n) s = .next t ∧ t.split = none ∧ t.fld (Reg.HS_SPLIT n) 3 0 = u ∧
        t.fld Reg.SYS_MAP_STAGE 5 0 = (t.fld (Reg.HS_SPLIT 0) 3 0 + t.fld (Reg.HS_SPLIT 1) 3 0 + t.fld (Reg.HS_SPLIT 2) 3 0 + t.fld (Reg.HS_SPLIT 3) 3 0) % 64 ∧
        (∀ k, k < 4 → t.bit (Reg.HS_STATUS k) 0 = false) ∧
        ∀ (w : Fin 0x8000) (j : Fin 8), 8 - u ≤ j.val → j.val < 8 - s.fld (Reg.HS_SPLIT n) 3 0 → memRead t.stage (n.val * 0x40000 + j.val * 0x8000 + w.val) = MWord.zero) ∧
    (Reaches (Reg.HS_DIR_SEL n) s →
      let k := fget v 13 3 * 8 + fget v 2 0
      let r := [Reg.HS_DIR_SEL n, Reg.HS_DIR_DATA n 0, Reg.HS_DIR_DATA n 1] ++ rsvdRegs
      (SMap.find k (s.slice n).dir = none → ∃ t, exec (.hsDirSelWrite i n v) s = .next t ∧ Took i r s t ∧ t.fld (Reg.HS_DIR_SEL n) 13 0 = fget v 13 0 ∧
        t.reg (Reg.HS_DIR_DATA n 0) = 0xFFFF) ∧
      (∀ e, SMap.find k (s.slice n).dir = some e → ∃ t, exec (.hsDirSelWrite i n v) s = .next t ∧ Took i r s t ∧ t.fld (Reg.HS_DIR_SEL n) 13 0 = fget v 13 0 ∧
        t.fld (Reg.HS_DIR_DATA n 0) 20 18 = (match e.st with | .s => 1 | .x => 2 | .o => 3 | .b => 4) ∧ t.bit (Reg.HS_DIR_DATA n 0) 17 = e.ovf ∧
        t.fld (Reg.HS_DIR_DATA n 0) 39 21 = e.tag % 2 ^ 19 ∧ t.fld (Reg.HS_DIR_DATA n 1) 7 0 = e.epoch % 256)))

/-- R71, R110, R338, R339, R351-R353: a request for words of a core's close memory is served there and answered; the answer completes its tag; a tag that
outlives its limit becomes an orphan of the next generation, and is free again at four times the limit.
The model's choices: log rows 10, 15, 50. -/
def Obligations.FabricRequests : Prop :=
  (∀ (i : Initiator) (k : Fin 8) (o : Fin 0x4000) (q : Fin 17179869184) (s : State), i.ep.val ≠ k.val → Path s i.ep k →
    q.val = 0x40000 + k.val * 0x8000 + o.val →
    let x := k.val * 0x4000 + o.val
    let whole := fun n : Nat => i.ep.val < 8 ∨ o.val % 4096 + n ≤ 4096
    (∀ len : Fin 4097, let n := len.val
      1 ≤ n → n ≤ 16 → whole n → o.val + n ≤ 0x4000 → ∃ t, exec (.ioRd i q len) s = .next t ∧ t.close = s.close ∧ t.cores = s.cores ∧
        Replied s i.ep k (if hasPoison (memReadN s.close x n) then .poison else .ok) (memReadN s.close x n) t) ∧
    (∀ data : List Word, data ≠ [] → data.length ≤ 16 → whole data.length → o.val + data.length ≤ 0x4000 →
      ∃ t, exec (.ioWr i q none data) s = .next t ∧ Replied s i.ep k .ok [] t ∧
        memReadN t.close x data.length = data.map (fun w => ⟨w, .good⟩) ∧
        (∀ j, j < x ∨ x + data.length ≤ j → memRead t.close j = memRead s.close j) ∧ t.stage = s.stage) ∧
    (∀ (op : AtOp) (operand cmp : Word), (memRead s.close x).mark = .good →
      ∃ t, exec (.ioAtom i q op operand cmp) s = .next t ∧ Replied s i.ep k .ok [memRead s.close x] t ∧
        memRead t.close x = ⟨atomResult op (memRead s.close x).v operand cmp, .good⟩ ∧ (∀ j, j ≠ x → memRead t.close j = memRead s.close j))) ∧
  (∀ (y : Fin 32) (tag : Fin 256) (p : Pkt) (s : State), 22 ≤ y.val → Calm s → s.boot.hostWait = none → s.jtag.wait = none → (s.ni y).held = [] →
    (∀ d, domainOf y 0 = some d → domState s d = 0) →
    let found := fun code : Nat => s.fab.inflight.find? (fun p => p.dst == y.val && p.tag == tag.val && p.code == code)
    let ends : State → Prop := fun t => t.resp = ⟨y, p.status, p.data⟩ ∧ freed t y tag p.gen ∧ t.fab.inflight = s.fab.inflight.erase p ∧ Idles s t
    let v := tagOf s y tag
    (found 0 = some p → awaits s y tag p.gen → ∃ t, exec (.ioData y tag) s = .next t ∧ ends t) ∧
    (found 1 = some p → awaits s y tag p.gen → ∃ t, exec (.ioComp y tag) s = .next t ∧ ends t) ∧
    (v.st = .busy → v.issued + v.tmo + 1 ≤ s.tb.pulses → v.coh = false → v.snp = false →
      ∃ t, exec (.fabTimeout y tag) s = .next t ∧ t.resp = ⟨y, .timeout, []⟩ ∧ (tagOf t y tag).st = .orphan ∧ (tagOf t y tag).gen = (v.gen + 1) % 8 ∧
        t.reg (Reg.FAB_NI_TIMEOUTS y) = s.reg (Reg.FAB_NI_TIMEOUTS y) + 1 ∧ t.fld Reg.FAB_ERR_INFO 15 11 = y ∧ t.fld Reg.FAB_ERR_INFO 4 0 = 1 ∧ SameMemory s t) ∧
    (v.st = .orphan → v.issued + 4 * v.tmo + 1 ≤ s.tb.pulses → ∃ t, exec (.tagRetirement y tag) s = .next t ∧ freed t y tag v.gen ∧ Idles s t))

/-- R358, R359, R650-R653, R710: a domain that software shuts closes, drains and is shut; a wake opens it or fails; an idle one is retained; every outcome shows
in RESULT; a request below PL2 is answered PROT.
The model's choices: log rows 30, 83, 89. -/
def Obligations.PowerDomains : Prop :=
  ∀ (i : Initiator) (d : Fin 21) (v : Word) (s : State), Calm s →
    let r := Reg.PWR_DOM d
    let closes : State → Prop := fun t => domState t d = 1 ∧ t.fld r 10 9 = 0
    let empty := ∀ a, a ∈ domAgents d → (s.agent a).lines = []
    (domState s d = 0 → mayShut s d = true → domShed s d = false → empty → ∃ t, exec (.domainClose d) s = .next t ∧ closes t ∧ SameMemory s t) ∧
    (domState s d = 1 → drained s d = true → ∃ t, exec (.domainShut d) s = .next t ∧ domState t d = 2 ∧ t.fld r 6 4 = 1 ∧ t.bit Reg.PWR_STATUS 5 = true) ∧
    (∀ w, SMap.find d.val s.fab.waking = some w → s.fab.wake = [] → s.fab.blocked = [] →
      (domState s d = 2 → domShed s d = false → d.val ≠ 12 → d.val ≠ 13 →
        ∃ t, exec (.domainOpen d) s = .next t ∧ domState t d = 0 ∧ SMap.find d.val t.fab.waking = none ∧ (w.sw = true → t.fld r 6 4 = 1) ∧
          (d.val < 8 → (t.core d).run = .notStarted) ∧ t.close = s.close) ∧
      (w.since + 51 ≤ s.tb.pulses ∨ domShed s d = true → d.val ≠ 12 → d.val ≠ 13 →
        ∃ t, exec (.fabWakeFail d) s = .next t ∧ domState t d = domState s d ∧ SMap.find d.val t.fab.waking = none ∧ (w.sw = true → t.fld r 6 4 = 4) ∧
          t.reg Reg.FAB_WAKE_FAIL_CNT = s.reg Reg.FAB_WAKE_FAIL_CNT + 1 ∧ SameMemory s t)) ∧
    (Reaches r s → initPl i < 2 → (∃ t, exec (.pwrShut i d v) s = .next t ∧ t.resp = ⟨i.ep, .prot, []⟩ ∧ Idles s t) ∧
      (∃ t, exec (.domainWake i d v) s = .next t ∧ t.resp = ⟨i.ep, .prot, []⟩ ∧ Idles s t)) ∧
    (Reaches r s → 2 ≤ initPl i → bget v 1 = false →
      (domState s d = 0 → mayShut s d = true → domShed s d = false → empty →
        ∃ t, exec (.pwrShut i d v) s = .next t ∧ t.resp = ⟨i.ep, .ok, []⟩ ∧ closes t ∧ t.bit r 3 = bget v 3 ∧ SameMemory s t) ∧
      (domState s d ≠ 0 ∨ mayShut s d = false ∨ domShed s d = true →
        ∃ t, exec (.pwrShut i d v) s = .next t ∧ t.resp = ⟨i.ep, .ok, []⟩ ∧ domState t d = domState s d ∧ t.fld r 6 4 = 3 ∧ t.bit Reg.PWR_STATUS 5 = true ∧
          SameMemory s t)) ∧
    (Reaches r s → 2 ≤ initPl i → bget v 0 = false → domState s d = 2 → SMap.find d.val s.fab.waking = none →
      ∃ t, exec (.domainWake i d v) s = .next t ∧ Took i [r] s t ∧ t.bit r 3 = bget v 3 ∧ SMap.find d.val t.fab.waking = some ⟨s.tb.pulses, true⟩) ∧
    (domState s d = 0 → domIdle s d = true → mayRetain s d = true → s.bit r 3 = false → domShed s d = false → s.fld r 10 9 ≠ 2 → d.val ≠ 12 → d.val ≠ 13 →
      ∃ t, exec (.retainEntry d) s = .next t ∧ t.fld r 10 9 = 2 ∧ domState t d = 0 ∧ RegsBut [r] s t ∧ t.cores = s.cores ∧ SameMemory s t)

/-- R654, R656, R659: the lowest reading of a sample is shown and the least of them kept; the second of two samples below 780 mV enters stage 1, which is counted
and recorded; a write of PWR_VMIN starts the minimum anew.
The model's choices: log row 49. -/
def Obligations.SupplyAndShedding : Prop :=
  ∀ (i : Initiator) (v : Word) (ns : Fin 151) (r0 r1 r2 r3 : Fin 410) (p : Nat) (s : State), Calm s → s.pwr.halted = false → s.pwr.last = some p →
    let low := 5 * min (min r0.val r1.val) (min r2.val r3.val)
    (s.fld Reg.PWR_STATUS 2 0 = 0 → 780 ≤ low ∨ 780 ≤ p →
      ∃ t, exec (.supplySample ns r0 r1 r2 r3) s = .next t ∧ t.fld Reg.PWR_VMON 10 0 = low ∧
        t.fld Reg.PWR_VMIN 10 0 = min low (s.fld Reg.PWR_VMIN 10 0) ∧ t.fld Reg.PWR_STATUS 2 0 = 0 ∧ RegsBut [Reg.PWR_VMON, Reg.PWR_VMIN] s t ∧
        t.cores = s.cores ∧ SameMemory s t) ∧
    (s.fld Reg.PWR_STATUS 2 0 = 0 → low < 780 → p < 780 → (760 ≤ low ∨ 760 ≤ p) →
      ∃ t, exec (.supplySample ns r0 r1 r2 r3) s = .next t ∧ t.fld Reg.PWR_STATUS 2 0 = 1 ∧ t.bit Reg.PWR_STATUS 3 = true ∧ t.fld Reg.PWR_VMON 10 0 = low ∧
        t.reg (Reg.PWR_STAGE_CNT 0) = s.reg (Reg.PWR_STAGE_CNT 0) + 1 ∧ t.reg Reg.PWR_LAST_TICK = s.nowLo ∧ t.cores = s.cores ∧ SameMemory s t) ∧
    (Reaches Reg.PWR_VMIN s → ∃ t, exec (.pwrVminWrite i v) s = .next t ∧ Took i [Reg.PWR_VMIN] s t ∧ t.reg Reg.PWR_VMIN = s.reg Reg.PWR_VMON)

/-- R343, R362, R365, R366, R634: four trace records leave as one line of stage memory, and the write pointer advances, wraps or ends the trace; a route entry takes a
well-formed word before the seal, no other word, and none after it.
The model's choices: log row 40. -/
def Obligations.TraceAndRoutes : Prop :=
  ∀ (i : Initiator) (v : Word) (s : State), Calm s →
    (let w := s.fld Reg.PRB_TRACE_WPTR 15 0
     let l := s.fld Reg.PRB_TRACE_BASE 33 4 + w
     let size := s.fld Reg.PRB_TRACE_SIZE 15 0
     ∀ recs rest, s.fab.trace = recs ++ rest → recs.length = 4 → s.bit Reg.PRB_STATUS 0 = false → FreeLine s 11 l → s.net = [] →
      ∃ t, exec .traceWrite s = .next t ∧ t.fab.trace = rest ∧
        stageLine t l = (recs.map (fun r => [r.w0, r.w1, r.w2, r.w3])).flatten.map (fun x => ⟨x, .good⟩) ∧
        (w + 1 < size → t.fld Reg.PRB_TRACE_WPTR 15 0 = w + 1 ∧ t.bit Reg.PRB_STATUS 0 = false) ∧
        (size ≤ w + 1 → s.bit Reg.PRB_CTL 1 = true → t.fld Reg.PRB_TRACE_WPTR 15 0 = 0 ∧ t.bit Reg.PRB_STATUS 0 = false) ∧
        (size ≤ w + 1 → s.bit Reg.PRB_CTL 1 = false → t.bit Reg.PRB_STATUS 0 = true)) ∧
    (let n := s.fld Reg.FAB_RT_SEL 9 5
     let d := s.fld Reg.FAB_RT_SEL 4 0
     Reaches Reg.FAB_RT_DATA s →
      (s.isSealed = true ∨ endpointExists n = false → ∃ t, exec (.fabRtDataWrite i v) s = .next t ∧ Took i [] s t) ∧
      (s.isSealed = false → endpointExists n = true → fget v 14 12 ≠ 7 →
        (bget v 15 = false ∨ wellFormedRoute n d (fget v 14 12) (fget v 11 0) = true) →
        ∃ t, exec (.fabRtDataWrite i v) s = .next t ∧ Took i [routeKey n d] s t ∧ t.reg (routeKey n d) = v &&& 0xFFFF) ∧
      (s.isSealed = false → endpointExists n = true → fget v 14 12 = 7 →
        ∃ t, exec (.fabRtDataWrite i v) s = .next t ∧ Took i rsvdRegs s t ∧ t.reg Reg.SYS_RSVD_DATA = v))

/-- R372, R376, R391-R396, R398, R408-R412: how a Cuff port starts, trains, retrains and goes down.
The model's choices: log rows 66, 69. -/
def Obligations.CuffBringUp : Prop :=
  ∀ (i : Initiator) (n : Fin 2) (v : Word) (s : State), Calm s →
    let st := s.fld (Reg.CUF_STATUS n) 2 0
    let p := s.cufP n
    (Reaches (Reg.CUF_CTL n) s → cufStopped s = false → bget v 1 = false →
      (s.bit (Reg.CUF_CTL n) 0 = false → bget v 0 = true → ∃ t, exec (.cufEnWrite i n v) s = .next t ∧ t.bit (Reg.CUF_CTL n) 0 = true ∧
        t.fld (Reg.CUF_STATUS n) 2 0 = 1 ∧ (t.cufP n).pll = false ∧ (t.cufP n).since = s.tb.pulses) ∧
      (s.bit (Reg.CUF_CTL n) 0 = true → bget v 0 = false → 1 ≤ st → st ≤ 3 → ∃ t, exec (.cufEnWrite i n v) s = .next t ∧ t.bit (Reg.CUF_CTL n) 0 = false ∧
        GoesDown n 15 s t)) ∧
    (Reaches (Reg.CUF_CTL n) s → s.bit (Reg.CUF_CTL n) 0 = true → bget v 0 = true → st = 2 → ∃ t, exec (.cufRetrainWrite i n v) s = .next t ∧ Retrains n 6 s t) ∧
    (st = 1 → p.pll = false → cufStopped s = false → ∃ t, exec (.cuffTrainingStart n) s = .next t ∧ (t.cufP n).pll = true ∧ (t.cufP n).since = s.tb.pulses ∧ Idles s t) ∧
    (∀ (p0 p1 p2 p3 : Fin 4) (inv : BitVec 4), st = 1 → p.pll = true → ∃ t, exec (.blockLock n p0 p1 p2 p3 inv) s = .next t ∧
      (∀ l, l < 4 → t.bit (Reg.CUF_LANE_STAT n l) 0 = true ∧ t.bit (Reg.CUF_LANE_STAT n l) 4 = inv.getLsbD l ∧
        t.fld (Reg.CUF_LANE_STAT n l) 3 2 = [p0.val, p1.val, p2.val, p3.val].getD l 0) ∧ RegsBut ((List.range 4).map (fun l => Reg.CUF_LANE_STAT n l)) s t) ∧
    (st = 1 → p.pll = true → (∀ l, l < 4 → s.bit (Reg.CUF_LANE_STAT n l) 0 = true) → ∀ port : Bool, ∃ t, exec (.ts2 ⟨n, port⟩) s = .next t ∧
      (t.cufP n).gotTs2 = true ∧ (t.cufP n).partner = some (b2n port) ∧
      (∀ l, l < 4 → t.bit (Reg.CUF_LANE_STAT n l) 1 = true) ∧ t.bit (Reg.CUF_STATUS n) 3 = false) ∧
    (st = 1 → p.pll = true → p.gotTs2 = true → ∃ t, exec (.advDue n) s = .next t ∧ (t.cufP n).lastSent.map (fun x => (x.pkt.type, x.pkt.vc)) = some (9, 8) ∧
      t.reg (Reg.CUF_UNSEQ_CNT n) = s.reg (Reg.CUF_UNSEQ_CNT n) + 1) ∧
    (∀ x : CufRx, Arrives s n x 9 0 → st = 1 → (rxPkt x).field / 2 ^ 23 % 2 = 1 → ∃ t, exec (.cufAdv n x) s = .next t ∧ t.fld (Reg.CUF_STATUS n) 2 0 = 2 ∧
      (t.cufP n).nextRx = 0 ∧ t.fld (Reg.CUF_VCCFG n) 10 8 = min (vcCount ((rxPkt x).field / 2 ^ 27 % 8)) (p.cfg.getD 0 1)) ∧
    (st = 1 → p.pll = true → p.since + 1000 ≤ s.tb.pulses → ∃ t, exec (.trainTimeout n) s = .next t ∧ t.fld (Reg.CUF_STATUS n) 2 0 = 1 ∧
      t.reg (Reg.CUF_TRAIN_FAIL_CNT n) = s.reg (Reg.CUF_TRAIN_FAIL_CNT n) + 1 ∧ (t.cufP n).since = s.tb.pulses ∧
      ∀ l, l < 4 → t.fld (Reg.CUF_LANE_STAT n l) 1 0 = 0) ∧
    (∀ lane : Fin 4, st = 2 → ∃ t, exec (.lockLost n lane) s = .next t ∧ Retrains n 3 s t ∧ t.fld (Reg.CUF_LANE_STAT n lane) 1 0 = 0) ∧
    (∀ s0 s1 s2 s3 : BitVec 6, st = 2 ∨ st = 3 → ∃ t, exec (.cufAlign n s0 s1 s2 s3) s = .next t ∧ t.reg (Reg.CUF_LANE_SKEW n 0) = s0.setWidth 40 ∧
      t.reg (Reg.CUF_LANE_SKEW n 1) = s1.setWidth 40 ∧ t.reg (Reg.CUF_LANE_SKEW n 2) = s2.setWidth 40 ∧ t.reg (Reg.CUF_LANE_SKEW n 3) = s3.setWidth 40 ∧
      RegsBut ((List.range 4).map (fun l => Reg.CUF_LANE_SKEW n l) ++ (List.range 4).map (fun l => Reg.CUF_LANE_BLOCKS n l)) s t ∧ SameMemory s t) ∧
    (st = 2 → p.lastGood + 50 ≤ s.tb.pulses → ∃ t, exec (.cufSilence n) s = .next t ∧ Retrains n 4 s t) ∧
    (st = 3 → p.since + 30 ≤ s.tb.pulses → ∃ t, exec (.retrainTimeout n) s = .next t ∧ GoesDown n (s.fld (Reg.CUF_ERR_INFO n) 11 8) s t) ∧
    (∀ (vc : Fin 9) (w : Nat), st = 2 → SMap.find vc.val p.watch = some w → w + 1001 ≤ s.tb.pulses →
      ∃ t, exec (.creditShrink n vc) s = .next t ∧ Retrains n 1 s t) ∧
    (∀ (tag : Fin 256) (e : CufOut) (w : Nat), SMap.find tag.val p.outTags = some e → e.since = some w → w + 10000 ≤ s.tb.pulses → st = 2 →
      ∃ t, exec (.partnerSilent n tag) s = .next t ∧ GoesDown n 14 s t ∧ t.reg (Reg.CUF_VIOL_CNT n 14) = s.reg (Reg.CUF_VIOL_CNT n 14) + 1) ∧
    (st = 4 → s.bit (Reg.CUF_CTL n) 0 = true → cufStopped s = false → p.since + 100 ≤ s.tb.pulses →
      ∃ t, exec (.linkRestart n) s = .next t ∧ t.fld (Reg.CUF_STATUS n) 2 0 = 1 ∧ (t.cufP n).pll = false)

/-- R377-R390, R397, R399, R400, R414, R426, R427, R433: what packets do at a port that is UP: requests reach an exposed quarter of local memory and are
answered, a response answers the local request, a message joins its channel; and what the port itself sends.
The model's choices: log rows 65, 67, 68. -/
def Obligations.CuffPackets : Prop :=
  ∀ (n : Fin 2) (x : CufRx) (s : State),
    let p := rxPkt x
    let c := s.cufP n
    let tag := p.tag8
    (∀ k : Nat, k < 8 → tag < 128 → SMap.find tag c.inTags = none →
      (∀ pa, exposed s p.addr = some pa → 0x40000 + k * 0x8000 ≤ pa → pa + p.words ≤ 0x40000 + k * 0x8000 + 0x4000 → Path s (20 + n) k →
        let y := k * 0x4000 + (pa - 0x40000 - k * 0x8000)
        (Arrives s n x 2 0 → ∃ t, exec (.cufRd n x) s = .next t ∧ Heard n 2 s t ∧ (SMap.find tag (t.cufP n).inTags).any (fun e => e.wait.isSome) = true ∧ t.close = s.close ∧
          Replied s (20 + n) k (if hasPoison (memReadN s.close y p.words) then .poison else .ok) (memReadN s.close y p.words) t) ∧
        (Arrives s n x 3 0 → ∃ t, exec (.cufWr n x) s = .next t ∧ Heard n 3 s t ∧ (SMap.find tag (t.cufP n).inTags).any (fun e => e.wait.isSome) = true ∧ Replied s (20 + n) k .ok [] t ∧
          memReadN t.close y p.words = (p.data.take p.words).map (fun w => ⟨w, .good⟩)) ∧
        (Arrives s n x 4 0 → ∃ t, exec (.cufWrm n x) s = .next t ∧ Heard n 4 s t ∧ (SMap.find tag (t.cufP n).inTags).any (fun e => e.wait.isSome) = true ∧ Replied s (20 + n) k .ok [] t ∧
          memReadN t.close y p.words = mergeLine (((p.data.getD 0 0).toNat + (p.data.getD 1 0).toNat * 2 ^ 40) % 2 ^ (5 * p.words))
            (memReadN s.close y p.words) (((p.data.drop 2).take p.words).map (fun w => ⟨w, .good⟩)))) ∧
      (exposed s p.addr = none → Arrives s n x 2 0 → ∃ t, exec (.cufRd n x) s = .next t ∧ Heard n 2 s t ∧ SMap.find tag (t.cufP n).inTags = none ∧
        (firstOut t n).map (fun q => (q.type, q.field)) = some (5, tag * 2 ^ 34 + 2 * 2 ^ 31) ∧ SameMemory s t)) ∧
    (∀ (e : CufOut) (q : Pkt), Arrives s n x 5 0 → c.outTags = [(p.field / 2 ^ 34, e)] → e.pkt = some q → e.lead = none → e.parts = 1 → e.other = .ok →
      p.field / 2 ^ 31 % 8 = 0 → Linked s q.dst q.src →
      ∃ t, exec (.cufRsp n x) s = .next t ∧ Heard n 5 s t ∧ (t.cufP n).outTags = [] ∧
        Replied s q.src q.dst .ok ((List.range (if p.field / 2 ^ 26 % 2 = 1 then p.field / 2 ^ 27 % 16 + 1 else 0)).map (fun j =>
          ⟨p.data.getD j 0, if Nat.testBit (p.field / 2 ^ 10) j then .poison else .good⟩)) t) ∧
    (Arrives s n x 6 0 → SMap.find (p.field / 2 ^ 34 % 256) c.msgIn = none → p.field / 2 ^ 33 % 2 = 1 → p.field / 2 ^ 32 % 2 = 0 →
      fget (p.data.headD 0) 39 24 = s.fld Reg.CNS_EPOCH 15 0 →
      ∃ t, exec (.cufMsg n x) s = .next t ∧ Heard n 6 s t ∧ SMap.find (p.field / 2 ^ 34 % 256) (t.cufP n).msgIn =
        some ⟨(p.data.take (p.field / 2 ^ 28 % 16 + 1)).drop 1, s.fld Reg.CNS_EPOCH 15 0, false, false⟩ ∧ SameMemory s t) ∧
    (∀ len, Arrives s n x 8 0 → s.boot.imgFor = some (len, n.val) → cuffBoot s = true → SMap.find n.val s.cns.imgLeft = none → s.fld Reg.BSQ_STATUS 9 7 = 2 →
      ∃ t, exec (.cufImage n x) s = .next t ∧ Heard n 8 s t ∧ t.boot.img = (s.boot.img ++ p.data.take (p.field / 2 ^ 26 % 16 + 1)).take len) ∧
    (Arrives s n x 12 0 → s.fld (Reg.CUF_STATUS n) 2 0 = 2 → ∃ t, exec (.cufTime n x) s = .next t ∧ Heard n 12 s t ∧ t.reg (Reg.CUF_TIME_PEER_LO n) = p.data.getD 0 0 ∧
      t.reg (Reg.CUF_TIME_PEER_HI n) = p.data.getD 1 0 ∧ t.reg (Reg.CUF_TIME_RX_LO n) = s.nowLo ∧ t.reg (Reg.CUF_TIME_RX_HI n) = s.nowHi ∧
      (cufJoined s n = true → (firstOut t n).map (fun q => (q.type, fget (q.data.headD 0) 39 36)) = some (7, 1))) ∧
    (Arrives s n x 11 0 → s.fld (Reg.CUF_STATUS n) 2 0 = 2 → ∃ t, exec (.cufBalance n x) s = .next t ∧ Heard n 11 s t ∧
      t.fld (Reg.CUF_SHORT n 8) 15 0 = ((p.data.getD 4 0).toNat % 65536 + 65536 - SMap.getD 0 8 c.gotTotal) % 65536) ∧
    (Arrives s n x 10 0 → s.fld (Reg.CUF_STATUS n) 2 0 = 2 → ∃ t, exec (.cufRetrain n x) s = .next t ∧ Retrains n 7 s t) ∧
    (Arrives s n x 1 0 → ∃ t, exec (.cufNull n (some x)) s = .next t ∧ Heard n 1 s t ∧
      RegsBut (Reg.CUF_RX_PKT_CNT n :: (List.range 4).map (fun l => Reg.CUF_LANE_BLOCKS n l)) s t ∧ SameMemory s t) ∧
    (Arrives s n x 1 2 → sget x.hdr 57 46 = (c.txNext + 4095) % 4096 → ∃ t, exec (.cufNak n x) s = .next t ∧ Heard n 1 s t ∧
      t.reg (Reg.CUF_NAK_RX_CNT n) = s.reg (Reg.CUF_NAK_RX_CNT n) + 1 ∧ t.reg (Reg.CUF_REPLAY_CNT n) = s.reg (Reg.CUF_REPLAY_CNT n)) ∧
    (Calm s → s.fld (Reg.CUF_STATUS n) 2 0 = 2 →
      (∃ t, exec (.cufNull n none) s = .next t ∧ (t.cufP n).lastSent.map (fun q => q.pkt.type) = some 1 ∧
        t.reg (Reg.CUF_TX_PKT_CNT n) = s.reg (Reg.CUF_TX_PKT_CNT n) + 1 ∧ t.reg (Reg.CUF_UNSEQ_CNT n) = s.reg (Reg.CUF_UNSEQ_CNT n) + 1) ∧
      (∃ t, exec (.balanceDue n) s = .next t ∧ (t.cufP n).lastSent.map (fun q => q.pkt.type) = some 11 ∧
        t.reg (Reg.CUF_BALANCE_CNT n) = s.reg (Reg.CUF_BALANCE_CNT n) + 1) ∧
      (∀ q, c.replay = [q] → q.sent < 8 → c.ackSince + s.fld (Reg.CUF_TIMERS n) 5 0 + 1 ≤ s.tb.pulses →
        ∃ t, exec (.replayTimeout n) s = .next t ∧ (t.cufP n).replay = [{ q with sent := q.sent + 1 }] ∧ (t.cufP n).ackSince = s.tb.pulses ∧
          t.reg (Reg.CUF_REPLAY_CNT n) = s.reg (Reg.CUF_REPLAY_CNT n) + 1 ∧ t.reg (Reg.CUF_TX_PKT_CNT n) = s.reg (Reg.CUF_TX_PKT_CNT n) + 1)) ∧
    (Calm s → ∃ t, exec (.cufResync n) s = .next t ∧ t.bit (Reg.CUF_STATUS n) 3 = false ∧
      (∀ l, l < 4 → t.reg (Reg.CUF_LANE_BLOCKS n l) = s.reg (Reg.CUF_LANE_BLOCKS n l) + 1) ∧
      RegsBut (Reg.CUF_STATUS n :: (List.range 4).map (fun l => Reg.CUF_LANE_BLOCKS n l)) s t ∧ SameMemory s t) ∧
    (∀ (i : Initiator) (v : Word), Reaches (Reg.CUF_INJECT n) s →
      (∃ t, exec (.loseCredit i n v) s = .next t ∧ Took i [] s t ∧ (t.cufP n).injCredit = true ∧ (t.cufP n).injCrc = (c.injCrc || bget v 0)) ∧
      (∃ t, exec (.badSlot i n v) s = .next t ∧ Took i [] s t ∧ (t.cufP n).injCredit = (c.injCredit || bget v 2)) ∧
      (∃ t, exec (.badCrc i n v) s = .next t ∧ Took i [] s t ∧ (t.cufP n).injCrc = true))

/-- Cases of R418, R420, R422 and R428-R433. A HELLO shows its words, and between sealed, well-strapped members of distinct IDs it joins the link or
leaves it apart for a different fingerprint. A SYNC that answers the last TIME gives offset and delay. A follower adopts the EPOCH of its leader,
and the leader records LINKS. A leader that booted from flash answers BOOT_REQ with IMAGE_FOR and refuses another's; a follower that asked notes
IMAGE_FOR. TIME is sent with its stamp. 10,000 pulses without a sample set APART. A follower asks for an image upstream. REJOIN_TIME clears APART.
The model's choices: log rows 70, 71, 73, 74. -/
def Obligations.ConsortMessages : Prop :=
  ∀ (n : Fin 2) (x : CufRx) (w0 w1 w2 w3 : Word) (s : State),
    let up := s.fld (Reg.CUF_STATUS n) 2 0 = 2
    (Mgmt s n x 0 w0 w1 w2 w3 → ∃ t, exec (.cnsHello n x) s = .next t ∧ Heard n 7 s t ∧ t.reg (Reg.CNS_RX_HELLO (3 * n)) = w0 ∧
      t.reg (Reg.CNS_RX_HELLO (3 * n + 1)) = w1 ∧ t.reg (Reg.CNS_RX_HELLO (3 * n + 2)) = w2 ∧
      (strapOk s = true → bget w0 4 = true → ¬ (cnsLeader s = true ∧ bget w0 7 = true) → ownId s ≠ fget w0 35 34 → s.isSealed = true →
        farMember s n = some (fget w0 35 34) → bget w0 6 = false →
        (s.fld Reg.CNS_FINGERPRINT 31 0 ≠ fget w2 31 0 → t.bit (Reg.CUF_STATUS n) 5 = true ∧ t.bit (Reg.CUF_STATUS n) 4 = false ∧
          t.reg Reg.CNS_FP_MISMATCH_CNT = s.reg Reg.CNS_FP_MISMATCH_CNT + 1) ∧
        (s.fld Reg.CNS_FINGERPRINT 31 0 = fget w2 31 0 → s.bit Reg.CNS_STATUS 6 = true ∨ bget w0 5 = true →
          t.bit (Reg.CUF_STATUS n) 4 = true ∧ t.bit (Reg.CUF_STATUS n) 5 = false))) ∧
    (Mgmt s n x 1 w0 w1 w2 w3 → servoRuns s = true → upstreamPort s = some n.val → w2 = s.reg (Reg.CUF_TIME_TX_LO n) →
      let a := tick2 s (Reg.CUF_TIME_RX_LO n) (Reg.CUF_TIME_RX_HI n) - tick2 s (Reg.CUF_TIME_PEER_LO n) (Reg.CUF_TIME_PEER_HI n)
      ∃ t, exec (.cnsSync n x) s = .next t ∧ t.reg Reg.CNS_OFFSET = BitVec.ofInt 40 ((a - w1.toInt).tdiv 2) ∧
        t.reg Reg.CNS_DELAY = BitVec.ofInt 40 ((a + w1.toInt).tdiv 2) ∧ t.cns.lastSample = s.tb.pulses) ∧
    (Mgmt s n x 2 w0 w1 w2 w3 → cnsLeader s = false → cufJoined s n = true → ∃ t, exec (.cnsEpoch n x) s = .next t ∧ Heard n 7 s t ∧
      t.fld Reg.CNS_EPOCH 15 0 = fget w0 31 16 ∧ t.fld Reg.CNS_STATUS 12 9 = fget w3 3 0 ∧ (s.fld Reg.CNS_STATUS 12 9 ≠ fget w3 3 0 → t.pendOf 140 = true)) ∧
    (Mgmt s n x 3 w0 w1 w2 w3 → cnsLeader s = true → cufJoined s n = true → ∃ t, exec (.cnsLinks n x) s = .next t ∧ Heard n 7 s t ∧
      SMap.getD 0 (fget w0 35 34) t.cns.links = fget w3 3 0) ∧
    (∀ flash : List Word, Mgmt s n x 4 w0 w1 w2 w3 → cnsLeader s = true → s.isSealed = true →
      (s.fld Reg.BSQ_STATUS 6 5 = 0 → ∃ t, exec (.bootReq n x flash) s = .next t ∧ Heard n 7 s t ∧
        (firstOut t n).map (fun q => (q.type, fget (q.data.headD 0) 39 36, fget (q.data.headD 0) 33 32, q.data.getD 1 0)) =
          some (7, 5, fget w0 35 34, BitVec.ofNat 40 (s.fld Reg.BSQ_IMAGE_LEN 31 0))) ∧
      (s.fld Reg.BSQ_STATUS 6 5 ≠ 0 → ∃ t, exec (.bootReq n x flash) s = .next t ∧ Heard n 7 s t ∧
        t.reg Reg.BSQ_SERVE_REFUSED = s.reg Reg.BSQ_SERVE_REFUSED + 1 ∧ firstOut t n = none)) ∧
    (Mgmt s n x 5 w0 w1 w2 w3 → fget w0 33 32 = ownId s → cuffBoot s = true → s.boot.imgFor = none →
      ∃ t, exec (.imageFor n x) s = .next t ∧ Heard n 7 s t ∧ t.boot.imgFor = some (w1.toNat, n.val)) ∧
    (Calm s → up → cufJoined s n = true → ∃ t, exec (.timeSend n) s = .next t ∧ (t.cufP n).lastSent.map (fun q => (q.pkt.type, q.pkt.data)) = some (12, [s.nowLo, s.nowHi]) ∧
      t.reg (Reg.CUF_TIME_TX_LO n) = s.nowLo ∧ t.reg (Reg.CUF_TIME_TX_HI n) = s.nowHi) ∧
    (Calm s → servoRuns s = true → s.cns.everLocked = true → s.cns.lastSample + 10000 ≤ s.tb.pulses → ∃ t, exec .timeApart s = .next t ∧
      t.bit Reg.CNS_STATUS 5 = true ∧ t.reg Reg.CNS_TIME_APART_CNT = s.reg Reg.CNS_TIME_APART_CNT + 1 ∧ t.pendOf 141 = true ∧ t.fld Reg.TB_SLEW 25 24 = 0) ∧
    (Calm s → cuffBoot s = true → s.boot.imgFor = none → (s.cufP n).outq = [] → (s.cufP n).replay = [] → up →
      ∃ t, exec .bootReqDue s = .next t ∧ (firstOut t n).map (fun q => (q.type, fget (q.data.headD 0) 39 36, fget (q.data.headD 0) 35 34)) = some (7, 4, ownId s) ∧
        t.boot.began = true) ∧
    (∀ (i : Initiator) (v : Word), Reaches Reg.CNS_CTL s → ∃ t, exec (.rejoinTime i v) s = .next t ∧ t.resp = ⟨i.ep, .ok, []⟩ ∧ t.bit Reg.CNS_STATUS 5 = false ∧
      (s.bit Reg.CNS_STATUS 5 = true → t.cns.lastSample = s.tb.pulses ∧ t.cns.everLocked = false ∧ t.cns.lockRun = 0) ∧ SameMemory s t)

/-- R441, R442, R464-R467, R470, R479: what the partition manager's commands and a function's own control do.
The model's choices: log row 58. -/
def Obligations.FunctionsAndRings : Prop :=
  ∀ (i : Initiator) (v : Word) (s : State),
    (Reaches Reg.SEG_CMD s →
      let f := fget v 9 5
      let r := fget v 15 10
      let result : State → Nat := fun t => t.fld Reg.SEG_CMD_RESULT 3 0
      (f < 16 → s.bit (Reg.SEF_ID f) 8 = false → (∀ q, q < 64 → q ∈ maskRings s → ringFn s q = none) →
        ∃ t, exec (.segCreate i v) s = .next t ∧ result t = 0 ∧ fnCreated t f = true ∧ fnMe t f = false ∧ t.fld (Reg.SEF_CFG f) 5 0 = 48 ∧
          (∀ q, q < 64 → ringFn t q = if q ∈ maskRings s then some f else ringFn s q) ∧ (∀ w, w < 8 → t.bit (Reg.SEF_WIN_A f w) 39 = false) ∧ SameMemory s t) ∧
      (f < 16 → s.bit (Reg.SEF_ID f) 8 = true → ∃ t, exec (.segCreate i v) s = .next t ∧ result t = 6 ∧ Took i [Reg.SEG_CMD_RESULT] s t) ∧
      (fnCreated s f = true → fnMe s f = false → (∀ q, q < 64 → ringFn s q = some f → ringState s q = 0) → ringFn s 63 ≠ some f →
        ∃ t, exec (.segDestroy i v) s = .next t ∧ result t = 0 ∧ fnCreated t f = false ∧ fnGen t f ≠ fnGen s f ∧
          (∀ q, q < 64 → ringFn t q = if ringFn s q = some f then none else ringFn s q) ∧ Took i [Reg.SEG_CMD_RESULT, Reg.SEF_ID f] s t) ∧
      (fnCreated s f = true → fnMe s f = true → ∃ t, exec (.segDestroy i v) s = .next t ∧ result t = 5 ∧ Took i [Reg.SEG_CMD_RESULT] s t) ∧
      (fnCreated s f = true → ringQuiesced s r = true → ∃ t, exec (.moveRing i v) s = .next t ∧ result t = 0 ∧ Took i [Reg.SEG_CMD_RESULT] s t ∧
        ∀ q, q < 64 → ringFn t q = if q = r then some f else ringFn s q) ∧
      (fnCreated s f = true → ringQuiesced s r = false → ∃ t, exec (.moveRing i v) s = .next t ∧ result t = 4 ∧ Took i [Reg.SEG_CMD_RESULT] s t ∧ t.seg = s.seg) ∧
      (fnCreated s f = true → ∃ t, exec (.segReset i v) s = .next t ∧ result t = 0 ∧ FunctionIsReset f s t)) ∧
    (∀ f : Fin 16, Reaches (Reg.SEF_CTL f) s → fnCreated s f = true →
      (∃ t, exec (.functionReset i f v) s = .next t ∧ t.resp = ⟨i.ep, .ok, []⟩ ∧ FunctionIsReset f s t) ∧
      (fnMe s f = false → bget v 0 = true → (∀ r, (s.ring r).meAbort = 0) → ∃ t, exec (.masterEnableWrite i f v) s = .next t ∧ fnMe t f = true ∧
        t.bit (Reg.SEF_STATUS f) 0 = false ∧ Took i [Reg.SEF_CTL f, Reg.SEF_STATUS f] s t) ∧
      (fnMe s f = true → bget v 0 = false → (∀ r, (s.ring r).unit = none) → ∃ t, exec (.masterEnableWrite i f v) s = .next t ∧ fnMe t f = false ∧
        (t.bit (Reg.SEF_STATUS f) 0 = true ↔ outstanding s f = 0 ∨ s.bit (Reg.SEF_STATUS f) 0 = true) ∧
        Took i [Reg.SEF_CTL f, Reg.SEF_STATUS f, Reg.SEF_EVT f, Reg.EIU_SRC_CNT (64 + f)] s t)) ∧
    (∀ f : Fin 16, Calm s → fnMe s f = false → outstanding s f = 0 → s.bit (Reg.SEF_STATUS f) 0 = false → ∃ t, exec (.functionQuiesced f) s = .next t ∧
      t.bit (Reg.SEF_STATUS f) 0 = true ∧ t.bit (Reg.SEF_EVT f) 1 = true ∧ RegsBut [Reg.SEF_STATUS f, Reg.SEF_EVT f, Reg.EIU_SRC_CNT (64 + f)] s t ∧ SameMemory s t) ∧
    (Reaches Reg.SEG_CTL s → ∃ t, exec (.freezeWrite i v) s = .next t ∧ t.bit Reg.SEG_CTL 0 = bget v 0 ∧ Took i [Reg.SEG_CTL] s t)

/-- R440, R443, R444, R451, R461-R463: what a ring's registers do when they are written through the window of its function.
The model's choices: log row 58. -/
def Obligations.RingRegisters : Prop :=
  ∀ (i : Initiator) (f : Fin 16) (r : Fin 64) (v : Word) (s : State),
    let st := ringState s r
    let cfg := Reg.SEF_RING_CFG r
    let stat := Reg.SEF_RING_STATUS r
    let slot : Nat := 0x240100 + 0x1000 * f.val + 16 * r.val
    (Reaches slot s → fnCreated s f = true → ringFn s r = some f.val →
      let n := ringN s r
      let ahead := mod16 (fget v 15 0) (ringHead s r)
      (ahead ≤ n → mod16 (fget v 15 0) (ringTail s r) ≤ n - handedOver s r → ¬ (ringKind s r = 9 ∧ fget v 15 0 % 2 = 1) →
        ∃ t, exec (.tailWrite i f r v) s = .next t ∧ ringTail t r = fget v 15 0 ∧ Took i [Reg.SEF_RING_TAIL r] s t) ∧
      (n < ahead → ∃ t, exec (.tailWrite i f r v) s = .next t ∧ t.bit stat 9 = true ∧ ringTail t r = ringTail s r ∧ Took i [stat] s t) ∧
      (ringEn s r = false → fget v 35 32 ≠ 0 → fget v 35 32 ≤ 9 → 4 ≤ fget v 30 27 → fget v 30 27 ≤ 12 →
        (let s' := s.setReg cfg (bset v 39 true)
         bindOk s' r = true → dirOk s' r = true →
          (arrayPa s' r ≠ none → bindBusy s' r = false → ∃ t, exec (.ringEnable i f r v) s = .next t ∧ ringEn t r = true ∧ ringState t r = 1 ∧
            ringKind t r = fget v 35 32 ∧ ringBind t r = fget v 24 16 ∧ ringN t r = 2 ^ fget v 30 27 ∧ (t.ring r).bound = true ∧ Took i [cfg, stat] s t) ∧
          (arrayPa s' r = none → ∃ t, exec (.ringEnable i f r v) s = .next t ∧ ringEn t r = false ∧ t.fld stat 3 0 = 6 ∧ ringState t r = st ∧
            (t.ring r).bound = (s.ring r).bound))) ∧
      (ringEn s r = true → st ≠ 0 → ∃ t, exec (.ringDrain i f r v) s = .next t ∧ ringEn t r = false ∧ ringState t r = 2 ∧ t.seg = s.seg ∧ ringKind t r = ringKind s r ∧
        t.resp = ⟨i.ep, .ok, []⟩ ∧ SameMemory s t) ∧
      (st = 3 → ∃ t, exec (.ringResume i f r v) s = .next t ∧ ringState t r = 1 ∧ t.fld stat 3 0 = 0 ∧ t.reg (Reg.SEF_RING_ERR_IDX r) = 0 ∧ (t.ring r).fetched = [] ∧
        Took i [stat, Reg.SEF_RING_ERR_IDX r] s t) ∧
      (st ≠ 3 → ∃ t, exec (.ringResume i f r v) s = .next t ∧ t.bit stat 8 = true ∧ ringState t r = st ∧ Took i [stat] s t) ∧
      (¬ (ringKind s r = 9 ∧ fget v 15 0 % 2 = 1) → mod16 (ringHead s r + 65535) (fget v 15 0) < n →
        ∃ t, exec (.ringAbort i f r v) s = .next t ∧ t.fld stat 11 10 = 2 ∧ Took i [stat] s t) ∧
      (ringKind s r = 7 → mod16 (fget v 15 0) (ringHead s r) < handedOver s r → handedOver s r ≤ n → n ≤ 16384 → (s.ring r).unit = none →
        ∃ t, exec (.ringAbort i f r v) s = .next t ∧ t.fld stat 11 10 = 1 ∧ ringHead t r = (fget v 15 0 + 1) % 65536 ∧
          t.reg (Reg.SEF_RING_ABORT_CNT r) = s.reg (Reg.SEF_RING_ABORT_CNT r) + BitVec.ofNat 40 (mod16 (fget v 15 0) (ringHead s r) + 1) ∧
          (t.ring r).jobs.map (fun j => (j.count, j.aborted)) = (s.ring r).jobs.map (fun j => (j.count, j.aborted)) ++ [(mod16 (fget v 15 0) (ringHead s r) + 1, true)])) ∧
    (∀ o : Fin 16, Reaches slot s → fnCreated s f = true → ringFn s r ≠ some f.val → ∃ t, exec (.foreignSlotRead i f r o) s = .next t ∧ t.resp.status = .ok ∧
      t.resp.data.map (fun w => w.v) = [0] ∧ t.reg (Reg.SEF_FOREIGN_CNT f) = s.reg (Reg.SEF_FOREIGN_CNT f) + 1 ∧ RegsBut [Reg.SEF_FOREIGN_CNT f] s t ∧ SameMemory s t) ∧
    (Calm s → st = 2 → (s.ring r).unit = none → (s.ring r).jobs = [] → (∀ e, e ∈ s.seg.reqs → e.2.ring ≠ r.val) → ∃ t, exec (.ringOff r) s = .next t ∧
      ringState t r = 0 ∧ (t.ring r).bound = false ∧ RegsBut [stat] s t ∧ SameMemory s t)

/-- R447-R449, R453-R455, R459, R460, R467: how a descriptor is fetched, a unit moves and commits, and its status is written.
The model's choices: log rows 55, 56, 59. -/
def Obligations.StreamUnits : Prop :=
  ∀ (r : Fin 64) (s : State), Calm s →
    let rg := s.ring r
    let f := fnOf s r
    let still := ringIsRx s r = true ∨ (s.bit Reg.SEG_CTL 0 = true ∧ rg.unit = none)
    (∀ base pa : Nat, domState s 14 = 0 → still → ringRuns s r = true →
      let k := rg.fetched.length
      let idx := (ringHead s r + k) % 65536
      let q := readSlot (base + 4 * (idx % ringN s r)) (s.inc (Reg.SEF_REQ_CNT f))
      let s1 := q.2.2
      let w0 := q.2.1.getD 0 0
      let w1 := q.2.1.getD 1 0
      let d : FDesc := ⟨idx, w0, w1, pa, 0⟩
      let rx := ringIsRx s r
      k < handedOver s r → k < fetchLimit s r → k < 16 → ringKind s r ≠ 9 → arrayPa s r = some base → q.1 = .ok →
      descOk s1 r false ⟨idx, w0, w1, 0, 0⟩ (q.2.1.getD 2 0) (q.2.1.getD 3 0) (if framedKind (ringKind s1 r) && !(rg.fetched.any descEof) then rg.fetched.head? else none) = true →
      segRange s1 f (fget w0 33 0) (descWords s1 r (descLen d)) (if rx then 2 else 1) (!rx) rx = some pa →
      ∃ t, exec (.descriptorFetch r) s = .next t ∧ (t.ring r).fetched = rg.fetched ++ [d] ∧ ringHead t r = ringHead s r ∧
        t.reg (Reg.SEF_REQ_CNT f) = s.reg (Reg.SEF_REQ_CNT f) + 1) ∧
    (∀ u : RUnit, s.eth.wire = none → domState s 14 = 0 → ringIsRx s r = true ∨ s.bit Reg.SEG_CTL 0 = true → rg.unit = some u → u.complete = true →
      let n := if ringIsRx s r then u.lens.length else u.n
      ∃ t, exec (.unitCommit r) s = .next t ∧ ringHead t r = (ringHead s r + n) % 65536 ∧ (t.ring r).unit = none ∧ (t.ring r).fetched = rg.fetched.drop n ∧
        ∃ j, (t.ring r).jobs.getLast? = some j ∧ (t.ring r).jobs.dropLast = rg.jobs ∧ (j.func, j.gen, j.count, j.tick, j.aborted) = (f, fnGen s f, n, s.nowLo, false) ∧
          j.int = (rg.fetched.take n).any (fun d => bget d.w0 39) ∧
          (ringKind s r ≠ 9 → j.writes.map (fun w => w.idx) = (rg.fetched.take n).map (fun d => d.idx)) ∧
          (∀ w, w ∈ j.writes → bget w.w2 39 = true ∧ fget w.w2 37 34 = u.status % 16 ∧ w.mask = if ringIsRx s r then 0x3F3 else 0x3E0)) ∧
    (∀ (j : StatJob) (l : List StatJob), rg.jobs = j :: l →
      let s0 := s.setRing r { rg with jobs := l }
      let q := statPuts (arrayPa s0 r) (ringN s0 r) j.writes (s0.addTo (Reg.SEF_REQ_CNT j.func) j.writes.length)
      (j.func < 16 → j.gen = fnGen s j.func → q.1 = none → Calm q.2 →
        ∃ t, exec (.statusWritesDone r) s = .next t ∧ (t.ring r).jobs = l ∧ t.reg (Reg.SEF_RING_DONE_CNT r) = q.2.reg (Reg.SEF_RING_DONE_CNT r) + BitVec.ofNat 40 j.count ∧
          t.reg (Reg.SEF_RING_LAST_TS r) = j.tick ∧ (j.int = true → t.pendOf r = true)) ∧
      (j.func < 16 → j.gen ≠ fnGen s j.func →
        let s2 := if freeNat s0 % 2 = 1 then (statPuts (arrayPa s0 r) (ringN s0 r) j.writes (takeFresh s0)).2 else takeFresh s0
        Calm s2 → ∃ t, exec (.statusWritesDone r) s = .next t ∧ (t.ring r).jobs = (s2.ring r).jobs ∧
          t.reg (Reg.SEF_STALE_CNT j.func) = s2.reg (Reg.SEF_STALE_CNT j.func) + BitVec.ofNat 40 j.writes.length ∧ t.bit (Reg.SEF_EVT j.func) 3 = true ∧
          SameMemory s2 t) ∧
      (16 ≤ j.func → ∃ t, exec (.statusWritesDone r) s = .next t ∧ (t.ring r).jobs = l ∧
        t.reg Reg.SEG_STALE_CNT = s.reg Reg.SEG_STALE_CNT + BitVec.ofNat 40 j.writes.length ∧ RegsBut [Reg.SEG_STALE_CNT] s t ∧ SameMemory s t)) ∧
    (∀ (d : FDesc) (w tk : Word), domState s 14 = 0 → ringKind s r = 7 → ringDir s r = true → ringRuns s r = true → noStart s r = false →
      rg.unit = none → rg.hold = none → rg.dropping = false → rg.fetched = [d] → 1 ≤ descLen d → (s.midIn (ringBind s r % 4)).q = [(w, tk)] →
      let s0 := setUnit r { freshUnit with n := 1, lens := [0], ts := some tk } s
      let q := cohWrite 8 3 d.pa 31 [⟨w, .good⟩] (s0.inc (Reg.SEF_REQ_CNT f))
      let s1 := q.2
      canIssue s0 r d.pa 1 true = true → peerOrClose s0 d.pa = false → q.1 = .ok →
      ∃ t, exec (.rxUnitData r) s = .next t ∧ (s1.midIn (ringBind s r % 4) = s0.midIn (ringBind s r % 4) → (t.midIn (ringBind s r % 4)).q = []) ∧
        ((s1.ring r).unit = (s0.ring r).unit → (t.ring r).unit = some { freshUnit with n := 1, lens := [1], ts := some tk, moved := 1, since := some s1.tb.pulses, complete := 1 == descLen d }) ∧
        t.reg (Reg.SEF_RING_WORD_CNT r) = s1.reg (Reg.SEF_RING_WORD_CNT r) + 1) ∧
    (∀ h, rg.hold = some h → h + s.fld (Reg.SEF_RING_CFG2 r) 9 0 + 1 ≤ s.tb.pulses → framedKind (ringKind s r) = false → ∃ t, exec (.rxHoldTimeout r) s = .next t ∧
      (t.ring r).hold = none ∧ (t.ring r).unit = none ∧ t.reg (Reg.SEF_RING_RX_NOBUF_DROPS r) = s.reg (Reg.SEF_RING_RX_NOBUF_DROPS r) + 1 ∧
      RegsBut [Reg.SEF_RING_RX_NOBUF_DROPS r] s t ∧ SameMemory s t) ∧
    (∀ h, rg.hold = some h → s.tb.pulses ≤ h + s.fld (Reg.SEF_RING_CFG2 r) 9 0 → ∃ t, exec (.rxHoldTimeout r) s = .next t ∧ t.seg = s.seg ∧ Idles s t) ∧
    (∀ (u : RUnit) (h : Nat), rg.unit = some u → u.since = some h → h + 2 ≤ s.tb.pulses → u.wait = none → ringKind s r = 10 →
      ∃ t, exec (.blockTimeout r) s = .next t ∧ ringHead t r = (ringHead s r + (if ringIsRx s r then u.lens.length else u.n)) % 65536 ∧ (t.ring r).unit = none)

/-- Cases of R490-R499, R502-R504, R510, R512, R513 and R752 at a controller that serves, is off, or is being brought up. A fill step zeroes one
line in DRAM, counts it and moves the fill's pointer, and the last of a page ends the fill. A write that waits for a fill joins the write queue when
fills are off. The oldest whole line of the write queue goes to DRAM. A scrub of a line that reads as zeros moves the scrub pointer. A refresh that
is postponed is counted up to eight, and one that is done takes all postponed with it. ZQCS changes no data. A write of EN = 1 needs a geometry,
starts training and forgets the contents; EN = 0 empties the write queue and keeps the contents in self-refresh. Training and resuming end with
their result in the status. The three injections arm what they name. The model's choices: log rows 2, 53, 54. -/
def Obligations.DramController : Prop :=
  ∀ (i : Initiator) (n : Fin 2) (v : Word) (s : State),
    let d := s.dmc n
    let st := Reg.DMC_STATUS n
    (Calm s → dmcSt s n = .serving →
      (∀ k : Fin 4, s.bit (Reg.DMC_FILL n k) 39 = true → s.bit (Reg.DMC_CTL n) 1 = true → d.selfRef = false → d.inject = .none →
        let p := s.fld (Reg.DMC_FILL n k) 11 0
        let l := dramBase / 16 + s.fld (Reg.DMC_FILL n k) 38 22 * 4096 + p
        let la := (dramRoute s (l * 16)).2
        lineOfChannel s n l = true → watOf s n k p = none →
          (p < 4095 → ∃ t, exec (.fillStep n k) s = .next t ∧ t.fld (Reg.DMC_FILL n k) 11 0 = p + 1 ∧ t.reg (Reg.DMC_FILL_LINE_CNT n) = s.reg (Reg.DMC_FILL_LINE_CNT n) + 1 ∧
            RegsBut [Reg.DMC_FILL n k, Reg.DMC_FILL_LINE_CNT n, Reg.DMC_FRESH_LEFT n] s t ∧ t.cores = s.cores ∧ t.close = s.close ∧ t.stage = s.stage ∧
            (∀ j, j < 16 → SMap.find (la + j) (t.dmc n).dram = some ⟨0, .good⟩) ∧
            (∀ a, a < la ∨ la + 16 ≤ a → SMap.find a (t.dmc n).dram = SMap.find a d.dram)) ∧
          (p = 4095 → ∃ t, exec (.fillStep n k) s = .next t ∧ t.reg (Reg.DMC_FILL n k) = 0 ∧ t.reg (Reg.DMC_FILL_DONE_CNT n) = s.reg (Reg.DMC_FILL_DONE_CNT n) + 1 ∧
            t.reg (Reg.DMC_LAST_FILL_TICK n) = s.nowLo ∧
            RegsBut [Reg.DMC_FILL n k, Reg.DMC_FILL_LINE_CNT n, Reg.DMC_FILL_DONE_CNT n, Reg.DMC_LAST_FILL_TICK n, Reg.DMC_FRESH_LEFT n] s t ∧
            t.cores = s.cores ∧ t.close = s.close ∧ t.stage = s.stage)) ∧
      (∀ e, d.waits = [e] → s.bit (Reg.DMC_CTL n) 1 = false → d.wq.length < 32 → ∃ t, exec (.fillWaitEnd n) s = .next t ∧ (t.dmc n).waits = [] ∧ (t.dmc n).wq = d.wq ++ [e] ∧
        t.bit st 3 = false ∧ (t.dmc n).dram = d.dram ∧ RegsBut [st] s t ∧ t.cores = s.cores) ∧
      (∀ (e : WqEnt) (l : List WqEnt), d.wq = e :: l → e.mask % 2 ^ 80 = 2 ^ 80 - 1 → e.data.length = 16 → d.inject = .none → ∃ t, exec (.writeQueueWrite n) s = .next t ∧
        (t.dmc n).wq = l ∧ RegsBut [] s t ∧ t.cores = s.cores ∧ (∀ j, j < 16 → (SMap.find (e.la * 16 + j) (t.dmc n).dram) = some (e.data.getD j MWord.zero)) ∧
        (∀ a, a < e.la * 16 ∨ e.la * 16 + 16 ≤ a → SMap.find a (t.dmc n).dram = SMap.find a d.dram)) ∧
      (s.fld (Reg.DMC_SCRUB_CTL n) 4 0 = 1 → readsZero s n (paLine s n (s.fld (Reg.DMC_SCRUB_PTR n) 27 0)) = true → s.fld (Reg.DMC_SCRUB_PTR n) 27 0 + 1 < dmcCap s n * 2 ^ 26 →
        ∃ t, exec (.dmcScrub n) s = .next t ∧ t.fld (Reg.DMC_SCRUB_PTR n) 27 0 = s.fld (Reg.DMC_SCRUB_PTR n) 27 0 + 1 ∧ RegsBut [Reg.DMC_SCRUB_PTR n] s t ∧ SameMemory s t) ∧
      (∀ rank : Bool, rank = false ∨ s.bit (Reg.DMC_GEOM n) 1 = true →
        let k := SMap.getD 0 (b2n rank) d.postponed
        (k < 8 → ∃ t, exec (.dmcRefresh n rank true) s = .next t ∧ SMap.getD 0 (b2n rank) (t.dmc n).postponed = k + 1 ∧ RegsBut [] s t) ∧
        (∃ t, exec (.dmcRefresh n rank false) s = .next t ∧ SMap.getD 0 (b2n rank) (t.dmc n).postponed = 0 ∧
          t.reg (Reg.DMC_REFRESH_CNT n) = s.reg (Reg.DMC_REFRESH_CNT n) + BitVec.ofNat 40 (k + 1) ∧ RegsBut [Reg.DMC_REFRESH_CNT n] s t ∧ (t.dmc n).dram = d.dram) ∧
        (∃ t, exec (.zqcs n rank) s = .next t ∧ RegsBut [] s t ∧ (t.dmc n).dram = d.dram ∧ (t.dmc n).wq = d.wq ∧ t.dmc (1 - n) = s.dmc (1 - n)))) ∧
    (Reaches (Reg.DMC_CTL n) s →
      (s.bit (Reg.DMC_CTL n) 0 = false → s.bit (Reg.DMC_GEOM n) 0 = true → ∃ t, exec (.dmcEnable i n v) s = .next t ∧ t.resp = ⟨i.ep, .ok, []⟩ ∧
        t.bit (Reg.DMC_CTL n) 0 = true ∧ t.bit (Reg.DMC_CTL n) 1 = bget v 1 ∧ t.fld st 2 0 = 1 ∧ (t.dmc n).busy = some false ∧ (t.dmc n).dram = [] ∧ (t.dmc n).notFresh = [] ∧
        t.reg (Reg.DMC_FRESH_LEFT n) = 131072 ∧ t.dmc (1 - n) = s.dmc (1 - n) ∧ t.cores = s.cores ∧
        RegsBut [Reg.DMC_CTL n, st, Reg.DMC_FRESH_LEFT n] s t) ∧
      (s.bit (Reg.DMC_CTL n) 0 = false → s.bit (Reg.DMC_GEOM n) 0 = false → ∃ t, exec (.dmcEnable i n v) s = .next t ∧ t.resp = ⟨i.ep, .ok, []⟩ ∧
        t.bit (Reg.DMC_CTL n) 0 = false ∧ t.dmcs = s.dmcs ∧ t.cores = s.cores ∧ RegsBut [Reg.DMC_CTL n] s t) ∧
      (s.bit (Reg.DMC_CTL n) 0 = true → ∃ t, exec (.dmcStop i n v) s = .next t ∧ t.resp = ⟨i.ep, .ok, []⟩ ∧ t.bit (Reg.DMC_CTL n) 0 = false ∧ t.fld st 2 0 = 0 ∧
        (t.dmc n).selfRef = true ∧ (t.dmc n).wq = [] ∧ (t.dmc n).busy = none ∧ t.bit (Reg.DMC_CTL n) 1 = s.bit (Reg.DMC_CTL n) 1 ∧ t.dmc (1 - n) = s.dmc (1 - n))) ∧
    (Calm s → (∀ (fail : Option (Bool × Fin 6)) (tr : List Word), s.tb.xbLost = false →
      (d.busy = some false → ∃ t, exec (.dmcBringupDone n fail tr) s = .next t ∧ (t.dmc n).busy = none ∧ t.bit st 0 = false ∧ t.bit st 1 = fail.isNone ∧ t.bit st 2 = fail.isSome ∧
        (∀ e, fail = some e → t.fld st 4 4 = b2n e.1 ∧ t.fld st 7 5 = e.2.val)) ∧
      (d.busy = some true → ∃ t, exec (.dmcResumeDone n fail tr) s = .next t ∧ (t.dmc n).busy = none ∧ (t.dmc n).selfRef = false ∧ t.bit st 0 = false ∧ t.bit st 1 = fail.isNone ∧
        t.bit st 2 = fail.isSome))) ∧
    (Reaches (Reg.DMC_INJECT n) s →
      (∃ t, exec (.dmcInjectSingle i n v) s = .next t ∧ t.resp = ⟨i.ep, .ok, []⟩ ∧ (t.dmc n).inject = .single ∧ RegsBut [] s t) ∧
      (∃ t, exec (.dmcInjectDouble i n v) s = .next t ∧ t.resp = ⟨i.ep, .ok, []⟩ ∧ (t.dmc n).inject = .double ∧ RegsBut [] s t) ∧
      (∃ t, exec (.dmcInjectFreshParity i n v) s = .next t ∧ t.resp = ⟨i.ep, .ok, []⟩ ∧ (t.dmc n).injFresh = true ∧ (t.dmc n).dram = d.dram ∧ RegsBut [] s t))

/-- Cases of R516, R518, R519, R524, R525, R527-R531, R543 and R549. Enabling a port that has a ring and a rate starts it, and one without a rate
sets its event; disabling lets a running port stop. A frame start of a slave that sends takes its words from the queue if they are there, sends
zeros and counts an underrun if not, and counts a frame of the wrong length. A received frame's words join the input queue with the frame's tick, or
are lost as a whole and counted. Five frame times without a clock stop a slave. The two injections set their events. A MIDI octet joins its queue
with its tick and marks, or is dropped and counted; a break is counted when it begins; a word that asks for no time is sent at once. The model's
choices: log rows 20, 60, 61. -/
def Obligations.AudioAndMidi : Prop :=
  (∀ (i : Initiator) (n : Fin 8) (v : Word) (s : State),
    let p := s.aud n
    let ctl := Reg.AUD_CTL n
    let stat := Reg.AUD_STATUS n
    let src := Reg.EIU_SRC_CNT (80 + n)
    let en := audMask s n true
    (Reaches ctl s → s.bit ctl 0 = false → p.on = false →
      (s.bit ctl 5 = bget v 5 → audRingEn s n = true → audRateOk s n = true → ∃ t, exec (.audioEnable i n v) s = .next t ∧ t.bit ctl 0 = true ∧ (t.aud n).on = true ∧
        (t.aud n).started = false ∧ Took i [ctl] s t) ∧
      (audRingEn s n = true → audRateOk s n = false → ∃ t, exec (.audioEnable i n v) s = .next t ∧ t.bit ctl 0 = false ∧ t.bit stat 5 = true ∧
        t.aud n = p ∧ Took i [ctl, stat, src] s t)) ∧
    (Reaches ctl s → s.bit ctl 0 = true → ∃ t, exec (.audioDisable i n v) s = .next t ∧ t.bit ctl 0 = false ∧ (t.aud n).stopping = p.on ∧ t.bit ctl 5 = bget v 5 ∧
      Took i [ctl] s t) ∧
    (SlaveSends s n →
      (∀ k : Nat, p.started = false ∨ k = audBpf s n →
        (en.length ≤ audPresent s n s.now → ∃ t, exec (.slaveFrameStart n k) s = .next t ∧ (t.aud n).outQ = p.outQ.drop en.length ∧
          (t.aud n).sdo = slotWords ((p.outQ.take en.length).map (fun w => topBits (audWidth s n) w.1)) (List.range (audSlots s n)) en ∧ (t.aud n).last = s.now ∧
          (t.aud n).started = true ∧ t.reg (Reg.AUD_FRAME_CNT n) = s.reg (Reg.AUD_FRAME_CNT n) + 1 ∧
          t.reg (Reg.AUD_OUT_WORD_CNT n) = s.reg (Reg.AUD_OUT_WORD_CNT n) + BitVec.ofNat 40 en.length ∧ t.bit stat 6 = true ∧
          t.cores = s.cores ∧ SameMemory s t ∧ RegsBut [Reg.AUD_FRAME_CNT n, Reg.AUD_OUT_WORD_CNT n, stat] s t) ∧
        (audPresent s n s.now < en.length → p.lack = 0 → s.bit stat 6 = true → ∃ t, exec (.slaveFrameStart n k) s = .next t ∧ (t.aud n).outQ = p.outQ ∧
          (∀ w, w ∈ (t.aud n).sdo → w = 0) ∧ t.bit stat 0 = true ∧ t.reg (Reg.AUD_UNDERRUN_CNT n) = s.reg (Reg.AUD_UNDERRUN_CNT n) + 1 ∧
          t.reg (Reg.AUD_UNDER_TICK n) = s.nowLo ∧ t.cores = s.cores ∧ SameMemory s t ∧
          RegsBut [Reg.AUD_FRAME_CNT n, stat, Reg.AUD_UNDERRUN_CNT n, Reg.AUD_UNDER_TICK n, src] s t)) ∧
      (∀ k : Nat, p.started = true → k ≠ audBpf s n → s.bit ctl 4 = false → ∃ t, exec (.slaveFrameStart n k) s = .next t ∧ t.bit stat 3 = true ∧
        t.reg (Reg.AUD_FRAME_ERR_CNT n) = s.reg (Reg.AUD_FRAME_ERR_CNT n) + 1 ∧ t.reg (Reg.AUD_ERR_TICK n) = s.nowLo ∧ t.cores = s.cores)) ∧
    (∀ slots : List (BitVec 32), Calm s → p.on = true → p.started = true → s.bit ctl 4 = true →
      let got := (audMask s n false).map (fun k => BitVec.ofNat 40 ((slots.getD k 0).toNat % 2 ^ audWidth s n * 2 ^ (40 - audWidth s n)))
      got ≠ [] →
        (p.inQ.length + got.length ≤ 64 → ∃ t, exec (.audioFrameReceived n slots) s = .next t ∧ (t.aud n).inQ = p.inQ ++ got.map (fun w => (w, BitVec.ofNat 40 p.last)) ∧
          t.reg (Reg.AUD_IN_WORD_CNT n) = s.reg (Reg.AUD_IN_WORD_CNT n) + BitVec.ofNat 40 got.length ∧
          RegsBut [Reg.AUD_IN_WORD_CNT n] s t ∧ t.cores = s.cores ∧ SameMemory s t) ∧
        (64 < p.inQ.length + got.length → ∃ t, exec (.audioFrameReceived n slots) s = .next t ∧ t.aud n = p ∧ t.bit stat 1 = true ∧
          t.reg (Reg.AUD_OVERRUN_CNT n) = s.reg (Reg.AUD_OVERRUN_CNT n) + 1 ∧ t.reg (Reg.AUD_OVER_TICK n) = s.nowLo ∧
          RegsBut [stat, Reg.AUD_OVERRUN_CNT n, Reg.AUD_OVER_TICK n, src] s t ∧ t.cores = s.cores ∧ SameMemory s t)) ∧
    (Calm s → p.on = true → audMaster s n = false → tbRunning s = true → p.last + 5 * genNum s (audGen s n) ≤ s.now → genDen s (audGen s n) ≠ 0 →
      ∃ t, exec (.audClkLost n) s = .next t ∧ (t.aud n).on = false ∧ (t.aud n).outQ = [] ∧ (t.aud n).inQ = [] ∧ t.bit ctl 0 = false ∧ t.bit stat 4 = true ∧ t.bit stat 6 = false ∧
        t.reg (Reg.AUD_CLK_LOST_CNT n) = s.reg (Reg.AUD_CLK_LOST_CNT n) + 1 ∧
        RegsBut [ctl, stat, Reg.AUD_CLK_LOST_CNT n, src] s t ∧ t.cores = s.cores ∧ SameMemory s t) ∧
    (Reaches (Reg.AUD_INJECT n) s → bget v 1 = false → ∃ t, exec (.audInjectUnderrun i n v) s = .next t ∧ t.bit stat 0 = true ∧
      t.reg (Reg.AUD_UNDERRUN_CNT n) = s.reg (Reg.AUD_UNDERRUN_CNT n) + 1 ∧ t.reg (Reg.AUD_UNDER_TICK n) = s.nowLo ∧
      Took i [stat, Reg.AUD_UNDERRUN_CNT n, Reg.AUD_UNDER_TICK n, src] s t ∧ t.ports = s.ports) ∧
    (Reaches (Reg.AUD_INJECT n) s → bget v 0 = false → ∃ t, exec (.audInjectFrameErr i n v) s = .next t ∧ t.bit stat 3 = true ∧
      t.reg (Reg.AUD_FRAME_ERR_CNT n) = s.reg (Reg.AUD_FRAME_ERR_CNT n) + 1 ∧ t.reg (Reg.AUD_ERR_TICK n) = s.nowLo ∧
      Took i [stat, Reg.AUD_FRAME_ERR_CNT n, Reg.AUD_ERR_TICK n, src] s t ∧ t.ports = s.ports)) ∧
  (∀ (m : Fin 4) (o : BitVec 8) (low : Bool) (s : State), Calm s →
    let p := s.midIn m
    let q := s.midOut m
    (p.low = false → smallStopped s = false →
      (p.q.length < 16 → ∃ t, exec (.midiOctetReceived m o low) s = .next t ∧ (t.midIn m).q.dropLast = p.q ∧
        (t.midIn m).q.getLast?.map (fun e => (fget e.1 7 0, bget e.1 8, bget e.1 9, fget e.1 39 10)) = some (o.toNat, p.ovr, low, s.now % 2 ^ 30) ∧
        t.reg (Reg.MID_IN_OCTET_CNT m) = s.reg (Reg.MID_IN_OCTET_CNT m) + 1 ∧ RegsBut [Reg.MID_IN_OCTET_CNT m, Reg.MID_IN_FE_CNT m] s t ∧ t.cores = s.cores ∧ SameMemory s t) ∧
      (16 ≤ p.q.length → ∃ t, exec (.midiOctetReceived m o low) s = .next t ∧ (t.midIn m).q = p.q ∧ (t.midIn m).ovr = true ∧
        t.reg (Reg.MID_IN_DROP_CNT m) = s.reg (Reg.MID_IN_DROP_CNT m) + 1 ∧ t.bit Reg.MID_EVT m = true ∧ t.cores = s.cores ∧ SameMemory s t)) ∧
    (smallStopped s = false → ∃ t, exec (.midiBreak m low) s = .next t ∧ (t.midIn m).low = low ∧ (t.midIn m).q = p.q ∧
      t.reg (Reg.MID_IN_BREAK_CNT m) = (if low && !p.low then s.reg (Reg.MID_IN_BREAK_CNT m) + 1 else s.reg (Reg.MID_IN_BREAK_CNT m)) ∧ RegsBut [Reg.MID_IN_BREAK_CNT m] s t ∧ t.cores = s.cores ∧ SameMemory s t) ∧
    (∀ (w : Word) (l : List Word), q.q = w :: l → bget w 9 = false → bget w 8 = false → q.last = none → smallStopped s = false → boundRing s 7 m false = none →
      ∃ t, exec (.midiSend m) s = .next t ∧ (t.midOut m).q = l ∧ (t.midOut m).line = fget w 7 0 ∧ (t.midOut m).last = some s.now ∧ t.now = s.now ∧
        t.reg (Reg.MID_OUT_OCTET_CNT m) = s.reg (Reg.MID_OUT_OCTET_CNT m) + 1 ∧ RegsBut [Reg.MID_OUT_OCTET_CNT m] s t ∧ t.cores = s.cores ∧ SameMemory s t))

/-- Cases of R532-R537, R547, R549 and R698. I2C: each queued command ends as its START, its address answer, its octets or its STOP says, a read
with a full queue stretches, an error empties the queues, and a read of RXDATA takes the oldest octet. QSPI: a command of a legal form is taken, one
of another form is counted as an error, and the end of a transfer sets DONE and, for a read, the buffer. eMMC: a command is taken while the port is
on, its end gives the response, the last block of a read fills the buffer, each error ends everything, DATA moves one word, tuning ends with DONE or
an error, and an injection is kept. GPIO: an edge of a line that is not debounced shows in the input and, where asked, as an event; the set and
clear registers act on the outputs. The model's choices: log row 62. -/
def Obligations.SmallPorts : Prop :=
  (∀ (i : Initiator) (p : Fin 3) (o : BitVec 8) (s : State),
    let c := s.i2c p
    let stat := Reg.I2C_STATUS p
    (Calm s → s.bit (Reg.I2C_CTL p) 0 = true → smallStopped s = false →
      (∀ (d : Nat) (l : List Nat), c.cmds = d :: l →
        (d / 256 = 0 → ∃ t, exec (.i2cStart p false) s = .next t ∧ (t.i2c p).cmds = l ∧ (t.i2c p).active = true ∧ Idles s t) ∧
        (d / 256 = 0 → ∃ t, exec (.i2cStart p true) s = .next t ∧ (t.i2c p).cmds = afterStop l ∧ (t.i2c p).active = false ∧ t.bit stat 1 = true ∧ t.bit stat 0 = true ∧
          t.reg (Reg.I2C_NACK_CNT p) = s.reg (Reg.I2C_NACK_CNT p) + 1 ∧
          RegsBut [stat, Reg.I2C_NACK_CNT p, Reg.I2C_XFER_CNT p, Reg.EIU_SRC_CNT (97 + p)] s t ∧ SameMemory s t) ∧
        (d / 256 = 1 → ∃ t, exec (.i2cWriteData p false) s = .next t ∧ (t.i2c p).cmds = l ∧ (t.i2c p).active = true ∧ Idles s t) ∧
        (d / 256 = 2 → c.rx.length < 16 → ∃ t, exec (.i2cReadAck p o) s = .next t ∧ (t.i2c p).cmds = l ∧ (t.i2c p).rx = c.rx ++ [o.toNat] ∧
          t.reg (Reg.I2C_RX_OCTET_CNT p) = s.reg (Reg.I2C_RX_OCTET_CNT p) + 1 ∧ RegsBut [Reg.I2C_RX_OCTET_CNT p] s t ∧ SameMemory s t) ∧
        (d / 256 = 2 → 16 ≤ c.rx.length → c.stretched = false → ∃ t, exec (.i2cReadAck p o) s = .next t ∧ (t.i2c p).cmds = c.cmds ∧ (t.i2c p).stretched = true ∧
          t.reg (Reg.I2C_STRETCH_CNT p) = s.reg (Reg.I2C_STRETCH_CNT p) + 1 ∧
          (t.i2c p).rx = c.rx ∧ RegsBut [Reg.I2C_STRETCH_CNT p] s t ∧ SameMemory s t) ∧
        (d / 256 = 3 → c.rx.length < 16 → ∃ t, exec (.i2cReadNack p o) s = .next t ∧ (t.i2c p).cmds = l ∧ (t.i2c p).rx = c.rx ++ [o.toNat] ∧
          t.reg (Reg.I2C_RX_OCTET_CNT p) = s.reg (Reg.I2C_RX_OCTET_CNT p) + 1 ∧ RegsBut [Reg.I2C_RX_OCTET_CNT p] s t ∧ SameMemory s t) ∧
        (d / 256 = 4 → ∃ t, exec (.i2cStop p) s = .next t ∧ (t.i2c p).cmds = l ∧ (t.i2c p).active = false ∧ t.bit stat 0 = true ∧
          t.reg (Reg.I2C_XFER_CNT p) = s.reg (Reg.I2C_XFER_CNT p) + 1 ∧ RegsBut [stat, Reg.I2C_XFER_CNT p, Reg.EIU_SRC_CNT (97 + p)] s t ∧ SameMemory s t)) ∧
      (∃ t, exec (.i2cBus p) s = .next t ∧ (t.i2c p).cmds = [] ∧ (t.i2c p).rx = [] ∧ (t.i2c p).active = false ∧ t.bit stat 2 = true ∧
        t.reg (Reg.I2C_BUS_ERR_CNT p) = s.reg (Reg.I2C_BUS_ERR_CNT p) + 1 ∧ RegsBut [stat, Reg.I2C_BUS_ERR_CNT p, Reg.EIU_SRC_CNT (97 + p)] s t ∧ SameMemory s t)) ∧
    (Reaches (Reg.I2C_RXDATA p) s → ∃ t, exec (.i2cRxdataRead i p) s = .next t ∧ t.resp.status = .ok ∧ (t.i2c p).rx = c.rx.drop 1 ∧
      t.resp.data.map (fun w => w.v) = [match c.rx with | [] => 0 | d :: _ => BitVec.ofNat 40 (256 + d)] ∧ (t.i2c p).cmds = c.cmds ∧ RegsBut [] s t)) ∧
  (∀ (i : Initiator) (v : Word) (s : State),
    (Reaches Reg.QSPI_CMD s → s.ports.qspi = none →
      (fget v 31 29 ≤ 4 → fget v 28 27 ≠ 3 → fget v 6 0 ≤ 120 → ∃ t, exec (.qspiCmdWrite i v) s = .next t ∧ t.ports.qspi = some v ∧ Took i [] s t) ∧
      (4 < fget v 31 29 ∨ fget v 28 27 = 3 ∨ 120 < fget v 6 0 → ∃ t, exec (.qspiCmdWrite i v) s = .next t ∧ t.ports.qspi = none ∧
        t.reg Reg.QSPI_ERR_CNT = s.reg Reg.QSPI_ERR_CNT + 1 ∧ Took i [Reg.QSPI_ERR_CNT] s t)) ∧
    (∀ os : List (BitVec 8), Calm s → s.ports.qspi = some v → s.tb.xbLost = false → fget v 6 0 ≤ 120 → fget v 6 0 ≤ os.length →
      ∃ t, exec (.qspiTransferDone os) s = .next t ∧ t.ports.qspi = none ∧ t.reg Reg.QSPI_XFER_CNT = s.reg Reg.QSPI_XFER_CNT + 1 ∧ t.bit Reg.QSPI_STATUS 0 = true ∧
        RegsBut ((List.range 24).map (fun k => Reg.QSPI_BUF 0 + k) ++ [Reg.QSPI_XFER_CNT, Reg.QSPI_STATUS, Reg.EIU_SRC_CNT 100]) s t ∧ SameMemory s t ∧
        (bget v 21 = false → ∀ k, k < fget v 6 0 → fget (t.reg (Reg.QSPI_BUF 0 + k / 5)) (8 * (k % 5) + 7) (8 * (k % 5)) = (os.getD k 0).toNat) ∧
        (bget v 21 = true → ∀ k, k < 24 → t.reg (Reg.QSPI_BUF 0 + k) = s.reg (Reg.QSPI_BUF 0 + k))) ∧
    (Reaches Reg.EMC_CMD s → s.bit Reg.EMC_CTL 0 = true → s.emc.cmd = none → s.emc.xfer = none ∨ fget v 15 10 = 12 → ∃ t, exec (.emcCmdWrite i v) s = .next t ∧
      t.emc = { s.emc with cmd := some v } ∧ t.reg Reg.EMC_CMD_CNT = s.reg Reg.EMC_CMD_CNT + 1 ∧ Took i [Reg.EMC_CMD_CNT] s t) ∧
    (Reaches Reg.EMC_CMD s → s.bit Reg.EMC_CTL 0 = false → ∃ t, exec (.emcCmdWrite i v) s = .next t ∧ t.emc = s.emc ∧ Took i [] s t) ∧
    (∀ resp data : List Word, Calm s → smallStopped s = false →
      (s.emc.cmd = some v → s.emc.inject = 0 → bget v 7 = false → fget v 15 10 ≠ 12 → ∃ t, exec (.emcDone resp data) s = .next t ∧ t.emc = { s.emc with cmd := none } ∧
        t.bit Reg.EMC_STATUS 0 = true ∧ (fget v 9 8 ≠ 0 → t.reg (Reg.EMC_RESP 0) = if fget v 9 8 = 2 ∧ resp = [] then s.reg (Reg.EMC_RESP 0) else resp.getD 0 0) ∧ SameMemory s t) ∧
      (s.emc.cmd = none → s.emc.xfer = some false → s.emc.left = some 1 → s.emc.buf = [] → s.emc.inject = 0 → data.length = 103 → s.emc.stopped = false →
        ∃ t, exec (.emcDone resp data) s = .next t ∧ t.emc.xfer = none ∧ t.emc.buf = data.take 102 ++ (data.drop 102).map (fun w => w &&& 0xFFFF) ∧
          t.reg Reg.EMC_BLK_CNT = s.reg Reg.EMC_BLK_CNT + 1 ∧ t.bit Reg.EMC_STATUS 0 = true ∧ SameMemory s t ∧
          RegsBut [Reg.EMC_BLK_CNT, Reg.EMC_STATUS, Reg.EIU_SRC_CNT 101] s t)) ∧
    (∀ k : Fin 4, Calm s → s.emc.cmd.isSome = true → smallStopped s = false → ∃ t, exec (.emcErr k) s = .next t ∧ t.emc.cmd = none ∧ t.emc.xfer = none ∧ t.emc.buf = [] ∧
      t.bit Reg.EMC_STATUS (k.val + 1) = true ∧ t.reg (Reg.EMC_CMD_CRC_CNT + k.val) = s.reg (Reg.EMC_CMD_CRC_CNT + k.val) + 1 ∧
      RegsBut [Reg.EMC_STATUS, Reg.EMC_CMD_CRC_CNT + k.val, Reg.EIU_SRC_CNT 101] s t ∧ SameMemory s t) ∧
    (Reaches Reg.EMC_DATA s → s.emc.buf.length < 206 → ∃ t, exec (.emcDataAccess i (some v)) s = .next t ∧ Took i [] s t ∧
      t.emc.buf = s.emc.buf ++ [if s.emc.buf.length % 103 = 102 then v &&& 0xFFFF else v]) ∧
    (∀ l : List Word, Reaches Reg.EMC_DATA s → s.emc.buf = v :: l → ∃ t, exec (.emcDataAccess i none) s = .next t ∧ t.resp.status = .ok ∧
      t.resp.data.map (fun w => w.v) = [v] ∧ t.emc.buf = l ∧ Idles s t) ∧
    (Reaches Reg.EMC_TUNE s → ∃ t, exec (.emcTuneStart i v) s = .next t ∧ t.resp = ⟨i.ep, .ok, []⟩ ∧ t.reg Reg.EMC_TUNE_CNT = s.reg Reg.EMC_TUNE_CNT + 1 ∧
      (t.bit Reg.EMC_STATUS 0 = true ∨ t.bit Reg.EMC_STATUS 5 = true) ∧ t.emc = s.emc ∧ SameMemory s t) ∧
    (Reaches Reg.EMC_INJECT s → ∃ t, exec (.emcInject i v) s = .next t ∧ t.emc.inject = s.emc.inject ||| fget v 2 0 ∧ Took i [] s t) ∧
    (∀ (l : Fin 48) (rise : Bool), Calm s → gpioBit s Reg.GPIO_IN_LO l ≠ rise → gpioBit s Reg.GPIO_DEB_EN_LO l = false →
      let irq := gpioBit s (if rise then Reg.GPIO_IRQ_RISE_LO else Reg.GPIO_IRQ_FALL_LO) l
      ∃ t, exec (.gpioEdge l rise) s = .next t ∧ gpioBit t Reg.GPIO_IN_LO l = rise ∧ (∀ k, k < 48 → k ≠ l.val → gpioBit t Reg.GPIO_IN_LO k = gpioBit s Reg.GPIO_IN_LO k) ∧
        (irq = true → gpioBit t Reg.GPIO_IRQ_STAT_LO l = true ∧ t.reg Reg.GPIO_EVT_CNT = s.reg Reg.GPIO_EVT_CNT + 1 ∧ t.reg Reg.GPIO_LAST_TICK = s.nowLo) ∧ t.cores = s.cores ∧ SameMemory s t ∧
        RegsBut [Reg.GPIO_IN_LO, Reg.GPIO_IN_HI, Reg.GPIO_IRQ_STAT_LO, Reg.GPIO_IRQ_STAT_HI, Reg.GPIO_EVT_CNT, Reg.GPIO_LAST_TICK, Reg.EIU_SRC_CNT 102] s t ∧
        (irq = false → RegsBut [Reg.GPIO_IN_LO, Reg.GPIO_IN_HI] s t)) ∧
    (∀ hi : Bool, Reaches Reg.GPIO_OUT_SET_LO s →
      let a := if hi then Reg.GPIO_OUT_HI else Reg.GPIO_OUT_LO
      (∃ t, exec (.gpioOutSet i hi v) s = .next t ∧ t.reg a = s.reg a ||| (if hi then v &&& 0xFF else v) ∧ Took i [a] s t) ∧
      (∃ t, exec (.gpioOutClr i hi v) s = .next t ∧ t.reg a = s.reg a &&& ~~~ (if hi then v &&& 0xFF else v) ∧ Took i [a] s t)))

/-- Cases of R538, R539 and R641-R645. A transaction with whole words and the right CRC queues its request; one with a wrong CRC, or with octets
left over, is counted and queues nothing. Of the host's commands: STATUS; STREAM_IMAGE in pass 1 at the right and at a wrong offset, in pass 2 at
the right offset, and after the boot; READ_WORD and WRITE_WORD of close memory with debug unlocked and the port on, and their refusal; DEBUG_UNLOCK
inside and outside a presence window; RESTORE_FACTORY, ERASE_USER, APPLY_USER and FACTORY_WRITE where they are allowed, with no injection armed for
the erase and the write. Each answer's header, data, CRC and count is named. The model's choices: log row 80. -/
def Obligations.HostCommands : Prop :=
  (∀ (os : List (BitVec 8)) (s : State), Calm s → domShed s 17 = false → domState s 17 ≠ 2 →
    let ws := hostWords (os.map BitVec.toNat)
    let body := ws.dropLast
    let crc := BitVec.ofNat 40 (crc32c ((body.map wordOctets).flatten))
    (os.length % 5 = 0 → body ≠ [] → ws.length ≤ 64 → ws.getLast? = some crc → s.hpt.req.length + body.length ≤ 64 → s.boot.reqs = [] → hostAssigned (hostOpcode body) = true →
      ∃ t, exec (.hostTransaction os) s = .next t ∧ t.boot.reqs = [body] ∧ t.hpt.req = s.hpt.req ++ body ∧ t.hpt.miso.head? = some (hptStatus s) ∧
        t.reg Reg.HPT_REQ_CNT = s.reg Reg.HPT_REQ_CNT + 1 ∧ t.reg Reg.HPT_LAST_TICK = s.nowLo ∧ t.bit Reg.HPT_STATUS 14 = true ∧
        t.cores = s.cores ∧ SameMemory s t) ∧
    (os.length % 5 = 0 → ws ≠ [] → ws.length ≤ 64 → ws.getLast? ≠ some crc → ∃ t, exec (.hostTransaction os) s = .next t ∧ t.boot = s.boot ∧ t.hpt.req = s.hpt.req ∧
      t.reg Reg.HPT_CRC_ERR_CNT = s.reg Reg.HPT_CRC_ERR_CNT + 1 ∧ t.bit Reg.HPT_STATUS 15 = true ∧ t.cores = s.cores ∧ SameMemory s t) ∧
    (os.length % 5 ≠ 0 → ∃ t, exec (.hostTransaction os) s = .next t ∧ t.boot = s.boot ∧ t.hpt.req = s.hpt.req ∧
      t.reg Reg.HPT_FRAME_ERR_CNT = s.reg Reg.HPT_FRAME_ERR_CNT + 1 ∧ t.bit Reg.HPT_STATUS 16 = true ∧ t.cores = s.cores ∧ SameMemory s t)) ∧
  (∀ (r : List Word) (s : State),
    let on := s.bit Reg.HPT_CTL 0
    let a := (r.getD 1 0).toNat
    (HostAsks s 1 0 r → ∃ t, exec .hostStatus s = .next t ∧
      HostTold r 0 [regView s 30 Reg.BSQ_STATUS, regView s 30 Reg.BSQ_FAIL_INFO, regView s 30 Reg.BSQ_PRESENCE, regView s 30 Reg.BSQ_DEBUG] s t ∧ SameMemory s t) ∧
    (∀ k : Nat, k ≤ 60 → HostAsks s 3 (2 + k) r →
      let off := fget (r.getD 1 0) 31 0
      (s.fld Reg.BSQ_STATUS 9 7 = 2 → s.fld Reg.BSQ_STATUS 6 5 = 1 →
        (off = s.boot.img.length → ∃ t, exec .streamImage s = .next t ∧ t.boot.img = addChunk s.boot.img (r.drop 2) ∧ SameMemory s t ∧
          HostTold r 0 [BitVec.ofNat 40 (2 ^ 38 + t.boot.img.length)] s t) ∧
        (off ≠ s.boot.img.length → ∃ t, exec .streamImage s = .next t ∧ t.boot.img = s.boot.img ∧ SameMemory s t ∧ HostTold r 6 [BitVec.ofNat 40 (2 ^ 38 + s.boot.img.length)] s t)) ∧
      (s.fld Reg.BSQ_STATUS 9 7 = 3 → s.fld Reg.BSQ_STATUS 6 5 = 1 → off = s.boot.again.length → ∃ t, exec .streamImage s = .next t ∧
        t.boot.again = (s.boot.again ++ r.drop 2).take (s.fld Reg.BSQ_IMAGE_LEN 31 0) ∧ HostTold r 0 [BitVec.ofNat 40 (2 ^ 39 + t.boot.again.length)] s t) ∧
      (s.fld Reg.BSQ_STATUS 9 7 = 4 → on = true → ∃ t, exec .streamImage s = .next t ∧ HostTold r 5 [] s t ∧ SameMemory s t) ∧
      (s.fld Reg.BSQ_STATUS 9 7 = 4 → on = false → ∃ t, exec .streamImage s = .next t ∧ HostTold r 3 [] s t ∧ SameMemory s t)) ∧
    (HostAsks s 0x10 1 r → (s.bit Reg.BSQ_DEBUG 0 = false ∨ on = false → ∃ t, exec .readWord s = .next t ∧ HostTold r 3 [] s t ∧ SameMemory s t) ∧
      (∀ k : Nat, k < 8 → s.bit Reg.BSQ_DEBUG 0 = true → on = true → Path s 30 k → 0x40000 + k * 0x8000 ≤ a → a < 0x40000 + k * 0x8000 + 0x4000 →
        (memRead s.close (k * 0x4000 + (a - 0x40000 - k * 0x8000))).mark = .good →
        ∃ t, exec .readWord s = .next t ∧ HostTold r 0 [(memRead s.close (k * 0x4000 + (a - 0x40000 - k * 0x8000))).v] s t ∧ t.close = s.close)) ∧
    (HostAsks s 0x11 2 r → (s.bit Reg.BSQ_DEBUG 0 = false ∨ on = false → ∃ t, exec .writeWord s = .next t ∧ HostTold r 3 [] s t ∧ SameMemory s t) ∧
      (∀ k : Nat, k < 8 → s.bit Reg.BSQ_DEBUG 0 = true → on = true → Path s 30 k → 0x40000 + k * 0x8000 ≤ a → a < 0x40000 + k * 0x8000 + 0x4000 →
        ∃ t, exec .writeWord s = .next t ∧ HostTold r 0 [] s t ∧ t.close = memWrite (k * 0x4000 + (a - 0x40000 - k * 0x8000)) ⟨r.getD 2 0, .good⟩ s.close)) ∧
    (HostAsks s 0x20 0 r → (presenceOpen s = true → on = true → ∃ t, exec .debugUnlock s = .next t ∧ HostTold r 0 [] s t ∧ t.bit Reg.BSQ_DEBUG 0 = true ∧
        t.reg Reg.BSQ_UNLOCK_CNT = s.reg Reg.BSQ_UNLOCK_CNT + 1 ∧ SameMemory s t) ∧
      (presenceOpen s = false → ∃ t, exec .debugUnlock s = .next t ∧ HostTold r 3 [] s t ∧ t.bit Reg.BSQ_DEBUG 0 = s.bit Reg.BSQ_DEBUG 0 ∧ SameMemory s t)) ∧
    (presenceOpen s = true → on = true →
      (HostAsks s 0x21 0 r → ∃ t, exec .hostRestoreFactory s = .next t ∧ t.keep = (keepRun 1 s).2.keep ∧ HostTold r 7 [BitVec.ofNat 40 (keepRun 1 s).1] s t) ∧
      (HostAsks s 0x22 0 r → s.keepInj = 0 → ∃ t, exec .hostEraseUser s = .next t ∧ HostTold r 7 [0] s t ∧
        (∀ o, o < 4096 → memRead t.keep (0x1000 + o) = MWord.zero) ∧ (∀ o, o < 0x1000 ∨ 0x2000 ≤ o → memRead t.keep o = memRead s.keep o))) ∧
    (s.bit Reg.BSQ_DEBUG 0 = true → on = true → HostAsks s 0x23 0 r → ∃ t, exec .hostApplyUser s = .next t ∧ t.keep = (keepRun 3 s).2.keep ∧
      HostTold r 7 [BitVec.ofNat 40 (keepRun 3 s).1] s t) ∧
    (∀ k : Nat, k ≤ 59 → presenceOpen s = true → on = true → HostAsks s 0x24 (2 + k) r → 0x10000 ≤ a → a + 1 + k ≤ 0x11000 → s.keepInj = 0 →
      ∃ t, exec .factoryWrite s = .next t ∧ HostTold r 0 [] s t ∧ (∀ j, j ≤ k → memRead t.keep (a - 0x10000 + j) = ⟨r.getD (2 + j) 0, .good⟩) ∧
        (∀ o, o < a - 0x10000 ∨ a - 0x10000 + 1 + k ≤ o → memRead t.keep o = memRead s.keep o)))

/-- R596, R599, R600, R603-R609, R612, R618: what Fingertip's enables, loads, injections and analog samples do, and the keep store's commands. -/
def Obligations.FingertipAndKeep : Prop :=
  ∀ (i : Initiator) (v : Word) (s : State),
    let f := s.fgt
    (Reaches Reg.FGT_CTL s →
      (s.bit Reg.FGT_CTL 0 = false → ∃ t, exec (.fgtEnable i v) s = .next t ∧ t.bit Reg.FGT_CTL 0 = true ∧
        t.fgt = { f with loading := true, next := none, starting := !f.running, stopping := false } ∧ Took i [Reg.FGT_CTL] s t) ∧
      (s.bit Reg.FGT_CTL 0 = true → ∃ t, exec (.fgtDisable i v) s = .next t ∧ t.bit Reg.FGT_CTL 0 = false ∧
        t.fgt = { f with starting := false, stopping := f.running } ∧ Took i [Reg.FGT_CTL] s t) ∧
      (s.bit Reg.FGT_CTL 0 = true → bget v 0 = true → ∃ t, exec (.fgtReload i v) s = .next t ∧ t.fgt = { f with loading := true } ∧ Took i [] s t)) ∧
    (Calm s → f.loading = true →
      (∀ ws, (readLayer 0x1200 s).1 = some ws → ∃ t, exec .calLoadDone s = .next t ∧ t.fgt = { f with loading := false, next := some (ws, 1) } ∧
        t.reg Reg.FGT_ERR_INFO = s.reg Reg.FGT_ERR_INFO) ∧
      ((readLayer 0x1200 s).1 = none →
        let fac := (readLayer 0 (readLayer 0x1200 s).2).1
        ∃ t, exec .calLoadDone s = .next t ∧ t.fgt = { f with loading := false, next := some (fac.getD builtinLayer, if fac.isSome then 2 else 3) } ∧
          t.fld Reg.FGT_ERR_INFO 7 0 = (if fac.isSome then 1 else 3) ∧ t.fld Reg.FGT_ERR_INFO 15 8 = 1)) ∧
    (Reaches Reg.FGT_INJECT s →
      (bget v 0 = false → ∃ t, exec (.fgtInjectSeq i v) s = .next t ∧ t.resp = ⟨i.ep, .ok, []⟩ ∧ t.bit Reg.FGT_STATUS 3 = true ∧
        t.reg Reg.FGT_SEQ_ERR_CNT = s.reg Reg.FGT_SEQ_ERR_CNT + 1 ∧ t.fgt = f) ∧
      (bget v 1 = false → ∃ t, exec (.fgtInjectDrop i v) s = .next t ∧ t.resp = ⟨i.ep, .ok, []⟩ ∧ t.bit Reg.FGT_STATUS 4 = true ∧
        t.reg Reg.FGT_DROP_CNT = s.reg Reg.FGT_DROP_CNT + 1 ∧ t.fgt.q = f.q ∧ t.fgt.ovf.map (fun o => o.n) = some (match f.ovf with | none => 1 | some o => o.n + 1))) ∧
    (∀ (j : Fin 24) (raw : BitVec 14), Calm s → f.running = true → s.bit Reg.FGT_AIN_EN j = true → tbRunning s = true → s.fld Reg.TB_TICK_FS 23 0 ≠ 0 → slewMode s = 0 →
        anaNext s j (s.ain j).last = s.now →
      let x := s.ain j
      let val := Reg.FGT_AIN_VAL j
      let cal := anaCal s j raw.toNat
      (x.n < 4 → ∃ t, exec (.analogSample j raw) s = .next t ∧ t.fld val 29 16 = raw.toNat ∧ t.ain j = { x with n := x.n + 1, last := s.now } ∧
        t.reg Reg.FGT_AIN_DISCARD_CNT = s.reg Reg.FGT_AIN_DISCARD_CNT + 1 ∧ t.fgt.q = f.q ∧ t.bit val 30 = s.bit val 30 ∧ RegsBut [val, Reg.FGT_AIN_DISCARD_CNT] s t) ∧
      (x.n = 4 → ∃ t, exec (.analogSample j raw) s = .next t ∧ t.fld val 29 16 = raw.toNat ∧ t.fld val 13 0 = cal ∧ t.bit val 30 = true ∧
        t.ain j = ⟨5, cal, s.now⟩ ∧ t.reg Reg.FGT_AIN_EVT_CNT = s.reg Reg.FGT_AIN_EVT_CNT + 1) ∧
      (x.n = 5 →
        let y := ((x.y : Int) + Int.fdiv ((cal : Int) - (x.y : Int)) ((2 ^ s.fld (Reg.FGT_AIN_CFG j) 2 0 : Nat) : Int)).toNat
        let l := s.fld val 13 0
        let moved := s.fld (Reg.FGT_AIN_CFG j) 13 4 < (y - l) + (l - y)
        ∃ t, exec (.analogSample j raw) s = .next t ∧ (t.ain j).y = y ∧ t.fld val 29 16 = raw.toNat ∧
          (moved → y < 2 ^ 14 → t.fld val 13 0 = y ∧ t.reg Reg.FGT_AIN_EVT_CNT = s.reg Reg.FGT_AIN_EVT_CNT + 1) ∧
          (¬ moved → t.fld val 13 0 = l ∧ t.fgt.q = f.q ∧ RegsBut [val] s t))) ∧
    (Reaches Reg.KEP_CMD s → s.bit Reg.FGT_CTL 0 = false → s.keepInj = 0 →
      let result : State → Nat := fun t => t.fld Reg.KEP_CMD_RESULT 3 0
      let active (t : State) (ws : List Word) : Prop := ∀ k, k < 512 → memRead t.keep (0x1200 + k) = ⟨ws.getD k 0, .good⟩
      let fac := (readLayer 0 s).1
      let user := (readLayer 0x1000 s).1
      (presenceOpen s = false → ∃ t, exec (.restoreFactory i v) s = .next t ∧ result t = 2 ∧ t.resp = ⟨i.ep, .ok, []⟩ ∧ SameMemory s t) ∧
      (presenceOpen s = true → fac = none → ∃ t, exec (.restoreFactory i v) s = .next t ∧ result t = 3 ∧ t.resp = ⟨i.ep, .ok, []⟩) ∧
      (∀ ws, presenceOpen s = true → fac = some ws → ∃ t, exec (.restoreFactory i v) s = .next t ∧ result t = 0 ∧ active t ws ∧ t.bit Reg.KEP_STATUS 1 = true ∧
        (∀ o, o < 0x200 → memRead t.keep (0x1000 + o) = MWord.zero) ∧ (∀ o, 0x1400 ≤ o → memRead t.keep o = memRead s.keep o)) ∧
      (∃ t, exec (.eraseUser i v) s = .next t ∧ result t = 0 ∧ t.bit Reg.KEP_STATUS 1 = true ∧ (∀ o, o < 4096 → memRead t.keep (0x1000 + o) = MWord.zero) ∧
        (∀ o, o < 0x1000 ∨ 0x2000 ≤ o → memRead t.keep o = memRead s.keep o)) ∧
      (∀ ws, user = some ws → ∃ t, exec (.applyUser i v) s = .next t ∧ result t = 0 ∧ active t ws ∧ (∀ o, 0x1400 ≤ o → memRead t.keep o = memRead s.keep o)) ∧
      (user = none → ∃ t, exec (.applyUser i v) s = .next t ∧ result t = 3 ∧ t.resp = ⟨i.ep, .ok, []⟩)) ∧
    (∀ w : Fin 6, Reaches (Reg.KEP_WP w) s → ∃ t, exec (.kepWpWrite i w v) s = .next t ∧
      t.reg (Reg.KEP_WP w) = s.reg (Reg.KEP_WP w) ||| (if w.val = 5 then v &&& 0xFFFFFF else v) ∧ Took i [Reg.KEP_WP w] s t) ∧
    (Reaches Reg.KEP_INJECT s → ∃ t, exec (.kepInject i v) s = .next t ∧ Took i [] s t ∧
      t.keepInj = if bget v 1 then 2 else if bget v 0 then 1 else s.keepInj)

/-- R629, R630, R632, R647: what each record of a Dukar image does in pass 2 when its writes are accepted; one that is not accepted stops the boot.
The model's choices: log rows 76, 77. -/
def Obligations.ImageRecords : Prop :=
  ∀ (i k : Nat) (b : List Word) (s : State), s.isSealed = false →
    let w := b.getD 0 0
    (RecNext s 1 i k b → bget w 7 = false → bget w 6 = false → fget w 39 8 = 0 →
      (s.bit (Reg.DMC_CTL 0) 0 = false → s.bit (Reg.DMC_CTL 1) 0 = false → (applyDram b (s, none)).2 = none →
        ∃ t, exec .recDramTiming s = .next t ∧ RecDone i k 1 s t ∧ t.fld (Reg.DMC_ILV 0) 1 0 = fget w 5 4 ∧ t.fld Reg.SYS_MAP_DRAM 3 0 = fget w 3 0) ∧
      (s.bit (Reg.DMC_CTL 0) 0 = true → s.bit (Reg.DMC_STATUS 0) 1 = false → s.bit (Reg.DMC_STATUS 0) 2 = false → s.bit (Reg.DMC_CTL 1) 0 = false →
        (applyDram b (s, none)).2 = none → ∃ t, exec .recDramTiming s = .next t ∧ t.boot.dram = some s.tb.pulses ∧ t.boot.pos = i)) ∧
    (RecNext s 2 i k [w] → fget w 39 14 = 0 → fget w 7 4 = 0 → fget w 13 8 ≤ 47 →
      let a := Reg.SYS_PINMUX 0 + fget w 13 8 / 10
      let lo := 4 * (fget w 13 8 % 10)
      (pinmuxOk (fget w 13 8) (fget w 3 0) = true → s.bit Reg.SYS_STATUS 0 = false → domState s 19 = 0 ∧ domShed s 19 = false → ∃ t, exec .recPinmux s = .next t ∧ RecDone i k 1 s t ∧ t.fld a (lo + 3) lo = fget w 3 0 ∧
        RegsBut [a, Reg.BSQ_RECORD_CNT] s t ∧ SameMemory s t)) ∧
    (RecNext s 2 i k [w] → 47 < fget w 13 8 → ∃ t, exec .recPinmux s = .next t ∧ BootStops 9 s t) ∧
    (RecNext s 3 i k [w] → fget w 39 26 = 0 → endpointExists (fget w 25 21) = true → (applyRoutes [w] (s, none)).2 = none → ∃ t, exec .recRoutes s = .next t ∧ RecDone i k 1 s t ∧
      fget (t.reg (routeKey (fget w 25 21) (fget w 20 16))) 15 0 = fget w 15 0) ∧
    (RecNext s 4 i k [w] → fget w 39 16 = 0 → (applySplit [w] (s, none)).2 = none → ∃ t, exec .recStageSplit s = .next t ∧ RecDone i k 1 s t ∧
      ∀ n, n < 4 → t.fld (Reg.HS_SPLIT n) 3 0 = fget w (4 * n + 3) (4 * n)) ∧
    (RecNext s 5 i k b → (applyCuff b (s, none)).2 = none → ∃ t, exec .recCuff s = .next t ∧ RecDone i k b.length s t ∧ t.boot.cufMask = fget w 1 0 ∧
      (bget w 0 = true → t.fld (Reg.CUF_VCCFG 0) 2 0 = fget (b.getD 1 0) 2 0 ∧ t.fld (Reg.CUF_VCCFG 0) 6 4 = fget (b.getD 1 0) 6 4 ∧
        t.fld (Reg.CUF_TIMERS 0) 5 0 = fget (b.getD 2 0) 5 0 ∧ ∀ v, v < 8 → t.fld (Reg.CUF_WIN 0 v) 9 0 = fget (b.getD (3 + v) 0) 9 0)) ∧
    (RecNext s 6 i k b → (applyConsort b (s, none)).2 = none →
      let n := fget w 7 4
      ∃ t, exec .recConsort s = .next t ∧ RecDone i k b.length s t ∧ t.fld Reg.CNS_CFG 3 0 = fget w 3 0 ∧ fget w 3 0 % 2 = 1 ∧
        (∀ q, q < 4 → t.fld (Reg.CNS_EXPOSE q) 6 0 = fget (b.getD (1 + n + 4 * ownId s + q) 0) 6 0) ∧
        (∀ m, m < 4 → m ≠ ownId s → (fget w 3 0).testBit m = true → ∀ p, linkPort (((b.drop 1).take n).map linkOf) (ownId s) m = some p →
          t.fld (Reg.CNS_PEER m) 2 1 = 1 ∧ t.fld (Reg.CNS_PEER m) 0 0 = p)) ∧
    (RecNext s 7 i k b → fget w 4 0 = 1 → (applyPartitions b (s, none)).2 = none →
      let f := fget (b.getD 1 0) 4 0
      ∃ t, exec .recPartitions s = .next t ∧ RecDone i k b.length s t ∧ fnCreated t f = true ∧ t.fld (Reg.SEF_ID f) 7 4 = fget (b.getD 1 0) 12 8 ∧
        (∀ q, q < 40 → bget (b.getD 2 0) q = true → ringFn t q = some f) ∧
        (∀ x, x < 8 → t.bit (Reg.SEF_WIN_A f x) 39 = bget (b.getD (4 + 2 * x) 0) 39 ∧ t.fld (Reg.SEF_WIN_A f x) 21 0 = fget (b.getD (4 + 2 * x) 0) 21 0)) ∧
    (RecNext s 8 i k [w] → (applyShedRanks [w] (s, none)).2 = none → ∃ t, exec .recShedRanks s = .next t ∧ RecDone i k 1 s t ∧
      ∀ c, c < 8 → t.fld (Reg.CS_SHED_RANK c) 1 0 = fget w (2 * c + 1) (2 * c)) ∧
    (∀ c, c < 8 → RecNext s 9 i k b → 0x40000 + c * 0x8000 ≤ w.toNat → w.toNat + (b.length - 1) ≤ 0x40000 + c * 0x8000 + 0x4000 → 2 ≤ b.length →
      domState s c = 0 ∧ domShed s c = false → ∃ t, exec .recPayloadLoad s = .next t ∧ RecDone i k b.length s t ∧
        t.close = memWriteN (c * 0x4000 + (w.toNat - 0x40000 - c * 0x8000)) ((b.drop 1).map (fun v => ⟨v, .good⟩)) s.close) ∧
    (RecNext s 9 i k b → 2 ^ 34 ≤ w.toNat → ∃ t, exec .recPayloadLoad s = .next t ∧ BootStops 10 s t) ∧
    (RecNext s 10 i k [w] → ∃ t, exec .recEntry s = .next t ∧ RecDone i k 1 s t ∧ t.boot.entrySet = true ∧ t.reg (Reg.BSQ_CORE_ENTRY 0) = w ∧
      RegsBut [Reg.BSQ_CORE_ENTRY 0, Reg.BSQ_ENTRY, Reg.BSQ_RECORD_CNT] s t ∧ SameMemory s t) ∧
    (RecNext s 11 i k [w] → fget w 39 1 = 0 → ∃ t, exec .recClocks s = .next t ∧ RecDone i k 1 s t ∧
      t.fld Reg.TB_TICK_FS 23 0 = (if bget w 0 then 1107214 else 1017253) ∧ SameMemory s t) ∧
    (RecNext s 12 i k b → (applyAudio b (s, none)).2 = none →
      (fget w 15 0 = 1 → ∃ t, exec .recAudioDefaults s = .next t ∧ RecDone i k 3 s t ∧ t.fld (Reg.TB_RGEN_NUM 0) 31 0 = fget (b.getD 1 0) 31 0 ∧
        t.fld (Reg.TB_RGEN_DEN 0) 19 0 = fget (b.getD 2 0) 19 0 ∧ t.bit (Reg.TB_RGEN_CTL 0) 0 = true) ∧
      (fget w 15 0 = 0x100 → audRingEn s 0 = false → s.bit (Reg.AUD_CTL 0) 0 = false → ∃ t, exec .recAudioDefaults s = .next t ∧ RecDone i k 5 s t ∧
        t.fld (Reg.AUD_SLOT_OUT 0) 15 0 = fget (b.getD 3 0) 15 0 ∧ t.fld (Reg.AUD_SLOT_IN 0) 15 0 = fget (b.getD 4 0) 15 0 ∧ t.bit (Reg.AUD_CTL 0) 0 = false)) ∧
    (∀ x : Nat, RecNext s 13 i k b → b.length = 3 → b.getD 2 0 = BitVec.allOnes 40 → w.toNat = Reg.CNS_EXPOSE x → x < 4 → s.bit Reg.SYS_STATUS 0 = false →
      domState s 15 = 0 ∧ domShed s 15 = false → ∃ t, exec .recRegisterPoke s = .next t ∧ RecDone i k 3 s t ∧ t.fld (Reg.CNS_EXPOSE x) 6 0 = fget (b.getD 1 0) 6 0 ∧ SameMemory s t) ∧
    (RecNext s 13 i k b → b.length = 3 → pokeOk s w.toNat = false → ∃ t, exec .recRegisterPoke s = .next t ∧ BootStops 10 s t) ∧
    (RecNext s 14 i k b → s.bit Reg.FGT_CTL 0 = false → (applyFingertip b (s, none)).2 = none → ∃ t, exec .recFingertip s = .next t ∧ RecDone i k 27 s t ∧
      t.fld Reg.FGT_KEYS 7 0 = fget w 7 0 ∧ t.bit Reg.FGT_KEYS 8 = bget w 8 ∧ t.fld Reg.FGT_SCAN 8 0 = fget (b.getD 1 0) 8 0 ∧
      t.fld Reg.FGT_AIN_EN 23 0 = fget (b.getD 2 0) 23 0 ∧ ∀ j, j < 24 → t.fld (Reg.FGT_AIN_CFG j) 13 4 = fget (b.getD (3 + j) 0) 13 4) ∧
    (RecNext s 15 i k b → ∃ t, exec .recSignature s = .next t ∧ RecDone i k b.length s t ∧ RegsBut [Reg.BSQ_RECORD_CNT] s t ∧ SameMemory s t)

/-- R622-R626, R629, R634, R635, R647-R649: pass 1 and its failures, a source that falls silent, and END, which seals the device and releases core 0.
The model's choices: log rows 4, 75, 78, 79. -/
def Obligations.BootPasses : Prop :=
  ∀ (flash again : List Word) (s : State), Calm s →
    let st := s.fld Reg.BSQ_STATUS 9 7
    let len := s.fld Reg.BSQ_IMAGE_LEN 31 0
    let order := bootOrder (s.fld Reg.BSQ_STRAPS 4 3)
    (st = 2 → order[s.boot.src]? = some 0 → s.tb.xbLost = false →
      (∀ d : BitVec 256, pass1 1677721 s.boot.fuses flash = .inr d → ∃ t, exec (.pass1Check flash again) s = .next t ∧ t.fld Reg.BSQ_STATUS 9 7 = 3 ∧ t.boot.digest = d ∧
        t.reg Reg.BSQ_IMAGE_LEN = BitVec.ofNat 40 (imgLength flash) ∧ t.reg Reg.BSQ_IMAGE_VER = BitVec.ofNat 40 (fget (flash.getD 1 0) 23 0) ∧ t.boot.pos = 16 ∧
        t.boot.recIdx = 0 ∧ t.boot.again = again.take (imgLength flash) ∧ SameMemory s t) ∧
      (∀ c r w : Nat, pass1 1677721 s.boot.fuses flash = .inl (c, r, w) → order[s.boot.src + 1]? = some 1 ∨ order[s.boot.src + 1]? = some 2 →
        ∃ t, exec (.pass1Check flash again) s = .next t ∧ t.fld Reg.BSQ_STATUS 9 7 = 2 ∧ t.fld Reg.BSQ_STATUS 3 0 = c % 16 ∧ t.boot.src = s.boot.src + 1 ∧
          t.reg Reg.BSQ_FAIL_CNT = s.reg Reg.BSQ_FAIL_CNT + 1 ∧ t.reg Reg.BSQ_FAIL_INFO = BitVec.ofNat 40 (r % 2 ^ 16 * 2 ^ 24 + w % 2 ^ 24) ∧ t.boot.img = [])) ∧
    (s.boot.dram = none → order[s.boot.src]? = some 2 → s.boot.since + 1000001 ≤ s.tb.pulses →
      (st = 2 → imageIn s s.boot.img = false → order[s.boot.src + 1]? = some 0 ∨ order[s.boot.src + 1]? = some 1 → s.tb.xbLost = false →
        ∃ t, exec .bootSourceTimeout s = .next t ∧ t.fld Reg.BSQ_STATUS 9 7 = 2 ∧ t.fld Reg.BSQ_STATUS 3 0 = 1 ∧ t.boot.src = s.boot.src + 1 ∧
          t.reg Reg.BSQ_FAIL_CNT = s.reg Reg.BSQ_FAIL_CNT + 1) ∧
      (st = 3 → s.boot.again.length < len → ∃ t, exec .bootSourceTimeout s = .next t ∧ BootStops 13 s t)) ∧
    (∀ (r : List (Nat × Nat × Nat)) (i k : Nat) (b : List Word), st = 3 ∧ s.boot.dram = none ∧ pass2Has s len = true ∧ pass2Records s = some r →
      let sig := ((r.find? (fun x => x.1 == 15)).getD (0, 0, 0)).2.1
      (sig ≠ 0 ∧ imgDigest s.boot.again sig = s.boot.digest ∧ recordAt s 0xFF = some (i, k, b) →
        (s.boot.entrySet = true ∧ domState s 0 = 0 ∧ s.boot.cufMask = 0 ∧ s.boot.cufSrc = false ∧ s.bit (Reg.PAIR_CTL 0) 0 = false → ∃ t, exec .endRecord s = .next t ∧
          t.isSealed = true ∧ t.fld Reg.BSQ_STATUS 9 7 = 4 ∧ t.bit Reg.FAB_STATUS 0 = true ∧ t.reg Reg.BSQ_SEAL_TICK = s.nowLo ∧ (t.core 0).run = .running ∧
          (t.core 0).pc = s.reg (Reg.BSQ_CORE_ENTRY 0) ∧ t.fld Reg.CNS_FINGERPRINT 31 0 = crc32c (imgOctets (fingerprintWords s.boot.again r))) ∧
        (s.boot.entrySet = false → ∃ t, exec .endRecord s = .next t ∧ BootStops 14 s t)) ∧
      (imgDigest s.boot.again sig ≠ s.boot.digest → ∃ t, exec .endRecord s = .next t ∧ BootStops 13 s t))

/-- R636-R641: a start resets a stopped core and sends it to its entry, or is refused; a start at a level below PL3 completes PROT; fuses are programmed only
when blank and in a presence window, and are read back; the window opens and closes; debug is relocked.
The model's choices: log rows 30, 81, 82. -/
def Obligations.StartsAndPresence : Prop :=
  ∀ (i : Initiator) (v : Word) (s : State),
    (∀ n, n < 8 → v = BitVec.ofNat 40 (2 ^ n) → Reaches Reg.BSQ_CORE_CTL s →
      let able := s.isSealed = true ∧ s.stopped n = true ∧ (s.core n).parked = false ∧ domState s n = 0 ∧ (n % 2 = 1 → s.bit (Reg.PAIR_CTL (n / 2)) 0 = false)
      let paired := n % 2 = 0 ∧ s.bit (Reg.PAIR_CTL (n / 2)) 0 = true ∧ (s.pair (n / 2)).started = false
      (initPl i = 3 → able → ∃ t, exec (.coreStart i v) s = .next t ∧ t.resp = ⟨i.ep, .ok, []⟩ ∧ (t.core n).run = .running ∧
        (t.core n).pc = s.reg (Reg.BSQ_CORE_ENTRY n) ∧ (∀ r, t.gpr n r = 0) ∧ (∀ a, t.accOf n a = 0) ∧ t.pl n = 3 ∧ t.ie n = false ∧ t.flags n = 0 ∧
        (t.core n).itlb = [] ∧ (t.core n).dtlb = [] ∧ (t.core n).l2tlb = [] ∧ (t.core n).resv = none ∧ (t.agent n).lines = [] ∧
        t.fld (Reg.CS_SHED_RANK n) 1 0 = s.fld (Reg.CS_SHED_RANK n) 1 0 ∧ t.close = s.close ∧ t.stage = s.stage ∧ t.dmcs = s.dmcs ∧ t.slices = s.slices) ∧
      (initPl i = 3 → able → ¬ paired → ∃ t, exec (.coreStart i v) s = .next t ∧ (∀ d, d ≠ n → t.core d = s.core d) ∧
        RegsBut (Reg.EIU_QUIET_STAT :: (List.range 0x80).map (fun o => corePage n + o)) s t) ∧
      (initPl i = 3 → able → paired → ∃ t, exec (.coreStart i v) s = .next t ∧ (t.pair (n / 2)).started = true ∧ t.bit (Reg.PAIR_STAT (n / 2)) 0 = true ∧
        (t.core (n + 1)).run = .running ∧ (t.core (n + 1)).pc = s.reg (Reg.BSQ_CORE_ENTRY n) ∧ (∀ r, t.gpr (n + 1) r = 0) ∧ t.pl (n + 1) = 3) ∧
      (initPl i = 3 → ¬ able → ∃ t, exec (.coreStart i v) s = .next t ∧ Took i [Reg.BSQ_CORE_STAT] s t ∧ t.bit Reg.BSQ_CORE_STAT 8 = true) ∧
      (initPl i < 3 → ∃ t, exec (.coreStart i v) s = .next t ∧ t.resp = ⟨i.ep, .prot, []⟩ ∧ Idles s t)) ∧
    (Reaches Reg.BSQ_FUSE_CTL s →
      let able := presenceOpen s = true ∧ s.boot.fuses = 0 ∧ s.bit Reg.BSQ_FUSE_STAT 1 = false ∧ s.boot.prog = none
      (able → ∃ t, exec (.fuseProgram i v) s = .next t ∧ Took i [Reg.BSQ_FUSE_STAT] s t ∧ t.bit Reg.BSQ_FUSE_STAT 1 = true ∧ t.boot.fuses = s.boot.fuses ∧
        ∃ h, t.boot.prog = some h ∧ ∀ b, b < 256 → h.getLsbD b = (s.reg (Reg.BSQ_FUSE_DATA (b / 40))).getLsbD (b % 40)) ∧
      (¬ able → ∃ t, exec (.fuseProgram i v) s = .next t ∧ Took i [Reg.BSQ_FUSE_STAT] s t ∧ t.bit Reg.BSQ_FUSE_STAT 3 = true ∧ t.boot.prog = s.boot.prog)) ∧
    (∀ got h : BitVec 256, Calm s → s.boot.prog = some h → ∃ t, exec (.fuseProgramDone got) s = .next t ∧ t.boot.prog = none ∧ t.boot.fuses = got ∧
      t.bit Reg.BSQ_FUSE_STAT 1 = false ∧ t.bit Reg.BSQ_FUSE_STAT 2 = (if got = h then s.bit Reg.BSQ_FUSE_STAT 2 else true) ∧
      (got ≠ h → s.errlog.await = [] → t.errlog.await.map (fun r => (r.blk, r.kind)) = [(.bsq, 0x62)]) ∧
      RegsBut [Reg.BSQ_FUSE_STAT, Reg.SYS_ERRLOG_LOST_CNT] s t ∧ SameMemory s t) ∧
    (Calm s → s.boot.inReset = false → s.pwr.halted = false → 2000000 ≤ s.tb.pulses → presenceOpen s = false →
      ∃ t, exec .presenceWindowOpen s = .next t ∧ t.bit Reg.BSQ_PRESENCE 16 = true ∧ t.boot.presAt = s.tb.pulses ∧ AssertedOnce 142 s t ∧
        t.reg Reg.BSQ_PRESENCE_CNT = s.reg Reg.BSQ_PRESENCE_CNT + 1 ∧ RegsBut [Reg.BSQ_PRESENCE, Reg.BSQ_PRESENCE_CNT, Reg.EIU_SRC_CNT 142] s t ∧ SameMemory s t) ∧
    (∀ low : Bool, Calm s → presenceOpen s = true → s.boot.presAt + 30000000 ≤ s.tb.pulses →
      ∃ t, exec (.presenceWindowClose low) s = .next t ∧ t.bit Reg.BSQ_PRESENCE 16 = false ∧ t.bit Reg.BSQ_PRESENCE 15 = low ∧
        RegsBut [Reg.BSQ_PRESENCE] s t ∧ SameMemory s t) ∧
    (Reaches Reg.BSQ_DEBUG s → ∃ t, exec (.debugRelock i v) s = .next t ∧ Took i [Reg.BSQ_DEBUG] s t ∧ t.bit Reg.BSQ_DEBUG 0 = false)

/-- R667-R669, R672-R675, R678, R686: the error log takes, shows and drops its records in order; a trigger begins a latch, joins one or is missed; the latch
takes every open holder's words as one event. -/
def Obligations.ErrorLogAndHatcheck : Prop :=
  ∀ (i : Initiator) (v : Word) (s : State), Calm s →
    let armed := s.bit Reg.HAT_STATUS 0
    let busy := s.bit Reg.HAT_STATUS 2
    (∀ (r : ErrRec) (rest : List ErrRec), s.errlog.await = r :: rest →
      let wakes := s.bit (Reg.HAT_KIND_EN (r.kind / 40)) (r.kind % 40) = true
      let rec_ : LogRec := ⟨BitVec.ofNat 40 (r.kind * 2 ^ 32 + r.unit * 2 ^ 21 + s.errlog.seq * 2 ^ 5), r.tick, r.addr, r.info⟩
      (s.errlog.recs.length < 16 → ∃ t, exec .errlogRecord s = .next t ∧ t.errlog.await = rest ∧ t.errlog.recs = s.errlog.recs ++ [rec_] ∧
        t.errlog.seq = (s.errlog.seq + 1) % 2 ^ 16 ∧ t.fld Reg.SYS_ERRLOG_STAT 4 0 = s.errlog.recs.length + 1 ∧
        t.reg Reg.SYS_ERRLOG_TOTAL_CNT = s.reg Reg.SYS_ERRLOG_TOTAL_CNT + 1 ∧ SameMemory s t ∧ t.cores = s.cores) ∧
      (s.errlog.recs.length < 16 → ¬ wakes → ∃ t, exec .errlogRecord s = .next t ∧
        RegsBut [Reg.SYS_ERRLOG_STAT, Reg.SYS_ERRLOG_TOTAL_CNT, Reg.EIU_SRC_CNT 144] s t) ∧
      (s.errlog.recs.length < 16 → wakes ∧ s.bit Reg.HAT_CTL 8 = true → armed = true → ∃ t, exec .errlogRecord s = .next t ∧ HatBegins 4 s t ∧
        t.reg (Reg.HAT_TRIG_REC 0) = rec_.w0 ∧ t.reg (Reg.HAT_TRIG_REC 1) = rec_.w1 ∧ t.reg (Reg.HAT_TRIG_REC 2) = rec_.w2 ∧ t.reg (Reg.HAT_TRIG_REC 3) = rec_.w3) ∧
      (16 ≤ s.errlog.recs.length → ∃ t, exec .errlogRecord s = .next t ∧ t.errlog.await = rest ∧ t.errlog.recs = s.errlog.recs ∧ t.errlog.seq = s.errlog.seq ∧
        t.bit Reg.SYS_ERRLOG_STAT 5 = true ∧ t.reg Reg.SYS_ERRLOG_LOST_CNT = s.reg Reg.SYS_ERRLOG_LOST_CNT + 1)) ∧
    (Reaches Reg.SYS_ERRLOG_POP s → ∃ t, exec (.errlogPop i v) s = .next t ∧ Took i [Reg.SYS_ERRLOG_STAT] s t ∧ t.errlog.recs = s.errlog.recs.drop 1 ∧
      t.fld Reg.SYS_ERRLOG_STAT 4 0 = (s.errlog.recs.length - 1) % 32) ∧
    (∀ (r : LogRec) (rest : List LogRec), s.errlog.recs = r :: rest → ∃ t, exec (.errlogTopRead i) s = .next t ∧ t.resp = ⟨i.ep, .ok, [⟨r.w0, .good⟩]⟩ ∧
      regView t i.ep (Reg.SYS_ERRLOG_TOP 1) = r.w1 ∧ regView t i.ep (Reg.SYS_ERRLOG_TOP 2) = r.w2 ∧ regView t i.ep (Reg.SYS_ERRLOG_TOP 3) = r.w3 ∧
      t.errlog.recs = s.errlog.recs ∧ Idles s t) ∧
    (s.errlog.recs = [] → ∃ t, exec (.errlogTopRead i) s = .next t ∧ t.resp = ⟨i.ep, .ok, [⟨0, .good⟩]⟩ ∧ regView t i.ep (Reg.SYS_ERRLOG_TOP 1) = 0 ∧ Idles s t) ∧
    (Reaches Reg.HAT_CTL s → bget v 4 = true → bget v 0 = false →
      (armed = true → ∃ t, exec (.hatTrigWrite i v) s = .next t ∧ HatBegins 0 s t) ∧
      (armed = false → busy = false → ∃ t, exec (.hatTrigWrite i v) s = .next t ∧ t.reg Reg.HAT_MISSED_CNT = s.reg Reg.HAT_MISSED_CNT + 1 ∧
        Took i (Reg.HAT_CTL :: Reg.HAT_MISSED_CNT :: Reg.EIU_SRC_CNT 145 :: rsvdRegs) s t ∧ t.hat = s.hat) ∧
      (armed = false → busy = true → ∃ t, exec (.hatTrigWrite i v) s = .next t ∧ t.bit Reg.HAT_STATUS 4 = true ∧
        Took i (Reg.HAT_CTL :: Reg.HAT_STATUS :: Reg.EIU_SRC_CNT 145 :: rsvdRegs) s t ∧ t.hat = s.hat)) ∧
    (Reaches Reg.HAT_CTL s → bget v 1 = false →
      (busy = false → ∃ t, exec (.hatArm i v) s = .next t ∧ t.bit Reg.HAT_STATUS 0 = true ∧ t.bit Reg.HAT_STATUS 1 = false ∧ t.fld Reg.HAT_STATUS 8 4 = 0 ∧
        Took i (Reg.HAT_CTL :: Reg.HAT_STATUS :: Reg.EIU_SRC_CNT 145 :: rsvdRegs) s t) ∧
      (busy = true → ∃ t, exec (.hatArm i v) s = .next t ∧ t.hat.armAfter = true ∧ t.reg Reg.HAT_STATUS = s.reg Reg.HAT_STATUS)) ∧
    (s.hat.drive = none → s.hat.quiet = false → s.bit Reg.HAT_CTL 6 = true → armed = true → ∃ t, exec .hatcheckPinTrigger s = .next t ∧ HatBegins 2 s t) ∧
    (s.hat.drive.isSome = true ∨ s.hat.quiet = true → ∃ t, exec .hatcheckPinTrigger s = .next t ∧ t.hat = s.hat ∧ Idles s t) ∧
    (∀ late : BitVec 47, s.hat.latch = some 0 → s.hat.armAfter = false →
      (∃ t, exec (.hatcheckLatch late) s = .next t ∧ t.bit Reg.HAT_STATUS 1 = true ∧ t.bit Reg.HAT_STATUS 2 = false ∧ t.hat.latch = none ∧
        t.reg Reg.HAT_LATCH_CNT = s.reg Reg.HAT_LATCH_CNT + 1 ∧
        t.reg (Reg.HAT_HIST_TICK (s.fld Reg.HAT_HIST_PTR 2 0)) = s.reg Reg.HAT_LATCH_TICK_LO ∧ t.fld Reg.HAT_HIST_PTR 2 0 = (s.fld Reg.HAT_HIST_PTR 2 0 + 1) % 8 ∧
        t.cores = s.cores ∧ SameMemory s t) ∧
      (∀ h, h < 47 →
        let valid := fun (t : State) => if h < 40 then t.bit Reg.HAT_VALID_LO h else t.bit Reg.HAT_VALID_HI (h - 40)
        let takes := late.getLsbD h = false ∧ ∀ d, (holder s h).1 = some d → domState s d ≠ 2
        ∃ t, exec (.hatcheckLatch late) s = .next t ∧ (valid t = true ↔ takes) ∧
          (takes → ∀ k w, (holder s h).2.2[k]? = some w → t.reg ((holder s h).2.1 + k) = w)))

/-- R680, R681, R684, R310: a halt request halts a running core where it stands, ends a wait without its WAITEV, waits for the grid point of an instruction in
progress, or is refused; a resume or step releases a core that debug halted or that stands at a double fault; the mailboxes' status words.
The model's choices: log rows 24, 84. -/
def Obligations.DebugControl : Prop :=
  ∀ (i : Initiator) (n : Nat) (v : Word) (s : State),
    (n < 8 → v = BitVec.ofNat 40 (2 ^ n) → Reaches Reg.DBG_CORE_HALT s →
      let free := s.stopped n = false ∧ isTrailer s n = false
      let halts := fun (t : State) (pc : Word) => t.resp = ⟨i.ep, .ok, []⟩ ∧ (t.core n).halted = true ∧ (t.core n).run = .running ∧ (t.core n).pc = pc ∧
        t.reg (Reg.DBG_CORE_PC n) = pc ∧ t.fld (Reg.CS_DBG_CTL n) 10 8 = 0 ∧ t.reg (Reg.DBG_CORE_HALT_CNT n) = s.reg (Reg.DBG_CORE_HALT_CNT n) + 1 ∧
        t.bit Reg.DBG_EVT 2 = true ∧ SameGprs n s t ∧ SameAccs n s t ∧ (∀ d, d ≠ n → t.core d = s.core d) ∧ SameMemory s t ∧
        RegsBut [Reg.CS_DBG_CTL n, Reg.DBG_CORE_PC n, Reg.DBG_CORE_HALT_CNT n, Reg.DBG_EVT, Reg.EIU_QUIET_STAT, Reg.EIU_SRC_CNT 146] s t
      (free → (s.core n).due = none → (s.core n).run = .running → ∃ t, exec (.dbgCoreHalt i v) s = .next t ∧ halts t (s.core n).pc) ∧
      (free → (s.core n).due = none → (s.core n).run = .waiting → ∃ t, exec (.dbgCoreHalt i v) s = .next t ∧ halts t ((s.core n).pc - 1)) ∧
      (free → (s.core n).due.isSome = true → ∃ t, exec (.dbgCoreHalt i v) s = .next t ∧ t.core n = { s.core n with haltReq := true } ∧
        (∀ d, d ≠ n → t.core d = s.core d) ∧ RegsBut [] s t ∧ SameMemory s t) ∧
      (¬ free → ∃ t, exec (.dbgCoreHalt i v) s = .next t ∧ Took i [Reg.DBG_CORE_STAT] s t ∧ t.bit Reg.DBG_CORE_STAT 8 = true)) ∧
    (n < 8 → v = BitVec.ofNat 40 (2 ^ n) → Reaches Reg.DBG_CORE_RESUME s →
      let held := ((s.core n).halted = true ∨ (s.core n).run = .doubleFault) ∧ isTrailer s n = false
      let goes := fun (t : State) (one : Bool) => t.resp = ⟨i.ep, .ok, []⟩ ∧ (t.core n).halted = false ∧ (t.core n).stepping = one ∧ (t.core n).skipBreak = true ∧
        (t.core n).run = (if (s.core n).run = .doubleFault then .running else (s.core n).run) ∧ (t.core n).pc = (s.core n).pc ∧ SameGprs n s t ∧ SameAccs n s t ∧
        SameMemory s t
      (held → ∃ t, exec (.dbgCoreResume i v) s = .next t ∧ goes t false) ∧
      (held → ∃ t, exec (.dbgCoreStep i v) s = .next t ∧ goes t true ∧ t.reg Reg.DBG_STEP_CNT = s.reg Reg.DBG_STEP_CNT + 1) ∧
      (held → s.bit (Reg.PAIR_CTL (n / 2)) 0 = false → isPaced s n = false → ∃ t, exec (.dbgCoreResume i v) s = .next t ∧ RegsBut [Reg.EIU_QUIET_STAT] s t ∧
        ∀ d, d ≠ n → t.core d = s.core d) ∧
      (¬ held → ∃ t, exec (.dbgCoreResume i v) s = .next t ∧ Took i [Reg.DBG_CORE_STAT] s t ∧ t.bit Reg.DBG_CORE_STAT 8 = true) ∧
      (¬ held → ∃ t, exec (.dbgCoreStep i v) s = .next t ∧ Took i [Reg.DBG_CORE_STAT] s t ∧ t.bit Reg.DBG_CORE_STAT 8 = true)) ∧
    (∀ out : Bool,
      let a := if out then Reg.DBG_MBOX_OUT_STAT else Reg.DBG_MBOX_IN_STAT
      Reaches a s → ∃ t, exec (.mailboxWrite i out v) s = .next t ∧ Took i (a :: Reg.DBG_EVT :: Reg.EIU_SRC_CNT 146 :: rsvdRegs) s t ∧
        t.bit a 7 = bget v 7 ∧ t.fld a 6 0 = (if fget v 6 0 ≤ 64 then fget v 6 0 else s.fld a 6 0) ∧
        t.bit Reg.DBG_EVT 0 = (s.bit Reg.DBG_EVT 0 || (!out && bget v 7)) ∧ t.bit Reg.DBG_EVT 1 = (s.bit Reg.DBG_EVT 1 || (out && s.bit a 7 && !bget v 7)))

/-- R641, R682, R683, R691, R736: the debug port's operations: what each leaves in the status, the data and the address register.
The model's choices: log rows 12, 87. -/
def Obligations.JtagPort : Prop :=
  ∀ (v : Word) (s : State),
    let a := s.fld Reg.DBG_JTAG_ADDR 33 0
    (JtagReady s →
      (s.jtag.lines = [] → ∃ t, exec (.jtagAddr v) s = .next t ∧ JtagEnds 0 s t ∧ t.jtag.data = s.jtag.data ∧ t.fld Reg.DBG_JTAG_ADDR 33 0 = fget v 33 0 ∧
        RegsBut [Reg.DBG_LAST_OP, Reg.DBG_JTAG_ADDR] s t) ∧
      (s.bit Reg.BSQ_DEBUG 0 = false → lockedReach a = false → ∃ t, exec (.jtagRead v) s = .next t ∧ JtagEnds 3 s t ∧ t.jtag.data = s.jtag.data ∧
        t.reg Reg.DBG_LOCKED_CNT = s.reg Reg.DBG_LOCKED_CNT + 1 ∧ RegsBut [Reg.DBG_LAST_OP, Reg.DBG_LOCKED_CNT] s t) ∧
      (s.bit Reg.BSQ_DEBUG 0 = false → lockedReach a = false → ∃ t, exec (.jtagWrite v) s = .next t ∧ JtagEnds 3 s t ∧ t.jtag.data = s.jtag.data ∧
        t.reg Reg.DBG_LOCKED_CNT = s.reg Reg.DBG_LOCKED_CNT + 1 ∧ RegsBut [Reg.DBG_LAST_OP, Reg.DBG_LOCKED_CNT] s t) ∧
      (∀ k, k < 64 → a = Reg.DBG_MBOX_IN k → s.jtag.lines = [] → Path s 30 (pageOwner a) → ∃ t, exec (.jtagRead v) s = .next t ∧ JtagEnds 0 s t ∧
        t.jtag.data = s.reg (Reg.DBG_MBOX_IN k) ∧ t.fld Reg.DBG_JTAG_ADDR 33 0 = (if bget v 0 then a + 1 else a) ∧
        t.reg Reg.DBG_ACCESS_CNT = s.reg Reg.DBG_ACCESS_CNT + 1 ∧ t.reg (Reg.DBG_MBOX_IN k) = s.reg (Reg.DBG_MBOX_IN k)) ∧
      (∀ k, k < 64 → a = Reg.DBG_MBOX_IN k → s.jtag.lines = [] → Path s 30 (pageOwner a) → ∃ t, exec (.jtagWrite v) s = .next t ∧ JtagEnds 0 s t ∧
        t.jtag.data = s.jtag.data ∧ t.fld Reg.DBG_JTAG_ADDR 33 0 = a + 1 ∧ t.reg (Reg.DBG_MBOX_IN k) = v ∧
        ∀ m, m < 64 → m ≠ k → t.reg (Reg.DBG_MBOX_IN m) = s.reg (Reg.DBG_MBOX_IN m)) ∧
      (presenceOpen s = true → ∃ t, exec (.jtagUnlock v) s = .next t ∧ JtagEnds 0 s t ∧ t.bit Reg.BSQ_DEBUG 0 = true ∧
        t.reg Reg.BSQ_UNLOCK_CNT = s.reg Reg.BSQ_UNLOCK_CNT + 1 ∧ RegsBut [Reg.DBG_LAST_OP, Reg.BSQ_DEBUG, Reg.BSQ_UNLOCK_CNT] s t) ∧
      (presenceOpen s = false → ∃ t, exec (.jtagUnlock v) s = .next t ∧ JtagEnds 4 s t ∧ RegsBut [Reg.DBG_LAST_OP] s t) ∧
      (∃ t, exec (.jtagRelock v) s = .next t ∧ JtagEnds 0 s t ∧ t.bit Reg.BSQ_DEBUG 0 = false ∧ RegsBut [Reg.DBG_LAST_OP, Reg.BSQ_DEBUG] s t) ∧
      (s.bit Reg.HAT_CTL 5 = true → s.bit Reg.HAT_STATUS 0 = true → ∃ t, exec (.jtagHatTrig v) s = .next t ∧ JtagEnds 0 s t ∧ HatBegins 1 s t) ∧
      (s.bit Reg.HAT_CTL 5 = false → ∃ t, exec (.jtagHatTrig v) s = .next t ∧ JtagEnds 0 s t ∧ t.hat = s.hat ∧ RegsBut [Reg.DBG_LAST_OP] s t) ∧
      (∀ op : Fin 16, 7 ≤ op.val → ∃ t, exec (.jtagNop op) s = .next t ∧ JtagEnds 5 s t ∧ RegsBut [Reg.DBG_LAST_OP] s t) ∧
      (∃ t, exec (.jtagNop 0) s = .next t ∧ JtagEnds s.jtag.status s t ∧ t.jtag = s.jtag ∧ RegsBut [Reg.DBG_LAST_OP] s t)) ∧
    (Calm s → s.jtag.ir = 0x10 → s.jtag.wait.isSome = true → ∃ t, exec (.jtagRead v) s = .next t ∧ t.jtag = { s.jtag with status := 1 } ∧
      RegsBut [Reg.DBG_LAST_OP] s t ∧ SameMemory s t) ∧
    (Calm s → s.jtag.ir ≠ 0x10 → ∃ t, exec (.jtagWrite v) s = .next t ∧ t.jtag = s.jtag ∧ Idles s t) ∧
    (∀ (ir : BitVec 6) (cells : BitVec 1077), Calm s → ∃ t, exec (.jtagInstructionUpdate ir cells) s = .next t ∧ t.jtag.ir = ir.toNat ∧
      (ir = 0 ∨ ir = 1 → t.jtag.cells = cells) ∧ (ir ≠ 0 → ir ≠ 1 → t.jtag.cells = s.jtag.cells) ∧ t.jtag.wait = s.jtag.wait ∧ t.jtag.data = s.jtag.data ∧ Idles s t)

/-- R18, R28, R695, R696, R697: a write of a register with no action of its own gives each field what its access code says, and captures a reserved write;
R105: a core that runs refuses writes of its page; R83: an address that holds no register answers DECODE.
The model's choices: log rows 15, 52. -/
def Obligations.RegisterWrites : Prop :=
  ∀ (i : Initiator) (a : Fin 17179869184) (v : Word) (s : State), Reaches a s →
    (plainReg a = true → initPl i = 3 → ∃ t, exec (.registerWrite i a v) s = .next t ∧ Took i (a.val :: rsvdRegs) s t ∧
      ∀ f, f ∈ fieldsAt a → t.fld a f.hi f.lo = writtenField s a f v) ∧
    (plainReg a = true → initPl i = 3 → ¬ reservedWrite s a v → ∃ t, exec (.registerWrite i a v) s = .next t ∧ Took i [a.val] s t) ∧
    (plainReg a = true → initPl i = 3 → reservedWrite s a v → ∃ t, exec (.registerWrite i a v) s = .next t ∧
      t.reg Reg.SYS_RSVD_CNT = s.reg Reg.SYS_RSVD_CNT + 1 ∧ t.bit Reg.SYS_STATUS 0 = true ∧
      (s.bit Reg.SYS_STATUS 0 = false → t.reg Reg.SYS_RSVD_ADDR = BitVec.ofNat 40 (i.ep.val * 2 ^ 34 + a.val) ∧ t.reg Reg.SYS_RSVD_DATA = v) ∧
      (s.bit Reg.SYS_STATUS 0 = true → t.bit Reg.SYS_STATUS 1 = true ∧ t.reg Reg.SYS_RSVD_ADDR = s.reg Reg.SYS_RSVD_ADDR ∧
        t.reg Reg.SYS_RSVD_DATA = s.reg Reg.SYS_RSVD_DATA)) ∧
    (∀ c o, c < 8 → o < 0x80 → a.val = corePage c + o → (regAt a).isSome = true → s.stopped c = false → ∃ t, exec (.registerWrite i a v) s = .next t ∧
      t.resp = ⟨i.ep, .prot, []⟩ ∧ Idles s t) ∧
    (regionAt s a = some .regs → (regPage a < 0x40 ∨ 0x50 ≤ regPage a) → regAt a = none → ∃ t, exec (.registerWrite i a v) s = .next t ∧
      t.resp = ⟨i.ep, .decode, []⟩ ∧ RegsBut [Reg.SYS_ERRLOG_LOST_CNT] s t ∧ t.cores = s.cores ∧ SameMemory s t)

/-- R555-R569, R579: Ethernet frames received, sent and paused, the stream time map, AAF talkers and MDIO.
The model's choices: log rows 21, 63. -/
def Obligations.EthernetMac : Prop :=
  ∀ (i : Initiator) (v : Word) (s : State),
    (∀ os : List (BitVec 8), Calm s → s.bit Reg.ETH_CTL 1 = true → ethStopped s = false →
      let l := os.map BitVec.toNat
      let type := beNat ((afterTags 8 (l.drop 12)).take 2)
      let q := s.fld Reg.ETH_CLS 2 0
      let sfd := s.now - (os.length + 5) * octetFs s / max 1 (s.fld Reg.TB_TICK_FS 23 0)
      let sized := 60 ≤ os.length ∧ os.length + 4 ≤ s.fld Reg.ETH_MAXLEN 13 0
      let mine := l.take 6 = macOctets (s.reg Reg.ETH_MAC_LO) (s.reg Reg.ETH_MAC_HI)
      let plain := type ≠ 0x8808 ∧ type ≠ 0x22F0 ∧ type ≠ 0x88F7 ∧ s.bit Reg.ETH_CLS 32 = false ∧ shedNonStream s = false ∧ s.eth.inj = false
      (¬ sized → ∃ t, exec (.ethFrameReceived os true) s = .next t ∧ t.reg Reg.ETH_RX_LEN_ERR_CNT = s.reg Reg.ETH_RX_LEN_ERR_CNT + 1 ∧ t.eth = s.eth ∧
        RegsBut [Reg.ETH_RX_FRAME_CNT, Reg.ETH_RX_OCTET_CNT, Reg.ETH_RX_LEN_ERR_CNT] s t ∧ SameMemory s t) ∧
      (sized → s.bit Reg.ETH_CTL 5 = false → ∃ t, exec (.ethFrameReceived os false) s = .next t ∧ t.reg Reg.ETH_RX_FCS_ERR_CNT = s.reg Reg.ETH_RX_FCS_ERR_CNT + 1 ∧
        t.eth = s.eth ∧ RegsBut [Reg.ETH_RX_FRAME_CNT, Reg.ETH_RX_OCTET_CNT, Reg.ETH_RX_FCS_ERR_CNT] s t ∧ SameMemory s t) ∧
      (sized → plain → mine → ∀ r, boundRing s 4 q true = some r → ringEn s r = true → fifoWords s + (os.length + 4) / 5 ≤ 4096 →
        ∃ t, exec (.ethFrameReceived os true) s = .next t ∧ t.eth = { s.eth with fifo := s.eth.fifo ++ [⟨q, l, false, BitVec.ofNat 40 sfd⟩] } ∧
          t.reg Reg.ETH_RX_FRAME_CNT = s.reg Reg.ETH_RX_FRAME_CNT + 1 ∧ t.reg Reg.ETH_RX_OCTET_CNT = s.reg Reg.ETH_RX_OCTET_CNT + BitVec.ofNat 40 (os.length + 4) ∧
          t.reg (Reg.ETH_RXQ_FRAME_CNT q) = s.reg (Reg.ETH_RXQ_FRAME_CNT q) + 1 ∧ t.reg (Reg.ETH_RXQ_LAST_TS q) = BitVec.ofNat 40 sfd ∧ SameMemory s t) ∧
      (sized → plain → mine → boundRing s 4 q true = none → ∃ t, exec (.ethFrameReceived os true) s = .next t ∧ t.eth = s.eth ∧
        t.reg Reg.ETH_RX_FIFO_DROP_CNT = s.reg Reg.ETH_RX_FIFO_DROP_CNT + 1 ∧ t.reg (Reg.ETH_RXQ_FIFO_DROP_CNT q) = s.reg (Reg.ETH_RXQ_FIFO_DROP_CNT q) + 1) ∧
      (sized → plain → daOk s (l.take 6) type = false → ∃ t, exec (.ethFrameReceived os true) s = .next t ∧ t.eth = s.eth ∧
        t.reg Reg.ETH_RX_FILTER_CNT = s.reg Reg.ETH_RX_FILTER_CNT + 1)) ∧
    (∀ p : BitVec 16, Calm s → s.bit Reg.ETH_CTL 1 = true → ethStopped s = false →
      let ignores := s.bit Reg.ETH_CTL 3
      let s1 := cbsAdvance s
      ∃ t, exec (.ethPause p) s = .next t ∧ t.reg Reg.ETH_PAUSE_RX_CNT = s.reg Reg.ETH_PAUSE_RX_CNT + 1 ∧
        t.eth.pause = (if ignores then s1.eth.pause else if p = 0 then none else some (s.tb.xbFs, p.toNat)) ∧ t.eth.wire = s1.eth.wire ∧ t.eth.fifo = s.eth.fifo ∧
        (ignores = false → p = 0 → t.reg Reg.ETH_PAUSE_ZERO_CNT = s.reg Reg.ETH_PAUSE_ZERO_CNT + 1) ∧
        RegsBut [Reg.ETH_PAUSE_RX_CNT, Reg.ETH_PAUSE_ZERO_CNT] s t ∧ SameMemory s t) ∧
    (∀ x0 q : Nat, Calm s → s.eth.pause = some (x0, q) → tbRunning s = true → s.fld Reg.TB_SLEW 25 24 = 0 → s.fld Reg.TB_TICK_FS 23 0 ≠ 0 → s.tb.xbLost = false →
      let ends := x0 + q * quantumFs s
      let tick := s.fld Reg.TB_TICK_FS 23 0
      s.now + (ends - s.tb.xbFs) < 2 ^ 80 →
      ∃ t, exec .ethPauseEnd s = .next t ∧ t.eth.pause = none ∧ ends ≤ t.tb.xbFs ∧ s.now ≤ t.now ∧ t.tb.xbFs = s.tb.xbFs + (t.now - s.now) * tick ∧
        (t.now = s.now ∨ t.tb.xbFs < ends + tick) ∧ RegsBut [] s t ∧ SameMemory s t) ∧
    (∀ q r : Nat, q < 8 → (∀ p, p < 8 → txRing s p = if p = q then some r else none) → s.bit Reg.ETH_CTL 0 = true ∧ ethStopped s = false →
      s.eth.gapEnd ≤ s.tb.xbFs →
      let s1 := pump busSrv r (cbsAdvance s)
      ∀ (e : EthTx) (u : RUnit), Calm s1 ∧ s1.eth.inj = false ∧ s1.eth.wire = none ∧ SMap.find q s1.eth.txq = some e ∧ (s1.ring e.ring).unit = some u →
        let n := max 60 e.octets.length + 4
        let sfd := BitVec.ofNat 40 (s1.now + 7 * octetFs s1 / max 1 (s1.fld Reg.TB_TICK_FS 23 0))
        (s1.eth.pause = none ∧ txEligible s1 q = true ∧ (∀ p, p < 8 → q < p → txEligible s1 p = false) ∧ e.stream = none ∧ e.paused = false →
          ∃ t, exec .ethFrameTransmit s = .next t ∧ t.eth.wire = some q ∧ t.reg Reg.ETH_TX_FRAME_CNT = s1.reg Reg.ETH_TX_FRAME_CNT + 1 ∧
            t.reg Reg.ETH_TX_OCTET_CNT = s1.reg Reg.ETH_TX_OCTET_CNT + BitVec.ofNat 40 n ∧ t.reg (Reg.ETH_TXQ_LAST_TS q) = sfd ∧
            (t.ring e.ring).unit = some { u with ts := some sfd, taken := u.moved, complete := true } ∧ SameMemory s1 t) ∧
        (s1.eth.pause.isSome = true ∧ s1.bit Reg.ETH_CTL 3 = false → ∃ t, exec .ethFrameTransmit s = .next t ∧ t.eth.wire = none ∧ Idles s1 t)) ∧
    (∀ (q : Fin 8) (r a : Nat), txRing s q = some r ∧ ethStopped s = false →
      let s1 := pump busSrv r s
      ∀ (e : EthTx) (u : RUnit) (d : FDesc), Calm s1 ∧ SMap.find q.val s1.eth.txq = some e ∧ (s1.ring e.ring).unit = some u ∧ e.stream = none ∧
        unitTotal s1 e.ring u ≤ u.moved ∧ (unitDescs s1 e.ring u).head? = some d ∧ 0x8000 ≤ descKctl d ∧ descKctl d % 16 = a →
        let w := audBits (s1.fld (Reg.ETH_AAF_CFG a) 34 33)
        let cfg := Reg.ETH_AAF_CFG a
        let h := (packAll e.octets).headD 0
        (packAll e.octets).length = 1 + aafCh s1 a * aafSpp s1 a →
        ∃ t, exec (.aafFrameBuild q) s = .next t ∧ SMap.getD 0 a t.eth.seqNo = (SMap.getD 0 a s1.eth.seqNo + 1) % 256 ∧ ∃ o : EthTx, SMap.find q.val t.eth.txq = some o ∧
          o.stream = some a ∧ o.octets.take 18 = macOctets (s1.reg (Reg.ETH_AAF_DA_LO a)) (s1.reg (Reg.ETH_AAF_DA_HI a)) ++
            macOctets (s1.reg Reg.ETH_MAC_LO) (s1.reg Reg.ETH_MAC_HI) ++ [0x81, 0] ++ beOctets 2 (s1.fld cfg 14 12 * 2 ^ 13 + s1.fld cfg 11 0) ++ [0x22, 0xF0] ∧
          o.octets.getD 20 0 = SMap.getD 0 a s1.eth.seqNo % 256 ∧
          beNat ((o.octets.drop 22).take 8) = s1.fld (Reg.ETH_AAF_ID_HI a) 23 0 * 2 ^ 40 + (s1.reg (Reg.ETH_AAF_ID_LO a)).toNat ∧
          (beNat ((o.octets.drop 30).take 4) : Int) = (gptpNs s1 (nearestTick s1.now (fget h 31 0)) + s1.fld (Reg.ETH_AAF_TRANSIT a) 31 0) % 2 ^ 32 ∧
          ∀ k, k < aafCh s1 a * aafSpp s1 a → beNat ((o.octets.drop (42 + k * (w / 8))).take (w / 8)) = fget ((packAll e.octets).getD (1 + k) 0) 39 (40 - w)) ∧
    (Reaches Reg.ETH_SMAP_COMMIT s → ∃ t, exec (.ethSmapCommit i v) s = .next t ∧ Took i (Reg.ETH_SMAP_COMMIT :: rsvdRegs) s t ∧
      t.eth.smapTick = (s.reg Reg.ETH_SMAP_TICK_HI).toNat * 2 ^ 40 + (s.reg Reg.ETH_SMAP_TICK_LO).toNat ∧
      t.eth.smapNs = (s.reg Reg.ETH_SMAP_NS_HI).toNat * 2 ^ 40 + (s.reg Reg.ETH_SMAP_NS_LO).toNat ∧ t.eth.smapScale = (s.reg Reg.ETH_SMAP_SCALE).toNat) ∧
    (∀ a : Fin 16, Reaches (Reg.ETH_AAF_CFG a) s → s.bit (Reg.ETH_AAF_CFG a) 39 = false →
      let n := (fget v 19 15 + 1) * fget v 28 20
      let nsr := fget v 32 29
      (fget v 34 33 < 3 → 3 ≤ nsr ∧ nsr ≤ 9 → n ≤ 4095 → 46 + n * (audBits (fget v 34 33) / 8) ≤ s.fld Reg.ETH_MAXLEN 13 0 → bget v 38 = false →
        ∃ t, exec (.aafStreamEnable i a v) s = .next t ∧ Took i [Reg.ETH_AAF_CFG a] s t ∧ t.bit (Reg.ETH_AAF_CFG a) 39 = true ∧
          t.fld (Reg.ETH_AAF_CFG a) 38 0 = fget v 38 0 ∧ SMap.getD 0 a.val t.eth.seqNo = 0) ∧
      (fget v 34 33 < 3 → 3 ≤ nsr ∧ nsr ≤ 9 → 4096 < 1 + n → ∃ t, exec (.aafStreamEnable i a v) s = .next t ∧
        Took i [Reg.ETH_AAF_CFG a, Reg.ETH_STATUS, Reg.EIU_SRC_CNT 104] s t ∧ t.bit (Reg.ETH_AAF_CFG a) 39 = false ∧ t.bit Reg.ETH_STATUS 1 = true)) ∧
    (Reaches Reg.ETH_MDIO_CMD s → s.eth.mdio = none → fget v 27 26 ≠ 3 → ∃ t, exec (.mdioCmdWrite i v) s = .next t ∧ Took i [] s t ∧ t.eth = { s.eth with mdio := some v } ∧
      bget (regView t i.ep Reg.ETH_MDIO_DATA) 16 = true) ∧
    (∀ d : Option (BitVec 16), Calm s → ethStopped s = false → s.eth.mdio = some v → ∃ t, exec (.mdioFrameDone d) s = .next t ∧ t.eth = { s.eth with mdio := none } ∧
      (fget v 27 26 = 2 → t.fld Reg.ETH_MDIO_DATA 15 0 = match d with | some x => x.toNat | none => 0xFFFF) ∧
      (fget v 27 26 ≠ 2 → t.reg Reg.ETH_MDIO_DATA = s.reg Reg.ETH_MDIO_DATA) ∧ RegsBut [Reg.ETH_MDIO_DATA] s t ∧ SameMemory s t)

/-- R570-R573, R579: the USB port's resets, suspend and resume, its address, and endpoint 0. -/
def Obligations.UsbControl : Prop :=
  ∀ (i : Initiator) (v : Word) (s : State),
    let st := Reg.USB_STATUS
    let src := [Reg.EIU_SRC_CNT 112, Reg.EIU_SRC_CNT 113, Reg.EIU_SRC_CNT 114]
    (Calm s → usbUp s = true →
      let quiet := fun (kind : Nat) (rx : Bool) => ∀ e, e < 8 → ∀ r, boundRing s kind e rx = some r → (s.ring r).unit = none
      (∀ hs : Bool, quiet 5 false → quiet 6 true → ∃ t, exec (.busReset hs) s = .next t ∧ t.reg Reg.USB_ADDR = 0 ∧
        (∀ e, e < 8 → t.bit (Reg.USB_EPIN_CFG e) 20 = false ∧ t.bit (Reg.USB_EPOUT_CFG e) 20 = false) ∧ t.bit st 3 = true ∧ t.bit st 2 = false ∧
        t.fld st 1 0 = (if hs && s.bit Reg.USB_CTL 2 then 2 else 1) ∧ t.reg Reg.USB_RESET_CNT = s.reg Reg.USB_RESET_CNT + 1 ∧ t.usb.ctl = false ∧ SameMemory s t) ∧
      (∀ e r : Nat, e < 8 → boundRing s 5 e false = some r → quiet 6 true → ∀ u, (s.ring r).unit = some u →
        ∃ t, exec (.busReset false) s = .next t ∧ (t.ring r).unit = some { u with status := 1, complete := true, wait := none }) ∧
      (usbSuspended s = false → ∃ t, exec .usbSuspend s = .next t ∧ t.bit st 2 = true ∧ t.bit st 4 = true ∧ t.reg Reg.USB_SUSPEND_CNT = s.reg Reg.USB_SUSPEND_CNT + 1 ∧
        t.usb = s.usb ∧ RegsBut (st :: Reg.USB_SUSPEND_CNT :: src) s t ∧ SameMemory s t) ∧
      (usbSuspended s = true → ∃ t, exec .usbResume s = .next t ∧ t.bit st 2 = false ∧ t.bit st 5 = true ∧ t.reg Reg.USB_RESUME_CNT = s.reg Reg.USB_RESUME_CNT + 1 ∧
        t.usb = s.usb ∧ RegsBut (st :: Reg.USB_RESUME_CNT :: src) s t ∧ SameMemory s t) ∧
      (∀ p : BitVec 64, ∃ t, exec (.usbSetup p) s = .next t ∧ t.reg Reg.USB_EP0_SETUP_0 = BitVec.ofNat 40 p.toNat ∧
        t.reg Reg.USB_EP0_SETUP_1 = BitVec.ofNat 40 (p.toNat / 2 ^ 40) ∧ t.usb.ctl = true ∧ t.usb.armed = 0 ∧ t.usb.addrNext = none ∧ t.bit Reg.USB_EP0_CTL 0 = false ∧
        t.bit st 7 = true ∧ t.reg Reg.USB_SETUP_CNT = s.reg Reg.USB_SETUP_CNT + 1 ∧ t.usb.eps = s.usb.eps ∧ SameMemory s t) ∧
      (s.bit Reg.USB_EP0_CTL 0 = true → ∃ t, exec .ep0Stall s = .next t ∧ t.bit Reg.USB_EP0_STATUS 0 = true ∧ t.bit st 8 = true ∧
        RegsBut (st :: Reg.USB_EP0_STATUS :: src) s t ∧ SameMemory s t) ∧
      (s.bit Reg.USB_EP0_CTL 0 = false → shedNonStream s = false →
        (Nat.testBit s.usb.armed 0 = true → ∃ t, exec .ep0Send s = .next t ∧ t.bit Reg.USB_EP0_STATUS 1 = true ∧ t.bit st 8 = true ∧ Nat.testBit t.usb.armed 0 = false ∧
          t.reg Reg.USB_TX_PKT_CNT = s.reg Reg.USB_TX_PKT_CNT + 1 ∧ RegsBut (st :: Reg.USB_EP0_STATUS :: Reg.USB_TX_PKT_CNT :: src) s t ∧ SameMemory s t) ∧
        (Nat.testBit s.usb.armed 0 = false → ∃ t, exec .ep0Send s = .next t ∧ t.usb = s.usb ∧ Idles s t) ∧
        (∀ os : List (BitVec 8), os.length ≤ 64 → Nat.testBit s.usb.armed 1 = true → ∃ t, exec (.ep0Recv os) s = .next t ∧ t.bit Reg.USB_EP0_STATUS 2 = true ∧
          t.fld Reg.USB_EP0_STATUS 10 4 = os.length ∧ t.bit st 8 = true ∧ Nat.testBit t.usb.armed 1 = false ∧
          (∀ k w, (packAll (os.map BitVec.toNat))[k]? = some w → t.reg (Reg.USB_EP0_BUF k) = w) ∧ SameMemory s t) ∧
        (Nat.testBit s.usb.armed 2 = true → ∃ t, exec .ep0StatusAck s = .next t ∧ t.bit Reg.USB_EP0_STATUS 3 = true ∧ t.bit st 8 = true ∧ t.usb.ctl = false ∧
          t.usb.addrNext = none ∧ t.reg Reg.USB_ADDR = (match s.usb.addrNext with | some a => BitVec.ofNat 40 a | none => s.reg Reg.USB_ADDR) ∧
          RegsBut (st :: Reg.USB_EP0_STATUS :: Reg.USB_ADDR :: src) s t ∧ SameMemory s t))) ∧
    (Reaches Reg.USB_CTL s → usbUp s = true → bget v 0 = true → bget v 1 = true → usbSuspended s = true → ∃ t, exec (.usbWake i v) s = .next t ∧
      t.bit st 2 = false ∧ t.bit st 5 = true ∧ t.reg Reg.USB_RESUME_CNT = s.reg Reg.USB_RESUME_CNT + 1 ∧ Took i (Reg.USB_CTL :: st :: Reg.USB_RESUME_CNT :: src) s t) ∧
    (Reaches Reg.USB_ADDR s →
      (s.usb.ctl = true → ∃ t, exec (.usbAddrWrite i v) s = .next t ∧ t.usb = { s.usb with addrNext := some (fget v 6 0) } ∧ Took i [] s t) ∧
      (s.usb.ctl = false → ∃ t, exec (.usbAddrWrite i v) s = .next t ∧ t.fld Reg.USB_ADDR 6 0 = fget v 6 0 ∧ Took i [Reg.USB_ADDR] s t)) ∧
    (Reaches Reg.USB_TEST s →
      (s.bit Reg.USB_CTL 0 = true → ∃ t, exec (.usbTestWrite i v) s = .next t ∧ Took i (Reg.USB_TEST :: rsvdRegs) s t ∧
        t.fld Reg.USB_TEST 2 0 = if fget v 2 0 ≤ 4 then fget v 2 0 else s.fld Reg.USB_TEST 2 0) ∧
      (s.bit Reg.USB_CTL 0 = false → ∃ t, exec (.usbTestWrite i v) s = .next t ∧ Took i [] s t))

/-- R574-R578, R587: USB endpoints 1 to 8, the packets they send and take, and the start of a frame.
The model's choices: log rows 22, 63, 64. -/
def Obligations.UsbEndpoints : Prop :=
  ∀ (i : Initiator) (v : Word) (s : State),
    let st := Reg.USB_STATUS
    let src := [Reg.EIU_SRC_CNT 112, Reg.EIU_SRC_CNT 113, Reg.EIU_SRC_CNT 114]
    (∀ (out : Bool) (e : Fin 8),
      let a := usbCfg out e
      let k := usbKey out e
      (Reaches a s → s.bit a 20 = false → bget v 21 = false →
        let type := fget v 18 17
        let mult := fget v 16 15
        let legal := mpsOk (usbHs s) type (fget v 10 0) = true ∧ (mult = 1 ∨ usbHs s = true ∧ (type = 1 ∨ type = 3)) ∧ usbBufWords s + epWords v ≤ 4096
        (1 ≤ type → 1 ≤ mult → legal → ∃ t, exec (.usbEpEnable i out e v) s = .next t ∧ Took i [a] s t ∧ t.bit a 20 = true ∧ t.fld a 19 0 = fget v 19 0 ∧
          (t.usbEp k).toggle = false) ∧
        (1 ≤ type → 1 ≤ mult → ¬ legal → ∃ t, exec (.usbEpEnable i out e v) s = .next t ∧ Took i (a :: st :: src) s t ∧ t.bit a 20 = false ∧ t.bit st 10 = true) ∧
        (type = 0 → ∃ t, exec (.usbEpEnable i out e v) s = .next t ∧ Took i (a :: st :: src ++ rsvdRegs) s t ∧ t.bit a 20 = false ∧ t.bit st 10 = true)) ∧
      (Reaches a s → s.bit a 20 = true → ∃ t, exec (.resetToggle i out e v) s = .next t ∧ Took i [a] s t ∧ (t.usbEp k).toggle = false ∧ t.bit a 19 = bget v 19 ∧
        t.fld a 18 0 = s.fld a 18 0 ∧ t.bit a 20 = true)) ∧
    (∀ (e : Fin 8) (acked : Bool), usbUp s = true ∧ usbSuspended s = false ∧ s.bit (Reg.USB_EPIN_CFG e) 20 = true ∧ s.bit (Reg.USB_EPIN_CFG e) 19 = false ∧
      shedNonStream s = false ∧ s.usb.inj = false ∧ fbOf s e = none →
      (Calm s ∧ usbIso s false e = false ∧ boundRing s 5 e false = none → ∃ t, exec (.usbInPacket e acked) s = .next t ∧
        t.reg (Reg.USB_EPIN_NAK_CNT e) = s.reg (Reg.USB_EPIN_NAK_CNT e) + 1 ∧ t.usb = s.usb ∧ RegsBut [Reg.USB_EPIN_NAK_CNT e] s t ∧ SameMemory s t) ∧
      (∀ r, boundRing s 5 e false = some r →
        let s1 := pump busSrv r s
        let x := s1.usbEp (1 + e)
        ∀ (p : List Nat) (z : Bool), Calm s1 ∧ usbIso s false e = false ∧ usbIso s1 false e = false ∧ usbNextIn s1 e r = some (p, z) →
          (acked = true → ∃ t, exec (.usbInPacket e acked) s = .next t ∧ (t.usbEp (1 + e)).toggle = !x.toggle ∧ (t.usbEp (1 + e)).data = x.data.drop p.length ∧
            t.reg (Reg.USB_EPIN_PKT_CNT e) = s1.reg (Reg.USB_EPIN_PKT_CNT e) + 1 ∧ t.reg (Reg.USB_EPIN_LAST_TICK e) = s1.nowLo ∧
            t.reg (Reg.USB_EPIN_OCTET_CNT e) = s1.reg (Reg.USB_EPIN_OCTET_CNT e) + BitVec.ofNat 40 p.length) ∧
          (acked = false → ∃ t, exec (.usbInPacket e acked) s = .next t ∧ { t.usb with line := s1.usb.line } = s1.usb ∧ t.usb.line = p ∧ t.reg Reg.USB_TIMEOUT_CNT = s1.reg Reg.USB_TIMEOUT_CNT + 1))) ∧
    (∀ (e : Fin 8) (os : List (BitVec 8)) (toggle : Bool), Calm s ∧ usbUp s = true ∧ usbSuspended s = false →
      let a := Reg.USB_EPOUT_CFG e
      let x := s.usbEp (17 + e)
      (s.bit a 20 = true → usbIso s true e = false → ∃ t, exec (.usbOutPacket e os toggle 1) s = .next t ∧ t.reg Reg.USB_CRC_ERR_CNT = s.reg Reg.USB_CRC_ERR_CNT + 1 ∧
        t.usb = s.usb ∧ RegsBut [Reg.USB_CRC_ERR_CNT] s t) ∧
      (s.bit a 20 = true ∧ s.bit a 19 = false ∧ usbIso s true e = false ∧ shedNonStream s = false ∧ os.length ≤ s.fld a 10 0 ∧ s.usb.inj = false →
        (x.packets.length < 2 → toggle = x.toggle → ∃ t, exec (.usbOutPacket e os toggle 0) s = .next t ∧
          t.usbEp (17 + e) = { x with packets := x.packets ++ [os.map BitVec.toNat], tss := x.tss ++ [s.reg Reg.USB_SOF_TICK], toggle := !x.toggle } ∧
          t.reg (Reg.USB_EPOUT_PKT_CNT e) = s.reg (Reg.USB_EPOUT_PKT_CNT e) + 1 ∧ t.reg (Reg.USB_EPOUT_LAST_TICK e) = s.nowLo ∧
          t.reg (Reg.USB_EPOUT_OCTET_CNT e) = s.reg (Reg.USB_EPOUT_OCTET_CNT e) + BitVec.ofNat 40 os.length ∧ SameMemory s t) ∧
        (x.packets.length < 2 → toggle ≠ x.toggle → ∃ t, exec (.usbOutPacket e os toggle 0) s = .next t ∧ t.usb = s.usb ∧
          t.reg Reg.USB_TOGGLE_ERR_CNT = s.reg Reg.USB_TOGGLE_ERR_CNT + 1 ∧ RegsBut [Reg.USB_TOGGLE_ERR_CNT] s t) ∧
        (2 ≤ x.packets.length → ∃ t, exec (.usbOutPacket e os toggle 0) s = .next t ∧ t.usb = s.usb ∧
          t.reg (Reg.USB_EPOUT_NAK_CNT e) = s.reg (Reg.USB_EPOUT_NAK_CNT e) + 1 ∧ RegsBut [Reg.USB_EPOUT_NAK_CNT e] s t))) ∧
    (∀ (frame : BitVec 11) (micro : Fin 8), Calm s ∧ usbUp s = true ∧ usbSuspended s = false →
      let n := if usbHs s then frame.toNat * 8 + micro else frame.toNat
      (∃ t, exec (.usbSof frame micro) s = .next t ∧ t.fld Reg.USB_FRAME 13 3 = frame.toNat ∧ t.fld Reg.USB_FRAME 2 0 = (if usbHs s then micro.val else 0) ∧
        t.reg Reg.USB_SOF_TICK = s.nowLo ∧ t.bit st 6 = true ∧ t.reg Reg.USB_SOF_CNT = s.reg Reg.USB_SOF_CNT + 1 ∧ t.usb.lastSof = some n ∧ SameMemory s t) ∧
      (∀ u t0 : Nat, u < 2 →
        let c := Reg.USB_FB_CTL u
        s.bit c 0 = true ∧ (s.usbFb u).openTick = some t0 ∧ s.usb.lastSof = none ∧ (s.usbFb u).sofs + 1 = 2 ^ s.fld c 11 8 ∧ s.bit c 4 = false →
        let g := s.fld c 7 5
        ∃ t, exec (.usbSof frame micro) s = .next t ∧ (t.usbFb u).openTick = some s.now ∧ (t.usbFb u).sofs = 0 ∧ t.bit st 11 = true ∧
          t.reg (Reg.USB_FB_VALUE u) = BitVec.ofNat 40 (((s.now - t0) * s.fld (Reg.TB_RGEN_DEN g) 19 0 * 2 ^ (if usbHs s then 16 else 14) /
            (s.fld (Reg.TB_RGEN_NUM g) 31 0 * 2 ^ s.fld c 11 8) + (s.reg (Reg.USB_FB_ADJ u)).toNat) % 2 ^ 32)))
end

