-- ==== Sys2Proof/Laws/Maps.lean ====
section
/-!
SUPPORT. The laws of sparse maps: read after insert, erase and put, and the canonical form that each of them keeps.
-/
namespace Sys2Proof.Machine

variable {α : Type}

@[simp] theorem SMap.find_nil (k : Nat) : SMap.find k ([] : SMap α) = none := rfl

@[simp] theorem SMap.getD_nil (d : α) (k : Nat) : SMap.getD d k [] = d := rfl

@[simp] theorem SMap.find_insert_self (k : Nat) (v : α) (m : SMap α) : SMap.find k (SMap.insert k v m) = some v := by
  induction m with
  | nil => simp [SMap.insert, SMap.find]
  | cons e t ih =>
    obtain ⟨j, w⟩ := e
    unfold SMap.insert
    split
    · simp [SMap.find]
    · split
      · simp [SMap.find]
      · simp_all [SMap.find]

theorem SMap.find_insert_ne {k j : Nat} (h : j ≠ k) (v : α) (m : SMap α) : SMap.find j (SMap.insert k v m) = SMap.find j m := by
  induction m with
  | nil => simp [SMap.insert, SMap.find, h]
  | cons e t ih =>
    obtain ⟨i, w⟩ := e
    unfold SMap.insert
    split
    · simp [SMap.find, h]
    · split
      · next hki => subst hki; simp [SMap.find, h]
      · simp [SMap.find, ih]

@[simp] theorem SMap.find_erase_self (k : Nat) (m : SMap α) : SMap.find k (SMap.erase k m) = none := by
  induction m with
  | nil => rfl
  | cons e t ih =>
    obtain ⟨j, w⟩ := e
    unfold SMap.erase
    split
    · exact ih
    · next h => simp [SMap.find, h, ih]

theorem SMap.find_erase_ne {k j : Nat} (h : j ≠ k) (m : SMap α) : SMap.find j (SMap.erase k m) = SMap.find j m := by
  induction m with
  | nil => rfl
  | cons e t ih =>
    obtain ⟨i, w⟩ := e
    unfold SMap.erase
    split
    · next hki => subst hki; simp [SMap.find, h, ih]
    · simp [SMap.find, ih]

@[simp] theorem SMap.getD_put_self [DecidableEq α] (d : α) (k : Nat) (v : α) (m : SMap α) : SMap.getD d k (SMap.put d k v m) = v := by
  unfold SMap.put SMap.getD
  split <;> simp_all

theorem SMap.getD_put_ne [DecidableEq α] {k j : Nat} (h : j ≠ k) (d e : α) (v : α) (m : SMap α) :
    SMap.getD e j (SMap.put d k v m) = SMap.getD e j m := by
  unfold SMap.put SMap.getD
  split
  · rw [SMap.find_erase_ne h]
  · rw [SMap.find_insert_ne h]

@[simp] theorem SMap.getD_insert_self (d : α) (k : Nat) (v : α) (m : SMap α) : SMap.getD d k (SMap.insert k v m) = v := by
  simp [SMap.getD]

/-! ### The canonical form -/

theorem SMap.rising_mono {m : SMap α} {a b : Nat} (hab : a ≤ b) (h : SMap.risingFrom (some b) m = true) : SMap.risingFrom (some a) m = true := by
  cases m with
  | nil => rfl
  | cons e t =>
    obtain ⟨k, v⟩ := e
    simp only [SMap.risingFrom, Bool.and_eq_true, decide_eq_true_eq] at h ⊢
    exact ⟨by omega, h.2⟩

theorem SMap.rising_none {m : SMap α} {a : Nat} (h : SMap.risingFrom (some a) m = true) : SMap.risingFrom none m = true := by
  cases m with
  | nil => rfl
  | cons e t =>
    obtain ⟨k, v⟩ := e
    simp only [SMap.risingFrom, Bool.and_eq_true] at h ⊢
    exact h.2

theorem SMap.rising_insert_some (k : Nat) (v : α) (m : SMap α) : ∀ b, b < k → SMap.risingFrom (some b) m = true →
    SMap.risingFrom (some b) (SMap.insert k v m) = true := by
  induction m with
  | nil => intro b hb _; simp [SMap.insert, SMap.risingFrom, hb]
  | cons e t ih =>
    obtain ⟨j, w⟩ := e
    intro b hb h
    simp only [SMap.risingFrom, Bool.and_eq_true, decide_eq_true_eq] at h
    unfold SMap.insert
    split
    · next hkj => simp [SMap.risingFrom, hb, hkj, h.2]
    · split
      · next hkj => subst hkj; simp [SMap.risingFrom, hb, h.2]
      · next h1 h2 => simp only [SMap.risingFrom, Bool.and_eq_true, decide_eq_true_eq]; exact ⟨h.1, ih j (by omega) h.2⟩

theorem SMap.rising_insert (k : Nat) (v : α) (m : SMap α) (h : SMap.risingFrom none m = true) : SMap.risingFrom none (SMap.insert k v m) = true := by
  cases m with
  | nil => simp [SMap.insert, SMap.risingFrom]
  | cons e t =>
    obtain ⟨j, w⟩ := e
    simp only [SMap.risingFrom] at h
    unfold SMap.insert
    split
    · next hkj => simp [SMap.risingFrom, hkj, h]
    · split
      · next hkj => subst hkj; simpa [SMap.risingFrom] using h
      · next h1 h2 => simpa [SMap.risingFrom] using SMap.rising_insert_some k v t j (by omega) h

theorem SMap.rising_erase_some (k : Nat) (m : SMap α) : ∀ b, SMap.risingFrom (some b) m = true → SMap.risingFrom (some b) (SMap.erase k m) = true := by
  induction m with
  | nil => intro b _; rfl
  | cons e t ih =>
    obtain ⟨j, w⟩ := e
    intro b h
    simp only [SMap.risingFrom, Bool.and_eq_true, decide_eq_true_eq] at h
    unfold SMap.erase
    split
    · exact ih b (SMap.rising_mono (by omega) h.2)
    · simp only [SMap.risingFrom, Bool.and_eq_true, decide_eq_true_eq]; exact ⟨h.1, ih j h.2⟩

theorem SMap.rising_erase (k : Nat) (m : SMap α) (h : SMap.risingFrom none m = true) : SMap.risingFrom none (SMap.erase k m) = true := by
  cases m with
  | nil => rfl
  | cons e t =>
    obtain ⟨j, w⟩ := e
    simp only [SMap.risingFrom] at h
    unfold SMap.erase
    split
    · exact SMap.rising_none (SMap.rising_erase_some k t j h)
    · simpa [SMap.risingFrom] using SMap.rising_erase_some k t j h

theorem SMap.mem_insert {k : Nat} {v : α} {m : SMap α} {e : Nat × α} (h : e ∈ SMap.insert k v m) : e = (k, v) ∨ e ∈ m := by
  induction m with
  | nil => simp [SMap.insert] at h; exact Or.inl h
  | cons x t ih =>
    obtain ⟨j, w⟩ := x
    unfold SMap.insert at h
    split at h
    · simpa using h
    · split at h
      · simp only [List.mem_cons] at h ⊢; tauto
      · simp only [List.mem_cons] at h ⊢
        rcases h with h | h
        · exact Or.inr (Or.inl h)
        · rcases ih h with h | h
          · exact Or.inl h
          · exact Or.inr (Or.inr h)

theorem SMap.mem_erase {k : Nat} {m : SMap α} {e : Nat × α} (h : e ∈ SMap.erase k m) : e ∈ m := by
  induction m with
  | nil => exact h
  | cons x t ih =>
    obtain ⟨j, w⟩ := x
    unfold SMap.erase at h
    split at h
    · exact List.mem_cons_of_mem _ (ih h)
    · simp only [List.mem_cons] at h ⊢
      exact h.imp id ih

/-- Writing at `k`, where an unlisted `k` reads as `d k`, keeps the canonical form. -/
theorem SMap.canon_put [DecidableEq α] (d : Nat → α) (k : Nat) (v : α) (m : SMap α) (h : SMap.canon d m = true) :
    SMap.canon d (SMap.put (d k) k v m) = true := by
  simp only [SMap.canon, Bool.and_eq_true, List.all_eq_true, decide_eq_true_eq] at h ⊢
  unfold SMap.put
  split
  · exact ⟨SMap.rising_erase k m h.1, fun e he => h.2 e (SMap.mem_erase he)⟩
  · next hv =>
    refine ⟨SMap.rising_insert k v m h.1, fun e he => ?_⟩
    rcases SMap.mem_insert he with rfl | he
    · exact hv
    · exact h.2 e he

end Sys2Proof.Machine
end

