-- ==== Sys2Proof/Laws/Regs.lean ====
section
/-!
SUPPORT. The laws of the register file and of bit fields.
-/
namespace Sys2Proof.Machine

/-! ### Registers -/

@[simp] theorem reg_setReg_self (s : State) (a : Nat) (v : Word) : (s.setReg a v).reg a = v := by simp [State.reg, State.setReg]

theorem reg_setReg_ne {a b : Nat} (h : b ≠ a) (s : State) (v : Word) : (s.setReg a v).reg b = s.reg b := by
  simp only [State.reg, State.setReg]; exact SMap.getD_put_ne h _ _ _ _

theorem reg_setReg (s : State) (a b : Nat) (v : Word) : (s.setReg a v).reg b = if b = a then v else s.reg b := by
  split
  · next h => rw [h, reg_setReg_self]
  · next h => exact reg_setReg_ne h s v

theorem reg_congr {s t : State} (h : s.regs = t.regs) (a : Nat) : s.reg a = t.reg a := by simp [State.reg, h]

@[simp] theorem reg_setFld_self (s : State) (a hi lo v : Nat) : (s.setFld a hi lo v).reg a = fset (s.reg a) hi lo v := by simp [State.setFld]
theorem reg_setFld_ne {a b : Nat} (h : b ≠ a) (s : State) (hi lo v : Nat) : (s.setFld a hi lo v).reg b = s.reg b := reg_setReg_ne h s _
@[simp] theorem reg_setBit_self (s : State) (a i : Nat) (b : Bool) : (s.setBit a i b).reg a = bset (s.reg a) i b := by simp [State.setBit]
theorem reg_setBit_ne {a b : Nat} (h : b ≠ a) (s : State) (i : Nat) (x : Bool) : (s.setBit a i x).reg b = s.reg b := reg_setReg_ne h s _
@[simp] theorem reg_inc_self (s : State) (a : Nat) : (s.inc a).reg a = s.reg a + 1 := by simp [State.inc]
theorem reg_inc_ne {a b : Nat} (h : b ≠ a) (s : State) : (s.inc a).reg b = s.reg b := reg_setReg_ne h s _
@[simp] theorem reg_addTo_self (s : State) (a n : Nat) : (s.addTo a n).reg a = s.reg a + BitVec.ofNat 40 n := by simp [State.addTo]
theorem reg_addTo_ne {a b : Nat} (h : b ≠ a) (s : State) (n : Nat) : (s.addTo a n).reg b = s.reg b := reg_setReg_ne h s _

/-! ### Records kept per copy of a block -/

@[simp] theorem core_setCore_self (s : State) (c : Nat) (v : Core) : (s.setCore c v).core c = v := by simp [State.core, State.setCore]
theorem core_setCore_ne {c d : Nat} (h : d ≠ c) (s : State) (v : Core) : (s.setCore c v).core d = s.core d := by
  simp only [State.core, State.setCore]; exact SMap.getD_put_ne h _ _ _ _
@[simp] theorem core_updCore_self (s : State) (c : Nat) (f : Core → Core) : (s.updCore c f).core c = f (s.core c) := by simp [State.updCore]
theorem core_updCore_ne {c d : Nat} (h : d ≠ c) (s : State) (f : Core → Core) : (s.updCore c f).core d = s.core d := core_setCore_ne h s _
@[simp] theorem pair_setPair_self (s : State) (n : Nat) (v : Pair) : (s.setPair n v).pair n = v := by simp [State.pair, State.setPair]
theorem pair_setPair_ne {n m : Nat} (h : m ≠ n) (s : State) (v : Pair) : (s.setPair n v).pair m = s.pair m := by
  simp only [State.pair, State.setPair]; exact SMap.getD_put_ne h _ _ _ _
@[simp] theorem agent_setAgent_self (s : State) (n : Nat) (v : Agent) : (s.setAgent n v).agent n = v := by simp [State.agent, State.setAgent]
theorem agent_setAgent_ne {n m : Nat} (h : m ≠ n) (s : State) (v : Agent) : (s.setAgent n v).agent m = s.agent m := by
  simp only [State.agent, State.setAgent]; exact SMap.getD_put_ne h _ _ _ _
@[simp] theorem slice_setSlice_self (s : State) (n : Nat) (v : Slice) : (s.setSlice n v).slice n = v := by simp [State.slice, State.setSlice]
theorem slice_setSlice_ne {n m : Nat} (h : m ≠ n) (s : State) (v : Slice) : (s.setSlice n v).slice m = s.slice m := by
  simp only [State.slice, State.setSlice]; exact SMap.getD_put_ne h _ _ _ _
@[simp] theorem dmc_setDmc_self (s : State) (n : Nat) (v : Dmc) : (s.setDmc n v).dmc n = v := by simp [State.dmc, State.setDmc]
theorem dmc_setDmc_ne {n m : Nat} (h : m ≠ n) (s : State) (v : Dmc) : (s.setDmc n v).dmc m = s.dmc m := by
  simp only [State.dmc, State.setDmc]; exact SMap.getD_put_ne h _ _ _ _

/-! ### Bit fields -/

theorem fmask_bit (hi lo i : Nat) (h : lo ≤ hi) (hi40 : hi < 40) : (fmask hi lo).getLsbD i = (decide (lo ≤ i) && decide (i ≤ hi)) := by
  simp only [fmask, BitVec.getLsbD_ofNat, Nat.testBit_mul_two_pow, Nat.testBit_two_pow_sub_one]
  by_cases h1 : i < 40 <;> by_cases h2 : lo ≤ i <;> by_cases h3 : i ≤ hi <;> simp_all <;> omega

theorem fset_bit (w : Word) (hi lo v i : Nat) (h : lo ≤ hi) (hi40 : hi < 40) :
    (fset w hi lo v).getLsbD i = if lo ≤ i ∧ i ≤ hi then v.testBit (i - lo) else w.getLsbD i := by
  simp only [fset, BitVec.getLsbD_or, BitVec.getLsbD_and, BitVec.getLsbD_not, fmask_bit hi lo i h hi40, BitVec.getLsbD_ofNat,
    Nat.testBit_mul_two_pow, Nat.testBit_mod_two_pow]
  by_cases hin : lo ≤ i ∧ i ≤ hi
  · have h1 : i < 40 := by omega
    have h2 : i - lo < hi - lo + 1 := by omega
    simp [hin.1, hin.2, h1, h2]
  · rw [if_neg hin]
    by_cases h1 : i < 40
    · by_cases h2 : lo ≤ i
      · have h3 : ¬ i ≤ hi := fun h3 => hin ⟨h2, h3⟩
        have h4 : ¬ i - lo < hi - lo + 1 := by omega
        simp [h1, h2, h3, h4]
      · simp [h1, h2]
    · have : w.getLsbD i = false := BitVec.getLsbD_of_ge w i (by omega)
      simp [h1, this]

theorem bset_bit (w : Word) (k i : Nat) (b : Bool) (hk : k < 40) : bget (bset w k b) i = if i = k then b else bget w i := by
  simp only [bget, bset]
  rw [fset_bit w k k _ i (le_refl k) hk]
  by_cases h : i = k
  · subst h; cases b <;> simp
  · have : ¬ (k ≤ i ∧ i ≤ k) := by omega
    simp [this, h]

/-- A field as its bits. -/
theorem fget_testBit (w : Word) (hi lo i : Nat) : (fget w hi lo).testBit i = (decide (i ≤ hi - lo) && w.getLsbD (lo + i)) := by
  simp only [fget, Nat.testBit_mod_two_pow, Nat.testBit_div_two_pow, BitVec.getLsbD]
  rw [Nat.add_comm i lo]
  by_cases h : i ≤ hi - lo
  · simp [h, Nat.lt_succ_of_le h]
  · have : ¬ i < hi - lo + 1 := by omega
    simp [h, this]

theorem fget_fset_self (w : Word) (hi lo v : Nat) (h : lo ≤ hi) (hi40 : hi < 40) : fget (fset w hi lo v) hi lo = v % 2 ^ (hi - lo + 1) := by
  apply Nat.eq_of_testBit_eq
  intro i
  rw [fget_testBit, fset_bit w hi lo v _ h hi40, Nat.testBit_mod_two_pow]
  by_cases hi' : i ≤ hi - lo
  · have : lo ≤ lo + i ∧ lo + i ≤ hi := by omega
    have : i < hi - lo + 1 := by omega
    simp_all
  · have : ¬ i < hi - lo + 1 := by omega
    simp [hi', this]

/-- Fields that do not meet. -/
theorem fget_fset_ne (w : Word) (hi lo v a b : Nat) (h : lo ≤ hi) (hi40 : hi < 40) (hab : b ≤ a) (hd : a < lo ∨ hi < b) :
    fget (fset w hi lo v) a b = fget w a b := by
  apply Nat.eq_of_testBit_eq
  intro i
  rw [fget_testBit, fget_testBit, fset_bit w hi lo v _ h hi40]
  by_cases hi' : i ≤ a - b
  · have : ¬ (lo ≤ b + i ∧ b + i ≤ hi) := by omega
    simp [this]
  · simp [hi']

theorem fget_bset_ne (w : Word) (k : Nat) (x : Bool) (a b : Nat) (hk : k < 40) (hab : b ≤ a) (hd : a < k ∨ k < b) :
    fget (bset w k x) a b = fget w a b := fget_fset_ne w k k _ a b (le_refl k) hk hab hd

theorem bget_fset_ne (w : Word) (hi lo v i : Nat) (h : lo ≤ hi) (hi40 : hi < 40) (hd : i < lo ∨ hi < i) : bget (fset w hi lo v) i = bget w i := by
  simp only [bget]
  rw [fset_bit w hi lo v i h hi40]
  have : ¬ (lo ≤ i ∧ i ≤ hi) := by omega
  simp [this]

end Sys2Proof.Machine
end

