-- ==== Sys2Proof/Laws/State.lean ====
section
/-!
SUPPORT. What each update of the state leaves as it was: one lemma per field and per accessor, true by unfolding.
-/
set_option linter.constructorNameAsVariable false

namespace Sys2Proof.Machine

/-! ### `State.setReg` -/

@[simp] theorem setReg_pending (s : State) (a : Nat) (v : Word) : (s.setReg a v).pending = s.pending := rfl
@[simp] theorem setReg_fresh (s : State) (a : Nat) (v : Word) : (s.setReg a v).fresh = s.fresh := rfl
@[simp] theorem setReg_cores (s : State) (a : Nat) (v : Word) : (s.setReg a v).cores = s.cores := rfl
@[simp] theorem setReg_pairs (s : State) (a : Nat) (v : Word) : (s.setReg a v).pairs = s.pairs := rfl
@[simp] theorem setReg_agents (s : State) (a : Nat) (v : Word) : (s.setReg a v).agents = s.agents := rfl
@[simp] theorem setReg_slices (s : State) (a : Nat) (v : Word) : (s.setReg a v).slices = s.slices := rfl
@[simp] theorem setReg_net (s : State) (a : Nat) (v : Word) : (s.setReg a v).net = s.net := rfl
@[simp] theorem setReg_split (s : State) (a : Nat) (v : Word) : (s.setReg a v).split = s.split := rfl
@[simp] theorem setReg_close (s : State) (a : Nat) (v : Word) : (s.setReg a v).close = s.close := rfl
@[simp] theorem setReg_stage (s : State) (a : Nat) (v : Word) : (s.setReg a v).stage = s.stage := rfl
@[simp] theorem setReg_dmcs (s : State) (a : Nat) (v : Word) : (s.setReg a v).dmcs = s.dmcs := rfl
@[simp] theorem setReg_errlog (s : State) (a : Nat) (v : Word) : (s.setReg a v).errlog = s.errlog := rfl
@[simp] theorem setReg_hat (s : State) (a : Nat) (v : Word) : (s.setReg a v).hat = s.hat := rfl
@[simp] theorem setReg_eiu (s : State) (a : Nat) (v : Word) : (s.setReg a v).eiu = s.eiu := rfl
@[simp] theorem setReg_tb (s : State) (a : Nat) (v : Word) : (s.setReg a v).tb = s.tb := rfl
@[simp] theorem setReg_fab (s : State) (a : Nat) (v : Word) : (s.setReg a v).fab = s.fab := rfl
@[simp] theorem setReg_resp (s : State) (a : Nat) (v : Word) : (s.setReg a v).resp = s.resp := rfl
@[simp] theorem setReg_seg (s : State) (a : Nat) (v : Word) : (s.setReg a v).seg = s.seg := rfl
@[simp] theorem setReg_ports (s : State) (a : Nat) (v : Word) : (s.setReg a v).ports = s.ports := rfl
@[simp] theorem setReg_eth (s : State) (a : Nat) (v : Word) : (s.setReg a v).eth = s.eth := rfl
@[simp] theorem setReg_usb (s : State) (a : Nat) (v : Word) : (s.setReg a v).usb = s.usb := rfl
@[simp] theorem setReg_cuf (s : State) (a : Nat) (v : Word) : (s.setReg a v).cuf = s.cuf := rfl
@[simp] theorem setReg_fgt (s : State) (a : Nat) (v : Word) : (s.setReg a v).fgt = s.fgt := rfl
@[simp] theorem setReg_keep (s : State) (a : Nat) (v : Word) : (s.setReg a v).keep = s.keep := rfl
@[simp] theorem setReg_keepInj (s : State) (a : Nat) (v : Word) : (s.setReg a v).keepInj = s.keepInj := rfl
@[simp] theorem setReg_cns (s : State) (a : Nat) (v : Word) : (s.setReg a v).cns = s.cns := rfl
@[simp] theorem setReg_boot (s : State) (a : Nat) (v : Word) : (s.setReg a v).boot = s.boot := rfl
@[simp] theorem setReg_pwr (s : State) (a : Nat) (v : Word) : (s.setReg a v).pwr = s.pwr := rfl
@[simp] theorem setReg_jtag (s : State) (a : Nat) (v : Word) : (s.setReg a v).jtag = s.jtag := rfl
@[simp] theorem setReg_flaws (s : State) (a : Nat) (v : Word) : (s.setReg a v).flaws = s.flaws := rfl
@[simp] theorem setReg_get_core (s : State) (a : Nat) (v : Word) (x : Nat) : (s.setReg a v).core x = s.core x := rfl
@[simp] theorem setReg_get_gpr (s : State) (a : Nat) (v : Word) (x y : Nat) : (s.setReg a v).gpr x y = s.gpr x y := rfl
@[simp] theorem setReg_get_accOf (s : State) (a : Nat) (v : Word) (x y : Nat) : (s.setReg a v).accOf x y = s.accOf x y := rfl
@[simp] theorem setReg_get_pair (s : State) (a : Nat) (v : Word) (x : Nat) : (s.setReg a v).pair x = s.pair x := rfl
@[simp] theorem setReg_get_agent (s : State) (a : Nat) (v : Word) (x : Nat) : (s.setReg a v).agent x = s.agent x := rfl
@[simp] theorem setReg_get_slice (s : State) (a : Nat) (v : Word) (x : Nat) : (s.setReg a v).slice x = s.slice x := rfl
@[simp] theorem setReg_get_dmc (s : State) (a : Nat) (v : Word) (x : Nat) : (s.setReg a v).dmc x = s.dmc x := rfl
@[simp] theorem setReg_get_cufP (s : State) (a : Nat) (v : Word) (x : Nat) : (s.setReg a v).cufP x = s.cufP x := rfl
@[simp] theorem setReg_get_now (s : State) (a : Nat) (v : Word) : (s.setReg a v).now = s.now := rfl
@[simp] theorem setReg_get_nowLo (s : State) (a : Nat) (v : Word) : (s.setReg a v).nowLo = s.nowLo := rfl
@[simp] theorem setReg_get_nowHi (s : State) (a : Nat) (v : Word) : (s.setReg a v).nowHi = s.nowHi := rfl
@[simp] theorem setReg_get_ni (s : State) (a : Nat) (v : Word) (x : Nat) : (s.setReg a v).ni x = s.ni x := rfl

/-! ### `State.setFld` -/

@[simp] theorem setFld_pending (s : State) (a hi lo v : Nat) : (s.setFld a hi lo v).pending = s.pending := rfl
@[simp] theorem setFld_fresh (s : State) (a hi lo v : Nat) : (s.setFld a hi lo v).fresh = s.fresh := rfl
@[simp] theorem setFld_cores (s : State) (a hi lo v : Nat) : (s.setFld a hi lo v).cores = s.cores := rfl
@[simp] theorem setFld_pairs (s : State) (a hi lo v : Nat) : (s.setFld a hi lo v).pairs = s.pairs := rfl
@[simp] theorem setFld_agents (s : State) (a hi lo v : Nat) : (s.setFld a hi lo v).agents = s.agents := rfl
@[simp] theorem setFld_slices (s : State) (a hi lo v : Nat) : (s.setFld a hi lo v).slices = s.slices := rfl
@[simp] theorem setFld_net (s : State) (a hi lo v : Nat) : (s.setFld a hi lo v).net = s.net := rfl
@[simp] theorem setFld_split (s : State) (a hi lo v : Nat) : (s.setFld a hi lo v).split = s.split := rfl
@[simp] theorem setFld_close (s : State) (a hi lo v : Nat) : (s.setFld a hi lo v).close = s.close := rfl
@[simp] theorem setFld_stage (s : State) (a hi lo v : Nat) : (s.setFld a hi lo v).stage = s.stage := rfl
@[simp] theorem setFld_dmcs (s : State) (a hi lo v : Nat) : (s.setFld a hi lo v).dmcs = s.dmcs := rfl
@[simp] theorem setFld_errlog (s : State) (a hi lo v : Nat) : (s.setFld a hi lo v).errlog = s.errlog := rfl
@[simp] theorem setFld_hat (s : State) (a hi lo v : Nat) : (s.setFld a hi lo v).hat = s.hat := rfl
@[simp] theorem setFld_eiu (s : State) (a hi lo v : Nat) : (s.setFld a hi lo v).eiu = s.eiu := rfl
@[simp] theorem setFld_tb (s : State) (a hi lo v : Nat) : (s.setFld a hi lo v).tb = s.tb := rfl
@[simp] theorem setFld_fab (s : State) (a hi lo v : Nat) : (s.setFld a hi lo v).fab = s.fab := rfl
@[simp] theorem setFld_resp (s : State) (a hi lo v : Nat) : (s.setFld a hi lo v).resp = s.resp := rfl
@[simp] theorem setFld_seg (s : State) (a hi lo v : Nat) : (s.setFld a hi lo v).seg = s.seg := rfl
@[simp] theorem setFld_ports (s : State) (a hi lo v : Nat) : (s.setFld a hi lo v).ports = s.ports := rfl
@[simp] theorem setFld_eth (s : State) (a hi lo v : Nat) : (s.setFld a hi lo v).eth = s.eth := rfl
@[simp] theorem setFld_usb (s : State) (a hi lo v : Nat) : (s.setFld a hi lo v).usb = s.usb := rfl
@[simp] theorem setFld_cuf (s : State) (a hi lo v : Nat) : (s.setFld a hi lo v).cuf = s.cuf := rfl
@[simp] theorem setFld_fgt (s : State) (a hi lo v : Nat) : (s.setFld a hi lo v).fgt = s.fgt := rfl
@[simp] theorem setFld_keep (s : State) (a hi lo v : Nat) : (s.setFld a hi lo v).keep = s.keep := rfl
@[simp] theorem setFld_keepInj (s : State) (a hi lo v : Nat) : (s.setFld a hi lo v).keepInj = s.keepInj := rfl
@[simp] theorem setFld_cns (s : State) (a hi lo v : Nat) : (s.setFld a hi lo v).cns = s.cns := rfl
@[simp] theorem setFld_boot (s : State) (a hi lo v : Nat) : (s.setFld a hi lo v).boot = s.boot := rfl
@[simp] theorem setFld_pwr (s : State) (a hi lo v : Nat) : (s.setFld a hi lo v).pwr = s.pwr := rfl
@[simp] theorem setFld_jtag (s : State) (a hi lo v : Nat) : (s.setFld a hi lo v).jtag = s.jtag := rfl
@[simp] theorem setFld_flaws (s : State) (a hi lo v : Nat) : (s.setFld a hi lo v).flaws = s.flaws := rfl
@[simp] theorem setFld_get_core (s : State) (a hi lo v : Nat) (x : Nat) : (s.setFld a hi lo v).core x = s.core x := rfl
@[simp] theorem setFld_get_gpr (s : State) (a hi lo v : Nat) (x y : Nat) : (s.setFld a hi lo v).gpr x y = s.gpr x y := rfl
@[simp] theorem setFld_get_accOf (s : State) (a hi lo v : Nat) (x y : Nat) : (s.setFld a hi lo v).accOf x y = s.accOf x y := rfl
@[simp] theorem setFld_get_pair (s : State) (a hi lo v : Nat) (x : Nat) : (s.setFld a hi lo v).pair x = s.pair x := rfl
@[simp] theorem setFld_get_agent (s : State) (a hi lo v : Nat) (x : Nat) : (s.setFld a hi lo v).agent x = s.agent x := rfl
@[simp] theorem setFld_get_slice (s : State) (a hi lo v : Nat) (x : Nat) : (s.setFld a hi lo v).slice x = s.slice x := rfl
@[simp] theorem setFld_get_dmc (s : State) (a hi lo v : Nat) (x : Nat) : (s.setFld a hi lo v).dmc x = s.dmc x := rfl
@[simp] theorem setFld_get_cufP (s : State) (a hi lo v : Nat) (x : Nat) : (s.setFld a hi lo v).cufP x = s.cufP x := rfl
@[simp] theorem setFld_get_now (s : State) (a hi lo v : Nat) : (s.setFld a hi lo v).now = s.now := rfl
@[simp] theorem setFld_get_nowLo (s : State) (a hi lo v : Nat) : (s.setFld a hi lo v).nowLo = s.nowLo := rfl
@[simp] theorem setFld_get_nowHi (s : State) (a hi lo v : Nat) : (s.setFld a hi lo v).nowHi = s.nowHi := rfl
@[simp] theorem setFld_get_ni (s : State) (a hi lo v : Nat) (x : Nat) : (s.setFld a hi lo v).ni x = s.ni x := rfl

/-! ### `State.setBit` -/

@[simp] theorem setBit_pending (s : State) (a i : Nat) (b : Bool) : (s.setBit a i b).pending = s.pending := rfl
@[simp] theorem setBit_fresh (s : State) (a i : Nat) (b : Bool) : (s.setBit a i b).fresh = s.fresh := rfl
@[simp] theorem setBit_cores (s : State) (a i : Nat) (b : Bool) : (s.setBit a i b).cores = s.cores := rfl
@[simp] theorem setBit_pairs (s : State) (a i : Nat) (b : Bool) : (s.setBit a i b).pairs = s.pairs := rfl
@[simp] theorem setBit_agents (s : State) (a i : Nat) (b : Bool) : (s.setBit a i b).agents = s.agents := rfl
@[simp] theorem setBit_slices (s : State) (a i : Nat) (b : Bool) : (s.setBit a i b).slices = s.slices := rfl
@[simp] theorem setBit_net (s : State) (a i : Nat) (b : Bool) : (s.setBit a i b).net = s.net := rfl
@[simp] theorem setBit_split (s : State) (a i : Nat) (b : Bool) : (s.setBit a i b).split = s.split := rfl
@[simp] theorem setBit_close (s : State) (a i : Nat) (b : Bool) : (s.setBit a i b).close = s.close := rfl
@[simp] theorem setBit_stage (s : State) (a i : Nat) (b : Bool) : (s.setBit a i b).stage = s.stage := rfl
@[simp] theorem setBit_dmcs (s : State) (a i : Nat) (b : Bool) : (s.setBit a i b).dmcs = s.dmcs := rfl
@[simp] theorem setBit_errlog (s : State) (a i : Nat) (b : Bool) : (s.setBit a i b).errlog = s.errlog := rfl
@[simp] theorem setBit_hat (s : State) (a i : Nat) (b : Bool) : (s.setBit a i b).hat = s.hat := rfl
@[simp] theorem setBit_eiu (s : State) (a i : Nat) (b : Bool) : (s.setBit a i b).eiu = s.eiu := rfl
@[simp] theorem setBit_tb (s : State) (a i : Nat) (b : Bool) : (s.setBit a i b).tb = s.tb := rfl
@[simp] theorem setBit_fab (s : State) (a i : Nat) (b : Bool) : (s.setBit a i b).fab = s.fab := rfl
@[simp] theorem setBit_resp (s : State) (a i : Nat) (b : Bool) : (s.setBit a i b).resp = s.resp := rfl
@[simp] theorem setBit_seg (s : State) (a i : Nat) (b : Bool) : (s.setBit a i b).seg = s.seg := rfl
@[simp] theorem setBit_ports (s : State) (a i : Nat) (b : Bool) : (s.setBit a i b).ports = s.ports := rfl
@[simp] theorem setBit_eth (s : State) (a i : Nat) (b : Bool) : (s.setBit a i b).eth = s.eth := rfl
@[simp] theorem setBit_usb (s : State) (a i : Nat) (b : Bool) : (s.setBit a i b).usb = s.usb := rfl
@[simp] theorem setBit_cuf (s : State) (a i : Nat) (b : Bool) : (s.setBit a i b).cuf = s.cuf := rfl
@[simp] theorem setBit_fgt (s : State) (a i : Nat) (b : Bool) : (s.setBit a i b).fgt = s.fgt := rfl
@[simp] theorem setBit_keep (s : State) (a i : Nat) (b : Bool) : (s.setBit a i b).keep = s.keep := rfl
@[simp] theorem setBit_keepInj (s : State) (a i : Nat) (b : Bool) : (s.setBit a i b).keepInj = s.keepInj := rfl
@[simp] theorem setBit_cns (s : State) (a i : Nat) (b : Bool) : (s.setBit a i b).cns = s.cns := rfl
@[simp] theorem setBit_boot (s : State) (a i : Nat) (b : Bool) : (s.setBit a i b).boot = s.boot := rfl
@[simp] theorem setBit_pwr (s : State) (a i : Nat) (b : Bool) : (s.setBit a i b).pwr = s.pwr := rfl
@[simp] theorem setBit_jtag (s : State) (a i : Nat) (b : Bool) : (s.setBit a i b).jtag = s.jtag := rfl
@[simp] theorem setBit_flaws (s : State) (a i : Nat) (b : Bool) : (s.setBit a i b).flaws = s.flaws := rfl
@[simp] theorem setBit_get_core (s : State) (a i : Nat) (b : Bool) (x : Nat) : (s.setBit a i b).core x = s.core x := rfl
@[simp] theorem setBit_get_gpr (s : State) (a i : Nat) (b : Bool) (x y : Nat) : (s.setBit a i b).gpr x y = s.gpr x y := rfl
@[simp] theorem setBit_get_accOf (s : State) (a i : Nat) (b : Bool) (x y : Nat) : (s.setBit a i b).accOf x y = s.accOf x y := rfl
@[simp] theorem setBit_get_pair (s : State) (a i : Nat) (b : Bool) (x : Nat) : (s.setBit a i b).pair x = s.pair x := rfl
@[simp] theorem setBit_get_agent (s : State) (a i : Nat) (b : Bool) (x : Nat) : (s.setBit a i b).agent x = s.agent x := rfl
@[simp] theorem setBit_get_slice (s : State) (a i : Nat) (b : Bool) (x : Nat) : (s.setBit a i b).slice x = s.slice x := rfl
@[simp] theorem setBit_get_dmc (s : State) (a i : Nat) (b : Bool) (x : Nat) : (s.setBit a i b).dmc x = s.dmc x := rfl
@[simp] theorem setBit_get_cufP (s : State) (a i : Nat) (b : Bool) (x : Nat) : (s.setBit a i b).cufP x = s.cufP x := rfl
@[simp] theorem setBit_get_now (s : State) (a i : Nat) (b : Bool) : (s.setBit a i b).now = s.now := rfl
@[simp] theorem setBit_get_nowLo (s : State) (a i : Nat) (b : Bool) : (s.setBit a i b).nowLo = s.nowLo := rfl
@[simp] theorem setBit_get_nowHi (s : State) (a i : Nat) (b : Bool) : (s.setBit a i b).nowHi = s.nowHi := rfl
@[simp] theorem setBit_get_ni (s : State) (a i : Nat) (b : Bool) (x : Nat) : (s.setBit a i b).ni x = s.ni x := rfl

/-! ### `State.inc` -/

@[simp] theorem inc_pending (s : State) (a : Nat) : (s.inc a).pending = s.pending := rfl
@[simp] theorem inc_fresh (s : State) (a : Nat) : (s.inc a).fresh = s.fresh := rfl
@[simp] theorem inc_cores (s : State) (a : Nat) : (s.inc a).cores = s.cores := rfl
@[simp] theorem inc_pairs (s : State) (a : Nat) : (s.inc a).pairs = s.pairs := rfl
@[simp] theorem inc_agents (s : State) (a : Nat) : (s.inc a).agents = s.agents := rfl
@[simp] theorem inc_slices (s : State) (a : Nat) : (s.inc a).slices = s.slices := rfl
@[simp] theorem inc_net (s : State) (a : Nat) : (s.inc a).net = s.net := rfl
@[simp] theorem inc_split (s : State) (a : Nat) : (s.inc a).split = s.split := rfl
@[simp] theorem inc_close (s : State) (a : Nat) : (s.inc a).close = s.close := rfl
@[simp] theorem inc_stage (s : State) (a : Nat) : (s.inc a).stage = s.stage := rfl
@[simp] theorem inc_dmcs (s : State) (a : Nat) : (s.inc a).dmcs = s.dmcs := rfl
@[simp] theorem inc_errlog (s : State) (a : Nat) : (s.inc a).errlog = s.errlog := rfl
@[simp] theorem inc_hat (s : State) (a : Nat) : (s.inc a).hat = s.hat := rfl
@[simp] theorem inc_eiu (s : State) (a : Nat) : (s.inc a).eiu = s.eiu := rfl
@[simp] theorem inc_tb (s : State) (a : Nat) : (s.inc a).tb = s.tb := rfl
@[simp] theorem inc_fab (s : State) (a : Nat) : (s.inc a).fab = s.fab := rfl
@[simp] theorem inc_resp (s : State) (a : Nat) : (s.inc a).resp = s.resp := rfl
@[simp] theorem inc_seg (s : State) (a : Nat) : (s.inc a).seg = s.seg := rfl
@[simp] theorem inc_ports (s : State) (a : Nat) : (s.inc a).ports = s.ports := rfl
@[simp] theorem inc_eth (s : State) (a : Nat) : (s.inc a).eth = s.eth := rfl
@[simp] theorem inc_usb (s : State) (a : Nat) : (s.inc a).usb = s.usb := rfl
@[simp] theorem inc_cuf (s : State) (a : Nat) : (s.inc a).cuf = s.cuf := rfl
@[simp] theorem inc_fgt (s : State) (a : Nat) : (s.inc a).fgt = s.fgt := rfl
@[simp] theorem inc_keep (s : State) (a : Nat) : (s.inc a).keep = s.keep := rfl
@[simp] theorem inc_keepInj (s : State) (a : Nat) : (s.inc a).keepInj = s.keepInj := rfl
@[simp] theorem inc_cns (s : State) (a : Nat) : (s.inc a).cns = s.cns := rfl
@[simp] theorem inc_boot (s : State) (a : Nat) : (s.inc a).boot = s.boot := rfl
@[simp] theorem inc_pwr (s : State) (a : Nat) : (s.inc a).pwr = s.pwr := rfl
@[simp] theorem inc_jtag (s : State) (a : Nat) : (s.inc a).jtag = s.jtag := rfl
@[simp] theorem inc_flaws (s : State) (a : Nat) : (s.inc a).flaws = s.flaws := rfl
@[simp] theorem inc_get_core (s : State) (a : Nat) (x : Nat) : (s.inc a).core x = s.core x := rfl
@[simp] theorem inc_get_gpr (s : State) (a : Nat) (x y : Nat) : (s.inc a).gpr x y = s.gpr x y := rfl
@[simp] theorem inc_get_accOf (s : State) (a : Nat) (x y : Nat) : (s.inc a).accOf x y = s.accOf x y := rfl
@[simp] theorem inc_get_pair (s : State) (a : Nat) (x : Nat) : (s.inc a).pair x = s.pair x := rfl
@[simp] theorem inc_get_agent (s : State) (a : Nat) (x : Nat) : (s.inc a).agent x = s.agent x := rfl
@[simp] theorem inc_get_slice (s : State) (a : Nat) (x : Nat) : (s.inc a).slice x = s.slice x := rfl
@[simp] theorem inc_get_dmc (s : State) (a : Nat) (x : Nat) : (s.inc a).dmc x = s.dmc x := rfl
@[simp] theorem inc_get_cufP (s : State) (a : Nat) (x : Nat) : (s.inc a).cufP x = s.cufP x := rfl
@[simp] theorem inc_get_now (s : State) (a : Nat) : (s.inc a).now = s.now := rfl
@[simp] theorem inc_get_nowLo (s : State) (a : Nat) : (s.inc a).nowLo = s.nowLo := rfl
@[simp] theorem inc_get_nowHi (s : State) (a : Nat) : (s.inc a).nowHi = s.nowHi := rfl
@[simp] theorem inc_get_ni (s : State) (a : Nat) (x : Nat) : (s.inc a).ni x = s.ni x := rfl

/-! ### `State.addTo` -/

@[simp] theorem addTo_pending (s : State) (a n : Nat) : (s.addTo a n).pending = s.pending := rfl
@[simp] theorem addTo_fresh (s : State) (a n : Nat) : (s.addTo a n).fresh = s.fresh := rfl
@[simp] theorem addTo_cores (s : State) (a n : Nat) : (s.addTo a n).cores = s.cores := rfl
@[simp] theorem addTo_pairs (s : State) (a n : Nat) : (s.addTo a n).pairs = s.pairs := rfl
@[simp] theorem addTo_agents (s : State) (a n : Nat) : (s.addTo a n).agents = s.agents := rfl
@[simp] theorem addTo_slices (s : State) (a n : Nat) : (s.addTo a n).slices = s.slices := rfl
@[simp] theorem addTo_net (s : State) (a n : Nat) : (s.addTo a n).net = s.net := rfl
@[simp] theorem addTo_split (s : State) (a n : Nat) : (s.addTo a n).split = s.split := rfl
@[simp] theorem addTo_close (s : State) (a n : Nat) : (s.addTo a n).close = s.close := rfl
@[simp] theorem addTo_stage (s : State) (a n : Nat) : (s.addTo a n).stage = s.stage := rfl
@[simp] theorem addTo_dmcs (s : State) (a n : Nat) : (s.addTo a n).dmcs = s.dmcs := rfl
@[simp] theorem addTo_errlog (s : State) (a n : Nat) : (s.addTo a n).errlog = s.errlog := rfl
@[simp] theorem addTo_hat (s : State) (a n : Nat) : (s.addTo a n).hat = s.hat := rfl
@[simp] theorem addTo_eiu (s : State) (a n : Nat) : (s.addTo a n).eiu = s.eiu := rfl
@[simp] theorem addTo_tb (s : State) (a n : Nat) : (s.addTo a n).tb = s.tb := rfl
@[simp] theorem addTo_fab (s : State) (a n : Nat) : (s.addTo a n).fab = s.fab := rfl
@[simp] theorem addTo_resp (s : State) (a n : Nat) : (s.addTo a n).resp = s.resp := rfl
@[simp] theorem addTo_seg (s : State) (a n : Nat) : (s.addTo a n).seg = s.seg := rfl
@[simp] theorem addTo_ports (s : State) (a n : Nat) : (s.addTo a n).ports = s.ports := rfl
@[simp] theorem addTo_eth (s : State) (a n : Nat) : (s.addTo a n).eth = s.eth := rfl
@[simp] theorem addTo_usb (s : State) (a n : Nat) : (s.addTo a n).usb = s.usb := rfl
@[simp] theorem addTo_cuf (s : State) (a n : Nat) : (s.addTo a n).cuf = s.cuf := rfl
@[simp] theorem addTo_fgt (s : State) (a n : Nat) : (s.addTo a n).fgt = s.fgt := rfl
@[simp] theorem addTo_keep (s : State) (a n : Nat) : (s.addTo a n).keep = s.keep := rfl
@[simp] theorem addTo_keepInj (s : State) (a n : Nat) : (s.addTo a n).keepInj = s.keepInj := rfl
@[simp] theorem addTo_cns (s : State) (a n : Nat) : (s.addTo a n).cns = s.cns := rfl
@[simp] theorem addTo_boot (s : State) (a n : Nat) : (s.addTo a n).boot = s.boot := rfl
@[simp] theorem addTo_pwr (s : State) (a n : Nat) : (s.addTo a n).pwr = s.pwr := rfl
@[simp] theorem addTo_jtag (s : State) (a n : Nat) : (s.addTo a n).jtag = s.jtag := rfl
@[simp] theorem addTo_flaws (s : State) (a n : Nat) : (s.addTo a n).flaws = s.flaws := rfl
@[simp] theorem addTo_get_core (s : State) (a n : Nat) (x : Nat) : (s.addTo a n).core x = s.core x := rfl
@[simp] theorem addTo_get_gpr (s : State) (a n : Nat) (x y : Nat) : (s.addTo a n).gpr x y = s.gpr x y := rfl
@[simp] theorem addTo_get_accOf (s : State) (a n : Nat) (x y : Nat) : (s.addTo a n).accOf x y = s.accOf x y := rfl
@[simp] theorem addTo_get_pair (s : State) (a n : Nat) (x : Nat) : (s.addTo a n).pair x = s.pair x := rfl
@[simp] theorem addTo_get_agent (s : State) (a n : Nat) (x : Nat) : (s.addTo a n).agent x = s.agent x := rfl
@[simp] theorem addTo_get_slice (s : State) (a n : Nat) (x : Nat) : (s.addTo a n).slice x = s.slice x := rfl
@[simp] theorem addTo_get_dmc (s : State) (a n : Nat) (x : Nat) : (s.addTo a n).dmc x = s.dmc x := rfl
@[simp] theorem addTo_get_cufP (s : State) (a n : Nat) (x : Nat) : (s.addTo a n).cufP x = s.cufP x := rfl
@[simp] theorem addTo_get_now (s : State) (a n : Nat) : (s.addTo a n).now = s.now := rfl
@[simp] theorem addTo_get_nowLo (s : State) (a n : Nat) : (s.addTo a n).nowLo = s.nowLo := rfl
@[simp] theorem addTo_get_nowHi (s : State) (a n : Nat) : (s.addTo a n).nowHi = s.nowHi := rfl
@[simp] theorem addTo_get_ni (s : State) (a n : Nat) (x : Nat) : (s.addTo a n).ni x = s.ni x := rfl

/-! ### `State.setFlags` -/

@[simp] theorem setFlags_pending (s : State) (c f : Nat) : (s.setFlags c f).pending = s.pending := rfl
@[simp] theorem setFlags_fresh (s : State) (c f : Nat) : (s.setFlags c f).fresh = s.fresh := rfl
@[simp] theorem setFlags_cores (s : State) (c f : Nat) : (s.setFlags c f).cores = s.cores := rfl
@[simp] theorem setFlags_pairs (s : State) (c f : Nat) : (s.setFlags c f).pairs = s.pairs := rfl
@[simp] theorem setFlags_agents (s : State) (c f : Nat) : (s.setFlags c f).agents = s.agents := rfl
@[simp] theorem setFlags_slices (s : State) (c f : Nat) : (s.setFlags c f).slices = s.slices := rfl
@[simp] theorem setFlags_net (s : State) (c f : Nat) : (s.setFlags c f).net = s.net := rfl
@[simp] theorem setFlags_split (s : State) (c f : Nat) : (s.setFlags c f).split = s.split := rfl
@[simp] theorem setFlags_close (s : State) (c f : Nat) : (s.setFlags c f).close = s.close := rfl
@[simp] theorem setFlags_stage (s : State) (c f : Nat) : (s.setFlags c f).stage = s.stage := rfl
@[simp] theorem setFlags_dmcs (s : State) (c f : Nat) : (s.setFlags c f).dmcs = s.dmcs := rfl
@[simp] theorem setFlags_errlog (s : State) (c f : Nat) : (s.setFlags c f).errlog = s.errlog := rfl
@[simp] theorem setFlags_hat (s : State) (c f : Nat) : (s.setFlags c f).hat = s.hat := rfl
@[simp] theorem setFlags_eiu (s : State) (c f : Nat) : (s.setFlags c f).eiu = s.eiu := rfl
@[simp] theorem setFlags_tb (s : State) (c f : Nat) : (s.setFlags c f).tb = s.tb := rfl
@[simp] theorem setFlags_fab (s : State) (c f : Nat) : (s.setFlags c f).fab = s.fab := rfl
@[simp] theorem setFlags_resp (s : State) (c f : Nat) : (s.setFlags c f).resp = s.resp := rfl
@[simp] theorem setFlags_seg (s : State) (c f : Nat) : (s.setFlags c f).seg = s.seg := rfl
@[simp] theorem setFlags_ports (s : State) (c f : Nat) : (s.setFlags c f).ports = s.ports := rfl
@[simp] theorem setFlags_eth (s : State) (c f : Nat) : (s.setFlags c f).eth = s.eth := rfl
@[simp] theorem setFlags_usb (s : State) (c f : Nat) : (s.setFlags c f).usb = s.usb := rfl
@[simp] theorem setFlags_cuf (s : State) (c f : Nat) : (s.setFlags c f).cuf = s.cuf := rfl
@[simp] theorem setFlags_fgt (s : State) (c f : Nat) : (s.setFlags c f).fgt = s.fgt := rfl
@[simp] theorem setFlags_keep (s : State) (c f : Nat) : (s.setFlags c f).keep = s.keep := rfl
@[simp] theorem setFlags_keepInj (s : State) (c f : Nat) : (s.setFlags c f).keepInj = s.keepInj := rfl
@[simp] theorem setFlags_cns (s : State) (c f : Nat) : (s.setFlags c f).cns = s.cns := rfl
@[simp] theorem setFlags_boot (s : State) (c f : Nat) : (s.setFlags c f).boot = s.boot := rfl
@[simp] theorem setFlags_pwr (s : State) (c f : Nat) : (s.setFlags c f).pwr = s.pwr := rfl
@[simp] theorem setFlags_jtag (s : State) (c f : Nat) : (s.setFlags c f).jtag = s.jtag := rfl
@[simp] theorem setFlags_flaws (s : State) (c f : Nat) : (s.setFlags c f).flaws = s.flaws := rfl
@[simp] theorem setFlags_get_core (s : State) (c f : Nat) (x : Nat) : (s.setFlags c f).core x = s.core x := rfl
@[simp] theorem setFlags_get_gpr (s : State) (c f : Nat) (x y : Nat) : (s.setFlags c f).gpr x y = s.gpr x y := rfl
@[simp] theorem setFlags_get_accOf (s : State) (c f : Nat) (x y : Nat) : (s.setFlags c f).accOf x y = s.accOf x y := rfl
@[simp] theorem setFlags_get_pair (s : State) (c f : Nat) (x : Nat) : (s.setFlags c f).pair x = s.pair x := rfl
@[simp] theorem setFlags_get_agent (s : State) (c f : Nat) (x : Nat) : (s.setFlags c f).agent x = s.agent x := rfl
@[simp] theorem setFlags_get_slice (s : State) (c f : Nat) (x : Nat) : (s.setFlags c f).slice x = s.slice x := rfl
@[simp] theorem setFlags_get_dmc (s : State) (c f : Nat) (x : Nat) : (s.setFlags c f).dmc x = s.dmc x := rfl
@[simp] theorem setFlags_get_cufP (s : State) (c f : Nat) (x : Nat) : (s.setFlags c f).cufP x = s.cufP x := rfl
@[simp] theorem setFlags_get_now (s : State) (c f : Nat) : (s.setFlags c f).now = s.now := rfl
@[simp] theorem setFlags_get_nowLo (s : State) (c f : Nat) : (s.setFlags c f).nowLo = s.nowLo := rfl
@[simp] theorem setFlags_get_nowHi (s : State) (c f : Nat) : (s.setFlags c f).nowHi = s.nowHi := rfl
@[simp] theorem setFlags_get_ni (s : State) (c f : Nat) (x : Nat) : (s.setFlags c f).ni x = s.ni x := rfl

/-! ### `State.setCore` -/

@[simp] theorem setCore_pending (s : State) (c : Nat) (v : Core) : (s.setCore c v).pending = s.pending := rfl
@[simp] theorem setCore_regs (s : State) (c : Nat) (v : Core) : (s.setCore c v).regs = s.regs := rfl
@[simp] theorem setCore_fresh (s : State) (c : Nat) (v : Core) : (s.setCore c v).fresh = s.fresh := rfl
@[simp] theorem setCore_pairs (s : State) (c : Nat) (v : Core) : (s.setCore c v).pairs = s.pairs := rfl
@[simp] theorem setCore_agents (s : State) (c : Nat) (v : Core) : (s.setCore c v).agents = s.agents := rfl
@[simp] theorem setCore_slices (s : State) (c : Nat) (v : Core) : (s.setCore c v).slices = s.slices := rfl
@[simp] theorem setCore_net (s : State) (c : Nat) (v : Core) : (s.setCore c v).net = s.net := rfl
@[simp] theorem setCore_split (s : State) (c : Nat) (v : Core) : (s.setCore c v).split = s.split := rfl
@[simp] theorem setCore_close (s : State) (c : Nat) (v : Core) : (s.setCore c v).close = s.close := rfl
@[simp] theorem setCore_stage (s : State) (c : Nat) (v : Core) : (s.setCore c v).stage = s.stage := rfl
@[simp] theorem setCore_dmcs (s : State) (c : Nat) (v : Core) : (s.setCore c v).dmcs = s.dmcs := rfl
@[simp] theorem setCore_errlog (s : State) (c : Nat) (v : Core) : (s.setCore c v).errlog = s.errlog := rfl
@[simp] theorem setCore_hat (s : State) (c : Nat) (v : Core) : (s.setCore c v).hat = s.hat := rfl
@[simp] theorem setCore_eiu (s : State) (c : Nat) (v : Core) : (s.setCore c v).eiu = s.eiu := rfl
@[simp] theorem setCore_tb (s : State) (c : Nat) (v : Core) : (s.setCore c v).tb = s.tb := rfl
@[simp] theorem setCore_fab (s : State) (c : Nat) (v : Core) : (s.setCore c v).fab = s.fab := rfl
@[simp] theorem setCore_resp (s : State) (c : Nat) (v : Core) : (s.setCore c v).resp = s.resp := rfl
@[simp] theorem setCore_seg (s : State) (c : Nat) (v : Core) : (s.setCore c v).seg = s.seg := rfl
@[simp] theorem setCore_ports (s : State) (c : Nat) (v : Core) : (s.setCore c v).ports = s.ports := rfl
@[simp] theorem setCore_eth (s : State) (c : Nat) (v : Core) : (s.setCore c v).eth = s.eth := rfl
@[simp] theorem setCore_usb (s : State) (c : Nat) (v : Core) : (s.setCore c v).usb = s.usb := rfl
@[simp] theorem setCore_cuf (s : State) (c : Nat) (v : Core) : (s.setCore c v).cuf = s.cuf := rfl
@[simp] theorem setCore_fgt (s : State) (c : Nat) (v : Core) : (s.setCore c v).fgt = s.fgt := rfl
@[simp] theorem setCore_keep (s : State) (c : Nat) (v : Core) : (s.setCore c v).keep = s.keep := rfl
@[simp] theorem setCore_keepInj (s : State) (c : Nat) (v : Core) : (s.setCore c v).keepInj = s.keepInj := rfl
@[simp] theorem setCore_cns (s : State) (c : Nat) (v : Core) : (s.setCore c v).cns = s.cns := rfl
@[simp] theorem setCore_boot (s : State) (c : Nat) (v : Core) : (s.setCore c v).boot = s.boot := rfl
@[simp] theorem setCore_pwr (s : State) (c : Nat) (v : Core) : (s.setCore c v).pwr = s.pwr := rfl
@[simp] theorem setCore_jtag (s : State) (c : Nat) (v : Core) : (s.setCore c v).jtag = s.jtag := rfl
@[simp] theorem setCore_flaws (s : State) (c : Nat) (v : Core) : (s.setCore c v).flaws = s.flaws := rfl
@[simp] theorem setCore_get_pair (s : State) (c : Nat) (v : Core) (x : Nat) : (s.setCore c v).pair x = s.pair x := rfl
@[simp] theorem setCore_get_agent (s : State) (c : Nat) (v : Core) (x : Nat) : (s.setCore c v).agent x = s.agent x := rfl
@[simp] theorem setCore_get_slice (s : State) (c : Nat) (v : Core) (x : Nat) : (s.setCore c v).slice x = s.slice x := rfl
@[simp] theorem setCore_get_dmc (s : State) (c : Nat) (v : Core) (x : Nat) : (s.setCore c v).dmc x = s.dmc x := rfl
@[simp] theorem setCore_get_cufP (s : State) (c : Nat) (v : Core) (x : Nat) : (s.setCore c v).cufP x = s.cufP x := rfl
@[simp] theorem setCore_get_reg (s : State) (c : Nat) (v : Core) (x : Nat) : (s.setCore c v).reg x = s.reg x := rfl
@[simp] theorem setCore_get_bit (s : State) (c : Nat) (v : Core) (x y : Nat) : (s.setCore c v).bit x y = s.bit x y := rfl
@[simp] theorem setCore_get_fld (s : State) (c : Nat) (v : Core) (x y z : Nat) : (s.setCore c v).fld x y z = s.fld x y z := rfl
@[simp] theorem setCore_get_pl (s : State) (c : Nat) (v : Core) (x : Nat) : (s.setCore c v).pl x = s.pl x := rfl
@[simp] theorem setCore_get_flags (s : State) (c : Nat) (v : Core) (x : Nat) : (s.setCore c v).flags x = s.flags x := rfl
@[simp] theorem setCore_get_now (s : State) (c : Nat) (v : Core) : (s.setCore c v).now = s.now := rfl
@[simp] theorem setCore_get_nowLo (s : State) (c : Nat) (v : Core) : (s.setCore c v).nowLo = s.nowLo := rfl
@[simp] theorem setCore_get_nowHi (s : State) (c : Nat) (v : Core) : (s.setCore c v).nowHi = s.nowHi := rfl
@[simp] theorem setCore_get_ni (s : State) (c : Nat) (v : Core) (x : Nat) : (s.setCore c v).ni x = s.ni x := rfl

/-! ### `State.updCore` -/

@[simp] theorem updCore_pending (s : State) (c : Nat) (f : Core → Core) : (s.updCore c f).pending = s.pending := rfl
@[simp] theorem updCore_regs (s : State) (c : Nat) (f : Core → Core) : (s.updCore c f).regs = s.regs := rfl
@[simp] theorem updCore_fresh (s : State) (c : Nat) (f : Core → Core) : (s.updCore c f).fresh = s.fresh := rfl
@[simp] theorem updCore_pairs (s : State) (c : Nat) (f : Core → Core) : (s.updCore c f).pairs = s.pairs := rfl
@[simp] theorem updCore_agents (s : State) (c : Nat) (f : Core → Core) : (s.updCore c f).agents = s.agents := rfl
@[simp] theorem updCore_slices (s : State) (c : Nat) (f : Core → Core) : (s.updCore c f).slices = s.slices := rfl
@[simp] theorem updCore_net (s : State) (c : Nat) (f : Core → Core) : (s.updCore c f).net = s.net := rfl
@[simp] theorem updCore_split (s : State) (c : Nat) (f : Core → Core) : (s.updCore c f).split = s.split := rfl
@[simp] theorem updCore_close (s : State) (c : Nat) (f : Core → Core) : (s.updCore c f).close = s.close := rfl
@[simp] theorem updCore_stage (s : State) (c : Nat) (f : Core → Core) : (s.updCore c f).stage = s.stage := rfl
@[simp] theorem updCore_dmcs (s : State) (c : Nat) (f : Core → Core) : (s.updCore c f).dmcs = s.dmcs := rfl
@[simp] theorem updCore_errlog (s : State) (c : Nat) (f : Core → Core) : (s.updCore c f).errlog = s.errlog := rfl
@[simp] theorem updCore_hat (s : State) (c : Nat) (f : Core → Core) : (s.updCore c f).hat = s.hat := rfl
@[simp] theorem updCore_eiu (s : State) (c : Nat) (f : Core → Core) : (s.updCore c f).eiu = s.eiu := rfl
@[simp] theorem updCore_tb (s : State) (c : Nat) (f : Core → Core) : (s.updCore c f).tb = s.tb := rfl
@[simp] theorem updCore_fab (s : State) (c : Nat) (f : Core → Core) : (s.updCore c f).fab = s.fab := rfl
@[simp] theorem updCore_resp (s : State) (c : Nat) (f : Core → Core) : (s.updCore c f).resp = s.resp := rfl
@[simp] theorem updCore_seg (s : State) (c : Nat) (f : Core → Core) : (s.updCore c f).seg = s.seg := rfl
@[simp] theorem updCore_ports (s : State) (c : Nat) (f : Core → Core) : (s.updCore c f).ports = s.ports := rfl
@[simp] theorem updCore_eth (s : State) (c : Nat) (f : Core → Core) : (s.updCore c f).eth = s.eth := rfl
@[simp] theorem updCore_usb (s : State) (c : Nat) (f : Core → Core) : (s.updCore c f).usb = s.usb := rfl
@[simp] theorem updCore_cuf (s : State) (c : Nat) (f : Core → Core) : (s.updCore c f).cuf = s.cuf := rfl
@[simp] theorem updCore_fgt (s : State) (c : Nat) (f : Core → Core) : (s.updCore c f).fgt = s.fgt := rfl
@[simp] theorem updCore_keep (s : State) (c : Nat) (f : Core → Core) : (s.updCore c f).keep = s.keep := rfl
@[simp] theorem updCore_keepInj (s : State) (c : Nat) (f : Core → Core) : (s.updCore c f).keepInj = s.keepInj := rfl
@[simp] theorem updCore_cns (s : State) (c : Nat) (f : Core → Core) : (s.updCore c f).cns = s.cns := rfl
@[simp] theorem updCore_boot (s : State) (c : Nat) (f : Core → Core) : (s.updCore c f).boot = s.boot := rfl
@[simp] theorem updCore_pwr (s : State) (c : Nat) (f : Core → Core) : (s.updCore c f).pwr = s.pwr := rfl
@[simp] theorem updCore_jtag (s : State) (c : Nat) (f : Core → Core) : (s.updCore c f).jtag = s.jtag := rfl
@[simp] theorem updCore_flaws (s : State) (c : Nat) (f : Core → Core) : (s.updCore c f).flaws = s.flaws := rfl
@[simp] theorem updCore_get_pair (s : State) (c : Nat) (f : Core → Core) (x : Nat) : (s.updCore c f).pair x = s.pair x := rfl
@[simp] theorem updCore_get_agent (s : State) (c : Nat) (f : Core → Core) (x : Nat) : (s.updCore c f).agent x = s.agent x := rfl
@[simp] theorem updCore_get_slice (s : State) (c : Nat) (f : Core → Core) (x : Nat) : (s.updCore c f).slice x = s.slice x := rfl
@[simp] theorem updCore_get_dmc (s : State) (c : Nat) (f : Core → Core) (x : Nat) : (s.updCore c f).dmc x = s.dmc x := rfl
@[simp] theorem updCore_get_cufP (s : State) (c : Nat) (f : Core → Core) (x : Nat) : (s.updCore c f).cufP x = s.cufP x := rfl
@[simp] theorem updCore_get_reg (s : State) (c : Nat) (f : Core → Core) (x : Nat) : (s.updCore c f).reg x = s.reg x := rfl
@[simp] theorem updCore_get_bit (s : State) (c : Nat) (f : Core → Core) (x y : Nat) : (s.updCore c f).bit x y = s.bit x y := rfl
@[simp] theorem updCore_get_fld (s : State) (c : Nat) (f : Core → Core) (x y z : Nat) : (s.updCore c f).fld x y z = s.fld x y z := rfl
@[simp] theorem updCore_get_pl (s : State) (c : Nat) (f : Core → Core) (x : Nat) : (s.updCore c f).pl x = s.pl x := rfl
@[simp] theorem updCore_get_flags (s : State) (c : Nat) (f : Core → Core) (x : Nat) : (s.updCore c f).flags x = s.flags x := rfl
@[simp] theorem updCore_get_now (s : State) (c : Nat) (f : Core → Core) : (s.updCore c f).now = s.now := rfl
@[simp] theorem updCore_get_nowLo (s : State) (c : Nat) (f : Core → Core) : (s.updCore c f).nowLo = s.nowLo := rfl
@[simp] theorem updCore_get_nowHi (s : State) (c : Nat) (f : Core → Core) : (s.updCore c f).nowHi = s.nowHi := rfl
@[simp] theorem updCore_get_ni (s : State) (c : Nat) (f : Core → Core) (x : Nat) : (s.updCore c f).ni x = s.ni x := rfl

/-! ### `State.setAcc` -/

@[simp] theorem setAcc_pending (s : State) (c a : Nat) (v : BitVec 80) : (s.setAcc c a v).pending = s.pending := rfl
@[simp] theorem setAcc_regs (s : State) (c a : Nat) (v : BitVec 80) : (s.setAcc c a v).regs = s.regs := rfl
@[simp] theorem setAcc_fresh (s : State) (c a : Nat) (v : BitVec 80) : (s.setAcc c a v).fresh = s.fresh := rfl
@[simp] theorem setAcc_pairs (s : State) (c a : Nat) (v : BitVec 80) : (s.setAcc c a v).pairs = s.pairs := rfl
@[simp] theorem setAcc_agents (s : State) (c a : Nat) (v : BitVec 80) : (s.setAcc c a v).agents = s.agents := rfl
@[simp] theorem setAcc_slices (s : State) (c a : Nat) (v : BitVec 80) : (s.setAcc c a v).slices = s.slices := rfl
@[simp] theorem setAcc_net (s : State) (c a : Nat) (v : BitVec 80) : (s.setAcc c a v).net = s.net := rfl
@[simp] theorem setAcc_split (s : State) (c a : Nat) (v : BitVec 80) : (s.setAcc c a v).split = s.split := rfl
@[simp] theorem setAcc_close (s : State) (c a : Nat) (v : BitVec 80) : (s.setAcc c a v).close = s.close := rfl
@[simp] theorem setAcc_stage (s : State) (c a : Nat) (v : BitVec 80) : (s.setAcc c a v).stage = s.stage := rfl
@[simp] theorem setAcc_dmcs (s : State) (c a : Nat) (v : BitVec 80) : (s.setAcc c a v).dmcs = s.dmcs := rfl
@[simp] theorem setAcc_errlog (s : State) (c a : Nat) (v : BitVec 80) : (s.setAcc c a v).errlog = s.errlog := rfl
@[simp] theorem setAcc_hat (s : State) (c a : Nat) (v : BitVec 80) : (s.setAcc c a v).hat = s.hat := rfl
@[simp] theorem setAcc_eiu (s : State) (c a : Nat) (v : BitVec 80) : (s.setAcc c a v).eiu = s.eiu := rfl
@[simp] theorem setAcc_tb (s : State) (c a : Nat) (v : BitVec 80) : (s.setAcc c a v).tb = s.tb := rfl
@[simp] theorem setAcc_fab (s : State) (c a : Nat) (v : BitVec 80) : (s.setAcc c a v).fab = s.fab := rfl
@[simp] theorem setAcc_resp (s : State) (c a : Nat) (v : BitVec 80) : (s.setAcc c a v).resp = s.resp := rfl
@[simp] theorem setAcc_seg (s : State) (c a : Nat) (v : BitVec 80) : (s.setAcc c a v).seg = s.seg := rfl
@[simp] theorem setAcc_ports (s : State) (c a : Nat) (v : BitVec 80) : (s.setAcc c a v).ports = s.ports := rfl
@[simp] theorem setAcc_eth (s : State) (c a : Nat) (v : BitVec 80) : (s.setAcc c a v).eth = s.eth := rfl
@[simp] theorem setAcc_usb (s : State) (c a : Nat) (v : BitVec 80) : (s.setAcc c a v).usb = s.usb := rfl
@[simp] theorem setAcc_cuf (s : State) (c a : Nat) (v : BitVec 80) : (s.setAcc c a v).cuf = s.cuf := rfl
@[simp] theorem setAcc_fgt (s : State) (c a : Nat) (v : BitVec 80) : (s.setAcc c a v).fgt = s.fgt := rfl
@[simp] theorem setAcc_keep (s : State) (c a : Nat) (v : BitVec 80) : (s.setAcc c a v).keep = s.keep := rfl
@[simp] theorem setAcc_keepInj (s : State) (c a : Nat) (v : BitVec 80) : (s.setAcc c a v).keepInj = s.keepInj := rfl
@[simp] theorem setAcc_cns (s : State) (c a : Nat) (v : BitVec 80) : (s.setAcc c a v).cns = s.cns := rfl
@[simp] theorem setAcc_boot (s : State) (c a : Nat) (v : BitVec 80) : (s.setAcc c a v).boot = s.boot := rfl
@[simp] theorem setAcc_pwr (s : State) (c a : Nat) (v : BitVec 80) : (s.setAcc c a v).pwr = s.pwr := rfl
@[simp] theorem setAcc_jtag (s : State) (c a : Nat) (v : BitVec 80) : (s.setAcc c a v).jtag = s.jtag := rfl
@[simp] theorem setAcc_flaws (s : State) (c a : Nat) (v : BitVec 80) : (s.setAcc c a v).flaws = s.flaws := rfl
@[simp] theorem setAcc_get_pair (s : State) (c a : Nat) (v : BitVec 80) (x : Nat) : (s.setAcc c a v).pair x = s.pair x := rfl
@[simp] theorem setAcc_get_agent (s : State) (c a : Nat) (v : BitVec 80) (x : Nat) : (s.setAcc c a v).agent x = s.agent x := rfl
@[simp] theorem setAcc_get_slice (s : State) (c a : Nat) (v : BitVec 80) (x : Nat) : (s.setAcc c a v).slice x = s.slice x := rfl
@[simp] theorem setAcc_get_dmc (s : State) (c a : Nat) (v : BitVec 80) (x : Nat) : (s.setAcc c a v).dmc x = s.dmc x := rfl
@[simp] theorem setAcc_get_cufP (s : State) (c a : Nat) (v : BitVec 80) (x : Nat) : (s.setAcc c a v).cufP x = s.cufP x := rfl
@[simp] theorem setAcc_get_reg (s : State) (c a : Nat) (v : BitVec 80) (x : Nat) : (s.setAcc c a v).reg x = s.reg x := rfl
@[simp] theorem setAcc_get_bit (s : State) (c a : Nat) (v : BitVec 80) (x y : Nat) : (s.setAcc c a v).bit x y = s.bit x y := rfl
@[simp] theorem setAcc_get_fld (s : State) (c a : Nat) (v : BitVec 80) (x y z : Nat) : (s.setAcc c a v).fld x y z = s.fld x y z := rfl
@[simp] theorem setAcc_get_pl (s : State) (c a : Nat) (v : BitVec 80) (x : Nat) : (s.setAcc c a v).pl x = s.pl x := rfl
@[simp] theorem setAcc_get_flags (s : State) (c a : Nat) (v : BitVec 80) (x : Nat) : (s.setAcc c a v).flags x = s.flags x := rfl
@[simp] theorem setAcc_get_now (s : State) (c a : Nat) (v : BitVec 80) : (s.setAcc c a v).now = s.now := rfl
@[simp] theorem setAcc_get_nowLo (s : State) (c a : Nat) (v : BitVec 80) : (s.setAcc c a v).nowLo = s.nowLo := rfl
@[simp] theorem setAcc_get_nowHi (s : State) (c a : Nat) (v : BitVec 80) : (s.setAcc c a v).nowHi = s.nowHi := rfl
@[simp] theorem setAcc_get_ni (s : State) (c a : Nat) (v : BitVec 80) (x : Nat) : (s.setAcc c a v).ni x = s.ni x := rfl

/-! ### `State.setPair` -/

@[simp] theorem setPair_pending (s : State) (n : Nat) (v : Pair) : (s.setPair n v).pending = s.pending := rfl
@[simp] theorem setPair_regs (s : State) (n : Nat) (v : Pair) : (s.setPair n v).regs = s.regs := rfl
@[simp] theorem setPair_fresh (s : State) (n : Nat) (v : Pair) : (s.setPair n v).fresh = s.fresh := rfl
@[simp] theorem setPair_cores (s : State) (n : Nat) (v : Pair) : (s.setPair n v).cores = s.cores := rfl
@[simp] theorem setPair_agents (s : State) (n : Nat) (v : Pair) : (s.setPair n v).agents = s.agents := rfl
@[simp] theorem setPair_slices (s : State) (n : Nat) (v : Pair) : (s.setPair n v).slices = s.slices := rfl
@[simp] theorem setPair_net (s : State) (n : Nat) (v : Pair) : (s.setPair n v).net = s.net := rfl
@[simp] theorem setPair_split (s : State) (n : Nat) (v : Pair) : (s.setPair n v).split = s.split := rfl
@[simp] theorem setPair_close (s : State) (n : Nat) (v : Pair) : (s.setPair n v).close = s.close := rfl
@[simp] theorem setPair_stage (s : State) (n : Nat) (v : Pair) : (s.setPair n v).stage = s.stage := rfl
@[simp] theorem setPair_dmcs (s : State) (n : Nat) (v : Pair) : (s.setPair n v).dmcs = s.dmcs := rfl
@[simp] theorem setPair_errlog (s : State) (n : Nat) (v : Pair) : (s.setPair n v).errlog = s.errlog := rfl
@[simp] theorem setPair_hat (s : State) (n : Nat) (v : Pair) : (s.setPair n v).hat = s.hat := rfl
@[simp] theorem setPair_eiu (s : State) (n : Nat) (v : Pair) : (s.setPair n v).eiu = s.eiu := rfl
@[simp] theorem setPair_tb (s : State) (n : Nat) (v : Pair) : (s.setPair n v).tb = s.tb := rfl
@[simp] theorem setPair_fab (s : State) (n : Nat) (v : Pair) : (s.setPair n v).fab = s.fab := rfl
@[simp] theorem setPair_resp (s : State) (n : Nat) (v : Pair) : (s.setPair n v).resp = s.resp := rfl
@[simp] theorem setPair_seg (s : State) (n : Nat) (v : Pair) : (s.setPair n v).seg = s.seg := rfl
@[simp] theorem setPair_ports (s : State) (n : Nat) (v : Pair) : (s.setPair n v).ports = s.ports := rfl
@[simp] theorem setPair_eth (s : State) (n : Nat) (v : Pair) : (s.setPair n v).eth = s.eth := rfl
@[simp] theorem setPair_usb (s : State) (n : Nat) (v : Pair) : (s.setPair n v).usb = s.usb := rfl
@[simp] theorem setPair_cuf (s : State) (n : Nat) (v : Pair) : (s.setPair n v).cuf = s.cuf := rfl
@[simp] theorem setPair_fgt (s : State) (n : Nat) (v : Pair) : (s.setPair n v).fgt = s.fgt := rfl
@[simp] theorem setPair_keep (s : State) (n : Nat) (v : Pair) : (s.setPair n v).keep = s.keep := rfl
@[simp] theorem setPair_keepInj (s : State) (n : Nat) (v : Pair) : (s.setPair n v).keepInj = s.keepInj := rfl
@[simp] theorem setPair_cns (s : State) (n : Nat) (v : Pair) : (s.setPair n v).cns = s.cns := rfl
@[simp] theorem setPair_boot (s : State) (n : Nat) (v : Pair) : (s.setPair n v).boot = s.boot := rfl
@[simp] theorem setPair_pwr (s : State) (n : Nat) (v : Pair) : (s.setPair n v).pwr = s.pwr := rfl
@[simp] theorem setPair_jtag (s : State) (n : Nat) (v : Pair) : (s.setPair n v).jtag = s.jtag := rfl
@[simp] theorem setPair_flaws (s : State) (n : Nat) (v : Pair) : (s.setPair n v).flaws = s.flaws := rfl
@[simp] theorem setPair_get_core (s : State) (n : Nat) (v : Pair) (x : Nat) : (s.setPair n v).core x = s.core x := rfl
@[simp] theorem setPair_get_gpr (s : State) (n : Nat) (v : Pair) (x y : Nat) : (s.setPair n v).gpr x y = s.gpr x y := rfl
@[simp] theorem setPair_get_accOf (s : State) (n : Nat) (v : Pair) (x y : Nat) : (s.setPair n v).accOf x y = s.accOf x y := rfl
@[simp] theorem setPair_get_agent (s : State) (n : Nat) (v : Pair) (x : Nat) : (s.setPair n v).agent x = s.agent x := rfl
@[simp] theorem setPair_get_slice (s : State) (n : Nat) (v : Pair) (x : Nat) : (s.setPair n v).slice x = s.slice x := rfl
@[simp] theorem setPair_get_dmc (s : State) (n : Nat) (v : Pair) (x : Nat) : (s.setPair n v).dmc x = s.dmc x := rfl
@[simp] theorem setPair_get_cufP (s : State) (n : Nat) (v : Pair) (x : Nat) : (s.setPair n v).cufP x = s.cufP x := rfl
@[simp] theorem setPair_get_reg (s : State) (n : Nat) (v : Pair) (x : Nat) : (s.setPair n v).reg x = s.reg x := rfl
@[simp] theorem setPair_get_bit (s : State) (n : Nat) (v : Pair) (x y : Nat) : (s.setPair n v).bit x y = s.bit x y := rfl
@[simp] theorem setPair_get_fld (s : State) (n : Nat) (v : Pair) (x y z : Nat) : (s.setPair n v).fld x y z = s.fld x y z := rfl
@[simp] theorem setPair_get_pl (s : State) (n : Nat) (v : Pair) (x : Nat) : (s.setPair n v).pl x = s.pl x := rfl
@[simp] theorem setPair_get_flags (s : State) (n : Nat) (v : Pair) (x : Nat) : (s.setPair n v).flags x = s.flags x := rfl
@[simp] theorem setPair_get_now (s : State) (n : Nat) (v : Pair) : (s.setPair n v).now = s.now := rfl
@[simp] theorem setPair_get_nowLo (s : State) (n : Nat) (v : Pair) : (s.setPair n v).nowLo = s.nowLo := rfl
@[simp] theorem setPair_get_nowHi (s : State) (n : Nat) (v : Pair) : (s.setPair n v).nowHi = s.nowHi := rfl
@[simp] theorem setPair_get_ni (s : State) (n : Nat) (v : Pair) (x : Nat) : (s.setPair n v).ni x = s.ni x := rfl

/-! ### `State.setAgent` -/

@[simp] theorem setAgent_pending (s : State) (a : Nat) (v : Agent) : (s.setAgent a v).pending = s.pending := rfl
@[simp] theorem setAgent_regs (s : State) (a : Nat) (v : Agent) : (s.setAgent a v).regs = s.regs := rfl
@[simp] theorem setAgent_fresh (s : State) (a : Nat) (v : Agent) : (s.setAgent a v).fresh = s.fresh := rfl
@[simp] theorem setAgent_cores (s : State) (a : Nat) (v : Agent) : (s.setAgent a v).cores = s.cores := rfl
@[simp] theorem setAgent_pairs (s : State) (a : Nat) (v : Agent) : (s.setAgent a v).pairs = s.pairs := rfl
@[simp] theorem setAgent_slices (s : State) (a : Nat) (v : Agent) : (s.setAgent a v).slices = s.slices := rfl
@[simp] theorem setAgent_net (s : State) (a : Nat) (v : Agent) : (s.setAgent a v).net = s.net := rfl
@[simp] theorem setAgent_split (s : State) (a : Nat) (v : Agent) : (s.setAgent a v).split = s.split := rfl
@[simp] theorem setAgent_close (s : State) (a : Nat) (v : Agent) : (s.setAgent a v).close = s.close := rfl
@[simp] theorem setAgent_stage (s : State) (a : Nat) (v : Agent) : (s.setAgent a v).stage = s.stage := rfl
@[simp] theorem setAgent_dmcs (s : State) (a : Nat) (v : Agent) : (s.setAgent a v).dmcs = s.dmcs := rfl
@[simp] theorem setAgent_errlog (s : State) (a : Nat) (v : Agent) : (s.setAgent a v).errlog = s.errlog := rfl
@[simp] theorem setAgent_hat (s : State) (a : Nat) (v : Agent) : (s.setAgent a v).hat = s.hat := rfl
@[simp] theorem setAgent_eiu (s : State) (a : Nat) (v : Agent) : (s.setAgent a v).eiu = s.eiu := rfl
@[simp] theorem setAgent_tb (s : State) (a : Nat) (v : Agent) : (s.setAgent a v).tb = s.tb := rfl
@[simp] theorem setAgent_fab (s : State) (a : Nat) (v : Agent) : (s.setAgent a v).fab = s.fab := rfl
@[simp] theorem setAgent_resp (s : State) (a : Nat) (v : Agent) : (s.setAgent a v).resp = s.resp := rfl
@[simp] theorem setAgent_seg (s : State) (a : Nat) (v : Agent) : (s.setAgent a v).seg = s.seg := rfl
@[simp] theorem setAgent_ports (s : State) (a : Nat) (v : Agent) : (s.setAgent a v).ports = s.ports := rfl
@[simp] theorem setAgent_eth (s : State) (a : Nat) (v : Agent) : (s.setAgent a v).eth = s.eth := rfl
@[simp] theorem setAgent_usb (s : State) (a : Nat) (v : Agent) : (s.setAgent a v).usb = s.usb := rfl
@[simp] theorem setAgent_cuf (s : State) (a : Nat) (v : Agent) : (s.setAgent a v).cuf = s.cuf := rfl
@[simp] theorem setAgent_fgt (s : State) (a : Nat) (v : Agent) : (s.setAgent a v).fgt = s.fgt := rfl
@[simp] theorem setAgent_keep (s : State) (a : Nat) (v : Agent) : (s.setAgent a v).keep = s.keep := rfl
@[simp] theorem setAgent_keepInj (s : State) (a : Nat) (v : Agent) : (s.setAgent a v).keepInj = s.keepInj := rfl
@[simp] theorem setAgent_cns (s : State) (a : Nat) (v : Agent) : (s.setAgent a v).cns = s.cns := rfl
@[simp] theorem setAgent_boot (s : State) (a : Nat) (v : Agent) : (s.setAgent a v).boot = s.boot := rfl
@[simp] theorem setAgent_pwr (s : State) (a : Nat) (v : Agent) : (s.setAgent a v).pwr = s.pwr := rfl
@[simp] theorem setAgent_jtag (s : State) (a : Nat) (v : Agent) : (s.setAgent a v).jtag = s.jtag := rfl
@[simp] theorem setAgent_flaws (s : State) (a : Nat) (v : Agent) : (s.setAgent a v).flaws = s.flaws := rfl
@[simp] theorem setAgent_get_core (s : State) (a : Nat) (v : Agent) (x : Nat) : (s.setAgent a v).core x = s.core x := rfl
@[simp] theorem setAgent_get_gpr (s : State) (a : Nat) (v : Agent) (x y : Nat) : (s.setAgent a v).gpr x y = s.gpr x y := rfl
@[simp] theorem setAgent_get_accOf (s : State) (a : Nat) (v : Agent) (x y : Nat) : (s.setAgent a v).accOf x y = s.accOf x y := rfl
@[simp] theorem setAgent_get_pair (s : State) (a : Nat) (v : Agent) (x : Nat) : (s.setAgent a v).pair x = s.pair x := rfl
@[simp] theorem setAgent_get_slice (s : State) (a : Nat) (v : Agent) (x : Nat) : (s.setAgent a v).slice x = s.slice x := rfl
@[simp] theorem setAgent_get_dmc (s : State) (a : Nat) (v : Agent) (x : Nat) : (s.setAgent a v).dmc x = s.dmc x := rfl
@[simp] theorem setAgent_get_cufP (s : State) (a : Nat) (v : Agent) (x : Nat) : (s.setAgent a v).cufP x = s.cufP x := rfl
@[simp] theorem setAgent_get_reg (s : State) (a : Nat) (v : Agent) (x : Nat) : (s.setAgent a v).reg x = s.reg x := rfl
@[simp] theorem setAgent_get_bit (s : State) (a : Nat) (v : Agent) (x y : Nat) : (s.setAgent a v).bit x y = s.bit x y := rfl
@[simp] theorem setAgent_get_fld (s : State) (a : Nat) (v : Agent) (x y z : Nat) : (s.setAgent a v).fld x y z = s.fld x y z := rfl
@[simp] theorem setAgent_get_pl (s : State) (a : Nat) (v : Agent) (x : Nat) : (s.setAgent a v).pl x = s.pl x := rfl
@[simp] theorem setAgent_get_flags (s : State) (a : Nat) (v : Agent) (x : Nat) : (s.setAgent a v).flags x = s.flags x := rfl
@[simp] theorem setAgent_get_now (s : State) (a : Nat) (v : Agent) : (s.setAgent a v).now = s.now := rfl
@[simp] theorem setAgent_get_nowLo (s : State) (a : Nat) (v : Agent) : (s.setAgent a v).nowLo = s.nowLo := rfl
@[simp] theorem setAgent_get_nowHi (s : State) (a : Nat) (v : Agent) : (s.setAgent a v).nowHi = s.nowHi := rfl
@[simp] theorem setAgent_get_ni (s : State) (a : Nat) (v : Agent) (x : Nat) : (s.setAgent a v).ni x = s.ni x := rfl

/-! ### `State.setSlice` -/

@[simp] theorem setSlice_pending (s : State) (n : Nat) (v : Slice) : (s.setSlice n v).pending = s.pending := rfl
@[simp] theorem setSlice_regs (s : State) (n : Nat) (v : Slice) : (s.setSlice n v).regs = s.regs := rfl
@[simp] theorem setSlice_fresh (s : State) (n : Nat) (v : Slice) : (s.setSlice n v).fresh = s.fresh := rfl
@[simp] theorem setSlice_cores (s : State) (n : Nat) (v : Slice) : (s.setSlice n v).cores = s.cores := rfl
@[simp] theorem setSlice_pairs (s : State) (n : Nat) (v : Slice) : (s.setSlice n v).pairs = s.pairs := rfl
@[simp] theorem setSlice_agents (s : State) (n : Nat) (v : Slice) : (s.setSlice n v).agents = s.agents := rfl
@[simp] theorem setSlice_net (s : State) (n : Nat) (v : Slice) : (s.setSlice n v).net = s.net := rfl
@[simp] theorem setSlice_split (s : State) (n : Nat) (v : Slice) : (s.setSlice n v).split = s.split := rfl
@[simp] theorem setSlice_close (s : State) (n : Nat) (v : Slice) : (s.setSlice n v).close = s.close := rfl
@[simp] theorem setSlice_stage (s : State) (n : Nat) (v : Slice) : (s.setSlice n v).stage = s.stage := rfl
@[simp] theorem setSlice_dmcs (s : State) (n : Nat) (v : Slice) : (s.setSlice n v).dmcs = s.dmcs := rfl
@[simp] theorem setSlice_errlog (s : State) (n : Nat) (v : Slice) : (s.setSlice n v).errlog = s.errlog := rfl
@[simp] theorem setSlice_hat (s : State) (n : Nat) (v : Slice) : (s.setSlice n v).hat = s.hat := rfl
@[simp] theorem setSlice_eiu (s : State) (n : Nat) (v : Slice) : (s.setSlice n v).eiu = s.eiu := rfl
@[simp] theorem setSlice_tb (s : State) (n : Nat) (v : Slice) : (s.setSlice n v).tb = s.tb := rfl
@[simp] theorem setSlice_fab (s : State) (n : Nat) (v : Slice) : (s.setSlice n v).fab = s.fab := rfl
@[simp] theorem setSlice_resp (s : State) (n : Nat) (v : Slice) : (s.setSlice n v).resp = s.resp := rfl
@[simp] theorem setSlice_seg (s : State) (n : Nat) (v : Slice) : (s.setSlice n v).seg = s.seg := rfl
@[simp] theorem setSlice_ports (s : State) (n : Nat) (v : Slice) : (s.setSlice n v).ports = s.ports := rfl
@[simp] theorem setSlice_eth (s : State) (n : Nat) (v : Slice) : (s.setSlice n v).eth = s.eth := rfl
@[simp] theorem setSlice_usb (s : State) (n : Nat) (v : Slice) : (s.setSlice n v).usb = s.usb := rfl
@[simp] theorem setSlice_cuf (s : State) (n : Nat) (v : Slice) : (s.setSlice n v).cuf = s.cuf := rfl
@[simp] theorem setSlice_fgt (s : State) (n : Nat) (v : Slice) : (s.setSlice n v).fgt = s.fgt := rfl
@[simp] theorem setSlice_keep (s : State) (n : Nat) (v : Slice) : (s.setSlice n v).keep = s.keep := rfl
@[simp] theorem setSlice_keepInj (s : State) (n : Nat) (v : Slice) : (s.setSlice n v).keepInj = s.keepInj := rfl
@[simp] theorem setSlice_cns (s : State) (n : Nat) (v : Slice) : (s.setSlice n v).cns = s.cns := rfl
@[simp] theorem setSlice_boot (s : State) (n : Nat) (v : Slice) : (s.setSlice n v).boot = s.boot := rfl
@[simp] theorem setSlice_pwr (s : State) (n : Nat) (v : Slice) : (s.setSlice n v).pwr = s.pwr := rfl
@[simp] theorem setSlice_jtag (s : State) (n : Nat) (v : Slice) : (s.setSlice n v).jtag = s.jtag := rfl
@[simp] theorem setSlice_flaws (s : State) (n : Nat) (v : Slice) : (s.setSlice n v).flaws = s.flaws := rfl
@[simp] theorem setSlice_get_core (s : State) (n : Nat) (v : Slice) (x : Nat) : (s.setSlice n v).core x = s.core x := rfl
@[simp] theorem setSlice_get_gpr (s : State) (n : Nat) (v : Slice) (x y : Nat) : (s.setSlice n v).gpr x y = s.gpr x y := rfl
@[simp] theorem setSlice_get_accOf (s : State) (n : Nat) (v : Slice) (x y : Nat) : (s.setSlice n v).accOf x y = s.accOf x y := rfl
@[simp] theorem setSlice_get_pair (s : State) (n : Nat) (v : Slice) (x : Nat) : (s.setSlice n v).pair x = s.pair x := rfl
@[simp] theorem setSlice_get_agent (s : State) (n : Nat) (v : Slice) (x : Nat) : (s.setSlice n v).agent x = s.agent x := rfl
@[simp] theorem setSlice_get_dmc (s : State) (n : Nat) (v : Slice) (x : Nat) : (s.setSlice n v).dmc x = s.dmc x := rfl
@[simp] theorem setSlice_get_cufP (s : State) (n : Nat) (v : Slice) (x : Nat) : (s.setSlice n v).cufP x = s.cufP x := rfl
@[simp] theorem setSlice_get_reg (s : State) (n : Nat) (v : Slice) (x : Nat) : (s.setSlice n v).reg x = s.reg x := rfl
@[simp] theorem setSlice_get_bit (s : State) (n : Nat) (v : Slice) (x y : Nat) : (s.setSlice n v).bit x y = s.bit x y := rfl
@[simp] theorem setSlice_get_fld (s : State) (n : Nat) (v : Slice) (x y z : Nat) : (s.setSlice n v).fld x y z = s.fld x y z := rfl
@[simp] theorem setSlice_get_pl (s : State) (n : Nat) (v : Slice) (x : Nat) : (s.setSlice n v).pl x = s.pl x := rfl
@[simp] theorem setSlice_get_flags (s : State) (n : Nat) (v : Slice) (x : Nat) : (s.setSlice n v).flags x = s.flags x := rfl
@[simp] theorem setSlice_get_now (s : State) (n : Nat) (v : Slice) : (s.setSlice n v).now = s.now := rfl
@[simp] theorem setSlice_get_nowLo (s : State) (n : Nat) (v : Slice) : (s.setSlice n v).nowLo = s.nowLo := rfl
@[simp] theorem setSlice_get_nowHi (s : State) (n : Nat) (v : Slice) : (s.setSlice n v).nowHi = s.nowHi := rfl
@[simp] theorem setSlice_get_ni (s : State) (n : Nat) (v : Slice) (x : Nat) : (s.setSlice n v).ni x = s.ni x := rfl

/-! ### `State.setDmc` -/

@[simp] theorem setDmc_pending (s : State) (n : Nat) (v : Dmc) : (s.setDmc n v).pending = s.pending := rfl
@[simp] theorem setDmc_regs (s : State) (n : Nat) (v : Dmc) : (s.setDmc n v).regs = s.regs := rfl
@[simp] theorem setDmc_fresh (s : State) (n : Nat) (v : Dmc) : (s.setDmc n v).fresh = s.fresh := rfl
@[simp] theorem setDmc_cores (s : State) (n : Nat) (v : Dmc) : (s.setDmc n v).cores = s.cores := rfl
@[simp] theorem setDmc_pairs (s : State) (n : Nat) (v : Dmc) : (s.setDmc n v).pairs = s.pairs := rfl
@[simp] theorem setDmc_agents (s : State) (n : Nat) (v : Dmc) : (s.setDmc n v).agents = s.agents := rfl
@[simp] theorem setDmc_slices (s : State) (n : Nat) (v : Dmc) : (s.setDmc n v).slices = s.slices := rfl
@[simp] theorem setDmc_net (s : State) (n : Nat) (v : Dmc) : (s.setDmc n v).net = s.net := rfl
@[simp] theorem setDmc_split (s : State) (n : Nat) (v : Dmc) : (s.setDmc n v).split = s.split := rfl
@[simp] theorem setDmc_close (s : State) (n : Nat) (v : Dmc) : (s.setDmc n v).close = s.close := rfl
@[simp] theorem setDmc_stage (s : State) (n : Nat) (v : Dmc) : (s.setDmc n v).stage = s.stage := rfl
@[simp] theorem setDmc_errlog (s : State) (n : Nat) (v : Dmc) : (s.setDmc n v).errlog = s.errlog := rfl
@[simp] theorem setDmc_hat (s : State) (n : Nat) (v : Dmc) : (s.setDmc n v).hat = s.hat := rfl
@[simp] theorem setDmc_eiu (s : State) (n : Nat) (v : Dmc) : (s.setDmc n v).eiu = s.eiu := rfl
@[simp] theorem setDmc_tb (s : State) (n : Nat) (v : Dmc) : (s.setDmc n v).tb = s.tb := rfl
@[simp] theorem setDmc_fab (s : State) (n : Nat) (v : Dmc) : (s.setDmc n v).fab = s.fab := rfl
@[simp] theorem setDmc_resp (s : State) (n : Nat) (v : Dmc) : (s.setDmc n v).resp = s.resp := rfl
@[simp] theorem setDmc_seg (s : State) (n : Nat) (v : Dmc) : (s.setDmc n v).seg = s.seg := rfl
@[simp] theorem setDmc_ports (s : State) (n : Nat) (v : Dmc) : (s.setDmc n v).ports = s.ports := rfl
@[simp] theorem setDmc_eth (s : State) (n : Nat) (v : Dmc) : (s.setDmc n v).eth = s.eth := rfl
@[simp] theorem setDmc_usb (s : State) (n : Nat) (v : Dmc) : (s.setDmc n v).usb = s.usb := rfl
@[simp] theorem setDmc_cuf (s : State) (n : Nat) (v : Dmc) : (s.setDmc n v).cuf = s.cuf := rfl
@[simp] theorem setDmc_fgt (s : State) (n : Nat) (v : Dmc) : (s.setDmc n v).fgt = s.fgt := rfl
@[simp] theorem setDmc_keep (s : State) (n : Nat) (v : Dmc) : (s.setDmc n v).keep = s.keep := rfl
@[simp] theorem setDmc_keepInj (s : State) (n : Nat) (v : Dmc) : (s.setDmc n v).keepInj = s.keepInj := rfl
@[simp] theorem setDmc_cns (s : State) (n : Nat) (v : Dmc) : (s.setDmc n v).cns = s.cns := rfl
@[simp] theorem setDmc_boot (s : State) (n : Nat) (v : Dmc) : (s.setDmc n v).boot = s.boot := rfl
@[simp] theorem setDmc_pwr (s : State) (n : Nat) (v : Dmc) : (s.setDmc n v).pwr = s.pwr := rfl
@[simp] theorem setDmc_jtag (s : State) (n : Nat) (v : Dmc) : (s.setDmc n v).jtag = s.jtag := rfl
@[simp] theorem setDmc_flaws (s : State) (n : Nat) (v : Dmc) : (s.setDmc n v).flaws = s.flaws := rfl
@[simp] theorem setDmc_get_core (s : State) (n : Nat) (v : Dmc) (x : Nat) : (s.setDmc n v).core x = s.core x := rfl
@[simp] theorem setDmc_get_gpr (s : State) (n : Nat) (v : Dmc) (x y : Nat) : (s.setDmc n v).gpr x y = s.gpr x y := rfl
@[simp] theorem setDmc_get_accOf (s : State) (n : Nat) (v : Dmc) (x y : Nat) : (s.setDmc n v).accOf x y = s.accOf x y := rfl
@[simp] theorem setDmc_get_pair (s : State) (n : Nat) (v : Dmc) (x : Nat) : (s.setDmc n v).pair x = s.pair x := rfl
@[simp] theorem setDmc_get_agent (s : State) (n : Nat) (v : Dmc) (x : Nat) : (s.setDmc n v).agent x = s.agent x := rfl
@[simp] theorem setDmc_get_slice (s : State) (n : Nat) (v : Dmc) (x : Nat) : (s.setDmc n v).slice x = s.slice x := rfl
@[simp] theorem setDmc_get_cufP (s : State) (n : Nat) (v : Dmc) (x : Nat) : (s.setDmc n v).cufP x = s.cufP x := rfl
@[simp] theorem setDmc_get_reg (s : State) (n : Nat) (v : Dmc) (x : Nat) : (s.setDmc n v).reg x = s.reg x := rfl
@[simp] theorem setDmc_get_bit (s : State) (n : Nat) (v : Dmc) (x y : Nat) : (s.setDmc n v).bit x y = s.bit x y := rfl
@[simp] theorem setDmc_get_fld (s : State) (n : Nat) (v : Dmc) (x y z : Nat) : (s.setDmc n v).fld x y z = s.fld x y z := rfl
@[simp] theorem setDmc_get_pl (s : State) (n : Nat) (v : Dmc) (x : Nat) : (s.setDmc n v).pl x = s.pl x := rfl
@[simp] theorem setDmc_get_flags (s : State) (n : Nat) (v : Dmc) (x : Nat) : (s.setDmc n v).flags x = s.flags x := rfl
@[simp] theorem setDmc_get_now (s : State) (n : Nat) (v : Dmc) : (s.setDmc n v).now = s.now := rfl
@[simp] theorem setDmc_get_nowLo (s : State) (n : Nat) (v : Dmc) : (s.setDmc n v).nowLo = s.nowLo := rfl
@[simp] theorem setDmc_get_nowHi (s : State) (n : Nat) (v : Dmc) : (s.setDmc n v).nowHi = s.nowHi := rfl
@[simp] theorem setDmc_get_ni (s : State) (n : Nat) (v : Dmc) (x : Nat) : (s.setDmc n v).ni x = s.ni x := rfl

/-! ### `State.setNi` -/

@[simp] theorem setNi_pending (s : State) (k : Nat) (v : Ni) : (s.setNi k v).pending = s.pending := rfl
@[simp] theorem setNi_regs (s : State) (k : Nat) (v : Ni) : (s.setNi k v).regs = s.regs := rfl
@[simp] theorem setNi_fresh (s : State) (k : Nat) (v : Ni) : (s.setNi k v).fresh = s.fresh := rfl
@[simp] theorem setNi_cores (s : State) (k : Nat) (v : Ni) : (s.setNi k v).cores = s.cores := rfl
@[simp] theorem setNi_pairs (s : State) (k : Nat) (v : Ni) : (s.setNi k v).pairs = s.pairs := rfl
@[simp] theorem setNi_agents (s : State) (k : Nat) (v : Ni) : (s.setNi k v).agents = s.agents := rfl
@[simp] theorem setNi_slices (s : State) (k : Nat) (v : Ni) : (s.setNi k v).slices = s.slices := rfl
@[simp] theorem setNi_net (s : State) (k : Nat) (v : Ni) : (s.setNi k v).net = s.net := rfl
@[simp] theorem setNi_split (s : State) (k : Nat) (v : Ni) : (s.setNi k v).split = s.split := rfl
@[simp] theorem setNi_close (s : State) (k : Nat) (v : Ni) : (s.setNi k v).close = s.close := rfl
@[simp] theorem setNi_stage (s : State) (k : Nat) (v : Ni) : (s.setNi k v).stage = s.stage := rfl
@[simp] theorem setNi_dmcs (s : State) (k : Nat) (v : Ni) : (s.setNi k v).dmcs = s.dmcs := rfl
@[simp] theorem setNi_errlog (s : State) (k : Nat) (v : Ni) : (s.setNi k v).errlog = s.errlog := rfl
@[simp] theorem setNi_hat (s : State) (k : Nat) (v : Ni) : (s.setNi k v).hat = s.hat := rfl
@[simp] theorem setNi_eiu (s : State) (k : Nat) (v : Ni) : (s.setNi k v).eiu = s.eiu := rfl
@[simp] theorem setNi_tb (s : State) (k : Nat) (v : Ni) : (s.setNi k v).tb = s.tb := rfl
@[simp] theorem setNi_resp (s : State) (k : Nat) (v : Ni) : (s.setNi k v).resp = s.resp := rfl
@[simp] theorem setNi_seg (s : State) (k : Nat) (v : Ni) : (s.setNi k v).seg = s.seg := rfl
@[simp] theorem setNi_ports (s : State) (k : Nat) (v : Ni) : (s.setNi k v).ports = s.ports := rfl
@[simp] theorem setNi_eth (s : State) (k : Nat) (v : Ni) : (s.setNi k v).eth = s.eth := rfl
@[simp] theorem setNi_usb (s : State) (k : Nat) (v : Ni) : (s.setNi k v).usb = s.usb := rfl
@[simp] theorem setNi_cuf (s : State) (k : Nat) (v : Ni) : (s.setNi k v).cuf = s.cuf := rfl
@[simp] theorem setNi_fgt (s : State) (k : Nat) (v : Ni) : (s.setNi k v).fgt = s.fgt := rfl
@[simp] theorem setNi_keep (s : State) (k : Nat) (v : Ni) : (s.setNi k v).keep = s.keep := rfl
@[simp] theorem setNi_keepInj (s : State) (k : Nat) (v : Ni) : (s.setNi k v).keepInj = s.keepInj := rfl
@[simp] theorem setNi_cns (s : State) (k : Nat) (v : Ni) : (s.setNi k v).cns = s.cns := rfl
@[simp] theorem setNi_boot (s : State) (k : Nat) (v : Ni) : (s.setNi k v).boot = s.boot := rfl
@[simp] theorem setNi_pwr (s : State) (k : Nat) (v : Ni) : (s.setNi k v).pwr = s.pwr := rfl
@[simp] theorem setNi_jtag (s : State) (k : Nat) (v : Ni) : (s.setNi k v).jtag = s.jtag := rfl
@[simp] theorem setNi_flaws (s : State) (k : Nat) (v : Ni) : (s.setNi k v).flaws = s.flaws := rfl
@[simp] theorem setNi_get_core (s : State) (k : Nat) (v : Ni) (x : Nat) : (s.setNi k v).core x = s.core x := rfl
@[simp] theorem setNi_get_gpr (s : State) (k : Nat) (v : Ni) (x y : Nat) : (s.setNi k v).gpr x y = s.gpr x y := rfl
@[simp] theorem setNi_get_accOf (s : State) (k : Nat) (v : Ni) (x y : Nat) : (s.setNi k v).accOf x y = s.accOf x y := rfl
@[simp] theorem setNi_get_pair (s : State) (k : Nat) (v : Ni) (x : Nat) : (s.setNi k v).pair x = s.pair x := rfl
@[simp] theorem setNi_get_agent (s : State) (k : Nat) (v : Ni) (x : Nat) : (s.setNi k v).agent x = s.agent x := rfl
@[simp] theorem setNi_get_slice (s : State) (k : Nat) (v : Ni) (x : Nat) : (s.setNi k v).slice x = s.slice x := rfl
@[simp] theorem setNi_get_dmc (s : State) (k : Nat) (v : Ni) (x : Nat) : (s.setNi k v).dmc x = s.dmc x := rfl
@[simp] theorem setNi_get_cufP (s : State) (k : Nat) (v : Ni) (x : Nat) : (s.setNi k v).cufP x = s.cufP x := rfl
@[simp] theorem setNi_get_reg (s : State) (k : Nat) (v : Ni) (x : Nat) : (s.setNi k v).reg x = s.reg x := rfl
@[simp] theorem setNi_get_bit (s : State) (k : Nat) (v : Ni) (x y : Nat) : (s.setNi k v).bit x y = s.bit x y := rfl
@[simp] theorem setNi_get_fld (s : State) (k : Nat) (v : Ni) (x y z : Nat) : (s.setNi k v).fld x y z = s.fld x y z := rfl
@[simp] theorem setNi_get_pl (s : State) (k : Nat) (v : Ni) (x : Nat) : (s.setNi k v).pl x = s.pl x := rfl
@[simp] theorem setNi_get_flags (s : State) (k : Nat) (v : Ni) (x : Nat) : (s.setNi k v).flags x = s.flags x := rfl
@[simp] theorem setNi_get_now (s : State) (k : Nat) (v : Ni) : (s.setNi k v).now = s.now := rfl
@[simp] theorem setNi_get_nowLo (s : State) (k : Nat) (v : Ni) : (s.setNi k v).nowLo = s.nowLo := rfl
@[simp] theorem setNi_get_nowHi (s : State) (k : Nat) (v : Ni) : (s.setNi k v).nowHi = s.nowHi := rfl

/-! ### `State.setRgen` -/

@[simp] theorem setRgen_pending (s : State) (g : Nat) (v : RGen) : (s.setRgen g v).pending = s.pending := rfl
@[simp] theorem setRgen_regs (s : State) (g : Nat) (v : RGen) : (s.setRgen g v).regs = s.regs := rfl
@[simp] theorem setRgen_fresh (s : State) (g : Nat) (v : RGen) : (s.setRgen g v).fresh = s.fresh := rfl
@[simp] theorem setRgen_cores (s : State) (g : Nat) (v : RGen) : (s.setRgen g v).cores = s.cores := rfl
@[simp] theorem setRgen_pairs (s : State) (g : Nat) (v : RGen) : (s.setRgen g v).pairs = s.pairs := rfl
@[simp] theorem setRgen_agents (s : State) (g : Nat) (v : RGen) : (s.setRgen g v).agents = s.agents := rfl
@[simp] theorem setRgen_slices (s : State) (g : Nat) (v : RGen) : (s.setRgen g v).slices = s.slices := rfl
@[simp] theorem setRgen_net (s : State) (g : Nat) (v : RGen) : (s.setRgen g v).net = s.net := rfl
@[simp] theorem setRgen_split (s : State) (g : Nat) (v : RGen) : (s.setRgen g v).split = s.split := rfl
@[simp] theorem setRgen_close (s : State) (g : Nat) (v : RGen) : (s.setRgen g v).close = s.close := rfl
@[simp] theorem setRgen_stage (s : State) (g : Nat) (v : RGen) : (s.setRgen g v).stage = s.stage := rfl
@[simp] theorem setRgen_dmcs (s : State) (g : Nat) (v : RGen) : (s.setRgen g v).dmcs = s.dmcs := rfl
@[simp] theorem setRgen_errlog (s : State) (g : Nat) (v : RGen) : (s.setRgen g v).errlog = s.errlog := rfl
@[simp] theorem setRgen_hat (s : State) (g : Nat) (v : RGen) : (s.setRgen g v).hat = s.hat := rfl
@[simp] theorem setRgen_eiu (s : State) (g : Nat) (v : RGen) : (s.setRgen g v).eiu = s.eiu := rfl
@[simp] theorem setRgen_fab (s : State) (g : Nat) (v : RGen) : (s.setRgen g v).fab = s.fab := rfl
@[simp] theorem setRgen_resp (s : State) (g : Nat) (v : RGen) : (s.setRgen g v).resp = s.resp := rfl
@[simp] theorem setRgen_seg (s : State) (g : Nat) (v : RGen) : (s.setRgen g v).seg = s.seg := rfl
@[simp] theorem setRgen_ports (s : State) (g : Nat) (v : RGen) : (s.setRgen g v).ports = s.ports := rfl
@[simp] theorem setRgen_eth (s : State) (g : Nat) (v : RGen) : (s.setRgen g v).eth = s.eth := rfl
@[simp] theorem setRgen_usb (s : State) (g : Nat) (v : RGen) : (s.setRgen g v).usb = s.usb := rfl
@[simp] theorem setRgen_cuf (s : State) (g : Nat) (v : RGen) : (s.setRgen g v).cuf = s.cuf := rfl
@[simp] theorem setRgen_fgt (s : State) (g : Nat) (v : RGen) : (s.setRgen g v).fgt = s.fgt := rfl
@[simp] theorem setRgen_keep (s : State) (g : Nat) (v : RGen) : (s.setRgen g v).keep = s.keep := rfl
@[simp] theorem setRgen_keepInj (s : State) (g : Nat) (v : RGen) : (s.setRgen g v).keepInj = s.keepInj := rfl
@[simp] theorem setRgen_cns (s : State) (g : Nat) (v : RGen) : (s.setRgen g v).cns = s.cns := rfl
@[simp] theorem setRgen_boot (s : State) (g : Nat) (v : RGen) : (s.setRgen g v).boot = s.boot := rfl
@[simp] theorem setRgen_pwr (s : State) (g : Nat) (v : RGen) : (s.setRgen g v).pwr = s.pwr := rfl
@[simp] theorem setRgen_jtag (s : State) (g : Nat) (v : RGen) : (s.setRgen g v).jtag = s.jtag := rfl
@[simp] theorem setRgen_flaws (s : State) (g : Nat) (v : RGen) : (s.setRgen g v).flaws = s.flaws := rfl
@[simp] theorem setRgen_get_core (s : State) (g : Nat) (v : RGen) (x : Nat) : (s.setRgen g v).core x = s.core x := rfl
@[simp] theorem setRgen_get_gpr (s : State) (g : Nat) (v : RGen) (x y : Nat) : (s.setRgen g v).gpr x y = s.gpr x y := rfl
@[simp] theorem setRgen_get_accOf (s : State) (g : Nat) (v : RGen) (x y : Nat) : (s.setRgen g v).accOf x y = s.accOf x y := rfl
@[simp] theorem setRgen_get_pair (s : State) (g : Nat) (v : RGen) (x : Nat) : (s.setRgen g v).pair x = s.pair x := rfl
@[simp] theorem setRgen_get_agent (s : State) (g : Nat) (v : RGen) (x : Nat) : (s.setRgen g v).agent x = s.agent x := rfl
@[simp] theorem setRgen_get_slice (s : State) (g : Nat) (v : RGen) (x : Nat) : (s.setRgen g v).slice x = s.slice x := rfl
@[simp] theorem setRgen_get_dmc (s : State) (g : Nat) (v : RGen) (x : Nat) : (s.setRgen g v).dmc x = s.dmc x := rfl
@[simp] theorem setRgen_get_cufP (s : State) (g : Nat) (v : RGen) (x : Nat) : (s.setRgen g v).cufP x = s.cufP x := rfl
@[simp] theorem setRgen_get_reg (s : State) (g : Nat) (v : RGen) (x : Nat) : (s.setRgen g v).reg x = s.reg x := rfl
@[simp] theorem setRgen_get_bit (s : State) (g : Nat) (v : RGen) (x y : Nat) : (s.setRgen g v).bit x y = s.bit x y := rfl
@[simp] theorem setRgen_get_fld (s : State) (g : Nat) (v : RGen) (x y z : Nat) : (s.setRgen g v).fld x y z = s.fld x y z := rfl
@[simp] theorem setRgen_get_pl (s : State) (g : Nat) (v : RGen) (x : Nat) : (s.setRgen g v).pl x = s.pl x := rfl
@[simp] theorem setRgen_get_flags (s : State) (g : Nat) (v : RGen) (x : Nat) : (s.setRgen g v).flags x = s.flags x := rfl
@[simp] theorem setRgen_get_ni (s : State) (g : Nat) (v : RGen) (x : Nat) : (s.setRgen g v).ni x = s.ni x := rfl

/-! ### `State.setAud` -/

@[simp] theorem setAud_pending (s : State) (n : Nat) (v : AudPort) : (s.setAud n v).pending = s.pending := rfl
@[simp] theorem setAud_regs (s : State) (n : Nat) (v : AudPort) : (s.setAud n v).regs = s.regs := rfl
@[simp] theorem setAud_fresh (s : State) (n : Nat) (v : AudPort) : (s.setAud n v).fresh = s.fresh := rfl
@[simp] theorem setAud_cores (s : State) (n : Nat) (v : AudPort) : (s.setAud n v).cores = s.cores := rfl
@[simp] theorem setAud_pairs (s : State) (n : Nat) (v : AudPort) : (s.setAud n v).pairs = s.pairs := rfl
@[simp] theorem setAud_agents (s : State) (n : Nat) (v : AudPort) : (s.setAud n v).agents = s.agents := rfl
@[simp] theorem setAud_slices (s : State) (n : Nat) (v : AudPort) : (s.setAud n v).slices = s.slices := rfl
@[simp] theorem setAud_net (s : State) (n : Nat) (v : AudPort) : (s.setAud n v).net = s.net := rfl
@[simp] theorem setAud_split (s : State) (n : Nat) (v : AudPort) : (s.setAud n v).split = s.split := rfl
@[simp] theorem setAud_close (s : State) (n : Nat) (v : AudPort) : (s.setAud n v).close = s.close := rfl
@[simp] theorem setAud_stage (s : State) (n : Nat) (v : AudPort) : (s.setAud n v).stage = s.stage := rfl
@[simp] theorem setAud_dmcs (s : State) (n : Nat) (v : AudPort) : (s.setAud n v).dmcs = s.dmcs := rfl
@[simp] theorem setAud_errlog (s : State) (n : Nat) (v : AudPort) : (s.setAud n v).errlog = s.errlog := rfl
@[simp] theorem setAud_hat (s : State) (n : Nat) (v : AudPort) : (s.setAud n v).hat = s.hat := rfl
@[simp] theorem setAud_eiu (s : State) (n : Nat) (v : AudPort) : (s.setAud n v).eiu = s.eiu := rfl
@[simp] theorem setAud_tb (s : State) (n : Nat) (v : AudPort) : (s.setAud n v).tb = s.tb := rfl
@[simp] theorem setAud_fab (s : State) (n : Nat) (v : AudPort) : (s.setAud n v).fab = s.fab := rfl
@[simp] theorem setAud_resp (s : State) (n : Nat) (v : AudPort) : (s.setAud n v).resp = s.resp := rfl
@[simp] theorem setAud_seg (s : State) (n : Nat) (v : AudPort) : (s.setAud n v).seg = s.seg := rfl
@[simp] theorem setAud_eth (s : State) (n : Nat) (v : AudPort) : (s.setAud n v).eth = s.eth := rfl
@[simp] theorem setAud_usb (s : State) (n : Nat) (v : AudPort) : (s.setAud n v).usb = s.usb := rfl
@[simp] theorem setAud_cuf (s : State) (n : Nat) (v : AudPort) : (s.setAud n v).cuf = s.cuf := rfl
@[simp] theorem setAud_fgt (s : State) (n : Nat) (v : AudPort) : (s.setAud n v).fgt = s.fgt := rfl
@[simp] theorem setAud_keep (s : State) (n : Nat) (v : AudPort) : (s.setAud n v).keep = s.keep := rfl
@[simp] theorem setAud_keepInj (s : State) (n : Nat) (v : AudPort) : (s.setAud n v).keepInj = s.keepInj := rfl
@[simp] theorem setAud_cns (s : State) (n : Nat) (v : AudPort) : (s.setAud n v).cns = s.cns := rfl
@[simp] theorem setAud_boot (s : State) (n : Nat) (v : AudPort) : (s.setAud n v).boot = s.boot := rfl
@[simp] theorem setAud_pwr (s : State) (n : Nat) (v : AudPort) : (s.setAud n v).pwr = s.pwr := rfl
@[simp] theorem setAud_jtag (s : State) (n : Nat) (v : AudPort) : (s.setAud n v).jtag = s.jtag := rfl
@[simp] theorem setAud_flaws (s : State) (n : Nat) (v : AudPort) : (s.setAud n v).flaws = s.flaws := rfl
@[simp] theorem setAud_get_core (s : State) (n : Nat) (v : AudPort) (x : Nat) : (s.setAud n v).core x = s.core x := rfl
@[simp] theorem setAud_get_gpr (s : State) (n : Nat) (v : AudPort) (x y : Nat) : (s.setAud n v).gpr x y = s.gpr x y := rfl
@[simp] theorem setAud_get_accOf (s : State) (n : Nat) (v : AudPort) (x y : Nat) : (s.setAud n v).accOf x y = s.accOf x y := rfl
@[simp] theorem setAud_get_pair (s : State) (n : Nat) (v : AudPort) (x : Nat) : (s.setAud n v).pair x = s.pair x := rfl
@[simp] theorem setAud_get_agent (s : State) (n : Nat) (v : AudPort) (x : Nat) : (s.setAud n v).agent x = s.agent x := rfl
@[simp] theorem setAud_get_slice (s : State) (n : Nat) (v : AudPort) (x : Nat) : (s.setAud n v).slice x = s.slice x := rfl
@[simp] theorem setAud_get_dmc (s : State) (n : Nat) (v : AudPort) (x : Nat) : (s.setAud n v).dmc x = s.dmc x := rfl
@[simp] theorem setAud_get_cufP (s : State) (n : Nat) (v : AudPort) (x : Nat) : (s.setAud n v).cufP x = s.cufP x := rfl
@[simp] theorem setAud_get_reg (s : State) (n : Nat) (v : AudPort) (x : Nat) : (s.setAud n v).reg x = s.reg x := rfl
@[simp] theorem setAud_get_bit (s : State) (n : Nat) (v : AudPort) (x y : Nat) : (s.setAud n v).bit x y = s.bit x y := rfl
@[simp] theorem setAud_get_fld (s : State) (n : Nat) (v : AudPort) (x y z : Nat) : (s.setAud n v).fld x y z = s.fld x y z := rfl
@[simp] theorem setAud_get_pl (s : State) (n : Nat) (v : AudPort) (x : Nat) : (s.setAud n v).pl x = s.pl x := rfl
@[simp] theorem setAud_get_flags (s : State) (n : Nat) (v : AudPort) (x : Nat) : (s.setAud n v).flags x = s.flags x := rfl
@[simp] theorem setAud_get_now (s : State) (n : Nat) (v : AudPort) : (s.setAud n v).now = s.now := rfl
@[simp] theorem setAud_get_nowLo (s : State) (n : Nat) (v : AudPort) : (s.setAud n v).nowLo = s.nowLo := rfl
@[simp] theorem setAud_get_nowHi (s : State) (n : Nat) (v : AudPort) : (s.setAud n v).nowHi = s.nowHi := rfl
@[simp] theorem setAud_get_ni (s : State) (n : Nat) (v : AudPort) (x : Nat) : (s.setAud n v).ni x = s.ni x := rfl

/-! ### `State.setMidIn` -/

@[simp] theorem setMidIn_pending (s : State) (n : Nat) (v : MidIn) : (s.setMidIn n v).pending = s.pending := rfl
@[simp] theorem setMidIn_regs (s : State) (n : Nat) (v : MidIn) : (s.setMidIn n v).regs = s.regs := rfl
@[simp] theorem setMidIn_fresh (s : State) (n : Nat) (v : MidIn) : (s.setMidIn n v).fresh = s.fresh := rfl
@[simp] theorem setMidIn_cores (s : State) (n : Nat) (v : MidIn) : (s.setMidIn n v).cores = s.cores := rfl
@[simp] theorem setMidIn_pairs (s : State) (n : Nat) (v : MidIn) : (s.setMidIn n v).pairs = s.pairs := rfl
@[simp] theorem setMidIn_agents (s : State) (n : Nat) (v : MidIn) : (s.setMidIn n v).agents = s.agents := rfl
@[simp] theorem setMidIn_slices (s : State) (n : Nat) (v : MidIn) : (s.setMidIn n v).slices = s.slices := rfl
@[simp] theorem setMidIn_net (s : State) (n : Nat) (v : MidIn) : (s.setMidIn n v).net = s.net := rfl
@[simp] theorem setMidIn_split (s : State) (n : Nat) (v : MidIn) : (s.setMidIn n v).split = s.split := rfl
@[simp] theorem setMidIn_close (s : State) (n : Nat) (v : MidIn) : (s.setMidIn n v).close = s.close := rfl
@[simp] theorem setMidIn_stage (s : State) (n : Nat) (v : MidIn) : (s.setMidIn n v).stage = s.stage := rfl
@[simp] theorem setMidIn_dmcs (s : State) (n : Nat) (v : MidIn) : (s.setMidIn n v).dmcs = s.dmcs := rfl
@[simp] theorem setMidIn_errlog (s : State) (n : Nat) (v : MidIn) : (s.setMidIn n v).errlog = s.errlog := rfl
@[simp] theorem setMidIn_hat (s : State) (n : Nat) (v : MidIn) : (s.setMidIn n v).hat = s.hat := rfl
@[simp] theorem setMidIn_eiu (s : State) (n : Nat) (v : MidIn) : (s.setMidIn n v).eiu = s.eiu := rfl
@[simp] theorem setMidIn_tb (s : State) (n : Nat) (v : MidIn) : (s.setMidIn n v).tb = s.tb := rfl
@[simp] theorem setMidIn_fab (s : State) (n : Nat) (v : MidIn) : (s.setMidIn n v).fab = s.fab := rfl
@[simp] theorem setMidIn_resp (s : State) (n : Nat) (v : MidIn) : (s.setMidIn n v).resp = s.resp := rfl
@[simp] theorem setMidIn_seg (s : State) (n : Nat) (v : MidIn) : (s.setMidIn n v).seg = s.seg := rfl
@[simp] theorem setMidIn_eth (s : State) (n : Nat) (v : MidIn) : (s.setMidIn n v).eth = s.eth := rfl
@[simp] theorem setMidIn_usb (s : State) (n : Nat) (v : MidIn) : (s.setMidIn n v).usb = s.usb := rfl
@[simp] theorem setMidIn_cuf (s : State) (n : Nat) (v : MidIn) : (s.setMidIn n v).cuf = s.cuf := rfl
@[simp] theorem setMidIn_fgt (s : State) (n : Nat) (v : MidIn) : (s.setMidIn n v).fgt = s.fgt := rfl
@[simp] theorem setMidIn_keep (s : State) (n : Nat) (v : MidIn) : (s.setMidIn n v).keep = s.keep := rfl
@[simp] theorem setMidIn_keepInj (s : State) (n : Nat) (v : MidIn) : (s.setMidIn n v).keepInj = s.keepInj := rfl
@[simp] theorem setMidIn_cns (s : State) (n : Nat) (v : MidIn) : (s.setMidIn n v).cns = s.cns := rfl
@[simp] theorem setMidIn_boot (s : State) (n : Nat) (v : MidIn) : (s.setMidIn n v).boot = s.boot := rfl
@[simp] theorem setMidIn_pwr (s : State) (n : Nat) (v : MidIn) : (s.setMidIn n v).pwr = s.pwr := rfl
@[simp] theorem setMidIn_jtag (s : State) (n : Nat) (v : MidIn) : (s.setMidIn n v).jtag = s.jtag := rfl
@[simp] theorem setMidIn_flaws (s : State) (n : Nat) (v : MidIn) : (s.setMidIn n v).flaws = s.flaws := rfl
@[simp] theorem setMidIn_get_core (s : State) (n : Nat) (v : MidIn) (x : Nat) : (s.setMidIn n v).core x = s.core x := rfl
@[simp] theorem setMidIn_get_gpr (s : State) (n : Nat) (v : MidIn) (x y : Nat) : (s.setMidIn n v).gpr x y = s.gpr x y := rfl
@[simp] theorem setMidIn_get_accOf (s : State) (n : Nat) (v : MidIn) (x y : Nat) : (s.setMidIn n v).accOf x y = s.accOf x y := rfl
@[simp] theorem setMidIn_get_pair (s : State) (n : Nat) (v : MidIn) (x : Nat) : (s.setMidIn n v).pair x = s.pair x := rfl
@[simp] theorem setMidIn_get_agent (s : State) (n : Nat) (v : MidIn) (x : Nat) : (s.setMidIn n v).agent x = s.agent x := rfl
@[simp] theorem setMidIn_get_slice (s : State) (n : Nat) (v : MidIn) (x : Nat) : (s.setMidIn n v).slice x = s.slice x := rfl
@[simp] theorem setMidIn_get_dmc (s : State) (n : Nat) (v : MidIn) (x : Nat) : (s.setMidIn n v).dmc x = s.dmc x := rfl
@[simp] theorem setMidIn_get_cufP (s : State) (n : Nat) (v : MidIn) (x : Nat) : (s.setMidIn n v).cufP x = s.cufP x := rfl
@[simp] theorem setMidIn_get_reg (s : State) (n : Nat) (v : MidIn) (x : Nat) : (s.setMidIn n v).reg x = s.reg x := rfl
@[simp] theorem setMidIn_get_bit (s : State) (n : Nat) (v : MidIn) (x y : Nat) : (s.setMidIn n v).bit x y = s.bit x y := rfl
@[simp] theorem setMidIn_get_fld (s : State) (n : Nat) (v : MidIn) (x y z : Nat) : (s.setMidIn n v).fld x y z = s.fld x y z := rfl
@[simp] theorem setMidIn_get_pl (s : State) (n : Nat) (v : MidIn) (x : Nat) : (s.setMidIn n v).pl x = s.pl x := rfl
@[simp] theorem setMidIn_get_flags (s : State) (n : Nat) (v : MidIn) (x : Nat) : (s.setMidIn n v).flags x = s.flags x := rfl
@[simp] theorem setMidIn_get_now (s : State) (n : Nat) (v : MidIn) : (s.setMidIn n v).now = s.now := rfl
@[simp] theorem setMidIn_get_nowLo (s : State) (n : Nat) (v : MidIn) : (s.setMidIn n v).nowLo = s.nowLo := rfl
@[simp] theorem setMidIn_get_nowHi (s : State) (n : Nat) (v : MidIn) : (s.setMidIn n v).nowHi = s.nowHi := rfl
@[simp] theorem setMidIn_get_ni (s : State) (n : Nat) (v : MidIn) (x : Nat) : (s.setMidIn n v).ni x = s.ni x := rfl

/-! ### `State.setMidOut` -/

@[simp] theorem setMidOut_pending (s : State) (n : Nat) (v : MidOut) : (s.setMidOut n v).pending = s.pending := rfl
@[simp] theorem setMidOut_regs (s : State) (n : Nat) (v : MidOut) : (s.setMidOut n v).regs = s.regs := rfl
@[simp] theorem setMidOut_fresh (s : State) (n : Nat) (v : MidOut) : (s.setMidOut n v).fresh = s.fresh := rfl
@[simp] theorem setMidOut_cores (s : State) (n : Nat) (v : MidOut) : (s.setMidOut n v).cores = s.cores := rfl
@[simp] theorem setMidOut_pairs (s : State) (n : Nat) (v : MidOut) : (s.setMidOut n v).pairs = s.pairs := rfl
@[simp] theorem setMidOut_agents (s : State) (n : Nat) (v : MidOut) : (s.setMidOut n v).agents = s.agents := rfl
@[simp] theorem setMidOut_slices (s : State) (n : Nat) (v : MidOut) : (s.setMidOut n v).slices = s.slices := rfl
@[simp] theorem setMidOut_net (s : State) (n : Nat) (v : MidOut) : (s.setMidOut n v).net = s.net := rfl
@[simp] theorem setMidOut_split (s : State) (n : Nat) (v : MidOut) : (s.setMidOut n v).split = s.split := rfl
@[simp] theorem setMidOut_close (s : State) (n : Nat) (v : MidOut) : (s.setMidOut n v).close = s.close := rfl
@[simp] theorem setMidOut_stage (s : State) (n : Nat) (v : MidOut) : (s.setMidOut n v).stage = s.stage := rfl
@[simp] theorem setMidOut_dmcs (s : State) (n : Nat) (v : MidOut) : (s.setMidOut n v).dmcs = s.dmcs := rfl
@[simp] theorem setMidOut_errlog (s : State) (n : Nat) (v : MidOut) : (s.setMidOut n v).errlog = s.errlog := rfl
@[simp] theorem setMidOut_hat (s : State) (n : Nat) (v : MidOut) : (s.setMidOut n v).hat = s.hat := rfl
@[simp] theorem setMidOut_eiu (s : State) (n : Nat) (v : MidOut) : (s.setMidOut n v).eiu = s.eiu := rfl
@[simp] theorem setMidOut_tb (s : State) (n : Nat) (v : MidOut) : (s.setMidOut n v).tb = s.tb := rfl
@[simp] theorem setMidOut_fab (s : State) (n : Nat) (v : MidOut) : (s.setMidOut n v).fab = s.fab := rfl
@[simp] theorem setMidOut_resp (s : State) (n : Nat) (v : MidOut) : (s.setMidOut n v).resp = s.resp := rfl
@[simp] theorem setMidOut_seg (s : State) (n : Nat) (v : MidOut) : (s.setMidOut n v).seg = s.seg := rfl
@[simp] theorem setMidOut_eth (s : State) (n : Nat) (v : MidOut) : (s.setMidOut n v).eth = s.eth := rfl
@[simp] theorem setMidOut_usb (s : State) (n : Nat) (v : MidOut) : (s.setMidOut n v).usb = s.usb := rfl
@[simp] theorem setMidOut_cuf (s : State) (n : Nat) (v : MidOut) : (s.setMidOut n v).cuf = s.cuf := rfl
@[simp] theorem setMidOut_fgt (s : State) (n : Nat) (v : MidOut) : (s.setMidOut n v).fgt = s.fgt := rfl
@[simp] theorem setMidOut_keep (s : State) (n : Nat) (v : MidOut) : (s.setMidOut n v).keep = s.keep := rfl
@[simp] theorem setMidOut_keepInj (s : State) (n : Nat) (v : MidOut) : (s.setMidOut n v).keepInj = s.keepInj := rfl
@[simp] theorem setMidOut_cns (s : State) (n : Nat) (v : MidOut) : (s.setMidOut n v).cns = s.cns := rfl
@[simp] theorem setMidOut_boot (s : State) (n : Nat) (v : MidOut) : (s.setMidOut n v).boot = s.boot := rfl
@[simp] theorem setMidOut_pwr (s : State) (n : Nat) (v : MidOut) : (s.setMidOut n v).pwr = s.pwr := rfl
@[simp] theorem setMidOut_jtag (s : State) (n : Nat) (v : MidOut) : (s.setMidOut n v).jtag = s.jtag := rfl
@[simp] theorem setMidOut_flaws (s : State) (n : Nat) (v : MidOut) : (s.setMidOut n v).flaws = s.flaws := rfl
@[simp] theorem setMidOut_get_core (s : State) (n : Nat) (v : MidOut) (x : Nat) : (s.setMidOut n v).core x = s.core x := rfl
@[simp] theorem setMidOut_get_gpr (s : State) (n : Nat) (v : MidOut) (x y : Nat) : (s.setMidOut n v).gpr x y = s.gpr x y := rfl
@[simp] theorem setMidOut_get_accOf (s : State) (n : Nat) (v : MidOut) (x y : Nat) : (s.setMidOut n v).accOf x y = s.accOf x y := rfl
@[simp] theorem setMidOut_get_pair (s : State) (n : Nat) (v : MidOut) (x : Nat) : (s.setMidOut n v).pair x = s.pair x := rfl
@[simp] theorem setMidOut_get_agent (s : State) (n : Nat) (v : MidOut) (x : Nat) : (s.setMidOut n v).agent x = s.agent x := rfl
@[simp] theorem setMidOut_get_slice (s : State) (n : Nat) (v : MidOut) (x : Nat) : (s.setMidOut n v).slice x = s.slice x := rfl
@[simp] theorem setMidOut_get_dmc (s : State) (n : Nat) (v : MidOut) (x : Nat) : (s.setMidOut n v).dmc x = s.dmc x := rfl
@[simp] theorem setMidOut_get_cufP (s : State) (n : Nat) (v : MidOut) (x : Nat) : (s.setMidOut n v).cufP x = s.cufP x := rfl
@[simp] theorem setMidOut_get_reg (s : State) (n : Nat) (v : MidOut) (x : Nat) : (s.setMidOut n v).reg x = s.reg x := rfl
@[simp] theorem setMidOut_get_bit (s : State) (n : Nat) (v : MidOut) (x y : Nat) : (s.setMidOut n v).bit x y = s.bit x y := rfl
@[simp] theorem setMidOut_get_fld (s : State) (n : Nat) (v : MidOut) (x y z : Nat) : (s.setMidOut n v).fld x y z = s.fld x y z := rfl
@[simp] theorem setMidOut_get_pl (s : State) (n : Nat) (v : MidOut) (x : Nat) : (s.setMidOut n v).pl x = s.pl x := rfl
@[simp] theorem setMidOut_get_flags (s : State) (n : Nat) (v : MidOut) (x : Nat) : (s.setMidOut n v).flags x = s.flags x := rfl
@[simp] theorem setMidOut_get_now (s : State) (n : Nat) (v : MidOut) : (s.setMidOut n v).now = s.now := rfl
@[simp] theorem setMidOut_get_nowLo (s : State) (n : Nat) (v : MidOut) : (s.setMidOut n v).nowLo = s.nowLo := rfl
@[simp] theorem setMidOut_get_nowHi (s : State) (n : Nat) (v : MidOut) : (s.setMidOut n v).nowHi = s.nowHi := rfl
@[simp] theorem setMidOut_get_ni (s : State) (n : Nat) (v : MidOut) (x : Nat) : (s.setMidOut n v).ni x = s.ni x := rfl

/-! ### `State.setI2c` -/

@[simp] theorem setI2c_pending (s : State) (n : Nat) (v : I2c) : (s.setI2c n v).pending = s.pending := rfl
@[simp] theorem setI2c_regs (s : State) (n : Nat) (v : I2c) : (s.setI2c n v).regs = s.regs := rfl
@[simp] theorem setI2c_fresh (s : State) (n : Nat) (v : I2c) : (s.setI2c n v).fresh = s.fresh := rfl
@[simp] theorem setI2c_cores (s : State) (n : Nat) (v : I2c) : (s.setI2c n v).cores = s.cores := rfl
@[simp] theorem setI2c_pairs (s : State) (n : Nat) (v : I2c) : (s.setI2c n v).pairs = s.pairs := rfl
@[simp] theorem setI2c_agents (s : State) (n : Nat) (v : I2c) : (s.setI2c n v).agents = s.agents := rfl
@[simp] theorem setI2c_slices (s : State) (n : Nat) (v : I2c) : (s.setI2c n v).slices = s.slices := rfl
@[simp] theorem setI2c_net (s : State) (n : Nat) (v : I2c) : (s.setI2c n v).net = s.net := rfl
@[simp] theorem setI2c_split (s : State) (n : Nat) (v : I2c) : (s.setI2c n v).split = s.split := rfl
@[simp] theorem setI2c_close (s : State) (n : Nat) (v : I2c) : (s.setI2c n v).close = s.close := rfl
@[simp] theorem setI2c_stage (s : State) (n : Nat) (v : I2c) : (s.setI2c n v).stage = s.stage := rfl
@[simp] theorem setI2c_dmcs (s : State) (n : Nat) (v : I2c) : (s.setI2c n v).dmcs = s.dmcs := rfl
@[simp] theorem setI2c_errlog (s : State) (n : Nat) (v : I2c) : (s.setI2c n v).errlog = s.errlog := rfl
@[simp] theorem setI2c_hat (s : State) (n : Nat) (v : I2c) : (s.setI2c n v).hat = s.hat := rfl
@[simp] theorem setI2c_eiu (s : State) (n : Nat) (v : I2c) : (s.setI2c n v).eiu = s.eiu := rfl
@[simp] theorem setI2c_tb (s : State) (n : Nat) (v : I2c) : (s.setI2c n v).tb = s.tb := rfl
@[simp] theorem setI2c_fab (s : State) (n : Nat) (v : I2c) : (s.setI2c n v).fab = s.fab := rfl
@[simp] theorem setI2c_resp (s : State) (n : Nat) (v : I2c) : (s.setI2c n v).resp = s.resp := rfl
@[simp] theorem setI2c_seg (s : State) (n : Nat) (v : I2c) : (s.setI2c n v).seg = s.seg := rfl
@[simp] theorem setI2c_eth (s : State) (n : Nat) (v : I2c) : (s.setI2c n v).eth = s.eth := rfl
@[simp] theorem setI2c_usb (s : State) (n : Nat) (v : I2c) : (s.setI2c n v).usb = s.usb := rfl
@[simp] theorem setI2c_cuf (s : State) (n : Nat) (v : I2c) : (s.setI2c n v).cuf = s.cuf := rfl
@[simp] theorem setI2c_fgt (s : State) (n : Nat) (v : I2c) : (s.setI2c n v).fgt = s.fgt := rfl
@[simp] theorem setI2c_keep (s : State) (n : Nat) (v : I2c) : (s.setI2c n v).keep = s.keep := rfl
@[simp] theorem setI2c_keepInj (s : State) (n : Nat) (v : I2c) : (s.setI2c n v).keepInj = s.keepInj := rfl
@[simp] theorem setI2c_cns (s : State) (n : Nat) (v : I2c) : (s.setI2c n v).cns = s.cns := rfl
@[simp] theorem setI2c_boot (s : State) (n : Nat) (v : I2c) : (s.setI2c n v).boot = s.boot := rfl
@[simp] theorem setI2c_pwr (s : State) (n : Nat) (v : I2c) : (s.setI2c n v).pwr = s.pwr := rfl
@[simp] theorem setI2c_jtag (s : State) (n : Nat) (v : I2c) : (s.setI2c n v).jtag = s.jtag := rfl
@[simp] theorem setI2c_flaws (s : State) (n : Nat) (v : I2c) : (s.setI2c n v).flaws = s.flaws := rfl
@[simp] theorem setI2c_get_core (s : State) (n : Nat) (v : I2c) (x : Nat) : (s.setI2c n v).core x = s.core x := rfl
@[simp] theorem setI2c_get_gpr (s : State) (n : Nat) (v : I2c) (x y : Nat) : (s.setI2c n v).gpr x y = s.gpr x y := rfl
@[simp] theorem setI2c_get_accOf (s : State) (n : Nat) (v : I2c) (x y : Nat) : (s.setI2c n v).accOf x y = s.accOf x y := rfl
@[simp] theorem setI2c_get_pair (s : State) (n : Nat) (v : I2c) (x : Nat) : (s.setI2c n v).pair x = s.pair x := rfl
@[simp] theorem setI2c_get_agent (s : State) (n : Nat) (v : I2c) (x : Nat) : (s.setI2c n v).agent x = s.agent x := rfl
@[simp] theorem setI2c_get_slice (s : State) (n : Nat) (v : I2c) (x : Nat) : (s.setI2c n v).slice x = s.slice x := rfl
@[simp] theorem setI2c_get_dmc (s : State) (n : Nat) (v : I2c) (x : Nat) : (s.setI2c n v).dmc x = s.dmc x := rfl
@[simp] theorem setI2c_get_cufP (s : State) (n : Nat) (v : I2c) (x : Nat) : (s.setI2c n v).cufP x = s.cufP x := rfl
@[simp] theorem setI2c_get_reg (s : State) (n : Nat) (v : I2c) (x : Nat) : (s.setI2c n v).reg x = s.reg x := rfl
@[simp] theorem setI2c_get_bit (s : State) (n : Nat) (v : I2c) (x y : Nat) : (s.setI2c n v).bit x y = s.bit x y := rfl
@[simp] theorem setI2c_get_fld (s : State) (n : Nat) (v : I2c) (x y z : Nat) : (s.setI2c n v).fld x y z = s.fld x y z := rfl
@[simp] theorem setI2c_get_pl (s : State) (n : Nat) (v : I2c) (x : Nat) : (s.setI2c n v).pl x = s.pl x := rfl
@[simp] theorem setI2c_get_flags (s : State) (n : Nat) (v : I2c) (x : Nat) : (s.setI2c n v).flags x = s.flags x := rfl
@[simp] theorem setI2c_get_now (s : State) (n : Nat) (v : I2c) : (s.setI2c n v).now = s.now := rfl
@[simp] theorem setI2c_get_nowLo (s : State) (n : Nat) (v : I2c) : (s.setI2c n v).nowLo = s.nowLo := rfl
@[simp] theorem setI2c_get_nowHi (s : State) (n : Nat) (v : I2c) : (s.setI2c n v).nowHi = s.nowHi := rfl
@[simp] theorem setI2c_get_ni (s : State) (n : Nat) (v : I2c) (x : Nat) : (s.setI2c n v).ni x = s.ni x := rfl

/-! ### `State.setEmc` -/

@[simp] theorem setEmc_pending (s : State) (v : Emc) : (s.setEmc v).pending = s.pending := rfl
@[simp] theorem setEmc_regs (s : State) (v : Emc) : (s.setEmc v).regs = s.regs := rfl
@[simp] theorem setEmc_fresh (s : State) (v : Emc) : (s.setEmc v).fresh = s.fresh := rfl
@[simp] theorem setEmc_cores (s : State) (v : Emc) : (s.setEmc v).cores = s.cores := rfl
@[simp] theorem setEmc_pairs (s : State) (v : Emc) : (s.setEmc v).pairs = s.pairs := rfl
@[simp] theorem setEmc_agents (s : State) (v : Emc) : (s.setEmc v).agents = s.agents := rfl
@[simp] theorem setEmc_slices (s : State) (v : Emc) : (s.setEmc v).slices = s.slices := rfl
@[simp] theorem setEmc_net (s : State) (v : Emc) : (s.setEmc v).net = s.net := rfl
@[simp] theorem setEmc_split (s : State) (v : Emc) : (s.setEmc v).split = s.split := rfl
@[simp] theorem setEmc_close (s : State) (v : Emc) : (s.setEmc v).close = s.close := rfl
@[simp] theorem setEmc_stage (s : State) (v : Emc) : (s.setEmc v).stage = s.stage := rfl
@[simp] theorem setEmc_dmcs (s : State) (v : Emc) : (s.setEmc v).dmcs = s.dmcs := rfl
@[simp] theorem setEmc_errlog (s : State) (v : Emc) : (s.setEmc v).errlog = s.errlog := rfl
@[simp] theorem setEmc_hat (s : State) (v : Emc) : (s.setEmc v).hat = s.hat := rfl
@[simp] theorem setEmc_eiu (s : State) (v : Emc) : (s.setEmc v).eiu = s.eiu := rfl
@[simp] theorem setEmc_tb (s : State) (v : Emc) : (s.setEmc v).tb = s.tb := rfl
@[simp] theorem setEmc_fab (s : State) (v : Emc) : (s.setEmc v).fab = s.fab := rfl
@[simp] theorem setEmc_resp (s : State) (v : Emc) : (s.setEmc v).resp = s.resp := rfl
@[simp] theorem setEmc_seg (s : State) (v : Emc) : (s.setEmc v).seg = s.seg := rfl
@[simp] theorem setEmc_eth (s : State) (v : Emc) : (s.setEmc v).eth = s.eth := rfl
@[simp] theorem setEmc_usb (s : State) (v : Emc) : (s.setEmc v).usb = s.usb := rfl
@[simp] theorem setEmc_cuf (s : State) (v : Emc) : (s.setEmc v).cuf = s.cuf := rfl
@[simp] theorem setEmc_fgt (s : State) (v : Emc) : (s.setEmc v).fgt = s.fgt := rfl
@[simp] theorem setEmc_keep (s : State) (v : Emc) : (s.setEmc v).keep = s.keep := rfl
@[simp] theorem setEmc_keepInj (s : State) (v : Emc) : (s.setEmc v).keepInj = s.keepInj := rfl
@[simp] theorem setEmc_cns (s : State) (v : Emc) : (s.setEmc v).cns = s.cns := rfl
@[simp] theorem setEmc_boot (s : State) (v : Emc) : (s.setEmc v).boot = s.boot := rfl
@[simp] theorem setEmc_pwr (s : State) (v : Emc) : (s.setEmc v).pwr = s.pwr := rfl
@[simp] theorem setEmc_jtag (s : State) (v : Emc) : (s.setEmc v).jtag = s.jtag := rfl
@[simp] theorem setEmc_flaws (s : State) (v : Emc) : (s.setEmc v).flaws = s.flaws := rfl
@[simp] theorem setEmc_get_core (s : State) (v : Emc) (x : Nat) : (s.setEmc v).core x = s.core x := rfl
@[simp] theorem setEmc_get_gpr (s : State) (v : Emc) (x y : Nat) : (s.setEmc v).gpr x y = s.gpr x y := rfl
@[simp] theorem setEmc_get_accOf (s : State) (v : Emc) (x y : Nat) : (s.setEmc v).accOf x y = s.accOf x y := rfl
@[simp] theorem setEmc_get_pair (s : State) (v : Emc) (x : Nat) : (s.setEmc v).pair x = s.pair x := rfl
@[simp] theorem setEmc_get_agent (s : State) (v : Emc) (x : Nat) : (s.setEmc v).agent x = s.agent x := rfl
@[simp] theorem setEmc_get_slice (s : State) (v : Emc) (x : Nat) : (s.setEmc v).slice x = s.slice x := rfl
@[simp] theorem setEmc_get_dmc (s : State) (v : Emc) (x : Nat) : (s.setEmc v).dmc x = s.dmc x := rfl
@[simp] theorem setEmc_get_cufP (s : State) (v : Emc) (x : Nat) : (s.setEmc v).cufP x = s.cufP x := rfl
@[simp] theorem setEmc_get_reg (s : State) (v : Emc) (x : Nat) : (s.setEmc v).reg x = s.reg x := rfl
@[simp] theorem setEmc_get_bit (s : State) (v : Emc) (x y : Nat) : (s.setEmc v).bit x y = s.bit x y := rfl
@[simp] theorem setEmc_get_fld (s : State) (v : Emc) (x y z : Nat) : (s.setEmc v).fld x y z = s.fld x y z := rfl
@[simp] theorem setEmc_get_pl (s : State) (v : Emc) (x : Nat) : (s.setEmc v).pl x = s.pl x := rfl
@[simp] theorem setEmc_get_flags (s : State) (v : Emc) (x : Nat) : (s.setEmc v).flags x = s.flags x := rfl
@[simp] theorem setEmc_get_now (s : State) (v : Emc) : (s.setEmc v).now = s.now := rfl
@[simp] theorem setEmc_get_nowLo (s : State) (v : Emc) : (s.setEmc v).nowLo = s.nowLo := rfl
@[simp] theorem setEmc_get_nowHi (s : State) (v : Emc) : (s.setEmc v).nowHi = s.nowHi := rfl
@[simp] theorem setEmc_get_ni (s : State) (v : Emc) (x : Nat) : (s.setEmc v).ni x = s.ni x := rfl

/-! ### `State.setHpt` -/

@[simp] theorem setHpt_pending (s : State) (v : Hpt) : (s.setHpt v).pending = s.pending := rfl
@[simp] theorem setHpt_regs (s : State) (v : Hpt) : (s.setHpt v).regs = s.regs := rfl
@[simp] theorem setHpt_fresh (s : State) (v : Hpt) : (s.setHpt v).fresh = s.fresh := rfl
@[simp] theorem setHpt_cores (s : State) (v : Hpt) : (s.setHpt v).cores = s.cores := rfl
@[simp] theorem setHpt_pairs (s : State) (v : Hpt) : (s.setHpt v).pairs = s.pairs := rfl
@[simp] theorem setHpt_agents (s : State) (v : Hpt) : (s.setHpt v).agents = s.agents := rfl
@[simp] theorem setHpt_slices (s : State) (v : Hpt) : (s.setHpt v).slices = s.slices := rfl
@[simp] theorem setHpt_net (s : State) (v : Hpt) : (s.setHpt v).net = s.net := rfl
@[simp] theorem setHpt_split (s : State) (v : Hpt) : (s.setHpt v).split = s.split := rfl
@[simp] theorem setHpt_close (s : State) (v : Hpt) : (s.setHpt v).close = s.close := rfl
@[simp] theorem setHpt_stage (s : State) (v : Hpt) : (s.setHpt v).stage = s.stage := rfl
@[simp] theorem setHpt_dmcs (s : State) (v : Hpt) : (s.setHpt v).dmcs = s.dmcs := rfl
@[simp] theorem setHpt_errlog (s : State) (v : Hpt) : (s.setHpt v).errlog = s.errlog := rfl
@[simp] theorem setHpt_hat (s : State) (v : Hpt) : (s.setHpt v).hat = s.hat := rfl
@[simp] theorem setHpt_eiu (s : State) (v : Hpt) : (s.setHpt v).eiu = s.eiu := rfl
@[simp] theorem setHpt_tb (s : State) (v : Hpt) : (s.setHpt v).tb = s.tb := rfl
@[simp] theorem setHpt_fab (s : State) (v : Hpt) : (s.setHpt v).fab = s.fab := rfl
@[simp] theorem setHpt_resp (s : State) (v : Hpt) : (s.setHpt v).resp = s.resp := rfl
@[simp] theorem setHpt_seg (s : State) (v : Hpt) : (s.setHpt v).seg = s.seg := rfl
@[simp] theorem setHpt_eth (s : State) (v : Hpt) : (s.setHpt v).eth = s.eth := rfl
@[simp] theorem setHpt_usb (s : State) (v : Hpt) : (s.setHpt v).usb = s.usb := rfl
@[simp] theorem setHpt_cuf (s : State) (v : Hpt) : (s.setHpt v).cuf = s.cuf := rfl
@[simp] theorem setHpt_fgt (s : State) (v : Hpt) : (s.setHpt v).fgt = s.fgt := rfl
@[simp] theorem setHpt_keep (s : State) (v : Hpt) : (s.setHpt v).keep = s.keep := rfl
@[simp] theorem setHpt_keepInj (s : State) (v : Hpt) : (s.setHpt v).keepInj = s.keepInj := rfl
@[simp] theorem setHpt_cns (s : State) (v : Hpt) : (s.setHpt v).cns = s.cns := rfl
@[simp] theorem setHpt_boot (s : State) (v : Hpt) : (s.setHpt v).boot = s.boot := rfl
@[simp] theorem setHpt_pwr (s : State) (v : Hpt) : (s.setHpt v).pwr = s.pwr := rfl
@[simp] theorem setHpt_jtag (s : State) (v : Hpt) : (s.setHpt v).jtag = s.jtag := rfl
@[simp] theorem setHpt_flaws (s : State) (v : Hpt) : (s.setHpt v).flaws = s.flaws := rfl
@[simp] theorem setHpt_get_core (s : State) (v : Hpt) (x : Nat) : (s.setHpt v).core x = s.core x := rfl
@[simp] theorem setHpt_get_gpr (s : State) (v : Hpt) (x y : Nat) : (s.setHpt v).gpr x y = s.gpr x y := rfl
@[simp] theorem setHpt_get_accOf (s : State) (v : Hpt) (x y : Nat) : (s.setHpt v).accOf x y = s.accOf x y := rfl
@[simp] theorem setHpt_get_pair (s : State) (v : Hpt) (x : Nat) : (s.setHpt v).pair x = s.pair x := rfl
@[simp] theorem setHpt_get_agent (s : State) (v : Hpt) (x : Nat) : (s.setHpt v).agent x = s.agent x := rfl
@[simp] theorem setHpt_get_slice (s : State) (v : Hpt) (x : Nat) : (s.setHpt v).slice x = s.slice x := rfl
@[simp] theorem setHpt_get_dmc (s : State) (v : Hpt) (x : Nat) : (s.setHpt v).dmc x = s.dmc x := rfl
@[simp] theorem setHpt_get_cufP (s : State) (v : Hpt) (x : Nat) : (s.setHpt v).cufP x = s.cufP x := rfl
@[simp] theorem setHpt_get_reg (s : State) (v : Hpt) (x : Nat) : (s.setHpt v).reg x = s.reg x := rfl
@[simp] theorem setHpt_get_bit (s : State) (v : Hpt) (x y : Nat) : (s.setHpt v).bit x y = s.bit x y := rfl
@[simp] theorem setHpt_get_fld (s : State) (v : Hpt) (x y z : Nat) : (s.setHpt v).fld x y z = s.fld x y z := rfl
@[simp] theorem setHpt_get_pl (s : State) (v : Hpt) (x : Nat) : (s.setHpt v).pl x = s.pl x := rfl
@[simp] theorem setHpt_get_flags (s : State) (v : Hpt) (x : Nat) : (s.setHpt v).flags x = s.flags x := rfl
@[simp] theorem setHpt_get_now (s : State) (v : Hpt) : (s.setHpt v).now = s.now := rfl
@[simp] theorem setHpt_get_nowLo (s : State) (v : Hpt) : (s.setHpt v).nowLo = s.nowLo := rfl
@[simp] theorem setHpt_get_nowHi (s : State) (v : Hpt) : (s.setHpt v).nowHi = s.nowHi := rfl
@[simp] theorem setHpt_get_ni (s : State) (v : Hpt) (x : Nat) : (s.setHpt v).ni x = s.ni x := rfl

/-! ### `State.setUsbEp` -/

@[simp] theorem setUsbEp_pending (s : State) (k : Nat) (v : UsbEp) : (s.setUsbEp k v).pending = s.pending := rfl
@[simp] theorem setUsbEp_regs (s : State) (k : Nat) (v : UsbEp) : (s.setUsbEp k v).regs = s.regs := rfl
@[simp] theorem setUsbEp_fresh (s : State) (k : Nat) (v : UsbEp) : (s.setUsbEp k v).fresh = s.fresh := rfl
@[simp] theorem setUsbEp_cores (s : State) (k : Nat) (v : UsbEp) : (s.setUsbEp k v).cores = s.cores := rfl
@[simp] theorem setUsbEp_pairs (s : State) (k : Nat) (v : UsbEp) : (s.setUsbEp k v).pairs = s.pairs := rfl
@[simp] theorem setUsbEp_agents (s : State) (k : Nat) (v : UsbEp) : (s.setUsbEp k v).agents = s.agents := rfl
@[simp] theorem setUsbEp_slices (s : State) (k : Nat) (v : UsbEp) : (s.setUsbEp k v).slices = s.slices := rfl
@[simp] theorem setUsbEp_net (s : State) (k : Nat) (v : UsbEp) : (s.setUsbEp k v).net = s.net := rfl
@[simp] theorem setUsbEp_split (s : State) (k : Nat) (v : UsbEp) : (s.setUsbEp k v).split = s.split := rfl
@[simp] theorem setUsbEp_close (s : State) (k : Nat) (v : UsbEp) : (s.setUsbEp k v).close = s.close := rfl
@[simp] theorem setUsbEp_stage (s : State) (k : Nat) (v : UsbEp) : (s.setUsbEp k v).stage = s.stage := rfl
@[simp] theorem setUsbEp_dmcs (s : State) (k : Nat) (v : UsbEp) : (s.setUsbEp k v).dmcs = s.dmcs := rfl
@[simp] theorem setUsbEp_errlog (s : State) (k : Nat) (v : UsbEp) : (s.setUsbEp k v).errlog = s.errlog := rfl
@[simp] theorem setUsbEp_hat (s : State) (k : Nat) (v : UsbEp) : (s.setUsbEp k v).hat = s.hat := rfl
@[simp] theorem setUsbEp_eiu (s : State) (k : Nat) (v : UsbEp) : (s.setUsbEp k v).eiu = s.eiu := rfl
@[simp] theorem setUsbEp_tb (s : State) (k : Nat) (v : UsbEp) : (s.setUsbEp k v).tb = s.tb := rfl
@[simp] theorem setUsbEp_fab (s : State) (k : Nat) (v : UsbEp) : (s.setUsbEp k v).fab = s.fab := rfl
@[simp] theorem setUsbEp_resp (s : State) (k : Nat) (v : UsbEp) : (s.setUsbEp k v).resp = s.resp := rfl
@[simp] theorem setUsbEp_seg (s : State) (k : Nat) (v : UsbEp) : (s.setUsbEp k v).seg = s.seg := rfl
@[simp] theorem setUsbEp_ports (s : State) (k : Nat) (v : UsbEp) : (s.setUsbEp k v).ports = s.ports := rfl
@[simp] theorem setUsbEp_eth (s : State) (k : Nat) (v : UsbEp) : (s.setUsbEp k v).eth = s.eth := rfl
@[simp] theorem setUsbEp_cuf (s : State) (k : Nat) (v : UsbEp) : (s.setUsbEp k v).cuf = s.cuf := rfl
@[simp] theorem setUsbEp_fgt (s : State) (k : Nat) (v : UsbEp) : (s.setUsbEp k v).fgt = s.fgt := rfl
@[simp] theorem setUsbEp_keep (s : State) (k : Nat) (v : UsbEp) : (s.setUsbEp k v).keep = s.keep := rfl
@[simp] theorem setUsbEp_keepInj (s : State) (k : Nat) (v : UsbEp) : (s.setUsbEp k v).keepInj = s.keepInj := rfl
@[simp] theorem setUsbEp_cns (s : State) (k : Nat) (v : UsbEp) : (s.setUsbEp k v).cns = s.cns := rfl
@[simp] theorem setUsbEp_boot (s : State) (k : Nat) (v : UsbEp) : (s.setUsbEp k v).boot = s.boot := rfl
@[simp] theorem setUsbEp_pwr (s : State) (k : Nat) (v : UsbEp) : (s.setUsbEp k v).pwr = s.pwr := rfl
@[simp] theorem setUsbEp_jtag (s : State) (k : Nat) (v : UsbEp) : (s.setUsbEp k v).jtag = s.jtag := rfl
@[simp] theorem setUsbEp_flaws (s : State) (k : Nat) (v : UsbEp) : (s.setUsbEp k v).flaws = s.flaws := rfl
@[simp] theorem setUsbEp_get_core (s : State) (k : Nat) (v : UsbEp) (x : Nat) : (s.setUsbEp k v).core x = s.core x := rfl
@[simp] theorem setUsbEp_get_gpr (s : State) (k : Nat) (v : UsbEp) (x y : Nat) : (s.setUsbEp k v).gpr x y = s.gpr x y := rfl
@[simp] theorem setUsbEp_get_accOf (s : State) (k : Nat) (v : UsbEp) (x y : Nat) : (s.setUsbEp k v).accOf x y = s.accOf x y := rfl
@[simp] theorem setUsbEp_get_pair (s : State) (k : Nat) (v : UsbEp) (x : Nat) : (s.setUsbEp k v).pair x = s.pair x := rfl
@[simp] theorem setUsbEp_get_agent (s : State) (k : Nat) (v : UsbEp) (x : Nat) : (s.setUsbEp k v).agent x = s.agent x := rfl
@[simp] theorem setUsbEp_get_slice (s : State) (k : Nat) (v : UsbEp) (x : Nat) : (s.setUsbEp k v).slice x = s.slice x := rfl
@[simp] theorem setUsbEp_get_dmc (s : State) (k : Nat) (v : UsbEp) (x : Nat) : (s.setUsbEp k v).dmc x = s.dmc x := rfl
@[simp] theorem setUsbEp_get_cufP (s : State) (k : Nat) (v : UsbEp) (x : Nat) : (s.setUsbEp k v).cufP x = s.cufP x := rfl
@[simp] theorem setUsbEp_get_reg (s : State) (k : Nat) (v : UsbEp) (x : Nat) : (s.setUsbEp k v).reg x = s.reg x := rfl
@[simp] theorem setUsbEp_get_bit (s : State) (k : Nat) (v : UsbEp) (x y : Nat) : (s.setUsbEp k v).bit x y = s.bit x y := rfl
@[simp] theorem setUsbEp_get_fld (s : State) (k : Nat) (v : UsbEp) (x y z : Nat) : (s.setUsbEp k v).fld x y z = s.fld x y z := rfl
@[simp] theorem setUsbEp_get_pl (s : State) (k : Nat) (v : UsbEp) (x : Nat) : (s.setUsbEp k v).pl x = s.pl x := rfl
@[simp] theorem setUsbEp_get_flags (s : State) (k : Nat) (v : UsbEp) (x : Nat) : (s.setUsbEp k v).flags x = s.flags x := rfl
@[simp] theorem setUsbEp_get_now (s : State) (k : Nat) (v : UsbEp) : (s.setUsbEp k v).now = s.now := rfl
@[simp] theorem setUsbEp_get_nowLo (s : State) (k : Nat) (v : UsbEp) : (s.setUsbEp k v).nowLo = s.nowLo := rfl
@[simp] theorem setUsbEp_get_nowHi (s : State) (k : Nat) (v : UsbEp) : (s.setUsbEp k v).nowHi = s.nowHi := rfl
@[simp] theorem setUsbEp_get_ni (s : State) (k : Nat) (v : UsbEp) (x : Nat) : (s.setUsbEp k v).ni x = s.ni x := rfl

/-! ### `State.setCuf` -/

@[simp] theorem setCuf_pending (s : State) (n : Nat) (v : CufPort) : (s.setCuf n v).pending = s.pending := rfl
@[simp] theorem setCuf_regs (s : State) (n : Nat) (v : CufPort) : (s.setCuf n v).regs = s.regs := rfl
@[simp] theorem setCuf_fresh (s : State) (n : Nat) (v : CufPort) : (s.setCuf n v).fresh = s.fresh := rfl
@[simp] theorem setCuf_cores (s : State) (n : Nat) (v : CufPort) : (s.setCuf n v).cores = s.cores := rfl
@[simp] theorem setCuf_pairs (s : State) (n : Nat) (v : CufPort) : (s.setCuf n v).pairs = s.pairs := rfl
@[simp] theorem setCuf_agents (s : State) (n : Nat) (v : CufPort) : (s.setCuf n v).agents = s.agents := rfl
@[simp] theorem setCuf_slices (s : State) (n : Nat) (v : CufPort) : (s.setCuf n v).slices = s.slices := rfl
@[simp] theorem setCuf_net (s : State) (n : Nat) (v : CufPort) : (s.setCuf n v).net = s.net := rfl
@[simp] theorem setCuf_split (s : State) (n : Nat) (v : CufPort) : (s.setCuf n v).split = s.split := rfl
@[simp] theorem setCuf_close (s : State) (n : Nat) (v : CufPort) : (s.setCuf n v).close = s.close := rfl
@[simp] theorem setCuf_stage (s : State) (n : Nat) (v : CufPort) : (s.setCuf n v).stage = s.stage := rfl
@[simp] theorem setCuf_dmcs (s : State) (n : Nat) (v : CufPort) : (s.setCuf n v).dmcs = s.dmcs := rfl
@[simp] theorem setCuf_errlog (s : State) (n : Nat) (v : CufPort) : (s.setCuf n v).errlog = s.errlog := rfl
@[simp] theorem setCuf_hat (s : State) (n : Nat) (v : CufPort) : (s.setCuf n v).hat = s.hat := rfl
@[simp] theorem setCuf_eiu (s : State) (n : Nat) (v : CufPort) : (s.setCuf n v).eiu = s.eiu := rfl
@[simp] theorem setCuf_tb (s : State) (n : Nat) (v : CufPort) : (s.setCuf n v).tb = s.tb := rfl
@[simp] theorem setCuf_fab (s : State) (n : Nat) (v : CufPort) : (s.setCuf n v).fab = s.fab := rfl
@[simp] theorem setCuf_resp (s : State) (n : Nat) (v : CufPort) : (s.setCuf n v).resp = s.resp := rfl
@[simp] theorem setCuf_seg (s : State) (n : Nat) (v : CufPort) : (s.setCuf n v).seg = s.seg := rfl
@[simp] theorem setCuf_ports (s : State) (n : Nat) (v : CufPort) : (s.setCuf n v).ports = s.ports := rfl
@[simp] theorem setCuf_eth (s : State) (n : Nat) (v : CufPort) : (s.setCuf n v).eth = s.eth := rfl
@[simp] theorem setCuf_usb (s : State) (n : Nat) (v : CufPort) : (s.setCuf n v).usb = s.usb := rfl
@[simp] theorem setCuf_fgt (s : State) (n : Nat) (v : CufPort) : (s.setCuf n v).fgt = s.fgt := rfl
@[simp] theorem setCuf_keep (s : State) (n : Nat) (v : CufPort) : (s.setCuf n v).keep = s.keep := rfl
@[simp] theorem setCuf_keepInj (s : State) (n : Nat) (v : CufPort) : (s.setCuf n v).keepInj = s.keepInj := rfl
@[simp] theorem setCuf_cns (s : State) (n : Nat) (v : CufPort) : (s.setCuf n v).cns = s.cns := rfl
@[simp] theorem setCuf_boot (s : State) (n : Nat) (v : CufPort) : (s.setCuf n v).boot = s.boot := rfl
@[simp] theorem setCuf_pwr (s : State) (n : Nat) (v : CufPort) : (s.setCuf n v).pwr = s.pwr := rfl
@[simp] theorem setCuf_jtag (s : State) (n : Nat) (v : CufPort) : (s.setCuf n v).jtag = s.jtag := rfl
@[simp] theorem setCuf_flaws (s : State) (n : Nat) (v : CufPort) : (s.setCuf n v).flaws = s.flaws := rfl
@[simp] theorem setCuf_get_core (s : State) (n : Nat) (v : CufPort) (x : Nat) : (s.setCuf n v).core x = s.core x := rfl
@[simp] theorem setCuf_get_gpr (s : State) (n : Nat) (v : CufPort) (x y : Nat) : (s.setCuf n v).gpr x y = s.gpr x y := rfl
@[simp] theorem setCuf_get_accOf (s : State) (n : Nat) (v : CufPort) (x y : Nat) : (s.setCuf n v).accOf x y = s.accOf x y := rfl
@[simp] theorem setCuf_get_pair (s : State) (n : Nat) (v : CufPort) (x : Nat) : (s.setCuf n v).pair x = s.pair x := rfl
@[simp] theorem setCuf_get_agent (s : State) (n : Nat) (v : CufPort) (x : Nat) : (s.setCuf n v).agent x = s.agent x := rfl
@[simp] theorem setCuf_get_slice (s : State) (n : Nat) (v : CufPort) (x : Nat) : (s.setCuf n v).slice x = s.slice x := rfl
@[simp] theorem setCuf_get_dmc (s : State) (n : Nat) (v : CufPort) (x : Nat) : (s.setCuf n v).dmc x = s.dmc x := rfl
@[simp] theorem setCuf_get_reg (s : State) (n : Nat) (v : CufPort) (x : Nat) : (s.setCuf n v).reg x = s.reg x := rfl
@[simp] theorem setCuf_get_bit (s : State) (n : Nat) (v : CufPort) (x y : Nat) : (s.setCuf n v).bit x y = s.bit x y := rfl
@[simp] theorem setCuf_get_fld (s : State) (n : Nat) (v : CufPort) (x y z : Nat) : (s.setCuf n v).fld x y z = s.fld x y z := rfl
@[simp] theorem setCuf_get_pl (s : State) (n : Nat) (v : CufPort) (x : Nat) : (s.setCuf n v).pl x = s.pl x := rfl
@[simp] theorem setCuf_get_flags (s : State) (n : Nat) (v : CufPort) (x : Nat) : (s.setCuf n v).flags x = s.flags x := rfl
@[simp] theorem setCuf_get_now (s : State) (n : Nat) (v : CufPort) : (s.setCuf n v).now = s.now := rfl
@[simp] theorem setCuf_get_nowLo (s : State) (n : Nat) (v : CufPort) : (s.setCuf n v).nowLo = s.nowLo := rfl
@[simp] theorem setCuf_get_nowHi (s : State) (n : Nat) (v : CufPort) : (s.setCuf n v).nowHi = s.nowHi := rfl
@[simp] theorem setCuf_get_ni (s : State) (n : Nat) (v : CufPort) (x : Nat) : (s.setCuf n v).ni x = s.ni x := rfl

/-! ### `State.setRing` -/

@[simp] theorem setRing_pending (s : State) (n : Nat) (v : Ring) : (s.setRing n v).pending = s.pending := rfl
@[simp] theorem setRing_regs (s : State) (n : Nat) (v : Ring) : (s.setRing n v).regs = s.regs := rfl
@[simp] theorem setRing_fresh (s : State) (n : Nat) (v : Ring) : (s.setRing n v).fresh = s.fresh := rfl
@[simp] theorem setRing_cores (s : State) (n : Nat) (v : Ring) : (s.setRing n v).cores = s.cores := rfl
@[simp] theorem setRing_pairs (s : State) (n : Nat) (v : Ring) : (s.setRing n v).pairs = s.pairs := rfl
@[simp] theorem setRing_agents (s : State) (n : Nat) (v : Ring) : (s.setRing n v).agents = s.agents := rfl
@[simp] theorem setRing_slices (s : State) (n : Nat) (v : Ring) : (s.setRing n v).slices = s.slices := rfl
@[simp] theorem setRing_net (s : State) (n : Nat) (v : Ring) : (s.setRing n v).net = s.net := rfl
@[simp] theorem setRing_split (s : State) (n : Nat) (v : Ring) : (s.setRing n v).split = s.split := rfl
@[simp] theorem setRing_close (s : State) (n : Nat) (v : Ring) : (s.setRing n v).close = s.close := rfl
@[simp] theorem setRing_stage (s : State) (n : Nat) (v : Ring) : (s.setRing n v).stage = s.stage := rfl
@[simp] theorem setRing_dmcs (s : State) (n : Nat) (v : Ring) : (s.setRing n v).dmcs = s.dmcs := rfl
@[simp] theorem setRing_errlog (s : State) (n : Nat) (v : Ring) : (s.setRing n v).errlog = s.errlog := rfl
@[simp] theorem setRing_hat (s : State) (n : Nat) (v : Ring) : (s.setRing n v).hat = s.hat := rfl
@[simp] theorem setRing_eiu (s : State) (n : Nat) (v : Ring) : (s.setRing n v).eiu = s.eiu := rfl
@[simp] theorem setRing_tb (s : State) (n : Nat) (v : Ring) : (s.setRing n v).tb = s.tb := rfl
@[simp] theorem setRing_fab (s : State) (n : Nat) (v : Ring) : (s.setRing n v).fab = s.fab := rfl
@[simp] theorem setRing_resp (s : State) (n : Nat) (v : Ring) : (s.setRing n v).resp = s.resp := rfl
@[simp] theorem setRing_ports (s : State) (n : Nat) (v : Ring) : (s.setRing n v).ports = s.ports := rfl
@[simp] theorem setRing_eth (s : State) (n : Nat) (v : Ring) : (s.setRing n v).eth = s.eth := rfl
@[simp] theorem setRing_usb (s : State) (n : Nat) (v : Ring) : (s.setRing n v).usb = s.usb := rfl
@[simp] theorem setRing_cuf (s : State) (n : Nat) (v : Ring) : (s.setRing n v).cuf = s.cuf := rfl
@[simp] theorem setRing_fgt (s : State) (n : Nat) (v : Ring) : (s.setRing n v).fgt = s.fgt := rfl
@[simp] theorem setRing_keep (s : State) (n : Nat) (v : Ring) : (s.setRing n v).keep = s.keep := rfl
@[simp] theorem setRing_keepInj (s : State) (n : Nat) (v : Ring) : (s.setRing n v).keepInj = s.keepInj := rfl
@[simp] theorem setRing_cns (s : State) (n : Nat) (v : Ring) : (s.setRing n v).cns = s.cns := rfl
@[simp] theorem setRing_boot (s : State) (n : Nat) (v : Ring) : (s.setRing n v).boot = s.boot := rfl
@[simp] theorem setRing_pwr (s : State) (n : Nat) (v : Ring) : (s.setRing n v).pwr = s.pwr := rfl
@[simp] theorem setRing_jtag (s : State) (n : Nat) (v : Ring) : (s.setRing n v).jtag = s.jtag := rfl
@[simp] theorem setRing_flaws (s : State) (n : Nat) (v : Ring) : (s.setRing n v).flaws = s.flaws := rfl
@[simp] theorem setRing_get_core (s : State) (n : Nat) (v : Ring) (x : Nat) : (s.setRing n v).core x = s.core x := rfl
@[simp] theorem setRing_get_gpr (s : State) (n : Nat) (v : Ring) (x y : Nat) : (s.setRing n v).gpr x y = s.gpr x y := rfl
@[simp] theorem setRing_get_accOf (s : State) (n : Nat) (v : Ring) (x y : Nat) : (s.setRing n v).accOf x y = s.accOf x y := rfl
@[simp] theorem setRing_get_pair (s : State) (n : Nat) (v : Ring) (x : Nat) : (s.setRing n v).pair x = s.pair x := rfl
@[simp] theorem setRing_get_agent (s : State) (n : Nat) (v : Ring) (x : Nat) : (s.setRing n v).agent x = s.agent x := rfl
@[simp] theorem setRing_get_slice (s : State) (n : Nat) (v : Ring) (x : Nat) : (s.setRing n v).slice x = s.slice x := rfl
@[simp] theorem setRing_get_dmc (s : State) (n : Nat) (v : Ring) (x : Nat) : (s.setRing n v).dmc x = s.dmc x := rfl
@[simp] theorem setRing_get_cufP (s : State) (n : Nat) (v : Ring) (x : Nat) : (s.setRing n v).cufP x = s.cufP x := rfl
@[simp] theorem setRing_get_reg (s : State) (n : Nat) (v : Ring) (x : Nat) : (s.setRing n v).reg x = s.reg x := rfl
@[simp] theorem setRing_get_bit (s : State) (n : Nat) (v : Ring) (x y : Nat) : (s.setRing n v).bit x y = s.bit x y := rfl
@[simp] theorem setRing_get_fld (s : State) (n : Nat) (v : Ring) (x y z : Nat) : (s.setRing n v).fld x y z = s.fld x y z := rfl
@[simp] theorem setRing_get_pl (s : State) (n : Nat) (v : Ring) (x : Nat) : (s.setRing n v).pl x = s.pl x := rfl
@[simp] theorem setRing_get_flags (s : State) (n : Nat) (v : Ring) (x : Nat) : (s.setRing n v).flags x = s.flags x := rfl
@[simp] theorem setRing_get_now (s : State) (n : Nat) (v : Ring) : (s.setRing n v).now = s.now := rfl
@[simp] theorem setRing_get_nowLo (s : State) (n : Nat) (v : Ring) : (s.setRing n v).nowLo = s.nowLo := rfl
@[simp] theorem setRing_get_nowHi (s : State) (n : Nat) (v : Ring) : (s.setRing n v).nowHi = s.nowHi := rfl
@[simp] theorem setRing_get_ni (s : State) (n : Nat) (v : Ring) (x : Nat) : (s.setRing n v).ni x = s.ni x := rfl

/-! ### `updCuf` -/

@[simp] theorem updCuf_pending (s : State) (n : Nat) (f : CufPort → CufPort) : (updCuf n f s).pending = s.pending := rfl
@[simp] theorem updCuf_regs (s : State) (n : Nat) (f : CufPort → CufPort) : (updCuf n f s).regs = s.regs := rfl
@[simp] theorem updCuf_fresh (s : State) (n : Nat) (f : CufPort → CufPort) : (updCuf n f s).fresh = s.fresh := rfl
@[simp] theorem updCuf_cores (s : State) (n : Nat) (f : CufPort → CufPort) : (updCuf n f s).cores = s.cores := rfl
@[simp] theorem updCuf_pairs (s : State) (n : Nat) (f : CufPort → CufPort) : (updCuf n f s).pairs = s.pairs := rfl
@[simp] theorem updCuf_agents (s : State) (n : Nat) (f : CufPort → CufPort) : (updCuf n f s).agents = s.agents := rfl
@[simp] theorem updCuf_slices (s : State) (n : Nat) (f : CufPort → CufPort) : (updCuf n f s).slices = s.slices := rfl
@[simp] theorem updCuf_net (s : State) (n : Nat) (f : CufPort → CufPort) : (updCuf n f s).net = s.net := rfl
@[simp] theorem updCuf_split (s : State) (n : Nat) (f : CufPort → CufPort) : (updCuf n f s).split = s.split := rfl
@[simp] theorem updCuf_close (s : State) (n : Nat) (f : CufPort → CufPort) : (updCuf n f s).close = s.close := rfl
@[simp] theorem updCuf_stage (s : State) (n : Nat) (f : CufPort → CufPort) : (updCuf n f s).stage = s.stage := rfl
@[simp] theorem updCuf_dmcs (s : State) (n : Nat) (f : CufPort → CufPort) : (updCuf n f s).dmcs = s.dmcs := rfl
@[simp] theorem updCuf_errlog (s : State) (n : Nat) (f : CufPort → CufPort) : (updCuf n f s).errlog = s.errlog := rfl
@[simp] theorem updCuf_hat (s : State) (n : Nat) (f : CufPort → CufPort) : (updCuf n f s).hat = s.hat := rfl
@[simp] theorem updCuf_eiu (s : State) (n : Nat) (f : CufPort → CufPort) : (updCuf n f s).eiu = s.eiu := rfl
@[simp] theorem updCuf_tb (s : State) (n : Nat) (f : CufPort → CufPort) : (updCuf n f s).tb = s.tb := rfl
@[simp] theorem updCuf_fab (s : State) (n : Nat) (f : CufPort → CufPort) : (updCuf n f s).fab = s.fab := rfl
@[simp] theorem updCuf_resp (s : State) (n : Nat) (f : CufPort → CufPort) : (updCuf n f s).resp = s.resp := rfl
@[simp] theorem updCuf_seg (s : State) (n : Nat) (f : CufPort → CufPort) : (updCuf n f s).seg = s.seg := rfl
@[simp] theorem updCuf_ports (s : State) (n : Nat) (f : CufPort → CufPort) : (updCuf n f s).ports = s.ports := rfl
@[simp] theorem updCuf_eth (s : State) (n : Nat) (f : CufPort → CufPort) : (updCuf n f s).eth = s.eth := rfl
@[simp] theorem updCuf_usb (s : State) (n : Nat) (f : CufPort → CufPort) : (updCuf n f s).usb = s.usb := rfl
@[simp] theorem updCuf_fgt (s : State) (n : Nat) (f : CufPort → CufPort) : (updCuf n f s).fgt = s.fgt := rfl
@[simp] theorem updCuf_keep (s : State) (n : Nat) (f : CufPort → CufPort) : (updCuf n f s).keep = s.keep := rfl
@[simp] theorem updCuf_keepInj (s : State) (n : Nat) (f : CufPort → CufPort) : (updCuf n f s).keepInj = s.keepInj := rfl
@[simp] theorem updCuf_cns (s : State) (n : Nat) (f : CufPort → CufPort) : (updCuf n f s).cns = s.cns := rfl
@[simp] theorem updCuf_boot (s : State) (n : Nat) (f : CufPort → CufPort) : (updCuf n f s).boot = s.boot := rfl
@[simp] theorem updCuf_pwr (s : State) (n : Nat) (f : CufPort → CufPort) : (updCuf n f s).pwr = s.pwr := rfl
@[simp] theorem updCuf_jtag (s : State) (n : Nat) (f : CufPort → CufPort) : (updCuf n f s).jtag = s.jtag := rfl
@[simp] theorem updCuf_flaws (s : State) (n : Nat) (f : CufPort → CufPort) : (updCuf n f s).flaws = s.flaws := rfl
@[simp] theorem updCuf_get_core (s : State) (n : Nat) (f : CufPort → CufPort) (x : Nat) : (updCuf n f s).core x = s.core x := rfl
@[simp] theorem updCuf_get_gpr (s : State) (n : Nat) (f : CufPort → CufPort) (x y : Nat) : (updCuf n f s).gpr x y = s.gpr x y := rfl
@[simp] theorem updCuf_get_accOf (s : State) (n : Nat) (f : CufPort → CufPort) (x y : Nat) : (updCuf n f s).accOf x y = s.accOf x y := rfl
@[simp] theorem updCuf_get_pair (s : State) (n : Nat) (f : CufPort → CufPort) (x : Nat) : (updCuf n f s).pair x = s.pair x := rfl
@[simp] theorem updCuf_get_agent (s : State) (n : Nat) (f : CufPort → CufPort) (x : Nat) : (updCuf n f s).agent x = s.agent x := rfl
@[simp] theorem updCuf_get_slice (s : State) (n : Nat) (f : CufPort → CufPort) (x : Nat) : (updCuf n f s).slice x = s.slice x := rfl
@[simp] theorem updCuf_get_dmc (s : State) (n : Nat) (f : CufPort → CufPort) (x : Nat) : (updCuf n f s).dmc x = s.dmc x := rfl
@[simp] theorem updCuf_get_reg (s : State) (n : Nat) (f : CufPort → CufPort) (x : Nat) : (updCuf n f s).reg x = s.reg x := rfl
@[simp] theorem updCuf_get_bit (s : State) (n : Nat) (f : CufPort → CufPort) (x y : Nat) : (updCuf n f s).bit x y = s.bit x y := rfl
@[simp] theorem updCuf_get_fld (s : State) (n : Nat) (f : CufPort → CufPort) (x y z : Nat) : (updCuf n f s).fld x y z = s.fld x y z := rfl
@[simp] theorem updCuf_get_pl (s : State) (n : Nat) (f : CufPort → CufPort) (x : Nat) : (updCuf n f s).pl x = s.pl x := rfl
@[simp] theorem updCuf_get_flags (s : State) (n : Nat) (f : CufPort → CufPort) (x : Nat) : (updCuf n f s).flags x = s.flags x := rfl
@[simp] theorem updCuf_get_now (s : State) (n : Nat) (f : CufPort → CufPort) : (updCuf n f s).now = s.now := rfl
@[simp] theorem updCuf_get_nowLo (s : State) (n : Nat) (f : CufPort → CufPort) : (updCuf n f s).nowLo = s.nowLo := rfl
@[simp] theorem updCuf_get_nowHi (s : State) (n : Nat) (f : CufPort → CufPort) : (updCuf n f s).nowHi = s.nowHi := rfl
@[simp] theorem updCuf_get_ni (s : State) (n : Nat) (f : CufPort → CufPort) (x : Nat) : (updCuf n f s).ni x = s.ni x := rfl

/-! ### `updEth` -/

@[simp] theorem updEth_pending (s : State) (f : Eth → Eth) : (updEth f s).pending = s.pending := rfl
@[simp] theorem updEth_regs (s : State) (f : Eth → Eth) : (updEth f s).regs = s.regs := rfl
@[simp] theorem updEth_fresh (s : State) (f : Eth → Eth) : (updEth f s).fresh = s.fresh := rfl
@[simp] theorem updEth_cores (s : State) (f : Eth → Eth) : (updEth f s).cores = s.cores := rfl
@[simp] theorem updEth_pairs (s : State) (f : Eth → Eth) : (updEth f s).pairs = s.pairs := rfl
@[simp] theorem updEth_agents (s : State) (f : Eth → Eth) : (updEth f s).agents = s.agents := rfl
@[simp] theorem updEth_slices (s : State) (f : Eth → Eth) : (updEth f s).slices = s.slices := rfl
@[simp] theorem updEth_net (s : State) (f : Eth → Eth) : (updEth f s).net = s.net := rfl
@[simp] theorem updEth_split (s : State) (f : Eth → Eth) : (updEth f s).split = s.split := rfl
@[simp] theorem updEth_close (s : State) (f : Eth → Eth) : (updEth f s).close = s.close := rfl
@[simp] theorem updEth_stage (s : State) (f : Eth → Eth) : (updEth f s).stage = s.stage := rfl
@[simp] theorem updEth_dmcs (s : State) (f : Eth → Eth) : (updEth f s).dmcs = s.dmcs := rfl
@[simp] theorem updEth_errlog (s : State) (f : Eth → Eth) : (updEth f s).errlog = s.errlog := rfl
@[simp] theorem updEth_hat (s : State) (f : Eth → Eth) : (updEth f s).hat = s.hat := rfl
@[simp] theorem updEth_eiu (s : State) (f : Eth → Eth) : (updEth f s).eiu = s.eiu := rfl
@[simp] theorem updEth_tb (s : State) (f : Eth → Eth) : (updEth f s).tb = s.tb := rfl
@[simp] theorem updEth_fab (s : State) (f : Eth → Eth) : (updEth f s).fab = s.fab := rfl
@[simp] theorem updEth_resp (s : State) (f : Eth → Eth) : (updEth f s).resp = s.resp := rfl
@[simp] theorem updEth_seg (s : State) (f : Eth → Eth) : (updEth f s).seg = s.seg := rfl
@[simp] theorem updEth_ports (s : State) (f : Eth → Eth) : (updEth f s).ports = s.ports := rfl
@[simp] theorem updEth_usb (s : State) (f : Eth → Eth) : (updEth f s).usb = s.usb := rfl
@[simp] theorem updEth_cuf (s : State) (f : Eth → Eth) : (updEth f s).cuf = s.cuf := rfl
@[simp] theorem updEth_fgt (s : State) (f : Eth → Eth) : (updEth f s).fgt = s.fgt := rfl
@[simp] theorem updEth_keep (s : State) (f : Eth → Eth) : (updEth f s).keep = s.keep := rfl
@[simp] theorem updEth_keepInj (s : State) (f : Eth → Eth) : (updEth f s).keepInj = s.keepInj := rfl
@[simp] theorem updEth_cns (s : State) (f : Eth → Eth) : (updEth f s).cns = s.cns := rfl
@[simp] theorem updEth_boot (s : State) (f : Eth → Eth) : (updEth f s).boot = s.boot := rfl
@[simp] theorem updEth_pwr (s : State) (f : Eth → Eth) : (updEth f s).pwr = s.pwr := rfl
@[simp] theorem updEth_jtag (s : State) (f : Eth → Eth) : (updEth f s).jtag = s.jtag := rfl
@[simp] theorem updEth_flaws (s : State) (f : Eth → Eth) : (updEth f s).flaws = s.flaws := rfl
@[simp] theorem updEth_get_core (s : State) (f : Eth → Eth) (x : Nat) : (updEth f s).core x = s.core x := rfl
@[simp] theorem updEth_get_gpr (s : State) (f : Eth → Eth) (x y : Nat) : (updEth f s).gpr x y = s.gpr x y := rfl
@[simp] theorem updEth_get_accOf (s : State) (f : Eth → Eth) (x y : Nat) : (updEth f s).accOf x y = s.accOf x y := rfl
@[simp] theorem updEth_get_pair (s : State) (f : Eth → Eth) (x : Nat) : (updEth f s).pair x = s.pair x := rfl
@[simp] theorem updEth_get_agent (s : State) (f : Eth → Eth) (x : Nat) : (updEth f s).agent x = s.agent x := rfl
@[simp] theorem updEth_get_slice (s : State) (f : Eth → Eth) (x : Nat) : (updEth f s).slice x = s.slice x := rfl
@[simp] theorem updEth_get_dmc (s : State) (f : Eth → Eth) (x : Nat) : (updEth f s).dmc x = s.dmc x := rfl
@[simp] theorem updEth_get_cufP (s : State) (f : Eth → Eth) (x : Nat) : (updEth f s).cufP x = s.cufP x := rfl
@[simp] theorem updEth_get_reg (s : State) (f : Eth → Eth) (x : Nat) : (updEth f s).reg x = s.reg x := rfl
@[simp] theorem updEth_get_bit (s : State) (f : Eth → Eth) (x y : Nat) : (updEth f s).bit x y = s.bit x y := rfl
@[simp] theorem updEth_get_fld (s : State) (f : Eth → Eth) (x y z : Nat) : (updEth f s).fld x y z = s.fld x y z := rfl
@[simp] theorem updEth_get_pl (s : State) (f : Eth → Eth) (x : Nat) : (updEth f s).pl x = s.pl x := rfl
@[simp] theorem updEth_get_flags (s : State) (f : Eth → Eth) (x : Nat) : (updEth f s).flags x = s.flags x := rfl
@[simp] theorem updEth_get_now (s : State) (f : Eth → Eth) : (updEth f s).now = s.now := rfl
@[simp] theorem updEth_get_nowLo (s : State) (f : Eth → Eth) : (updEth f s).nowLo = s.nowLo := rfl
@[simp] theorem updEth_get_nowHi (s : State) (f : Eth → Eth) : (updEth f s).nowHi = s.nowHi := rfl
@[simp] theorem updEth_get_ni (s : State) (f : Eth → Eth) (x : Nat) : (updEth f s).ni x = s.ni x := rfl

/-! ### `updFgt` -/

@[simp] theorem updFgt_pending (s : State) (f : Fgt → Fgt) : (updFgt f s).pending = s.pending := rfl
@[simp] theorem updFgt_regs (s : State) (f : Fgt → Fgt) : (updFgt f s).regs = s.regs := rfl
@[simp] theorem updFgt_fresh (s : State) (f : Fgt → Fgt) : (updFgt f s).fresh = s.fresh := rfl
@[simp] theorem updFgt_cores (s : State) (f : Fgt → Fgt) : (updFgt f s).cores = s.cores := rfl
@[simp] theorem updFgt_pairs (s : State) (f : Fgt → Fgt) : (updFgt f s).pairs = s.pairs := rfl
@[simp] theorem updFgt_agents (s : State) (f : Fgt → Fgt) : (updFgt f s).agents = s.agents := rfl
@[simp] theorem updFgt_slices (s : State) (f : Fgt → Fgt) : (updFgt f s).slices = s.slices := rfl
@[simp] theorem updFgt_net (s : State) (f : Fgt → Fgt) : (updFgt f s).net = s.net := rfl
@[simp] theorem updFgt_split (s : State) (f : Fgt → Fgt) : (updFgt f s).split = s.split := rfl
@[simp] theorem updFgt_close (s : State) (f : Fgt → Fgt) : (updFgt f s).close = s.close := rfl
@[simp] theorem updFgt_stage (s : State) (f : Fgt → Fgt) : (updFgt f s).stage = s.stage := rfl
@[simp] theorem updFgt_dmcs (s : State) (f : Fgt → Fgt) : (updFgt f s).dmcs = s.dmcs := rfl
@[simp] theorem updFgt_errlog (s : State) (f : Fgt → Fgt) : (updFgt f s).errlog = s.errlog := rfl
@[simp] theorem updFgt_hat (s : State) (f : Fgt → Fgt) : (updFgt f s).hat = s.hat := rfl
@[simp] theorem updFgt_eiu (s : State) (f : Fgt → Fgt) : (updFgt f s).eiu = s.eiu := rfl
@[simp] theorem updFgt_tb (s : State) (f : Fgt → Fgt) : (updFgt f s).tb = s.tb := rfl
@[simp] theorem updFgt_fab (s : State) (f : Fgt → Fgt) : (updFgt f s).fab = s.fab := rfl
@[simp] theorem updFgt_resp (s : State) (f : Fgt → Fgt) : (updFgt f s).resp = s.resp := rfl
@[simp] theorem updFgt_seg (s : State) (f : Fgt → Fgt) : (updFgt f s).seg = s.seg := rfl
@[simp] theorem updFgt_ports (s : State) (f : Fgt → Fgt) : (updFgt f s).ports = s.ports := rfl
@[simp] theorem updFgt_eth (s : State) (f : Fgt → Fgt) : (updFgt f s).eth = s.eth := rfl
@[simp] theorem updFgt_usb (s : State) (f : Fgt → Fgt) : (updFgt f s).usb = s.usb := rfl
@[simp] theorem updFgt_cuf (s : State) (f : Fgt → Fgt) : (updFgt f s).cuf = s.cuf := rfl
@[simp] theorem updFgt_keep (s : State) (f : Fgt → Fgt) : (updFgt f s).keep = s.keep := rfl
@[simp] theorem updFgt_keepInj (s : State) (f : Fgt → Fgt) : (updFgt f s).keepInj = s.keepInj := rfl
@[simp] theorem updFgt_cns (s : State) (f : Fgt → Fgt) : (updFgt f s).cns = s.cns := rfl
@[simp] theorem updFgt_boot (s : State) (f : Fgt → Fgt) : (updFgt f s).boot = s.boot := rfl
@[simp] theorem updFgt_pwr (s : State) (f : Fgt → Fgt) : (updFgt f s).pwr = s.pwr := rfl
@[simp] theorem updFgt_jtag (s : State) (f : Fgt → Fgt) : (updFgt f s).jtag = s.jtag := rfl
@[simp] theorem updFgt_flaws (s : State) (f : Fgt → Fgt) : (updFgt f s).flaws = s.flaws := rfl
@[simp] theorem updFgt_get_core (s : State) (f : Fgt → Fgt) (x : Nat) : (updFgt f s).core x = s.core x := rfl
@[simp] theorem updFgt_get_gpr (s : State) (f : Fgt → Fgt) (x y : Nat) : (updFgt f s).gpr x y = s.gpr x y := rfl
@[simp] theorem updFgt_get_accOf (s : State) (f : Fgt → Fgt) (x y : Nat) : (updFgt f s).accOf x y = s.accOf x y := rfl
@[simp] theorem updFgt_get_pair (s : State) (f : Fgt → Fgt) (x : Nat) : (updFgt f s).pair x = s.pair x := rfl
@[simp] theorem updFgt_get_agent (s : State) (f : Fgt → Fgt) (x : Nat) : (updFgt f s).agent x = s.agent x := rfl
@[simp] theorem updFgt_get_slice (s : State) (f : Fgt → Fgt) (x : Nat) : (updFgt f s).slice x = s.slice x := rfl
@[simp] theorem updFgt_get_dmc (s : State) (f : Fgt → Fgt) (x : Nat) : (updFgt f s).dmc x = s.dmc x := rfl
@[simp] theorem updFgt_get_cufP (s : State) (f : Fgt → Fgt) (x : Nat) : (updFgt f s).cufP x = s.cufP x := rfl
@[simp] theorem updFgt_get_reg (s : State) (f : Fgt → Fgt) (x : Nat) : (updFgt f s).reg x = s.reg x := rfl
@[simp] theorem updFgt_get_bit (s : State) (f : Fgt → Fgt) (x y : Nat) : (updFgt f s).bit x y = s.bit x y := rfl
@[simp] theorem updFgt_get_fld (s : State) (f : Fgt → Fgt) (x y z : Nat) : (updFgt f s).fld x y z = s.fld x y z := rfl
@[simp] theorem updFgt_get_pl (s : State) (f : Fgt → Fgt) (x : Nat) : (updFgt f s).pl x = s.pl x := rfl
@[simp] theorem updFgt_get_flags (s : State) (f : Fgt → Fgt) (x : Nat) : (updFgt f s).flags x = s.flags x := rfl
@[simp] theorem updFgt_get_now (s : State) (f : Fgt → Fgt) : (updFgt f s).now = s.now := rfl
@[simp] theorem updFgt_get_nowLo (s : State) (f : Fgt → Fgt) : (updFgt f s).nowLo = s.nowLo := rfl
@[simp] theorem updFgt_get_nowHi (s : State) (f : Fgt → Fgt) : (updFgt f s).nowHi = s.nowHi := rfl
@[simp] theorem updFgt_get_ni (s : State) (f : Fgt → Fgt) (x : Nat) : (updFgt f s).ni x = s.ni x := rfl

/-! ### `updUsb` -/

@[simp] theorem updUsb_pending (s : State) (f : Usb → Usb) : (updUsb f s).pending = s.pending := rfl
@[simp] theorem updUsb_regs (s : State) (f : Usb → Usb) : (updUsb f s).regs = s.regs := rfl
@[simp] theorem updUsb_fresh (s : State) (f : Usb → Usb) : (updUsb f s).fresh = s.fresh := rfl
@[simp] theorem updUsb_cores (s : State) (f : Usb → Usb) : (updUsb f s).cores = s.cores := rfl
@[simp] theorem updUsb_pairs (s : State) (f : Usb → Usb) : (updUsb f s).pairs = s.pairs := rfl
@[simp] theorem updUsb_agents (s : State) (f : Usb → Usb) : (updUsb f s).agents = s.agents := rfl
@[simp] theorem updUsb_slices (s : State) (f : Usb → Usb) : (updUsb f s).slices = s.slices := rfl
@[simp] theorem updUsb_net (s : State) (f : Usb → Usb) : (updUsb f s).net = s.net := rfl
@[simp] theorem updUsb_split (s : State) (f : Usb → Usb) : (updUsb f s).split = s.split := rfl
@[simp] theorem updUsb_close (s : State) (f : Usb → Usb) : (updUsb f s).close = s.close := rfl
@[simp] theorem updUsb_stage (s : State) (f : Usb → Usb) : (updUsb f s).stage = s.stage := rfl
@[simp] theorem updUsb_dmcs (s : State) (f : Usb → Usb) : (updUsb f s).dmcs = s.dmcs := rfl
@[simp] theorem updUsb_errlog (s : State) (f : Usb → Usb) : (updUsb f s).errlog = s.errlog := rfl
@[simp] theorem updUsb_hat (s : State) (f : Usb → Usb) : (updUsb f s).hat = s.hat := rfl
@[simp] theorem updUsb_eiu (s : State) (f : Usb → Usb) : (updUsb f s).eiu = s.eiu := rfl
@[simp] theorem updUsb_tb (s : State) (f : Usb → Usb) : (updUsb f s).tb = s.tb := rfl
@[simp] theorem updUsb_fab (s : State) (f : Usb → Usb) : (updUsb f s).fab = s.fab := rfl
@[simp] theorem updUsb_resp (s : State) (f : Usb → Usb) : (updUsb f s).resp = s.resp := rfl
@[simp] theorem updUsb_seg (s : State) (f : Usb → Usb) : (updUsb f s).seg = s.seg := rfl
@[simp] theorem updUsb_ports (s : State) (f : Usb → Usb) : (updUsb f s).ports = s.ports := rfl
@[simp] theorem updUsb_eth (s : State) (f : Usb → Usb) : (updUsb f s).eth = s.eth := rfl
@[simp] theorem updUsb_cuf (s : State) (f : Usb → Usb) : (updUsb f s).cuf = s.cuf := rfl
@[simp] theorem updUsb_fgt (s : State) (f : Usb → Usb) : (updUsb f s).fgt = s.fgt := rfl
@[simp] theorem updUsb_keep (s : State) (f : Usb → Usb) : (updUsb f s).keep = s.keep := rfl
@[simp] theorem updUsb_keepInj (s : State) (f : Usb → Usb) : (updUsb f s).keepInj = s.keepInj := rfl
@[simp] theorem updUsb_cns (s : State) (f : Usb → Usb) : (updUsb f s).cns = s.cns := rfl
@[simp] theorem updUsb_boot (s : State) (f : Usb → Usb) : (updUsb f s).boot = s.boot := rfl
@[simp] theorem updUsb_pwr (s : State) (f : Usb → Usb) : (updUsb f s).pwr = s.pwr := rfl
@[simp] theorem updUsb_jtag (s : State) (f : Usb → Usb) : (updUsb f s).jtag = s.jtag := rfl
@[simp] theorem updUsb_flaws (s : State) (f : Usb → Usb) : (updUsb f s).flaws = s.flaws := rfl
@[simp] theorem updUsb_get_core (s : State) (f : Usb → Usb) (x : Nat) : (updUsb f s).core x = s.core x := rfl
@[simp] theorem updUsb_get_gpr (s : State) (f : Usb → Usb) (x y : Nat) : (updUsb f s).gpr x y = s.gpr x y := rfl
@[simp] theorem updUsb_get_accOf (s : State) (f : Usb → Usb) (x y : Nat) : (updUsb f s).accOf x y = s.accOf x y := rfl
@[simp] theorem updUsb_get_pair (s : State) (f : Usb → Usb) (x : Nat) : (updUsb f s).pair x = s.pair x := rfl
@[simp] theorem updUsb_get_agent (s : State) (f : Usb → Usb) (x : Nat) : (updUsb f s).agent x = s.agent x := rfl
@[simp] theorem updUsb_get_slice (s : State) (f : Usb → Usb) (x : Nat) : (updUsb f s).slice x = s.slice x := rfl
@[simp] theorem updUsb_get_dmc (s : State) (f : Usb → Usb) (x : Nat) : (updUsb f s).dmc x = s.dmc x := rfl
@[simp] theorem updUsb_get_cufP (s : State) (f : Usb → Usb) (x : Nat) : (updUsb f s).cufP x = s.cufP x := rfl
@[simp] theorem updUsb_get_reg (s : State) (f : Usb → Usb) (x : Nat) : (updUsb f s).reg x = s.reg x := rfl
@[simp] theorem updUsb_get_bit (s : State) (f : Usb → Usb) (x y : Nat) : (updUsb f s).bit x y = s.bit x y := rfl
@[simp] theorem updUsb_get_fld (s : State) (f : Usb → Usb) (x y z : Nat) : (updUsb f s).fld x y z = s.fld x y z := rfl
@[simp] theorem updUsb_get_pl (s : State) (f : Usb → Usb) (x : Nat) : (updUsb f s).pl x = s.pl x := rfl
@[simp] theorem updUsb_get_flags (s : State) (f : Usb → Usb) (x : Nat) : (updUsb f s).flags x = s.flags x := rfl
@[simp] theorem updUsb_get_now (s : State) (f : Usb → Usb) : (updUsb f s).now = s.now := rfl
@[simp] theorem updUsb_get_nowLo (s : State) (f : Usb → Usb) : (updUsb f s).nowLo = s.nowLo := rfl
@[simp] theorem updUsb_get_nowHi (s : State) (f : Usb → Usb) : (updUsb f s).nowHi = s.nowHi := rfl
@[simp] theorem updUsb_get_ni (s : State) (f : Usb → Usb) (x : Nat) : (updUsb f s).ni x = s.ni x := rfl

/-! ### `takeFresh` -/

@[simp] theorem takeFresh_pending (s : State) : (takeFresh s).pending = s.pending := rfl
@[simp] theorem takeFresh_regs (s : State) : (takeFresh s).regs = s.regs := rfl
@[simp] theorem takeFresh_cores (s : State) : (takeFresh s).cores = s.cores := rfl
@[simp] theorem takeFresh_pairs (s : State) : (takeFresh s).pairs = s.pairs := rfl
@[simp] theorem takeFresh_agents (s : State) : (takeFresh s).agents = s.agents := rfl
@[simp] theorem takeFresh_slices (s : State) : (takeFresh s).slices = s.slices := rfl
@[simp] theorem takeFresh_net (s : State) : (takeFresh s).net = s.net := rfl
@[simp] theorem takeFresh_split (s : State) : (takeFresh s).split = s.split := rfl
@[simp] theorem takeFresh_close (s : State) : (takeFresh s).close = s.close := rfl
@[simp] theorem takeFresh_stage (s : State) : (takeFresh s).stage = s.stage := rfl
@[simp] theorem takeFresh_dmcs (s : State) : (takeFresh s).dmcs = s.dmcs := rfl
@[simp] theorem takeFresh_errlog (s : State) : (takeFresh s).errlog = s.errlog := rfl
@[simp] theorem takeFresh_hat (s : State) : (takeFresh s).hat = s.hat := rfl
@[simp] theorem takeFresh_eiu (s : State) : (takeFresh s).eiu = s.eiu := rfl
@[simp] theorem takeFresh_tb (s : State) : (takeFresh s).tb = s.tb := rfl
@[simp] theorem takeFresh_fab (s : State) : (takeFresh s).fab = s.fab := rfl
@[simp] theorem takeFresh_resp (s : State) : (takeFresh s).resp = s.resp := rfl
@[simp] theorem takeFresh_seg (s : State) : (takeFresh s).seg = s.seg := rfl
@[simp] theorem takeFresh_ports (s : State) : (takeFresh s).ports = s.ports := rfl
@[simp] theorem takeFresh_eth (s : State) : (takeFresh s).eth = s.eth := rfl
@[simp] theorem takeFresh_usb (s : State) : (takeFresh s).usb = s.usb := rfl
@[simp] theorem takeFresh_cuf (s : State) : (takeFresh s).cuf = s.cuf := rfl
@[simp] theorem takeFresh_fgt (s : State) : (takeFresh s).fgt = s.fgt := rfl
@[simp] theorem takeFresh_keep (s : State) : (takeFresh s).keep = s.keep := rfl
@[simp] theorem takeFresh_keepInj (s : State) : (takeFresh s).keepInj = s.keepInj := rfl
@[simp] theorem takeFresh_cns (s : State) : (takeFresh s).cns = s.cns := rfl
@[simp] theorem takeFresh_boot (s : State) : (takeFresh s).boot = s.boot := rfl
@[simp] theorem takeFresh_pwr (s : State) : (takeFresh s).pwr = s.pwr := rfl
@[simp] theorem takeFresh_jtag (s : State) : (takeFresh s).jtag = s.jtag := rfl
@[simp] theorem takeFresh_flaws (s : State) : (takeFresh s).flaws = s.flaws := rfl
@[simp] theorem takeFresh_get_core (s : State) (x : Nat) : (takeFresh s).core x = s.core x := rfl
@[simp] theorem takeFresh_get_gpr (s : State) (x y : Nat) : (takeFresh s).gpr x y = s.gpr x y := rfl
@[simp] theorem takeFresh_get_accOf (s : State) (x y : Nat) : (takeFresh s).accOf x y = s.accOf x y := rfl
@[simp] theorem takeFresh_get_pair (s : State) (x : Nat) : (takeFresh s).pair x = s.pair x := rfl
@[simp] theorem takeFresh_get_agent (s : State) (x : Nat) : (takeFresh s).agent x = s.agent x := rfl
@[simp] theorem takeFresh_get_slice (s : State) (x : Nat) : (takeFresh s).slice x = s.slice x := rfl
@[simp] theorem takeFresh_get_dmc (s : State) (x : Nat) : (takeFresh s).dmc x = s.dmc x := rfl
@[simp] theorem takeFresh_get_cufP (s : State) (x : Nat) : (takeFresh s).cufP x = s.cufP x := rfl
@[simp] theorem takeFresh_get_reg (s : State) (x : Nat) : (takeFresh s).reg x = s.reg x := rfl
@[simp] theorem takeFresh_get_bit (s : State) (x y : Nat) : (takeFresh s).bit x y = s.bit x y := rfl
@[simp] theorem takeFresh_get_fld (s : State) (x y z : Nat) : (takeFresh s).fld x y z = s.fld x y z := rfl
@[simp] theorem takeFresh_get_pl (s : State) (x : Nat) : (takeFresh s).pl x = s.pl x := rfl
@[simp] theorem takeFresh_get_flags (s : State) (x : Nat) : (takeFresh s).flags x = s.flags x := rfl
@[simp] theorem takeFresh_get_now (s : State) : (takeFresh s).now = s.now := rfl
@[simp] theorem takeFresh_get_nowLo (s : State) : (takeFresh s).nowLo = s.nowLo := rfl
@[simp] theorem takeFresh_get_nowHi (s : State) : (takeFresh s).nowHi = s.nowHi := rfl
@[simp] theorem takeFresh_get_ni (s : State) (x : Nat) : (takeFresh s).ni x = s.ni x := rfl

/-! ### `heal` -/

@[simp] theorem heal_pending (s : State) (f : Flaw) : (heal f s).pending = s.pending := rfl
@[simp] theorem heal_regs (s : State) (f : Flaw) : (heal f s).regs = s.regs := rfl
@[simp] theorem heal_fresh (s : State) (f : Flaw) : (heal f s).fresh = s.fresh := rfl
@[simp] theorem heal_cores (s : State) (f : Flaw) : (heal f s).cores = s.cores := rfl
@[simp] theorem heal_pairs (s : State) (f : Flaw) : (heal f s).pairs = s.pairs := rfl
@[simp] theorem heal_agents (s : State) (f : Flaw) : (heal f s).agents = s.agents := rfl
@[simp] theorem heal_slices (s : State) (f : Flaw) : (heal f s).slices = s.slices := rfl
@[simp] theorem heal_net (s : State) (f : Flaw) : (heal f s).net = s.net := rfl
@[simp] theorem heal_split (s : State) (f : Flaw) : (heal f s).split = s.split := rfl
@[simp] theorem heal_close (s : State) (f : Flaw) : (heal f s).close = s.close := rfl
@[simp] theorem heal_stage (s : State) (f : Flaw) : (heal f s).stage = s.stage := rfl
@[simp] theorem heal_dmcs (s : State) (f : Flaw) : (heal f s).dmcs = s.dmcs := rfl
@[simp] theorem heal_errlog (s : State) (f : Flaw) : (heal f s).errlog = s.errlog := rfl
@[simp] theorem heal_hat (s : State) (f : Flaw) : (heal f s).hat = s.hat := rfl
@[simp] theorem heal_eiu (s : State) (f : Flaw) : (heal f s).eiu = s.eiu := rfl
@[simp] theorem heal_tb (s : State) (f : Flaw) : (heal f s).tb = s.tb := rfl
@[simp] theorem heal_fab (s : State) (f : Flaw) : (heal f s).fab = s.fab := rfl
@[simp] theorem heal_resp (s : State) (f : Flaw) : (heal f s).resp = s.resp := rfl
@[simp] theorem heal_seg (s : State) (f : Flaw) : (heal f s).seg = s.seg := rfl
@[simp] theorem heal_ports (s : State) (f : Flaw) : (heal f s).ports = s.ports := rfl
@[simp] theorem heal_eth (s : State) (f : Flaw) : (heal f s).eth = s.eth := rfl
@[simp] theorem heal_usb (s : State) (f : Flaw) : (heal f s).usb = s.usb := rfl
@[simp] theorem heal_cuf (s : State) (f : Flaw) : (heal f s).cuf = s.cuf := rfl
@[simp] theorem heal_fgt (s : State) (f : Flaw) : (heal f s).fgt = s.fgt := rfl
@[simp] theorem heal_keep (s : State) (f : Flaw) : (heal f s).keep = s.keep := rfl
@[simp] theorem heal_keepInj (s : State) (f : Flaw) : (heal f s).keepInj = s.keepInj := rfl
@[simp] theorem heal_cns (s : State) (f : Flaw) : (heal f s).cns = s.cns := rfl
@[simp] theorem heal_boot (s : State) (f : Flaw) : (heal f s).boot = s.boot := rfl
@[simp] theorem heal_pwr (s : State) (f : Flaw) : (heal f s).pwr = s.pwr := rfl
@[simp] theorem heal_jtag (s : State) (f : Flaw) : (heal f s).jtag = s.jtag := rfl
@[simp] theorem heal_get_core (s : State) (f : Flaw) (x : Nat) : (heal f s).core x = s.core x := rfl
@[simp] theorem heal_get_gpr (s : State) (f : Flaw) (x y : Nat) : (heal f s).gpr x y = s.gpr x y := rfl
@[simp] theorem heal_get_accOf (s : State) (f : Flaw) (x y : Nat) : (heal f s).accOf x y = s.accOf x y := rfl
@[simp] theorem heal_get_pair (s : State) (f : Flaw) (x : Nat) : (heal f s).pair x = s.pair x := rfl
@[simp] theorem heal_get_agent (s : State) (f : Flaw) (x : Nat) : (heal f s).agent x = s.agent x := rfl
@[simp] theorem heal_get_slice (s : State) (f : Flaw) (x : Nat) : (heal f s).slice x = s.slice x := rfl
@[simp] theorem heal_get_dmc (s : State) (f : Flaw) (x : Nat) : (heal f s).dmc x = s.dmc x := rfl
@[simp] theorem heal_get_cufP (s : State) (f : Flaw) (x : Nat) : (heal f s).cufP x = s.cufP x := rfl
@[simp] theorem heal_get_reg (s : State) (f : Flaw) (x : Nat) : (heal f s).reg x = s.reg x := rfl
@[simp] theorem heal_get_bit (s : State) (f : Flaw) (x y : Nat) : (heal f s).bit x y = s.bit x y := rfl
@[simp] theorem heal_get_fld (s : State) (f : Flaw) (x y z : Nat) : (heal f s).fld x y z = s.fld x y z := rfl
@[simp] theorem heal_get_pl (s : State) (f : Flaw) (x : Nat) : (heal f s).pl x = s.pl x := rfl
@[simp] theorem heal_get_flags (s : State) (f : Flaw) (x : Nat) : (heal f s).flags x = s.flags x := rfl
@[simp] theorem heal_get_now (s : State) (f : Flaw) : (heal f s).now = s.now := rfl
@[simp] theorem heal_get_nowLo (s : State) (f : Flaw) : (heal f s).nowLo = s.nowLo := rfl
@[simp] theorem heal_get_nowHi (s : State) (f : Flaw) : (heal f s).nowHi = s.nowHi := rfl
@[simp] theorem heal_get_ni (s : State) (f : Flaw) (x : Nat) : (heal f s).ni x = s.ni x := rfl

/-! ### `latched` -/

@[simp] theorem latched_pending (s : State) : (latched s).pending = s.pending := rfl
@[simp] theorem latched_regs (s : State) : (latched s).regs = s.regs := rfl
@[simp] theorem latched_fresh (s : State) : (latched s).fresh = s.fresh := rfl
@[simp] theorem latched_cores (s : State) : (latched s).cores = s.cores := rfl
@[simp] theorem latched_pairs (s : State) : (latched s).pairs = s.pairs := rfl
@[simp] theorem latched_agents (s : State) : (latched s).agents = s.agents := rfl
@[simp] theorem latched_slices (s : State) : (latched s).slices = s.slices := rfl
@[simp] theorem latched_net (s : State) : (latched s).net = s.net := rfl
@[simp] theorem latched_split (s : State) : (latched s).split = s.split := rfl
@[simp] theorem latched_close (s : State) : (latched s).close = s.close := rfl
@[simp] theorem latched_stage (s : State) : (latched s).stage = s.stage := rfl
@[simp] theorem latched_dmcs (s : State) : (latched s).dmcs = s.dmcs := rfl
@[simp] theorem latched_errlog (s : State) : (latched s).errlog = s.errlog := rfl
@[simp] theorem latched_hat (s : State) : (latched s).hat = s.hat := rfl
@[simp] theorem latched_tb (s : State) : (latched s).tb = s.tb := rfl
@[simp] theorem latched_fab (s : State) : (latched s).fab = s.fab := rfl
@[simp] theorem latched_resp (s : State) : (latched s).resp = s.resp := rfl
@[simp] theorem latched_seg (s : State) : (latched s).seg = s.seg := rfl
@[simp] theorem latched_ports (s : State) : (latched s).ports = s.ports := rfl
@[simp] theorem latched_eth (s : State) : (latched s).eth = s.eth := rfl
@[simp] theorem latched_usb (s : State) : (latched s).usb = s.usb := rfl
@[simp] theorem latched_cuf (s : State) : (latched s).cuf = s.cuf := rfl
@[simp] theorem latched_fgt (s : State) : (latched s).fgt = s.fgt := rfl
@[simp] theorem latched_keep (s : State) : (latched s).keep = s.keep := rfl
@[simp] theorem latched_keepInj (s : State) : (latched s).keepInj = s.keepInj := rfl
@[simp] theorem latched_cns (s : State) : (latched s).cns = s.cns := rfl
@[simp] theorem latched_boot (s : State) : (latched s).boot = s.boot := rfl
@[simp] theorem latched_pwr (s : State) : (latched s).pwr = s.pwr := rfl
@[simp] theorem latched_jtag (s : State) : (latched s).jtag = s.jtag := rfl
@[simp] theorem latched_flaws (s : State) : (latched s).flaws = s.flaws := rfl
@[simp] theorem latched_get_core (s : State) (x : Nat) : (latched s).core x = s.core x := rfl
@[simp] theorem latched_get_gpr (s : State) (x y : Nat) : (latched s).gpr x y = s.gpr x y := rfl
@[simp] theorem latched_get_accOf (s : State) (x y : Nat) : (latched s).accOf x y = s.accOf x y := rfl
@[simp] theorem latched_get_pair (s : State) (x : Nat) : (latched s).pair x = s.pair x := rfl
@[simp] theorem latched_get_agent (s : State) (x : Nat) : (latched s).agent x = s.agent x := rfl
@[simp] theorem latched_get_slice (s : State) (x : Nat) : (latched s).slice x = s.slice x := rfl
@[simp] theorem latched_get_dmc (s : State) (x : Nat) : (latched s).dmc x = s.dmc x := rfl
@[simp] theorem latched_get_cufP (s : State) (x : Nat) : (latched s).cufP x = s.cufP x := rfl
@[simp] theorem latched_get_reg (s : State) (x : Nat) : (latched s).reg x = s.reg x := rfl
@[simp] theorem latched_get_bit (s : State) (x y : Nat) : (latched s).bit x y = s.bit x y := rfl
@[simp] theorem latched_get_fld (s : State) (x y z : Nat) : (latched s).fld x y z = s.fld x y z := rfl
@[simp] theorem latched_get_pl (s : State) (x : Nat) : (latched s).pl x = s.pl x := rfl
@[simp] theorem latched_get_flags (s : State) (x : Nat) : (latched s).flags x = s.flags x := rfl
@[simp] theorem latched_get_now (s : State) : (latched s).now = s.now := rfl
@[simp] theorem latched_get_nowLo (s : State) : (latched s).nowLo = s.nowLo := rfl
@[simp] theorem latched_get_nowHi (s : State) : (latched s).nowHi = s.nowHi := rfl
@[simp] theorem latched_get_ni (s : State) (x : Nat) : (latched s).ni x = s.ni x := rfl

/-! ### `breakQuiet` -/

@[simp] theorem breakQuiet_pending (s : State) : (breakQuiet s).pending = s.pending := rfl
@[simp] theorem breakQuiet_regs (s : State) : (breakQuiet s).regs = s.regs := rfl
@[simp] theorem breakQuiet_fresh (s : State) : (breakQuiet s).fresh = s.fresh := rfl
@[simp] theorem breakQuiet_cores (s : State) : (breakQuiet s).cores = s.cores := rfl
@[simp] theorem breakQuiet_pairs (s : State) : (breakQuiet s).pairs = s.pairs := rfl
@[simp] theorem breakQuiet_agents (s : State) : (breakQuiet s).agents = s.agents := rfl
@[simp] theorem breakQuiet_slices (s : State) : (breakQuiet s).slices = s.slices := rfl
@[simp] theorem breakQuiet_net (s : State) : (breakQuiet s).net = s.net := rfl
@[simp] theorem breakQuiet_split (s : State) : (breakQuiet s).split = s.split := rfl
@[simp] theorem breakQuiet_close (s : State) : (breakQuiet s).close = s.close := rfl
@[simp] theorem breakQuiet_stage (s : State) : (breakQuiet s).stage = s.stage := rfl
@[simp] theorem breakQuiet_dmcs (s : State) : (breakQuiet s).dmcs = s.dmcs := rfl
@[simp] theorem breakQuiet_errlog (s : State) : (breakQuiet s).errlog = s.errlog := rfl
@[simp] theorem breakQuiet_hat (s : State) : (breakQuiet s).hat = s.hat := rfl
@[simp] theorem breakQuiet_tb (s : State) : (breakQuiet s).tb = s.tb := rfl
@[simp] theorem breakQuiet_fab (s : State) : (breakQuiet s).fab = s.fab := rfl
@[simp] theorem breakQuiet_resp (s : State) : (breakQuiet s).resp = s.resp := rfl
@[simp] theorem breakQuiet_seg (s : State) : (breakQuiet s).seg = s.seg := rfl
@[simp] theorem breakQuiet_ports (s : State) : (breakQuiet s).ports = s.ports := rfl
@[simp] theorem breakQuiet_eth (s : State) : (breakQuiet s).eth = s.eth := rfl
@[simp] theorem breakQuiet_usb (s : State) : (breakQuiet s).usb = s.usb := rfl
@[simp] theorem breakQuiet_cuf (s : State) : (breakQuiet s).cuf = s.cuf := rfl
@[simp] theorem breakQuiet_fgt (s : State) : (breakQuiet s).fgt = s.fgt := rfl
@[simp] theorem breakQuiet_keep (s : State) : (breakQuiet s).keep = s.keep := rfl
@[simp] theorem breakQuiet_keepInj (s : State) : (breakQuiet s).keepInj = s.keepInj := rfl
@[simp] theorem breakQuiet_cns (s : State) : (breakQuiet s).cns = s.cns := rfl
@[simp] theorem breakQuiet_boot (s : State) : (breakQuiet s).boot = s.boot := rfl
@[simp] theorem breakQuiet_pwr (s : State) : (breakQuiet s).pwr = s.pwr := rfl
@[simp] theorem breakQuiet_jtag (s : State) : (breakQuiet s).jtag = s.jtag := rfl
@[simp] theorem breakQuiet_flaws (s : State) : (breakQuiet s).flaws = s.flaws := rfl
@[simp] theorem breakQuiet_get_core (s : State) (x : Nat) : (breakQuiet s).core x = s.core x := rfl
@[simp] theorem breakQuiet_get_gpr (s : State) (x y : Nat) : (breakQuiet s).gpr x y = s.gpr x y := rfl
@[simp] theorem breakQuiet_get_accOf (s : State) (x y : Nat) : (breakQuiet s).accOf x y = s.accOf x y := rfl
@[simp] theorem breakQuiet_get_pair (s : State) (x : Nat) : (breakQuiet s).pair x = s.pair x := rfl
@[simp] theorem breakQuiet_get_agent (s : State) (x : Nat) : (breakQuiet s).agent x = s.agent x := rfl
@[simp] theorem breakQuiet_get_slice (s : State) (x : Nat) : (breakQuiet s).slice x = s.slice x := rfl
@[simp] theorem breakQuiet_get_dmc (s : State) (x : Nat) : (breakQuiet s).dmc x = s.dmc x := rfl
@[simp] theorem breakQuiet_get_cufP (s : State) (x : Nat) : (breakQuiet s).cufP x = s.cufP x := rfl
@[simp] theorem breakQuiet_get_reg (s : State) (x : Nat) : (breakQuiet s).reg x = s.reg x := rfl
@[simp] theorem breakQuiet_get_bit (s : State) (x y : Nat) : (breakQuiet s).bit x y = s.bit x y := rfl
@[simp] theorem breakQuiet_get_fld (s : State) (x y z : Nat) : (breakQuiet s).fld x y z = s.fld x y z := rfl
@[simp] theorem breakQuiet_get_pl (s : State) (x : Nat) : (breakQuiet s).pl x = s.pl x := rfl
@[simp] theorem breakQuiet_get_flags (s : State) (x : Nat) : (breakQuiet s).flags x = s.flags x := rfl
@[simp] theorem breakQuiet_get_now (s : State) : (breakQuiet s).now = s.now := rfl
@[simp] theorem breakQuiet_get_nowLo (s : State) : (breakQuiet s).nowLo = s.nowLo := rfl
@[simp] theorem breakQuiet_get_nowHi (s : State) : (breakQuiet s).nowHi = s.nowHi := rfl
@[simp] theorem breakQuiet_get_ni (s : State) (x : Nat) : (breakQuiet s).ni x = s.ni x := rfl

/-! ### `complete` -/

@[simp] theorem complete_pending (s : State) (ep : Nat) (st : FStatus) (d : Line) : (complete ep st d s).pending = s.pending := rfl
@[simp] theorem complete_regs (s : State) (ep : Nat) (st : FStatus) (d : Line) : (complete ep st d s).regs = s.regs := rfl
@[simp] theorem complete_fresh (s : State) (ep : Nat) (st : FStatus) (d : Line) : (complete ep st d s).fresh = s.fresh := rfl
@[simp] theorem complete_cores (s : State) (ep : Nat) (st : FStatus) (d : Line) : (complete ep st d s).cores = s.cores := rfl
@[simp] theorem complete_pairs (s : State) (ep : Nat) (st : FStatus) (d : Line) : (complete ep st d s).pairs = s.pairs := rfl
@[simp] theorem complete_agents (s : State) (ep : Nat) (st : FStatus) (d : Line) : (complete ep st d s).agents = s.agents := rfl
@[simp] theorem complete_slices (s : State) (ep : Nat) (st : FStatus) (d : Line) : (complete ep st d s).slices = s.slices := rfl
@[simp] theorem complete_net (s : State) (ep : Nat) (st : FStatus) (d : Line) : (complete ep st d s).net = s.net := rfl
@[simp] theorem complete_split (s : State) (ep : Nat) (st : FStatus) (d : Line) : (complete ep st d s).split = s.split := rfl
@[simp] theorem complete_close (s : State) (ep : Nat) (st : FStatus) (d : Line) : (complete ep st d s).close = s.close := rfl
@[simp] theorem complete_stage (s : State) (ep : Nat) (st : FStatus) (d : Line) : (complete ep st d s).stage = s.stage := rfl
@[simp] theorem complete_dmcs (s : State) (ep : Nat) (st : FStatus) (d : Line) : (complete ep st d s).dmcs = s.dmcs := rfl
@[simp] theorem complete_errlog (s : State) (ep : Nat) (st : FStatus) (d : Line) : (complete ep st d s).errlog = s.errlog := rfl
@[simp] theorem complete_hat (s : State) (ep : Nat) (st : FStatus) (d : Line) : (complete ep st d s).hat = s.hat := rfl
@[simp] theorem complete_eiu (s : State) (ep : Nat) (st : FStatus) (d : Line) : (complete ep st d s).eiu = s.eiu := rfl
@[simp] theorem complete_tb (s : State) (ep : Nat) (st : FStatus) (d : Line) : (complete ep st d s).tb = s.tb := rfl
@[simp] theorem complete_fab (s : State) (ep : Nat) (st : FStatus) (d : Line) : (complete ep st d s).fab = s.fab := rfl
@[simp] theorem complete_seg (s : State) (ep : Nat) (st : FStatus) (d : Line) : (complete ep st d s).seg = s.seg := rfl
@[simp] theorem complete_ports (s : State) (ep : Nat) (st : FStatus) (d : Line) : (complete ep st d s).ports = s.ports := rfl
@[simp] theorem complete_eth (s : State) (ep : Nat) (st : FStatus) (d : Line) : (complete ep st d s).eth = s.eth := rfl
@[simp] theorem complete_usb (s : State) (ep : Nat) (st : FStatus) (d : Line) : (complete ep st d s).usb = s.usb := rfl
@[simp] theorem complete_cuf (s : State) (ep : Nat) (st : FStatus) (d : Line) : (complete ep st d s).cuf = s.cuf := rfl
@[simp] theorem complete_fgt (s : State) (ep : Nat) (st : FStatus) (d : Line) : (complete ep st d s).fgt = s.fgt := rfl
@[simp] theorem complete_keep (s : State) (ep : Nat) (st : FStatus) (d : Line) : (complete ep st d s).keep = s.keep := rfl
@[simp] theorem complete_keepInj (s : State) (ep : Nat) (st : FStatus) (d : Line) : (complete ep st d s).keepInj = s.keepInj := rfl
@[simp] theorem complete_cns (s : State) (ep : Nat) (st : FStatus) (d : Line) : (complete ep st d s).cns = s.cns := rfl
@[simp] theorem complete_boot (s : State) (ep : Nat) (st : FStatus) (d : Line) : (complete ep st d s).boot = s.boot := rfl
@[simp] theorem complete_pwr (s : State) (ep : Nat) (st : FStatus) (d : Line) : (complete ep st d s).pwr = s.pwr := rfl
@[simp] theorem complete_jtag (s : State) (ep : Nat) (st : FStatus) (d : Line) : (complete ep st d s).jtag = s.jtag := rfl
@[simp] theorem complete_flaws (s : State) (ep : Nat) (st : FStatus) (d : Line) : (complete ep st d s).flaws = s.flaws := rfl
@[simp] theorem complete_get_core (s : State) (ep : Nat) (st : FStatus) (d : Line) (x : Nat) : (complete ep st d s).core x = s.core x := rfl
@[simp] theorem complete_get_gpr (s : State) (ep : Nat) (st : FStatus) (d : Line) (x y : Nat) : (complete ep st d s).gpr x y = s.gpr x y := rfl
@[simp] theorem complete_get_accOf (s : State) (ep : Nat) (st : FStatus) (d : Line) (x y : Nat) : (complete ep st d s).accOf x y = s.accOf x y := rfl
@[simp] theorem complete_get_pair (s : State) (ep : Nat) (st : FStatus) (d : Line) (x : Nat) : (complete ep st d s).pair x = s.pair x := rfl
@[simp] theorem complete_get_agent (s : State) (ep : Nat) (st : FStatus) (d : Line) (x : Nat) : (complete ep st d s).agent x = s.agent x := rfl
@[simp] theorem complete_get_slice (s : State) (ep : Nat) (st : FStatus) (d : Line) (x : Nat) : (complete ep st d s).slice x = s.slice x := rfl
@[simp] theorem complete_get_dmc (s : State) (ep : Nat) (st : FStatus) (d : Line) (x : Nat) : (complete ep st d s).dmc x = s.dmc x := rfl
@[simp] theorem complete_get_cufP (s : State) (ep : Nat) (st : FStatus) (d : Line) (x : Nat) : (complete ep st d s).cufP x = s.cufP x := rfl
@[simp] theorem complete_get_reg (s : State) (ep : Nat) (st : FStatus) (d : Line) (x : Nat) : (complete ep st d s).reg x = s.reg x := rfl
@[simp] theorem complete_get_bit (s : State) (ep : Nat) (st : FStatus) (d : Line) (x y : Nat) : (complete ep st d s).bit x y = s.bit x y := rfl
@[simp] theorem complete_get_fld (s : State) (ep : Nat) (st : FStatus) (d : Line) (x y z : Nat) : (complete ep st d s).fld x y z = s.fld x y z := rfl
@[simp] theorem complete_get_pl (s : State) (ep : Nat) (st : FStatus) (d : Line) (x : Nat) : (complete ep st d s).pl x = s.pl x := rfl
@[simp] theorem complete_get_flags (s : State) (ep : Nat) (st : FStatus) (d : Line) (x : Nat) : (complete ep st d s).flags x = s.flags x := rfl
@[simp] theorem complete_get_now (s : State) (ep : Nat) (st : FStatus) (d : Line) : (complete ep st d s).now = s.now := rfl
@[simp] theorem complete_get_nowLo (s : State) (ep : Nat) (st : FStatus) (d : Line) : (complete ep st d s).nowLo = s.nowLo := rfl
@[simp] theorem complete_get_nowHi (s : State) (ep : Nat) (st : FStatus) (d : Line) : (complete ep st d s).nowHi = s.nowHi := rfl
@[simp] theorem complete_get_ni (s : State) (ep : Nat) (st : FStatus) (d : Line) (x : Nat) : (complete ep st d s).ni x = s.ni x := rfl

end Sys2Proof.Machine
end

