-- ==== Sys2Proof/Laws/Calm.lean ====
section
/-!
SUPPORT. A calm device: nothing proceeds by itself when a command ends, so a command's effect is its next state.
-/
namespace Sys2Proof.Machine

/-- What cores c have in work beside their instructions is the same in two states: retired stores and prefetches. -/
def SameWork (s t : State) : Prop := ∀ c, (t.core c).stq = (s.core c).stq ∧ (t.core c).pfq = (s.core c).pfq

theorem SameWork.of_cores {s t : State} (h : t.cores = s.cores) : SameWork s t := fun c => by simp [State.core, h]

theorem SameWork.trans {s t u : State} (h : SameWork s t) (g : SameWork t u) : SameWork s u := fun c => ⟨(g c).1.trans (h c).1, (g c).2.trans (h c).2⟩

/-- Calmness reads only seven parts of the state. -/
theorem Calm.of_same {s t : State} (h : Calm s) (hf : t.flaws = s.flaws) (hp : t.ports.held = s.ports.held) (hc : t.cuf = s.cuf)
    (hq : t.pairs = s.pairs) (hw : SameWork s t) (hb : t.fab = s.fab) (he : t.eiu = s.eiu) : Calm t where
  flaws := by rw [hf]; exact h.flaws
  held := by rw [hp]; exact h.held
  retired c hn := by rw [(hw c).1, (hw c).2]; exact h.retired c hn
  blocked := by rw [hb]; exact h.blocked
  inter := by rw [hb]; exact h.inter
  waiting n hn := by simpa only [State.cufP, hc] using h.waiting n hn
  rxq n hn := by simpa only [State.cufP, hc] using h.rxq n hn
  draining n hn := by simpa only [State.pair, hq] using h.draining n hn
  stores n hn := by simpa only [State.pair, hq] using h.stores n hn
  sources := by rw [he]; exact h.sources

theorem eiuOffers_calm {s : State} (h : Calm s) : eiuOffers s = s := by simp [eiuOffers, h.flaws]

theorem cufRetryWaiting_calm {s : State} {n : Nat} (h : (s.cufP n).waiting = []) : cufRetryWaiting n s = s := by simp [cufRetryWaiting, h]

theorem cufDeliver_calm {s : State} {n : Nat} (srv : Server) (h : (s.cufP n).rxq = []) : cufDeliver srv n s = s := by simp [cufDeliver, h]

theorem unblock_calm {s : State} (srv : Server) (h : s.fab.blocked = []) : unblock srv s = s := by simp [unblock, h]

theorem retryHeld_calm {s : State} (h : Calm s) : retryHeld s = s := by
  simp only [retryHeld, h.held, unblock_calm _ h.blocked, h.inter, List.isEmpty_nil, if_true, List.foldl_cons, List.foldl_nil]
  rw [cufRetryWaiting_calm (h.waiting 0 (by omega)), cufDeliver_calm _ (h.rxq 0 (by omega)), cufRetryWaiting_calm (h.waiting 1 (by omega)),
    cufDeliver_calm _ (h.rxq 1 (by omega))]

theorem settlePair_calm {s : State} {n : Nat} (h : Calm s) (hn : n < 4) : settlePair n s = s := by
  simp only [settlePair, h.draining n hn, Bool.false_eq_true, if_false, restStores]
  rcases h.stores n hn with h' | h' <;> simp [h']

/-- A fold whose every step leaves the state as it is. -/
theorem foldl_still {α β : Type} (f : α → β → α) (s : α) (l : List β) (h : ∀ b, b ∈ l → f s b = s) : l.foldl f s = s := by
  induction l with
  | nil => rfl
  | cons b t ih => rw [List.foldl_cons, h b (List.mem_cons_self ..), ih (fun x hx => h x (List.mem_cons_of_mem _ hx))]

/-- A core without retired stores and prefetches sets nothing in motion. -/
theorem drain_calm {s : State} {c : Nat} (h : (s.core c).stq = [] ∧ (s.core c).pfq = []) : prefetch c (drainStq c 68 s) = s := by
  have e : drainStq c 68 s = s := by simp [drainStq, h.1]
  simp [e, prefetch, h.2]

/-- In a calm device nothing is left to settle. -/
theorem settleAll_calm {s : State} (h : Calm s) : settleAll s = s := by
  have : List.range 4 = [0, 1, 2, 3] := rfl
  have e : (List.range 8).foldl (fun s c => prefetch c (drainStq c 68 s)) s = s :=
    foldl_still _ _ _ (fun c hc => drain_calm (h.retired c (List.mem_range.mp hc)))
  simp only [settleAll, e, eiuOffers_calm h, retryHeld_calm h, this, List.foldl_cons, List.foldl_nil]
  rw [settlePair_calm h (by omega), settlePair_calm h (by omega), settlePair_calm h (by omega), settlePair_calm h (by omega)]

theorem okSettled_calm {s : State} (h : Calm s) : okSettled s = .next (latched s) := by rw [okSettled, settleAll_calm h]; rfl

end Sys2Proof.Machine
end

