-- ==== Sys2Proof/Laws/Only.lean ====
section
/-!
SUPPORT. Operations that change registers, or registers and cores, and nothing else.
-/
set_option linter.constructorNameAsVariable false

namespace Sys2Proof.Machine

/-- From s to t only registers change. -/
def RegsOnly (s t : State) : Prop := t = { s with regs := t.regs }

theorem RegsOnly.refl (s : State) : RegsOnly s s := rfl

theorem RegsOnly.trans {s t u : State} (h : RegsOnly s t) (g : RegsOnly t u) : RegsOnly s u := by
  unfold RegsOnly at *; rw [g, h]

theorem RegsOnly.of_regs (s : State) (r : SMap Word) : RegsOnly s { s with regs := r } := rfl

theorem regsOnly_setReg (s : State) (a : Nat) (v : Word) : RegsOnly s (s.setReg a v) := rfl
theorem regsOnly_setFld (s : State) (a hi lo v : Nat) : RegsOnly s (s.setFld a hi lo v) := rfl
theorem regsOnly_setBit (s : State) (a i : Nat) (b : Bool) : RegsOnly s (s.setBit a i b) := rfl
theorem regsOnly_inc (s : State) (a : Nat) : RegsOnly s (s.inc a) := rfl
theorem regsOnly_addTo (s : State) (a n : Nat) : RegsOnly s (s.addTo a n) := rfl

theorem RegsOnly.ite {s t u : State} {p : Prop} [Decidable p] (h : RegsOnly s t) (g : RegsOnly s u) : RegsOnly s (if p then t else u) := by
  split <;> assumption

theorem RegsOnly.foldl {β : Type} (f : State → β → State) (hf : ∀ s k, RegsOnly s (f s k)) (l : List β) : ∀ s, RegsOnly s (l.foldl f s) := by
  induction l with
  | nil => intro s; exact RegsOnly.refl s
  | cons k t ih => intro s; exact (hf s k).trans (ih (f s k))

theorem RegsOnly.pending {s t : State} (h : RegsOnly s t) : t.pending = s.pending := by rw [h]
theorem RegsOnly.fresh {s t : State} (h : RegsOnly s t) : t.fresh = s.fresh := by rw [h]
theorem RegsOnly.cores {s t : State} (h : RegsOnly s t) : t.cores = s.cores := by rw [h]
theorem RegsOnly.pairs {s t : State} (h : RegsOnly s t) : t.pairs = s.pairs := by rw [h]
theorem RegsOnly.agents {s t : State} (h : RegsOnly s t) : t.agents = s.agents := by rw [h]
theorem RegsOnly.slices {s t : State} (h : RegsOnly s t) : t.slices = s.slices := by rw [h]
theorem RegsOnly.net {s t : State} (h : RegsOnly s t) : t.net = s.net := by rw [h]
theorem RegsOnly.split {s t : State} (h : RegsOnly s t) : t.split = s.split := by rw [h]
theorem RegsOnly.close {s t : State} (h : RegsOnly s t) : t.close = s.close := by rw [h]
theorem RegsOnly.stage {s t : State} (h : RegsOnly s t) : t.stage = s.stage := by rw [h]
theorem RegsOnly.dmcs {s t : State} (h : RegsOnly s t) : t.dmcs = s.dmcs := by rw [h]
theorem RegsOnly.errlog {s t : State} (h : RegsOnly s t) : t.errlog = s.errlog := by rw [h]
theorem RegsOnly.hat {s t : State} (h : RegsOnly s t) : t.hat = s.hat := by rw [h]
theorem RegsOnly.eiu {s t : State} (h : RegsOnly s t) : t.eiu = s.eiu := by rw [h]
theorem RegsOnly.tb {s t : State} (h : RegsOnly s t) : t.tb = s.tb := by rw [h]
theorem RegsOnly.fab {s t : State} (h : RegsOnly s t) : t.fab = s.fab := by rw [h]
theorem RegsOnly.resp {s t : State} (h : RegsOnly s t) : t.resp = s.resp := by rw [h]
theorem RegsOnly.seg {s t : State} (h : RegsOnly s t) : t.seg = s.seg := by rw [h]
theorem RegsOnly.ports {s t : State} (h : RegsOnly s t) : t.ports = s.ports := by rw [h]
theorem RegsOnly.eth {s t : State} (h : RegsOnly s t) : t.eth = s.eth := by rw [h]
theorem RegsOnly.usb {s t : State} (h : RegsOnly s t) : t.usb = s.usb := by rw [h]
theorem RegsOnly.cuf {s t : State} (h : RegsOnly s t) : t.cuf = s.cuf := by rw [h]
theorem RegsOnly.fgt {s t : State} (h : RegsOnly s t) : t.fgt = s.fgt := by rw [h]
theorem RegsOnly.keep {s t : State} (h : RegsOnly s t) : t.keep = s.keep := by rw [h]
theorem RegsOnly.keepInj {s t : State} (h : RegsOnly s t) : t.keepInj = s.keepInj := by rw [h]
theorem RegsOnly.cns {s t : State} (h : RegsOnly s t) : t.cns = s.cns := by rw [h]
theorem RegsOnly.boot {s t : State} (h : RegsOnly s t) : t.boot = s.boot := by rw [h]
theorem RegsOnly.pwr {s t : State} (h : RegsOnly s t) : t.pwr = s.pwr := by rw [h]
theorem RegsOnly.jtag {s t : State} (h : RegsOnly s t) : t.jtag = s.jtag := by rw [h]
theorem RegsOnly.flaws {s t : State} (h : RegsOnly s t) : t.flaws = s.flaws := by rw [h]
theorem RegsOnly.get_core {s t : State} (h : RegsOnly s t) (x : Nat) : t.core x = s.core x := by rw [h]; rfl
theorem RegsOnly.get_gpr {s t : State} (h : RegsOnly s t) (x y : Nat) : t.gpr x y = s.gpr x y := by rw [h]; rfl
theorem RegsOnly.get_accOf {s t : State} (h : RegsOnly s t) (x y : Nat) : t.accOf x y = s.accOf x y := by rw [h]; rfl
theorem RegsOnly.get_pair {s t : State} (h : RegsOnly s t) (x : Nat) : t.pair x = s.pair x := by rw [h]; rfl
theorem RegsOnly.get_agent {s t : State} (h : RegsOnly s t) (x : Nat) : t.agent x = s.agent x := by rw [h]; rfl
theorem RegsOnly.get_slice {s t : State} (h : RegsOnly s t) (x : Nat) : t.slice x = s.slice x := by rw [h]; rfl
theorem RegsOnly.get_dmc {s t : State} (h : RegsOnly s t) (x : Nat) : t.dmc x = s.dmc x := by rw [h]; rfl
theorem RegsOnly.get_cufP {s t : State} (h : RegsOnly s t) (x : Nat) : t.cufP x = s.cufP x := by rw [h]; rfl
theorem RegsOnly.get_now {s t : State} (h : RegsOnly s t) : t.now  = s.now := by rw [h]; rfl
theorem RegsOnly.get_ni {s t : State} (h : RegsOnly s t) (x : Nat) : t.ni x = s.ni x := by rw [h]; rfl

theorem Calm.regsOnly {s t : State} (h : Calm s) (g : RegsOnly s t) : Calm t :=
  h.of_same g.flaws (by rw [g.ports]) g.cuf g.pairs (.of_cores g.cores) g.fab g.eiu

theorem SameMemory.refl (s : State) : SameMemory s s := ⟨rfl, rfl, rfl, rfl, rfl, rfl⟩

theorem SameMemory.trans {s t u : State} (h : SameMemory s t) (g : SameMemory t u) : SameMemory s u :=
  ⟨g.close.trans h.close, g.stage.trans h.stage, g.keep.trans h.keep, g.dmcs.trans h.dmcs, g.agents.trans h.agents, g.slices.trans h.slices⟩

theorem SameMemory.latched {s t : State} (h : SameMemory s t) : SameMemory s (latched t) :=
  ⟨h.close, h.stage, h.keep, h.dmcs, h.agents, h.slices⟩

theorem RegsOnly.memory {s t : State} (h : RegsOnly s t) : SameMemory s t := ⟨h.close, h.stage, h.keep, h.dmcs, h.agents, h.slices⟩

/-! ### Registers and cores -/

/-- From s to t only registers and cores change. -/
def CoresOnly (s t : State) : Prop := t = { s with regs := t.regs, cores := t.cores }

theorem CoresOnly.refl (s : State) : CoresOnly s s := rfl
theorem RegsOnly.coresOnly {s t : State} (h : RegsOnly s t) : CoresOnly s t := by
  unfold RegsOnly CoresOnly at *; rw [h]

theorem CoresOnly.trans {s t u : State} (h : CoresOnly s t) (g : CoresOnly t u) : CoresOnly s u := by
  unfold CoresOnly at *; rw [g, h]

theorem coresOnly_setCore (s : State) (c : Nat) (v : Core) : CoresOnly s (s.setCore c v) := rfl
theorem coresOnly_updCore (s : State) (c : Nat) (f : Core → Core) : CoresOnly s (s.updCore c f) := rfl
theorem coresOnly_setAcc (s : State) (c a : Nat) (v : BitVec 80) : CoresOnly s (s.setAcc c a v) := rfl
theorem coresOnly_setGpr (s : State) (c r : Nat) (v : Word) : CoresOnly s (s.setGpr c r v) := by
  unfold State.setGpr; split <;> rfl

theorem CoresOnly.ite {s t u : State} {p : Prop} [Decidable p] (h : CoresOnly s t) (g : CoresOnly s u) : CoresOnly s (if p then t else u) := by
  split <;> assumption

theorem CoresOnly.pending {s t : State} (h : CoresOnly s t) : t.pending = s.pending := by rw [h]
theorem CoresOnly.fresh {s t : State} (h : CoresOnly s t) : t.fresh = s.fresh := by rw [h]
theorem CoresOnly.pairs {s t : State} (h : CoresOnly s t) : t.pairs = s.pairs := by rw [h]
theorem CoresOnly.agents {s t : State} (h : CoresOnly s t) : t.agents = s.agents := by rw [h]
theorem CoresOnly.slices {s t : State} (h : CoresOnly s t) : t.slices = s.slices := by rw [h]
theorem CoresOnly.net {s t : State} (h : CoresOnly s t) : t.net = s.net := by rw [h]
theorem CoresOnly.split {s t : State} (h : CoresOnly s t) : t.split = s.split := by rw [h]
theorem CoresOnly.close {s t : State} (h : CoresOnly s t) : t.close = s.close := by rw [h]
theorem CoresOnly.stage {s t : State} (h : CoresOnly s t) : t.stage = s.stage := by rw [h]
theorem CoresOnly.dmcs {s t : State} (h : CoresOnly s t) : t.dmcs = s.dmcs := by rw [h]
theorem CoresOnly.errlog {s t : State} (h : CoresOnly s t) : t.errlog = s.errlog := by rw [h]
theorem CoresOnly.hat {s t : State} (h : CoresOnly s t) : t.hat = s.hat := by rw [h]
theorem CoresOnly.eiu {s t : State} (h : CoresOnly s t) : t.eiu = s.eiu := by rw [h]
theorem CoresOnly.tb {s t : State} (h : CoresOnly s t) : t.tb = s.tb := by rw [h]
theorem CoresOnly.fab {s t : State} (h : CoresOnly s t) : t.fab = s.fab := by rw [h]
theorem CoresOnly.resp {s t : State} (h : CoresOnly s t) : t.resp = s.resp := by rw [h]
theorem CoresOnly.seg {s t : State} (h : CoresOnly s t) : t.seg = s.seg := by rw [h]
theorem CoresOnly.ports {s t : State} (h : CoresOnly s t) : t.ports = s.ports := by rw [h]
theorem CoresOnly.eth {s t : State} (h : CoresOnly s t) : t.eth = s.eth := by rw [h]
theorem CoresOnly.usb {s t : State} (h : CoresOnly s t) : t.usb = s.usb := by rw [h]
theorem CoresOnly.cuf {s t : State} (h : CoresOnly s t) : t.cuf = s.cuf := by rw [h]
theorem CoresOnly.fgt {s t : State} (h : CoresOnly s t) : t.fgt = s.fgt := by rw [h]
theorem CoresOnly.keep {s t : State} (h : CoresOnly s t) : t.keep = s.keep := by rw [h]
theorem CoresOnly.keepInj {s t : State} (h : CoresOnly s t) : t.keepInj = s.keepInj := by rw [h]
theorem CoresOnly.cns {s t : State} (h : CoresOnly s t) : t.cns = s.cns := by rw [h]
theorem CoresOnly.boot {s t : State} (h : CoresOnly s t) : t.boot = s.boot := by rw [h]
theorem CoresOnly.pwr {s t : State} (h : CoresOnly s t) : t.pwr = s.pwr := by rw [h]
theorem CoresOnly.jtag {s t : State} (h : CoresOnly s t) : t.jtag = s.jtag := by rw [h]
theorem CoresOnly.flaws {s t : State} (h : CoresOnly s t) : t.flaws = s.flaws := by rw [h]
theorem CoresOnly.get_pair {s t : State} (h : CoresOnly s t) (x : Nat) : t.pair x = s.pair x := by rw [h]; rfl
theorem CoresOnly.get_agent {s t : State} (h : CoresOnly s t) (x : Nat) : t.agent x = s.agent x := by rw [h]; rfl
theorem CoresOnly.get_slice {s t : State} (h : CoresOnly s t) (x : Nat) : t.slice x = s.slice x := by rw [h]; rfl
theorem CoresOnly.get_dmc {s t : State} (h : CoresOnly s t) (x : Nat) : t.dmc x = s.dmc x := by rw [h]; rfl
theorem CoresOnly.get_cufP {s t : State} (h : CoresOnly s t) (x : Nat) : t.cufP x = s.cufP x := by rw [h]; rfl
theorem CoresOnly.get_now {s t : State} (h : CoresOnly s t) : t.now  = s.now := by rw [h]; rfl
theorem CoresOnly.get_ni {s t : State} (h : CoresOnly s t) (x : Nat) : t.ni x = s.ni x := by rw [h]; rfl

/-- A change of registers and cores keeps a device calm while the cores keep what they have in work. -/
theorem Calm.coresOnly {s t : State} (h : Calm s) (g : CoresOnly s t) (w : SameWork s t) : Calm t :=
  h.of_same g.flaws (by rw [g.ports]) g.cuf g.pairs w g.fab g.eiu

theorem CoresOnly.memory {s t : State} (h : CoresOnly s t) : SameMemory s t := ⟨h.close, h.stage, h.keep, h.dmcs, h.agents, h.slices⟩

end Sys2Proof.Machine
end

