-- ==== Sys2Proof/Laws/Access.lean ====
section
/-!
SUPPORT. A command that writes or reads one register whose block takes it at once: its block's answer is its next state.
-/
namespace Sys2Proof.Machine

theorem Calm.complete {s : State} (h : Calm s) (ep : Nat) (st : FStatus) (d : Line) : Calm (complete ep st d s) := h.of_same rfl rfl rfl rfl (.of_cores rfl) rfl rfl

theorem regAnswer_done (i : Initiator) (a : Nat) (w : Option Word) (s : State) (st : FStatus) (x : Word) (u : State) :
    regAnswer i a w s (.done st x u) = retryHeld (complete i.ep st (if w.isSome then [] else [⟨x, .good⟩]) u) := by rw [regAnswer]

theorem Reaches.atBlock {s : State} {a : Nat} (h : Reaches a s) (hr : regionAt s a = some .regs) : atBlock s a = true := by
  unfold Sys2Proof.Machine.atBlock
  rw [hr]
  cases hdom : domainOf (pageOwner a) a with
  | none => rfl
  | some d => simp [h.isOpen d hdom]

/-- A register write that reaches its block, and leaves the device calm, ends with the block's answer. -/
theorem okSettled_regCmd {s u : State} {i : Initiator} {a : Nat} {v x : Word} {st : FStatus} (h : Reaches a s) (hr : regionAt s a = some .regs)
    (ha : regAccess i.ep (initPl i) a (some v) s = .done st x u) (hu : Calm u) :
    okSettled (regCmd i a v s) = .next (latched (complete i.ep st [] u)) := by
  rw [regCmd, h.atBlock hr, if_pos rfl, ha, regAnswer_done, Option.isSome_some, if_pos rfl, retryHeld_calm (hu.complete ..),
    okSettled_calm (hu.complete ..)]

/-- A register read that its block answers at once. -/
theorem okSettled_regReadCmd {s u : State} {i : Initiator} {a : Nat} {x : Word} {st : FStatus}
    (ha : regAccess i.ep (initPl i) a none s = .done st x u) (hu : Calm u) :
    okSettled (regReadCmd i a s) = .next (latched (complete i.ep st [⟨x, .good⟩] u)) := by
  rw [regReadCmd, ha, regAnswer_done, Option.isSome_none, if_neg (by decide), retryHeld_calm (hu.complete ..), okSettled_calm (hu.complete ..)]

/-- A register page of an assigned part. -/
theorem regionAt_regs {s : State} {a : Nat} (h1 : 0x200000 ≤ a) (h2 : a < 0x400000) (h3 : pageAssigned ((a - 0x200000) / 0x1000) = true) :
    regionAt s a = some .regs := by
  have e0 : ¬ a < 0x4000 := by omega
  have e1 : ¬ a < 0x20000 := by omega
  have e2 : ¬ a < 0x80000 := by omega
  have e3 : ¬ a < 0x200000 := by omega
  simp [regionAt, e0, e1, e2, e3, h1, h2, h3]

end Sys2Proof.Machine
end

