-- ==== Sys2Proof/Laws/Core.lean ====
section
/-!
SUPPORT. What running an instruction on a ready core does: the counters it moves, what its retirement leaves, and the whole command.
-/
set_option linter.constructorNameAsVariable false

namespace Sys2Proof.Machine

/-! ### Event counters -/

/-- Counting an event changes registers only. -/
theorem pmcEvent_only (c ev n : Nat) (s : State) : RegsOnly s (pmcEvent c ev n s) := by
  unfold pmcEvent
  apply RegsOnly.foldl
  intro x k
  dsimp only
  split
  · split
    · exact (regsOnly_setReg ..).trans (regsOnly_setBit ..)
    · exact regsOnly_setReg ..
  · exact RegsOnly.refl x

/-- A fold that keeps a part of the state at every step. -/
theorem foldl_same_mem {α β γ : Type} (get : α → γ) (f : α → β → α) (l : List β) : (∀ s k, k ∈ l → get (f s k) = get s) → ∀ s, get (l.foldl f s) = get s := by
  induction l with
  | nil => intro _ s; rfl
  | cons k t ih =>
    intro hf s
    rw [List.foldl_cons, ih (fun s j hj => hf s j (List.mem_cons_of_mem _ hj)), hf s k (List.mem_cons_self ..)]

/-- Counting an event leaves every register but the counters and their selectors. -/
theorem pmcEvent_reg (c ev n : Nat) (s : State) (a : Nat) (h : ∀ k, k < 16 → a ≠ Reg.CS_PMC c k ∧ a ≠ Reg.CS_PMC_SEL c k) :
    (pmcEvent c ev n s).reg a = s.reg a := by
  unfold pmcEvent
  apply foldl_same_mem (fun s => State.reg s a)
  intro x k hk
  have := h k (List.mem_range.mp hk)
  dsimp only
  split
  · split
    · rw [reg_setBit_ne this.2, reg_setReg_ne this.1]
    · rw [reg_setReg_ne this.1]
  · rfl

/-- Counting an event, for a register that no retirement counts in. -/
theorem pmcEvent_reg_of_not_count (c ev n : Nat) (s : State) (a : Nat) (h : ¬ countsOf c a) : (pmcEvent c ev n s).reg a = s.reg a :=
  pmcEvent_reg c ev n s a (fun k hk => ⟨fun e => h (Or.inr ⟨k, hk, Or.inl e⟩), fun e => h (Or.inr ⟨k, hk, Or.inr e⟩)⟩)

theorem status_not_count (c : Nat) : ¬ countsOf c (Reg.CS_STATUS c) := by
  rintro (h | ⟨k, hk, h | h⟩) <;> simp only [Reg.CS_STATUS, Reg.CS_RET_COUNT, Reg.CS_PMC, Reg.CS_PMC_SEL] at h <;> omega

theorem flags_not_count (c : Nat) : ¬ countsOf c (Reg.CS_FLAGS c) := by
  rintro (h | ⟨k, hk, h | h⟩) <;> simp only [Reg.CS_FLAGS, Reg.CS_RET_COUNT, Reg.CS_PMC, Reg.CS_PMC_SEL] at h <;> omega

theorem retCount_not_pmc (c k : Nat) (hk : k < 16) : Reg.CS_RET_COUNT c ≠ Reg.CS_PMC c k ∧ Reg.CS_RET_COUNT c ≠ Reg.CS_PMC_SEL c k := by
  simp only [Reg.CS_RET_COUNT, Reg.CS_PMC, Reg.CS_PMC_SEL]; omega

/-! ### The end of an instruction -/

/-- No halt, park or step stands at a boundary of core c. -/
structure Unhindered (s : State) (c : Nat) : Prop where
  halt : (s.core c).haltReq = false
  step : (s.core c).stepping = false
  parked : (s.core c).parked = false
  park : Nat.testBit s.pwr.parking c = false

theorem boundary_unhindered {s : State} {c : Nat} (h : Unhindered s c) : boundary c s = s := by
  simp [boundary, parkNow, h.park, h.parked, h.halt, h.step]

theorem endInsn_alone {s : State} {c : Nat} (h : isLeader s c = false) :
    endInsn c s = s.updCore c (fun k => { k with io := [], excursed := false, strayed := false }) := by
  have : isLeader (s.updCore c (fun k => { k with io := [], excursed := false, strayed := false })) c = isLeader s c := rfl
  simp [endInsn, this, h]

theorem leaderGroup_alone {old s : State} {c : Nat} {dests : List Nat} (h : isLeader old c = false) : leaderGroup dests old c s = s := by
  simp [leaderGroup, h]

/-- The counts of a retirement without a branch, at the level the instruction ran at. -/
def retireCounts (c lvl : Nat) (s : State) : State :=
  let st := s.reg (Reg.CS_STATUS c)
  (pmcEvent c 0x01 1 ((s.setReg (Reg.CS_STATUS c) (fset st 1 0 lvl)).inc (Reg.CS_RET_COUNT c))).setReg (Reg.CS_STATUS c) st

theorem retireCounts_only (c lvl : Nat) (s : State) : RegsOnly s (retireCounts c lvl s) :=
  (((regsOnly_setReg ..).trans (regsOnly_inc ..)).trans (pmcEvent_only ..)).trans (regsOnly_setReg ..)

theorem retireCounts_reg (c lvl : Nat) (s : State) (a : Nat) (h : ¬ countsOf c a) : (retireCounts c lvl s).reg a = s.reg a := by
  unfold retireCounts
  by_cases hs : a = Reg.CS_STATUS c
  · subst hs; simp
  · rw [reg_setReg_ne hs, pmcEvent_reg_of_not_count c 1 1 _ a h, reg_inc_ne (fun e => h (Or.inl e)), reg_setReg_ne hs]

theorem retireCounts_count (c lvl : Nat) (s : State) : (retireCounts c lvl s).reg (Reg.CS_RET_COUNT c) = s.reg (Reg.CS_RET_COUNT c) + 1 := by
  have hs : Reg.CS_RET_COUNT c ≠ Reg.CS_STATUS c := by simp only [Reg.CS_RET_COUNT, Reg.CS_STATUS]; omega
  unfold retireCounts
  rw [reg_setReg_ne hs, pmcEvent_reg c 1 1 _ _ (fun k hk => retCount_not_pmc c k hk), reg_inc_self, reg_setReg_ne hs]

/-- The state of a core that has retired an instruction with next address n. -/
def coreAfter (n : Word) (k : Core) : Core :=
  { k with pc := n, skipBreak := false, pastTop := false, io := [], excursed := false, strayed := false }

/-- What the retirement of an instruction of a core that is no leader leaves, from the state `s` after its effect: its branch, if it is one, moves only
registers and core c's prediction state. -/
theorem retire_plain {c : Nat} {n : Word} {dests : List Nat} {old s : State} (hp : isPaced old c = false) (hl : (old.pair (c / 2)).started = false)
    (hpair : s.pairs = old.pairs) (hu : Unhindered s c) (hoff : ranOff (corePc old c) (retTo n) = false) :
    let t := retire c dests (retTo n) old s
    CoresOnly s t ∧ t.core c = coreAfter n (s.core c) ∧ (∀ d, d ≠ c → t.core d = s.core d) ∧
    (∀ a, ¬ countsOf c a → t.reg a = s.reg a) ∧ t.reg (Reg.CS_RET_COUNT c) = s.reg (Reg.CS_RET_COUNT c) + 1 := by
  intro t
  have hlo : isLeader old c = false := by simp [isLeader, hl]
  let u := retireCounts c (old.pl c) s
  let v := u.updCore c (fun k => { k with pc := n, skipBreak := false, pastTop := false })
  let w := v.updCore c (fun k => { k with io := [], excursed := false, strayed := false })
  have hr : RegsOnly s u := retireCounts_only c (old.pl c) s
  have hw : CoresOnly s w := (hr.coresOnly.trans (coresOnly_updCore ..)).trans (coresOnly_updCore ..)
  have hlv : isLeader v c = false := by
    have : v.pairs = s.pairs := by rw [show v.pairs = u.pairs from rfl, hr.pairs]
    simp [isLeader, State.pair, this, hpair, show (SMap.getD Pair.reset (c / 2) old.pairs).started = false from hl]
  have hwc : w.core c = coreAfter n (s.core c) := by
    simp only [w, v, core_updCore_self, coreAfter, u, hr.get_core]
  have huw : Unhindered w c :=
    ⟨by rw [hwc]; exact hu.halt, by rw [hwc]; exact hu.step, by rw [hwc]; exact hu.parked, by rw [hw.pwr]; exact hu.park⟩
  have e : t = w := by
    simp only [retTo] at hoff
    simp only [t, retire, retTo, hp, Bool.false_and, Bool.false_eq_true, if_false, leaderGroup_alone hlo, hoff]
    rw [show (((pmcEvent c 1 1 (State.inc (Reg.CS_RET_COUNT c) (State.setReg (Reg.CS_STATUS c) (fset (s.reg (Reg.CS_STATUS c)) 1 0 (old.pl c)) s)))).setReg
      (Reg.CS_STATUS c) (s.reg (Reg.CS_STATUS c))).updCore c (fun k => { k with pc := n, skipBreak := false, pastTop := false }) = v from rfl]
    rw [endInsn_alone hlv]
    exact boundary_unhindered huw
  rw [e]
  refine ⟨hw, hwc, ?_, ?_, ?_⟩
  · intro d hd
    simp only [w, v]
    rw [core_updCore_ne hd, core_updCore_ne hd]
    exact hr.get_core d
  · intro a ha; exact retireCounts_reg c _ s a ha
  · exact retireCounts_count c _ s

/-! ### A whole command of a ready core -/

/-- What a core instruction's command leaves, from the state `s` after the instruction's effect. -/
structure InsnEnd (c : Nat) (n : Word) (s t : State) : Prop where
  core : t.core c = coreAfter n (s.core c)
  others : ∀ d, d ≠ c → t.core d = s.core d
  regs : ∀ a, ¬ countsOf c a → t.reg a = s.reg a
  count : t.reg (Reg.CS_RET_COUNT c) = s.reg (Reg.CS_RET_COUNT c) + 1
  memory : SameMemory s t

theorem Ready.unhindered {s : State} {c : Nat} {long : Bool} (h : Ready s c long) : Unhindered s c := by
  have hm := h.start
  simp only [mayStart, Bool.and_eq_true, Bool.not_eq_true', decide_eq_true_eq] at hm
  exact ⟨h.noHalt.1, h.noHalt.2, hm.1.1.1.1.1.2, h.noPark⟩

theorem Ready.notLeader {s : State} {c : Nat} {long : Bool} (h : Ready s c long) : isLeader s c = false := by simp [isLeader, h.alone]

theorem Ready.noFlaw {s : State} {c : Nat} {long : Bool} (h : Ready s c long) (f : Flaw) : struck s f = false := by
  simp [struck, h.calm.flaws]

theorem ranOff_inner {pc : Word} (h : pc.toNat < 2 ^ 40 - 2) (r : Ret) : ranOff pc r = false := by
  have h2 : decide (2 ^ 40 - 2 ≤ pc.toNat) = false := decide_eq_false (Nat.not_le.mpr h)
  unfold ranOff
  rw [h2, Bool.and_false, Bool.false_and]

theorem Ready.notOff {s : State} {c : Nat} {long : Bool} (h : Ready s c long) (r : Ret) : ranOff (corePc s c) r = false := ranOff_inner h.inner r

/-- The instruction as a command brings it: it reads its registers, and waits for older stores where it serialises. -/
def insnAs (i : Instr) (x : Insn) : Insn :=
  { guardReads (fun c s => regsRead i ++ regsImplied i c s) (if serial i then afterStores x else x) with dests := regsWritten i }

/-- In a calm device the body of an instruction that a command brings is its own. -/
theorem insnAs_body {s : State} {i : Instr} {c : Nat} (x : Insn) (h : Calm s) (hc : c < 8) : (insnAs i x).body c s = x.body c s := by
  have hn : (regsRead i ++ regsImplied i c s).find? (fun n => struck s (.coreReg c n)) = none := by simp [struck, h.flaws]
  have hq : (s.core c).stq = [] := (h.retired c hc).1
  simp only [insnAs, guardReads, hn]
  split <;> simp [afterStores, hq]

/-- The attempt of an instruction on a ready core is its body. -/
theorem attempt_ready {s : State} {c : Nat} {x : Insn} (h : Ready s c x.long) (hu : x.undef = false) (hp : x.minPl ≤ s.pl c) :
    attempt c x s = ((x.body c s).withLeaf []).bind (fun r t => .ok { r with upds := mergeUpds [] r.upds } (lateCounts c x s s t)) := by
  have hb : (brkMatch s c 0 || brkMatch s c 1) = false := by simp [brkMatch, h.noBreak.1, h.noBreak.2]
  have hp' : ¬ s.pl c < x.minPl := by omega
  simp only [attempt, hb, Bool.and_false, Bool.false_eq_true, if_false, h.fetch, MRes.bind, hu, hp']

theorem attemptAll_ready {s s1 : State} {c : Nat} {x : Insn} {r : Ret} (h : Ready s c x.long) (hu : x.undef = false)
    (hp : x.minPl ≤ s.pl c) (hk : x.counter = none) (hb : x.body c s = .ok r s1) (hr : r.upds = []) : attemptAll c x 4 s = .ok r s1 := by
  have ha := attempt_ready h hu hp
  have he : ({ r with upds := mergeUpds [] r.upds } : Ret) = r := by
    rw [hr]; cases r; cases hr; rfl
  simp only [hb, MRes.withLeaf, MRes.bind, he, lateCounts, hk] at ha
  simp only [attemptAll, ha, hr, List.isEmpty_nil, if_true]

theorem attemptAll_exc {s s1 : State} {c : Nat} {x : Insn} {e : Exc} (h : Ready s c x.long) (hu : x.undef = false)
    (hp : x.minPl ≤ s.pl c) (hb : x.body c s = .exc e s1) : attemptAll c x 4 s = .exc e s1 := by
  have ha := attempt_ready h hu hp
  simp only [hb, MRes.withLeaf, MRes.bind] at ha
  simp only [attemptAll, ha]

/-- The command of an instruction on a ready core is its settled attempt. -/
theorem runInsn_ready {s : State} {i : Instr} {c : Nat} {x : Insn} (hi : plainInsnOf i = some (c, x)) (h : Ready s c x.long) :
    runInsn i s = settleAll (settleInsn c (regsWritten i) s (attemptAll c (insnAs i x) 4 s)) := by
  have hd : delayFull s c = false := by simp [delayFull, h.notLeader]
  simp only [runInsn, insnOf, hi, Option.map_some, h.start, Bool.not_true, Bool.false_eq_true, if_false, h.unpaced, runNow, hd]
  rfl

theorem settleInsn_ok (c : Nat) (l : List Nat) (s : State) (r : Ret) (t : State) : settleInsn c l s (.ok r t) = retire c l r s t := rfl
theorem settleInsn_exc (c : Nat) (l : List Nat) (s : State) (e : Exc) (t : State) : settleInsn c l s (.exc e t) = commitExc c e s t := rfl

theorem SameWork.insnEnd {s t : State} {c : Nat} {n : Word} (h : t.core c = coreAfter n (s.core c)) (g : ∀ d, d ≠ c → t.core d = s.core d) :
    SameWork s t := fun d => by
  by_cases e : d = c
  · subst e; rw [h]; exact ⟨rfl, rfl⟩
  · rw [g d e]; exact ⟨rfl, rfl⟩

/-- A command whose instruction retires with no branch. -/
theorem insn_ends {s s1 : State} {i : Instr} {c : Nat} {x : Insn} {n : Word} (hi : plainInsnOf i = some (c, x)) (h : Ready s c x.long)
    (hc8 : c < 8) (hu : x.undef = false) (hp : x.minPl ≤ s.pl c) (hk : x.counter = none) (hb : x.body c s = .ok (retTo n) s1) (hc : Calm s1)
    (hs1 : Unhindered s1 c) (hpair : s1.pairs = s.pairs) : ∃ t, ok (runInsn i s) = .next t ∧ InsnEnd c n s1 t := by
  have hr := retire_plain (s := s1) (dests := regsWritten i) h.unpaced h.alone hpair hs1 (h.notOff (retTo n))
  have hx : (insnAs i x).undef = false ∧ (insnAs i x).minPl = x.minPl ∧ (insnAs i x).long = x.long ∧ (insnAs i x).counter = none := by
    unfold insnAs; split <;> exact ⟨hu, rfl, rfl, hk⟩
  refine ⟨latched (retire c (regsWritten i) (retTo n) s s1), ?_, ?_⟩
  · rw [runInsn_ready hi h, attemptAll_ready (x := insnAs i x) (hx.2.2.1 ▸ h) hx.1 (hx.2.1 ▸ hp) hx.2.2.2
      ((insnAs_body x h.calm hc8).trans hb) rfl]
    rw [settleInsn_ok, settleAll_calm (hc.coresOnly hr.1 (.insnEnd hr.2.1 hr.2.2.1)), ok]
  · exact ⟨hr.2.1, hr.2.2.1, hr.2.2.2.1, hr.2.2.2.2, hr.1.memory.latched⟩

/-! ### Results in registers -/

/-- The body of an instruction that changes the core's own state and keeps its program address. -/
theorem plainInsn_body {long : Bool} {cost : Nat} {f : Nat → State → State} {c : Nat} {s : State} (hpc : corePc (f c s) c = corePc s c) :
    (plainInsn long cost f).body c s = .ok (retTo (nextPc s c long)) (f c s) := by
  show MRes.ok (retTo (nextPc (f c s) c long)) (f c s) = _
  simp only [nextPc, hpc]

/-- A write of a general register changes the register file of its core only. -/
theorem setGpr_core (s : State) (c r : Nat) (v : Word) :
    (s.setGpr c r v).core c = if r = 0 then s.core c else { s.core c with w := SMap.put 0 r v (s.core c).w } := by
  unfold State.setGpr
  split
  · rfl
  · exact core_updCore_self ..

theorem corePc_setGpr (s : State) (c r : Nat) (v : Word) : corePc (s.setGpr c r v) c = corePc s c := by
  unfold corePc; rw [setGpr_core]; split <;> rfl

theorem corePc_regsOnly {s t : State} (h : RegsOnly s t) (c : Nat) : corePc t c = corePc s c := by unfold corePc; rw [h.get_core]

theorem setGpr_pairs (s : State) (c r : Nat) (v : Word) : (s.setGpr c r v).pairs = s.pairs := by unfold State.setGpr; split <;> rfl
theorem setGpr_regs (s : State) (c r : Nat) (v : Word) : (s.setGpr c r v).regs = s.regs := by unfold State.setGpr; split <;> rfl
theorem setGpr_reg (s : State) (c r a : Nat) (v : Word) : (s.setGpr c r v).reg a = s.reg a := reg_congr (setGpr_regs ..) a
theorem setGpr_memory (s : State) (c r : Nat) (v : Word) : SameMemory s (s.setGpr c r v) := (coresOnly_setGpr s c r v).memory

theorem setGpr_core_ne (s : State) {c d : Nat} (r : Nat) (v : Word) (h : d ≠ c) : (s.setGpr c r v).core d = s.core d := by
  unfold State.setGpr
  split
  · rfl
  · exact core_updCore_ne h s _

theorem setGpr_work (s : State) (c r : Nat) (v : Word) : SameWork s (s.setGpr c r v) := fun d => by
  by_cases e : d = c
  · subst e; rw [setGpr_core]; split <;> exact ⟨rfl, rfl⟩
  · rw [setGpr_core_ne s r v e]; exact ⟨rfl, rfl⟩

theorem setAcc_work (s : State) (c a : Nat) (v : BitVec 80) : SameWork s (s.setAcc c a v) := fun d => by
  by_cases e : d = c
  · subst e; rw [show (s.setAcc d a v).core d = { s.core d with acc := SMap.put 0 a v (s.core d).acc } from core_updCore_self ..]; exact ⟨rfl, rfl⟩
  · rw [show (s.setAcc c a v).core d = s.core d from core_updCore_ne e s _]; exact ⟨rfl, rfl⟩

theorem setGpr_result (s : State) (c r : Nat) (v : Word) : GprResult c r v s (s.setGpr c r v) := by
  constructor
  · unfold State.gpr
    split
    · rfl
    · next h => rw [setGpr_core, if_neg h]; exact SMap.getD_put_self ..
  · intro x hx
    unfold State.gpr
    split
    · rfl
    · rw [setGpr_core]
      split
      · rfl
      · exact SMap.getD_put_ne hx ..

theorem Unhindered.setGpr {s : State} {c : Nat} (h : Unhindered s c) (r : Nat) (v : Word) : Unhindered (s.setGpr c r v) c := by
  refine ⟨?_, ?_, ?_, ?_⟩
  · rw [setGpr_core]; split <;> exact h.halt
  · rw [setGpr_core]; split <;> exact h.step
  · rw [setGpr_core]; split <;> exact h.parked
  · rw [(coresOnly_setGpr s c r v).pwr]; exact h.park

theorem Unhindered.setAcc {s : State} {c : Nat} (h : Unhindered s c) (a : Nat) (v : BitVec 80) : Unhindered (s.setAcc c a v) c := by
  have e : (s.setAcc c a v).core c = { s.core c with acc := SMap.put 0 a v (s.core c).acc } := core_updCore_self ..
  exact ⟨by rw [e]; exact h.halt, by rw [e]; exact h.step, by rw [e]; exact h.parked, h.park⟩

theorem Unhindered.regsOnly {s t : State} {c : Nat} (h : Unhindered s c) (g : RegsOnly s t) : Unhindered t c :=
  ⟨by rw [g.get_core]; exact h.halt, by rw [g.get_core]; exact h.step, by rw [g.get_core]; exact h.parked, by rw [g.pwr]; exact h.park⟩

/-- An instruction whose effect is one general register, and registers of the device. -/
theorem gpr_ends {s g : State} {i : Instr} {c rd : Nat} {x : Insn} {n v : Word} (hi : plainInsnOf i = some (c, x)) (h : Ready s c x.long)
    (hc8 : c < 8) (hu : x.undef = false) (hp : x.minPl ≤ s.pl c) (hk : x.counter = none) (hg : RegsOnly (s.setGpr c rd v) g) (hb : x.body c s = .ok (retTo n) g)
    (hcount : g.reg (Reg.CS_RET_COUNT c) = s.reg (Reg.CS_RET_COUNT c)) :
    ∃ t, ok (runInsn i s) = .next t ∧ GprResult c rd v s t ∧ SameAccs c s t ∧ Retired c n s t ∧ (∀ a, ¬ countsOf c a → t.reg a = g.reg a) ∧
      SameMemory s t := by
  have hc : CoresOnly s g := (coresOnly_setGpr ..).trans hg.coresOnly
  obtain ⟨t, ht, he⟩ := insn_ends hi h hc8 hu hp hk hb (h.calm.coresOnly hc (.trans (setGpr_work s c rd v) (.of_cores hg.cores))) ((h.unhindered.setGpr rd v).regsOnly hg) hc.pairs
  have hw : ∀ r, t.gpr c r = (s.setGpr c rd v).gpr c r := by
    intro r; unfold State.gpr; rw [he.core, hg.get_core]; rfl
  refine ⟨t, ht, ⟨?_, ?_⟩, ?_, ⟨?_, ?_, ?_⟩, he.regs, hc.memory.trans he.memory⟩
  · rw [hw]; exact (setGpr_result s c rd v).1
  · intro r hr; rw [hw]; exact (setGpr_result s c rd v).2 r hr
  · intro a
    unfold State.accOf
    rw [he.core, hg.get_core, setGpr_core]
    split <;> rfl
  · rw [he.core]; rfl
  · rw [he.count, hcount]
  · intro d hd
    rw [he.others d hd, hg.get_core, setGpr_core_ne _ _ _ hd]

/-- An instruction whose effect is one accumulator, and registers of the device. -/
theorem acc_ends {s g : State} {i : Instr} {c a : Nat} {x : Insn} {n : Word} {v : BitVec 80} (hi : plainInsnOf i = some (c, x)) (h : Ready s c x.long)
    (hc8 : c < 8) (hu : x.undef = false) (hp : x.minPl ≤ s.pl c) (hk : x.counter = none) (hg : RegsOnly (s.setAcc c a v) g) (hb : x.body c s = .ok (retTo n) g)
    (hcount : g.reg (Reg.CS_RET_COUNT c) = s.reg (Reg.CS_RET_COUNT c)) :
    ∃ t, ok (runInsn i s) = .next t ∧ t.accOf c a = v ∧ (∀ b, b ≠ a → t.accOf c b = s.accOf c b) ∧ SameGprs c s t ∧ Retired c n s t ∧
      (∀ r, ¬ countsOf c r → t.reg r = g.reg r) ∧ SameMemory s t := by
  have hc : CoresOnly s g := (coresOnly_setAcc ..).trans hg.coresOnly
  have e : (s.setAcc c a v).core c = { s.core c with acc := SMap.put 0 a v (s.core c).acc } := core_updCore_self ..
  obtain ⟨t, ht, he⟩ := insn_ends hi h hc8 hu hp hk hb (h.calm.coresOnly hc (.trans (setAcc_work s c a v) (.of_cores hg.cores))) ((h.unhindered.setAcc a v).regsOnly hg) hc.pairs
  refine ⟨t, ht, ?_, ?_, ?_, ⟨?_, ?_, ?_⟩, he.regs, hc.memory.trans he.memory⟩
  · unfold State.accOf; rw [he.core, hg.get_core, e]; exact SMap.getD_put_self ..
  · intro b hb; unfold State.accOf; rw [he.core, hg.get_core, e]; exact SMap.getD_put_ne hb ..
  · intro r; unfold State.gpr; rw [he.core, hg.get_core, e]; rfl
  · rw [he.core]; rfl
  · rw [he.count, hcount]
  · intro d hd
    rw [he.others d hd, hg.get_core]
    exact core_updCore_ne hd s _

/-- An instruction whose effect is on registers of the device only. -/
theorem regs_end {s g : State} {i : Instr} {c : Nat} {x : Insn} {n : Word} (hi : plainInsnOf i = some (c, x)) (h : Ready s c x.long)
    (hc8 : c < 8) (hu : x.undef = false) (hp : x.minPl ≤ s.pl c) (hk : x.counter = none) (hg : RegsOnly s g) (hb : x.body c s = .ok (retTo n) g)
    (hcount : g.reg (Reg.CS_RET_COUNT c) = s.reg (Reg.CS_RET_COUNT c)) :
    ∃ t, ok (runInsn i s) = .next t ∧ SameGprs c s t ∧ SameAccs c s t ∧ Retired c n s t ∧ (∀ r, ¬ countsOf c r → t.reg r = g.reg r) ∧
      SameMemory s t := by
  obtain ⟨t, ht, he⟩ := insn_ends hi h hc8 hu hp hk hb (h.calm.regsOnly hg) (h.unhindered.regsOnly hg) hg.pairs
  refine ⟨t, ht, ?_, ?_, ⟨?_, ?_, ?_⟩, he.regs, hg.memory.trans he.memory⟩
  · intro r; unfold State.gpr; rw [he.core, hg.get_core]; rfl
  · intro r; unfold State.accOf; rw [he.core, hg.get_core]; rfl
  · rw [he.core]; rfl
  · rw [he.count, hcount]
  · intro d hd; rw [he.others d hd, hg.get_core]

/-- A fetch that succeeds does not depend on what decides an early cause (R113). -/
theorem fetchInsn_early {c : Nat} {long : Bool} {s t : State} {u : List LeafUpd} (h : fetchInsn c long none s = .ok u t) (early : Option Exc) :
    fetchInsn c long early s = .ok u t := by
  unfold fetchInsn at h ⊢
  simp only at h ⊢
  split at h
  · cases h
  · rename_i hp
    rw [if_neg hp]
    cases hf : fetchWord c (corePc s c >>> 1) s with
    | ok a b =>
      rw [hf] at h
      simp only [MRes.bind] at h ⊢
      split at h
      · rename_i h1; rw [if_pos h1]; exact h
      · rename_i h1; rw [if_neg h1]
        split at h
        · cases h
        · rename_i h2; rw [if_neg h2]
          cases hg : MRes.withLeaf a (fetchWord c ((corePc s c + 1) >>> 1) b) <;> rw [hg] at h <;> first | exact h | simp at h
    | _ => rw [hf] at h; simp [MRes.bind] at h

end Sys2Proof.Machine
end

