-- ==== Sys2Proof/Laws/Memory.lean ====
section
/-!
SUPPORT. The laws of a memory: read after write, and the canonical form that every write keeps.
-/
namespace Sys2Proof.Machine

@[simp] theorem memRead_memWrite_self (a : Nat) (v : MWord) (m : Memory) : memRead (memWrite a v m) a = v := by simp [memRead, memWrite]

theorem memRead_memWrite_ne {a b : Nat} (h : b ≠ a) (v : MWord) (m : Memory) : memRead (memWrite a v m) b = memRead m b := by
  simp [memRead, memWrite, SMap.getD_put_ne h]

theorem memWrite_wf (a : Nat) (v : MWord) (m : Memory) (h : Memory.wf m = true) : Memory.wf (memWrite a v m) = true :=
  SMap.canon_put (fun _ => MWord.zero) a v m h

theorem memWriteN_wf (d : Line) : ∀ (a : Nat) (m : Memory), Memory.wf m = true → Memory.wf (memWriteN a d m) = true := by
  induction d with
  | nil => intro a m h; exact h
  | cons w t ih => intro a m h; exact ih (a + 1) _ (memWrite_wf a w m h)

/-- Words outside the written range keep their value. -/
theorem memRead_memWriteN_out (d : Line) : ∀ (a b : Nat) (m : Memory), b < a ∨ a + d.length ≤ b → memRead (memWriteN a d m) b = memRead m b := by
  induction d with
  | nil => intro a b m _; rfl
  | cons w t ih =>
    intro a b m h
    simp only [List.length_cons] at h
    rw [memWriteN, ih (a + 1) b _ (by omega), memRead_memWrite_ne (by omega)]

/-- The words of the written range. -/
theorem memRead_memWriteN_in (d : Line) : ∀ (a i : Nat) (m : Memory), i < d.length → memRead (memWriteN a d m) (a + i) = d.getD i MWord.zero := by
  induction d with
  | nil => intro a i m h; simp at h
  | cons w t ih =>
    intro a i m h
    rw [memWriteN]
    cases i with
    | zero => rw [memRead_memWriteN_out t (a + 1) (a + 0) _ (by omega)]; simp
    | succ n =>
      have := ih (a + 1) n (memWrite a w m) (by simpa using h)
      rw [show a + (n + 1) = a + 1 + n by omega, this]; simp

end Sys2Proof.Machine
end

