-- ==== Sys2Proof/Machine/Balls.lean ====
section
/-!
DEFINITION. The package's balls: which ball carries which signal or supply (R713-R717), their states in reset (R720), what a ball carries
whose level the state gives, and the boundary register's cells, which govern the balls in a test mode (R736, R741-R743, R745).
-/
namespace Sys2Proof.Machine

/-! ### The ball grid -/

/-- A signal: its name, its bit in a bus, the supply that powers it (R717), whether it has a boundary cell and whether it is input only (R736). -/
structure Sig where
  name : String
  idx : Option Nat
  supply : String
  cell : Bool
  input : Bool
deriving DecidableEq, Repr

/-- What a position carries: nothing, a signal, or a supply. -/
inductive Ball where
  | none
  | signal (g : Sig)
  | supply (name : String)
deriving DecidableEq, Repr

/-- The letters of the 30 rows, from row index 1 (R713). -/
def ballRows : List String :=
  ["A", "B", "C", "D", "E", "F", "G", "H", "J", "K", "L", "M", "N", "P", "T", "U", "V", "W", "Y", "AA", "AB", "AC", "AD", "AE", "AF", "AG", "AH",
   "AJ", "AK", "AL"]

/-- The four corners and the four inner positions carry no ball. -/
def unpopulated (r c : Nat) : Bool := ((r == 1 || r == 30) && (c == 1 || c == 30)) || ((r == 15 || r == 16) && (c == 15 || c == 16))

/-- One signal by itself. -/
def lone (supply name : String) (cell input : Bool) : List Sig := [⟨name, none, supply, cell, input⟩]

/-- A bus of n signals, in descending bit order (R715). -/
def busOf (supply name : String) (n : Nat) (cell input : Bool) : List Sig :=
  (List.range n).reverse.map (fun k => ⟨name, some k, supply, cell, input⟩)

/-- The 94 signals of DRAM channel n; `ZQ` has no cell. -/
def ddrGroup (n : Nat) : List Sig :=
  let x := fun (g : String) => (if n = 0 then "DDR0_" else "DDR1_") ++ g
  let out := fun (g : String) (k : Nat) => busOf "VDDQ_DDR" (x g) k true false
  out "DQ" 40 ++ out "CB" 8 ++ out "DQS_T" 6 ++ out "DQS_C" 6 ++ out "A" 17 ++ out "BA" 2 ++ out "BG" 2 ++ lone "VDDQ_DDR" (x "ACT_N") true false ++
  out "CK_T" 2 ++ out "CK_C" 2 ++ out "CKE" 2 ++ out "CS_N" 2 ++ out "ODT" 2 ++ lone "VDDQ_DDR" (x "RESET_N") true false ++
  lone "VDDQ_DDR" (x "ZQ") false false

def audGroup (n : Nat) : List Sig :=
  let x := fun (g : String) => "AUD" ++ toString n ++ g
  let one := fun (g : String) (i : Bool) => lone "VDDIO_AUD" (x g) true i
  one "_SCK" false ++ one "_WS" false ++ one "_SDI" true ++ one "_SDO" false

def westSignals : List Sig :=
  let eth := fun (g : String) (i : Bool) => lone "VDDIO_ETH" g true i
  (List.range 8).flatMap audGroup ++ busOf "VDDIO_AUD" "MIDI_IN" 4 true true ++ busOf "VDDIO_AUD" "MIDI_OUT" 4 true false ++
  eth "ETH_TXC" false ++ eth "ETH_TX_CTL" false ++ busOf "VDDIO_ETH" "ETH_TXD" 4 true false ++ eth "ETH_RXC" true ++ eth "ETH_RX_CTL" true ++
  busOf "VDDIO_ETH" "ETH_RXD" 4 true true ++ eth "ETH_MDC" false ++ eth "ETH_MDIO" false ++
  lone "VDDIO_USB" "USB_DP" false false ++ lone "VDDIO_USB" "USB_DM" false false ++ lone "VDDIO_USB" "USB_REXT" false false

/-- The system balls, J23 to P24. -/
def systemSignals : List Sig :=
  let sys := fun (g : String) (i : Bool) => lone "VDDIO_SYS" g true i
  let tap := fun (g : String) => lone "VDDIO_SYS" g false true
  let mem := fun (g : String) => lone "VDDIO_MEM" g true false
  ["XA_IN", "XA_OUT", "XB_IN", "XB_OUT"].flatMap (fun g => lone "VDDA" g false false) ++ sys "RESET_N" true ++ sys "PRESENCE_N" true ++
  sys "HATCHECK_IO" false ++ busOf "VDDIO_SYS" "STATUS" 3 true false ++ busOf "VDDIO_SYS" "BOOT_SEL" 2 true true ++ sys "CNS_ROLE" true ++
  busOf "VDDIO_SYS" "CNS_ID" 2 true true ++ tap "TCK" ++ tap "TMS" ++ tap "TDI" ++ lone "VDDIO_SYS" "TDO" false false ++ tap "TRST_N" ++
  sys "HP_SCK" true ++ sys "HP_CS_N" true ++ sys "HP_MOSI" true ++ sys "HP_MISO" false ++ sys "HP_IRQ_N" false ++
  mem "QSPI_SCK" ++ mem "QSPI_CS_N" ++ busOf "VDDIO_MEM" "QSPI_IO" 4 true false ++ mem "EMMC_CLK" ++ mem "EMMC_CMD" ++
  busOf "VDDIO_MEM" "EMMC_DAT" 8 true false ++ mem "EMMC_RST_N"

def southWestSignals : List Sig :=
  busOf "VDDIO_FT" "FT_DRV" 16 true false ++ busOf "VDDIO_FT" "FT_SNS" 16 true true ++ busOf "VDDA" "FT_AIN" 24 false true ++
  lone "VDDA" "FT_VREF" false true ++ busOf "VDDIO_GP" "GPIO" 48 true false ++
  ["I2C0_SCL", "I2C0_SDA", "I2C1_SCL", "I2C1_SDA", "I2C2_SCL", "I2C2_SDA"].flatMap (fun g => lone "VDDIO_GP" g true false)

def southEastSignals : List Sig :=
  let pair := fun (g : String) (i : Bool) => busOf "VDD_SERDES" g 4 false i
  pair "CUF0_TXP" false ++ pair "CUF0_TXN" false ++ pair "CUF0_RXP" true ++ pair "CUF0_RXN" true ++
  pair "CUF1_TXP" false ++ pair "CUF1_TXN" false ++ pair "CUF1_RXP" true ++ pair "CUF1_RXN" true ++ lone "VDD_SERDES" "CUF_REXT" false false

/-- A region of R714: its rows and columns, its signals and its supplies, in fill order. -/
structure BallRegion where
  rows : Nat × Nat
  cols : Nat × Nat
  signals : List Sig
  supplies : List (String × Nat)

/-- The regions whose positions fill by R715; the core region's alternate by R716. -/
def ballRegions : List BallRegion :=
  [⟨(1, 8), (1, 15), ddrGroup 0, [("VDDQ_DDR", 20), ("VSS", 5)]⟩,
   ⟨(1, 8), (16, 30), ddrGroup 1, [("VDDQ_DDR", 20), ("VSS", 5)]⟩,
   ⟨(9, 22), (1, 8), westSignals, [("VDDIO_AUD", 5), ("VDDIO_ETH", 2), ("VDDIO_USB", 2), ("VDD_CORE", 12), ("VSS", 34)]⟩,
   ⟨(9, 22), (23, 30), systemSignals, [("VDDIO_SYS", 3), ("VDDIO_MEM", 3), ("VDD_AON", 4), ("VDD_CORE", 12), ("VSS", 48)]⟩,
   ⟨(23, 30), (1, 20), southWestSignals, [("VDDIO_FT", 4), ("VDDA", 8), ("VDDIO_GP", 6), ("VSS", 30)]⟩,
   ⟨(23, 30), (21, 30), southEastSignals, [("VDD_SERDES", 16), ("VSS", 30)]⟩]

def within (x : Nat × Nat) (k : Nat) : Bool := decide (x.1 ≤ k) && decide (k ≤ x.2)

/-- How many populated positions of a region come before (r, c) in reading order. -/
def regionIndex (g : BallRegion) (r c : Nat) : Nat :=
  ((List.range r).map (fun y => ((List.range 31).filter (fun x =>
    within g.rows y && within g.cols x && !unpopulated y x)).length)).sum +
  ((List.range c).filter (fun x => within g.cols x && !unpopulated r x)).length

/-- What a region's balls carry, in reading order. -/
def regionFill (g : BallRegion) : List Ball := g.signals.map .signal ++ g.supplies.flatMap (fun e => List.replicate e.2 (.supply e.1))

/-- What the ball at row index r and column c carries. -/
def ballAt (r c : Nat) : Ball :=
  if r = 0 || decide (30 < r) || c = 0 || decide (30 < c) || unpopulated r c then .none
  else match ballRegions.find? (fun g => within g.rows r && within g.cols c) with
    | some g => (regionFill g).getD (regionIndex g r c) .none
    | none => .supply (if (r + c) % 2 = 0 then "VDD_CORE" else "VSS")

/-! ### The boundary register -/

/-- The populated positions of the grid, in reading order. -/
def ballGrid : List (Nat × Nat) :=
  (List.range 30).flatMap (fun r => (List.range 30).filterMap (fun c => if unpopulated (r + 1) (c + 1) then none else some (r + 1, c + 1)))

/-- The balls that have a cell, the one nearest `TDO` first (R736). -/
def cellSignals : List Sig :=
  ballGrid.filterMap (fun p => match ballAt p.1 p.2 with | .signal g => if g.cell then some g else none | _ => none)

/-- EXTEST, CLAMP or HIGHZ is in the instruction register (R682): the boundary register governs the balls. -/
def testMode (s : State) : Bool := s.jtag.ir == 0 || s.jtag.ir == 4 || s.jtag.ir == 5

/-! ### What a ball carries -/

/-- A ball as the device leaves it: driven low or high, released with a pull, or released. -/
inductive Drive where
  | low
  | high
  | pulledUp
  | pulledDown
  | released
deriving DecidableEq, Repr

def levelDrive (b : Bool) : Drive := if b then .high else .low

/-- Cell k in a test mode: the bit after the captured one drives the ball while the third enables the driver; HIGHZ releases every ball. -/
def cellDrive (s : State) (g : Sig) (k : Nat) : Drive :=
  if g.input || s.jtag.ir == 5 || !s.jtag.cells.getLsbD (3 * k + 2) then .released else levelDrive (s.jtag.cells.getLsbD (3 * k + 1))

/-- The states of R720. A Cuff transmitter's electrical idle, both legs at the common-mode voltage, is no level of the model's and shows as
released. -/
def resetDrive (g : Sig) : Drive :=
  if ["STATUS", "ETH_TX_CTL", "ETH_TXD", "ETH_TXC", "ETH_MDC"].contains g.name then .low
  else if g.name == "MIDI_OUT" then .high
  else if ["QSPI_CS_N", "EMMC_RST_N", "HP_IRQ_N"].contains g.name then .pulledUp
  else if ["BOOT_SEL", "CNS_ROLE", "CNS_ID", "RESET_N"].contains g.name then .pulledDown
  else if g.supply == "VDDQ_DDR" && g.cell && !(["DDR0_DQ", "DDR1_DQ", "DDR0_CB", "DDR1_CB", "DDR0_DQS_T", "DDR1_DQS_T", "DDR0_DQS_C",
    "DDR1_DQS_C"].contains g.name) then .low
  else .released

/-- The function that PINMUX gives to line l (R745). -/
def pinFunction (s : State) (l : Nat) : Nat := s.fld (Reg.SYS_PINMUX (l / 10)) (l % 10 * 4 + 3) (l % 10 * 4)

/-- GPIO line l: PULSE_OUT is high for half of the time between two TB_PULSE edges; else the output, its pulls and its direction govern
(R537, R742, R745). XA_BUF follows the crystal, whose level no state holds. -/
def gpioDrive (s : State) (l : Nat) : Option Drive :=
  if pinFunction s l = 1 then none
  else if pinFunction s l = 2 then some (levelDrive (decide (s.tb.acc < 500000000)))
  else if gpioBit s Reg.GPIO_DIR_LO l && !(gpioBit s Reg.GPIO_OPEN_DRAIN_LO l && gpioBit s Reg.GPIO_OUT_LO l) then
    some (levelDrive (gpioBit s Reg.GPIO_OUT_LO l))
  else some (if gpioBit s Reg.GPIO_PULL_UP_LO l then .pulledUp else if gpioBit s Reg.GPIO_PULL_DN_LO l then .pulledDown else .released)

/-- What the device itself gives ball g, outside test modes: the states of R720 in internal reset; `STATUS` (R721), `HATCHECK_IO` (R678, R741),
`HP_IRQ_N` (R539), GPIO and the balls that have no output. None: an interface whose transfers the model holds whole drives it. -/
def ownDrive (s : State) (g : Sig) : Option Drive :=
  if s.boot.inReset || s.pwr.halted then some (resetDrive g)
  else if g.name == "STATUS" then some (levelDrive ((statusPins s).testBit (g.idx.getD 0)))
  else if g.name == "HATCHECK_IO" then some (if s.bit Reg.HAT_PIN 1 then .low else .released)
  else if g.name == "HP_IRQ_N" then some (if s.ports.hpt.rsp = [] || smallStopped s then .released else .low)
  else if g.name == "GPIO" then gpioDrive s (g.idx.getD 0)
  else if g.input then some (resetDrive g)
  else none

/-- What ball g carries (R736, R743): in a test mode its cell governs, and no output of the internal logic reaches it. -/
def ballDrive (s : State) (g : Sig) : Option Drive :=
  if g.cell && testMode s then some (cellDrive s g (cellSignals.findIdx (fun x => decide (x = g)))) else ownDrive s g

end Sys2Proof.Machine
end

