-- ==== Sys2Proof/WellFormed.lean ====
section
/-!
DEFINITION. Which commands are well formed: the limits on operands that no operand type states.
-/
namespace Sys2Proof

/-- The limits on operands that no operand type states: a bit field ends at bit 39 (R138); an I/O write carries 1 to 16 words and five mask bits
for each, one to 4,096 for an initiator that is no core (R338, R339, R341); an I/O read asks for at least one word; an uncached write carries a line (R287). -/
def Instr.wf : Instr → Bool
  | .bitField _ _ _ _ p w1 => decide (p.val + w1.val < 40)
  | .wrU _ _ _ data => decide (data.length = 16)
  | .ioRd i _ len => decide (0 < len.val) && decide (len.val ≤ if i.ep.val < 8 then 16 else 4096)
  | .ioWr i _ mask data => decide (0 < data.length) && decide (data.length ≤ if i.ep.val < 8 then 16 else 4096) && (match mask with | none => true | some m => decide (m < 2 ^ (5 * data.length)))
  | .powerOn _ | .resetNRise _ | .tbPllLock | .tbPllUnlock | .clockLost _ | .tbPulse _ | .shortRegisterAlu _ _ _ _ _ | .shortImmediate _ _ _
  | .accumulatorMove _ _ | .compare _ _ _ _ | .cbz _ _ _ _ | .bc _ _ _ | .branch _ _ | .brL _ _ | .call _ _ | .jalr _ _ _ _ | .bcL _ _ _
  | .branchResolution _ _ _ _ | .longRegisterAlu _ _ _ _ _ _ | .immediateAlu _ _ | .longImmediate _ _ | .adr _ _ _ _ | .sel _ _ | .lw _ _ _ _
  | .sw _ _ _ _ | .lwAq _ _ _ _ | .swRl _ _ _ _ | .ld2 _ _ _ _ | .sd2 _ _ _ _ | .la _ _ _ _ | .sa _ _ _ _ | .lbu _ _ _ _ | .lbs _ _ _ _
  | .sb _ _ _ _ | .lwx _ _ _ _ _ | .swx _ _ _ _ _ | .cas _ _ _ _ _ _ _ | .fadd _ _ _ _ _ _ | .swapInsn _ _ _ _ _ _ | .ll _ _ _ _
  | .sc _ _ _ _ _ | .multiplyAccumulate _ _ | .floatingPoint _ _ | .fcmp _ _ _ | .svc _ _ | .pmc _ _ | .mnc _ _ | .nop _ | .fenceR _
  | .fenceW _ | .fenceA _ | .waitev _ | .coreWake _ | .sev _ | .eret _ | .breakInsn _ | .csrr _ _ _ | .csrw _ _ _ | .csrset _ _ _
  | .csrclr _ _ _ | .dcClean _ _ | .dcClinv _ _ | .dcInv _ _ | .icInv _ _ | .tlbInvVa _ _ | .tlbInvAsid _ _ | .tlbInvAll _ | .tlbInvPart _ _
  | .asynchronousException _ | .storeErrorResponse _ | .corePageStore _ _ _ _ | .cloakroomPromotion _ _ | .cloakEntryStale _ _
  | .paceWritebackDone _ | .gridPoint _ _ | .pairEnable _ _ _ | .groupCompare _ | .pairDrain _ _ _ | .pairInjectDisagree _ _ _
  | .pairInjectMissCanary _ _ _ | .pairInjectParity _ _ _ | .pairInjectMismatch _ _ _ | .rdS _ _ | .rdX _ _ | .upg _ _ | .rdT _ _
  | .promote _ _ _ | .rdU _ _ | .atomU _ _ _ _ _ _ | .wb _ _ | .evict _ _ | .cmoClean _ _ | .cmoClinv _ _ | .cmoInv _ _ | .epochHoldEnd _
  | .snpInv _ _ | .snpFwdS _ _ | .snpFwdX _ _ | .snpGet _ _ | .snpClean _ _ | .snpRecall _ _ | .dataS _ _ | .dataE _ _ | .dataM _ _
  | .dataT _ _ | .dataU _ _ | .cohGrant _ _ | .cohDecline _ _ | .cohRetry _ _ | .cohComp _ _ | .promoOk _ _ | .promoFail _ _ | .cohAck _ _
  | .cohAckData _ _ | .cohDone _ _ | .hsSplitWrite _ _ _ | .stageSplitComplete _ | .hsDirSelWrite _ _ _ | .sourceAssert _
  | .eiuConfigWrite _ _ _ _ | .swevTrig _ _ | .tbStep _ _ | .tbSlewWrite _ _ | .slewTick | .tbNowLoRead _ | .timerFire _ | .rateBoundary _
  | .rgenEnable _ _ _ | .rgenDisable _ _ _ | .rgenRateWrite _ _ _ _ | .ioAtom _ _ _ _ _ | .ioData _ _ | .ioComp _ _
  | .fabTimeout _ _ | .tagRetirement _ _ | .domainClose _ | .domainShut _ | .domainOpen _ | .fabWakeFail _ | .traceWrite | .fabRtDataWrite _ _
  | .cuffTrainingStart _ | .blockLock _ _ _ _ _ _ | .ts2 _ | .cufAdv _ _ | .trainTimeout _ | .lockLost _ _ | .cufRd _ _ | .cufWr _ _
  | .cufWrm _ _ | .cufRsp _ _ | .cufMsg _ _ | .cufImage _ _ | .cufTime _ _ | .cufBalance _ _ | .cufRetrain _ _ | .cufNull _ _ | .cufNak _ _
  | .cufResync _ | .replayTimeout _ | .cufAlign _ _ _ _ _ | .balanceDue _ | .advDue _ | .cufSilence _ | .retrainTimeout _ | .creditShrink _ _
  | .partnerSilent _ _ | .linkRestart _ | .cufRetrainWrite _ _ _ | .cufEnWrite _ _ _ | .loseCredit _ _ _ | .badSlot _ _ _ | .badCrc _ _ _
  | .timeSend _ | .cnsHello _ _ | .cnsSync _ _ | .timeApart | .cnsEpoch _ _ | .cnsLinks _ _ | .bootReq _ _ _ | .bootReqDue | .imageFor _ _
  | .rejoinTime _ _ | .segCreate _ _ | .segDestroy _ _ | .moveRing _ _ | .segReset _ _ | .functionReset _ _ _ | .masterEnableWrite _ _ _
  | .functionQuiesced _ | .tailWrite _ _ _ _ | .ringEnable _ _ _ _ | .ringDrain _ _ _ _ | .ringOff _ | .descriptorFetch _ | .unitCommit _
  | .statusWritesDone _ | .rxUnitData _ | .rxHoldTimeout _ | .blockTimeout _ | .ringAbort _ _ _ _ | .ringResume _ _ _ _ | .freezeWrite _ _
  | .fillStep _ _ | .fillWaitEnd _ | .writeQueueWrite _ | .dmcScrub _ | .dmcRefresh _ _ _ | .zqcs _ _ | .dmcEnable _ _ _
  | .dmcBringupDone _ _ _ | .dmcStop _ _ _ | .dmcResumeDone _ _ _ | .dmcInjectSingle _ _ _ | .dmcInjectDouble _ _ _
  | .dmcInjectFreshParity _ _ _ | .audioEnable _ _ _ | .audioDisable _ _ _ | .slaveFrameStart _ _ | .audioFrameReceived _ _ | .audClkLost _
  | .audInjectUnderrun _ _ _ | .audInjectFrameErr _ _ _ | .midiOctetReceived _ _ _ | .midiSend _ | .i2cStart _ _ | .i2cWriteData _ _
  | .i2cReadAck _ _ | .i2cReadNack _ _ | .i2cStop _ | .i2cBus _ | .qspiCmdWrite _ _ | .qspiTransferDone _ | .emcCmdWrite _ _ | .emcDone _ _
  | .emcErr _ | .emcDataAccess _ _ | .emcTuneStart _ _ | .emcInject _ _ | .gpioEdge _ _ | .gpioOutSet _ _ _ | .gpioOutClr _ _ _
  | .hostTransaction _ | .hostStatus | .hostReset _ | .streamImage | .readWord | .writeWord | .debugUnlock | .hostRestoreFactory
  | .hostEraseUser | .hostApplyUser | .factoryWrite | .ethFrameReceived _ _ | .ethPause _ | .ethPauseEnd | .ethFrameTransmit
  | .aafFrameBuild _ | .ethSmapCommit _ _ | .aafStreamEnable _ _ _ | .mdioCmdWrite _ _ | .mdioFrameDone _ | .busReset _ | .usbSuspend
  | .usbResume | .usbWake _ _ | .usbAddrWrite _ _ | .usbSetup _ | .ep0Send | .ep0Recv _ | .ep0StatusAck | .ep0Stall | .usbInPacket _ _
  | .usbOutPacket _ _ _ _ | .usbSof _ _ | .usbEpEnable _ _ _ _ | .resetToggle _ _ _ _ | .usbTestWrite _ _ | .analogSample _ _ | .fgtEnable _ _
  | .fgtDisable _ _ | .fgtReload _ _ | .calLoadDone | .fgtInjectSeq _ _ | .fgtInjectDrop _ _ | .restoreFactory _ _ | .eraseUser _ _
  | .applyUser _ _ | .kepWpWrite _ _ _ | .kepInject _ _ | .pass1Check _ _ | .bootSourceTimeout | .recDramTiming | .recPinmux | .recRoutes
  | .recStageSplit | .recCuff | .recConsort | .recPartitions | .recShedRanks | .recPayloadLoad | .recEntry | .recClocks | .recAudioDefaults
  | .recRegisterPoke | .recFingertip | .recSignature | .endRecord | .coreStart _ _ | .fuseProgram _ _ | .fuseProgramDone _
  | .presenceWindowOpen | .presenceWindowClose _ | .debugRelock _ _ | .pwrShut _ _ _ | .domainWake _ _ _ | .retainEntry _
  | .supplySample _ _ _ _ _ | .haltRelease _ | .pwrVminWrite _ _ | .errlogRecord | .errlogPop _ _ | .errlogTopRead _ | .hatTrigWrite _ _
  | .hatArm _ _ | .hatcheckPinTrigger | .hatcheckLatch _ | .dbgCoreHalt _ _ | .dbgCoreResume _ _ | .dbgCoreStep _ _ | .jtagAddr _
  | .jtagRead _ | .jtagWrite _ | .jtagUnlock _ | .jtagRelock _ | .jtagHatTrig _ | .jtagNop _ | .mailboxWrite _ _ _ | .registerWrite _ _ _
  | .resetNLow | .tbPllLockTimeout | .undef _ _ _ | .fetchFault _ | .midiBreak _ _ | .jtagInstructionUpdate _ _ | .i2cRxdataRead _ _
  | .foreignSlotRead _ _ _ _ => true

end Sys2Proof
end

