-- ==== Sys2Proof/Tests/Slice0.lean ====
section
/-!
SUPPORT. Tests. The limits of well-formedness, single commands whose outcome the spec works out, and for every statement a state and operands that meet
the hypotheses of each of its clauses.
-/
namespace Sys2Proof.Tests
set_option linter.all false
set_option Elab.async false
set_option maxRecDepth 20000
open Sys2Proof Sys2Proof.Machine

/-! ### Limits of well-formedness: for each check a command that it lets through and one that it refuses -/

theorem test_wf_bitField_ends_at_39 : (Instr.bitField 0 .extu 1 2 20 19).wf = true := by decide
theorem test_wf_bitField_past_39 : (Instr.bitField 0 .extu 1 2 20 20).wf = false := by decide
theorem test_wf_wrU_line : (Instr.wrU 0 0 0 (List.replicate 16 0)).wf = true := by decide
theorem test_wf_wrU_short : (Instr.wrU 0 0 0 (List.replicate 15 0)).wf = false := by decide
theorem test_wf_ioWr_one_word : (Instr.ioWr ⟨18, 0, 0⟩ 0 (some 31) [5]).wf = true := by decide
theorem test_wf_ioWr_no_word : (Instr.ioWr ⟨18, 0, 0⟩ 0 none []).wf = false := by decide
theorem test_wf_ioWr_17_words : (Instr.ioWr ⟨3, 0, 0⟩ 0 none (List.replicate 17 0)).wf = false := by decide
theorem test_wf_ioWr_mask_too_wide : (Instr.ioWr ⟨18, 0, 0⟩ 0 (some 32) [5]).wf = false := by decide

/-! ### No row of the table gives bits -/

theorem test_no_row_has_bits : decodeTableWord 40 0x12345 = none := by decide
theorem test_withFetchWord_keeps_the_state : State.reset.withFetchWord 40 0x12345 = State.reset := by decide +kernel

/-! ### What the hypotheses of the statements come to, clause by clause -/

/-- What Calm comes to. -/
def calmB (s : State) : Bool :=
  s.flaws.isEmpty && s.ports.held.isEmpty && (List.range 8).all (fun c => (s.core c).stq.isEmpty && (s.core c).pfq.isEmpty) && s.fab.blocked.isEmpty &&
  s.fab.ni.all (fun e => e.2.held.isEmpty) && (List.range 2).all (fun n => (s.cufP n).waiting.isEmpty && (s.cufP n).rxq.isEmpty) &&
  (List.range 4).all (fun n => !(s.pair n).draining && ((s.pair n).started || (s.pair n).hold.isEmpty)) && s.eiu.inq.isEmpty && s.eiu.owed.isEmpty

theorem calm_of {s : State} (h : calmB s = true) : Calm s := by
  simp only [calmB, Bool.and_eq_true, List.all_eq_true, List.mem_range, List.isEmpty_iff, Bool.or_eq_true, Bool.not_eq_true'] at h
  obtain ⟨⟨⟨⟨⟨⟨⟨⟨h1, h2⟩, h3⟩, h4⟩, h5⟩, h6⟩, h7⟩, h8⟩, h9⟩ := h
  exact ⟨h1, h2, h3, h4, by simpa [List.all_eq_true] using h5, fun n x => (h6 n x).1, fun n x => (h6 n x).2, fun n x => (h7 n x).1, fun n x => (h7 n x).2, h8, h9⟩

theorem calms_of {l : List Nat} {p : List State} (h : l.all (fun k => calmB (p.getD k State.reset)) = true) : ∀ k ∈ l, Calm (p.getD k State.reset) :=
  fun k m => calm_of (List.all_eq_true.1 h k m)

theorem calm_ite {c : Prop} [Decidable c] {a b : State} (x : calmB a = true) (y : calmB b = true) : Calm (if c then a else b) := by
  split <;> exact calm_of (by assumption)

def openAt (s : State) (d : Option Nat) : Bool := match d with | none => true | some k => domState s k == 0 && !domShed s k

theorem open_of {s : State} {d : Option Nat} (h : openAt s d = true) : ∀ k, d = some k → domState s k = 0 ∧ domShed s k = false := by
  rintro k rfl; simpa [openAt] using h

theorem reaches_of {a : Nat} {s : State} (c : Calm s) (h : openAt s (domainOf (pageOwner a) a) = true) : Reaches a s := ⟨c, open_of h⟩

theorem poised_of {s : State} {c : Nat} (k : Calm s) (h : mayStart s c = true ∧ isPaced s c = false ∧ (s.pair (c / 2)).started = false ∧
    (s.bit (Reg.CS_DBG_CTL c) 0 = false ∧ s.bit (Reg.CS_DBG_CTL c) 1 = false) ∧ ((s.core c).haltReq = false ∧ (s.core c).stepping = false) ∧
    Nat.testBit s.pwr.parking c = false) : Poised s c :=
  ⟨k, h.1, h.2.1, h.2.2.1, h.2.2.2.1, h.2.2.2.2.1, h.2.2.2.2.2⟩

def fetches (s : State) (c : Nat) (long : Bool) : Bool := match fetchInsn c long none s with | .ok [] t => decide (t = s) | _ => false

theorem ready_of {s : State} {c : Nat} {long : Bool} (p : Poised s c) (f : fetches s c long = true) (h : (s.core c).pc.toNat < 2 ^ 40 - 2) :
    Ready s c long := by
  refine ⟨p.calm, p.start, p.unpaced, p.alone, p.noBreak, p.noHalt, p.noPark, ?_, h⟩
  unfold fetches at f
  split at f
  · next e => exact fetchInsn_early (by rw [e, of_decide_eq_true f])
  · cases f

theorem physical_of {s : State} {c : Nat} (r : Ready s c true) (h : 2 ≤ s.pl c ∧ s.bit (Reg.CS_WATCH_CTL c) 0 = false ∧ (s.core c).io = [] ∧
    (s.core c).outStores = []) : ReadyPhys s c := ⟨r, h.1, h.2.1, h.2.2.1, h.2.2.2⟩

theorem undisturbed_of {s : State} {c : Nat} (k : Calm s) (h : (s.pair (c / 2)).started = false ∧ ((s.core c).halted = false ∧ (s.core c).parked = false) ∧
    ((s.core c).haltReq = false ∧ (s.core c).stepping = false) ∧ Nat.testBit s.pwr.parking c = false) : Undisturbed s c :=
  ⟨k, h.1, h.2.1, h.2.2.1, h.2.2.2⟩

theorem enters_of {s : State} {c b l : Nat} (h : b ≤ l ∧ l ≤ 3 ∧ s.hold c l = false ∧ ∀ m, m < l → b ≤ m → s.hold c m = true) : EntersAt s c b l :=
  ⟨h.1, h.2.1, h.2.2.1, fun m x y => h.2.2.2 m y x⟩

theorem linked_of {s : State} {x y : Nat} (h : s.flaws = [] ∧ routeValid s x y = true ∧ routeValid s y x = true ∧ mustHold s x y = false ∧
    (freeTag? s x).isSome = true ∧ ∀ k, k < 8 → s.bit (Reg.PRB_n_CTL k) 0 = false) : Linked s x y :=
  ⟨h.1, h.2.1, h.2.2.1, h.2.2.2.1, h.2.2.2.2.1, h.2.2.2.2.2⟩

theorem path_of {s : State} {x d : Nat} (c : Calm s) (l : Linked s x d) (h : s.fab.blocked = []) (o : openAt s (domainOf d 0) = true) : Path s x d :=
  ⟨c, l, h, open_of o⟩

theorem home_of {s : State} {n l : Nat} (h : (0x100000 ≤ l * 16 ∧ l * 16 < 0x200000) ∧ s.bit (Reg.HS_STATUS n) 1 = false ∧ s.split = none ∧
    (s.slice n).trk = [] ∧ ((s.slice n).waiting = [] ∧ (s.slice n).pslotOrder = []) ∧ (s.slice n).gHold = false ∧ llcGet s n l = none ∧ regionAt s (l * 16) = some .stage) : HomeReady s n l :=
  let ⟨a, b, d, e, f, g, i, j⟩ := h
  ⟨a, j, b, d, e, f, g, i⟩

def hasRoom (s : State) (n l : Nat) : Bool := match allocWay s n l with | some (_, b) => b | none => false

theorem line_of {s : State} {a l : Nat} (x : Linked s (agentEp a) (hsEp (homeOf s l))) (y : HomeReady s (homeOf s l) l)
    (h : hasOut s a l = false ∧ dirWay s (homeOf s l) l = none ∧ hasRoom s (homeOf s l) l = true) : FreeLine s a l := by
  refine ⟨x, y, h.1, h.2.1, ?_⟩
  have g := h.2.2
  unfold hasRoom at g
  split at g
  · next k b e => exact ⟨k, by rw [e, g]⟩
  · cases g

theorem arrives_of {s : State} {n : Nat} {x : CufRx} {kind ackk : Nat} (c : Calm s)
    (h : (s.fld (Reg.CUF_STATUS n) 2 0 = 2 ∨ (s.fld (Reg.CUF_STATUS n) 2 0 = 1 ∧ (s.cufP n).gotTs2 = true ∧ seqType kind = false)) ∧
      s.bit (Reg.CUF_STATUS n) 3 = false ∧ (hdrValid x = true ∧ cufCrcOk x = true ∧ reservedZero x = true ∧ lenOk (rxPkt x) (sget x.hdr 45 42) = true) ∧
      (rxPkt x).type = kind ∧ (vcClassOk kind (rxPkt x).vc = true ∧ openVc s n (rxPkt x).vc = true) ∧ ((rxPkt x).vc ≠ 8 → cufJoined s n = true) ∧
      (sget x.trailer 75 68 = 0 ∧ sget x.trailer 63 56 = 0) ∧ sget x.hdr 59 58 = ackk ∧ (seqType kind = true → (rxPkt x).seq = (s.cufP n).nextRx) ∧
      (seqType kind = true → SMap.getD 0 (rxPkt x).vc (s.cufP n).rxocc + SMap.getD 0 (rxPkt x).vc (s.cufP n).owed + 1 + sget x.hdr 45 42 ≤ allocOf s n (rxPkt x).vc) ∧
      (∀ m, m < 2 → (s.cufP m).outq = [] ∧ (s.cufP m).replay = [] ∧ (s.cufP m).msgs = [] ∧ SMap.find m s.cns.serve = none)) : Arrives s n x kind ackk :=
  let ⟨a, b, d, e, f, g, i, j, k, l, m⟩ := h
  ⟨c, a, b, d, e, f, g, i, j, k, l, m⟩

theorem mgmt_of {s : State} {n : Nat} {x : CufRx} {kind : Nat} {w0 w1 w2 w3 : Word} (a : Arrives s n x 7 0)
    (h : s.fld (Reg.CUF_STATUS n) 2 0 = 2 ∧ (rxPkt x).data = [w0, w1, w2, w3] ∧ mgmtBad [w0, w1, w2, w3] = false ∧ fget w0 39 36 = kind) :
    Mgmt s n x kind w0 w1 w2 w3 := ⟨a, h.1, h.2.1, h.2.2.1, h.2.2.2⟩

theorem asks_of {s : State} {op n : Nat} {r : List Word} (c : Calm s) (h : s.boot.reqs = [r] ∧ s.boot.hostWait = none ∧ s.hpt.rsp.length ≤ 58 ∧
    hostOpcode r = op ∧ (r.length = n + 1 ∧ fget (r.headD 0) 5 0 = n ∧ fget (r.headD 0) 23 6 = 0)) : HostAsks s op n r :=
  ⟨c, h.1, h.2.1, h.2.2.1, h.2.2.2.1, h.2.2.2.2⟩

theorem slave_of {s : State} {n : Nat} (c : Calm s) (h : ((s.aud n).on = true ∧ (s.aud n).stopping = false) ∧ (audMaster s n = false ∧ xaLost s = false) ∧
    boundRing s 1 n false = none ∧ (s.bit (Reg.AUD_CTL n) 3 = true ∧ audMask s n true ≠ []) ∧
    (s.fld Reg.PWR_STATUS 2 0 = 0 ∧ s.bit (Reg.AUD_CTL n) 5 = false ∧ s.bit (Reg.AUD_STATUS n) 7 = false)) : SlaveSends s n :=
  ⟨c, h.1, h.2.1, h.2.2.1, h.2.2.2.1, h.2.2.2.2⟩

theorem held_of {s : State} (h : ∀ k, k ∈ levelSources → levelOn s k = true → s.pendOf k = true ∨ inService s k = true) : LevelHeld s := h

theorem below_of {P : Nat → Prop} {b : Nat} (h : ∀ m, m < 4 → b ≤ m → P m) : ∀ m, b ≤ m → m ≤ 3 → P m := fun m x y => h m (by omega) x

theorem domains_of {s : State} {d : Option Nat} (h : openAt s d = true) : ∀ k, d = some k → domState s k = 0 := fun k e => (open_of h k e).1

theorem not_self (x : BitVec 256) : x ≠ ~~~x := by
  intro h
  have := congrArg (fun y => y.getLsbD 0) h
  simp at this


/-! ### States that the clauses are met in -/

def randRegs (seed : Nat) (as : List Nat) (s : State) : State :=
  (as.zip (List.range as.length)).foldl (fun s p => s.setReg p.1 (BitVec.ofNat 40 ((p.2 + seed) * 0x59E3779B97))) s

/-- Core c runs at a level, in its own close memory. -/
def runAt (c pl : Nat) (w : Nat) (s : State) : State :=
  let s := s.updCore c (fun k => { k with run := .running, pc := BitVec.ofNat 40 (2 * (0x40000 + c * 0x8000 + 0x123)), w := (List.range 31).map (fun p => (p + 1, BitVec.ofNat 40 ((p + w) * 0x59E3779B97))), acc := [(1, BitVec.ofNat 80 (w * 0x59E3779B97F4A7C)), (6, BitVec.ofNat 80 0xFEDCBA98765432100123)] })
  s.setFld (Reg.CS_STATUS c) 1 0 pl

namespace W4
def own (c : Nat) (s : State) : State := s.updCore c (fun k => { k with w := SMap.insert 5 (BitVec.ofNat 40 (0x40010 + c * 0x8000)) (SMap.insert 6 (BitVec.ofNat 40 ((0x40010 + c * 0x8000) * 8 + 3)) (SMap.insert 7 0x8006 k.w)) })
def st0 : State := own 0 (runAt 0 0 77 State.reset)
def st1 : State := own 0 (runAt 0 1 77 State.reset)
def st2 : State := own 0 (runAt 0 2 77 State.reset)
def st3 : State := { (own 0 (runAt 0 3 77 State.reset)) with close := [(16, ⟨0x123456789A, .good⟩), (17, ⟨5, .good⟩)] }
def st4 : State := (own 0 (runAt 0 2 78 State.reset)).setFld (Reg.CS_STATUS 0) 5 3 7
def st5 : State := (own 0 (runAt 0 1 77 State.reset)).setFld (Reg.CS_STATUS 0) 5 3 1
def st6 : State := (own 0 (runAt 0 2 77 State.reset)).updCore 0 (fun k => { k with resv := some 0x4001, latch := true })
def st7 : State := (own 7 (runAt 7 3 77 State.reset)).setReg (Reg.CS_FLAGS 7) 5
def sts : List State := [st3, st0, st1, st2, st4, st5, st6, st7]
end W4

namespace W5
def blankTlb : TlbEnt := ⟨0, 0, false, false, false, 5, 12, 0, 0, 0, 0, false, false, false, false, false, 0, 0, 0, false⟩
def stB : State := randRegs 5 [Reg.CS_RET_COUNT 0, Reg.CS_TP 0, Reg.CS_K_EPC 0, Reg.CS_WATCH_ADDR 0, Reg.CS_PMC 0 15, Reg.EIU_SEV_GROUP 0] State.reset
def st0 : State := let s := runAt 0 3 77 stB
  s.updCore 0 (fun k => { k with w := SMap.insert 1 0x40010 k.w, l1i := [(0x4001,[]),(5,[])] })
def st1 : State := (runAt 0 1 78 stB).updCore 0 (fun k => {k with latch := true})
def st2 : State := (runAt 0 2 78 stB).updCore 0 (fun k => {k with latch := true, pc := 0x9000000001, storeErrs := [⟨4, 0x77, .poison⟩, ⟨3, 0x78, .decode⟩], cloak := [⟨0x5A3C96E1B7D248F05 % 2^30, none, 0,0,.ok, false,false,[5,77]⟩, ⟨3, none,0,0,.ok,false,false,[5]⟩], ttlb := [⟨5, [3], false, blankTlb⟩, ⟨6, [3], false, blankTlb⟩]})
def st3 : State := (runAt 0 0 78 stB).updCore 0 (fun k => {k with run := .waiting, latch := true})
def st4 : State := (runAt 0 0 78 stB).updCore 0 (fun k => {k with async := {k.async with busErr := some ⟨5, 5, .decode⟩}, storeErrs := [⟨4, 0x77, .poison⟩]})
def sts : List State := [st0, st1, st2, st3, st4]
end W5

namespace W6
def stB : State := randRegs 5 [Reg.CS_RET_COUNT 0, Reg.CS_TP 0, Reg.CS_K_EPC 0, Reg.CS_WATCH_ADDR 0, Reg.CS_PMC 0 15, Reg.EIU_SEV_GROUP 0, Reg.PAIR_GROUPS 0] State.reset
def paced (r : Nat) (d : Option (Nat × Instr)) : State := let s := (runAt 0 2 77 stB).setBit (Reg.CS_PACE_CTL 0) 1 true
  let s := s.setBit Reg.TB_STATUS 0 true
  let s := { s with tb := { s.tb with now := 100 } }
  s.updCore 0 (fun k => { k with due := d, grid := r - 6 })
def st0 : State := paced 110 none
def st1 : State := paced 110 (some (110, .nop 0))
def st2 : State := (runAt 0 2 78 stB).updCore 0 (fun k => {k with pacing := true})
def st3 : State := stB
def st4 : State := (runAt 0 2 78 stB)
def st5 : State := stB.setBit (Reg.PAIR_CTL 0) 0 true
def dent : DelayEnt := ⟨1, 0x1234, 0x80246, [], none, false, snapCore (runAt 0 2 78 stB) 0⟩
def st6 : State := ((st5.setPair 0 {Pair.reset with started := true}).setBit (Reg.PAIR_STAT 0) 0 true)
def st7 : State := ((st5.setPair 0 {Pair.reset with started := true, entries := [dent], leadGroups := 4097, blocked := true}).setBit (Reg.PAIR_STAT 0) 0 true)
def st8 : State := ((st5.setPair 0 {Pair.reset with started := true, entries := [dent, dent], leadGroups := 9, blocked := true, injMismatch := true}).setBit (Reg.PAIR_STAT 0) 0 true)
def sts : List State := [st0, st1, st2, st3, st4, st5, st6, st7, st8]
def allDelayEnt : List (DelayEnt) := [dent]
def allList_DelayEnt : List (List DelayEnt) := [[],[dent]]
end W6

namespace W7
def stB : State := randRegs 5 [Reg.CS_RET_COUNT 0, Reg.CS_TP 0, Reg.CS_K_EPC 0, Reg.TB_STEP_HI, Reg.TB_PULSE_CNT, Reg.TB_RGEN_COUNT 0, Reg.EIU_SRC_CNT 192, Reg.EIU_SRC_CNT 0, Reg.SYS_RSVD_CNT] State.reset
def tick (n : Nat) (s : State) : State := let s := s.setBit Reg.TB_STATUS 0 true
  { s with tb := { s.tb with now := BitVec.ofNat 80 n, acc := 7777, everLocked := true } }
def st1 : State := tick 1000 stB
def st2 : State := (((tick 1000 stB).setFld Reg.TB_SLEW 25 24 1).setFld Reg.TB_SLEW 23 0 5000)
def st2b : State := let s := (((tick 1000 stB).setFld Reg.TB_SLEW 25 24 2).setFld Reg.TB_SLEW 23 0 5000); {s with tb := {s.tb with slewCnt := 77}}
def st3 : State := ((setTmrCmp 0 2000 ((tick 1000 stB).setReg (Reg.CS_TMR_CTL 0) 1)).setReg (Reg.CS_TMR_CTL 1) 0x503)
def st3b : State := ((setTmrCmp 1 2000 (setTmrCmp 0 200 ((tick 1000 stB).setReg (Reg.CS_TMR_CTL 0) 1))).setReg (Reg.CS_TMR_CTL 1) 0x503)
def st4 : State := let s := (((tick 1000 stB).setBit (Reg.TB_RGEN_CTL 0) 0 true).setReg (Reg.TB_RGEN_NUM 0) 600); s.setRgen 0 ⟨true, 100, 3, 983041, 48, false⟩
def st5 : State := let s := (((tick 1000 stB).setBit (Reg.TB_RGEN_CTL 0) 0 true).setReg (Reg.TB_RGEN_NUM 0) 600); let s := s.setReg (Reg.TB_RGEN_DEN 0) 10; s.setRgen 0 ⟨true, 1100, 0, 983041, 48, true⟩
def st6 : State := assertSource 192 (assertSource 0 (stB.setBit Reg.TB_STATUS 1 true))
def st7 : State := { stB with pwr := { stB.pwr with halted := true, recov := 1000001 }, pending := [.nop 0], boot := { stB.boot with hostReset := some 3 }, tb := { stB.tb with pulses := 14 } }
def st8 : State := { st1 with tb := { st1.tb with acc := 5000000000 } }
def sts : List State := [State.reset, stB, st1, st2, st2b, st3, st3b, st4, st5, st6, st7, st8]
end W7

namespace W8
def lst : Nat := 0x10035
def r1 : State := randRegs 5 [Reg.CS_RET_COUNT 0, Reg.HS_EPOCH 0] (([20,21,22,1,0,18].foldl (fun s k => [8,10,12,14].foldl (fun s h => (s.setReg (routeKey k h) 0x8000).setReg (routeKey h k) 0x8000) s) State.reset).setReg (Reg.HS_SPLIT 0) 8 |>.setReg (Reg.SYS_MAP_STAGE) 8)
def r2 : State := { r1 with stage := memWriteN (stageIndex r1 (lst*16)) ((List.range 16).map (fun i => ⟨BitVec.ofNat 40 (i*7+3), .good⟩)) r1.stage }
def r3 : State := (r2.setFld (Reg.HS_EPOCH 0) 7 0 255).updCore 1 (fun k => { k with cloak := [⟨lst, some [⟨1,.good⟩], 3, 1, .ok, false, false, [5]⟩, ⟨9, none, 3, 0, .ok, false, false, [6]⟩] })
def r3b : State := (r2.setFld (Reg.HS_EPOCH 0) 7 0 77)
def ln16 (k : Nat) : Line := (List.range 16).map (fun i => ⟨BitVec.ofNat 40 (i*k+3), .good⟩)
def cl (st : CSt) : CLine := ⟨st, ln16 9⟩
def de (st : DirSt) : DirEnt := ⟨dirTag lst, st, false, [1,15,15,15], 44⟩
def dkey : Nat := dirSet lst * 8
def own (cs : CSt) (ds : DirSt) : State := let s := r2.setAgent 1 { r2.agent 1 with lines := [(lst, cl cs)], use := [lst] }
  s.setSlice 0 { s.slice 0 with dir := [(dkey, de ds)], dirUse := [dkey] }
def mk (cls code : Nat) (d : Line) : CMsg := { blankMsg cls code 1 0 lst with data := d, tag := 5, gen := 2, epoch := 9, dirty := true }
def snps : List CMsg := (List.range 6).map (fun k => mk 2 k [])
def rsps : List CMsg := (List.range 14).map (fun k => mk 1 k (if k ≤ 4 || k = 12 then ln16 11 else []))
def busyTag (x : Nat) (s : State) : State := setTag x 5 ⟨.busy, 2, 8, lst * 16, 0, 100, true, false⟩ s
def inS (m : CMsg) (s : State) : State := { s with net := [blankMsg 1 8 3 0 9, m] }
def snS : List State := snps.flatMap (fun m => [CSt.m, .e, .o, .s].map (fun c => inS m (own c .x)))
def rq : CMsg := { blankMsg 0 rdS 1 0 lst with rc := 2 }
def rsS : List State := rsps.flatMap (fun m => [inS m (busyTag 1 r3), inS m (busyTag 1 (own .s .s)), inS m (busyTag 1 (r2.setAgent 1 { r2.agent 1 with out := [{rq with rc := if m.code = 7 then 2 else 0}], wbq := [⟨lst, .m, ln16 3, false, false⟩] }))])
def trk0 (ph : Phase) : Trk := ⟨rq, some .x, [1, 3], none, false, false, ph, .o, none⟩
def hcS : List State := ([11,12].map (fun c => inS (mk 1 c (if c = 12 then ln16 5 else [])) (busyTag 8 (let s := own .s .b; s.setSlice 0 { s.slice 0 with trk := [(4, trk0 .snoop)] })))) ++
  [inS (mk 1 13 []) (let s := own .s .b; s.setSlice 0 { s.slice 0 with trk := [(4, trk0 .awaitDone)] }), r3, r3.updCore 1 (fun k => { k with cloak := k.cloak.map (fun e => (if e.line = lst then { e with pulses := 3 } else e))}), { r2 with split := some (0, 8) }, { r2 with split := some (0, 8) } |>.setReg (Reg.HS_SPLIT 0) 1, own .m .x, r2.setBit Reg.BSQ_STATUS 10 true]
def cohS : List State := [r2, r3, r3b]
def ownS : List State := [CSt.m, .e, .o, .s].flatMap (fun c => [DirSt.s, .x, .o].map (fun d => own c d))
def allCloakcoh : List (Cloak) := [⟨lst, some [⟨1,.good⟩], 3, 1, .ok, false, false, [5]⟩, ⟨lst, some [⟨1,.good⟩], 3, 1, .ok, true, false, [5]⟩]
def allList_Cloakcoh : List (List Cloak) := [[], [⟨9, none, 3, 0, .ok, false, false, [6]⟩]]
def allCMsghc : List (CMsg) :=  [mk 1 11 [], mk 1 12 (ln16 5), mk 1 13 []]
def allDirEnthc : List (DirEnt) := [de .s, de .x, de .o, de .b]
def allTrkhc : List (Trk) := [trk0 .snoop, trk0 .awaitDone]
def allCloakhc : List (Cloak) := [⟨lst, some [⟨1,.good⟩], 3, 1, .ok, false, false, [5]⟩, ⟨lst, some [⟨1,.good⟩], 3, 1, .ok, true, false, [5]⟩]
def allList_Cloakhc : List (List Cloak) := [[], [⟨9, none, 3, 0, .ok, false, false, [6]⟩]]
def allCLineown : List (CLine) := [cl .m, cl .e, cl .o, cl .s]
def allDirEntown : List (DirEnt) := [de .s, de .x, de .o, de .b]
def allCMsgrs : List (CMsg) := [rq] ++ snps ++ rsps ++ [mk 1 11 [], mk 1 12 (ln16 5), mk 1 13 []]
def allCLiners : List (CLine) := [cl .m, cl .e, cl .o, cl .s]
def allCloakrs : List (Cloak) := [⟨lst, some [⟨1,.good⟩], 3, 1, .ok, false, false, [5]⟩, ⟨lst, some [⟨1,.good⟩], 3, 1, .ok, true, false, [5]⟩]
def allList_Cloakrs : List (List Cloak) := [[], [⟨9, none, 3, 0, .ok, false, false, [6]⟩]]
def allLiners : List (Line) := [[⟨1,.good⟩]]
def allCMsgsn : List (CMsg) := [rq] ++ snps ++ rsps ++ [mk 1 11 [], mk 1 12 (ln16 5), mk 1 13 []]
def allCLinesn : List (CLine) := [cl .m, cl .e, cl .o, cl .s]
end W8

namespace W9
def b0 : State := randRegs 5 [Reg.FAB_NI_TIMEOUTS 30, Reg.FAB_WAKE_FAIL_CNT, Reg.PWR_STAGE_CNT 0, Reg.CS_TP 0] State.reset
def b1 : State := { b0 with close := memWriteN 0x4000 [⟨5,.good⟩, ⟨7,.good⟩, ⟨9, .poison⟩] [] }
def mp (code : Nat) : Pkt := { cls := 1, io := true, code := code, src := 1, dst := 30, tag := 7, gen := 3, status := .poison, addr := 5, len := 1, pl := 3, part := 0, atop := .cas, mask := 0, masked := false, data := [⟨77,.poison⟩], ext := PktExt.zero }
def tg (st : TagSt) : Tag := ⟨st, 3, 1, 0x48000, 0, 10, false, false⟩
def fl (code : Nat) : State := { setTag 30 7 (tg .busy) b0 with fab := { (setTag 30 7 (tg .busy) b0).fab with inflight := [mp code] } }
def ex (st : TagSt) : State := { setTag 30 7 (tg st) b0 with tb := { b0.tb with pulses := 100 } }
def dm (d st : Nat) (s : State) : State := s.setFld (Reg.PWR_DOM d) 8 7 st
def wk (d : Nat) (s : State) : State := { s with fab := { s.fab with waking := [(d, ⟨3, true⟩)] }, tb := { s.tb with pulses := 60 } }
def ps (st lst : Nat) : State := { (b0.setFld Reg.PWR_STATUS 2 0 st) with pwr := { b0.pwr with last := some lst } }
def tr (w size : Nat) (wrap : Bool) : State :=
  let s := (((b0.setReg (Reg.HS_SPLIT 0) 8).setReg Reg.SYS_MAP_STAGE 8).setFld Reg.PRB_TRACE_BASE 33 4 0x10000).setFld Reg.PRB_TRACE_SIZE 15 0 size
  let s := (s.setFld Reg.PRB_TRACE_WPTR 15 0 w).setBit Reg.PRB_CTL 1 wrap
  { s with fab := { s.fab with trace := (List.range 5).map (fun i => ⟨BitVec.ofNat 40 i, 2, 3, BitVec.ofNat 40 (4+i)⟩) } }
def rt (n d : Nat) (s : State) : State := s.setReg Reg.FAB_RT_SEL (BitVec.ofNat 40 (n * 32 + d))
def ioS : List State := [b0, b1, fl 0, fl 1, ex .busy, ex .orphan]
def pwS : List State := [b0, dm 1 1 b0, dm 1 2 b0, wk 1 (dm 1 2 b0), wk 17 (dm 17 2 b0), dm 17 1 b0, (wk 17 (dm 17 2 b0)).setBit (Reg.PWR_DOM 17) 11 true, b0.setBit (Reg.PWR_DOM 1) 11 true]
def suS : List State := [ps 0 790, ps 0 770, ps 0 761, ps 1 700]
def trS : List State := [tr 1 9 false, tr 8 9 true, tr 8 9 false, rt 1 2 b0, rt 9 2 b0, rt 1 9 b0, (rt 1 2 b0).setBit Reg.BSQ_STATUS 10 true, rt 18 10 b0]
def allPkt : List (Pkt) := [mp 0, mp 1]
def allList_TraceRec : List (List TraceRec) := [b0.fab.trace] ++ [(tr 1 9 false).fab.trace.take 4, (tr 1 9 false).fab.trace.drop 4]
end W9

namespace W10a
def w0b : State := ((State.reset.setReg (Reg.CUF_VCCFG 0) (BitVec.ofNat 40 (1 + 16 + 256 + 2048))).setReg Reg.CNS_EPOCH 7)
def pulsesAt (k : Nat) (s : State) : State := { s with tb := { s.tb with pulses := k } }
def mkRx (type vc seq field ackk ackseq : Nat) (ws : List Word) : CufRx :=
  let d := (List.range ((ws.length + 1) / 2)).map (fun j => BitVec.ofNat 80 ((ws.getD (2*j) 0).toNat + (ws.getD (2*j+1) 0).toNat * 2^40))
  let h := BitVec.ofNat 80 (type * 2^76 + vc * 2^72 + seq * 2^60 + ackk * 2^58 + ackseq * 2^46 + d.length * 2^42 + field)
  let x : CufRx := ⟨h, d, 0⟩
  ⟨h, d, BitVec.ofNat 80 (cufCrc x)⟩
def st1 (pll ts : Bool) (s : State) : State := ((s.setBit (Reg.CUF_CTL 0) 0 true).setFld (Reg.CUF_STATUS 0) 2 0 1).setCuf 0 { s.cufP 0 with pll := pll, gotTs2 := ts, cfg := [1,1,480,0,0,0,480,0,0,0] }
def adv : CufRx := mkRx 9 8 0 (1 * 2^27 + 1 * 2^24 + 2^23) 0 0 ((List.range 6).map (fun i => if i = 0 then 480*1024+480 else if i = 2 then 480*1024+480 else if i = 4 then 64*1024+64 else 0))
def outS (o : Out) : State := match o with | .next t => t | _ => State.reset
def up0 : State := outS (execCufAdv 0 adv (st1 true true w0b))
def up1 : State := pulsesAt 2000 ((up0.setBit (Reg.CUF_STATUS 0) 4 true).setReg (Reg.CNS_PEER 1) 2)
def lanes (s : State) : State := outS (execBlockLock 0 0 1 2 3 5 s)
def outE : CufOut := { pkt := some { cls := 0, io := true, code := 0, src := 10, dst := 20, tag := 3, gen := 1, status := .ok, addr := 0x100000000, len := 2, pl := 0, part := 0, atop := .cas, mask := 0, masked := false, data := [], ext := PktExt.zero }, relay := none, since := some 100, lead := none, parts := 1, status := .ok, other := .ok, data := [] }
def stT : List State := [State.reset, w0b, st1 false false w0b, st1 true false w0b, pulsesAt 1500 (st1 true false w0b), lanes (st1 true false w0b), st1 true true w0b, up0, up1,
  pulsesAt 5000 (up1.setCuf 0 { up1.cufP 0 with watch := [(0, 100)] }), pulsesAt 20000 (up1.setCuf 0 { up1.cufP 0 with outTags := [(5, outE)] }),
  pulsesAt 5000 (up1.setFld (Reg.CUF_STATUS 0) 2 0 3), pulsesAt 5000 (up1.setFld (Reg.CUF_STATUS 0) 2 0 4)]
def allCufRx : List (CufRx) := [adv]
def allCufOut : List (CufOut) := [outE]
end W10a

namespace W10b
def w0b : State := ((State.reset.setReg (Reg.CUF_VCCFG 0) (BitVec.ofNat 40 (1 + 16 + 256 + 2048))).setReg Reg.CNS_EPOCH 7)
def pulsesAt (k : Nat) (s : State) : State := { s with tb := { s.tb with pulses := k } }
def mkRx (type vc seq field ackk ackseq : Nat) (ws : List Word) : CufRx :=
  let d := (List.range ((ws.length + 1) / 2)).map (fun j => BitVec.ofNat 80 ((ws.getD (2*j) 0).toNat + (ws.getD (2*j+1) 0).toNat * 2^40))
  let h := BitVec.ofNat 80 (type * 2^76 + vc * 2^72 + seq * 2^60 + ackk * 2^58 + ackseq * 2^46 + d.length * 2^42 + field)
  let x : CufRx := ⟨h, d, 0⟩
  ⟨h, d, BitVec.ofNat 80 (cufCrc x)⟩
def st1 (pll ts : Bool) (s : State) : State := ((s.setBit (Reg.CUF_CTL 0) 0 true).setFld (Reg.CUF_STATUS 0) 2 0 1).setCuf 0 { s.cufP 0 with pll := pll, gotTs2 := ts, cfg := [1,1,480,0,0,0,480,0,0,0] }
def adv : CufRx := mkRx 9 8 0 (1 * 2^27 + 1 * 2^24 + 2^23) 0 0 ((List.range 6).map (fun i => if i = 0 then 480*1024+480 else if i = 2 then 480*1024+480 else if i = 4 then 64*1024+64 else 0))
def outS (o : Out) : State := match o with | .next t => t | _ => State.reset
def up0 : State := outS (execCufAdv 0 adv (st1 true true w0b))
def up1 : State := let s := pulsesAt 2000 ((up0.setBit (Reg.CUF_STATUS 0) 4 true).setReg (Reg.CNS_PEER 1) 2); s.setCuf 0 { s.cufP 0 with replay := [] }
def outE : CufOut := { pkt := some { cls := 0, io := true, code := 0, src := 10, dst := 20, tag := 3, gen := 1, status := .ok, addr := 0x100000000, len := 2, pl := 0, part := 0, atop := .cas, mask := 0, masked := false, data := [], ext := PktExt.zero }, relay := none, since := some 100, lead := none, parts := 1, status := .ok, other := .ok, data := [] }
def up2 : State := { (up1.setReg (Reg.CNS_EXPOSE 0) 0x40) with close := memWriteN 0x4000 [⟨5,.good⟩, ⟨7,.good⟩, ⟨9, .poison⟩] [] }
def rpl : State := up2.setCuf 0 { up2.cufP 0 with replay := [⟨7,8,4095,0,[1,2,3,4],1,0⟩], txNext := 0, ackSince := 100 }
def bootI : State := { (up2.setReg Reg.BSQ_STATUS (BitVec.ofNat 40 (2 * 128 + 2 * 32))) with boot := { up2.boot with cufSrc := true, imgFor := some (3, 0) } }
def sP : List State := [w0b, up0, up2, pulsesAt 20000 (up2.setCuf 0 { up2.cufP 0 with outTags := [(5, outE)] }), rpl, bootI, up2.setBit (Reg.CUF_STATUS 0) 3 true]
def rqf (a n : Nat) : Nat := a * 4096 + 9 * 16 + (n - 1)
def xs : List CufRx := [mkRx 2 0 0 (rqf 0x48000 3) 0 0 [], mkRx 2 0 0 (rqf 0x10048000 3) 0 0 [], mkRx 3 0 0 (rqf 0x48001 3) 0 0 [11,12,13], mkRx 4 0 0 (rqf 0x48001 2) 0 0 [0x3F5, 0, 0xABCDE, 0xFFFFFFFFFF],
  mkRx 5 4 0 (5 * 2^34 + 1 * 2^27 + 2^26 + 2 * 2^10) 0 0 [21,22], mkRx 6 0 0 (3*2^34 + 2^33 + 2*2^28) 0 0 [7 * 2^24, 31, 32], mkRx 8 8 0 (4 * 2^26) 0 0 [1,2,3,4,5],
  mkRx 12 8 0 0 0 0 [41, 42], mkRx 11 8 0 0 0 0 [0,0,0,0,5,0], mkRx 10 8 0 0 0 0 [], mkRx 1 8 0 0 0 0 [], mkRx 1 8 0 0 2 0 []]
def allCufRx : List (CufRx) := xs
def allCufOut : List (CufOut) := [outE]
def allCufPkt : List (CufPkt) := [⟨7,8,4095,0,[1,2,3,4],1,0⟩]
def allPkt : List (Pkt) := outE.pkt.toList
end W10b

namespace W10c
def w0b : State := ((State.reset.setReg (Reg.CUF_VCCFG 0) (BitVec.ofNat 40 (1 + 16 + 256 + 2048))).setReg Reg.CNS_EPOCH 7)
def pulsesAt (k : Nat) (s : State) : State := { s with tb := { s.tb with pulses := k } }
def mkRx (type vc seq field ackk ackseq : Nat) (ws : List Word) : CufRx :=
  let d := (List.range ((ws.length + 1) / 2)).map (fun j => BitVec.ofNat 80 ((ws.getD (2*j) 0).toNat + (ws.getD (2*j+1) 0).toNat * 2^40))
  let h := BitVec.ofNat 80 (type * 2^76 + vc * 2^72 + seq * 2^60 + ackk * 2^58 + ackseq * 2^46 + d.length * 2^42 + field)
  let x : CufRx := ⟨h, d, 0⟩
  ⟨h, d, BitVec.ofNat 80 (cufCrc x)⟩
def st1 (pll ts : Bool) (s : State) : State := ((s.setBit (Reg.CUF_CTL 0) 0 true).setFld (Reg.CUF_STATUS 0) 2 0 1).setCuf 0 { s.cufP 0 with pll := pll, gotTs2 := ts, cfg := [1,1,480,0,0,0,480,0,0,0] }
def adv : CufRx := mkRx 9 8 0 (1 * 2^27 + 1 * 2^24 + 2^23) 0 0 ((List.range 6).map (fun i => if i = 0 then 480*1024+480 else if i = 2 then 480*1024+480 else if i = 4 then 64*1024+64 else 0))
def outS (o : Out) : State := match o with | .next t => t | _ => State.reset
def up0 : State := outS (execCufAdv 0 adv (st1 true true w0b))
def up1 : State := let s := pulsesAt 2000 ((up0.setBit (Reg.CUF_STATUS 0) 4 true).setReg (Reg.CNS_PEER 1) 2); s.setCuf 0 { s.cufP 0 with replay := [] }
def hw (kind sender subj ep : Nat) (ldr noimg inC ok : Nat) : Word := BitVec.ofNat 40 (kind * 2^36 + sender * 2^34 + subj * 2^32 + ep * 2^16 + (if kind = 0 then 0x2100 else 0) + ldr * 128 + noimg * 64 + inC * 32 + ok * 16)
def fol : State := { ((up1.setReg Reg.CNS_ID 1).setReg (Reg.CNS_PEER 1) 0).setReg (Reg.CNS_PEER 0) 2 with }
def sealedS (s : State) : State := s.setBit Reg.BSQ_STATUS 10 true
def sv (s : State) : State := let s := ((s.setBit Reg.CNS_CTL 1 true).setReg (Reg.CUF_TIME_TX_LO 0) 77).setReg (Reg.CUF_TIME_RX_LO 0) 500; (s.setReg (Reg.CUF_TIME_PEER_LO 0) 480).setReg Reg.CNS_SERVO_CTL 0
def ldr : State := ((((up1.setReg Reg.CNS_ID 4).setReg (Reg.CNS_PEER 1) 2)).setReg Reg.BSQ_IMAGE_LEN 40)
def bt (img : Bool) : State := { (fol.setReg Reg.BSQ_STATUS (BitVec.ofNat 40 (2 * 128 + 2 * 32))) with boot := { fol.boot with cufSrc := true } }
def sM : List State := [up1, ldr.setReg Reg.BSQ_STATUS (BitVec.ofNat 40 (2^10)), fol, sealedS fol, (sealedS fol).setBit Reg.CNS_STATUS 6 true, sealedS ((fol.setBit (Reg.CUF_STATUS 0) 4 false).setReg Reg.CNS_FINGERPRINT 5), sv fol, ldr, sealedS ldr, (sealedS ldr).setReg Reg.BSQ_STATUS (BitVec.ofNat 40 (2^10 + 2^5)), bt false,
  (sv fol).setBit Reg.CNS_STATUS 5 true, pulsesAt 30000 { (sv fol) with cns := { (sv fol).cns with everLocked := true } }, sealedS (ldr.setBit Reg.CNS_STATUS 6 true)]
def mw : List (List Word) := [[hw 0 0 0 9 1 0 1 1, 3, 0, 3], [hw 0 0 0 9 1 0 0 1, 3, 0, 3], [hw 0 0 0 9 1 0 0 1, 3, 5, 3], [hw 1 0 0 7 0 0 0 0, 11, 77, 0], [hw 2 0 0 12 0 0 0 0, 0, 0, 3], [hw 3 1 0 7 0 0 0 0, 0, 0, 1],
  [hw 4 1 0 7 0 0 0 0, 0, 0, 0], [hw 5 0 1 7 0 0 0 0, 3, 0, 0], [hw 0 1 0 9 0 0 1 1, 3, 0, 3]]
def xs : List CufRx := mw.map (fun ws => mkRx 7 8 1 0 0 0 ws) ++ mw.map (fun ws => mkRx 7 8 0 0 0 0 ws)
def allCufRx : List (CufRx) := xs
end W10c

namespace W11
def cfgW (kind dir nlog bind : Nat) : Word := BitVec.ofNat 40 (kind * 2^32 + dir * 2^31 + nlog * 2^27 + bind * 2^16)
def g0 : State := (((((State.reset.setReg Reg.SYS_MAP_STAGE 8).setReg (Reg.HS_SPLIT 0) 8).setReg (Reg.SEF_ID 2) 0x102).setReg (Reg.SEF_WIN_A 2 0) (BitVec.ofNat 40 (7 * 2^37))).setReg (Reg.SEF_WIN_B 2 0) (BitVec.ofNat 40 (0x40 * 2^22 + 0x100))).setFld (Reg.SEF_CFG 2) 5 0 48
def g1 : State := { g0 with seg := { g0.seg with owner := [(3,2),(5,2)] } }
def g2 : State := g1.setBit (Reg.SEF_CTL 2) 0 true
def rng (k st hd tl : Nat) (s : State) : State := ((((s.setReg (Reg.SEF_RING_CFG 3) (cfgW k 0 4 0 ||| BitVec.ofNat 40 (2^39))).setReg (Reg.SEF_RING_BASE 3) 0x100).setFld (Reg.SEF_RING_STATUS 3) 15 13 st).setReg (Reg.SEF_RING_HEAD 3) (BitVec.ofNat 40 hd)).setReg (Reg.SEF_RING_TAIL 3) (BitVec.ofNat 40 tl)
def g3 : State := let s := rng 7 1 5 9 g2; s.setRing 3 { s.ring 3 with bound := true }
def gS : List State := [g1.setBit (Reg.SEF_STATUS 2) 0 false, State.reset, g0, g1, g1.setReg Reg.SEG_CMD_ARG0 0x28, g0.setReg Reg.SEG_CMD_ARG0 0x28, { (g1.setReg (Reg.SEF_ID 2) 2) with seg := {State.reset.seg with owner := [] } }, ({ State.reset with seg := { State.reset.seg with owner := [(6, 4)] } }).setReg Reg.SEG_CMD_ARG0 0x28, g2, g3, rng 7 2 5 9 g2, rng 7 3 5 9 g2, rng 9 1 4 8 g2, rng 7 0 0 0 g2,
  rng 7 2 0 0 g1, (rng 7 0 0 0 g1).setBit (Reg.SEF_RING_CFG 3) 39 false, ((rng 7 0 0 0 g1).setBit (Reg.SEF_RING_CFG 3) 39 false).setReg (Reg.SEF_RING_BASE 3) (BitVec.ofNat 40 (2^33)), g1.setBit (Reg.SEF_STATUS 2) 0 true]
end W11

namespace W12
def cfgW (kind dir nlog bind : Nat) : Word := BitVec.ofNat 40 (kind * 2^32 + dir * 2^31 + nlog * 2^27 + bind * 2^16)
def g0 : State := (((((State.reset.setReg Reg.SYS_MAP_STAGE 8).setReg (Reg.HS_SPLIT 0) 8).setReg (Reg.SEF_ID 2) 0x102).setReg (Reg.SEF_WIN_A 2 0) (BitVec.ofNat 40 (7 * 2^37))).setReg (Reg.SEF_WIN_B 2 0) (BitVec.ofNat 40 (0x40 * 2^22 + 0x100))).setFld (Reg.SEF_CFG 2) 5 0 48
def g1 : State := { g0 with seg := { g0.seg with owner := [(3,2),(5,2)] } }
def g2 : State := g1.setBit (Reg.SEF_CTL 2) 0 true
def rng (k st hd tl : Nat) (s : State) : State := ((((s.setReg (Reg.SEF_RING_CFG 3) (cfgW k 0 4 0 ||| BitVec.ofNat 40 (2^39))).setReg (Reg.SEF_RING_BASE 3) 0x100).setFld (Reg.SEF_RING_STATUS 3) 15 13 st).setReg (Reg.SEF_RING_HEAD 3) (BitVec.ofNat 40 hd)).setReg (Reg.SEF_RING_TAIL 3) (BitVec.ofNat 40 tl)
def dsc (idx len : Nat) (flag : Nat) (s : State) : State := { s with stage := memWriteN (0x100 + 4 * (idx % 16)) [⟨BitVec.ofNat 40 (flag * 2^39 + 0x800), .good⟩, ⟨BitVec.ofNat 40 len, .good⟩, ⟨0,.good⟩, ⟨0,.good⟩] s.stage }
def frz (s : State) : State := s.setBit Reg.SEG_CTL 0 true
def mIn (k st : Nat) (s : State) : State := let s := ((((s.setReg (Reg.SEF_RING_CFG 3) (cfgW k 1 4 0 ||| BitVec.ofNat 40 (2^39))).setReg (Reg.SEF_RING_BASE 3) 0x100).setFld (Reg.SEF_RING_STATUS 3) 15 13 st).setReg (Reg.SEF_RING_HEAD 3) 5).setReg (Reg.SEF_RING_TAIL 3) 9; dsc 5 2 1 s
def outS (o : Out) : State := match o with | .next t => t | _ => State.reset
def fd (len : Nat) : FDesc := ⟨5, BitVec.ofNat 40 (2^39 + 0x800), BitVec.ofNat 40 len, 0x100800, 0⟩
def rx0 : State := mIn 7 1 g2
def rx1 (len : Nat) : State := { (rx0.setRing 3 { rx0.ring 3 with fetched := [fd len] }) with ports := { rx0.ports with midIn := [(0, { (rx0.midIn 0) with q := [(0x77, 900)] })] } }
def rx2 : State := outS (execRxUnitData 3 (rx1 1))
def rx3 : State := outS (execUnitCommit 3 rx2)
def tx1 : State := outS (execDescriptorFetch 3 (frz (dsc 5 3 1 (rng 7 1 5 9 g2))))
def tx2 : State := let s := tx1; s.setRing 3 { s.ring 3 with unit := some { freshUnit with n := 1, complete := true, moved := 3, taken := 3, ts := some 8 } }
def hld : State := { (rx0.setRing 3 { rx0.ring 3 with hold := some 10 }) with tb := { rx0.tb with pulses := 5000 } }
def hld2 : State := { (rx0.setRing 3 { rx0.ring 3 with hold := some 10 }).setReg (Reg.SEF_RING_CFG2 3) 500 with tb := { rx0.tb with pulses := 200 } }
def fg : State := let s := { (mIn 10 1 g2) with tb := { rx0.tb with pulses := 5000 } }; s.setRing 3 { s.ring 3 with fetched := [fd 4], unit := some { freshUnit with n := 1, lens := [2], ts := some 3, moved := 2, since := some 12 } }
def jb : StatJob := ((rx3.ring 3).jobs.headD ⟨0,0,[],0,0,false,false⟩)
def withJob (j : StatJob) : State := rx3.setRing 3 { rx3.ring 3 with jobs := [j] }
def S6 : List State := [State.reset, rx0, rx1 1, rx1 2, rx2, rx3, frz (dsc 5 3 1 (rng 7 1 5 9 g2)), tx1, tx2, hld, hld2, fg, withJob { jb with gen := 9 }, withJob { jb with func := 16 }]
def allStatJob : List (StatJob) := [jb, { jb with gen := 9 }, { jb with func := 16 }]
def allFDesc : List (FDesc) := [fd 1, fd 2]
def allRUnit : List (RUnit) := S6.filterMap (fun s => (s.ring 3).unit)
end W12

namespace W13
def k0 : State := (((State.reset.setReg (Reg.DMC_GEOM 0) 3).setReg (Reg.DMC_CTL 0) 3).setReg (Reg.DMC_STATUS 0) 2).setReg Reg.SYS_MAP_DRAM 2
def ent (m : Nat) : WqEnt := ⟨0x1000, (List.range 16).map (fun i => ⟨BitVec.ofNat 40 (i+1), if i = 3 then .poison else .good⟩), m, false⟩
def full : Nat := 2^80 - 1
def upd (f : Dmc → Dmc) (s : State) : State := s.setDmc 0 (f (s.dmc 0))
def S7 : List State := [State.reset, k0, k0.setReg (Reg.DMC_FILL 0 0) (BitVec.ofNat 40 (2^39 + 5 * 2^22 + 7)), k0.setReg (Reg.DMC_FILL 0 0) (BitVec.ofNat 40 (2^39 + 5 * 2^22 + 4095)),
  (upd (fun d => { d with waits := [ent full] }) k0).setReg (Reg.DMC_CTL 0) 1, upd (fun d => { d with wq := [ent full, ent 3] }) k0, k0.setReg (Reg.DMC_SCRUB_CTL 0) 1,
  upd (fun d => { d with postponed := [(0,4),(1,8)], openRow := [(3,4),(17,5)] }) k0, (k0.setReg (Reg.DMC_CTL 0) 2), State.reset.setReg (Reg.DMC_GEOM 0) 1, upd (fun d => { d with busy := some false }) (k0.setReg (Reg.DMC_STATUS 0) 1),
  upd (fun d => { d with busy := some true, selfRef := true }) (k0.setReg (Reg.DMC_STATUS 0) 1), upd (fun d => { d with busy := some true, selfRef := true, waits := [ent full] }) (k0.setReg (Reg.DMC_STATUS 0) 1)]
def allList_WqEnt : List (List WqEnt) := [[], [ent 3]]
def allWqEnt : List (WqEnt) := [ent full, ent 3]
end W13

namespace W14
def updA (f : AudPort → AudPort) (s : State) : State := s.setAud 0 (f (s.aud 0))
def a0 : State := (((State.reset.setReg (Reg.AUD_FMT 0) 0x50).setReg (Reg.AUD_SLOT_OUT 0) 3).setReg (Reg.AUD_SLOT_IN 0) 2)
def aRing (s : State) : State := (s.setReg (Reg.SEF_RING_CFG 3) (BitVec.ofNat 40 (2^39 + 2^32))).setRing 3 { s.ring 3 with bound := true }
def aGood (s : State) : State := (((s.setReg Reg.TB_TICK_FS 1000000).setReg (Reg.TB_RGEN_NUM 0) 20833).setReg (Reg.TB_RGEN_DEN 0) 1).setReg (Reg.TB_RGEN_CTL 0) 1
def aSlave : State := updA (fun p => { p with on := true }) (a0.setReg (Reg.AUD_CTL 0) (BitVec.ofNat 40 (1 + 8 + 16)))
def at1 (x : Nat) (s : State) : State := { s with tb := { s.tb with now := x } }
def S8 : List State := [State.reset, aRing a0, aGood (aRing (a0.setReg (Reg.AUD_CTL 0) 4)), aRing (aSlave), at1 99 (updA (fun p => { p with outQ := [(1,5),(2,6),(0xFFFFFFFFFF,7)] }) aSlave), updA (fun p => { p with outQ := [(1,0)], started := true }) (aSlave.setBit (Reg.AUD_STATUS 0) 6 true),
  updA (fun p => { p with started := true, last := 77 }) (aSlave.setBit (Reg.AUD_CTL 0) 4 false), updA (fun p => { p with started := true, last := 77 }) aSlave, updA (fun p => { p with started := true, inQ := List.replicate 64 (3,4) }) aSlave,
  at1 3000000 (aGood (updA (fun p => { p with outQ := [(7,0)], started := true, last := 77 }) (aSlave.setBit Reg.TB_STATUS 0 true))),
  { State.reset with ports := { State.reset.ports with midIn := [(0, { MidIn.reset with q := List.replicate 16 (5,5) })], midOut := [(0, { MidOut.reset with q := [0x7F, 0x33] })] } }, at1 12345 { State.reset with ports := { State.reset.ports with midIn := [(0, { MidIn.reset with ovr := true })] } },
  at1 3000000 (aGood (updA (fun p => { p with outQ := [(7,0), (8,0), (9,2999999)] }) (aSlave.setBit Reg.TB_STATUS 0 true))),
  at1 3000000 (aGood (updA (fun p => { p with outQ := [(7,0), (8,2999999)] }) ((aSlave.setBit Reg.TB_STATUS 0 true).setBit (Reg.AUD_STATUS 0) 6 true))),
  (aGood (updA (fun p => { p with started := true, last := 77 }) ((aSlave.setBit Reg.TB_STATUS 0 true).setBit (Reg.AUD_STATUS 0) 6 true)))]
end W14

namespace W15
def i0 (cmds : List Nat) (rx : List Nat) : State := (State.reset.setReg (Reg.I2C_CTL 0) 1).setI2c 0 { I2c.reset with cmds := cmds, rx := rx }
def e0 (e : Emc) : State := (State.reset.setReg Reg.EMC_CTL 1).setEmc e
def tx : List Word := (List.range 103).map (fun i => BitVec.ofNat 40 (i * 7 + 2^39 + 2^20))
def cw (idx resp d : Nat) : Word := BitVec.ofNat 40 (idx * 1024 + resp * 256 + d * 128)
def q0 (v : Nat) : State := { State.reset with ports := { State.reset.ports with qspi := some (BitVec.ofNat 40 v) } }
def gp (k : Nat) : State := ((State.reset.setReg Reg.GPIO_IRQ_RISE_LO 3).setReg Reg.GPIO_IN_LO (BitVec.ofNat 40 k)).setReg Reg.GPIO_OUT_LO 0x5A
def S9 : List State := [State.reset, i0 [] [], i0 [0x05, 0x155, 0x400, 0x1] [], i0 [0x155] [], i0 [0x200] [1,2], i0 [0x200] (List.replicate 16 3), i0 [0x300] [], i0 [0x400, 0x300] [], q0 7, q0 (2^21 + 7), e0 Emc.reset, e0 { Emc.reset with cmd := some (cw 3 1 0) }, e0 { Emc.reset with cmd := some (cw 3 2 0) },
  e0 { Emc.reset with xfer := some false, left := some 1 }, e0 { Emc.reset with buf := [0, 1, 2] }, e0 { Emc.reset with buf := tx.take 102 }, gp 0, gp 2, gp 8]
def allList_Word : List (List Word) := [[], [1,2], tx]
def allList__BitVec_8_ : List (List (BitVec 8)) := [[], [1,255,3,4,5,6,7,8,9]]
end W15

namespace W16
def hdrW (op n : Nat) : Word := BitVec.ofNat 40 (op * 2^32 + 5 * 2^24 + n)
def rq (op : Nat) (args : List Word) : List Word := hdrW op args.length :: args
def toOs (ws : List Word) : List (BitVec 8) := (ws.map wordOctets).flatten.map (fun o => BitVec.ofNat 8 o)
def withC (ws : List Word) : List (BitVec 8) := toOs (ws ++ [BitVec.ofNat 40 (crc32c ((ws.map wordOctets).flatten))])
def ask (r : List Word) (s : State) : State := { s with boot := { s.boot with reqs := [r] }, ports := { s.ports with hpt := { s.ports.hpt with req := r, rsp := [7] } } }
def onS (s : State) : State := s.setReg Reg.HPT_CTL 1
def bst (st src : Nat) (s : State) : State := s.setReg Reg.BSQ_STATUS (BitVec.ofNat 40 (st * 128 + src * 32))
def dbgS (s : State) : State := s.setReg Reg.BSQ_DEBUG 1
def pres (s : State) : State := s.setReg Reg.BSQ_PRESENCE 0x10000
def mem1 (s : State) : State := { s with close := memWriteN 0x4000 [⟨5,.good⟩, ⟨7,.good⟩, ⟨9, .poison⟩] [], keep := memWriteN 0xFFE [⟨5,.good⟩, ⟨7,.good⟩, ⟨9, .one⟩, ⟨3,.good⟩] [] }
def R1 : List (List Word) := [rq 1 [], rq 3 [0, 0x52414B5544], rq 3 [1, 5, 6], rq 3 [2,5,6], rq 0x10 [0x48000], rq 0x10 [0x48002], rq 0x11 [0x48001, 99], rq 0x20 [], rq 0x21 [], rq 0x22 [], rq 0x23 [], rq 0x24 [0x10000, 5], rq 0x24 [0x10FFE, 5, 6]]
def base16 : List State := [State.reset, onS State.reset, mem1 (onS (dbgS State.reset)), mem1 (pres (onS State.reset)), bst 2 1 State.reset, { (bst 2 1 State.reset) with boot := { State.reset.boot with img := [9] } }, { ((bst 3 1 State.reset).setReg Reg.BSQ_IMAGE_LEN 2) with boot := { State.reset.boot with again := [9] } }, bst 4 0 State.reset, bst 4 0 (onS State.reset), (bst 4 0 State.reset).setReg Reg.HPT_CTL 0, (dbgS State.reset).setReg Reg.HPT_CTL 0]
def S16 : List State := R1.flatMap (fun r => base16.map (ask r))
def states : List State := base16 ++ S16
def allList__BitVec_8_ : List (List (BitVec 8)) := [[], [1], withC (rq 1 []), withC (rq 3 [1,2,3]), toOs [1,2,3]]
def allList_Word : List (List Word) := R1
end W16

namespace W17
def lay (x : Nat) : List Word := BitVec.ofNat 40 (2 ^ 32 + x * 256) :: 0x2f0a5cd2 :: List.replicate 256 0 ++ 1 :: List.replicate 253 0
def good (l : List Word) : Line := l.map (fun v => ⟨v, .good⟩)
def kp (o : Nat) (l : List Word) (s : State) : State := { s with keep := memWriteN o (good l) s.keep }
def presK (s : State) : State := s.setReg Reg.BSQ_PRESENCE 0x10000
def runF (n y val : Nat) : State :=
  let s := ((State.reset.setReg Reg.FGT_AIN_EN 0x2).setBit Reg.TB_STATUS 0 true).setReg Reg.TB_TICK_FS 1000000
  let s := { s with fgt := { s.fgt with running := true, cal := builtinLayer } }
  let ps := anaPeriod s
  let s := s.setFld (Reg.FGT_AIN_VAL 1) 13 0 val
  { s with tb := { s.tb with now := 7 * ps + ps/24 }, fgt := { s.fgt with ain := [(1, ⟨n, y, 6 * ps + ps / 24⟩)] } }
def S17 : List State := [State.reset, State.reset.setReg Reg.FGT_CTL 1, { (State.reset.setReg Reg.FGT_CTL 1) with fgt := { Fgt.reset with running := true, loading := true, ovf := some ⟨4, 5, 0, true⟩ } },
  { (kp 0x1200 (lay 3) State.reset) with fgt := { Fgt.reset with loading := true } }, { (kp 0 (lay 3) State.reset) with fgt := { Fgt.reset with loading := true } },
  runF 0 0 0, runF 3 0 0, runF 4 0 0, runF 5 100 100, runF 5 100 16000, runF 5 16383 16383, presK State.reset, presK (kp 0 (lay 4) (kp 0x1000 (lay 9) (kp 0x13F8 [1,2,3,4,5,6,7,8,9,10,11,12] State.reset))), kp 0x1000 (lay 6) (kp 0xFFE [1,2,3] State.reset), (kp 0x1000 (lay 6) State.reset).setReg (Reg.KEP_WP 2) 0x77]
def allList_Word : List (List Word) := [lay 3, lay 4, lay 6, lay 9]
end W17

namespace W18
def rec1 (ty : Nat) (b : List Word) : List Word := BitVec.ofNat 40 (ty * 2^32 + b.length) :: b
def img (recs : List (List Word)) : List Word := List.replicate 16 0 ++ recs.flatten
def atRec (l : List Word) (s : State) : State := { ((s.setReg Reg.BSQ_STATUS (BitVec.ofNat 40 (3 * 128))).setReg Reg.BSQ_IMAGE_LEN (BitVec.ofNat 40 l.length)) with boot := { s.boot with again := l, pos := 16, recIdx := 0 } }
def one (ty : Nat) (b : List Word) : State := atRec (img [rec1 ty b]) State.reset
def part1 : List Word := [1, BitVec.ofNat 40 (2 * 256 + 5), 0x28, 0] ++ (List.range 16).map (fun j => if j < 8 then BitVec.ofNat 40 (2^39 + 2^38 + j) else BitVec.ofNat 40 (2^22))
def fgtB : List Word := [61, 0x64, 3] ++ List.replicate 24 0x12
def bodies : List (Nat × List Word) := [(1, [0x00]), (1,[0x12]), (2, [0x0501]), (2, [0x3001]), (2,[0x3F00]), (3, [BitVec.ofNat 40 (3*2^21 + 4 * 2^16 + 0x1234)]), (1,[0x02]), (3, [BitVec.ofNat 40 (3*2^21 + 4 * 2^16 + 0x9400)]), (4, [0x8888]), (4,[0x8808]), (5, [0]),
 (5, [1, 0x11, 5] ++ List.replicate 8 9), (5, [1, BitVec.ofNat 40 (16+1), 7, 9,9,9,9,9,9,9,9]), (5,[1, BitVec.ofNat 40 (16+1), 5, 480,0,0,0,480,0,0,0]), (6, [BitVec.ofNat 40 (0x10 + 3), BitVec.ofNat 40 (8)] ++ List.replicate 16 0x45 ++ [BitVec.ofNat 40 (100*2^20+100*1024+1000)]), (6, BitVec.ofNat 40 (0x10 + 3) :: 0x08 :: List.replicate 17 0), (7, part1), (8, [0x1224]),
 (9, [0x48000, 1,2,3]), (9, [BitVec.ofNat 40 (2^35), 1]), (10, [0x48123]), (11, [0]), (11, [1]), (12, [1, 40000, 7]), (12, [0x100, 0, 0, 3, 1]), (12, [0x100, 0, 0x50, 3, 1]), (13, [BitVec.ofNat 40 (Reg.CNS_EXPOSE 2), 0x45, BitVec.allOnes 40]), (13, [5, 5, 5]), (14, fgtB), (14, BitVec.ofNat 40 (256 + 30) :: fgtB.drop 1), (15, List.replicate 20 7)]
def S18 : List State := [State.reset] ++ bodies.map (fun e => one e.1 e.2) ++ [atRec (img [rec1 1 [0x02]]) ((State.reset.setReg (Reg.DMC_CTL 0) 1).setReg (Reg.DMC_STATUS 0) 1)]
def allList_Word : List (List Word) := (bodies.map (fun e => e.2)).dedup
end W18

namespace W19
def rec1 (ty : Nat) (b : List Word) : List Word := BitVec.ofNat 40 (ty * 2^32 + b.length) :: b
def img (recs : List (List Word)) : List Word := List.replicate 16 0 ++ recs.flatten
def atRec (l : List Word) (s : State) : State := { ((s.setReg Reg.BSQ_STATUS (BitVec.ofNat 40 (3 * 128))).setReg Reg.BSQ_IMAGE_LEN (BitVec.ofNat 40 l.length)) with boot := { s.boot with again := l, pos := 16, recIdx := 0 } }
def endW (l : List Word) : List Word := l ++ [BitVec.ofNat 40 (0xFF * 2^32 + 1), BitVec.ofNat 40 (crc32c (imgOctets (l ++ [BitVec.ofNat 40 (0xFF * 2^32 + 1)])))]
def wholeI : List Word := endW (img [rec1 10 [0x48123], rec1 15 (List.replicate 20 7)])
def endS (e : Bool) : State := let s := atRec wholeI State.reset; { s with boot := { s.boot with pos := 16 + 2 + 21, recIdx := 2, entrySet := e, digest := imgDigest wholeI 18 } }
def p1 (sel src : Nat) (img : List Word) : State := { ((State.reset.setReg Reg.BSQ_STATUS (BitVec.ofNat 40 (2*128 + 32))).setReg Reg.BSQ_STRAPS (BitVec.ofNat 40 (sel * 8))) with boot := { State.reset.boot with src := src, img := img }, tb := { State.reset.tb with pulses := 2000000 } }
def p3 : State := { (p1 1 0 []).setReg Reg.BSQ_STATUS (BitVec.ofNat 40 (3*128+32)) with }
def S19 : List State := [State.reset, p1 0 0 [], p1 1 0 [], p1 1 0 [5], p1 0 1 [], p1 0 2 [], p3.setReg Reg.BSQ_IMAGE_LEN 7, endS true, endS false, { (endS true) with boot := { (endS true).boot with digest := ~~~ imgDigest wholeI 18 } }]
end W19

namespace W20
def stC : State := (State.reset.setBit Reg.BSQ_STATUS 10 true).setReg (Reg.BSQ_CORE_ENTRY 2) 0x48123 |>.setReg (Reg.BSQ_CORE_ENTRY 3) 0x777 |>.setFld (Reg.CS_SHED_RANK 2) 1 0 1 |>.setReg (Reg.CS_TP 2) 5
def used (c : Nat) (s : State) : State := s.updCore c (fun k => { k with run := .faultStop, w := k.w.map (fun _ => 7), itlb := [] })
def stP : State := (stC.setBit (Reg.PAIR_CTL 1) 0 true)
def stPr : State := ((stC.setBit Reg.BSQ_PRESENCE 16 true).setReg (Reg.BSQ_FUSE_DATA 0) 0x123456789A).setReg (Reg.BSQ_FUSE_DATA 6) 0xABCD
def stPg : State := { stPr with boot := { stPr.boot with prog := some 5, presAt := 100 }, tb := { stPr.tb with pulses := 30000100 } }
def stW : State := { stC with tb := { stC.tb with pulses := 2000000 } }
def S20 : List State := [State.reset, stC, used 2 stC, used 3 (used 2 stP), stP, (stC.updCore 2 (fun k => {k with parked := true})), stC.updCore 2 (fun k => { k with run := .running }), stPr, stPg, stW, {stPr with boot := {stPr.boot with fuses := 3}}]
end W20

namespace W21
def lr (n : Nat) : LogRec := ⟨BitVec.ofNat 40 n, 2, BitVec.ofNat 40 (n+5), 4⟩
def er (k : Nat) : ErrRec := ⟨.bsq, k, 3, 99, 98, 97⟩
def withE (aw : List ErrRec) (rs : List LogRec) (s : State) : State := { s with errlog := { s.errlog with await := aw, recs := rs, seq := 0xFFFF }, tb := { s.tb with now := 0x123456789ABCDEF01234 } }
def en : State := ((((State.reset.setReg (Reg.HAT_KIND_EN 1) 0x80).setReg (Reg.HAT_KIND_EN 0) 0x10).setReg Reg.HAT_CTL 0x1F4).setReg Reg.HAT_DELAY 3).setReg Reg.HAT_MISSED_CNT 4
def bz (s : State) : State := s.setReg Reg.HAT_STATUS 4
def un (s : State) : State := s.setReg Reg.HAT_STATUS 0
def lt (s : State) : State := { (bz s) with hat := { s.hat with latch := some 0 } }
def S21 : List State := [State.reset, withE [er 3, er 4] [lr 1] en, withE [er 47] [lr 1] en, withE [er 47] ((List.range 16).map lr) en, withE [er 5] ((List.range 15).map lr) State.reset, bz en, un en, { en with hat := { en.hat with quiet := true }}, lt en, (lt (en.setFld (Reg.PWR_DOM 17) 8 7 2)).setFld Reg.HAT_HIST_PTR 2 0 7]
def allErrRec : List (ErrRec) := [er 3, er 47, er 5]
def allLogRec : List (LogRec) := [lr 1, lr 0]
def allList_ErrRec : List (List ErrRec) := [[], [er 4]]
end W21

namespace W22
def b0 : State := (State.reset.setBit Reg.BSQ_STATUS 10 true).setReg (Reg.DBG_CORE_HALT_CNT 2) 9
def core2 (f : Core → Core) (s : State) : State := s.updCore 2 (fun k => f { k with pc := 0x48010, w := k.w.map (fun _ => 6) })
def S22 : List State := [State.reset, b0, core2 (fun k => { k with run := .running }) b0, (core2 (fun k => { k with run := .running }) b0).setReg Reg.EIU_QUIET_MASK 4, core2 (fun k => { k with run := .waiting }) b0, core2 (fun k => { k with run := .running, halted := true }) b0,
  core2 (fun k => { k with run := .running, due := some (5, .nop 2) }) b0, core2 (fun k => { k with run := .doubleFault }) b0, (core2 (fun k => { k with run := .running, halted := true }) b0).setBit (Reg.PAIR_CTL 1) 0 true, (b0.setReg Reg.DBG_MBOX_OUT_STAT 0x85), ((core2 (fun k => { k with run := .running, halted := true }) b0).setPair 1 { Pair.reset with started := true })]
end W22

namespace W23
def ready (s : State) : State := { s with jtag := { s.jtag with ir := 0x10, data := 77, status := 2, fstat := 3 } }
def at' (a : Nat) (s : State) : State := s.setReg Reg.DBG_JTAG_ADDR (BitVec.ofNat 40 a)
def S23 : List State := [State.reset, ready State.reset, at' 0x100000 (ready State.reset), (at' (Reg.DBG_MBOX_IN 0) (ready State.reset)).setReg (Reg.DBG_MBOX_IN 0) 0x1234567891, (at' (Reg.DBG_MBOX_IN 63) (ready State.reset)).setBit Reg.BSQ_PRESENCE 16 true, (ready State.reset).setReg Reg.HAT_CTL 0x20, (ready State.reset).setReg Reg.HAT_CTL 0, { (ready State.reset) with jtag := { (ready State.reset).jtag with wait := some 3 } }]
end W23

namespace W24
def b0 : State := (State.reset.setBit Reg.BSQ_STATUS 10 true)
def b1 : State := ((State.reset.setBit Reg.SYS_STATUS 0 true).setReg Reg.SYS_RSVD_DATA 5).updCore 2 (fun k => { k with run := .running })
def S24 : List State := [b0, b1]
end W24

namespace W25
def cfgW (kind dir nlog bind : Nat) : Word := BitVec.ofNat 40 (kind * 2^32 + dir * 2^31 + nlog * 2^27 + bind * 2^16)
def b : State := ((State.reset.setReg Reg.ETH_CTL 3).setReg Reg.ETH_MAC_LO 0x0504030201).setReg Reg.ETH_MAC_HI 6 |>.setReg Reg.ETH_CLS 5
def tb' (n : Nat) (s : State) : State := let s := s.setBit Reg.TB_STATUS 0 true; { s with tb := { s.tb with now := BitVec.ofNat 80 n } }
def rxr (s : State) : State := let s := (s.setReg (Reg.SEF_RING_CFG 4) (cfgW 4 1 4 5 ||| BitVec.ofNat 40 (2^39))); s.setRing 4 { s.ring 4 with bound := true }
def dd (len k : Nat) : FDesc := ⟨5, BitVec.ofNat 40 (2^39 + 2^38 + 0x800), BitVec.ofNat 40 len + BitVec.ofNat 40 (k * 2^16) , 0x100800, 0⟩
def txr (len k : Nat) (os : List Nat) (s : State) : State := let s := (s.setReg (Reg.SEF_RING_CFG 3) (cfgW 3 0 4 2 ||| BitVec.ofNat 40 (2^39)))
  let s := s.setRing 3 { s.ring 3 with bound := true, fetched := [dd len k], unit := some { freshUnit with n := 1, moved := len } }
  { s with eth := { s.eth with txq := [(2, ⟨3, os, none, none, false⟩)] } }
def os60 : List Nat := List.range 60
def aaf : State := let s := txr 35 0x8005 ((List.range 35).map (· + 9)) (tb' 100000 b)
  let s := (((((s.setReg (Reg.ETH_AAF_CFG 5) (BitVec.ofNat 40 (5*2^29 + 3*2^20 + 2^15 + 2^12 + 0x345))).setReg (Reg.ETH_AAF_DA_LO 5) 0x1122334455).setReg (Reg.ETH_AAF_DA_HI 5) 0x66).setReg (Reg.ETH_AAF_ID_LO 5) 0x99).setReg (Reg.ETH_AAF_ID_HI 5) 0x77).setReg (Reg.ETH_AAF_TRANSIT 5) 1000
  { s with eth := { s.eth with seqNo := [(5, 255)], smapNs := 5000000000, smapScale := 44699999999, smapTick := 50 } }
def pz (s : State) : State := { s with eth := { s.eth with pause := some (99000000, 200) } }
def S25 : List State := [State.reset, b, rxr (tb' 77 b), (b.setReg Reg.ETH_CTL 0xB), pz (tb' 100000 (b.setBit Reg.ETH_CTL 2 true)), pz (tb' 100000 (b.setReg Reg.ETH_CTL 0xB)), txr 60 0 os60 (tb' 100000 b), pz (txr 60 0 os60 (tb' 100000 b)), aaf, (b.setReg Reg.ETH_SMAP_TICK_LO 5).setReg Reg.ETH_SMAP_NS_HI 7,
  { b with eth := { b.eth with mdio := some (BitVec.ofNat 40 (2^27+5)) } }, { b with eth := { b.eth with mdio := some 0x123 } }]
def allList__BitVec_8_ : List (List (BitVec 8)) := [[], [1,2,3,4,5,6] ++ List.replicate 54 9, [1,2,3,4,5,7] ++ List.replicate 55 9]
def allEthTx : List (EthTx) := S25.flatMap (fun s => s.eth.txq.map Prod.snd)
def allRUnit : List (RUnit) := S25.filterMap (fun s => (s.ring 3).unit)
def allFDesc : List (FDesc) := [dd 35 0x8005, dd 60 0]
end W25

namespace W26
def cfgW (kind dir nlog bind : Nat) : Word := BitVec.ofNat 40 (kind * 2^32 + dir * 2^31 + nlog * 2^27 + bind * 2^16)
def b : State := (State.reset.setReg Reg.USB_CTL 7).setReg Reg.USB_ADDR 9 |>.setFld Reg.USB_STATUS 1 0 2
def sus : State := b.setBit Reg.USB_STATUS 2 true
def arm (n : Nat) : State := { b with usb := { b.usb with armed := n, ctl := true, addrNext := some 33 } }
def dd (len k : Nat) : FDesc := ⟨5, BitVec.ofNat 40 (2^39 + 2^38 + 0x800), BitVec.ofNat 40 len + BitVec.ofNat 40 (k * 2^16) , 0x100800, 0⟩
def epc (ty m mps : Nat) : Word := BitVec.ofNat 40 (2^20 + ty * 2^17 + m * 2^15 + mps)
def inr (c : Word) (s : State) : State := let s := (s.setReg (Reg.SEF_RING_CFG 3) (cfgW 5 0 4 2 ||| BitVec.ofNat 40 (2^39))).setReg (Reg.USB_EPIN_CFG 2) c
  let s := s.setRing 3 { s.ring 3 with bound := true, fetched := [dd 20 0], unit := some { freshUnit with n := 1, moved := 20 } }
  s.setUsbEp 3 { UsbEp.reset with data := List.range 20, loaded := true }
def outE (n : Nat) : State := let s := b.setReg (Reg.USB_EPOUT_CFG 2) (epc 2 1 512); s.setUsbEp 19 { UsbEp.reset with packets := List.replicate n [1,2], toggle := true }
def fbS : State := let s := (((b.setReg (Reg.USB_EPIN_CFG 2) (epc 1 1 8)).setReg (Reg.USB_FB_CTL 0) (BitVec.ofNat 40 (3*256 + 4 + 1))).setReg (Reg.TB_RGEN_NUM 0) 20480).setReg (Reg.TB_RGEN_DEN 0) 1
  let s := s.setBit Reg.TB_STATUS 0 true
  { s with tb := { s.tb with now := BitVec.ofNat 80 983050 }, usb := { s.usb with fb := [(0, ⟨some 0, 7⟩)] } }
def S26 : List State := [State.reset, b, sus, arm 7, arm 2, (arm 0).setBit Reg.USB_EP0_CTL 0 true, inr (epc 2 1 512) b, inr (epc 2 1 64) (b.setFld Reg.USB_STATUS 1 0 1), inr (epc 3 1 16) b, (b.setReg (Reg.USB_EPIN_CFG 2) (epc 2 1 512)), outE 0, outE 1, outE 2, fbS, (b.setFld Reg.USB_STATUS 1 0 1), (b.setReg Reg.USB_TEST 3).setReg Reg.USB_CTL 0]
def allRUnit : List (RUnit) := S26.filterMap (fun s => (s.ring 3).unit)
def allList_Nat : List (List Nat) := [List.range 20, List.range 16, []]
end W26

def W9.allTag : List (Fin 256) := [7]
def W9.allEp : List (Fin 32) := [30]
def W10a.allTag : List (Fin 256) := [5]

theorem W5.sts_calm : ∀ k ∈ [2, 3, 4], Calm (W5.sts.getD k State.reset) := calms_of (by decide +kernel)
theorem W20.S20_calm : ∀ k ∈ [0, 1, 3, 7, 8, 9], Calm (W20.S20.getD k State.reset) := calms_of (by decide +kernel)
theorem W9.ioS_calm : ∀ k ∈ [0, 2, 3, 4, 5], Calm (W9.ioS.getD k State.reset) := calms_of (by decide +kernel)
theorem W12.S6_calm : ∀ k ∈ [1, 2, 4, 5, 9, 10, 11, 12, 13], Calm (W12.S6.getD k State.reset) := calms_of (by decide +kernel)
theorem W14.S8_calm : ∀ k ∈ [0, 1, 2, 3, 5, 6, 8, 9, 10, 12, 13], Calm (W14.S8.getD k State.reset) := calms_of (by decide +kernel)
theorem W25.S25_calm : ∀ k ∈ [0, 1, 2, 4, 11], Calm (W25.S25.getD k State.reset) := calms_of (by decide +kernel)
theorem W6.sts_calm : ∀ k ∈ [0, 1, 5, 6, 7, 8], Calm (W6.sts.getD k State.reset) := calms_of (by decide +kernel)
theorem W7.sts_calm : ∀ k ∈ [0, 2, 3, 4, 5, 6, 7, 9, 10], Calm (W7.sts.getD k State.reset) := calms_of (by decide +kernel)
theorem W8.hcS_calm : ∀ k ∈ [0, 3, 5, 8], Calm (W8.hcS.getD k State.reset) := calms_of (by decide +kernel)
theorem W9.pwS_calm : ∀ k ∈ [0, 1, 2, 3], Calm (W9.pwS.getD k State.reset) := calms_of (by decide +kernel)
theorem W9.suS_calm : ∀ k ∈ [0, 1], Calm (W9.suS.getD k State.reset) := calms_of (by decide +kernel)
theorem W9.trS_calm : ∀ k ∈ [0, 4], Calm (W9.trS.getD k State.reset) := calms_of (by decide +kernel)
theorem W10a.stT_calm : ∀ k ∈ [0, 2, 4, 5, 6, 7, 8, 9, 10, 11, 12], Calm (W10a.stT.getD k State.reset) := calms_of (by decide +kernel)
theorem W10b.sP_calm : ∀ k ∈ [0, 2, 3, 4, 5], Calm (W10b.sP.getD k State.reset) := calms_of (by decide +kernel)
theorem W10c.sM_calm : ∀ k ∈ [0, 1, 6, 8, 10, 12], Calm (W10c.sM.getD k State.reset) := calms_of (by decide +kernel)
theorem W11.gS_calm : ∀ k ∈ [0, 2, 8, 9, 10, 11, 16], Calm (W11.gS.getD k State.reset) := calms_of (by decide +kernel)
theorem W13.S7_calm : ∀ k ∈ [0, 1, 2, 3, 4, 5, 6, 8, 10, 11], Calm (W13.S7.getD k State.reset) := calms_of (by decide +kernel)
theorem W15.S9_calm : ∀ k ∈ [0, 2, 3, 4, 5, 6, 7, 8, 10, 11, 13, 14], Calm (W15.S9.getD k State.reset) := calms_of (by decide +kernel)
theorem W16.states_calm : ∀ k ∈ [0, 11, 26, 27, 29, 31, 39, 55, 57, 77, 79, 88, 91, 102, 113, 123, 135], Calm (W16.states.getD k State.reset) := calms_of (by decide +kernel)
theorem W17.S17_calm : ∀ k ∈ [0, 1, 2, 3, 5, 7, 8, 11, 12], Calm (W17.S17.getD k State.reset) := calms_of (by decide +kernel)
theorem W18.S18_calm : ∀ k ∈ [2, 3, 4, 6, 9, 11, 15, 17, 18, 19, 20, 21, 23, 24, 25, 27, 28, 29, 31, 32], Calm (W18.S18.getD k State.reset) := calms_of (by decide +kernel)
theorem W19.S19_calm : ∀ k ∈ [1, 2, 6, 7, 8, 9], Calm (W19.S19.getD k State.reset) := calms_of (by decide +kernel)
theorem W21.S21_calm : ∀ k ∈ [0, 1, 2, 3, 5, 6, 7, 8], Calm (W21.S21.getD k State.reset) := calms_of (by decide +kernel)
theorem W22.S22_calm : ∀ k ∈ [0, 2, 4, 5, 6], Calm (W22.S22.getD k State.reset) := calms_of (by decide +kernel)
theorem W23.S23_calm : ∀ k ∈ [0, 1, 3, 4, 6, 7], Calm (W23.S23.getD k State.reset) := calms_of (by decide +kernel)
theorem W24.S24_calm : ∀ k ∈ [0, 1], Calm (W24.S24.getD k State.reset) := calms_of (by decide +kernel)
theorem W26.S26_calm : ∀ k ∈ [0, 1, 2, 3, 5, 6, 9, 10, 12, 13], Calm (W26.S26.getD k State.reset) := calms_of (by decide +kernel)
theorem W4.sts_calm : ∀ k ∈ [0, 1, 2, 4, 6], Calm (W4.sts.getD k State.reset) := calms_of (by decide +kernel)

theorem poised1 : Poised (W4.sts.getD 0 State.reset) 0 := poised_of (W4.sts_calm 0 (by decide)) (by decide +kernel)
theorem ready2 : Ready (W4.sts.getD 0 State.reset) 0 false := ready_of poised1 (by decide +kernel) (by decide +kernel)
theorem ready3 : Ready (W4.sts.getD 0 State.reset) 0 true := ready_of poised1 (by decide +kernel) (by decide +kernel)
theorem poised5 : Poised (W4.sts.getD 1 State.reset) 0 := poised_of (W4.sts_calm 1 (by decide)) (by decide +kernel)
theorem ready6 : Ready (W4.sts.getD 1 State.reset) 0 false := ready_of poised5 (by decide +kernel) (by decide +kernel)
theorem poised8 : Poised (W4.sts.getD 2 State.reset) 0 := poised_of (W4.sts_calm 2 (by decide)) (by decide +kernel)
theorem ready9 : Ready (W4.sts.getD 2 State.reset) 0 false := ready_of poised8 (by decide +kernel) (by decide +kernel)
theorem poised11 : Poised (W4.sts.getD 4 State.reset) 0 := poised_of (W4.sts_calm 4 (by decide)) (by decide +kernel)
theorem ready12 : Ready (W4.sts.getD 4 State.reset) 0 false := ready_of poised11 (by decide +kernel) (by decide +kernel)
theorem ready13 : Ready (W4.sts.getD 1 State.reset) 0 true := ready_of poised5 (by decide +kernel) (by decide +kernel)
theorem poised15 : Poised (W4.sts.getD 6 State.reset) 0 := poised_of (W4.sts_calm 6 (by decide)) (by decide +kernel)
theorem ready16 : Ready (W4.sts.getD 6 State.reset) 0 true := ready_of poised15 (by decide +kernel) (by decide +kernel)
theorem ready17 : Ready (W4.sts.getD 6 State.reset) 0 false := ready_of poised15 (by decide +kernel) (by decide +kernel)
theorem poised19 : Poised (W5.sts.getD 2 State.reset) 0 := poised_of (W5.sts_calm 2 (by decide)) (by decide +kernel)

/-! ### The clauses of the statements are met -/

theorem test_ShortAluResult_met :
    (∃ c : Fin 8, ∃ s : State, Ready s c false) :=
  ⟨0, (W4.sts.getD 0 State.reset), ready2⟩

theorem test_CompareFlags_met :
    (∃ c : Fin 8, ∃ s : State, Ready s c false) :=
  ⟨0, (W4.sts.getD 0 State.reset), ready2⟩

theorem test_LongAluResult_met :
    (∃ c : Fin 8, ∃ s : State, Ready s c true) :=
  ⟨0, (W4.sts.getD 0 State.reset), ready3⟩

theorem test_ImmediateResult_met :
    (∃ c : Fin 8, ∃ s : State, ∃ p : Fin 40, ∃ w1 : Fin 40, Ready s c true ∧ p.val + w1.val < 40) :=
  ⟨0, (W4.sts.getD 0 State.reset), 0, 0, ready3, by decide +kernel⟩

theorem test_AccumulatorResult_met :
    (∃ c : Fin 8, ∃ s : State, ∃ op : MacOp, ∃ a : Nat, ∃ v : BitVec 80, Ready s c true ∧ macMeans s c op = some (a, v)) ∧
    (∃ c : Fin 8, ∃ s : State, Ready s c false) :=
  ⟨⟨0, (W4.sts.getD 0 State.reset), Sys2Proof.MacOp.mova 1 0, 1, 0x00000000000000000000#80, ready3, by decide +kernel⟩,
   ⟨0, (W4.sts.getD 0 State.reset), ready2⟩⟩

theorem test_FloatResult_met :
    (∃ c : Fin 8, ∃ s : State, Ready s c true) :=
  ⟨0, (W4.sts.getD 0 State.reset), ready3⟩

theorem test_BranchTarget_met :
    (∃ c : Fin 8, ∃ s : State, Ready s c false) ∧
    (∃ c : Fin 8, ∃ s : State, Ready s c true) :=
  ⟨⟨0, (W4.sts.getD 0 State.reset), ready2⟩,
   ⟨0, (W4.sts.getD 0 State.reset), ready3⟩⟩

theorem test_CallEntry_met :
    (∃ c : Fin 8, ∃ L : Nat, ∃ s : State, Ready s c false ∧ EntersAt s c (baseLevel s c 1 7 true) L) ∧
    (∃ c : Fin 8, ∃ L : Nat, ∃ s : State, Ready s c false ∧ EntersAt s c (baseLevel s c 2 8 false) L ∧ 1 ≤ s.pl c) ∧
    (∃ c : Fin 8, ∃ L : Nat, ∃ s : State, Ready s c false ∧ EntersAt s c (baseLevel s c 3 9 false) L ∧ 2 ≤ s.pl c) :=
  ⟨⟨0, 1, (W4.sts.getD 1 State.reset), ready6, enters_of (by decide +kernel)⟩,
   ⟨0, 2, (W4.sts.getD 2 State.reset), ready9, enters_of (by decide +kernel), by decide +kernel⟩,
   ⟨0, 3, (W4.sts.getD 0 State.reset), ready2, enters_of (by decide +kernel), by decide +kernel⟩⟩

theorem test_UndefPrivBreak_met :
    (∃ c : Fin 8, ∃ L : Nat, ∃ s : State, ∃ p0 : Parcel, ∃ p1 : Parcel, Ready s c (isLong p0) ∧ EntersAt s c (baseLevel s c 1 1 true) L ∧ undefined p0 p1 = true) ∧
    (∃ c : Fin 8, ∃ L : Nat, ∃ s : State, Ready s c false ∧ EntersAt s c (baseLevel s c 1 2 true) L ∧ s.pl c = 0) ∧
    (∃ c : Fin 8, ∃ L : Nat, ∃ s : State, Ready s c false ∧ EntersAt s c (baseLevel s c 1 2 true) L ∧ s.pl c ≤ 1) ∧
    (∃ c : Fin 8, ∃ L : Nat, ∃ s : State, Ready s c false ∧ EntersAt s c (baseLevel s c 1 0x11 true) L ∧ s.bit (Reg.CS_DBG_CTL c) 3 = false) ∧
    (∃ c : Fin 8, ∃ s : State, Ready s c false ∧ (∀ m, baseLevel s c 1 7 true ≤ m → m ≤ 3 → s.hold c m = true)) :=
  ⟨⟨0, 1, (W4.sts.getD 1 State.reset), 0xb0000#20, 0x00000#20, ready_of poised5 (by decide +kernel) (by decide +kernel), enters_of (by decide +kernel), by decide +kernel⟩,
   ⟨0, 1, (W4.sts.getD 1 State.reset), ready6, enters_of (by decide +kernel), by decide +kernel⟩,
   ⟨0, 1, (W4.sts.getD 1 State.reset), ready6, enters_of (by decide +kernel), by decide +kernel⟩,
   ⟨0, 1, (W4.sts.getD 1 State.reset), ready6, enters_of (by decide +kernel), by decide +kernel⟩,
   ⟨0, (W4.sts.getD 4 State.reset), ready12, below_of (by decide +kernel)⟩⟩

theorem test_ReturnRestores_met :
    (∃ c : Fin 8, ∃ s : State, Ready s c false ∧ 1 ≤ s.pl c) :=
  ⟨0, (W4.sts.getD 0 State.reset), ready2, by decide +kernel⟩

theorem test_LoadResult_met :
    (∃ c : Fin 8, ∃ s : State, ∃ rb : Fin 32, ∃ off : BitVec 20, ∃ w : Word, ReadyPhys s c ∧ ownWord c (s.gpr c rb + off.signExtend 40) ∧ holdsWord s c (s.gpr c rb + off.signExtend 40) w) ∧
    (∃ c : Fin 8, ∃ s : State, ∃ rb : Fin 32, ∃ rx : Fin 32, ∃ sc : Fin 4, ∃ w : Word, ReadyPhys s c ∧ ownWord c (s.gpr c rb + s.gpr c rx <<< sc.val) ∧ holdsWord s c (s.gpr c rb + s.gpr c rx <<< sc.val) w) ∧
    (∃ c : Fin 8, ∃ s : State, ∃ rb : Fin 32, ∃ off : BitVec 20, ∃ va : Word, ∃ w : Word, ∃ k : Nat, ReadyPhys s c ∧ ownWord c va ∧ holdsWord s c va w ∧ (s.gpr c rb).toNat % 8 < 5 ∧ k < 5 ∧ (va.toNat * 5 + k : Int) = ((s.gpr c rb).toNat / 8 * 5 + (s.gpr c rb).toNat % 8 + off.toInt) % (5 * 2 ^ 37)) ∧
    (∃ c : Fin 8, ∃ s : State, ∃ rb : Fin 32, ∃ off : BitVec 20, ∃ w0 : Word, ∃ w1 : Word, ReadyPhys s c ∧ ownWord c (s.gpr c rb + off.signExtend 40) ∧ ownWord c (s.gpr c rb + off.signExtend 40 + 1) ∧ holdsWord s c (s.gpr c rb + off.signExtend 40) w0 ∧ holdsWord s c (s.gpr c rb + off.signExtend 40 + 1) w1) :=
  ⟨⟨0, (W4.sts.getD 0 State.reset), 5, 0x00000#20, 0x123456789a#40, physical_of ready3 (by decide +kernel), by unfold ownWord; decide +kernel, by unfold holdsWord; decide +kernel⟩,
   ⟨0, (W4.sts.getD 0 State.reset), 5, 0, 0, 0x123456789a#40, physical_of ready3 (by decide +kernel), by unfold ownWord; decide +kernel, by unfold holdsWord; decide +kernel⟩,
   ⟨0, (W4.sts.getD 0 State.reset), 6, 0x00000#20, 0x0000040010#40, 0x123456789a#40, 3, physical_of ready3 (by decide +kernel), by unfold ownWord; decide +kernel, by unfold holdsWord; decide +kernel, by decide +kernel⟩,
   ⟨0, (W4.sts.getD 0 State.reset), 5, 0x00000#20, 0x123456789a#40, 0x0000000005#40, physical_of ready3 (by decide +kernel), by unfold ownWord; decide +kernel, by unfold ownWord; decide +kernel, by unfold holdsWord; decide +kernel, by unfold holdsWord; decide +kernel⟩⟩

theorem test_StoreResult_met :
    (∃ c : Fin 8, ∃ s : State, ∃ rb : Fin 32, ∃ off : BitVec 20, ∃ va : Word, ∃ w : Word, ∃ k : Nat, ReadyPhys s c ∧ ownWord c va ∧ holdsWord s c va w ∧ (s.gpr c rb).toNat % 8 < 5 ∧ k < 5 ∧ (va.toNat * 5 + k : Int) = ((s.gpr c rb).toNat / 8 * 5 + (s.gpr c rb).toNat % 8 + off.toInt) % (5 * 2 ^ 37)) ∧
    (∃ c : Fin 8, ∃ s : State, ∃ rb : Fin 32, ∃ off : BitVec 20, let va := s.gpr c rb + off.signExtend 40; ReadyPhys s c ∧ ownWord c va ∧ ownWord c (va + 1)) :=
  ⟨⟨0, (W4.sts.getD 0 State.reset), 6, 0x00000#20, 0x0000040010#40, 0x123456789a#40, 3, physical_of ready3 (by decide +kernel), by unfold ownWord; decide +kernel, by unfold holdsWord; decide +kernel, by decide +kernel⟩,
   ⟨0, (W4.sts.getD 0 State.reset), 5, 0x00000#20, physical_of ready3 (by decide +kernel), by unfold ownWord; decide +kernel, by unfold ownWord; decide +kernel⟩⟩

theorem test_OctetPointerAlign_met :
    (∃ c : Fin 8, ∃ rb : Fin 32, ∃ L : Nat, ∃ s : State, Ready s c true ∧ EntersAt s c (baseLevel s c 1 6 true) L ∧ 5 ≤ (s.gpr c rb).toNat % 8) :=
  ⟨0, 7, 1, (W4.sts.getD 1 State.reset), ready13, enters_of (by decide +kernel), by decide +kernel⟩

theorem test_AtomicResult_met :
    (∃ c : Fin 8, ∃ rb : Fin 32, ∃ w : Word, ∃ s : State, let va := s.gpr c rb; ReadyPhys s c ∧ ownWord c va ∧ holdsWord s c va w ∧ (s.core c).resv = some (va.toNat / 16)) ∧
    (∃ c : Fin 8, ∃ rb : Fin 32, ∃ w : Word, ∃ s : State, let va := s.gpr c rb; ReadyPhys s c ∧ ownWord c va ∧ holdsWord s c va w ∧ (s.core c).resv ≠ some (va.toNat / 16)) :=
  ⟨⟨0, 5, 0x0000000000#40, (W4.sts.getD 6 State.reset), physical_of ready16 (by decide +kernel), by unfold ownWord; decide +kernel, by unfold holdsWord; decide +kernel, by decide +kernel⟩,
   ⟨0, 5, 0x123456789a#40, (W4.sts.getD 0 State.reset), physical_of ready3 (by decide +kernel), by unfold ownWord; decide +kernel, by unfold holdsWord; decide +kernel, by decide +kernel⟩⟩

theorem test_NopFenceWait_met :
    (∃ c : Fin 8, ∃ s : State, Ready s c false ∧ (s.core c).outStores = []) ∧
    (∃ c : Fin 8, ∃ s : State, Ready s c false ∧ ((s.core c).latch = true ∨ asyncPending s c = true)) ∧
    (∃ c : Fin 8, ∃ s : State, Ready s c false ∧ (s.core c).latch = false ∧ asyncPending s c = false) :=
  ⟨⟨0, (W4.sts.getD 0 State.reset), ready2, by decide +kernel⟩,
   ⟨0, (W4.sts.getD 6 State.reset), ready17, by decide +kernel⟩,
   ⟨0, (W4.sts.getD 0 State.reset), ready2, by decide +kernel⟩⟩

theorem test_ControlRegisterMoves_met :
    (∃ c : Fin 8, ∃ cs : Fin 128, ∃ s : State, ∃ m, Ready s c true ∧ csMinPl cs = some m ∧ m ≤ s.pl c) ∧
    (∃ c : Fin 8, ∃ cs : Fin 128, ∃ s : State, ∃ m, Ready s c true ∧ (cs.val, m) ∈ [(0x05, 0), (0x0A, 1), (0x0D, 1), (0x0E, 1), (0x19, 2), (0x1C, 2), (0x1D, 2), (0x29, 3), (0x2C, 3), (0x2D, 3), (0x34, 3), (0x36, 3), (0x37, 3)] ∧ m ≤ s.pl c) ∧
    (∃ c : Fin 8, ∃ cs : Fin 128, ∃ s : State, ∃ L, Ready s c true ∧ EntersAt s c (baseLevel s c 1 1 true) L ∧ csMinPl cs = none) ∧
    (∃ c : Fin 8, ∃ cs : Fin 128, ∃ s : State, ∃ L, ∃ m, Ready s c true ∧ EntersAt s c (baseLevel s c 1 2 true) L ∧ csMinPl cs = some m ∧ s.pl c < m) :=
  ⟨⟨0, 0, (W4.sts.getD 0 State.reset), 0, ready3, by decide +kernel⟩,
   ⟨0, 5, (W4.sts.getD 0 State.reset), 0, ready3, by decide +kernel⟩,
   ⟨0, 23, (W4.sts.getD 0 State.reset), 3, ready3, enters_of (by decide +kernel), by decide +kernel⟩,
   ⟨0, 10, (W4.sts.getD 1 State.reset), 1, 1, ready13, enters_of (by decide +kernel), by decide +kernel⟩⟩

theorem test_CacheAndTlbOps_met :
    (∃ c : Fin 8, ∃ r : Fin 32, ∃ s : State, ReadyPhys s c ∧ ownWord c (s.gpr c r)) ∧
    (∃ c : Fin 8, ∃ r : Fin 32, ∃ s : State, ReadyPhys s c ∧ (s.gpr c r).toNat < 2 ^ 34) :=
  ⟨⟨0, 5, (W4.sts.getD 0 State.reset), physical_of ready3 (by decide +kernel), by unfold ownWord; decide +kernel⟩,
   ⟨0, 5, (W4.sts.getD 0 State.reset), physical_of ready3 (by decide +kernel), by decide +kernel⟩⟩

theorem test_CoreEvents_met :
    (∃ c : Fin 8, ∃ s : State, ∃ L, Poised s c ∧ EntersAt s c (baseLevel s c 1 3 true) L ∧ 2 ≤ s.pl c ∧ 2 ^ 35 ≤ (s.core c).pc.toNat) ∧
    (∃ c : Fin 8, ∃ s : State, Undisturbed s c ∧ isPaced s c = false ∧ (s.core c).run = .waiting ∧ ((s.core c).latch = true ∨ asyncPending s c = true)) ∧
    (∃ c : Fin 8, ∃ s : State, ∃ e, ∃ rest, (s.core c).storeErrs = e :: rest) ∧
    (∃ c : Fin 8, ∃ s : State, ∃ q, ∃ va, ∃ st, ∃ L, Undisturbed s c ∧ (s.core c).io = [] ∧ isPaced s c = false ∧ (s.core c).run = .running ∧ (s.core c).pacing = false ∧ (s.core c).due = none ∧ domState s c = 0 ∧ (s.core c).async.pairSelf = none ∧ (s.core c).async.pairMismatch = none ∧ (s.core c).async.quiet = none ∧ (s.core c).async.busErr = some ⟨q, va, st⟩ ∧ L = baseLevel s c 1 0xA true ∧ L ≤ 3 ∧ s.hold c L = false ∧ (s.pl c < L ∨ s.ie c = true)) ∧
    (∃ c : Fin 8, ∃ s : State, predOff s c = false) :=
  ⟨⟨0, (W5.sts.getD 2 State.reset), 2, poised19, enters_of (by decide +kernel), by decide +kernel⟩,
   ⟨0, (W5.sts.getD 3 State.reset), undisturbed_of (W5.sts_calm 3 (by decide)) (by decide +kernel), by decide +kernel⟩,
   ⟨0, (W5.sts.getD 4 State.reset), ⟨4, 0x77, .poison⟩, [], by decide +kernel⟩,
   ⟨0, (W5.sts.getD 4 State.reset), 5, 5, .decode, 1, undisturbed_of (W5.sts_calm 4 (by decide)) (by decide +kernel), by decide +kernel⟩,
   ⟨0, (W5.sts.getD 0 State.reset), by decide +kernel⟩⟩

theorem test_PacedCore_met :
    (∃ c : Fin 8, ∃ s : State, ∃ a : SAlu, ∃ l : LAlu, ∃ k : CmpOp, ∃ f : Bool, ∃ rd : Fin 32, ∃ rs1 : Fin 32, ∃ rs2 : Fin 32, ∃ cs : Fin 128, ∃ imm : BitVec 12, ∃ off : BitVec 20, ∃ i : Instr, ∃ cost : Nat, (i, cost) ∈ [(.nop c, 1), (.sev c, 1), (.waitev c, 1), (.csrr c rd cs, 1), (.shortRegisterAlu c a rd rs1 rs2, 1), (.longRegisterAlu c l f rd rs1 rs2, if l ∈ [LAlu.divs, .divu, .rems, .remu] then 7 else 1), (.compare c k rs1 rs2, 2), (.lw c rd rs1 off, 1), (.sw c rd rs1 off, 1), (.cas c rd rs1 rs2 rd f f, 2), (.csrw c rd cs, 3), (.fenceA c, 3), (.dcClean c rs1, 3), (.tlbInvAll c, 3), (.svc c imm, 3), (.breakInsn c, 3), (.eret c, 3)] ∧ mayStart s c = true ∧ isPaced s c = true) ∧
    (∃ c : Fin 8, ∃ s : State, ∃ r, ∃ completed, Undisturbed s c ∧ ownWord c ((s.core c).pc >>> 1) ∧ isPaced s c = true ∧ s.bit Reg.TB_STATUS 0 = true ∧ s.bit Reg.TB_STATUS 1 = false ∧ s.fld Reg.TB_SLEW 25 24 = 0 ∧ s.now ≤ r ∧ r < 2 ^ 80 ∧ (s.core c).run = .running ∧ (s.core c).due = some (r, .nop c) ∧ (s.core c).excursed = false ∧ (completed = 0 ∨ 6 ≤ s.fld (Reg.CS_PACE_PERIOD c) 7 0) ∧ s.bit (Reg.CS_DBG_CTL c) 0 = false ∧ s.bit (Reg.CS_DBG_CTL c) 1 = false ∧ 2 ≤ s.pl c ∧ (s.core c).pc.toNat < 2 ^ 40 - 2 ∧ (memRead s.close (closeKey c ((s.core c).pc >>> 1))).mark = .good) ∧
    (∃ c : Fin 8, ∃ s : State, (s.core c).pacing = true ∧ (s.agent c).lines = [] ∧ (s.agent c).out = []) ∧
    (∃ c : Fin 8, ∃ s : State, (s.core c).pacing = false) :=
  ⟨⟨0, (W6.sts.getD 0 State.reset), .add, .divs, .cmp, false, 1, 2, 3, 0, 0, 0, .nop 0, 1, by decide +kernel⟩,
   ⟨0, (W6.sts.getD 1 State.reset), 110, 0, undisturbed_of (W6.sts_calm 1 (by decide)) (by decide +kernel), by unfold ownWord; decide +kernel, by decide +kernel⟩,
   ⟨0, (W6.sts.getD 2 State.reset), by decide +kernel⟩,
   ⟨0, (W6.sts.getD 0 State.reset), by decide +kernel⟩⟩

theorem test_PairAndCoreWrites_met :
    (∃ s : State, ∃ n : Fin 4, Reaches (Reg.PAIR_CTL n) s ∧ s.bit (Reg.PAIR_CTL n) 0 = false ∧ s.stopped (2 * n) = true ∧ s.stopped (2 * n + 1) = true) ∧
    (∃ s : State, ∃ n : Fin 4, Reaches (Reg.PAIR_CTL n) s ∧ s.bit (Reg.PAIR_CTL n) 0 = false ∧ (s.stopped (2 * n) = false ∨ s.stopped (2 * n + 1) = false)) ∧
    (∃ s : State, ∃ n : Fin 4, Reaches (Reg.PAIR_CTL n) s ∧ s.bit (Reg.PAIR_CTL n) 0 = true ∧ (s.pair n).started = false) ∧
    (∃ s : State, ∃ n : Fin 4, Reaches (Reg.PAIR_CTL n) s ∧ s.bit (Reg.PAIR_CTL n) 0 = true ∧ (s.pair n).started = true ∧ s.bit (Reg.PAIR_STAT n) 1 = false ∧ (s.pair n).entries = [] ∧ (s.pair n).hold = [] ∧ Nat.testBit s.pwr.parking (2 * n) = false ∧ Nat.testBit s.pwr.parking (2 * n + 1) = false) ∧
    (∃ s : State, ∃ n : Fin 4, Reaches (Reg.PAIR_INJECT n) s) ∧
    (∃ s : State, ∃ c : Fin 8, ∃ cs : Fin 128, Reaches (Reg.CS_FLAGS c + cs) s ∧ cs.val ∈ [0x05, 0x0A, 0x0D, 0x0E, 0x19, 0x1C, 0x1D, 0x29, 0x2C, 0x2D, 0x34, 0x36, 0x37] ∧ s.stopped c = true) ∧
    (∃ s : State, ∃ c : Fin 8, ∃ cs : Fin 128, Reaches (Reg.CS_FLAGS c + cs) s ∧ cs.val ∈ [0x05, 0x0A, 0x0D, 0x0E, 0x19, 0x1C, 0x1D, 0x29, 0x2C, 0x2D, 0x34, 0x36, 0x37] ∧ s.stopped c = false) :=
  ⟨⟨(W6.sts.getD 0 State.reset), 1, reaches_of (W6.sts_calm 0 (by decide)) (by decide +kernel), by decide +kernel⟩,
   ⟨(W6.sts.getD 0 State.reset), 0, reaches_of (W6.sts_calm 0 (by decide)) (by decide +kernel), by decide +kernel⟩,
   ⟨(W6.sts.getD 5 State.reset), 0, reaches_of (W6.sts_calm 5 (by decide)) (by decide +kernel), by decide +kernel⟩,
   ⟨(W6.sts.getD 6 State.reset), 0, reaches_of (W6.sts_calm 6 (by decide)) (by decide +kernel), by decide +kernel⟩,
   ⟨(W6.sts.getD 0 State.reset), 0, reaches_of (W6.sts_calm 0 (by decide)) (by decide +kernel)⟩,
   ⟨(W6.sts.getD 0 State.reset), 1, 5, reaches_of (W6.sts_calm 0 (by decide)) (by decide +kernel), by decide +kernel⟩,
   ⟨(W6.sts.getD 0 State.reset), 0, 5, reaches_of (W6.sts_calm 0 (by decide)) (by decide +kernel), by decide +kernel⟩⟩

theorem test_GroupComparison_met :
    (∃ n : Fin 4, ∃ s : State, ∃ e : DelayEnt, ∃ rest : List DelayEnt, Calm s ∧ trailerMay s n = true ∧ (s.pair n).entries = e :: rest ∧ (s.pair n).hold = [] ∧ (s.pair n).injDisagree = false ∧ e.badParity = false ∧ (s.pair n).injMismatch = false ∧ (s.pair n).injMissCanary = false) ∧
    (∃ n : Fin 4, ∃ s : State, ∃ e : DelayEnt, ∃ rest : List DelayEnt, Calm s ∧ trailerMay s n = true ∧ (s.pair n).entries = e :: rest ∧ (s.pair n).hold = [] ∧ (s.pair n).injDisagree = false ∧ e.badParity = false ∧ (s.pair n).injMismatch = true) :=
  ⟨⟨0, (W6.sts.getD 7 State.reset), (W6.allDelayEnt[0]'(by decide +kernel)), [], (W6.sts_calm 7 (by decide)), by decide +kernel⟩,
   ⟨0, (W6.sts.getD 8 State.reset), (W6.allDelayEnt[0]'(by decide +kernel)), (W6.allList_DelayEnt[1]'(by decide +kernel)), (W6.sts_calm 8 (by decide)), by decide +kernel⟩⟩

theorem test_StepRunsFront_met :
    (∃ s : State, ∃ c, ∃ rest, s.pending = c :: rest) ∧
    (∃ s : State, s.pending = []) :=
  ⟨⟨(W7.sts.getD 10 State.reset), Sys2Proof.Instr.nop 0, [], by decide +kernel⟩,
   ⟨(W7.sts.getD 0 State.reset), by decide +kernel⟩⟩

theorem test_EventSources_met :
    (∃ k : Fin 256, ∃ s : State, s.eiu.inq = [] ∧ s.eiu.owed = [] ∧ sourceAssigned k = true) ∧
    (∃ k : Fin 256, ∃ s : State, s.eiu.inq = [] ∧ s.eiu.owed = [] ∧ sourceAssigned k = false) ∧
    (∃ s : State, Reaches Reg.EIU_SWEV_TRIG s) ∧
    (∃ k : Fin 256, ∃ s : State, let a := Reg.EIU_SRC_CFG k; Reaches a s) ∧
    (∃ k : Fin 256, ∃ s : State, let p := Reg.EIU_PART_CTL (k.val % 16); Reaches p s) :=
  ⟨⟨3, State.reset, by decide +kernel⟩,
   ⟨110, State.reset, by decide +kernel⟩,
   ⟨(W7.sts.getD 0 State.reset), reaches_of (W7.sts_calm 0 (by decide)) (by decide +kernel)⟩,
   ⟨0, (W7.sts.getD 0 State.reset), reaches_of (W7.sts_calm 0 (by decide)) (by decide +kernel)⟩,
   ⟨0, (W7.sts.getD 0 State.reset), reaches_of (W7.sts_calm 0 (by decide)) (by decide +kernel)⟩⟩

theorem test_TimebaseCommands_met :
    (∃ s : State, Calm s ∧ Reaches Reg.TB_STEP_LO s ∧ s.bit Reg.TB_STATUS 1 = false ∧ (∀ g, g < 8 → (s.rgen g).running = false)) ∧
    (∃ s : State, Calm s ∧ Reaches Reg.TB_STEP_LO s ∧ s.bit Reg.TB_STATUS 1 = true) ∧
    (∃ v : Word, ∃ s : State, Calm s ∧ Reaches Reg.TB_SLEW s ∧ fget v 25 24 < 3 ∧ 1000 ≤ fget v 23 0) ∧
    (∃ s : State, let running := s.bit Reg.TB_STATUS 0 = true ∧ s.bit Reg.TB_STATUS 1 = false; Calm s ∧ running ∧ s.fld Reg.TB_SLEW 25 24 = 1 ∧ s.tb.slewCnt < slewInt s) ∧
    (∃ s : State, let running := s.bit Reg.TB_STATUS 0 = true ∧ s.bit Reg.TB_STATUS 1 = false; Calm s ∧ running ∧ s.fld Reg.TB_SLEW 25 24 = 2 ∧ s.tb.slewCnt < slewInt s) ∧
    (∃ s : State, let running := s.bit Reg.TB_STATUS 0 = true ∧ s.bit Reg.TB_STATUS 1 = false; ∃ c : Fin 8, Calm s ∧ running ∧ s.fld Reg.TB_SLEW 25 24 = 0 ∧ s.bit (Reg.CS_TMR_CTL c) 0 = true ∧ s.bit (Reg.CS_TMR_CTL c) 1 = false ∧ fireTick s c < 2 ^ 80) ∧
    (∃ s : State, let running := s.bit Reg.TB_STATUS 0 = true ∧ s.bit Reg.TB_STATUS 1 = false; ∃ c : Fin 8, Calm s ∧ running ∧ s.fld Reg.TB_SLEW 25 24 = 0 ∧ s.bit (Reg.CS_TMR_CTL c) 0 = true ∧ s.bit (Reg.CS_TMR_CTL c) 1 = true ∧ s.fld (Reg.CS_TMR_CTL c) 31 8 ≠ 0 ∧ s.now ≤ tmrCmp s c ∧ fireTick s c = tmrCmp s c ∧ tmrCmp s c + 2 ^ 24 < 2 ^ 80) ∧
    (∃ s : State, let running := s.bit Reg.TB_STATUS 0 = true ∧ s.bit Reg.TB_STATUS 1 = false; Calm s ∧ s.boot.inReset = false ∧ s.pwr.halted = false ∧ running ∧ s.fld Reg.TB_SLEW 25 24 = 0 ∧ s.fld Reg.TB_TICK_FS 23 0 ≠ 0 ∧ s.now + 2 ^ 30 < 2 ^ 80) ∧
    (∃ s : State, Calm s ∧ s.bit Reg.TB_STATUS 0 = true ∧ s.bit Reg.TB_STATUS 1 = false ∧ s.tb.unlocked = false) ∧
    (∃ s : State, Calm s ∧ s.boot.inReset = false ∧ s.pwr.halted = false ∧ s.bit Reg.TB_STATUS 0 = false ∧ s.tb.everLocked = false ∧ s.bit Reg.TB_STATUS 1 = false ∧ s.tb.unlocked = false) :=
  ⟨⟨(W7.sts.getD 0 State.reset), (W7.sts_calm 0 (by decide)), reaches_of (W7.sts_calm 0 (by decide)) (by decide +kernel), by decide +kernel⟩,
   ⟨(W7.sts.getD 9 State.reset), (W7.sts_calm 9 (by decide)), reaches_of (W7.sts_calm 9 (by decide)) (by decide +kernel), by decide +kernel⟩,
   ⟨0x0002000500#40, (W7.sts.getD 0 State.reset), (W7.sts_calm 0 (by decide)), reaches_of (W7.sts_calm 0 (by decide)) (by decide +kernel), by decide +kernel⟩,
   ⟨(W7.sts.getD 3 State.reset), (W7.sts_calm 3 (by decide)), by decide +kernel⟩,
   ⟨(W7.sts.getD 4 State.reset), (W7.sts_calm 4 (by decide)), by decide +kernel⟩,
   ⟨(W7.sts.getD 5 State.reset), 0, (W7.sts_calm 5 (by decide)), by decide +kernel⟩,
   ⟨(W7.sts.getD 6 State.reset), 1, (W7.sts_calm 6 (by decide)), by decide +kernel⟩,
   ⟨(W7.sts.getD 2 State.reset), (W7.sts_calm 2 (by decide)), by decide +kernel⟩,
   ⟨(W7.sts.getD 2 State.reset), (W7.sts_calm 2 (by decide)), by decide +kernel⟩,
   ⟨(W7.sts.getD 0 State.reset), (W7.sts_calm 0 (by decide)), by decide +kernel⟩⟩

theorem test_RateGenerators_met :
    (∃ g : Fin 8, ∃ s : State, let c := Reg.TB_RGEN_CTL g; Reaches (Reg.TB_RGEN_CTL g) s ∧ s.bit c 0 = false) ∧
    (∃ g : Fin 8, ∃ s : State, let quiet := ∀ n, n < 8 → (s.aud n).started = false ∧ s.bit (Reg.AUD_CTL n) 0 = false; Reaches (Reg.TB_RGEN_CTL g) s ∧ quiet ∧ s.bit Reg.TB_STATUS 0 = true ∧ s.bit Reg.TB_STATUS 1 = false ∧ s.fld Reg.TB_SLEW 25 24 = 0 ∧ (s.rgen g).running = true ∧ s.now ≤ nextBoundary (s.rgen g) ∧ nextBoundary (s.rgen g) < 2 ^ 80) :=
  ⟨⟨0, (W7.sts.getD 0 State.reset), reaches_of (W7.sts_calm 0 (by decide)) (by decide +kernel), by decide +kernel⟩,
   ⟨0, (W7.sts.getD 7 State.reset), reaches_of (W7.sts_calm 7 (by decide)) (by decide +kernel), by decide +kernel⟩⟩

theorem test_StartUp_met :
    (∃ s : State, Calm s ∧ s.pwr.halted = false) ∧
    (∃ s : State, Calm s ∧ s.pwr.halted = true ∧ 1000000 ≤ s.pwr.recov ∧ s.boot.inReset = false) ∧
    (∃ s : State, ∃ p, Calm s ∧ s.boot.hostReset = some p ∧ p + 11 ≤ s.tb.pulses) :=
  ⟨⟨(W7.sts.getD 0 State.reset), (W7.sts_calm 0 (by decide)), by decide +kernel⟩,
   ⟨(W7.sts.getD 10 State.reset), (W7.sts_calm 10 (by decide)), by decide +kernel⟩,
   ⟨(W7.sts.getD 10 State.reset), 3, (W7.sts_calm 10 (by decide)), by decide +kernel⟩⟩

theorem test_CoherenceRequests_met :
    (∃ a : Fin 12, ∃ l : BitVec 30, ∃ s : State, FreeLine s a l.toNat ∧ mayHold s a false = true) ∧
    (∃ a : Fin 12, ∃ l : BitVec 30, ∃ s : State, FreeLine s a l.toNat ∧ mayHold s a true = true) ∧
    (∃ a : Fin 12, ∃ l : BitVec 30, ∃ s : State, let old := stageLine s l.toNat; ∃ idx : Fin 16, FreeLine s a l.toNat ∧ (old.getD idx MWord.zero).mark = .good) ∧
    (∃ a : Fin 12, ∃ l : BitVec 30, ∃ s : State, ∃ c : Fin 8, FreeLine s a l.toNat ∧ a.val = c.val ∧ (s.core c).cloak.length < 32 ∧ (∀ e ∈ (s.core c).cloak, e.line ≠ l.toNat) ∧ SMap.find l.toNat (s.agent c).lines = none ∧ s.bit (Reg.CS_PACE_CTL c) 1 = false) ∧
    (∃ a : Fin 12, ∃ l : BitVec 30, ∃ s : State, let n := homeOf s l.toNat; let g := s.fld (Reg.HS_EPOCH n) 7 0; ∃ c : Fin 8, ∃ epoch : BitVec 8, FreeLine s a l.toNat ∧ a.val = c.val ∧ epoch.toNat ≠ g) ∧
    (∃ a : Fin 12, ∃ l : BitVec 30, ∃ s : State, let n := homeOf s l.toNat; let g := s.fld (Reg.HS_EPOCH n) 7 0; ∃ c : Fin 8, ∃ epoch : BitVec 8, FreeLine s a l.toNat ∧ a.val = c.val ∧ epoch.toNat = g) ∧
    (∃ a : Fin 12, ∃ l : BitVec 30, ∃ s : State, let n := homeOf s l.toNat; let g := s.fld (Reg.HS_EPOCH n) 7 0; ∃ c : Fin 8, ∃ e, ∃ rest, FreeLine s a l.toNat ∧ a.val = c.val ∧ (s.core c).cloak = e :: rest ∧ e.line = l.toNat ∧ e.data ≠ none ∧ e.declined = false ∧ e.status = .ok ∧ e.pulses < 3 ∧ e.epoch % 256 ≠ g) :=
  ⟨⟨1, 0x00010000#30, (W8.cohS.getD 0 State.reset), line_of (linked_of (by decide +kernel)) (home_of (by decide +kernel)) (by decide +kernel), by decide +kernel⟩,
   ⟨1, 0x00010000#30, (W8.cohS.getD 0 State.reset), line_of (linked_of (by decide +kernel)) (home_of (by decide +kernel)) (by decide +kernel), by decide +kernel⟩,
   ⟨1, 0x00010000#30, (W8.cohS.getD 0 State.reset), 3, line_of (linked_of (by decide +kernel)) (home_of (by decide +kernel)) (by decide +kernel), by decide +kernel⟩,
   ⟨1, 0x00010000#30, (W8.cohS.getD 0 State.reset), 1, line_of (linked_of (by decide +kernel)) (home_of (by decide +kernel)) (by decide +kernel), by decide +kernel⟩,
   ⟨1, 0x00010000#30, (W8.cohS.getD 0 State.reset), 1, 0x00#8, line_of (linked_of (by decide +kernel)) (home_of (by decide +kernel)) (by decide +kernel), by decide +kernel⟩,
   ⟨1, 0x00010000#30, (W8.cohS.getD 1 State.reset), 1, 0xff#8, line_of (linked_of (by decide +kernel)) (home_of (by decide +kernel)) (by decide +kernel), by decide +kernel⟩,
   ⟨1, 0x00010035#30, (W8.cohS.getD 1 State.reset), 1, (W8.allCloakcoh[0]'(by decide +kernel)), (W8.allList_Cloakcoh[1]'(by decide +kernel)), line_of (linked_of (by decide +kernel)) (home_of (by decide +kernel)) (by decide +kernel), by decide +kernel⟩⟩

theorem test_LineGivenUp_met :
    (∃ a : Fin 12, ∃ l : BitVec 30, ∃ c : CLine, ∃ k : Nat, ∃ e : DirEnt, ∃ s : State, let n := homeOf s l.toNat; Linked s (agentEp a) (hsEp n) ∧ HomeReady s n l.toNat ∧ hasOut s a l.toNat = false ∧ SMap.find l.toNat (s.agent a).lines = some c ∧ c.data.length = 16 ∧ dirWay s n l.toNat = some k ∧ dirGet s n l.toNat = some e ∧ e.ptrs = [a.val, 15, 15, 15] ∧ e.ovf = false ∧ (c.st = .o ∨ c.st = .m) ∧ (e.st = .x ∨ e.st = .o)) ∧
    (∃ a : Fin 12, ∃ l : BitVec 30, ∃ c : CLine, ∃ k : Nat, ∃ e : DirEnt, ∃ s : State, let n := homeOf s l.toNat; Linked s (agentEp a) (hsEp n) ∧ HomeReady s n l.toNat ∧ hasOut s a l.toNat = false ∧ SMap.find l.toNat (s.agent a).lines = some c ∧ c.data.length = 16 ∧ dirWay s n l.toNat = some k ∧ dirGet s n l.toNat = some e ∧ e.ptrs = [a.val, 15, 15, 15] ∧ e.ovf = false ∧ (c.st = .s ∧ e.st = .s ∨ c.st = .e ∧ e.st = .x)) :=
  ⟨⟨1, 0x00010035#30, (W8.allCLineown[0]'(by decide +kernel)), 424, (W8.allDirEntown[1]'(by decide +kernel)), (W8.ownS.getD 1 State.reset), linked_of (by decide +kernel), home_of (by decide +kernel), by decide +kernel⟩,
   ⟨1, 0x00010035#30, (W8.allCLineown[1]'(by decide +kernel)), 424, (W8.allDirEntown[1]'(by decide +kernel)), (W8.ownS.getD 4 State.reset), linked_of (by decide +kernel), home_of (by decide +kernel), by decide +kernel⟩⟩

theorem test_SnoopAnswers_met :
    (∃ a : Fin 12, ∃ l : BitVec 30, ∃ m : CMsg, ∃ c : CLine, ∃ s : State, s.flaws = [] ∧ (∀ k, k < 8 → s.bit (Reg.PRB_n_CTL k) 0 = false) ∧ routeValid s (agentEp a) (hsEp m.slice) = true ∧ SMap.find l.toNat (s.agent a).lines = some c ∧ c.data.length = 16 ∧ inFlight s 2 0 a l.toNat = some m) ∧
    (∃ a : Fin 12, ∃ l : BitVec 30, ∃ m : CMsg, ∃ c : CLine, ∃ s : State, ∃ next, ∃ data, s.flaws = [] ∧ (∀ k, k < 8 → s.bit (Reg.PRB_n_CTL k) 0 = false) ∧ routeValid s (agentEp a) (hsEp m.slice) = true ∧ SMap.find l.toNat (s.agent a).lines = some c ∧ c.data.length = 16 ∧ (c.st, next, data) ∈ [(CSt.m, some CSt.o, true), (.e, some .s, true), (.o, some .o, true), (.s, some .s, false)] ∧ inFlight s 2 1 a l.toNat = some m) ∧
    (∃ a : Fin 12, ∃ l : BitVec 30, ∃ m : CMsg, ∃ c : CLine, ∃ s : State, ∃ next, ∃ data, s.flaws = [] ∧ (∀ k, k < 8 → s.bit (Reg.PRB_n_CTL k) 0 = false) ∧ routeValid s (agentEp a) (hsEp m.slice) = true ∧ SMap.find l.toNat (s.agent a).lines = some c ∧ c.data.length = 16 ∧ (c.st, next, data) ∈ [(CSt.m, (none : Option CSt), true), (.e, none, true), (.o, none, true)] ∧ inFlight s 2 2 a l.toNat = some m) ∧
    (∃ a : Fin 12, ∃ l : BitVec 30, ∃ m : CMsg, ∃ c : CLine, ∃ s : State, ∃ next, ∃ data, s.flaws = [] ∧ (∀ k, k < 8 → s.bit (Reg.PRB_n_CTL k) 0 = false) ∧ routeValid s (agentEp a) (hsEp m.slice) = true ∧ SMap.find l.toNat (s.agent a).lines = some c ∧ c.data.length = 16 ∧ (c.st, next, data) ∈ [(CSt.m, some CSt.o, true), (.e, some .e, true), (.o, some .o, true), (.s, some .s, false)] ∧ inFlight s 2 3 a l.toNat = some m) ∧
    (∃ a : Fin 12, ∃ l : BitVec 30, ∃ m : CMsg, ∃ c : CLine, ∃ s : State, ∃ next, ∃ data, s.flaws = [] ∧ (∀ k, k < 8 → s.bit (Reg.PRB_n_CTL k) 0 = false) ∧ routeValid s (agentEp a) (hsEp m.slice) = true ∧ SMap.find l.toNat (s.agent a).lines = some c ∧ c.data.length = 16 ∧ (c.st, next, data) ∈ [(CSt.m, some CSt.e, true), (.o, some .s, true), (.e, some .e, false), (.s, some .s, false)] ∧ inFlight s 2 4 a l.toNat = some m) ∧
    (∃ a : Fin 12, ∃ l : BitVec 30, ∃ m : CMsg, ∃ c : CLine, ∃ s : State, ∃ next, ∃ data, s.flaws = [] ∧ (∀ k, k < 8 → s.bit (Reg.PRB_n_CTL k) 0 = false) ∧ routeValid s (agentEp a) (hsEp m.slice) = true ∧ SMap.find l.toNat (s.agent a).lines = some c ∧ c.data.length = 16 ∧ (c.st, next, data) ∈ [(CSt.m, (none : Option CSt), true), (.o, none, true), (.e, none, false), (.s, none, false)] ∧ inFlight s 2 5 a l.toNat = some m) :=
  ⟨⟨1, 0x00010035#30, W8.mk 2 0 [], (W8.allCLinesn[0]'(by decide +kernel)), (W8.snS.getD 0 State.reset), by decide +kernel⟩,
   ⟨1, 0x00010035#30, (W8.allCMsgsn[2]'(by decide +kernel)), (W8.allCLinesn[0]'(by decide +kernel)), (W8.snS.getD 4 State.reset), some (Sys2Proof.Machine.CSt.o), true, by decide +kernel⟩,
   ⟨1, 0x00010035#30, (W8.allCMsgsn[3]'(by decide +kernel)), (W8.allCLinesn[0]'(by decide +kernel)), (W8.snS.getD 8 State.reset), none, true, by decide +kernel⟩,
   ⟨1, 0x00010035#30, (W8.allCMsgsn[4]'(by decide +kernel)), (W8.allCLinesn[0]'(by decide +kernel)), (W8.snS.getD 12 State.reset), some (Sys2Proof.Machine.CSt.o), true, by decide +kernel⟩,
   ⟨1, 0x00010035#30, (W8.allCMsgsn[5]'(by decide +kernel)), (W8.allCLinesn[0]'(by decide +kernel)), (W8.snS.getD 16 State.reset), some (Sys2Proof.Machine.CSt.e), true, by decide +kernel⟩,
   ⟨1, 0x00010035#30, (W8.allCMsgsn[6]'(by decide +kernel)), (W8.allCLinesn[0]'(by decide +kernel)), (W8.snS.getD 20 State.reset), none, true, by decide +kernel⟩⟩

theorem test_AnswersAtTheRequester_met :
    (∃ a : Fin 12, ∃ l : BitVec 30, ∃ m : CMsg, ∃ s : State, let first := (s.agent a).out.all (fun r => r.line != l.toNat || r.rc == 0) = true; awaits s (agentEp a) m.tag m.gen ∧ s.flaws = [] ∧ (∀ k, k < 8 → s.bit (Reg.PRB_n_CTL k) 0 = false) ∧ routeValid s (agentEp a) (hsEp m.slice) = true ∧ first ∧ overfull s a l.toNat = none ∧ inFlight s 1 0 a l.toNat = some m) ∧
    (∃ a : Fin 12, ∃ l : BitVec 30, ∃ m : CMsg, ∃ s : State, let first := (s.agent a).out.all (fun r => r.line != l.toNat || r.rc == 0) = true; awaits s (agentEp a) m.tag m.gen ∧ s.flaws = [] ∧ (∀ k, k < 8 → s.bit (Reg.PRB_n_CTL k) 0 = false) ∧ routeValid s (agentEp a) (hsEp m.slice) = true ∧ first ∧ overfull s a l.toNat = none ∧ inFlight s 1 1 a l.toNat = some m) ∧
    (∃ a : Fin 12, ∃ l : BitVec 30, ∃ m : CMsg, ∃ s : State, let first := (s.agent a).out.all (fun r => r.line != l.toNat || r.rc == 0) = true; awaits s (agentEp a) m.tag m.gen ∧ s.flaws = [] ∧ (∀ k, k < 8 → s.bit (Reg.PRB_n_CTL k) 0 = false) ∧ routeValid s (agentEp a) (hsEp m.slice) = true ∧ first ∧ overfull s a l.toNat = none ∧ inFlight s 1 2 a l.toNat = some m) ∧
    (∃ a : Fin 12, ∃ l : BitVec 30, ∃ m : CMsg, ∃ s : State, let first := (s.agent a).out.all (fun r => r.line != l.toNat || r.rc == 0) = true; ∃ c, awaits s (agentEp a) m.tag m.gen ∧ s.flaws = [] ∧ (∀ k, k < 8 → s.bit (Reg.PRB_n_CTL k) 0 = false) ∧ routeValid s (agentEp a) (hsEp m.slice) = true ∧ first ∧ inFlight s 1 5 a l.toNat = some m ∧ SMap.find l.toNat (s.agent a).lines = some c) ∧
    (∃ a : Fin 12, ∃ l : BitVec 30, ∃ m : CMsg, ∃ s : State, let first := (s.agent a).out.all (fun r => r.line != l.toNat || r.rc == 0) = true; awaits s (agentEp a) m.tag m.gen ∧ s.flaws = [] ∧ (∀ k, k < 8 → s.bit (Reg.PRB_n_CTL k) 0 = false) ∧ routeValid s (agentEp a) (hsEp m.slice) = true ∧ first ∧ inFlight s 1 4 a l.toNat = some m) ∧
    (∃ a : Fin 12, ∃ l : BitVec 30, ∃ m : CMsg, ∃ s : State, let first := (s.agent a).out.all (fun r => r.line != l.toNat || r.rc == 0) = true; awaits s (agentEp a) m.tag m.gen ∧ s.flaws = [] ∧ (∀ k, k < 8 → s.bit (Reg.PRB_n_CTL k) 0 = false) ∧ routeValid s (agentEp a) (hsEp m.slice) = true ∧ first ∧ inFlight s 1 8 a l.toNat = some m) ∧
    (∃ a : Fin 12, ∃ l : BitVec 30, ∃ m : CMsg, ∃ s : State, ∃ r, awaits s (agentEp a) m.tag m.gen ∧ s.flaws = [] ∧ (∀ k, k < 8 → s.bit (Reg.PRB_n_CTL k) 0 = false) ∧ routeValid s (agentEp a) (hsEp m.slice) = true ∧ inFlight s 1 7 a l.toNat = some m ∧ (s.agent a).out = [r] ∧ (s.agent a).retryq = [] ∧ r.line = l.toNat ∧ r.slice = m.slice ∧ lineRefused s r = none ∧ (cohPkt s { r with rc := r.rc + 1 }).misformed = false) ∧
    (∃ a : Fin 12, ∃ l : BitVec 30, ∃ m : CMsg, ∃ s : State, let first := (s.agent a).out.all (fun r => r.line != l.toNat || r.rc == 0) = true; ∃ c : Fin 8, awaits s (agentEp a) m.tag m.gen ∧ s.flaws = [] ∧ (∀ k, k < 8 → s.bit (Reg.PRB_n_CTL k) 0 = false) ∧ routeValid s (agentEp a) (hsEp m.slice) = true ∧ a.val = c.val ∧ first ∧ inFlight s 1 3 c l.toNat = some m) ∧
    (∃ a : Fin 12, ∃ l : BitVec 30, ∃ m : CMsg, ∃ s : State, let first := (s.agent a).out.all (fun r => r.line != l.toNat || r.rc == 0) = true; ∃ c : Fin 8, awaits s (agentEp a) m.tag m.gen ∧ s.flaws = [] ∧ (∀ k, k < 8 → s.bit (Reg.PRB_n_CTL k) 0 = false) ∧ routeValid s (agentEp a) (hsEp m.slice) = true ∧ a.val = c.val ∧ first ∧ inFlight s 1 6 c l.toNat = some m) ∧
    (∃ a : Fin 12, ∃ l : BitVec 30, ∃ m : CMsg, ∃ s : State, let first := (s.agent a).out.all (fun r => r.line != l.toNat || r.rc == 0) = true; ∃ c : Fin 8, ∃ e, ∃ d, ∃ rest, awaits s (agentEp a) m.tag m.gen ∧ s.flaws = [] ∧ (∀ k, k < 8 → s.bit (Reg.PRB_n_CTL k) 0 = false) ∧ routeValid s (agentEp a) (hsEp m.slice) = true ∧ a.val = c.val ∧ first ∧ inFlight s 1 9 c l.toNat = some m ∧ overfull s c l.toNat = none ∧ (s.core c).cloak = e :: rest ∧ e.line = l.toNat ∧ e.data = some d) ∧
    (∃ a : Fin 12, ∃ l : BitVec 30, ∃ m : CMsg, ∃ s : State, let first := (s.agent a).out.all (fun r => r.line != l.toNat || r.rc == 0) = true; ∃ c : Fin 8, awaits s (agentEp a) m.tag m.gen ∧ s.flaws = [] ∧ (∀ k, k < 8 → s.bit (Reg.PRB_n_CTL k) 0 = false) ∧ routeValid s (agentEp a) (hsEp m.slice) = true ∧ a.val = c.val ∧ first ∧ inFlight s 1 10 c l.toNat = some m) :=
  ⟨⟨1, 0x00010035#30, (W8.allCMsgrs[7]'(by decide +kernel)), (W8.rsS.getD 0 State.reset), by unfold awaits; decide +kernel, by decide +kernel⟩,
   ⟨1, 0x00010035#30, (W8.allCMsgrs[8]'(by decide +kernel)), (W8.rsS.getD 3 State.reset), by unfold awaits; decide +kernel, by decide +kernel⟩,
   ⟨1, 0x00010035#30, (W8.allCMsgrs[9]'(by decide +kernel)), (W8.rsS.getD 6 State.reset), by unfold awaits; decide +kernel, by decide +kernel⟩,
   ⟨1, 0x00010035#30, (W8.allCMsgrs[12]'(by decide +kernel)), (W8.rsS.getD 16 State.reset), (W8.allCLiners[3]'(by decide +kernel)), by unfold awaits; decide +kernel, by decide +kernel⟩,
   ⟨1, 0x00010035#30, (W8.allCMsgrs[11]'(by decide +kernel)), (W8.rsS.getD 12 State.reset), by unfold awaits; decide +kernel, by decide +kernel⟩,
   ⟨1, 0x00010035#30, (W8.allCMsgrs[15]'(by decide +kernel)), (W8.rsS.getD 24 State.reset), by unfold awaits; decide +kernel, by decide +kernel⟩,
   ⟨1, 0x00010035#30, (W8.allCMsgrs[14]'(by decide +kernel)), (W8.rsS.getD 23 State.reset), (W8.allCMsgrs[0]'(by decide +kernel)), by unfold awaits; decide +kernel, by decide +kernel⟩,
   ⟨1, 0x00010035#30, (W8.allCMsgrs[10]'(by decide +kernel)), (W8.rsS.getD 9 State.reset), 1, by unfold awaits; decide +kernel, by decide +kernel⟩,
   ⟨1, 0x00010035#30, (W8.allCMsgrs[13]'(by decide +kernel)), (W8.rsS.getD 18 State.reset), 1, by unfold awaits; decide +kernel, by decide +kernel⟩,
   ⟨1, 0x00010035#30, (W8.allCMsgrs[16]'(by decide +kernel)), (W8.rsS.getD 27 State.reset), 1, (W8.allCloakrs[0]'(by decide +kernel)), (W8.allLiners[0]'(by decide +kernel)), (W8.allList_Cloakrs[1]'(by decide +kernel)), by unfold awaits; decide +kernel, by decide +kernel⟩,
   ⟨1, 0x00010035#30, (W8.allCMsgrs[17]'(by decide +kernel)), (W8.rsS.getD 30 State.reset), 1, by unfold awaits; decide +kernel, by decide +kernel⟩⟩

theorem test_HomeAnswers_met :
    (∃ a : Fin 12, ∃ l : BitVec 30, ∃ m : CMsg, ∃ k : Nat, ∃ x : Trk, ∃ s : State, awaits s (hsEp m.slice) m.tag m.gen ∧ (s.slice m.slice).trk = [(k, x)] ∧ x.req.line = l.toNat ∧ x.phase = .snoop ∧ x.await.contains a.val = true ∧ (x.await.erase a.val).isEmpty = false ∧ inFlight s 1 11 a l.toNat = some m) ∧
    (∃ a : Fin 12, ∃ l : BitVec 30, ∃ m : CMsg, ∃ k : Nat, ∃ x : Trk, ∃ s : State, awaits s (hsEp m.slice) m.tag m.gen ∧ (s.slice m.slice).trk = [(k, x)] ∧ x.req.line = l.toNat ∧ x.phase = .snoop ∧ x.await.contains a.val = true ∧ (x.await.erase a.val).isEmpty = false ∧ inFlight s 1 12 a l.toNat = some m) ∧
    (∃ a : Fin 12, ∃ l : BitVec 30, ∃ m : CMsg, ∃ k : Nat, ∃ x : Trk, ∃ e : DirEnt, ∃ s : State, (s.slice m.slice).trk = [(k, x)] ∧ x.req.line = l.toNat ∧ x.phase = .awaitDone ∧ x.req.agent = a.val ∧ (s.slice m.slice).waiting = [] ∧ (s.slice m.slice).pslotOrder = [] ∧ dirGet s m.slice l.toNat = some e ∧ (holders e).isEmpty = false ∧ inFlight s 1 13 a l.toNat = some m) ∧
    (∃ n : Fin 4, ∃ s : State, (∀ e ∈ (s.slice n).trk, e.2.phase ≠ .held)) ∧
    (∃ n : Fin 4, ∃ s : State, ∃ k : Nat, ∃ x : Trk, (s.slice n).trk = [(k, x)] ∧ x.phase = .held ∧ (s.slice n).waiting = [] ∧ (s.slice n).pslotOrder = []) :=
  ⟨⟨1, 0x00010035#30, (W8.allCMsghc[0]'(by decide +kernel)), 4, (W8.allTrkhc[0]'(by decide +kernel)), (W8.hcS.getD 0 State.reset), by unfold awaits; decide +kernel, by decide +kernel⟩,
   ⟨1, 0x00010035#30, (W8.allCMsghc[1]'(by decide +kernel)), 4, (W8.allTrkhc[0]'(by decide +kernel)), (W8.hcS.getD 1 State.reset), by unfold awaits; decide +kernel, by decide +kernel⟩,
   ⟨1, 0x00010035#30, (W8.allCMsghc[2]'(by decide +kernel)), 4, (W8.allTrkhc[1]'(by decide +kernel)), (W8.allDirEnthc[3]'(by decide +kernel)), (W8.hcS.getD 2 State.reset), by decide +kernel⟩,
   ⟨0, (W8.hcS.getD 3 State.reset), by decide +kernel⟩,
   ⟨0, (State.reset.setSlice 0 { Slice.reset with trk := [(4, W8.trk0 .held)] }), 4, W8.trk0 .held, by decide +kernel⟩⟩

theorem test_HomeControl_met :
    (∃ s : State, ∃ c : Fin 8, ∃ l : BitVec 30, ∃ e : Cloak, ∃ rest : List Cloak, (s.core c).cloak = e :: rest ∧ e.line = l.toNat ∧ e.data ≠ none ∧ s.flaws = [] ∧ e.declined = false ∧ e.status = .ok ∧ 3 ≤ e.pulses) ∧
    (∃ i : Initiator, ∃ n : Fin 4, ∃ v : Word, ∃ s : State, Reaches (Reg.HS_SPLIT n) s ∧ Linked s i.ep (hsEp n) ∧ fget v 3 0 ≤ 8 ∧ s.isSealed = false ∧ s.split = none ∧ s.net = [] ∧ s.fab.blocked = []) ∧
    (∃ n : Fin 4, ∃ v : Word, ∃ s : State, Reaches (Reg.HS_SPLIT n) s ∧ 8 < fget v 3 0 ∧ s.isSealed = false) ∧
    (∃ n : Fin 4, ∃ s : State, Reaches (Reg.HS_SPLIT n) s ∧ s.isSealed = true) ∧
    (∃ n : Fin 4, ∃ s : State, ∃ u, Calm s ∧ s.split = some (n.val, u) ∧ u ≤ 8 ∧ (∀ k, k < 4 → (s.slice k).waiting = []) ∧ s.fld (Reg.HS_SPLIT n) 3 0 ≤ u ∧ (s.slice n).llc = []) ∧
    (∃ n : Fin 4, ∃ v : Word, ∃ s : State, let k := fget v 13 3 * 8 + fget v 2 0; Reaches (Reg.HS_DIR_SEL n) s ∧ SMap.find k (s.slice n).dir = none) ∧
    (∃ n : Fin 4, ∃ v : Word, ∃ s : State, let k := fget v 13 3 * 8 + fget v 2 0; ∃ e, Reaches (Reg.HS_DIR_SEL n) s ∧ SMap.find k (s.slice n).dir = some e) :=
  ⟨⟨(W8.hcS.getD 4 State.reset), 1, 0x00010035#30, ⟨W8.lst, some [⟨1, .good⟩], 3, 3, .ok, false, false, [5]⟩, [⟨9, none, 3, 0, .ok, false, false, [6]⟩], by decide +kernel⟩,
   ⟨{ ep := 18, pl := 0, part := 0 }, 0, 0x0000000008#40, (W8.hcS.getD 3 State.reset), reaches_of (W8.hcS_calm 3 (by decide)) (by decide +kernel), linked_of (by decide +kernel), by decide +kernel⟩,
   ⟨0, 0x0000000009#40, (W8.hcS.getD 0 State.reset), reaches_of (W8.hcS_calm 0 (by decide)) (by decide +kernel), by decide +kernel⟩,
   ⟨0, (W8.hcS.getD 8 State.reset), reaches_of (W8.hcS_calm 8 (by decide)) (by decide +kernel), by decide +kernel⟩,
   ⟨0, (W8.hcS.getD 5 State.reset), 8, (W8.hcS_calm 5 (by decide)), by decide +kernel⟩,
   ⟨0, 0x0000000008#40, (W8.hcS.getD 0 State.reset), reaches_of (W8.hcS_calm 0 (by decide)) (by decide +kernel), by decide +kernel⟩,
   ⟨0, 0x00000001a8#40, (W8.hcS.getD 0 State.reset), (W8.allDirEnthc[3]'(by decide +kernel)), reaches_of (W8.hcS_calm 0 (by decide)) (by decide +kernel), by decide +kernel⟩⟩

theorem test_FabricRequests_met :
    (∃ i : Initiator, ∃ k : Fin 8, ∃ o : Fin 0x4000, ∃ q : Fin 17179869184, ∃ s : State, let whole := fun n : Nat => i.ep.val < 8 ∨ o.val % 4096 + n ≤ 4096; ∃ len : Fin 4097, let n := len.val; Path s i.ep k ∧ i.ep.val ≠ k.val ∧ q.val = 0x40000 + k.val * 0x8000 + o.val ∧ 1 ≤ n ∧ n ≤ 16 ∧ whole n ∧ o.val + n ≤ 0x4000) ∧
    (∃ i : Initiator, ∃ k : Fin 8, ∃ o : Fin 0x4000, ∃ q : Fin 17179869184, ∃ s : State, let whole := fun n : Nat => i.ep.val < 8 ∨ o.val % 4096 + n ≤ 4096; ∃ data : List Word, Path s i.ep k ∧ i.ep.val ≠ k.val ∧ q.val = 0x40000 + k.val * 0x8000 + o.val ∧ data ≠ [] ∧ data.length ≤ 16 ∧ whole data.length ∧ o.val + data.length ≤ 0x4000) ∧
    (∃ i : Initiator, ∃ k : Fin 8, ∃ o : Fin 0x4000, ∃ q : Fin 17179869184, ∃ s : State, let x := k.val * 0x4000 + o.val; Path s i.ep k ∧ i.ep.val ≠ k.val ∧ q.val = 0x40000 + k.val * 0x8000 + o.val ∧ (memRead s.close x).mark = .good) ∧
    (∃ y : Fin 32, ∃ tag : Fin 256, ∃ p : Pkt, ∃ s : State, let found := fun code : Nat => s.fab.inflight.find? (fun p => p.dst == y.val && p.tag == tag.val && p.code == code); Calm s ∧ (∀ d, domainOf y 0 = some d → domState s d = 0) ∧ awaits s y tag p.gen ∧ 22 ≤ y.val ∧ s.boot.hostWait = none ∧ s.jtag.wait = none ∧ (s.ni y).held = [] ∧ found 0 = some p) ∧
    (∃ y : Fin 32, ∃ tag : Fin 256, ∃ p : Pkt, ∃ s : State, let found := fun code : Nat => s.fab.inflight.find? (fun p => p.dst == y.val && p.tag == tag.val && p.code == code); Calm s ∧ (∀ d, domainOf y 0 = some d → domState s d = 0) ∧ awaits s y tag p.gen ∧ 22 ≤ y.val ∧ s.boot.hostWait = none ∧ s.jtag.wait = none ∧ (s.ni y).held = [] ∧ found 1 = some p) ∧
    (∃ y : Fin 32, ∃ tag : Fin 256, ∃ s : State, let v := tagOf s y tag; Calm s ∧ (∀ d, domainOf y 0 = some d → domState s d = 0) ∧ 22 ≤ y.val ∧ s.boot.hostWait = none ∧ s.jtag.wait = none ∧ (s.ni y).held = [] ∧ v.st = .busy ∧ v.issued + v.tmo + 1 ≤ s.tb.pulses ∧ v.coh = false ∧ v.snp = false) ∧
    (∃ y : Fin 32, ∃ tag : Fin 256, ∃ s : State, let v := tagOf s y tag; Calm s ∧ (∀ d, domainOf y 0 = some d → domState s d = 0) ∧ 22 ≤ y.val ∧ s.boot.hostWait = none ∧ s.jtag.wait = none ∧ (s.ni y).held = [] ∧ v.st = .orphan ∧ v.issued + 4 * v.tmo + 1 ≤ s.tb.pulses) :=
  ⟨⟨{ ep := 18, pl := 0, part := 0 }, 1, 0, 294912, (W9.ioS.getD 0 State.reset), 1, path_of (W9.ioS_calm 0 (by decide)) (linked_of (by decide +kernel)) (by decide +kernel) (by decide +kernel), by decide +kernel⟩,
   ⟨{ ep := 18, pl := 0, part := 0 }, 1, 0, 294912, (W9.ioS.getD 0 State.reset), [0x0000000001#40, 0x0000000002#40, 0x0000000003#40], path_of (W9.ioS_calm 0 (by decide)) (linked_of (by decide +kernel)) (by decide +kernel) (by decide +kernel), by decide +kernel⟩,
   ⟨{ ep := 18, pl := 0, part := 0 }, 1, 0, 294912, (W9.ioS.getD 0 State.reset), path_of (W9.ioS_calm 0 (by decide)) (linked_of (by decide +kernel)) (by decide +kernel) (by decide +kernel), by decide +kernel⟩,
   ⟨30, 7, (W9.allPkt[0]'(by decide +kernel)), (W9.ioS.getD 2 State.reset), (W9.ioS_calm 2 (by decide)), domains_of (by decide +kernel), by unfold awaits; decide +kernel, by decide +kernel⟩,
   ⟨30, 7, (W9.allPkt[1]'(by decide +kernel)), (W9.ioS.getD 3 State.reset), (W9.ioS_calm 3 (by decide)), domains_of (by decide +kernel), by unfold awaits; decide +kernel, by decide +kernel⟩,
   ⟨30, 7, (W9.ioS.getD 4 State.reset), (W9.ioS_calm 4 (by decide)), domains_of (by decide +kernel), by decide +kernel⟩,
   ⟨30, 7, (W9.ioS.getD 5 State.reset), (W9.ioS_calm 5 (by decide)), domains_of (by decide +kernel), by decide +kernel⟩⟩

theorem test_PowerDomains_met :
    (∃ d : Fin 21, ∃ s : State, Calm s ∧ domState s d = 1 ∧ drained s d = true) ∧
    (∃ d : Fin 21, ∃ s : State, ∃ w, Calm s ∧ SMap.find d.val s.fab.waking = some w ∧ s.fab.wake = [] ∧ s.fab.blocked = [] ∧ domState s d = 2 ∧ domShed s d = false ∧ d.val ≠ 12 ∧ d.val ≠ 13) ∧
    (∃ d : Fin 21, ∃ s : State, ∃ w, Calm s ∧ SMap.find d.val s.fab.waking = some w ∧ s.fab.wake = [] ∧ s.fab.blocked = [] ∧ (w.since + 51 ≤ s.tb.pulses ∨ domShed s d = true) ∧ d.val ≠ 12 ∧ d.val ≠ 13) ∧
    (∃ i : Initiator, ∃ d : Fin 21, ∃ s : State, let r := Reg.PWR_DOM d; Calm s ∧ Reaches r s ∧ initPl i < 2) ∧
    (∃ i : Initiator, ∃ d : Fin 21, ∃ v : Word, ∃ s : State, let r := Reg.PWR_DOM d; let empty := ∀ a, a ∈ domAgents d → (s.agent a).lines = []; Calm s ∧ Reaches r s ∧ 2 ≤ initPl i ∧ bget v 1 = false ∧ domState s d = 0 ∧ mayShut s d = true ∧ domShed s d = false ∧ empty) ∧
    (∃ i : Initiator, ∃ d : Fin 21, ∃ v : Word, ∃ s : State, let r := Reg.PWR_DOM d; Calm s ∧ Reaches r s ∧ 2 ≤ initPl i ∧ bget v 1 = false ∧ (domState s d ≠ 0 ∨ mayShut s d = false ∨ domShed s d = true)) ∧
    (∃ i : Initiator, ∃ d : Fin 21, ∃ v : Word, ∃ s : State, let r := Reg.PWR_DOM d; Calm s ∧ Reaches r s ∧ 2 ≤ initPl i ∧ bget v 0 = false ∧ domState s d = 2 ∧ SMap.find d.val s.fab.waking = none) ∧
    (∃ d : Fin 21, ∃ s : State, let r := Reg.PWR_DOM d; Calm s ∧ domState s d = 0 ∧ domIdle s d = true ∧ mayRetain s d = true ∧ s.bit r 3 = false ∧ domShed s d = false ∧ s.fld r 10 9 ≠ 2 ∧ d.val ≠ 12 ∧ d.val ≠ 13) :=
  ⟨⟨1, (W9.pwS.getD 1 State.reset), (W9.pwS_calm 1 (by decide)), by decide +kernel⟩,
   ⟨1, (W9.pwS.getD 3 State.reset), { since := 3, sw := true }, (W9.pwS_calm 3 (by decide)), by decide +kernel⟩,
   ⟨1, (W9.pwS.getD 3 State.reset), { since := 3, sw := true }, (W9.pwS_calm 3 (by decide)), by decide +kernel⟩,
   ⟨{ ep := 2, pl := 1, part := 0 }, 1, (W9.pwS.getD 0 State.reset), (W9.pwS_calm 0 (by decide)), reaches_of (W9.pwS_calm 0 (by decide)) (by decide +kernel), by decide +kernel⟩,
   ⟨{ ep := 18, pl := 0, part := 0 }, 1, 0x0000000000#40, (W9.pwS.getD 0 State.reset), (W9.pwS_calm 0 (by decide)), reaches_of (W9.pwS_calm 0 (by decide)) (by decide +kernel), by decide +kernel⟩,
   ⟨{ ep := 18, pl := 0, part := 0 }, 1, 0x0000000000#40, (W9.pwS.getD 1 State.reset), (W9.pwS_calm 1 (by decide)), reaches_of (W9.pwS_calm 1 (by decide)) (by decide +kernel), by decide +kernel⟩,
   ⟨{ ep := 18, pl := 0, part := 0 }, 1, 0x0000000000#40, (W9.pwS.getD 2 State.reset), (W9.pwS_calm 2 (by decide)), reaches_of (W9.pwS_calm 2 (by decide)) (by decide +kernel), by decide +kernel⟩,
   ⟨1, (W9.pwS.getD 0 State.reset), (W9.pwS_calm 0 (by decide)), by decide +kernel⟩⟩

theorem test_SupplyAndShedding_met :
    (∃ r0 : Fin 410, ∃ r1 : Fin 410, ∃ r2 : Fin 410, ∃ r3 : Fin 410, ∃ p : Nat, ∃ s : State, let low := 5 * min (min r0.val r1.val) (min r2.val r3.val); Calm s ∧ s.pwr.halted = false ∧ s.pwr.last = some p ∧ s.fld Reg.PWR_STATUS 2 0 = 0 ∧ (780 ≤ low ∨ 780 ≤ p)) ∧
    (∃ r0 : Fin 410, ∃ r1 : Fin 410, ∃ r2 : Fin 410, ∃ r3 : Fin 410, ∃ p : Nat, ∃ s : State, let low := 5 * min (min r0.val r1.val) (min r2.val r3.val); Calm s ∧ s.pwr.halted = false ∧ s.pwr.last = some p ∧ s.fld Reg.PWR_STATUS 2 0 = 0 ∧ low < 780 ∧ p < 780 ∧ (760 ≤ low ∨ 760 ≤ p)) ∧
    (∃ p : Nat, ∃ s : State, Calm s ∧ Reaches Reg.PWR_VMIN s ∧ s.pwr.halted = false ∧ s.pwr.last = some p) :=
  ⟨⟨155, 155, 155, 155, 790, (W9.suS.getD 0 State.reset), (W9.suS_calm 0 (by decide)), by decide +kernel⟩,
   ⟨155, 155, 155, 155, 770, (W9.suS.getD 1 State.reset), (W9.suS_calm 1 (by decide)), by decide +kernel⟩,
   ⟨790, (W9.suS.getD 0 State.reset), (W9.suS_calm 0 (by decide)), reaches_of (W9.suS_calm 0 (by decide)) (by decide +kernel), by decide +kernel⟩⟩

theorem test_TraceAndRoutes_met :
    (∃ s : State, let w := s.fld Reg.PRB_TRACE_WPTR 15 0; let l := s.fld Reg.PRB_TRACE_BASE 33 4 + w; ∃ recs, ∃ rest, Calm s ∧ FreeLine s 11 l ∧ s.fab.trace = recs ++ rest ∧ recs.length = 4 ∧ s.bit Reg.PRB_STATUS 0 = false ∧ s.net = []) ∧
    (∃ s : State, let n := s.fld Reg.FAB_RT_SEL 9 5; Calm s ∧ Reaches Reg.FAB_RT_DATA s ∧ (s.isSealed = true ∨ endpointExists n = false)) ∧
    (∃ v : Word, ∃ s : State, let n := s.fld Reg.FAB_RT_SEL 9 5; let d := s.fld Reg.FAB_RT_SEL 4 0; Calm s ∧ Reaches Reg.FAB_RT_DATA s ∧ s.isSealed = false ∧ endpointExists n = true ∧ fget v 14 12 ≠ 7 ∧ (bget v 15 = false ∨ endpointExists d = true ∧ wellFormedRoute n d (fget v 14 12) (fget v 11 0) = true)) ∧
    (∃ v : Word, ∃ s : State, let n := s.fld Reg.FAB_RT_SEL 9 5; Calm s ∧ Reaches Reg.FAB_RT_DATA s ∧ s.isSealed = false ∧ endpointExists n = true ∧ fget v 14 12 = 7) :=
  ⟨⟨(W9.trS.getD 0 State.reset), (W9.allList_TraceRec[1]'(by decide +kernel)), (W9.allList_TraceRec[2]'(by decide +kernel)), (W9.trS_calm 0 (by decide)), line_of (linked_of (by decide +kernel)) (home_of (by decide +kernel)) (by decide +kernel), by decide +kernel⟩,
   ⟨(W9.trS.getD 4 State.reset), (W9.trS_calm 4 (by decide)), reaches_of (W9.trS_calm 4 (by decide)) (by decide +kernel), by decide +kernel⟩,
   ⟨0x0000000000#40, (W9.trS.getD 0 State.reset), (W9.trS_calm 0 (by decide)), reaches_of (W9.trS_calm 0 (by decide)) (by decide +kernel), by decide +kernel⟩,
   ⟨0x000000f000#40, (W9.trS.getD 0 State.reset), (W9.trS_calm 0 (by decide)), reaches_of (W9.trS_calm 0 (by decide)) (by decide +kernel), by decide +kernel⟩⟩

theorem test_CuffBringUp_met :
    (∃ n : Fin 2, ∃ v : Word, ∃ s : State, Calm s ∧ Reaches (Reg.CUF_CTL n) s ∧ cufStopped s = false ∧ bget v 1 = false ∧ s.bit (Reg.CUF_CTL n) 0 = false ∧ bget v 0 = true) ∧
    (∃ n : Fin 2, ∃ v : Word, ∃ s : State, let st := s.fld (Reg.CUF_STATUS n) 2 0; Calm s ∧ Reaches (Reg.CUF_CTL n) s ∧ cufStopped s = false ∧ bget v 1 = false ∧ s.bit (Reg.CUF_CTL n) 0 = true ∧ bget v 0 = false ∧ 1 ≤ st ∧ st ≤ 3) ∧
    (∃ n : Fin 2, ∃ v : Word, ∃ s : State, let st := s.fld (Reg.CUF_STATUS n) 2 0; Calm s ∧ Reaches (Reg.CUF_CTL n) s ∧ s.bit (Reg.CUF_CTL n) 0 = true ∧ bget v 0 = true ∧ st = 2) ∧
    (∃ n : Fin 2, ∃ s : State, let st := s.fld (Reg.CUF_STATUS n) 2 0; let p := s.cufP n; Calm s ∧ st = 1 ∧ p.pll = false ∧ cufStopped s = false) ∧
    (∃ n : Fin 2, ∃ s : State, let st := s.fld (Reg.CUF_STATUS n) 2 0; let p := s.cufP n; Calm s ∧ st = 1 ∧ p.pll = true ∧ (∀ l, l < 4 → s.bit (Reg.CUF_LANE_STAT n l) 0 = true)) ∧
    (∃ n : Fin 2, ∃ s : State, let st := s.fld (Reg.CUF_STATUS n) 2 0; let p := s.cufP n; Calm s ∧ st = 1 ∧ p.pll = true ∧ p.gotTs2 = true) ∧
    (∃ n : Fin 2, ∃ s : State, let st := s.fld (Reg.CUF_STATUS n) 2 0; ∃ x : CufRx, Calm s ∧ Arrives s n x 9 0 ∧ st = 1 ∧ (rxPkt x).field / 2 ^ 23 % 2 = 1) ∧
    (∃ n : Fin 2, ∃ s : State, let st := s.fld (Reg.CUF_STATUS n) 2 0; let p := s.cufP n; Calm s ∧ st = 1 ∧ p.pll = true ∧ p.since + 1000 ≤ s.tb.pulses) ∧
    (∃ n : Fin 2, ∃ s : State, let st := s.fld (Reg.CUF_STATUS n) 2 0; Calm s ∧ (st = 2 ∨ st = 3)) ∧
    (∃ n : Fin 2, ∃ s : State, let st := s.fld (Reg.CUF_STATUS n) 2 0; let p := s.cufP n; Calm s ∧ st = 2 ∧ p.lastGood + 50 ≤ s.tb.pulses) ∧
    (∃ n : Fin 2, ∃ s : State, let st := s.fld (Reg.CUF_STATUS n) 2 0; let p := s.cufP n; Calm s ∧ st = 3 ∧ p.since + 30 ≤ s.tb.pulses) ∧
    (∃ n : Fin 2, ∃ s : State, let st := s.fld (Reg.CUF_STATUS n) 2 0; let p := s.cufP n; ∃ vc : Fin 9, ∃ w : Nat, Calm s ∧ st = 2 ∧ SMap.find vc.val p.watch = some w ∧ w + 1001 ≤ s.tb.pulses) ∧
    (∃ n : Fin 2, ∃ s : State, let st := s.fld (Reg.CUF_STATUS n) 2 0; let p := s.cufP n; ∃ tag : Fin 256, ∃ e : CufOut, ∃ w : Nat, Calm s ∧ SMap.find tag.val p.outTags = some e ∧ e.since = some w ∧ w + 10000 ≤ s.tb.pulses ∧ st = 2) ∧
    (∃ n : Fin 2, ∃ s : State, let st := s.fld (Reg.CUF_STATUS n) 2 0; let p := s.cufP n; Calm s ∧ st = 4 ∧ s.bit (Reg.CUF_CTL n) 0 = true ∧ cufStopped s = false ∧ p.since + 100 ≤ s.tb.pulses) :=
  ⟨⟨0, 0x0000000001#40, (W10a.stT.getD 0 State.reset), (W10a.stT_calm 0 (by decide)), reaches_of (W10a.stT_calm 0 (by decide)) (by decide +kernel), by decide +kernel⟩,
   ⟨0, 0x0000000000#40, (W10a.stT.getD 2 State.reset), (W10a.stT_calm 2 (by decide)), reaches_of (W10a.stT_calm 2 (by decide)) (by decide +kernel), by decide +kernel⟩,
   ⟨0, 0x0000000001#40, (W10a.stT.getD 7 State.reset), (W10a.stT_calm 7 (by decide)), reaches_of (W10a.stT_calm 7 (by decide)) (by decide +kernel), by decide +kernel⟩,
   ⟨0, (W10a.stT.getD 2 State.reset), (W10a.stT_calm 2 (by decide)), by decide +kernel⟩,
   ⟨0, (W10a.stT.getD 5 State.reset), (W10a.stT_calm 5 (by decide)), by decide +kernel⟩,
   ⟨0, (W10a.stT.getD 6 State.reset), (W10a.stT_calm 6 (by decide)), by decide +kernel⟩,
   ⟨0, (W10a.stT.getD 6 State.reset), (W10a.allCufRx[0]'(by decide +kernel)), (W10a.stT_calm 6 (by decide)), arrives_of (W10a.stT_calm 6 (by decide)) (by decide +kernel), by decide +kernel⟩,
   ⟨0, (W10a.stT.getD 4 State.reset), (W10a.stT_calm 4 (by decide)), by decide +kernel⟩,
   ⟨0, (W10a.stT.getD 7 State.reset), (W10a.stT_calm 7 (by decide)), by decide +kernel⟩,
   ⟨0, (W10a.stT.getD 8 State.reset), (W10a.stT_calm 8 (by decide)), by decide +kernel⟩,
   ⟨0, (W10a.stT.getD 11 State.reset), (W10a.stT_calm 11 (by decide)), by decide +kernel⟩,
   ⟨0, (W10a.stT.getD 9 State.reset), 0, 100, (W10a.stT_calm 9 (by decide)), by decide +kernel⟩,
   ⟨0, (W10a.stT.getD 10 State.reset), 5, (W10a.allCufOut[0]'(by decide +kernel)), 100, (W10a.stT_calm 10 (by decide)), by decide +kernel⟩,
   ⟨0, (W10a.stT.getD 12 State.reset), (W10a.stT_calm 12 (by decide)), by decide +kernel⟩⟩

theorem test_CuffPackets_met :
    (∃ n : Fin 2, ∃ x : CufRx, ∃ s : State, let p := rxPkt x; let c := s.cufP n; let tag := p.tag8; ∃ k : Nat, ∃ pa, Path s (20 + n) k ∧ Arrives s n x 2 0 ∧ k < 8 ∧ tag < 128 ∧ SMap.find tag c.inTags = none ∧ exposed s p.addr = some pa ∧ 0x40000 + k * 0x8000 ≤ pa ∧ pa + p.words ≤ 0x40000 + k * 0x8000 + 0x4000) ∧
    (∃ n : Fin 2, ∃ x : CufRx, ∃ s : State, let p := rxPkt x; let c := s.cufP n; let tag := p.tag8; ∃ k : Nat, ∃ pa, Path s (20 + n) k ∧ Arrives s n x 3 0 ∧ k < 8 ∧ tag < 128 ∧ SMap.find tag c.inTags = none ∧ exposed s p.addr = some pa ∧ 0x40000 + k * 0x8000 ≤ pa ∧ pa + p.words ≤ 0x40000 + k * 0x8000 + 0x4000) ∧
    (∃ n : Fin 2, ∃ x : CufRx, ∃ s : State, let p := rxPkt x; let c := s.cufP n; let tag := p.tag8; ∃ k : Nat, ∃ pa, Path s (20 + n) k ∧ Arrives s n x 4 0 ∧ k < 8 ∧ tag < 128 ∧ SMap.find tag c.inTags = none ∧ exposed s p.addr = some pa ∧ 0x40000 + k * 0x8000 ≤ pa ∧ pa + p.words ≤ 0x40000 + k * 0x8000 + 0x4000) ∧
    (∃ n : Fin 2, ∃ x : CufRx, ∃ s : State, let p := rxPkt x; let c := s.cufP n; let tag := p.tag8; ∃ k : Nat, Arrives s n x 2 0 ∧ k < 8 ∧ tag < 128 ∧ SMap.find tag c.inTags = none ∧ exposed s p.addr = none) ∧
    (∃ n : Fin 2, ∃ x : CufRx, ∃ s : State, let p := rxPkt x; let c := s.cufP n; ∃ e : CufOut, ∃ q : Pkt, Arrives s n x 5 0 ∧ Linked s q.dst q.src ∧ c.outTags = [(p.field / 2 ^ 34, e)] ∧ e.pkt = some q ∧ e.lead = none ∧ e.parts = 1 ∧ e.other = .ok ∧ p.field / 2 ^ 31 % 8 = 0) ∧
    (∃ n : Fin 2, ∃ x : CufRx, ∃ s : State, let p := rxPkt x; let c := s.cufP n; Arrives s n x 6 0 ∧ SMap.find (p.field / 2 ^ 34 % 256) c.msgIn = none ∧ p.field / 2 ^ 33 % 2 = 1 ∧ p.field / 2 ^ 32 % 2 = 0 ∧ fget (p.data.headD 0) 39 24 = s.fld Reg.CNS_EPOCH 15 0) ∧
    (∃ n : Fin 2, ∃ x : CufRx, ∃ s : State, ∃ len, Arrives s n x 8 0 ∧ s.boot.imgFor = some (len, n.val) ∧ cuffBoot s = true ∧ SMap.find n.val s.cns.imgLeft = none ∧ s.fld Reg.BSQ_STATUS 9 7 = 2) ∧
    (∃ n : Fin 2, ∃ x : CufRx, ∃ s : State, Arrives s n x 12 0 ∧ s.fld (Reg.CUF_STATUS n) 2 0 = 2) ∧
    (∃ n : Fin 2, ∃ x : CufRx, ∃ s : State, Arrives s n x 11 0 ∧ s.fld (Reg.CUF_STATUS n) 2 0 = 2) ∧
    (∃ n : Fin 2, ∃ x : CufRx, ∃ s : State, Arrives s n x 10 0 ∧ s.fld (Reg.CUF_STATUS n) 2 0 = 2) ∧
    (∃ n : Fin 2, ∃ x : CufRx, ∃ s : State, Arrives s n x 1 0) ∧
    (∃ n : Fin 2, ∃ x : CufRx, ∃ s : State, let c := s.cufP n; Arrives s n x 1 2 ∧ sget x.hdr 57 46 = (c.txNext + 4095) % 4096) ∧
    (∃ n : Fin 2, ∃ s : State, let c := s.cufP n; ∃ q, Calm s ∧ s.fld (Reg.CUF_STATUS n) 2 0 = 2 ∧ c.replay = [q] ∧ q.sent < 8 ∧ c.ackSince + s.fld (Reg.CUF_TIMERS n) 5 0 + 1 ≤ s.tb.pulses) ∧
    (∃ n : Fin 2, ∃ s : State, Reaches (Reg.CUF_INJECT n) s) :=
  ⟨⟨0, (W10b.allCufRx[0]'(by decide +kernel)), (W10b.sP.getD 2 State.reset), 1, 294912, path_of (W10b.sP_calm 2 (by decide)) (linked_of (by decide +kernel)) (by decide +kernel) (by decide +kernel), arrives_of (W10b.sP_calm 2 (by decide)) (by decide +kernel), by decide +kernel⟩,
   ⟨0, (W10b.allCufRx[2]'(by decide +kernel)), (W10b.sP.getD 2 State.reset), 1, 294913, path_of (W10b.sP_calm 2 (by decide)) (linked_of (by decide +kernel)) (by decide +kernel) (by decide +kernel), arrives_of (W10b.sP_calm 2 (by decide)) (by decide +kernel), by decide +kernel⟩,
   ⟨0, (W10b.allCufRx[3]'(by decide +kernel)), (W10b.sP.getD 2 State.reset), 1, 294913, path_of (W10b.sP_calm 2 (by decide)) (linked_of (by decide +kernel)) (by decide +kernel) (by decide +kernel), arrives_of (W10b.sP_calm 2 (by decide)) (by decide +kernel), by decide +kernel⟩,
   ⟨0, (W10b.allCufRx[1]'(by decide +kernel)), (W10b.sP.getD 2 State.reset), 0, arrives_of (W10b.sP_calm 2 (by decide)) (by decide +kernel), by decide +kernel⟩,
   ⟨0, (W10b.allCufRx[4]'(by decide +kernel)), (W10b.sP.getD 3 State.reset), (W10b.allCufOut[0]'(by decide +kernel)), (W10b.allPkt[0]'(by decide +kernel)), arrives_of (W10b.sP_calm 3 (by decide)) (by decide +kernel), linked_of (by decide +kernel), by decide +kernel⟩,
   ⟨0, (W10b.allCufRx[5]'(by decide +kernel)), (W10b.sP.getD 2 State.reset), arrives_of (W10b.sP_calm 2 (by decide)) (by decide +kernel), by decide +kernel⟩,
   ⟨0, (W10b.allCufRx[6]'(by decide +kernel)), (W10b.sP.getD 5 State.reset), 3, arrives_of (W10b.sP_calm 5 (by decide)) (by decide +kernel), by decide +kernel⟩,
   ⟨0, (W10b.allCufRx[7]'(by decide +kernel)), (W10b.sP.getD 2 State.reset), arrives_of (W10b.sP_calm 2 (by decide)) (by decide +kernel), by decide +kernel⟩,
   ⟨0, (W10b.allCufRx[8]'(by decide +kernel)), (W10b.sP.getD 2 State.reset), arrives_of (W10b.sP_calm 2 (by decide)) (by decide +kernel), by decide +kernel⟩,
   ⟨0, (W10b.allCufRx[9]'(by decide +kernel)), (W10b.sP.getD 2 State.reset), arrives_of (W10b.sP_calm 2 (by decide)) (by decide +kernel), by decide +kernel⟩,
   ⟨0, (W10b.allCufRx[10]'(by decide +kernel)), (W10b.sP.getD 2 State.reset), arrives_of (W10b.sP_calm 2 (by decide)) (by decide +kernel)⟩,
   ⟨0, (W10b.allCufRx[11]'(by decide +kernel)), (W10b.sP.getD 2 State.reset), arrives_of (W10b.sP_calm 2 (by decide)) (by decide +kernel), by decide +kernel⟩,
   ⟨0, (W10b.sP.getD 4 State.reset), (W10b.allCufPkt[0]'(by decide +kernel)), (W10b.sP_calm 4 (by decide)), by decide +kernel⟩,
   ⟨0, (W10b.sP.getD 0 State.reset), reaches_of (W10b.sP_calm 0 (by decide)) (by decide +kernel)⟩⟩

theorem test_ConsortMessages_met :
    (∃ n : Fin 2, ∃ x : CufRx, ∃ w0 : Word, ∃ w1 : Word, ∃ w2 : Word, ∃ w3 : Word, ∃ s : State, Mgmt s n x 0 w0 w1 w2 w3) ∧
    (∃ n : Fin 2, ∃ x : CufRx, ∃ w0 : Word, ∃ w1 : Word, ∃ w2 : Word, ∃ w3 : Word, ∃ s : State, Mgmt s n x 1 w0 w1 w2 w3 ∧ servoRuns s = true ∧ upstreamPort s = some n.val ∧ w2 = s.reg (Reg.CUF_TIME_TX_LO n)) ∧
    (∃ n : Fin 2, ∃ x : CufRx, ∃ w0 : Word, ∃ w1 : Word, ∃ w2 : Word, ∃ w3 : Word, ∃ s : State, Mgmt s n x 2 w0 w1 w2 w3 ∧ cnsLeader s = false ∧ cufJoined s n = true) ∧
    (∃ n : Fin 2, ∃ x : CufRx, ∃ w0 : Word, ∃ w1 : Word, ∃ w2 : Word, ∃ w3 : Word, ∃ s : State, Mgmt s n x 3 w0 w1 w2 w3 ∧ cnsLeader s = true ∧ cufJoined s n = true) ∧
    (∃ n : Fin 2, ∃ x : CufRx, ∃ w0 : Word, ∃ w1 : Word, ∃ w2 : Word, ∃ w3 : Word, ∃ s : State, Mgmt s n x 4 w0 w1 w2 w3 ∧ cnsLeader s = true ∧ s.isSealed = true ∧ s.fld Reg.BSQ_STATUS 6 5 = 0) ∧
    (∃ n : Fin 2, ∃ x : CufRx, ∃ w0 : Word, ∃ w1 : Word, ∃ w2 : Word, ∃ w3 : Word, ∃ s : State, Mgmt s n x 4 w0 w1 w2 w3 ∧ cnsLeader s = true ∧ s.isSealed = true ∧ s.fld Reg.BSQ_STATUS 6 5 ≠ 0) ∧
    (∃ n : Fin 2, ∃ x : CufRx, ∃ w0 : Word, ∃ w1 : Word, ∃ w2 : Word, ∃ w3 : Word, ∃ s : State, Mgmt s n x 5 w0 w1 w2 w3 ∧ fget w0 33 32 = ownId s ∧ cuffBoot s = true ∧ s.boot.imgFor = none) ∧
    (∃ n : Fin 2, ∃ s : State, let up := s.fld (Reg.CUF_STATUS n) 2 0 = 2; Calm s ∧ up ∧ cufJoined s n = true) ∧
    (∃ s : State, Calm s ∧ servoRuns s = true ∧ s.cns.everLocked = true ∧ s.cns.lastSample + 10000 ≤ s.tb.pulses) ∧
    (∃ n : Fin 2, ∃ s : State, let up := s.fld (Reg.CUF_STATUS n) 2 0 = 2; Calm s ∧ cuffBoot s = true ∧ s.boot.imgFor = none ∧ (s.cufP n).outq = [] ∧ (s.cufP n).replay = [] ∧ up) ∧
    (∃ s : State, Reaches Reg.CNS_CTL s) :=
  ⟨⟨0, (W10c.allCufRx[9]'(by decide +kernel)), 0x00000921b0#40, 0x0000000003#40, 0x0000000000#40, 0x0000000003#40, (W10c.sM.getD 0 State.reset), mgmt_of (arrives_of (W10c.sM_calm 0 (by decide)) (by decide +kernel)) (by decide +kernel)⟩,
   ⟨0, (W10c.allCufRx[12]'(by decide +kernel)), 0x1000070000#40, 0x000000000b#40, 0x000000004d#40, 0x0000000000#40, (W10c.sM.getD 6 State.reset), mgmt_of (arrives_of (W10c.sM_calm 6 (by decide)) (by decide +kernel)) (by decide +kernel), by decide +kernel⟩,
   ⟨0, (W10c.allCufRx[13]'(by decide +kernel)), 0x20000c0000#40, 0x0000000000#40, 0x0000000000#40, 0x0000000003#40, (W10c.sM.getD 0 State.reset), mgmt_of (arrives_of (W10c.sM_calm 0 (by decide)) (by decide +kernel)) (by decide +kernel), by decide +kernel⟩,
   ⟨0, (W10c.allCufRx[14]'(by decide +kernel)), 0x3400070000#40, 0x0000000000#40, 0x0000000000#40, 0x0000000001#40, (W10c.sM.getD 1 State.reset), mgmt_of (arrives_of (W10c.sM_calm 1 (by decide)) (by decide +kernel)) (by decide +kernel), by decide +kernel⟩,
   ⟨0, (W10c.allCufRx[15]'(by decide +kernel)), 0x4400070000#40, 0x0000000000#40, 0x0000000000#40, 0x0000000000#40, (W10c.sM.getD 1 State.reset), mgmt_of (arrives_of (W10c.sM_calm 1 (by decide)) (by decide +kernel)) (by decide +kernel), by decide +kernel⟩,
   ⟨0, (W10c.allCufRx[15]'(by decide +kernel)), 0x4400070000#40, 0x0000000000#40, 0x0000000000#40, 0x0000000000#40, (W10c.sM.getD 8 State.reset), mgmt_of (arrives_of (W10c.sM_calm 8 (by decide)) (by decide +kernel)) (by decide +kernel), by decide +kernel⟩,
   ⟨0, (W10c.allCufRx[16]'(by decide +kernel)), 0x5100070000#40, 0x0000000003#40, 0x0000000000#40, 0x0000000000#40, (W10c.sM.getD 10 State.reset), mgmt_of (arrives_of (W10c.sM_calm 10 (by decide)) (by decide +kernel)) (by decide +kernel), by decide +kernel⟩,
   ⟨0, (W10c.sM.getD 0 State.reset), (W10c.sM_calm 0 (by decide)), by decide +kernel⟩,
   ⟨(W10c.sM.getD 12 State.reset), (W10c.sM_calm 12 (by decide)), by decide +kernel⟩,
   ⟨0, (W10c.sM.getD 10 State.reset), (W10c.sM_calm 10 (by decide)), by decide +kernel⟩,
   ⟨(W10c.sM.getD 0 State.reset), reaches_of (W10c.sM_calm 0 (by decide)) (by decide +kernel)⟩⟩

theorem test_FunctionsAndRings_met :
    (∃ v : Word, ∃ s : State, let f := fget v 9 5; Reaches Reg.SEG_CMD s ∧ f < 16 ∧ s.bit (Reg.SEF_ID f) 8 = false ∧ (∀ q, q < 64 → q ∈ maskRings s → ringFn s q = none)) ∧
    (∃ v : Word, ∃ s : State, let f := fget v 9 5; Reaches Reg.SEG_CMD s ∧ f < 16 ∧ s.bit (Reg.SEF_ID f) 8 = true) ∧
    (∃ v : Word, ∃ s : State, let f := fget v 9 5; Reaches Reg.SEG_CMD s ∧ fnCreated s f = true ∧ fnMe s f = false ∧ (∀ q, q < 64 → ringFn s q = some f → ringState s q = 0) ∧ ringFn s 63 ≠ some f) ∧
    (∃ v : Word, ∃ s : State, let f := fget v 9 5; Reaches Reg.SEG_CMD s ∧ fnCreated s f = true ∧ fnMe s f = true) ∧
    (∃ v : Word, ∃ s : State, let f := fget v 9 5; let r := fget v 15 10; Reaches Reg.SEG_CMD s ∧ fnCreated s f = true ∧ ringQuiesced s r = true) ∧
    (∃ v : Word, ∃ s : State, let f := fget v 9 5; let r := fget v 15 10; Reaches Reg.SEG_CMD s ∧ fnCreated s f = true ∧ ringQuiesced s r = false) ∧
    (∃ v : Word, ∃ s : State, ∃ f : Fin 16, Reaches (Reg.SEF_CTL f) s ∧ (∀ r, (s.ring r).meAbort = 0) ∧ fnCreated s f = true ∧ fnMe s f = false ∧ bget v 0 = true) ∧
    (∃ v : Word, ∃ s : State, ∃ f : Fin 16, Reaches (Reg.SEF_CTL f) s ∧ (∀ r, (s.ring r).unit = none) ∧ fnCreated s f = true ∧ fnMe s f = true ∧ bget v 0 = false) ∧
    (∃ s : State, ∃ f : Fin 16, Calm s ∧ fnMe s f = false ∧ outstanding s f = 0 ∧ s.bit (Reg.SEF_STATUS f) 0 = false) ∧
    (∃ s : State, Reaches Reg.SEG_CTL s) :=
  ⟨⟨0x0000000000#40, (W11.gS.getD 0 State.reset), reaches_of (W11.gS_calm 0 (by decide)) (by decide +kernel), by decide +kernel⟩,
   ⟨0x0000000c40#40, (W11.gS.getD 0 State.reset), reaches_of (W11.gS_calm 0 (by decide)) (by decide +kernel), by decide +kernel⟩,
   ⟨0x0000000c40#40, (W11.gS.getD 0 State.reset), reaches_of (W11.gS_calm 0 (by decide)) (by decide +kernel), by decide +kernel⟩,
   ⟨0x0000000c40#40, (W11.gS.getD 8 State.reset), reaches_of (W11.gS_calm 8 (by decide)) (by decide +kernel), by decide +kernel⟩,
   ⟨0x0000000c40#40, (W11.gS.getD 0 State.reset), reaches_of (W11.gS_calm 0 (by decide)) (by decide +kernel), by decide +kernel⟩,
   ⟨0x0000000c40#40, (W11.gS.getD 9 State.reset), reaches_of (W11.gS_calm 9 (by decide)) (by decide +kernel), by decide +kernel⟩,
   ⟨0x0000000001#40, (W11.gS.getD 0 State.reset), 2, reaches_of (W11.gS_calm 0 (by decide)) (by decide +kernel), fun r => rfl, by decide +kernel⟩,
   ⟨0x0000000000#40, (W11.gS.getD 8 State.reset), 2, reaches_of (W11.gS_calm 8 (by decide)) (by decide +kernel), fun r => rfl, by decide +kernel⟩,
   ⟨(W11.gS.getD 0 State.reset), 2, (W11.gS_calm 0 (by decide)), by decide +kernel⟩,
   ⟨(W11.gS.getD 0 State.reset), reaches_of (W11.gS_calm 0 (by decide)) (by decide +kernel)⟩⟩

theorem test_RingRegisters_met :
    (∃ f : Fin 16, ∃ r : Fin 64, ∃ v : Word, ∃ s : State, let slot : Nat := 0x240100 + 0x1000 * f.val + 16 * r.val; let n := ringN s r; let ahead := mod16 (fget v 15 0) (ringHead s r); Reaches slot s ∧ fnCreated s f = true ∧ ringFn s r = some f.val ∧ ahead ≤ n ∧ mod16 (fget v 15 0) (ringTail s r) ≤ n - handedOver s r) ∧
    (∃ f : Fin 16, ∃ r : Fin 64, ∃ v : Word, ∃ s : State, let slot : Nat := 0x240100 + 0x1000 * f.val + 16 * r.val; let n := ringN s r; let ahead := mod16 (fget v 15 0) (ringHead s r); Reaches slot s ∧ fnCreated s f = true ∧ ringFn s r = some f.val ∧ n < ahead) ∧
    (∃ f : Fin 16, ∃ r : Fin 64, ∃ v : Word, ∃ s : State, let cfg := Reg.SEF_RING_CFG r; let slot : Nat := 0x240100 + 0x1000 * f.val + 16 * r.val; let s' := s.setReg cfg (bset v 39 true); Reaches slot s ∧ fnCreated s f = true ∧ ringFn s r = some f.val ∧ ringEn s r = false ∧ fget v 35 32 ≠ 0 ∧ fget v 35 32 ≤ 9 ∧ 4 ≤ fget v 30 27 ∧ fget v 30 27 ≤ 12 ∧ bindOk s' r = true ∧ dirOk s' r = true ∧ arrayPa s' r ≠ none ∧ bindBusy s' r = false) ∧
    (∃ f : Fin 16, ∃ r : Fin 64, ∃ v : Word, ∃ s : State, let cfg := Reg.SEF_RING_CFG r; let slot : Nat := 0x240100 + 0x1000 * f.val + 16 * r.val; let s' := s.setReg cfg (bset v 39 true); Reaches slot s ∧ fnCreated s f = true ∧ ringFn s r = some f.val ∧ ringEn s r = false ∧ fget v 35 32 ≠ 0 ∧ fget v 35 32 ≤ 9 ∧ 4 ≤ fget v 30 27 ∧ fget v 30 27 ≤ 12 ∧ bindOk s' r = true ∧ dirOk s' r = true ∧ arrayPa s' r = none) ∧
    (∃ f : Fin 16, ∃ r : Fin 64, ∃ s : State, let st := ringState s r; let slot : Nat := 0x240100 + 0x1000 * f.val + 16 * r.val; Reaches slot s ∧ fnCreated s f = true ∧ ringFn s r = some f.val ∧ ringEn s r = true ∧ st ≠ 0) ∧
    (∃ f : Fin 16, ∃ r : Fin 64, ∃ s : State, let st := ringState s r; let slot : Nat := 0x240100 + 0x1000 * f.val + 16 * r.val; Reaches slot s ∧ fnCreated s f = true ∧ ringFn s r = some f.val ∧ st = 3) ∧
    (∃ f : Fin 16, ∃ r : Fin 64, ∃ s : State, let st := ringState s r; let slot : Nat := 0x240100 + 0x1000 * f.val + 16 * r.val; Reaches slot s ∧ fnCreated s f = true ∧ ringFn s r = some f.val ∧ st ≠ 3) ∧
    (∃ f : Fin 16, ∃ r : Fin 64, ∃ v : Word, ∃ s : State, let slot : Nat := 0x240100 + 0x1000 * f.val + 16 * r.val; let n := ringN s r; Reaches slot s ∧ fnCreated s f = true ∧ ringFn s r = some f.val ∧ ringKind s r = 7 ∧ mod16 (fget v 15 0) (ringHead s r) < handedOver s r ∧ handedOver s r ≤ n ∧ n ≤ 16384 ∧ (s.ring r).unit = none) ∧
    (∃ f : Fin 16, ∃ r : Fin 64, ∃ s : State, let slot : Nat := 0x240100 + 0x1000 * f.val + 16 * r.val; Reaches slot s ∧ fnCreated s f = true ∧ ringFn s r ≠ some f.val) ∧
    (∃ r : Fin 64, ∃ s : State, let st := ringState s r; Calm s ∧ st = 2 ∧ (s.ring r).unit = none ∧ (s.ring r).jobs = [] ∧ (∀ e, e ∈ s.seg.reqs → e.2.ring ≠ r.val)) :=
  ⟨⟨2, 3, 0x0000000000#40, (W11.gS.getD 0 State.reset), reaches_of (W11.gS_calm 0 (by decide)) (by decide +kernel), by decide +kernel⟩,
   ⟨2, 3, 0x0000000000#40, (W11.gS.getD 9 State.reset), reaches_of (W11.gS_calm 9 (by decide)) (by decide +kernel), by decide +kernel⟩,
   ⟨2, 3, 0x0720000000#40, (W11.gS.getD 0 State.reset), reaches_of (W11.gS_calm 0 (by decide)) (by decide +kernel), by decide +kernel⟩,
   ⟨2, 3, 0x0720000000#40, (W11.gS.getD 16 State.reset), reaches_of (W11.gS_calm 16 (by decide)) (by decide +kernel), by decide +kernel⟩,
   ⟨2, 3, (W11.gS.getD 9 State.reset), reaches_of (W11.gS_calm 9 (by decide)) (by decide +kernel), by decide +kernel⟩,
   ⟨2, 3, (W11.gS.getD 11 State.reset), reaches_of (W11.gS_calm 11 (by decide)) (by decide +kernel), by decide +kernel⟩,
   ⟨2, 3, (W11.gS.getD 0 State.reset), reaches_of (W11.gS_calm 0 (by decide)) (by decide +kernel), by decide +kernel⟩,
   ⟨2, 3, 0x0000000006#40, (W11.gS.getD 9 State.reset), reaches_of (W11.gS_calm 9 (by decide)) (by decide +kernel), by decide +kernel⟩,
   ⟨2, 3, (W11.gS.getD 2 State.reset), reaches_of (W11.gS_calm 2 (by decide)) (by decide +kernel), by decide +kernel⟩,
   ⟨3, (W11.gS.getD 10 State.reset), (W11.gS_calm 10 (by decide)), by decide +kernel⟩⟩

theorem test_StreamUnits_met :
    (∃ r : Fin 64, ∃ s : State, let rg := s.ring r; let f := fnOf s r; let still := ringIsRx s r = true ∨ (s.bit Reg.SEG_CTL 0 = true ∧ rg.unit = none); ∃ base : Nat, ∃ pa : Nat, let k := rg.fetched.length; let idx := (ringHead s r + k) % 65536; let q := readSlot (base + 4 * (idx % ringN s r)) (s.inc (Reg.SEF_REQ_CNT f)); let s1 := q.2.2; let w0 := q.2.1.getD 0 0; let w1 := q.2.1.getD 1 0; let d : FDesc := ⟨idx, w0, w1, pa, 0⟩; let rx := ringIsRx s r; Calm s ∧ domState s 14 = 0 ∧ still ∧ ringRuns s r = true ∧ k < handedOver s r ∧ k < fetchLimit s r ∧ k < 16 ∧ ringKind s r ≠ 9 ∧ arrayPa s r = some base ∧ q.1 = .ok ∧ descOk s1 r false ⟨idx, w0, w1, 0, 0⟩ (q.2.1.getD 2 0) (q.2.1.getD 3 0) (if framedKind (ringKind s1 r) && !(rg.fetched.any descEof) then rg.fetched.head? else none) = true ∧ segRange s1 f (fget w0 33 0) (descWords s1 r (descLen d)) (if rx then 2 else 1) (!rx) rx = some pa) ∧
    (∃ r : Fin 64, ∃ s : State, let rg := s.ring r; ∃ u : RUnit, Calm s ∧ s.eth.wire = none ∧ domState s 14 = 0 ∧ (ringIsRx s r = true ∨ s.bit Reg.SEG_CTL 0 = true) ∧ rg.unit = some u ∧ u.complete = true) ∧
    (∃ r : Fin 64, ∃ s : State, let rg := s.ring r; ∃ j : StatJob, ∃ l : List StatJob, let s0 := s.setRing r { rg with jobs := l }; let q := statPuts (arrayPa s0 r) (ringN s0 r) j.writes (s0.addTo (Reg.SEF_REQ_CNT j.func) j.writes.length); Calm s ∧ Calm q.2 ∧ rg.jobs = j :: l ∧ j.func < 16 ∧ j.gen = fnGen s j.func ∧ q.1 = none) ∧
    (∃ r : Fin 64, ∃ s : State, let rg := s.ring r; ∃ j : StatJob, ∃ l : List StatJob, let s0 := s.setRing r { rg with jobs := l }; let s2 := if freeNat s0 % 2 = 1 then (statPuts (arrayPa s0 r) (ringN s0 r) j.writes (takeFresh s0)).2 else takeFresh s0; Calm s ∧ Calm s2 ∧ rg.jobs = j :: l ∧ j.func < 16 ∧ j.gen ≠ fnGen s j.func) ∧
    (∃ r : Fin 64, ∃ s : State, let rg := s.ring r; ∃ j : StatJob, ∃ l : List StatJob, Calm s ∧ rg.jobs = j :: l ∧ 16 ≤ j.func) ∧
    (∃ r : Fin 64, ∃ s : State, let rg := s.ring r; let f := fnOf s r; ∃ d : FDesc, ∃ w : Word, ∃ tk : Word, let s0 := setUnit r { freshUnit with n := 1, lens := [0], ts := some tk } s; let q := cohWrite 8 3 d.pa 31 [⟨w, .good⟩] (s0.inc (Reg.SEF_REQ_CNT f)); Calm s ∧ domState s 14 = 0 ∧ ringKind s r = 7 ∧ ringDir s r = true ∧ ringRuns s r = true ∧ noStart s r = false ∧ rg.unit = none ∧ rg.hold = none ∧ rg.dropping = false ∧ rg.fetched = [d] ∧ 1 ≤ descLen d ∧ (s.midIn (ringBind s r % 4)).q = [(w, tk)] ∧ canIssue s0 r d.pa 1 true = true ∧ peerOrClose s0 d.pa = false ∧ q.1 = .ok) ∧
    (∃ r : Fin 64, ∃ s : State, let rg := s.ring r; ∃ h, Calm s ∧ rg.hold = some h ∧ h + s.fld (Reg.SEF_RING_CFG2 r) 9 0 + 1 ≤ s.tb.pulses ∧ framedKind (ringKind s r) = false) ∧
    (∃ r : Fin 64, ∃ s : State, let rg := s.ring r; ∃ h, Calm s ∧ rg.hold = some h ∧ s.tb.pulses ≤ h + s.fld (Reg.SEF_RING_CFG2 r) 9 0) ∧
    (∃ r : Fin 64, ∃ s : State, let rg := s.ring r; ∃ u : RUnit, ∃ h : Nat, Calm s ∧ rg.unit = some u ∧ u.since = some h ∧ h + 2 ≤ s.tb.pulses ∧ u.wait = none ∧ ringKind s r = 10) :=
  ⟨⟨3, (W12.S6.getD 1 State.reset), 1048832, 1050624, (W12.S6_calm 1 (by decide)), by decide +kernel⟩,
   ⟨3, (W12.S6.getD 4 State.reset), (W12.allRUnit[0]'(by decide +kernel)), (W12.S6_calm 4 (by decide)), by decide +kernel⟩,
   ⟨3, (W12.S6.getD 5 State.reset), (W12.allStatJob[0]'(by decide +kernel)), [], (W12.S6_calm 5 (by decide)), calm_of (by decide +kernel), by decide +kernel⟩,
   ⟨3, (W12.S6.getD 12 State.reset), (W12.allStatJob[1]'(by decide +kernel)), [], (W12.S6_calm 12 (by decide)), calm_ite (by decide +kernel) (by decide +kernel), by decide +kernel⟩,
   ⟨3, (W12.S6.getD 13 State.reset), (W12.allStatJob[2]'(by decide +kernel)), [], (W12.S6_calm 13 (by decide)), by decide +kernel⟩,
   ⟨3, (W12.S6.getD 2 State.reset), (W12.allFDesc[0]'(by decide +kernel)), 0x0000000077#40, 0x0000000384#40, (W12.S6_calm 2 (by decide)), by decide +kernel⟩,
   ⟨3, (W12.S6.getD 9 State.reset), 10, (W12.S6_calm 9 (by decide)), by decide +kernel⟩,
   ⟨3, (W12.S6.getD 10 State.reset), 10, (W12.S6_calm 10 (by decide)), by decide +kernel⟩,
   ⟨3, (W12.S6.getD 11 State.reset), (W12.allRUnit[2]'(by decide +kernel)), 12, (W12.S6_calm 11 (by decide)), by decide +kernel⟩⟩

theorem test_DramController_met :
    (∃ n : Fin 2, ∃ s : State, let d := s.dmc n; ∃ k : Fin 4, let p := s.fld (Reg.DMC_FILL n k) 11 0; let l := dramBase / 16 + s.fld (Reg.DMC_FILL n k) 38 22 * 4096 + p; Calm s ∧ dmcSt s n = .serving ∧ s.bit (Reg.DMC_FILL n k) 39 = true ∧ s.bit (Reg.DMC_CTL n) 1 = true ∧ d.selfRef = false ∧ d.inject = .none ∧ lineOfChannel s n l = true ∧ watOf s n k p = none ∧ p < 4095) ∧
    (∃ n : Fin 2, ∃ s : State, let d := s.dmc n; ∃ k : Fin 4, let p := s.fld (Reg.DMC_FILL n k) 11 0; let l := dramBase / 16 + s.fld (Reg.DMC_FILL n k) 38 22 * 4096 + p; Calm s ∧ dmcSt s n = .serving ∧ s.bit (Reg.DMC_FILL n k) 39 = true ∧ s.bit (Reg.DMC_CTL n) 1 = true ∧ d.selfRef = false ∧ d.inject = .none ∧ lineOfChannel s n l = true ∧ watOf s n k p = none ∧ p = 4095) ∧
    (∃ n : Fin 2, ∃ s : State, let d := s.dmc n; ∃ e, Calm s ∧ dmcSt s n = .serving ∧ d.waits = [e] ∧ s.bit (Reg.DMC_CTL n) 1 = false ∧ d.wq.length < 32) ∧
    (∃ n : Fin 2, ∃ s : State, let d := s.dmc n; ∃ e : WqEnt, ∃ l : List WqEnt, Calm s ∧ dmcSt s n = .serving ∧ d.wq = e :: l ∧ e.mask % 2 ^ 80 = 2 ^ 80 - 1 ∧ e.data.length = 16 ∧ d.inject = .none) ∧
    (∃ n : Fin 2, ∃ s : State, Calm s ∧ dmcSt s n = .serving ∧ s.fld (Reg.DMC_SCRUB_CTL n) 4 0 = 1 ∧ readsZero s n (paLine s n (s.fld (Reg.DMC_SCRUB_PTR n) 27 0)) = true ∧ s.fld (Reg.DMC_SCRUB_PTR n) 27 0 + 1 < dmcCap s n * 2 ^ 26) ∧
    (∃ n : Fin 2, ∃ s : State, let d := s.dmc n; ∃ rank : Bool, let k := SMap.getD 0 (b2n rank) d.postponed; Calm s ∧ dmcSt s n = .serving ∧ (rank = false ∨ s.bit (Reg.DMC_GEOM n) 1 = true) ∧ k < 8) ∧
    (∃ n : Fin 2, ∃ s : State, Reaches (Reg.DMC_CTL n) s ∧ s.bit (Reg.DMC_CTL n) 0 = false ∧ s.bit (Reg.DMC_GEOM n) 0 = true) ∧
    (∃ n : Fin 2, ∃ s : State, Reaches (Reg.DMC_CTL n) s ∧ s.bit (Reg.DMC_CTL n) 0 = false ∧ s.bit (Reg.DMC_GEOM n) 0 = false) ∧
    (∃ n : Fin 2, ∃ s : State, Reaches (Reg.DMC_CTL n) s ∧ s.bit (Reg.DMC_CTL n) 0 = true) ∧
    (∃ n : Fin 2, ∃ s : State, let d := s.dmc n; Calm s ∧ s.tb.xbLost = false ∧ d.busy = some false) ∧
    (∃ n : Fin 2, ∃ s : State, let d := s.dmc n; Calm s ∧ s.tb.xbLost = false ∧ d.busy = some true) ∧
    (∃ n : Fin 2, ∃ s : State, Reaches (Reg.DMC_INJECT n) s) :=
  ⟨⟨0, (W13.S7.getD 2 State.reset), 0, (W13.S7_calm 2 (by decide)), by decide +kernel⟩,
   ⟨0, (W13.S7.getD 3 State.reset), 0, (W13.S7_calm 3 (by decide)), by decide +kernel⟩,
   ⟨0, (W13.S7.getD 4 State.reset), (W13.allWqEnt[0]'(by decide +kernel)), (W13.S7_calm 4 (by decide)), by decide +kernel⟩,
   ⟨0, (W13.S7.getD 5 State.reset), (W13.allWqEnt[0]'(by decide +kernel)), (W13.allList_WqEnt[1]'(by decide +kernel)), (W13.S7_calm 5 (by decide)), by decide +kernel⟩,
   ⟨0, (W13.S7.getD 6 State.reset), (W13.S7_calm 6 (by decide)), by decide +kernel⟩,
   ⟨0, (W13.S7.getD 1 State.reset), true, (W13.S7_calm 1 (by decide)), by decide +kernel⟩,
   ⟨0, (W13.S7.getD 8 State.reset), reaches_of (W13.S7_calm 8 (by decide)) (by decide +kernel), by decide +kernel⟩,
   ⟨0, (W13.S7.getD 0 State.reset), reaches_of (W13.S7_calm 0 (by decide)) (by decide +kernel), by decide +kernel⟩,
   ⟨0, (W13.S7.getD 1 State.reset), reaches_of (W13.S7_calm 1 (by decide)) (by decide +kernel), by decide +kernel⟩,
   ⟨0, (W13.S7.getD 10 State.reset), (W13.S7_calm 10 (by decide)), by decide +kernel⟩,
   ⟨0, (W13.S7.getD 11 State.reset), (W13.S7_calm 11 (by decide)), by decide +kernel⟩,
   ⟨0, (W13.S7.getD 0 State.reset), reaches_of (W13.S7_calm 0 (by decide)) (by decide +kernel)⟩⟩

theorem test_AudioAndMidi_met :
    (∃ n : Fin 8, ∃ v : Word, ∃ s : State, let p := s.aud n; let ctl := Reg.AUD_CTL n; Reaches ctl s ∧ s.bit ctl 0 = false ∧ p.on = false ∧ s.bit ctl 5 = bget v 5 ∧ audRingEn s n = true ∧ audRateOk s n = true) ∧
    (∃ n : Fin 8, ∃ s : State, let p := s.aud n; let ctl := Reg.AUD_CTL n; Reaches ctl s ∧ s.bit ctl 0 = false ∧ p.on = false ∧ audRingEn s n = true ∧ audRateOk s n = false) ∧
    (∃ n : Fin 8, ∃ s : State, let ctl := Reg.AUD_CTL n; Reaches ctl s ∧ s.bit ctl 0 = true) ∧
    (∃ n : Fin 8, ∃ s : State, let p := s.aud n; let en := audMask s n true; ∃ k : Nat, SlaveSends s n ∧ (p.started = false ∨ k = audBpf s n) ∧ en.length ≤ audPresent s n s.now) ∧
    (∃ n : Fin 8, ∃ s : State, let p := s.aud n; let stat := Reg.AUD_STATUS n; let en := audMask s n true; ∃ k : Nat, SlaveSends s n ∧ (p.started = false ∨ k = audBpf s n) ∧ audPresent s n s.now < en.length ∧ p.lack = 0 ∧ s.bit stat 6 = true) ∧
    (∃ n : Fin 8, ∃ s : State, let p := s.aud n; let ctl := Reg.AUD_CTL n; ∃ k : Nat, SlaveSends s n ∧ p.started = true ∧ k ≠ audBpf s n ∧ s.bit ctl 4 = false) ∧
    (∃ n : Fin 8, ∃ s : State, let p := s.aud n; let ctl := Reg.AUD_CTL n; ∃ slots : List (BitVec 32), let got := (audMask s n false).map (fun k => BitVec.ofNat 40 ((slots.getD k 0).toNat % 2 ^ audWidth s n * 2 ^ (40 - audWidth s n))); Calm s ∧ p.on = true ∧ p.started = true ∧ s.bit ctl 4 = true ∧ got ≠ [] ∧ p.inQ.length + got.length ≤ 64) ∧
    (∃ n : Fin 8, ∃ s : State, let p := s.aud n; let ctl := Reg.AUD_CTL n; ∃ slots : List (BitVec 32), let got := (audMask s n false).map (fun k => BitVec.ofNat 40 ((slots.getD k 0).toNat % 2 ^ audWidth s n * 2 ^ (40 - audWidth s n))); Calm s ∧ p.on = true ∧ p.started = true ∧ s.bit ctl 4 = true ∧ got ≠ [] ∧ 64 < p.inQ.length + got.length) ∧
    (∃ n : Fin 8, ∃ s : State, let p := s.aud n; Calm s ∧ p.on = true ∧ audMaster s n = false ∧ tbRunning s = true ∧ p.last + 5 * genNum s (audGen s n) ≤ s.now ∧ genDen s (audGen s n) ≠ 0) ∧
    (∃ n : Fin 8, ∃ v : Word, ∃ s : State, Reaches (Reg.AUD_INJECT n) s ∧ bget v 1 = false) ∧
    (∃ n : Fin 8, ∃ v : Word, ∃ s : State, Reaches (Reg.AUD_INJECT n) s ∧ bget v 0 = false) ∧
    (∃ m : Fin 4, ∃ s : State, let p := s.midIn m; Calm s ∧ p.low = false ∧ smallStopped s = false ∧ p.q.length < 16) ∧
    (∃ m : Fin 4, ∃ s : State, let p := s.midIn m; Calm s ∧ p.low = false ∧ smallStopped s = false ∧ 16 ≤ p.q.length) ∧
    (∃ m : Fin 4, ∃ s : State, let q := s.midOut m; ∃ w : Word, ∃ l : List Word, Calm s ∧ q.q = w :: l ∧ bget w 9 = false ∧ bget w 8 = false ∧ q.last = none ∧ smallStopped s = false ∧ boundRing s 7 m false = none) :=
  ⟨⟨0, 0x0000000000#40, (W14.S8.getD 2 State.reset), reaches_of (W14.S8_calm 2 (by decide)) (by decide +kernel), by decide +kernel⟩,
   ⟨0, (W14.S8.getD 1 State.reset), reaches_of (W14.S8_calm 1 (by decide)) (by decide +kernel), by decide +kernel⟩,
   ⟨0, (W14.S8.getD 3 State.reset), reaches_of (W14.S8_calm 3 (by decide)) (by decide +kernel), by decide +kernel⟩,
   ⟨0, (W14.S8.getD 12 State.reset), 0, slave_of (W14.S8_calm 12 (by decide)) (by decide +kernel), by decide +kernel⟩,
   ⟨0, (W14.S8.getD 13 State.reset), 0, slave_of (W14.S8_calm 13 (by decide)) (by decide +kernel), by decide +kernel⟩,
   ⟨0, (W14.S8.getD 6 State.reset), 0, slave_of (W14.S8_calm 6 (by decide)) (by decide +kernel), by decide +kernel⟩,
   ⟨0, (W14.S8.getD 5 State.reset), [], (W14.S8_calm 5 (by decide)), by decide +kernel⟩,
   ⟨0, (W14.S8.getD 8 State.reset), [], (W14.S8_calm 8 (by decide)), by decide +kernel⟩,
   ⟨0, (W14.S8.getD 9 State.reset), (W14.S8_calm 9 (by decide)), by decide +kernel⟩,
   ⟨0, 0x0000000000#40, (W14.S8.getD 0 State.reset), reaches_of (W14.S8_calm 0 (by decide)) (by decide +kernel), by decide +kernel⟩,
   ⟨0, 0x0000000000#40, (W14.S8.getD 0 State.reset), reaches_of (W14.S8_calm 0 (by decide)) (by decide +kernel), by decide +kernel⟩,
   ⟨0, (W14.S8.getD 0 State.reset), (W14.S8_calm 0 (by decide)), by decide +kernel⟩,
   ⟨0, (W14.S8.getD 10 State.reset), (W14.S8_calm 10 (by decide)), by decide +kernel⟩,
   ⟨0, (W14.S8.getD 10 State.reset), 0x000000007f#40, [0x0000000033#40], (W14.S8_calm 10 (by decide)), by decide +kernel⟩⟩

theorem test_SmallPorts_met :
    (∃ p : Fin 3, ∃ s : State, let c := s.i2c p; ∃ d : Nat, ∃ l : List Nat, Calm s ∧ s.bit (Reg.I2C_CTL p) 0 = true ∧ smallStopped s = false ∧ c.cmds = d :: l ∧ d / 256 = 0) ∧
    (∃ p : Fin 3, ∃ s : State, let c := s.i2c p; ∃ d : Nat, ∃ l : List Nat, Calm s ∧ s.bit (Reg.I2C_CTL p) 0 = true ∧ smallStopped s = false ∧ c.cmds = d :: l ∧ d / 256 = 1) ∧
    (∃ p : Fin 3, ∃ s : State, let c := s.i2c p; ∃ d : Nat, ∃ l : List Nat, Calm s ∧ s.bit (Reg.I2C_CTL p) 0 = true ∧ smallStopped s = false ∧ c.cmds = d :: l ∧ d / 256 = 2 ∧ c.rx.length < 16) ∧
    (∃ p : Fin 3, ∃ s : State, let c := s.i2c p; ∃ d : Nat, ∃ l : List Nat, Calm s ∧ s.bit (Reg.I2C_CTL p) 0 = true ∧ smallStopped s = false ∧ c.cmds = d :: l ∧ d / 256 = 2 ∧ 16 ≤ c.rx.length ∧ c.stretched = false) ∧
    (∃ p : Fin 3, ∃ s : State, let c := s.i2c p; ∃ d : Nat, ∃ l : List Nat, Calm s ∧ s.bit (Reg.I2C_CTL p) 0 = true ∧ smallStopped s = false ∧ c.cmds = d :: l ∧ d / 256 = 3 ∧ c.rx.length < 16) ∧
    (∃ p : Fin 3, ∃ s : State, let c := s.i2c p; ∃ d : Nat, ∃ l : List Nat, Calm s ∧ s.bit (Reg.I2C_CTL p) 0 = true ∧ smallStopped s = false ∧ c.cmds = d :: l ∧ d / 256 = 4) ∧
    (∃ p : Fin 3, ∃ s : State, Reaches (Reg.I2C_RXDATA p) s) ∧
    (∃ v : Word, ∃ s : State, Reaches Reg.QSPI_CMD s ∧ s.ports.qspi = none ∧ fget v 31 29 ≤ 4 ∧ fget v 28 27 ≠ 3 ∧ fget v 6 0 ≤ 120) ∧
    (∃ v : Word, ∃ s : State, Reaches Reg.QSPI_CMD s ∧ s.ports.qspi = none ∧ (4 < fget v 31 29 ∨ fget v 28 27 = 3 ∨ 120 < fget v 6 0)) ∧
    (∃ v : Word, ∃ s : State, ∃ os : List (BitVec 8), Calm s ∧ s.ports.qspi = some v ∧ s.tb.xbLost = false ∧ fget v 6 0 ≤ 120 ∧ fget v 6 0 ≤ os.length) ∧
    (∃ v : Word, ∃ s : State, Reaches Reg.EMC_CMD s ∧ s.bit Reg.EMC_CTL 0 = true ∧ s.emc.cmd = none ∧ (s.emc.xfer = none ∨ fget v 15 10 = 12)) ∧
    (∃ s : State, Reaches Reg.EMC_CMD s ∧ s.bit Reg.EMC_CTL 0 = false) ∧
    (∃ v : Word, ∃ s : State, Calm s ∧ smallStopped s = false ∧ s.emc.cmd = some v ∧ s.emc.inject = 0 ∧ bget v 7 = false ∧ fget v 15 10 ≠ 12) ∧
    (∃ s : State, ∃ data : List Word, Calm s ∧ smallStopped s = false ∧ s.emc.cmd = none ∧ s.emc.xfer = some false ∧ s.emc.left = some 1 ∧ s.emc.buf = [] ∧ s.emc.inject = 0 ∧ data.length = 103 ∧ s.emc.stopped = false) ∧
    (∃ s : State, Calm s ∧ s.emc.cmd.isSome = true ∧ smallStopped s = false) ∧
    (∃ s : State, Reaches Reg.EMC_DATA s ∧ s.emc.buf.length < 206) ∧
    (∃ v : Word, ∃ s : State, ∃ l : List Word, Reaches Reg.EMC_DATA s ∧ s.emc.buf = v :: l) ∧
    (∃ s : State, Reaches Reg.EMC_TUNE s) ∧
    (∃ s : State, Reaches Reg.EMC_INJECT s) ∧
    (∃ s : State, ∃ l : Fin 48, ∃ rise : Bool, Calm s ∧ gpioBit s Reg.GPIO_IN_LO l ≠ rise ∧ gpioBit s Reg.GPIO_DEB_EN_LO l = false) ∧
    (∃ s : State, Reaches Reg.GPIO_OUT_SET_LO s) :=
  ⟨⟨0, (W15.S9.getD 2 State.reset), 5, [341, 1024, 1], (W15.S9_calm 2 (by decide)), by decide +kernel⟩,
   ⟨0, (W15.S9.getD 3 State.reset), 341, [], (W15.S9_calm 3 (by decide)), by decide +kernel⟩,
   ⟨0, (W15.S9.getD 4 State.reset), 512, [], (W15.S9_calm 4 (by decide)), by decide +kernel⟩,
   ⟨0, (W15.S9.getD 5 State.reset), 512, [], (W15.S9_calm 5 (by decide)), by decide +kernel⟩,
   ⟨0, (W15.S9.getD 6 State.reset), 768, [], (W15.S9_calm 6 (by decide)), by decide +kernel⟩,
   ⟨0, (W15.S9.getD 7 State.reset), 1024, [768], (W15.S9_calm 7 (by decide)), by decide +kernel⟩,
   ⟨0, (W15.S9.getD 0 State.reset), reaches_of (W15.S9_calm 0 (by decide)) (by decide +kernel)⟩,
   ⟨0x0000000000#40, (W15.S9.getD 0 State.reset), reaches_of (W15.S9_calm 0 (by decide)) (by decide +kernel), by decide +kernel⟩,
   ⟨0x00000fffff#40, (W15.S9.getD 0 State.reset), reaches_of (W15.S9_calm 0 (by decide)) (by decide +kernel), by decide +kernel⟩,
   ⟨0x0000000007#40, (W15.S9.getD 8 State.reset), (W15.allList__BitVec_8_[1]'(by decide +kernel)), (W15.S9_calm 8 (by decide)), by decide +kernel⟩,
   ⟨0x0000000000#40, (W15.S9.getD 10 State.reset), reaches_of (W15.S9_calm 10 (by decide)) (by decide +kernel), by decide +kernel⟩,
   ⟨(W15.S9.getD 0 State.reset), reaches_of (W15.S9_calm 0 (by decide)) (by decide +kernel), by decide +kernel⟩,
   ⟨0x0000000d00#40, (W15.S9.getD 11 State.reset), (W15.S9_calm 11 (by decide)), by decide +kernel⟩,
   ⟨(W15.S9.getD 13 State.reset), (W15.allList_Word[2]'(by decide +kernel)), (W15.S9_calm 13 (by decide)), by decide +kernel⟩,
   ⟨(W15.S9.getD 11 State.reset), (W15.S9_calm 11 (by decide)), by decide +kernel⟩,
   ⟨(W15.S9.getD 0 State.reset), reaches_of (W15.S9_calm 0 (by decide)) (by decide +kernel), by decide +kernel⟩,
   ⟨0x0000000000#40, (W15.S9.getD 14 State.reset), [0x0000000001#40, 0x0000000002#40], reaches_of (W15.S9_calm 14 (by decide)) (by decide +kernel), by decide +kernel⟩,
   ⟨(W15.S9.getD 0 State.reset), reaches_of (W15.S9_calm 0 (by decide)) (by decide +kernel)⟩,
   ⟨(W15.S9.getD 0 State.reset), reaches_of (W15.S9_calm 0 (by decide)) (by decide +kernel)⟩,
   ⟨(W15.S9.getD 0 State.reset), 0, true, (W15.S9_calm 0 (by decide)), by decide +kernel⟩,
   ⟨(W15.S9.getD 0 State.reset), reaches_of (W15.S9_calm 0 (by decide)) (by decide +kernel)⟩⟩

theorem test_HostCommands_met :
    (∃ os : List (BitVec 8), ∃ s : State, let ws := hostWords (os.map BitVec.toNat); let body := ws.dropLast; let crc := BitVec.ofNat 40 (crc32c ((body.map wordOctets).flatten)); Calm s ∧ domShed s 17 = false ∧ domState s 17 ≠ 2 ∧ os.length % 5 = 0 ∧ body ≠ [] ∧ ws.length ≤ 64 ∧ ws.getLast? = some crc ∧ s.hpt.req.length + body.length ≤ 64 ∧ s.boot.reqs = [] ∧ hostAssigned (hostOpcode body) = true) ∧
    (∃ os : List (BitVec 8), ∃ s : State, let ws := hostWords (os.map BitVec.toNat); let body := ws.dropLast; let crc := BitVec.ofNat 40 (crc32c ((body.map wordOctets).flatten)); Calm s ∧ domShed s 17 = false ∧ domState s 17 ≠ 2 ∧ os.length % 5 = 0 ∧ ws ≠ [] ∧ ws.length ≤ 64 ∧ ws.getLast? ≠ some crc) ∧
    (∃ os : List (BitVec 8), ∃ s : State, Calm s ∧ domShed s 17 = false ∧ domState s 17 ≠ 2 ∧ os.length % 5 ≠ 0) ∧
    (∃ r : List Word, ∃ s : State, HostAsks s 1 0 r) ∧
    (∃ r : List Word, ∃ s : State, ∃ k : Nat, let off := fget (r.getD 1 0) 31 0; HostAsks s 3 (2 + k) r ∧ k ≤ 60 ∧ s.fld Reg.BSQ_STATUS 9 7 = 2 ∧ s.fld Reg.BSQ_STATUS 6 5 = 1 ∧ off = s.boot.img.length) ∧
    (∃ r : List Word, ∃ s : State, ∃ k : Nat, let off := fget (r.getD 1 0) 31 0; HostAsks s 3 (2 + k) r ∧ k ≤ 60 ∧ s.fld Reg.BSQ_STATUS 9 7 = 2 ∧ s.fld Reg.BSQ_STATUS 6 5 = 1 ∧ off ≠ s.boot.img.length) ∧
    (∃ r : List Word, ∃ s : State, ∃ k : Nat, let off := fget (r.getD 1 0) 31 0; HostAsks s 3 (2 + k) r ∧ k ≤ 60 ∧ s.fld Reg.BSQ_STATUS 9 7 = 3 ∧ s.fld Reg.BSQ_STATUS 6 5 = 1 ∧ off = s.boot.again.length) ∧
    (∃ r : List Word, ∃ s : State, let on := s.bit Reg.HPT_CTL 0; ∃ k : Nat, HostAsks s 3 (2 + k) r ∧ k ≤ 60 ∧ s.fld Reg.BSQ_STATUS 9 7 = 4 ∧ on = true) ∧
    (∃ r : List Word, ∃ s : State, let on := s.bit Reg.HPT_CTL 0; ∃ k : Nat, HostAsks s 3 (2 + k) r ∧ k ≤ 60 ∧ s.fld Reg.BSQ_STATUS 9 7 = 4 ∧ on = false) ∧
    (∃ r : List Word, ∃ s : State, let on := s.bit Reg.HPT_CTL 0; HostAsks s 0x10 1 r ∧ (s.bit Reg.BSQ_DEBUG 0 = false ∨ on = false)) ∧
    (∃ r : List Word, ∃ s : State, let on := s.bit Reg.HPT_CTL 0; let a := (r.getD 1 0).toNat; ∃ k : Nat, HostAsks s 0x10 1 r ∧ Path s 30 k ∧ k < 8 ∧ s.bit Reg.BSQ_DEBUG 0 = true ∧ on = true ∧ 0x40000 + k * 0x8000 ≤ a ∧ a < 0x40000 + k * 0x8000 + 0x4000 ∧ (memRead s.close (k * 0x4000 + (a - 0x40000 - k * 0x8000))).mark = .good) ∧
    (∃ r : List Word, ∃ s : State, let on := s.bit Reg.HPT_CTL 0; HostAsks s 0x11 2 r ∧ (s.bit Reg.BSQ_DEBUG 0 = false ∨ on = false)) ∧
    (∃ r : List Word, ∃ s : State, let on := s.bit Reg.HPT_CTL 0; let a := (r.getD 1 0).toNat; ∃ k : Nat, HostAsks s 0x11 2 r ∧ Path s 30 k ∧ k < 8 ∧ s.bit Reg.BSQ_DEBUG 0 = true ∧ on = true ∧ 0x40000 + k * 0x8000 ≤ a ∧ a < 0x40000 + k * 0x8000 + 0x4000) ∧
    (∃ r : List Word, ∃ s : State, let on := s.bit Reg.HPT_CTL 0; HostAsks s 0x20 0 r ∧ presenceOpen s = true ∧ on = true) ∧
    (∃ r : List Word, ∃ s : State, HostAsks s 0x20 0 r ∧ presenceOpen s = false) ∧
    (∃ r : List Word, ∃ s : State, let on := s.bit Reg.HPT_CTL 0; HostAsks s 0x21 0 r ∧ presenceOpen s = true ∧ on = true) ∧
    (∃ r : List Word, ∃ s : State, let on := s.bit Reg.HPT_CTL 0; HostAsks s 0x22 0 r ∧ presenceOpen s = true ∧ on = true ∧ s.keepInj = 0) ∧
    (∃ r : List Word, ∃ s : State, let on := s.bit Reg.HPT_CTL 0; HostAsks s 0x23 0 r ∧ s.bit Reg.BSQ_DEBUG 0 = true ∧ on = true) ∧
    (∃ r : List Word, ∃ s : State, let on := s.bit Reg.HPT_CTL 0; let a := (r.getD 1 0).toNat; ∃ k : Nat, HostAsks s 0x24 (2 + k) r ∧ k ≤ 59 ∧ presenceOpen s = true ∧ on = true ∧ 0x10000 ≤ a ∧ a + 1 + k ≤ 0x11000 ∧ s.keepInj = 0) :=
  ⟨⟨(W16.allList__BitVec_8_[2]'(by decide +kernel)), (W16.states.getD 0 State.reset), (W16.states_calm 0 (by decide)), by decide +kernel⟩,
   ⟨(W16.allList__BitVec_8_[4]'(by decide +kernel)), (W16.states.getD 0 State.reset), (W16.states_calm 0 (by decide)), by decide +kernel⟩,
   ⟨[0x01#8], (W16.states.getD 0 State.reset), (W16.states_calm 0 (by decide)), by decide +kernel⟩,
   ⟨[0x0105000000#40], (W16.states.getD 11 State.reset), asks_of (W16.states_calm 11 (by decide)) (by decide +kernel)⟩,
   ⟨[0x0305000002#40, 0x0000000000#40, 0x52414b5544#40], (W16.states.getD 26 State.reset), 0, asks_of (W16.states_calm 26 (by decide)) (by decide +kernel), by decide +kernel⟩,
   ⟨[0x0305000002#40, 0x0000000000#40, 0x52414b5544#40], (W16.states.getD 27 State.reset), 0, asks_of (W16.states_calm 27 (by decide)) (by decide +kernel), by decide +kernel⟩,
   ⟨(W16.allList_Word[2]'(by decide +kernel)), (W16.states.getD 39 State.reset), 1, asks_of (W16.states_calm 39 (by decide)) (by decide +kernel), by decide +kernel⟩,
   ⟨[0x0305000002#40, 0x0000000000#40, 0x52414b5544#40], (W16.states.getD 29 State.reset), 0, asks_of (W16.states_calm 29 (by decide)) (by decide +kernel), by decide +kernel⟩,
   ⟨[0x0305000002#40, 0x0000000000#40, 0x52414b5544#40], (W16.states.getD 31 State.reset), 0, asks_of (W16.states_calm 31 (by decide)) (by decide +kernel), by decide +kernel⟩,
   ⟨[0x1005000001#40, 0x0000048000#40], (W16.states.getD 55 State.reset), asks_of (W16.states_calm 55 (by decide)) (by decide +kernel), by decide +kernel⟩,
   ⟨[0x1005000001#40, 0x0000048000#40], (W16.states.getD 57 State.reset), 1, asks_of (W16.states_calm 57 (by decide)) (by decide +kernel), path_of (W16.states_calm 57 (by decide)) (linked_of (by decide +kernel)) (by decide +kernel) (by decide +kernel), by decide +kernel⟩,
   ⟨[0x1105000002#40, 0x0000048001#40, 0x0000000063#40], (W16.states.getD 77 State.reset), asks_of (W16.states_calm 77 (by decide)) (by decide +kernel), by decide +kernel⟩,
   ⟨[0x1105000002#40, 0x0000048001#40, 0x0000000063#40], (W16.states.getD 79 State.reset), 1, asks_of (W16.states_calm 79 (by decide)) (by decide +kernel), path_of (W16.states_calm 79 (by decide)) (linked_of (by decide +kernel)) (by decide +kernel) (by decide +kernel), by decide +kernel⟩,
   ⟨[0x2005000000#40], (W16.states.getD 91 State.reset), asks_of (W16.states_calm 91 (by decide)) (by decide +kernel), by decide +kernel⟩,
   ⟨[0x2005000000#40], (W16.states.getD 88 State.reset), asks_of (W16.states_calm 88 (by decide)) (by decide +kernel), by decide +kernel⟩,
   ⟨[0x2105000000#40], (W16.states.getD 102 State.reset), asks_of (W16.states_calm 102 (by decide)) (by decide +kernel), by decide +kernel⟩,
   ⟨[0x2205000000#40], (W16.states.getD 113 State.reset), asks_of (W16.states_calm 113 (by decide)) (by decide +kernel), by decide +kernel⟩,
   ⟨[0x2305000000#40], (W16.states.getD 123 State.reset), asks_of (W16.states_calm 123 (by decide)) (by decide +kernel), by decide +kernel⟩,
   ⟨[0x2405000002#40, 0x0000010000#40, 0x0000000005#40], (W16.states.getD 135 State.reset), 0, asks_of (W16.states_calm 135 (by decide)) (by decide +kernel), by decide +kernel⟩⟩

theorem test_FingertipAndKeep_met :
    (∃ s : State, Reaches Reg.FGT_CTL s ∧ s.bit Reg.FGT_CTL 0 = false) ∧
    (∃ v : Word, ∃ s : State, Reaches Reg.FGT_CTL s ∧ s.bit Reg.FGT_CTL 0 = true ∧ bget v 0 = true) ∧
    (∃ s : State, let f := s.fgt; ∃ ws, Calm s ∧ f.loading = true ∧ (readLayer 0x1200 s).1 = some ws) ∧
    (∃ s : State, let f := s.fgt; Calm s ∧ f.loading = true ∧ (readLayer 0x1200 s).1 = none) ∧
    (∃ v : Word, ∃ s : State, Reaches Reg.FGT_INJECT s ∧ bget v 0 = false) ∧
    (∃ v : Word, ∃ s : State, Reaches Reg.FGT_INJECT s ∧ bget v 1 = false) ∧
    (∃ s : State, let f := s.fgt; ∃ j : Fin 24, let x := s.ain j; Calm s ∧ f.running = true ∧ s.bit Reg.FGT_AIN_EN j = true ∧ tbRunning s = true ∧ s.fld Reg.TB_TICK_FS 23 0 ≠ 0 ∧ slewMode s = 0 ∧ anaNext s j (s.ain j).last = s.now ∧ x.n < 4) ∧
    (∃ s : State, let f := s.fgt; ∃ j : Fin 24, let x := s.ain j; Calm s ∧ f.running = true ∧ s.bit Reg.FGT_AIN_EN j = true ∧ tbRunning s = true ∧ s.fld Reg.TB_TICK_FS 23 0 ≠ 0 ∧ slewMode s = 0 ∧ anaNext s j (s.ain j).last = s.now ∧ x.n = 4) ∧
    (∃ s : State, let f := s.fgt; ∃ j : Fin 24, let x := s.ain j; Calm s ∧ f.running = true ∧ s.bit Reg.FGT_AIN_EN j = true ∧ tbRunning s = true ∧ s.fld Reg.TB_TICK_FS 23 0 ≠ 0 ∧ slewMode s = 0 ∧ anaNext s j (s.ain j).last = s.now ∧ x.n = 5) ∧
    (∃ s : State, Reaches Reg.KEP_CMD s ∧ s.bit Reg.FGT_CTL 0 = false ∧ s.keepInj = 0 ∧ presenceOpen s = false) ∧
    (∃ s : State, let fac := (readLayer 0 s).1; Reaches Reg.KEP_CMD s ∧ s.bit Reg.FGT_CTL 0 = false ∧ s.keepInj = 0 ∧ presenceOpen s = true ∧ fac = none) ∧
    (∃ s : State, let fac := (readLayer 0 s).1; ∃ ws, Reaches Reg.KEP_CMD s ∧ s.bit Reg.FGT_CTL 0 = false ∧ s.keepInj = 0 ∧ presenceOpen s = true ∧ fac = some ws) ∧
    (∃ s : State, let user := (readLayer 0x1000 s).1; ∃ ws, Reaches Reg.KEP_CMD s ∧ s.bit Reg.FGT_CTL 0 = false ∧ s.keepInj = 0 ∧ user = some ws) ∧
    (∃ s : State, let user := (readLayer 0x1000 s).1; Reaches Reg.KEP_CMD s ∧ s.bit Reg.FGT_CTL 0 = false ∧ s.keepInj = 0 ∧ user = none) ∧
    (∃ s : State, ∃ w : Fin 6, Reaches (Reg.KEP_WP w) s) ∧
    (∃ s : State, Reaches Reg.KEP_INJECT s) :=
  ⟨⟨(W17.S17.getD 0 State.reset), reaches_of (W17.S17_calm 0 (by decide)) (by decide +kernel), by decide +kernel⟩,
   ⟨0x0000000001#40, (W17.S17.getD 1 State.reset), reaches_of (W17.S17_calm 1 (by decide)) (by decide +kernel), by decide +kernel⟩,
   ⟨(W17.S17.getD 3 State.reset), (W17.allList_Word[0]'(by decide +kernel)), (W17.S17_calm 3 (by decide)), by decide +kernel⟩,
   ⟨(W17.S17.getD 2 State.reset), (W17.S17_calm 2 (by decide)), by decide +kernel⟩,
   ⟨0x0000000000#40, (W17.S17.getD 0 State.reset), reaches_of (W17.S17_calm 0 (by decide)) (by decide +kernel), by decide +kernel⟩,
   ⟨0x0000000000#40, (W17.S17.getD 0 State.reset), reaches_of (W17.S17_calm 0 (by decide)) (by decide +kernel), by decide +kernel⟩,
   ⟨(W17.S17.getD 5 State.reset), 1, (W17.S17_calm 5 (by decide)), by decide +kernel⟩,
   ⟨(W17.S17.getD 7 State.reset), 1, (W17.S17_calm 7 (by decide)), by decide +kernel⟩,
   ⟨(W17.S17.getD 8 State.reset), 1, (W17.S17_calm 8 (by decide)), by decide +kernel⟩,
   ⟨(W17.S17.getD 0 State.reset), reaches_of (W17.S17_calm 0 (by decide)) (by decide +kernel), by decide +kernel⟩,
   ⟨(W17.S17.getD 11 State.reset), reaches_of (W17.S17_calm 11 (by decide)) (by decide +kernel), by decide +kernel⟩,
   ⟨(W17.S17.getD 12 State.reset), (W17.allList_Word[1]'(by decide +kernel)), reaches_of (W17.S17_calm 12 (by decide)) (by decide +kernel), by decide +kernel⟩,
   ⟨(W17.S17.getD 12 State.reset), (W17.allList_Word[3]'(by decide +kernel)), reaches_of (W17.S17_calm 12 (by decide)) (by decide +kernel), by decide +kernel⟩,
   ⟨(W17.S17.getD 0 State.reset), reaches_of (W17.S17_calm 0 (by decide)) (by decide +kernel), by decide +kernel⟩,
   ⟨(W17.S17.getD 0 State.reset), 0, reaches_of (W17.S17_calm 0 (by decide)) (by decide +kernel)⟩,
   ⟨(W17.S17.getD 0 State.reset), reaches_of (W17.S17_calm 0 (by decide)) (by decide +kernel)⟩⟩

theorem test_ImageRecords_met :
    (∃ i : Nat, ∃ k : Nat, ∃ b : List Word, ∃ s : State, let w := b.getD 0 0; RecNext s 1 i k b ∧ s.isSealed = false ∧ bget w 7 = false ∧ bget w 6 = false ∧ fget w 39 8 = 0 ∧ s.bit (Reg.DMC_CTL 0) 0 = false ∧ s.bit (Reg.DMC_CTL 1) 0 = false ∧ (applyDram b (s, none)).2 = none) ∧
    (∃ i : Nat, ∃ k : Nat, ∃ b : List Word, ∃ s : State, let w := b.getD 0 0; RecNext s 1 i k b ∧ s.isSealed = false ∧ bget w 7 = false ∧ bget w 6 = false ∧ fget w 39 8 = 0 ∧ s.bit (Reg.DMC_CTL 0) 0 = true ∧ s.bit (Reg.DMC_STATUS 0) 1 = false ∧ s.bit (Reg.DMC_STATUS 0) 2 = false ∧ s.bit (Reg.DMC_CTL 1) 0 = false ∧ (applyDram b (s, none)).2 = none) ∧
    (∃ i : Nat, ∃ k : Nat, ∃ b : List Word, ∃ s : State, let w := b.getD 0 0; RecNext s 2 i k [w] ∧ s.isSealed = false ∧ fget w 39 14 = 0 ∧ fget w 7 4 = 0 ∧ fget w 13 8 ≤ 47 ∧ pinmuxOk (fget w 13 8) (fget w 3 0) = true ∧ s.bit Reg.SYS_STATUS 0 = false) ∧
    (∃ i : Nat, ∃ k : Nat, ∃ b : List Word, ∃ s : State, let w := b.getD 0 0; RecNext s 2 i k [w] ∧ s.isSealed = false ∧ 47 < fget w 13 8) ∧
    (∃ i : Nat, ∃ k : Nat, ∃ b : List Word, ∃ s : State, let w := b.getD 0 0; RecNext s 3 i k [w] ∧ s.isSealed = false ∧ fget w 39 26 = 0 ∧ endpointExists (fget w 25 21) = true ∧ (applyRoutes [w] (s, none)).2 = none) ∧
    (∃ i : Nat, ∃ k : Nat, ∃ b : List Word, ∃ s : State, let w := b.getD 0 0; RecNext s 4 i k [w] ∧ s.isSealed = false ∧ fget w 39 16 = 0 ∧ (applySplit [w] (s, none)).2 = none) ∧
    (∃ i : Nat, ∃ k : Nat, ∃ b : List Word, ∃ s : State, RecNext s 5 i k b ∧ s.isSealed = false ∧ (applyCuff b (s, none)).2 = none) ∧
    (∃ i : Nat, ∃ k : Nat, ∃ b : List Word, ∃ s : State, RecNext s 6 i k b ∧ s.isSealed = false ∧ (applyConsort b (s, none)).2 = none) ∧
    (∃ i : Nat, ∃ k : Nat, ∃ b : List Word, ∃ s : State, let w := b.getD 0 0; RecNext s 7 i k b ∧ s.isSealed = false ∧ fget w 4 0 = 1 ∧ (applyPartitions b (s, none)).2 = none) ∧
    (∃ i : Nat, ∃ k : Nat, ∃ b : List Word, ∃ s : State, let w := b.getD 0 0; RecNext s 8 i k [w] ∧ s.isSealed = false ∧ (applyShedRanks [w] (s, none)).2 = none) ∧
    (∃ i : Nat, ∃ k : Nat, ∃ b : List Word, ∃ s : State, let w := b.getD 0 0; ∃ c, RecNext s 9 i k b ∧ s.isSealed = false ∧ c < 8 ∧ 0x40000 + c * 0x8000 ≤ w.toNat ∧ w.toNat + (b.length - 1) ≤ 0x40000 + c * 0x8000 + 0x4000 ∧ 2 ≤ b.length) ∧
    (∃ i : Nat, ∃ k : Nat, ∃ b : List Word, ∃ s : State, let w := b.getD 0 0; RecNext s 9 i k b ∧ s.isSealed = false ∧ 2 ^ 34 ≤ w.toNat) ∧
    (∃ i : Nat, ∃ k : Nat, ∃ b : List Word, ∃ s : State, let w := b.getD 0 0; RecNext s 10 i k [w] ∧ s.isSealed = false) ∧
    (∃ i : Nat, ∃ k : Nat, ∃ b : List Word, ∃ s : State, let w := b.getD 0 0; RecNext s 11 i k [w] ∧ s.isSealed = false ∧ fget w 39 1 = 0) ∧
    (∃ i : Nat, ∃ k : Nat, ∃ b : List Word, ∃ s : State, let w := b.getD 0 0; RecNext s 12 i k b ∧ s.isSealed = false ∧ (applyAudio b (s, none)).2 = none ∧ fget w 15 0 = 1) ∧
    (∃ i : Nat, ∃ k : Nat, ∃ b : List Word, ∃ s : State, let w := b.getD 0 0; RecNext s 12 i k b ∧ s.isSealed = false ∧ (applyAudio b (s, none)).2 = none ∧ fget w 15 0 = 0x100 ∧ audRingEn s 0 = false ∧ s.bit (Reg.AUD_CTL 0) 0 = false) ∧
    (∃ i : Nat, ∃ k : Nat, ∃ b : List Word, ∃ s : State, let w := b.getD 0 0; ∃ x : Nat, RecNext s 13 i k b ∧ s.isSealed = false ∧ b.length = 3 ∧ b.getD 2 0 = BitVec.allOnes 40 ∧ w.toNat = Reg.CNS_EXPOSE x ∧ x < 4 ∧ s.bit Reg.SYS_STATUS 0 = false) ∧
    (∃ i : Nat, ∃ k : Nat, ∃ b : List Word, ∃ s : State, let w := b.getD 0 0; RecNext s 13 i k b ∧ s.isSealed = false ∧ b.length = 3 ∧ pokeOk s w.toNat = false) ∧
    (∃ i : Nat, ∃ k : Nat, ∃ b : List Word, ∃ s : State, RecNext s 14 i k b ∧ s.isSealed = false ∧ s.bit Reg.FGT_CTL 0 = false ∧ (applyFingertip b (s, none)).2 = none) ∧
    (∃ i : Nat, ∃ k : Nat, ∃ b : List Word, ∃ s : State, RecNext s 15 i k b ∧ s.isSealed = false) :=
  ⟨⟨16, 0, [0x0000000012#40], (W18.S18.getD 2 State.reset), ⟨(W18.S18_calm 2 (by decide)), by decide +kernel⟩, by decide +kernel⟩,
   ⟨16, 0, [0x0000000002#40], (W18.S18.getD 32 State.reset), ⟨(W18.S18_calm 32 (by decide)), by decide +kernel⟩, by decide +kernel⟩,
   ⟨16, 0, [0x0000000501#40], (W18.S18.getD 3 State.reset), ⟨(W18.S18_calm 3 (by decide)), by decide +kernel⟩, by decide +kernel⟩,
   ⟨16, 0, [0x0000003001#40], (W18.S18.getD 4 State.reset), ⟨(W18.S18_calm 4 (by decide)), by decide +kernel⟩, by decide +kernel⟩,
   ⟨16, 0, [0x0000641234#40], (W18.S18.getD 6 State.reset), ⟨(W18.S18_calm 6 (by decide)), by decide +kernel⟩, by decide +kernel⟩,
   ⟨16, 0, [0x0000008888#40], (W18.S18.getD 9 State.reset), ⟨(W18.S18_calm 9 (by decide)), by decide +kernel⟩, by decide +kernel⟩,
   ⟨16, 0, [0x0000000000#40], (W18.S18.getD 11 State.reset), ⟨(W18.S18_calm 11 (by decide)), by decide +kernel⟩, by decide +kernel⟩,
   ⟨16, 0, (W18.allList_Word[12]'(by decide +kernel)), (W18.S18.getD 15 State.reset), ⟨(W18.S18_calm 15 (by decide)), by decide +kernel⟩, by decide +kernel⟩,
   ⟨16, 0, (W18.allList_Word[14]'(by decide +kernel)), (W18.S18.getD 17 State.reset), ⟨(W18.S18_calm 17 (by decide)), by decide +kernel⟩, by decide +kernel⟩,
   ⟨16, 0, [0x0000001224#40], (W18.S18.getD 18 State.reset), ⟨(W18.S18_calm 18 (by decide)), by decide +kernel⟩, by decide +kernel⟩,
   ⟨16, 0, (W18.allList_Word[16]'(by decide +kernel)), (W18.S18.getD 19 State.reset), 1, ⟨(W18.S18_calm 19 (by decide)), by decide +kernel⟩, by decide +kernel⟩,
   ⟨16, 0, [0x0800000000#40, 0x0000000001#40], (W18.S18.getD 20 State.reset), ⟨(W18.S18_calm 20 (by decide)), by decide +kernel⟩, by decide +kernel⟩,
   ⟨16, 0, [0x0000048123#40], (W18.S18.getD 21 State.reset), ⟨(W18.S18_calm 21 (by decide)), by decide +kernel⟩, by decide +kernel⟩,
   ⟨16, 0, (W18.allList_Word[9]'(by decide +kernel)), (W18.S18.getD 23 State.reset), ⟨(W18.S18_calm 23 (by decide)), by decide +kernel⟩, by decide +kernel⟩,
   ⟨16, 0, [0x0000000001#40, 0x0000009c40#40, 0x0000000007#40], (W18.S18.getD 24 State.reset), ⟨(W18.S18_calm 24 (by decide)), by decide +kernel⟩, by decide +kernel⟩,
   ⟨16, 0, (W18.allList_Word[22]'(by decide +kernel)), (W18.S18.getD 25 State.reset), ⟨(W18.S18_calm 25 (by decide)), by decide +kernel⟩, by decide +kernel⟩,
   ⟨16, 0, [0x000022a012#40, 0x0000000045#40, 0xffffffffff#40], (W18.S18.getD 27 State.reset), 2, ⟨(W18.S18_calm 27 (by decide)), by decide +kernel⟩, by decide +kernel⟩,
   ⟨16, 0, [0x0000000005#40, 0x0000000005#40, 0x0000000005#40], (W18.S18.getD 28 State.reset), ⟨(W18.S18_calm 28 (by decide)), by decide +kernel⟩, by decide +kernel⟩,
   ⟨16, 0, (W18.allList_Word[26]'(by decide +kernel)), (W18.S18.getD 29 State.reset), ⟨(W18.S18_calm 29 (by decide)), by decide +kernel⟩, by decide +kernel⟩,
   ⟨16, 0, (W18.allList_Word[28]'(by decide +kernel)), (W18.S18.getD 31 State.reset), ⟨(W18.S18_calm 31 (by decide)), by decide +kernel⟩, by decide +kernel⟩⟩

theorem test_BootPasses_met :
    (∃ flash : List Word, ∃ s : State, let st := s.fld Reg.BSQ_STATUS 9 7; let order := bootOrder (s.fld Reg.BSQ_STRAPS 4 3); ∃ c : Nat, ∃ r : Nat, ∃ w : Nat, Calm s ∧ st = 2 ∧ order[s.boot.src]? = some 0 ∧ s.tb.xbLost = false ∧ pass1 1677721 s.boot.fuses flash = .inl (c, r, w) ∧ (order[s.boot.src + 1]? = some 1 ∨ order[s.boot.src + 1]? = some 2)) ∧
    (∃ s : State, let st := s.fld Reg.BSQ_STATUS 9 7; let order := bootOrder (s.fld Reg.BSQ_STRAPS 4 3); Calm s ∧ s.boot.dram = none ∧ order[s.boot.src]? = some 2 ∧ s.boot.since + 1000001 ≤ s.tb.pulses ∧ st = 2 ∧ imageIn s s.boot.img = false ∧ (order[s.boot.src + 1]? = some 0 ∨ order[s.boot.src + 1]? = some 1) ∧ s.tb.xbLost = false) ∧
    (∃ s : State, let st := s.fld Reg.BSQ_STATUS 9 7; let len := s.fld Reg.BSQ_IMAGE_LEN 31 0; let order := bootOrder (s.fld Reg.BSQ_STRAPS 4 3); Calm s ∧ s.boot.dram = none ∧ order[s.boot.src]? = some 2 ∧ s.boot.since + 1000001 ≤ s.tb.pulses ∧ st = 3 ∧ s.boot.again.length < len) ∧
    (∃ s : State, let st := s.fld Reg.BSQ_STATUS 9 7; let len := s.fld Reg.BSQ_IMAGE_LEN 31 0; ∃ r : List (Nat × Nat × Nat), ∃ i : Nat, ∃ k : Nat, ∃ b : List Word, let sig := ((r.find? (fun x => x.1 == 15)).getD (0, 0, 0)).2.1; Calm s ∧ imgDigest s.boot.again sig = s.boot.digest ∧ st = 3 ∧ s.boot.dram = none ∧ pass2Has s len = true ∧ pass2Records s = some r ∧ sig ≠ 0 ∧ recordAt s 0xFF = some (i, k, b) ∧ s.boot.entrySet = true ∧ domState s 0 = 0 ∧ s.boot.cufMask = 0 ∧ s.boot.cufSrc = false ∧ s.bit (Reg.PAIR_CTL 0) 0 = false) ∧
    (∃ s : State, let st := s.fld Reg.BSQ_STATUS 9 7; let len := s.fld Reg.BSQ_IMAGE_LEN 31 0; ∃ r : List (Nat × Nat × Nat), ∃ i : Nat, ∃ k : Nat, ∃ b : List Word, let sig := ((r.find? (fun x => x.1 == 15)).getD (0, 0, 0)).2.1; Calm s ∧ imgDigest s.boot.again sig = s.boot.digest ∧ st = 3 ∧ s.boot.dram = none ∧ pass2Has s len = true ∧ pass2Records s = some r ∧ sig ≠ 0 ∧ recordAt s 0xFF = some (i, k, b) ∧ s.boot.entrySet = false) ∧
    (∃ s : State, let st := s.fld Reg.BSQ_STATUS 9 7; let len := s.fld Reg.BSQ_IMAGE_LEN 31 0; ∃ r : List (Nat × Nat × Nat), let sig := ((r.find? (fun x => x.1 == 15)).getD (0, 0, 0)).2.1; Calm s ∧ imgDigest s.boot.again sig ≠ s.boot.digest ∧ st = 3 ∧ s.boot.dram = none ∧ pass2Has s len = true ∧ pass2Records s = some r) :=
  ⟨⟨[], (W19.S19.getD 1 State.reset), 1, 0, 0, (W19.S19_calm 1 (by decide)), by decide +kernel⟩,
   ⟨(W19.S19.getD 2 State.reset), (W19.S19_calm 2 (by decide)), by decide +kernel⟩,
   ⟨(W19.S19.getD 6 State.reset), (W19.S19_calm 6 (by decide)), by decide +kernel⟩,
   ⟨(W19.S19.getD 7 State.reset), [(10, 16, 1), (15, 18, 20), (255, 39, 1)], 39, 2, [0x001be0c689#40], (W19.S19_calm 7 (by decide)), by rfl, by decide +kernel⟩,
   ⟨(W19.S19.getD 8 State.reset), [(10, 16, 1), (15, 18, 20), (255, 39, 1)], 39, 2, [0x001be0c689#40], (W19.S19_calm 8 (by decide)), by rfl, by decide +kernel⟩,
   ⟨(W19.S19.getD 9 State.reset), [(10, 16, 1), (15, 18, 20), (255, 39, 1)], (W19.S19_calm 9 (by decide)), not_self _, by decide +kernel⟩⟩

theorem test_StartsAndPresence_met :
    (∃ i : Initiator, ∃ v : Word, ∃ s : State, ∃ n, let able := s.isSealed = true ∧ s.stopped n = true ∧ (s.core n).parked = false ∧ domState s n = 0 ∧ (n % 2 = 1 → s.bit (Reg.PAIR_CTL (n / 2)) 0 = false); ∃ d, Reaches Reg.BSQ_CORE_CTL s ∧ n < 8 ∧ v = BitVec.ofNat 40 (2 ^ n) ∧ initPl i = 3 ∧ able ∧ d ≠ n) ∧
    (∃ i : Initiator, ∃ v : Word, ∃ s : State, ∃ n, let able := s.isSealed = true ∧ s.stopped n = true ∧ (s.core n).parked = false ∧ domState s n = 0 ∧ (n % 2 = 1 → s.bit (Reg.PAIR_CTL (n / 2)) 0 = false); let paired := n % 2 = 0 ∧ s.bit (Reg.PAIR_CTL (n / 2)) 0 = true ∧ (s.pair (n / 2)).started = false; Reaches Reg.BSQ_CORE_CTL s ∧ n < 8 ∧ v = BitVec.ofNat 40 (2 ^ n) ∧ initPl i = 3 ∧ able ∧ paired) ∧
    (∃ i : Initiator, ∃ v : Word, ∃ s : State, ∃ n, Reaches Reg.BSQ_CORE_CTL s ∧ n < 8 ∧ v = BitVec.ofNat 40 (2 ^ n) ∧ initPl i < 3) ∧
    (∃ s : State, let able := presenceOpen s = true ∧ s.boot.fuses = 0 ∧ s.bit Reg.BSQ_FUSE_STAT 1 = false ∧ s.boot.prog = none; Reaches Reg.BSQ_FUSE_CTL s ∧ able) ∧
    (∃ s : State, ∃ h : BitVec 256, Calm s ∧ s.boot.prog = some h) ∧
    (∃ s : State, Calm s ∧ s.boot.inReset = false ∧ s.pwr.halted = false ∧ 2000000 ≤ s.tb.pulses ∧ presenceOpen s = false) ∧
    (∃ s : State, Calm s ∧ presenceOpen s = true ∧ s.boot.presAt + 30000000 ≤ s.tb.pulses) ∧
    (∃ s : State, Reaches Reg.BSQ_DEBUG s) :=
  ⟨⟨{ ep := 0, pl := 3, part := 0 }, 1, (W20.S20.getD 1 State.reset), 0, 1, reaches_of (W20.S20_calm 1 (by decide)) (by decide +kernel), by decide +kernel⟩,
   ⟨{ ep := 0, pl := 3, part := 0 }, 0x0000000004#40, (W20.S20.getD 3 State.reset), 2, reaches_of (W20.S20_calm 3 (by decide)) (by decide +kernel), by decide +kernel⟩,
   ⟨{ ep := 1, pl := 1, part := 0 }, 0x0000000001#40, (W20.S20.getD 0 State.reset), 0, reaches_of (W20.S20_calm 0 (by decide)) (by decide +kernel), by decide +kernel⟩,
   ⟨(W20.S20.getD 7 State.reset), reaches_of (W20.S20_calm 7 (by decide)) (by decide +kernel), by decide +kernel⟩,
   ⟨(W20.S20.getD 8 State.reset), 0x0000000000000000000000000000000000000000000000000000000000000005#256, (W20.S20_calm 8 (by decide)), by decide +kernel⟩,
   ⟨(W20.S20.getD 9 State.reset), (W20.S20_calm 9 (by decide)), by decide +kernel⟩,
   ⟨(W20.S20.getD 8 State.reset), (W20.S20_calm 8 (by decide)), by decide +kernel⟩,
   ⟨(W20.S20.getD 0 State.reset), reaches_of (W20.S20_calm 0 (by decide)) (by decide +kernel)⟩⟩

theorem test_ErrorLogAndHatcheck_met :
    (∃ s : State, let armed := s.bit Reg.HAT_STATUS 0; ∃ r : ErrRec, ∃ rest : List ErrRec, let wakes := s.bit (Reg.HAT_KIND_EN (r.kind / 40)) (r.kind % 40) = true; Calm s ∧ s.errlog.await = r :: rest ∧ s.errlog.recs.length < 16 ∧ wakes ∧ s.bit Reg.HAT_CTL 8 = true ∧ armed = true) ∧
    (∃ s : State, ∃ r : ErrRec, ∃ rest : List ErrRec, Calm s ∧ s.errlog.await = r :: rest ∧ 16 ≤ s.errlog.recs.length) ∧
    (∃ s : State, Calm s ∧ Reaches Reg.SYS_ERRLOG_POP s) ∧
    (∃ s : State, ∃ r : LogRec, ∃ rest : List LogRec, Calm s ∧ s.errlog.recs = r :: rest) ∧
    (∃ s : State, Calm s ∧ s.errlog.recs = []) ∧
    (∃ v : Word, ∃ s : State, let armed := s.bit Reg.HAT_STATUS 0; Calm s ∧ Reaches Reg.HAT_CTL s ∧ bget v 4 = true ∧ bget v 0 = false ∧ armed = true) ∧
    (∃ v : Word, ∃ s : State, let armed := s.bit Reg.HAT_STATUS 0; let busy := s.bit Reg.HAT_STATUS 2; Calm s ∧ Reaches Reg.HAT_CTL s ∧ bget v 4 = true ∧ bget v 0 = false ∧ armed = false ∧ busy = false) ∧
    (∃ v : Word, ∃ s : State, let armed := s.bit Reg.HAT_STATUS 0; let busy := s.bit Reg.HAT_STATUS 2; Calm s ∧ Reaches Reg.HAT_CTL s ∧ bget v 4 = true ∧ bget v 0 = false ∧ armed = false ∧ busy = true) ∧
    (∃ v : Word, ∃ s : State, let busy := s.bit Reg.HAT_STATUS 2; Calm s ∧ Reaches Reg.HAT_CTL s ∧ bget v 1 = false ∧ busy = false) ∧
    (∃ v : Word, ∃ s : State, let busy := s.bit Reg.HAT_STATUS 2; Calm s ∧ Reaches Reg.HAT_CTL s ∧ bget v 1 = false ∧ busy = true) ∧
    (∃ s : State, let armed := s.bit Reg.HAT_STATUS 0; Calm s ∧ s.hat.drive = none ∧ s.hat.quiet = false ∧ s.bit Reg.HAT_CTL 6 = true ∧ armed = true) ∧
    (∃ s : State, Calm s ∧ (s.hat.drive.isSome = true ∨ s.hat.quiet = true)) ∧
    (∃ s : State, ∃ h, Calm s ∧ s.hat.latch = some 0 ∧ s.hat.armAfter = false ∧ h < 47) :=
  ⟨⟨(W21.S21.getD 2 State.reset), (W21.allErrRec[1]'(by decide +kernel)), [], (W21.S21_calm 2 (by decide)), by decide +kernel⟩,
   ⟨(W21.S21.getD 3 State.reset), (W21.allErrRec[1]'(by decide +kernel)), [], (W21.S21_calm 3 (by decide)), by decide +kernel⟩,
   ⟨(W21.S21.getD 0 State.reset), (W21.S21_calm 0 (by decide)), reaches_of (W21.S21_calm 0 (by decide)) (by decide +kernel)⟩,
   ⟨(W21.S21.getD 1 State.reset), (W21.allLogRec[0]'(by decide +kernel)), [], (W21.S21_calm 1 (by decide)), by decide +kernel⟩,
   ⟨(W21.S21.getD 0 State.reset), (W21.S21_calm 0 (by decide)), by decide +kernel⟩,
   ⟨0x00000001f0#40, (W21.S21.getD 0 State.reset), (W21.S21_calm 0 (by decide)), reaches_of (W21.S21_calm 0 (by decide)) (by decide +kernel), by decide +kernel⟩,
   ⟨0x00000001f0#40, (W21.S21.getD 6 State.reset), (W21.S21_calm 6 (by decide)), reaches_of (W21.S21_calm 6 (by decide)) (by decide +kernel), by decide +kernel⟩,
   ⟨0x00000001f0#40, (W21.S21.getD 5 State.reset), (W21.S21_calm 5 (by decide)), reaches_of (W21.S21_calm 5 (by decide)) (by decide +kernel), by decide +kernel⟩,
   ⟨0x00000001f0#40, (W21.S21.getD 0 State.reset), (W21.S21_calm 0 (by decide)), reaches_of (W21.S21_calm 0 (by decide)) (by decide +kernel), by decide +kernel⟩,
   ⟨0x00000001f0#40, (W21.S21.getD 5 State.reset), (W21.S21_calm 5 (by decide)), reaches_of (W21.S21_calm 5 (by decide)) (by decide +kernel), by decide +kernel⟩,
   ⟨(W21.S21.getD 0 State.reset), (W21.S21_calm 0 (by decide)), by decide +kernel⟩,
   ⟨(W21.S21.getD 7 State.reset), (W21.S21_calm 7 (by decide)), by decide +kernel⟩,
   ⟨(W21.S21.getD 8 State.reset), 0, (W21.S21_calm 8 (by decide)), by decide +kernel⟩⟩

theorem test_DebugControl_met :
    (∃ n : Nat, ∃ v : Word, ∃ s : State, let free := s.stopped n = false ∧ isTrailer s n = false; Reaches Reg.DBG_CORE_HALT s ∧ n < 8 ∧ v = BitVec.ofNat 40 (2 ^ n) ∧ free ∧ (s.core n).due = none ∧ (s.core n).run = .running) ∧
    (∃ n : Nat, ∃ v : Word, ∃ s : State, let free := s.stopped n = false ∧ isTrailer s n = false; Reaches Reg.DBG_CORE_HALT s ∧ n < 8 ∧ v = BitVec.ofNat 40 (2 ^ n) ∧ free ∧ (s.core n).due = none ∧ (s.core n).run = .waiting) ∧
    (∃ n : Nat, ∃ v : Word, ∃ s : State, let free := s.stopped n = false ∧ isTrailer s n = false; Reaches Reg.DBG_CORE_HALT s ∧ n < 8 ∧ v = BitVec.ofNat 40 (2 ^ n) ∧ free ∧ (s.core n).due.isSome = true) ∧
    (∃ n : Nat, ∃ v : Word, ∃ s : State, let held := ((s.core n).halted = true ∨ (s.core n).run = .doubleFault) ∧ isTrailer s n = false; Reaches Reg.DBG_CORE_RESUME s ∧ n < 8 ∧ v = BitVec.ofNat 40 (2 ^ n) ∧ held ∧ s.bit (Reg.PAIR_CTL (n / 2)) 0 = false ∧ isPaced s n = false) ∧
    (∃ s : State, ∃ out : Bool, let a := if out then Reg.DBG_MBOX_OUT_STAT else Reg.DBG_MBOX_IN_STAT; Reaches a s) :=
  ⟨⟨2, 0x0000000004#40, (W22.S22.getD 2 State.reset), reaches_of (W22.S22_calm 2 (by decide)) (by decide +kernel), by decide +kernel⟩,
   ⟨2, 0x0000000004#40, (W22.S22.getD 4 State.reset), reaches_of (W22.S22_calm 4 (by decide)) (by decide +kernel), by decide +kernel⟩,
   ⟨2, 0x0000000004#40, (W22.S22.getD 6 State.reset), reaches_of (W22.S22_calm 6 (by decide)) (by decide +kernel), by decide +kernel⟩,
   ⟨2, 0x0000000004#40, (W22.S22.getD 5 State.reset), reaches_of (W22.S22_calm 5 (by decide)) (by decide +kernel), by decide +kernel⟩,
   ⟨(W22.S22.getD 0 State.reset), true, reaches_of (W22.S22_calm 0 (by decide)) (by decide +kernel)⟩⟩

theorem test_JtagPort_met :
    (∃ s : State, let a := s.fld Reg.DBG_JTAG_ADDR 33 0; JtagReady s ∧ s.bit Reg.BSQ_DEBUG 0 = false ∧ lockedReach a = false) ∧
    (∃ s : State, let a := s.fld Reg.DBG_JTAG_ADDR 33 0; ∃ k, JtagReady s ∧ Path s 30 (pageOwner a) ∧ k < 64 ∧ a = Reg.DBG_MBOX_IN k ∧ s.jtag.lines = []) ∧
    (∃ s : State, JtagReady s ∧ presenceOpen s = true) ∧
    (∃ s : State, JtagReady s ∧ presenceOpen s = false) ∧
    (∃ s : State, JtagReady s ∧ s.bit Reg.HAT_CTL 5 = true ∧ s.bit Reg.HAT_STATUS 0 = true) ∧
    (∃ s : State, JtagReady s ∧ s.bit Reg.HAT_CTL 5 = false) ∧
    (∃ s : State, ∃ op : Fin 16, JtagReady s ∧ 7 ≤ op.val) ∧
    (∃ s : State, Calm s ∧ s.jtag.ir = 0x10 ∧ s.jtag.wait.isSome = true) ∧
    (∃ s : State, Calm s ∧ s.jtag.ir ≠ 0x10) :=
  ⟨⟨(W23.S23.getD 1 State.reset), ⟨(W23.S23_calm 1 (by decide)), by decide +kernel, by decide +kernel⟩, by decide +kernel⟩,
   ⟨(W23.S23.getD 3 State.reset), 0, ⟨(W23.S23_calm 3 (by decide)), by decide +kernel, by decide +kernel⟩, path_of (W23.S23_calm 3 (by decide)) (linked_of (by decide +kernel)) (by decide +kernel) (by decide +kernel), by decide +kernel⟩,
   ⟨(W23.S23.getD 4 State.reset), ⟨(W23.S23_calm 4 (by decide)), by decide +kernel, by decide +kernel⟩, by decide +kernel⟩,
   ⟨(W23.S23.getD 1 State.reset), ⟨(W23.S23_calm 1 (by decide)), by decide +kernel, by decide +kernel⟩, by decide +kernel⟩,
   ⟨(W23.S23.getD 1 State.reset), ⟨(W23.S23_calm 1 (by decide)), by decide +kernel, by decide +kernel⟩, by decide +kernel⟩,
   ⟨(W23.S23.getD 6 State.reset), ⟨(W23.S23_calm 6 (by decide)), by decide +kernel, by decide +kernel⟩, by decide +kernel⟩,
   ⟨(W23.S23.getD 1 State.reset), 7, ⟨(W23.S23_calm 1 (by decide)), by decide +kernel, by decide +kernel⟩, by decide +kernel⟩,
   ⟨(W23.S23.getD 7 State.reset), (W23.S23_calm 7 (by decide)), by decide +kernel⟩,
   ⟨(W23.S23.getD 0 State.reset), (W23.S23_calm 0 (by decide)), by decide +kernel⟩⟩

theorem test_RegisterWrites_met :
    (∃ i : Initiator, ∃ a : Fin 17179869184, ∃ v : Word, ∃ s : State, Reaches a s ∧ reservedWrite s a v ∧ plainReg a = true ∧ initPl i = 3) ∧
    (∃ a : Fin 17179869184, ∃ s : State, ∃ c, ∃ o, Reaches a s ∧ c < 8 ∧ o < 0x80 ∧ a.val = corePage c + o ∧ (regAt a).isSome = true ∧ s.stopped c = false) ∧
    (∃ a : Fin 17179869184, ∃ s : State, Reaches a s ∧ regionAt s a = some .regs ∧ (regPage a < 0x40 ∨ 0x50 ≤ regPage a) ∧ regAt a = none) :=
  ⟨⟨{ ep := 1, pl := 3, part := 0 }, 2228225, 0xffffffffff#40, (W24.S24.getD 0 State.reset), reaches_of (W24.S24_calm 0 (by decide)) (by decide +kernel), by unfold reservedWrite; decide +kernel, by decide +kernel⟩,
   ⟨2138112, (W24.S24.getD 1 State.reset), 2, 0, reaches_of (W24.S24_calm 1 (by decide)) (by decide +kernel), by decide +kernel⟩,
   ⟨2138239, (W24.S24.getD 0 State.reset), reaches_of (W24.S24_calm 0 (by decide)) (by decide +kernel), by decide +kernel⟩⟩

theorem test_EthernetMac_met :
    (∃ s : State, ∃ os : List (BitVec 8), let sized := 60 ≤ os.length ∧ os.length + 4 ≤ s.fld Reg.ETH_MAXLEN 13 0; Calm s ∧ s.bit Reg.ETH_CTL 1 = true ∧ ethStopped s = false ∧ sized ∧ s.bit Reg.ETH_CTL 5 = false) ∧
    (∃ s : State, ∃ os : List (BitVec 8), let l := os.map BitVec.toNat; let type := beNat ((afterTags 8 (l.drop 12)).take 2); let q := s.fld Reg.ETH_CLS 2 0; let sized := 60 ≤ os.length ∧ os.length + 4 ≤ s.fld Reg.ETH_MAXLEN 13 0; let mine := l.take 6 = macOctets (s.reg Reg.ETH_MAC_LO) (s.reg Reg.ETH_MAC_HI); let plain := type ≠ 0x8808 ∧ type ≠ 0x22F0 ∧ type ≠ 0x88F7 ∧ s.bit Reg.ETH_CLS 32 = false ∧ shedNonStream s = false ∧ s.eth.inj = false; ∃ r, Calm s ∧ s.bit Reg.ETH_CTL 1 = true ∧ ethStopped s = false ∧ sized ∧ plain ∧ mine ∧ boundRing s 4 q true = some r ∧ ringEn s r = true ∧ fifoWords s + (os.length + 4) / 5 ≤ 4096) ∧
    (∃ s : State, ∃ os : List (BitVec 8), let l := os.map BitVec.toNat; let type := beNat ((afterTags 8 (l.drop 12)).take 2); let q := s.fld Reg.ETH_CLS 2 0; let sized := 60 ≤ os.length ∧ os.length + 4 ≤ s.fld Reg.ETH_MAXLEN 13 0; let mine := l.take 6 = macOctets (s.reg Reg.ETH_MAC_LO) (s.reg Reg.ETH_MAC_HI); let plain := type ≠ 0x8808 ∧ type ≠ 0x22F0 ∧ type ≠ 0x88F7 ∧ s.bit Reg.ETH_CLS 32 = false ∧ shedNonStream s = false ∧ s.eth.inj = false; Calm s ∧ s.bit Reg.ETH_CTL 1 = true ∧ ethStopped s = false ∧ sized ∧ plain ∧ mine ∧ boundRing s 4 q true = none) ∧
    (∃ s : State, ∃ os : List (BitVec 8), let l := os.map BitVec.toNat; let type := beNat ((afterTags 8 (l.drop 12)).take 2); let sized := 60 ≤ os.length ∧ os.length + 4 ≤ s.fld Reg.ETH_MAXLEN 13 0; let plain := type ≠ 0x8808 ∧ type ≠ 0x22F0 ∧ type ≠ 0x88F7 ∧ s.bit Reg.ETH_CLS 32 = false ∧ shedNonStream s = false ∧ s.eth.inj = false; Calm s ∧ s.bit Reg.ETH_CTL 1 = true ∧ ethStopped s = false ∧ sized ∧ plain ∧ daOk s (l.take 6) type = false) ∧
    (∃ s : State, ∃ x0 : Nat, ∃ q : Nat, let ends := x0 + q * quantumFs s; Calm s ∧ s.eth.pause = some (x0, q) ∧ tbRunning s = true ∧ s.fld Reg.TB_SLEW 25 24 = 0 ∧ s.fld Reg.TB_TICK_FS 23 0 ≠ 0 ∧ s.tb.xbLost = false ∧ s.now + (ends - s.tb.xbFs) < 2 ^ 80) ∧
    (∃ s : State, ∃ q : Nat, ∃ r : Nat, let s1 := pump busSrv r (cbsAdvance s); ∃ e : EthTx, ∃ u : RUnit, Calm s1 ∧ q < 8 ∧ (∀ p, p < 8 → txRing s p = if p = q then some r else none) ∧ s.bit Reg.ETH_CTL 0 = true ∧ ethStopped s = false ∧ s.eth.gapEnd ≤ s.tb.xbFs ∧ s1.eth.inj = false ∧ s1.eth.wire = none ∧ SMap.find q s1.eth.txq = some e ∧ (s1.ring e.ring).unit = some u ∧ s1.eth.pause = none ∧ txEligible s1 q = true ∧ (∀ p, p < 8 → q < p → txEligible s1 p = false) ∧ e.stream = none ∧ e.paused = false) ∧
    (∃ s : State, ∃ q : Nat, ∃ r : Nat, let s1 := pump busSrv r (cbsAdvance s); ∃ e : EthTx, ∃ u : RUnit, Calm s1 ∧ q < 8 ∧ (∀ p, p < 8 → txRing s p = if p = q then some r else none) ∧ s.bit Reg.ETH_CTL 0 = true ∧ ethStopped s = false ∧ s.eth.gapEnd ≤ s.tb.xbFs ∧ s1.eth.inj = false ∧ s1.eth.wire = none ∧ SMap.find q s1.eth.txq = some e ∧ (s1.ring e.ring).unit = some u ∧ s1.eth.pause.isSome = true ∧ s1.bit Reg.ETH_CTL 3 = false) ∧
    (∃ s : State, ∃ q : Fin 8, ∃ r : Nat, ∃ a : Nat, let s1 := pump busSrv r s; ∃ e : EthTx, ∃ u : RUnit, ∃ d : FDesc, Calm s1 ∧ txRing s q = some r ∧ ethStopped s = false ∧ SMap.find q.val s1.eth.txq = some e ∧ (s1.ring e.ring).unit = some u ∧ e.stream = none ∧ unitTotal s1 e.ring u ≤ u.moved ∧ (unitDescs s1 e.ring u).head? = some d ∧ 0x8000 ≤ descKctl d ∧ descKctl d % 16 = a ∧ (packAll e.octets).length = 1 + aafCh s1 a * aafSpp s1 a) ∧
    (∃ s : State, Reaches Reg.ETH_SMAP_COMMIT s) ∧
    (∃ v : Word, ∃ s : State, ∃ a : Fin 16, let n := (fget v 19 15 + 1) * fget v 28 20; let nsr := fget v 32 29; Reaches (Reg.ETH_AAF_CFG a) s ∧ s.bit (Reg.ETH_AAF_CFG a) 39 = false ∧ fget v 34 33 < 3 ∧ 3 ≤ nsr ∧ nsr ≤ 9 ∧ n ≤ 4095 ∧ 46 + n * (audBits (fget v 34 33) / 8) ≤ s.fld Reg.ETH_MAXLEN 13 0 ∧ bget v 38 = false) ∧
    (∃ v : Word, ∃ s : State, ∃ a : Fin 16, let n := (fget v 19 15 + 1) * fget v 28 20; let nsr := fget v 32 29; Reaches (Reg.ETH_AAF_CFG a) s ∧ s.bit (Reg.ETH_AAF_CFG a) 39 = false ∧ fget v 34 33 < 3 ∧ 3 ≤ nsr ∧ nsr ≤ 9 ∧ 4096 < 1 + n) ∧
    (∃ v : Word, ∃ s : State, Reaches Reg.ETH_MDIO_CMD s ∧ s.eth.mdio = none ∧ fget v 27 26 ≠ 3) ∧
    (∃ v : Word, ∃ s : State, Calm s ∧ ethStopped s = false ∧ s.eth.mdio = some v) :=
  ⟨⟨(W25.S25.getD 1 State.reset), (W25.allList__BitVec_8_[1]'(by decide +kernel)), (W25.S25_calm 1 (by decide)), by decide +kernel⟩,
   ⟨(W25.S25.getD 2 State.reset), (W25.allList__BitVec_8_[1]'(by decide +kernel)), 4, (W25.S25_calm 2 (by decide)), by decide +kernel⟩,
   ⟨(W25.S25.getD 1 State.reset), (W25.allList__BitVec_8_[1]'(by decide +kernel)), (W25.S25_calm 1 (by decide)), by decide +kernel⟩,
   ⟨(W25.S25.getD 1 State.reset), (W25.allList__BitVec_8_[2]'(by decide +kernel)), (W25.S25_calm 1 (by decide)), by decide +kernel⟩,
   ⟨(W25.S25.getD 4 State.reset), 99000000, 200, (W25.S25_calm 4 (by decide)), by decide +kernel⟩,
   ⟨(W25.S25.getD 6 State.reset), 2, 3, (W25.allEthTx[0]'(by decide +kernel)), (W25.allRUnit[0]'(by decide +kernel)), calm_of (by decide +kernel), by decide +kernel⟩,
   ⟨(W25.S25.getD 7 State.reset), 2, 3, (W25.allEthTx[0]'(by decide +kernel)), (W25.allRUnit[0]'(by decide +kernel)), calm_of (by decide +kernel), by decide +kernel⟩,
   ⟨(W25.S25.getD 8 State.reset), 2, 3, 5, (W25.allEthTx[2]'(by decide +kernel)), (W25.allRUnit[2]'(by decide +kernel)), (W25.allFDesc[0]'(by decide +kernel)), calm_of (by decide +kernel), by decide +kernel⟩,
   ⟨(W25.S25.getD 0 State.reset), reaches_of (W25.S25_calm 0 (by decide)) (by decide +kernel)⟩,
   ⟨0x00a0309345#40, (W25.S25.getD 0 State.reset), 0, reaches_of (W25.S25_calm 0 (by decide)) (by decide +kernel), by decide +kernel⟩,
   ⟨0x00bfff8000#40, (W25.S25.getD 0 State.reset), 0, reaches_of (W25.S25_calm 0 (by decide)) (by decide +kernel), by decide +kernel⟩,
   ⟨0x0000000123#40, (W25.S25.getD 0 State.reset), reaches_of (W25.S25_calm 0 (by decide)) (by decide +kernel), by decide +kernel⟩,
   ⟨0x0000000123#40, (W25.S25.getD 11 State.reset), (W25.S25_calm 11 (by decide)), by decide +kernel⟩⟩

theorem test_UsbControl_met :
    (∃ s : State, let quiet := fun (kind : Nat) (rx : Bool) => ∀ e, e < 8 → ∀ r, boundRing s kind e rx = some r → (s.ring r).unit = none; Calm s ∧ usbUp s = true ∧ quiet 5 false ∧ quiet 6 true) ∧
    (∃ s : State, let quiet := fun (kind : Nat) (rx : Bool) => ∀ e, e < 8 → ∀ r, boundRing s kind e rx = some r → (s.ring r).unit = none; ∃ e : Nat, ∃ r : Nat, ∃ u, Calm s ∧ usbUp s = true ∧ e < 8 ∧ boundRing s 5 e false = some r ∧ quiet 6 true ∧ (s.ring r).unit = some u) ∧
    (∃ s : State, Calm s ∧ usbUp s = true ∧ usbSuspended s = false) ∧
    (∃ s : State, Calm s ∧ usbUp s = true ∧ usbSuspended s = true) ∧
    (∃ s : State, Calm s ∧ usbUp s = true ∧ s.bit Reg.USB_EP0_CTL 0 = true) ∧
    (∃ s : State, Calm s ∧ usbUp s = true ∧ s.bit Reg.USB_EP0_CTL 0 = false ∧ shedNonStream s = false ∧ Nat.testBit s.usb.armed 0 = true) ∧
    (∃ s : State, Calm s ∧ usbUp s = true ∧ s.bit Reg.USB_EP0_CTL 0 = false ∧ shedNonStream s = false ∧ Nat.testBit s.usb.armed 0 = false) ∧
    (∃ s : State, ∃ os : List (BitVec 8), Calm s ∧ usbUp s = true ∧ s.bit Reg.USB_EP0_CTL 0 = false ∧ shedNonStream s = false ∧ os.length ≤ 64 ∧ Nat.testBit s.usb.armed 1 = true) ∧
    (∃ s : State, Calm s ∧ usbUp s = true ∧ s.bit Reg.USB_EP0_CTL 0 = false ∧ shedNonStream s = false ∧ Nat.testBit s.usb.armed 2 = true) ∧
    (∃ v : Word, ∃ s : State, Reaches Reg.USB_CTL s ∧ usbUp s = true ∧ bget v 0 = true ∧ bget v 1 = true ∧ usbSuspended s = true) ∧
    (∃ s : State, Reaches Reg.USB_ADDR s ∧ s.usb.ctl = true) ∧
    (∃ s : State, Reaches Reg.USB_ADDR s ∧ s.usb.ctl = false) ∧
    (∃ s : State, Reaches Reg.USB_TEST s ∧ s.bit Reg.USB_CTL 0 = true) ∧
    (∃ s : State, Reaches Reg.USB_TEST s ∧ s.bit Reg.USB_CTL 0 = false) :=
  ⟨⟨(W26.S26.getD 1 State.reset), (W26.S26_calm 1 (by decide)), by decide +kernel⟩,
   ⟨(W26.S26.getD 6 State.reset), 2, 3, (W26.allRUnit[0]'(by decide +kernel)), (W26.S26_calm 6 (by decide)), by decide +kernel⟩,
   ⟨(W26.S26.getD 1 State.reset), (W26.S26_calm 1 (by decide)), by decide +kernel⟩,
   ⟨(W26.S26.getD 2 State.reset), (W26.S26_calm 2 (by decide)), by decide +kernel⟩,
   ⟨(W26.S26.getD 5 State.reset), (W26.S26_calm 5 (by decide)), by decide +kernel⟩,
   ⟨(W26.S26.getD 3 State.reset), (W26.S26_calm 3 (by decide)), by decide +kernel⟩,
   ⟨(W26.S26.getD 1 State.reset), (W26.S26_calm 1 (by decide)), by decide +kernel⟩,
   ⟨(W26.S26.getD 3 State.reset), [], (W26.S26_calm 3 (by decide)), by decide +kernel⟩,
   ⟨(W26.S26.getD 3 State.reset), (W26.S26_calm 3 (by decide)), by decide +kernel⟩,
   ⟨0x0000000123#40, (W26.S26.getD 2 State.reset), reaches_of (W26.S26_calm 2 (by decide)) (by decide +kernel), by decide +kernel⟩,
   ⟨(W26.S26.getD 3 State.reset), reaches_of (W26.S26_calm 3 (by decide)) (by decide +kernel), by decide +kernel⟩,
   ⟨(W26.S26.getD 0 State.reset), reaches_of (W26.S26_calm 0 (by decide)) (by decide +kernel), by decide +kernel⟩,
   ⟨(W26.S26.getD 1 State.reset), reaches_of (W26.S26_calm 1 (by decide)) (by decide +kernel), by decide +kernel⟩,
   ⟨(W26.S26.getD 0 State.reset), reaches_of (W26.S26_calm 0 (by decide)) (by decide +kernel), by decide +kernel⟩⟩

theorem test_UsbEndpoints_met :
    (∃ v : Word, ∃ s : State, ∃ out : Bool, ∃ e : Fin 8, let a := usbCfg out e; let type := fget v 18 17; let mult := fget v 16 15; let legal := mpsOk (usbHs s) type (fget v 10 0) = true ∧ (mult = 1 ∨ usbHs s = true ∧ (type = 1 ∨ type = 3)) ∧ usbBufWords s + epWords v ≤ 4096; Reaches a s ∧ s.bit a 20 = false ∧ bget v 21 = false ∧ 1 ≤ type ∧ 1 ≤ mult ∧ legal) ∧
    (∃ v : Word, ∃ s : State, ∃ out : Bool, ∃ e : Fin 8, let a := usbCfg out e; let type := fget v 18 17; Reaches a s ∧ s.bit a 20 = false ∧ bget v 21 = false ∧ type = 0) ∧
    (∃ s : State, ∃ out : Bool, ∃ e : Fin 8, let a := usbCfg out e; Reaches a s ∧ s.bit a 20 = true) ∧
    (∃ s : State, ∃ e : Fin 8, Calm s ∧ usbUp s = true ∧ usbSuspended s = false ∧ s.bit (Reg.USB_EPIN_CFG e) 20 = true ∧ s.bit (Reg.USB_EPIN_CFG e) 19 = false ∧ shedNonStream s = false ∧ s.usb.inj = false ∧ fbOf s e = none ∧ usbIso s false e = false ∧ boundRing s 5 e false = none) ∧
    (∃ s : State, ∃ e : Fin 8, ∃ acked : Bool, ∃ r, let s1 := pump busSrv r s; ∃ p : List Nat, ∃ z : Bool, Calm s1 ∧ usbUp s = true ∧ usbSuspended s = false ∧ s.bit (Reg.USB_EPIN_CFG e) 20 = true ∧ s.bit (Reg.USB_EPIN_CFG e) 19 = false ∧ shedNonStream s = false ∧ s.usb.inj = false ∧ fbOf s e = none ∧ boundRing s 5 e false = some r ∧ usbIso s false e = false ∧ usbIso s1 false e = false ∧ usbNextIn s1 e r = some (p, z) ∧ acked = true) ∧
    (∃ s : State, ∃ e : Fin 8, ∃ acked : Bool, ∃ r, let s1 := pump busSrv r s; ∃ p : List Nat, ∃ z : Bool, Calm s1 ∧ usbUp s = true ∧ usbSuspended s = false ∧ s.bit (Reg.USB_EPIN_CFG e) 20 = true ∧ s.bit (Reg.USB_EPIN_CFG e) 19 = false ∧ shedNonStream s = false ∧ s.usb.inj = false ∧ fbOf s e = none ∧ boundRing s 5 e false = some r ∧ usbIso s false e = false ∧ usbIso s1 false e = false ∧ usbNextIn s1 e r = some (p, z) ∧ acked = false) ∧
    (∃ s : State, ∃ e : Fin 8, let a := Reg.USB_EPOUT_CFG e; Calm s ∧ usbUp s = true ∧ usbSuspended s = false ∧ s.bit a 20 = true ∧ usbIso s true e = false) ∧
    (∃ s : State, ∃ e : Fin 8, ∃ os : List (BitVec 8), ∃ toggle : Bool, let a := Reg.USB_EPOUT_CFG e; let x := s.usbEp (17 + e); Calm s ∧ usbUp s = true ∧ usbSuspended s = false ∧ s.bit a 20 = true ∧ s.bit a 19 = false ∧ usbIso s true e = false ∧ shedNonStream s = false ∧ os.length ≤ s.fld a 10 0 ∧ s.usb.inj = false ∧ x.packets.length < 2 ∧ toggle = x.toggle) ∧
    (∃ s : State, ∃ e : Fin 8, ∃ os : List (BitVec 8), ∃ toggle : Bool, let a := Reg.USB_EPOUT_CFG e; let x := s.usbEp (17 + e); Calm s ∧ usbUp s = true ∧ usbSuspended s = false ∧ s.bit a 20 = true ∧ s.bit a 19 = false ∧ usbIso s true e = false ∧ shedNonStream s = false ∧ os.length ≤ s.fld a 10 0 ∧ s.usb.inj = false ∧ x.packets.length < 2 ∧ toggle ≠ x.toggle) ∧
    (∃ s : State, ∃ e : Fin 8, ∃ os : List (BitVec 8), let a := Reg.USB_EPOUT_CFG e; let x := s.usbEp (17 + e); Calm s ∧ usbUp s = true ∧ usbSuspended s = false ∧ s.bit a 20 = true ∧ s.bit a 19 = false ∧ usbIso s true e = false ∧ shedNonStream s = false ∧ os.length ≤ s.fld a 10 0 ∧ s.usb.inj = false ∧ 2 ≤ x.packets.length) ∧
    (∃ s : State, ∃ u : Nat, ∃ t0 : Nat, let c := Reg.USB_FB_CTL u; Calm s ∧ usbUp s = true ∧ usbSuspended s = false ∧ u < 2 ∧ s.bit c 0 = true ∧ (s.usbFb u).openTick = some t0 ∧ s.usb.lastSof = none ∧ (s.usbFb u).sofs + 1 = 2 ^ s.fld c 11 8 ∧ s.bit c 4 = false) :=
  ⟨⟨0x0000148200#40, (W26.S26.getD 0 State.reset), true, 2, reaches_of (W26.S26_calm 0 (by decide)) (by decide +kernel), by decide +kernel⟩,
   ⟨0x0000000123#40, (W26.S26.getD 0 State.reset), true, 2, reaches_of (W26.S26_calm 0 (by decide)) (by decide +kernel), by decide +kernel⟩,
   ⟨(W26.S26.getD 6 State.reset), false, 2, reaches_of (W26.S26_calm 6 (by decide)) (by decide +kernel), by decide +kernel⟩,
   ⟨(W26.S26.getD 9 State.reset), 2, (W26.S26_calm 9 (by decide)), by decide +kernel⟩,
   ⟨(W26.S26.getD 6 State.reset), 2, true, 3, (W26.allList_Nat[0]'(by decide +kernel)), false, calm_of (by decide +kernel), by decide +kernel⟩,
   ⟨(W26.S26.getD 6 State.reset), 2, false, 3, (W26.allList_Nat[0]'(by decide +kernel)), false, calm_of (by decide +kernel), by decide +kernel⟩,
   ⟨(W26.S26.getD 10 State.reset), 2, (W26.S26_calm 10 (by decide)), by decide +kernel⟩,
   ⟨(W26.S26.getD 10 State.reset), 2, [], true, (W26.S26_calm 10 (by decide)), by decide +kernel⟩,
   ⟨(W26.S26.getD 10 State.reset), 2, [], false, (W26.S26_calm 10 (by decide)), by decide +kernel⟩,
   ⟨(W26.S26.getD 12 State.reset), 2, [], (W26.S26_calm 12 (by decide)), by decide +kernel⟩,
   ⟨(W26.S26.getD 13 State.reset), 0, 0, (W26.S26_calm 13 (by decide)), by decide +kernel⟩⟩

/-- A level source that is asserted, and a step. -/
theorem test_LevelHeldKept_met : ∃ s t : State, LevelHeld s ∧ step s = .next t ∧ s.eiu.inq = [] ∧ s.eiu.owed = [] :=
  ⟨State.reset, State.reset, held_of (by decide +kernel), rfl, rfl, rfl⟩

theorem test_ResetState_field : ∃ a f, f ∈ fieldsAt a ∧ resetSpecial a = none :=
  ⟨Reg.EIU_SRC_CNT 0, (fieldsAt (Reg.EIU_SRC_CNT 0))[0]'(by decide +kernel), List.getElem_mem _, by decide +kernel⟩

/-- The words of an image with the records ENTRY, SIGNATURE and END whose signature is all zero. -/
def smallImage : List Word :=
  let a : List Word := [magic, 2 ^ 32, 41, 3] ++ List.replicate 11 0
  let b := a ++ [BitVec.ofNat 40 (crc32c (imgOctets a)), 0x0A00000001, 0x48123, 0x0F00000014] ++ List.replicate 20 0 ++ [0xFF00000001]
  b ++ [BitVec.ofNat 40 (crc32c (imgOctets b))]

/-- Pass 1 accepts an image wherever the signature's check, which is an opaque function, accepts it. -/
theorem test_BootPasses_accepted (h : ∀ k m g, Config.ed25519Verify k m g = true) :
    ∃ s : State, Calm s ∧ s.fld Reg.BSQ_STATUS 9 7 = 2 ∧ (bootOrder (s.fld Reg.BSQ_STRAPS 4 3))[s.boot.src]? = some 0 ∧ s.tb.xbLost = false ∧
      ∃ d, pass1 1677721 s.boot.fuses smallImage = .inr d := by
  refine ⟨W19.S19.getD 1 State.reset, calm_of (by decide +kernel), by decide +kernel, by decide +kernel, by decide +kernel, imgDigest smallImage 18, ?_⟩
  have e1 : headerCheck 1677721 smallImage = none := by decide +kernel
  have e2 : walkRecords smallImage (imgLength smallImage) (imgLength smallImage + 1) 16 [] = .inr [(10, 16, 1), (15, 18, 20), (255, 39, 1)] := by decide +kernel
  have e3 : imgLength smallImage = 41 := by decide +kernel
  have e4 : listOk (fget (imgWord smallImage 3) 15 0) [(10, 16, 1), (15, 18, 20), (255, 39, 1)] = true := by decide +kernel
  have e5 : (decide (fget (imgWord smallImage (39 + 1)) 39 32 ≠ 0) || decide (fget (imgWord smallImage (39 + 1)) 31 0 ≠ crc32c (imgOctets (smallImage.take (39 + 1))))) = false := by decide +kernel
  have e6 : (((sigOctets smallImage 18).drop 32).take 3).any (fun o => o != 0) = false := by decide +kernel
  have e7 : ((sigOctets smallImage 18).getD 99 0 != 0) = false := by decide +kernel
  have e8 : (W19.S19.getD 1 State.reset).boot.fuses = 0 := by decide +kernel
  rw [e3] at e2
  simp only [pass1, e1, e3, e2, e4, e8]
  simp only [Nat.reduceSub, e5, e6, e7, h]
  simp

/-! ### The package's balls; expected values from the tables of chapter 22 -/

theorem test_ball_grid : ballGrid.length = 892 := by decide +kernel
theorem test_ball_regions : ballRegions.map (fun g => ((regionFill g).length, g.signals.length)) =
    [(119, 94), (119, 94), (112, 57), (112, 42), (159, 111), (79, 33)] := by decide +kernel
theorem test_ball_cells : cellSignals.length = 359 := by decide +kernel
theorem test_ball_P23 : (match ballAt 14 23 with | .signal g => g.name == "EMMC_DAT" && g.idx == some 0 | _ => false) = true := by decide +kernel
theorem test_ball_P28 : ballAt 14 28 = .supply "VDDIO_MEM" := by decide +kernel
theorem test_ball_status_in_reset : ballDrive { State.reset with boot := { State.reset.boot with inReset := true } } ⟨"STATUS", some 0, "VDDIO_SYS", true, false⟩ = some .low := by decide +kernel

/-! ### Single commands on core 0, which runs in its own close memory; expected values worked out by hand from the tables of chapters 3 and 4 -/

/-- Core 0 at a level, with w1 and w2 as given. -/
def coreWith (pl : Nat) (a b : Word) : State := (runAt 0 pl 1 State.reset).updCore 0 (fun k => { k with w := [(1, a), (2, b)] })

def after (o : Host.Outcome State Fault Refusal) (f : State → Bool) : Bool := match o with | .next t => f t | _ => false

theorem test_add_wraps : after (exec (.shortRegisterAlu 0 .add 3 1 2) (coreWith 3 0xFFFFFFFFFF 2)) (fun t => t.gpr 0 3 == 1) = true := by decide +kernel
theorem test_sar_by_63 : after (exec (.shortRegisterAlu 0 .sar 3 1 2) (coreWith 3 0x8000000000 0x7F)) (fun t => t.gpr 0 3 == 0xFFFFFFFFFF) = true := by decide +kernel
theorem test_cmp_borrows : after (exec (.compare 0 .cmp 1 2) (coreWith 3 0 1)) (fun t => flagC (t.flags 0) && flagN (t.flags 0) && !flagV (t.flags 0)) = true := by decide +kernel
theorem test_cmp_overflows : after (exec (.compare 0 .cmp 1 2) (coreWith 3 0x8000000000 1)) (fun t => !flagC (t.flags 0) && !flagN (t.flags 0) && flagV (t.flags 0)) = true := by decide +kernel
theorem test_ror_by_41 : after (exec (.longRegisterAlu 0 .ror false 3 1 2) (coreWith 3 1 41)) (fun t => t.gpr 0 3 == 0x8000000000) = true := by decide +kernel
theorem test_rems_sign : after (exec (.longRegisterAlu 0 .rems false 3 1 2) (coreWith 3 0xFFFFFFFFF9 3)) (fun t => t.gpr 0 3 == 0xFFFFFFFFFF) = true := by decide +kernel
theorem test_mulhs : after (exec (.longRegisterAlu 0 .mulhs false 3 1 2) (coreWith 3 0xFFFFFFFFFF 0xFFFFFFFFFF)) (fun t => t.gpr 0 3 == 0) = true := by decide +kernel
theorem test_adds_saturates : after (exec (.longRegisterAlu 0 .adds false 3 1 2) (coreWith 3 0x7FFFFFFFFF 1)) (fun t => t.gpr 0 3 == 0x7FFFFFFFFF && flagS (t.flags 0)) = true := by decide +kernel
theorem test_w0_discards : after (exec (.shortRegisterAlu 0 .or 0 1 2) (coreWith 3 5 2)) (fun t => t.gpr 0 0 == 0) = true := by decide +kernel
theorem test_svc_cause : after (exec (.svc 0 5) (coreWith 0 0 0)) (fun t => t.reg (Reg.CS_K_CAUSE 0) == 0x50007 && t.pl 0 == 1 && t.hold 0 1) = true := by decide +kernel
theorem test_sw_then_lw : after (exec (.sw 0 2 1 0) (coreWith 2 0x40010 0x123456789A)) (fun t => after (exec (.lw 0 3 1 0) t) (fun u => u.gpr 0 3 == 0x123456789A)) = true := by decide +kernel
theorem test_sb_octet_3 : after (exec (.sb 0 2 1 0) (coreWith 2 (0x40010 * 8 + 3) 0x5A)) (fun t => (memRead t.close 16).v == 0x5A000000) = true := by decide +kernel

end Sys2Proof.Tests
end

section
/-!
SUPPORT. The entry that a synchronous cause of an instruction makes on a ready core (R94, R95), and from it the ALIGN entry of an octet access (R59).

A cause that ends an instruction puts the agent's replacement order back (`keepUse`), which writes core c's own agent record over itself. In a state whose
agents are kept in canonical form that write changes nothing; in one that lists a record equal to the reset one it takes the record off the list. So the
entry is proved here from the state with the record written back, for every state; it is the entry from the state itself wherever the agents are canonical.
-/
set_option linter.constructorNameAsVariable false

namespace Sys2Proof.Machine

/-! ### Writing back what stands in a sparse map -/

theorem SMap.find_none_of_rising {α : Type} {k b : Nat} (m : SMap α) (hk : k ≤ b) (h : SMap.risingFrom (some b) m = true) : SMap.find k m = none := by
  induction m generalizing b with
  | nil => rfl
  | cons e t ih =>
    obtain ⟨j, w⟩ := e
    simp only [SMap.risingFrom, Bool.and_eq_true, decide_eq_true_eq] at h
    rw [SMap.find, if_neg (by omega)]
    exact ih (by omega) h.2

theorem SMap.erase_of_find_none {α : Type} {k : Nat} (m : SMap α) (h : SMap.find k m = none) : SMap.erase k m = m := by
  induction m with
  | nil => rfl
  | cons e t ih =>
    obtain ⟨j, w⟩ := e
    by_cases hkj : k = j
    · simp [SMap.find, hkj] at h
    · simp only [SMap.find, SMap.erase, if_neg hkj] at h ⊢
      rw [ih h]

theorem SMap.insert_of_find_some {α : Type} {k : Nat} {v : α} (m : SMap α) (hr : SMap.risingFrom none m = true) (h : SMap.find k m = some v) :
    SMap.insert k v m = m := by
  induction m with
  | nil => cases h
  | cons e t ih =>
    obtain ⟨j, w⟩ := e
    simp only [SMap.risingFrom] at hr
    by_cases hkj : k = j
    · simp only [SMap.find, hkj, if_true, Option.some.injEq] at h
      simp [SMap.insert, hkj, h]
    · simp only [SMap.find, if_neg hkj] at h
      have hlt : ¬ k < j := fun hlt => by simp [SMap.find_none_of_rising t hlt.le hr] at h
      simp only [SMap.insert, if_neg hkj, if_neg hlt, ih (SMap.rising_none hr) h]

theorem SMap.mem_of_find {α : Type} {k : Nat} {v : α} {m : SMap α} (h : SMap.find k m = some v) : (k, v) ∈ m := by
  induction m with
  | nil => cases h
  | cons e t ih =>
    obtain ⟨j, w⟩ := e
    by_cases hkj : k = j
    · simp only [SMap.find, hkj, if_true, Option.some.injEq] at h
      simp [hkj, h]
    · simp only [SMap.find, if_neg hkj] at h
      exact List.mem_cons_of_mem _ (ih h)

/-- In a canonical map the value of a key, written back, changes nothing. -/
theorem SMap.put_getD_self {α : Type} [DecidableEq α] (d : α) (k : Nat) (m : SMap α) (h : SMap.canon (fun _ => d) m = true) :
    SMap.put d k (SMap.getD d k m) m = m := by
  simp only [SMap.canon, Bool.and_eq_true, List.all_eq_true, decide_eq_true_eq] at h
  obtain ⟨hr, hd⟩ := h
  cases hf : SMap.find k m with
  | none => simp only [SMap.put, SMap.getD, hf, Option.getD_none, if_true, SMap.erase_of_find_none m hf]
  | some v =>
    have hv : v ≠ d := hd (k, v) (SMap.mem_of_find hf)
    simp only [SMap.put, SMap.getD, hf, Option.getD_some, if_neg hv, SMap.insert_of_find_some m hr hf]

theorem setAgent_self {s : State} (c : Nat) (h : SMap.canon (fun _ => Agent.reset) s.agents = true) : s.setAgent c (s.agent c) = s := by
  simp only [State.setAgent, State.agent, SMap.put_getD_self _ c _ h]

/-! ### What an instruction's end and an exception entry leave of the state -/

/-- From k to j a core keeps its registers, its halt, step and park, and what it has in work. -/
structure SameHeld (k j : Core) : Prop where
  w : j.w = k.w
  acc : j.acc = k.acc
  halt : j.haltReq = k.haltReq
  step : j.stepping = k.stepping
  parked : j.parked = k.parked
  work : j.stq = k.stq ∧ j.pfq = k.pfq

/-- From s to t only registers of the device and core c change, and core c keeps what `SameHeld` names. -/
structure CoreKept (c : Nat) (s t : State) : Prop where
  only : CoresOnly s t
  others : ∀ d, d ≠ c → t.core d = s.core d
  held : SameHeld (s.core c) (t.core c)

theorem SameHeld.refl (k : Core) : SameHeld k k := ⟨rfl, rfl, rfl, rfl, rfl, rfl, rfl⟩

theorem SameHeld.trans {k j i : Core} (h : SameHeld k j) (g : SameHeld j i) : SameHeld k i :=
  ⟨g.w.trans h.w, g.acc.trans h.acc, g.halt.trans h.halt, g.step.trans h.step, g.parked.trans h.parked, g.work.1.trans h.work.1, g.work.2.trans h.work.2⟩

theorem CoreKept.trans {c : Nat} {s t u : State} (h : CoreKept c s t) (g : CoreKept c t u) : CoreKept c s u :=
  ⟨h.only.trans g.only, fun d hd => (g.others d hd).trans (h.others d hd), h.held.trans g.held⟩

theorem RegsOnly.coreKept {s t : State} (h : RegsOnly s t) (c : Nat) : CoreKept c s t :=
  ⟨h.coresOnly, fun d _ => h.get_core d, h.get_core c ▸ .refl _⟩

theorem coreKept_updCore {c : Nat} {s : State} {f : Core → Core} (h : SameHeld (s.core c) (f (s.core c))) : CoreKept c s (s.updCore c f) :=
  ⟨coresOnly_updCore .., fun _ hd => core_updCore_ne hd s f, by rw [core_updCore_self]; exact h⟩

theorem CoreKept.gprs {c : Nat} {s t : State} (h : CoreKept c s t) : SameGprs c s t := fun r => by simp only [State.gpr, h.held.w]
theorem CoreKept.accs {c : Nat} {s t : State} (h : CoreKept c s t) : SameAccs c s t := fun a => by simp only [State.accOf, h.held.acc]

theorem CoreKept.sameWork {c : Nat} {s t : State} (h : CoreKept c s t) : SameWork s t := fun d => by
  by_cases e : d = c
  · subst e; exact h.held.work
  · rw [h.others d e]; exact ⟨rfl, rfl⟩

theorem CoreKept.unhindered {c : Nat} {s t : State} (h : CoreKept c s t) (u : Unhindered s c) : Unhindered t c :=
  ⟨h.held.halt.trans u.halt, h.held.step.trans u.step, h.held.parked.trans u.parked, by rw [h.only.pwr]; exact u.park⟩

/-- The control registers of a core's page below the counters, other than RET_COUNT, count nothing. -/
theorem not_count_of_lt {c a : Nat} (h : a < 0x208040 + 0x1000 * c) (h7 : a ≠ 0x208007 + 0x1000 * c) : ¬ countsOf c a := by
  rintro (e | ⟨k, _, e | e⟩) <;> simp only [Reg.CS_RET_COUNT, Reg.CS_PMC, Reg.CS_PMC_SEL] at e <;> omega

/-- The registers of the device keep their value, but for what core c counts in. -/
def SameUncounted (c : Nat) (s t : State) : Prop := ∀ a, ¬ countsOf c a → t.reg a = s.reg a

section
variable {s t : State} {c : Nat} (h : SameUncounted c s t)
include h

theorem SameUncounted.pl : t.pl c = s.pl c := congrArg (fget · 1 0) (h _ (status_not_count c))
theorem SameUncounted.ie : t.ie c = s.ie c := congrArg (bget · 2) (h _ (status_not_count c))
theorem SameUncounted.hold (n : Nat) : t.hold c n = s.hold c n := congrArg (bget · (n + 2)) (h _ (status_not_count c))
theorem SameUncounted.flags : t.flags c = s.flags c := congrArg (fget · 4 0) (h _ (flags_not_count c))

/-- What an entry's level is made of stands in registers that count nothing. -/
theorem SameUncounted.targetLevel (e : Exc) : targetLevel t c e = targetLevel s c e := by
  have hp : routeBit t (Reg.CS_P_ROUTE c) e.code = routeBit s (Reg.CS_P_ROUTE c) e.code :=
    congrArg (bget · e.code) (h _ (not_count_of_lt (by simp only [Reg.CS_P_ROUTE]; omega) (by simp only [Reg.CS_P_ROUTE]; omega)))
  have hm : routeBit t (Reg.CS_M_ROUTE c) e.code = routeBit s (Reg.CS_M_ROUTE c) e.code :=
    congrArg (bget · e.code) (h _ (not_count_of_lt (by simp only [Reg.CS_M_ROUTE]; omega) (by simp only [Reg.CS_M_ROUTE]; omega)))
  rw [Machine.targetLevel, h.pl, hp, hm, ← Machine.targetLevel]

theorem SameUncounted.entersAt {b L : Nat} (g : EntersAt s c b L) : EntersAt t c b L := by simpa only [EntersAt, h.hold] using g

end

/-! ### The end of an instruction that does not retire -/

theorem keepCounts_only (c : Nat) (old s : State) : RegsOnly s (keepCounts c old s) := by
  unfold keepCounts
  exact RegsOnly.foldl _ (fun x _ => .ite ((regsOnly_setReg ..).trans (regsOnly_setReg ..)) (.refl x)) _ s

theorem keepCounts_uncounted (c : Nat) (old s : State) : SameUncounted c s (keepCounts c old s) := by
  intro a h
  unfold keepCounts
  apply foldl_same_mem (fun s => State.reg s a)
  intro x k hk
  have hk := List.mem_range.mp hk
  have hp : a ≠ Reg.CS_PMC c k := fun e => h (Or.inr ⟨k, hk, Or.inl e⟩)
  have hs : a ≠ Reg.CS_PMC_SEL c k := fun e => h (Or.inr ⟨k, hk, Or.inr e⟩)
  split
  · rw [reg_setReg_ne hs, reg_setReg_ne hp]
  · rfl

theorem keepOrder_self (l : List Nat) : keepOrder l l = l := by
  have old : l.filter (fun x => l.contains x) = l := List.filter_eq_self.2 (fun x hx => by simpa using hx)
  have new : l.filter (fun x => !l.contains x) = [] := List.filter_eq_nil_iff.2 (fun x hx => by simpa using hx)
  rw [keepOrder, old, new, List.nil_append]

/-- Where an instruction has not touched its agent, restoring the replacement order writes the agent's record back. -/
theorem keepUse_untouched {c : Nat} {old s : State} (ha : s.agent c = old.agent c) (hp : (old.core c).pfq = (s.core c).pfq) :
    CoreKept c (s.setAgent c (s.agent c)) (keepUse c old s) := by
  have hu : ({ s.agent c with use := keepOrder (old.agent c).use (s.agent c).use } : Agent) = s.agent c := by rw [← ha, keepOrder_self]
  simp only [keepUse, hu]
  exact coreKept_updCore ⟨rfl, rfl, rfl, rfl, rfl, rfl, hp⟩

/-- The state in which core c enters a level for a cause of the instruction it gave up. -/
def givenUp (c : Nat) (s : State) : State := endInsn c ((keepUse c s (keepCounts c s s)).updCore c (fun k => { k with skipBreak := false }))

theorem RegsOnly.setAgent {s t : State} (h : RegsOnly s t) (c : Nat) (g : Agent) : RegsOnly (s.setAgent c g) (t.setAgent c g) := by
  unfold RegsOnly at *; rw [h]; rfl

theorem givenUp_kept {c : Nat} {s : State} (h : isLeader s c = false) : CoreKept c (s.setAgent c (s.agent c)) (givenUp c s) := by
  have hk := keepCounts_only c s s
  have hcounts : CoreKept c (s.setAgent c (s.agent c)) ((keepCounts c s s).setAgent c ((keepCounts c s s).agent c)) := by
    rw [hk.get_agent]; exact (hk.setAgent c _).coreKept c
  have huse : CoreKept c _ (keepUse c s (keepCounts c s s)) := keepUse_untouched (hk.get_agent c) (by rw [hk.get_core])
  have hskip : CoreKept c _ ((keepUse c s (keepCounts c s s)).updCore c (fun k => { k with skipBreak := false })) :=
    coreKept_updCore ⟨rfl, rfl, rfl, rfl, rfl, rfl, rfl⟩
  have hall := (hcounts.trans huse).trans hskip
  have halone : isLeader ((keepUse c s (keepCounts c s s)).updCore c (fun k => { k with skipBreak := false })) c = false := by
    simp only [isLeader, hall.only.get_pair]; exact h
  rw [givenUp, endInsn_alone halone]
  exact hall.trans (coreKept_updCore ⟨rfl, rfl, rfl, rfl, rfl, rfl, rfl⟩)

theorem endInsn_reg (c a : Nat) (s : State) : (endInsn c s).reg a = s.reg a := by unfold endInsn; dsimp only; split <;> rfl

theorem givenUp_uncounted (c : Nat) (s : State) : SameUncounted c s (givenUp c s) := fun a ha => (endInsn_reg ..).trans (keepCounts_uncounted c s s a ha)

/-! ### The entry (R94, R99) -/

theorem squashAll_kept (c : Nat) (s : State) : CoreKept c s (squashAll c s) := by
  unfold squashAll
  refine CoreKept.trans (RegsOnly.coreKept ?_ c) (coreKept_updCore ⟨rfl, rfl, rfl, rfl, rfl, rfl, rfl⟩)
  exact (RegsOnly.ite (.refl s) (pmcEvent_only ..)).trans (.ite (.refl _) (pmcEvent_only ..))

theorem squashAll_uncounted (c : Nat) (s : State) : SameUncounted c s (squashAll c s) := by
  intro a h
  have hev : ∀ (b : Bool) (ev n : Nat) (x : State), (if b = true then x else pmcEvent c ev n x).reg a = x.reg a := by
    intro b ev n x
    split
    · rfl
    · exact pmcEvent_reg_of_not_count c ev n x a h
  simp only [squashAll, updCore_get_reg, hev]

theorem squashPrivate_kept (c : Nat) (s : State) : CoreKept c s (squashPrivate c s) :=
  (squashAll_kept c s).trans (coreKept_updCore ⟨rfl, rfl, rfl, rfl, rfl, rfl, rfl⟩)

theorem squashPrivate_uncounted (c : Nat) (s : State) : SameUncounted c s (squashPrivate c s) := squashAll_uncounted c s

/-- The level of R99 is found, where one is free. -/
theorem freeLevel_eq {s : State} {c b L : Nat} (hb : 1 ≤ b) (h : EntersAt s c b L) : freeLevel s c b = L := by
  obtain ⟨hbL, hL, hfree, hheld⟩ := h
  rcases (by omega : L = 1 ∨ L = 2 ∨ L = 3) with rfl | rfl | rfl
  · simp [freeLevel, hfree, hbL]
  · have h1 : ¬ (b ≤ 1 ∧ s.hold c 1 = false) := fun x => by simp [hheld 1 x.1 (by omega)] at x
    simp [freeLevel, hfree, hbL, h1]
  · have h1 : ¬ (b ≤ 1 ∧ s.hold c 1 = false) := fun x => by simp [hheld 1 x.1 (by omega)] at x
    have h2 : ¬ (b ≤ 2 ∧ s.hold c 2 = false) := fun x => by simp [hheld 2 x.1 (by omega)] at x
    simp [freeLevel, hfree, hbL, h1, h2]

/-- The registers an entry writes lie in the page of their core at offsets of its level. -/
theorem vecReg_eq {c L : Nat} (h : 1 ≤ L ∧ L ≤ 3) : vecReg c L = 0x208000 + 0x1000 * c + vecNum L := by
  rcases (by omega : L = 1 ∨ L = 2 ∨ L = 3) with rfl | rfl | rfl <;> simp [vecReg, vecNum, Reg.CS_K_VEC, Reg.CS_P_VEC, Reg.CS_M_VEC] <;> omega

theorem vecNum_range {L : Nat} : 0x09 ≤ vecNum L ∧ vecNum L ≤ 0x28 := by
  unfold vecNum; split_ifs <;> omega

theorem vecReg_ne_status {c L i : Nat} (h : 1 ≤ L ∧ L ≤ 3) : vecReg c L + i ≠ Reg.CS_STATUS c := by
  have := vecReg_eq (c := c) h
  have := vecNum_range (L := L)
  simp only [Reg.CS_STATUS]; omega

theorem vecReg_not_count {c L : Nat} (h : 1 ≤ L ∧ L ≤ 3) : ¬ countsOf c (vecReg c L) := by
  have := vecReg_eq (c := c) h
  have := vecNum_range (L := L)
  exact not_count_of_lt (by omega) (by omega)

/-! What `cs.STATUS` shows after an entry at level L. -/

theorem enterStatus_pl (st : Word) {L : Nat} (h : 1 ≤ L ∧ L ≤ 3) : fget (enterStatus st L) 1 0 = L := by
  rw [enterStatus, fget_bset_ne _ _ _ _ _ (by omega) (by omega) (by omega), fget_bset_ne _ _ _ _ _ (by omega) (by omega) (by omega),
    fget_fset_self _ _ _ _ (by omega) (by omega)]
  omega

theorem enterStatus_ie (st : Word) {L : Nat} (h : 1 ≤ L ∧ L ≤ 3) : bget (enterStatus st L) 2 = false := by
  rw [enterStatus, bset_bit _ _ _ _ (by omega), if_neg (by omega), bset_bit _ _ _ _ (by omega), if_pos rfl]

theorem enterStatus_hold (st : Word) {L : Nat} (h : L ≤ 3) : bget (enterStatus st L) (L + 2) = true := by
  rw [enterStatus, bset_bit _ _ _ _ (by omega), if_pos rfl]

/-- The registers as an entry without an intermediate address writes them. -/
def entryRegs (c L : Nat) (e : Exc) (nested : Bool) (s : State) : State :=
  ((((s.setReg (epcReg c L) e.epc).setReg (estReg c L) (estWord s c)).setReg (causeReg c L) (causeWord e false nested (s.pl c))).setReg
    (faddrReg c L) e.faddr).setReg (Reg.CS_STATUS c) (enterStatus (s.reg (Reg.CS_STATUS c)) L)

theorem enterLevel_eq {c L : Nat} {e : Exc} {nested : Bool} {s : State} (h : e.ipa = none) :
    enterLevel c L e false nested s = setPc c ((squashPrivate c s).reg (vecReg c L)) (entryRegs c L e nested (squashPrivate c s)) := by
  simp only [enterLevel, entryRegs, h, Bool.false_eq_true, if_false]
  rw [show (squashPrivate c s).reg (vecReg c L) + 0 = _ from BitVec.add_zero _]

theorem entryRegs_only (c L : Nat) (e : Exc) (nested : Bool) (s : State) : RegsOnly s (entryRegs c L e nested s) :=
  ((((regsOnly_setReg ..).trans (regsOnly_setReg ..)).trans (regsOnly_setReg ..)).trans (regsOnly_setReg ..)).trans (regsOnly_setReg ..)

theorem enterLevel_kept {c L : Nat} {e : Exc} {nested : Bool} {s : State} (h : e.ipa = none) : CoreKept c s (enterLevel c L e false nested s) := by
  rw [enterLevel_eq h]
  exact ((squashPrivate_kept c s).trans ((entryRegs_only ..).coreKept c)).trans (coreKept_updCore ⟨rfl, rfl, rfl, rfl, rfl, rfl, rfl⟩)

/-- An entry at a level leaves what R94 says. -/
theorem enterLevel_entered {c L base : Nat} {e : Exc} {s : State} (h : 1 ≤ L ∧ L ≤ 3) (hi : e.ipa = none) :
    Entered c base L e.code e.detail e.epc e.faddr s (enterLevel c L e false (decide (base < L)) s) := by
  have hkept : CoreKept c s (enterLevel c L e false (decide (base < L)) s) := enterLevel_kept hi
  have hq : SameUncounted c s (squashPrivate c s) := squashPrivate_uncounted c s
  have hne : ∀ i, vecReg c L + i ≠ Reg.CS_STATUS c := fun _ => vecReg_ne_status h
  have hregs : ∀ a, (enterLevel c L e false (decide (base < L)) s).reg a = (entryRegs c L e (decide (base < L)) (squashPrivate c s)).reg a :=
    fun a => by rw [enterLevel_eq hi, setPc, updCore_get_reg]
  have hstatus : (enterLevel c L e false (decide (base < L)) s).reg (Reg.CS_STATUS c) = enterStatus (s.reg (Reg.CS_STATUS c)) L := by
    rw [hregs, ← hq _ (status_not_count c)]; exact reg_setReg_self ..
  refine ⟨?_, ?_, ?_, ?_, ?_, ?_, ?_, ?_, hkept.gprs, hkept.accs, hkept.others, hkept.only.memory⟩
  · rw [State.pl, State.fld, hstatus]; exact enterStatus_pl _ h
  · rw [State.ie, State.bit, hstatus]; exact enterStatus_ie _ h
  · rw [State.hold, State.bit, hstatus]; exact enterStatus_hold _ h.2
  · rw [hregs]; simp [entryRegs, reg_setReg, epcReg, estReg, causeReg, faddrReg, hne]
  · rw [hregs]; simp [entryRegs, reg_setReg, epcReg, estReg, causeReg, faddrReg, hne, estWord, hq.flags, hq.ie, hq.pl, nw, b2n]
  · rw [hregs]; simp [entryRegs, reg_setReg, epcReg, estReg, causeReg, faddrReg, hne, hq.pl, causeWord, nw, b2n]
  · rw [hregs]; simp [entryRegs, reg_setReg, epcReg, estReg, causeReg, faddrReg, hne]
  · rw [enterLevel_eq hi, setPc, core_updCore_self, hq _ (vecReg_not_count h)]

/-- An entry from a state that keeps what the entry reads is an entry from the state before. -/
theorem Entered.of_kept {c base L code detail : Nat} {epc faddr : Word} {s u t : State} (hk : CoreKept c s u)
    (hr : SameUncounted c s u) (hL : 1 ≤ L ∧ L ≤ 3) (h : Entered c base L code detail epc faddr u t) :
    Entered c base L code detail epc faddr s t where
  pl := h.pl
  ie := h.ie
  hold := h.hold
  epc := h.epc
  est := by rw [h.est, hr.flags, hr.ie, hr.pl]
  cause := by rw [h.cause, hr.pl]
  faddr := h.faddr
  pc := h.pc.trans (hr _ (vecReg_not_count hL))
  gprs r := (h.gprs r).trans (hk.gprs r)
  accs a := (h.accs a).trans (hk.accs a)
  others d hd := (h.others d hd).trans (hk.others d hd)
  memory := hk.only.memory.trans h.memory

theorem Entered.latched {c base L code detail : Nat} {epc faddr : Word} {s t : State} (h : Entered c base L code detail epc faddr s t) :
    Entered c base L code detail epc faddr s (latched t) :=
  ⟨h.pl, h.ie, h.hold, h.epc, h.est, h.cause, h.faddr, h.pc, h.gprs, h.accs, h.others, h.memory.latched⟩

/-! ### A whole command whose instruction ends in a cause -/

theorem targetLevel_ge_one (s : State) (c : Nat) (e : Exc) : 1 ≤ targetLevel s c e := by
  unfold targetLevel
  exact le_max_of_le_right (le_max_of_le_left (by split <;> omega))

/-- In a device without flaws a synchronous cause enters the level of R99. -/
theorem takeSync_eq {s : State} {c L : Nat} {e : Exc} (hf : s.flaws = []) (hl : EntersAt s c (targetLevel s c e) L) :
    takeSync c e s = enterLevel c L e false (decide (targetLevel s c e < L)) s := by
  have hL4 : L ≠ 4 := by have := hl.2.1; omega
  simp [takeSync, freeLevel_eq (targetLevel_ge_one s c e) hl, hL4, struck, hf]

/-- A command whose instruction ends in a synchronous cause, with no effect before it, enters the cause's level: from the state in which the record of the
core's own agent is written back. -/
theorem insn_enters {s : State} {i : Instr} {c L : Nat} {x : Insn} {e : Exc} (hi : plainInsnOf i = some (c, x)) (h : Ready s c x.long)
    (hc8 : c < 8) (hu : x.undef = false) (hp : x.minPl ≤ s.pl c) (hb : x.body c s = .exc e s) (hipa : e.ipa = none)
    (hl : EntersAt s c (targetLevel s c e) L) :
    ∃ t, ok (runInsn i s) = .next t ∧ Entered c (targetLevel s c e) L e.code e.detail e.epc e.faddr (s.setAgent c (s.agent c)) t := by
  have hx : (insnAs i x).undef = false ∧ (insnAs i x).minPl = x.minPl ∧ (insnAs i x).long = x.long := by
    unfold insnAs; split <;> exact ⟨hu, rfl, rfl⟩
  have hL : 1 ≤ L ∧ L ≤ 3 := ⟨(targetLevel_ge_one s c e).trans hl.1, hl.2.1⟩
  have hg : CoreKept c (s.setAgent c (s.agent c)) (givenUp c s) := givenUp_kept h.notLeader
  have hr : SameUncounted c s (givenUp c s) := givenUp_uncounted c s
  have htake : takeSync c e (givenUp c s) = enterLevel c L e false (decide (targetLevel s c e < L)) (givenUp c s) := by
    rw [← hr.targetLevel e] at hl ⊢
    exact takeSync_eq (hg.only.flaws.trans h.calm.flaws) (hr.entersAt hl)
  have hk : CoreKept c (s.setAgent c (s.agent c)) (takeSync c e (givenUp c s)) := by rw [htake]; exact hg.trans (enterLevel_kept hipa)
  have hcalm : Calm (s.setAgent c (s.agent c)) := h.calm.of_same rfl rfl rfl rfl (.of_cores rfl) rfl rfl
  have hunh : Unhindered (s.setAgent c (s.agent c)) c := ⟨h.unhindered.halt, h.unhindered.step, h.unhindered.parked, h.unhindered.park⟩
  refine ⟨latched (takeSync c e (givenUp c s)), ?_, ?_⟩
  · rw [runInsn_ready hi h, attemptAll_exc (hx.2.2 ▸ h) hx.1 (hx.2.1 ▸ hp) ((insnAs_body x h.calm hc8).trans hb), settleInsn_exc,
      show commitExc c e s s = boundary c (takeSync c e (givenUp c s)) from rfl, boundary_unhindered (hk.unhindered hunh),
      settleAll_calm (hcalm.coresOnly hk.only hk.sameWork), ok]
  · rw [htake]
    exact (Entered.of_kept hg hr hL (enterLevel_entered hL hipa)).latched

/-! ### Octet accesses (R59) -/

/-- The ALIGN check of an octet access stops a pointer whose octet index is 5 to 7 before anything else of it. -/
theorem aligned_body {c rb : Nat} {s : State} (body : Nat → State → MRes (List LeafUpd)) (h : 5 ≤ (s.gpr c rb).toNat % 8) :
    (aligned rb body).body c s = .exc (alignExc (s.core c).pc (s.gpr c rb)) s := by
  simp only [aligned, memInsn, mkInsn, h, if_true, MRes.bind, corePc]

/-- Every octet access with such a pointer enters ALIGN. -/
theorem misaligned_enters {s : State} {i : Instr} {c rb L : Nat} {body : Nat → State → MRes (List LeafUpd)} (hi : plainInsnOf i = some (c, aligned rb body))
    (h : Ready s c true) (hc8 : c < 8) (hp : 5 ≤ (s.gpr c rb).toNat % 8) (hl : EntersAt s c (baseLevel s c 1 6 true) L) :
    ∃ t, ok (runInsn i s) = .next t ∧ Entered c (baseLevel s c 1 6 true) L 6 0 (s.core c).pc (s.gpr c rb) (s.setAgent c (s.agent c)) t :=
  insn_enters (e := alignExc (s.core c).pc (s.gpr c rb)) hi h hc8 rfl (Nat.zero_le _) (aligned_body body hp) rfl hl

/-- R59 where the agents are kept in canonical form, as every write of an agent keeps them: an octet load or store whose pointer's octet index is 5 to 7 enters
ALIGN with the pointer, and no register and no memory changes. -/
theorem octetPointerAlign_of_canon (c : Fin 8) (rt rb : Fin 32) (off : BitVec 20) (L : Nat) (s : State) (hcanon : SMap.canon (fun _ => Agent.reset) s.agents = true)
    (h : Ready s c true) (hp : 5 ≤ (s.gpr c rb).toNat % 8) (hl : EntersAt s c (baseLevel s c 1 6 true) L) :
    (∃ t, exec (.lbu c rt rb off) s = .next t ∧ Entered c (baseLevel s c 1 6 true) L 6 0 (s.core c).pc (s.gpr c rb) s t) ∧
    (∃ t, exec (.lbs c rt rb off) s = .next t ∧ Entered c (baseLevel s c 1 6 true) L 6 0 (s.core c).pc (s.gpr c rb) s t) ∧
    (∃ t, exec (.sb c rt rb off) s = .next t ∧ Entered c (baseLevel s c 1 6 true) L 6 0 (s.core c).pc (s.gpr c rb) s t) := by
  have enters : ∀ {i body}, plainInsnOf i = some (c.val, aligned rb body) → _ := fun hi => misaligned_enters hi h c.isLt hp hl
  rw [setAgent_self c hcanon] at enters
  exact ⟨enters rfl, enters rfl, enters rfl⟩

/-! ### The counterexample -/

/-- Core 0 runs at level 3 in its own close memory, with an octet pointer of index 5 in w1. Its agent is as reset, and is listed all the same: the agents'
map is not canonical. -/
def listedAgent : State := { State.reset with
  cores := [(0, { Core.reset with run := .running, pc := 0x80246, w := [(1, 5)] })], agents := [(0, Agent.reset)] }

theorem listedAgent_calm : Calm listedAgent where
  flaws := rfl
  held := rfl
  retired := by decide +kernel
  blocked := rfl
  inter := rfl
  waiting := by decide +kernel
  rxq := by decide +kernel
  draining := by decide +kernel
  stores := by decide +kernel
  sources := ⟨rfl, rfl⟩

/-- Both parcels of the instruction are of one word, whose fetch leaves the state as it is. -/
theorem listedAgent_fetch : fetchInsn 0 true none listedAgent = .ok [] listedAgent := by rfl

theorem listedAgent_ready : Ready listedAgent 0 true where
  calm := listedAgent_calm
  start := by decide +kernel
  unpaced := by decide +kernel
  alone := by decide +kernel
  noBreak := by decide +kernel
  noHalt := by decide +kernel
  noPark := by decide +kernel
  fetch := fetchInsn_early listedAgent_fetch
  inner := by decide +kernel

theorem listedAgent_level : EntersAt listedAgent 0 (baseLevel listedAgent 0 1 6 true) 3 := by
  have hbase : baseLevel listedAgent 0 1 6 true = 3 := by decide +kernel
  exact hbase ▸ ⟨le_rfl, le_rfl, by decide +kernel, fun m h3 hm => absurd h3 (by omega)⟩

/-- Refutes O13: `Entered` asks for the list of agents as it was, and the end of an instruction that does not retire writes the record of the core's own agent
back. In `listedAgent` that record equals the reset one, which the write takes off the list: no agent reads differently, but the list does. The model's own writes
never list such a record, and for canonical agents the claim holds (`octetPointerAlign_of_canon`). -/
theorem not_octetPointerAlign : ¬ Obligations.OctetPointerAlign := by
  intro h
  have hp : 5 ≤ (listedAgent.gpr 0 1).toNat % 8 := by decide +kernel
  obtain ⟨t, ht, hkeeps⟩ := (h 0 2 1 0 3 listedAgent listedAgent_ready hp listedAgent_level).1
  obtain ⟨u, hu, hunlists⟩ :=
    misaligned_enters (i := .lbu 0 2 1 0) (c := 0) (rb := 1) rfl listedAgent_ready (by omega) hp listedAgent_level
  have htu : t = u := Host.Outcome.next.inj (ht.symm.trans hu)
  have hlisted : t.agents = [(0, Agent.reset)] := hkeeps.memory.agents
  have hunlisted : u.agents = [] := hunlists.memory.agents.trans (by decide +kernel)
  rw [htu, hunlisted] at hlisted
  cases hlisted

end Sys2Proof.Machine
end

section
/-!
SUPPORT. ERET (R101): what its one event leaves of `cs.STATUS`, the flags, the program address and the reservation, and from it the whole command.
-/
set_option linter.constructorNameAsVariable false

namespace Sys2Proof.Machine

/-! ### The status word (R101, items 2 and 4) -/

/-- `cs.STATUS` after a return from level L: the level and IE that EST holds, and HOLD of L cleared. -/
def returnStatus (st est : Word) (L : Nat) : Word := bset (bset (fset st 1 0 (fget est 1 0)) 2 (bget est 2)) (L + 2) false

theorem fget_lt (w : Word) (hi lo : Nat) : fget w hi lo < 2 ^ (hi - lo + 1) := Nat.mod_lt _ (by positivity)

theorem pl_le_three (s : State) (c : Nat) : s.pl c ≤ 3 := Nat.le_of_lt_succ (fget_lt _ 1 0)

section
variable (st est : Word) {L : Nat}

theorem returnStatus_pl (h : 1 ≤ L ∧ L ≤ 3) : fget (returnStatus st est L) 1 0 = fget est 1 0 := by
  rw [returnStatus, fget_bset_ne _ _ _ _ _ (by omega) (by omega) (by omega), fget_bset_ne _ _ _ _ _ (by omega) (by omega) (by omega),
    fget_fset_self _ _ _ _ (by omega) (by omega), Nat.mod_eq_of_lt (fget_lt est 1 0)]

theorem returnStatus_ie (h : 1 ≤ L ∧ L ≤ 3) : bget (returnStatus st est L) 2 = bget est 2 := by
  rw [returnStatus, bset_bit _ _ _ _ (by omega), if_neg (by omega), bset_bit _ _ _ _ (by omega), if_pos rfl]

theorem returnStatus_hold (h : L ≤ 3) : bget (returnStatus st est L) (L + 2) = false := by
  rw [returnStatus, bset_bit _ _ _ _ (by omega), if_pos rfl]

theorem returnStatus_hold_ne {m : Nat} (h : L ≤ 3) (hm : 1 ≤ m) (hne : m ≠ L) : bget (returnStatus st est L) (m + 2) = bget st (m + 2) := by
  rw [returnStatus, bset_bit _ _ _ _ (by omega), if_neg (by omega), bset_bit _ _ _ _ (by omega), if_neg (by omega),
    bget_fset_ne _ _ _ _ _ (by omega) (by omega) (by omega)]

end

/-! ### The event as a whole -/

/-- The registers as a return writes them. -/
def returnRegs (c : Nat) (s : State) : State :=
  (s.setReg (Reg.CS_STATUS c) (returnStatus (s.reg (Reg.CS_STATUS c)) (s.reg (estReg c (s.pl c))) (s.pl c))).setFlags c
    (fget (s.reg (estReg c (s.pl c))) 7 3)

section
variable (c : Nat) (s : State)

theorem eretEffect_eq : eretEffect c s =
    (setPc c (s.reg (epcReg c (s.pl c))) (returnRegs c s)).updCore c (fun k => { k with resv := none, ras := [] }) := rfl

theorem returnRegs_only : RegsOnly s (returnRegs c s) := (regsOnly_setReg ..).trans (regsOnly_setFld ..)

theorem eretEffect_core : (eretEffect c s).core c = { s.core c with pc := s.reg (epcReg c (s.pl c)), pastTop := false, resv := none, ras := [] } := by
  simp only [eretEffect_eq, setPc, core_updCore_self, (returnRegs_only c s).get_core]

theorem eretEffect_kept : CoreKept c s (eretEffect c s) := by
  rw [eretEffect_eq, setPc]
  exact (((returnRegs_only c s).coreKept c).trans (coreKept_updCore ⟨rfl, rfl, rfl, rfl, rfl, rfl, rfl⟩)).trans
    (coreKept_updCore ⟨rfl, rfl, rfl, rfl, rfl, rfl, rfl⟩)

theorem eretEffect_reg (a : Nat) : (eretEffect c s).reg a = (returnRegs c s).reg a := by
  rw [eretEffect_eq, setPc, updCore_get_reg, updCore_get_reg]

theorem status_ne_flags : Reg.CS_STATUS c ≠ Reg.CS_FLAGS c := by simp only [Reg.CS_FLAGS, Reg.CS_STATUS]; omega

theorem eretEffect_status :
    (eretEffect c s).reg (Reg.CS_STATUS c) = returnStatus (s.reg (Reg.CS_STATUS c)) (s.reg (estReg c (s.pl c))) (s.pl c) := by
  rw [eretEffect_reg, returnRegs, State.setFlags, reg_setFld_ne (status_ne_flags c), reg_setReg_self]

theorem eretEffect_flags : (eretEffect c s).flags c = fget (s.reg (estReg c (s.pl c))) 7 3 := by
  rw [State.flags, State.fld, eretEffect_reg, returnRegs, State.setFlags, reg_setFld_self, fget_fset_self _ _ _ _ (by omega) (by omega),
    Nat.mod_eq_of_lt (fget_lt _ 7 3)]

theorem eretEffect_sameRegs : SameRegsBut c [Reg.CS_STATUS c, Reg.CS_FLAGS c] s (eretEffect c s) := by
  intro a _ ha
  obtain ⟨hst, hfl⟩ : a ≠ Reg.CS_STATUS c ∧ a ≠ Reg.CS_FLAGS c := by simpa using ha
  rw [eretEffect_reg, returnRegs, State.setFlags, reg_setFld_ne hfl, reg_setReg_ne hst]

theorem insnEret_body : insnEret.body c s = .ok { retTo (s.reg (epcReg c (s.pl c))) with jump := true } (eretEffect c s) := by
  have hpc : corePc (eretEffect c s) c = s.reg (epcReg c (s.pl c)) := by rw [corePc, eretEffect_core]
  rw [← hpc]; rfl

end

/-! ### A whole command whose instruction jumps -/

/-- Away from the end of the address space a jump retires as sequential flow to its address does (R80). -/
theorem retire_jump {c : Nat} {l : List Nat} {n : Word} {old s : State} (h : (corePc old c).toNat < 2 ^ 40 - 2) :
    retire c l { retTo n with jump := true } old s = retire c l (retTo n) old s := by
  simp only [retire, ranOff_inner h]

/-- A command whose instruction jumps, and leaves its core what it has in work. -/
theorem jump_ends {s s1 : State} {i : Instr} {c : Nat} {x : Insn} {n : Word} (hi : plainInsnOf i = some (c, x)) (h : Ready s c x.long)
    (hc8 : c < 8) (hu : x.undef = false) (hp : x.minPl ≤ s.pl c) (hk : x.counter = none)
    (hb : x.body c s = .ok { retTo n with jump := true } s1) (hs1 : CoreKept c s s1) : ∃ t, ok (runInsn i s) = .next t ∧ InsnEnd c n s1 t := by
  have hx : (insnAs i x).undef = false ∧ (insnAs i x).minPl = x.minPl ∧ (insnAs i x).long = x.long ∧ (insnAs i x).counter = none := by
    unfold insnAs; split <;> exact ⟨hu, rfl, rfl, hk⟩
  obtain ⟨hundef, hmin, hlong, hcounter⟩ := hx
  have hattempt : attemptAll c (insnAs i x) 4 s = .ok { retTo n with jump := true } s1 :=
    attemptAll_ready (hlong ▸ h) hundef (hmin ▸ hp) hcounter ((insnAs_body x h.calm hc8).trans hb) rfl
  obtain ⟨honly, hcore, hothers, hregs, hcount⟩ :=
    retire_plain (dests := regsWritten i) h.unpaced h.alone hs1.only.pairs (hs1.unhindered h.unhindered) (h.notOff (retTo n))
  have hcalm : Calm (retire c (regsWritten i) (retTo n) s s1) :=
    (h.calm.coresOnly hs1.only hs1.sameWork).coresOnly honly (.insnEnd hcore hothers)
  refine ⟨latched (retire c (regsWritten i) (retTo n) s s1), ?_, hcore, hothers, hregs, hcount, honly.memory.latched⟩
  rw [runInsn_ready hi h, hattempt, settleInsn_ok, retire_jump h.inner, settleAll_calm hcalm, ok]

/-- Settles O10: the retirement of ERET moves only what core c counts in, so the state after the command shows what the event of R101 left. -/
theorem returnRestores : Obligations.ReturnRestores := by
  intro c s h hpl
  have hL : 1 ≤ s.pl c ∧ s.pl c ≤ 3 := ⟨hpl, pl_le_three s c⟩
  have hkept : CoreKept c s (eretEffect c s) := eretEffect_kept c s
  obtain ⟨t, ht, hend⟩ := jump_ends (i := .eret c) (x := insnEret) rfl h c.isLt rfl hpl rfl (insnEret_body c s) hkept
  have hun : SameUncounted c (eretEffect c s) t := hend.regs
  have hstatus : t.reg (Reg.CS_STATUS c) = returnStatus (s.reg (Reg.CS_STATUS c)) (s.reg (estReg c (s.pl c))) (s.pl c) :=
    (hun _ (status_not_count c)).trans (eretEffect_status c s)
  refine ⟨t, ht, ?_, ?_, ?_, ?_, ?_, ?_, ?_, ?_, ?_, ?_, ?_⟩
  · rw [hend.core]; rfl
  · rw [State.pl, State.fld, hstatus, returnStatus_pl _ _ hL]
  · rw [State.ie, State.bit, hstatus, returnStatus_ie _ _ hL]
  · rw [hun.flags, eretEffect_flags]
  · rw [State.hold, State.bit, hstatus, returnStatus_hold _ _ hL.2]
  · intro m hm _ hne
    rw [State.hold, State.bit, hstatus, returnStatus_hold_ne _ _ hL.2 hm hne]; rfl
  · intro r
    rw [← hkept.gprs r]; simp only [State.gpr, hend.core, coreAfter]
  · intro a
    rw [← hkept.accs a]; simp only [State.accOf, hend.core, coreAfter]
  · rw [hend.core, coreAfter, eretEffect_core]
  · exact fun a ha hne => (hun a ha).trans (eretEffect_sameRegs c s a ha hne)
  · exact hkept.only.memory.trans hend.memory

end Sys2Proof.Machine
end

section
/-!
SUPPORT. Assertions of level sources at an event unit that holds none back (R304, R324): only pending events and assertion counts change, and a change of
registers that no level source reads asserts nothing.
-/
set_option linter.constructorNameAsVariable false

namespace Sys2Proof.Machine

/-! ### What an assertion changes -/

/-- No assertion waits in the event unit's queue or at its owner. -/
def Drained (s : State) : Prop := s.eiu.inq = [] ∧ s.eiu.owed = []

/-- From s to t only registers and the event unit change. -/
def EventsOnly (s t : State) : Prop := t = { s with regs := t.regs, eiu := t.eiu }

theorem EventsOnly.refl (s : State) : EventsOnly s s := rfl

theorem EventsOnly.trans {s t u : State} (h : EventsOnly s t) (g : EventsOnly t u) : EventsOnly s u := by
  unfold EventsOnly at *; rw [g, h]

theorem EventsOnly.usb {s t : State} (h : EventsOnly s t) : t.usb = s.usb := by rw [h]
theorem EventsOnly.get_ring {s t : State} (h : EventsOnly s t) (r : Nat) : t.ring r = s.ring r := by rw [h]; rfl

theorem acceptSource_drained {k : Nat} {s : State} (h : Drained s) : acceptSource k s = { s with eiu := { s.eiu with inq := [k], owed := [] } } := by
  simp [acceptSource, h.1, h.2]

/-- A drained event unit latches an assertion at once. -/
theorem assertSource_drained {k : Nat} {s : State} (h : Drained s) : assertSource k s = latchSource k s := by
  have e : { s with eiu := { s.eiu with inq := [], owed := [] } } = s := by
    obtain ⟨hinq, howed⟩ := h
    calc { s with eiu := { s.eiu with inq := [], owed := [] } }
      _ = { s with eiu := { s.eiu with inq := s.eiu.inq, owed := s.eiu.owed } } := by rw [hinq, howed]
      _ = s := rfl
  simp only [assertSource, acceptSource_drained h, drainSources, List.append_nil, List.foldl_cons, List.foldl_nil, e]

theorem latchSource_events (k : Nat) (s : State) : EventsOnly s (latchSource k s) := by unfold latchSource; split <;> rfl

theorem latchSource_drained {k : Nat} {s : State} (h : Drained s) : Drained (latchSource k s) := by unfold latchSource; split <;> exact h

theorem latchSource_reg {k a : Nat} (h : a ≠ Reg.EIU_SRC_CNT k) (s : State) : (latchSource k s).reg a = s.reg a := by
  unfold latchSource
  split
  · exact reg_inc_ne h s
  · rfl

/-- From s to t assertions of the sources l may have been latched, and nothing else has happened. -/
structure Asserted (l : List Nat) (s t : State) : Prop where
  events : EventsOnly s t
  drained : Drained t
  regs : ∀ a, (∀ k, k ∈ l → a ≠ Reg.EIU_SRC_CNT k) → t.reg a = s.reg a

theorem relevelList_asserted (old : State) (l : List Nat) : ∀ s, Drained s → Asserted l s (relevelList old l s) := by
  induction l with
  | nil => exact fun s h => ⟨.refl s, h, fun _ _ => rfl⟩
  | cons k l ih =>
    intro s h
    rw [relevelList]
    split
    · rw [assertSource_drained h]
      obtain ⟨hevents, hdrained, hregs⟩ := ih _ (latchSource_drained (k := k) h)
      refine ⟨(latchSource_events k s).trans hevents, hdrained, fun a ha => ?_⟩
      rw [hregs a (fun j hj => ha j (List.mem_cons_of_mem _ hj)), latchSource_reg (ha k (List.mem_cons_self ..))]
    · obtain ⟨hevents, hdrained, hregs⟩ := ih s h
      exact ⟨hevents, hdrained, fun a ha => hregs a (fun j hj => ha j (List.mem_cons_of_mem _ hj))⟩

/-- Sources that stand as they stood assert nothing. -/
theorem relevelList_still {old s : State} (l : List Nat) (h : ∀ k, levelOn s k = levelOn old k) : relevelList old l s = s := by
  induction l with
  | nil => rfl
  | cons k l ih => simp [relevelList, h, ih]

/-! ### What a level source reads -/

/-- From s to t the register file lists every register alike, but for register a and those that capture a reserved write (R696). -/
def ListedBut (a : Nat) (s t : State) : Prop := ∀ b, b ∉ a :: rsvdRegs → SMap.find b t.regs = SMap.find b s.regs

theorem find_setReg_ne {a b : Nat} (h : b ≠ a) (s : State) (v : Word) : SMap.find b (s.setReg a v).regs = SMap.find b s.regs := by
  simp only [State.setReg, SMap.put]
  split
  · exact SMap.find_erase_ne h _
  · exact SMap.find_insert_ne h _ _

theorem captureRsvd_only (ep a : Nat) (v : Word) (s : State) : RegsOnly s (captureRsvd ep a v s) := by
  unfold captureRsvd
  exact (regsOnly_inc ..).trans (.ite (regsOnly_setBit ..) (((regsOnly_setBit ..).trans (regsOnly_setReg ..)).trans (regsOnly_setReg ..)))

theorem captureRsvd_find {b : Nat} (h : b ∉ rsvdRegs) (ep a : Nat) (v : Word) (s : State) :
    SMap.find b (captureRsvd ep a v s).regs = SMap.find b s.regs := by
  simp only [rsvdRegs, List.mem_cons, List.not_mem_nil, or_false, not_or] at h
  obtain ⟨hstatus, haddr, hdata, hcnt⟩ := h
  have counted : SMap.find b (s.inc Reg.SYS_RSVD_CNT).regs = SMap.find b s.regs := find_setReg_ne hcnt s _
  unfold captureRsvd
  dsimp only
  split
  · exact (find_setReg_ne hstatus _ _).trans counted
  · rw [find_setReg_ne hdata, find_setReg_ne haddr]
    exact (find_setReg_ne hstatus _ _).trans counted

theorem captureRsvd_reg {b : Nat} (h : b ∉ rsvdRegs) (ep a : Nat) (v : Word) (s : State) : (captureRsvd ep a v s).reg b = s.reg b := by
  simp only [State.reg, SMap.getD, captureRsvd_find h]

theorem writeReg_only (ep a : Nat) (v : Word) (s : State) : RegsOnly s (writeReg ep a v s) :=
  .ite ((regsOnly_setReg ..).trans (captureRsvd_only ..)) (regsOnly_setReg ..)

theorem writeReg_listedBut (ep a : Nat) (v : Word) (s : State) : ListedBut a s (writeReg ep a v s) := by
  intro b hb
  obtain ⟨ha, hr⟩ : b ≠ a ∧ b ∉ rsvdRegs := by simpa using hb
  simp only [writeReg, writeRegIf]
  split
  · rw [captureRsvd_find hr, find_setReg_ne ha]
  · rw [find_setReg_ne ha]

theorem ListedBut.regsBut {a : Nat} {s t : State} (h : ListedBut a s t) : RegsBut (a :: rsvdRegs) s t := by
  intro b hb
  simp only [State.reg, SMap.getD, h b hb]

theorem ListedBut.meet {a : Nat} {s t : State} (h : ListedBut a s t) {b en : Nat} (hb : b ∉ a :: rsvdRegs) (hen : en ∉ a :: rsvdRegs) (hi lo : Nat) :
    meet t b en hi lo = meet s b en hi lo := by
  simp only [Machine.meet, h b hb, h.regsBut b hb, h.regsBut en hen]

/-- No level source reads `USB_TEST` or a capture of a reserved write. -/
theorem levelOn_of_listedBut {s t : State} (h : ListedBut Reg.USB_TEST s t) (k : Nat) : levelOn t k = levelOn s k := by
  have errlog : Reg.SYS_ERRLOG_STAT ∉ Reg.USB_TEST :: rsvdRegs := by decide
  have hat : Reg.HAT_STATUS ∉ Reg.USB_TEST :: rsvdRegs := by decide
  have hatCtl : Reg.HAT_CTL ∉ Reg.USB_TEST :: rsvdRegs := by decide
  have sef : Reg.SEF_EVT (k - 64) ∉ Reg.USB_TEST :: rsvdRegs ∧ Reg.SEF_EVT_EN (k - 64) ∉ Reg.USB_TEST :: rsvdRegs := by
    simp [rsvdRegs, Reg.SEF_EVT, Reg.SEF_EVT_EN, Reg.USB_TEST, Reg.SYS_STATUS, Reg.SYS_RSVD_ADDR, Reg.SYS_RSVD_DATA, Reg.SYS_RSVD_CNT]; omega
  have aud : Reg.AUD_STATUS (k - 80) ∉ Reg.USB_TEST :: rsvdRegs ∧ Reg.AUD_EVT_EN (k - 80) ∉ Reg.USB_TEST :: rsvdRegs := by
    simp [rsvdRegs, Reg.AUD_STATUS, Reg.AUD_EVT_EN, Reg.USB_TEST, Reg.SYS_STATUS, Reg.SYS_RSVD_ADDR, Reg.SYS_RSVD_DATA, Reg.SYS_RSVD_CNT]; omega
  have i2c : Reg.I2C_STATUS (k - 97) ∉ Reg.USB_TEST :: rsvdRegs ∧ Reg.I2C_EVT_EN (k - 97) ∉ Reg.USB_TEST :: rsvdRegs := by
    simp [rsvdRegs, Reg.I2C_STATUS, Reg.I2C_EVT_EN, Reg.USB_TEST, Reg.SYS_STATUS, Reg.SYS_RSVD_ADDR, Reg.SYS_RSVD_DATA, Reg.SYS_RSVD_CNT]; omega
  unfold levelOn
  rw [h.meet sef.1 sef.2, h.meet aud.1 aud.2, h.meet i2c.1 i2c.2, h _ errlog, h _ hat]
  simp only [State.fld, State.bit, h.regsBut _ errlog, h.regsBut _ hat, h.regsBut _ hatCtl]
  have plain : ∀ b en hi lo, b ∉ Reg.USB_TEST :: rsvdRegs → en ∉ Reg.USB_TEST :: rsvdRegs → meet t b en hi lo = meet s b en hi lo :=
    fun b en hi lo hb hen => h.meet hb hen hi lo
  rw [plain Reg.FGT_STATUS, plain Reg.KEP_STATUS, plain Reg.MID_EVT, plain Reg.QSPI_STATUS, plain Reg.EMC_STATUS, plain Reg.GPIO_IRQ_STAT_LO,
    plain Reg.GPIO_IRQ_STAT_HI, plain Reg.HPT_STATUS, plain Reg.ETH_STATUS, plain Reg.ETH_STATUS, plain Reg.USB_STATUS, plain Reg.USB_STATUS,
    plain Reg.USB_STATUS, plain Reg.PWR_STATUS, plain Reg.DBG_EVT] <;> decide

end Sys2Proof.Machine
end

section
/-!
SUPPORT. The USB port (R570-R573): what its operations change, its event bits, and the port's own commands that end in one; its suspend and resume, its
endpoint 0.
-/
set_option linter.constructorNameAsVariable false

namespace Sys2Proof.Machine

/-! ### The frame of the port's operations -/

/-- From s to t only registers, the event unit, the USB port, the rings and the free values change. -/
def PortOnly (s t : State) : Prop := t = { s with regs := t.regs, eiu := t.eiu, usb := t.usb, seg := t.seg, fresh := t.fresh }

theorem PortOnly.trans {s t u : State} (h : PortOnly s t) (g : PortOnly t u) : PortOnly s u := by
  unfold PortOnly at *; rw [g, h]

theorem EventsOnly.portOnly {s t : State} (h : EventsOnly s t) : PortOnly s t := by unfold EventsOnly PortOnly at *; rw [h]
theorem RegsOnly.portOnly {s t : State} (h : RegsOnly s t) : PortOnly s t := by unfold RegsOnly PortOnly at *; rw [h]

section
variable {s t : State} (h : PortOnly s t)
include h

theorem PortOnly.cores : t.cores = s.cores := by rw [h]
theorem PortOnly.memory : SameMemory s t := by rw [h]; exact ⟨rfl, rfl, rfl, rfl, rfl, rfl⟩
theorem PortOnly.latched : PortOnly s (latched t) := h.trans rfl

end

/-- The port's operations keep a device calm while its event unit holds nothing back. -/
theorem Calm.portOnly {s t : State} (h : Calm s) (g : PortOnly s t) (hd : Drained t) : Calm t where
  flaws := by rw [g]; exact h.flaws
  held := by rw [g]; exact h.held
  retired := by rw [g]; exact h.retired
  blocked := by rw [g]; exact h.blocked
  inter := by rw [g]; exact h.inter
  waiting := by rw [g]; exact h.waiting
  rxq := by rw [g]; exact h.rxq
  draining := by rw [g]; exact h.draining
  stores := by rw [g]; exact h.stores
  sources := hd

/-- From s to t the port has changed registers of l and its own state, and asserted nothing. -/
structure PortChange (l : List Nat) (s t : State) : Prop where
  only : PortOnly s t
  eiu : t.eiu = s.eiu
  regs : RegsBut l s t

theorem PortChange.refl (l : List Nat) (s : State) : PortChange l s s := ⟨rfl, rfl, fun _ _ => rfl⟩

section
variable {l : List Nat} {s t : State} (h : PortChange l s t)
include h

theorem PortChange.trans {u : State} (g : PortChange l t u) : PortChange l s u :=
  ⟨h.only.trans g.only, g.eiu.trans h.eiu, fun a ha => (g.regs a ha).trans (h.regs a ha)⟩

theorem PortChange.mono {m : List Nat} (hl : l ⊆ m) : PortChange m s t := ⟨h.only, h.eiu, fun a ha => h.regs a (fun hm => ha (hl hm))⟩

theorem PortChange.setReg {a : Nat} (ha : a ∈ l) (v : Word) : PortChange l s (t.setReg a v) :=
  h.trans ⟨rfl, rfl, fun b hb => reg_setReg_ne (fun e : b = a => hb (e.symm ▸ ha)) t v⟩

theorem PortChange.setBit {a : Nat} (ha : a ∈ l) (i : Nat) (b : Bool) : PortChange l s (t.setBit a i b) := h.setReg ha _
theorem PortChange.setFld {a : Nat} (ha : a ∈ l) (hi lo v : Nat) : PortChange l s (t.setFld a hi lo v) := h.setReg ha _
theorem PortChange.inc {a : Nat} (ha : a ∈ l) : PortChange l s (t.inc a) := h.setReg ha _
theorem PortChange.updUsb (f : Usb → Usb) : PortChange l s (updUsb f t) := h.trans ⟨rfl, rfl, fun _ _ => rfl⟩
theorem PortChange.setUsbEp (k : Nat) (x : UsbEp) : PortChange l s (t.setUsbEp k x) := h.trans ⟨rfl, rfl, fun _ _ => rfl⟩
theorem PortChange.setRing (r : Nat) (x : Ring) : PortChange l s (t.setRing r x) := h.trans ⟨rfl, rfl, fun _ _ => rfl⟩
theorem PortChange.takeFresh : PortChange l s (takeFresh t) := h.trans ⟨rfl, rfl, fun _ _ => rfl⟩

theorem PortChange.drained (hs : Drained s) : Drained t := by unfold Drained; rw [h.eiu]; exact hs

end

/-! ### Event bits (R580) -/

/-- The counts of the sources that the port's status asserts. -/
abbrev usbSrcRegs : List Nat := [Reg.EIU_SRC_CNT 112, Reg.EIU_SRC_CNT 113, Reg.EIU_SRC_CNT 114]

/-- From u to t event bit i of the port has been set, with what the event unit makes of it. -/
structure Raised (i : Nat) (u t : State) : Prop where
  events : EventsOnly u t
  status : t.reg Reg.USB_STATUS = bset (u.reg Reg.USB_STATUS) i true
  regs : RegsBut (Reg.USB_STATUS :: usbSrcRegs) u t

theorem usbStat_raised (i : Nat) {u : State} (h : Drained u) : Raised i u (usbStat i u) ∧ Drained (usbStat i u) := by
  obtain ⟨hevents, hdrained, hregs⟩ := relevelList_asserted u [112, 113, 114] (u.setBit Reg.USB_STATUS i true) h
  refine ⟨⟨hevents, ?_, fun a ha => ?_⟩, hdrained⟩
  · exact (hregs _ (by decide)).trans (reg_setBit_self ..)
  · obtain ⟨hstatus, h112, h113, h114⟩ : a ≠ Reg.USB_STATUS ∧ a ≠ Reg.EIU_SRC_CNT 112 ∧ a ≠ Reg.EIU_SRC_CNT 113 ∧ a ≠ Reg.EIU_SRC_CNT 114 := by
      simpa using ha
    exact (hregs a (by simp [h112, h113, h114])).trans (reg_setBit_ne hstatus ..)

section
variable {i : Nat} {u t : State} (h : Raised i u t)
include h

theorem Raised.usb : t.usb = u.usb := h.events.usb
theorem Raised.latched : Raised i u (latched t) := ⟨h.events.trans rfl, h.status, h.regs⟩

theorem Raised.raised (hi : i < 40) : t.bit Reg.USB_STATUS i = true := by
  rw [State.bit, h.status, bset_bit _ _ _ _ hi, if_pos rfl]

theorem Raised.bit {k : Nat} (hi : i < 40) (hk : k ≠ i) : t.bit Reg.USB_STATUS k = u.bit Reg.USB_STATUS k := by
  rw [State.bit, h.status, bset_bit _ _ _ _ hi, if_neg hk, State.bit]

/-- The registers that an operation changes before its event bit, and those of the event bit. -/
theorem Raised.regsBut {l : List Nat} {s : State} (hl : Reg.USB_STATUS :: usbSrcRegs ⊆ l) (hu : RegsBut l s u) : RegsBut l s t :=
  fun a ha => (h.regs a (fun hm => ha (hl hm))).trans (hu a ha)

end

/-- A command that ends in an event bit of the port. -/
theorem okSettled_usbStat {i : Nat} {l : List Nat} {s u : State} (h : Calm s) (hu : PortChange l s u) :
    ∃ t, okSettled (usbStat i u) = .next t ∧ Raised i u t ∧ SameMemory s t := by
  obtain ⟨hraised, hdrained⟩ := usbStat_raised i (hu.drained h.sources)
  have honly : PortOnly s (usbStat i u) := hu.only.trans hraised.events.portOnly
  exact ⟨_, okSettled_calm (h.portOnly honly hdrained), hraised.latched, honly.latched.memory⟩

/-! ### Suspend and resume (R571) -/

/-- SUSPENDED takes b, and the change is counted; the event bit follows. -/
def setSuspended (b : Bool) (cnt : Nat) (s : State) : State := (s.setBit Reg.USB_STATUS 2 b).inc cnt

theorem usbSuspend_eq {s : State} (hu : usbUp s = true) (hs : usbSuspended s = false) :
    usbSuspend s = usbStat 4 (setSuspended true Reg.USB_SUSPEND_CNT s) := by simp [usbSuspend, setSuspended, hu, hs]

theorem usbResume_eq {s : State} (hu : usbUp s = true) (hs : usbSuspended s = true) :
    usbResume s = usbStat 5 (setSuspended false Reg.USB_RESUME_CNT s) := by simp [usbResume, setSuspended, hu, hs]

theorem setSuspended_change (b : Bool) (cnt : Nat) (s : State) : PortChange [Reg.USB_STATUS, cnt] s (setSuspended b cnt s) :=
  ((PortChange.refl _ s).setBit (by simp) 2 b).inc (by simp)

theorem Raised.suspended {b : Bool} {cnt i : Nat} {s t : State} (h : Raised i (setSuspended b cnt s) t) (hi : i < 40) (h2 : 2 ≠ i)
    (hcnt : cnt ∉ Reg.USB_STATUS :: usbSrcRegs) :
    t.bit Reg.USB_STATUS 2 = b ∧ t.bit Reg.USB_STATUS i = true ∧ t.reg cnt = s.reg cnt + 1 ∧ t.usb = s.usb ∧
    RegsBut (Reg.USB_STATUS :: cnt :: usbSrcRegs) s t := by
  have hne : cnt ≠ Reg.USB_STATUS := fun e => hcnt (e ▸ List.mem_cons_self ..)
  refine ⟨?_, h.raised hi, ?_, h.usb, h.regsBut ?_ ((setSuspended_change b cnt s).mono ?_).regs⟩
  · rw [h.bit hi h2, State.bit, setSuspended, reg_inc_ne hne.symm, reg_setBit_self, bset_bit _ _ _ _ (by decide), if_pos rfl]
  · rw [h.regs _ hcnt, setSuspended, reg_inc_self, reg_setBit_ne hne]
  · simp
  · simp

section
variable {s : State} (hc : Calm s) (hu : usbUp s = true)
include hc hu

theorem exec_usbSuspend (hs : usbSuspended s = false) : ∃ t, exec .usbSuspend s = .next t ∧ t.bit Reg.USB_STATUS 2 = true ∧
    t.bit Reg.USB_STATUS 4 = true ∧ t.reg Reg.USB_SUSPEND_CNT = s.reg Reg.USB_SUSPEND_CNT + 1 ∧ t.usb = s.usb ∧
    RegsBut (Reg.USB_STATUS :: Reg.USB_SUSPEND_CNT :: usbSrcRegs) s t ∧ SameMemory s t := by
  obtain ⟨t, ht, hr, hm⟩ := okSettled_usbStat (i := 4) hc (setSuspended_change true Reg.USB_SUSPEND_CNT s)
  obtain ⟨hbit, hevent, hcnt, husb, hregs⟩ := hr.suspended (by decide) (by decide) (by decide)
  exact ⟨t, (congrArg okSettled (usbSuspend_eq hu hs)).trans ht, hbit, hevent, hcnt, husb, hregs, hm⟩

theorem exec_usbResume (hs : usbSuspended s = true) : ∃ t, exec .usbResume s = .next t ∧ t.bit Reg.USB_STATUS 2 = false ∧
    t.bit Reg.USB_STATUS 5 = true ∧ t.reg Reg.USB_RESUME_CNT = s.reg Reg.USB_RESUME_CNT + 1 ∧ t.usb = s.usb ∧
    RegsBut (Reg.USB_STATUS :: Reg.USB_RESUME_CNT :: usbSrcRegs) s t ∧ SameMemory s t := by
  obtain ⟨t, ht, hr, hm⟩ := okSettled_usbStat (i := 5) hc (setSuspended_change false Reg.USB_RESUME_CNT s)
  obtain ⟨hbit, hevent, hcnt, husb, hregs⟩ := hr.suspended (by decide) (by decide) (by decide)
  exact ⟨t, (congrArg okSettled (usbResume_eq hu hs)).trans ht, hbit, hevent, hcnt, husb, hregs, hm⟩

end

/-! ### SETUP (R573) -/

theorem freeBuf_change (s : State) : PortChange ((List.range 13).map Reg.USB_EP0_BUF) s (freeBuf s) := by
  unfold freeBuf
  apply List.foldlRecOn (motive := PortChange _ s)
  · exact .refl _ s
  · intro t h k hk
    exact (h.setReg (List.mem_map_of_mem hk) _).takeFresh

/-- The buffer as a SETUP packet finds it: free values where it breaks into a transfer. -/
def setupBuf (s : State) : State := if s.usb.ctl then freeBuf s else s

theorem setupBuf_change (s : State) : PortChange ((List.range 13).map Reg.USB_EP0_BUF) s (setupBuf s) := by
  unfold setupBuf
  split
  · exact freeBuf_change s
  · exact .refl _ s

/-- What a SETUP packet leaves before its event bit. -/
def setupTaken (p : BitVec 64) (s : State) : State :=
  ((updUsb (fun u => { u with ctl := true, armed := 0, addrNext := none })
    (((((setupBuf s).setReg Reg.USB_EP0_SETUP_0 (nw p.toNat)).setReg Reg.USB_EP0_SETUP_1 (nw (p.toNat / 2 ^ 40))).setReg Reg.USB_EP0_STATUS 0).setBit
      Reg.USB_EP0_CTL 0 false)).inc Reg.USB_SETUP_CNT).inc Reg.USB_RX_PKT_CNT

theorem freeBuf_usb (s : State) : (freeBuf s).usb = s.usb := by
  unfold freeBuf
  apply foldl_same_mem State.usb
  intro t k _
  rw [takeFresh_usb, setReg_usb]

theorem setupBuf_usb (s : State) : (setupBuf s).usb = s.usb := by
  unfold setupBuf
  split
  · exact freeBuf_usb s
  · rfl

/-- The registers that a SETUP packet may change before its event bit. -/
def setupRegs : List Nat := [Reg.USB_EP0_SETUP_0, Reg.USB_EP0_SETUP_1, Reg.USB_EP0_STATUS, Reg.USB_EP0_CTL, Reg.USB_SETUP_CNT, Reg.USB_RX_PKT_CNT] ++
  (List.range 13).map Reg.USB_EP0_BUF

theorem setupTaken_change (p : BitVec 64) (s : State) : PortChange setupRegs s (setupTaken p s) :=
  (((((((setupBuf_change s).mono (List.subset_append_right ..)).setReg (by decide) _).setReg (by decide) _).setReg (by decide) _).setBit
    (by decide) _ _).updUsb _ |>.inc (by decide)).inc (by decide)

theorem exec_usbSetup {s : State} (hc : Calm s) (hu : usbUp s = true) (p : BitVec 64) :
    ∃ t, exec (.usbSetup p) s = .next t ∧ t.reg Reg.USB_EP0_SETUP_0 = BitVec.ofNat 40 p.toNat ∧
    t.reg Reg.USB_EP0_SETUP_1 = BitVec.ofNat 40 (p.toNat / 2 ^ 40) ∧ t.usb.ctl = true ∧ t.usb.armed = 0 ∧ t.usb.addrNext = none ∧
    t.bit Reg.USB_EP0_CTL 0 = false ∧ t.bit Reg.USB_STATUS 7 = true ∧ t.reg Reg.USB_SETUP_CNT = s.reg Reg.USB_SETUP_CNT + 1 ∧
    t.usb.eps = s.usb.eps ∧ SameMemory s t := by
  obtain ⟨t, ht, hr, hm⟩ := okSettled_usbStat (i := 7) hc (setupTaken_change p s)
  have e : usbSetup p s = usbStat 7 (setupTaken p s) := by simp only [usbSetup, hu]; rfl
  refine ⟨t, (congrArg okSettled e).trans ht, ?_, ?_, ?_, ?_, ?_, ?_, hr.raised (by decide), ?_, ?_, hm⟩
  · rw [hr.regs _ (by decide)]
    simp (disch := decide) only [setupTaken, reg_inc_ne, updUsb_get_reg, reg_setBit_ne, reg_setReg_ne, reg_setReg_self, nw]
  · rw [hr.regs _ (by decide)]
    simp (disch := decide) only [setupTaken, reg_inc_ne, updUsb_get_reg, reg_setBit_ne, reg_setReg_ne, reg_setReg_self, nw]
  · rw [hr.usb]; rfl
  · rw [hr.usb]; rfl
  · rw [hr.usb]; rfl
  · rw [State.bit, hr.regs _ (by decide)]
    simp (disch := decide) only [setupTaken, reg_inc_ne, updUsb_get_reg, reg_setBit_self, bset_bit, if_true]
  · rw [hr.regs _ (by decide)]
    simp (disch := decide) only [setupTaken, reg_inc_ne, reg_inc_self, updUsb_get_reg, reg_setBit_ne, reg_setReg_ne]
    rw [(setupBuf_change s).regs _ (by decide)]
  · rw [hr.usb, ← setupBuf_usb s]; rfl

end Sys2Proof.Machine
end

section
/-!
SUPPORT. Endpoint 0 of the USB port (R572, R573, R579).
-/
set_option linter.constructorNameAsVariable false

namespace Sys2Proof.Machine

/-! ### What software armed -/

/-- Endpoint 0 has taken up what bit j armed. -/
def disarmed (j : Nat) (s : State) : State := updUsb (fun u => { u with armed := u.armed - 2 ^ j }) s

theorem testBit_sub_two_pow {n j : Nat} (h : Nat.testBit n j = true) : Nat.testBit (n - 2 ^ j) j = false := by
  rw [Nat.testBit_eq_decide_div_mod_eq, decide_eq_true_eq] at h
  have hdiv : (n - 2 ^ j) / 2 ^ j = n / 2 ^ j - 1 := by simpa using Nat.sub_mul_div n (2 ^ j) 1
  rw [Nat.testBit_eq_decide_div_mod_eq, hdiv, decide_eq_false_iff_not]
  omega

section
variable {s : State} (hu : usbUp s = true) (hb : s.bit Reg.USB_EP0_CTL 0 = false) (hs : shedNonStream s = false)
include hu hb hs

theorem ep0Act_armed {j : Nat} (f : State → State) (ha : Nat.testBit s.usb.armed j = true) : ep0Act j f s = f (disarmed j s) := by
  simp [ep0Act, disarmed, hu, hb, hs, ha]

theorem ep0Act_unarmed {j : Nat} (f : State → State) (ha : Nat.testBit s.usb.armed j = false) : ep0Act j f s = s := by
  simp [ep0Act, hu, hb, hs, ha]

end

/-! ### The end of a stage -/

/-- A stage of endpoint 0 that has changed the registers of l ends: its stage bit is set, and EP0_DONE. -/
theorem okSettled_ep0Done {i : Nat} {l : List Nat} {s u : State} (hi : i < 40) (h : Calm s) (hu : PortChange l s u) :
    ∃ t, okSettled (ep0Done i u) = .next t ∧ t.reg Reg.USB_EP0_STATUS = bset (u.reg Reg.USB_EP0_STATUS) i true ∧ t.bit Reg.USB_EP0_STATUS i = true ∧
      t.bit Reg.USB_STATUS 8 = true ∧ t.usb = u.usb ∧ RegsBut (Reg.USB_STATUS :: Reg.USB_EP0_STATUS :: usbSrcRegs) u t ∧ SameMemory s t := by
  have hdone : PortChange (Reg.USB_EP0_STATUS :: l) s (u.setBit Reg.USB_EP0_STATUS i true) :=
    (hu.mono (List.subset_cons_self ..)).setBit (List.mem_cons_self ..) _ _
  obtain ⟨t, ht, hr, hm⟩ := okSettled_usbStat (i := 8) h hdone
  have hstatus : t.reg Reg.USB_EP0_STATUS = bset (u.reg Reg.USB_EP0_STATUS) i true := by rw [hr.regs _ (by decide), reg_setBit_self]
  refine ⟨t, ht, hstatus, ?_, hr.raised (by decide), hr.usb, ?_, hm⟩
  · rw [State.bit, hstatus, bset_bit _ _ _ _ hi, if_pos rfl]
  · exact hr.regsBut (by simp) ((PortChange.refl _ u).setBit (by simp) _ _).regs

theorem exec_ep0Stall {s : State} (hc : Calm s) (hu : usbUp s = true) (hb : s.bit Reg.USB_EP0_CTL 0 = true) :
    ∃ t, exec .ep0Stall s = .next t ∧ t.bit Reg.USB_EP0_STATUS 0 = true ∧ t.bit Reg.USB_STATUS 8 = true ∧
    RegsBut (Reg.USB_STATUS :: Reg.USB_EP0_STATUS :: usbSrcRegs) s t ∧ SameMemory s t := by
  obtain ⟨t, ht, -, hbit, hevent, -, hregs, hm⟩ := okSettled_ep0Done (i := 0) (by decide) hc (.refl [] s)
  have e : ep0StallAnswer s = ep0Done 0 s := by simp [ep0StallAnswer, hu, hb]
  exact ⟨t, (congrArg okSettled e).trans ht, hbit, hevent, hregs, hm⟩

/-! ### The buffer (R67) -/

theorem ep0Store_change (ws : List Word) : ∀ (k : Nat) (s : State),
    PortChange ((List.range ws.length).map (fun j => Reg.USB_EP0_BUF (k + j))) s (ep0Store ws k s) := by
  induction ws with
  | nil => exact fun _ s => .refl _ s
  | cons w ws ih =>
    intro k s
    refine PortChange.trans ((PortChange.refl _ s).setReg ?_ w) ((ih (k + 1) _).mono ?_)
    · exact List.mem_map.mpr ⟨0, by simp, by simp⟩
    · intro a ha
      obtain ⟨j, hj, rfl⟩ := List.mem_map.mp ha
      exact List.mem_map.mpr ⟨j + 1, by simpa using hj, by simp only [Reg.USB_EP0_BUF]; omega⟩

/-- The word at j of those that reach the buffer stands at its place. -/
theorem ep0Store_reg (ws : List Word) : ∀ (k j : Nat) (w : Word) (s : State), ws[j]? = some w → (ep0Store ws k s).reg (Reg.USB_EP0_BUF (k + j)) = w := by
  induction ws with
  | nil => intro k j w s h; simp at h
  | cons x ws ih =>
    intro k j w s h
    cases j with
    | zero =>
      obtain rfl : x = w := by simpa using h
      have hout : Reg.USB_EP0_BUF k ∉ (List.range ws.length).map (fun j => Reg.USB_EP0_BUF (k + 1 + j)) := by
        simp only [List.mem_map, Reg.USB_EP0_BUF, not_exists]; omega
      rw [Nat.add_zero, ep0Store, (ep0Store_change ws (k + 1) _).regs _ hout, reg_setReg_self]
    | succ j =>
      rw [show k + (j + 1) = k + 1 + j by omega]
      exact ih (k + 1) j w _ (by simpa using h)

theorem ep0Store_usb (ws : List Word) : ∀ (k : Nat) (s : State), (ep0Store ws k s).usb = s.usb := by
  induction ws with
  | nil => exact fun _ _ => rfl
  | cons w ws ih => exact fun k s => (ih (k + 1) _).trans (setReg_usb ..)

theorem packOctets_length (f : Nat) : ∀ l : List Nat, 5 * (packOctets f l).length ≤ l.length + 4 := by
  induction f with
  | zero => intro l; simp [packOctets]
  | succ f ih =>
    intro l
    cases l with
    | nil => simp [packOctets]
    | cons x l =>
      have := ih ((x :: l).drop 5)
      simp only [packOctets, List.length_cons, List.length_drop] at this ⊢
      omega

/-- A packet that endpoint 0 takes fills no more than its buffer. -/
theorem packAll_length_le {l : List Nat} (h : l.length ≤ 64) : (packAll l).length ≤ 13 := by
  have := packOctets_length l.length l
  unfold packAll
  omega

/-! ### The stages of a transfer -/

/-- What SEND leaves before its stage ends. -/
def ep0Sent (s : State) : State :=
  updUsb (fun u => { u with line := ep0Octets (disarmed 0 s) ((disarmed 0 s).fld Reg.USB_EP0_LEN 6 0) }) ((disarmed 0 s).inc Reg.USB_TX_PKT_CNT)

/-- What RECV leaves before its stage ends. -/
def ep0Received (os : List Nat) (s : State) : State :=
  ((ep0Store (packAll os) 0 (disarmed 1 s)).setFld Reg.USB_EP0_STATUS 10 4 os.length).inc Reg.USB_RX_PKT_CNT

/-- The device address after a status stage: a pending one takes effect (R572). -/
def addrTaken (s : State) : Word := match s.usb.addrNext with | some a => BitVec.ofNat 40 a | none => s.reg Reg.USB_ADDR

/-- What the status stage leaves before it ends. -/
def ep0Acked (s : State) : State :=
  updUsb (fun u => { u with ctl := false, addrNext := none })
    (match s.usb.addrNext with | some a => (disarmed 2 s).setReg Reg.USB_ADDR (nw a) | none => disarmed 2 s)

theorem ep0Sent_change (s : State) : PortChange [Reg.USB_TX_PKT_CNT] s (ep0Sent s) :=
  (((PortChange.refl _ s).updUsb _).inc (List.mem_cons_self ..)).updUsb _

theorem ep0Received_change (os : List Nat) (s : State) :
    PortChange (Reg.USB_EP0_STATUS :: Reg.USB_RX_PKT_CNT :: (List.range (packAll os).length).map (fun j => Reg.USB_EP0_BUF (0 + j))) s (ep0Received os s) :=
  ((((PortChange.refl _ s).updUsb _).trans ((ep0Store_change (packAll os) 0 _).mono (by simp))).setFld (by simp) _ _ _).inc (by simp)

theorem ep0Acked_change (s : State) : PortChange [Reg.USB_ADDR] s (ep0Acked s) := by
  unfold ep0Acked
  split
  · exact (((PortChange.refl _ s).updUsb _).setReg (List.mem_cons_self ..) _).updUsb _
  · exact ((PortChange.refl _ s).updUsb _).updUsb _

theorem ep0Acked_addr (s : State) : (ep0Acked s).reg Reg.USB_ADDR = addrTaken s := by
  unfold ep0Acked addrTaken
  split
  · rw [updUsb_get_reg, reg_setReg_self, nw]
  · rfl

section
variable {s : State} (hc : Calm s) (hu : usbUp s = true) (hb : s.bit Reg.USB_EP0_CTL 0 = false) (hs : shedNonStream s = false)
include hc hu hb hs

theorem exec_ep0Send (ha : Nat.testBit s.usb.armed 0 = true) : ∃ t, exec .ep0Send s = .next t ∧ t.bit Reg.USB_EP0_STATUS 1 = true ∧
    t.bit Reg.USB_STATUS 8 = true ∧ Nat.testBit t.usb.armed 0 = false ∧ t.reg Reg.USB_TX_PKT_CNT = s.reg Reg.USB_TX_PKT_CNT + 1 ∧
    RegsBut (Reg.USB_STATUS :: Reg.USB_EP0_STATUS :: Reg.USB_TX_PKT_CNT :: usbSrcRegs) s t ∧ SameMemory s t := by
  obtain ⟨t, ht, -, hbit, hevent, husb, hregs, hm⟩ := okSettled_ep0Done (i := 1) (by decide) hc (ep0Sent_change s)
  have e : ep0SendPkt s = ep0Done 1 (ep0Sent s) := ep0Act_armed hu hb hs _ ha
  refine ⟨t, (congrArg okSettled e).trans ht, hbit, hevent, ?_, ?_, fun a hn => ?_, hm⟩
  · rw [husb]; exact testBit_sub_two_pow ha
  · rw [hregs _ (by decide), ep0Sent, updUsb_get_reg, reg_inc_self, disarmed, updUsb_get_reg]
  · simp only [List.mem_cons, not_or] at hn
    obtain ⟨hstatus, hep0, hcnt, hsrc⟩ := hn
    rw [hregs a (by simp [hstatus, hep0, hsrc]), (ep0Sent_change s).regs a (by simp [hcnt])]

theorem exec_ep0Send_unarmed (ha : Nat.testBit s.usb.armed 0 = false) : ∃ t, exec .ep0Send s = .next t ∧ t.usb = s.usb ∧ Idles s t := by
  have e : ep0SendPkt s = s := ep0Act_unarmed hu hb hs _ ha
  exact ⟨latched s, (congrArg okSettled e).trans (okSettled_calm hc), rfl, fun _ _ => rfl, rfl, (SameMemory.refl s).latched⟩

theorem exec_ep0Recv (os : List (BitVec 8)) (hlen : os.length ≤ 64) (ha : Nat.testBit s.usb.armed 1 = true) :
    ∃ t, exec (.ep0Recv os) s = .next t ∧ t.bit Reg.USB_EP0_STATUS 2 = true ∧ t.fld Reg.USB_EP0_STATUS 10 4 = os.length ∧
    t.bit Reg.USB_STATUS 8 = true ∧ Nat.testBit t.usb.armed 1 = false ∧
    (∀ k w, (packAll (os.map BitVec.toNat))[k]? = some w → t.reg (Reg.USB_EP0_BUF k) = w) ∧ SameMemory s t := by
  have hlen' : (os.map BitVec.toNat).length ≤ 64 := by simpa using hlen
  obtain ⟨t, ht, hstatus, hbit, hevent, husb, hregs, hm⟩ := okSettled_ep0Done (i := 2) (by decide) hc (ep0Received_change (os.map BitVec.toNat) s)
  have e : ep0RecvPkt (os.map BitVec.toNat) s = ep0Done 2 (ep0Received (os.map BitVec.toNat) s) := by
    rw [ep0RecvPkt, if_neg (by omega)]; exact ep0Act_armed hu hb hs _ ha
  refine ⟨t, (congrArg okSettled e).trans ht, hbit, ?_, hevent, ?_, fun k w hk => ?_, hm⟩
  · rw [State.fld, hstatus, fget_bset_ne _ _ _ _ _ (by decide) (by decide) (by decide), ep0Received, reg_inc_ne (by decide), reg_setFld_self,
      fget_fset_self _ _ _ _ (by decide) (by decide), List.length_map, Nat.mod_eq_of_lt (by omega)]
  · have hkeep : t.usb = (disarmed 1 s).usb := husb.trans (ep0Store_usb _ _ _)
    rw [hkeep]; exact testBit_sub_two_pow ha
  · have hk13 : k < 13 := (List.getElem?_eq_some_iff.mp hk).1.trans_le (packAll_length_le hlen')
    have hstored := ep0Store_reg (packAll (os.map BitVec.toNat)) 0 k w (disarmed 1 s) hk
    rw [Nat.zero_add] at hstored
    have hbuf : Reg.USB_EP0_BUF k ∉ Reg.USB_STATUS :: Reg.USB_EP0_STATUS :: usbSrcRegs ∧ Reg.USB_EP0_BUF k ≠ Reg.USB_RX_PKT_CNT ∧
        Reg.USB_EP0_BUF k ≠ Reg.USB_EP0_STATUS := by
      simp only [List.mem_cons, List.not_mem_nil, or_false, not_or, Reg.USB_EP0_BUF, Reg.USB_STATUS, Reg.USB_EP0_STATUS, Reg.USB_RX_PKT_CNT, Reg.EIU_SRC_CNT]; omega
    rw [hregs _ hbuf.1, ep0Received, reg_inc_ne hbuf.2.1, reg_setFld_ne hbuf.2.2, hstored]

theorem exec_ep0StatusAck (ha : Nat.testBit s.usb.armed 2 = true) : ∃ t, exec .ep0StatusAck s = .next t ∧ t.bit Reg.USB_EP0_STATUS 3 = true ∧
    t.bit Reg.USB_STATUS 8 = true ∧ t.usb.ctl = false ∧ t.usb.addrNext = none ∧ t.reg Reg.USB_ADDR = addrTaken s ∧
    RegsBut (Reg.USB_STATUS :: Reg.USB_EP0_STATUS :: Reg.USB_ADDR :: usbSrcRegs) s t ∧ SameMemory s t := by
  obtain ⟨t, ht, -, hbit, hevent, husb, hregs, hm⟩ := okSettled_ep0Done (i := 3) (by decide) hc (ep0Acked_change s)
  have e : ep0StatusStage s = ep0Done 3 (ep0Acked s) := ep0Act_armed hu hb hs _ ha
  refine ⟨t, (congrArg okSettled e).trans ht, hbit, hevent, by rw [husb]; rfl, by rw [husb]; rfl, ?_, fun a hn => ?_, hm⟩
  · rw [hregs _ (by decide), ep0Acked_addr]
  · simp only [List.mem_cons, not_or] at hn
    obtain ⟨hstatus, hep0, haddr, hsrc⟩ := hn
    rw [hregs a (by simp [hstatus, hep0, hsrc]), (ep0Acked_change s).regs a (by simp [haddr])]

end

end Sys2Proof.Machine
end

section
/-!
SUPPORT. Register writes of the USB port: USB_CTL with a wakeup, USB_ADDR, USB_TEST (R570-R572).
-/
set_option linter.constructorNameAsVariable false

namespace Sys2Proof.Machine

/-! ### A write that reaches the port -/

/-- A register of the port's page takes a write at once. -/
theorem regAccess_usb {a : Nat} (h1 : 0x269000 ≤ a) (h2 : a < 0x26a000) (hreg : (regAt a).isNone = false) (ep pl : Nat) (v : Word) (s : State) :
    regAccess ep pl a (some v) s = .done .ok 0 (usbWrite ep a v s) := by
  have hpage : regPage a = 0x69 := by unfold regPage; omega
  have hpl : plRefused pl a = false := by
    have hcore : ¬ a < Reg.BSQ_CORE_ENTRY 8 ∧ a ≠ Reg.BSQ_CORE_CTL ∧ ¬ a < Reg.PWR_DOM 21 := by
      simp only [Reg.BSQ_CORE_CTL, Reg.BSQ_CORE_ENTRY, Reg.PWR_DOM]; omega
    simp [plRefused, hcore]
  have hrt : a ≠ Reg.FAB_RT_DATA := by simp only [Reg.FAB_RT_DATA]; omega
  simp [regAccess, pageWrite, hpage, hpl, hrt, hreg, fine]

/-- A write of a register of the port: the port's own effect, answered OK. -/
theorem okSettled_usbCmd {i : Initiator} {a : Nat} {v : Word} {l : List Nat} {s : State} (h : Reaches a s) (h1 : 0x269000 ≤ a) (h2 : a < 0x26a000)
    (hreg : (regAt a).isNone = false) (hu : PortOnly s (usbWrite i.ep a v s)) (hd : Drained (usbWrite i.ep a v s)) (hl : RegsBut l s (usbWrite i.ep a v s)) :
    ∃ t, okSettled (regCmd i a v s) = .next t ∧ Took i l s t ∧ t.usb = (usbWrite i.ep a v s).usb ∧ t.regs = (usbWrite i.ep a v s).regs := by
  have hpage : (a - 0x200000) / 0x1000 = 0x69 := by omega
  have hregion : regionAt s a = some .regs := regionAt_regs (by omega) (by omega) (by rw [hpage]; decide)
  refine ⟨_, okSettled_regCmd h hregion (regAccess_usb h1 h2 hreg ..) (h.calm.portOnly hu hd), ⟨rfl, hl, ?_, ?_⟩, rfl, rfl⟩
  · exact hu.cores
  · exact hu.memory.trans ⟨rfl, rfl, rfl, rfl, rfl, rfl⟩

/-! ### USB_ADDR (R572) -/

section
variable {i : Initiator} {v : Word} {s : State} (h : Reaches Reg.USB_ADDR s)
include h

theorem exec_usbAddrWrite_waits (hctl : s.usb.ctl = true) :
    ∃ t, exec (.usbAddrWrite i v) s = .next t ∧ t.usb = { s.usb with addrNext := some (fget v 6 0) } ∧ Took i [] s t := by
  have e : usbWrite i.ep Reg.USB_ADDR v s = updUsb (fun u => { u with addrNext := some (fget v 6 0) }) s := by
    have hmod : fget v 6 0 % 128 = fget v 6 0 := Nat.mod_eq_of_lt (fget_lt v 6 0)
    change usbAddrWrite (fget v 6 0) s = _
    rw [usbAddrWrite, if_pos hctl, hmod]
  have hchange : PortChange [] s (usbWrite i.ep Reg.USB_ADDR v s) := e ▸ (PortChange.refl [] s).updUsb _
  obtain ⟨t, ht, htook, husb, -⟩ :=
    okSettled_usbCmd h (by decide) (by decide) (by decide) hchange.only (hchange.drained h.calm.sources) hchange.regs
  exact ⟨t, ht, husb.trans (congrArg State.usb e), htook⟩

theorem exec_usbAddrWrite_now (hctl : s.usb.ctl = false) :
    ∃ t, exec (.usbAddrWrite i v) s = .next t ∧ t.fld Reg.USB_ADDR 6 0 = fget v 6 0 ∧ Took i [Reg.USB_ADDR] s t := by
  have hmod : fget v 6 0 % 128 = fget v 6 0 := Nat.mod_eq_of_lt (fget_lt v 6 0)
  have e : usbWrite i.ep Reg.USB_ADDR v s = s.setReg Reg.USB_ADDR (nw (fget v 6 0)) := by
    change usbAddrWrite (fget v 6 0) s = _
    rw [usbAddrWrite, if_neg (by simp [hctl]), hmod]
  have hchange : PortChange [Reg.USB_ADDR] s (usbWrite i.ep Reg.USB_ADDR v s) := e ▸ (PortChange.refl _ s).setReg (by simp) _
  obtain ⟨t, ht, htook, -, hregs⟩ :=
    okSettled_usbCmd h (by decide) (by decide) (by decide) hchange.only (hchange.drained h.calm.sources) hchange.regs
  refine ⟨t, ht, ?_, htook⟩
  have hlt : fget v 6 0 < 128 := fget_lt v 6 0
  have hsmall : (nw (fget v 6 0)).toNat = fget v 6 0 := by rw [nw, BitVec.toNat_ofNat, Nat.mod_eq_of_lt (by omega)]
  rw [State.fld, reg_congr (hregs.trans (congrArg State.regs e)), reg_setReg_self, fget, hsmall]
  omega

end

/-! ### USB_TEST (R570) -/

/-- The effect of a write of `USB_TEST` on its field: a mode above 4 is reserved. -/
theorem writeReg_usbTest (ep : Nat) (v : Word) (s : State) : (writeReg ep Reg.USB_TEST v s).reg Reg.USB_TEST =
    if fget v 2 0 ≤ 4 then fset (s.reg Reg.USB_TEST) 2 0 (fget v 2 0) else s.reg Reg.USB_TEST := by
  have hfields : fieldsAt Reg.USB_TEST = [⟨2, 0, "MODE", .rw, 0, .range 0 4⟩] := by rfl
  have hok : fieldOk Reg.USB_TEST ⟨2, 0, "MODE", .rw, 0, .range 0 4⟩ (fget v 2 0) = decide (fget v 2 0 ≤ 4) := by
    simp [fieldOk, Chk.ok, Reg.USB_TEST, Reg.SYS_PINMUX, Reg.SYS_PINMUX_4]
  simp only [writeReg, writeRegIf, hfields, List.filter_cons_of_pos, List.filter_nil, writeFlds, writeFld, hok, decide_eq_true_eq]
  split
  · rw [if_neg (by simp), reg_setReg_self]
  · rw [if_pos rfl, captureRsvd_reg (by decide), reg_setReg_self]

theorem usbWrite_usbTest (ep : Nat) (v : Word) (s : State) :
    usbWrite ep Reg.USB_TEST v s = if s.bit Reg.USB_CTL 0 then writeReg ep Reg.USB_TEST v s else s := by
  have hstill : lv (writeReg ep Reg.USB_TEST v) s = writeReg ep Reg.USB_TEST v s :=
    relevelList_still _ (levelOn_of_listedBut (writeReg_listedBut ep _ v s))
  have e : usbWrite ep Reg.USB_TEST v s = if s.bit Reg.USB_CTL 0 then lv (writeReg ep Reg.USB_TEST v) s else s := by
    simp (disch := decide) only [usbWrite, if_neg]
    cases s.bit Reg.USB_CTL 0 <;> rfl
  rw [e, hstill]

section
variable {i : Initiator} {v : Word} {s : State} (h : Reaches Reg.USB_TEST s)
include h

theorem exec_usbTestWrite (hen : s.bit Reg.USB_CTL 0 = true) : ∃ t, exec (.usbTestWrite i v) s = .next t ∧ Took i (Reg.USB_TEST :: rsvdRegs) s t ∧
    t.fld Reg.USB_TEST 2 0 = if fget v 2 0 ≤ 4 then fget v 2 0 else s.fld Reg.USB_TEST 2 0 := by
  have e : usbWrite i.ep Reg.USB_TEST v s = writeReg i.ep Reg.USB_TEST v s := by rw [usbWrite_usbTest, if_pos hen]
  have honly : RegsOnly s (usbWrite i.ep Reg.USB_TEST v s) := e ▸ writeReg_only _ _ _ _
  have hlisted : ListedBut Reg.USB_TEST s (usbWrite i.ep Reg.USB_TEST v s) := e ▸ writeReg_listedBut _ _ _ _
  have hdrained : Drained (usbWrite i.ep Reg.USB_TEST v s) := by unfold Drained; rw [honly.eiu]; exact h.calm.sources
  obtain ⟨t, ht, htook, -, hregs⟩ := okSettled_usbCmd h (by decide) (by decide) (by decide) honly.portOnly hdrained hlisted.regsBut
  refine ⟨t, ht, htook, ?_⟩
  rw [State.fld, reg_congr (hregs.trans (congrArg State.regs e)), writeReg_usbTest]
  split
  · rw [fget_fset_self _ _ _ _ (by decide) (by decide), Nat.mod_eq_of_lt (fget_lt v 2 0)]
  · rfl

theorem exec_usbTestWrite_disabled (hen : s.bit Reg.USB_CTL 0 = false) : ∃ t, exec (.usbTestWrite i v) s = .next t ∧ Took i [] s t := by
  have e : usbWrite i.ep Reg.USB_TEST v s = s := by rw [usbWrite_usbTest, if_neg (by simp [hen])]
  have hchange : PortChange [] s (usbWrite i.ep Reg.USB_TEST v s) := by rw [e]; exact .refl [] s
  obtain ⟨t, ht, htook, -, -⟩ :=
    okSettled_usbCmd h (by decide) (by decide) (by decide) hchange.only (hchange.drained h.calm.sources) hchange.regs
  exact ⟨t, ht, htook⟩

end

/-! ### USB_CTL with a wakeup (R571) -/

/-- What a write of `USB_CTL` makes of the register. -/
def ctlWord (old v : Word) : Word := fset (fset (fset old 2 2 (fget v 2 2)) 1 1 (fget v 1 1)) 0 0 (fget v 0 0)

/-- The state after the plain effect of such a write. -/
def ctlSet (v : Word) (s : State) : State := s.setReg Reg.USB_CTL (ctlWord (s.reg Reg.USB_CTL) v)

theorem writeReg_usbCtl (ep : Nat) (v : Word) (s : State) : writeReg ep Reg.USB_CTL v s = ctlSet v s := by
  have hfields : fieldsAt Reg.USB_CTL = [fd 3 3 "WAKE" .wo 0, fd 2 2 "HS_EN" .rw 1, fd 1 1 "CONNECT" .rw 0, fd 0 0 "EN" .rw 0] := by rfl
  have hok : ∀ (f : Fld) (x : Nat), f.chk = .any → fieldOk Reg.USB_CTL f x = true := by
    intro f x hf
    simp [fieldOk, hf, Chk.ok, Reg.USB_CTL, Reg.SYS_PINMUX, Reg.SYS_PINMUX_4]
  simp [writeReg, writeRegIf, hfields, writeFlds, writeFld, hok, fd, ctlWord, ctlSet]

theorem ctlWord_on {v : Word} (h0 : bget v 0 = true) (h1 : bget v 1 = true) (old : Word) : bget (ctlWord old v) 0 = true ∧ bget (ctlWord old v) 1 = true := by
  have h : ∀ k, k < 2 → bget v k = true → (fget v k k).testBit 0 = true := by
    intro k _ hk
    rw [fget_testBit]
    simpa [bget] using hk
  simp only [ctlWord, bget]
  simp (disch := decide) only [fset_bit]
  simp [h 0 (by decide) h0, h 1 (by decide) h1]


/-- A write of `USB_CTL` that keeps the port connected and carries a wakeup resumes the bus. -/
theorem usbWrite_wake {v : Word} {s : State} (hu : usbUp s = true) (hs : usbSuspended s = true) (h0 : bget v 0 = true) (h1 : bget v 1 = true) (ep : Nat) :
    usbWrite ep Reg.USB_CTL (bset v 3 true) s = usbStat 5 (setSuspended false Reg.USB_RESUME_CNT (ctlSet (bset v 3 true) s)) := by
  have hw0 : bget (bset v 3 true) 0 = true := by rw [bset_bit _ _ _ _ (by decide), if_neg (by decide), h0]
  have hw1 : bget (bset v 3 true) 1 = true := by rw [bset_bit _ _ _ _ (by decide), if_neg (by decide), h1]
  have hw3 : bget (bset v 3 true) 3 = true := by rw [bset_bit _ _ _ _ (by decide), if_pos rfl]
  obtain ⟨hon0, hon1⟩ := ctlWord_on hw0 hw1 (s.reg Reg.USB_CTL)
  have hbit : ∀ k, (ctlSet (bset v 3 true) s).bit Reg.USB_CTL k = bget (ctlWord (s.reg Reg.USB_CTL) (bset v 3 true)) k := by
    intro k
    rw [ctlSet, State.bit, reg_setReg_self]
  have hstopped : usbStopped (ctlSet (bset v 3 true) s) = usbStopped s := by rw [ctlSet, usbStopped, State.bit, reg_setReg_ne (by decide)]; rfl
  have hup : usbUp (ctlSet (bset v 3 true) s) = true := by
    simp only [usbUp, Bool.and_eq_true] at hu
    simp [usbUp, hbit, hon0, hon1, hstopped, hu.2]
  have hsusp : usbSuspended (ctlSet (bset v 3 true) s) = true := by
    rw [ctlSet, usbSuspended, State.bit, reg_setReg_ne (by decide)]; exact hs
  rw [← usbResume_eq hup hsusp]
  change usbCtlWrite ep (bset v 3 true) s = _
  simp [usbCtlWrite, writeReg_usbCtl, hbit, hon0, hon1, hw3]

theorem exec_usbWake {i : Initiator} {v : Word} {s : State} (h : Reaches Reg.USB_CTL s) (hu : usbUp s = true) (h0 : bget v 0 = true) (h1 : bget v 1 = true)
    (hs : usbSuspended s = true) : ∃ t, exec (.usbWake i v) s = .next t ∧ t.bit Reg.USB_STATUS 2 = false ∧ t.bit Reg.USB_STATUS 5 = true ∧
    t.reg Reg.USB_RESUME_CNT = s.reg Reg.USB_RESUME_CNT + 1 ∧ Took i (Reg.USB_CTL :: Reg.USB_STATUS :: Reg.USB_RESUME_CNT :: usbSrcRegs) s t := by
  have e := usbWrite_wake hu hs h0 h1 i.ep
  have hchange : PortChange (Reg.USB_CTL :: [Reg.USB_STATUS, Reg.USB_RESUME_CNT]) s
      (setSuspended false Reg.USB_RESUME_CNT (ctlSet (bset v 3 true) s)) :=
    ((PortChange.refl _ s).setReg (List.mem_cons_self ..) _).trans ((setSuspended_change ..).mono (List.subset_cons_self ..))
  obtain ⟨hraised, hdrained⟩ := usbStat_raised 5 (hchange.drained h.calm.sources)
  obtain ⟨hbit, hevent, hcnt, -, hregs⟩ := hraised.suspended (by decide) (by decide) (by decide)
  rw [← e] at hbit hevent hcnt hregs hraised hdrained
  obtain ⟨t, ht, htook, -, hsame⟩ := okSettled_usbCmd (l := Reg.USB_CTL :: Reg.USB_STATUS :: Reg.USB_RESUME_CNT :: usbSrcRegs) h (by decide) (by decide)
    (by decide) (hchange.only.trans hraised.events.portOnly) hdrained (hraised.regsBut (by simp) (hchange.mono (by simp)).regs)
  have hreg := reg_congr hsame
  refine ⟨t, ht, ?_, ?_, ?_, htook⟩
  · rw [State.bit, hreg]; exact hbit
  · rw [State.bit, hreg]; exact hevent
  · rw [hreg, hcnt, ctlSet, reg_setReg_ne (by decide)]


end Sys2Proof.Machine
end

section
/-!
SUPPORT. The bus reset of the USB port (R571): every endpoint ends, the units of its transmit rings with ABORTED (R460); and from all the port's commands O59.
-/
set_option linter.constructorNameAsVariable false

namespace Sys2Proof.Machine

/-! ### Rings (R460) -/

/-- A transmit unit ended with ABORTED. -/
def abortedUnit (u : RUnit) : RUnit := { u with status := 1, complete := true, wait := none }

/-- A ring whose unit, where it has one, is ended with ABORTED. -/
def abortedRing (x : Ring) : Ring := { x with unit := x.unit.map abortedUnit }

theorem abortedRing_of_none {x : Ring} (h : x.unit = none) : abortedRing x = x := by
  obtain ⟨fetched, unit, hold, jobs, meAbort, bound, dropping⟩ := x
  obtain rfl : unit = none := h
  rfl

theorem abortedRing_idem (x : Ring) : abortedRing (abortedRing x) = abortedRing x := by
  obtain ⟨fetched, unit, hold, jobs, meAbort, bound, dropping⟩ := x
  cases unit <;> rfl

@[simp] theorem ring_setRing_self (s : State) (r : Nat) (x : Ring) : (s.setRing r x).ring r = x := by simp [State.ring, State.setRing]
theorem ring_setRing_ne {r q : Nat} (h : q ≠ r) (s : State) (x : Ring) : (s.setRing r x).ring q = s.ring q := by
  simp only [State.ring, State.setRing]; exact SMap.getD_put_ne h _ _ _ _

/-- Which ring is bound to a peripheral stands in the rings' configurations and in what holds its binding. -/
theorem boundRing_congr {s t : State} (hb : ∀ r, (t.ring r).bound = (s.ring r).bound) (hr : ∀ r, t.reg (Reg.SEF_RING_CFG r) = s.reg (Reg.SEF_RING_CFG r))
    (kind b : Nat) (rx : Bool) : boundRing t kind b rx = boundRing s kind b rx := by
  simp only [boundRing, ringKind, ringBind, ringIsRx, ringDir, State.fld, State.bit, hb, hr]

/-! ### The endpoints of a bus reset -/

/-- The configuration registers of the sixteen endpoints. -/
def epCfgRegs : List Nat := (List.range 16).map (fun k => usbCfg (decide (8 ≤ k)) (k % 8))

theorem ringCfg_not_epCfg (r : Nat) : Reg.SEF_RING_CFG r ∉ epCfgRegs := by
  have hlt : ∀ a, a ∈ epCfgRegs → a < 0x400000 := by decide
  intro h
  have := hlt _ h
  simp only [Reg.SEF_RING_CFG] at this
  omega

/-- No receive ring of an OUT endpoint has a unit. -/
def OutQuiet (s : State) : Prop := ∀ e, e < 8 → ∀ r, boundRing s 6 e true = some r → (s.ring r).unit = none

/-- From s to t endpoints have been reset: their configurations have changed, and units of rings have ended. -/
structure EpsReset (s t : State) : Prop where
  change : PortChange epCfgRegs s t
  rings : ∀ r, t.ring r = s.ring r ∨ t.ring r = abortedRing (s.ring r)

theorem EpsReset.trans {s t u : State} (h : EpsReset s t) (g : EpsReset t u) : EpsReset s u := by
  refine ⟨h.change.trans g.change, fun r => ?_⟩
  rcases h.rings r with hr | hr <;> rcases g.rings r with gr | gr <;> simp [gr, hr, abortedRing_idem]

theorem EpsReset.boundRing {s t : State} (h : EpsReset s t) (kind b : Nat) (rx : Bool) : boundRing t kind b rx = boundRing s kind b rx := by
  refine boundRing_congr (fun r => ?_) (fun r => h.change.regs _ (ringCfg_not_epCfg r)) kind b rx
  rcases h.rings r with hr | hr <;> rw [hr]
  rfl

theorem EpsReset.outQuiet {s t : State} (h : EpsReset s t) (hq : OutQuiet s) : OutQuiet t := by
  intro e he r hr
  have hnone : (s.ring r).unit = none := hq e he r (h.boundRing .. ▸ hr)
  rcases h.rings r with e | e <;> simp [e, abortedRing, hnone]

theorem usbEndUnit_out {s : State} (hq : OutQuiet s) {e : Nat} (he : e < 8) : usbEndUnit true e s = s := by
  unfold usbEndUnit
  simp only [if_true]
  split
  · rfl
  · next r hr => rw [hq e he r hr]

theorem usbEndUnit_in_unbound {s : State} {e : Nat} (h : boundRing s 5 e false = none) : usbEndUnit false e s = s := by
  simp [usbEndUnit, h]

theorem usbEndUnit_in {s : State} {e r : Nat} (h : boundRing s 5 e false = some r) :
    PortChange [] s (usbEndUnit false e s) ∧ ∀ q, (usbEndUnit false e s).ring q = if q = r then abortedRing (s.ring q) else s.ring q := by
  cases hu : (s.ring r).unit with
  | none =>
    have e : usbEndUnit false e s = s := by simp [usbEndUnit, h, hu]
    rw [e]
    refine ⟨.refl [] s, fun q => ?_⟩
    split
    · next hqr => rw [hqr, abortedRing_of_none hu]
    · rfl
  | some u =>
    have habort : abortedRing (s.ring r) = { s.ring r with unit := some (abortedUnit u) } := by rw [abortedRing, hu]; rfl
    have e : usbEndUnit false e s = s.setRing r (abortedRing (s.ring r)) := by simp [usbEndUnit, h, hu, setUnit, habort, abortedUnit]
    rw [e]
    refine ⟨(PortChange.refl [] s).setRing r _, fun q => ?_⟩
    split
    · next hqr => rw [hqr, ring_setRing_self]
    · next hqr => exact ring_setRing_ne hqr s _

/-- Ending the unit of an endpoint changes no register, and of the rings only the one bound to an IN endpoint. -/
theorem usbEndUnit_reset {s : State} (hq : OutQuiet s) (out : Bool) {e : Nat} (he : e < 8) :
    PortChange [] s (usbEndUnit out e s) ∧ ∀ q, (usbEndUnit out e s).ring q = s.ring q ∨ (usbEndUnit out e s).ring q = abortedRing (s.ring q) := by
  cases out with
  | true => rw [usbEndUnit_out hq he]; exact ⟨.refl [] s, fun _ => .inl rfl⟩
  | false =>
    cases hb : boundRing s 5 e false with
    | none => rw [usbEndUnit_in_unbound hb]; exact ⟨.refl [] s, fun _ => .inl rfl⟩
    | some r =>
      obtain ⟨hchange, hrings⟩ := usbEndUnit_in hb
      refine ⟨hchange, fun q => ?_⟩
      rw [hrings]
      split
      · exact .inr rfl
      · exact .inl rfl

/-- Endpoint k is disabled: the first step of its reset. -/
def epDisabled (s : State) (k : Nat) : State := s.setBit (usbCfg (decide (8 ≤ k)) (k % 8)) 20 false

theorem epDisabled_reset (s : State) {k : Nat} (hk : k < 16) : EpsReset s (epDisabled s k) :=
  ⟨(PortChange.refl _ s).setBit (List.mem_map.mpr ⟨k, List.mem_range.mpr hk, rfl⟩) _ _, fun _ => .inl rfl⟩

section
variable {s : State} (hq : OutQuiet s) {k : Nat} (hk : k < 16)
include hq hk

theorem usbResetEp_reset : EpsReset s (usbResetEp s k) := by
  have hdis := epDisabled_reset s hk
  obtain ⟨hchange, hrings⟩ := usbEndUnit_reset (hdis.outQuiet hq) (decide (8 ≤ k)) (Nat.mod_lt k (by decide : 0 < 8))
  exact hdis.trans ⟨(hchange.mono (List.nil_subset _)).setUsbEp _ _, hrings⟩

theorem usbResetEp_reg (a : Nat) : (usbResetEp s k).reg a = (epDisabled s k).reg a := by
  obtain ⟨hchange, -⟩ := usbEndUnit_reset ((epDisabled_reset s hk).outQuiet hq) (decide (8 ≤ k)) (Nat.mod_lt k (by decide : 0 < 8))
  exact hchange.regs a (List.not_mem_nil)

end

/-- The reset of IN endpoint e ends the unit of its ring. -/
theorem usbResetEp_in {s : State} {e r : Nat} (he : e < 8) (h : boundRing s 5 e false = some r) : (usbResetEp s e).ring r = abortedRing (s.ring r) := by
  have hin : decide (8 ≤ e) = false := by simpa using he
  have hbound : boundRing (epDisabled s e) 5 e false = some r := ((epDisabled_reset s (by omega)).boundRing ..).trans h
  have hring : (usbResetEp s e).ring r = (usbEndUnit false e (epDisabled s e)).ring r := by
    simp only [usbResetEp, epDisabled, hin, Nat.mod_eq_of_lt he]; rfl
  rw [hring, (usbEndUnit_in hbound).2, if_pos rfl]; rfl

/-! ### All endpoints -/

/-- A fold whose invariant every step keeps: what the step at k brings about and later steps keep holds at its end. -/
theorem foldl_establishes {α β : Type} {I P : α → Prop} {f : α → β → α} {l : List β} {k : β} (hk : k ∈ l) (hI : ∀ t j, j ∈ l → I t → I (f t j))
    (hP : ∀ t, I t → P (f t k)) (hkeep : ∀ t j, j ∈ l → I t → P t → P (f t j)) {s : α} (h : I s) : P (l.foldl f s) := by
  obtain ⟨l₁, l₂, rfl⟩ := List.append_of_mem hk
  have before : I (l₁.foldl f s) := List.foldlRecOn l₁ f h (fun t ht j hj => hI t j (by simp [hj]) ht)
  rw [List.foldl_append, List.foldl_cons]
  exact (List.foldlRecOn (motive := fun t => I t ∧ P t) l₂ f ⟨hI _ k hk before, hP _ before⟩
    (fun t ht j hj => ⟨hI t j (by simp [hj]) ht.1, hkeep t j (by simp [hj]) ht.1 ht.2⟩)).2

/-- Every endpoint is reset. -/
def epsReset (s : State) : State := (List.range 16).foldl usbResetEp s

section
variable {s : State} (hq : OutQuiet s)
include hq

theorem usbResetEp_keeps {t : State} (h : EpsReset s t) {k : Nat} (hk : k ∈ List.range 16) : EpsReset s (usbResetEp t k) :=
  h.trans (usbResetEp_reset (h.outQuiet hq) (List.mem_range.mp hk))

theorem epsReset_reset : EpsReset s (epsReset s) :=
  List.foldlRecOn _ _ ⟨.refl _ s, fun _ => .inl rfl⟩ (fun _ h _ hk => usbResetEp_keeps hq h hk)

theorem epsReset_disabled {k : Nat} (hk : k < 16) : (epsReset s).bit (usbCfg (decide (8 ≤ k)) (k % 8)) 20 = false := by
  refine foldl_establishes (I := EpsReset s) (P := fun t => t.bit (usbCfg (decide (8 ≤ k)) (k % 8)) 20 = false) (List.mem_range.mpr hk)
    (fun t j hj h => usbResetEp_keeps hq h hj) (fun t h => ?_) (fun t j hj h hp => ?_) ⟨.refl _ s, fun _ => .inl rfl⟩
  · rw [State.bit, usbResetEp_reg (h.outQuiet hq) hk, epDisabled, reg_setBit_self, bset_bit _ _ _ _ (by decide), if_pos rfl]
  · rw [State.bit, usbResetEp_reg (h.outQuiet hq) (List.mem_range.mp hj), epDisabled]
    by_cases ha : usbCfg (decide (8 ≤ k)) (k % 8) = usbCfg (decide (8 ≤ j)) (j % 8)
    · rw [ha, reg_setBit_self, bset_bit _ _ _ _ (by decide), if_pos rfl]
    · rw [reg_setBit_ne ha]; exact hp

theorem epsReset_ring {e r : Nat} (he : e < 8) (hr : boundRing s 5 e false = some r) : (epsReset s).ring r = abortedRing (s.ring r) := by
  refine foldl_establishes (I := EpsReset s) (P := fun t => t.ring r = abortedRing (s.ring r)) (List.mem_range.mpr (by omega : e < 16))
    (fun t j hj h => usbResetEp_keeps hq h hj) (fun t h => ?_) (fun t j hj h hp => ?_) ⟨.refl _ s, fun _ => .inl rfl⟩
  · rw [usbResetEp_in he ((h.boundRing ..).trans hr)]
    rcases h.rings r with e | e <;> rw [e]
    exact abortedRing_idem _
  · rcases (usbResetEp_reset (h.outQuiet hq) (List.mem_range.mp hj)).rings r with e | e
    · rw [e, hp]
    · rw [e, hp, abortedRing_idem]

end

/-! ### The bus reset (R571) -/

/-- The speed that a bus reset negotiates. -/
def resetSpeed (hs : Bool) (s : State) : Nat := if hs && s.bit Reg.USB_CTL 2 then 2 else 1

/-- What a bus reset leaves before its event bit. -/
def busReset (hs : Bool) (s : State) : State :=
  ((updUsb (fun u => { u with ctl := false, armed := 0, addrNext := none, fb := [], lastSof := none }) (epsReset (s.setReg Reg.USB_ADDR 0))).setFld
    Reg.USB_STATUS 2 0 (resetSpeed hs s)).inc Reg.USB_RESET_CNT

theorem boundRing_addr (s : State) (kind b : Nat) (rx : Bool) : boundRing (s.setReg Reg.USB_ADDR 0) kind b rx = boundRing s kind b rx := by
  have hne : ∀ q, Reg.SEF_RING_CFG q ≠ Reg.USB_ADDR := by intro q; simp only [Reg.SEF_RING_CFG, Reg.USB_ADDR]; omega
  exact boundRing_congr (s := s) (t := s.setReg Reg.USB_ADDR 0) (fun _ => rfl) (fun q => reg_setReg_ne (hne q) s 0) kind b rx

section
variable {s : State} (hq : OutQuiet s)
include hq

theorem outQuiet_addr : OutQuiet (s.setReg Reg.USB_ADDR 0) := fun e he r hr => hq e he r (boundRing_addr s .. ▸ hr)

theorem epsReset_reg {a : Nat} (ha : a ∉ epCfgRegs) : (epsReset (s.setReg Reg.USB_ADDR 0)).reg a = (s.setReg Reg.USB_ADDR 0).reg a :=
  (epsReset_reset (outQuiet_addr hq)).change.regs a ha

theorem usbBusReset_eq (hu : usbUp s = true) (hs : Bool) : usbBusReset hs s = usbStat 3 (busReset hs s) := by
  have hctl : (epsReset (s.setReg Reg.USB_ADDR 0)).bit Reg.USB_CTL 2 = s.bit Reg.USB_CTL 2 := by
    rw [State.bit, epsReset_reg hq (by decide), reg_setReg_ne (by decide), State.bit]
  have hspeed : (if hs && (epsReset (s.setReg Reg.USB_ADDR 0)).bit Reg.USB_CTL 2 then 2 else 1) = resetSpeed hs s := by rw [hctl, resetSpeed]
  have hreset : (List.range 16).foldl usbResetEp (s.setReg Reg.USB_ADDR 0) = epsReset (s.setReg Reg.USB_ADDR 0) := rfl
  rw [usbBusReset, if_neg (by simp [hu]), hreset, busReset, ← hspeed]
  dsimp only
  rw [updUsb_get_bit]

theorem busReset_change (hs : Bool) : PortChange (Reg.USB_ADDR :: Reg.USB_STATUS :: Reg.USB_RESET_CNT :: epCfgRegs) s (busReset hs s) :=
  (((((PortChange.refl _ s).setReg (by simp) 0).trans ((epsReset_reset (outQuiet_addr hq)).change.mono (fun a ha => by simp [ha]))).updUsb _).setFld (by simp) _ _ _).inc
    (by simp)

end

theorem busReset_reg {a : Nat} (hcnt : a ≠ Reg.USB_RESET_CNT) (hst : a ≠ Reg.USB_STATUS) (hs : Bool) (s : State) :
    (busReset hs s).reg a = (epsReset (s.setReg Reg.USB_ADDR 0)).reg a := by
  rw [busReset, reg_inc_ne hcnt, reg_setFld_ne hst, updUsb_get_reg]

theorem busReset_ring (hs : Bool) (s : State) (r : Nat) : (busReset hs s).ring r = (epsReset (s.setReg Reg.USB_ADDR 0)).ring r := by
  have keep : ∀ (f : Usb → Usb) (w : Nat) (u : State), (((updUsb f u).setFld Reg.USB_STATUS 2 0 w).inc Reg.USB_RESET_CNT).ring r = u.ring r :=
    fun _ _ _ => rfl
  exact keep ..

/-- A low part of a field of three bits. -/
theorem fget_one_zero (w : Word) : fget w 1 0 = fget w 2 0 % 4 := by simp only [fget]; omega

section
variable {s : State} (hc : Calm s) (hu : usbUp s = true) (hq : OutQuiet s)
include hc hu hq

theorem exec_busReset (hs : Bool) : ∃ t, exec (.busReset hs) s = .next t ∧ Raised 3 (busReset hs s) t ∧ SameMemory s t := by
  obtain ⟨t, ht, hr, hm⟩ := okSettled_usbStat (i := 3) hc (busReset_change hq hs)
  exact ⟨t, (congrArg okSettled (usbBusReset_eq hq hu hs)).trans ht, hr, hm⟩

end

section
variable {hs : Bool} {s t : State} (h : Raised 3 (busReset hs s) t)
include h

theorem Raised.resetStatus : t.bit Reg.USB_STATUS 2 = false ∧ t.fld Reg.USB_STATUS 1 0 = resetSpeed hs s := by
  have hstatus : (busReset hs s).reg Reg.USB_STATUS =
      fset ((epsReset (s.setReg Reg.USB_ADDR 0)).reg Reg.USB_STATUS) 2 0 (resetSpeed hs s) := by
    rw [busReset, reg_inc_ne (by decide), reg_setFld_self, updUsb_get_reg]
  have hspeed : resetSpeed hs s = 1 ∨ resetSpeed hs s = 2 := by unfold resetSpeed; split <;> simp
  constructor
  · rw [h.bit (by decide) (by decide), State.bit, hstatus, bget, fset_bit _ _ _ _ _ (by decide) (by decide), if_pos (by decide)]
    rcases hspeed with e | e <;> rw [e] <;> decide
  · rw [State.fld, h.status, fget_bset_ne _ _ _ _ _ (by decide) (by decide) (by decide), hstatus, fget_one_zero,
      fget_fset_self _ _ _ _ (by decide) (by decide)]
    rcases hspeed with e | e <;> simp [e]

theorem Raised.resetRegs (hq : OutQuiet s) : t.reg Reg.USB_ADDR = 0 ∧ t.reg Reg.USB_RESET_CNT = s.reg Reg.USB_RESET_CNT + 1 := by
  constructor
  · rw [h.regs _ (by decide), busReset_reg (by decide) (by decide), epsReset_reg hq (by decide), reg_setReg_self]
  · rw [h.regs _ (by decide), busReset, reg_inc_self, reg_setFld_ne (by decide), updUsb_get_reg, epsReset_reg hq (by decide), reg_setReg_ne (by decide)]

theorem Raised.resetEps (hq : OutQuiet s) {k : Nat} (hk : k < 16) : t.bit (usbCfg (decide (8 ≤ k)) (k % 8)) 20 = false := by
  have hplain : ∀ a, a ∈ epCfgRegs → a ∉ Reg.USB_STATUS :: usbSrcRegs ∧ a ≠ Reg.USB_RESET_CNT ∧ a ≠ Reg.USB_STATUS := by decide
  obtain ⟨hstat, hcnt, hst⟩ := hplain _ (List.mem_map.mpr ⟨k, List.mem_range.mpr hk, rfl⟩)
  rw [State.bit, h.regs _ hstat, busReset_reg hcnt hst]
  exact epsReset_disabled (outQuiet_addr hq) hk

theorem Raised.resetCfgs (hq : OutQuiet s) {e : Nat} (he : e < 8) : t.bit (Reg.USB_EPIN_CFG e) 20 = false ∧ t.bit (Reg.USB_EPOUT_CFG e) 20 = false := by
  have hin := h.resetEps hq (by omega : e < 16)
  have hout := h.resetEps hq (by omega : e + 8 < 16)
  rw [decide_eq_false (by omega), Nat.mod_eq_of_lt he] at hin
  rw [decide_eq_true (by omega), Nat.add_mod_right, Nat.mod_eq_of_lt he] at hout
  exact ⟨hin, hout⟩

/-- The unit of an IN endpoint's ring is ended with ABORTED. -/
theorem Raised.resetUnit (hq : OutQuiet s) {e r : Nat} (he : e < 8) (hr : boundRing s 5 e false = some r) {u : RUnit} (hunit : (s.ring r).unit = some u) :
    (t.ring r).unit = some (abortedUnit u) := by
  rw [h.events.get_ring, busReset_ring, epsReset_ring (outQuiet_addr hq) he ((boundRing_addr s ..).trans hr)]
  exact congrArg (Option.map abortedUnit) hunit

end

/-! ### The obligation -/

/-- Settles O59: each clause is the command it names, run on a calm device; every command of the port but a register write ends in one of its event bits. -/
theorem usbControl : Obligations.UsbControl := by
  intro i v s
  refine ⟨fun hc hu => ⟨fun hs _ hq => ?_, fun e r he hr hq u hunit => ?_, exec_usbSuspend hc hu, exec_usbResume hc hu, exec_usbSetup hc hu,
    exec_ep0Stall hc hu, fun hb hs => ⟨exec_ep0Send hc hu hb hs, exec_ep0Send_unarmed hc hu hb hs, exec_ep0Recv hc hu hb hs,
    exec_ep0StatusAck hc hu hb hs⟩⟩, fun h hu h0 h1 hs => exec_usbWake h hu h0 h1 hs, fun h => ⟨exec_usbAddrWrite_waits h, exec_usbAddrWrite_now h⟩,
    fun h => ⟨exec_usbTestWrite h, exec_usbTestWrite_disabled h⟩⟩
  · obtain ⟨t, ht, hraised, hm⟩ := exec_busReset hc hu hq hs
    obtain ⟨hsuspended, hspeed⟩ := hraised.resetStatus
    obtain ⟨haddr, hcnt⟩ := hraised.resetRegs hq
    exact ⟨t, ht, haddr, fun _ he => hraised.resetCfgs hq he, hraised.raised (by decide), hsuspended, hspeed, hcnt, by rw [hraised.usb]; rfl, hm⟩
  · obtain ⟨t, ht, hraised, -⟩ := exec_busReset hc hu hq false
    exact ⟨t, ht, hraised.resetUnit hq he hr hunit⟩

end Sys2Proof.Machine
end

section
/-!
SUPPORT. What Hatcheck's triggers and the error log change (R667-R669, R672-R674), and the commands that bring them about.
-/
set_option linter.constructorNameAsVariable false

namespace Sys2Proof.Machine

/-! ### The frame of the error log and Hatcheck -/

/-- From s to t only registers, the event unit, the error log, Hatcheck's own state and the free values change. -/
def LogOnly (s t : State) : Prop := t = { s with regs := t.regs, eiu := t.eiu, errlog := t.errlog, hat := t.hat, fresh := t.fresh }

theorem LogOnly.trans {s t u : State} (h : LogOnly s t) (g : LogOnly t u) : LogOnly s u := by
  unfold LogOnly at *; rw [g, h]

theorem RegsOnly.logOnly {s t : State} (h : RegsOnly s t) : LogOnly s t := by unfold RegsOnly LogOnly at *; rw [h]
theorem EventsOnly.logOnly {s t : State} (h : EventsOnly s t) : LogOnly s t := by unfold EventsOnly LogOnly at *; rw [h]
theorem EventsOnly.hat {s t : State} (h : EventsOnly s t) : t.hat = s.hat := by rw [h]
theorem EventsOnly.errlog {s t : State} (h : EventsOnly s t) : t.errlog = s.errlog := by rw [h]

section
variable {s t : State} (h : LogOnly s t)
include h

theorem LogOnly.cores : t.cores = s.cores := by rw [h]
theorem LogOnly.nowLo : t.nowLo = s.nowLo := by rw [h]; rfl
theorem LogOnly.nowHi : t.nowHi = s.nowHi := by rw [h]; rfl
theorem LogOnly.memory : SameMemory s t := by rw [h]; exact ⟨rfl, rfl, rfl, rfl, rfl, rfl⟩

end

/-- Hatcheck and the error log keep a device calm while its event unit holds nothing back. -/
theorem Calm.logOnly {s t : State} (h : Calm s) (g : LogOnly s t) (hd : Drained t) : Calm t where
  flaws := by rw [g]; exact h.flaws
  held := by rw [g]; exact h.held
  retired := by rw [g]; exact h.retired
  blocked := by rw [g]; exact h.blocked
  inter := by rw [g]; exact h.inter
  waiting := by rw [g]; exact h.waiting
  rxq := by rw [g]; exact h.rxq
  draining := by rw [g]; exact h.draining
  stores := by rw [g]; exact h.stores
  sources := hd

/-- From s to t registers of l, the error log and Hatcheck's own state have changed, and no event source has been asserted. -/
structure LogChange (l : List Nat) (s t : State) : Prop where
  only : LogOnly s t
  eiu : t.eiu = s.eiu
  regs : RegsBut l s t

theorem LogChange.refl (l : List Nat) (s : State) : LogChange l s s := ⟨rfl, rfl, fun _ _ => rfl⟩

section
variable {l : List Nat} {s t : State} (h : LogChange l s t)
include h

theorem LogChange.trans {u : State} (g : LogChange l t u) : LogChange l s u :=
  ⟨h.only.trans g.only, g.eiu.trans h.eiu, fun a ha => (g.regs a ha).trans (h.regs a ha)⟩

theorem LogChange.mono {m : List Nat} (hl : l ⊆ m) : LogChange m s t := ⟨h.only, h.eiu, fun a ha => h.regs a (fun hm => ha (hl hm))⟩

theorem LogChange.setReg {a : Nat} (ha : a ∈ l) (v : Word) : LogChange l s (t.setReg a v) :=
  h.trans ⟨rfl, rfl, fun b hb => reg_setReg_ne (fun e : b = a => hb (e.symm ▸ ha)) t v⟩

theorem LogChange.setBit {a : Nat} (ha : a ∈ l) (i : Nat) (b : Bool) : LogChange l s (t.setBit a i b) := h.setReg ha _
theorem LogChange.setFld {a : Nat} (ha : a ∈ l) (hi lo v : Nat) : LogChange l s (t.setFld a hi lo v) := h.setReg ha _
theorem LogChange.inc {a : Nat} (ha : a ∈ l) : LogChange l s (t.inc a) := h.setReg ha _
theorem LogChange.withHat (x : Hat) : LogChange l s { t with hat := x } := h.trans ⟨rfl, rfl, fun _ _ => rfl⟩
theorem LogChange.withLog (x : ErrLog) : LogChange l s { t with errlog := x } := h.trans ⟨rfl, rfl, fun _ _ => rfl⟩
theorem LogChange.takeFresh : LogChange l s (takeFresh t) := h.trans ⟨rfl, rfl, fun _ _ => rfl⟩

theorem LogChange.ite {u : State} (g : LogChange l s u) (p : Prop) [Decidable p] : LogChange l s (if p then t else u) := by
  split <;> assumption

theorem LogChange.drained (hs : Drained s) : Drained t := by unfold Drained; rw [h.eiu]; exact hs
theorem LogChange.fld {a : Nat} (ha : a ∉ l) (hi lo : Nat) : t.fld a hi lo = s.fld a hi lo := by rw [State.fld, h.regs a ha, State.fld]
theorem LogChange.bit {a : Nat} (ha : a ∉ l) (i : Nat) : t.bit a i = s.bit a i := by rw [State.bit, h.regs a ha, State.bit]

end

/-! ### One level source (R304) -/

/-- From u to t nothing has happened but what the event unit makes of level source k. -/
structure Levels (k : Nat) (u t : State) : Prop where
  events : EventsOnly u t
  regs : RegsBut [Reg.EIU_SRC_CNT k] u t

section
variable {k : Nat} {u t : State} (h : Levels k u t)
include h

theorem Levels.reg {a : Nat} (ha : a ≠ Reg.EIU_SRC_CNT k) : t.reg a = u.reg a := h.regs a (by simpa using ha)
theorem Levels.bit {a : Nat} (ha : a ≠ Reg.EIU_SRC_CNT k) (i : Nat) : t.bit a i = u.bit a i := by rw [State.bit, h.reg ha, State.bit]
theorem Levels.fld {a : Nat} (ha : a ≠ Reg.EIU_SRC_CNT k) (hi lo : Nat) : t.fld a hi lo = u.fld a hi lo := by rw [State.fld, h.reg ha, State.fld]

theorem Levels.regsBut {l : List Nat} {s : State} (hl : Reg.EIU_SRC_CNT k ∈ l) (hu : RegsBut l s u) : RegsBut l s t :=
  fun a ha => (h.reg (fun e : a = Reg.EIU_SRC_CNT k => ha (e ▸ hl))).trans (hu a ha)

end

theorem lv1_levels (k : Nat) (f : State → State) {s : State} (h : Drained (f s)) : Levels k (f s) (lv1 k f s) ∧ Drained (lv1 k f s) := by
  obtain ⟨hevents, hdrained, hregs⟩ := relevelList_asserted s [k] (f s) h
  exact ⟨⟨hevents, fun a ha => hregs a (fun j hj e => ha (by rw [List.mem_singleton.mp hj] at e; simp [e]))⟩, hdrained⟩

/-- A register write whose block changes only the error log and Hatcheck, answered OK. -/
theorem okSettled_logCmd {i : Initiator} {a : Nat} {v : Word} {l : List Nat} {s u : State} (h : Reaches a s) (hr : regionAt s a = some .regs)
    (ha : regAccess i.ep (initPl i) a (some v) s = .done .ok 0 u) (hu : LogOnly s u) (hd : Drained u) (hl : RegsBut l s u) :
    ∃ t, okSettled (regCmd i a v s) = .next t ∧ Took i l s t ∧ t.errlog = u.errlog ∧ t.hat = u.hat ∧ ∀ b, t.reg b = u.reg b :=
  ⟨_, okSettled_regCmd h hr ha (h.calm.logOnly hu hd), ⟨rfl, hl, hu.cores, hu.memory.trans ⟨rfl, rfl, rfl, rfl, rfl, rfl⟩⟩, rfl, rfl, fun _ => rfl⟩

/-- What a command leaves when only the error log and Hatcheck have changed. -/
theorem okSettled_logOnly {s u : State} (h : Calm s) (hu : LogOnly s u) (hd : Drained u) :
    ∃ t, okSettled u = .next t ∧ EventsOnly u t ∧ (∀ a, t.reg a = u.reg a) ∧ t.cores = s.cores ∧ SameMemory s t :=
  ⟨latched u, okSettled_calm (h.logOnly hu hd), rfl, fun _ => rfl, hu.cores, hu.memory.latched⟩

/-- A command whose effect ends in what one level source makes of it. -/
theorem okSettled_lv1 {k : Nat} {f : State → State} {l : List Nat} {s : State} (h : Calm s) (hu : LogChange l s (f s)) :
    ∃ t, okSettled (lv1 k f s) = .next t ∧ Levels k (f s) t ∧ t.cores = s.cores ∧ SameMemory s t := by
  obtain ⟨hlevels, hdrained⟩ := lv1_levels k f (hu.drained h.sources)
  obtain ⟨t, ht, hevents, hreg, hrest⟩ := okSettled_logOnly h (hu.only.trans hlevels.events.logOnly) hdrained
  exact ⟨t, ht, ⟨hlevels.events.trans hevents, fun a ha => (hreg a).trans (hlevels.regs a ha)⟩, hrest⟩

/-! ### Triggers (R672-R674) -/

/-- What the trigger of source j that begins a latch makes of `HAT_STATUS`. -/
def trigStatus (j : Nat) (w : Word) : Word := bset (bset (bset (fset w 11 9 j) 0 false) 2 true) (4 + j) true

theorem trigStatus_bits {j : Nat} (hj : j < 5) (w : Word) : bget (trigStatus j w) 0 = false ∧
    bget (trigStatus j w) 2 = true ∧ bget (trigStatus j w) (4 + j) = true := by
  rw [trigStatus]
  refine ⟨?_, ?_, ?_⟩
  · rw [bset_bit _ _ _ _ (by omega), if_neg (by omega), bset_bit _ _ _ _ (by omega), if_neg (by omega), bset_bit _ _ _ _ (by omega), if_pos rfl]
  · rw [bset_bit _ _ _ _ (by omega), if_neg (by omega), bset_bit _ _ _ _ (by omega), if_pos rfl]
  · rw [bset_bit _ _ _ _ (by omega), if_pos rfl]

theorem trigStatus_first {j : Nat} (hj : j < 5) (w : Word) : fget (trigStatus j w) 11 9 = j := by
  rw [trigStatus, fget_bset_ne _ _ _ _ _ (by omega) (by omega) (by omega), fget_bset_ne _ _ _ _ _ (by omega) (by omega) (by omega),
    fget_bset_ne _ _ _ _ _ (by omega) (by omega) (by omega), fget_fset_self _ _ _ _ (by omega) (by omega), Nat.mod_eq_of_lt (by omega)]

/-- A latch begins: the status, the tick and the cause. -/
def latchBegun (j : Nat) (cause : Word) (s : State) : State :=
  (((s.setReg Reg.HAT_STATUS (trigStatus j (s.reg Reg.HAT_STATUS))).setReg Reg.HAT_LATCH_TICK_LO s.nowLo).setReg Reg.HAT_LATCH_TICK_HI s.nowHi).setReg
    Reg.HAT_CAUSE_INFO cause

/-- `HAT_TRIG_REC` takes the record that triggered. -/
def recCaught (rec : LogRec) (s : State) : State :=
  (((s.setReg (Reg.HAT_TRIG_REC 0) rec.w0).setReg (Reg.HAT_TRIG_REC 1) rec.w1).setReg (Reg.HAT_TRIG_REC 2) rec.w2).setReg (Reg.HAT_TRIG_REC 3) rec.w3

/-- `HATCHECK_IO` is driven low, unless it is the trigger. -/
def pinDriven (j : Nat) (s : State) : State := if s.bit Reg.HAT_CTL 2 && j != 2 then s.setBit Reg.HAT_PIN 1 true else s

/-- The registers after the trigger that begins a latch. -/
def triggered (j : Nat) (cause : Word) (rec : LogRec) (s : State) : State :=
  pinDriven j (if j = 4 then recCaught rec (latchBegun j cause s) else latchBegun j cause s)

theorem pinDriven_reg {a : Nat} (h : a ≠ Reg.HAT_PIN) (j : Nat) (s : State) : (pinDriven j s).reg a = s.reg a := by
  unfold pinDriven; split
  · exact reg_setBit_ne h ..
  · rfl

theorem recCaught_reg {a : Nat} (h : ∀ k, k < 4 → a ≠ Reg.HAT_TRIG_REC k) (rec : LogRec) (s : State) : (recCaught rec s).reg a = s.reg a := by
  rw [recCaught, reg_setReg_ne (h 3 (by decide)), reg_setReg_ne (h 2 (by decide)), reg_setReg_ne (h 1 (by decide)), reg_setReg_ne (h 0 (by decide))]

/-- The registers that every trigger which begins a latch sets. -/
theorem triggered_reg {a : Nat} (hpin : a ≠ Reg.HAT_PIN) (hrec : ∀ k, k < 4 → a ≠ Reg.HAT_TRIG_REC k) (j : Nat) (cause : Word) (rec : LogRec) (s : State) :
    (triggered j cause rec s).reg a = (latchBegun j cause s).reg a := by
  rw [triggered, pinDriven_reg hpin]
  split
  · exact recCaught_reg hrec ..
  · rfl

/-- The registers that a trigger may set. -/
def trigRegs : List Nat :=
  [Reg.HAT_STATUS, Reg.HAT_LATCH_TICK_LO, Reg.HAT_LATCH_TICK_HI, Reg.HAT_CAUSE_INFO, Reg.HAT_TRIG_REC 0, Reg.HAT_TRIG_REC 1, Reg.HAT_TRIG_REC 2,
   Reg.HAT_TRIG_REC 3, Reg.HAT_PIN, Reg.HAT_MISSED_CNT]

theorem triggered_change (j : Nat) (cause : Word) (rec : LogRec) (s : State) : LogChange trigRegs s (triggered j cause rec s) := by
  have hbegun : LogChange trigRegs s (latchBegun j cause s) :=
    ((((LogChange.refl _ s).setReg (by decide) _).setReg (by decide) _).setReg (by decide) _).setReg (by decide) _
  have hcaught : LogChange trigRegs s (recCaught rec (latchBegun j cause s)) :=
    (((hbegun.setReg (by decide) _).setReg (by decide) _).setReg (by decide) _).setReg (by decide) _
  have hrec := hcaught.ite hbegun (j = 4)
  exact (hrec.setBit (by decide) _ _).ite hrec _

section
variable {j : Nat} {s : State}

/-- An armed trigger: the registers above, and the latch is due after HAT_DELAY edges. -/
theorem hatTrigger_armed (hen : s.bit Reg.HAT_CTL (4 + j) = true) (harmed : s.bit Reg.HAT_STATUS 0 = true) (cause : Word) (rec : LogRec) :
    ∃ x : Hat, hatTrigger j cause rec s = { triggered j cause rec s with hat := x } ∧ x.latch = some (s.fld Reg.HAT_DELAY 9 0) := by
  rw [← (triggered_change j cause rec s).fld (by decide)]
  exact ⟨_, by simp only [hatTrigger, hen, harmed, Bool.not_true, Bool.false_eq_true, if_false, if_true]; rfl, rfl⟩

theorem hatTrigger_joins (hen : s.bit Reg.HAT_CTL (4 + j) = true) (harmed : s.bit Reg.HAT_STATUS 0 = false) (hbusy : s.bit Reg.HAT_STATUS 2 = true)
    (cause : Word) (rec : LogRec) : hatTrigger j cause rec s = s.setBit Reg.HAT_STATUS (4 + j) true := by
  simp [hatTrigger, hen, harmed, hbusy]

theorem hatTrigger_missed (hen : s.bit Reg.HAT_CTL (4 + j) = true) (harmed : s.bit Reg.HAT_STATUS 0 = false) (hbusy : s.bit Reg.HAT_STATUS 2 = false)
    (cause : Word) (rec : LogRec) : hatTrigger j cause rec s = s.inc Reg.HAT_MISSED_CNT := by
  simp [hatTrigger, hen, harmed, hbusy]

/-- What a trigger may change, whatever it finds. -/
theorem hatTrigger_change (cause : Word) (rec : LogRec) : LogChange trigRegs s (hatTrigger j cause rec s) := by
  cases hen : s.bit Reg.HAT_CTL (4 + j) with
  | false => simpa [hatTrigger, hen] using LogChange.refl trigRegs s
  | true =>
    cases harmed : s.bit Reg.HAT_STATUS 0 with
    | true =>
      obtain ⟨x, e, -⟩ := hatTrigger_armed hen harmed cause rec
      rw [e]; exact (triggered_change j cause rec s).withHat x
    | false =>
      cases hbusy : s.bit Reg.HAT_STATUS 2 with
      | true => rw [hatTrigger_joins hen harmed hbusy]; exact (LogChange.refl _ s).setBit (by decide) _ _
      | false => rw [hatTrigger_missed hen harmed hbusy]; exact (LogChange.refl _ s).inc (by decide)

/-- A trigger leaves the error log as it is. -/
theorem hatTrigger_errlog (cause : Word) (rec : LogRec) : (hatTrigger j cause rec s).errlog = s.errlog := by
  cases hen : s.bit Reg.HAT_CTL (4 + j) with
  | false => simp [hatTrigger, hen]
  | true =>
    cases harmed : s.bit Reg.HAT_STATUS 0 with
    | true =>
      obtain ⟨x, e, -⟩ := hatTrigger_armed hen harmed cause rec
      have hkeep : (triggered j cause rec s).errlog = s.errlog := by unfold triggered pinDriven; split <;> split <;> rfl
      rw [e]; exact hkeep
    | false =>
      cases hbusy : s.bit Reg.HAT_STATUS 2 with
      | true => rw [hatTrigger_joins hen harmed hbusy]; rfl
      | false => rw [hatTrigger_missed hen harmed hbusy]; rfl

theorem hatTrigger_begins (hj : j < 5) (hen : s.bit Reg.HAT_CTL (4 + j) = true) (harmed : s.bit Reg.HAT_STATUS 0 = true) (cause : Word) (rec : LogRec) :
    HatBegins j s (hatTrigger j cause rec s) := by
  obtain ⟨x, e, hx⟩ := hatTrigger_armed hen harmed cause rec
  have hreg : ∀ a, a ≠ Reg.HAT_PIN → (∀ k, k < 4 → a ≠ Reg.HAT_TRIG_REC k) → (hatTrigger j cause rec s).reg a = (latchBegun j cause s).reg a :=
    fun a hpin hrec => by rw [e]; exact triggered_reg hpin hrec ..
  have hstatus : (hatTrigger j cause rec s).reg Reg.HAT_STATUS = trigStatus j (s.reg Reg.HAT_STATUS) := by
    rw [hreg _ (by decide) (by decide), latchBegun, reg_setReg_ne (by decide), reg_setReg_ne (by decide), reg_setReg_ne (by decide), reg_setReg_self]
  refine ⟨?_, ?_, ⟨?_, ?_⟩, ?_⟩
  · simp only [State.bit, hstatus]; exact trigStatus_bits hj _
  · rw [State.fld, hstatus]; exact trigStatus_first hj _
  · rw [hreg _ (by decide) (by decide), latchBegun, reg_setReg_ne (by decide), reg_setReg_ne (by decide), reg_setReg_self]
  · rw [hreg _ (by decide) (by decide), latchBegun, reg_setReg_ne (by decide), reg_setReg_self]
  · rw [e]; exact hx

/-- The record that begins a latch stands in `HAT_TRIG_REC`. -/
theorem hatTrigger_rec (hen : s.bit Reg.HAT_CTL 8 = true) (harmed : s.bit Reg.HAT_STATUS 0 = true) (cause : Word) (rec : LogRec) :
    (hatTrigger 4 cause rec s).reg (Reg.HAT_TRIG_REC 0) = rec.w0 ∧ (hatTrigger 4 cause rec s).reg (Reg.HAT_TRIG_REC 1) = rec.w1 ∧
    (hatTrigger 4 cause rec s).reg (Reg.HAT_TRIG_REC 2) = rec.w2 ∧ (hatTrigger 4 cause rec s).reg (Reg.HAT_TRIG_REC 3) = rec.w3 := by
  obtain ⟨x, e, -⟩ := hatTrigger_armed (j := 4) hen harmed cause rec
  have hreg : ∀ a, a ≠ Reg.HAT_PIN → (hatTrigger 4 cause rec s).reg a = (recCaught rec (latchBegun 4 cause s)).reg a :=
    fun a hpin => by rw [e]; exact pinDriven_reg hpin ..
  rw [hreg _ (by decide), hreg _ (by decide), hreg _ (by decide), hreg _ (by decide), recCaught]
  refine ⟨?_, ?_, ?_, reg_setReg_self ..⟩
  · rw [reg_setReg_ne (by decide), reg_setReg_ne (by decide), reg_setReg_ne (by decide), reg_setReg_self]
  · rw [reg_setReg_ne (by decide), reg_setReg_ne (by decide), reg_setReg_self]
  · rw [reg_setReg_ne (by decide), reg_setReg_self]

end

/-- A latch that begins in a command begins over it as a whole: what comes before leaves the time and the delay, what follows leaves Hatcheck. -/
theorem HatBegins.within {j k : Nat} {s u x t : State} (h : HatBegins j u x) (hu : LogOnly s u) (hdelay : u.reg Reg.HAT_DELAY = s.reg Reg.HAT_DELAY)
    (hhat : t.hat = x.hat) (hregs : RegsBut [Reg.EIU_SRC_CNT k] x t) (hk : k < 256) : HatBegins j s t := by
  have hreg : ∀ a, 0x279000 ≤ a → t.reg a = x.reg a :=
    fun a ha => hregs a (by simp only [Reg.EIU_SRC_CNT, List.mem_singleton]; omega)
  obtain ⟨hstatus, hfirst, ⟨hlo, hhi⟩, hdue⟩ := h
  refine ⟨?_, ?_, ⟨?_, ?_⟩, ?_⟩
  · simpa only [State.bit, hreg Reg.HAT_STATUS (by decide)] using hstatus
  · simpa only [State.fld, hreg Reg.HAT_STATUS (by decide)] using hfirst
  · rw [hreg _ (by decide), hlo, hu.nowLo]
  · rw [hreg _ (by decide), hhi, hu.nowHi]
  · rw [hhat, hdue, State.fld, hdelay, State.fld]

/-! ### The pin's trigger (R672, R678) -/

theorem exec_hatcheckPinTrigger {s : State} (hc : Calm s) (hdrive : s.hat.drive = none) (hquiet : s.hat.quiet = false) (hen : s.bit Reg.HAT_CTL 6 = true)
    (harmed : s.bit Reg.HAT_STATUS 0 = true) : ∃ t, exec .hatcheckPinTrigger s = .next t ∧ HatBegins 2 s t := by
  have e : hatPin s = lv1 145 (hatTrigger 2 0 noRec) s := by simp [hatPin, hdrive, hquiet]
  obtain ⟨t, ht, hlevels, -, -⟩ := okSettled_lv1 (k := 145) hc (hatTrigger_change (j := 2) 0 noRec)
  exact ⟨t, (congrArg okSettled e).trans ht, (hatTrigger_begins (by decide) hen harmed 0 noRec).within rfl rfl hlevels.events.hat hlevels.regs (by decide)⟩

/-- The device's own pulse triggers nothing. -/
theorem exec_hatcheckPinTrigger_own {s : State} (hc : Calm s) (h : s.hat.drive.isSome = true ∨ s.hat.quiet = true) :
    ∃ t, exec .hatcheckPinTrigger s = .next t ∧ t.hat = s.hat ∧ Idles s t := by
  have e : hatPin s = s := by simpa [hatPin] using fun hd hq => absurd h (by simp [hd, hq])
  exact ⟨latched s, (congrArg okSettled e).trans (okSettled_calm hc), rfl, fun _ _ => rfl, rfl, (SameMemory.refl s).latched⟩

end Sys2Proof.Machine
end

section
/-!
SUPPORT. The error log: a record is placed or lost (R667, R668), and may trigger Hatcheck (R672); the oldest is shown and removed (R669).
-/
set_option linter.constructorNameAsVariable false

namespace Sys2Proof.Machine

/-! ### The collector -/

/-- The words of a record with its SEQ (R670). -/
def logRec (seq : Nat) (r : ErrRec) : LogRec := ⟨nw (r.kind * 2 ^ 32 + r.unit * 2 ^ 21 + seq * 2 ^ 5), r.tick, r.addr, r.info⟩

/-- The collector has taken the oldest record offered. -/
def taken (rest : List ErrRec) (s : State) : State := { s with errlog := { s.errlog with await := rest } }

/-- A record is placed, and takes the next SEQ. -/
def placed (x : LogRec) (s : State) : State :=
  showLog { s.inc Reg.SYS_ERRLOG_TOTAL_CNT with errlog := { s.errlog with recs := s.errlog.recs ++ [x], seq := (s.errlog.seq + 1) % 2 ^ 16 } }

/-- The log is full: the record is lost. -/
def overflowed (s : State) : State := (s.setBit Reg.SYS_ERRLOG_STAT 5 true).inc Reg.SYS_ERRLOG_LOST_CNT

/-- A record of an enabled kind triggers Hatcheck, whether it was lost or not. -/
def logTrigger (isLost : Bool) (seq : Nat) (r : ErrRec) (s : State) : State :=
  if s.bit (Reg.HAT_KIND_EN (r.kind / 40)) (r.kind % 40) then
    hatTrigger 4 (nw (b2n isLost * 2 ^ 24 + r.kind * 2 ^ 16 + seq)) (logRec seq r) s
  else s

/-- The log after a record that found room, with what the event unit makes of it. -/
def entered (r : ErrRec) (rest : List ErrRec) (s : State) : State := lv1 144 (placed (logRec s.errlog.seq r)) (taken rest s)

theorem logTrigger_change (isLost : Bool) (seq : Nat) (r : ErrRec) (s : State) : LogChange trigRegs s (logTrigger isLost seq r s) :=
  (hatTrigger_change ..).ite (.refl ..) _

theorem logTrigger_errlog (isLost : Bool) (seq : Nat) (r : ErrRec) (s : State) : (logTrigger isLost seq r s).errlog = s.errlog := by
  unfold logTrigger; split
  · exact hatTrigger_errlog ..
  · rfl

theorem placed_change (x : LogRec) (rest : List ErrRec) (s : State) :
    LogChange [Reg.SYS_ERRLOG_STAT, Reg.SYS_ERRLOG_TOTAL_CNT] s (placed x (taken rest s)) :=
  ((((LogChange.refl _ s).withLog _).inc (by decide)).withLog _).setFld (by decide) _ _ _

theorem overflowed_change (rest : List ErrRec) (s : State) :
    LogChange [Reg.SYS_ERRLOG_STAT, Reg.SYS_ERRLOG_LOST_CNT] s (overflowed (taken rest s)) :=
  (((LogChange.refl _ s).withLog _).setBit (by decide) _ _).inc (by decide)

section
variable {r : ErrRec} {rest : List ErrRec} {s : State} (hc : Calm s)
include hc

theorem entered_levels : Levels 144 (placed (logRec s.errlog.seq r) (taken rest s)) (entered r rest s) ∧ Drained (entered r rest s) :=
  lv1_levels 144 (placed _) ((placed_change _ rest s).drained hc.sources)

theorem entered_only : LogOnly s (entered r rest s) := (placed_change _ rest s).only.trans (entered_levels hc).1.events.logOnly

theorem entered_regs : RegsBut [Reg.SYS_ERRLOG_STAT, Reg.SYS_ERRLOG_TOTAL_CNT, Reg.EIU_SRC_CNT 144] s (entered r rest s) :=
  (entered_levels hc).1.regsBut (by simp) ((placed_change _ rest s).mono (by simp)).regs

/-- Hatcheck's own registers stand as they stood. -/
theorem entered_hatReg {a : Nat} (h : 0x279000 ≤ a) : (entered r rest s).reg a = s.reg a := by
  refine entered_regs hc a ?_
  simp only [Reg.SYS_ERRLOG_STAT, Reg.SYS_ERRLOG_TOTAL_CNT, Reg.EIU_SRC_CNT, List.mem_cons, List.not_mem_nil, or_false]
  omega

theorem entered_wakes : (entered r rest s).bit (Reg.HAT_KIND_EN (r.kind / 40)) (r.kind % 40) = s.bit (Reg.HAT_KIND_EN (r.kind / 40)) (r.kind % 40) := by
  rw [State.bit, entered_hatReg hc (by simp only [Reg.HAT_KIND_EN]; omega), State.bit]

end

section
variable {r : ErrRec} {rest : List ErrRec} {s : State} (hc : Calm s) (ha : s.errlog.await = r :: rest)
include hc ha

section
variable (hroom : s.errlog.recs.length < 16)
include hroom

/-- A record that finds room: the log takes it, and then it may trigger. -/
theorem exec_errlogRecord_enters : ∃ t, exec .errlogRecord s = .next t ∧ EventsOnly (logTrigger false s.errlog.seq r (entered r rest s)) t ∧
    (∀ a, t.reg a = (logTrigger false s.errlog.seq r (entered r rest s)).reg a) ∧ t.cores = s.cores ∧ SameMemory s t := by
  have e : collect s = logTrigger false s.errlog.seq r (entered r rest s) := by
    have hfull : decide (16 ≤ s.errlog.recs.length) = false := by simpa using hroom
    rw [collect, ha]
    simp only [hfull]
    rfl
  have hchange := logTrigger_change false s.errlog.seq r (entered r rest s)
  obtain ⟨t, ht, hrest⟩ := okSettled_logOnly hc ((entered_only hc).trans hchange.only) (hchange.drained (entered_levels hc).2)
  exact ⟨t, (congrArg okSettled e).trans ht, hrest⟩

theorem exec_errlogRecord_places : ∃ t, exec .errlogRecord s = .next t ∧ t.errlog.await = rest ∧ t.errlog.recs = s.errlog.recs ++ [logRec s.errlog.seq r] ∧
    t.errlog.seq = (s.errlog.seq + 1) % 2 ^ 16 ∧ t.fld Reg.SYS_ERRLOG_STAT 4 0 = s.errlog.recs.length + 1 ∧
    t.reg Reg.SYS_ERRLOG_TOTAL_CNT = s.reg Reg.SYS_ERRLOG_TOTAL_CNT + 1 ∧ SameMemory s t ∧ t.cores = s.cores := by
  obtain ⟨t, ht, hevents, hregs, hcores, hm⟩ := exec_errlogRecord_enters hc ha hroom
  have hlevels := (entered_levels (r := r) (rest := rest) hc).1
  have hlog : t.errlog = (placed (logRec s.errlog.seq r) (taken rest s)).errlog :=
    (hevents.errlog.trans (logTrigger_errlog ..)).trans hlevels.events.errlog
  have hreg : ∀ a, a ∉ trigRegs → a ≠ Reg.EIU_SRC_CNT 144 → t.reg a = (placed (logRec s.errlog.seq r) (taken rest s)).reg a :=
    fun a htrig hcnt => ((hregs a).trans ((logTrigger_change ..).regs a htrig)).trans (hlevels.reg hcnt)
  refine ⟨t, ht, by rw [hlog]; rfl, by rw [hlog]; rfl, by rw [hlog]; rfl, ?_, ?_, hm, hcores⟩
  · rw [State.fld, hreg _ (by decide) (by decide), placed, showLog, reg_setFld_self, fget_fset_self _ _ _ _ (by decide) (by decide)]
    simp only [taken, List.length_append, List.length_singleton]
    omega
  · rw [hreg _ (by decide) (by decide), placed, showLog, reg_setFld_ne (by decide)]
    exact reg_inc_self ..

/-- A record whose kind is not enabled changes the log's own registers only. -/
theorem exec_errlogRecord_quiet (hwakes : ¬ s.bit (Reg.HAT_KIND_EN (r.kind / 40)) (r.kind % 40) = true) : ∃ t, exec .errlogRecord s = .next t ∧
    RegsBut [Reg.SYS_ERRLOG_STAT, Reg.SYS_ERRLOG_TOTAL_CNT, Reg.EIU_SRC_CNT 144] s t := by
  have e : logTrigger false s.errlog.seq r (entered r rest s) = entered r rest s := by rw [logTrigger, entered_wakes hc, if_neg hwakes]
  obtain ⟨t, ht, -, hreg, -⟩ := exec_errlogRecord_enters hc ha hroom
  exact ⟨t, ht, fun a hn => by rw [hreg, e]; exact entered_regs hc a hn⟩

theorem exec_errlogRecord_wakes (hwakes : s.bit (Reg.HAT_KIND_EN (r.kind / 40)) (r.kind % 40) = true) (hen : s.bit Reg.HAT_CTL 8 = true)
    (harmed : s.bit Reg.HAT_STATUS 0 = true) : ∃ t, exec .errlogRecord s = .next t ∧ HatBegins 4 s t ∧
    t.reg (Reg.HAT_TRIG_REC 0) = (logRec s.errlog.seq r).w0 ∧ t.reg (Reg.HAT_TRIG_REC 1) = (logRec s.errlog.seq r).w1 ∧
    t.reg (Reg.HAT_TRIG_REC 2) = (logRec s.errlog.seq r).w2 ∧ t.reg (Reg.HAT_TRIG_REC 3) = (logRec s.errlog.seq r).w3 := by
  obtain ⟨cause, e⟩ : ∃ cause, logTrigger false s.errlog.seq r (entered r rest s) = hatTrigger 4 cause (logRec s.errlog.seq r) (entered r rest s) :=
    ⟨_, by rw [logTrigger, entered_wakes hc, if_pos hwakes]⟩
  have hen' : (entered r rest s).bit Reg.HAT_CTL 8 = true := by rw [State.bit, entered_hatReg hc (by decide)]; exact hen
  have harmed' : (entered r rest s).bit Reg.HAT_STATUS 0 = true := by rw [State.bit, entered_hatReg hc (by decide)]; exact harmed
  obtain ⟨t, ht, hevents, hreg, -⟩ := exec_errlogRecord_enters hc ha hroom
  rw [e] at hevents hreg
  refine ⟨t, ht, ?_, ?_⟩
  · exact (hatTrigger_begins (j := 4) (by decide) hen' harmed' ..).within (k := 144) (entered_only hc) (entered_hatReg hc (by decide))
      hevents.hat (fun a _ => hreg a) (by decide)
  · simp only [hreg]
    exact hatTrigger_rec hen' harmed' ..

end

theorem exec_errlogRecord_lost (hfull : 16 ≤ s.errlog.recs.length) : ∃ t, exec .errlogRecord s = .next t ∧ t.errlog.await = rest ∧
    t.errlog.recs = s.errlog.recs ∧ t.errlog.seq = s.errlog.seq ∧ t.bit Reg.SYS_ERRLOG_STAT 5 = true ∧
    t.reg Reg.SYS_ERRLOG_LOST_CNT = s.reg Reg.SYS_ERRLOG_LOST_CNT + 1 := by
  have e : collect s = logTrigger true 0 r (overflowed (taken rest s)) := by
    have hlost : decide (16 ≤ s.errlog.recs.length) = true := by simpa using hfull
    rw [collect, ha]
    simp only [hlost]
    rfl
  have hover := overflowed_change rest s
  have htrig := logTrigger_change true 0 r (overflowed (taken rest s))
  obtain ⟨t, ht, hevents, hregs, -⟩ := okSettled_logOnly hc (hover.only.trans htrig.only) (htrig.drained (hover.drained hc.sources))
  have hlog : t.errlog = (taken rest s).errlog := hevents.errlog.trans (logTrigger_errlog ..)
  have hreg : ∀ a, a ∉ trigRegs → t.reg a = (overflowed (taken rest s)).reg a := fun a hn => (hregs a).trans (htrig.regs a hn)
  refine ⟨t, (congrArg okSettled e).trans ht, by rw [hlog]; rfl, by rw [hlog]; rfl, by rw [hlog]; rfl, ?_, ?_⟩
  · rw [State.bit, hreg _ (by decide), overflowed, reg_inc_ne (by decide), reg_setBit_self, bset_bit _ _ _ _ (by decide), if_pos rfl]
  · rw [hreg _ (by decide), overflowed, reg_inc_self, reg_setBit_ne (by decide)]
    rfl

end

/-! ### Showing and removing the oldest record (R669) -/

theorem regAccess_errlogPop (ep pl : Nat) {v : Word} (hv : bget v 0 = true) (s : State) :
    regAccess ep pl Reg.SYS_ERRLOG_POP (some v) s = .done .ok 0 (errlogPop s) := by
  have hpage : regPage Reg.SYS_ERRLOG_POP = 0 := by decide
  have hpl : plRefused pl Reg.SYS_ERRLOG_POP = false := by
    simp [plRefused, Reg.SYS_ERRLOG_POP, Reg.BSQ_CORE_CTL, Reg.BSQ_CORE_ENTRY, Reg.PWR_DOM]
  have hreg : (regAt Reg.SYS_ERRLOG_POP).isNone = false := by decide
  simp [regAccess, pageWrite, sysWrite, hpage, hpl, hreg, hv, fine]

theorem exec_errlogPop {i : Initiator} {v : Word} {s : State} (h : Reaches Reg.SYS_ERRLOG_POP s) :
    ∃ t, exec (.errlogPop i v) s = .next t ∧ Took i [Reg.SYS_ERRLOG_STAT] s t ∧ t.errlog.recs = s.errlog.recs.drop 1 ∧
      t.fld Reg.SYS_ERRLOG_STAT 4 0 = (s.errlog.recs.length - 1) % 32 := by
  have hpop : LogChange [Reg.SYS_ERRLOG_STAT] s (errlogPop s) := ((LogChange.refl _ s).withLog _).setFld (by decide) _ _ _
  have hv : bget (bset v 0 true) 0 = true := by rw [bset_bit _ _ _ _ (by decide), if_pos rfl]
  obtain ⟨t, ht, htook, hlog, -, hreg⟩ := okSettled_logCmd h (regionAt_regs (by decide) (by decide) (by decide)) (regAccess_errlogPop i.ep (initPl i) hv s)
    hpop.only (hpop.drained h.calm.sources) hpop.regs
  refine ⟨t, ht, htook, by rw [hlog]; rfl, ?_⟩
  rw [State.fld, hreg, errlogPop, showLog, reg_setFld_self, fget_fset_self _ _ _ _ (by decide) (by decide), List.length_drop]
  rfl

theorem regAccess_errlogTop (ep pl : Nat) (s : State) :
    regAccess ep pl (Reg.SYS_ERRLOG_TOP 0) none s = .done .ok (errlogTop ep s).1 (errlogTop ep s).2 := by
  have hpage : regPage (Reg.SYS_ERRLOG_TOP 0) = 0 := by decide
  have hreg : (regAt (Reg.SYS_ERRLOG_TOP 0)).isNone = false := by decide
  have hcfg : ¬ Reg.EIU_SRC_CFG 0 ≤ Reg.SYS_ERRLOG_TOP 0 := by decide
  simp [regAccess, pageRead, hpage, hreg, hcfg]

/-- The log with what endpoint ep has latched of the record it read last. -/
def withShadow (x : SMap LogRec) (s : State) : State := { s with errlog := { s.errlog with shadow := x } }

theorem errlogTop_some {s : State} (hc : Calm s) {r : LogRec} {rest : List LogRec} (h : s.errlog.recs = r :: rest) (ep : Nat) :
    errlogTop ep s = (r.w0, withShadow (SMap.insert ep r s.errlog.shadow) s) := by
  simp [errlogTop, errlogParity, struck, hc.flaws, h, withShadow]

theorem errlogTop_none {s : State} (hc : Calm s) (h : s.errlog.recs = []) (ep : Nat) :
    errlogTop ep s = (0, withShadow (SMap.erase ep s.errlog.shadow) s) := by
  simp [errlogTop, errlogParity, struck, hc.flaws, h, withShadow]

/-- A read of `TOP_0` that answers w and leaves the shadow x. -/
theorem exec_errlogTopRead {i : Initiator} {s : State} {w : Word} {x : SMap LogRec} (hc : Calm s) (h : errlogTop i.ep s = (w, withShadow x s)) :
    ∃ t, exec (.errlogTopRead i) s = .next t ∧ t.resp = ⟨i.ep, .ok, [⟨w, .good⟩]⟩ ∧ t.errlog = { s.errlog with shadow := x } ∧ Idles s t := by
  have hshadow : LogChange [] s (withShadow x s) := (LogChange.refl _ s).withLog _
  have ha : regAccess i.ep (initPl i) (Reg.SYS_ERRLOG_TOP 0) none s = .done .ok w (withShadow x s) := by rw [regAccess_errlogTop, h]
  exact ⟨_, okSettled_regReadCmd ha (hc.logOnly hshadow.only (hshadow.drained hc.sources)), rfl, rfl, fun _ _ => rfl, rfl, rfl, rfl, rfl, rfl, rfl, rfl⟩

/-- The other words of the record show what the reader has latched. -/
theorem regView_errlogTop (s : State) (ep : Nat) {k : Nat} (h1 : 1 ≤ k) (h3 : k ≤ 3) : regView s ep (Reg.SYS_ERRLOG_TOP k) = errlogShadow s ep k := by
  have hpage : (Reg.SYS_ERRLOG_TOP k - 0x200000) / 0x1000 = 0 := by simp only [Reg.SYS_ERRLOG_TOP]; omega
  have hlow : ¬ 0x400000 ≤ Reg.SYS_ERRLOG_TOP k := by simp only [Reg.SYS_ERRLOG_TOP]; omega
  have h0 : Reg.SYS_ERRLOG_TOP k ≠ Reg.SYS_ERRLOG_TOP 0 := by simp only [Reg.SYS_ERRLOG_TOP]; omega
  have hin : Reg.SYS_ERRLOG_TOP 1 ≤ Reg.SYS_ERRLOG_TOP k ∧ Reg.SYS_ERRLOG_TOP k ≤ Reg.SYS_ERRLOG_TOP 3 := by simp only [Reg.SYS_ERRLOG_TOP]; omega
  have hk : Reg.SYS_ERRLOG_TOP k - Reg.SYS_ERRLOG_TOP 0 = k := by simp only [Reg.SYS_ERRLOG_TOP]; omega
  simp [regView, logView, hpage, hlow, h0, hin, hk]

theorem exec_errlogTopRead_some {i : Initiator} {s : State} (hc : Calm s) {r : LogRec} {rest : List LogRec} (h : s.errlog.recs = r :: rest) :
    ∃ t, exec (.errlogTopRead i) s = .next t ∧ t.resp = ⟨i.ep, .ok, [⟨r.w0, .good⟩]⟩ ∧ regView t i.ep (Reg.SYS_ERRLOG_TOP 1) = r.w1 ∧
      regView t i.ep (Reg.SYS_ERRLOG_TOP 2) = r.w2 ∧ regView t i.ep (Reg.SYS_ERRLOG_TOP 3) = r.w3 ∧ t.errlog.recs = s.errlog.recs ∧ Idles s t := by
  obtain ⟨t, ht, hresp, hlog, hidles⟩ := exec_errlogTopRead hc (errlogTop_some hc h i.ep)
  have hview : ∀ k, 1 ≤ k → k ≤ 3 → regView t i.ep (Reg.SYS_ERRLOG_TOP k) = if k = 1 then r.w1 else if k = 2 then r.w2 else r.w3 := by
    intro k h1 h3
    rw [regView_errlogTop t _ h1 h3, errlogShadow, hlog]
    simp only [SMap.find_insert_self]
  exact ⟨t, ht, hresp, hview 1 (by decide) (by decide), hview 2 (by decide) (by decide), hview 3 (by decide) (by decide), by rw [hlog], hidles⟩

theorem exec_errlogTopRead_none {i : Initiator} {s : State} (hc : Calm s) (h : s.errlog.recs = []) :
    ∃ t, exec (.errlogTopRead i) s = .next t ∧ t.resp = ⟨i.ep, .ok, [⟨0, .good⟩]⟩ ∧ regView t i.ep (Reg.SYS_ERRLOG_TOP 1) = 0 ∧ Idles s t := by
  obtain ⟨t, ht, hresp, hlog, hidles⟩ := exec_errlogTopRead hc (errlogTop_none hc h i.ep)
  refine ⟨t, ht, hresp, ?_, hidles⟩
  rw [regView_errlogTop t _ (by decide) (by decide), errlogShadow, hlog]
  simp only [SMap.find_erase_self]

end Sys2Proof.Machine
end

section
/-!
SUPPORT. Writes of `HAT_CTL` (R672, R674, R686): a trigger by software, and ARM.
-/
set_option linter.constructorNameAsVariable false

namespace Sys2Proof.Machine

/-! ### The register's own fields -/

/-- The state after the plain effect of a write of `HAT_CTL`: ARM does not stand. -/
def hatCtlSet (ep : Nat) (v : Word) (s : State) : State := (writeReg ep Reg.HAT_CTL v s).setBit Reg.HAT_CTL 0 false

theorem hatCtlSet_only (ep : Nat) (v : Word) (s : State) : RegsOnly s (hatCtlSet ep v s) := (writeReg_only ..).trans (regsOnly_setBit ..)

theorem hatCtlSet_change (ep : Nat) (v : Word) (s : State) : LogChange (Reg.HAT_CTL :: rsvdRegs) s (hatCtlSet ep v s) :=
  LogChange.setBit ⟨(writeReg_only ..).logOnly, (writeReg_only ep _ v s).eiu, (writeReg_listedBut ep _ v s).regsBut⟩ (List.mem_cons_self ..) _ _

/-- SRC_EN takes what is written. -/
theorem hatCtlSet_srcEn (ep : Nat) (v : Word) (s : State) : (hatCtlSet ep v s).bit Reg.HAT_CTL 4 = bget v 4 := by
  have hfields : fieldsAt Reg.HAT_CTL = [fd 8 4 "SRC_EN" .rw 31, fd 3 3 "EVT_EN" .rw 0, fd 2 2 "DRIVE" .rw 1, fd 1 1 "TRIG" .wo 0, fd 0 0 "ARM" .w1s 0] := by rfl
  have hok : ∀ (f : Fld) (x : Nat), f.chk = .any → fieldOk Reg.HAT_CTL f x = true := by
    intro f x hf
    simp [fieldOk, hf, Chk.ok, Reg.HAT_CTL, Reg.SYS_PINMUX, Reg.SYS_PINMUX_4]
  have hwritten : bget ((writeReg ep Reg.HAT_CTL v s).reg Reg.HAT_CTL) 4 = bget v 4 := by
    simp [writeReg, writeRegIf, hfields, writeFlds, writeFld, hok, fd]
    simp (disch := decide) only [bget, fset_bit]
    exact (fget_testBit v 8 4 0).trans (by simp)
  rw [State.bit, hatCtlSet, reg_setBit_self, bset_bit _ _ _ _ (by decide), if_neg (by decide), hwritten]

/-! ### A write that reaches Hatcheck -/

theorem regAccess_hatCtl (ep pl : Nat) (v : Word) (s : State) :
    regAccess ep pl Reg.HAT_CTL (some v) s = .done .ok 0 (lv1 145 (hatCtlWrite ep v) s) := by
  have hpage : regPage Reg.HAT_CTL = 0x79 := by decide
  have hpl : plRefused pl Reg.HAT_CTL = false := by simp [plRefused, Reg.HAT_CTL, Reg.BSQ_CORE_CTL, Reg.BSQ_CORE_ENTRY, Reg.PWR_DOM]
  have hreg : (regAt Reg.HAT_CTL).isNone = false := by decide
  have hrt : Reg.HAT_CTL ≠ Reg.FAB_RT_DATA := by decide
  simp [regAccess, pageWrite, hatWrite, hpage, hpl, hreg, hrt, fine]

/-- A write of `HAT_CTL`: its own effect, and what the event unit makes of it, answered OK. -/
theorem okSettled_hatCtl {i : Initiator} {v : Word} {l : List Nat} {s : State} (h : Reaches Reg.HAT_CTL s) (hu : LogChange l s (hatCtlWrite i.ep v s))
    (hl : Reg.EIU_SRC_CNT 145 ∈ l) : ∃ t, okSettled (regCmd i Reg.HAT_CTL v s) = .next t ∧ Took i l s t ∧ t.hat = (hatCtlWrite i.ep v s).hat ∧
      RegsBut [Reg.EIU_SRC_CNT 145] (hatCtlWrite i.ep v s) t := by
  obtain ⟨hlevels, hdrained⟩ := lv1_levels 145 (hatCtlWrite i.ep v) (hu.drained h.calm.sources)
  have honly := hu.only.trans hlevels.events.logOnly
  have hregion : regionAt s Reg.HAT_CTL = some .regs := regionAt_regs (by decide) (by decide) (by decide)
  obtain ⟨t, ht, htook, -, hhat, hreg⟩ := okSettled_logCmd h hregion (regAccess_hatCtl ..) honly hdrained (hlevels.regsBut hl hu.regs)
  exact ⟨t, ht, htook, hhat.trans hlevels.events.hat, fun a ha => (hreg a).trans (hlevels.regs a ha)⟩

/-! ### The trigger by software (R672) -/

/-- A write with TRIG, and without ARM, is a trigger after the plain effect. -/
theorem hatCtlWrite_trig (ep : Nat) {v : Word} (s : State) (h0 : bget v 0 = false) :
    hatCtlWrite ep (bset v 1 true) s = hatTrigger 0 0 noRec (hatCtlSet ep (bset v 1 true) s) := by
  have hv0 : bget (bset v 1 true) 0 = false := by rw [bset_bit _ _ _ _ (by decide), if_neg (by decide), h0]
  have hv1 : bget (bset v 1 true) 1 = true := by rw [bset_bit _ _ _ _ (by decide), if_pos rfl]
  simp only [hatCtlWrite, hv0, hv1, Bool.not_false, if_true]; rfl

section
variable {i : Initiator} {v : Word} {s : State} (h : Reaches Reg.HAT_CTL s) (h4 : bget v 4 = true) (h0 : bget v 0 = false)

include h4 in
/-- The write itself enables the trigger. -/
theorem hatCtlSet_enables (ep : Nat) : (hatCtlSet ep (bset v 1 true) s).bit Reg.HAT_CTL (4 + 0) = true := by
  rw [Nat.add_zero, hatCtlSet_srcEn, bset_bit _ _ _ _ (by decide), if_neg (by decide), h4]

theorem hatCtlSet_status (ep : Nat) (w : Word) (k : Nat) : (hatCtlSet ep w s).bit Reg.HAT_STATUS k = s.bit Reg.HAT_STATUS k :=
  (hatCtlSet_change ..).bit (by decide) k

include h h4 h0

theorem exec_hatTrigWrite_begins (harmed : s.bit Reg.HAT_STATUS 0 = true) : ∃ t, exec (.hatTrigWrite i v) s = .next t ∧ HatBegins 0 s t := by
  have hset := hatCtlSet_change i.ep (bset v 1 true) s
  have hchange : LogChange (Reg.EIU_SRC_CNT 145 :: Reg.HAT_CTL :: rsvdRegs ++ trigRegs) s (hatCtlWrite i.ep (bset v 1 true) s) := by
    rw [hatCtlWrite_trig _ _ h0]
    exact (hset.mono (by decide)).trans ((hatTrigger_change ..).mono (by decide))
  obtain ⟨t, ht, -, hhat, hregs⟩ := okSettled_hatCtl h hchange (by simp)
  rw [hatCtlWrite_trig _ _ h0] at hhat hregs
  exact ⟨t, ht, (hatTrigger_begins (by decide) (hatCtlSet_enables h4 _) ((hatCtlSet_status ..).trans harmed) 0 noRec).within hset.only
    (hset.regs _ (by decide)) hhat hregs (by decide)⟩

theorem exec_hatTrigWrite_missed (harmed : s.bit Reg.HAT_STATUS 0 = false) (hbusy : s.bit Reg.HAT_STATUS 2 = false) :
    ∃ t, exec (.hatTrigWrite i v) s = .next t ∧ t.reg Reg.HAT_MISSED_CNT = s.reg Reg.HAT_MISSED_CNT + 1 ∧
      Took i (Reg.HAT_CTL :: Reg.HAT_MISSED_CNT :: Reg.EIU_SRC_CNT 145 :: rsvdRegs) s t ∧ t.hat = s.hat := by
  have hset := hatCtlSet_change i.ep (bset v 1 true) s
  have e : hatCtlWrite i.ep (bset v 1 true) s = (hatCtlSet i.ep (bset v 1 true) s).inc Reg.HAT_MISSED_CNT := by
    rw [hatCtlWrite_trig _ _ h0, hatTrigger_missed (hatCtlSet_enables h4 _) ((hatCtlSet_status ..).trans harmed) ((hatCtlSet_status ..).trans hbusy)]
  have hchange : LogChange (Reg.HAT_CTL :: Reg.HAT_MISSED_CNT :: Reg.EIU_SRC_CNT 145 :: rsvdRegs) s (hatCtlWrite i.ep (bset v 1 true) s) := by
    rw [e]; exact (hset.mono (by decide)).inc (by simp)
  obtain ⟨t, ht, htook, hhat, hregs⟩ := okSettled_hatCtl h hchange (by simp)
  refine ⟨t, ht, ?_, htook, ?_⟩
  · rw [hregs _ (by decide), e, reg_inc_self, hset.regs _ (by decide)]
  · rw [hhat, e, inc_hat, (hatCtlSet_only ..).hat]

theorem exec_hatTrigWrite_joins (harmed : s.bit Reg.HAT_STATUS 0 = false) (hbusy : s.bit Reg.HAT_STATUS 2 = true) :
    ∃ t, exec (.hatTrigWrite i v) s = .next t ∧ t.bit Reg.HAT_STATUS 4 = true ∧
      Took i (Reg.HAT_CTL :: Reg.HAT_STATUS :: Reg.EIU_SRC_CNT 145 :: rsvdRegs) s t ∧ t.hat = s.hat := by
  have hset := hatCtlSet_change i.ep (bset v 1 true) s
  have e : hatCtlWrite i.ep (bset v 1 true) s = (hatCtlSet i.ep (bset v 1 true) s).setBit Reg.HAT_STATUS 4 true := by
    rw [hatCtlWrite_trig _ _ h0, hatTrigger_joins (hatCtlSet_enables h4 _) ((hatCtlSet_status ..).trans harmed) ((hatCtlSet_status ..).trans hbusy)]
  have hchange : LogChange (Reg.HAT_CTL :: Reg.HAT_STATUS :: Reg.EIU_SRC_CNT 145 :: rsvdRegs) s (hatCtlWrite i.ep (bset v 1 true) s) := by
    rw [e]; exact (hset.mono (by decide)).setBit (by simp) _ _
  obtain ⟨t, ht, htook, hhat, hregs⟩ := okSettled_hatCtl h hchange (by simp)
  refine ⟨t, ht, ?_, htook, ?_⟩
  · rw [State.bit, hregs _ (by decide), e, reg_setBit_self, bset_bit _ _ _ _ (by decide), if_pos rfl]
  · rw [hhat, e, setBit_hat, (hatCtlSet_only ..).hat]

end

/-! ### ARM (R674, R686) -/

/-- The status of an armed Hatcheck. -/
def armStatus (w : Word) : Word := bset (bset (fset w 8 4 0) 1 false) 0 true

theorem armStatus_bits (w : Word) : bget (armStatus w) 0 = true ∧ bget (armStatus w) 1 = false ∧ fget (armStatus w) 8 4 = 0 := by
  rw [armStatus]
  refine ⟨?_, ?_, ?_⟩
  · rw [bset_bit _ _ _ _ (by decide), if_pos rfl]
  · rw [bset_bit _ _ _ _ (by decide), if_neg (by decide), bset_bit _ _ _ _ (by decide), if_pos rfl]
  · rw [fget_bset_ne _ _ _ _ _ (by decide) (by decide) (by decide), fget_bset_ne _ _ _ _ _ (by decide) (by decide) (by decide),
      fget_fset_self _ _ _ _ (by decide) (by decide), Nat.zero_mod]

section
variable {v : Word} {s : State} (h1 : bget v 1 = false)
include h1

theorem hatCtlWrite_arms (ep : Nat) (hbusy : s.bit Reg.HAT_STATUS 2 = false) :
    hatCtlWrite ep (bset v 0 true) s = (hatCtlSet ep (bset v 0 true) s).setReg Reg.HAT_STATUS (armStatus (s.reg Reg.HAT_STATUS)) := by
  have hv0 : bget (bset v 0 true) 0 = true := by rw [bset_bit _ _ _ _ (by decide), if_pos rfl]
  have hv1 : bget (bset v 0 true) 1 = false := by rw [bset_bit _ _ _ _ (by decide), if_neg (by decide), h1]
  have hnot : ((writeReg ep Reg.HAT_CTL (bset v 0 true) s).setBit Reg.HAT_CTL 0 false).bit Reg.HAT_STATUS 2 = false := (hatCtlSet_status ..).trans hbusy
  rw [← (hatCtlSet_change ep (bset v 0 true) s).regs Reg.HAT_STATUS (by decide)]
  simp only [hatCtlWrite, hv0, hv1, hnot, Bool.not_true, Bool.false_eq_true, if_false]; rfl

/-- During a latch ARM waits. -/
theorem hatCtlWrite_armsAfter (ep : Nat) (hbusy : s.bit Reg.HAT_STATUS 2 = true) :
    hatCtlWrite ep (bset v 0 true) s = { hatCtlSet ep (bset v 0 true) s with hat := { s.hat with armAfter := true } } := by
  have hv0 : bget (bset v 0 true) 0 = true := by rw [bset_bit _ _ _ _ (by decide), if_pos rfl]
  have hv1 : bget (bset v 0 true) 1 = false := by rw [bset_bit _ _ _ _ (by decide), if_neg (by decide), h1]
  have hset : ((writeReg ep Reg.HAT_CTL (bset v 0 true) s).setBit Reg.HAT_CTL 0 false).bit Reg.HAT_STATUS 2 = true := (hatCtlSet_status ..).trans hbusy
  rw [← (hatCtlSet_only ep (bset v 0 true) s).hat]
  simp only [hatCtlWrite, hv0, hv1, hset, Bool.not_true, Bool.false_eq_true, if_false, if_true]; rfl

variable {i : Initiator} (h : Reaches Reg.HAT_CTL s)
include h

theorem exec_hatArm (hbusy : s.bit Reg.HAT_STATUS 2 = false) : ∃ t, exec (.hatArm i v) s = .next t ∧ t.bit Reg.HAT_STATUS 0 = true ∧
    t.bit Reg.HAT_STATUS 1 = false ∧ t.fld Reg.HAT_STATUS 8 4 = 0 ∧ Took i (Reg.HAT_CTL :: Reg.HAT_STATUS :: Reg.EIU_SRC_CNT 145 :: rsvdRegs) s t := by
  have e := hatCtlWrite_arms h1 i.ep hbusy
  have hchange : LogChange (Reg.HAT_CTL :: Reg.HAT_STATUS :: Reg.EIU_SRC_CNT 145 :: rsvdRegs) s (hatCtlWrite i.ep (bset v 0 true) s) := by
    rw [e]; exact ((hatCtlSet_change ..).mono (by decide)).setReg (by simp) _
  obtain ⟨t, ht, htook, -, hregs⟩ := okSettled_hatCtl h hchange (by simp)
  have hstatus : t.reg Reg.HAT_STATUS = armStatus (s.reg Reg.HAT_STATUS) := by rw [hregs _ (by decide), e, reg_setReg_self]
  obtain ⟨harmed, hlatched, hsrc⟩ := armStatus_bits (s.reg Reg.HAT_STATUS)
  exact ⟨t, ht, by rw [State.bit, hstatus, harmed], by rw [State.bit, hstatus, hlatched], by rw [State.fld, hstatus, hsrc], htook⟩

theorem exec_hatArm_busy (hbusy : s.bit Reg.HAT_STATUS 2 = true) : ∃ t, exec (.hatArm i v) s = .next t ∧ t.hat.armAfter = true ∧
    t.reg Reg.HAT_STATUS = s.reg Reg.HAT_STATUS := by
  have e := hatCtlWrite_armsAfter h1 i.ep hbusy
  have hchange : LogChange (Reg.EIU_SRC_CNT 145 :: Reg.HAT_CTL :: rsvdRegs) s (hatCtlWrite i.ep (bset v 0 true) s) := by
    rw [e]; exact ((hatCtlSet_change ..).mono (by decide)).withHat _
  obtain ⟨t, ht, htook, hhat, -⟩ := okSettled_hatCtl h hchange (by simp)
  exact ⟨t, ht, by rw [hhat, e], htook.regs _ (by decide)⟩

end

end Sys2Proof.Machine
end

section
/-!
SUPPORT. The latch of Hatcheck (R673-R677, R686): each holder's words stand in its own span of addresses, so all holders latch as one event; and from all
the commands of the error log and Hatcheck O54.
-/
set_option linter.constructorNameAsVariable false

namespace Sys2Proof.Machine

/-! ### The spans of the snapshots (R676, R677) -/

/-- Where holder h's snapshot stands: its first address, and the number of its words. -/
def snapSpan (h : Nat) : Nat × Nat :=
  if h < 8 then (Reg.CS_SNAP h 0, 13)
  else if h < 12 then (Reg.PAIR_SNAP (h - 8) 0, 8)
  else if h < 16 then (Reg.HS_SNAP (h - 12) 0, 16)
  else if h = 16 then (Reg.EIU_SNAP 0, 19)
  else if h = 17 then (Reg.TB_SNAP 0, 7)
  else if h = 18 then (Reg.FAB_SNAP 0, 32)
  else if h = 19 then (Reg.PRB_SNAP 0, 10)
  else if h < 22 then (Reg.CUF_SNAP (h - 20) 0, 32)
  else if h = 22 then (Reg.CNS_SNAP 0, 16)
  else if h = 23 then (Reg.SEG_SNAP 0, 16)
  else if h < 26 then (Reg.DMC_SNAP (h - 24) 0, 32)
  else if h < 34 then (Reg.AUD_SNAP (h - 26) 0, 16)
  else if h = 34 then (Reg.MID_SNAP 0, 10)
  else if h < 38 then (Reg.I2C_SNAP (h - 35) 0, 3)
  else if h = 38 then (Reg.EMC_SNAP 0, 40)
  else if h = 39 then (Reg.GPIO_SNAP 0, 32)
  else if h = 40 then (Reg.HPT_SNAP 0, 8)
  else if h = 41 then (Reg.ETH_SNAP 0, 20)
  else if h = 42 then (Reg.USB_SNAP 0, 19)
  else if h = 43 then (Reg.FGT_SNAP 0, 69)
  else if h = 44 then (Reg.KEP_SNAP 0, 5)
  else if h = 45 then (Reg.BSQ_SNAP 0, 6)
  else (Reg.PWR_SNAP 0, 7)

/-- Address a lies outside a span. -/
def Outside (a : Nat) (p : Nat × Nat) : Prop := a < p.1 ∨ p.1 + p.2 ≤ a

theorem shownRange_length_le (s : State) (a n : Nat) : (shownRange s a n).length ≤ n := by
  rw [shownRange, List.length_map]
  exact (List.length_filter_le ..).trans (List.length_range ▸ le_refl _)

@[simp] theorem snapOfCore_length (s : State) (c : Nat) : (snapOfCore s c).length = 13 := rfl
@[simp] theorem snapOfPair_length (s : State) (n : Nat) : (snapOfPair s n).length = 8 := rfl
@[simp] theorem snapOfSlice_length (s : State) (n : Nat) : (snapOfSlice s n).length = 16 := by simp [snapOfSlice]
@[simp] theorem snapOfEiu_length (s : State) : (snapOfEiu s).length = 19 := by simp [snapOfEiu]
@[simp] theorem snapOfTb_length (s : State) : (snapOfTb s).length = 7 := rfl
@[simp] theorem snapOfFab_length (s : State) : (snapOfFab s).length = 32 := by simp [snapOfFab]
@[simp] theorem snapOfProbes_length (s : State) : (snapOfProbes s).length = 10 := by simp [snapOfProbes]
@[simp] theorem snapOfCuf_length (s : State) (n : Nat) : (snapOfCuf s n).length = 32 := by simp [snapOfCuf]
@[simp] theorem snapOfSeg_length (s : State) : (snapOfSeg s).length = 16 := by simp [snapOfSeg, ringMask]
@[simp] theorem snapOfMid_length (s : State) : (snapOfMid s).length = 10 := by simp [snapOfMid]
@[simp] theorem snapOfEth_length (s : State) : (snapOfEth s).length = 20 := by simp [snapOfEth]
@[simp] theorem snapOfUsb_length (s : State) : (snapOfUsb s).length = 19 := by simp [snapOfUsb]
@[simp] theorem snapOfPwr_length (s : State) : (snapOfPwr s).length = 7 := rfl

theorem snapOfDmc_length_le (s : State) (n : Nat) : (snapOfDmc s n).length ≤ 32 := by
  have := shownRange_length_le s (0x218020 + 0x1000 * n) 16
  simp only [snapOfDmc, List.length_append, List.length_map, List.length_range, List.length_cons, List.length_nil]
  omega

theorem snapOfEmc_length_le (s : State) : (snapOfEmc s).length ≤ 40 := by
  have := shownRange_length_le s 0x264000 24
  simp only [snapOfEmc, List.length_append, List.length_replicate, List.length_cons, List.length_nil]
  omega

theorem snapOfFgt_length_le (s : State) : (snapOfFgt s).length ≤ 69 := by
  have := shownRange_length_le s 0x270010 16
  simp only [snapOfFgt, List.length_append, List.length_map, List.length_range, List.length_cons, List.length_nil]
  omega

/-- A holder's words stand in a span. -/
def FitsSpan (q : Option Nat × Nat × List Word) (p : Nat × Nat) : Prop := q.2.1 = p.1 ∧ q.2.2.length ≤ p.2

theorem FitsSpan.ite {c : Prop} [Decidable c] {q r : Option Nat × Nat × List Word} {p o : Nat × Nat} (h : FitsSpan q p) (g : FitsSpan r o) :
    FitsSpan (if c then q else r) (if c then p else o) := by
  split <;> assumption

theorem holder_fits (s : State) (h : Nat) : FitsSpan (holder s h) (snapSpan h) :=
  .ite ⟨rfl, (snapOfCore_length ..).le⟩ <| .ite ⟨rfl, (snapOfPair_length ..).le⟩ <| .ite ⟨rfl, (snapOfSlice_length ..).le⟩ <|
  .ite ⟨rfl, (snapOfEiu_length _).le⟩ <| .ite ⟨rfl, (snapOfTb_length _).le⟩ <| .ite ⟨rfl, (snapOfFab_length _).le⟩ <|
  .ite ⟨rfl, (snapOfProbes_length _).le⟩ <| .ite ⟨rfl, (snapOfCuf_length ..).le⟩ <| .ite ⟨rfl, shownRange_length_le ..⟩ <|
  .ite ⟨rfl, (snapOfSeg_length _).le⟩ <| .ite ⟨rfl, snapOfDmc_length_le ..⟩ <| .ite ⟨rfl, shownRange_length_le ..⟩ <|
  .ite ⟨rfl, (snapOfMid_length _).le⟩ <| .ite ⟨rfl, le_refl 3⟩ <| .ite ⟨rfl, snapOfEmc_length_le _⟩ <| .ite ⟨rfl, shownRange_length_le ..⟩ <|
  .ite ⟨rfl, shownRange_length_le ..⟩ <| .ite ⟨rfl, (snapOfEth_length _).le⟩ <| .ite ⟨rfl, (snapOfUsb_length _).le⟩ <|
  .ite ⟨rfl, snapOfFgt_length_le _⟩ <| .ite ⟨rfl, le_refl 5⟩ <| .ite ⟨rfl, le_refl 6⟩ ⟨rfl, (snapOfPwr_length _).le⟩

theorem snapSpan_disjoint : ∀ h, h < 47 → ∀ j, j < 47 → h ≠ j →
    (snapSpan h).1 + (snapSpan h).2 ≤ (snapSpan j).1 ∨ (snapSpan j).1 + (snapSpan j).2 ≤ (snapSpan h).1 := by decide

/-- No span meets Hatcheck's own registers, or the count of its source. -/
theorem snapSpan_apart : ∀ h, h < 47 → ((snapSpan h).1 + (snapSpan h).2 ≤ Reg.HAT_ID ∨ Reg.HAT_HIST_CAUSE 7 < (snapSpan h).1) ∧
    Outside (Reg.EIU_SRC_CNT 145) (snapSpan h) := by unfold Outside; decide

/-! ### Words that stand in a row -/

theorem setRegs_only (ws : List Word) : ∀ (a : Nat) (s : State), RegsOnly s (setRegs a ws s) := by
  induction ws with
  | nil => exact fun _ s => .refl s
  | cons w ws ih => exact fun a s => (regsOnly_setReg s a w).trans (ih (a + 1) _)

theorem setRegs_reg_outside (ws : List Word) {b : Nat} : ∀ (a : Nat) (s : State), Outside b (a, ws.length) → (setRegs a ws s).reg b = s.reg b := by
  induction ws with
  | nil => exact fun _ _ _ => rfl
  | cons w ws ih =>
    intro a s h
    simp only [Outside, List.length_cons] at h
    rw [setRegs, ih (a + 1) _ (by simp only [Outside]; omega), reg_setReg_ne (by omega)]

theorem setRegs_reg (ws : List Word) : ∀ (a k : Nat) (w : Word) (s : State), ws[k]? = some w → (setRegs a ws s).reg (a + k) = w := by
  induction ws with
  | nil => intro a k w s h; simp at h
  | cons x ws ih =>
    intro a k w s h
    cases k with
    | zero =>
      obtain rfl : x = w := by simpa using h
      rw [Nat.add_zero, setRegs, setRegs_reg_outside ws _ _ (.inl (Nat.lt_succ_self a)), reg_setReg_self]
    | succ k =>
      rw [show a + (k + 1) = a + 1 + k by omega]
      exact ih (a + 1) k w _ (by simpa using h)

/-! ### One holder (R675, R691) -/

/-- Holder h of s latches: it is open, and not late. -/
def Takes (s : State) (late : BitVec 47) (h : Nat) : Prop := late.getLsbD h = false ∧ ∀ d, (holder s h).1 = some d → domState s d ≠ 2

/-- The valid bit of holder h. -/
def validBit (s : State) (h : Nat) : Bool := if h < 40 then s.bit Reg.HAT_VALID_LO h else s.bit Reg.HAT_VALID_HI (h - 40)

/-- Holder h's words are valid. -/
def markValid (h : Nat) (s : State) : State := if h < 40 then s.setBit Reg.HAT_VALID_LO h true else s.setBit Reg.HAT_VALID_HI (h - 40) true

theorem markValid_only (h : Nat) (s : State) : RegsOnly s (markValid h s) := .ite (regsOnly_setBit ..) (regsOnly_setBit ..)

theorem markValid_reg {a : Nat} (hlo : a ≠ Reg.HAT_VALID_LO) (hhi : a ≠ Reg.HAT_VALID_HI) (h : Nat) (s : State) : (markValid h s).reg a = s.reg a := by
  unfold markValid; split
  · exact reg_setBit_ne hlo ..
  · exact reg_setBit_ne hhi ..

theorem validBit_markValid {h j : Nat} (hh : h < 47) (hj : j < 47) (s : State) : validBit (markValid h s) j = if j = h then true else validBit s j := by
  have hne : Reg.HAT_VALID_LO ≠ Reg.HAT_VALID_HI := by decide
  simp only [validBit, markValid, State.bit]
  by_cases hlo : h < 40 <;> by_cases jlo : j < 40 <;> simp only [hlo, jlo, if_true, if_false]
  · rw [reg_setBit_self, bset_bit _ _ _ _ hlo]
  · rw [reg_setBit_ne hne.symm, if_neg (by omega)]
  · rw [reg_setBit_ne hne, if_neg (by omega)]
  · rw [reg_setBit_self, bset_bit _ _ _ _ (by omega)]
    simp only [show j - 40 = h - 40 ↔ j = h by omega]

theorem validBit_congr {s t : State} (hlo : t.reg Reg.HAT_VALID_LO = s.reg Reg.HAT_VALID_LO) (hhi : t.reg Reg.HAT_VALID_HI = s.reg Reg.HAT_VALID_HI) (h : Nat) :
    validBit t h = validBit s h := by
  simp only [validBit, State.bit, hlo, hhi]

theorem latchHolder_takes {s : State} {late : BitVec 47} {h : Nat} (ht : Takes s late h) (t : State) :
    latchHolder s late.toNat t h = markValid h (setRegs (holder s h).2.1 (holder s h).2.2 t) := by
  obtain ⟨hlate, hopen⟩ := ht
  have hin : Nat.testBit late.toNat h = false := hlate
  unfold latchHolder
  cases hdom : (holder s h).1 with
  | none => simp only [hdom, hin, Bool.false_eq_true, if_false]; rfl
  | some d => simp only [hdom, hin, beq_eq_false_iff_ne.mpr (hopen d hdom), Bool.false_eq_true, if_false]; rfl

/-- A holder that does not latch is at most counted. -/
theorem latchHolder_skips {s : State} {late : BitVec 47} {h : Nat} (ht : ¬ Takes s late h) (t : State) :
    latchHolder s late.toNat t h = t ∨ latchHolder s late.toNat t h = t.inc Reg.HAT_MISSED_CNT := by
  unfold latchHolder
  by_cases hlate : late.getLsbD h = true
  · have hin : Nat.testBit late.toNat h = true := hlate
    simp only [hin, if_true]
    exact ite_eq_or_eq ..
  · have hshut : ∃ d, (holder s h).1 = some d ∧ domState s d = 2 := by
      simpa [Takes, hlate] using ht
    obtain ⟨d, hdom, hd⟩ := hshut
    exact .inl (by simp [hdom, hd])

/-- What a holder's latch may change, apart from its span. -/
theorem latchHolder_only (s : State) (late : BitVec 47) (t : State) (h : Nat) : RegsOnly t (latchHolder s late.toNat t h) := by
  by_cases ht : Takes s late h
  · rw [latchHolder_takes ht]
    exact (setRegs_only ..).trans (markValid_only ..)
  · rcases latchHolder_skips ht t with e | e <;> rw [e]
    · exact .refl t
    · exact regsOnly_inc ..

theorem latchHolder_reg {a h : Nat} (hout : Outside a (snapSpan h)) (hfree : a ∉ [Reg.HAT_MISSED_CNT, Reg.HAT_VALID_LO, Reg.HAT_VALID_HI]) (s : State)
    (late : BitVec 47) (t : State) : (latchHolder s late.toNat t h).reg a = t.reg a := by
  simp only [List.mem_cons, List.not_mem_nil, or_false, not_or] at hfree
  obtain ⟨hmissed, hlo, hhi⟩ := hfree
  by_cases ht : Takes s late h
  · obtain ⟨hbase, hlen⟩ := holder_fits s h
    have hwords : Outside a ((holder s h).2.1, (holder s h).2.2.length) := by simp only [Outside] at hout ⊢; omega
    rw [latchHolder_takes ht, markValid_reg hlo hhi, setRegs_reg_outside _ _ _ hwords]
  · rcases latchHolder_skips ht t with e | e <;> rw [e]
    exact reg_inc_ne hmissed t

/-- Hatcheck's own registers lie outside every span. -/
theorem hatReg_outside {a : Nat} (h1 : Reg.HAT_ID ≤ a) (h2 : a ≤ Reg.HAT_HIST_CAUSE 7) {h : Nat} (hh : h < 47) : Outside a (snapSpan h) := by
  obtain ⟨hpage, -⟩ := snapSpan_apart h hh
  unfold Outside
  omega

/-- No word of a snapshot stands at a register of Hatcheck's own. -/
theorem span_notHat {h k : Nat} (hh : h < 47) (hk : k < (snapSpan h).2) {l : List Nat} (hl : ∀ b, b ∈ l → Reg.HAT_ID ≤ b ∧ b ≤ Reg.HAT_HIST_CAUSE 7) :
    (snapSpan h).1 + k ∉ l := by
  obtain ⟨hpage, -⟩ := snapSpan_apart h hh
  intro hm
  have := hl _ hm
  omega

/-- Which valid bits stand after holder j's latch. -/
theorem validBit_latchHolder {h j : Nat} (hh : h < 47) (hj : j < 47) (s : State) (late : BitVec 47) (t : State) :
    validBit (latchHolder s late.toNat t j) h = true ↔ validBit t h = true ∨ (h = j ∧ Takes s late j) := by
  by_cases ht : Takes s late j
  · obtain ⟨hbase, hlen⟩ := holder_fits s j
    have hwords : ∀ a, Reg.HAT_ID ≤ a → a ≤ Reg.HAT_HIST_CAUSE 7 → (setRegs (holder s j).2.1 (holder s j).2.2 t).reg a = t.reg a := by
      intro a h1 h2
      have hout := hatReg_outside h1 h2 hj
      exact setRegs_reg_outside _ _ _ (by simp only [Outside] at hout ⊢; omega)
    rw [latchHolder_takes ht, validBit_markValid hj hh, validBit_congr (hwords _ (by decide) (by decide)) (hwords _ (by decide) (by decide))]
    by_cases e : h = j <;> simp [e, ht]
  · have hkeep : validBit (latchHolder s late.toNat t j) h = validBit t h := by
      rcases latchHolder_skips ht t with e | e <;> rw [e]
      exact validBit_congr (reg_inc_ne (by decide) t) (reg_inc_ne (by decide) t) h
    simp [hkeep, ht]

/-! ### All holders as one event (R673) -/

/-- No holder's words are valid yet. -/
def noneValid (s : State) : State := ((takeFresh s).setReg Reg.HAT_VALID_LO 0).setReg Reg.HAT_VALID_HI 0

theorem noneValid_change (s : State) : LogChange [Reg.HAT_VALID_LO, Reg.HAT_VALID_HI] s (noneValid s) :=
  (((LogChange.refl _ s).takeFresh).setReg (by decide) _).setReg (by decide) _

theorem validBit_noneValid (s : State) (h : Nat) : validBit (noneValid s) h = false := by
  have hlo : (noneValid s).reg Reg.HAT_VALID_LO = 0 := by rw [noneValid, reg_setReg_ne (by decide), reg_setReg_self]
  have hhi : (noneValid s).reg Reg.HAT_VALID_HI = 0 := reg_setReg_self ..
  simp [validBit, State.bit, hlo, hhi, bget]

/-- t shows holder h's words of s, and that they are valid. -/
structure Shows (s : State) (h : Nat) (t : State) : Prop where
  valid : validBit t h = true
  words : ∀ k w, (holder s h).2.2[k]? = some w → t.reg ((holder s h).2.1 + k) = w

/-- Every holder has latched as of s. -/
def holdersLatched (late : BitVec 47) (s : State) : State := (List.range 47).foldl (latchHolder s late.toNat) (noneValid s)

section
variable (late : BitVec 47) (s : State)

theorem holdersLatched_regsOnly : RegsOnly (noneValid s) (holdersLatched late s) := .foldl _ (latchHolder_only s late) _ _

theorem holdersLatched_only : LogOnly s (holdersLatched late s) := (noneValid_change s).only.trans (holdersLatched_regsOnly late s).logOnly

theorem holdersLatched_hat : (holdersLatched late s).hat = s.hat := (holdersLatched_regsOnly late s).hat

theorem holdersLatched_drained (h : Drained s) : Drained (holdersLatched late s) := by
  unfold Drained; rw [(holdersLatched_regsOnly late s).eiu]; exact h

/-- Of Hatcheck's own registers the holders' latch changes the valid bits and the count of what was missed. -/
theorem holdersLatched_hatReg {a : Nat} (h1 : Reg.HAT_ID ≤ a) (h2 : a ≤ Reg.HAT_HIST_CAUSE 7)
    (hfree : a ∉ [Reg.HAT_MISSED_CNT, Reg.HAT_VALID_LO, Reg.HAT_VALID_HI]) : (holdersLatched late s).reg a = s.reg a := by
  have hstep : ∀ t h, h ∈ List.range 47 → (latchHolder s late.toNat t h).reg a = t.reg a :=
    fun t h hh => latchHolder_reg (hatReg_outside h1 h2 (List.mem_range.mp hh)) hfree s late t
  exact (foldl_same_mem (fun t => State.reg t a) _ _ hstep _).trans ((noneValid_change s).regs a (fun hm => hfree (by simp_all)))

variable {h : Nat} (hh : h < 47)
include hh

/-- A valid bit tells of a holder that latched. -/
theorem takes_of_valid (hv : validBit (holdersLatched late s) h = true) : Takes s late h := by
  refine List.foldlRecOn (motive := fun t => validBit t h = true → Takes s late h) (List.range 47) _ ?_ (fun t ih j hj hvj => ?_) hv
  · intro hv0
    rw [validBit_noneValid] at hv0
    exact absurd hv0 (by decide)
  · rcases (validBit_latchHolder hh (List.mem_range.mp hj) s late t).mp hvj with hvt | ⟨rfl, ht⟩
    · exact ih hvt
    · exact ht

/-- Another holder's latch leaves the span of holder h. -/
theorem latchHolder_span {j k : Nat} (hj : j < 47) (hne : h ≠ j) (hk : k < (snapSpan h).2) (t : State) :
    (latchHolder s late.toNat t j).reg ((snapSpan h).1 + k) = t.reg ((snapSpan h).1 + k) := by
  have hdis := snapSpan_disjoint h hh j hj hne
  exact latchHolder_reg (by unfold Outside; omega) (span_notHat hh hk (by decide)) s late t

/-- A holder that latches is valid, and its words stand in its span. -/
theorem holdersLatched_shows (ht : Takes s late h) : Shows s h (holdersLatched late s) := by
  obtain ⟨hbase, hlen⟩ := holder_fits s h
  have inSpan : ∀ {k w}, (holder s h).2.2[k]? = some w → k < (snapSpan h).2 := fun hk => (List.getElem?_eq_some_iff.mp hk).1.trans_le hlen
  have latches : ∀ t, Shows s h (latchHolder s late.toNat t h) := by
    refine fun t => ⟨(validBit_latchHolder hh hh s late t).mpr (.inr ⟨rfl, ht⟩), fun k w hk => ?_⟩
    have hfree : (holder s h).2.1 + k ≠ Reg.HAT_VALID_LO ∧ (holder s h).2.1 + k ≠ Reg.HAT_VALID_HI := by
      have := span_notHat (l := [Reg.HAT_VALID_LO, Reg.HAT_VALID_HI]) hh (inSpan hk) (by decide)
      simpa [hbase] using this
    rw [latchHolder_takes ht, markValid_reg hfree.1 hfree.2]
    exact setRegs_reg _ _ k w t hk
  refine foldl_establishes (I := fun _ => True) (P := Shows s h) (List.mem_range.mpr hh) (fun _ _ _ _ => trivial) (fun t _ => latches t)
    (fun t j hj _ hp => ?_) trivial
  have hj' := List.mem_range.mp hj
  by_cases e : h = j
  · exact e ▸ latches t
  · refine ⟨(validBit_latchHolder hh hj' s late t).mpr (.inl hp.valid), fun k w hk => ?_⟩
    rw [← hp.words k w hk, hbase]
    exact latchHolder_span late s hh hj' e (inSpan hk) t

end

/-! ### The end of the latch (R674, R686) -/

/-- BUSY ends, and LATCHED stands. -/
def latchStood (s : State) : State := s.setReg Reg.HAT_STATUS (bset (bset (s.reg Reg.HAT_STATUS) 2 false) 1 true)

/-- The latch is entry k of the history, and counted. -/
def historyAt (k : Nat) (cause : Word) (s : State) : State :=
  (((s.setReg (Reg.HAT_HIST_TICK k) (s.reg Reg.HAT_LATCH_TICK_LO)).setReg (Reg.HAT_HIST_CAUSE k) cause).setReg Reg.HAT_HIST_PTR (nw ((k + 1) % 8))).inc
    Reg.HAT_LATCH_CNT

section
variable {k : Nat} (cause : Word) (s : State)

theorem historyAt_change : LogChange [Reg.HAT_HIST_TICK k, Reg.HAT_HIST_CAUSE k, Reg.HAT_HIST_PTR, Reg.HAT_LATCH_CNT] s (historyAt k cause s) :=
  ((((LogChange.refl _ s).setReg (by simp) _).setReg (by simp) _).setReg (by simp) _).inc (by simp)

theorem historyAt_ptr : (historyAt k cause s).fld Reg.HAT_HIST_PTR 2 0 = (k + 1) % 8 := by
  have hsmall : (nw ((k + 1) % 8)).toNat = (k + 1) % 8 := by rw [nw, BitVec.toNat_ofNat]; omega
  rw [State.fld, historyAt, reg_inc_ne (by decide), reg_setReg_self, fget, hsmall]
  omega

variable (hk : k < 8)
include hk

theorem historyAt_count : (historyAt k cause s).reg Reg.HAT_LATCH_CNT = s.reg Reg.HAT_LATCH_CNT + 1 := by
  have hne : Reg.HAT_LATCH_CNT ≠ Reg.HAT_HIST_CAUSE k ∧ Reg.HAT_LATCH_CNT ≠ Reg.HAT_HIST_TICK k := by
    simp only [Reg.HAT_LATCH_CNT, Reg.HAT_HIST_CAUSE, Reg.HAT_HIST_TICK]; omega
  rw [historyAt, reg_inc_self, reg_setReg_ne (by decide), reg_setReg_ne hne.1, reg_setReg_ne hne.2]

theorem historyAt_tick : (historyAt k cause s).reg (Reg.HAT_HIST_TICK k) = s.reg Reg.HAT_LATCH_TICK_LO := by
  have hne : Reg.HAT_HIST_TICK k ≠ Reg.HAT_LATCH_CNT ∧ Reg.HAT_HIST_TICK k ≠ Reg.HAT_HIST_PTR ∧ Reg.HAT_HIST_TICK k ≠ Reg.HAT_HIST_CAUSE k := by
    simp only [Reg.HAT_LATCH_CNT, Reg.HAT_HIST_CAUSE, Reg.HAT_HIST_TICK, Reg.HAT_HIST_PTR]; omega
  rw [historyAt, reg_inc_ne hne.1, reg_setReg_ne hne.2.1, reg_setReg_ne hne.2.2, reg_setReg_self]

end

/-- Where an ARM does not wait, the latch ends with its entry in the history. -/
theorem latchDone_eq {s : State} (harm : s.hat.armAfter = false) : ∃ cause, latchDone s =
    { historyAt (s.fld Reg.HAT_HIST_PTR 2 0) cause (latchStood s) with hat := { s.hat with latch := none, armAfter := false } } := by
  have hptr : (latchStood s).fld Reg.HAT_HIST_PTR 2 0 = s.fld Reg.HAT_HIST_PTR 2 0 := by
    rw [State.fld, latchStood, reg_setReg_ne (by decide), State.fld]
  rw [← hptr]
  exact ⟨_, if_neg (by rw [Bool.not_eq_true]; exact harm)⟩

section
variable {s : State} (harm : s.hat.armAfter = false)
include harm

/-- What the end of the latch changes: Hatcheck's status, history and count. -/
theorem latchDone_change : LogChange [Reg.HAT_STATUS, Reg.HAT_HIST_TICK (s.fld Reg.HAT_HIST_PTR 2 0), Reg.HAT_HIST_CAUSE (s.fld Reg.HAT_HIST_PTR 2 0),
    Reg.HAT_HIST_PTR, Reg.HAT_LATCH_CNT] s (latchDone s) := by
  obtain ⟨cause, e⟩ := latchDone_eq harm
  have hstood : LogChange [Reg.HAT_STATUS] s (latchStood s) := (LogChange.refl _ s).setReg (by decide) _
  rw [e]
  exact ((hstood.mono (by simp)).trans ((historyAt_change cause (latchStood s)).mono (by simp))).withHat _

theorem latchDone_reg {a : Nat} (hhist : a < Reg.HAT_HIST_TICK 0 ∨ Reg.HAT_HIST_CAUSE 7 < a)
    (ha : a ∉ [Reg.HAT_STATUS, Reg.HAT_HIST_PTR, Reg.HAT_LATCH_CNT]) : (latchDone s).reg a = s.reg a := by
  have hk : s.fld Reg.HAT_HIST_PTR 2 0 < 8 := fget_lt _ 2 0
  have hne : a ≠ Reg.HAT_HIST_TICK (s.fld Reg.HAT_HIST_PTR 2 0) ∧ a ≠ Reg.HAT_HIST_CAUSE (s.fld Reg.HAT_HIST_PTR 2 0) := by
    generalize s.fld Reg.HAT_HIST_PTR 2 0 = k at hk ⊢
    simp only [Reg.HAT_HIST_CAUSE, Reg.HAT_HIST_TICK] at hhist ⊢
    omega
  exact (latchDone_change harm).regs a (by simp_all)

theorem latchDone_status : (latchDone s).bit Reg.HAT_STATUS 1 = true ∧ (latchDone s).bit Reg.HAT_STATUS 2 = false ∧ (latchDone s).hat.latch = none := by
  have hk : s.fld Reg.HAT_HIST_PTR 2 0 < 8 := fget_lt _ 2 0
  obtain ⟨cause, e⟩ := latchDone_eq harm
  have hstatus : (latchDone s).reg Reg.HAT_STATUS = bset (bset (s.reg Reg.HAT_STATUS) 2 false) 1 true := by
    have hkeep : (historyAt (s.fld Reg.HAT_HIST_PTR 2 0) cause (latchStood s)).reg Reg.HAT_STATUS = (latchStood s).reg Reg.HAT_STATUS := by
      refine (historyAt_change ..).regs _ ?_
      simp only [Reg.HAT_HIST_CAUSE, Reg.HAT_HIST_TICK, Reg.HAT_STATUS, Reg.HAT_HIST_PTR, Reg.HAT_LATCH_CNT, List.mem_cons, List.not_mem_nil, or_false]
      omega
    rw [e]
    exact hkeep.trans (reg_setReg_self ..)
  refine ⟨?_, ?_, by rw [e]⟩
  · rw [State.bit, hstatus, bset_bit _ _ _ _ (by decide), if_pos rfl]
  · rw [State.bit, hstatus, bset_bit _ _ _ _ (by decide), if_neg (by decide), bset_bit _ _ _ _ (by decide), if_pos rfl]

theorem latchDone_history : (latchDone s).reg Reg.HAT_LATCH_CNT = s.reg Reg.HAT_LATCH_CNT + 1 ∧
    (latchDone s).reg (Reg.HAT_HIST_TICK (s.fld Reg.HAT_HIST_PTR 2 0)) = s.reg Reg.HAT_LATCH_TICK_LO ∧
    (latchDone s).fld Reg.HAT_HIST_PTR 2 0 = (s.fld Reg.HAT_HIST_PTR 2 0 + 1) % 8 := by
  have hk : s.fld Reg.HAT_HIST_PTR 2 0 < 8 := fget_lt _ 2 0
  obtain ⟨cause, e⟩ := latchDone_eq harm
  have hstood : ∀ a, a ≠ Reg.HAT_STATUS → (latchStood s).reg a = s.reg a := fun a ha => reg_setReg_ne ha s _
  have hreg : ∀ a, (latchDone s).reg a = (historyAt (s.fld Reg.HAT_HIST_PTR 2 0) cause (latchStood s)).reg a := fun a => by rw [e]; rfl
  refine ⟨?_, ?_, ?_⟩
  · rw [hreg, historyAt_count _ _ hk, hstood _ (by decide)]
  · rw [hreg, historyAt_tick _ _ hk, hstood _ (by decide)]
  · rw [State.fld, hreg]; exact historyAt_ptr cause (latchStood s)

end

/-! ### The command -/

section
variable {s : State} (hc : Calm s) (hdue : s.hat.latch = some 0) (harm : s.hat.armAfter = false) (late : BitVec 47)
include hc hdue harm

theorem exec_hatcheckLatch_done : ∃ t, exec (.hatcheckLatch late) s = .next t ∧ Levels 145 (latchDone (holdersLatched late s)) t ∧ t.cores = s.cores ∧
    SameMemory s t := by
  have e : (if s.hat.latch = some 0 then hatLatch late.toNat s else s) = lv1 145 latchDone (holdersLatched late s) := by
    rw [if_pos hdue, hatLatch, if_pos hdue]; rfl
  have honly := holdersLatched_only late s
  obtain ⟨t, ht, hlevels, hcores, hm⟩ := okSettled_lv1 (k := 145) (hc.logOnly honly (holdersLatched_drained late s hc.sources))
    (latchDone_change ((congrArg Hat.armAfter (holdersLatched_hat late s)).trans harm))
  exact ⟨t, (congrArg okSettled e).trans ht, hlevels, hcores.trans honly.cores, honly.memory.trans hm⟩

theorem exec_hatcheckLatch : ∃ t, exec (.hatcheckLatch late) s = .next t ∧ t.bit Reg.HAT_STATUS 1 = true ∧ t.bit Reg.HAT_STATUS 2 = false ∧
    t.hat.latch = none ∧ t.reg Reg.HAT_LATCH_CNT = s.reg Reg.HAT_LATCH_CNT + 1 ∧
    t.reg (Reg.HAT_HIST_TICK (s.fld Reg.HAT_HIST_PTR 2 0)) = s.reg Reg.HAT_LATCH_TICK_LO ∧
    t.fld Reg.HAT_HIST_PTR 2 0 = (s.fld Reg.HAT_HIST_PTR 2 0 + 1) % 8 ∧ t.cores = s.cores ∧ SameMemory s t := by
  have harm' : (holdersLatched late s).hat.armAfter = false := (congrArg Hat.armAfter (holdersLatched_hat late s)).trans harm
  have hkeep : ∀ a, Reg.HAT_ID ≤ a → a ≤ Reg.HAT_HIST_CAUSE 7 → a ∉ [Reg.HAT_MISSED_CNT, Reg.HAT_VALID_LO, Reg.HAT_VALID_HI] →
      (holdersLatched late s).reg a = s.reg a := fun a => holdersLatched_hatReg late s
  have hptr : (holdersLatched late s).fld Reg.HAT_HIST_PTR 2 0 = s.fld Reg.HAT_HIST_PTR 2 0 := by
    rw [State.fld, hkeep _ (by decide) (by decide) (by decide), State.fld]
  obtain ⟨hlatched, hbusy, hended⟩ := latchDone_status harm'
  obtain ⟨hcnt, htick, hnext⟩ := latchDone_history harm'
  rw [hptr] at htick hnext
  have hne : Reg.HAT_HIST_TICK (s.fld Reg.HAT_HIST_PTR 2 0) ≠ Reg.EIU_SRC_CNT 145 := by simp only [Reg.HAT_HIST_TICK, Reg.EIU_SRC_CNT]; omega
  obtain ⟨t, ht, hlevels, hcores, hm⟩ := exec_hatcheckLatch_done hc hdue harm late
  refine ⟨t, ht, (hlevels.bit (by decide) 1).trans hlatched, (hlevels.bit (by decide) 2).trans hbusy, by rw [hlevels.events.hat, hended], ?_, ?_,
    (hlevels.fld (by decide) 2 0).trans hnext, hcores, hm⟩
  · rw [hlevels.reg (by decide), hcnt, hkeep _ (by decide) (by decide) (by decide)]
  · rw [hlevels.reg hne, htick, hkeep _ (by decide) (by decide) (by decide)]

theorem exec_hatcheckLatch_holder {h : Nat} (hh : h < 47) : ∃ t, exec (.hatcheckLatch late) s = .next t ∧ (validBit t h = true ↔ Takes s late h) ∧
    (Takes s late h → ∀ k w, (holder s h).2.2[k]? = some w → t.reg ((holder s h).2.1 + k) = w) := by
  have harm' : (holdersLatched late s).hat.armAfter = false := (congrArg Hat.armAfter (holdersLatched_hat late s)).trans harm
  obtain ⟨t, ht, hlevels, -, -⟩ := exec_hatcheckLatch_done hc hdue harm late
  have hvalid : validBit t h = validBit (holdersLatched late s) h := validBit_congr
    ((hlevels.reg (by decide)).trans (latchDone_reg harm' (by decide) (by decide)))
    ((hlevels.reg (by decide)).trans (latchDone_reg harm' (by decide) (by decide))) h
  refine ⟨t, ht, ⟨fun hv => takes_of_valid late s hh (hvalid ▸ hv), fun htakes => hvalid.trans (holdersLatched_shows late s hh htakes).valid⟩,
    fun htakes k w hk => ?_⟩
  obtain ⟨hbase, hlen⟩ := holder_fits s h
  have hk' : k < (snapSpan h).2 := (List.getElem?_eq_some_iff.mp hk).1.trans_le hlen
  obtain ⟨hpage, hcnt⟩ := snapSpan_apart h hh
  have hne : (snapSpan h).1 + k ≠ Reg.EIU_SRC_CNT 145 := by unfold Outside at hcnt; omega
  have hhist : (snapSpan h).1 + k < Reg.HAT_HIST_TICK 0 ∨ Reg.HAT_HIST_CAUSE 7 < (snapSpan h).1 + k := by
    have : Reg.HAT_ID ≤ Reg.HAT_HIST_TICK 0 := by decide
    omega
  rw [← (holdersLatched_shows late s hh htakes).words k w hk, hbase, hlevels.reg hne, latchDone_reg harm' hhist (span_notHat hh hk' (by decide))]

end

/-! ### The obligation -/

/-- Settles O54: each clause is the command it names, run on a calm device. -/
theorem errorLogAndHatcheck : Obligations.ErrorLogAndHatcheck := by
  intro i v s hc
  exact ⟨fun r rest ha => ⟨exec_errlogRecord_places hc ha, exec_errlogRecord_quiet hc ha, fun hroom hw harmed => exec_errlogRecord_wakes hc ha hroom hw.1 hw.2 harmed,
      exec_errlogRecord_lost hc ha⟩,
    exec_errlogPop, fun r rest => exec_errlogTopRead_some hc, exec_errlogTopRead_none hc,
    fun h h4 h0 => ⟨exec_hatTrigWrite_begins h h4 h0, exec_hatTrigWrite_missed h h4 h0, exec_hatTrigWrite_joins h h4 h0⟩,
    fun h h1 => ⟨exec_hatArm h1 h, exec_hatArm_busy h1 h⟩, exec_hatcheckPinTrigger hc, exec_hatcheckPinTrigger_own hc,
    fun late hdue harm => ⟨exec_hatcheckLatch hc hdue harm late, fun h hh => exec_hatcheckLatch_holder hc hdue harm late hh⟩⟩

end Sys2Proof.Machine
end

section
/-!
SUPPORT. What every step has in common: each command ends with `ok`, so it goes on (O23) and the level sources are latched (O24); an idle step lets one tick pass (O22).
-/
set_option linter.constructorNameAsVariable false

namespace Sys2Proof.Machine

/-! ### The end of every command -/

/-- A command at a cache line outside what is cached, and one at a line, both end with `ok`. -/
theorem cmoReq_ends (code : Nat) (c : Fin 8) (l : BitVec 30) (s : State) : ∃ u, cmoReq code c l s = ok u := by
  unfold cmoReq
  split
  · split <;> exact ⟨_, rfl⟩
  · exact ⟨_, rfl⟩

theorem execGridPoint_ends (c : Fin 8) (completed : Nat) (s : State) : ∃ u, execGridPoint c completed s = ok u := by
  unfold execGridPoint
  dsimp only
  split
  · exact ⟨_, rfl⟩
  · split
    · exact ⟨_, rfl⟩
    · split
      · exact ⟨_, rfl⟩
      · split <;> exact ⟨_, rfl⟩

theorem execRdT_ends (c : Fin 8) (r : TentRead) (s : State) : ∃ u, execRdT c r s = ok u := by
  unfold execRdT
  dsimp only
  split_ifs <;> exact ⟨_, rfl⟩

/-- Every command ends with `ok`: no meaning faults or refuses. -/
theorem exec_ends (i : Instr) (s : State) : ∃ u, exec i s = ok u := by
  cases i with
  | resetNRise x =>
    show ∃ u, execResetNRise x s = ok u
    unfold execResetNRise; split <;> exact ⟨_, rfl⟩
  | gridPoint c completed => exact execGridPoint_ends c completed s
  | rdS a l =>
    show ∃ u, execRdS a l s = ok u
    unfold execRdS; split <;> exact ⟨_, rfl⟩
  | rdX a l =>
    show ∃ u, execRdX a l s = ok u
    unfold execRdX; split <;> exact ⟨_, rfl⟩
  | upg a l =>
    show ∃ u, execUpg a l s = ok u
    unfold execUpg; split <;> exact ⟨_, rfl⟩
  | rdT c r => exact execRdT_ends c r s
  | cmoClean c l => exact cmoReq_ends cmoClean c l s
  | cmoClinv c l => exact cmoReq_ends cmoClinv c l s
  | cmoInv c l => exact cmoReq_ends cmoInv c l s
  | cufNull n p => cases p <;> exact ⟨_, rfl⟩
  | _ => exact ⟨_, rfl⟩

/-! ### What `ok` latches (R304, R324) -/

theorem set256_true_getLsbD (x : BitVec 256) {j k : Nat} (hk : k < 256) : (set256 j true x).getLsbD k = (x.getLsbD k || decide (k = j)) := by
  simp only [set256, if_true, BitVec.getLsbD_or, BitVec.getLsbD_ofNat, Nat.testBit_two_pow, hk, decide_true, Bool.true_and, eq_comm]

/-- A fold that sets bits keeps those that are set. -/
theorem foldl_sets {α : Type} (f : BitVec 256 → α → BitVec 256) {k : Nat} (l : List α) (hf : ∀ p a, p.getLsbD k = true → (f p a).getLsbD k = true) :
    ∀ p, p.getLsbD k = true → (l.foldl f p).getLsbD k = true := by
  induction l with
  | nil => exact fun _ h => h
  | cons a t ih => exact fun p h => ih _ (hf p a h)

theorem set256_keeps {p : BitVec 256} {j k : Nat} (h : p.getLsbD k = true) : (set256 j true p).getLsbD k = true := by
  simp only [set256, if_true, BitVec.getLsbD_or, h, Bool.true_or]

theorem levelSources_lt {k : Nat} (h : k ∈ levelSources) : k < 256 :=
  of_decide_eq_true (List.all_eq_true.1 (show levelSources.all (fun k => decide (k < 256)) = true by decide) k h)

/-- Every level source that its owner asserts and no core serves is in `levelPend`. -/
theorem levelPend_of_on {s : State} {k : Nat} (hk : k ∈ levelSources) (hon : levelOn s k = true) (hin : inService s k = false) :
    (levelPend s).getLsbD k = true := by
  obtain ⟨before, after, e⟩ := List.append_of_mem hk
  have hkeep : ∀ (p : BitVec 256) (j : Nat), p.getLsbD k = true →
      (if levelOn s j && !inService s j then set256 j true p else p).getLsbD k = true := by
    intro p j h
    split
    · exact set256_keeps h
    · exact h
  rw [levelPend, e, List.foldl_append, List.foldl_cons]
  apply foldl_sets _ _ hkeep
  rw [hon, hin, if_pos (by decide), set256_true_getLsbD _ (levelSources_lt hk), decide_eq_true rfl, Bool.or_true]

/-- The end of a command leaves every asserted level source pending or in service, whatever the command did. -/
theorem latched_levelHeld (s : State) : LevelHeld (latched s) := by
  intro k hk hon
  have hon' : levelOn s k = true := hon
  by_cases hin : inService s k = true
  · exact Or.inr hin
  · exact Or.inl (foldl_sets _ _ (fun p j => set256_keeps) _ (levelPend_of_on hk hon' (Bool.eq_false_iff.2 hin)))

/-! ### The idle step -/

theorem advance_eq (k : Nat) (s : State) : advance k s = { s with tb := (advance k s).tb } := by
  unfold advance xbRun addUnits
  dsimp only
  split <;> rfl

theorem idleTick_eq (s : State) : idleTick s = { s with tb := (idleTick s).tb } := by
  unfold idleTick
  split
  · exact advance_eq 1 s
  · rfl

theorem xbRun_now (fs : Nat) (s : State) : (xbRun fs s).now = s.now := by unfold xbRun; split <;> rfl

/-- Without a slew TB_NOW counts the ticks. -/
theorem advance_now {s : State} (h : s.fld Reg.TB_SLEW 25 24 = 0) (k : Nat) : (advance k s).now = (s.now + k) % 2 ^ 80 := by
  have hu : unitsIn (slewMode s) (slewInt s) (slewPos s) k = k := by rw [slewMode, h]; rfl
  show (xbRun _ (addUnits _ s)).now = _
  rw [xbRun_now, hu]
  show (s.tb.now + BitVec.ofNat 80 k).toNat = _
  rw [BitVec.toNat_add, BitVec.toNat_ofNat, Nat.add_mod_mod]
  rfl

theorem Idles.of_tb {s : State} (b : Tb) : Idles s { s with tb := b } := ⟨fun _ _ => rfl, rfl, ⟨rfl, rfl, rfl, rfl, rfl, rfl⟩⟩

/-! ### The obligations -/

/-- Settles O23: each meaning ends with `ok`. -/
theorem everyCommandCompletes : Obligations.EveryCommandCompletes := by
  intro i s
  obtain ⟨u, hu⟩ := exec_ends i s
  exact ⟨latched u, hu⟩

/-- Settles O24: a command's end latches what its owners assert, and an idle step moves the timebase only. -/
theorem levelHeldKept : Obligations.LevelHeldKept := by
  intro s t hheld hinq howed ht
  unfold step at ht
  split at ht
  · have e : t = { s with tb := (idleTick s).tb } := (Host.Outcome.next.inj ht).symm.trans (idleTick_eq s)
    rw [e]
    exact ⟨hheld, hinq, howed⟩
  · obtain ⟨u, hu⟩ := exec_ends _ _
    have e : latched u = t := Host.Outcome.next.inj (hu.symm.trans ht)
    rw [← e]
    exact ⟨latched_levelHeld u, rfl, rfl⟩

/-- Settles O22: a step is the command at the queue's front, or one tick. -/
theorem stepRunsFront : Obligations.StepRunsFront := by
  intro s
  refine ⟨fun c rest h => by rw [step, h], fun h => ⟨idleTick s, by rw [step, h], ?_, ?_, fun h0 h1 hslew => ?_, fun hstands => ?_⟩⟩
  · rw [idleTick_eq]; exact Idles.of_tb _
  · rw [idleTick_eq]; exact h
  · rw [idleTick, tbRunning, h0, h1]; exact advance_now hslew 1
  · have : tbRunning s = false := by rcases hstands with h | h <;> simp [tbRunning, h]
    rw [idleTick, this, if_neg (by decide)]

end Sys2Proof.Machine
end

section
/-!
SUPPORT. Statements that ask for the list of agents as it was, at an instruction that ends in a cause: like O13, they fail where that list is not canonical
(`listedAgent`), because the end of an instruction that does not retire writes the record of the core's own agent back.
-/
set_option linter.constructorNameAsVariable false

namespace Sys2Proof.Machine

/-! ### Calm devices, read off the records they keep -/

/-- What holds of every record kept, and of the reset one, holds of each copy. -/
theorem getD_of_all {α : Type} {p : α → Bool} {d : α} {m : SMap α} (hd : p d = true) (h : m.all (fun e => p e.2) = true) (k : Nat) :
    p (SMap.getD d k m) = true := by
  induction m with
  | nil => exact hd
  | cons e m ih =>
    obtain ⟨j, v⟩ := e
    rw [List.all_cons, Bool.and_eq_true] at h
    unfold SMap.getD SMap.find
    split
    · exact h.1
    · exact ih h.2

/-- A device is calm whose records hold no work. -/
theorem calm_of_idle {s : State} (hf : s.flaws = []) (hh : s.ports.held = [])
    (hc : s.cores.all (fun e => e.2.stq.isEmpty && e.2.pfq.isEmpty) = true) (hb : s.fab.blocked = [])
    (hn : s.fab.ni.all (fun e => e.2.held.isEmpty) = true) (hl : s.cuf.all (fun e => e.2.waiting.isEmpty && e.2.rxq.isEmpty) = true)
    (hp : s.pairs.all (fun e => !e.2.draining && (e.2.started || e.2.hold.isEmpty)) = true) (he : s.eiu.inq = [] ∧ s.eiu.owed = []) : Calm s where
  flaws := hf
  held := hh
  retired c _ := by
    have := getD_of_all (p := fun k : Core => k.stq.isEmpty && k.pfq.isEmpty) (d := Core.reset) rfl hc c
    simp only [Bool.and_eq_true, List.isEmpty_iff] at this
    exact this
  blocked := hb
  inter := hn
  waiting n _ := by
    have := getD_of_all (p := fun k : CufPort => k.waiting.isEmpty && k.rxq.isEmpty) (d := CufPort.reset) rfl hl n
    simp only [Bool.and_eq_true, List.isEmpty_iff] at this
    exact this.1
  rxq n _ := by
    have := getD_of_all (p := fun k : CufPort => k.waiting.isEmpty && k.rxq.isEmpty) (d := CufPort.reset) rfl hl n
    simp only [Bool.and_eq_true, List.isEmpty_iff] at this
    exact this.2
  draining n _ := by
    have := getD_of_all (p := fun k : Pair => !k.draining && (k.started || k.hold.isEmpty)) (d := Pair.reset) rfl hp n
    simp only [Bool.and_eq_true, Bool.not_eq_true'] at this
    exact this.1
  stores n _ := by
    have := getD_of_all (p := fun k : Pair => !k.draining && (k.started || k.hold.isEmpty)) (d := Pair.reset) rfl hp n
    simp only [Bool.and_eq_true, Bool.or_eq_true, List.isEmpty_iff] at this
    exact this.2
  sources := he

/-! ### Concrete runs -/

/-- The state that a command leaves. -/
def after (i : Instr) (s : State) : State := match exec i s with | .next t => t | _ => s

theorem after_eq {i : Instr} {s t : State} (h : exec i s = .next t) : after i s = t := by rw [after, h]

/-- What a statement says of a command's next state, it says of the state `after` computes. -/
theorem holds_after {i : Instr} {s : State} {P : State → Prop} (h : ∃ t, exec i s = .next t ∧ P t) : P (after i s) := by
  obtain ⟨t, ht, hP⟩ := h
  rwa [after_eq ht]

/-- An entry that keeps every memory keeps the list of agents, whatever records stand in it. -/
theorem Entered.agentsAfter {i : Instr} {c base L code detail : Nat} {epc faddr : Word} {s : State}
    (h : ∃ t, exec i s = .next t ∧ Entered c base L code detail epc faddr s t) : (after i s).agents = s.agents :=
  (holds_after h).memory.agents

theorem listedAgent_agents : listedAgent.agents ≠ [] := List.cons_ne_nil _ _

/-- Core 0 of `listedAgent` is ready for a short instruction too. -/
theorem listedAgent_readyShort : Ready listedAgent 0 false :=
  { listedAgent_ready with fetch := fetchInsn_early (show fetchInsn 0 false none listedAgent = .ok [] listedAgent by rfl) }

/-- From level 3, which it runs at and which it does not hold, core 0 of `listedAgent` enters level 3. -/
theorem listedAgent_enters {nominal code : Nat} {routable : Bool} (hbase : baseLevel listedAgent 0 nominal code routable = 3) :
    EntersAt listedAgent 0 (baseLevel listedAgent 0 nominal code routable) 3 := by
  rw [hbase]
  exact ⟨le_rfl, le_rfl, by decide +kernel, fun m h3 hm => absurd h3 (by omega)⟩

/-- Refutes O8: an SVC of `listedAgent` takes the record that equals the reset one off the list of agents. -/
theorem not_callEntry : ¬ Obligations.CallEntry := by
  intro h
  have hl := listedAgent_enters (nominal := 1) (code := 7) (routable := true) (by decide +kernel)
  have hkept := Entered.agentsAfter ((h 0 0 3 listedAgent listedAgent_readyShort).1 hl)
  have hunlisted : (after (.svc 0 0) listedAgent).agents = [] := by decide +kernel
  exact listedAgent_agents (hkept.symm.trans hunlisted)

/-- Refutes O9: so does a BREAK that halts nothing. -/
theorem not_undefPrivBreak : ¬ Obligations.UndefPrivBreak := by
  intro h
  have hl := listedAgent_enters (nominal := 1) (code := 0x11) (routable := true) (by decide +kernel)
  obtain ⟨-, -, hbreak, -⟩ := h 0 3 listedAgent
  have hkept := Entered.agentsAfter (hbreak listedAgent_readyShort (by decide +kernel) hl)
  have hunlisted : (after (.breakInsn 0) listedAgent).agents = [] := by decide +kernel
  exact listedAgent_agents (hkept.symm.trans hunlisted)

/-- Refutes O16: so does a CSRR of the unassigned number 17h. -/
theorem not_controlRegisterMoves : ¬ Obligations.ControlRegisterMoves := by
  intro h
  have hl := listedAgent_enters (nominal := 1) (code := 1) (routable := true) (by decide +kernel)
  obtain ⟨-, -, hundef, -⟩ := h 0 0 0x17 listedAgent listedAgent_ready
  have hkept := Entered.agentsAfter (hundef 3 (by decide) hl)
  have hunlisted : (after (.csrr 0 0 0x17) listedAgent).agents = [] := by decide +kernel
  exact listedAgent_agents (hkept.symm.trans hunlisted)

/-! ### A fetch above the physical space -/

/-- Core 0 of `listedAgent` at a program address above the physical space. -/
def listedFar : State := { listedAgent with cores := [(0, { Core.reset with run := .running, pc := 2 ^ 35 })] }

theorem listedFar_poised : Poised listedFar 0 where
  calm := calm_of_idle rfl rfl rfl rfl rfl rfl rfl ⟨rfl, rfl⟩
  start := by decide +kernel
  unpaced := by decide +kernel
  alone := by decide +kernel
  noBreak := by decide +kernel
  noHalt := by decide +kernel
  noPark := by decide +kernel

theorem listedFar_level : EntersAt listedFar 0 (baseLevel listedFar 0 1 3 true) 3 := listedAgent_enters (nominal := 1) (code := 3) (routable := true) (by decide +kernel)

/-- Refutes O18: so does a fetch above the physical space. -/
theorem not_coreEvents : ¬ Obligations.CoreEvents := by
  intro h
  obtain ⟨hfetch, -⟩ := h 0 listedFar
  have hkept := Entered.agentsAfter (hfetch 3 listedFar_poised (by decide +kernel) (by decide +kernel) listedFar_level)
  have hunlisted : (after (.fetchFault 0) listedFar).agents = [] := by decide +kernel
  exact listedAgent_agents (hkept.symm.trans hunlisted)

end Sys2Proof.Machine
end

section
/-!
SUPPORT. Statements that name the capture of a reserved write: the capture registers keep the first reserved write until RSVD_WRITE is cleared (R696), so a
later one does not show in SYS_RSVD_DATA.
-/
set_option linter.constructorNameAsVariable false

namespace Sys2Proof.Machine

/-- The initiator at endpoint 18, at level 0. The bound is left to the kernel: this definition then waits for the proofs before it, and few of them
are in memory at a time. -/
def initiator18 : Initiator := ⟨⟨18, by decide +kernel⟩, 0, 0⟩

/-- The reset state with a reserved write of the word 0 captured already. -/
def captured : State := { State.reset with regs := [(Reg.SYS_STATUS, 1), (Reg.SYS_RSVD_CNT, 1)] }

theorem captured_calm : Calm captured := calm_of_idle rfl rfl rfl rfl rfl rfl rfl ⟨rfl, rfl⟩

/-- Refutes O28: a NUM of 0, written while an earlier reserved write stands captured, is counted but does not show in SYS_RSVD_DATA. -/
theorem not_rateGenerators : ¬ Obligations.RateGenerators := by
  intro h
  have hreach : Reaches (Reg.TB_RGEN_CTL (0 : Fin 8)) captured := ⟨captured_calm, by decide +kernel⟩
  obtain ⟨-, -, hnum, -⟩ := h initiator18 0 (2 ^ 35) captured hreach
  obtain ⟨-, hrefused, -⟩ := holds_after hnum
  have hshown : (after (.rgenRateWrite initiator18 0 false (2 ^ 35)) captured).reg Reg.SYS_RSVD_DATA = 0 := by decide +kernel
  exact absurd (hshown.symm.trans (hrefused (Or.inl (by decide))).2.2.1) (by decide)

/-- Refutes O35: a split of 9 units, written while an earlier reserved write stands captured, does not show in SYS_RSVD_DATA. -/
theorem not_homeControl : ¬ Obligations.HomeControl := by
  intro h
  have hreach : Reaches (Reg.HS_SPLIT (0 : Fin 4)) captured := ⟨captured_calm, by decide +kernel⟩
  obtain ⟨-, hsplit, -⟩ := h initiator18 0 9 captured
  obtain ⟨-, hlarge, -⟩ := hsplit hreach
  obtain ⟨-, hdata⟩ := holds_after (hlarge (by decide) (by decide +kernel))
  have hshown : (after (.hsSplitWrite initiator18 0 9) captured).reg Reg.SYS_RSVD_DATA = 0 := by decide +kernel
  exact absurd (hshown.symm.trans hdata) (by decide)

end Sys2Proof.Machine
end

section
/-!
SUPPORT. Two statements whose hypotheses leave room for a state they do not fit: a directory with two entries of one line, and a paced core that strayed from its
grid.
-/
set_option linter.constructorNameAsVariable false

namespace Sys2Proof.Machine

/-! ### A line with two directory entries -/

/-- The entry of line 10000h that names agent 0 as its sole holder, in state X. -/
def soleEntry : DirEnt := ⟨0x20, .x, false, [0, 15, 15, 15], 0⟩

/-- Agent 0 holds line 10000h in state E, and two ways of the directory of slice 0 name it. -/
def listedTwice : State := { State.reset with
  regs := [(Reg.SYS_MAP_STAGE, 8), (Reg.HS_SPLIT 0, 8)]
  agents := [(0, { Agent.reset with lines := [(0x10000, ⟨.e, List.replicate 16 ⟨0, .good⟩⟩)] })]
  slices := [(0, { Slice.reset with dir := [(0, soleEntry), (1, soleEntry)] })] }

theorem listedTwice_linked : Linked listedTwice (agentEp 0) (hsEp (homeOf listedTwice 0x10000)) where
  flaws := rfl
  there := by decide +kernel
  back := by decide +kernel
  flows := by decide +kernel
  tag := by decide +kernel
  probes := by decide +kernel

theorem listedTwice_home : HomeReady listedTwice (homeOf listedTwice 0x10000) 0x10000 where
  stage := by decide
  there := by decide +kernel
  up := by decide +kernel
  split := rfl
  noTrk := by decide +kernel
  quiet := by decide +kernel
  epoch := by decide +kernel
  llc := by decide +kernel

/-- Refutes O31: the eviction of a line that two ways of the directory name frees the first way only, and the second goes on naming the line. -/
theorem not_lineGivenUp : ¬ Obligations.LineGivenUp := by
  intro h
  obtain ⟨-, hevict⟩ := h 0 0x10000 ⟨.e, List.replicate 16 ⟨0, .good⟩⟩ 0 soleEntry listedTwice listedTwice_linked listedTwice_home
    (by decide +kernel) (by decide +kernel) (by decide) (by decide +kernel) (by decide +kernel) (by decide) rfl
  obtain ⟨⟨-, hfree, -⟩, -⟩ := holds_after (hevict (Or.inr ⟨rfl, rfl⟩))
  have hnamed : dirWay (after (.evict 0 0x10000) listedTwice) (homeOf listedTwice 0x10000) 0x10000 = some 1 := by decide +kernel
  exact absurd (hnamed.symm.trans hfree) (by decide)

/-! ### A paced core that strayed -/

/-- Core 0 runs paced in its own close memory, its NOP due at tick 100, and left its close memory since the last grid point. -/
def strayedCore : State := { State.reset with
  regs := [(Reg.TB_STATUS, 1), (Reg.CS_PACE_CTL 0, 2), (Reg.CS_PACE_PERIOD 0, 6), (Reg.CS_STATUS 0, 3)]
  cores := [(0, { Core.reset with run := .running, pc := 0x80246, due := some (100, .nop 0), strayed := true })] }

theorem strayedCore_undisturbed : Undisturbed strayedCore 0 where
  calm := calm_of_idle rfl rfl rfl rfl rfl rfl rfl ⟨rfl, rfl⟩
  alone := by decide +kernel
  here := by decide +kernel
  noHalt := by decide +kernel
  noPark := by decide +kernel

/-- Refutes O19: an instruction of a core that strayed is late by what the grid point says of it, however large its period is, so the NOP does not end at the
tick it was due. -/
theorem not_pacedCore : ¬ Obligations.PacedCore := by
  intro h
  obtain ⟨-, hdue, -⟩ := h 0 strayedCore
  have hends := holds_after (hdue 100 1 strayedCore_undisturbed (by decide +kernel) (by decide +kernel) (by decide +kernel) (by decide +kernel)
    (by decide +kernel) (by decide) (by decide +kernel) (by decide +kernel) (by decide +kernel) (Or.inr (by decide +kernel)) (by decide +kernel)
    (by decide +kernel) (by decide +kernel) (by decide +kernel) ⟨by decide +kernel, by decide +kernel⟩ (by decide +kernel))
  have hlate : (after (.gridPoint 0 1) strayedCore).now = 106 := by decide +kernel
  exact absurd (hlate.symm.trans hends.1) (by decide)

end Sys2Proof.Machine
end

section
/-!
SUPPORT. Statements about ports, rings and DRAM controllers whose list of registers that may change, or whose count, leaves a case out.
-/
set_option linter.constructorNameAsVariable false

namespace Sys2Proof.Machine

/-! ### The latest line and the latest edge -/

/-- GPIO line 1 asks for an event at its rise. -/
def risingLine : State := { State.reset with regs := [(Reg.GPIO_IRQ_RISE_LO, 2)] }

theorem risingLine_calm : Calm risingLine := calm_of_idle rfl rfl rfl rfl rfl rfl rfl ⟨rfl, rfl⟩

/-- Refutes O48: an edge that is an event writes its line to GPIO_LAST_LINE, which the statement lists among the registers that keep their value. -/
theorem not_smallPorts : ¬ Obligations.SmallPorts := by
  intro h
  obtain ⟨-, -, -, -, -, -, -, -, -, -, hedge, -⟩ := h.2 initiator18 0 risingLine
  obtain ⟨-, -, -, -, -, hregs, -⟩ := holds_after (hedge 1 true risingLine_calm (by decide +kernel) (by decide +kernel))
  have hshown : (after (.gpioEdge 1 true) risingLine).reg Reg.GPIO_LAST_LINE = 1 := by decide +kernel
  have hkept : risingLine.reg Reg.GPIO_LAST_LINE = 0 := by decide +kernel
  exact absurd (hshown.symm.trans ((hregs Reg.GPIO_LAST_LINE (by decide)).trans hkept)) (by decide)

/-- Audio port 0 sends as a slave with nothing to send; it has been primed, and one tick has passed. -/
def primedSlave : State := { State.reset with
  regs := [(Reg.AUD_CTL 0, 9), (Reg.AUD_SLOT_OUT 0, 1), (Reg.AUD_STATUS 0, 0x40)]
  tb := { Tb.reset with now := 1 }
  ports := { Ports.reset with aud := [(0, { AudPort.reset with on := true, started := true })] } }

theorem primedSlave_sends : SlaveSends primedSlave 0 where
  calm := calm_of_idle rfl rfl rfl rfl rfl rfl rfl ⟨rfl, rfl⟩
  on := by decide +kernel
  slave := by decide +kernel
  noRing := by decide +kernel
  slots := by decide +kernel
  loud := by decide +kernel

/-- Refutes O47: a frame start writes its tick to AUD_LAST_EDGE, which the statement lists among the registers that keep their value. -/
theorem not_audioAndMidi : ¬ Obligations.AudioAndMidi := by
  intro h
  obtain ⟨-, -, hframe, -⟩ := h.1 initiator18 0 0 primedSlave
  obtain ⟨-, hempty⟩ := (hframe primedSlave_sends).1 (audBpf primedSlave 0) (Or.inr rfl)
  obtain ⟨-, -, -, -, -, -, -, hregs⟩ := holds_after (hempty (by decide +kernel) (by decide +kernel) (by decide +kernel))
  have hshown : (after (.slaveFrameStart 0 (audBpf primedSlave 0)) primedSlave).reg (Reg.AUD_LAST_EDGE 0) = 1 := by decide +kernel
  have hkept : primedSlave.reg (Reg.AUD_LAST_EDGE 0) = 0 := by decide +kernel
  exact absurd (hshown.symm.trans ((hregs (Reg.AUD_LAST_EDGE 0) (by decide)).trans hkept)) (by decide)

/-! ### Fills of an interleaved channel -/

/-- Channel 0 serves, interleaved with channel 1 by lines, and fills page 0 from its first line. -/
def interleavedFill : State := { State.reset with
  regs := [(Reg.DMC_CTL 0, 3), (Reg.DMC_STATUS 0, 2), (Reg.DMC_GEOM 0, 1), (Reg.DMC_ILV 0, 1), (Reg.DMC_FILL 0 0, 2 ^ 39)] }

theorem interleavedFill_calm : Calm interleavedFill := calm_of_idle rfl rfl rfl rfl rfl rfl rfl ⟨rfl, rfl⟩

/-- Refutes O46: where lines alternate between the channels, the fill's pointer moves to the channel's next line, two lines on. -/
theorem not_dramController : ¬ Obligations.DramController := by
  intro h
  obtain ⟨hserves, -⟩ := h initiator18 0 0 interleavedFill
  obtain ⟨hfill, -⟩ := hserves interleavedFill_calm (by decide +kernel)
  obtain ⟨hstep, -⟩ := hfill 0 (by decide +kernel) (by decide +kernel) (by decide +kernel) (by decide +kernel) (by decide +kernel) (by decide +kernel)
  obtain ⟨hnext, -⟩ := holds_after (hstep (by decide +kernel))
  have hshown : (after (.fillStep 0 0) interleavedFill).fld (Reg.DMC_FILL 0 0) 11 0 = 2 := by decide +kernel
  have hstart : interleavedFill.fld (Reg.DMC_FILL 0 0) 11 0 = 0 := by decide +kernel
  exact absurd (hshown.symm.trans (hnext.trans (congrArg (· + 1) hstart))) (by decide)

/-! ### A status that does not fit its field -/

/-- A descriptor that ring 0 has fetched. -/
def someDesc : FDesc := ⟨0, 0, 0, 0, 0⟩

/-- The unit of ring 0 is complete, with a status of 32, one bit more than the status word has room for. -/
def wideStatus : State := { State.reset with
  regs := [(Reg.SEG_CTL, 1)]
  seg := { Seg.reset with rings := [(0, { Ring.reset with fetched := [someDesc], unit := some ⟨1, 0, 0, [0], some 0, 32, true, none, none, 0, []⟩ })] } }

theorem wideStatus_calm : Calm wideStatus := calm_of_idle rfl rfl rfl rfl rfl rfl rfl ⟨rfl, rfl⟩

/-- Refutes O45: bit 5 of a unit's status falls on the DONE bit of the status word and clears it. -/
theorem not_streamUnits : ¬ Obligations.StreamUnits := by
  intro h
  obtain ⟨-, hcommit, -⟩ := h 0 wideStatus wideStatus_calm
  obtain ⟨-, -, -, j, hlast, -, -, -, -, hwrites⟩ :=
    holds_after (hcommit ⟨1, 0, 0, [0], some 0, 32, true, none, none, 0, []⟩ (by decide +kernel) (by decide +kernel) (by decide +kernel) (by decide +kernel) rfl)
  have hshown : (((after (.unitCommit 0) wideStatus).ring 0).jobs.getLast?.map (fun j => j.writes.any (fun w => !bget w.w2 39))) = some true := by
    decide +kernel
  have hclear : j.writes.any (fun w => !bget w.w2 39) = true := Option.some.inj ((congrArg _ hlast).symm.trans hshown)
  obtain ⟨w, hw, hbit⟩ := List.any_eq_true.1 hclear
  simp [(hwrites w hw).1] at hbit

end Sys2Proof.Machine
end

section
/-!
SUPPORT. A home whose held transaction lets requests of another home's list go, two of which write lines of its own.
-/
set_option linter.constructorNameAsVariable false

namespace Sys2Proof.Machine

/-- A write of a whole line at home 0. -/
def lineWrite : CMsg := { blankMsg 0 wrU 0 0 0x10000 with mask := fullMask, data := zeroLine }

/-- A held recall of home 0, made for a retried eviction at home 1. -/
def heldRecall : Trk := ⟨blankMsg 0 recallReq 15 0 0x20, none, [], none, false, false, .held, .s, some { blankMsg 0 evictReq 0 1 0x21 with rc := 4 }⟩

/-- Home 0 holds a recall, and two writes for home 0 wait at home 1. -/
def crossedHomes : State := { State.reset with
  slices := [(0, { Slice.reset with trk := [(0, heldRecall)] }), (1, { Slice.reset with waiting := [lineWrite, lineWrite] })] }

/-- Refutes O34: the end of the hold lets the eviction at home 1 proceed, which releases both writes; the first is a new epoch event, and the second is held. -/
theorem not_homeAnswers : ¬ Obligations.HomeAnswers := by
  intro h
  obtain ⟨-, -, hhold⟩ := h
  obtain ⟨-, hone⟩ := hhold 0 crossedHomes
  have hnone := holds_after (hone 0 heldRecall rfl rfl rfl rfl)
  have hshown : ((after (.epochHoldEnd 0) crossedHomes).slice 0).trk.any (fun e => decide (e.2.phase = .held)) = true := by decide +kernel
  obtain ⟨e, he, hheld⟩ := List.any_eq_true.1 hshown
  exact hnone e he (of_decide_eq_true hheld)

end Sys2Proof.Machine
end

section
/-!
SUPPORT. A halted ring whose unit in progress still uses a fetched descriptor.
-/
set_option linter.constructorNameAsVariable false

namespace Sys2Proof.Machine

/-- The initiator at endpoint 18, at level 3; its bound is left to the kernel as that of `initiator18` is. -/
def initiator18High : Initiator := ⟨⟨18, by decide +kernel⟩, 3, 0⟩

/-- Ring 0 of function 0 has halted with a unit in progress that uses its one fetched descriptor. -/
def haltedInUnit : State := { State.reset with
  regs := [(Reg.SEF_ID 0, 0x100), (Reg.SEF_RING_STATUS 0, 3 * 2 ^ 13)]
  seg := { Seg.reset with
    owner := [(0, 0)]
    rings := [(0, { Ring.reset with fetched := [someDesc], unit := some ⟨1, 0, 0, [], none, 0, false, none, none, 0, []⟩ })] } }

theorem haltedInUnit_calm : Calm haltedInUnit := calm_of_idle rfl rfl rfl rfl rfl rfl rfl ⟨rfl, rfl⟩

/-- Refutes O44: RESUME keeps the descriptors that the unit in progress uses (R463), so the ring's fetched descriptors do not all go. -/
theorem not_ringRegisters : ¬ Obligations.RingRegisters := by
  intro h
  obtain ⟨hslot, -⟩ := h initiator18High 0 0 0 haltedInUnit
  obtain ⟨-, -, -, -, hresume, -⟩ := hslot ⟨haltedInUnit_calm, by decide +kernel⟩ (by decide +kernel) (by decide +kernel)
  obtain ⟨-, -, -, hgone, -⟩ := holds_after (hresume (by decide +kernel))
  have hshown : ((after (.ringResume initiator18High 0 0 0) haltedInUnit).ring 0).fetched = [someDesc] := by decide +kernel
  exact absurd (hshown.symm.trans hgone) (by decide)

end Sys2Proof.Machine
end

section
/-!
SUPPORT. A response of an earlier generation that is still in flight to the debug agent's endpoint, on the tag its next access takes.
-/
set_option linter.constructorNameAsVariable false

namespace Sys2Proof.Machine

/-- A stale response to endpoint 30: tag 0 of generation 5. -/
def staleAnswer (code : Nat) : Pkt := ⟨1, true, code, 0, 30, 0, 5, .ok, 0, 1, 0, 0, .cas, 31, false, [⟨0, .good⟩], PktExt.zero⟩

/-- The host's request to read word 40000h. -/
def readRequest : List Word := [0x10 * 2 ^ 32 + 1, 0x40000]

/-- The host asks, with debug unlocked and its port on, for a word of core 0's close memory that holds 7; a stale response is on its way. -/
def staleRead : State := { State.reset with
  regs := [(Reg.BSQ_DEBUG, 1), (Reg.HPT_CTL, 1)]
  close := memWrite 0 ⟨7, .good⟩ []
  fab := { Fab.reset with inflight := [staleAnswer 0] }
  boot := { Boot.reset with reqs := [readRequest] } }

theorem staleRead_calm : Calm staleRead := calm_of_idle rfl rfl rfl rfl rfl rfl rfl ⟨rfl, rfl⟩

theorem staleRead_asks : HostAsks staleRead 0x10 1 readRequest where
  calm := staleRead_calm
  front := rfl
  idle := rfl
  room := by decide +kernel
  code := by decide +kernel
  args := by decide +kernel

theorem staleRead_path : Path staleRead 30 0 where
  calm := staleRead_calm
  linked := { flaws := rfl, there := by decide +kernel, back := by decide +kernel, flows := by decide +kernel, tag := by decide +kernel, probes := by decide +kernel }
  clear := rfl
  isOpen := by decide +kernel

/-- Refutes O49: the stale response is taken for the answer to READ_WORD, whose tag it names, and the host is told 0 for a word that holds 7. -/
theorem not_hostCommands : ¬ Obligations.HostCommands := by
  intro h
  obtain ⟨-, -, hread, -⟩ := h.2 readRequest staleRead
  obtain ⟨-, hword⟩ := hread staleRead_asks
  obtain ⟨⟨-, hwords, -, -⟩, -⟩ := holds_after (hword 0 (by decide) (by decide +kernel) (by decide +kernel) staleRead_path (by decide +kernel) (by decide +kernel)
    (by decide +kernel))
  have hshown : ((after .readWord staleRead).hpt.rsp.take 2).getD 1 0 = 0 := by decide +kernel
  have hheld : (memRead staleRead.close 0).v = 7 := by decide +kernel
  exact absurd (hshown.symm.trans ((congrArg (fun l => l.getD 1 0) hwords).trans hheld)) (by decide)

end Sys2Proof.Machine
end

section
/-!
SUPPORT. A register of pin functions that holds a reserved code already, which each later write of another line's code repeats.
-/
set_option linter.constructorNameAsVariable false

namespace Sys2Proof.Machine

/-- Pass 2 stands before a PINMUX record of one word, which gives line 0 the code 0; line 1 holds the reserved code 15. -/
def reservedPin : State := { State.reset with
  regs := [(Reg.BSQ_STATUS, 3 * 2 ^ 7), (Reg.BSQ_IMAGE_LEN, 18), (Reg.SYS_PINMUX 0, 0xF0)]
  boot := { Boot.reset with pos := 16, again := List.replicate 16 0 ++ [2 * 2 ^ 32 + 1, 0] } }

theorem reservedPin_next : RecNext reservedPin 2 16 0 [0] where
  calm := calm_of_idle rfl rfl rfl rfl rfl rfl rfl ⟨rfl, rfl⟩
  here := by decide +kernel

/-- Refutes O51: the sequencer writes the whole register, so the reserved code of line 1 makes the write of line 0 a reserved one, and the boot stops. -/
theorem not_imageRecords : ¬ Obligations.ImageRecords := by
  intro h
  obtain ⟨-, hpinmux, -⟩ := h 16 0 [0] reservedPin (by decide +kernel)
  obtain ⟨hdone, -⟩ := holds_after (hpinmux reservedPin_next (by decide) (by decide) (by decide) (by decide) (by decide +kernel) (by decide +kernel))
  have hshown : (after .recPinmux reservedPin).fld Reg.BSQ_STATUS 9 7 = 5 := by decide +kernel
  exact absurd (hshown.symm.trans hdone.state) (by decide)

end Sys2Proof.Machine
end

section
/-!
SUPPORT. An END record that a stage-split sequence in progress makes wait.
-/
set_option linter.constructorNameAsVariable false

namespace Sys2Proof.Machine

/-- Pass 2 of an empty image, whose digest differs from that of pass 1, while a stage split is in progress. -/
def splitAtEnd : State := { State.reset with
  regs := [(Reg.BSQ_STATUS, 3 * 2 ^ 7)]
  split := some (0, 0)
  boot := { Boot.reset with digest := imgDigest [] 0 + 1 } }

theorem splitAtEnd_calm : Calm splitAtEnd := calm_of_idle rfl rfl rfl rfl rfl rfl rfl ⟨rfl, rfl⟩

theorem splitAtEnd_digest : imgDigest [] 0 ≠ splitAtEnd.boot.digest := by
  show imgDigest [] 0 ≠ imgDigest [] 0 + 1
  simp

/-- Refutes O52: the digests are not compared before the split has ended (R28), so END does not stop this boot. -/
theorem not_bootPasses : ¬ Obligations.BootPasses := by
  intro h
  obtain ⟨-, -, hend⟩ := h [] [] splitAtEnd splitAtEnd_calm
  obtain ⟨-, hdiffers⟩ := hend [] 0 0 [] ⟨by decide +kernel, rfl, by decide +kernel, by decide +kernel⟩
  have hstops := holds_after (hdiffers splitAtEnd_digest)
  have hshown : (after .endRecord splitAtEnd).fld Reg.BSQ_STATUS 9 7 = 3 := by decide +kernel
  exact absurd (hshown.symm.trans hstops.state) (by decide)

end Sys2Proof.Machine
end

section
/-!
SUPPORT. The debug block's statements at states their hypotheses leave in: an instruction that has an access under way, and a response of an earlier
generation on its way to the debug agent.
-/
set_option linter.constructorNameAsVariable false

namespace Sys2Proof.Machine

/-- The initiator at endpoint 30; its bound is left to the kernel as that of `initiator18` is. -/
def initiator30 : Initiator := ⟨⟨30, by decide +kernel⟩, 3, 0⟩

/-! ### A halt request within an instruction -/

/-- Core 0 runs a load that waits for its word over the fabric. -/
def loadUnderWay : State := { State.reset with
  cores := [(0, { Core.reset with run := .running, io := [⟨.load, 0x48000, none⟩] })] }

theorem loadUnderWay_calm : Calm loadUnderWay := calm_of_idle rfl rfl rfl rfl rfl rfl rfl ⟨rfl, rfl⟩

/-- Refutes O55: a core that waits for the answer to an access is halted at the boundary after its instruction, not at once. -/
theorem not_debugControl : ¬ Obligations.DebugControl := by
  intro h
  obtain ⟨hhalt, -⟩ := h initiator30 0 1 loadUnderWay
  obtain ⟨hrunning, -⟩ := hhalt (by decide) (by decide) ⟨loadUnderWay_calm, by decide +kernel⟩
  obtain ⟨-, hhalted, -⟩ := holds_after (hrunning ⟨by decide +kernel, by decide +kernel⟩ (by decide +kernel) (by decide +kernel))
  have hshown : ((after (.dbgCoreHalt initiator30 1) loadUnderWay).core 0).halted = false := by decide +kernel
  exact absurd (hshown.symm.trans hhalted) (by decide)

/-! ### A stale response at the debug port -/

/-- The debug port addresses its mailbox, whose word 0 is 7; a stale response is on its way to endpoint 30. -/
def staleMailbox : State := { State.reset with
  regs := [(Reg.DBG_JTAG_ADDR, BitVec.ofNat 40 (Reg.DBG_MBOX_IN 0)), (Reg.DBG_MBOX_IN 0, 7)]
  fab := { Fab.reset with inflight := [staleAnswer 0] }
  jtag := { Jtag.reset with ir := 0x10 } }

theorem staleMailbox_calm : Calm staleMailbox := calm_of_idle rfl rfl rfl rfl rfl rfl rfl ⟨rfl, rfl⟩

theorem staleMailbox_path : Path staleMailbox 30 (pageOwner (staleMailbox.fld Reg.DBG_JTAG_ADDR 33 0)) where
  calm := staleMailbox_calm
  linked := { flaws := rfl, there := by decide +kernel, back := by decide +kernel, flows := by decide +kernel, tag := by decide +kernel, probes := by decide +kernel }
  clear := rfl
  isOpen := by decide +kernel

/-- Refutes O56: the stale response is taken for the answer to READ, whose tag it names, and DATA shows 0 for a mailbox word that holds 7. -/
theorem not_jtagPort : ¬ Obligations.JtagPort := by
  intro h
  obtain ⟨hops, -⟩ := h 0 staleMailbox
  obtain ⟨-, -, -, hread, -⟩ := hops { calm := staleMailbox_calm, ir := rfl, free := rfl }
  obtain ⟨-, hdata, -⟩ := holds_after (hread 0 (by decide) (by decide +kernel) rfl staleMailbox_path)
  have hshown : (after (.jtagRead 0) staleMailbox).jtag.data = 0 := by decide +kernel
  have hheld : staleMailbox.reg (Reg.DBG_MBOX_IN 0) = 7 := by decide +kernel
  exact absurd (hshown.symm.trans (hdata.trans hheld)) (by decide)

end Sys2Proof.Machine
end

section
/-!
SUPPORT. A group whose canary has been compared before its stores could leave.
-/
set_option linter.constructorNameAsVariable false

namespace Sys2Proof.Machine

/-- The oldest group of pair 0, with a good entry and no stores. -/
def readyGroup : DelayEnt := ⟨1, 0, 0, [], none, false, ⟨[], [], 0, 0, none, []⟩⟩

/-- The leader of pair 0 waits for the comparison of group 0, whose canary has been compared already. -/
def canaryBefore : State := { State.reset with
  pairs := [(0, { Pair.reset with started := true, blocked := true, canaryDone := true, entries := [readyGroup], leadGroups := 1 })] }

theorem canaryBefore_calm : Calm canaryBefore := calm_of_idle rfl rfl rfl rfl rfl rfl rfl ⟨rfl, rfl⟩

/-- Refutes O21: the canary of a group is compared and counted once, so the comparison that follows it counts no second one. -/
theorem not_groupComparison : ¬ Obligations.GroupComparison := by
  intro h
  obtain ⟨hmatch, -⟩ := h 0 canaryBefore readyGroup [] canaryBefore_calm (by decide +kernel) rfl rfl rfl rfl
  obtain ⟨-, -, hcount, -⟩ := holds_after (hmatch rfl rfl)
  have hshown : (after (.groupCompare 0) canaryBefore).reg (Reg.PAIR_CANARY_CNT 0) = 0 := by decide +kernel
  have hclaimed : canaryBefore.reg (Reg.PAIR_CANARY_CNT 0) +
      (if ((canaryBefore.pair 0).leadGroups - ([] : List DelayEnt).length - 1) % canaryBefore.fld (Reg.PAIR_CANARY 0) 15 0 = 0 then 1 else 0) = 1 := by
    decide +kernel
  exact absurd (hshown.symm.trans (hcount.trans hclaimed)) (by decide)

end Sys2Proof.Machine
end

section
/-!
SUPPORT. A timebase whose PLL has lost lock stands still without a loss of XA being shown.
-/
set_option linter.constructorNameAsVariable false

namespace Sys2Proof.Machine

/-- The initiator at endpoint 28; its bound is left to the kernel as that of `initiator18` is. -/
def initiator28 : Initiator := ⟨⟨28, by decide +kernel⟩, 3, 0⟩

/-- The PLL has lost lock (R334), so no tick passes; `TB_STATUS[1]` is 0. -/
def unlockedBase : State := { State.reset with tb := { State.reset.tb with unlocked := true } }

theorem unlockedBase_calm : Calm unlockedBase := calm_of_idle rfl rfl rfl rfl rfl rfl rfl ⟨rfl, rfl⟩

/-- Refutes O27: after the PLL has lost lock a step of the timebase is not taken, though `TB_STATUS[1]` is 0. -/
theorem not_timebaseCommands : ¬ Obligations.TimebaseCommands := by
  intro h
  obtain ⟨hstep, -⟩ := h initiator28 5 unlockedBase unlockedBase_calm
  obtain ⟨hnow, -⟩ := holds_after (hstep ⟨unlockedBase_calm, by decide +kernel⟩ (by decide +kernel) (by decide +kernel))
  have hshown : (after (.tbStep initiator28 5) unlockedBase).now = 0 := by decide +kernel
  have hclaimed : (unlockedBase.now + (unlockedBase.reg Reg.TB_STEP_HI).toNat * 2 ^ 40 + (5 : Word).toNat) % 2 ^ 80 = 5 := by decide +kernel
  exact absurd (hshown.symm.trans (hnow.trans hclaimed)) (by decide)

end Sys2Proof.Machine
end

section
/-!
SUPPORT. A tag whose destination is beyond the five bits that `FAB_ERR_INFO` keeps of it.
-/
set_option linter.constructorNameAsVariable false

namespace Sys2Proof.Machine

/-- Interface 23 has waited for an answer to tag 0 since pulse 0; the tag names destination 32. -/
def farTag : State := { State.reset with
  fab := { State.reset.fab with ni := [(23, { Ni.reset with tags := [(0, ⟨.busy, 0, 32, 0, 0, 0, false, false⟩)] })] }
  tb := { State.reset.tb with pulses := 1 } }

theorem farTag_calm : Calm farTag := calm_of_idle rfl rfl rfl rfl rfl rfl rfl ⟨rfl, rfl⟩

/-- The packet that the clauses about responses name; none is in flight. -/
def noPacket : Pkt := mkReq ⟨0, 0, 0⟩ 0 0 0 .cas false 0 []

/-- Refutes O36: the record of a time-out takes the tag's destination unmasked, so destination 32 of interface 23 shows as interface 24. -/
theorem not_fabricRequests : ¬ Obligations.FabricRequests := by
  rintro ⟨-, h⟩
  obtain ⟨-, -, htimeout, -⟩ := h 23 0 noPacket farTag (by decide) farTag_calm rfl rfl (by decide +kernel) (by decide +kernel)
  obtain ⟨-, -, -, -, hinfo, -⟩ := holds_after (htimeout (by decide +kernel) (by decide +kernel) (by decide +kernel) (by decide +kernel))
  have hshown : (after (.fabTimeout 23 0) farTag).fld Reg.FAB_ERR_INFO 15 11 = 24 := by decide +kernel
  exact absurd (hshown.symm.trans hinfo) (by decide)

end Sys2Proof.Machine
end

section
/-!
SUPPORT. A supply block whose two records still wait for the collector of the error log.
-/
set_option linter.constructorNameAsVariable false

namespace Sys2Proof.Machine

/-- PWR has offered two records, as many as a block holds (R667), and its last sample read 1000 mV. -/
def crowdedLog : State := { State.reset with
  errlog := { State.reset.errlog with await := [⟨.pwr, 0x69, 0, 0, 0, 0⟩, ⟨.pwr, 0x69, 0, 0, 0, 0⟩] }
  pwr := { State.reset.pwr with last := some 1000 } }

theorem crowdedLog_calm : Calm crowdedLog := calm_of_idle rfl rfl rfl rfl rfl rfl rfl ⟨rfl, rfl⟩

/-- Refutes O38: monitors that read 1000 mV and 1100 mV disagree; the record of it is lost, and `SYS_ERRLOG_LOST_CNT` counts it. -/
theorem not_supplyAndShedding : ¬ Obligations.SupplyAndShedding := by
  intro h
  obtain ⟨hsample, -⟩ := h initiator28 0 10 200 220 220 220 1000 crowdedLog crowdedLog_calm rfl rfl
  obtain ⟨-, -, -, hregs, -⟩ := holds_after (hsample (by decide +kernel) (by decide +kernel))
  have hshown : (after (.supplySample 10 200 220 220 220) crowdedLog).reg Reg.SYS_ERRLOG_LOST_CNT = 1 := by decide +kernel
  have hclaimed : crowdedLog.reg Reg.SYS_ERRLOG_LOST_CNT = 0 := by decide +kernel
  exact absurd (hshown.symm.trans ((hregs _ (by decide)).trans hclaimed)) (by decide)

end Sys2Proof.Machine
end

section
/-!
SUPPORT. A request to the partner whose packet names an endpoint far beyond those that exist.
-/
set_option linter.constructorNameAsVariable false

namespace Sys2Proof.Machine

/-- A request that came to port 0 from endpoint 20, addressed to endpoint 0xFF78: the flit count of that endpoint's router, `FAB_RTR_FLITS 0x7FBC`, has the
address of `CUF_DOWN_CNT 0`. -/
def strayRequest : Pkt := { mkReq ⟨20, 3, 0⟩ 0 0 0 .cas false 0 [] with dst := 0xFF78 }

/-- Port 0 has retrained for 30 pulses with that request unanswered; the route back is valid, with no hop. -/
def strayLink : State := { State.reset with
  regs := [(Reg.CUF_STATUS 0, 3), (routeKey 0xFF78 20, 0x8000)]
  cuf := [(0, { CufPort.reset with outTags := [(0, newOut (some strayRequest) none)] })]
  tb := { State.reset.tb with pulses := 30 } }

theorem strayLink_calm : Calm strayLink := calm_of_idle rfl rfl rfl rfl rfl rfl rfl ⟨rfl, rfl⟩

/-- Refutes O40: the answer LINK_DOWN to the stray request adds its 2 flits to `CUF_DOWN_CNT`, so one link-down counts 3. -/
theorem not_cuffBringUp : ¬ Obligations.CuffBringUp := by
  intro h
  obtain ⟨-, -, -, -, -, -, -, -, -, -, -, htimeout, -⟩ := h initiator28 0 0 strayLink strayLink_calm
  obtain ⟨-, hcount, -⟩ := holds_after (htimeout (by decide +kernel) (by decide +kernel))
  have hshown : (after (.retrainTimeout 0) strayLink).reg (Reg.CUF_DOWN_CNT 0) = 3 := by decide +kernel
  have hclaimed : strayLink.reg (Reg.CUF_DOWN_CNT 0) + 1 = 1 := by decide +kernel
  exact absurd (hshown.symm.trans (hcount.trans hclaimed)) (by decide)

end Sys2Proof.Machine
end

section
/-!
SUPPORT. A HELLO that comes from another port of the neighbor than the one the consort record names.
-/
set_option linter.constructorNameAsVariable false

namespace Sys2Proof.Machine

/-- Word 0 of a HELLO: member 1, a follower in the consort, sealed, its straps in order. -/
def helloWord : Word := BitVec.ofNat 40 (2 ^ 34 + 2 ^ 5 + 2 ^ 4)

/-- That HELLO, number 0 on VC 8h, with its CRC. -/
def crossedHello : CufRx :=
  ⟨BitVec.ofNat 80 (7 * 2 ^ 76 + 8 * 2 ^ 72 + 2 * 2 ^ 42), [helloWord.setWidth 80, 0], BitVec.ofNat 80 399832260⟩

/-- A sealed leader whose port 0 leads to port 1 of member 1 by the consort record, but to port 0 of it by the blocks that arrive. -/
def crossedCable : State := { State.reset with
  regs := [(Reg.BSQ_STATUS, 2 ^ 10), (Reg.CUF_STATUS 0, 2), (Reg.CNS_ID, 4), (Reg.CNS_PEER 1, 2)]
  cuf := [(0, { CufPort.reset with partner := some 0 })]
  cns := { State.reset.cns with far := [(0, (1, 1))] } }

theorem crossedCable_calm : Calm crossedCable := calm_of_idle rfl rfl rfl rfl rfl rfl rfl ⟨rfl, rfl⟩

theorem crossedHello_mgmt : Mgmt crossedCable 0 crossedHello 0 helloWord 0 0 0 where
  arrives := {
    calm := crossedCable_calm
    state := Or.inl (by decide +kernel)
    noResync := by decide +kernel
    good := by decide +kernel
    isKind := by decide +kernel
    vc := by decide +kernel
    member := fun h => absurd (by decide +kernel : (rxPkt crossedHello).vc = 8) h
    noReturns := by decide +kernel
    acks := by decide +kernel
    inTurn := fun _ => by decide +kernel
    room := fun _ => by decide +kernel
    idle := by decide +kernel }
  up := by decide +kernel
  words := by decide +kernel
  fine := by decide +kernel
  kind := by decide +kernel

/-- Refutes O42: the neighbor's fingerprint is this device's, yet the link stays apart, for the cable comes from the wrong port of it. -/
theorem not_consortMessages : ¬ Obligations.ConsortMessages := by
  intro h
  obtain ⟨hhello, -⟩ := h 0 crossedHello helloWord 0 0 0 crossedCable
  obtain ⟨-, -, -, -, hjoin⟩ := holds_after (hhello crossedHello_mgmt)
  obtain ⟨-, hsame⟩ := hjoin (by decide +kernel) (by decide +kernel) (by decide +kernel) (by decide +kernel) (by decide +kernel) (by decide +kernel) (by decide +kernel)
  obtain ⟨hjoined, -⟩ := hsame (by decide +kernel) (Or.inr (by decide +kernel))
  have hshown : (after (.cnsHello 0 crossedHello) crossedCable).bit (Reg.CUF_STATUS 0) 4 = false := by decide +kernel
  exact absurd (hshown.symm.trans hjoined) (by decide)

end Sys2Proof.Machine
end

section
/-!
SUPPORT. A request in flight to a home slice that does not exist, which the engine's eviction of its descriptor lines delivers.
-/
set_option linter.constructorNameAsVariable false

namespace Sys2Proof.Machine

/-- Ring 0 of function 0 has one descriptor line in the engine's cache. A request to slice 0x30 is in flight, whose event counter 11 has the address of
`SEF_RESET_CNT 0` and counts requests. -/
def strayMessage : State := { State.reset with
  regs := [(Reg.HS_CNT_SEL 0x30 11, 0x101), (Reg.SEF_ID 0, 0x100), (Reg.SEF_WIN_A 0 0, 0xE000000100), (Reg.SEF_WIN_B 0 0, 0x0000400100), (Reg.SYS_MAP_STAGE, 1),
    (Reg.SEF_RING_BASE 0, 0x100000)]
  agents := [(8, { Agent.reset with lines := [(0x10000, ⟨.s, []⟩)] })]
  net := [blankMsg 0 evictReq 0 0x30 0]
  seg := { Seg.reset with owner := [(0, 0)] } }

theorem strayMessage_calm : Calm strayMessage := calm_of_idle rfl rfl rfl rfl rfl rfl rfl ⟨rfl, rfl⟩

/-- Refutes O43: the reset evicts the ring's descriptor line, and with it the stray request arrives and counts in `SEF_RESET_CNT`, which shows 2. -/
theorem not_functionsAndRings : ¬ Obligations.FunctionsAndRings := by
  intro h
  obtain ⟨-, hfunction, -⟩ := h initiator18High 0 strayMessage
  obtain ⟨hreset, -⟩ := hfunction 0 ⟨strayMessage_calm, by decide +kernel⟩ (by decide +kernel)
  obtain ⟨-, hisReset⟩ := holds_after hreset
  have hshown : (after (.functionReset initiator18High 0 0) strayMessage).reg (Reg.SEF_RESET_CNT 0) = 2 := by decide +kernel
  have hclaimed : strayMessage.reg (Reg.SEF_RESET_CNT 0) + 1 = 1 := by decide +kernel
  exact absurd (hshown.symm.trans (hisReset.count.trans hclaimed)) (by decide)

end Sys2Proof.Machine
end

section
/-!
SUPPORT. A transmit ring whose data read delivers a stray request, which binds a second ring to another queue.
-/
set_option linter.constructorNameAsVariable false

namespace Sys2Proof.Machine

/-- The initiator at endpoint 26; its bound is left to the kernel as that of `initiator18` is. -/
def initiator26 : Initiator := ⟨⟨26, by decide +kernel⟩, 3, 0⟩

/-- A transmit ring with one descriptor of 10 octets in stage memory, whose unit has not begun to move. -/
def waitingRing : Ring := { Ring.reset with bound := true, fetched := [⟨0, 0, 10, 0, 0x100000⟩], unit := some { freshUnit with n := 1 } }

/-- Rings 0 and 1 are both bound to queue 0, of which ring 0 is found first; a pause holds the MAC. A request to slice 0x1F0 is in flight, whose event counter 0
has the address of ring 1's CFG: its count carries into BIND. -/
def rebindingRing : State := { State.reset with
  regs := [(Reg.ETH_CTL, 1), (Reg.SEF_RING_CFG 0, 0x300000000), (Reg.SEF_RING_CFG 1, 0x30000FFFF), (Reg.HS_CNT_SEL 0x1F0 0, 0x101), (Reg.SEF_CFG 0, 48),
    (Reg.SYS_MAP_STAGE, 1), (Reg.HS_SPLIT 0, 1), (routeKey 18 8, 0x8000), (routeKey 8 18, 0x8000)]
  net := [blankMsg 0 evictReq 0 0x1F0 0]
  seg := { Seg.reset with rings := [(0, waitingRing), (1, waitingRing)] }
  eth := { Eth.reset with pause := some (0, 1) } }

theorem rebindingRing_calm : Calm (pump busSrv 0 (cbsAdvance rebindingRing)) where
  flaws := by decide +kernel
  held := by decide +kernel
  retired := by decide +kernel
  blocked := by decide +kernel
  inter := by decide +kernel
  waiting := by decide +kernel
  rxq := by decide +kernel
  draining := by decide +kernel
  stores := by decide +kernel
  sources := by decide +kernel

/-- Refutes O58: ring 0's read changes the binding of ring 1, which is pumped next for queue 1, so the paused MAC does more than pump ring 0. -/
theorem not_ethernetMac : ¬ Obligations.EthernetMac := by
  intro h
  obtain ⟨-, -, -, htransmit, -⟩ := h initiator26 0 rebindingRing
  obtain ⟨e, he⟩ : ∃ e, SMap.find 0 (pump busSrv 0 (cbsAdvance rebindingRing)).eth.txq = some e := Option.isSome_iff_exists.mp (by decide +kernel)
  obtain ⟨u, hu⟩ : ∃ u, ((pump busSrv 0 (cbsAdvance rebindingRing)).ring e.ring).unit = some u := by
    have hring : (SMap.find 0 (pump busSrv 0 (cbsAdvance rebindingRing)).eth.txq).map (·.ring) = some 0 := by decide +kernel
    rw [he] at hring
    rw [show e.ring = 0 from Option.some.inj hring]
    exact Option.isSome_iff_exists.mp (by decide +kernel)
  obtain ⟨-, hpaused⟩ := htransmit 0 0 (by decide) (by decide +kernel) (by decide +kernel) (by decide +kernel) e u
    ⟨rebindingRing_calm, by decide +kernel, by decide +kernel, he, hu⟩
  obtain ⟨-, hidles⟩ := holds_after (hpaused (by decide +kernel))
  have hshown : (after .ethFrameTransmit rebindingRing).reg (Reg.SEF_REQ_CNT 0) = 2 := by decide +kernel
  have hclaimed : (pump busSrv 0 (cbsAdvance rebindingRing)).reg (Reg.SEF_REQ_CNT 0) = 1 := by decide +kernel
  exact absurd (hshown.symm.trans ((hidles.regs _ List.not_mem_nil).trans hclaimed)) (by decide)

end Sys2Proof.Machine
end

section
/-!
SUPPORT. What the register-only instructions of a ready core leave: their results in registers, and the bits of `cs.FLAGS` (R86, R155).
-/
set_option linter.constructorNameAsVariable false

namespace Sys2Proof.Machine

/-! ### Flags -/

theorem packFlags_lt (z n c v sat : Bool) : packFlags z n c v sat < 32 := by
  cases z <;> cases n <;> cases c <;> cases v <;> cases sat <;> decide

@[simp] theorem flagZ_packFlags (z n c v sat : Bool) : flagZ (packFlags z n c v sat) = z := by
  cases z <;> cases n <;> cases c <;> cases v <;> cases sat <;> rfl
@[simp] theorem flagN_packFlags (z n c v sat : Bool) : flagN (packFlags z n c v sat) = n := by
  cases z <;> cases n <;> cases c <;> cases v <;> cases sat <;> rfl
@[simp] theorem flagC_packFlags (z n c v sat : Bool) : flagC (packFlags z n c v sat) = c := by
  cases z <;> cases n <;> cases c <;> cases v <;> cases sat <;> rfl
@[simp] theorem flagV_packFlags (z n c v sat : Bool) : flagV (packFlags z n c v sat) = v := by
  cases z <;> cases n <;> cases c <;> cases v <;> cases sat <;> rfl
@[simp] theorem flagS_packFlags (z n c v sat : Bool) : flagS (packFlags z n c v sat) = sat := by
  cases z <;> cases n <;> cases c <;> cases v <;> cases sat <;> rfl

/-- The flags after a write of them. -/
theorem flags_setFlags (s : State) (c f : Nat) (h : f < 32) : (s.setFlags c f).flags c = f := by
  rw [State.flags, State.fld, State.setFlags, reg_setFld_self, fget_fset_self _ _ _ _ (by omega) (by omega)]
  exact Nat.mod_eq_of_lt h

/-- Bit 39 of a word is its sign (R57). -/
theorem bit39_eq_sign (w : Word) : w.getLsbD 39 = decide (w.toInt < 0) :=
  (BitVec.msb_eq_getLsbD_last w).symm.trans (BitVec.msb_eq_toInt)

/-! ### Registers an instruction leaves -/

section
variable {s g t : State} {c : Nat}

/-- The registers of the device stay where an instruction that moves only counts retires from a state of the same registers. -/
theorem sameRegsBut_nil (hr : ∀ a, ¬ countsOf c a → t.reg a = g.reg a) (hg : g.regs = s.regs) : SameRegsBut c [] s t :=
  fun a ha _ => (hr a ha).trans (reg_congr hg a)

theorem sameRegsBut_setFlags {f : Nat} (hr : ∀ a, ¬ countsOf c a → t.reg a = (g.setFlags c f).reg a) (hg : g.regs = s.regs) :
    SameRegsBut c [Reg.CS_FLAGS c] s t := fun a ha hl => by
  rw [hr a ha, State.setFlags, reg_setFld_ne (by simpa using hl), reg_congr hg a]

theorem flags_of_setFlags {f : Nat} (hr : ∀ a, ¬ countsOf c a → t.reg a = (g.setFlags c f).reg a) (h : f < 32) : t.flags c = f := by
  rw [State.flags, State.fld, hr _ (flags_not_count c)]
  exact flags_setFlags g c f h

end

theorem retCount_setFlags (s : State) (c f : Nat) : (s.setFlags c f).reg (Reg.CS_RET_COUNT c) = s.reg (Reg.CS_RET_COUNT c) :=
  reg_setFld_ne (by simp only [Reg.CS_RET_COUNT, Reg.CS_FLAGS]; omega) ..

theorem setFlags_only (s : State) (c f : Nat) : RegsOnly s (s.setFlags c f) := regsOnly_setFld ..


/-! ### Kinds of register-only instructions -/

/-- An instruction that writes one general register and nothing else. -/
theorem gprInsn_ends {s : State} {i : Instr} {c rd cost : Nat} {long : Bool} {f : Nat → State → State} {v : Word}
    (hi : plainInsnOf i = some (c, plainInsn long cost f)) (h : Ready s c long) (hc : c < 8) (hf : f c s = s.setGpr c rd v) :
    ∃ t, ok (runInsn i s) = .next t ∧ GprResult c rd v s t ∧ SameAccs c s t ∧ Retired c (nextPc s c long) s t ∧ SameRegsBut c [] s t ∧ SameMemory s t := by
  have hb : (plainInsn long cost f).body c s = .ok (retTo (nextPc s c long)) (s.setGpr c rd v) := by
    rw [plainInsn_body (by rw [hf, corePc_setGpr]), hf]
  obtain ⟨t, ht, hres, haccs, hret, hregs, hmem⟩ := gpr_ends hi h hc rfl (Nat.zero_le _) rfl (RegsOnly.refl _) hb (setGpr_reg ..)
  exact ⟨t, ht, hres, haccs, hret, sameRegsBut_nil hregs (setGpr_regs ..), hmem⟩

/-- An instruction that writes one general register and the flags. -/
theorem gprFlagsInsn_ends {s : State} {i : Instr} {c rd cost fl : Nat} {long : Bool} {f : Nat → State → State} {v : Word}
    (hi : plainInsnOf i = some (c, plainInsn long cost f)) (h : Ready s c long) (hc : c < 8) (hfl : fl < 32)
    (hf : f c s = (s.setGpr c rd v).setFlags c fl) :
    ∃ t, ok (runInsn i s) = .next t ∧ GprResult c rd v s t ∧ SameAccs c s t ∧ Retired c (nextPc s c long) s t ∧
      SameRegsBut c [Reg.CS_FLAGS c] s t ∧ SameMemory s t ∧ t.flags c = fl := by
  have hpc : corePc ((s.setGpr c rd v).setFlags c fl) c = corePc s c := corePc_setGpr s c rd v
  have hb : (plainInsn long cost f).body c s = .ok (retTo (nextPc s c long)) ((s.setGpr c rd v).setFlags c fl) := by
    rw [plainInsn_body (by rw [hf, hpc]), hf]
  obtain ⟨t, ht, hres, haccs, hret, hregs, hmem⟩ := gpr_ends hi h hc rfl (Nat.zero_le _) rfl (setFlags_only ..) hb
    ((retCount_setFlags ..).trans (setGpr_reg ..))
  exact ⟨t, ht, hres, haccs, hret, sameRegsBut_setFlags hregs (setGpr_regs ..), hmem, flags_of_setFlags hregs hfl⟩

/-- An instruction that writes the flags and nothing else. -/
theorem flagsInsn_ends {s : State} {i : Instr} {c cost fl : Nat} {long : Bool} {f : Nat → State → State}
    (hi : plainInsnOf i = some (c, plainInsn long cost f)) (h : Ready s c long) (hc : c < 8) (hfl : fl < 32) (hf : f c s = s.setFlags c fl) :
    ∃ t, ok (runInsn i s) = .next t ∧ SameGprs c s t ∧ SameAccs c s t ∧ Retired c (nextPc s c long) s t ∧
      SameRegsBut c [Reg.CS_FLAGS c] s t ∧ SameMemory s t ∧ t.flags c = fl := by
  have hb : (plainInsn long cost f).body c s = .ok (retTo (nextPc s c long)) (s.setFlags c fl) := by
    rw [plainInsn_body (by rw [hf]; rfl), hf]
  obtain ⟨t, ht, hgprs, haccs, hret, hregs, hmem⟩ := regs_end hi h hc rfl (Nat.zero_le _) rfl (setFlags_only ..) hb (retCount_setFlags ..)
  exact ⟨t, ht, hgprs, haccs, hret, sameRegsBut_setFlags hregs rfl, hmem, flags_of_setFlags hregs hfl⟩

/-! ### Short register and immediate operations -/

/-- Settles O1: each operation writes the one register that its meaning names. -/
theorem shortAluResult : Obligations.ShortAluResult := by
  intro c s h
  refine ⟨fun op rd rs1 rs2 => ?_, fun rd op => ?_⟩
  · cases op <;> exact gprInsn_ends (i := .shortRegisterAlu c _ rd rs1 rs2) rfl h c.isLt rfl
  · cases op <;> exact gprInsn_ends (i := .shortImmediate c rd _) rfl h c.isLt rfl

/-! ### The compare group -/

/-- A difference leaves the signed range exactly where its word does not show it (R155). -/
theorem overflows_eq {x : Int} {w : Word} (h : w = BitVec.ofInt 40 x) : overflows x = decide (w.toInt ≠ x) := by
  have hw : w.toInt = x.bmod (2 ^ 40) := by rw [h, BitVec.toInt_ofInt]
  have hin : overflows x = true ↔ ¬ (-(2 ^ 39) ≤ x ∧ x ≤ 2 ^ 39 - 1) := by
    rw [overflows, inRange, ← Bool.decide_and, ← decide_not, decide_eq_true_eq]; rfl
  rw [Bool.eq_iff_iff, hin, decide_eq_true_eq, hw]
  by_cases hx : -(2 ^ 39) ≤ x ∧ x ≤ 2 ^ 39 - 1
  · have : x.bmod (2 ^ 40) = x := by rw [Int.bmod_eq_of_le] <;> omega
    exact iff_of_false (not_not_intro hx) (not_not_intro this)
  · refine iff_of_true hx fun e => ?_
    have hlo := Int.le_bmod (x := x) (m := 2 ^ 40) (by omega)
    have hhi := Int.bmod_lt (x := x) (m := 2 ^ 40) (by omega)
    rw [e] at hlo hhi
    omega

/-- A sum of words is the word of the sum. -/
theorem add_eq_ofInt (a b : Word) : a + b = BitVec.ofInt 40 (a.toInt + b.toInt) := by
  rw [BitVec.ofInt_add, BitVec.ofInt_toInt, BitVec.ofInt_toInt]

theorem sub_eq_ofInt (a b : Word) : a - b = BitVec.ofInt 40 (a.toInt - b.toInt) := by
  rw [Int.sub_eq_add_neg, BitVec.ofInt_add, BitVec.ofInt_neg, BitVec.ofInt_toInt, BitVec.ofInt_toInt, BitVec.sub_eq_add_neg]

theorem subRes_zero (a b : Word) : subRes a b 0 = ⟨a - b, decide (a.toNat < b.toNat), decide ((a - b).toInt ≠ a.toInt - b.toInt), false⟩ := by
  rw [← overflows_eq (sub_eq_ofInt a b)]; simp [subRes]

theorem addRes_zero (a b : Word) :
    addRes a b 0 = ⟨a + b, decide (2 ^ 40 ≤ a.toNat + b.toNat), decide ((a + b).toInt ≠ a.toInt + b.toInt), false⟩ := by
  rw [← overflows_eq (add_eq_ofInt a b)]; simp [addRes]

/-- The compare group, by what each of its operations compares. -/
theorem compare_ends {s : State} {i : Instr} {c cost : Nat} {long : Bool} {f : Nat → State → State} {op : CmpOp} {a b : Word}
    (hi : plainInsnOf i = some (c, plainInsn long cost f)) (h : Ready s c long) (hc : c < 8) (hf : f c s = cmpFlags op a b c s) :
    ∃ t, ok (runInsn i s) = .next t ∧ SameGprs c s t ∧ SameAccs c s t ∧
      flagZ (t.flags c) = decide ((cmpOp op a b).r = 0) ∧ flagN (t.flags c) = decide ((cmpOp op a b).r.toInt < 0) ∧
      flagC (t.flags c) = (cmpOp op a b).c ∧ flagV (t.flags c) = (cmpOp op a b).v ∧ flagS (t.flags c) = flagS (s.flags c) ∧
      Retired c (nextPc s c long) s t ∧ SameRegsBut c [Reg.CS_FLAGS c] s t ∧ SameMemory s t := by
  obtain ⟨t, ht, hgprs, haccs, hret, hregs, hmem, hfl⟩ := flagsInsn_ends hi h hc (packFlags_lt ..) hf
  refine ⟨t, ht, hgprs, haccs, ?_, ?_, ?_, ?_, ?_, hret, hregs, hmem⟩ <;> rw [hfl]
  · rw [flagZ_packFlags, beq_eq_decide]
  · rw [flagN_packFlags, bit39_eq_sign]
  · rw [flagC_packFlags]
  · rw [flagV_packFlags]
  · rw [flagS_packFlags, Bool.or_false]

/-- Settles O2: the flags are those of the operation's own record, whose carry and overflow are the ones named. -/
theorem compareFlags : Obligations.CompareFlags := by
  intro c op rs1 rs2 s h
  have hend := compare_ends (i := .compare c op rs1 rs2) (op := op) rfl h c.isLt rfl
  cases op with
  | cmp => rw [cmpOp, subRes_zero] at hend; exact hend
  | cmn => rw [cmpOp, addRes_zero] at hend; exact hend
  | tst => exact hend

end Sys2Proof.Machine
end

section
/-!
SUPPORT. The results of the long register and immediate operations (R136-R138, R155, R156) as the integers and bits they stand for.
-/
set_option linter.constructorNameAsVariable false

namespace Sys2Proof.Machine

/-! ### Saturation and pairs (R156) -/

theorem clamp_eq {lo hi : Int} (h : lo ≤ hi) (x : Int) : clamp lo hi x = max lo (min hi x) := by
  rw [clamp]; split <;> [skip; split] <;> omega

/-- A word of an integer in its range is that integer. -/
theorem toInt_ofInt_of_range {n : Nat} {x : Int} (hn : 0 < n) (hlo : -(2 ^ (n - 1)) ≤ x) (hhi : x < 2 ^ (n - 1)) : (BitVec.ofInt n x).toInt = x := by
  rw [BitVec.toInt_ofInt]
  have : (2 : Int) ^ n = 2 * 2 ^ (n - 1) := by rw [← pow_succ']; congr 1; omega
  apply Int.bmod_eq_of_le <;> push_cast <;> rw [this] <;> omega

theorem toInt_w40_clamp (x : Int) : (w40 (clamp minInt maxInt x)).toInt = max (-(2 ^ 39)) (min (2 ^ 39 - 1) x) := by
  rw [clamp_eq (by decide), w40, minInt, maxInt]
  exact toInt_ofInt_of_range (by omega) (by omega) (by omega)

theorem toInt_half_clamp (x : Int) : (BitVec.ofInt 20 (clamp (-(2 ^ 19)) (2 ^ 19 - 1) x)).toInt = max (-(2 ^ 19)) (min (2 ^ 19 - 1) x) := by
  rw [clamp_eq (by decide)]
  exact toInt_ofInt_of_range (by omega) (by omega) (by omega)

/-- The elements of a paired word. -/
theorem elem_append_lo (x y : BitVec 20) : elem (x ++ y) 0 = y.toInt := by
  have : (((x ++ y : BitVec (20 + 20)) >>> (20 * 0)).setWidth 20 : BitVec 20) = y := by
    apply BitVec.eq_of_getLsbD_eq
    intro i hi
    rw [BitVec.getLsbD_setWidth, BitVec.getLsbD_ushiftRight, BitVec.getLsbD_append]
    simp [hi]
  exact congrArg BitVec.toInt this

theorem elem_append_hi (x y : BitVec 20) : elem (x ++ y) 1 = x.toInt := by
  have : (((x ++ y : BitVec (20 + 20)) >>> (20 * 1)).setWidth 20 : BitVec 20) = x := by
    apply BitVec.eq_of_getLsbD_eq
    intro i hi
    rw [BitVec.getLsbD_setWidth, BitVec.getLsbD_ushiftRight, BitVec.getLsbD_append]
    simp [hi]
  exact congrArg BitVec.toInt this

/-- Each element of a paired result saturates on its own. -/
theorem elem_pairRes {x : Nat → Int} {k : Nat} (hk : k < 2) :
    elem (pairRes (x 0) (x 1)).r k = max (-(2 ^ 19)) (min (2 ^ 19 - 1) (x k)) := by
  obtain rfl | rfl : k = 0 ∨ k = 1 := by omega
  · exact (elem_append_lo ..).trans (toInt_half_clamp _)
  · exact (elem_append_hi ..).trans (toInt_half_clamp _)

/-! ### Bit counts -/

/-- The scan of `leadingZeros` up to bit k: no bit yet, or the highest bit set so far. -/
theorem leadingZeros_scan (a : Word) (k : Nat) :
    (∀ j, j < k → a.getLsbD j = false) ∧ (List.range k).foldl (fun n i => if a.getLsbD i then 39 - i else n) 40 = 40 ∨
    ∃ i, i < k ∧ a.getLsbD i = true ∧ (∀ j, i < j → j < k → a.getLsbD j = false) ∧
      (List.range k).foldl (fun n i => if a.getLsbD i then 39 - i else n) 40 = 39 - i := by
  induction k with
  | zero => exact Or.inl ⟨fun j hj => absurd hj (by omega), rfl⟩
  | succ k ih =>
    rw [List.range_succ, List.foldl_append, List.foldl_cons, List.foldl_nil]
    cases hk : a.getLsbD k with
    | true => exact Or.inr ⟨k, by omega, hk, fun j h1 h2 => absurd h1 (by omega), by simp⟩
    | false =>
      have step : ∀ j, j < k + 1 → j = k ∨ j < k := fun j hj => by omega
      rcases ih with ⟨hz, he⟩ | ⟨i, hi, hbit, hz, he⟩
      · exact Or.inl ⟨fun j hj => (step j hj).elim (fun e => e ▸ hk) (hz j), by simpa using he⟩
      · exact Or.inr ⟨i, by omega, hbit, fun j h1 hj => (step j hj).elim (fun e => e ▸ hk) (hz j h1), by simpa using he⟩

/-- A word without bits from k up is below 2^k. -/
theorem toNat_lt_of_high_zero (a : Word) (k : Nat) (h : ∀ j, k ≤ j → j < 40 → a.getLsbD j = false) : a.toNat < 2 ^ k := by
  apply Nat.lt_pow_two_of_testBit
  intro j hj
  by_cases hj40 : j < 40
  · exact h j hj hj40
  · exact BitVec.getLsbD_of_ge a j (by omega)

/-- Where a word lies among the powers of two, for its count of leading zeros. -/
theorem leadingZeros_bounds (a : Word) :
    leadingZeros a ≤ 40 ∧ a.toNat < 2 ^ (40 - leadingZeros a) ∧ (leadingZeros a < 40 → 2 ^ (39 - leadingZeros a) ≤ a.toNat) := by
  rcases leadingZeros_scan a 40 with ⟨hz, he⟩ | ⟨i, hi, hbit, hz, he⟩
  · rw [leadingZeros, he]
    exact ⟨le_rfl, toNat_lt_of_high_zero a 0 (fun j _ hj => hz j hj), fun h => absurd h (lt_irrefl _)⟩
  · rw [leadingZeros, he, show 40 - (39 - i) = i + 1 by omega, show 39 - (39 - i) = i by omega]
    exact ⟨by omega, toNat_lt_of_high_zero a _ (fun j h1 hj => hz j (by omega) hj), fun _ => Nat.ge_two_pow_of_testBit hbit⟩

/-- Two counts that both place a word between neighbouring powers of two are equal. -/
theorem leadingZeros_iff (a : Word) (n : Nat) :
    leadingZeros a = n ↔ n ≤ 40 ∧ a.toNat < 2 ^ (40 - n) ∧ (n < 40 → 2 ^ (39 - n) ≤ a.toNat) := by
  constructor
  · rintro rfl; exact leadingZeros_bounds a
  · rintro ⟨hn, hlt, hge⟩
    obtain ⟨hm, hmlt, hmge⟩ := leadingZeros_bounds a
    rcases lt_trichotomy (leadingZeros a) n with h | h | h
    · have : 2 ^ (40 - n) ≤ 2 ^ (39 - leadingZeros a) := Nat.pow_le_pow_right (by omega) (by omega)
      have := hmge (by omega)
      omega
    · exact h
    · have : 2 ^ (40 - leadingZeros a) ≤ 2 ^ (39 - n) := Nat.pow_le_pow_right (by omega) (by omega)
      have := hge (by omega)
      omega

theorem foldl_count (a : Word) (l : List Nat) (n : Nat) :
    l.foldl (fun n i => n + b2n (a.getLsbD i)) n = n + (l.filter (fun i => a.getLsbD i)).length := by
  induction l generalizing n with
  | nil => rfl
  | cons i t ih =>
    rw [List.foldl_cons, ih]
    cases h : a.getLsbD i
    · simp [b2n, h]
    · simp [b2n, h]; omega

theorem popCount_eq (a : Word) : popCount a = ((List.range 40).filter (fun i => a.getLsbD i)).length := by
  rw [popCount, foldl_count, Nat.zero_add]

/-! ### The operations of majors 10h and 11h -/

theorem toNat_ofNat_of_lt {x : Nat} (h : x < 2 ^ 40) : (BitVec.ofNat 40 x).toNat = x := by rw [BitVec.toNat_ofNat, Nat.mod_eq_of_lt h]

/-- R136: every long register operation gives what its meaning names. -/
theorem laluOp_means (op : LAlu) (a b : Word) (cy : Bool) : LongAluMeans op a b (if cy then 1 else 0) (laluOp op a b (b2n cy)).r := by
  have ha : a.toNat < 2 ^ 40 := a.isLt
  have hb : b.toNat < 2 ^ 40 := b.isLt
  have hcy : (if cy then 1 else 0 : Word) = BitVec.ofNat 40 (b2n cy) := by cases cy <;> rfl
  cases op with
  | add => simp [LongAluMeans, laluOp, addRes]
  | sub => simp [LongAluMeans, laluOp, subRes]
  | adc => rw [LongAluMeans, hcy]; rfl
  | sbc => rw [LongAluMeans, hcy]; rfl
  | mulhu => exact toNat_ofNat_of_lt (Nat.div_lt_of_lt_mul (by nlinarith))
  | divs | divu | rems | remu => simp only [LongAluMeans, laluOp, divRes]; split <;> rfl
  | min => simp only [LongAluMeans, laluOp, plain]; split <;> omega
  | max => simp only [LongAluMeans, laluOp, plain]; split <;> omega
  | minu => simp only [LongAluMeans, laluOp, plain]; split <;> omega
  | maxu => simp only [LongAluMeans, laluOp, plain]; split <;> omega
  | adds => exact toInt_w40_clamp _
  | subs => exact toInt_w40_clamp _
  | abss =>
    rw [LongAluMeans, laluOp, satRes, toInt_w40_clamp]
    split
    · next h => rw [abs_of_neg h]; omega
    · next h => rw [abs_of_nonneg (by omega)]; omega
  | clz =>
    intro n
    rw [← leadingZeros_iff, laluOp, plain, toNat_ofNat_of_lt]
    exact lt_of_le_of_lt (leadingZeros_bounds a).1 (by omega)
  | popc =>
    rw [LongAluMeans, ← popCount_eq]
    refine toNat_ofNat_of_lt ?_
    have : popCount a ≤ 40 := by rw [popCount_eq]; exact (List.length_filter_le ..).trans (by simp)
    omega
  | padds => exact fun k hk => elem_pairRes (x := fun k => elem a k + elem b k) hk
  | psubs => exact fun k hk => elem_pairRes (x := fun k => elem a k - elem b k) hk
  | pmulr => exact fun k hk => elem_pairRes (x := fun k => mulQ19 (elem a k) (elem b k)) hk
  | and | or | xor | andn | shl | shr | sar | ror | mul | mulhs => rfl

theorem ialuOp_means (op : IAlu) (a : Word) (imm : BitVec 20) : ImmMeans op a imm (ialuOp op a (imm.signExtend 40)).r := by
  cases op with
  | addi => simp [ImmMeans, ialuOp, addRes]
  | addsi =>
    rw [ImmMeans, ialuOp, satRes, toInt_w40_clamp, BitVec.toInt_signExtend_of_le (by omega)]
  | andi | ori | xori | muli => rfl

/-! ### Instructions of majors 10h and 11h -/

theorem aluFlags_lt (old : Nat) (f : Bool) (x : AluRes) : aluFlags old f x < 32 := by rw [aluFlags]; split <;> exact packFlags_lt ..

/-- S never falls, and without F the other flags stay (R155). -/
theorem aluFlags_keeps (old : Nat) (f : Bool) (x : AluRes) :
    (flagS old = true → flagS (aluFlags old f x) = true) ∧
    (f = false → flagZ (aluFlags old f x) = flagZ old ∧ flagN (aluFlags old f x) = flagN old ∧ flagC (aluFlags old f x) = flagC old ∧
      flagV (aluFlags old f x) = flagV old) ∧
    (f = true → flagZ (aluFlags old f x) = decide (x.r = 0) ∧ flagN (aluFlags old f x) = decide (x.r.toInt < 0)) := by
  rw [aluFlags]
  refine ⟨fun h => ?_, fun h => ?_, fun h => ?_⟩
  · split
    · rw [flagsOf, flagS_packFlags, h, Bool.true_or]
    · rw [stickyS, flagS_packFlags, h, Bool.true_or]
  · rw [if_neg (by simp [h]), stickyS]; simp
  · rw [if_pos h, flagsOf, flagZ_packFlags, flagN_packFlags, beq_eq_decide, bit39_eq_sign]; exact ⟨rfl, rfl⟩

/-- An instruction of major 10h or 11h that writes rd. -/
theorem aluInsn_ends {s : State} {i : Instr} {c rd cost : Nat} {g : Nat → State → State} {x : AluRes} {f : Bool}
    (hi : plainInsnOf i = some (c, plainInsn true cost g)) (h : Ready s c true) (hc : c < 8) (hg : g c s = aluWrite rd f x c s) :
    ∃ t, ok (runInsn i s) = .next t ∧ GprResult c rd x.r s t ∧ SameAccs c s t ∧ Retired c ((s.core c).pc + 2) s t ∧
      SameRegsBut c [Reg.CS_FLAGS c] s t ∧ SameMemory s t ∧ (flagS (s.flags c) = true → flagS (t.flags c) = true) ∧
      (f = false → flagZ (t.flags c) = flagZ (s.flags c) ∧ flagN (t.flags c) = flagN (s.flags c) ∧ flagC (t.flags c) = flagC (s.flags c) ∧
        flagV (t.flags c) = flagV (s.flags c)) ∧
      (f = true → flagZ (t.flags c) = decide (x.r = 0) ∧ flagN (t.flags c) = decide (x.r.toInt < 0)) := by
  obtain ⟨t, ht, hres, haccs, hret, hregs, hmem, hfl⟩ := gprFlagsInsn_ends hi h hc (aluFlags_lt ..) hg
  obtain ⟨hs, hkeep, hset⟩ := aluFlags_keeps (s.flags c) f x
  rw [← hfl] at hs hkeep hset
  exact ⟨t, ht, hres, haccs, hret, hregs, hmem, hs, hkeep, hset⟩

/-- Settles O3: the operation's record gives the result, and its flags follow R155. -/
theorem longAluResult : Obligations.LongAluResult := by
  intro c op f rd rs1 rs2 s h
  obtain ⟨t, ht, hres, haccs, hret, hregs, hmem, hs, hkeep, hset⟩ :=
    aluInsn_ends (i := .longRegisterAlu c op f rd rs1 rs2) (x := laluOp op (s.gpr c rs1) (s.gpr c rs2) (b2n (flagC (s.flags c)))) rfl h c.isLt rfl
  exact ⟨_, t, ht, hres, haccs, hret, hregs, hmem, laluOp_means .., hs, hkeep, fun hf _ => hset hf⟩


/-! ### Bit fields -/

theorem getLsbD_extract (a : Word) (p w i : Nat) (hi : i < 40) :
    (BitVec.ofNat 40 (a.toNat / 2 ^ p % 2 ^ w)).getLsbD i = (decide (i < w) && a.getLsbD (p + i)) := by
  rw [BitVec.getLsbD_ofNat, Nat.testBit_mod_two_pow, Nat.testBit_div_two_pow, Nat.add_comm i p]
  simp [hi, BitVec.getLsbD]

/-- R138: each bit of a field's result. -/
theorem bitField_means (op : BitOp) (a old : Word) (p w1 : Nat) : BitFieldMeans op p w1 a old (bitField op old a p (w1 + 1)) := by
  intro i hi
  cases op with
  | extu =>
    rw [bitField, getLsbD_extract _ _ _ _ hi]
    simp only [Nat.lt_succ_iff]
  | exts =>
    have hbit : ∀ j, j ≤ w1 → (BitVec.ofNat (w1 + 1) (a.toNat / 2 ^ p)).getLsbD j = a.getLsbD (p + j) := by
      intro j hj
      rw [BitVec.getLsbD_ofNat, Nat.testBit_div_two_pow, Nat.add_comm j p]
      simp [Nat.lt_succ_of_le hj, BitVec.getLsbD]
    have : bitField .exts old a p (w1 + 1) = (BitVec.ofNat (w1 + 1) (a.toNat / 2 ^ p)).signExtend 40 := rfl
    rw [this, BitVec.getLsbD_signExtend]
    simp only [hi, decide_true, Bool.true_and]
    split
    · next hlt => rw [hbit i (by omega), min_eq_left (by omega)]
    · next hge => rw [BitVec.msb_eq_getLsbD_last, Nat.add_sub_cancel, hbit w1 le_rfl, min_eq_right (by omega)]
  | ins =>
    have hm : (BitVec.ofNat 40 ((2 ^ (w1 + 1) - 1) * 2 ^ p)).getLsbD i = decide (p ≤ i ∧ i ≤ p + w1) := by
      rw [BitVec.getLsbD_ofNat, Nat.testBit_mul_two_pow, Nat.testBit_two_pow_sub_one]
      by_cases h1 : p ≤ i <;> by_cases h2 : i ≤ p + w1 <;> simp [hi, h1, h2] <;> omega
    simp only [bitField, BitVec.getLsbD_or, BitVec.getLsbD_and, BitVec.getLsbD_not, hm, BitVec.getLsbD_shiftLeft]
    by_cases hin : p ≤ i ∧ i ≤ p + w1
    · simp [hin, hi]
    · simp [hin, hi]

/-- Settles O4: each operation writes the one register, or the flags, that its meaning names. -/
theorem immediateResult : Obligations.ImmediateResult := by
  intro c s h
  refine ⟨fun op f rd rs1 imm => ?_, fun rs1 imm => ⟨?_, ?_⟩, fun op => ?_, fun word rd imm => ?_, fun op rd rs1 p w1 hpw => ?_,
    fun rd rs1 rs2 cond => ?_, fun rd cond => ?_⟩
  · obtain ⟨t, ht, hres, haccs, hret, hregs, hmem, hs, hkeep, hset⟩ :=
      aluInsn_ends (i := .immediateAlu c (.alu op f rd rs1 imm)) (x := ialuOp op (s.gpr c rs1) (imm.signExtend 40)) rfl h c.isLt rfl
    exact ⟨_, t, ht, hres, haccs, hret, hregs, hmem, ialuOp_means .., hs, hkeep, fun hf _ => hset hf⟩
  · obtain ⟨t, ht, hgprs, haccs, hz, hn, hc, hv, hs, hret, hregs, hmem⟩ :=
      compare_ends (i := .immediateAlu c (.cmpi rs1 imm)) (op := .cmp) (a := s.gpr c rs1) (b := imm.signExtend 40) rfl h c.isLt rfl
    rw [cmpOp, subRes_zero] at hz hn hc hv
    have heq : decide (s.gpr c rs1 - imm.signExtend 40 = 0) = decide (s.gpr c rs1 = imm.signExtend 40) := by rw [decide_eq_decide, sub_eq_zero]
    exact ⟨t, ht, hz.trans heq, hc, hn, hv, hs, hgprs, haccs, hret, hregs, hmem⟩
  · obtain ⟨t, ht, hgprs, haccs, hz, hn, hc, hv, hs, hret, hregs, hmem⟩ :=
      compare_ends (i := .immediateAlu c (.tsti rs1 imm)) (op := .tst) (a := s.gpr c rs1) (b := imm.signExtend 40) rfl h c.isLt rfl
    exact ⟨t, ht, hz, hc, hn, hv, hs, hgprs, haccs, hret, hregs, hmem⟩
  · cases op <;> exact gprInsn_ends (i := .longImmediate c _) rfl h c.isLt rfl
  · exact gprInsn_ends (i := .adr c word rd imm) rfl h c.isLt rfl
  · have hundef : (insnBitField op rd rs1 p w1).undef = false := decide_eq_false (by omega)
    obtain ⟨t, ht, hres, haccs, hret, hregs, hmem⟩ :=
      gpr_ends (i := .bitField c op rd rs1 p w1) (x := insnBitField op rd rs1 p w1) rfl h c.isLt hundef (Nat.zero_le _) rfl (RegsOnly.refl _)
        (plainInsn_body (long := true) (cost := 1) (f := fun c s => s.setGpr c rd (bitField op (s.gpr c rd) (s.gpr c rs1) p (w1 + 1)))
          (corePc_setGpr ..)) (setGpr_reg ..)
    exact ⟨_, t, ht, hres, haccs, hret, sameRegsBut_nil hregs (setGpr_regs ..), hmem, bitField_means op _ _ p w1⟩
  · exact gprInsn_ends (i := .sel c (.sel rd rs1 rs2 cond)) rfl h c.isLt rfl
  · exact gprInsn_ends (i := .sel c (.setc rd cond)) rfl h c.isLt rfl

end Sys2Proof.Machine
end

section
/-!
SUPPORT. Branches (R133-R135): what the retirement of a branch moves besides the program address, and the whole command.
-/
set_option linter.constructorNameAsVariable false

namespace Sys2Proof.Machine

/-- From s to t core c only counts events and changes what it predicts by: every register but its event counters stays, and so does what it holds. -/
structure Tallied (c : Nat) (s t : State) : Prop where
  kept : CoreKept c s t
  regs : ∀ a, (∀ k, k < 16 → a ≠ Reg.CS_PMC c k ∧ a ≠ Reg.CS_PMC_SEL c k) → t.reg a = s.reg a

theorem Tallied.refl (c : Nat) (s : State) : Tallied c s s := ⟨(RegsOnly.refl s).coreKept c, fun _ _ => rfl⟩

theorem Tallied.trans {c : Nat} {s t u : State} (h : Tallied c s t) (g : Tallied c t u) : Tallied c s u :=
  ⟨h.kept.trans g.kept, fun a ha => (g.regs a ha).trans (h.regs a ha)⟩

theorem tallied_pmcEvent (c ev n : Nat) (s : State) : Tallied c s (pmcEvent c ev n s) :=
  ⟨(pmcEvent_only ..).coreKept c, fun a ha => pmcEvent_reg c ev n s a ha⟩

theorem tallied_updCore {c : Nat} {s : State} {f : Core → Core} (h : SameHeld (s.core c) (f (s.core c))) : Tallied c s (s.updCore c f) :=
  ⟨coreKept_updCore h, fun _ _ => updCore_get_reg ..⟩

theorem Tallied.ite {c : Nat} {s t u : State} {p : Prop} [Decidable p] (h : Tallied c s t) (g : Tallied c s u) : Tallied c s (if p then t else u) := by
  split <;> assumption

/-- Training by a taken branch changes what the core predicts by. -/
theorem tallied_btbTrain (c : Nat) (a target : Word) (s : State) : Tallied c s (btbTrain c a target s) := by
  unfold btbTrain
  split
  · exact .ite (.refl ..) (tallied_updCore ⟨rfl, rfl, rfl, rfl, rfl, rfl, rfl⟩)
  · exact tallied_updCore ⟨rfl, rfl, rfl, rfl, rfl, rfl, rfl⟩

/-- Without flaws nothing that the core predicts by is found wrong. -/
theorem predParity_flawless {s : State} (hf : s.flaws = []) (c : Nat) (a : Word) (ret : Bool) : predParity c a ret s = s := by
  have hs : ∀ f, struck s f = false := fun f => by simp [struck, hf]
  cases hb : btbFind s c a <;> simp [predParity, hb, hs]

theorem tallied_retireBranch {s : State} (hf : s.flaws = []) (c : Nat) (a : Word) (b : Br) : Tallied c s (retireBranch c a b s) := by
  have ev : ∀ (k : Nat) (on : Bool) (x : State), Tallied c x (if on then pmcEvent c k 1 x else x) := fun k on x => .ite (tallied_pmcEvent ..) (.refl ..)
  have events : ∀ x y z : Bool, Tallied c s ((fun u => if x then pmcEvent c 5 1 u else u)
      ((fun u => if y then pmcEvent c 4 1 u else u) ((fun u => if z then pmcEvent c 3 1 u else u) (pmcEvent c 2 1 s)))) :=
    fun x y z => (((tallied_pmcEvent c 2 1 s).trans (ev 3 z _)).trans (ev 4 y _)).trans (ev 5 x _)
  have train : ∀ x, Tallied c x (if b.taken then btbTrain c a b.target x else x) := fun x => .ite (tallied_btbTrain ..) (.refl ..)
  have stack : ∀ (f : List Word → List Word) x, Tallied c x (x.updCore c (fun k => { k with ras := f k.ras })) :=
    fun f x => tallied_updCore ⟨rfl, rfl, rfl, rfl, rfl, rfl, rfl⟩
  simp only [retireBranch, predParity_flawless hf, ite_self]
  refine .ite (events ..) (.ite ?_ (.ite ?_ ?_))
  · exact (events ..).trans ((train _).trans (stack (fun l => ((a + 2) :: l).take 16) _))
  · exact (events ..).trans ((train _).trans (stack (List.drop 1) _))
  · exact (events ..).trans (train _)

/-- What a command leaves whose instruction retires to address n from the state s after its effect. -/
structure Completes (c : Nat) (n : Word) (s t : State) : Prop where
  kept : CoreKept c s t
  pc : (t.core c).pc = n
  regs : ∀ a, ¬ countsOf c a → t.reg a = s.reg a
  count : t.reg (Reg.CS_RET_COUNT c) = s.reg (Reg.CS_RET_COUNT c) + 1


/-- The counts and predictions of a retiring branch at address a, at the level the instruction ran at. -/
def branchCounts (c lvl : Nat) (a : Word) (br : Br) (s : State) : State :=
  let st := s.reg (Reg.CS_STATUS c)
  (retireBranch c a br (pmcEvent c 1 1 ((s.setReg (Reg.CS_STATUS c) (fset st 1 0 lvl)).inc (Reg.CS_RET_COUNT c)))).setReg (Reg.CS_STATUS c) st

section
variable {s : State} (hf : s.flaws = []) (c lvl : Nat) (a : Word) (br : Br)
include hf

/-- The counters and the predictions that move. -/
theorem tallied_counted : Tallied c s (retireBranch c a br (pmcEvent c 1 1 s)) :=
  (tallied_pmcEvent c 1 1 s).trans (tallied_retireBranch ((pmcEvent_only c 1 1 s).flaws.trans hf) c a br)

theorem branchCounts_kept : CoreKept c s (branchCounts c lvl a br s) :=
  ((((regsOnly_setReg ..).trans (regsOnly_inc ..)).coreKept c).trans (tallied_counted (s := (s.setReg _ _).inc _) hf c a br).kept).trans
    ((regsOnly_setReg ..).coreKept c)

theorem branchCounts_reg {r : Nat} (h : ¬ countsOf c r) : (branchCounts c lvl a br s).reg r = s.reg r := by
  unfold branchCounts
  by_cases hs : r = Reg.CS_STATUS c
  · subst hs; rw [reg_setReg_self]
  · rw [reg_setReg_ne hs,
      (tallied_counted (s := (s.setReg _ _).inc _) hf c a br).regs r (fun k hk => ⟨fun e => h (Or.inr ⟨k, hk, Or.inl e⟩), fun e => h (Or.inr ⟨k, hk, Or.inr e⟩)⟩),
      reg_inc_ne (fun e => h (Or.inl e)), reg_setReg_ne hs]

theorem branchCounts_count : (branchCounts c lvl a br s).reg (Reg.CS_RET_COUNT c) = s.reg (Reg.CS_RET_COUNT c) + 1 := by
  have hs : Reg.CS_RET_COUNT c ≠ Reg.CS_STATUS c := by simp only [Reg.CS_RET_COUNT, Reg.CS_STATUS]; omega
  rw [branchCounts, reg_setReg_ne hs, (tallied_counted (s := (s.setReg _ _).inc _) hf c a br).regs _ (fun k hk => retCount_not_pmc c k hk), reg_inc_self, reg_setReg_ne hs]

end

/-- A branch to address n as it completes. -/
def branchRet (n : Word) (br : Br) : Ret := ⟨[], n, some br, false, false, false⟩

/-- The retirement of a branch of a core that is no leader, from the state after its link. -/
theorem retire_branch {c : Nat} {n : Word} {dests : List Nat} {br : Br} {old s : State} (hp : isPaced old c = false)
    (hl : (old.pair (c / 2)).started = false) (hpair : s.pairs = old.pairs) (hf : s.flaws = []) (hu : Unhindered s c)
    (hin : (corePc old c).toNat < 2 ^ 40 - 2) : Completes c n s (retire c dests (branchRet n br) old s) := by
  have hlo : isLeader old c = false := by simp [isLeader, hl]
  let v := branchCounts c (old.pl c) (corePc old c) br s
  have hv : CoreKept c s v := branchCounts_kept hf ..
  let w := v.updCore c (fun k => { k with pc := n, skipBreak := false, pastTop := false })
  let x := w.updCore c (fun k => { k with io := [], excursed := false, strayed := false })
  have hx : CoreKept c s x :=
    hv.trans ((coreKept_updCore ⟨rfl, rfl, rfl, rfl, rfl, rfl, rfl⟩).trans (coreKept_updCore ⟨rfl, rfl, rfl, rfl, rfl, rfl, rfl⟩))
  have hlw : isLeader w c = false := by
    have hw : w.pairs = old.pairs := by rw [show w.pairs = v.pairs from rfl, hv.only.pairs, hpair]
    simp [isLeader, State.pair, hw, show (SMap.getD Pair.reset (c / 2) old.pairs).started = false from hl]
  have e : retire c dests (branchRet n br) old s = x := by
    simp only [retire, branchRet, hp, Bool.false_and, Bool.false_eq_true, if_false, leaderGroup_alone hlo, ranOff_inner hin]
    rw [← branchCounts, endInsn_alone hlw]
    exact boundary_unhindered (hx.unhindered hu)
  rw [e]
  refine ⟨hx, by simp only [x, w, core_updCore_self], fun a ha => ?_, ?_⟩
  · exact branchCounts_reg hf _ _ _ _ ha
  · exact branchCounts_count hf ..

/-- A whole branch of a ready core. -/
theorem branch_ends {s : State} {i : Instr} {c rd : Nat} {long cond guess push ret : Bool} {taken : Nat → State → Bool} {target : Nat → State → Word}
    {link : Nat → State → State} {v : Word} (hi : plainInsnOf i = some (c, branchInsn long cond guess taken target push ret link))
    (h : Ready s c long) (hc : c < 8) (hlink : link c s = s.setGpr c rd v) :
    ∃ t, ok (runInsn i s) = .next t ∧ GprResult c rd v s t ∧ SameAccs c s t ∧
      Retired c (if taken c s then target c s else nextPc s c long) s t ∧ SameRegsBut c [] s t ∧ SameMemory s t := by
  have hg : CoresOnly s (s.setGpr c rd v) := coresOnly_setGpr ..
  have hx : ∀ x : Insn, (insnAs i x).undef = x.undef ∧ (insnAs i x).minPl = x.minPl ∧ (insnAs i x).long = x.long ∧ (insnAs i x).counter = x.counter := by
    intro x; unfold insnAs; split <;> exact ⟨rfl, rfl, rfl, rfl⟩
  obtain ⟨hundef, hmin, hlong, hcounter⟩ := hx (branchInsn long cond guess taken target push ret link)
  have hbody : (insnAs i (branchInsn long cond guess taken target push ret link)).body c s =
      .ok (branchRet (if taken c s then target c s else nextPc s c long) ⟨cond, guess, taken c s, target c s, push, ret⟩) (s.setGpr c rd v) := by
    rw [insnAs_body _ h.calm hc]
    exact congrArg _ hlink
  have hdone : Completes c _ (s.setGpr c rd v) _ := retire_branch (n := if taken c s then target c s else nextPc s c long) (dests := regsWritten i)
    (br := ⟨cond, guess, taken c s, target c s, push, ret⟩) h.unpaced h.alone (setGpr_pairs ..) (hg.flaws.trans h.calm.flaws) (h.unhindered.setGpr rd v) h.inner
  generalize hu : retire c (regsWritten i) _ s (s.setGpr c rd v) = u at hdone
  have hcalm : Calm u := (h.calm.coresOnly hg (setGpr_work s c rd v)).coresOnly hdone.kept.only hdone.kept.sameWork
  refine ⟨latched u, ?_, ⟨?_, fun r hr => ?_⟩, fun a => ?_, ⟨hdone.pc, ?_, fun d hd => ?_⟩, fun a ha _ => ?_, ?_⟩
  · rw [runInsn_ready hi h, attemptAll_ready (hlong ▸ h) hundef (hmin ▸ Nat.zero_le _) hcounter hbody rfl, settleInsn_ok, hu, settleAll_calm hcalm, ok]
  · exact (hdone.kept.gprs rd).trans (setGpr_result s c rd v).1
  · exact (hdone.kept.gprs r).trans ((setGpr_result s c rd v).2 r hr)
  · refine (hdone.kept.accs a).trans ?_
    rw [State.accOf, setGpr_core]; split <;> rfl
  · exact hdone.count.trans (by rw [setGpr_reg])
  · exact (hdone.kept.others d hd).trans (setGpr_core_ne _ _ _ hd)
  · exact (hdone.regs a ha).trans (setGpr_reg ..)
  · exact hg.memory.trans hdone.kept.only.memory.latched

/-- A branch without a link. -/
theorem plainBranch_ends {s : State} {i : Instr} {c : Nat} {long cond guess push ret : Bool} {taken : Nat → State → Bool} {target : Nat → State → Word}
    (hi : plainInsnOf i = some (c, branchInsn long cond guess taken target push ret noLink)) (h : Ready s c long) (hc : c < 8) :
    ∃ t, ok (runInsn i s) = .next t ∧ SameGprs c s t ∧ SameAccs c s t ∧
      Retired c (if taken c s then target c s else nextPc s c long) s t ∧ SameRegsBut c [] s t ∧ SameMemory s t := by
  obtain ⟨t, ht, ⟨h0, hne⟩, haccs, hret, hregs, hmem⟩ := branch_ends (rd := 0) (v := 0) hi h hc rfl
  refine ⟨t, ht, fun r => ?_, haccs, hret, hregs, hmem⟩
  by_cases hr : r = 0
  · subst hr; rfl
  · exact hne r hr

/-- Settles O7: a branch goes to its target where its condition holds and on to the next parcel else, and writes only its link. -/
theorem branchTarget : Obligations.BranchTarget := by
  intro c s
  refine ⟨fun h => ⟨fun rs sense off => ?_, fun cond off => ?_, fun off => ?_⟩, fun h => ⟨fun off => ?_, fun off => ?_, fun rd rs1 off => ?_, fun cond off => ?_⟩⟩
  · have hb := plainBranch_ends (i := .cbz c rs sense off) rfl h c.isLt
    rw [beq_eq_decide] at hb
    exact hb
  · exact plainBranch_ends (i := .bc c cond off) rfl h c.isLt
  · exact plainBranch_ends (i := .branch c off) rfl h c.isLt
  · exact plainBranch_ends (i := .brL c off) rfl h c.isLt
  · exact branch_ends (i := .call c off) (rd := 31) rfl h c.isLt rfl
  · exact branch_ends (i := .jalr c rd rs1 off) rfl h c.isLt rfl
  · exact plainBranch_ends (i := .bcL c cond off) rfl h c.isLt

end Sys2Proof.Machine
end

section
/-!
SUPPORT. The multiply-accumulate class (R145-R147): its roundings and bounds, and what its instructions leave.
-/
set_option linter.constructorNameAsVariable false

namespace Sys2Proof.Machine

/-! ### Rounding and bounds -/

/-- The model's rounding is that of R145, for the places that R145 to R147 round at. -/
theorem roundShift_eq (rm : MRound) (x : Int) {k : Nat} (hk : k = 8 ∨ k = 31 ∨ k = 39) : roundShift rm x k = roundedDiv rm x k := by
  cases rm with
  | floor => rfl
  | halfUp => obtain rfl | rfl | rfl := hk <;> simp only [roundShift, roundedDiv] <;> omega
  | halfEven =>
    obtain rfl | rfl | rfl := hk <;> simp only [roundShift, roundedDiv, Bool.or_eq_true, decide_eq_true_eq, Bool.and_eq_true, beq_iff_eq, bne_iff_ne] <;>
      split <;> split <;> omega

theorem clamp_eq_clampInt_40 (x : Int) : clamp minInt maxInt x = clampInt 40 x := clamp_eq (by decide) x

theorem clamp_eq_clampInt_80 (x : Int) : clamp accLo accHi x = clampInt 80 x := clamp_eq (by decide) x

/-- An integer overflows where its bound is another. -/
theorem overflows_eq_clampInt (x : Int) : overflows x = decide (x ≠ clampInt 40 x) := by
  have : overflows x = true ↔ ¬ (-(2 ^ 39) ≤ x ∧ x ≤ 2 ^ 39 - 1) := by
    rw [overflows, inRange, ← Bool.decide_and, ← decide_not, decide_eq_true_eq]; rfl
  rw [Bool.eq_iff_iff, this, decide_eq_true_eq, clampInt]
  omega

theorem extract_eq (rm : MRound) (sh : Nat) {k : Nat} (hk : k = 31 ∨ k = 39) (a : BitVec 80) :
    extract rm sh k a = (BitVec.ofInt 40 (clampInt 40 (roundedDiv rm (a.toInt * 2 ^ sh) k)),
      decide (roundedDiv rm (a.toInt * 2 ^ sh) k ≠ clampInt 40 (roundedDiv rm (a.toInt * 2 ^ sh) k))) := by
  rw [extract, roundShift_eq rm _ (Or.inr hk), overflows_eq_clampInt, clamp_eq_clampInt_40]; rfl

/-! ### Instructions that write an accumulator -/

theorem stickyS_lt (old : Nat) (sat : Bool) : stickyS old sat < 32 := packFlags_lt ..

theorem setGpr_flags (s : State) (c r : Nat) (v : Word) : (s.setGpr c r v).flags c = s.flags c := by
  rw [State.flags, State.fld, setGpr_reg]; rfl

theorem orS_setGpr (s : State) (c r : Nat) (v : Word) (sat : Bool) :
    orS c sat (s.setGpr c r v) = (s.setGpr c r v).setFlags c (stickyS (s.flags c) sat) := by rw [orS, setGpr_flags]

theorem corePc_setAcc (s : State) (c a : Nat) (v : BitVec 80) : corePc (s.setAcc c a v) c = corePc s c := by
  rw [corePc, show (s.setAcc c a v).core c = { s.core c with acc := SMap.put 0 a v (s.core c).acc } from core_updCore_self ..]; rfl

/-- An instruction that writes one accumulator and S. -/
theorem accInsn_ends {s : State} {i : Instr} {c a cost : Nat} {long : Bool} {f : Nat → State → State} {x : BitVec 80 × Bool}
    (hi : plainInsnOf i = some (c, plainInsn long cost f)) (h : Ready s c long) (hc : c < 8) (hf : f c s = accWrite a x c s) :
    ∃ t, ok (runInsn i s) = .next t ∧ t.accOf c a = x.1 ∧ (∀ b, b ≠ a → t.accOf c b = s.accOf c b) ∧ SameGprs c s t ∧
      Retired c (nextPc s c long) s t ∧ SameRegsBut c [Reg.CS_FLAGS c] s t ∧ SameMemory s t := by
  have hb : (plainInsn long cost f).body c s = .ok (retTo (nextPc s c long)) ((s.setAcc c a x.1).setFlags c (stickyS (s.flags c) x.2)) := by
    rw [plainInsn_body (by rw [hf]; exact corePc_setAcc s c a x.1), hf]; rfl
  obtain ⟨t, ht, ha, hb, hgprs, hret, hregs, hmem⟩ := acc_ends hi h hc rfl (Nat.zero_le _) rfl (setFlags_only ..) hb (retCount_setFlags ..)
  exact ⟨t, ht, ha, hb, hgprs, hret, sameRegsBut_setFlags hregs rfl, hmem⟩

/-- R145, R147: the value that each operation gives its accumulator. -/
theorem macOp_eq {s : State} {c a : Nat} {op : MacOp} {v : BitVec 80} (h : macMeans s c op = some (a, v)) :
    ∃ sat, macOp op c s = accWrite a (v, sat) c s := by
  cases op with
  | mulA rm x rs1 rs2 =>
    obtain ⟨rfl, rfl⟩ := Prod.mk.inj (Option.some.inj h)
    exact ⟨false, by rw [← roundShift_eq rm _ (Or.inl rfl)]; rfl⟩
  | mac rm x rs1 rs2 =>
    obtain ⟨rfl, rfl⟩ := Prod.mk.inj (Option.some.inj h)
    exact ⟨false, by rw [← roundShift_eq rm _ (Or.inl rfl)]; rfl⟩
  | msu rm x rs1 rs2 =>
    obtain ⟨rfl, rfl⟩ := Prod.mk.inj (Option.some.inj h)
    exact ⟨false, by rw [← roundShift_eq rm _ (Or.inl rfl)]; rfl⟩
  | macs rm x rs1 rs2 =>
    obtain ⟨rfl, rfl⟩ := Prod.mk.inj (Option.some.inj h)
    exact ⟨_, by rw [← roundShift_eq rm _ (Or.inl rfl), ← clamp_eq_clampInt_80]; rfl⟩
  | msus rm x rs1 rs2 =>
    obtain ⟨rfl, rfl⟩ := Prod.mk.inj (Option.some.inj h)
    exact ⟨_, by rw [← roundShift_eq rm _ (Or.inl rfl), ← clamp_eq_clampInt_80]; rfl⟩
  | pmac x rs1 rs2 =>
    obtain ⟨rfl, rfl⟩ := Prod.mk.inj (Option.some.inj h)
    exact ⟨false, rfl⟩
  | mova x rs1 =>
    obtain ⟨rfl, rfl⟩ := Prod.mk.inj (Option.some.inj h)
    exact ⟨false, rfl⟩
  | adda x b =>
    obtain ⟨rfl, rfl⟩ := Prod.mk.inj (Option.some.inj h)
    refine ⟨false, ?_⟩
    rw [macOp, accWrap, BitVec.ofInt_add, BitVec.ofInt_toInt, BitVec.ofInt_toInt]
  | addas x b =>
    obtain ⟨rfl, rfl⟩ := Prod.mk.inj (Option.some.inj h)
    exact ⟨_, by rw [← clamp_eq_clampInt_80]; rfl⟩
  | asr x rs2 =>
    obtain ⟨rfl, rfl⟩ := Prod.mk.inj (Option.some.inj h)
    exact ⟨false, rfl⟩
  | asls x rs2 =>
    obtain ⟨rfl, rfl⟩ := Prod.mk.inj (Option.some.inj h)
    exact ⟨_, by rw [← clamp_eq_clampInt_80]; rfl⟩
  | exta rm sh rd a => cases h
  | extq9 rm sh rd a => cases h

/-- An extraction to a general register, with S. -/
theorem extract_ends {s : State} {i : Instr} {c rd sh k cost : Nat} {rm : MRound} {a : BitVec 80} {long : Bool} {f : Nat → State → State}
    (hi : plainInsnOf i = some (c, plainInsn long cost f)) (h : Ready s c long) (hc : c < 8) (hk : k = 31 ∨ k = 39)
    (hf : f c s = orS c (extract rm sh k a).2 (s.setGpr c rd (extract rm sh k a).1)) :
    ∃ t, ok (runInsn i s) = .next t ∧ GprResult c rd (BitVec.ofInt 40 (clampInt 40 (roundedDiv rm (a.toInt * 2 ^ sh) k))) s t ∧
      flagS (t.flags c) = (flagS (s.flags c) || decide (roundedDiv rm (a.toInt * 2 ^ sh) k ≠ clampInt 40 (roundedDiv rm (a.toInt * 2 ^ sh) k))) ∧
      flagZ (t.flags c) = flagZ (s.flags c) ∧ SameAccs c s t ∧ Retired c (nextPc s c long) s t ∧ SameRegsBut c [Reg.CS_FLAGS c] s t ∧
      SameMemory s t := by
  rw [orS_setGpr, extract_eq rm sh hk] at hf
  obtain ⟨t, ht, hres, haccs, hret, hregs, hmem, hfl⟩ := gprFlagsInsn_ends hi h hc (stickyS_lt ..) hf
  exact ⟨t, ht, hres, by rw [hfl, stickyS, flagS_packFlags], by rw [hfl, stickyS, flagZ_packFlags], haccs, hret, hregs, hmem⟩

/-- Settles O5: sums and moves write their accumulator, extractions a general register. -/
theorem accumulatorResult : Obligations.AccumulatorResult := by
  intro c s
  refine ⟨fun h => ⟨fun op a v hop => ?_, fun q9 rm sh rd a => ?_⟩, fun h rd a => ⟨?_, ?_, ?_, ?_⟩⟩
  · obtain ⟨sat, heq⟩ := macOp_eq hop
    exact accInsn_ends (i := .multiplyAccumulate c op) rfl h c.isLt heq
  · cases q9 with
    | true => exact extract_ends (i := .multiplyAccumulate c (.extq9 rm sh rd a)) (f := macOp _) rfl h c.isLt (Or.inr rfl) rfl
    | false => exact extract_ends (i := .multiplyAccumulate c (.exta rm sh rd a)) (f := macOp _) rfl h c.isLt (Or.inl rfl) rfl
  · obtain ⟨t, ht, hres, -, -, haccs, hret, hregs, hmem⟩ :=
      extract_ends (i := .accumulatorMove c (.rda rd a)) (f := accMove _) (sh := 0) rfl h c.isLt (Or.inl rfl) rfl
    rw [pow_zero, mul_one] at hres
    exact ⟨t, ht, hres, haccs, hret, hregs, hmem⟩
  · refine gprInsn_ends (i := .accumulatorMove c (.rdaHi rd a)) rfl h c.isLt ?_
    rw [accMove]; congr 1
  · refine gprInsn_ends (i := .accumulatorMove c (.rdaLo rd a)) rfl h c.isLt ?_
    rw [accMove]; congr 1
  · have hb : (insnAccMove (.clra a)).body c s = .ok (retTo (nextPc s c false)) (s.setAcc c a 0) :=
      plainInsn_body (f := accMove (.clra a)) (corePc_setAcc s c a 0)
    obtain ⟨t, ht, ha, hb, hgprs, hret, hregs, hmem⟩ :=
      acc_ends (i := .accumulatorMove c (.clra a)) rfl h c.isLt rfl (Nat.zero_le _) rfl (RegsOnly.refl _) hb rfl
    exact ⟨t, ht, ha, hb, hgprs, hret, sameRegsBut_nil hregs rfl, hmem⟩

end Sys2Proof.Machine
end

section
/-!
SUPPORT. NOP, the fences, SEV and WAITEV (R108, R153, R310, R311): what moves beside the retirement is wake latches, and whether a quiet state has held.
-/
set_option linter.constructorNameAsVariable false

namespace Sys2Proof.Machine

/-! ### Wake latches -/

/-- From s to t only how cores stand with events changes: what they hold, and what they have in work, stays; so does the event unit's queue. -/
structure StandingOnly (s t : State) : Prop where
  only : t = { s with cores := t.cores, eiu := t.eiu }
  held : ∀ d, SameHeld (s.core d) (t.core d)
  queue : t.eiu.inq = s.eiu.inq ∧ t.eiu.owed = s.eiu.owed

theorem StandingOnly.refl (s : State) : StandingOnly s s := ⟨rfl, fun _ => .refl _, rfl, rfl⟩

theorem StandingOnly.trans {s t u : State} (h : StandingOnly s t) (g : StandingOnly t u) : StandingOnly s u :=
  ⟨by rw [g.only, h.only], fun d => (h.held d).trans (g.held d), g.queue.1.trans h.queue.1, g.queue.2.trans h.queue.2⟩

theorem standingOnly_breakQuietOf (c : Nat) (s : State) : StandingOnly s (breakQuietOf c s) := by
  unfold breakQuietOf
  split
  · exact ⟨rfl, fun _ => .refl _, rfl, rfl⟩
  · exact .refl s

theorem standingOnly_updCore {c : Nat} {s : State} {f : Core → Core} (h : SameHeld (s.core c) (f (s.core c))) : StandingOnly s (s.updCore c f) := by
  refine ⟨rfl, fun d => ?_, rfl, rfl⟩
  by_cases e : d = c
  · subst e; rw [core_updCore_self]; exact h
  · rw [core_updCore_ne e]; exact .refl _

section
variable {s t : State} (h : StandingOnly s t)
include h

theorem StandingOnly.reg (a : Nat) : t.reg a = s.reg a := by rw [h.only]; rfl
theorem StandingOnly.pairs : t.pairs = s.pairs := by rw [h.only]
theorem StandingOnly.memory : SameMemory s t := by rw [h.only]; exact ⟨rfl, rfl, rfl, rfl, rfl, rfl⟩
theorem StandingOnly.gprs (c : Nat) : SameGprs c s t := fun r => by simp only [State.gpr, (h.held c).w]
theorem StandingOnly.accs (c : Nat) : SameAccs c s t := fun a => by simp only [State.accOf, (h.held c).acc]

theorem StandingOnly.calm (hs : Calm s) : Calm t where
  flaws := by rw [h.only]; exact hs.flaws
  held := by rw [h.only]; exact hs.held
  retired c hc := by rw [(h.held c).work.1, (h.held c).work.2]; exact hs.retired c hc
  blocked := by rw [h.only]; exact hs.blocked
  inter := by rw [h.only]; exact hs.inter
  waiting := by rw [h.only]; exact hs.waiting
  rxq := by rw [h.only]; exact hs.rxq
  draining := by rw [h.only]; exact hs.draining
  stores := by rw [h.only]; exact hs.stores
  sources := ⟨h.queue.1.trans hs.sources.1, h.queue.2.trans hs.sources.2⟩

theorem StandingOnly.unhindered {c : Nat} (hs : Unhindered s c) : Unhindered t c :=
  ⟨(h.held c).halt.trans hs.halt, (h.held c).step.trans hs.step, (h.held c).parked.trans hs.parked, by rw [h.only]; exact hs.park⟩

end

theorem setLatch_standing (c : Nat) (b : Bool) (s : State) : StandingOnly s (setLatch c b s) :=
  (standingOnly_updCore ⟨rfl, rfl, rfl, rfl, rfl, rfl, rfl⟩).trans (standingOnly_breakQuietOf ..)

theorem core_breakQuietOf (c : Nat) (s : State) (d : Nat) : (breakQuietOf c s).core d = s.core d := by unfold breakQuietOf; split <;> rfl

theorem core_setLatch_self (c : Nat) (b : Bool) (s : State) : (setLatch c b s).core c = { s.core c with latch := b } := by
  rw [setLatch, core_breakQuietOf, core_updCore_self]

theorem core_setLatch_ne {c d : Nat} (h : d ≠ c) (b : Bool) (s : State) : (setLatch c b s).core d = s.core d := by
  rw [setLatch, core_breakQuietOf, core_updCore_ne h]

/-- SEV sets the wake latches of a group (R310). -/
def wakeGroup (c k : Nat) (s : State) : State :=
  (List.range k).foldl (fun s n => if s.bit (Reg.EIU_SEV_GROUP c) n then setLatch n true s else s) s

theorem wakeGroup_succ (c k : Nat) (s : State) :
    wakeGroup c (k + 1) s = if (wakeGroup c k s).bit (Reg.EIU_SEV_GROUP c) k then setLatch k true (wakeGroup c k s) else wakeGroup c k s := by
  rw [wakeGroup, List.range_succ, List.foldl_append, List.foldl_cons, List.foldl_nil, ← wakeGroup]

theorem wakeGroup_standing (c k : Nat) (s : State) : StandingOnly s (wakeGroup c k s) := by
  induction k with
  | zero => exact .refl s
  | succ k ih => rw [wakeGroup_succ]; split <;> [exact ih.trans (setLatch_standing ..); exact ih]

theorem wakeGroup_pc (c k n : Nat) (s : State) : ((wakeGroup c k s).core n).pc = (s.core n).pc := by
  induction k with
  | zero => rfl
  | succ k ih =>
    rw [wakeGroup_succ]
    split
    · by_cases e : n = k
      · subst e; rw [core_setLatch_self]; exact ih
      · rw [core_setLatch_ne e]; exact ih
    · exact ih

theorem wakeGroup_latch (c k n : Nat) (s : State) :
    ((wakeGroup c k s).core n).latch = ((s.core n).latch || (decide (n < k) && s.bit (Reg.EIU_SEV_GROUP c) n)) := by
  induction k with
  | zero => simp [wakeGroup]
  | succ k ih =>
    have hbit : (wakeGroup c k s).bit (Reg.EIU_SEV_GROUP c) k = s.bit (Reg.EIU_SEV_GROUP c) k := by
      rw [State.bit, (wakeGroup_standing c k s).reg]; rfl
    rw [wakeGroup_succ, hbit]
    by_cases e : n = k
    · subst e
      cases hb : s.bit (Reg.EIU_SEV_GROUP c) n
      · simp [ih]
      · simp [core_setLatch_self]
    · have : decide (n < k + 1) = decide (n < k) := by rw [decide_eq_decide]; omega
      rw [this, ← ih]
      split
      · rw [core_setLatch_ne e]
      · rfl

/-! ### Instructions that move nothing but latches -/

/-- A short instruction after which only how cores stand has changed. -/
theorem standing_ends {s u : State} {i : Instr} {c : Nat} {x : Insn} {n : Word} (hi : plainInsnOf i = some (c, x)) (h : Ready s c x.long) (hc : c < 8)
    (hu : x.undef = false) (hp : x.minPl = 0) (hk : x.counter = none) (hb : x.body c s = .ok (retTo n) u) (hs : StandingOnly s u) :
    ∃ t, ok (runInsn i s) = .next t ∧ (t.core c).pc = n ∧ SameGprs c s t ∧ SameAccs c s t ∧ SameRegsBut c [] s t ∧ SameMemory s t ∧
      t.reg (Reg.CS_RET_COUNT c) = s.reg (Reg.CS_RET_COUNT c) + 1 ∧ t.core c = coreAfter n (u.core c) ∧ ∀ d, d ≠ c → t.core d = u.core d := by
  obtain ⟨t, ht, hend⟩ := insn_ends hi h hc hu (hp ▸ Nat.zero_le _) hk hb (hs.calm h.calm) (hs.unhindered h.unhindered) hs.pairs
  refine ⟨t, ht, by rw [hend.core]; rfl, fun r => ?_, fun a => ?_, fun a ha _ => (hend.regs a ha).trans (hs.reg a), hs.memory.trans hend.memory,
    hend.count.trans (by rw [hs.reg]), hend.core, hend.others⟩
  · rw [← hs.gprs c r, State.gpr, hend.core]; rfl
  · rw [← hs.accs c a, State.accOf, hend.core]; rfl

/-- A short instruction that only retires. -/
theorem retires_ends {s : State} {i : Instr} {c : Nat} {x : Insn} (hi : plainInsnOf i = some (c, x)) (h : Ready s c false) (hl : x.long = false) (hc : c < 8)
    (hu : x.undef = false) (hp : x.minPl = 0) (hk : x.counter = none) (hb : x.body c s = .ok (retTo (nextPc s c false)) s) :
    ∃ t, ok (runInsn i s) = .next t ∧ Retires c ((s.core c).pc + 1) s t := by
  obtain ⟨t, ht, hpc, hgprs, haccs, hregs, hmem, hcount, -, hothers⟩ := standing_ends hi (hl ▸ h) hc hu hp hk hb (.refl s)
  exact ⟨t, ht, hgprs, haccs, ⟨hpc, hcount, hothers⟩, hregs, hmem⟩

/-- A core's earlier stores are done when none is in its queue and none outstanding. -/
theorem Ready.storesDone {s : State} {c : Nat} {long : Bool} (h : Ready s c long) (hc : c < 8) (ho : (s.core c).outStores = []) : storesDone s c = true := by
  simp [Machine.storesDone, (h.calm.retired c hc).1, ho, h.notLeader]


theorem nextPc_standing {s u : State} {c : Nat} {long : Bool} (h : (u.core c).pc = (s.core c).pc) : nextPc u c long = nextPc s c long := by
  rw [nextPc, corePc, h]; rfl

theorem Ready.running {s : State} {c : Nat} {long : Bool} (h : Ready s c long) : (s.core c).run = .running := by
  have hm := h.start
  simp only [mayStart, Bool.and_eq_true, decide_eq_true_eq] at hm
  exact hm.1.1.1.1.1.1.1

/-! ### WAITEV -/

/-- A WAITEV that waits leaves its core waiting, and has not retired. -/
theorem retire_waits {c : Nat} {n : Word} {dests : List Nat} {old s : State} (hp : isPaced old c = false) (hl : (s.pair (c / 2)).started = false) :
    retire c dests { retTo n with waits := true } old s =
      setRun c .waiting (pmcEvent c 0x18 1 ((s.updCore c (fun k => { k with pc := n, skipBreak := false, pastTop := ranOff (corePc old c) { retTo n with waits := true } })).updCore c
        (fun k => { k with io := [], excursed := false, strayed := false }))) := by
  simp only [retire, retTo, hp, Bool.not_false, Bool.and_self, if_true]
  rw [endInsn_alone (by simp only [isLeader]; exact Bool.and_eq_false_imp.2 (fun _ => hl))]

/-- The core's state while it waits. -/
theorem waits_ends {s : State} {i : Instr} {c : Nat} {x : Insn} {n : Word} (hi : plainInsnOf i = some (c, x)) (h : Ready s c x.long) (hc : c < 8)
    (hu : x.undef = false) (hp : x.minPl = 0) (hk : x.counter = none) (hb : x.body c s = .ok { retTo n with waits := true } s) :
    ∃ t, ok (runInsn i s) = .next t ∧ (t.core c).run = .waiting ∧ (t.core c).pc = n ∧ SameGprs c s t ∧ SameAccs c s t ∧ SameMemory s t ∧
      SameRegsBut c [] s t ∧ t.reg (Reg.CS_RET_COUNT c) = s.reg (Reg.CS_RET_COUNT c) := by
  have hx : (insnAs i x).undef = x.undef ∧ (insnAs i x).minPl = x.minPl ∧ (insnAs i x).long = x.long ∧ (insnAs i x).counter = x.counter := by
    unfold insnAs; split <;> exact ⟨rfl, rfl, rfl, rfl⟩
  obtain ⟨hundef, hmin, hlong, hcounter⟩ := hx
  let u := (s.updCore c (fun k => { k with pc := n, skipBreak := false, pastTop := ranOff (corePc s c) { retTo n with waits := true } })).updCore c
    (fun k => { k with io := [], excursed := false, strayed := false })
  let v := pmcEvent c 0x18 1 u
  have hsu : StandingOnly s u := (standingOnly_updCore ⟨rfl, rfl, rfl, rfl, rfl, rfl, rfl⟩).trans (standingOnly_updCore ⟨rfl, rfl, rfl, rfl, rfl, rfl, rfl⟩)
  have huv : RegsOnly u v := pmcEvent_only ..
  have hvt : StandingOnly v (setRun c .waiting v) := (standingOnly_updCore ⟨rfl, rfl, rfl, rfl, rfl, rfl, rfl⟩).trans (standingOnly_breakQuietOf ..)
  have hcore : (setRun c .waiting v).core c = { u.core c with run := .waiting } := by
    rw [setRun, core_breakQuietOf, core_updCore_self, huv.get_core]
  have hpc : (u.core c).pc = n := by simp only [u, core_updCore_self]
  have hreg : ∀ a, (∀ k, k < 16 → a ≠ Reg.CS_PMC c k ∧ a ≠ Reg.CS_PMC_SEL c k) → (setRun c .waiting v).reg a = s.reg a := fun a ha =>
    (hvt.reg a).trans ((pmcEvent_reg c 0x18 1 u a ha).trans (hsu.reg a))
  refine ⟨latched (setRun c .waiting v), ?_, ?_, ?_, fun r => ?_, fun a => ?_, ?_, fun a ha _ => ?_, ?_⟩
  · rw [runInsn_ready hi h, attemptAll_ready (hlong ▸ h) (hundef.trans hu) (hmin ▸ hp ▸ Nat.zero_le _) (hcounter.trans hk)
      ((insnAs_body x h.calm hc).trans hb) rfl, settleInsn_ok, retire_waits h.unpaced h.alone,
      settleAll_calm (hvt.calm ((hsu.calm h.calm).regsOnly huv)), ok]
  · exact congrArg Core.run hcore
  · exact (congrArg Core.pc hcore).trans hpc
  · exact (hvt.gprs c r).trans ((huv.get_gpr c r).trans (hsu.gprs c r))
  · exact (hvt.accs c a).trans ((huv.get_accOf c a).trans (hsu.accs c a))
  · exact (hsu.memory.trans huv.memory).trans hvt.memory.latched
  · exact hreg a (fun k hk => ⟨fun e => ha (Or.inr ⟨k, hk, Or.inl e⟩), fun e => ha (Or.inr ⟨k, hk, Or.inr e⟩)⟩)
  · exact hreg _ (fun k hk => retCount_not_pmc c k hk)

/-- Settles O15: fences only retire; SEV and WAITEV move wake latches, and a WAITEV without a cause to go on waits. -/
theorem nopFenceWait : Obligations.NopFenceWait := by
  intro c s h
  refine ⟨?_, ?_, fun hout => ⟨?_, ?_, ?_⟩, fun hwake => ?_, fun hlatch hpend => ?_⟩
  · exact retires_ends (i := .nop c) rfl h rfl c.isLt rfl rfl rfl rfl
  · exact retires_ends (i := .fenceR c) rfl h rfl c.isLt rfl rfl rfl rfl
  · have hb : (fenceInsn true).body c s = .ok (retTo (nextPc s c false)) s := by simp [fenceInsn, mkInsn, h.storesDone c.isLt hout, seqRet]
    exact retires_ends (i := .fenceW c) rfl h rfl c.isLt rfl rfl rfl hb
  · have hb : (fenceInsn true).body c s = .ok (retTo (nextPc s c false)) s := by simp [fenceInsn, mkInsn, h.storesDone c.isLt hout, seqRet]
    exact retires_ends (i := .fenceA c) rfl h rfl c.isLt rfl rfl rfl hb
  · have hb : insnSev.body c s = .ok (retTo (nextPc s c false)) (wakeGroup c 8 s) := by
      rw [← nextPc_standing (wakeGroup_pc c 8 c s)]
      simp [insnSev, mkInsn, h.storesDone c.isLt hout, seqRet, wakeGroup]
    obtain ⟨t, ht, hpc, hgprs, haccs, hregs, hmem, hcount, hcore, hothers⟩ :=
      standing_ends (i := .sev c) rfl h c.isLt rfl rfl rfl hb (wakeGroup_standing c 8 s)
    refine ⟨t, ht, hpc, hgprs, haccs, hregs, hmem, hcount, fun n hn => ?_⟩
    have hlatch : (t.core n).latch = ((wakeGroup c 8 s).core n).latch := by
      by_cases e : n = c
      · subst e; rw [hcore]; rfl
      · rw [hothers n e]
    rw [hlatch, wakeGroup_latch]
    simp [hn]
  · have hup : wakeUp s c = true := by rw [wakeUp, Bool.or_eq_true]; exact hwake
    have hb : insnWaitev.body c s = .ok (retTo (nextPc s c false)) (setLatch c false s) := by
      rw [← nextPc_standing (u := setLatch c false s) (by rw [core_setLatch_self])]
      simp [insnWaitev, mkInsn, hup, seqRet]
    obtain ⟨t, ht, hpc, hgprs, haccs, hregs, hmem, hcount, hcore, hothers⟩ :=
      standing_ends (i := .waitev c) rfl h c.isLt rfl rfl rfl hb (setLatch_standing c false s)
    rw [core_setLatch_self] at hcore
    refine ⟨t, ht, ⟨hgprs, haccs, ⟨hpc, hcount, fun d hd => (hothers d hd).trans (core_setLatch_ne hd ..)⟩, hregs, hmem⟩, ?_, ?_⟩
    · rw [hcore]; rfl
    · rw [hcore]; exact h.running
  · have hup : wakeUp s c = false := by rw [wakeUp, hlatch, hpend]; rfl
    have hb : insnWaitev.body c s = .ok { retTo (nextPc s c false) with waits := true } s := by simp [insnWaitev, mkInsn, hup]
    exact waits_ends (i := .waitev c) rfl h c.isLt rfl rfl rfl hb

end Sys2Proof.Machine
end

section
/-!
SUPPORT. F40 operations (R148-R152): NaNs, flushed operands, the sticky bits, and the order of the words that are no NaN.
-/
set_option linter.constructorNameAsVariable false

namespace Sys2Proof.Machine

/-! ### NaNs -/

theorem isNan_fDecode (ftz : Bool) (w : Word) : isNan (fDecode ftz w) = isNaN40 w := by
  unfold fDecode isNaN40
  by_cases he : fget w 38 31 = 255
  · by_cases hf : fget w 30 0 = 0
    · simp [he, hf, isNan]
    · cases bget w 30 <;> simp [he, hf, isNan]
  · by_cases h0 : fget w 38 31 = 0 <;> simp [he, h0, isNan]

theorem isSnan_fDecode (ftz : Bool) (w : Word) : isSnan (fDecode ftz w) = isSignaling40 w := by
  unfold fDecode isSignaling40 isNaN40
  by_cases he : fget w 38 31 = 255
  · by_cases hf : fget w 30 0 = 0
    · simp [he, hf, isSnan]
    · cases bget w 30 <;> simp [he, hf, isSnan]
  · by_cases h0 : fget w 38 31 = 0 <;> simp [he, h0, isSnan]

theorem isNan_of_isSnan {x : FVal} (h : isSnan x = true) : isNan x = true := by rw [isNan, ← isSnan, h, Bool.true_or]

@[simp] theorem isNan_fNegV (x : FVal) : isNan (fNegV x) = isNan x := by cases x <;> rfl
@[simp] theorem isSnan_fNegV (x : FVal) : isSnan (fNegV x) = isSnan x := by cases x <;> rfl

/-- The NaN result: the default NaN, with NV for a signaling operand. -/
theorem nanRes_eq (l : List FVal) : (nanRes l).1 = 0x7FC0000000 ∧ (l.any isSnan = true → (nanRes l).2.testBit 4 = true) :=
  ⟨rfl, fun h => by rw [nanRes, h]; rfl⟩

theorem nan_cases {x : FVal} (h : isNan x = true) : x = .snan ∨ x = .qnan := by simpa [isNan] using h

section
variable (mode : FMode) (ftz : Bool) {x y : FVal}

theorem fAddV_nan (h : isNan x = true ∨ isNan y = true) : fAddV mode ftz x y = nanRes [x, y] := by
  rcases h with h | h <;> obtain rfl | rfl := nan_cases h
  · rfl
  · rfl
  · cases x <;> rfl
  · cases x <;> rfl

theorem fMul_nan (h : isNan x = true ∨ isNan y = true) : fMul mode ftz x y = nanRes [x, y] := by
  rw [fMul, if_pos (by rw [Bool.or_eq_true]; exact h)]

theorem fDiv_nan (h : isNan x = true ∨ isNan y = true) : fDiv mode ftz x y = nanRes [x, y] := by
  rcases h with h | h <;> obtain rfl | rfl := nan_cases h
  · rfl
  · rfl
  · cases x <;> rfl
  · cases x <;> rfl

theorem fSqrt_nan (h : isNan x = true) : fSqrt mode ftz x = nanRes [x] := by obtain rfl | rfl := nan_cases h <;> rfl

/-- A fused multiply-add with a NaN among its operands. -/
theorem fFma_nan (d : FVal) (h : isNan x = true ∨ isNan y = true ∨ isNan d = true) :
    (fFma mode ftz d x y).1 = 0x7FC0000000 ∧ (isSnan x = true ∨ isSnan y = true ∨ isSnan d = true → (fFma mode ftz d x y).2.testBit 4 = true) := by
  have hsn : isSnan x = true ∨ isSnan y = true ∨ isSnan d = true → (isSnan d || isSnan x || isSnan y) = true := by
    rintro (h | h | h) <;> simp [h]
  unfold fFma
  dsimp only
  by_cases hxy : (isNan x || isNan y) = true
  · rw [if_pos hxy]
    exact ⟨rfl, fun hs => by rw [hsn hs]; rfl⟩
  · have hd : isNan d = true := by
      rcases h with h | h | h
      · simp [h] at hxy
      · simp [h] at hxy
      · exact h
    rw [if_neg hxy]
    split
    · exact ⟨rfl, fun _ => rfl⟩
    · rw [if_pos hd]
      exact ⟨rfl, fun hs => by rw [hsn hs]; rfl⟩

end

/-! ### FMIN and FMAX -/

/-- A flushed operand is the word itself or the zero of its sign (R151). -/
theorem flush_eq (ftz : Bool) (w : Word) : (if ftz && fget w 38 31 == 0 then fZero (w.getLsbD 39) else w) = flushed40 ftz w := by
  unfold flushed40
  split
  · apply BitVec.eq_of_getLsbD_eq
    intro i hi
    rw [BitVec.getLsbD_and]
    have hz : ∀ b, (fZero b).getLsbD i = (decide (i = 39) && b) := by
      intro b
      have : fZero b = bset 0 39 b := by cases b <;> rfl
      rw [this]
      have := bset_bit 0 39 i b (by omega)
      simp only [bget] at this
      rw [this]
      by_cases e : i = 39 <;> simp [e]
    have hm : (0x8000000000 : Word).getLsbD i = decide (i = 39) := by
      have : (0x8000000000 : Word) = fZero true := rfl
      rw [this, hz, Bool.and_true]
    rw [hz, hm]
    by_cases e : i = 39 <;> simp [e]
  · rfl

theorem fMinMax_nan (ftz max : Bool) (a b : Word) :
    (isNaN40 a = true → (fMinMax ftz max a b).1 = if isNaN40 b then 0x7FC0000000 else flushed40 ftz b) ∧
    (isNaN40 b = true → (fMinMax ftz max a b).1 = if isNaN40 a then 0x7FC0000000 else flushed40 ftz a) ∧
    (isSignaling40 a = true ∨ isSignaling40 b = true → (fMinMax ftz max a b).2.testBit 4 = true) := by
  have hnan : isSignaling40 a = true ∨ isSignaling40 b = true → isNaN40 a = true ∨ isNaN40 b = true :=
    Or.imp (fun h => by simp only [isSignaling40, Bool.and_eq_true] at h; exact h.1)
      (fun h => by simp only [isSignaling40, Bool.and_eq_true] at h; exact h.1)
  have hnv : isSignaling40 a = true ∨ isSignaling40 b = true → (isSignaling40 a || isSignaling40 b) = true := by rw [Bool.or_eq_true]; exact id
  have nv : fNV.testBit 4 = true := rfl
  simp only [fMinMax, isNan_fDecode, isSnan_fDecode, flush_eq]
  cases ha : isNaN40 a <;> cases hb : isNaN40 b
  · exact ⟨fun h => (Bool.false_ne_true h).elim, fun h => (Bool.false_ne_true h).elim, fun h => by simp [ha, hb] at hnan; simp [hnan] at h⟩
  · exact ⟨fun h => (Bool.false_ne_true h).elim, fun _ => rfl, fun h => by simp [hnv h, nv]⟩
  · exact ⟨fun _ => rfl, fun h => (Bool.false_ne_true h).elim, fun h => by simp [hnv h, nv]⟩
  · exact ⟨fun _ => rfl, fun _ => rfl, fun h => by simp [hnv h, nv]⟩

/-- R150: a NaN converts to 0, with NV. -/
theorem fToInt_nan (mode : FMode) (ftz : Bool) (k : Nat) {a : Word} (h : isNaN40 a = true) : fToInt mode ftz k a = (0, fNV) := by
  rw [← isNan_fDecode ftz] at h
  obtain hd | hd := nan_cases h <;> rw [fToInt, hd]

/-! ### The sticky bits (R165) -/

theorem fSticky_reg (c st : Nat) (s : State) :
    (fSticky c st s).reg (Reg.CS_F40_CTL c) = fset (s.reg (Reg.CS_F40_CTL c)) 4 0 (fget (s.reg (Reg.CS_F40_CTL c)) 4 0 ||| st) := reg_setFld_self ..

/-- Sticky bits only rise; the bits above NV stay. -/
theorem sticky_bit (w : Word) (st i : Nat) :
    bget (fset w 4 0 (fget w 4 0 ||| st)) i = (bget w i || (decide (i ≤ 4) && st.testBit i)) := by
  rw [bget, fset_bit _ _ _ _ _ (by omega) (by omega)]
  by_cases h : i ≤ 4
  · rw [if_pos ⟨Nat.zero_le _, h⟩, Nat.testBit_or, fget_testBit]
    simp [h, bget]
  · rw [if_neg (fun hc => h hc.2)]
    simp [h, bget]

theorem sticky_none (w : Word) : fset w 4 0 (fget w 4 0 ||| 0) = w := by
  apply BitVec.eq_of_getLsbD_eq
  intro i _
  have := sticky_bit w 0 i
  simpa [bget] using this

/-! ### The F40 operations -/

/-- R148, R150, R151: what an operation names of its result and its sticky bits. -/
theorem fpResult_means (op : FOp) (c : Nat) (s : State) :
    FloatMeans s c op (fpResult op c s).2.1
      (fset (s.reg (Reg.CS_F40_CTL c)) 4 0 (fget (s.reg (Reg.CS_F40_CTL c)) 4 0 ||| (fpResult op c s).2.2)) := by
  have nv : ∀ {st : Nat}, st.testBit 4 = true →
      bget (fset (s.reg (Reg.CS_F40_CTL c)) 4 0 (fget (s.reg (Reg.CS_F40_CTL c)) 4 0 ||| st)) 4 = true := fun h => by rw [sticky_bit, h]; simp
  have sig : ∀ w, isSignaling40 w = true → isNaN40 w = true := fun w h => by simp only [isSignaling40, Bool.and_eq_true] at h; exact h.1
  have two : ∀ (f : FVal → FVal → Word × Nat) (ftz : Bool) (a b : Word),
      (∀ x y, isNan x = true ∨ isNan y = true → f x y = nanRes [x, y]) →
      (isNaN40 a = true ∨ isNaN40 b = true → (f (fDecode ftz a) (fDecode ftz b)).1 = 0x7FC0000000) ∧
      (isSignaling40 a = true ∨ isSignaling40 b = true → (f (fDecode ftz a) (fDecode ftz b)).2.testBit 4 = true) := by
    intro f ftz a b hf
    refine ⟨fun h => ?_, fun h => ?_⟩
    · rw [hf _ _ (by simpa only [isNan_fDecode] using h)]; exact (nanRes_eq _).1
    · rw [hf _ _ (by simpa only [isNan_fDecode] using h.imp (sig a) (sig b))]
      refine (nanRes_eq _).2 ?_
      simpa only [List.any_cons, List.any_nil, isSnan_fDecode, Bool.or_false, Bool.or_eq_true] using h
  cases op with
  | fneg r a => exact ⟨rfl, sticky_none _⟩
  | fabs r a => exact ⟨rfl, sticky_none _⟩
  | fadd r a b rm => exact (two _ _ _ _ (fun x y => fAddV_nan _ _)).imp id (fun h hs => nv (h hs))
  | fsub r a b rm =>
    refine (two (fun x y => fAddV _ _ x (fNegV y)) _ _ _ (fun x y h => ?_)).imp id (fun h hs => nv (h hs))
    rw [fAddV_nan _ _ (by rwa [isNan_fNegV])]
    simp [nanRes]
  | fmul r a b rm => exact (two _ _ _ _ (fun x y => fMul_nan _ _)).imp id (fun h hs => nv (h hs))
  | fdiv r a b rm => exact (two _ _ _ _ (fun x y => fDiv_nan _ _)).imp id (fun h hs => nv (h hs))
  | fma r a b rm =>
    refine ⟨fun h => (fFma_nan _ _ _ (by simpa only [isNan_fDecode] using h)).1, fun h => nv ((fFma_nan _ _ _ ?_).2 ?_)⟩
    · simpa only [isNan_fDecode] using h.imp (sig _) (Or.imp (sig _) (sig _))
    · simpa only [isSnan_fDecode] using h
  | fmin r a b rm => exact (fMinMax_nan _ false _ _).imp id (And.imp id (fun h hs => nv (h hs)))
  | fmax r a b rm => exact (fMinMax_nan _ true _ _).imp id (And.imp id (fun h hs => nv (h hs)))
  | fsqrt r a rm =>
    refine ⟨fun h => ?_, fun h => nv ?_⟩
    · exact (congrArg Prod.fst (fSqrt_nan _ _ (by rwa [isNan_fDecode]))).trans (nanRes_eq _).1
    · rw [show (fpResult (.fsqrt r a rm) c s).2.2 = _ from congrArg Prod.snd (fSqrt_nan _ _ (by rw [isNan_fDecode]; exact sig _ h))]
      exact (nanRes_eq _).2 (by simpa only [List.any_cons, List.any_nil, isSnan_fDecode, Bool.or_false] using h)
  | cvtIF r a rm | cvtQF r a rm =>
    intro h
    have h0 : (s.gpr c a).toInt = 0 := by rw [h]; rfl
    simp only [fpResult, fRoundInt, h0, if_true]
    exact ⟨rfl, sticky_none _⟩
  | cvtFI r a rm | cvtFQ r a rm =>
    intro h
    exact ⟨by simp only [fpResult, fToInt_nan _ _ _ h], nv (by simp only [fpResult, fToInt_nan _ _ _ h]; decide)⟩

/-! ### The order of F40 words (R152) -/

/-- The magnitude that exponent and fraction of an F40 word stand for, in units of the least one; an infinity continues the scale. -/
def fMagnitude (m : Nat) : Nat := if m < 2 ^ 31 then m else (2 ^ 31 + m % 2 ^ 31) * 2 ^ (m / 2 ^ 31 - 1)

theorem fMagnitude_strictMono : StrictMono fMagnitude := by
  apply strictMono_nat_of_lt_succ
  intro n
  unfold fMagnitude
  by_cases h1 : n + 1 < 2 ^ 31
  · rw [if_pos (by omega), if_pos h1]; omega
  · rw [if_neg h1]
    by_cases h2 : n < 2 ^ 31
    · have : n + 1 = 2 ^ 31 := by omega
      rw [if_pos h2, this]; omega
    · rw [if_neg h2]
      have hq : 1 ≤ n / 2 ^ 31 := by omega
      by_cases h3 : (n + 1) / 2 ^ 31 = n / 2 ^ 31
      · rw [h3]
        exact Nat.mul_lt_mul_of_pos_right (by omega) (by positivity)
      · have hdiv : (n + 1) / 2 ^ 31 - 1 = (n / 2 ^ 31 - 1) + 1 := by omega
        rw [hdiv, pow_succ 2 (n / 2 ^ 31 - 1), ← mul_assoc, mul_right_comm]
        exact Nat.mul_lt_mul_of_pos_right (by omega) (by positivity)

theorem fMagnitude_zero : fMagnitude 0 = 0 := rfl

/-- Signed magnitudes are ordered as the magnitudes of a strictly monotone scale are. -/
theorem sgn_lt_iff (n1 n2 : Bool) (a b : Nat) : sgn n1 (fMagnitude a) < sgn n2 (fMagnitude b) ↔ sgn n1 a < sgn n2 b := by
  have hlt : ∀ x y : Nat, fMagnitude x < fMagnitude y ↔ x < y := fun x y => fMagnitude_strictMono.lt_iff_lt
  have hpos : ∀ x : Nat, 0 < fMagnitude x ↔ 0 < x := fun x => by have := hlt 0 x; rwa [fMagnitude_zero] at this
  have h1 := hpos a
  have h2 := hpos b
  have h3 := hlt a b
  have h4 := hlt b a
  cases n1 <;> cases n2 <;> simp only [sgn, Bool.false_eq_true, if_true, if_false] <;> omega

/-- The magnitude of an infinity on the scale. -/
def fTop : Nat := fMagnitude (255 * 2 ^ 31)

/-- What a value that is no NaN stands for, in units of 2^-157. -/
def fScaled : FVal → Int
  | .fin n m e => sgn n (m * 2 ^ (e + 157).toNat)
  | .inf n => sgn n fTop
  | _ => 0

/-- A decoded value lies on the scale: its exponent, and a finite one is below the infinities. -/
def OnScale : FVal → Prop
  | .fin _ m e => -157 ≤ e ∧ m * 2 ^ (e + 157).toNat < fTop
  | .inf _ => True
  | _ => False

theorem fTop_pos : 0 < fTop := fMagnitude_strictMono (show 0 < 255 * 2 ^ 31 by decide)

theorem sgn_mul (n : Bool) (m k : Nat) : sgn n (m * k) = sgn n m * (k : Int) := by cases n <;> simp [sgn]

/-- The model compares two values as the scale does. -/
theorem fLess_iff {x y : FVal} (hx : OnScale x) (hy : OnScale y) : fLess x y = true ↔ fScaled x < fScaled y := by
  have bound : ∀ (n : Bool) {k : Nat}, k < fTop → -(fTop : Int) < sgn n k ∧ sgn n k < fTop := by
    intro n k hk
    have hk' : (k : Int) < fTop := by exact_mod_cast hk
    cases n <;> simp only [sgn, Bool.false_eq_true, if_true, if_false] <;> constructor <;> omega
  have hpos := fTop_pos
  have infs : ∀ n : Bool, sgn n fTop = if n then -(fTop : Int) else fTop := by intro n; cases n <;> simp [sgn]
  cases x with
  | fin n1 m1 e1 =>
    cases y with
    | fin n2 m2 e2 =>
      obtain ⟨h1, -⟩ := hx
      obtain ⟨h2, -⟩ := hy
      have split : ∀ (n : Bool) (m : Nat) (e : Int), min e1 e2 ≤ e →
          sgn n (m * 2 ^ (e + 157).toNat) = sgn n (m * 2 ^ (e - min e1 e2).toNat) * ((2 ^ (min e1 e2 + 157).toNat : Nat) : Int) := by
        intro n m e he
        rw [← sgn_mul, mul_assoc, ← pow_add]
        congr 3
        omega
      simp only [fLess, fScaled, decide_eq_true_eq]
      rw [split n1 m1 e1 (by omega), split n2 m2 e2 (by omega)]
      exact (mul_lt_mul_iff_left₀ (by positivity)).symm
    | inf n2 =>
      have := bound n1 hx.2
      simp only [fLess, fScaled, infs]
      cases n2 <;> simp <;> omega
    | qnan => exact hy.elim
    | snan => exact hy.elim
  | inf n1 =>
    cases y with
    | fin n2 m2 e2 =>
      have := bound n2 hy.2
      simp only [fLess, fScaled, infs]
      cases n1 <;> simp <;> omega
    | inf n2 => simp only [fLess, fScaled, infs]; cases n1 <;> cases n2 <;> simp [hpos]
    | qnan => exact hy.elim
    | snan => exact hy.elim
  | qnan => exact hx.elim
  | snan => exact hx.elim

/-- A word's magnitude bits are its exponent and fraction. -/
theorem fget_magnitude (w : Word) : fget w 38 0 = fget w 38 31 * 2 ^ 31 + fget w 30 0 := by
  simp only [fget]; omega

theorem flushed40_fields (ftz : Bool) (w : Word) :
    fget (flushed40 ftz w) 38 0 = if ftz && fget w 38 31 == 0 then 0 else fget w 38 0 := by
  unfold flushed40
  split
  · apply Nat.eq_of_testBit_eq
    intro i
    rw [fget_testBit, Nat.zero_testBit, Bool.and_eq_false_iff]
    by_cases hi : i ≤ 38
    · right
      rw [BitVec.getLsbD_and, Nat.zero_add]
      have hm : (0x8000000000 : Word) = bset 0 39 true := rfl
      have := bset_bit 0 39 i true (by omega)
      simp only [bget] at this
      rw [hm, this, if_neg (by omega)]
      simp
    · exact Or.inl (by simp; omega)
  · rfl

/-- A word that is no NaN, as its value on the scale. -/
theorem fDecode_scaled (ftz : Bool) {w : Word} (h : isNaN40 w = false) :
    OnScale (fDecode ftz w) ∧ fScaled (fDecode ftz w) = sgn (bget w 39) (fMagnitude (fget (flushed40 ftz w) 38 0)) := by
  have hf : fget w 30 0 < 2 ^ 31 := fget_lt w 30 0
  have he : fget w 38 31 < 2 ^ 8 := fget_lt w 38 31
  rw [flushed40_fields, fget_magnitude]
  have hlow : ∀ x, x < 2 ^ 31 → fMagnitude x = x := fun x hx => if_pos hx
  by_cases h255 : fget w 38 31 = 255
  · have hf0 : fget w 30 0 = 0 := by
      by_contra hne
      simp [isNaN40, h255, hne] at h
    simp [fDecode, h255, hf0, OnScale, fScaled, fTop, bget]
  · by_cases h0 : fget w 38 31 = 0
    · have hmag : fMagnitude (if ftz && fget w 38 31 == 0 then 0 else fget w 38 31 * 2 ^ 31 + fget w 30 0) = if ftz then 0 else fget w 30 0 := by
        cases ftz
        · simp [h0, hlow _ hf]
        · simp [h0, fMagnitude_zero]
      have hsmall : (if ftz then 0 else fget w 30 0) < 2 ^ 31 := by split <;> omega
      have htop : (if ftz then 0 else fget w 30 0) < fTop := by
        rw [← hlow _ hsmall]
        exact fMagnitude_strictMono (by omega)
      rw [hmag]
      simp only [fDecode, h0, OnScale, fScaled]
      refine ⟨⟨by simp, by simpa using htop⟩, by simp [bget]⟩
    · have hmag : fMagnitude (if ftz && fget w 38 31 == 0 then 0 else fget w 38 31 * 2 ^ 31 + fget w 30 0) =
          (2 ^ 31 + fget w 30 0) * 2 ^ (fget w 38 31 - 1) := by
        have hcond : (ftz && fget w 38 31 == 0) = false := by simp [h0]
        rw [hcond, if_neg Bool.false_ne_true, fMagnitude, if_neg (by omega)]
        congr 2 <;> omega
      have htop : (2 ^ 31 + fget w 30 0) * 2 ^ (fget w 38 31 - 1) < fTop := by
        have hlt : fMagnitude (fget w 38 31 * 2 ^ 31 + fget w 30 0) < fTop := fMagnitude_strictMono (by omega)
        rwa [fMagnitude, if_neg (by omega), show (fget w 38 31 * 2 ^ 31 + fget w 30 0) % 2 ^ 31 = fget w 30 0 by omega,
          show (fget w 38 31 * 2 ^ 31 + fget w 30 0) / 2 ^ 31 = fget w 38 31 by omega] at hlt
      have hexp : ((fget w 38 31 : Int) - 158 + 157).toNat = fget w 38 31 - 1 := by omega
      rw [hmag]
      simp only [fDecode, h255, h0, if_false, OnScale, fScaled, hexp]
      exact ⟨⟨by omega, htop⟩, by simp [bget]⟩

/-- R152: the model's comparison is the order of the words. -/
theorem fLess_fDecode (ftz : Bool) {a b : Word} (ha : isNaN40 a = false) (hb : isNaN40 b = false) :
    fLess (fDecode ftz a) (fDecode ftz b) = decide (order40 ftz a < order40 ftz b) := by
  obtain ⟨hax, hav⟩ := fDecode_scaled ftz ha
  obtain ⟨hbx, hbv⟩ := fDecode_scaled ftz hb
  rw [Bool.eq_iff_iff, decide_eq_true_eq, fLess_iff hax hbx, hav, hbv, sgn_lt_iff]
  rfl

/-- R152: what FCMP leaves of the flags and of NV. -/
theorem fCmp_eq (ftz : Bool) (old : Nat) (a b : Word) :
    fCmp ftz old a b = (packFlags (!(isNaN40 a || isNaN40 b) && decide (order40 ftz a = order40 ftz b))
      (!(isNaN40 a || isNaN40 b) && decide (order40 ftz a < order40 ftz b)) false (isNaN40 a || isNaN40 b) (flagS old),
      if isSignaling40 a || isSignaling40 b then fNV else 0) := by
  simp only [fCmp, isNan_fDecode, isSnan_fDecode]
  by_cases hn : (isNaN40 a || isNaN40 b) = true
  · rw [if_pos hn, hn]; rfl
  · have hn' := Bool.eq_false_iff.2 hn
    obtain ⟨ha, hb⟩ := Bool.or_eq_false_iff.1 hn'
    rw [if_neg hn, hn', fLess_fDecode ftz ha hb, fLess_fDecode ftz hb ha]
    rcases lt_trichotomy (order40 ftz a) (order40 ftz b) with h | h | h
    · simp [h, ne_of_lt h]
    · simp [h]
    · simp [h, ne_of_gt h, not_lt_of_gt h]

/-! ### Whole instructions -/

theorem ctl_not_count (c : Nat) : ¬ countsOf c (Reg.CS_F40_CTL c) := not_count_of_lt (by simp only [Reg.CS_F40_CTL]; omega) (by simp only [Reg.CS_F40_CTL]; omega)

theorem flags_ne_ctl (c : Nat) : Reg.CS_FLAGS c ≠ Reg.CS_F40_CTL c := by simp only [Reg.CS_FLAGS, Reg.CS_F40_CTL]; omega

theorem fSticky_only (c st : Nat) (s : State) : RegsOnly s (fSticky c st s) := regsOnly_setFld ..

theorem fSticky_reg_ne {c st : Nat} {s : State} {a : Nat} (h : a ≠ Reg.CS_F40_CTL c) : (fSticky c st s).reg a = s.reg a :=
  reg_setFld_ne h ..

theorem retCount_fSticky (c st : Nat) (s : State) : (fSticky c st s).reg (Reg.CS_RET_COUNT c) = s.reg (Reg.CS_RET_COUNT c) :=
  reg_setFld_ne (by simp only [Reg.CS_RET_COUNT, Reg.CS_F40_CTL]; omega) ..

theorem fpResult_dest (op : FOp) (c : Nat) (s : State) : (fpResult op c s).1 = floatDest op := by cases op <;> rfl

/-- Settles O6: the operation's result and sticky bits are its own, and FCMP orders its words as their magnitudes and signs do. -/
theorem floatResult : Obligations.FloatResult := by
  intro c s h
  refine ⟨fun op => ?_, fun rs1 rs2 => ?_⟩
  · let r := fpResult op c s
    have hb : (insnFp op).body c s = .ok (retTo (nextPc s c true)) (fSticky c r.2.2 (s.setGpr c r.1 r.2.1)) :=
      plainInsn_body (f := fpOp op) (corePc_setGpr s c r.1 r.2.1)
    obtain ⟨t, ht, hres, haccs, hret, hregs, hmem⟩ := gpr_ends (i := .floatingPoint c op) (rd := r.1) (v := r.2.1) rfl h c.isLt rfl (Nat.zero_le _) rfl
      (fSticky_only ..) hb ((retCount_fSticky ..).trans (setGpr_reg ..))
    have hctl : t.reg (Reg.CS_F40_CTL c) = fset (s.reg (Reg.CS_F40_CTL c)) 4 0 (fget (s.reg (Reg.CS_F40_CTL c)) 4 0 ||| r.2.2) := by
      rw [hregs _ (ctl_not_count c), fSticky_reg, setGpr_reg]
    rw [fpResult_dest] at hres
    refine ⟨r.2.1, t, ht, hres, haccs, hret, fun a ha hl => ?_, hmem, fun i _ hi => ?_, fun i hi => ?_, ?_⟩
    · rw [hregs a ha, fSticky, reg_setFld_ne (by simpa using hl), setGpr_reg]
    · rw [hctl, sticky_bit, hi, Bool.true_or]
    · rw [hctl, sticky_bit, decide_eq_false (by omega), Bool.false_and, Bool.or_false]
    · rw [hctl]; exact fpResult_means op c s
  · let r := fCmp (s.bit (Reg.CS_F40_CTL c) 7) (s.flags c) (s.gpr c rs1) (s.gpr c rs2)
    have hb : (insnFcmp rs1 rs2).body c s = .ok (retTo (nextPc s c true)) (fSticky c r.2 (s.setFlags c r.1)) := rfl
    obtain ⟨t, ht, hgprs, haccs, hret, hregs, hmem⟩ := regs_end (i := .fcmp c rs1 rs2) rfl h c.isLt rfl (Nat.zero_le _) rfl
      ((setFlags_only s c r.1).trans (fSticky_only ..)) hb ((retCount_fSticky ..).trans (retCount_setFlags ..))
    have hr := fCmp_eq (s.bit (Reg.CS_F40_CTL c) 7) (s.flags c) (s.gpr c rs1) (s.gpr c rs2)
    have hfl : t.flags c = r.1 := by
      rw [State.flags, State.fld, hregs _ (flags_not_count c), fSticky, reg_setFld_ne (flags_ne_ctl c)]
      exact flags_setFlags s c r.1 (by simp only [r, hr]; exact packFlags_lt ..)
    have hctl : ∀ i, t.bit (Reg.CS_F40_CTL c) i = (s.bit (Reg.CS_F40_CTL c) i || (decide (i ≤ 4) && r.2.testBit i)) := by
      intro i
      rw [State.bit, hregs _ (ctl_not_count c), fSticky_reg, sticky_bit, State.setFlags, reg_setFld_ne (flags_ne_ctl c).symm]; rfl
    have hnv : ∀ i, r.2.testBit i = ((isSignaling40 (s.gpr c rs1) || isSignaling40 (s.gpr c rs2)) && decide (i = 4)) := by
      intro i
      simp only [r, hr]
      cases (isSignaling40 (s.gpr c rs1) || isSignaling40 (s.gpr c rs2))
      · exact Nat.zero_testBit i
      · exact (Nat.testBit_two_pow (n := 4) (m := i)).trans (by rw [Bool.true_and, decide_eq_decide]; exact eq_comm)
    refine ⟨t, ht, hgprs, haccs, ?_, ?_, ?_, ?_, ?_, ?_, fun i hi => ?_, hret, fun a ha hl => ?_, hmem⟩
    · rw [hfl]; simp only [r, hr, flagV_packFlags]
    · rw [hfl]; simp only [r, hr, flagZ_packFlags]
    · rw [hfl]; simp only [r, hr, flagN_packFlags]
    · rw [hfl]; simp only [r, hr, flagC_packFlags]
    · rw [hfl]; simp only [r, hr, flagS_packFlags]
    · rw [hctl, hnv]; simp [Bool.or_assoc]
    · rw [hctl, hnv]; simp [hi]
    · simp only [List.mem_cons, List.not_mem_nil, or_false, not_or] at hl
      rw [hregs a ha, fSticky, reg_setFld_ne hl.2, State.setFlags, reg_setFld_ne hl.1]

end Sys2Proof.Machine
end

section
/-!
SUPPORT. Messages of an agent on a fabric with nothing wrong on it and no probe (R351, R361, R366, R371), and the answers to snoops (R284).
-/
set_option linter.constructorNameAsVariable false

namespace Sys2Proof.Machine

/-! ### Crossing the fabric -/

/-- Nothing is wrong on the fabric, and no probe looks at it. -/
structure ClearFabric (s : State) : Prop where
  flaws : s.flaws = []
  probes : ∀ k, k < 8 → s.bit (Reg.PRB_n_CTL k) 0 = false

/-- `t` is `s` but for the flit counts of the routers. -/
structure FlitsCounted (s t : State) : Prop where
  only : RegsOnly s t
  regs : ∀ a, (∀ r, r < 16 → a ≠ Reg.FAB_RTR_FLITS r) → t.reg a = s.reg a

theorem FlitsCounted.refl (s : State) : FlitsCounted s s := ⟨.refl s, fun _ _ => rfl⟩

theorem FlitsCounted.trans {s t u : State} (h : FlitsCounted s t) (g : FlitsCounted t u) : FlitsCounted s u :=
  ⟨h.only.trans g.only, fun a ha => (g.regs a ha).trans (h.regs a ha)⟩

theorem FlitsCounted.route {s t : State} (h : FlitsCounted s t) (x y : Nat) : routeValid t x y = routeValid s x y := by
  simp only [routeValid, routeEntry]
  rw [h.regs _ fun r hr => by simp only [routeKey, Reg.FAB_RTR_FLITS]; omega]

theorem FlitsCounted.clear {s t : State} (h : FlitsCounted s t) (hs : ClearFabric s) : ClearFabric t :=
  ⟨h.only.flaws.trans hs.flaws, fun k hk => by
    have := hs.probes k hk
    simp only [State.bit] at this ⊢
    rwa [h.regs _ fun r hr => by simp only [Reg.PRB_n_CTL, Reg.FAB_RTR_FLITS]; omega]⟩

theorem struck_of_no_flaws {s : State} (h : s.flaws = []) (f : Flaw) : struck s f = false := by simp [struck, h]

theorem hopTo_lt {r : Nat} (h : r < 16) (d : Nat) : hopTo r d < 16 := by
  unfold hopTo
  split <;> dsimp only <;> omega

theorem pathHops_lt (inY : Bool) (hops : List Nat) : ∀ (r vc : Nat), r < 16 → ∀ c ∈ pathHops r vc inY hops, c.1 < 16 := by
  induction hops generalizing inY with
  | nil => intro r vc _ c hc; cases hc
  | cons d t ih =>
    intro r vc hr c hc
    rcases List.mem_cons.1 hc with rfl | hc
    · exact hopTo_lt hr d
    · exact ih _ _ _ (hopTo_lt hr d) c hc

theorem pathOf_lt (s : State) {ni : Nat} (h : ni < 32) (dst : Nat) : ∀ c ∈ pathOf s ni dst, c.1 < 16 := by
  intro c hc
  rcases List.mem_cons.1 hc with rfl | hc
  · simp only; omega
  · exact pathHops_lt _ _ _ _ (by omega) c hc

/-- A probe that is off sees nothing. -/
theorem probeHit_off {s : State} {k : Nat} (h : s.bit (Reg.PRB_n_CTL k) 0 = false) (r port : Nat) (p : Pkt) : probeHit k r port p s = s := by
  simp [probeHit, probeMatch, h]

theorem foldl_fixed_of_mem {α β : Type} {f : α → β → α} {a : α} {l : List β} (h : ∀ b ∈ l, f a b = a) : l.foldl f a = a := by
  induction l with
  | nil => rfl
  | cons b l ih => rw [List.foldl_cons, h b List.mem_cons_self, ih fun x hx => h x (List.mem_cons_of_mem _ hx)]

theorem probes_off {s : State} (h : ClearFabric s) (r port : Nat) (p : Pkt) : (List.range 8).foldl (fun s k => probeHit k r port p s) s = s :=
  foldl_fixed_of_mem fun k hk => probeHit_off (h.probes k (List.mem_range.1 hk)) r port p

theorem flitsCounted_addTo {r : Nat} (h : r < 16) (n : Nat) (s : State) : FlitsCounted s (s.addTo (Reg.FAB_RTR_FLITS r) n) :=
  ⟨regsOnly_addTo .., fun _ ha => reg_setReg_ne (ha r h) ..⟩

theorem crossAlong_clear (p : Pkt) (l : List (Nat × Nat × Nat)) : ∀ s, ClearFabric s → (∀ c ∈ l, c.1 < 16) → FlitsCounted s (crossAlong l p s) := by
  induction l with
  | nil => intro s _ _; exact .refl s
  | cons c l ih =>
    intro s hs hl
    have hc := flitsCounted_addTo (hl c List.mem_cons_self) p.flits s
    have hclear := hc.clear hs
    have hstep : crossAlong (c :: l) p s = crossAlong l p (s.addTo (Reg.FAB_RTR_FLITS c.1) p.flits) := by
      simp only [crossAlong, List.foldl_cons, probes_off hclear, ite_self]
    rw [hstep]
    exact hc.trans (ih _ hclear fun x hx => hl x (List.mem_cons_of_mem _ hx))

theorem find_struck {s : State} (h : s.flaws = []) (hdr : Bool) (l : List (Nat × Nat × Nat)) :
    l.find? (fun c => struck s (.flit c.1 c.2.1 hdr)) = none :=
  List.find?_eq_none.2 fun c _ => by simp [struck_of_no_flaws h]

theorem crossFabric_clear {s : State} (hs : ClearFabric s) {p : Pkt} (hsrc : p.src < 32) :
    ∃ t, FlitsCounted s t ∧ crossFabric p s = (some p, t) := by
  have hc := crossAlong_clear p _ s hs (pathOf_lt s hsrc p.dst)
  refine ⟨_, hc, ?_⟩
  simp only [crossFabric, find_struck hs.flaws, find_struck (hc.clear hs).flaws]
  cases p.data <;> rfl

/-! ### Responses of an agent -/

theorem agentEp_lt (a : Nat) : agentEp a < 32 := by unfold agentEp; split_ifs <;> omega

/-- A response with at most a line of data, all of which it carries, joins the messages in flight. -/
theorem sendMsg_response {s : State} (hs : ClearFabric s) {m : CMsg} (hcls : m.cls = 1) (hst : okData m.status = true) (hlen : m.data.length ≤ 16)
    (hsrc : (cohPkt s m).src < 32) (hroute : routeValid s (cohPkt s m).src (cohPkt s m).dst = true) :
    ∃ t, FlitsCounted s t ∧ sendMsg m s = { t with net := s.net ++ [m] } := by
  have hwords : m.words = m.data := by
    have hst' : m.status = .ok ∨ m.status = .poison := by simpa [okData] using hst
    simp [CMsg.words, hcls, hst']
  obtain ⟨t, ht, hx⟩ := crossFabric_clear hs hsrc
  have hdata : m.withData (cohPkt s m).data = m := by simp [CMsg.withData, cohPkt, hwords]
  have hform : malformed t (cohPkt t m) = false := by
    rw [malformed, struck_of_no_flaws (ht.clear hs).flaws]
    simp [Pkt.misformed, cohPkt, hcls, hwords, hlen]
  refine ⟨t, ht, ?_⟩
  have hpost : postMsg m s = { t with net := s.net ++ [m] } := by
    simp [postMsg, crossMsg, hx, hdata, hform, ht.only.net]
  simp only [sendMsg, hcls, hroute, if_true, hpost]
  rfl

/-- A response of an agent with at most a line of data joins the messages in flight. -/
theorem sendMsg_answer {s : State} (hs : ClearFabric s) {m : CMsg} (hcls : m.cls = 1) (hcode : 11 ≤ m.code) (hst : m.status = .ok)
    (hlen : m.data.length ≤ 16) (hroute : routeValid s (agentEp m.agent) (hsEp m.slice) = true) :
    ∃ t, FlitsCounted s t ∧ sendMsg m s = { t with net := s.net ++ [m] } := by
  have hfrom : m.fromAgent = true := by simp [CMsg.fromAgent, hcls, hcode]
  exact sendMsg_response hs hcls (by rw [hst]; rfl) hlen (by simpa [cohPkt, hfrom] using agentEp_lt m.agent)
    (by simpa [cohPkt, hfrom, hsEp] using hroute)

/-! ### Copies -/

/-- `t` is `s` but for agent `a` and what cores hold beside their registers. -/
structure CopyOnly (a : Nat) (s t : State) : Prop where
  only : t = { s with agents := t.agents, cores := t.cores }
  others : ∀ x, x ≠ a → t.agent x = s.agent x

theorem CopyOnly.clear {a : Nat} {s t : State} (h : CopyOnly a s t) (hs : ClearFabric s) : ClearFabric t := by
  rw [h.only]; exact ⟨hs.flaws, hs.probes⟩

theorem CopyOnly.route {a : Nat} {s t : State} (h : CopyOnly a s t) (x y : Nat) : routeValid t x y = routeValid s x y := by
  rw [h.only]; rfl

theorem copyOnly_setAgent (a : Nat) (v : Agent) (s : State) : CopyOnly a s (s.setAgent a v) := ⟨rfl, fun _ hx => agent_setAgent_ne hx ..⟩

theorem copyOnly_putLine (a l : Nat) (c : CLine) (s : State) : CopyOnly a s (putLine a l c s) := copyOnly_setAgent ..

theorem putLine_line (a l : Nat) (c : CLine) (s : State) : SMap.find l ((putLine a l c s).agent a).lines = some c := by
  simp only [putLine, agent_setAgent_self]
  exact SMap.find_insert_self ..

theorem coreLoses_agent (a l : Nat) (s : State) (x : Nat) : (coreLoses a l s).agent x = s.agent x := by
  unfold coreLoses; split <;> rfl

theorem copyOnly_dropLine (a l : Nat) (s : State) : CopyOnly a s (dropLine a l s) := by
  refine ⟨?_, fun x hx => (coreLoses_agent ..).trans (agent_setAgent_ne hx ..)⟩
  unfold dropLine coreLoses
  split <;> rfl

theorem dropLine_line (a l : Nat) (s : State) : SMap.find l ((dropLine a l s).agent a).lines = none := by
  rw [dropLine, coreLoses_agent, agent_setAgent_self]
  exact SMap.find_erase_self ..

theorem privRead_clear {s : State} (h : s.flaws = []) (a l : Nat) : privRead a l s = s := by simp [privRead, h]

/-! ### Snoops -/

theorem inFlight_spec {s : State} {cls code a l : Nat} {m : CMsg} (h : inFlight s cls code a l = some m) :
    m.cls = cls ∧ m.code = code ∧ m.agent = a ∧ m.line = l := by
  have := List.find?_some h
  simp only [Bool.and_eq_true, beq_iff_eq] at this
  obtain ⟨⟨⟨h1, h2⟩, h3⟩, h4⟩ := this
  exact ⟨h1, h2, h3, h4⟩

theorem deliverNext_eq {s : State} {cls code a l : Nat} {m : CMsg} (h : inFlight s cls code a l = some m) :
    deliverNext cls code a l s = deliver m { s with net := s.net.erase m } := by
  rw [inFlight] at h
  rw [deliverNext, h]

/-- The copy that a snoop leaves, if it leaves one. -/
def snoopedCopy (a l : Nat) (next : Option CSt) (d : Line) (s : State) : State :=
  match next with
  | some st => putLine a l ⟨st, d⟩ s
  | none => dropLine a l s

theorem copyOnly_snoopedCopy (a l : Nat) (next : Option CSt) (d : Line) (s : State) : CopyOnly a s (snoopedCopy a l next d s) := by
  cases next
  · exact copyOnly_dropLine ..
  · exact copyOnly_putLine ..

theorem snoopedCopy_line (a l : Nat) (next : Option CSt) (d : Line) (s : State) :
    SMap.find l ((snoopedCopy a l next d s).agent a).lines = next.map (fun st => ⟨st, d⟩) := by
  cases next
  · exact dropLine_line ..
  · exact putLine_line ..

/-- The answer of an agent with a copy in state `st`. -/
def snoopReply (m : CMsg) (c : CLine) : CMsg :=
  let r := snoopResult m.code c.st
  { rsp (if r.1 then 12 else 11) m with data := if r.1 then c.data else [], dirty := r.2.1, epoch := b2n (c.st == .m) }

theorem answerSnoop_copy {s : State} {m : CMsg} {c : CLine} (hf : s.flaws = []) (hc : SMap.find m.line (s.agent m.agent).lines = some c) :
    answerSnoop m s = sendMsg (snoopReply m c) (snoopedCopy m.agent m.line (snoopResult m.code c.st).2.2 c.data s) := by
  simp only [answerSnoop, privRead_clear hf, hc, snoopReply, snoopedCopy]
  cases (snoopResult m.code c.st).1 <;> rfl

theorem sent_append {net : List CMsg} {t : State} {m : CMsg} (h : t.net = net ++ [m]) : Sent net m.cls m.code m.agent m.slice m.line m.data t :=
  ⟨by rw [h, List.dropLast_concat], by rw [h, List.getLast?_concat]; rfl⟩

/-- R284: a snoop of a copy does what the table says, and its answer carries the line where the table says so. -/
theorem snoop_answered {s : State} {code a l : Nat} {m : CMsg} {c : CLine} (hs : ClearFabric s) (hroute : routeValid s (agentEp a) (hsEp m.slice) = true)
    (hc : SMap.find l (s.agent a).lines = some c) (hlen : c.data.length = 16) (hm : inFlight s 2 code a l = some m) (hcode : code < 6)
    {next : Option CSt} {data : Bool} {dirty : Bool} (hr : snoopResult code c.st = (data, dirty, next)) :
    let t := latched (deliverNext 2 code a l s)
    SMap.find l (t.agent a).lines = next.map (fun st => ⟨st, c.data⟩) ∧
      (data = true → Sent (s.net.erase m) 1 12 a m.slice l c.data t) ∧ (data = false → Sent (s.net.erase m) 1 11 a m.slice l [] t) ∧
      (∀ x, x ≠ a → t.agent x = s.agent x) ∧ t.close = s.close ∧ t.stage = s.stage ∧ t.slices = s.slices := by
  obtain ⟨hcls, rfl, rfl, rfl⟩ := inFlight_spec hm
  let r : State := { s with net := s.net.erase m }
  let u := snoopedCopy m.agent m.line next c.data r
  have hu : CopyOnly m.agent r u := copyOnly_snoopedCopy ..
  have hnet : u.net = s.net.erase m := by rw [hu.only]
  obtain ⟨t, ht, hsend⟩ := sendMsg_answer (hu.clear ⟨hs.flaws, hs.probes⟩) (m := snoopReply m c) rfl
    (by simp only [snoopReply, rsp, blankMsg]; split <;> decide) rfl (by simp only [snoopReply]; split <;> simp [hlen])
    ((hu.route ..).trans hroute)
  have hd : deliverNext 2 m.code m.agent m.line s = { t with net := u.net ++ [snoopReply m c] } := by
    rw [deliverNext_eq hm, deliver, if_pos hcls, if_neg (by omega), answerSnoop_copy (s := r) hs.flaws hc, hr]
    exact hsend
  have hsent : Sent (s.net.erase m) 1 (snoopReply m c).code m.agent m.slice m.line (snoopReply m c).data (latched (deliverNext 2 m.code m.agent m.line s)) :=
    sent_append (m := snoopReply m c) (by rw [hd, ← hnet]; rfl)
  simp only [hd] at hsent ⊢
  refine ⟨?_, ?_, ?_, fun x hx => ?_, ?_, ?_, ?_⟩
  · exact (congrArg (fun g : Agent => SMap.find m.line g.lines) (ht.only.get_agent m.agent)).trans (snoopedCopy_line ..)
  · rintro rfl
    simpa [snoopReply, hr, rsp, blankMsg] using hsent
  · rintro rfl
    simpa [snoopReply, hr, rsp, blankMsg] using hsent
  · exact (ht.only.get_agent x).trans (hu.others x hx)
  · exact ht.only.close.trans (by rw [hu.only])
  · exact ht.only.stage.trans (by rw [hu.only])
  · exact ht.only.slices.trans (by rw [hu.only])

/-- Settles O32: each snoop's clause is the row of R284's table for the state of the copy. -/
theorem snoopAnswers : Obligations.SnoopAnswers := by
  intro a l m c s hf hp hroute hc hlen
  have hs : ClearFabric s := ⟨hf, hp⟩
  have row : ∀ {code : Nat} {rows : List (CSt × Option CSt × Bool)}, code < 6 →
      (∀ x ∈ rows, snoopResult code x.1 = (x.2.2, x.1 == .m || x.1 == .o, x.2.1)) → ∀ next data, (c.st, next, data) ∈ rows →
      inFlight s 2 code a l.toNat = some m → _ :=
    fun hcode hrows _ _ hmem hm => snoop_answered hs hroute hc hlen hm hcode (hrows _ hmem)
  refine ⟨fun hm => ⟨_, rfl, snoop_answered hs hroute hc hlen hm (by omega) (dirty := false) rfl⟩, ?_, ?_, ?_, ?_, ?_⟩
  all_goals exact fun next data hmem hm => ⟨_, rfl, row (by omega) (by decide) next data hmem hm⟩

end Sys2Proof.Machine
end

section
/-!
SUPPORT. What a response does at the agent that asked (R179-R182, R279, R284).
-/
set_option linter.constructorNameAsVariable false

namespace Sys2Proof.Machine

/-! ### The side of the agents and cores -/

/-- `t` is `s` but for agents, cores, and registers of core pages. -/
structure CoreSide (s t : State) : Prop where
  only : t = { s with agents := t.agents, cores := t.cores, regs := t.regs }
  regs : ∀ b, b < 0x208000 ∨ 0x210000 ≤ b → t.reg b = s.reg b

theorem CoreSide.refl (s : State) : CoreSide s s := ⟨rfl, fun _ _ => rfl⟩

theorem CoreSide.trans {s t u : State} (h : CoreSide s t) (g : CoreSide t u) : CoreSide s u :=
  ⟨by rw [g.only, h.only], fun b hb => (g.regs b hb).trans (h.regs b hb)⟩

theorem CoreSide.ite {s t u : State} {p : Prop} [Decidable p] (h : CoreSide s t) (g : CoreSide s u) : CoreSide s (if p then t else u) := by
  split <;> assumption

theorem CoreSide.clear {s t : State} (h : CoreSide s t) (hs : ClearFabric s) : ClearFabric t :=
  ⟨by rw [h.only]; exact hs.flaws, fun k hk => by
    have := hs.probes k hk
    simp only [State.bit] at this ⊢
    rwa [h.regs _ (by simp only [Reg.PRB_n_CTL]; omega)]⟩

theorem CoreSide.route {s t : State} (h : CoreSide s t) (x y : Nat) : routeValid t x y = routeValid s x y := by
  simp only [routeValid, routeEntry]
  rw [h.regs _ (by simp only [routeKey]; omega)]

theorem coreSide_setAgent (a : Nat) (v : Agent) (s : State) : CoreSide s (s.setAgent a v) := ⟨rfl, fun _ _ => rfl⟩

theorem coreSide_updCore (c : Nat) (f : Core → Core) (s : State) : CoreSide s (s.updCore c f) := ⟨rfl, fun _ _ => rfl⟩

theorem coreSide_pmcEvent {c : Nat} (h : c < 8) (ev n : Nat) (s : State) : CoreSide s (pmcEvent c ev n s) :=
  ⟨by rw [pmcEvent_only c ev n s], fun b hb => pmcEvent_reg c ev n s b fun k hk => by simp only [Reg.CS_PMC, Reg.CS_PMC_SEL]; omega⟩

theorem pmcEvent_agent (c ev n : Nat) (s : State) (x : Nat) : (pmcEvent c ev n s).agent x = s.agent x := (pmcEvent_only ..).get_agent x

theorem pmcEvent_core (c ev n : Nat) (s : State) (x : Nat) : (pmcEvent c ev n s).core x = s.core x := (pmcEvent_only ..).get_core x

/-! ### Outstanding requests -/

theorem removeOut_agent (a l : Nat) (s : State) : (removeOut a l s).agent a = { s.agent a with out := (s.agent a).out.filter (fun r => r.line != l) } :=
  agent_setAgent_self ..

theorem hasOut_removeOut (a l : Nat) (s : State) : hasOut (removeOut a l s) a l = false := by
  simp [hasOut, removeOut_agent]

theorem hasOut_removeOut_ne {a l x : Nat} (h : x ≠ l) (s : State) : hasOut (removeOut a l s) a x = hasOut s a x := by
  simp only [hasOut, removeOut_agent, List.any_filter]
  congr 1
  funext r
  by_cases e : r.line = x <;> simp_all

/-- The answer to a request that was never retried ends it. -/
theorem endRequest_first {s : State} {a l : Nat} (h : (s.agent a).out.all (fun r => r.line != l || r.rc == 0) = true) (n : Nat) :
    endRequest a n l s = removeOut a l s := by
  have : (s.agent a).out.any (fun r => r.line == l && r.rc != 0) = false := by
    rw [List.any_eq_false]
    intro r hr
    have := List.all_eq_true.1 h r hr
    simp only [Bool.or_eq_true, bne_iff_ne, beq_iff_eq] at this
    simp only [Bool.and_eq_true, beq_iff_eq, bne_iff_ne]
    tauto
  simp [endRequest, this]

/-! ### Delivery -/

/-- The state in which an agent takes a response: the response has left the messages in flight, and its tag is free. -/
def acknowledged (m : CMsg) (s : State) : State := clearTag (agentEp m.agent) m.tag m.gen { s with net := s.net.erase m }

theorem matchTag_awaits {s : State} {x t g : Nat} (h : awaits s x t g) : matchTag x t g s = (true, clearTag x t g s) := by
  simp [matchTag, h.1, h.2]

/-- What an agent does with a response whose tag it holds, by the response's code. -/
def takenBy (code : Nat) (m : CMsg) (s : State) : State :=
  match code with
  | 0 | 1 | 2 => takeData m s
  | 3 => takeDataT m s
  | 4 => takeComp m s
  | 5 => takeGrant m s
  | 6 => takeDecline m s
  | 7 => takeRetry m s
  | 8 => takeComp m s
  | 9 => takePromoOk m s
  | 10 => takePromoFail m s
  | _ => agentViolation m s

theorem deliverNext_response {s : State} {code a l : Nat} {m : CMsg} (hm : inFlight s 1 code a l = some m) (hcode : code < 11)
    (h : awaits s (agentEp a) m.tag m.gen) :
    deliverNext 1 code a l s = takenBy code m (acknowledged m s) := by
  obtain ⟨hcls, rfl, rfl, rfl⟩ := inFlight_spec hm
  have hw : awaits { s with net := s.net.erase m } (agentEp m.agent) m.tag m.gen := h
  rw [deliverNext_eq hm, deliver, if_neg (by omega), if_neg (by omega), if_neg (by omega), if_neg (by omega), if_neg (by omega),
    deliverAgent, matchTag_awaits hw]
  simp only [Bool.not_true, Bool.false_eq_true, if_false]
  rfl

theorem acknowledged_clear {m : CMsg} {s : State} (h : ClearFabric s) : ClearFabric (acknowledged m s) := ⟨h.flaws, h.probes⟩

/-! ### Lines and the cloakroom -/

theorem coreSide_discardCloak {c : Nat} (h : c < 8) (l : Nat) (again : Bool) (s : State) : CoreSide s (discardCloak c l again s) := by
  unfold discardCloak
  split
  · exact .refl s
  · dsimp only
    have hd := (coreSide_pmcEvent h 0x0C 1 s).trans (coreSide_updCore c (fun k => { k with cloak := k.cloak.filter (fun e => e.line != l) }) _)
    exact .ite (hd.trans (coreSide_updCore ..)) hd

theorem discardCloak_agent (c l : Nat) (again : Bool) (s : State) (x : Nat) : (discardCloak c l again s).agent x = s.agent x := by
  unfold discardCloak
  split
  · rfl
  · dsimp only; split <;> exact pmcEvent_agent ..

/-- A core's cloakroom entry for a line it takes in is discarded; other agents have no cloakroom. -/
def takenFrom (a l : Nat) (s : State) : State := if a < 8 then discardCloak a l true s else s

theorem coreSide_takenFrom (a l : Nat) (s : State) : CoreSide s (takenFrom a l s) := by
  unfold takenFrom
  split
  · exact coreSide_discardCloak ‹_› ..
  · exact .refl s

theorem takenFrom_agent (a l : Nat) (s : State) (x : Nat) : (takenFrom a l s).agent x = s.agent x := by
  unfold takenFrom
  split
  · exact discardCloak_agent ..
  · rfl

theorem putLine_out (a l : Nat) (c : CLine) (s : State) : ((putLine a l c s).agent a).out = (s.agent a).out := by
  simp [putLine, agent_setAgent_self]

/-- A line that no agent has to give up another one for. -/
theorem overfull_removeOut {s : State} {a l : Nat} (h : overfull s a l = none) :
    overfull (removeOut a l s) a l = none ∨ overfull (removeOut a l s) a l = some l ∧ SMap.find l ((removeOut a l s).agent a).lines = none := by
  have last : ∀ p : Nat → Bool, ((s.agent a).use.filter (fun x => p x && !hasOut s a x)).getLast? = none →
      ((s.agent a).use.filter (fun x => p x && !hasOut (removeOut a l s) a x)).getLast? = none ∨
      ((s.agent a).use.filter (fun x => p x && !hasOut (removeOut a l s) a x)).getLast? = some l := by
    intro p hp
    rw [List.getLast?_eq_none_iff, List.filter_eq_nil_iff] at hp
    cases hx : ((s.agent a).use.filter (fun x => p x && !hasOut (removeOut a l s) a x)).getLast? with
    | none => exact Or.inl rfl
    | some x =>
      right
      obtain ⟨hx, hpx⟩ := List.mem_filter.1 (List.mem_of_getLast? hx)
      by_contra hne
      rw [hasOut_removeOut_ne fun e => hne (by rw [e])] at hpx
      exact hp x hx hpx
  unfold overfull at h ⊢
  simp only [removeOut_agent] at h ⊢
  cases hl : SMap.find l (s.agent a).lines with
  | some c => simp
  | none =>
    simp only [hl, Option.isSome_none, Bool.false_eq_true, if_false] at h ⊢
    split_ifs at h ⊢ with h1 h2 h2
    · simpa using last _ h
    · exact Or.inl rfl
    · have := last (fun _ => true) (by simpa using h)
      simpa using this
    · exact Or.inl rfl

theorem evictLine_absent {s : State} {a l : Nat} (hf : s.flaws = []) (h : SMap.find l (s.agent a).lines = none) : evictLine a l s = s := by
  simp [evictLine, privRead_clear hf, h]

/-- Where there is room, an installed line is put where the cloakroom no longer has it. -/
theorem installLine_room {s : State} {a l : Nat} (hf : s.flaws = [])
    (h : overfull s a l = none ∨ overfull s a l = some l ∧ SMap.find l (s.agent a).lines = none) (c : CLine) :
    installLine a l c s = putLine a l c (takenFrom a l s) := by
  rcases h with h | ⟨h, hl⟩
  · simp only [installLine, h]; rfl
  · simp only [installLine, h, evictLine_absent hf hl]; rfl

/-! ### Data and ownership -/

/-- The requester holds the line and has sent DONE. -/
theorem installed_done {s u : State} {a l : Nat} {m : CMsg} {c : CLine} (hs : ClearFabric s) (hroute : routeValid s (agentEp a) (hsEp m.slice) = true)
    (ha : m.agent = a) (hl : m.line = l) (hu : CoreSide s u) :
    let t := latched (sendMsg (rsp 13 m) (putLine a l c u))
    SMap.find l (t.agent a).lines = some c ∧ Sent s.net 1 13 a m.slice l [] t ∧ hasOut t a l = hasOut u a l ∧ t.stage = s.stage ∧ t.close = s.close := by
  have hp : CoreSide s (putLine a l c u) := hu.trans (coreSide_setAgent ..)
  have hnet : (putLine a l c u).net = s.net := by rw [hp.only]
  obtain ⟨t, ht, hsend⟩ := sendMsg_answer (hp.clear hs) (m := rsp 13 m) rfl (by decide : 11 ≤ 13) rfl (Nat.zero_le _)
    (by rw [hp.route]; simpa [rsp, blankMsg, ha] using hroute)
  have hag : ∀ x, (latched (sendMsg (rsp 13 m) (putLine a l c u))).agent x = (putLine a l c u).agent x := fun x => by
    rw [latched_get_agent, hsend]; exact ht.only.get_agent x
  refine ⟨?_, ?_, ?_, ?_, ?_⟩
  · rw [hag, putLine_line]
  · have := sent_append (net := s.net) (t := latched (sendMsg (rsp 13 m) (putLine a l c u))) (m := rsp 13 m) (by rw [latched_net, hsend, ← hnet])
    simpa [rsp, blankMsg, ha, hl] using this
  · simp only [hasOut, hag, putLine_out]
  · rw [latched_stage, hsend]; exact ht.only.stage.trans (by rw [hp.only])
  · rw [latched_close, hsend]; exact ht.only.close.trans (by rw [hp.only])

section
variable {s : State} {a l : Nat} {m : CMsg} (hs : ClearFabric s) (hroute : routeValid s (agentEp a) (hsEp m.slice) = true)
  (hw : awaits s (agentEp a) m.tag m.gen) (hfirst : (s.agent a).out.all (fun r => r.line != l || r.rc == 0) = true)
include hs hroute hw hfirst

theorem data_installed (hroom : overfull s a l = none) {code : Nat} (hm : inFlight s 1 code a l = some m) (hcode : code < 3) :
    let t := latched (deliverNext 1 code a l s)
    SMap.find l (t.agent a).lines = some ⟨if code = 0 then .s else if code = 1 then .e else .m, m.data⟩ ∧
      Sent (s.net.erase m) 1 13 a m.slice l [] t ∧ hasOut t a l = false ∧ t.stage = s.stage ∧ t.close = s.close := by
  have htake : deliverNext 1 code a l s = takeData m (acknowledged m s) := by
    rw [deliverNext_response hm (by omega) hw]
    rcases (by omega : code = 0 ∨ code = 1 ∨ code = 2) with rfl | rfl | rfl <;> rfl
  obtain ⟨-, rfl, rfl, rfl⟩ := inFlight_spec hm
  have hack := acknowledged_clear (m := m) hs
  have hrem : CoreSide (acknowledged m s) (removeOut m.agent m.line (acknowledged m s)) := coreSide_setAgent ..
  rw [htake, takeData, endRequest_first (s := acknowledged m s) hfirst,
    installLine_room (hrem.clear hack).flaws (overfull_removeOut (s := acknowledged m s) hroom)]
  obtain ⟨hline, hsent, hout, hstage, hclose⟩ := installed_done (c := ⟨if m.code = 0 then .s else if m.code = 1 then .e else .m, m.data⟩) hack hroute rfl rfl
    (hrem.trans (coreSide_takenFrom m.agent m.line _))
  refine ⟨hline, hsent, hout.trans ?_, hstage, hclose⟩
  rw [hasOut, takenFrom_agent]
  exact hasOut_removeOut ..

theorem grant_taken {c : CLine} (hm : inFlight s 1 5 a l = some m) (hc : SMap.find l (s.agent a).lines = some c) :
    let t := latched (deliverNext 1 5 a l s)
    SMap.find l (t.agent a).lines = some ⟨.m, c.data⟩ ∧ Sent (s.net.erase m) 1 13 a m.slice l [] t ∧ hasOut t a l = false := by
  have htake : deliverNext 1 5 a l s = takeGrant m (acknowledged m s) := deliverNext_response hm (by omega) hw
  obtain ⟨-, -, rfl, rfl⟩ := inFlight_spec hm
  have hack := acknowledged_clear (m := m) hs
  have hrem : CoreSide (acknowledged m s) (removeOut m.agent m.line (acknowledged m s)) := coreSide_setAgent ..
  have hline : SMap.find m.line ((removeOut m.agent m.line (acknowledged m s)).agent m.agent).lines = some c := by rw [removeOut_agent]; exact hc
  rw [htake, takeGrant, endRequest_first (s := acknowledged m s) hfirst]
  simp only [hline]
  obtain ⟨hline, hsent, hout, -, -⟩ := installed_done (c := ⟨.m, c.data⟩) hack hroute rfl rfl (hrem.trans (coreSide_takenFrom m.agent m.line _))
  refine ⟨hline, hsent, hout.trans ?_⟩
  rw [hasOut, takenFrom_agent]
  exact hasOut_removeOut ..

end

/-! ### Ends of requests -/

theorem fillIo_only (c : Nat) (p : IoWait → Bool) (st : FStatus) (d : Line) (s : State) : CoreSide s (fillIo c p st d s) := coreSide_updCore ..

theorem comp_taken {s : State} {m : CMsg} (hfirst : (s.agent m.agent).out.all (fun r => r.line != m.line || r.rc == 0) = true) :
    let t := latched (takeComp m (acknowledged m s))
    t.resp = ⟨agentEp m.agent, m.status, m.data⟩ ∧ hasOut t m.agent m.line = false ∧ t.net = s.net.erase m ∧
      (t.agent m.agent).lines = (s.agent m.agent).lines ∧ (t.agent m.agent).wbq = (s.agent m.agent).wbq.filter (fun w => w.line != m.line) ∧ t.stage = s.stage := by
  let u := dropWb m.agent m.line (removeOut m.agent m.line (acknowledged m s))
  have hu : u.agent m.agent =
      { s.agent m.agent with out := (s.agent m.agent).out.filter (fun r => r.line != m.line), wbq := (s.agent m.agent).wbq.filter (fun w => w.line != m.line) } := by
    simp only [u, dropWb, agent_setAgent_self, removeOut_agent]; rfl
  have hfill : ∀ v : State, (if m.agent < 8 then fillIo m.agent (fun w => w.pa / 16 == m.line) m.status m.data v else v) =
      { v with cores := (if m.agent < 8 then fillIo m.agent (fun w => w.pa / 16 == m.line) m.status m.data v else v).cores } := by
    intro v; split <;> rfl
  rw [takeComp, endRequest_first (s := acknowledged m s) hfirst, hfill]
  refine ⟨rfl, ?_, rfl, ?_, ?_, rfl⟩
  · change (u.agent m.agent).out.any _ = false
    rw [hu]; simp
  · change (u.agent m.agent).lines = _
    rw [hu]
  · change (u.agent m.agent).wbq = _
    rw [hu]

end Sys2Proof.Machine
end

section
/-!
SUPPORT. Tentative reads and promotions at the core that asked (R179-R182), and what the homes leave alone.
-/
set_option linter.constructorNameAsVariable false

namespace Sys2Proof.Machine

/-! ### Tentative reads and promotions -/

theorem overfull_of_agent {s t : State} {a : Nat} (h : t.agent a = s.agent a) (l : Nat) : overfull t a l = overfull s a l := by
  simp only [overfull, hasOut, h]

theorem l1iFill_core (c l : Nat) (d : Line) (s : State) : ∃ f : Core → Core, (∀ k, (f k).cloak = k.cloak) ∧ l1iFill c l d s = s.updCore c f := by
  unfold l1iFill
  exact ⟨_, by exact fun _ => rfl, rfl⟩

theorem removeOut_lines (a l : Nat) (s : State) : ((removeOut a l s).agent a).lines = (s.agent a).lines := by rw [removeOut_agent]

section
variable {s : State} {m : CMsg} (hfirst : (s.agent m.agent).out.all (fun r => r.line != m.line || r.rc == 0) = true)
include hfirst

theorem dataT_taken :
    let t := latched (takeDataT m (acknowledged m s))
    hasOut t m.agent m.line = false ∧ t.net = s.net.erase m ∧ (t.agent m.agent).lines = (s.agent m.agent).lines ∧
      (t.core m.agent).cloak = (s.core m.agent).cloak.map (fun e =>
        if e.line = m.line then { e with data := some m.data, epoch := m.epoch, status := m.status, pulses := 0 } else e) := by
  rw [takeDataT, endRequest_first (s := acknowledged m s) hfirst]
  refine ⟨hasOut_removeOut .., rfl, ?_, ?_⟩
  · exact removeOut_lines m.agent m.line (acknowledged m s)
  · rw [latched_get_core, updCloak, core_updCore_self]; rfl

theorem decline_taken (hc : m.agent < 8) :
    let t := latched (takeDecline m (acknowledged m s))
    hasOut t m.agent m.line = false ∧ t.net = s.net.erase m ∧
      (t.core m.agent).cloak = (s.core m.agent).cloak.map (fun e => if e.line = m.line then { e with declined := true } else e) := by
  rw [takeDecline, endRequest_first (s := acknowledged m s) hfirst]
  have hp := coreSide_pmcEvent hc 0x0F 1 (removeOut m.agent m.line (acknowledged m s))
  refine ⟨?_, ?_, ?_⟩
  · rw [hasOut, latched_get_agent, updCloak, updCore_get_agent, pmcEvent_agent]
    exact hasOut_removeOut ..
  · rw [latched_net, updCloak, updCore_net, hp.only]; rfl
  · rw [latched_get_core, updCloak, core_updCore_self, pmcEvent_core]; rfl

theorem promoFail_taken :
    let t := latched (takePromoFail m (acknowledged m s))
    hasOut t m.agent m.line = false ∧ (t.agent m.agent).lines = (s.agent m.agent).lines ∧ (t.core m.agent).cloak = [] ∧ (t.core m.agent).ttlb = [] := by
  rw [takePromoFail, endRequest_first (s := acknowledged m s) hfirst]
  have hag : ∀ u : State, (squashAll m.agent u).agent m.agent = u.agent m.agent := by
    intro u
    unfold squashAll
    dsimp only
    split <;> split <;> simp only [updCore_get_agent, pmcEvent_agent]
  simp only [promoMismatch, hasOut, latched_get_agent, hag, pmcEvent_agent, latched_get_core]
  refine ⟨hasOut_removeOut .., removeOut_lines m.agent m.line (acknowledged m s), ?_, ?_⟩ <;>
    simp [squashAll]

theorem promoOk_taken (hs : ClearFabric s) (hc : m.agent < 8) (hroom : overfull s m.agent m.line = none) {e : Cloak} {d : Line} {rest : List Cloak}
    (hcloak : (s.core m.agent).cloak = e :: rest) (hel : e.line = m.line) (hed : e.data = some d) :
    let t := latched (takePromoOk m (acknowledged m s))
    SMap.find m.line (t.agent m.agent).lines = some ⟨.s, d⟩ ∧ hasOut t m.agent m.line = false ∧ ∀ x ∈ (t.core m.agent).cloak, x.line ≠ m.line := by
  let u := removeOut m.agent m.line (acknowledged m s)
  let v := dropCloak m.agent m.line (pmcEvent m.agent 0x0B 1 u)
  have hv : CoreSide (acknowledged m s) v := (coreSide_setAgent ..).trans ((coreSide_pmcEvent hc ..).trans (coreSide_updCore ..))
  have hva : v.agent m.agent = u.agent m.agent := pmcEvent_agent ..
  have hfind : (u.core m.agent).cloak.find? (fun e => e.line == m.line) = some e := by
    change (s.core m.agent).cloak.find? _ = _
    simp [hcloak, hel]
  have hdrop : ∀ x ∈ (v.core m.agent).cloak, x.line ≠ m.line := by
    intro x hx
    simp only [v, dropCloak, core_updCore_self, List.mem_filter, bne_iff_ne] at hx
    exact hx.2
  have hroom' := overfull_removeOut (s := acknowledged m s) hroom
  rw [← overfull_of_agent hva, ← hva] at hroom'
  have hinst : installLine m.agent m.line ⟨.s, d⟩ v = putLine m.agent m.line ⟨.s, d⟩ v := by
    have hnone : (v.core m.agent).cloak.find? (fun e => e.line == m.line) = none :=
      List.find?_eq_none.2 fun x hx => by simpa using hdrop x hx
    rw [installLine_room (hv.clear (acknowledged_clear hs)).flaws hroom', takenFrom, if_pos hc, discardCloak, hnone]
  have htake : ∃ f : Core → Core, (∀ k, (f k).cloak = k.cloak) ∧
      takePromoOk m (acknowledged m s) = (putLine m.agent m.line ⟨.s, d⟩ v).updCore m.agent f := by
    rw [takePromoOk, endRequest_first (s := acknowledged m s) hfirst]
    simp only [u] at hfind
    simp only [hfind, hed]
    rw [show installLine m.agent m.line ⟨.s, d⟩ _ = _ from hinst]
    generalize putLine m.agent m.line ⟨.s, d⟩ v = w
    split
    · exact l1iFill_core ..
    · exact ⟨fun k => { k with l1d := l1Touch 4 128 m.line k.l1d }, fun _ => rfl, rfl⟩
  obtain ⟨f, hf, htake⟩ := htake
  rw [htake]
  simp only [hasOut, latched_get_agent, updCore_get_agent, latched_get_core, core_updCore_self, hf]
  refine ⟨?_, ?_, hdrop⟩
  · exact putLine_line m.agent m.line _ v
  · rw [putLine_out, hva]
    exact hasOut_removeOut m.agent m.line (acknowledged m s)

end

/-! ### What the homes leave alone -/

section
variable (s : State) (n l k : Nat)

theorem agents_foldl {β : Type} {f : State → β → State} (h : ∀ s b, (f s b).agents = s.agents) (L : List β) : (L.foldl f s).agents = s.agents :=
  foldl_same_mem State.agents f L (fun s b _ => h s b) s

theorem agents_ite {p : Prop} [Decidable p] {t u v : State} (ht : t.agents = v.agents) (hu : u.agents = v.agents) :
    (if p then t else u).agents = v.agents := by
  split <;> assumption

theorem agents_lv1 {f : State → State} (h : (f s).agents = s.agents) : (lv1 k f s).agents = s.agents := by
  have hlatch : ∀ (t : State) j, (latchSource j t).agents = t.agents := fun t j => by rw [latchSource_events j t]
  have hassert : ∀ j (t : State), (assertSource j t).agents = t.agents := by
    intro j t
    rw [assertSource, drainSources, agents_foldl _ hlatch, acceptSource]
    split <;> rfl
  simp only [lv1, relevelList]
  split
  · rw [hassert, h]
  · exact h

@[simp] theorem agents_logErr (blk : BlkId) (kind unit : Nat) (addr info : Word) : (logErr blk kind unit addr info s).agents = s.agents := by
  unfold logErr; split <;> rfl

@[simp] theorem agents_hsErr (rec kind a pa : Nat) : (hsErr n rec kind a pa s).agents = s.agents := agents_logErr ..

@[simp] theorem agents_hatTrigger (j : Nat) (cause : Word) (rec : LogRec) : (hatTrigger j cause rec s).agents = s.agents := by
  exact (hatTrigger_change cause rec).only.memory.agents

@[simp] theorem agents_probeHit (r port : Nat) (p : Pkt) : (probeHit k r port p s).agents = s.agents := by
  have htrace : ∀ t : State, (traceRec k r port p t).agents = t.agents := by intro t; unfold traceRec; split_ifs <;> rfl
  unfold probeHit
  split
  · extract_lets u v w
    have hv : RegsOnly s v := (((regsOnly_inc ..).trans (regsOnly_addTo ..)).trans (regsOnly_setReg ..)).trans ((regsOnly_setReg ..).trans (regsOnly_setReg ..))
    have hw : w.agents = s.agents := agents_ite ((htrace v).trans hv.agents) hv.agents
    exact agents_ite ((agents_hatTrigger ..).trans hw) hw
  · rfl

@[simp] theorem agents_crossAlong (L : List (Nat × Nat × Nat)) (p : Pkt) : (crossAlong L p s).agents = s.agents := by
  refine agents_foldl _ (fun t c => ?_) L
  dsimp only
  split
  · rw [agents_foldl _ fun t j => agents_probeHit t j ..]; rfl
  · rfl

@[simp] theorem agents_crossFabric (p : Pkt) : (crossFabric p s).2.agents = s.agents := by
  have herr : ∀ c hdr (t : State), (flitErr c hdr p t).agents = t.agents := fun c hdr t => (agents_logErr ..).trans rfl
  unfold crossFabric
  dsimp only
  split
  · simp [herr]
  · split <;> simp [herr]

@[simp] theorem agents_fabViol (p : Pkt) : (fabViol p s).agents = s.agents := (agents_logErr ..).trans rfl

@[simp] theorem agents_postMsg (m : CMsg) : (postMsg m s).agents = s.agents := by
  have hx : (crossMsg m s).2.agents = s.agents := agents_crossFabric ..
  unfold postMsg
  split
  next h => rwa [h] at hx
  next h => rw [h] at hx; split <;> simpa using hx

@[simp] theorem agents_sendMsg (m : CMsg) : (sendMsg m s).agents = s.agents := by
  unfold sendMsg
  dsimp only
  split
  · split
    · rfl
    · rename_i h
      rw [agents_postMsg]
      revert h
      split
      · intro h; cases h
      · unfold allocTag
        split
        · intro h; cases h
        · intro h; cases h; rfl
  · split
    · simp
    · rfl

@[simp] theorem agents_hsEvent (e : Nat) : (hsEvent n e s).agents = s.agents := by
  refine agents_foldl _ (fun t j => ?_) _
  dsimp only
  split_ifs <;> rfl

@[simp] theorem agents_protocolErr (m : CMsg) : (protocolErr m s).agents = s.agents := by
  unfold protocolErr
  dsimp only
  split <;> simp

end

end Sys2Proof.Machine
end

section
/-!
SUPPORT. The homes change no agent: the directory, the last-level cache, the DRAM controllers and the home's jobs keep every agent's copies and requests.
-/
set_option linter.constructorNameAsVariable false

namespace Sys2Proof.Machine

/-! ### DRAM controllers -/

section
variable (s : State) (n l k : Nat)

theorem agents_dmcReach : (dmcReach n s).agents = s.agents := by
  unfold dmcReach abortClose domResult dmcActive
  refine agents_ite (agents_lv1 _ _ ?_) ?_
  · exact ((regsOnly_setFld ..).trans (regsOnly_setBit ..)).agents.trans ((regsOnly_setFld ..).trans (regsOnly_inc ..)).agents
  · exact agents_ite ((setDmc_agents ..).trans (setFld_agents ..)) rfl

theorem agents_dmcRefuse (kind pa ep info : Nat) : (dmcRefuse n kind pa ep info s).agents = s.agents :=
  (agents_logErr ..).trans ((regsOnly_setReg ..).trans (regsOnly_setReg ..)).agents

theorem agents_mapUse : (mapUse n k s).agents = s.agents := by
  unfold mapUse mapRead
  refine agents_ite (agents_ite ?_ rfl) rfl
  exact (agents_logErr ..).trans (((regsOnly_setReg ..).trans ((regsOnly_setReg ..).trans (regsOnly_setReg ..))).agents.trans (setDmc_agents ..))

theorem agents_heal (f : Flaw) : (heal f s).agents = s.agents := rfl

theorem agents_watParity : (watParity n l s).agents = s.agents := by
  unfold watParity
  split
  · rfl
  · exact agents_ite ((agents_logErr ..).trans ((agents_heal ..).trans ((regsOnly_setReg ..).trans (regsOnly_setReg ..)).agents)) rfl

theorem agents_dmcPutWord (la : Nat) (w : MWord) : (dmcPutWord n la w s).agents = s.agents := by
  unfold dmcPutWord
  refine agents_ite rfl ?_
  split <;> rfl

theorem agents_dmcUncorr (la pa lane syn : Nat) (v : Word) : (dmcUncorr n la pa lane syn v s).agents = s.agents := by
  unfold dmcUncorr
  refine (agents_dmcPutWord ..).trans ((agents_logErr ..).trans (((regsOnly_setReg ..).trans (regsOnly_setReg ..)).agents.trans ?_))
  exact (agents_ite (inc_agents ..) rfl).trans (inc_agents ..)

theorem agents_dmcReadWord (la pa : Nat) : (dmcReadWord n la pa s).2.agents = s.agents := by
  have hcorr : ∀ lane v (t : State), (dmcCorrected n la lane v t).agents = t.agents := fun lane v t =>
    (agents_dmcPutWord ..).trans ((regsOnly_inc ..).trans (regsOnly_inc ..)).agents
  unfold dmcReadWord
  split
  · rfl
  · exact inc_agents ..
  · exact hcorr ..
  · exact agents_dmcUncorr ..
  all_goals
    dsimp only
    split
    · rfl
    · exact hcorr ..
    · exact agents_dmcUncorr ..
    · exact inc_agents ..

theorem agents_dmcReadWords (j : Nat) : ∀ (la pa : Nat) (s : State), (dmcReadWords n la pa j s).2.agents = s.agents := by
  induction j with
  | zero => intro la pa s; rfl
  | succ j ih => intro la pa s; exact (ih ..).trans (agents_dmcReadWord ..)

theorem agents_dmcRow (la : Nat) : (dmcRow n la s).agents = s.agents := by
  unfold dmcRow
  refine (setDmc_agents ..).trans ?_
  split
  · exact agents_ite (inc_agents ..) (inc_agents ..)
  · exact inc_agents ..

theorem agents_dmcReadLine (ep : Nat) : (dmcReadLine l ep s).2.2.agents = s.agents := by
  unfold dmcReadLine
  extract_lets r n' t u v q d p d'
  have ht : t.agents = s.agents := agents_dmcReach ..
  split
  · exact ht
  · split
    · exact (agents_dmcRefuse ..).trans ht
    · have hu : u.agents = s.agents := (agents_watParity ..).trans ((agents_mapUse ..).trans ht)
      have hv : v.agents = s.agents := (inc_agents ..).trans hu
      have hp : p.2.agents = s.agents := (agents_dmcReadWords n' 16 r.2 (l * 16) _).trans ((agents_dmcRow ..).trans hv)
      clear_value u v p
      split
      · exact (inc_agents ..).trans hu
      · split
        · exact hv
        · exact hp

theorem agents_setUrgent : (setUrgent n s).agents = s.agents := setBit_agents ..

theorem agents_countStall : (countStall n l s).agents = s.agents := agents_ite (inc_agents ..) (inc_agents ..)

theorem agents_reachBlock : (reachBlock n l s).agents = s.agents := by
  unfold reachBlock takeSlot
  refine agents_ite ?_ rfl
  split
  · rfl
  · exact ((regsOnly_setReg ..).trans (regsOnly_setReg ..)).agents.trans (setDmc_agents ..)

theorem agents_tryWrite {e : WqEnt} {t : State} (h : tryWrite n l e s = some t) : t.agents = s.agents := by
  have hin : ∀ t, writeInBlock n l e s = some t → t.agents = s.agents := by
    intro t h
    unfold writeInBlock at h
    split at h
    · cases h; rfl
    · split at h
      · cases h; rfl
      · split at h
        · cases h
        · cases h
          exact (setDmc_agents ..).trans ((regsOnly_setReg ..).trans (regsOnly_setFld ..)).agents
  unfold tryWrite at h
  split_ifs at h
  · cases h; rfl
  · exact hin t h

theorem agents_dramWake : (dramWake l s).agents = s.agents := by
  unfold dramWake requestWake
  refine agents_ite ?_ rfl
  split
  · rfl
  · exact agents_ite (v := s) rfl (inc_agents ..)

theorem agents_dmcWriteLine (ep mask : Nat) (data : Line) : (dmcWriteLine l ep mask data s).2.agents = s.agents := by
  unfold dmcWriteLine
  extract_lets r n' d t u e wait v
  split
  · exact (agents_dramWake ..).trans (setDmc_agents ..)
  · have ht : t.agents = s.agents := agents_dmcReach ..
    split
    · exact ht
    · split
      · exact (agents_dmcRefuse ..).trans ht
      · have hu : u.agents = s.agents := (inc_agents ..).trans ((agents_watParity ..).trans ((agents_mapUse ..).trans ht))
        have hwait : ∀ x : State, (wait x).agents = x.agents := fun x => (agents_setUrgent ..).trans (setDmc_agents ..)
        split
        · exact (hwait u).trans hu
        · have hv : v.agents = s.agents := (agents_reachBlock ..).trans hu
          split
          next h => exact (agents_tryWrite _ _ _ h).trans hv
          next => exact (hwait _).trans (agents_ite ((agents_countStall ..).trans hv) hv)

/-! ### The last-level cache and the home's accesses -/

theorem agents_targetRead : (targetRead n l s).2.2.agents = s.agents := by
  unfold targetRead
  split
  · rfl
  · split
    · rfl
    · exact agents_dmcReadLine ..

theorem agents_targetWrite (mask : Nat) (data : Line) : (targetWrite n l mask data s).2.agents = s.agents := by
  unfold targetWrite
  split
  · rfl
  · split
    · rfl
    · exact agents_dmcWriteLine ..

theorem agents_llcFill (d : Line) (dirty : Bool) : (llcFill n l d dirty s).agents = s.agents := by
  have hevict : (llcEvict n l s).agents = s.agents := by
    unfold llcEvict
    dsimp only
    split
    · rfl
    · split
      · exact (agents_targetWrite ..).trans (setSlice_agents ..)
      · rfl
  unfold llcFill
  exact agents_ite rfl ((setSlice_agents ..).trans (agents_ite hevict rfl))

theorem agents_sramRead : (sramRead n l s).agents = s.agents := by
  unfold sramRead
  split
  next i hard _ =>
    have hfound : ∀ t : State, (if hard then hsErr n 0x18 1 0 (l * 16 + i) (t.inc (Reg.HS_ECC_UNCORR n)) else t.inc (Reg.HS_ECC_CORR n)).agents = t.agents :=
      fun t => agents_ite ((agents_hsErr ..).trans (inc_agents ..)) (inc_agents ..)
    dsimp only
    split
    · exact agents_ite ((setSlice_agents ..).trans (hfound _)) (hfound _)
    · exact agents_ite (agents_ite (hfound _) (hfound _)) rfl
  · rfl

theorem agents_homeRead (alloc quiet : Bool) : (homeRead n l alloc quiet s).2.2.agents = s.agents := by
  unfold homeRead
  extract_lets t u sl r
  have ht : t.agents = s.agents := agents_sramRead ..
  split
  · have hu : u.agents = s.agents := (agents_hsEvent ..).trans ht
    exact agents_ite hu hu
  · have hr : r.2.2.agents = s.agents := (agents_targetRead ..).trans ((agents_hsEvent ..).trans ht)
    split
    · exact (agents_llcFill ..).trans hr
    · exact hr

theorem agents_homeWrite (mask : Nat) (data : Line) (alloc : Bool) : (homeWrite n l mask data alloc s).2.agents = s.agents := by
  unfold homeWrite
  split
  · rfl
  · split
    · exact agents_llcFill ..
    · exact agents_targetWrite ..

end

end Sys2Proof.Machine
end

section
/-!
SUPPORT. The jobs of the homes change no agent, and what RETRY does at the agent that asked (R285).
-/
set_option linter.constructorNameAsVariable false

namespace Sys2Proof.Machine

section
variable (s : State) (n l k : Nat) (m : CMsg) (t : Trk)

/-! ### Requests at a home -/

theorem agents_addWaiting : (addWaiting n m s).agents = s.agents := setSlice_agents ..

theorem agents_waitDram : (waitDram m s).agents = s.agents := by
  have hnote : ∀ u : State, (noteStall m.line u).agents = u.agents := by
    intro u
    unfold noteStall
    exact agents_ite ((agents_setUrgent ..).trans ((setDmc_agents ..).trans ((agents_countStall ..).trans (agents_reachBlock ..)))) (agents_reachBlock ..)
  exact (agents_addWaiting ..).trans (agents_ite (agents_dramWake ..) ((hnote _).trans (agents_dramWake ..)))

theorem agents_endStall : (endStall l s).agents = s.agents :=
  agents_foldl _ (fun _ _ => agents_ite ((agents_setUrgent ..).trans (setDmc_agents ..)) rfl) _

theorem agents_putEntry (e : DirEnt) : (putEntry n k e s).agents = s.agents :=
  agents_ite (setSlice_agents ..) (setSlice_agents ..)

theorem agents_mem_ite {p : Prop} [Decidable p] {x y : Option State} {A : SMap Agent} (hx : ∀ u ∈ x, u.agents = A) (hy : ∀ u ∈ y, u.agents = A) :
    ∀ u ∈ if p then x else y, u.agents = A := by
  split <;> assumption

theorem agents_mem_some {t : State} {A : SMap Agent} (h : t.agents = A) : ∀ u ∈ some t, u.agents = A := by
  rintro u ⟨⟩
  exact h

theorem agents_mem_none {A : SMap Agent} : ∀ u ∈ (none : Option State), u.agents = A := by simp

theorem agents_quickReq : ∀ u ∈ quickReq m s, u.agents = s.agents := by
  have hsent : ∀ (x : CMsg) (t : State), t.agents = s.agents → ∀ u ∈ some (sendMsg x t), u.agents = s.agents := fun x t h =>
    agents_mem_some ((agents_sendMsg ..).trans h)
  have hread : (homeRead m.slice m.line false true s).2.2.agents = s.agents := agents_homeRead ..
  have hwrite : (homeWrite m.slice m.line fullMask m.data true s).2.agents = s.agents := agents_homeWrite ..
  have hmiss : ∀ u ∈ some (sendMsg (rsp 10 m) (hsEvent m.slice 12 s)), u.agents = s.agents := hsent _ _ (agents_hsEvent ..)
  unfold quickReq
  extract_lets n e busy owned r _ w
  clear_value e busy
  refine agents_mem_ite (agents_mem_ite (hsent _ _ (agents_hsEvent ..)) (hsent _ _ ((agents_hsEvent ..).trans hread))) ?_
  refine agents_mem_ite (agents_mem_ite hmiss (agents_mem_ite agents_mem_none ?_)) (agents_mem_ite ?_ agents_mem_none)
  · cases e with
    | none => exact agents_mem_none
    | some e =>
      refine agents_mem_ite ?_ hmiss
      split
      · exact hsent _ _ ((agents_hsEvent ..).trans (setSlice_agents ..))
      · exact agents_mem_none
  · split
    · exact agents_mem_ite (hsent _ _ ((agents_putEntry ..).trans hwrite))
        (agents_mem_ite (hsent _ _ (agents_putEntry ..)) (hsent _ _ rfl))
    · exact hsent _ _ rfl

theorem agents_sendSnoops (f : Nat × Nat → CMsg) (L : List (Nat × Nat)) : (L.foldl (fun s p => sendMsg (f p) (hsEvent n 6 s)) s).agents = s.agents :=
  agents_foldl _ (fun _ _ => (agents_sendMsg ..).trans (agents_hsEvent ..)) _

theorem agents_setTrk : (setTrk n k t s).agents = s.agents := setSlice_agents ..

theorem agents_setDirKey (e : DirEnt) : (setDirKey n k e s).agents = s.agents := setSlice_agents ..

theorem agents_startTrans : (startTrans m s).1.agents = s.agents := by
  unfold startTrans
  extract_lets n
  split
  · exact agents_addWaiting ..
  next k _ =>
    split
    · exact agents_ite ((agents_hsEvent ..).trans ((agents_sendSnoops ..).trans ((agents_setTrk ..).trans (agents_setDirKey ..))))
        ((agents_sendSnoops ..).trans ((agents_setTrk ..).trans (agents_setDirKey ..)))
    · split
      · split
        · exact (agents_setTrk ..).trans (agents_setDirKey ..)
        · split
          · exact (agents_sendSnoops ..).trans ((agents_setTrk ..).trans ((agents_setDirKey ..).trans (agents_hsEvent ..)))
          · exact agents_addWaiting ..
        · exact agents_setTrk ..
      · exact agents_setTrk ..

theorem agents_serveReq : (serveReq m s).1.agents = s.agents := by
  have hend := agents_endStall s m.line
  unfold serveReq
  extract_lets n u sl
  have hu : u.agents = s.agents := hend
  clear_value u
  split
  · exact agents_addWaiting ..
  · split
    · exact agents_waitDram ..
    · split
      · exact (agents_sendMsg ..).trans ((agents_logErr ..).trans hu)
      · split
        next h => exact (agents_quickReq _ _ _ h).trans hu
        next =>
          split
          · split
            · exact (agents_hsEvent ..).trans ((setSlice_agents ..).trans hu)
            · exact (agents_sendMsg ..).trans ((agents_hsEvent ..).trans hu)
          · exact (agents_startTrans ..).trans hu

theorem agents_reqJob : (reqJob m s).1.agents = s.agents := by
  have hparity : (dirParity m.slice m.line s).agents = s.agents :=
    agents_ite ((setBit_agents ..).trans ((agents_hsErr ..).trans (agents_heal ..))) rfl
  have haccept : ∀ u : State, (acceptReq m u).agents = u.agents := by
    intro u
    have htouch : ∀ v : State, (llcTouch m.slice m.line v).agents = v.agents := fun v => agents_ite (setSlice_agents ..) rfl
    unfold acceptReq
    extract_lets n v w
    have hw : w.agents = u.agents := (agents_hsEvent ..).trans (agents_ite (agents_hsEvent ..) (agents_ite (agents_hsEvent ..) rfl))
    exact agents_ite hw ((htouch w).trans hw)
  unfold reqJob
  extract_lets n u
  have hu : u.agents = s.agents := hparity
  clear_value u
  split
  · exact hu
  · split
    · exact (agents_protocolErr ..).trans hu
    · exact (agents_serveReq ..).trans ((haccept u).trans hu)

/-! ### Transactions -/

theorem agents_epochEvent : (epochEvent n l s).agents = s.agents := by
  have hset : ((s.setFld (Reg.HS_EPOCH n) 7 0 (epochG s n + 1)).setSlice n { (s.setFld (Reg.HS_EPOCH n) 7 0 (epochG s n + 1)).slice n with gHold := true }).agents
      = s.agents := (setSlice_agents ..).trans (setFld_agents ..)
  unfold epochEvent
  dsimp only
  split
  · exact hset
  · split
    · exact (agents_setDirKey ..).trans hset
    · exact hset

theorem agents_transData (alloc : Bool) : (transData n t alloc s).2.2.agents = s.agents := by
  unfold transData
  split
  · rfl
  · exact agents_homeRead ..

theorem agents_restoreEntry (st : DirSt) : (restoreEntry n t st s).agents = s.agents := by
  unfold restoreEntry
  split
  · exact agents_putEntry ..
  · rfl

theorem agents_writeBackData : (writeBackData n t s).agents = s.agents := by
  unfold writeBackData
  split
  · exact agents_ite (agents_homeWrite ..) rfl
  · rfl

theorem agents_freeEntry : (freeEntry n l s).agents = s.agents := by
  unfold freeEntry
  split
  · exact setSlice_agents ..
  · rfl

theorem agents_grantTo (code : Nat) (st : FStatus) (d : Line) (after : DirSt) (f : DirEnt → DirEnt) :
    (grantTo n k t code st d after f s).agents = s.agents := by
  unfold grantTo
  split
  · exact (agents_sendMsg ..).trans ((agents_setTrk ..).trans (agents_setDirKey ..))
  · rfl

theorem agents_eraseTrk : (eraseTrk n k s).agents = s.agents := setSlice_agents ..

theorem agents_failTrans (st : FStatus) : (failTrans n k t st s).1.agents = s.agents := by
  unfold failTrans
  refine (agents_sendMsg ..).trans ((agents_eraseTrk ..).trans ?_)
  split
  · exact agents_freeEntry ..
  · exact agents_restoreEntry ..

theorem agents_fst_ite {p : Prop} [Decidable p] {x y : State × List Job} {A : SMap Agent} (hx : x.1.agents = A) (hy : y.1.agents = A) :
    (if p then x else y).1.agents = A := by
  split <;> assumption

theorem agents_finishTrans : (finishTrans n k t s).1.agents = s.agents := by
  have hback : (freeEntry n t.req.line (epochEvent n t.req.line (writeBackData n t s))).agents = s.agents :=
    (agents_freeEntry ..).trans ((agents_epochEvent ..).trans (agents_writeBackData ..))
  have hend : ∀ (x : CMsg) (L : List Job) {u : State}, u.agents = s.agents → (sendMsg x (eraseTrk n k u), L).1.agents = s.agents := fun x L u h =>
    (agents_sendMsg ..).trans ((agents_eraseTrk ..).trans h)
  have hread : ∀ x, (transData n t x s).2.2.agents = s.agents := agents_transData s n t
  have hgrant : ∀ (code : Nat) (st : FStatus) (d : Line) (after : DirSt) (f : DirEnt → DirEnt) {u : State}, u.agents = s.agents →
      (grantTo n k t code st d after f u, ([] : List Job)).1.agents = s.agents := fun code st d after f u h => (agents_grantTo ..).trans h
  have hepoch : ∀ {u : State}, u.agents = s.agents → (epochEvent n t.req.line u).agents = s.agents := fun h => (agents_epochEvent ..).trans h
  have hfail : ∀ (st : FStatus) {u : State}, u.agents = s.agents → (failTrans n k t st u).1.agents = s.agents := fun st u h =>
    (agents_failTrans ..).trans h
  unfold finishTrans
  extract_lets r leave comp p held pu restored _ freed q _ pa old qa wrote cleaned erased
  have hp : p.2.2.agents = s.agents := hread true
  have hpu : pu.2.2.agents = s.agents := hread false
  have hrestored : restored.agents = s.agents := by
    simp only [restored]
    split
    · exact hpu
    · exact (agents_restoreEntry ..).trans hpu
  have hwrote : wrote.agents = s.agents := agents_writeBackData ..
  have hcleaned : cleaned.agents = s.agents := by
    simp only [cleaned]
    split
    · exact hwrote
    · exact (agents_restoreEntry ..).trans hwrote
  have hfreed : freed.agents = s.agents := hback
  clear_value freed
  have hq : q.2.agents = s.agents := (agents_homeWrite ..).trans hfreed
  have hpa : pa.2.2.agents = s.agents := (agents_homeRead ..).trans hfreed
  have hqa : qa.2.agents = s.agents := by
    clear_value pa old
    simp only [qa]
    exact (agents_homeWrite ..).trans hpa
  have herased : erased.agents = s.agents := (agents_eraseTrk ..).trans ((agents_freeEntry ..).trans hwrote)
  have hcomp : ∀ {u : State}, u.agents = s.agents → (comp u, leave).1.agents = s.agents := hend _ _
  clear_value p held pu restored q pa old qa wrote cleaned erased comp
  refine agents_fst_ite (agents_fst_ite ?_ ?_) (agents_fst_ite (agents_fst_ite ?_ (agents_fst_ite ?_ ?_)) (agents_fst_ite ?_ (agents_fst_ite ?_
    (agents_fst_ite ?_ (agents_fst_ite (agents_fst_ite ?_ (agents_fst_ite ?_ ?_)) (agents_fst_ite ?_ (agents_fst_ite ?_ (agents_fst_ite ?_ ?_))))))))
  · exact hfail _ hp
  · split
    · exact hgrant _ _ _ _ _ (hepoch hp)
    · exact hgrant _ _ _ _ _ hp
  · exact hgrant _ _ _ _ _ (hepoch rfl)
  · exact hfail _ hp
  · exact hgrant _ _ _ _ _ (hepoch hp)
  · split
    · exact (agents_sendMsg ..).trans ((agents_hsEvent ..).trans ((agents_eraseTrk ..).trans (agents_putEntry ..)))
    · exact hcomp rfl
  · exact hend _ _ hrestored
  · exact hend _ _ hq
  · exact hend _ _ hpa
  · exact hend _ _ hpa
  · exact hend _ _ hqa
  · exact hcomp hcleaned
  · exact hcomp ((agents_freeEntry ..).trans (agents_writeBackData ..))
  · exact hcomp ((agents_freeEntry ..).trans (agents_epochEvent ..))
  · exact herased

/-! ### Jobs -/

theorem agents_runJob (j : Job) : (runJob j s).1.agents = s.agents := by
  have hclear : ∀ a l (u : State), (clearResv a l u).agents = u.agents := fun a l u =>
    agents_foldl _ (fun _ _ => agents_ite (updCore_agents ..) rfl) _
  cases j with
  | req m => exact agents_reqJob ..
  | again m => exact agents_serveReq ..
  | finish n k =>
    simp only [runJob]
    split
    · rfl
    · exact agents_fst_ite ((agents_hsEvent ..).trans (agents_setTrk ..)) ((agents_finishTrans ..).trans (agents_ite (hclear ..) rfl))
  | leave n l =>
    simp -zeta only [runJob]
    extract_lets ways u sl
    have hu : u.agents = s.agents := agents_foldl _ (fun _ _ => agents_eraseTrk ..) _
    clear_value u
    split
    · split
      · exact (setSlice_agents ..).trans hu
      · exact hu
    · exact (setSlice_agents ..).trans hu

theorem agents_runJobs (fuel : Nat) : ∀ (js : List Job) (s : State), (runJobs fuel js s).agents = s.agents := by
  induction fuel with
  | zero => intro js s; rfl
  | succ fuel ih =>
    intro js s
    cases js with
    | nil => rfl
    | cons j js => exact (ih ..).trans (agents_runJob ..)

theorem agents_atHome : (atHome m s).agents = s.agents := agents_runJobs ..

end

end Sys2Proof.Machine
end

section
/-!
SUPPORT. RETRY at the agent that asked (R285), and the answers together (R179-R182, R279, R281, R284).
-/
set_option linter.constructorNameAsVariable false

namespace Sys2Proof.Machine

theorem agent_of_agents {s t : State} (h : t.agents = s.agents) (x : Nat) : t.agent x = s.agent x := by rw [State.agent, State.agent, h]

/-- The interface of another agent that ends a request leaves this agent. -/
theorem endAtNi_agent_ne {m : CMsg} {a : Nat} (h : a ≠ m.agent) (st : FStatus) (s : State) : (endAtNi m st s).agent a = s.agent a := by
  unfold endAtNi
  extract_lets k u v w
  have hu : u.agent a = s.agent a := (agent_setAgent_ne h ..).trans (agent_setAgent_ne h ..)
  have hv : v.agent a = s.agent a := by
    simp only [v]
    split
    · exact (agent_of_agents (agents_logErr ..) a).trans hu
    · exact (agent_of_agents (agents_logErr ..) a).trans hu
  have hw : w.agent a = s.agent a := by
    simp only [w]
    split
    · exact (discardCloak_agent ..).trans hv
    · exact hv
  clear_value u w
  split
  · exact (updCore_get_agent ..).trans hu
  · exact hw

/-- A request that its interface does not end leaves every agent; one that another agent's interface ends leaves this one. -/
theorem launch_agent {m : CMsg} {s : State} {a : Nat} (hline : lineRefused s m = none)
    (hroute : m.agent = a → routeValid s (agentEp a) (hsEp m.slice) = true) : (launch m s).agent a = s.agent a := by
  unfold launch
  extract_lets k h
  split
  next st hst =>
    refine endAtNi_agent_ne (fun e => ?_) st s
    have : routeValid s k h = true := by have := hroute e.symm; rwa [e] at this
    rw [if_pos this, hline] at hst
    cases hst
  next =>
    split
    · rfl
    next t g u halloc =>
      have hu : u.agents = s.agents := by
        split at halloc
        · cases halloc
        · unfold allocTag at halloc
          split at halloc
          · cases halloc
          · cases halloc; rfl
      have hcross : ∀ x : CMsg, (crossMsg x u).2.agents = u.agents := fun x => agents_crossFabric ..
      split
      next hx =>
        have := hcross { m with tag := t, gen := g }
        rw [hx] at this
        exact agent_of_agents (this.trans hu) a
      next hx =>
        have := hcross { m with tag := t, gen := g }
        rw [hx] at this
        split
        · exact agent_of_agents ((agents_sendMsg ..).trans ((agents_fabViol ..).trans (this.trans hu))) a
        · exact agent_of_agents ((agents_atHome ..).trans (this.trans hu)) a

theorem CoreSide.fld {s t : State} (h : CoreSide s t) {b : Nat} (hb : b < 0x208000 ∨ 0x210000 ≤ b) (hi lo : Nat) : t.fld b hi lo = s.fld b hi lo := by
  simp only [State.fld, h.regs b hb]

theorem CoreSide.bit {s t : State} (h : CoreSide s t) {b : Nat} (hb : b < 0x208000 ∨ 0x210000 ≤ b) (i : Nat) : t.bit b i = s.bit b i := by
  simp only [State.bit, h.regs b hb]

theorem CoreSide.regionAt {s t : State} (h : CoreSide s t) (pa : Nat) : regionAt t pa = regionAt s pa := by
  have hid : ownId t = ownId s := h.fld (by decide) ..
  have hmem : otherMembers t = otherMembers s := by
    simp only [otherMembers, hid, h.bit (b := Reg.CNS_CFG) (by decide)]
  simp only [Sys2Proof.Machine.regionAt, hmem, h.fld (b := Reg.SYS_MAP_STAGE) (by decide), h.fld (b := Reg.SYS_MAP_DRAM) (by decide)]

/-- R285: RETRY makes the request wait with RC one higher, and it is the next to leave. -/
theorem retry_taken {s : State} {m r : CMsg} (hout : (s.agent m.agent).out = [r]) (hq : (s.agent m.agent).retryq = []) (hline : r.line = m.line)
    (hslice : r.slice = m.slice) (hrefused : lineRefused s r = none) (hroute : routeValid s (agentEp m.agent) (hsEp m.slice) = true) :
    ((takeRetry m (acknowledged m s)).agent m.agent).out = [{ r with rc := r.rc + 1 }] := by
  let a := m.agent
  let r' : CMsg := { r with rc := r.rc + 1 }
  obtain ⟨u, hdef⟩ : ∃ u, (if a < 8 then pmcEvent a 0x15 1 (acknowledged m s) else acknowledged m s) = u := ⟨_, rfl⟩
  let g := s.agent a
  let waits := u.setAgent a { g with out := [r'], retryq := [r'] }
  let v := waits.setAgent a { g with out := [r'], retryq := [] }
  have hu : CoreSide (acknowledged m s) u := by
    rw [← hdef]
    split
    · exact coreSide_pmcEvent ‹_› ..
    · exact .refl _
  have hua : u.agent a = g := by
    rw [← hdef]
    split
    · exact pmcEvent_agent ..
    · rfl
  have hnext : nextRetry a m.slice waits = launch r' v := by
    have hwaits : waits.agent a = { g with out := [r'], retryq := [r'] } := agent_setAgent_self ..
    simp only [nextRetry, hwaits]
    simp [r', hslice, v]
  have htake : takeRetry m (acknowledged m s) = nextRetry a m.slice waits := by
    have hout' : g.out = [r] := hout
    have hq' : g.retryq = [] := hq
    simp only [takeRetry]
    rw [show (if m.agent < 8 then pmcEvent m.agent 0x15 1 (acknowledged m s) else acknowledged m s) = u from hdef, show u.agent m.agent = g from hua]
    simp [hout', hq', hline, waits, r', a]
  have hv : CoreSide (acknowledged m s) v := hu.trans ((coreSide_setAgent ..).trans (coreSide_setAgent ..))
  have hkeep : (launch r' v).agent a = v.agent a := by
    refine launch_agent ?_ fun _ => ?_
    · rw [lineRefused, hv.regionAt]
      exact hrefused
    · rw [hv.route]
      change routeValid s (agentEp a) (hsEp r.slice) = true
      rwa [hslice]
  rw [htake, hnext]
  exact (congrArg Agent.out hkeep).trans (congrArg Agent.out (agent_setAgent_self ..))

/-- Settles O33: each response ends its request at the agent, which does what its code says. -/
theorem answersAtTheRequester : Obligations.AnswersAtTheRequester := by
  intro a l m s hf hp hroute hw
  have hs : ClearFabric s := ⟨hf, hp⟩
  refine ⟨fun hfirst hroom => ⟨fun hm => ?_, fun hm => ?_, fun hm => ?_⟩, fun c hfirst hm hc => ?_, fun hfirst => ⟨fun hm => ?_, fun hm => ?_⟩,
    fun r hm hout hq hline hslice hrefused _ => ?_, fun c hac hfirst => ⟨fun hm => ?_, fun hm => ?_, fun e d rest hm hroom hcloak hel hed => ?_, fun hm => ?_⟩⟩
  · exact ⟨_, rfl, data_installed hs hroute hw hfirst hroom hm (by omega)⟩
  · exact ⟨_, rfl, data_installed hs hroute hw hfirst hroom hm (by omega)⟩
  · exact ⟨_, rfl, data_installed hs hroute hw hfirst hroom hm (by omega)⟩
  · exact ⟨_, rfl, grant_taken hs hroute hw hfirst hm hc⟩
  · refine ⟨_, congrArg ok (deliverNext_response hm (by omega) hw), ?_⟩
    obtain ⟨-, -, ha, hl⟩ := inFlight_spec hm
    rw [← ha, ← hl] at hfirst ⊢
    exact comp_taken hfirst
  · refine ⟨_, congrArg ok (deliverNext_response hm (by omega) hw), ?_⟩
    obtain ⟨-, -, ha, hl⟩ := inFlight_spec hm
    rw [← ha, ← hl] at hfirst ⊢
    exact comp_taken hfirst
  · refine ⟨_, congrArg ok (deliverNext_response hm (by omega) hw), ?_⟩
    obtain ⟨-, -, ha, hl⟩ := inFlight_spec hm
    rw [← ha] at hout hq hroute ⊢
    exact retry_taken hout hq (hline.trans hl.symm) hslice hrefused hroute
  all_goals
    rw [hac] at hfirst hw
    obtain ⟨-, -, ha, hl⟩ := inFlight_spec hm
    refine ⟨_, congrArg ok (deliverNext_response hm (by omega) hw), ?_⟩
    have hc8 : m.agent < 8 := ha ▸ c.isLt
  · rw [← ha, ← hl] at hfirst ⊢
    exact dataT_taken hfirst
  · rw [← ha, ← hl] at hfirst ⊢
    exact decline_taken hfirst hc8
  · rw [← ha] at hcloak
    rw [← ha, ← hl] at hroom hfirst ⊢
    exact promoOk_taken hfirst hs hc8 hroom hcloak (hel.trans hl.symm) hed
  · rw [← ha, ← hl] at hfirst ⊢
    exact promoFail_taken hfirst

end Sys2Proof.Machine
end

section
/-!
SUPPORT. A home at rest that takes a request for a line of stage memory (R279, R283, R287).
-/
set_option linter.constructorNameAsVariable false

namespace Sys2Proof.Machine

/-! ### Registers that only count -/

/-- The homes' event counters, the routers' flit counts, and the DRAM controllers' status. -/
def isCount (b : Nat) : Prop :=
  (∃ n k, n < 4 ∧ k < 16 ∧ (b = Reg.HS_CNT n k ∨ b = Reg.HS_CNT_SEL n k)) ∨ (∃ r, r < 16 ∧ b = Reg.FAB_RTR_FLITS r) ∨ ∃ n, n < 2 ∧ b = Reg.DMC_STATUS n

theorem not_isCount {b : Nat} (h1 : ∀ n k, n < 4 → k < 16 → b ≠ 0x210010 + 0x1000 * n + k ∧ b ≠ 0x210020 + 0x1000 * n + k)
    (h2 : b < 0x220050 ∨ 0x220060 ≤ b) (h3 : b ≠ 0x218002 ∧ b ≠ 0x219002) : ¬ isCount b := by
  rintro (⟨n, k, hn, hk, h | h⟩ | ⟨r, hr, h⟩ | ⟨n, hn, h⟩)
  · exact (h1 n k hn hk).1 h
  · exact (h1 n k hn hk).2 h
  · simp only [Reg.FAB_RTR_FLITS] at h; omega
  · simp only [Reg.DMC_STATUS] at h; omega

theorem not_isCount_route (x y : Nat) : ¬ isCount (routeKey x y) := by
  apply not_isCount <;> simp only [routeKey] <;> omega

theorem not_isCount_probe {k : Nat} (h : k < 8) : ¬ isCount (Reg.PRB_n_CTL k) := by
  apply not_isCount <;> simp only [Reg.PRB_n_CTL] <;> omega

theorem not_isCount_home {n b : Nat} (h : n < 4) (hb : 0x210000 + 0x1000 * n ≤ b ∧ b < 0x210010 + 0x1000 * n) : ¬ isCount b := by
  apply not_isCount <;> omega

theorem not_isCount_low {b : Nat} (h : b < 0x210000) : ¬ isCount b := by
  apply not_isCount <;> omega

theorem not_isCount_consort {b : Nat} (h : 0x22a000 ≤ b) : ¬ isCount b := by
  apply not_isCount <;> omega

/-- `t` has the values of `s` in all registers that do more than count. -/
def SameValues (s t : State) : Prop := ∀ b, ¬ isCount b → t.reg b = s.reg b

theorem SameValues.refl (s : State) : SameValues s s := fun _ _ => rfl

theorem SameValues.trans {s t u : State} (h : SameValues s t) (g : SameValues t u) : SameValues s u := fun b hb => (g b hb).trans (h b hb)

theorem SameValues.fld {s t : State} (h : SameValues s t) {b : Nat} (hb : ¬ isCount b) (hi lo : Nat) : t.fld b hi lo = s.fld b hi lo := by
  simp only [State.fld, h b hb]

theorem SameValues.bit {s t : State} (h : SameValues s t) {b : Nat} (hb : ¬ isCount b) (i : Nat) : t.bit b i = s.bit b i := by
  simp only [State.bit, h b hb]

theorem SameValues.route {s t : State} (h : SameValues s t) (x y : Nat) : routeValid t x y = routeValid s x y := by
  simp only [routeValid, routeEntry, h _ (not_isCount_route x y)]

theorem SameValues.clear {s t : State} (h : SameValues s t) (hf : t.flaws = s.flaws) (hs : ClearFabric s) : ClearFabric t :=
  ⟨hf.trans hs.flaws, fun k hk => (h.bit (not_isCount_probe hk) 0).trans (hs.probes k hk)⟩

theorem SameValues.units {s t : State} (h : SameValues s t) {n : Nat} (hn : n < 4) : stageUnits t n = stageUnits s n :=
  h.fld (not_isCount_home hn (by simp only [Reg.HS_SPLIT]; omega)) ..

theorem SameValues.place {s t : State} (h : SameValues s t) (o : Nat) : stagePlace t [0, 1, 2, 3] o = stagePlace s [0, 1, 2, 3] o := by
  simp only [stagePlace, h.units (by decide : 0 < 4), h.units (by decide : 1 < 4), h.units (by decide : 2 < 4), h.units (by decide : 3 < 4)]

theorem SameValues.stageIndex {s t : State} (h : SameValues s t) (pa : Nat) : stageIndex t pa = stageIndex s pa := by
  simp only [Sys2Proof.Machine.stageIndex, h.place]

theorem SameValues.regionAt {s t : State} (h : SameValues s t) (pa : Nat) : regionAt t pa = regionAt s pa := by
  have hid : ownId t = ownId s := h.fld (not_isCount_consort (by decide)) ..
  have hmem : otherMembers t = otherMembers s := by
    simp only [otherMembers, hid, h.bit (b := Reg.CNS_CFG) (not_isCount_consort (by decide))]
  simp only [Sys2Proof.Machine.regionAt, hmem, h.fld (b := Reg.SYS_MAP_STAGE) (not_isCount_low (by decide)),
    h.fld (b := Reg.SYS_MAP_DRAM) (not_isCount_low (by decide))]

/-- `t` is `s` but for counts and the DRAM controllers. -/
structure HomeCounts (s t : State) : Prop where
  only : t = { s with regs := t.regs, dmcs := t.dmcs }
  values : SameValues s t

theorem HomeCounts.refl (s : State) : HomeCounts s s := ⟨rfl, .refl s⟩

theorem HomeCounts.trans {s t u : State} (h : HomeCounts s t) (g : HomeCounts t u) : HomeCounts s u :=
  ⟨by rw [g.only, h.only], h.values.trans g.values⟩

theorem HomeCounts.ite {s t u : State} {p : Prop} [Decidable p] (h : HomeCounts s t) (g : HomeCounts s u) : HomeCounts s (if p then t else u) := by
  split <;> assumption

section
variable {s t : State} (h : HomeCounts s t)
include h
theorem HomeCounts.slices : t.slices = s.slices := by rw [h.only]
theorem HomeCounts.net : t.net = s.net := by rw [h.only]
theorem HomeCounts.flaws : t.flaws = s.flaws := by rw [h.only]
theorem HomeCounts.stage : t.stage = s.stage := by rw [h.only]
theorem HomeCounts.get_slice (n : Nat) : t.slice n = s.slice n := by rw [h.only]; rfl
theorem HomeCounts.clear (hs : ClearFabric s) : ClearFabric t := h.values.clear h.flaws hs
end

theorem FlitsCounted.counts {s t : State} (h : FlitsCounted s t) : HomeCounts s t :=
  ⟨by rw [h.only], fun b hb => h.regs b fun r hr e => hb (Or.inr (Or.inl ⟨r, hr, e⟩))⟩

theorem homeCounts_hsEvent {n : Nat} (hn : n < 4) (e : Nat) (s : State) : HomeCounts s (hsEvent n e s) := by
  have hset : ∀ (k : Nat) (t : State), k < 16 → HomeCounts t
      (if t.bit (Reg.HS_CNT_SEL n k) 8 && t.fld (Reg.HS_CNT_SEL n k) 7 0 == e then
        if (t.inc (Reg.HS_CNT n k)).reg (Reg.HS_CNT n k) = 0 then (t.inc (Reg.HS_CNT n k)).setBit (Reg.HS_CNT_SEL n k) 9 true else t.inc (Reg.HS_CNT n k)
      else t) := by
    intro k t hk
    have hinc : HomeCounts t (t.inc (Reg.HS_CNT n k)) := ⟨rfl, fun b hb => reg_setReg_ne (fun e => hb (Or.inl ⟨n, k, hn, hk, Or.inl e⟩)) ..⟩
    have hbit : HomeCounts (t.inc (Reg.HS_CNT n k)) ((t.inc (Reg.HS_CNT n k)).setBit (Reg.HS_CNT_SEL n k) 9 true) :=
      ⟨rfl, fun b hb => reg_setReg_ne (fun e => hb (Or.inl ⟨n, k, hn, hk, Or.inr e⟩)) ..⟩
    exact .ite (.ite (hinc.trans hbit) hinc) (.refl t)
  have hfold : ∀ (L : List Nat) (t : State), (∀ k ∈ L, k < 16) → HomeCounts t (L.foldl (fun s k =>
      if s.bit (Reg.HS_CNT_SEL n k) 8 && s.fld (Reg.HS_CNT_SEL n k) 7 0 == e then
        if (s.inc (Reg.HS_CNT n k)).reg (Reg.HS_CNT n k) = 0 then (s.inc (Reg.HS_CNT n k)).setBit (Reg.HS_CNT_SEL n k) 9 true else s.inc (Reg.HS_CNT n k)
      else s) t) := by
    intro L
    induction L with
    | nil => intro t _; exact .refl t
    | cons k L ih =>
      intro t hL
      exact (hset k t (hL k List.mem_cons_self)).trans (ih _ fun j hj => hL j (List.mem_cons_of_mem _ hj))
  exact hfold _ s fun k hk => List.mem_range.1 hk

theorem homeCounts_endStall (l : Nat) (s : State) : HomeCounts s (endStall l s) := by
  have hstep : ∀ (n : Nat) (t : State), n < 2 → HomeCounts t
      (if (t.dmc n).stalls.contains l then setUrgent n (t.setDmc n { t.dmc n with stalls := (t.dmc n).stalls.erase l }) else t) := by
    intro n t hn
    refine .ite ⟨rfl, fun b hb => ?_⟩ (.refl t)
    exact reg_setReg_ne (fun e => hb (Or.inr (Or.inr ⟨n, hn, e⟩))) ..
  exact (hstep 0 s (by decide)).trans (hstep 1 _ (by decide))

/-! ### A home at rest -/

/-- Home n is at rest and has room for an entry of line l, and its answers to agent a cross the fabric. -/
structure AtRest (s : State) (a n l : Nat) : Prop where
  clear : ClearFabric s
  back : routeValid s (hsEp n) (agentEp a) = true
  home : n < 4
  ready : HomeReady s n l
  free : dirWay s n l = none
  room : ∃ k, allocWay s n l = some (k, true)

theorem stagePlace_lt (s : State) (o : Nat) : (stagePlace s [0, 1, 2, 3] o).1 < 4 := by
  simp only [stagePlace]
  split_ifs <;> dsimp only <;> omega

theorem HomeReady.homeOf_lt {s : State} {n l : Nat} (h : HomeReady s n l) : homeOf s l < 4 := by
  rw [homeOf, if_pos (by simp [stageBase, h.stage.1, h.stage.2])]
  exact stagePlace_lt ..

theorem dirWay_congr {s t : State} {n : Nat} (h : t.slice n = s.slice n) (l : Nat) : dirWay t n l = dirWay s n l := by
  simp only [dirWay, h]

theorem dirGet_congr {s t : State} {n : Nat} (h : t.slice n = s.slice n) (l : Nat) : dirGet t n l = dirGet s n l := by
  simp only [dirGet, dirWay_congr h, h]

theorem allocWay_congr {s t : State} {n : Nat} (h : t.slice n = s.slice n) (l : Nat) : allocWay t n l = allocWay s n l := by
  simp only [allocWay, h]

/-- What a home at rest depends on. -/
theorem AtRest.of_same {s t : State} {a n l : Nat} (h : AtRest s a n l) (hvalues : SameValues s t) (hflaws : t.flaws = s.flaws)
    (hslice : t.slice n = s.slice n) (hsplit : t.split = s.split) : AtRest t a n l where
  clear := hvalues.clear hflaws h.clear
  back := by rw [hvalues.route, h.back]
  home := h.home
  ready := {
    stage := h.ready.stage
    there := by rw [hvalues.regionAt, h.ready.there]
    up := by rw [hvalues.bit (not_isCount_home h.home (by simp only [Reg.HS_STATUS]; omega)), h.ready.up]
    split := hsplit.trans h.ready.split
    noTrk := by rw [hslice, h.ready.noTrk]
    quiet := by rw [hslice]; exact h.ready.quiet
    epoch := by rw [hslice, h.ready.epoch]
    llc := by rw [llcGet, hslice]; exact h.ready.llc }
  free := by rw [dirWay_congr hslice, h.free]
  room := by rw [allocWay_congr hslice]; exact h.room

theorem AtRest.counts {s t : State} {a n l : Nat} (h : AtRest s a n l) (ht : HomeCounts s t) : AtRest t a n l :=
  h.of_same ht.values ht.flaws (ht.get_slice n) (by rw [ht.only])

/-- A home's answer with at most a line of data joins the messages in flight. -/
theorem sendMsg_reply {s : State} (hs : ClearFabric s) {m : CMsg} (hcls : m.cls = 1) (hcode : m.code < 11) (hst : okData m.status = true)
    (hlen : m.data.length ≤ 16) (hn : m.slice < 4) (hroute : routeValid s (hsEp m.slice) (agentEp m.agent) = true) :
    ∃ t, HomeCounts s t ∧ sendMsg m s = { t with net := s.net ++ [m] } := by
  have hfrom : m.fromAgent = false := by simp [CMsg.fromAgent, hcls]; omega
  obtain ⟨t, ht, e⟩ := sendMsg_response hs hcls hst hlen (by simp [cohPkt, hfrom]; omega) (by simpa [cohPkt, hfrom, hsEp] using hroute)
  exact ⟨t, ht.counts, e⟩

/-! ### Reading the line -/

theorem isStage {l : Nat} (h : 0x100000 ≤ l * 16 ∧ l * 16 < 0x200000) : (decide (stageBase ≤ l * 16) && decide (l * 16 < 0x200000)) = true := by
  simp [stageBase, h.1, h.2]

theorem memReadN_length (m : Memory) (k : Nat) : ∀ a, (memReadN m a k).length = k := by
  induction k with
  | zero => intro a; rfl
  | succ k ih => intro a; simp [memReadN, ih]

theorem stageLine_length (s : State) (l : Nat) : (stageLine s l).length = 16 := memReadN_length ..

theorem HomeCounts.stageLine {s t : State} (h : HomeCounts s t) (l : Nat) : stageLine t l = stageLine s l := by
  simp only [Sys2Proof.Machine.stageLine, h.stage, h.values.stageIndex]

/-- A home reads a line of stage memory from its SRAM. -/
theorem homeRead_stage {s : State} {n l : Nat} (hf : s.flaws = []) (hn : n < 4) (hstage : 0x100000 ≤ l * 16 ∧ l * 16 < 0x200000)
    (hllc : llcGet s n l = none) (alloc quiet : Bool) :
    ∃ t, HomeCounts s t ∧ homeRead n l alloc quiet s = (if hasPoison (stageLine s l) then .poison else .ok, stageLine s l, t) := by
  have hc := homeCounts_hsEvent hn 3 s
  have hsram : sramRead n l s = s := by simp [sramRead, hf]
  have hread : targetRead n l (hsEvent n 3 s) = (if hasPoison (stageLine s l) then .poison else .ok, stageLine s l, hsEvent n 3 s) := by
    rw [targetRead, if_neg (by omega), if_pos hstage.2, ← hc.stageLine]
    rfl
  have hfill : ∀ d t, llcFill n l d false t = t := fun d t => by
    rw [llcFill, if_pos]
    rw [isStage hstage]; rfl
  refine ⟨_, hc, ?_⟩
  simp only [homeRead, hsram, hllc, hread, hfill, ite_self]

/-- What a home writes to a line of stage memory goes to its SRAM. -/
theorem homeWrite_stage {s : State} {n l : Nat} (hstage : 0x100000 ≤ l * 16 ∧ l * 16 < 0x200000) (hllc : llcGet s n l = none) (mask : Nat) (data : Line) :
    homeWrite n l mask data false s =
      (.ok, { s with stage := memWriteN (stageIndex s (l * 16)) (mergeLine mask (stageLine s l) data) s.stage }) := by
  simp only [homeWrite, hllc]
  rw [if_neg (by simp), targetWrite, if_neg (by omega), if_pos hstage.2]
  rfl

/-! ### The request leaves its agent -/

/-- `t` is `s` with request `m` of its agent outstanding, but for counts and the fabric's tags. -/
structure Asked (m : CMsg) (s t : State) : Prop where
  only : t = { s with regs := t.regs, agents := t.agents, fab := t.fab }
  values : SameValues s t
  out : t.agent m.agent = { s.agent m.agent with out := (s.agent m.agent).out ++ [m] }

theorem FreeLine.atRest {s : State} {a l : Nat} (h : FreeLine s a l) : AtRest s a (homeOf s l) l :=
  ⟨⟨h.linked.flaws, h.linked.probes⟩, h.linked.back, h.ready.homeOf_lt, h.ready, h.free, h.room⟩

/-- A request of class 0 about a line, whose packet is well formed and carries its words. -/
structure PlainRequest (m : CMsg) : Prop where
  cls : m.cls = 0
  fresh : m.rc = 0
  carries : m.withData m.words = m
  formed : ∀ t, (cohPkt t m).misformed = false

theorem crossMsg_clear {s : State} (hs : ClearFabric s) {m : CMsg} (hsrc : (cohPkt s m).src < 32) (hcarry : m.withData m.words = m) :
    ∃ t, FlitsCounted s t ∧ crossMsg m s = (some m, t) := by
  obtain ⟨t, ht, hx⟩ := crossFabric_clear hs hsrc
  refine ⟨t, ht, ?_⟩
  rw [crossMsg, hx]
  exact congrArg (fun x => (some x, t)) hcarry

theorem carries_tagged {m : CMsg} (h : m.withData m.words = m) (t g : Nat) :
    CMsg.withData { m with tag := t, gen := g } (CMsg.words { m with tag := t, gen := g }) = { m with tag := t, gen := g } := by
  have hwords : CMsg.words { m with tag := t, gen := g } = m.words := rfl
  rw [hwords]
  simp only [CMsg.withData] at h ⊢
  split at h
  next he => rw [if_pos he]
  next he =>
    rw [if_neg he]
    exact congrArg (fun x : CMsg => { m with data := x.data, tag := t, gen := g }) h

theorem cohPkt_src {m : CMsg} (h : m.fromAgent = true) (s : State) : (cohPkt s m).src = agentEp m.agent := by simp [cohPkt, h]

theorem fromAgent_of_request {m : CMsg} (h : m.cls = 0) : m.fromAgent = true := by simp [CMsg.fromAgent, h]

theorem allocTag_free {s : State} {k t : Nat} (h : freeTag? s k = some t) (dst addr : Nat) (coh snp : Bool) :
    allocTag k dst addr coh snp s =
      some (t, (tagOf s k t).gen, setTag k t ⟨.busy, (tagOf s k t).gen, dst, addr, s.tb.pulses, s.fld Reg.FAB_CTL 8 0, coh, snp⟩ s) := by
  rw [allocTag, h]

theorem lineRefused_stage {s : State} {m : CMsg} (h : regionAt s (m.line * 16) = some .stage) : lineRefused s m = none := by
  rw [lineRefused, h]
  rfl

theorem noCredit_of_no_waiting {s : State} {m : CMsg} (h : (s.slice m.slice).waiting = []) : noCredit s m = false := by
  simp [noCredit, h]

/-- A request that nothing holds or refuses reaches its home. -/
theorem launch_reaches {m m' : CMsg} {v w u : State} {t g : Nat} (hroute : routeValid v (agentEp m.agent) (hsEp m.slice) = true)
    (hrefused : lineRefused v m = none) (hflow : (mustHold v (agentEp m.agent) (hsEp m.slice) || noCredit v m) = false)
    (halloc : allocTag (agentEp m.agent) (hsEp m.slice) (m.line * 16) true false v = some (t, g, w))
    (hcross : crossMsg { m with tag := t, gen := g } w = (some m', u)) (hform : malformed u (cohPkt u m') = false) : launch m v = atHome m' u := by
  unfold launch
  extract_lets k h
  rw [show routeValid v k h = true from hroute, if_pos rfl, hrefused]
  dsimp only
  rw [show (mustHold v k h || noCredit v m) = false from hflow, if_neg Bool.false_ne_true, show allocTag k h (m.line * 16) true false v = _ from halloc]
  dsimp only
  rw [hcross]
  dsimp only
  rw [hform, if_neg Bool.false_ne_true]

theorem request_arrives {s : State} {m : CMsg} (h : FreeLine s m.agent m.line) (hslice : m.slice = homeOf s m.line) (hm : PlainRequest m) :
    ∃ u t g, Asked m s u ∧ issueReq m s = atHome { m with tag := t, gen := g } u := by
  let v := s.setAgent m.agent { s.agent m.agent with out := (s.agent m.agent).out ++ [m] }
  obtain ⟨t, ht⟩ := Option.isSome_iff_exists.1 h.linked.tag
  let w := setTag (agentEp m.agent) t ⟨.busy, (tagOf v (agentEp m.agent) t).gen, hsEp m.slice, m.line * 16, v.tb.pulses, v.fld Reg.FAB_CTL 8 0, true, false⟩ v
  let m' : CMsg := { m with tag := t, gen := (tagOf v (agentEp m.agent) t).gen }
  have halloc : allocTag (agentEp m.agent) (hsEp m.slice) (m.line * 16) true false v = some (t, (tagOf v (agentEp m.agent) t).gen, w) :=
    allocTag_free (s := v) ht ..
  have hsrc : (cohPkt w m').src < 32 := (cohPkt_src (m := m') (fromAgent_of_request hm.cls) w).trans_lt (agentEp_lt _)
  obtain ⟨u, hu, hcross⟩ := crossMsg_clear (s := w) (m := m') ⟨h.linked.flaws, h.linked.probes⟩ hsrc (carries_tagged hm.carries ..)
  have hform : malformed u (cohPkt u m') = false := by
    rw [malformed, struck_of_no_flaws (hu.only.flaws.trans h.linked.flaws), Bool.or_false]
    exact hm.formed u
  have hw := h.ready
  refine ⟨u, t, (tagOf v (agentEp m.agent) t).gen, ⟨?_, hu.counts.values, ?_⟩, ?_⟩
  · rw [hu.only]; rfl
  · rw [hu.only.get_agent]
    exact agent_setAgent_self ..
  · have hrefused : lineRefused v m = none := lineRefused_stage (s := v) hw.there
    have hroute : routeValid v (agentEp m.agent) (hsEp m.slice) = true := by rw [hslice]; exact h.linked.there
    have hflow : (mustHold v (agentEp m.agent) (hsEp m.slice) || noCredit v m) = false := by
      have h1 : mustHold v (agentEp m.agent) (hsEp m.slice) = false := by rw [hslice]; exact h.linked.flows
      have h2 : noCredit v m = false := noCredit_of_no_waiting (s := v) (by rw [hslice]; exact hw.quiet.1)
      rw [h1, h2]; rfl
    rw [issueReq, if_neg (by rw [h.idle]; exact Bool.false_ne_true)]
    exact launch_reaches hroute hrefused hflow halloc hcross hform

end Sys2Proof.Machine
end

section
/-!
SUPPORT. The transactions of a home at rest on a line of stage memory that it has no entry for (R274-R276, R279, R283, R287).
-/
set_option linter.constructorNameAsVariable false

namespace Sys2Proof.Machine

/-! ### The directory -/

theorem dirWay_isNone {s : State} {n l : Nat} (h : dirWay s n l = none) : dirGet s n l = none := by simp [dirGet, h]

/-- The ways of a line's set. -/
def waysOf (l : Nat) : List Nat := (List.range 8).map (fun w => dirSet l * 8 + w)

/-- The entry of line l is e, at key k, and no other way of its set names the line. -/
structure EntryAt (s : State) (n l k : Nat) (e : DirEnt) : Prop where
  way : k ∈ waysOf l
  here : SMap.find k (s.slice n).dir = some e
  tag : e.tag = dirTag l
  only : ∀ j ∈ waysOf l, j ≠ k → ∀ x, SMap.find j (s.slice n).dir = some x → x.tag ≠ dirTag l

theorem find_unique {α : Type} [DecidableEq α] {p : α → Bool} {k : α} {L : List α} (hk : k ∈ L) (hp : p k = true) (h : ∀ j ∈ L, j ≠ k → p j = false) :
    L.find? p = some k := by
  induction L with
  | nil => cases hk
  | cons j L ih =>
    by_cases e : j = k
    · subst e; rw [List.find?_cons_of_pos hp]
    · have hj : ¬ p j = true := by simp [h j List.mem_cons_self e]
      rw [List.find?_cons_of_neg hj]
      exact ih ((List.mem_cons.1 hk).resolve_left (Ne.symm e)) fun i hi => h i (List.mem_cons_of_mem _ hi)

theorem EntryAt.dirWay {s : State} {n l k : Nat} {e : DirEnt} (h : EntryAt s n l k e) : dirWay s n l = some k := by
  refine find_unique h.way (by simp [h.here, h.tag]) fun j hj hne => ?_
  cases hx : SMap.find j (s.slice n).dir with
  | none => simp
  | some x => simpa [hx] using h.only j hj hne x hx

theorem EntryAt.dirGet {s : State} {n l k : Nat} {e : DirEnt} (h : EntryAt s n l k e) : dirGet s n l = some e := by
  simp only [Sys2Proof.Machine.dirGet, h.dirWay, h.here]

theorem EntryAt.congr {s t : State} {n l k : Nat} {e : DirEnt} (h : EntryAt s n l k e) (hd : (t.slice n).dir = (s.slice n).dir) : EntryAt t n l k e :=
  ⟨h.way, by rw [hd, h.here], h.tag, by rw [hd]; exact h.only⟩

theorem EntryAt.set {s : State} {n l k : Nat} {e x : DirEnt} (h : EntryAt s n l k e) (hx : x.tag = dirTag l) : EntryAt (setDirKey n k x s) n l k x := by
  refine ⟨h.way, ?_, hx, fun j hj hne y hy => h.only j hj hne y ?_⟩
  · simp only [setDirKey, slice_setSlice_self]
    exact SMap.find_insert_self ..
  · simpa only [setDirKey, slice_setSlice_self, SMap.find_insert_ne hne] using hy

/-- A new entry in a free way of a set that does not name the line. -/
theorem entryAt_new {s : State} {n l k : Nat} (hfree : dirWay s n l = none) (hroom : allocWay s n l = some (k, true)) {x : DirEnt} (hx : x.tag = dirTag l) :
    EntryAt (setDirKey n k x s) n l k x := by
  have hk : (waysOf l).find? (fun k => (SMap.find k (s.slice n).dir).isNone) = some k := by
    unfold allocWay at hroom
    dsimp only at hroom
    split at hroom
    next j h =>
      have hj : j = k := by simpa using hroom
      rw [← hj]
      exact h
    next =>
      split at hroom <;> simp at hroom
  refine ⟨List.mem_of_find?_eq_some hk, ?_, hx, fun j hj hne y hy => ?_⟩
  · simp only [setDirKey, slice_setSlice_self]
    exact SMap.find_insert_self ..
  · simp only [setDirKey, slice_setSlice_self, SMap.find_insert_ne hne] at hy
    have := List.find?_eq_none.1 hfree j hj
    simpa [hy] using this

/-! ### What a transaction leaves as it was -/

/-- What requests, routes and line addresses depend on is the same in `t`. -/
structure Unmoved (s t : State) : Prop where
  flaws : t.flaws = s.flaws
  route : ∀ x y, routeValid t x y = routeValid s x y
  probes : ∀ k, k < 8 → t.bit (Reg.PRB_n_CTL k) 0 = s.bit (Reg.PRB_n_CTL k) 0
  index : ∀ pa, stageIndex t pa = stageIndex s pa

theorem SameValues.unmoved {s t : State} (h : SameValues s t) (hf : t.flaws = s.flaws) : Unmoved s t :=
  ⟨hf, h.route, fun _ hk => h.bit (not_isCount_probe hk) 0, h.stageIndex⟩

theorem HomeCounts.unmoved {s t : State} (h : HomeCounts s t) : Unmoved s t := h.values.unmoved h.flaws

theorem Unmoved.trans {s t u : State} (h : Unmoved s t) (g : Unmoved t u) : Unmoved s u :=
  ⟨g.flaws.trans h.flaws, fun x y => (g.route x y).trans (h.route x y), fun k hk => (g.probes k hk).trans (h.probes k hk),
    fun pa => (g.index pa).trans (h.index pa)⟩

theorem Unmoved.clear {s t : State} (h : Unmoved s t) (hs : ClearFabric s) : ClearFabric t :=
  ⟨h.flaws.trans hs.flaws, fun k hk => (h.probes k hk).trans (hs.probes k hk)⟩

/-- The home's counter of epoch events goes up, and the next one is held. -/
def raised (n : Nat) (s : State) : State :=
  (s.setFld (Reg.HS_EPOCH n) 7 0 (epochG s n + 1)).setSlice n { (s.setFld (Reg.HS_EPOCH n) 7 0 (epochG s n + 1)).slice n with gHold := true }

theorem reg_raised_ne {n b : Nat} (h : b ≠ Reg.HS_EPOCH n) (s : State) : (raised n s).reg b = s.reg b := by
  rw [raised, setSlice_get_reg, reg_setFld_ne h]

theorem unmoved_raised {n : Nat} (hn : n < 4) (s : State) : Unmoved s (raised n s) where
  flaws := rfl
  route := fun x y => by
    simp only [routeValid, routeEntry]
    rw [reg_raised_ne (by simp only [routeKey, Reg.HS_EPOCH]; omega)]
  probes := fun k hk => by
    simp only [State.bit]
    rw [reg_raised_ne (by simp only [Reg.PRB_n_CTL, Reg.HS_EPOCH]; omega)]
  index := fun pa => by
    have hu : ∀ m, m < 4 → stageUnits (raised n s) m = stageUnits s m := fun m hm => by
      simp only [stageUnits, State.fld]
      rw [reg_raised_ne (by simp only [Reg.HS_SPLIT, Reg.HS_EPOCH]; omega)]
    simp only [stageIndex, stagePlace, hu 0 (by decide), hu 1 (by decide), hu 2 (by decide), hu 3 (by decide)]

theorem epochG_raised (n : Nat) (s : State) : epochG (raised n s) n = (epochG s n + 1) % 256 := by
  have : (raised n s).reg (Reg.HS_EPOCH n) = fset (s.reg (Reg.HS_EPOCH n)) 7 0 (epochG s n + 1) := by
    rw [raised, setSlice_get_reg, reg_setFld_self]
  rw [epochG, State.fld, this, fget_fset_self _ _ _ _ (by decide) (by decide)]
  rfl

theorem raised_slice (n : Nat) (s : State) : (raised n s).slice n = { s.slice n with gHold := true } := by
  rw [raised, slice_setSlice_self]; rfl

theorem epochEvent_none {s : State} {n l : Nat} (h : dirWay s n l = none) : epochEvent n l s = raised n s := by
  have : dirWay (raised n s) n l = none := by
    simp only [dirWay, raised_slice]; exact h
  unfold epochEvent
  change (match dirWay (raised n s) n l with | none => raised n s | some k => _) = _
  rw [this]

theorem epochEvent_entry {s : State} {n l k : Nat} {e : DirEnt} (h : EntryAt s n l k e) :
    epochEvent n l s = setDirKey n k { e with epoch := (epochG s n + 1) % 256 } (raised n s) := by
  have hr : EntryAt (raised n s) n l k e := h.congr (by rw [raised_slice])
  unfold epochEvent
  change (match dirWay (raised n s) n l with
    | none => raised n s
    | some k => match SMap.find k ((raised n s).slice n).dir with
      | some e => setDirKey n k { e with epoch := epochG (raised n s) n } (raised n s)
      | none => raised n s) = _
  rw [hr.dirWay]
  dsimp only
  rw [hr.here]
  dsimp only
  rw [epochG_raised]

end Sys2Proof.Machine
end

section
/-!
SUPPORT. The jobs of a home at rest: a request is accepted, answered at once or begun, finished, and its line left (R283).
-/
set_option linter.constructorNameAsVariable false

namespace Sys2Proof.Machine

/-! ### Acceptance -/

theorem needsDram_stage {m : CMsg} (h : m.line * 16 < 0x200000) (s : State) : needsDram s m = false := by
  rw [needsDram, decide_eq_false (by simp only [dramBase]; omega)]
  rfl

theorem lineBusy_rest {s : State} {a n l : Nat} (h : AtRest s a n l) : lineBusy s n l = false := by
  simp [lineBusy, trkOf, h.ready.noTrk, dirWay_isNone h.free]

theorem homeCounts_acceptReq {s : State} {m : CMsg} (h : AtRest s m.agent m.slice m.line) : HomeCounts s (acceptReq m s) := by
  have hev : ∀ e (u : State), HomeCounts u (hsEvent m.slice e u) := fun e u => homeCounts_hsEvent h.home e u
  unfold acceptReq
  extract_lets n u v
  have hv : HomeCounts s v := HomeCounts.trans (.ite (hev ..) (.ite (hev ..) (.refl s))) (hev ..)
  refine .ite hv ?_
  have hnone : llcGet v m.slice m.line = none := (h.counts hv).ready.llc
  rw [llcTouch, hnone]
  exact hv

/-- A request that waits for nothing: answered at once, or by a transaction. -/
def servedReq (m : CMsg) (s : State) : State × List Job :=
  match quickReq m s with
  | some u => (u, [])
  | none => startTrans m s

/-- A home at rest serves a request: it answers it at once, or begins its transaction. -/
theorem reqJob_rest {s : State} {m : CMsg} (h : AtRest s m.agent m.slice m.line) (hcode : m.code < 13) (hrc : m.rc = 0) :
    ∃ v, HomeCounts s v ∧ (∀ u, quickReq m v = some u → reqJob m s = (u, [])) ∧ (quickReq m v = none → reqJob m s = startTrans m v) := by
  have hacc := homeCounts_acceptReq h
  have hv := hacc.trans (homeCounts_endStall m.line (acceptReq m s))
  have hreq : reqJob m s = serveReq m (acceptReq m s) := by
    have hparity : dirParity m.slice m.line s = s := by simp [dirParity, struck_of_no_flaws h.clear.flaws]
    have hup : s.bit (Reg.HS_STATUS m.slice) 1 = false := h.ready.up
    have hlegal : ((decide (13 ≤ m.code) && m.code != recallReq) || decide (5 ≤ m.rc)) = false := by
      rw [decide_eq_false (by omega), decide_eq_false (by omega)]; rfl
    rw [reqJob, hparity, hup, if_neg Bool.false_ne_true, hlegal, if_neg Bool.false_ne_true]
  have hserve : serveReq m (acceptReq m s) = servedReq m (endStall m.line (acceptReq m s)) := by
    have hsplit : ((acceptReq m s).split.isSome && decide (m.code ≠ recallReq)) = false := by rw [(h.counts hacc).ready.split]; rfl
    have hrom : romRefused m = false := by
      have := h.ready.stage
      rw [romRefused, decide_eq_false (by omega)]; rfl
    unfold serveReq
    extract_lets n v sl
    rw [hsplit, if_neg Bool.false_ne_true, needsDram_stage h.ready.stage.2, if_neg Bool.false_ne_true, hrom, if_neg Bool.false_ne_true,
      lineBusy_rest (h.counts hv), if_neg Bool.false_ne_true, hrc, if_neg (by omega)]
    rfl
  refine ⟨_, hv, fun u hu => ?_, fun hu => ?_⟩
  · rw [hreq, hserve, servedReq, hu]
  · rw [hreq, hserve, servedReq, hu]

/-! ### Running jobs -/

theorem atHome_eq (m : CMsg) (s : State) : atHome m s = runJobs 399 ((reqJob m s).2 ++ []) (reqJob m s).1 := rfl

theorem runJobs_nil (k : Nat) (s : State) : runJobs k [] s = s := by cases k <;> rfl

theorem runJobs_cons (k : Nat) (j : Job) (js : List Job) (s : State) : runJobs (k + 1) (j :: js) s = runJobs k ((runJob j s).2 ++ js) (runJob j s).1 := rfl

theorem atHome_quick {m : CMsg} {s u : State} (h : reqJob m s = (u, [])) : atHome m s = u := by
  rw [atHome_eq, h]
  exact runJobs_nil ..

/-- The transaction of a request for a line that no agent holds. -/
def newTrk (m : CMsg) : Trk := ⟨m, none, [], none, false, false, .snoop, .s, none⟩

/-- An epoch event of agent a clears the reservations of other cores on the line. -/
def reservationsSeen (m : CMsg) (s : State) : State := if makesEpoch none m then clearResv m.agent m.line s else s

theorem reservationsSeen_cores (m : CMsg) (s : State) : reservationsSeen m s = { s with cores := (reservationsSeen m s).cores } := by
  have hfold : ∀ (L : List Nat) (u : State), L.foldl (fun s c => if c ≠ m.agent && (s.core c).resv = some m.line then s.updCore c (fun k => { k with resv := none }) else s) u =
      { u with cores := (L.foldl (fun s c => if c ≠ m.agent && (s.core c).resv = some m.line then s.updCore c (fun k => { k with resv := none }) else s) u).cores } := by
    intro L
    induction L with
    | nil => intro u; rfl
    | cons c L ih =>
      intro u
      rw [List.foldl_cons, ih]
      split <;> rfl
  rw [reservationsSeen]
  split
  · exact hfold (List.range 8) s
  · rfl

/-- Where no other core has the line reserved, the cores stay. -/
theorem reservationsSeen_none {m : CMsg} {s : State} (h : ∀ c, c < 8 → c ≠ m.agent → (s.core c).resv ≠ some m.line) : reservationsSeen m s = s := by
  rw [reservationsSeen]
  split
  · refine foldl_fixed_of_mem fun c hc => ?_
    by_cases e : c = m.agent
    · simp [e]
    · simp [e, h c (List.mem_range.1 hc) e]
  · rfl

/-- A begun transaction that awaits no answer is finished. -/
theorem atHome_begun {m : CMsg} {s b : State} (h : reqJob m s = (b, [.finish m.slice 0])) (htrk : SMap.find 0 (b.slice m.slice).trk = some (newTrk m))
    (hhold : (b.slice m.slice).gHold = false) :
    atHome m s = runJobs 398 (finishTrans m.slice 0 (newTrk m) (reservationsSeen m b)).2 (finishTrans m.slice 0 (newTrk m) (reservationsSeen m b)).1 := by
  have hjob : runJob (.finish m.slice 0) b = finishTrans m.slice 0 (newTrk m) (reservationsSeen m b) := by
    simp only [runJob, htrk, hhold, Bool.and_false, Bool.false_eq_true, if_false]
    rfl
  rw [atHome_eq, h]
  change runJobs (398 + 1) [.finish m.slice 0] b = _
  rw [runJobs_cons, hjob, List.append_nil]

/-- The line is left: nothing waits for it. -/
theorem leave_rest {s : State} {n l : Nat} (htrk : (s.slice n).trk = []) (horder : (s.slice n).pslotOrder = []) (hwait : (s.slice n).waiting = []) (k : Nat) :
    runJobs (k + 1) [.leave n l] s = s.setSlice n { s.slice n with waiting := [] } := by
  have hjob : runJob (.leave n l) s = (s.setSlice n { s.slice n with waiting := [] }, []) := by
    simp only [runJob, htrk, List.filter_nil, List.foldl_nil, horder, List.find?_nil, hwait, List.map_nil, List.append_nil]
  rw [runJobs_cons, hjob]
  exact runJobs_nil ..

/-! ### Beginnings -/

theorem freeTrk_rest {s : State} {n : Nat} (h : (s.slice n).trk = []) : freeTrk s n = some 0 := by
  rw [freeTrk, h]
  rfl

/-- A new entry of line l while its transaction runs. -/
def newEntry (s : State) (n l : Nat) : DirEnt := ⟨dirTag l, .b, false, [15, 15, 15, 15], epochG s n⟩

def begunWith (m : CMsg) (k : Nat) (s : State) : State := setTrk m.slice 0 (newTrk m) (setDirKey m.slice k (newEntry s m.slice m.line) s)

def begun (m : CMsg) (s : State) : State := setTrk m.slice 0 (newTrk m) s

section
variable {s : State} {m : CMsg} (h : AtRest s m.agent m.slice m.line)
include h

theorem startTrans_new (ha : allocates m = true) {k : Nat} (hk : allocWay s m.slice m.line = some (k, true)) :
    startTrans m s = (begunWith m k s, [.finish m.slice 0]) := by
  unfold startTrans
  extract_lets n
  rw [freeTrk_rest h.ready.noTrk]
  dsimp only
  rw [h.free, dirWay_isNone h.free, if_pos ha, hk]
  rfl

theorem startTrans_plain (ha : allocates m = false) : startTrans m s = (begun m s, [.finish m.slice 0]) := by
  unfold startTrans
  extract_lets n
  rw [freeTrk_rest h.ready.noTrk]
  dsimp only
  rw [h.free, dirWay_isNone h.free, ha, if_neg Bool.false_ne_true]
  rfl

theorem begun_slice : (begun m s).slice m.slice = { s.slice m.slice with trk := [(0, newTrk m)] } := by
  rw [begun, setTrk, slice_setSlice_self, h.ready.noTrk]
  rfl

theorem begunWith_slice (k : Nat) : (begunWith m k s).slice m.slice =
    { s.slice m.slice with
      dir := SMap.insert k (newEntry s m.slice m.line) (s.slice m.slice).dir, dirUse := touch k (s.slice m.slice).dirUse, trk := [(0, newTrk m)] } := by
  simp only [begunWith, setTrk, setDirKey, slice_setSlice_self, h.ready.noTrk]
  rfl

end

end Sys2Proof.Machine
end

section
/-!
SUPPORT. How a home at rest answers each request for a line that nobody holds (R179, R274, R276, R279, R283, R287).
-/
set_option linter.constructorNameAsVariable false

namespace Sys2Proof.Machine

/-! ### What the way to an answer keeps -/

/-- No message was sent, and no agent and no stored word changed, from `s` to `t`. -/
structure Kept (s t : State) : Prop where
  unmoved : Unmoved s t
  net : t.net = s.net
  stage : t.stage = s.stage
  agents : t.agents = s.agents

theorem Kept.refl (s : State) : Kept s s := ⟨⟨rfl, fun _ _ => rfl, fun _ _ => rfl, fun _ => rfl⟩, rfl, rfl, rfl⟩

theorem Kept.trans {s t u : State} (h : Kept s t) (g : Kept t u) : Kept s u :=
  ⟨h.unmoved.trans g.unmoved, g.net.trans h.net, g.stage.trans h.stage, g.agents.trans h.agents⟩

theorem HomeCounts.kept {s t : State} (h : HomeCounts s t) : Kept s t :=
  ⟨h.unmoved, h.net, h.stage, by rw [h.only]⟩

theorem HomeCounts.cores {s t : State} (h : HomeCounts s t) : t.cores = s.cores := by rw [h.only]

theorem kept_setSlice (s : State) (n : Nat) (x : Slice) : Kept s (s.setSlice n x) := ⟨⟨rfl, fun _ _ => rfl, fun _ _ => rfl, fun _ => rfl⟩, rfl, rfl, rfl⟩

theorem kept_raised {n : Nat} (hn : n < 4) (s : State) : Kept s (raised n s) := ⟨unmoved_raised hn s, rfl, rfl, rfl⟩

theorem Kept.stageLine {s t : State} (h : Kept s t) (l : Nat) : stageLine t l = stageLine s l := by
  simp only [Sys2Proof.Machine.stageLine, h.stage, h.unmoved.index]

/-- Message x is in flight, and no agent changed, from `s` to `t`. -/
structure Outcome (s t : State) (x : CMsg) : Prop where
  unmoved : Unmoved s t
  net : t.net = s.net ++ [x]
  agents : t.agents = s.agents

theorem Kept.outcome {s t u : State} {x : CMsg} (h : Kept s t) (g : Outcome t u x) : Outcome s u x :=
  ⟨h.unmoved.trans g.unmoved, by rw [g.net, h.net], g.agents.trans h.agents⟩

theorem Outcome.kept {s t u : State} {x : CMsg} (h : Outcome s t x) (g : Kept t u) : Outcome s u x :=
  ⟨h.unmoved.trans g.unmoved, g.net.trans h.net, g.agents.trans h.agents⟩

theorem epochG_counts {s t : State} (h : HomeCounts s t) {n : Nat} (hn : n < 4) : epochG t n = epochG s n :=
  h.values.fld (not_isCount_home hn (by simp only [Reg.HS_EPOCH]; omega)) ..

/-! ### Answers -/

/-- What makes an answer cross: a clear fabric, the route back, and a home that exists. -/
structure CanAnswer (s : State) (a n : Nat) : Prop where
  clear : ClearFabric s
  back : routeValid s (hsEp n) (agentEp a) = true
  home : n < 4

theorem AtRest.canAnswer {s : State} {a n l : Nat} (h : AtRest s a n l) : CanAnswer s a n := ⟨h.clear, h.back, h.home⟩

theorem CanAnswer.unmoved {s t : State} {a n : Nat} (h : CanAnswer s a n) (g : Unmoved s t) : CanAnswer t a n :=
  ⟨g.clear h.clear, by rw [g.route, h.back], h.home⟩

/-- A response of a home with at most a line of data. -/
structure Reply (x : CMsg) (m : CMsg) : Prop where
  cls : x.cls = 1
  code : x.code < 11
  status : okData x.status = true
  size : x.data.length ≤ 16
  home : x.slice = m.slice
  agent : x.agent = m.agent

theorem answer_sent {s : State} {m x : CMsg} (h : CanAnswer s m.agent m.slice) (hx : Reply x m) :
    ∃ t, sendMsg x s = t ∧ Outcome s t x ∧ t.stage = s.stage ∧ t.cores = s.cores ∧ (∀ n, t.slice n = s.slice n) ∧ ∀ n, n < 4 → epochG t n = epochG s n := by
  obtain ⟨t, ht, e⟩ := sendMsg_reply h.clear hx.cls hx.code hx.status hx.size (hx.home ▸ h.home) (by rw [hx.home, hx.agent]; exact h.back)
  refine ⟨_, e, ⟨?_, rfl, ?_⟩, ht.stage, ht.cores, fun n => ht.get_slice n, fun n hn => epochG_counts ht hn⟩
  · exact ⟨ht.unmoved.flaws, ht.unmoved.route, ht.unmoved.probes, ht.unmoved.index⟩
  · exact ht.kept.agents

/-- The slice of a home at rest with a transaction of its own. -/
structure InTransaction (s : State) (n : Nat) (t : Trk) : Prop where
  trk : (s.slice n).trk = [(0, t)]
  order : (s.slice n).pslotOrder = []
  waiting : (s.slice n).waiting = []

/-- An answer leaves a home whose transaction is over, and nothing waits for its line. -/
theorem answer_and_leave {s : State} {m x : CMsg} (h : CanAnswer s m.agent m.slice) (htrk : (s.slice m.slice).trk = [])
    (horder : (s.slice m.slice).pslotOrder = []) (hwait : (s.slice m.slice).waiting = []) (hx : Reply x m) :
    ∃ u, runJobs 398 [.leave m.slice m.line] (sendMsg x s) = u ∧ Outcome s u x ∧ u.stage = s.stage ∧ u.cores = s.cores ∧
      (u.slice m.slice).dir = (s.slice m.slice).dir ∧ (u.slice m.slice).trk = [] ∧ epochG u m.slice = epochG s m.slice := by
  obtain ⟨v, hv, hout, hstage, hcores, hsl, hep⟩ := answer_sent h hx
  have hvs : v.slice m.slice = s.slice m.slice := hsl _
  have hleave := leave_rest (s := v) (n := m.slice) (l := m.line) (by rw [hvs, htrk]) (by rw [hvs, horder]) (by rw [hvs, hwait]) 397
  refine ⟨_, by rw [hv]; exact hleave, hout.kept (kept_setSlice ..), hstage, hcores, ?_, ?_, ?_⟩
  · rw [slice_setSlice_self, hvs]
  · rw [slice_setSlice_self, hvs, htrk]
  · exact hep _ h.home

/-- The transaction ends with its answer, and the line is left. -/
theorem answered_and_left {s : State} {m x : CMsg} {t : Trk} (h : CanAnswer s m.agent m.slice) (ht : InTransaction s m.slice t) (hx : Reply x m) :
    ∃ u, runJobs 398 [.leave m.slice m.line] (sendMsg x (eraseTrk m.slice 0 s)) = u ∧ Outcome s u x ∧ u.stage = s.stage ∧ u.cores = s.cores ∧
      (u.slice m.slice).dir = (s.slice m.slice).dir ∧ (u.slice m.slice).trk = [] ∧ epochG u m.slice = epochG s m.slice := by
  have he : Kept s (eraseTrk m.slice 0 s) := kept_setSlice ..
  have hslice : (eraseTrk m.slice 0 s).slice m.slice = { s.slice m.slice with trk := [] } := by
    rw [eraseTrk, slice_setSlice_self, ht.trk]; rfl
  obtain ⟨v, hv, hout, hstage, hcores, hdir, htrk, hep⟩ := answer_and_leave (h.unmoved he.unmoved) (by rw [hslice]) (by rw [hslice]; exact ht.order)
    (by rw [hslice]; exact ht.waiting) hx
  exact ⟨v, hv, he.outcome hout, hstage, hcores, by rw [hdir, hslice], htrk, hep⟩

theorem okData_read (d : Line) : okData (if hasPoison d then .poison else .ok) = true := by split <;> rfl

/-- A read of the line by a home that can answer. -/
theorem read_line {s : State} {n l : Nat} (hf : s.flaws = []) (hn : n < 4) (hstage : 0x100000 ≤ l * 16 ∧ l * 16 < 0x200000) (hllc : llcGet s n l = none)
    (alloc quiet : Bool) : ∃ t st, HomeCounts s t ∧ homeRead n l alloc quiet s = (st, stageLine s l, t) ∧ okData st = true ∧
      (hasPoison (stageLine s l) = false → st = .ok) := by
  obtain ⟨t, ht, e⟩ := homeRead_stage hf hn hstage hllc alloc quiet
  exact ⟨t, _, ht, e, okData_read _, fun h => by rw [h]; rfl⟩

/-! ### Begun transactions -/

theorem kept_begun (m : CMsg) (s : State) : Kept s (begun m s) := kept_setSlice ..

theorem kept_begunWith (m : CMsg) (k : Nat) (s : State) : Kept s (begunWith m k s) := (kept_setSlice ..).trans (kept_setSlice ..)

theorem kept_reservationsSeen (m : CMsg) (s : State) : Kept s (reservationsSeen m s) := by
  rw [reservationsSeen_cores]
  exact ⟨⟨rfl, fun _ _ => rfl, fun _ _ => rfl, fun _ => rfl⟩, rfl, rfl, rfl⟩

theorem reservationsSeen_slice (m : CMsg) (s : State) (n : Nat) : (reservationsSeen m s).slice n = s.slice n := by
  rw [reservationsSeen_cores]; rfl

theorem epochG_reservationsSeen (m : CMsg) (s : State) (n : Nat) : epochG (reservationsSeen m s) n = epochG s n := by
  rw [reservationsSeen_cores]; rfl

theorem epochG_setSlice (s : State) (n : Nat) (x : Slice) (k : Nat) : epochG (s.setSlice n x) k = epochG s k := rfl

theorem not_makesEpoch {m : CMsg} (h : makesEpoch none m = false) (s : State) : reservationsSeen m s = s := by
  rw [reservationsSeen, h]; rfl

section
variable {s : State} {m : CMsg} (h : AtRest s m.agent m.slice m.line)
include h

theorem inTransaction_begun : InTransaction (begun m s) m.slice (newTrk m) := by
  have hsl := begun_slice h
  exact ⟨by rw [hsl], by rw [hsl]; exact h.ready.quiet.2, by rw [hsl]; exact h.ready.quiet.1⟩

theorem inTransaction_begunWith (k : Nat) : InTransaction (begunWith m k s) m.slice (newTrk m) := by
  have hsl := begunWith_slice h k
  exact ⟨by rw [hsl], by rw [hsl]; exact h.ready.quiet.2, by rw [hsl]; exact h.ready.quiet.1⟩

theorem dirWay_begun : dirWay (begun m s) m.slice m.line = none := by
  have : dirWay (begun m s) m.slice m.line = dirWay s m.slice m.line := by simp only [dirWay, begun_slice h]
  rw [this, h.free]

theorem llcGet_begun : llcGet (begun m s) m.slice m.line = none := by
  rw [llcGet, begun_slice h]; exact h.ready.llc

theorem llcGet_begunWith (k : Nat) : llcGet (begunWith m k s) m.slice m.line = none := by
  rw [llcGet, begunWith_slice h]; exact h.ready.llc

theorem entryAt_begunWith {k : Nat} (hk : allocWay s m.slice m.line = some (k, true)) :
    EntryAt (begunWith m k s) m.slice m.line k (newEntry s m.slice m.line) := by
  refine (entryAt_new h.free hk (x := newEntry s m.slice m.line) rfl).congr ?_
  rw [begunWith, setTrk, slice_setSlice_self]

end

end Sys2Proof.Machine
end

section
/-!
SUPPORT. The answers of a home at rest, request by request (R179, R274, R276, R279, R283, R287).
-/
set_option linter.constructorNameAsVariable false

namespace Sys2Proof.Machine

/-! ### Lines of stage memory -/

theorem memReadN_memWriteN (d : Line) : ∀ (a : Nat) (m : Memory), memReadN (memWriteN a d m) a d.length = d := by
  induction d with
  | nil => intro a m; rfl
  | cons w t ih =>
    intro a m
    rw [memWriteN, List.length_cons, memReadN, ih, memRead_memWriteN_out t _ _ _ (by omega), memRead_memWrite_self]

theorem mergeLine_length : ∀ (mask : Nat) (old new : Line), (mergeLine mask old new).length = old.length
  | _, [], _ => rfl
  | _, _ :: _, [] => rfl
  | mask, o :: os, n :: ns => by simp [mergeLine, mergeLine_length]

/-- A write of the octets that the mask enables, read back. -/
theorem stageLine_written {s t : State} {l mask : Nat} {data : Line} (hidx : stageIndex t (l * 16) = stageIndex s (l * 16))
    (h : t.stage = memWriteN (stageIndex s (l * 16)) (mergeLine mask (stageLine s l) data) s.stage) :
    stageLine t l = mergeLine mask (stageLine s l) data ∧
      ∀ k, k < stageIndex s (l * 16) ∨ stageIndex s (l * 16) + 16 ≤ k → memRead t.stage k = memRead s.stage k := by
  have hlen : (mergeLine mask (stageLine s l) data).length = 16 := (mergeLine_length ..).trans (stageLine_length ..)
  constructor
  · have := memReadN_memWriteN (mergeLine mask (stageLine s l) data) (stageIndex s (l * 16)) s.stage
    rw [hlen] at this
    rw [stageLine, h, hidx, this]
  · intro k hk
    rw [h, memRead_memWriteN_out _ _ _ _ (by rw [hlen]; exact hk)]

theorem mergeMWord_none (o n : MWord) : mergeMWord 0 o n = o := by simp [mergeMWord]

theorem mergeMWord_all (o n : MWord) : mergeMWord 31 o n = n := by simp [mergeMWord]

theorem mergeLine_none (d : Line) : mergeLine 0 d d = d := by
  induction d with
  | nil => rfl
  | cons w t ih => rw [mergeLine, Nat.zero_mod, mergeMWord_none, Nat.zero_div, ih]

/-- A mask of the five octets of one word writes that word. -/
theorem mergeLine_word (w : MWord) (d : Line) : ∀ i, i < d.length → mergeLine (31 * 2 ^ (5 * i)) d (d.set i w) = d.set i w := by
  induction d with
  | nil => intro i h; simp at h
  | cons x t ih =>
    intro i h
    cases i with
    | zero =>
      rw [List.set_cons_zero, mergeLine]
      norm_num
      exact ⟨mergeMWord_all .., mergeLine_none t⟩
    | succ i =>
      have hp : 31 * 2 ^ (5 * (i + 1)) = 31 * 2 ^ (5 * i) * 32 := by rw [Nat.mul_add, pow_add, mul_assoc]; norm_num
      rw [List.set_cons_succ, mergeLine, hp, Nat.mul_mod_left, Nat.mul_div_cancel _ (by decide), mergeMWord_none, ih i (by simpa using h)]

/-! ### A request is served -/

theorem plainRequest_of {m : CMsg} (hcls : m.cls = 0) (hrc : m.rc = 0) (hlen : m.data.length ≤ 16) (hd : m.data = [] ∨ m.code = 6 ∨ m.code = 8) :
    PlainRequest m := by
  have hwords : m.words.length ≤ 16 := by
    simp only [CMsg.words, hcls, if_true]
    split_ifs <;> simp [hlen]
  refine ⟨hcls, hrc, ?_, fun t => ?_⟩
  · rcases hd with h | h
    · simp [CMsg.withData, h]
    · have : m.words = m.data := by rcases h with h | h <;> simp [CMsg.words, hcls, h]
      rw [this, CMsg.withData]
      split <;> rfl
  · have h16 : ¬ 16 < (cohPkt t m).len := by
      simp only [cohPkt]
      split <;> omega
    have hlen16 : ¬ 16 < (cohPkt t m).data.length := not_lt.2 hwords
    simp only [Pkt.misformed, h16, hlen16, decide_false, Bool.or_false]
    simp [cohPkt, hcls]

/-- A home at rest has taken message m, and its job for it is to be done in `v`. -/
structure Taken (m : CMsg) (u v : State) : Prop where
  rest : AtRest v m.agent m.slice m.line
  counts : HomeCounts u v
  quick : ∀ w, quickReq m v = some w → reqJob m u = (w, [])
  starts : quickReq m v = none → reqJob m u = startTrans m v

theorem request_taken {s : State} {m : CMsg} (h : FreeLine s m.agent m.line) (hslice : m.slice = homeOf s m.line) (hm : PlainRequest m) (hcode : m.code < 13) :
    ∃ t g u v, Asked m s u ∧ issueReq m s = atHome { m with tag := t, gen := g } u ∧ Taken { m with tag := t, gen := g } u v := by
  obtain ⟨u, t, g, hu, hissue⟩ := request_arrives h hslice hm
  have hrest : AtRest u m.agent m.slice m.line := by
    rw [hslice]
    exact h.atRest.of_same hu.values (by rw [hu.only]) (by rw [hu.only]; rfl) (by rw [hu.only])
  obtain ⟨v, hv, hquick, hstart⟩ := reqJob_rest (m := { m with tag := t, gen := g }) hrest hcode hm.fresh
  exact ⟨t, g, u, v, hu, hissue, hrest.counts hv, hv, hquick, hstart⟩

/-- A request that is no tentative read, promotion, write-back or eviction is not answered at once. -/
theorem quickReq_none {m : CMsg} (h3 : m.code ≠ rdT) (h4 : m.code ≠ promote) (h8 : m.code ≠ wbReq) (h9 : m.code ≠ evictReq) (s : State) :
    quickReq m s = none := by
  simp only [quickReq, if_neg h3, if_neg h4]
  rw [if_neg (by simp [h8, h9])]

theorem reply_rsp {code : Nat} (h : code < 11) (m : CMsg) : Reply (rsp code m) m := ⟨rfl, h, rfl, Nat.zero_le _, rfl, rfl⟩

theorem reply_data {code : Nat} (h : code < 11) (m : CMsg) {d : Line} {st : FStatus} (hd : d.length ≤ 16) (hst : okData st = true) :
    Reply { rsp code m with data := d, status := st } m := ⟨rfl, h, hst, hd, rfl, rfl⟩

/-- What a request's code says of its transaction. -/
theorem quickReq_of_code {m : CMsg} (hcode : m.code = 5 ∨ m.code = 6 ∨ m.code = 7 ∨ 10 ≤ m.code) (s : State) : quickReq m s = none :=
  quickReq_none (by simp only [rdT]; omega) (by simp only [promote]; omega) (by simp only [wbReq]; omega) (by simp only [evictReq]; omega) s

theorem allocates_of_code {m : CMsg} (hcode : 5 ≤ m.code) : allocates m = false := by
  have h0 : m.code ≠ rdS := by simp only [rdS]; omega
  have h1 : m.code ≠ rdX := by simp only [rdX]; omega
  have h2 : m.code ≠ upg := by simp only [upg]; omega
  have h4 : m.code ≠ promote := by simp only [promote]; omega
  simp [allocates, h0, h1, h2, h4]

/-- The finish of an atomic: the old word is read, and the new one written. -/
theorem finishTrans_atomU {n k : Nat} {t : Trk} {s r w q : State} {st : FStatus} {d : Line} (hcode : t.req.code = 7)
    (hstart : freeEntry n t.req.line (epochEvent n t.req.line (writeBackData n t s)) = r) (hread : homeRead n t.req.line false false r = (st, d, w))
    (hst : okData st = true) (hmark : (d.getD t.req.idx MWord.zero).mark ≠ .poison)
    (hwrite : homeWrite n t.req.line (31 * 2 ^ (5 * t.req.idx))
      (d.set t.req.idx ⟨atomResult t.req.atop (d.getD t.req.idx MWord.zero).v t.req.operand t.req.cmp, .good⟩) false w = (.ok, q)) :
    finishTrans n k t s = (sendMsg { rsp 8 t.req with data := [d.getD t.req.idx MWord.zero], status := .ok } (eraseTrk n k q), [.leave n t.req.line]) := by
  simp [finishTrans, hcode, rdS, rdX, upg, promote, rdU, wrU, atomU, hstart, hread, hst, hmark, hwrite, -List.getD_eq_getElem?_getD]

theorem epochG_stage (s : State) (x : Memory) (n : Nat) : epochG { s with stage := x } n = epochG s n := rfl

theorem dirWay_of_dir {s t : State} {n : Nat} (h : (t.slice n).dir = (s.slice n).dir) (l : Nat) : dirWay t n l = dirWay s n l := by
  simp only [dirWay, h]

/-- From `s` to `t` only counters, a stored line, and the hold of epoch events at home n changed. -/
structure HomeStep (n : Nat) (s t : State) : Prop where
  unmoved : Unmoved s t
  net : t.net = s.net
  agents : t.agents = s.agents
  trk : (t.slice n).trk = (s.slice n).trk
  order : (t.slice n).pslotOrder = (s.slice n).pslotOrder
  waiting : (t.slice n).waiting = (s.slice n).waiting
  dir : (t.slice n).dir = (s.slice n).dir
  llc : (t.slice n).llc = (s.slice n).llc

theorem HomeStep.refl (n : Nat) (s : State) : HomeStep n s s := ⟨(Kept.refl s).unmoved, rfl, rfl, rfl, rfl, rfl, rfl, rfl⟩

theorem HomeStep.trans {n : Nat} {s t u : State} (h : HomeStep n s t) (g : HomeStep n t u) : HomeStep n s u :=
  ⟨h.unmoved.trans g.unmoved, g.net.trans h.net, g.agents.trans h.agents, g.trk.trans h.trk, g.order.trans h.order, g.waiting.trans h.waiting,
    g.dir.trans h.dir, g.llc.trans h.llc⟩

theorem HomeCounts.step {s t : State} (h : HomeCounts s t) (n : Nat) : HomeStep n s t :=
  ⟨h.unmoved, h.net, h.kept.agents, by rw [h.get_slice], by rw [h.get_slice], by rw [h.get_slice], by rw [h.get_slice], by rw [h.get_slice]⟩

theorem homeStep_raised {n : Nat} (hn : n < 4) (s : State) : HomeStep n s (raised n s) := by
  have hsl := raised_slice n s
  exact ⟨unmoved_raised hn s, rfl, rfl, by rw [hsl], by rw [hsl], by rw [hsl], by rw [hsl], by rw [hsl]⟩

theorem homeStep_stage (n : Nat) (s : State) (x : Memory) : HomeStep n s { s with stage := x } :=
  ⟨⟨rfl, fun _ _ => rfl, fun _ _ => rfl, fun _ => rfl⟩, rfl, rfl, rfl, rfl, rfl, rfl, rfl⟩

section
variable {m : CMsg} {u v : State} (h : Taken m u v)
include h

/-- The job of a request that allocates no entry, down to its finish. -/
theorem Taken.plain (hq : quickReq m v = none) (ha : allocates m = false) :
    let c := reservationsSeen m (begun m v)
    atHome m u = runJobs 398 (finishTrans m.slice 0 (newTrk m) c).2 (finishTrans m.slice 0 (newTrk m) c).1 ∧ Kept u c ∧
      CanAnswer c m.agent m.slice ∧ InTransaction c m.slice (newTrk m) ∧ dirWay c m.slice m.line = none ∧ llcGet c m.slice m.line = none ∧
      epochG c m.slice = epochG u m.slice := by
  have hreq : reqJob m u = (begun m v, [.finish m.slice 0]) := (h.starts hq).trans (startTrans_plain h.rest ha)
  have hsl := begun_slice h.rest
  have hkept : Kept v (reservationsSeen m (begun m v)) := (kept_begun m v).trans (kept_reservationsSeen ..)
  have hc : ∀ n, (reservationsSeen m (begun m v)).slice n = (begun m v).slice n := reservationsSeen_slice m (begun m v)
  have ht := inTransaction_begun h.rest
  refine ⟨atHome_begun hreq (by rw [hsl]; rfl) (by rw [hsl]; exact h.rest.ready.epoch), h.counts.kept.trans hkept, h.rest.canAnswer.unmoved hkept.unmoved,
    ⟨by rw [hc, ht.trk], by rw [hc, ht.order], by rw [hc, ht.waiting]⟩, ?_, ?_, ?_⟩
  · rw [dirWay_congr (hc _), dirWay_begun h.rest]
  · rw [llcGet, hc]; exact llcGet_begun h.rest
  · rw [epochG_reservationsSeen]
    exact epochG_counts h.counts h.rest.home

/-- A request that allocates no entry is answered, and leaves the directory and the tracker as they were. -/
theorem Taken.done (hq : quickReq m v = none) (ha : allocates m = false) {w : State} {x : CMsg} (hx : Reply x m)
    (hw : HomeStep m.slice (reservationsSeen m (begun m v)) w)
    (hfin : finishTrans m.slice 0 (newTrk m) (reservationsSeen m (begun m v)) = (sendMsg x (eraseTrk m.slice 0 w), [.leave m.slice m.line])) :
    ∃ t, atHome m u = t ∧ Outcome u t x ∧ dirWay t m.slice m.line = none ∧ (t.slice m.slice).trk = [] ∧ epochG t m.slice = epochG w m.slice ∧
      t.stage = w.stage ∧ t.cores = w.cores := by
  obtain ⟨hhome, hkept, hcan, htrans, hway, -, -⟩ := h.plain hq ha
  obtain ⟨t, ht, hout, hstg, hcores, hdir, htrk, hept⟩ := answered_and_left (hcan.unmoved hw.unmoved)
    ⟨by rw [hw.trk, htrans.trk], by rw [hw.order, htrans.order], by rw [hw.waiting, htrans.waiting]⟩ hx
  refine ⟨t, by rw [hhome, hfin]; exact ht, ?_, ?_, htrk, hept, hstg, hcores⟩
  · exact ⟨(hkept.unmoved.trans hw.unmoved).trans hout.unmoved, by rw [hout.net, hw.net, hkept.net],
      by rw [hout.agents, hw.agents, hkept.agents]⟩
  · rw [dirWay_of_dir hdir, dirWay_of_dir hw.dir, hway]

/-- RD_U (R287). -/
theorem Taken.rdU (hcode : m.code = 5) :
    ∃ t x, atHome m u = t ∧ Outcome u t x ∧ (x.cls, x.code, x.agent, x.slice, x.line, x.data) = (1, 4, m.agent, m.slice, m.line, stageLine u m.line) ∧
      dirWay t m.slice m.line = none ∧ (t.slice m.slice).trk = [] ∧ epochG t m.slice = epochG u m.slice ∧ t.stage = u.stage ∧ t.cores = u.cores := by
  have hres : reservationsSeen m (begun m v) = begun m v :=
    not_makesEpoch (by simp [makesEpoch, hcode, Sys2Proof.Machine.rdS, rdX, upg, wrU, atomU, cmoInv]) _
  obtain ⟨-, hkept, hcan, -, -, hllc, hep⟩ := h.plain (quickReq_of_code (by omega) v) (allocates_of_code (by omega))
  rw [hres] at hkept hcan hllc hep
  obtain ⟨w, st, hw, hread, hst, -⟩ := read_line hcan.clear.flaws hcan.home h.rest.ready.stage hllc false false
  have hfin : finishTrans m.slice 0 (newTrk m) (begun m v) =
      (sendMsg { rsp 4 m with data := stageLine (begun m v) m.line, status := st } (eraseTrk m.slice 0 w), [.leave m.slice m.line]) := by
    simp [finishTrans, newTrk, hcode, Sys2Proof.Machine.rdS, rdX, upg, promote, Sys2Proof.Machine.rdU, transData, hread]
  obtain ⟨t, ht, hout, hway, htrk, hept, hstage, hcores⟩ := h.done (quickReq_of_code (by omega) v) (allocates_of_code (by omega))
    (reply_data (by decide : 4 < 11) m (stageLine_length (begun m v) m.line).le hst) (by rw [hres]; exact hw.step _) (by rw [hres]; exact hfin)
  refine ⟨t, _, ht, hout, ?_, hway, htrk, ?_, ?_, ?_⟩
  · simp only [rsp, blankMsg, hkept.stageLine]
  · rw [hept, epochG_counts hw hcan.home, hep]
  · rw [hstage, hw.stage, hkept.stage]
  · rw [hcores, hw.cores]
    exact h.counts.cores

/-- Cache maintenance of a line that nobody holds (R288): only an invalidation is an epoch event. -/
theorem Taken.cmo (hcode : 10 ≤ m.code ∧ m.code < 13) :
    ∃ t, atHome m u = t ∧ Outcome u t (rsp 8 m) ∧ dirWay t m.slice m.line = none ∧ (t.slice m.slice).trk = [] ∧ t.stage = u.stage ∧
      epochG t m.slice = if m.code = 12 then (epochG u m.slice + 1) % 256 else epochG u m.slice := by
  let c := reservationsSeen m (begun m v)
  let w := if m.code = 12 then raised m.slice c else c
  have hq : quickReq m v = none := quickReq_of_code (by omega) v
  have ha := allocates_of_code (m := m) (by omega)
  obtain ⟨-, hkept, hcan, -, hway, -, hep⟩ := h.plain hq ha
  have hfree : ∀ s, dirWay s m.slice m.line = none → freeEntry m.slice m.line s = s := fun s hs => by rw [freeEntry, hs]
  have hwayr : dirWay (raised m.slice c) m.slice m.line = none := (dirWay_of_dir (by rw [raised_slice]) _).trans hway
  have hfin : finishTrans m.slice 0 (newTrk m) c = (sendMsg (rsp 8 m) (eraseTrk m.slice 0 w), [.leave m.slice m.line]) := by
    rcases (by omega : m.code = 10 ∨ m.code = 11 ∨ m.code = 12) with e | e | e <;>
      simp [finishTrans, newTrk, e, Sys2Proof.Machine.rdS, rdX, upg, promote, Sys2Proof.Machine.rdU, wrU, atomU, cmoClean, cmoClinv, cmoInv, writeBackData,
        hfree _ hway, epochEvent_none hway, hfree _ hwayr, w, c]
  have hw : HomeStep m.slice c w := by
    simp only [w]
    split
    · exact homeStep_raised hcan.home c
    · exact .refl ..
  have hwstage : w.stage = c.stage := by simp only [w]; split <;> rfl
  have hwep : epochG w m.slice = if m.code = 12 then (epochG c m.slice + 1) % 256 else epochG c m.slice := by
    simp only [w]; split
    · exact epochG_raised ..
    · rfl
  obtain ⟨t, ht, hout, hwayt, htrk, hept, hstage, -⟩ := h.done hq ha (reply_rsp (by decide : 8 < 11) m) hw hfin
  refine ⟨t, ht, hout, hwayt, htrk, by rw [hstage, hwstage, hkept.stage], ?_⟩
  rw [hept, hwep, hep]

/-- WR_U (R287): the octets that the mask enables are written to the stored line. -/
theorem Taken.wrU (hcode : m.code = 6) :
    ∃ t, atHome m u = t ∧ Outcome u t (rsp 8 m) ∧ dirWay t m.slice m.line = none ∧ (t.slice m.slice).trk = [] ∧
      epochG t m.slice = (epochG u m.slice + 1) % 256 ∧
      t.stage = memWriteN (stageIndex u (m.line * 16)) (mergeLine m.mask (stageLine u m.line) m.data) u.stage := by
  let c := reservationsSeen m (begun m v)
  let r := raised m.slice c
  have hq : quickReq m v = none := quickReq_of_code (by omega) v
  have ha := allocates_of_code (m := m) (by omega)
  obtain ⟨-, hkept, hcan, -, hway, hllc, hep⟩ := h.plain hq ha
  have hr := homeStep_raised hcan.home c
  have hwayr : dirWay r m.slice m.line = none := (dirWay_of_dir hr.dir _).trans hway
  have hllcr : llcGet r m.slice m.line = none := by rw [llcGet, hr.llc]; exact hllc
  have hwrite := homeWrite_stage h.rest.ready.stage hllcr m.mask m.data
  have hfree : freeEntry m.slice m.line r = r := by rw [freeEntry, hwayr]
  have hfin : finishTrans m.slice 0 (newTrk m) c = (sendMsg (rsp 8 m) (eraseTrk m.slice 0 (homeWrite m.slice m.line m.mask m.data false r).2),
      [.leave m.slice m.line]) := by
    simp [finishTrans, newTrk, hcode, Sys2Proof.Machine.rdS, rdX, upg, promote, Sys2Proof.Machine.rdU, Sys2Proof.Machine.wrU, writeBackData,
      epochEvent_none hway, show freeEntry m.slice m.line (raised m.slice c) = raised m.slice c from hfree, hwrite, c, r]
    rfl
  rw [hwrite] at hfin
  obtain ⟨t, ht, hout, hwayt, htrk, hept, hstage, -⟩ := h.done hq ha (reply_rsp (by decide : 8 < 11) m) (hr.trans (homeStep_stage ..)) hfin
  refine ⟨t, ht, hout, hwayt, htrk, ?_, ?_⟩
  · rw [hept, epochG_stage, epochG_raised, hep]
  · have hru : Kept u r := hkept.trans (kept_raised hcan.home c)
    rw [hstage, hru.stageLine, hru.unmoved.index, hru.stage]

/-- ATOM_U (R287): the word's new value is stored, and its old one is the answer. -/
theorem Taken.atomU (hcode : m.code = 7) (hidx : m.idx < 16) (hgood : ((stageLine u m.line).getD m.idx MWord.zero).mark = .good) :
    ∃ t x, atHome m u = t ∧ Outcome u t x ∧
      (x.cls, x.code, x.agent, x.slice, x.line, x.data) = (1, 8, m.agent, m.slice, m.line, [(stageLine u m.line).getD m.idx MWord.zero]) ∧
      dirWay t m.slice m.line = none ∧ (t.slice m.slice).trk = [] ∧ epochG t m.slice = (epochG u m.slice + 1) % 256 ∧
      t.stage = memWriteN (stageIndex u (m.line * 16)) ((stageLine u m.line).set m.idx
        ⟨atomResult m.atop ((stageLine u m.line).getD m.idx MWord.zero).v m.operand m.cmp, .good⟩) u.stage := by
  let c := reservationsSeen m (begun m v)
  let r := raised m.slice c
  let old := (stageLine u m.line).getD m.idx MWord.zero
  let new := (stageLine u m.line).set m.idx ⟨atomResult m.atop old.v m.operand m.cmp, .good⟩
  have hq : quickReq m v = none := quickReq_of_code (by omega) v
  have ha := allocates_of_code (m := m) (by omega)
  obtain ⟨-, hkept, hcan, -, hway, hllc, hep⟩ := h.plain hq ha
  have hr := homeStep_raised hcan.home c
  have hru : Kept u r := hkept.trans (kept_raised hcan.home c)
  have hwayr : dirWay r m.slice m.line = none := (dirWay_of_dir hr.dir _).trans hway
  have hllcr : llcGet r m.slice m.line = none := by rw [llcGet, hr.llc]; exact hllc
  obtain ⟨w, st, hw, hread, hst, -⟩ := read_line (hr.unmoved.clear hcan.clear).flaws hcan.home h.rest.ready.stage hllcr false false
  have hwline : stageLine w m.line = stageLine u m.line := (hw.kept.stageLine _).trans (hru.stageLine _)
  have hllcw : llcGet w m.slice m.line = none := by rw [llcGet, hw.get_slice]; exact hllcr
  have hwrite := homeWrite_stage h.rest.ready.stage hllcw (31 * 2 ^ (5 * m.idx)) new
  rw [hwline, mergeLine_word _ _ _ (by rw [stageLine_length]; exact hidx)] at hwrite
  rw [hru.stageLine] at hread
  have hfree : freeEntry m.slice m.line r = r := by rw [freeEntry, hwayr]
  have hfin : finishTrans m.slice 0 (newTrk m) c = (sendMsg { rsp 8 m with data := [old], status := .ok }
      (eraseTrk m.slice 0 { w with stage := memWriteN (stageIndex w (m.line * 16)) new w.stage }), [.leave m.slice m.line]) := by
    have hstart : freeEntry m.slice m.line (epochEvent m.slice m.line (writeBackData m.slice (newTrk m) c)) = r := by
      rw [show writeBackData m.slice (newTrk m) c = c from rfl, epochEvent_none hway]
      exact hfree
    exact finishTrans_atomU (t := newTrk m) hcode hstart hread hst (by rw [show (newTrk m).req.idx = m.idx from rfl, hgood]; decide) hwrite
  obtain ⟨t, ht, hout, hwayt, htrk, hept, hstage, -⟩ := h.done hq ha (reply_data (by decide : 8 < 11) m (d := [old]) (by simp) rfl)
    ((hr.trans (hw.step _)).trans (homeStep_stage ..)) hfin
  refine ⟨t, _, ht, hout, rfl, hwayt, htrk, ?_, ?_⟩
  · rw [hept, epochG_stage, epochG_counts hw hcan.home, epochG_raised, hep]
  · rw [hstage, hw.unmoved.index, hw.stage, hru.unmoved.index, hru.stage]

end

end Sys2Proof.Machine
end

section
/-!
SUPPORT. Tentative reads, promotions and grants by a home at rest, and its answers together (R179, R182, R274, R276, R279, R283, R284, R287).
-/
set_option linter.constructorNameAsVariable false

namespace Sys2Proof.Machine

theorem epochOf_none {s : State} {n l : Nat} (h : dirGet s n l = none) : epochOf s n l = epochG s n := by rw [epochOf, h]

section
variable {m : CMsg} {u v : State} (h : Taken m u v)
include h

/-- RD_T (R179): the words and their epoch. -/
theorem Taken.rdT (hcode : m.code = 3) :
    ∃ t x, atHome m u = t ∧ Outcome u t x ∧ (x.cls, x.code, x.agent, x.slice, x.line, x.data) = (1, 3, m.agent, m.slice, m.line, stageLine u m.line) ∧
      x.epoch = epochG u m.slice ∧ dirWay t m.slice m.line = none ∧ (t.slice m.slice).trk = [] ∧ epochG t m.slice = epochG u m.slice ∧ t.cores = u.cores := by
  obtain ⟨w, st, hw, hread, hst, -⟩ := read_line h.rest.clear.flaws h.rest.home h.rest.ready.stage h.rest.ready.llc false true
  have hy := hw.trans (homeCounts_hsEvent h.rest.home 9 w)
  have hnone : dirGet w m.slice m.line = none := dirWay_isNone (h.rest.counts hw).free
  have hepw : epochG w m.slice = epochG u m.slice := (epochG_counts hw h.rest.home).trans (epochG_counts h.counts h.rest.home)
  let x : CMsg := { rsp 3 m with data := stageLine v m.line, status := st, epoch := epochOf w m.slice m.line }
  have hq : quickReq m v = some (sendMsg x (hsEvent m.slice 9 w)) := by
    simp [quickReq, hcode, Sys2Proof.Machine.rdT, dirWay_isNone h.rest.free, lineBusy_rest h.rest, hread, x]
  obtain ⟨t, ht, hout, hstage, hcores, hsl, hept⟩ := answer_sent (x := x) (m := m) (h.rest.counts hy).canAnswer
    ⟨rfl, show (3 : Nat) < 11 by decide, hst, (stageLine_length ..).le, rfl, rfl⟩
  have hslice : t.slice m.slice = v.slice m.slice := (hsl _).trans (hy.get_slice _)
  refine ⟨t, x, (atHome_quick (h.quick _ hq)).trans ht, (h.counts.trans hy).kept.outcome hout, ?_, ?_, ?_, ?_, ?_, ?_⟩
  · simp only [x, rsp, blankMsg, h.counts.kept.stageLine]
  · exact (epochOf_none hnone).trans hepw
  · rw [dirWay_congr hslice, h.rest.free]
  · rw [hslice, h.rest.ready.noTrk]
  · rw [hept _ h.rest.home, epochG_counts hy h.rest.home, epochG_counts h.counts h.rest.home]
  · rw [hcores, (h.counts.trans hy).cores]

/-- PROMOTE of a word whose epoch has passed (R182). -/
theorem Taken.promote_fails (hcode : m.code = 4) (hepoch : m.epoch % 256 ≠ epochG u m.slice) :
    ∃ t, atHome m u = t ∧ Outcome u t (rsp 10 m) ∧ dirWay t m.slice m.line = none ∧ (t.slice m.slice).trk = [] ∧ epochG t m.slice = epochG u m.slice := by
  have hy := homeCounts_hsEvent h.rest.home 12 v
  have hepv : epochG v m.slice = epochG u m.slice := epochG_counts h.counts h.rest.home
  have hq : quickReq m v = some (sendMsg (rsp 10 m) (hsEvent m.slice 12 v)) := by
    have hne : m.epoch % 256 ≠ epochOf v m.slice m.line := by rw [epochOf_none (dirWay_isNone h.rest.free), hepv]; exact hepoch
    simp [quickReq, hcode, Sys2Proof.Machine.rdT, promote, hne]
  obtain ⟨t, ht, hout, hstage, hcores, hsl, hept⟩ := answer_sent (h.rest.counts hy).canAnswer (reply_rsp (by decide : 10 < 11) m)
  have hslice : t.slice m.slice = v.slice m.slice := (hsl _).trans (hy.get_slice _)
  refine ⟨t, (atHome_quick (h.quick _ hq)).trans ht, (h.counts.trans hy).kept.outcome hout, ?_, ?_, ?_⟩
  · rw [dirWay_congr hslice, h.rest.free]
  · rw [hslice, h.rest.ready.noTrk]
  · rw [hept _ h.rest.home, epochG_counts hy h.rest.home, hepv]

/-- The job of a request that allocates an entry, down to its finish. -/
theorem Taken.allocated (hq : quickReq m v = none) (ha : allocates m = true) :
    ∃ k e, let c := reservationsSeen m (begunWith m k v)
    atHome m u = runJobs 398 (finishTrans m.slice 0 (newTrk m) c).2 (finishTrans m.slice 0 (newTrk m) c).1 ∧ Kept u c ∧
      CanAnswer c m.agent m.slice ∧ InTransaction c m.slice (newTrk m) ∧ EntryAt c m.slice m.line k e ∧ llcGet c m.slice m.line = none ∧
      epochG c m.slice = epochG u m.slice ∧ (e.ovf, e.ptrs, e.epoch) = (false, [15, 15, 15, 15], epochG u m.slice) := by
  obtain ⟨k, hk⟩ := h.rest.room
  have hreq : reqJob m u = (begunWith m k v, [.finish m.slice 0]) := (h.starts hq).trans (startTrans_new h.rest ha hk)
  have hsl := begunWith_slice h.rest k
  have hkept : Kept v (reservationsSeen m (begunWith m k v)) := (kept_begunWith m k v).trans (kept_reservationsSeen ..)
  have hc : ∀ n, (reservationsSeen m (begunWith m k v)).slice n = (begunWith m k v).slice n := reservationsSeen_slice m (begunWith m k v)
  have ht := inTransaction_begunWith h.rest k
  have hep : epochG v m.slice = epochG u m.slice := epochG_counts h.counts h.rest.home
  refine ⟨k, _, atHome_begun hreq (by rw [hsl]; rfl) (by rw [hsl]; exact h.rest.ready.epoch), h.counts.kept.trans hkept,
    h.rest.canAnswer.unmoved hkept.unmoved, ⟨by rw [hc, ht.trk], by rw [hc, ht.order], by rw [hc, ht.waiting]⟩,
    (entryAt_begunWith h.rest hk).congr (by rw [hc]), ?_, ?_, ?_⟩
  · rw [llcGet, hc]; exact llcGet_begunWith h.rest k
  · rw [epochG_reservationsSeen]
    exact hep
  · rw [newEntry, hep]

/-- PROMOTE of a word whose epoch stands (R182): the agent becomes a sharer. -/
theorem Taken.promote_holds (hcode : m.code = 4) (hagent : m.agent < 12) (hepoch : m.epoch % 256 = epochG u m.slice) :
    ∃ t, atHome m u = t ∧ Outcome u t (rsp 9 m) ∧ epochG t m.slice = epochG u m.slice ∧
      entryOf t m.slice m.line = some (.s, [m.agent, 15, 15, 15], false, epochG u m.slice) := by
  have hepv : epochG v m.slice = epochG u m.slice := epochG_counts h.counts h.rest.home
  have hq : quickReq m v = none := by
    have he : m.epoch % 256 = epochOf v m.slice m.line := by rw [epochOf_none (dirWay_isNone h.rest.free), hepv]; exact hepoch
    simp [quickReq, hcode, Sys2Proof.Machine.rdT, promote, he, lineBusy_rest h.rest, dirWay_isNone h.rest.free]
  obtain ⟨k, e, hhome, hkept, hcan, htrans, hentry, -, hep, he⟩ := h.allocated hq (by simp [allocates, hcode, promote])
  simp only [Prod.mk.injEq] at he
  obtain ⟨hovf, hptrs, heep⟩ := he
  generalize reservationsSeen m (begunWith m k v) = c at hhome hkept hcan htrans hentry hep
  have hshare : addSharer m.agent e = { e with ptrs := [m.agent, 15, 15, 15] } := by
    have hne : m.agent ≠ 15 := by omega
    simp [addSharer, hptrs, hne]
    rfl
  let e' : DirEnt := { e with st := .s, ptrs := [m.agent, 15, 15, 15] }
  have hput : putEntry m.slice k e' c = setDirKey m.slice k e' c := by
    have hne : m.agent ≠ 15 := by omega
    simp [putEntry, holders, e', hne]
  let d := setDirKey m.slice k e' c
  let y := hsEvent m.slice 11 (eraseTrk m.slice 0 d)
  have hfin : finishTrans m.slice 0 (newTrk m) c = (sendMsg (rsp 9 m) y, [.leave m.slice m.line]) := by
    simp only [finishTrans, newTrk, hcode, rdS, rdX, upg, promote, hentry.dirWay, hentry.dirGet, hshare]
    simp
    exact congrArg (fun z => sendMsg (rsp 9 m) (hsEvent m.slice 11 (eraseTrk m.slice 0 z))) hput
  have hd : Kept c (eraseTrk m.slice 0 d) := (kept_setSlice ..).trans (kept_setSlice ..)
  have hy : HomeCounts (eraseTrk m.slice 0 d) y := homeCounts_hsEvent hcan.home 11 _
  have hdtrk : (d.slice m.slice).trk = [(0, newTrk m)] ∧ (d.slice m.slice).pslotOrder = [] ∧ (d.slice m.slice).waiting = [] := by
    simp only [d, setDirKey, slice_setSlice_self]
    exact ⟨htrans.trk, htrans.order, htrans.waiting⟩
  have hysl : y.slice m.slice = { d.slice m.slice with trk := [] } := by
    rw [hy.get_slice, eraseTrk, slice_setSlice_self, hdtrk.1]; rfl
  obtain ⟨t, ht, hout, -, -, hdir, -, hept⟩ := answer_and_leave (s := y) (hcan.unmoved (hd.trans hy.kept).unmoved) (by rw [hysl]) (by rw [hysl]; exact hdtrk.2.1)
    (by rw [hysl]; exact hdtrk.2.2) (reply_rsp (by decide : 9 < 11) m)
  have hend : EntryAt t m.slice m.line k e' := (hentry.set (x := e') hentry.tag).congr (by rw [hdir, hysl])
  refine ⟨t, by rw [hhome, hfin]; exact ht, (hkept.trans (hd.trans hy.kept)).outcome hout, ?_, ?_⟩
  · rw [hept, epochG_counts hy hcan.home]
    exact hep
  · rw [entryOf, hend.dirGet]
    simp [e', hovf, heep]

end

/-! ### Grants -/

/-- The finish of a read or an ownership request for a line that nobody held: its words are granted. -/
theorem finishTrans_grant {n k : Nat} {t : Trk} {s w : State} {st : FStatus} {d : Line} (hcode : t.req.code < 3) (hbefore : t.before = none)
    (hdata : t.data = none) (hread : homeRead n t.req.line true false s = (st, d, w)) (hst : okData st = true) :
    finishTrans n k t s = (grantTo n k t (if t.req.code = 0 then 1 else 2) st d .x (soleOwner t.req.agent) (epochEvent n t.req.line w), []) := by
  rcases (by omega : t.req.code = 0 ∨ t.req.code = 1 ∨ t.req.code = 2) with e | e | e <;>
    simp only [finishTrans, e, rdS, rdX, upg, transData, hdata, hread, hst, hbefore] <;> simp
  split <;> simp

theorem grantTo_entry {n k j : Nat} {t : Trk} {s : State} {e : DirEnt} (h : EntryAt s n t.req.line j e) (code : Nat) (st : FStatus) (d : Line) (after : DirSt)
    (f : DirEnt → DirEnt) : grantTo n k t code st d after f s =
      sendMsg { rsp code t.req with data := d, status := st } (setTrk n k { t with phase := .awaitDone, after := after } (setDirKey n j { f e with st := .b } s)) := by
  simp only [grantTo, h.dirWay, h.dirGet]

/-- RD_S, RD_X and UPG of a line that nobody holds (R274, R283): the words, and the agent as its owner. -/
theorem Taken.granted {m : CMsg} {u v : State} (h : Taken m u v) (hcode : m.code < 3) :
    ∃ t x, atHome m u = t ∧ Outcome u t x ∧
      (x.cls, x.code, x.agent, x.slice, x.line, x.data) = (1, (if m.code = 0 then 1 else 2), m.agent, m.slice, m.line, stageLine u m.line) ∧
      entryOf t m.slice m.line = some (.b, [m.agent, 15, 15, 15], false, (epochG u m.slice + 1) % 256) ∧
      epochG t m.slice = (epochG u m.slice + 1) % 256 ∧ t.stage = u.stage ∧
      ((∀ c, c < 8 → c ≠ m.agent → (u.core c).resv ≠ some m.line) → t.cores = u.cores) := by
  have hq : quickReq m v = none := quickReq_none (by simp only [Sys2Proof.Machine.rdT]; omega) (by simp only [promote]; omega)
    (by simp only [wbReq]; omega) (by simp only [evictReq]; omega) v
  have ha : allocates m = true := by
    rcases (by omega : m.code = 0 ∨ m.code = 1 ∨ m.code = 2) with e | e | e <;> simp [allocates, e, rdS, rdX, upg]
  obtain ⟨k, e, hhome, hkept, hcan, htrans, hentry, hllc, hep, he⟩ := h.allocated hq ha
  have hcores : (∀ c, c < 8 → c ≠ m.agent → (u.core c).resv ≠ some m.line) → (reservationsSeen m (begunWith m k v)).cores = u.cores := by
    intro hr
    have hcore : (begunWith m k v).cores = u.cores := h.counts.cores
    rw [reservationsSeen_none, hcore]
    intro c hc hne
    rw [State.core, hcore]
    exact hr c hc hne
  generalize reservationsSeen m (begunWith m k v) = c at hhome hkept hcan htrans hentry hllc hep hcores
  simp only [Prod.mk.injEq] at he
  obtain ⟨hovf, hptrs, heep⟩ := he
  obtain ⟨w, st, hw, hread, hst, -⟩ := read_line hcan.clear.flaws hcan.home h.rest.ready.stage hllc true false
  have hfin := finishTrans_grant (k := 0) (t := newTrk m) hcode rfl rfl hread hst
  have hentryw : EntryAt w m.slice m.line k e := hentry.congr (by rw [hw.get_slice])
  let g := (epochG u m.slice + 1) % 256
  have hepw : epochG w m.slice = epochG u m.slice := (epochG_counts hw hcan.home).trans hep
  let e1 : DirEnt := { e with epoch := g }
  let e2 : DirEnt := { soleOwner m.agent e1 with st := .b }
  let r := setDirKey m.slice k e1 (raised m.slice w)
  have hr : epochEvent m.slice m.line w = r := by rw [epochEvent_entry hentryw, hepw]
  have hentryr : EntryAt r m.slice m.line k e1 := EntryAt.set (hentryw.congr (by rw [raised_slice])) hentry.tag
  let y := setTrk m.slice 0 { newTrk m with phase := .awaitDone, after := .x } (setDirKey m.slice k e2 r)
  have hentryy : EntryAt y m.slice m.line k e2 := (hentryr.set (x := e2) hentry.tag).congr (by simp only [y, setTrk, slice_setSlice_self])
  have hy : Kept w y := (kept_raised hcan.home w).trans ((kept_setSlice ..).trans ((kept_setSlice ..).trans (kept_setSlice ..)))
  obtain ⟨t, ht, hout, hstage, hcorest, hsl, hept⟩ := answer_sent (s := y) (m := m) ((hcan.unmoved hw.unmoved).unmoved hy.unmoved)
    (reply_data (code := if m.code = 0 then 1 else 2) (by split <;> decide) m (stageLine_length c m.line).le hst)
  have hend : EntryAt t m.slice m.line k e2 := hentryy.congr (by rw [hsl])
  refine ⟨t, _, ?_, ((hkept.trans hw.kept).trans hy).outcome hout, ?_, ?_, ?_, ?_, fun hr => ?_⟩
  · rw [hhome, hfin, show (newTrk m).req = m from rfl, hr, grantTo_entry (t := newTrk m) hentryr]
    exact (runJobs_nil ..).trans ht
  · simp only [rsp, blankMsg, hkept.stageLine]
  · rw [entryOf, hend.dirGet]
    simp [e2, e1, soleOwner, g]
  · rw [hept _ hcan.home]
    change epochG (raised m.slice w) m.slice = _
    rw [epochG_raised, hepw]
  · rw [hstage, hy.stage, hw.stage, hkept.stage]
  · rw [hcorest]
    exact (hw.cores : w.cores = c.cores).trans (hcores hr)

/-! ### The commands -/

section
variable {m : CMsg} {s u t : State} {x : CMsg} (h : Asked m s u)
include h

theorem Asked.stageLine (l : Nat) : stageLine u l = stageLine s l := by
  simp only [Sys2Proof.Machine.stageLine, h.values.stageIndex]
  rw [h.only]

theorem Asked.epoch {n : Nat} (hn : n < 4) : epochG u n = epochG s n := h.values.fld (not_isCount_home hn (by simp only [Reg.HS_EPOCH]; omega)) ..

theorem Asked.cores : u.cores = s.cores := by rw [h.only]

theorem Asked.stage : u.stage = s.stage := by rw [h.only]

/-- The answer that the home sent is the newest message. -/
theorem Asked.sent (hout : Outcome u t x) : Sent s.net x.cls x.code x.agent x.slice x.line x.data (latched t) :=
  sent_append (m := x) (by rw [latched_net, hout.net, h.only])

/-- The request is outstanding at its agent. -/
theorem Asked.hasOut (hout : Outcome u t x) : hasOut (latched t) m.agent m.line = true := by
  rw [Sys2Proof.Machine.hasOut, latched_get_agent, agent_of_agents hout.agents, h.out]
  simp

end

/-- The request of a message code and an agent for line l. -/
theorem plainRequest_blank {code : Nat} (a n l : Nat) : PlainRequest (blankMsg 0 code a n l) := plainRequest_of rfl rfl (Nat.zero_le _) (Or.inl rfl)

theorem toLine_length (d : List Word) : (toLine d).length = 16 := by simp [toLine]

/-- A core that notes a tentative read, and counts it, leaves the line free for its request. -/
theorem FreeLine.coreSide {s t : State} {a l : Nat} (h : FreeLine s a l) (ht : CoreSide s t) (hagents : t.agents = s.agents) : FreeLine t a l := by
  have hhome : homeOf t l = homeOf s l := by
    have hu : ∀ n, n < 4 → stageUnits t n = stageUnits s n := fun n hn => ht.fld (by simp only [Reg.HS_SPLIT]; omega) ..
    simp only [homeOf, stagePlace, hu 0 (by decide), hu 1 (by decide), hu 2 (by decide), hu 3 (by decide)]
  have hslice : ∀ n, t.slice n = s.slice n := fun n => by rw [ht.only]; rfl
  have hni : ∀ k, t.ni k = s.ni k := fun k => by rw [ht.only]; rfl
  have hflits : ∀ k, flitsIn t k = flitsIn s k := fun k => by rw [ht.only]; rfl
  have hl := h.linked
  have hr := h.ready
  rw [← hhome] at hl hr
  refine ⟨⟨?_, ?_, ?_, ?_, ?_, ?_⟩, ⟨hr.stage, ?_, ?_, ?_, ?_, ?_, ?_, ?_⟩, ?_, ?_, ?_⟩
  · rw [ht.only]; exact hl.flaws
  · rw [ht.route]; exact hl.there
  · rw [ht.route]; exact hl.back
  · rw [mustHold, niHolds, hni, hflits]; exact hl.flows
  · simp only [freeTag?, tagOf, hni]; exact hl.tag
  · exact fun k hk => (ht.bit (by simp only [Reg.PRB_n_CTL]; omega) 0).trans (hl.probes k hk)
  · rw [ht.regionAt]; exact hr.there
  · rw [ht.bit (by simp only [Reg.HS_STATUS]; omega)]; exact hr.up
  · rw [ht.only]; exact hr.split
  · rw [hslice]; exact hr.noTrk
  · rw [hslice]; exact hr.quiet
  · rw [hslice]; exact hr.epoch
  · rw [llcGet, hslice]; exact hr.llc
  · rw [hasOut, agent_of_agents hagents]; exact h.idle
  · rw [dirWay_congr (hslice _), hhome]; exact h.free
  · rw [allocWay_congr (hslice _), hhome]; exact h.room

end Sys2Proof.Machine
end

section
/-!
SUPPORT. A request for a line that no agent holds, from its agent to its home's answer (R179, R182, R274, R276, R279, R283, R287).
-/
set_option linter.constructorNameAsVariable false

namespace Sys2Proof.Machine

section
variable {s : State} {m : CMsg} (h : FreeLine s m.agent m.line) (hslice : m.slice = homeOf s m.line) (hm : PlainRequest m)
include h hslice hm

/-- RD_S, RD_X, UPG. -/
theorem issue_granted (hcode : m.code < 3) :
    ∃ t, ok (issueReq m s) = .next t ∧ Sent s.net 1 (if m.code = 0 then 1 else 2) m.agent m.slice m.line (stageLine s m.line) t ∧
      ((∀ c, c < 8 → c ≠ m.agent → (s.core c).resv ≠ some m.line) →
        entryOf t m.slice m.line = some (.b, [m.agent, 15, 15, 15], false, (epochG s m.slice + 1) % 256) ∧
        t.fld (Reg.HS_EPOCH m.slice) 7 0 = (epochG s m.slice + 1) % 256 ∧ hasOut t m.agent m.line = true ∧ t.stage = s.stage ∧ t.cores = s.cores) := by
  obtain ⟨tag, g, u, v, hu, hissue, htaken⟩ := request_taken h hslice hm (by omega)
  obtain ⟨t, x, ht, hout, hx, hentry, hep, hstage, hcores⟩ := htaken.granted hcode
  have hepu := hu.epoch htaken.rest.home
  have hsent := hu.sent hout
  simp only [Prod.mk.injEq] at hx
  obtain ⟨h1, h2, h3, h4, h5, h6⟩ := hx
  rw [h1, h2, h3, h4, h5, h6, hu.stageLine] at hsent
  refine ⟨latched t, by rw [hissue, ht]; rfl, hsent, fun hr => ⟨?_, ?_, hu.hasOut hout, ?_, ?_⟩⟩
  · exact hentry.trans (by rw [hepu])
  · exact hep.trans (by rw [hepu])
  · exact hstage.trans hu.stage
  · refine (hcores ?_).trans hu.cores
    intro c hc hne
    rw [State.core, hu.cores]
    exact hr c hc hne

/-- RD_U. -/
theorem issue_rdU (hcode : m.code = 5) :
    ∃ t, ok (issueReq m s) = .next t ∧ Sent s.net 1 4 m.agent m.slice m.line (stageLine s m.line) t ∧ (dirWay t m.slice m.line = none ∧ (t.slice m.slice).trk = []) ∧
      t.fld (Reg.HS_EPOCH m.slice) 7 0 = epochG s m.slice ∧ t.stage = s.stage ∧ t.cores = s.cores := by
  obtain ⟨tag, g, u, v, hu, hissue, htaken⟩ := request_taken h hslice hm (by omega)
  obtain ⟨t, x, ht, hout, hx, hway, htrk, hep, hstage, hcores⟩ := htaken.rdU hcode
  have hsent := hu.sent hout
  simp only [Prod.mk.injEq] at hx
  obtain ⟨h1, h2, h3, h4, h5, h6⟩ := hx
  rw [h1, h2, h3, h4, h5, h6, hu.stageLine] at hsent
  exact ⟨latched t, by rw [hissue, ht]; rfl, hsent, ⟨hway, htrk⟩, hep.trans (hu.epoch htaken.rest.home), hstage.trans hu.stage, hcores.trans hu.cores⟩

/-- WR_U. -/
theorem issue_wrU (hcode : m.code = 6) :
    ∃ t, ok (issueReq m s) = .next t ∧ Sent s.net 1 8 m.agent m.slice m.line [] t ∧ (dirWay t m.slice m.line = none ∧ (t.slice m.slice).trk = []) ∧
      t.fld (Reg.HS_EPOCH m.slice) 7 0 = (epochG s m.slice + 1) % 256 ∧ stageLine t m.line = mergeLine m.mask (stageLine s m.line) m.data ∧
      ∀ k, k < stageIndex s (m.line * 16) ∨ stageIndex s (m.line * 16) + 16 ≤ k → memRead t.stage k = memRead s.stage k := by
  obtain ⟨tag, g, u, v, hu, hissue, htaken⟩ := request_taken h hslice hm (by omega)
  obtain ⟨t, ht, hout, hway, htrk, hep, hstage⟩ := htaken.wrU hcode
  obtain ⟨hline, hothers⟩ := stageLine_written (s := s) (t := latched t) (l := m.line) (mask := m.mask) (data := m.data)
    ((hout.unmoved.index _).trans (hu.values.stageIndex _)) (by rw [latched_stage, hstage, hu.values.stageIndex, hu.stageLine, hu.stage])
  exact ⟨latched t, by rw [hissue, ht]; rfl, hu.sent hout, ⟨hway, htrk⟩, hep.trans (by rw [hu.epoch htaken.rest.home]), hline, hothers⟩

/-- ATOM_U. -/
theorem issue_atomU (hcode : m.code = 7) (hidx : m.idx < 16) (hgood : ((stageLine s m.line).getD m.idx MWord.zero).mark = .good) :
    ∃ t, ok (issueReq m s) = .next t ∧ Sent s.net 1 8 m.agent m.slice m.line [(stageLine s m.line).getD m.idx MWord.zero] t ∧
      (dirWay t m.slice m.line = none ∧ (t.slice m.slice).trk = []) ∧ t.fld (Reg.HS_EPOCH m.slice) 7 0 = (epochG s m.slice + 1) % 256 ∧
      stageLine t m.line = (stageLine s m.line).set m.idx ⟨atomResult m.atop ((stageLine s m.line).getD m.idx MWord.zero).v m.operand m.cmp, .good⟩ := by
  obtain ⟨tag, g, u, v, hu, hissue, htaken⟩ := request_taken h hslice hm (by omega)
  have hline := hu.stageLine m.line
  rw [← hline] at hgood
  obtain ⟨t, x, ht, hout, hx, hway, htrk, hep, hstage⟩ := htaken.atomU hcode hidx hgood
  have hsent := hu.sent hout
  simp only [Prod.mk.injEq] at hx
  obtain ⟨h1, h2, h3, h4, h5, h6⟩ := hx
  rw [h1, h2, h3, h4, h5, h6, hline] at hsent
  refine ⟨latched t, by rw [hissue, ht]; rfl, hsent, ⟨hway, htrk⟩, hep.trans (by rw [hu.epoch htaken.rest.home]), ?_⟩
  have hidx' : stageIndex (latched t) (m.line * 16) = stageIndex u (m.line * 16) := hout.unmoved.index _
  have hread := memReadN_memWriteN ((stageLine s m.line).set m.idx ⟨atomResult m.atop ((stageLine s m.line).getD m.idx MWord.zero).v m.operand m.cmp, .good⟩)
    (stageIndex u (m.line * 16)) u.stage
  rw [List.length_set, stageLine_length] at hread
  rw [stageLine, hidx', latched_stage, hstage]
  simp only [hline]
  exact hread

/-- RD_T. -/
theorem issue_rdT (hcode : m.code = 3) :
    ∃ t, ok (issueReq m s) = .next t ∧ Sent s.net 1 3 m.agent m.slice m.line (stageLine s m.line) t ∧
      t.net.getLast?.map (·.epoch) = some (epochG s m.slice) ∧ (dirWay t m.slice m.line = none ∧ (t.slice m.slice).trk = []) ∧
      t.fld (Reg.HS_EPOCH m.slice) 7 0 = epochG s m.slice ∧ t.cores = s.cores := by
  obtain ⟨tag, g, u, v, hu, hissue, htaken⟩ := request_taken h hslice hm (by omega)
  obtain ⟨t, x, ht, hout, hx, hxep, hway, htrk, hep, hcores⟩ := htaken.rdT hcode
  have hepu := hu.epoch htaken.rest.home
  have hsent := hu.sent hout
  simp only [Prod.mk.injEq] at hx
  obtain ⟨h1, h2, h3, h4, h5, h6⟩ := hx
  rw [h1, h2, h3, h4, h5, h6, hu.stageLine] at hsent
  refine ⟨latched t, by rw [hissue, ht]; rfl, hsent, ?_, ⟨hway, htrk⟩, hep.trans hepu, hcores.trans hu.cores⟩
  rw [latched_net, hout.net, List.getLast?_concat, Option.map_some, hxep]
  exact congrArg some hepu

/-- PROMOTE whose epoch has passed. -/
theorem issue_promote_fails (hcode : m.code = 4) (hepoch : m.epoch % 256 ≠ epochG s m.slice) :
    ∃ t, ok (issueReq m s) = .next t ∧ Sent s.net 1 10 m.agent m.slice m.line [] t ∧ (dirWay t m.slice m.line = none ∧ (t.slice m.slice).trk = []) ∧
      t.fld (Reg.HS_EPOCH m.slice) 7 0 = epochG s m.slice := by
  obtain ⟨tag, g, u, v, hu, hissue, htaken⟩ := request_taken h hslice hm (by omega)
  have hepu := hu.epoch htaken.rest.home
  obtain ⟨t, ht, hout, hway, htrk, hep⟩ := htaken.promote_fails hcode (by rw [hepu]; exact hepoch)
  exact ⟨latched t, by rw [hissue, ht]; rfl, hu.sent hout, ⟨hway, htrk⟩, hep.trans hepu⟩

/-- PROMOTE whose epoch stands. -/
theorem issue_promote_holds (hcode : m.code = 4) (hagent : m.agent < 12) (hepoch : m.epoch % 256 = epochG s m.slice) :
    ∃ t, ok (issueReq m s) = .next t ∧ Sent s.net 1 9 m.agent m.slice m.line [] t ∧ t.fld (Reg.HS_EPOCH m.slice) 7 0 = epochG s m.slice ∧
      entryOf t m.slice m.line = some (.s, [m.agent, 15, 15, 15], false, epochG s m.slice) := by
  obtain ⟨tag, g, u, v, hu, hissue, htaken⟩ := request_taken h hslice hm (by omega)
  have hepu := hu.epoch htaken.rest.home
  obtain ⟨t, ht, hout, hep, hentry⟩ := htaken.promote_holds hcode hagent (by rw [hepu]; exact hepoch)
  exact ⟨latched t, by rw [hissue, ht]; rfl, hu.sent hout, hep.trans hepu, hentry.trans (by rw [hepu])⟩

/-- Cache maintenance. -/
theorem issue_cmo (hcode : 10 ≤ m.code ∧ m.code < 13) :
    ∃ t, ok (issueReq m s) = .next t ∧ Sent s.net 1 8 m.agent m.slice m.line [] t ∧ (dirWay t m.slice m.line = none ∧ (t.slice m.slice).trk = []) ∧
      t.fld (Reg.HS_EPOCH m.slice) 7 0 = (if m.code = 12 then (epochG s m.slice + 1) % 256 else epochG s m.slice) ∧ t.stage = s.stage := by
  obtain ⟨tag, g, u, v, hu, hissue, htaken⟩ := request_taken h hslice hm (by omega)
  have hepu := hu.epoch htaken.rest.home
  obtain ⟨t, ht, hout, hway, htrk, hstage, hep⟩ := htaken.cmo hcode
  exact ⟨latched t, by rw [hissue, ht]; rfl, hu.sent hout, ⟨hway, htrk⟩, hep.trans (by rw [hepu]), hstage.trans hu.stage⟩

end

/-- A core's cache maintenance of a line of stage memory goes to its home. -/
theorem cmoReq_stage {s : State} {l : BitVec 30} (h : regionAt s (l.toNat * 16) = some .stage) (code : Nat) (c : Fin 8) :
    cmoReq code c l s = simpleReq code c l s := by
  rw [cmoReq, h]
  rfl

/-- A core notes a tentative read in its cloakroom, and counts it. -/
def tentNoted (c : Nat) (r : TentRead) (s : State) : State :=
  pmcEvent c 0x0A 1 (s.setCore c { s.core c with cloak := (s.core c).cloak ++ [⟨r.line.toNat, none, 0, 0, .ok, r.fetch, false, [r.pc]⟩] })

theorem execRdT_misses {c : Fin 8} {r : TentRead} {s : State} (hlen : (s.core c).cloak.length < 32) (hno : ∀ e ∈ (s.core c).cloak, e.line ≠ r.line.toNat)
    (hline : SMap.find r.line.toNat (s.agent c).lines = none) (hout : hasOut s c r.line.toNat = false) (hpace : s.bit (Reg.CS_PACE_CTL c) 1 = false)
    (hregion : regionAt s (r.line.toNat * 16) = some .stage) : execRdT c r s = simpleReq rdT c r.line (tentNoted c r s) := by
  have hmay : mayTent s r.line.toNat = true := by rw [mayTent, hregion]; rfl
  have hany : (s.core c).cloak.any (fun e => e.line == r.line.toNat) = false := by
    rw [List.any_eq_false]
    intro e he
    simpa using hno e he
  unfold execRdT
  extract_lets k ln
  rw [show SMap.find ln (s.agent c).lines = none from hline, show hasOut s c ln = false from hout, hpace, show mayTent s ln = true from hmay]
  rw [if_neg (by decide), show k.cloak.any (fun e => e.line == ln) = false from hany, if_neg Bool.false_ne_true, if_neg (by simp only [k]; omega)]
  rfl

theorem coreSide_tentNoted (c : Fin 8) (r : TentRead) (s : State) : CoreSide s (tentNoted c r s) :=
  CoreSide.trans (t := s.setCore c { s.core c with cloak := (s.core c).cloak ++ [⟨r.line.toNat, none, 0, 0, .ok, r.fetch, false, [r.pc]⟩] })
    ⟨rfl, fun _ _ => rfl⟩ (coreSide_pmcEvent c.isLt ..)

theorem tentNoted_cloak (c : Fin 8) (r : TentRead) (s : State) :
    ((tentNoted c r s).core c).cloak = (s.core c).cloak ++ [⟨r.line.toNat, none, 0, 0, .ok, r.fetch, false, [r.pc]⟩] := by
  rw [tentNoted, pmcEvent_core, core_setCore_self]

/-- RD_T of a core whose cloakroom has room and no entry for the line. -/
theorem issue_rdT_noted {s : State} {c : Fin 8} {l : BitVec 30} (h : FreeLine s c l.toNat) (hlen : (s.core c).cloak.length < 32)
    (hno : ∀ e ∈ (s.core c).cloak, e.line ≠ l.toNat) (hline : SMap.find l.toNat (s.agent c).lines = none) (hpace : s.bit (Reg.CS_PACE_CTL c) 1 = false)
    (fetch : Bool) (pc : Word) :
    ∃ t, execRdT c ⟨l, fetch, pc⟩ s = .next t ∧ Sent s.net 1 3 c (homeOf s l.toNat) l.toNat (stageLine s l.toNat) t ∧
      t.net.getLast?.map (·.epoch) = some (epochG s (homeOf s l.toNat)) ∧
      (dirWay t (homeOf s l.toNat) l.toNat = none ∧ (t.slice (homeOf s l.toNat)).trk = []) ∧
      t.fld (Reg.HS_EPOCH (homeOf s l.toNat)) 7 0 = epochG s (homeOf s l.toNat) ∧
      (t.core c).cloak = (s.core c).cloak ++ [⟨l.toNat, none, 0, 0, .ok, fetch, false, [pc]⟩] := by
  let r : TentRead := ⟨l, fetch, pc⟩
  let u := tentNoted c r s
  have hu : CoreSide s u := coreSide_tentNoted ..
  have hagents : u.agents = s.agents := (pmcEvent_only ..).agents
  have hunits : ∀ n, n < 4 → stageUnits u n = stageUnits s n := fun n hn => hu.fld (by simp only [Reg.HS_SPLIT]; omega) ..
  have hplace : ∀ o, stagePlace u [0, 1, 2, 3] o = stagePlace s [0, 1, 2, 3] o := fun o => by
    simp only [stagePlace, hunits 0 (by decide), hunits 1 (by decide), hunits 2 (by decide), hunits 3 (by decide)]
  have hhome : homeOf u l.toNat = homeOf s l.toNat := by simp only [homeOf, hplace]
  have hstage : stageLine u l.toNat = stageLine s l.toNat := by
    have : u.stage = s.stage := by rw [hu.only]
    simp only [stageLine, stageIndex, hplace, this]
  have hep : epochG u (homeOf s l.toNat) = epochG s (homeOf s l.toNat) := hu.fld (by simp only [Reg.HS_EPOCH]; omega) ..
  have hnet : u.net = s.net := by rw [hu.only]
  obtain ⟨t, ht, hsent, hlast, hdone, hept, hcores⟩ := issue_rdT (m := blankMsg 0 rdT c (homeOf u l.toNat) l.toNat) (h.coreSide hu hagents) rfl
    (plainRequest_blank ..) rfl
  change Sent u.net 1 3 c (homeOf u l.toNat) l.toNat (stageLine u l.toNat) t at hsent
  change t.net.getLast?.map (·.epoch) = some (epochG u (homeOf u l.toNat)) at hlast
  change dirWay t (homeOf u l.toNat) l.toNat = none ∧ (t.slice (homeOf u l.toNat)).trk = [] at hdone
  change t.fld (Reg.HS_EPOCH (homeOf u l.toNat)) 7 0 = epochG u (homeOf u l.toNat) at hept
  rw [hhome, hnet, hstage] at hsent
  rw [hhome, hep] at hlast hept
  rw [hhome] at hdone
  refine ⟨t, (execRdT_misses (r := r) hlen hno hline h.idle hpace h.ready.there).trans ht, hsent, hlast, hdone, hept, ?_⟩
  rw [State.core, hcores]
  exact tentNoted_cloak c r s

/-- The oldest cloakroom entry that is filled and sound is sent to its home for promotion. -/
theorem promotion_sent {s : State} {c : Fin 8} {l : BitVec 30} {e : Cloak} {rest : List Cloak} (hf : s.flaws = []) (hcloak : (s.core c).cloak = e :: rest)
    (hel : e.line = l.toNat) (hed : e.data ≠ none) (hdecl : e.declined = false) (hst : e.status = .ok) (hpulses : e.pulses < 3) :
    execCloakroomPromotion c l s = ok (issueReq { blankMsg 0 promote c (homeOf s l.toNat) l.toNat with epoch := e.epoch } s) := by
  have hfind : (s.core c).cloak.find? (fun e => e.line == l.toNat) = some e := by rw [hcloak]; exact List.find?_cons_of_pos (by simp [hel])
  have hread : cloakRead c l.toNat s = s := by simp [cloakRead, struck_of_no_flaws hf]
  have hdata : e.data.isNone = false := Option.isNone_eq_false_iff.2 (Option.isSome_iff_ne_none.2 hed)
  have hany : (s.core c).cloak.any (fun x => x.line == l.toNat) = true := by simp [hcloak, hel]
  simp only [execCloakroomPromotion, hfind, hread, hdecl, hdata, hst, hany]
  simp [sendPromotion, hel, not_le.2 hpulses]

/-- Settles O30: each request reaches its home at rest, and the home's one transaction for it gives the answer. -/
theorem coherenceRequests : Obligations.CoherenceRequests := by
  intro a l s h
  let n := homeOf s l.toNat
  have ha : a.val < 12 := a.isLt
  refine ⟨⟨fun hmay => ?_, fun hmay => ?_, fun hmay => ?_⟩, ?_, fun mask data => ?_, fun idx op operand cmp hgood => ?_, fun c hac => ?_⟩
  · obtain ⟨t, ht, hs⟩ := issue_granted (m := blankMsg 0 rdS a n l.toNat) h rfl (plainRequest_blank ..) (show rdS < 3 by decide)
    exact ⟨t, (if_pos hmay).trans ht, hs⟩
  · obtain ⟨t, ht, hs⟩ := issue_granted (m := blankMsg 0 rdX a n l.toNat) h rfl (plainRequest_blank ..) (show rdX < 3 by decide)
    exact ⟨t, (if_pos hmay).trans ht, hs⟩
  · obtain ⟨t, ht, hs⟩ := issue_granted (m := blankMsg 0 upg a n l.toNat) h rfl (plainRequest_blank ..) (show upg < 3 by decide)
    exact ⟨t, (if_pos hmay).trans ht, hs⟩
  · exact issue_rdU (m := blankMsg 0 rdU a n l.toNat) h rfl (plainRequest_blank ..) rfl
  · exact issue_wrU (m := { blankMsg 0 wrU a n l.toNat with mask := mask.toNat, data := toLine data }) h rfl
      (plainRequest_of rfl rfl (toLine_length data).le (Or.inr (Or.inl rfl))) rfl
  · obtain ⟨t, ht, hsent, hdone, hep, hline⟩ := issue_atomU
      (m := { blankMsg 0 atomU a n l.toNat with idx := idx.val, atop := op, operand := operand, cmp := cmp }) h rfl
      (plainRequest_of rfl rfl (Nat.zero_le _) (Or.inl rfl)) rfl idx.isLt hgood
    exact ⟨t, ht, hsent, hdone, hep, fun _ => hline⟩
  · rw [hac] at h ⊢
    refine ⟨fun hlen hno hline hpace fetch pc => ?_, fun epoch => ⟨fun hne => ?_, fun he => ?_⟩, ?_, ?_, ?_, fun e rest hcloak hel hed hdecl hst hpulses hep => ?_⟩
    · obtain ⟨t, ht, hs⟩ := issue_rdT_noted h hlen hno hline hpace fetch pc
      exact ⟨t, ht, hs⟩
    · exact issue_promote_fails (m := { blankMsg 0 promote c n l.toNat with epoch := epoch.toNat }) h rfl
        (plainRequest_of rfl rfl (Nat.zero_le _) (Or.inl rfl)) rfl ((Nat.mod_eq_of_lt epoch.isLt).trans_ne hne)
    · exact issue_promote_holds (m := { blankMsg 0 promote c n l.toNat with epoch := epoch.toNat }) h rfl
        (plainRequest_of rfl rfl (Nat.zero_le _) (Or.inl rfl)) rfl (hac ▸ ha) ((Nat.mod_eq_of_lt epoch.isLt).trans he)
    · obtain ⟨t, ht, hs⟩ := issue_cmo (m := blankMsg 0 cmoClean c n l.toNat) h rfl (plainRequest_blank ..) (show 10 ≤ cmoClean ∧ cmoClean < 13 by decide)
      exact ⟨t, (cmoReq_stage h.ready.there ..).trans ht, hs⟩
    · obtain ⟨t, ht, hs⟩ := issue_cmo (m := blankMsg 0 cmoClinv c n l.toNat) h rfl (plainRequest_blank ..) (show 10 ≤ cmoClinv ∧ cmoClinv < 13 by decide)
      exact ⟨t, (cmoReq_stage h.ready.there ..).trans ht, hs⟩
    · obtain ⟨t, ht, hs⟩ := issue_cmo (m := blankMsg 0 cmoInv c n l.toNat) h rfl (plainRequest_blank ..) (show 10 ≤ cmoInv ∧ cmoInv < 13 by decide)
      exact ⟨t, (cmoReq_stage h.ready.there ..).trans ht, hs⟩
    · obtain ⟨t, ht, hsent, hdone, -⟩ := issue_promote_fails (m := { blankMsg 0 promote c n l.toNat with epoch := e.epoch }) h rfl
        (plainRequest_of rfl rfl (Nat.zero_le _) (Or.inl rfl)) rfl hep
      exact ⟨t, (promotion_sent h.linked.flaws hcloak hel hed hdecl hst hpulses).trans ht, hsent, hdone⟩

end Sys2Proof.Machine
end

section
/-!
SUPPORT. A software write field by field (R18, R25, R695, R696): the fields of a register lie apart, so each takes what its own access code says, and a
reserved value is captured.
-/
set_option linter.constructorNameAsVariable false

namespace Sys2Proof.Machine

/-! ### Fields that lie apart -/

/-- Two fields share no bit. -/
def Fld.apart (f g : Fld) : Bool := decide (f.hi < g.lo) || decide (g.hi < f.lo)

/-- Each field lies within the word, and no two share a bit. -/
def fieldsSound : List Fld → Bool
  | [] => true
  | f :: l => decide (f.lo ≤ f.hi) && decide (f.hi < 40) && l.all f.apart && fieldsSound l

theorem blocks_sound : blocks.all (fun b => b.rows.all (fun r => fieldsSound r.fields)) = true := by decide +kernel

theorem blkAt_mem {a n o : Nat} {b : Blk} : ∀ {l : List Blk}, blkAt a l = some (b, n, o) → b ∈ l
  | x :: l, h => by
    rw [blkAt] at h
    split at h
    · obtain ⟨rfl, -⟩ := Prod.mk.inj (Option.some.inj h); exact List.mem_cons_self ..
    · exact List.mem_cons_of_mem _ (blkAt_mem h)

theorem rowAt_mem {o k : Nat} {r : RegRow} : ∀ {l : List RegRow}, rowAt o l = some (r, k) → r ∈ l
  | x :: l, h => by
    rw [rowAt] at h
    split at h
    · obtain ⟨rfl, -⟩ := Prod.mk.inj (Option.some.inj h); exact List.mem_cons_self ..
    · exact List.mem_cons_of_mem _ (rowAt_mem h)

theorem regAt_mem {a n k : Nat} {r : RegRow} (h : regAt a = some (r, n, k)) : ∃ b, b ∈ blocks ∧ r ∈ b.rows := by
  unfold regAt at h
  cases hb : blkAt a blocks with
  | none => simp [hb] at h
  | some x =>
    obtain ⟨b, m, o⟩ := x
    cases hr : rowAt o b.rows with
    | none => simp [hb, hr] at h
    | some y =>
      obtain ⟨r', k'⟩ := y
      obtain rfl : r' = r := by simp [hb, hr] at h; exact h.1
      exact ⟨b, blkAt_mem hb, rowAt_mem hr⟩

/-- The fields of every register lie within the word and apart. -/
theorem fieldsAt_sound (a : Nat) : fieldsSound (fieldsAt a) = true := by
  unfold fieldsAt
  cases h : regAt a with
  | none => rfl
  | some x =>
    obtain ⟨r, n, k⟩ := x
    obtain ⟨b, hb, hr⟩ := regAt_mem h
    dsimp only
    split
    · decide
    · exact List.all_eq_true.1 (List.all_eq_true.1 blocks_sound b hb) r hr

/-! ### One field of a store -/

/-- Two words agree on the bits of field f. -/
def SameField (f : Fld) (x y : Word) : Prop := ∀ j, f.lo ≤ j → j ≤ f.hi → x.getLsbD j = y.getLsbD j

theorem SameField.trans {f : Fld} {x y z : Word} (h : SameField f x y) (g : SameField f y z) : SameField f x z :=
  fun j h1 h2 => (h j h1 h2).trans (g j h1 h2)

theorem SameField.fget {f : Fld} {x y : Word} (h : SameField f x y) (hf : f.lo ≤ f.hi) : fget x f.hi f.lo = fget y f.hi f.lo := by
  apply Nat.eq_of_testBit_eq
  intro i
  rw [fget_testBit, fget_testBit]
  by_cases hi : i ≤ f.hi - f.lo
  · rw [h (f.lo + i) (by omega) (by omega)]
  · simp [hi]

theorem SameField.fset {f g : Fld} (hg : g.lo ≤ g.hi) (hg40 : g.hi < 40) (hapart : f.apart g = true) (w : Word) (v : Nat) :
    SameField f (fset w g.hi g.lo v) w := by
  intro j h1 h2
  rw [fset_bit w g.hi g.lo v j hg hg40, if_neg]
  simp only [Fld.apart, Bool.or_eq_true, decide_eq_true_eq] at hapart
  omega

/-- What a store of wr makes of a field whose register reads w (R18). -/
def fieldTaken (a : Nat) (isSealed : Bool) (w wr : Word) (f : Fld) : Nat :=
  let new := if fieldOk a f (fget wr f.hi f.lo) then fget wr f.hi f.lo else fget w f.hi f.lo
  match f.acc with
  | .ro => fget w f.hi f.lo
  | .wo => fget w f.hi f.lo
  | .rw => new
  | .lk => if isSealed then fget w f.hi f.lo else new
  | .w1c => fget (w &&& ~~~ wr) f.hi f.lo
  | .w1s => fget (w ||| wr) f.hi f.lo

/-- The field takes writes, and wr would give it a reserved value (R695). -/
def fieldReserved (a : Nat) (isSealed : Bool) (wr : Word) (f : Fld) : Bool :=
  (decide (f.acc = .rw) || (decide (f.acc = .lk) && !isSealed)) && !fieldOk a f (fget wr f.hi f.lo)

section
variable {a : Nat} {isSealed : Bool} {wr : Word} {f : Fld} (hlo : f.lo ≤ f.hi) (h40 : f.hi < 40)
include hlo h40

theorem fget_fset_fget (w x : Word) : fget (fset w f.hi f.lo (fget x f.hi f.lo)) f.hi f.lo = fget x f.hi f.lo := by
  rw [fget_fset_self _ _ _ _ hlo h40, Nat.mod_eq_of_lt (fget_lt ..)]

/-- The field itself. -/
theorem writeFld_self (p : Word × Bool) : fget (writeFld a isSealed wr f p).1 f.hi f.lo = fieldTaken a isSealed p.1 wr f := by
  unfold writeFld fieldTaken
  cases f.acc with
  | ro => rfl
  | wo => rfl
  | rw => dsimp only; split <;> simp only [fget_fset_fget hlo h40]
  | lk => dsimp only; split_ifs <;> simp only [fget_fset_fget hlo h40]
  | w1c => exact fget_fset_fget hlo h40 ..
  | w1s => exact fget_fset_fget hlo h40 ..

/-- A field apart from it. -/
theorem writeFld_other {g : Fld} (hapart : g.apart f = true) (p : Word × Bool) : SameField g (writeFld a isSealed wr f p).1 p.1 := by
  have hset := SameField.fset hlo h40 hapart p.1
  have hsame : SameField g p.1 p.1 := fun _ _ _ => rfl
  unfold writeFld
  cases f.acc with
  | ro => exact hsame
  | wo => exact hsame
  | rw => dsimp only; split; exacts [hset _, hsame]
  | lk => dsimp only; split_ifs; exacts [hsame, hset _, hsame]
  | w1c => exact hset _
  | w1s => exact hset _

end

theorem writeFld_reserved (a : Nat) (isSealed : Bool) (wr : Word) (f : Fld) (p : Word × Bool) :
    (writeFld a isSealed wr f p).2 = (p.2 || fieldReserved a isSealed wr f) := by
  unfold writeFld fieldReserved
  cases hacc : f.acc with
  | rw => cases hok : fieldOk a f (fget wr f.hi f.lo) <;> simp [hok]
  | lk => cases hok : fieldOk a f (fget wr f.hi f.lo) <;> cases isSealed <;> simp [hok]
  | _ => simp

theorem fieldTaken_congr {a : Nat} {isSealed : Bool} {x y wr : Word} {f : Fld} (hlo : f.lo ≤ f.hi) (h : SameField f x y) :
    fieldTaken a isSealed x wr f = fieldTaken a isSealed y wr f := by
  have hclear : fget (x &&& ~~~ wr) f.hi f.lo = fget (y &&& ~~~ wr) f.hi f.lo :=
    SameField.fget (f := f) (fun j h1 h2 => by rw [BitVec.getLsbD_and, BitVec.getLsbD_and, h j h1 h2]) hlo
  have hset : fget (x ||| wr) f.hi f.lo = fget (y ||| wr) f.hi f.lo :=
    SameField.fget (f := f) (fun j h1 h2 => by rw [BitVec.getLsbD_or, BitVec.getLsbD_or, h j h1 h2]) hlo
  simp only [fieldTaken, h.fget hlo, hclear, hset]

/-! ### Every field of a store (R25) -/

theorem Fld.apart_comm (f g : Fld) : f.apart g = g.apart f := by simp only [Fld.apart, Bool.or_comm]

theorem fieldsSound_cons {f : Fld} {l : List Fld} (h : fieldsSound (f :: l) = true) :
    f.lo ≤ f.hi ∧ f.hi < 40 ∧ (∀ g, g ∈ l → f.apart g = true) ∧ fieldsSound l = true := by
  simp only [fieldsSound, Bool.and_eq_true, decide_eq_true_eq, List.all_eq_true] at h
  obtain ⟨⟨⟨hlo, h40⟩, hall⟩, hl⟩ := h
  exact ⟨hlo, h40, hall, hl⟩

theorem fieldsSound_of_mem {f : Fld} : ∀ {l : List Fld}, fieldsSound l = true → f ∈ l → f.lo ≤ f.hi ∧ f.hi < 40
  | g :: l, h, hf => by
    obtain ⟨hlo, h40, -, hl⟩ := fieldsSound_cons h
    rcases List.mem_cons.1 hf with rfl | hf
    · exact ⟨hlo, h40⟩
    · exact fieldsSound_of_mem hl hf

theorem writeFlds_apart {a : Nat} {isSealed : Bool} {wr : Word} {g : Fld} : ∀ {l : List Fld} (_ : fieldsSound l = true)
    (_ : ∀ f, f ∈ l → g.apart f = true) (p : Word × Bool), SameField g (writeFlds a isSealed wr l p).1 p.1
  | [], _, _, _ => fun _ _ _ => rfl
  | f :: l, h, hg, p => by
    obtain ⟨hlo, h40, -, hl⟩ := fieldsSound_cons h
    exact (writeFlds_apart hl (fun x hx => hg x (List.mem_cons_of_mem _ hx)) _).trans (writeFld_other hlo h40 (hg f (List.mem_cons_self ..)) p)

theorem writeFlds_fld {a : Nat} {isSealed : Bool} {wr : Word} {f : Fld} : ∀ {l : List Fld} (_ : fieldsSound l = true) (_ : f ∈ l) (p : Word × Bool),
    fget (writeFlds a isSealed wr l p).1 f.hi f.lo = fieldTaken a isSealed p.1 wr f
  | g :: l, h, hf, p => by
    obtain ⟨hlo, h40, hall, hl⟩ := fieldsSound_cons h
    rcases List.mem_cons.1 hf with rfl | hf
    · rw [writeFlds, (writeFlds_apart hl hall _).fget hlo, writeFld_self hlo h40]
    · have hlo' := (fieldsSound_of_mem hl hf).1
      rw [writeFlds, writeFlds_fld hl hf, fieldTaken_congr hlo' (writeFld_other hlo h40 (f.apart_comm g ▸ hall f hf) p)]

theorem writeFlds_reserved (a : Nat) (isSealed : Bool) (wr : Word) : ∀ (l : List Fld) (p : Word × Bool),
    (writeFlds a isSealed wr l p).2 = (p.2 || l.any (fieldReserved a isSealed wr))
  | [], p => by simp [writeFlds]
  | f :: l, p => by rw [writeFlds, writeFlds_reserved a isSealed wr l, writeFld_reserved, List.any_cons, Bool.or_assoc]

/-! ### A register written -/

/-- The store holds a reserved value for a field of the register (R695). -/
def storeReserved (a : Nat) (v : Word) (s : State) : Bool := (fieldsAt a).any (fieldReserved a s.isSealed v)

/-- The register as the store leaves it. -/
def storedWord (a : Nat) (v : Word) (s : State) : Word := (writeFlds a s.isSealed v (fieldsAt a) (s.reg a, false)).1

theorem writeReg_eq (ep a : Nat) (v : Word) (s : State) :
    writeReg ep a v s = if storeReserved a v s then captureRsvd ep a v (s.setReg a (storedWord a v s)) else s.setReg a (storedWord a v s) := by
  have hall : (fieldsAt a).filter (fun _ => true) = fieldsAt a := List.filter_eq_self.2 (fun _ _ => rfl)
  simp only [writeReg, writeRegIf, hall, writeFlds_reserved, Bool.false_or]
  rfl

theorem writeReg_reg_self {a : Nat} (h : a ∉ rsvdRegs) (ep : Nat) (v : Word) (s : State) : (writeReg ep a v s).reg a = storedWord a v s := by
  rw [writeReg_eq]
  split
  · rw [captureRsvd_reg h, reg_setReg_self]
  · exact reg_setReg_self ..

theorem fieldTaken_eq (s : State) (a : Nat) (f : Fld) (v : Word) : fieldTaken a s.isSealed (s.reg a) v f = writtenField s a f v := by
  unfold fieldTaken writtenField
  cases f.acc <;> rfl

/-- Each field of a register that is written takes what its access code says (R18, R28, R695). -/
theorem writeReg_fld {a : Nat} (h : a ∉ rsvdRegs) {f : Fld} (hf : f ∈ fieldsAt a) (ep : Nat) (v : Word) (s : State) :
    (writeReg ep a v s).fld a f.hi f.lo = writtenField s a f v := by
  rw [State.fld, writeReg_reg_self h, storedWord, writeFlds_fld (fieldsAt_sound a) hf, fieldTaken_eq]

theorem storeReserved_iff (a : Nat) (v : Word) (s : State) : storeReserved a v s = true ↔ reservedWrite s a v := by
  simp only [storeReserved, List.any_eq_true, fieldReserved, reservedWrite, Bool.and_eq_true, Bool.or_eq_true, decide_eq_true_eq, Bool.not_eq_true']

theorem writeReg_accepted {a : Nat} {v : Word} {s : State} (h : ¬ reservedWrite s a v) (ep : Nat) : writeReg ep a v s = s.setReg a (storedWord a v s) := by
  rw [writeReg_eq, if_neg (fun hr => h ((storeReserved_iff a v s).1 hr))]

theorem writeReg_captured {a : Nat} {v : Word} {s : State} (h : reservedWrite s a v) (ep : Nat) :
    writeReg ep a v s = captureRsvd ep a v (s.setReg a (storedWord a v s)) := by
  rw [writeReg_eq, if_pos ((storeReserved_iff a v s).2 h)]

theorem captureRsvd_count (ep a : Nat) (v : Word) (s : State) : (captureRsvd ep a v s).reg Reg.SYS_RSVD_CNT = s.reg Reg.SYS_RSVD_CNT + 1 := by
  unfold captureRsvd
  dsimp only
  split
  · rw [reg_setBit_ne (by decide), reg_inc_self]
  · rw [reg_setReg_ne (by decide), reg_setReg_ne (by decide), reg_setBit_ne (by decide), reg_inc_self]

/-- The first capture is kept until it is cleared (R696). -/
theorem captureRsvd_first {s : State} (h : s.bit Reg.SYS_STATUS 0 = false) (ep a : Nat) (v : Word) :
    (captureRsvd ep a v s).bit Reg.SYS_STATUS 0 = true ∧ (captureRsvd ep a v s).reg Reg.SYS_RSVD_ADDR = BitVec.ofNat 40 (ep * 2 ^ 34 + a) ∧
      (captureRsvd ep a v s).reg Reg.SYS_RSVD_DATA = v := by
  have hbit : (s.inc Reg.SYS_RSVD_CNT).bit Reg.SYS_STATUS 0 = false := by rw [State.bit, reg_inc_ne (by decide)]; exact h
  simp only [captureRsvd, hbit, Bool.false_eq_true, if_false]
  refine ⟨?_, ?_, reg_setReg_self ..⟩
  · rw [State.bit, reg_setReg_ne (by decide), reg_setReg_ne (by decide), reg_setBit_self, bset_bit _ _ _ _ (by decide), if_pos rfl]
  · rw [reg_setReg_ne (by decide), reg_setReg_self]

theorem captureRsvd_more {s : State} (h : s.bit Reg.SYS_STATUS 0 = true) (ep a : Nat) (v : Word) :
    (captureRsvd ep a v s).bit Reg.SYS_STATUS 0 = true ∧ (captureRsvd ep a v s).bit Reg.SYS_STATUS 1 = true ∧
      (captureRsvd ep a v s).reg Reg.SYS_RSVD_ADDR = s.reg Reg.SYS_RSVD_ADDR ∧ (captureRsvd ep a v s).reg Reg.SYS_RSVD_DATA = s.reg Reg.SYS_RSVD_DATA := by
  have hbit : (s.inc Reg.SYS_RSVD_CNT).bit Reg.SYS_STATUS 0 = true := by rw [State.bit, reg_inc_ne (by decide)]; exact h
  simp only [captureRsvd, hbit, if_true]
  refine ⟨?_, ?_, ?_, ?_⟩
  · rw [State.bit, reg_setBit_self, bset_bit _ _ _ _ (by decide), if_neg (by decide)]; exact hbit
  · rw [State.bit, reg_setBit_self, bset_bit _ _ _ _ (by decide), if_pos rfl]
  · rw [reg_setBit_ne (by decide), reg_inc_ne (by decide)]
  · rw [reg_setBit_ne (by decide), reg_inc_ne (by decide)]

end Sys2Proof.Machine
end

section
/-!
SUPPORT. Writes of plain registers, of a running core's page and of empty addresses (R18, R28, R83, R105, R695-R697).
-/
set_option linter.constructorNameAsVariable false

namespace Sys2Proof.Machine

/-! ### The end of an access -/

/-- The state in which a command ends that answers an access and leaves u. -/
def accessEnd (ep : Nat) (st : FStatus) (u : State) : State := latched (complete ep st [] u)

@[simp] theorem accessEnd_reg (ep : Nat) (st : FStatus) (u : State) (a : Nat) : (accessEnd ep st u).reg a = u.reg a := rfl
@[simp] theorem accessEnd_fld (ep : Nat) (st : FStatus) (u : State) (a hi lo : Nat) : (accessEnd ep st u).fld a hi lo = u.fld a hi lo := rfl
@[simp] theorem accessEnd_bit (ep : Nat) (st : FStatus) (u : State) (a k : Nat) : (accessEnd ep st u).bit a k = u.bit a k := rfl
@[simp] theorem accessEnd_cores (ep : Nat) (st : FStatus) (u : State) : (accessEnd ep st u).cores = u.cores := rfl
@[simp] theorem accessEnd_resp (ep : Nat) (st : FStatus) (u : State) : (accessEnd ep st u).resp = ⟨ep, st, []⟩ := rfl
theorem accessEnd_memory (ep : Nat) (st : FStatus) (u : State) : SameMemory u (accessEnd ep st u) := ⟨rfl, rfl, rfl, rfl, rfl, rfl⟩

theorem writeReg_regsBut (ep a : Nat) (v : Word) (s : State) : RegsBut (a :: rsvdRegs) s (writeReg ep a v s) :=
  ListedBut.regsBut (fun b hb => writeReg_listedBut ep a v s b hb)

/-- What a register write leaves of cores and memory, and its answer. -/
theorem took_of_regsOnly {i : Initiator} {l : List Nat} {s u : State} (honly : RegsOnly s u) (hregs : RegsBut l s u) : Took i l s (accessEnd i.ep .ok u) :=
  ⟨rfl, fun a ha => (accessEnd_reg ..).trans (hregs a ha), (accessEnd_cores ..).trans honly.cores, honly.memory.trans (accessEnd_memory ..)⟩

/-! ### Which page an address is on -/

theorem regPage_le {a k : Nat} (h : regPage a = k) (hk : 0 < k) : 0x200000 + 0x1000 * k ≤ a ∧ a < 0x200000 + 0x1000 * k + 0x1000 := by
  unfold regPage at h; omega

/-- An address on an assigned page. -/
theorem regionAt_page {a : Nat} (s : State) (h0 : 0 < regPage a) (h : regPage a < 0x200) (hp : pageAssigned (regPage a) = true) : regionAt s a = some .regs := by
  obtain ⟨h1, h2⟩ := regPage_le rfl h0
  exact regionAt_regs (by omega) (by omega) hp

/-- Outside the function pages a write of a register is its page's. -/
theorem regAccess_write {a : Nat} (hfn : regPage a < 0x40 ∨ 0x50 ≤ regPage a) (hreg : (regAt a).isSome = true) (ep pl : Nat) (v : Word) (s : State) :
    regAccess ep pl a (some v) s = pageWrite ep pl a v s := by
  have hpage : (decide (0x40 ≤ regPage a) && decide (regPage a < 0x50)) = false := by simp; omega
  have hnone : (regAt a).isNone = false := Option.isNone_eq_false_iff.2 hreg
  unfold regAccess
  simp only [hpage, hnone, Bool.false_eq_true, if_false]

theorem regAccess_empty {a : Nat} (hfn : regPage a < 0x40 ∨ 0x50 ≤ regPage a) (hreg : regAt a = none) (ep pl : Nat) (v : Word) (s : State) :
    regAccess ep pl a (some v) s = .done .decode 0 (logErr (blkOfPage (regPage a)) 0x08 0 (nw a) (nw ep) s) := by
  have hpage : (decide (0x40 ≤ regPage a) && decide (regPage a < 0x50)) = false := by simp; omega
  unfold regAccess
  simp only [hpage, hreg, Option.isNone_none, if_true, Bool.false_eq_true, if_false]

/-! ### Plain registers -/

theorem plainReg_page {a : Nat} (h : plainReg a = true) : (regAt a).isSome = true ∧
    (regPage a = 1 ∨ regPage a = 0x20 ∨ regPage a = 0x21 ∨ regPage a = 0x2a) := by
  simp only [plainReg, Bool.and_eq_true, Bool.or_eq_true, bne_iff_ne, beq_iff_eq] at h
  exact ⟨h.1, by omega⟩

theorem plRefused_top (a : Nat) : plRefused 3 a = false := by simp [plRefused]

theorem pageWrite_plain {a : Nat} (h : plainReg a = true) (ep : Nat) (v : Word) (s : State) : pageWrite ep 3 a v s = fine (writeReg ep a v s) := by
  simp only [plainReg, Bool.and_eq_true, Bool.or_eq_true, bne_iff_ne, beq_iff_eq] at h
  obtain ⟨-, (⟨⟨⟨⟨hp, h1⟩, h2⟩, h3⟩, h4⟩ | ⟨hp, h1⟩) | ⟨hp, h1⟩⟩ := h
  · simp [pageWrite, plRefused_top, hp, bsqWrite, h1, h2, h3, h4]
  · rcases hp with hp | hp <;> simp [pageWrite, plRefused_top, hp, h1]
  · have hrt : a ≠ Reg.FAB_RT_DATA := fun e => by rw [e] at hp; exact absurd hp (by decide)
    simp [pageWrite, plRefused_top, hp, h1, hrt]

theorem plainReg_not_rsvd {a : Nat} (h : plainReg a = true) : a ∉ rsvdRegs := by
  have hp := (plainReg_page h).2
  unfold regPage at hp
  simp only [rsvdRegs, Reg.SYS_STATUS, Reg.SYS_RSVD_ADDR, Reg.SYS_RSVD_DATA, Reg.SYS_RSVD_CNT, List.mem_cons, List.not_mem_nil, or_false, not_or]
  omega

section
variable {i : Initiator} {a : Fin 17179869184} {v : Word} {s : State}

/-- A write of a plain register ends with the register file as its fields make it. -/
theorem registerWrite_plain (h : Reaches a s) (hplain : plainReg a = true) (hpl : initPl i = 3) :
    exec (.registerWrite i a v) s = .next (accessEnd i.ep .ok (writeReg i.ep a v s)) := by
  obtain ⟨hreg, hpage⟩ := plainReg_page hplain
  have hregion : regionAt s a = some .regs := by
    rcases hpage with e | e | e | e <;> exact regionAt_page s (by omega) (by omega) (by rw [e]; decide)
  have haccess : regAccess i.ep (initPl i) a (some v) s = .done .ok 0 (writeReg i.ep a v s) := by
    rw [regAccess_write (by omega) hreg, hpl, pageWrite_plain hplain, fine]
  exact okSettled_regCmd h hregion haccess (h.calm.regsOnly (writeReg_only ..))

/-- A store to the page of a core that runs is refused (R105). -/
theorem registerWrite_running (h : Reaches a s) {c o : Nat} (hc : c < 8) (ho : o < 0x80) (ha : a.val = corePage c + o) (hreg : (regAt a).isSome = true)
    (hrun : s.stopped c = false) : exec (.registerWrite i a v) s = .next (accessEnd i.ep .prot s) := by
  have hpage : regPage a = 8 + c := by unfold regPage; rw [ha, corePage]; omega
  have hassigned : pageAssigned (8 + c) = true := by simp [pageAssigned]; omega
  have hrefused : plRefused (initPl i) a = false := by
    obtain ⟨habove, -⟩ := regPage_le hpage (by omega)
    have hcore : ¬ a.val < Reg.BSQ_CORE_ENTRY 8 ∧ a.val ≠ Reg.BSQ_CORE_CTL ∧ ¬ a.val < Reg.PWR_DOM 21 := by
      simp only [Reg.BSQ_CORE_CTL, Reg.BSQ_CORE_ENTRY, Reg.PWR_DOM]; omega
    simp [plRefused, hcore]
  have haccess : regAccess i.ep (initPl i) a (some v) s = .done .prot 0 s := by
    rw [regAccess_write (by omega) hreg, pageWrite, hpage, hrefused]
    simp [show ¬ 8 + c = 1 by omega, show ¬ 8 + c = 2 by omega, show ¬ 8 + c = 3 by omega, show ¬ 8 + c < 8 by omega,
      show 8 + c < 16 by omega, corePageStore, hrun]
  exact okSettled_regCmd h (regionAt_page s (by omega) (by omega) (hpage ▸ hassigned)) haccess h.calm

theorem logErr_change (blk : BlkId) (kind unit : Nat) (addr info : Word) (s : State) : LogChange [Reg.SYS_ERRLOG_LOST_CNT] s (logErr blk kind unit addr info s) := by
  unfold logErr
  split
  · exact (LogChange.refl _ s).inc (by simp)
  · exact (LogChange.refl _ s).withLog _

/-- An address without a register answers DECODE (R83). -/
theorem registerWrite_empty (h : Reaches a s) (hregion : regionAt s a = some .regs) (hfn : regPage a < 0x40 ∨ 0x50 ≤ regPage a) (hreg : regAt a = none) :
    exec (.registerWrite i a v) s = .next (accessEnd i.ep .decode (logErr (blkOfPage (regPage a)) 0x08 0 (nw a) (nw i.ep) s)) := by
  have hlog := logErr_change (blkOfPage (regPage a)) 0x08 0 (nw a) (nw i.ep) s
  exact okSettled_regCmd h hregion (regAccess_empty hfn hreg ..) (h.calm.logOnly hlog.only (hlog.drained h.calm.sources))

end

/-- Settles O57: a plain register's fields take what their codes say; the page of a running core and an empty address answer without an effect on a register. -/
theorem registerWrites : Obligations.RegisterWrites := by
  intro i a v s h
  refine ⟨fun hplain hpl => ?_, fun hplain hpl hno => ?_, fun hplain hpl hr => ?_, fun c o hc ho ha hreg hrun => ?_, fun hregion hfn hreg => ?_⟩
  · refine ⟨_, registerWrite_plain h hplain hpl, took_of_regsOnly (writeReg_only ..) (writeReg_regsBut i.ep a v s), fun f hf => ?_⟩
    rw [accessEnd_fld]
    exact writeReg_fld (plainReg_not_rsvd hplain) hf ..
  · have hregs : RegsBut [a.val] s (writeReg i.ep a v s) := by
      rw [writeReg_accepted hno]
      exact fun b hb => reg_setReg_ne (List.ne_of_not_mem_cons hb) ..
    exact ⟨_, registerWrite_plain h hplain hpl, took_of_regsOnly (writeReg_only ..) hregs⟩
  · refine ⟨_, registerWrite_plain h hplain hpl, ?_⟩
    have ha := plainReg_not_rsvd hplain
    simp only [rsvdRegs, List.mem_cons, List.not_mem_nil, or_false, not_or] at ha
    obtain ⟨hstatus, haddr, hdata, hcnt⟩ := ha
    have hkeep : ∀ b, b ≠ a.val → (s.setReg a (storedWord a v s)).reg b = s.reg b := fun b hb => reg_setReg_ne hb ..
    have hbit : (s.setReg a (storedWord a v s)).bit Reg.SYS_STATUS 0 = s.bit Reg.SYS_STATUS 0 := by rw [State.bit, hkeep _ (Ne.symm hstatus), State.bit]
    rw [writeReg_captured hr]
    simp only [accessEnd_reg, accessEnd_bit]
    refine ⟨(captureRsvd_count ..).trans (by rw [hkeep _ (Ne.symm hcnt)]), ?_, fun h0 => ?_, fun h1 => ?_⟩
    · cases h0 : s.bit Reg.SYS_STATUS 0 with
      | false => exact (captureRsvd_first (hbit.trans h0) ..).1
      | true => exact (captureRsvd_more (hbit.trans h0) ..).1
    · exact (captureRsvd_first (hbit.trans h0) ..).2
    · obtain ⟨-, hmore, ha, hd⟩ := captureRsvd_more (hbit.trans h1) i.ep a v
      exact ⟨hmore, ha.trans (hkeep _ (Ne.symm haddr)), hd.trans (hkeep _ (Ne.symm hdata))⟩
  · exact ⟨_, registerWrite_running h hc ho ha hreg hrun, accessEnd_resp .., ⟨fun _ _ => accessEnd_reg .., accessEnd_cores .., accessEnd_memory ..⟩⟩
  · have hlog := logErr_change (blkOfPage (regPage a)) 0x08 0 (nw a) (nw i.ep) s
    exact ⟨_, registerWrite_empty h hregion hfn hreg, accessEnd_resp .., fun b hb => (accessEnd_reg ..).trans (hlog.regs b hb),
      (accessEnd_cores ..).trans hlog.only.cores, hlog.only.memory.trans (accessEnd_memory ..)⟩

end Sys2Proof.Machine
end

section
/-!
SUPPORT. Assertions and the configuration of event sources (R303, R304, R312, R328): the event unit latches or counts an assertion, and a
configuration word leaves what is pending and in service.
-/
set_option linter.constructorNameAsVariable false

namespace Sys2Proof.Machine

/-! ### What the event unit does at once -/

/-- The state with what the quiet-deadlock detector remembers changed. -/
def quieted (q : Bool) (s : State) : State := { s with eiu := { s.eiu with quietHeld := q } }

@[simp] theorem quieted_reg (q : Bool) (s : State) (a : Nat) : (quieted q s).reg a = s.reg a := rfl
@[simp] theorem quieted_fld (q : Bool) (s : State) (a hi lo : Nat) : (quieted q s).fld a hi lo = s.fld a hi lo := rfl
@[simp] theorem quieted_pendOf (q : Bool) (s : State) (k : Nat) : (quieted q s).pendOf k = s.pendOf k := rfl
@[simp] theorem quieted_insvc (q : Bool) (s : State) : (quieted q s).eiu.insvc = s.eiu.insvc := rfl
@[simp] theorem accessEnd_insvc (ep : Nat) (st : FStatus) (u : State) : (accessEnd ep st u).eiu.insvc = u.eiu.insvc := rfl

theorem quieted_events {s t : State} (h : EventsOnly s t) (q : Bool) : EventsOnly s (quieted q t) := by rw [h]; rfl
theorem quieted_drained {s : State} (h : Drained s) (q : Bool) : Drained (quieted q s) := h
theorem quieted_self (s : State) : quieted s.eiu.quietHeld s = s := rfl

theorem EventsOnly.cores {s t : State} (h : EventsOnly s t) : t.cores = s.cores := by rw [h]
theorem EventsOnly.memory {s t : State} (h : EventsOnly s t) : SameMemory s t := by rw [h]; exact ⟨rfl, rfl, rfl, rfl, rfl, rfl⟩

theorem raise_drained {s : State} (h : Drained s) (k : Nat) : ∃ q, raise k s = quieted q (latchSource k s) := by
  unfold raise
  rw [assertSource_drained h]
  dsimp only
  split
  · exact ⟨_, (quieted_self _).symm⟩
  · exact ⟨_, rfl⟩

theorem latchSource_regsBut (k : Nat) (s : State) : RegsBut [Reg.EIU_SRC_CNT k] s (latchSource k s) :=
  fun _ ha => latchSource_reg (List.ne_of_not_mem_cons ha) s

theorem latchSource_asserted {k : Nat} (hk : k < 256) (s : State) : AssertedOnce k s (latchSource k s) := by
  unfold latchSource AssertedOnce
  by_cases hp : s.pendOf k = true
  · rw [if_pos hp, if_pos hp]; exact ⟨hp, reg_inc_self ..⟩
  · rw [if_neg hp, if_neg hp]
    refine ⟨?_, rfl⟩
    show (set256 k true s.eiu.pend).getLsbD k = true
    rw [set256_true_getLsbD _ hk, decide_eq_true rfl, Bool.or_true]

/-! ### What a command's end latches -/

theorem queuedPend_keeps {s : State} {k : Nat} (h : s.pendOf k = true) : (queuedPend s).getLsbD k = true := by
  have hlevel : (levelPend s).getLsbD k = true :=
    foldl_sets _ _ (fun p j hp => by
      split
      · exact set256_keeps hp
      · exact hp) _ h
  exact foldl_sets _ _ (fun p j => set256_keeps) _ hlevel

theorem latched_keeps {s : State} {k : Nat} (h : s.pendOf k = true) : (latched s).pendOf k = true := queuedPend_keeps h

theorem accessEnd_keeps {s : State} {k : Nat} (h : s.pendOf k = true) (ep : Nat) (st : FStatus) : (accessEnd ep st s).pendOf k = true :=
  latched_keeps (s := complete ep st [] s) h

theorem AssertedOnce.latched {k : Nat} {s t : State} (h : AssertedOnce k s t) : AssertedOnce k s (latched t) := ⟨latched_keeps h.1, h.2⟩

theorem foldl_set256_other {m : Nat} (hm : m < 256) (c : Nat → Bool) : ∀ (l : List Nat) (p : BitVec 256), m ∉ l →
    (l.foldl (fun p k => if c k then set256 k true p else p) p).getLsbD m = p.getLsbD m
  | [], _, _ => rfl
  | k :: l, p, h => by
    obtain ⟨hk, hl⟩ : m ≠ k ∧ m ∉ l := by simpa using h
    rw [List.foldl_cons, foldl_set256_other hm c l _ hl]
    split
    · rw [set256_true_getLsbD _ hm, decide_eq_false hk, Bool.or_false]
    · rfl

/-- Where nothing waits, only level sources become pending at a command's end. -/
theorem latched_pendOf {s : State} (h : Drained s) {m : Nat} (hm : m ∉ levelSources) : (latched s).pendOf m = s.pendOf m := by
  by_cases h256 : m < 256
  · show (queuedPend s).getLsbD m = _
    obtain ⟨hinq, howed⟩ := h
    rw [queuedPend, hinq, howed]
    exact foldl_set256_other h256 (fun k => levelOn s k && !inService s k) levelSources s.eiu.pend hm
  · rw [State.pendOf, State.pendOf, BitVec.getLsbD_of_ge _ _ (by omega), BitVec.getLsbD_of_ge _ _ (by omega)]

/-! ### Configuration words -/

theorem eiuWrite_config {a : Nat} {s : State} (hf : s.flaws = []) (ha : a ≠ Reg.EIU_SWEV_TRIG) (ep : Nat) (v : Word) :
    ∃ q, eiuWrite ep a v s = quieted q (writeReg ep a v s) := by
  have hheal : ∀ k, heal (.eiu k) s = s := fun k => by
    unfold heal; rw [hf]
    show { s with flaws := [] } = s
    rw [← hf]
  simp only [eiuWrite, if_neg ha, hheal, ite_self]
  split_ifs
  · exact ⟨_, (quieted_self _).symm⟩
  · exact ⟨_, rfl⟩
  · exact ⟨_, rfl⟩

theorem pageWrite_eiu {a : Nat} (h1 : 0x204000 ≤ a) (h2 : a < 0x208000) (ep pl : Nat) (v : Word) (s : State) :
    pageWrite ep pl a v s = fine (eiuWrite ep a v s) := by
  have hpage : 4 ≤ regPage a ∧ regPage a < 8 := by unfold regPage; omega
  have hpl : plRefused pl a = false := by
    have hcore : ¬ a < Reg.BSQ_CORE_ENTRY 8 ∧ a ≠ Reg.BSQ_CORE_CTL ∧ ¬ a < Reg.PWR_DOM 21 := by
      simp only [Reg.BSQ_CORE_CTL, Reg.BSQ_CORE_ENTRY, Reg.PWR_DOM]; omega
    simp [plRefused, hcore]
  simp [pageWrite, hpl, hpage, show ¬ regPage a = 0 by omega, show ¬ regPage a = 1 by omega, show ¬ regPage a = 2 by omega, show ¬ regPage a = 3 by omega]

/-- A write of a register of the event unit that changes registers and the event unit only. -/
theorem regCmd_eiu {i : Initiator} {a : Nat} {v : Word} {s u : State} (h : Reaches a s) (h1 : 0x204000 ≤ a) (h2 : a < 0x208000) (hreg : (regAt a).isSome = true)
    (hu : eiuWrite i.ep a v s = u) (honly : EventsOnly s u) (hd : Drained u) : okSettled (regCmd i a v s) = .next (accessEnd i.ep .ok u) := by
  have hpage : 4 ≤ regPage a ∧ regPage a < 8 := by unfold regPage; omega
  have hassigned : pageAssigned (regPage a) = true := by simp [pageAssigned]; omega
  have haccess : regAccess i.ep (initPl i) a (some v) s = .done .ok 0 u := by
    rw [regAccess_write (by omega) hreg, pageWrite_eiu h1 h2, fine, hu]
  exact okSettled_regCmd h (regionAt_page s (by omega) (by omega) hassigned) haccess (h.calm.logOnly honly.logOnly hd)

theorem took_of_events {i : Initiator} {l : List Nat} {s u : State} (honly : EventsOnly s u) (hregs : RegsBut l s u) : Took i l s (accessEnd i.ep .ok u) :=
  ⟨accessEnd_resp .., fun a ha => (accessEnd_reg ..).trans (hregs a ha), (accessEnd_cores ..).trans honly.cores, honly.memory.trans (accessEnd_memory ..)⟩

theorem fieldsAt_srcCfg : ∀ k : Fin 256, fieldsAt (Reg.EIU_SRC_CFG k) = [fd 23 16 "TARGETS" .rw 0, ⟨13, 12, "LEVEL", .rw, 1, .range 1 3⟩, fd 11 8 "PART" .rw 0,
    fd 6 4 "PRIORITY" .rw 0, fd 2 2 "INSVC" .ro 0, fd 1 1 "PEND" .ro 0, fd 0 0 "EN" .rw 0] := by decide +kernel

theorem fieldsAt_partCtl : ∀ k : Fin 16, fieldsAt (Reg.EIU_PART_CTL k) = [fd 3 1 "PRI_CAP" .rw 7, fd 0 0 "EN" .rw 1] := by decide +kernel

theorem regAt_of_field {a : Nat} {f : Fld} (h : f ∈ fieldsAt a) : (regAt a).isSome = true := by
  unfold fieldsAt at h
  cases hr : regAt a with
  | none => simp [hr] at h
  | some _ => rfl

/-- A field that accepts every value takes that of the word. -/
theorem writtenField_free (s : State) {a : Nat} (ha : a < Reg.SYS_PINMUX 0 ∨ Reg.SYS_PINMUX_4 < a) (hi lo : Nat) (n : String) (r : Nat) (v : Word) :
    writtenField s a (fd hi lo n .rw r) v = fget v hi lo := by
  have hpin : (decide (Reg.SYS_PINMUX 0 ≤ a) && decide (a ≤ Reg.SYS_PINMUX_4)) = false := by simp; omega
  simp [writtenField, fd, fieldOk, Chk.ok, hpin]

theorem bget_of_fget {x y : Word} {k : Nat} (h : fget x k k = fget y k k) : bget x k = bget y k := by
  have := fget_testBit x k k 0
  rw [h, fget_testBit y k k 0] at this
  simpa [bget] using this.symm

end Sys2Proof.Machine
end

section
/-!
SUPPORT. Event sources (O26).
-/
set_option linter.constructorNameAsVariable false

namespace Sys2Proof.Machine

section
variable {i : Initiator} {s : State}

/-- An assertion at a drained event unit, on its own. -/
theorem sourceAssert_raises {k : Fin 256} (hd : Drained s) (hk : sourceAssigned k = true) : ∃ t, exec (.sourceAssert k) s = .next t ∧
    AssertedOnce k s t ∧ RegsBut [Reg.EIU_SRC_CNT k] s t ∧ t.cores = s.cores ∧ SameMemory s t := by
  obtain ⟨q, hq⟩ := raise_drained hd k
  have he : exec (.sourceAssert k) s = .next (latched (quieted q (latchSource k s))) := by
    show ok _ = ok _
    rw [hk, if_pos rfl, hq]
  have honly := quieted_events (latchSource_events k s) q
  have hasserted : AssertedOnce k s (quieted q (latchSource k s)) := latchSource_asserted k.isLt s
  exact ⟨_, he, hasserted.latched, latchSource_regsBut k s, honly.cores, honly.memory.latched⟩

/-- A write of the trigger asserts the source of its event (R312). -/
theorem swevTrig_raises {e : Fin 64} (h : Reaches Reg.EIU_SWEV_TRIG s) : ∃ t, exec (.swevTrig i e) s = .next t ∧ AssertedOnce (192 + e) s t ∧
    Took i [Reg.EIU_SRC_CNT (192 + e)] s t := by
  obtain ⟨q, hq⟩ := raise_drained h.calm.sources (192 + e.val)
  have hevent : fget (nw e.val) 5 0 = e.val := by
    have he := e.isLt
    rw [fget, nw, BitVec.toNat_ofNat]; omega
  have hu : eiuWrite i.ep Reg.EIU_SWEV_TRIG (nw e.val) s = quieted q (latchSource (192 + e.val) s) := by rw [eiuWrite, if_pos rfl, hevent, hq]
  have honly := quieted_events (latchSource_events (192 + e.val) s) q
  have hasserted : AssertedOnce (192 + e) s (complete i.ep .ok [] (quieted q (latchSource (192 + e.val) s))) := latchSource_asserted (by omega) s
  exact ⟨_, regCmd_eiu h (by decide) (by decide) (by decide) hu honly (quieted_drained (latchSource_drained h.calm.sources) q), hasserted.latched,
    took_of_events honly (latchSource_regsBut _ s)⟩

/-- What a write of a configuration word leaves: its fields, and what is pending and in service. -/
theorem eiuConfig_taken {a : Nat} {v : Word} (h : Reaches a s) (h1 : 0x204000 ≤ a) (h2 : a < 0x208000) (hne : a ≠ Reg.EIU_SWEV_TRIG)
    (hreg : (regAt a).isSome = true) : ∃ t, okSettled (regCmd i a v s) = .next t ∧ Took i (a :: rsvdRegs) s t ∧ t.eiu.insvc = s.eiu.insvc ∧
      (∀ m, s.pendOf m = true → t.pendOf m = true) ∧ ∀ f, f ∈ fieldsAt a → t.fld a f.hi f.lo = writtenField s a f v := by
  obtain ⟨q, hq⟩ := eiuWrite_config h.calm.flaws hne i.ep v
  have hwrite := writeReg_only i.ep a v s
  have heiu : (writeReg i.ep a v s).eiu = s.eiu := hwrite.eiu
  have honly : EventsOnly s (quieted q (writeReg i.ep a v s)) := quieted_events (by unfold EventsOnly; rw [hwrite]) q
  have hd : Drained (quieted q (writeReg i.ep a v s)) := quieted_drained (s := writeReg i.ep a v s) (by rw [Drained, heiu]; exact h.calm.sources) q
  have hrsvd : a ∉ rsvdRegs := by
    simp only [rsvdRegs, Reg.SYS_STATUS, Reg.SYS_RSVD_ADDR, Reg.SYS_RSVD_DATA, Reg.SYS_RSVD_CNT, List.mem_cons, List.not_mem_nil, or_false, not_or]
    omega
  have hregs : RegsBut (a :: rsvdRegs) s (quieted q (writeReg i.ep a v s)) := fun b hb => (quieted_reg ..).trans (writeReg_regsBut i.ep a v s b hb)
  refine ⟨_, regCmd_eiu h h1 h2 hreg hq honly hd, took_of_events honly hregs, ?_, fun m hm => accessEnd_keeps ?_ .., fun f hf => ?_⟩
  · rw [accessEnd_insvc, quieted_insvc, heiu]
  · rw [quieted_pendOf, State.pendOf, heiu]; exact hm
  · rw [accessEnd_fld, quieted_fld]
    exact writeReg_fld hrsvd hf ..

end

/-- Settles O26: the event unit latches or counts an assertion at once; a configuration word changes its own fields. -/
theorem eventSources : Obligations.EventSources := by
  intro i k v s
  refine ⟨fun hinq howed hk => sourceAssert_raises ⟨hinq, howed⟩ hk, fun hinq howed hk => ?_, fun e h => swevTrig_raises h, fun h => ?_, fun h => ?_⟩
  · have he : exec (.sourceAssert k) s = .next (latched s) := by
      show ok _ = ok _
      rw [hk, if_neg Bool.false_ne_true]
    exact ⟨_, he, ⟨fun _ _ => rfl, rfl, (SameMemory.refl s).latched⟩, fun m hm hp => (latched_pendOf ⟨hinq, howed⟩ hm).symm.trans hp⟩
  · have hk := k.isLt
    have hf := fieldsAt_srcCfg k
    have hpin : Reg.EIU_SRC_CFG k < Reg.SYS_PINMUX 0 ∨ Reg.SYS_PINMUX_4 < Reg.EIU_SRC_CFG k := by simp only [Reg.EIU_SRC_CFG, Reg.SYS_PINMUX_4]; omega
    obtain ⟨t, ht, htook, hinsvc, hpend, hfld⟩ := eiuConfig_taken (i := i) (v := v) h (by simp only [Reg.EIU_SRC_CFG]; omega)
      (by simp only [Reg.EIU_SRC_CFG]; omega) (by simp only [Reg.EIU_SRC_CFG, Reg.EIU_SWEV_TRIG]; omega)
      (regAt_of_field (f := fd 0 0 "EN" .rw 0) (by rw [hf]; simp))
    have free : ∀ hi lo n r, fd hi lo n .rw r ∈ fieldsAt (Reg.EIU_SRC_CFG k) → t.fld (Reg.EIU_SRC_CFG k) hi lo = fget v hi lo :=
      fun hi lo n r hm => (hfld _ hm).trans (writtenField_free s hpin hi lo n r v)
    refine ⟨t, ht, htook, hinsvc, hpend, bget_of_fget (free 0 0 "EN" 0 (by rw [hf]; simp)), free 6 4 "PRIORITY" 0 (by rw [hf]; simp),
      free 11 8 "PART" 0 (by rw [hf]; simp), free 23 16 "TARGETS" 0 (by rw [hf]; simp), ?_⟩
    have hlevel := hfld ⟨13, 12, "LEVEL", .rw, 1, .range 1 3⟩ (by rw [hf]; simp)
    rw [hlevel]
    have hlt : fget v 13 12 < 4 := fget_lt v 13 12
    have hnot : (decide (Reg.SYS_PINMUX 0 ≤ Reg.EIU_SRC_CFG k) && decide (Reg.EIU_SRC_CFG k ≤ Reg.SYS_PINMUX_4)) = false := by simp; omega
    by_cases h0 : fget v 13 12 = 0
    · simp [writtenField, fieldOk, Chk.ok, hnot, h0]
    · have hrange : 1 ≤ fget v 13 12 ∧ fget v 13 12 ≤ 3 := by omega
      simp [writtenField, fieldOk, Chk.ok, hnot, h0, hrange]
  · have hf := fieldsAt_partCtl ⟨k.val % 16, by omega⟩
    have hpin : Reg.EIU_PART_CTL (k.val % 16) < Reg.SYS_PINMUX 0 ∨ Reg.SYS_PINMUX_4 < Reg.EIU_PART_CTL (k.val % 16) := by
      simp only [Reg.EIU_PART_CTL, Reg.SYS_PINMUX_4]; omega
    dsimp only at hf
    obtain ⟨t, ht, htook, hinsvc, -, hfld⟩ := eiuConfig_taken (i := i) (v := v) h (by simp only [Reg.EIU_PART_CTL]; omega)
      (by simp only [Reg.EIU_PART_CTL]; omega) (by simp only [Reg.EIU_PART_CTL, Reg.EIU_SWEV_TRIG]; omega)
      (regAt_of_field (f := fd 0 0 "EN" .rw 1) (by rw [hf]; simp))
    have free : ∀ hi lo n r, fd hi lo n .rw r ∈ fieldsAt (Reg.EIU_PART_CTL (k.val % 16)) → t.fld (Reg.EIU_PART_CTL (k.val % 16)) hi lo = fget v hi lo :=
      fun hi lo n r hm => (hfld _ hm).trans (writtenField_free s hpin hi lo n r v)
    exact ⟨t, ht, htook, hinsvc, bget_of_fget (free 0 0 "EN" 1 (by rw [hf]; simp)), free 3 1 "PRI_CAP" 7 (by rw [hf]; simp)⟩

end Sys2Proof.Machine
end

section
/-!
SUPPORT. Packets of USB endpoints 1 to 8 (R575, R576): what an IN and an OUT packet change.
-/
set_option linter.constructorNameAsVariable false

namespace Sys2Proof.Machine

/-! ### The end of a packet -/

/-- A command of the port that asserts nothing ends with what it changed. -/
theorem okSettled_port {l : List Nat} {s u : State} (h : Calm s) (hu : PortChange l s u) :
    okSettled u = .next (latched u) ∧ RegsBut l s (latched u) ∧ SameMemory s (latched u) :=
  ⟨okSettled_calm (h.portOnly hu.only (hu.drained h.sources)), hu.regs, hu.only.latched.memory⟩

theorem PortChange.addTo {l : List Nat} {s t : State} (h : PortChange l s t) {a : Nat} (ha : a ∈ l) (n : Nat) : PortChange l s (t.addTo a n) := h.setReg ha _

@[simp] theorem usbEp_setUsbEp_self (s : State) (k : Nat) (x : UsbEp) : (s.setUsbEp k x).usbEp k = x := by simp [State.usbEp, State.setUsbEp]

theorem PortChange.nowLo {l : List Nat} {s t : State} (h : PortChange l s t) : t.nowLo = s.nowLo := by rw [h.only]; rfl

/-! ### IN packets (R575) -/

/-- The registers that a packet sent on IN endpoint e changes. -/
def inSentRegs (e : Nat) : List Nat := [Reg.USB_TX_PKT_CNT, Reg.USB_EPIN_PKT_CNT e, Reg.USB_EPIN_OCTET_CNT e, Reg.USB_EPIN_LAST_TICK e]

theorem cfg_not_sent (e : Nat) : Reg.USB_EPIN_CFG e ∉ inSentRegs e := by
  simp only [inSentRegs, Reg.USB_EPIN_CFG, Reg.USB_TX_PKT_CNT, Reg.USB_EPIN_PKT_CNT, Reg.USB_EPIN_OCTET_CNT, Reg.USB_EPIN_LAST_TICK, List.mem_cons,
    List.not_mem_nil, or_false, not_or]
  omega

theorem usbSent_change (e : Nat) (os : List Nat) (s : State) : PortChange (inSentRegs e) s (usbSent e os s) :=
  (((((PortChange.refl _ s).updUsb _).inc (by simp [inSentRegs])).inc (by simp [inSentRegs])).addTo (by simp [inSentRegs]) _).setReg (by simp [inSentRegs]) _

theorem usbSent_counts {e : Nat} (he : e < 8) (os : List Nat) (s : State) : (usbSent e os s).reg (Reg.USB_EPIN_PKT_CNT e) = s.reg (Reg.USB_EPIN_PKT_CNT e) + 1 ∧
    (usbSent e os s).reg (Reg.USB_EPIN_LAST_TICK e) = s.nowLo ∧
    (usbSent e os s).reg (Reg.USB_EPIN_OCTET_CNT e) = s.reg (Reg.USB_EPIN_OCTET_CNT e) + BitVec.ofNat 40 os.length := by
  have h1 : Reg.USB_EPIN_PKT_CNT e ≠ Reg.USB_EPIN_LAST_TICK e := by simp only [Reg.USB_EPIN_PKT_CNT, Reg.USB_EPIN_LAST_TICK]; omega
  have h2 : Reg.USB_EPIN_PKT_CNT e ≠ Reg.USB_EPIN_OCTET_CNT e := by simp only [Reg.USB_EPIN_PKT_CNT, Reg.USB_EPIN_OCTET_CNT]; omega
  have h3 : Reg.USB_EPIN_OCTET_CNT e ≠ Reg.USB_EPIN_LAST_TICK e := by simp only [Reg.USB_EPIN_OCTET_CNT, Reg.USB_EPIN_LAST_TICK]; omega
  have h4 : Reg.USB_EPIN_PKT_CNT e ≠ Reg.USB_TX_PKT_CNT ∧ Reg.USB_EPIN_OCTET_CNT e ≠ Reg.USB_TX_PKT_CNT := by
    simp only [Reg.USB_EPIN_PKT_CNT, Reg.USB_EPIN_OCTET_CNT, Reg.USB_TX_PKT_CNT]; omega
  refine ⟨?_, reg_setReg_self .., ?_⟩
  · rw [usbSent, reg_setReg_ne h1, reg_addTo_ne h2, reg_inc_self, reg_inc_ne h4.1, updUsb_get_reg]
  · rw [usbSent, reg_setReg_ne h3, reg_addTo_self, reg_inc_ne h2.symm, reg_inc_ne h4.2, updUsb_get_reg]

theorem setUnit_change {l : List Nat} (r : Nat) (u : RUnit) (s : State) : PortChange l s (setUnit r u s) := (PortChange.refl l s).setRing ..

theorem sinkTook_change {l : List Nat} (r n : Nat) (t : Word) (s : State) : PortChange l s (sinkTook r n t s) := by
  unfold sinkTook
  split
  · exact .refl ..
  · exact setUnit_change ..

theorem setUnit_usb (r : Nat) (u : RUnit) (s : State) : (setUnit r u s).usb = s.usb := rfl

theorem sinkTook_usb (r n : Nat) (t : Word) (s : State) : (sinkTook r n t s).usb = s.usb := by
  unfold sinkTook
  split
  · rfl
  · exact setUnit_usb ..

/-- The endpoint after the host has taken a packet that is not isochronous. -/
def inTaken (x : UsbEp) (p : List Nat) (z : Bool) : UsbEp := { x with data := x.data.drop p.length, toggle := !x.toggle, zlp := x.zlp && !z }

theorem usbInTaken_spec {e : Nat} (r : Nat) (p : List Nat) (z : Bool) {s : State} (hiso : usbIso s false e = false) :
    PortChange [] s (usbInTaken e r p z s) ∧ (usbInTaken e r p z s).usbEp (1 + e) = inTaken (s.usbEp (1 + e)) p z := by
  let u := s.setUsbEp (1 + e) (inTaken (s.usbEp (1 + e)) p z)
  let w := sinkTook r p.length (u.reg Reg.USB_SOF_TICK) u
  have hu : PortChange [] s u := (PortChange.refl _ s).setUsbEp _ _
  have hw : PortChange [] s w := hu.trans (sinkTook_change ..)
  have hep : ∀ t : State, t.usb = w.usb → t.usbEp (1 + e) = inTaken (s.usbEp (1 + e)) p z := fun t ht => by
    have : t.usb = u.usb := ht.trans (sinkTook_usb ..)
    rw [State.usbEp, this]
    exact usbEp_setUsbEp_self ..
  have hout : usbInTaken e r p z s = w ∨ ∃ x, usbInTaken e r p z s = setUnit r x w := by
    unfold usbInTaken
    simp only [hiso, Bool.false_eq_true, if_false]
    split
    · exact .inl rfl
    · split_ifs
      · exact .inr ⟨_, rfl⟩
      · exact .inr ⟨_, rfl⟩
      · exact .inl rfl
  rcases hout with he | ⟨x, he⟩
  · rw [he]; exact ⟨hw, hep w rfl⟩
  · rw [he]; exact ⟨hw.trans (setUnit_change ..), hep _ (setUnit_usb ..)⟩

/-- The IN endpoint answers the host itself: it is up, enabled and not stalled, and no feedback unit speaks for it. -/
structure InReady (s : State) (e : Nat) : Prop where
  up : usbUp s = true
  awake : usbSuspended s = false
  enabled : s.bit (Reg.USB_EPIN_CFG e) 20 = true
  flows : s.bit (Reg.USB_EPIN_CFG e) 19 = false
  served : shedNonStream s = false
  sound : s.usb.inj = false
  own : fbOf s e = none

section
variable {s : State} {e : Nat} (h : InReady s e)
include h

theorem usbIn_unbound (hiso : usbIso s false e = false) (hb : boundRing s 5 e false = none) (acked : Bool) :
    usbIn busSrv e acked s = s.inc (Reg.USB_EPIN_NAK_CNT e) := by
  simp [usbIn, h.up, h.awake, h.enabled, h.flows, h.served, h.sound, h.own, hb, hiso]

theorem usbIn_sends {r : Nat} (hb : boundRing s 5 e false = some r) {p : List Nat} {z : Bool} (hiso : usbIso (pump busSrv r s) false e = false)
    (hnext : usbNextIn (pump busSrv r s) e r = some (p, z)) (acked : Bool) :
    usbIn busSrv e acked s = if acked then usbInTaken e r p z (usbSent e p (pump busSrv r s)) else (usbSent e p (pump busSrv r s)).inc Reg.USB_TIMEOUT_CNT := by
  have hcfg : Reg.USB_EPIN_CFG e ∉ inSentRegs e := cfg_not_sent e
  have hsent : usbIso (usbSent e p (pump busSrv r s)) false e = false := by
    rw [usbIso, usbCfg, if_neg Bool.false_ne_true] at hiso ⊢
    rw [State.fld, (usbSent_change e p (pump busSrv r s)).regs _ hcfg]
    exact hiso
  simp [usbIn, h.up, h.awake, h.enabled, h.flows, h.served, h.sound, h.own, hb, hnext, hsent]

end

/-! ### OUT packets (R576) -/

/-- The registers that a packet taken by OUT endpoint e changes. -/
def outTakenRegs (e : Nat) : List Nat := [Reg.USB_RX_PKT_CNT, Reg.USB_EPOUT_PKT_CNT e, Reg.USB_EPOUT_OCTET_CNT e, Reg.USB_EPOUT_LAST_TICK e]

/-- An OUT endpoint that has taken a packet in the frame that began at tick t. -/
def epTook (x : UsbEp) (os : List Nat) (t : Word) : UsbEp := { x with packets := x.packets ++ [os], tss := x.tss ++ [t], toggle := !x.toggle }

/-- The state in which OUT endpoint e has taken a packet. -/
def outTaken (e : Nat) (os : List Nat) (s : State) : State :=
  (((((s.setUsbEp (17 + e) (epTook (s.usbEp (17 + e)) os (s.reg Reg.USB_SOF_TICK))).inc
    Reg.USB_RX_PKT_CNT).inc (Reg.USB_EPOUT_PKT_CNT e)).addTo (Reg.USB_EPOUT_OCTET_CNT e) os.length).setReg (Reg.USB_EPOUT_LAST_TICK e) s.nowLo)

theorem outTaken_change (e : Nat) (os : List Nat) (s : State) : PortChange (outTakenRegs e) s (outTaken e os s) :=
  (((((PortChange.refl _ s).setUsbEp _ _).inc (by simp [outTakenRegs])).inc (by simp [outTakenRegs])).addTo (by simp [outTakenRegs]) _).setReg
    (by simp [outTakenRegs]) _

theorem outTaken_counts {e : Nat} (he : e < 8) (os : List Nat) (s : State) :
    (outTaken e os s).reg (Reg.USB_EPOUT_PKT_CNT e) = s.reg (Reg.USB_EPOUT_PKT_CNT e) + 1 ∧ (outTaken e os s).reg (Reg.USB_EPOUT_LAST_TICK e) = s.nowLo ∧
    (outTaken e os s).reg (Reg.USB_EPOUT_OCTET_CNT e) = s.reg (Reg.USB_EPOUT_OCTET_CNT e) + BitVec.ofNat 40 os.length := by
  have h1 : Reg.USB_EPOUT_PKT_CNT e ≠ Reg.USB_EPOUT_LAST_TICK e := by simp only [Reg.USB_EPOUT_PKT_CNT, Reg.USB_EPOUT_LAST_TICK]; omega
  have h2 : Reg.USB_EPOUT_PKT_CNT e ≠ Reg.USB_EPOUT_OCTET_CNT e := by simp only [Reg.USB_EPOUT_PKT_CNT, Reg.USB_EPOUT_OCTET_CNT]; omega
  have h3 : Reg.USB_EPOUT_OCTET_CNT e ≠ Reg.USB_EPOUT_LAST_TICK e := by simp only [Reg.USB_EPOUT_OCTET_CNT, Reg.USB_EPOUT_LAST_TICK]; omega
  have h4 : Reg.USB_EPOUT_PKT_CNT e ≠ Reg.USB_RX_PKT_CNT ∧ Reg.USB_EPOUT_OCTET_CNT e ≠ Reg.USB_RX_PKT_CNT := by
    simp only [Reg.USB_EPOUT_PKT_CNT, Reg.USB_EPOUT_OCTET_CNT, Reg.USB_RX_PKT_CNT]; omega
  refine ⟨?_, reg_setReg_self .., ?_⟩
  · rw [outTaken, reg_setReg_ne h1, reg_addTo_ne h2, reg_inc_self, reg_inc_ne h4.1, setUsbEp_get_reg]
  · rw [outTaken, reg_setReg_ne h3, reg_addTo_self, reg_inc_ne h2.symm, reg_inc_ne h4.2, setUsbEp_get_reg]

theorem outTaken_ep (e : Nat) (os : List Nat) (s : State) : (outTaken e os s).usbEp (17 + e) = epTook (s.usbEp (17 + e)) os (s.reg Reg.USB_SOF_TICK) :=
  usbEp_setUsbEp_self ..

section
variable {s : State} {e : Nat} (hup : usbUp s = true) (hawake : usbSuspended s = false) (hen : s.bit (Reg.USB_EPOUT_CFG e) 20 = true)
  (hiso : usbIso s true e = false)
include hup hawake hen hiso

theorem usbOut_crc (os : List Nat) (toggle : Bool) : usbOut e os toggle 1 s = s.inc Reg.USB_CRC_ERR_CNT := by
  simp [usbOut, hup, hawake, hen, hiso, usbWireErr]

variable (hflows : s.bit (Reg.USB_EPOUT_CFG e) 19 = false) (hserved : shedNonStream s = false) (hsound : s.usb.inj = false)
include hflows hserved hsound

theorem usbOut_full {os : List Nat} (hlen : os.length ≤ s.fld (Reg.USB_EPOUT_CFG e) 10 0) (hfull : 2 ≤ (s.usbEp (17 + e)).packets.length) (toggle : Bool) :
    usbOut e os toggle 0 s = s.inc (Reg.USB_EPOUT_NAK_CNT e) := by
  simp [usbOut, hup, hawake, hen, hiso, hflows, hserved, hsound, hlen, usbFull, hfull]

variable {os : List Nat} (hlen : os.length ≤ s.fld (Reg.USB_EPOUT_CFG e) 10 0) (hroom : (s.usbEp (17 + e)).packets.length < 2)
include hlen hroom

theorem usbOut_repeated {toggle : Bool} (ht : toggle ≠ (s.usbEp (17 + e)).toggle) : usbOut e os toggle 0 s = s.inc Reg.USB_TOGGLE_ERR_CNT := by
  simp [usbOut, hup, hawake, hen, hiso, hflows, hserved, hsound, hlen, usbFull, not_le.2 hroom, ht]

theorem usbOut_takes : usbOut e os (s.usbEp (17 + e)).toggle 0 s = outTaken e os s := by
  simp [usbOut, hup, hawake, hen, hiso, hflows, hserved, hsound, not_lt.2 hlen, usbFull, not_le.2 hroom]
  rfl

end

/-! ### Commands -/

/-- A packet that ends in one count. -/
theorem okSettled_counted {s : State} (h : Calm s) (a : Nat) : ∃ t, okSettled (s.inc a) = .next t ∧ t.reg a = s.reg a + 1 ∧ t.usb = s.usb ∧
    RegsBut [a] s t ∧ SameMemory s t := by
  obtain ⟨ht, hregs, hm⟩ := okSettled_port h ((PortChange.refl [a] s).inc (List.mem_singleton_self a))
  exact ⟨_, ht, (latched_get_reg ..).trans (reg_inc_self s a), rfl, hregs, hm⟩

end Sys2Proof.Machine
end

section
/-!
SUPPORT. The configuration of USB endpoints 1 to 8 (R574): what a write enables, and what it leaves.
-/
set_option linter.constructorNameAsVariable false

namespace Sys2Proof.Machine

/-! ### A store restricted to some fields -/

/-- The register as a store leaves it that reaches only the fields of keep. -/
def keptWord (keep : Fld → Bool) (a : Nat) (v : Word) (s : State) : Word := (writeFlds a s.isSealed v ((fieldsAt a).filter keep) (s.reg a, false)).1

/-- Such a store holds a reserved value. -/
def keptReserved (keep : Fld → Bool) (a : Nat) (v : Word) (s : State) : Bool := ((fieldsAt a).filter keep).any (fieldReserved a s.isSealed v)

theorem writeRegIf_eq (keep : Fld → Bool) (ep a : Nat) (v : Word) (s : State) : writeRegIf keep ep a v s =
    if keptReserved keep a v s then captureRsvd ep a v (s.setReg a (keptWord keep a v s)) else s.setReg a (keptWord keep a v s) := by
  simp only [writeRegIf, writeFlds_reserved, Bool.false_or]
  rfl

theorem fieldsSound_filter (keep : Fld → Bool) : ∀ {l : List Fld}, fieldsSound l = true → fieldsSound (l.filter keep) = true
  | [], _ => rfl
  | f :: l, h => by
    obtain ⟨hlo, h40, hall, hl⟩ := fieldsSound_cons h
    rw [List.filter_cons]
    split
    · simp only [fieldsSound, Bool.and_eq_true, decide_eq_true_eq, List.all_eq_true]
      exact ⟨⟨⟨hlo, h40⟩, fun g hg => hall g (List.mem_filter.1 hg).1⟩, fieldsSound_filter keep hl⟩
    · exact fieldsSound_filter keep hl

section
variable {keep : Fld → Bool} {a : Nat} {f : Fld}

theorem keptWord_fld (hf : f ∈ fieldsAt a) (hk : keep f = true) (v : Word) (s : State) : fget (keptWord keep a v s) f.hi f.lo = writtenField s a f v := by
  rw [keptWord, writeFlds_fld (fieldsSound_filter keep (fieldsAt_sound a)) (List.mem_filter.2 ⟨hf, hk⟩), fieldTaken_eq]

theorem keptWord_other (h : ∀ g, g ∈ fieldsAt a → keep g = true → f.apart g = true) (v : Word) (s : State) : SameField f (keptWord keep a v s) (s.reg a) :=
  writeFlds_apart (fieldsSound_filter keep (fieldsAt_sound a)) (fun g hg => h g (List.mem_filter.1 hg).1 (List.mem_filter.1 hg).2) (s.reg a, false)

end

theorem writeRegIf_only (keep : Fld → Bool) (ep a : Nat) (v : Word) (s : State) : RegsOnly s (writeRegIf keep ep a v s) :=
  .ite ((regsOnly_setReg ..).trans (captureRsvd_only ..)) (regsOnly_setReg ..)

theorem writeRegIf_regsBut (keep : Fld → Bool) (ep a : Nat) (v : Word) (s : State) : RegsBut (a :: rsvdRegs) s (writeRegIf keep ep a v s) := by
  intro b hb
  obtain ⟨ha, hr⟩ : b ≠ a ∧ b ∉ rsvdRegs := by simpa using hb
  rw [writeRegIf_eq]
  split
  · rw [captureRsvd_reg hr, reg_setReg_ne ha]
  · exact reg_setReg_ne ha ..

theorem writeRegIf_self {a : Nat} (ha : a ∉ rsvdRegs) (keep : Fld → Bool) (ep : Nat) (v : Word) (s : State) :
    (writeRegIf keep ep a v s).reg a = keptWord keep a v s := by
  rw [writeRegIf_eq]
  split
  · rw [captureRsvd_reg ha, reg_setReg_self]
  · exact reg_setReg_self ..

/-! ### Bits of fields -/

theorem bit_of_fget {x y : Word} {hi lo j : Nat} (h : fget x hi lo = fget y hi lo) (h1 : lo ≤ j) (h2 : j ≤ hi) : x.getLsbD j = y.getLsbD j := by
  have := fget_testBit x hi lo (j - lo)
  rw [h, fget_testBit y hi lo (j - lo), decide_eq_true (by omega), Nat.add_sub_cancel' h1] at this
  simpa using this.symm

theorem fget_of_bits {x y : Word} {hi lo : Nat} (hlo : lo ≤ hi) (h : ∀ j, lo ≤ j → j ≤ hi → x.getLsbD j = y.getLsbD j) : fget x hi lo = fget y hi lo :=
  SameField.fget (f := ⟨hi, lo, "", .rw, 0, .any⟩) h hlo

/-! ### The configuration register of an endpoint -/

/-- Its fields. -/
def epFields : List Fld := [fd 21 21 "RESET_TOGGLE" .wo 0, fd 20 20 "EN" .rw 0, fd 19 19 "STALL" .rw 0, ⟨18, 17, "TYPE", .rw, 0, .range 1 3⟩,
  ⟨16, 15, "MULT", .rw, 0, .range 1 3⟩, fd 14 11 "INTERVAL_M1" .rw 0, fd 10 0 "MPS" .rw 0]

theorem fieldsAt_usbCfg : ∀ (out : Bool) (e : Fin 8), fieldsAt (usbCfg out e) = epFields := by decide +kernel

/-- The fields that a write of a disabled endpoint reaches, and those of an enabled one. -/
abbrev butEn (f : Fld) : Bool := decide (f.name ≠ "EN")
abbrev onlyStall (f : Fld) : Bool := decide (f.name = "STALL")

theorem usbCfg_range (out : Bool) (e : Fin 8) : Reg.USB_EPIN_CFG 0 ≤ usbCfg out e ∧ usbCfg out e < Reg.USB_EPOUT_CFG 8 ∧ usbCfg out e % 8 = 0 := by
  have he := e.isLt
  cases out <;> simp only [usbCfg, Bool.false_eq_true, if_false, if_true, Reg.USB_EPIN_CFG, Reg.USB_EPOUT_CFG] <;> omega

theorem usbCfg_not_rsvd (out : Bool) (e : Fin 8) : usbCfg out e ∉ rsvdRegs := by
  obtain ⟨h1, h2, -⟩ := usbCfg_range out e
  simp only [Reg.USB_EPIN_CFG, Reg.USB_EPOUT_CFG] at h1 h2
  simp only [rsvdRegs, Reg.SYS_STATUS, Reg.SYS_RSVD_ADDR, Reg.SYS_RSVD_DATA, Reg.SYS_RSVD_CNT, List.mem_cons, List.not_mem_nil, or_false, not_or]
  omega

theorem usbWrite_cfg (out : Bool) (e : Fin 8) (ep : Nat) (v : Word) (s : State) : usbWrite ep (usbCfg out e) v s = usbCfgWrite ep out e v s := by
  obtain ⟨h1, h2, h3⟩ := usbCfg_range out e
  have he := e.isLt
  have hout : decide (Reg.USB_EPOUT_CFG 0 ≤ usbCfg out e) = out := by
    cases out <;> simp [usbCfg, Reg.USB_EPIN_CFG, Reg.USB_EPOUT_CFG]; omega
  have hnum : (usbCfg out e - Reg.USB_EPIN_CFG 0) / 8 % 8 = e := by
    cases out <;> simp only [usbCfg, Bool.false_eq_true, if_false, if_true, Reg.USB_EPIN_CFG, Reg.USB_EPOUT_CFG] <;> omega
  have hne : usbCfg out e ≠ Reg.USB_CTL ∧ usbCfg out e ≠ Reg.USB_ADDR ∧ usbCfg out e ≠ Reg.USB_EP0_CTL ∧ usbCfg out e ≠ Reg.USB_INJECT ∧
      usbCfg out e ≠ Reg.USB_FB_CTL 0 ∧ usbCfg out e ≠ Reg.USB_FB_CTL 1 := by
    simp only [Reg.USB_EPIN_CFG] at h1
    simp only [Reg.USB_CTL, Reg.USB_ADDR, Reg.USB_EP0_CTL, Reg.USB_INJECT, Reg.USB_FB_CTL]; omega
  simp [usbWrite, hne, h1, h2, h3, hout, hnum]

end Sys2Proof.Machine
end

section
/-!
SUPPORT. Enabling a USB endpoint, and resetting its toggle (R574).
-/
set_option linter.constructorNameAsVariable false

namespace Sys2Proof.Machine

/-- A configuration that USB 2.0 and the packet buffers allow, in a word whose TYPE and MULT are assigned (R574). -/
def epLegal (s : State) (v : Word) : Prop :=
  mpsOk (usbHs s) (fget v 18 17) (fget v 10 0) = true ∧ (fget v 16 15 = 1 ∨ usbHs s = true ∧ (fget v 18 17 = 1 ∨ fget v 18 17 = 3)) ∧
    usbBufWords s + epWords v ≤ 4096

section
variable {out : Bool} {e : Fin 8} {s : State}

/-! ### The register -/

theorem usbCfg_not_pin (out : Bool) (e : Fin 8) : Reg.SYS_PINMUX_4 < usbCfg out e := by
  obtain ⟨h1, -, -⟩ := usbCfg_range out e
  simp only [Reg.USB_EPIN_CFG] at h1
  simp only [Reg.SYS_PINMUX_4]
  omega

theorem epField_mem {f : Fld} (h : f ∈ epFields) : f ∈ fieldsAt (usbCfg out e) := (fieldsAt_usbCfg out e).symm ▸ h

/-- What a disabled endpoint's word takes of a field that accepts every value. -/
theorem epWord_free (hi lo : Nat) (n : String) (hm : fd hi lo n .rw 0 ∈ epFields) (hn : n ≠ "EN") (v : Word) (s : State) :
    fget (keptWord butEn (usbCfg out e) v s) hi lo = fget v hi lo :=
  (keptWord_fld (epField_mem hm) (decide_eq_true hn) v s).trans (writtenField_free s (Or.inr (usbCfg_not_pin out e)) hi lo n 0 v)

theorem epWord_ranged {hi lo : Nat} {n : String} (hm : (⟨hi, lo, n, .rw, 0, .range 1 3⟩ : Fld) ∈ epFields) (hn : n ≠ "EN") (hw : hi - lo = 1) {v : Word}
    (hv : 1 ≤ fget v hi lo) (s : State) : fget (keptWord butEn (usbCfg out e) v s) hi lo = fget v hi lo := by
  have hlt : fget v hi lo < 4 := by have := fget_lt v hi lo; rwa [hw] at this
  have hpin : (decide (Reg.SYS_PINMUX 0 ≤ usbCfg out e) && decide (usbCfg out e ≤ Reg.SYS_PINMUX_4)) = false := by
    have := usbCfg_not_pin out e
    simp; omega
  have hok : fieldOk (usbCfg out e) ⟨hi, lo, n, .rw, 0, .range 1 3⟩ (fget v hi lo) = true := by
    simp [fieldOk, Chk.ok, hpin, hv]; omega
  refine (keptWord_fld (epField_mem hm) (decide_eq_true hn) v s).trans ?_
  simp only [writtenField, hok, if_true]

/-- EN itself is not reached. -/
theorem epWord_en (v : Word) (s : State) : bget (keptWord butEn (usbCfg out e) v s) 20 = s.bit (usbCfg out e) 20 := by
  refine keptWord_other (f := fd 20 20 "EN" .rw 0) (fun g hg hk => ?_) v s 20 (le_refl _) (le_refl _)
  rw [fieldsAt_usbCfg] at hg
  have hall : ∀ g, g ∈ epFields → butEn g = true → (fd 20 20 "EN" .rw 0).apart g = true := by decide
  exact hall g hg hk

theorem epWord_accepted {v : Word} (ht : 1 ≤ fget v 18 17) (hm : 1 ≤ fget v 16 15) : fget (keptWord butEn (usbCfg out e) v s) 19 0 = fget v 19 0 := by
  refine fget_of_bits (by decide) (fun j _ hj => ?_)
  rcases (by omega : j = 19 ∨ (17 ≤ j ∧ j ≤ 18) ∨ (15 ≤ j ∧ j ≤ 16) ∨ (11 ≤ j ∧ j ≤ 14) ∨ j ≤ 10) with h | ⟨h1, h2⟩ | ⟨h1, h2⟩ | ⟨h1, h2⟩ | h
  · exact bit_of_fget (epWord_free 19 19 "STALL" (by simp [epFields]) (by decide) v s) (by omega) (by omega)
  · exact bit_of_fget (epWord_ranged (n := "TYPE") (by simp [epFields]) (by decide) (by decide) ht s) h1 h2
  · exact bit_of_fget (epWord_ranged (n := "MULT") (by simp [epFields]) (by decide) (by decide) hm s) h1 h2
  · exact bit_of_fget (epWord_free 14 11 "INTERVAL_M1" (by simp [epFields]) (by decide) v s) h1 h2
  · exact bit_of_fget (epWord_free 10 0 "MPS" (by simp [epFields]) (by decide) v s) (by omega) h

theorem fieldReserved_free {a : Nat} (ha : Reg.SYS_PINMUX_4 < a) (hi lo : Nat) (n : String) (acc : Acc) (r : Nat) (sl : Bool) (v : Word) :
    fieldReserved a sl v (fd hi lo n acc r) = false := by
  have hpin : (decide (Reg.SYS_PINMUX 0 ≤ a) && decide (a ≤ Reg.SYS_PINMUX_4)) = false := by simp; omega
  simp [fieldReserved, fieldOk, Chk.ok, fd, hpin]

theorem epFields_kept : epFields.filter butEn = [fd 21 21 "RESET_TOGGLE" .wo 0, fd 19 19 "STALL" .rw 0, ⟨18, 17, "TYPE", .rw, 0, .range 1 3⟩,
  ⟨16, 15, "MULT", .rw, 0, .range 1 3⟩, fd 14 11 "INTERVAL_M1" .rw 0, fd 10 0 "MPS" .rw 0] := by decide

theorem epReserved_none {v : Word} (ht : 1 ≤ fget v 18 17) (hm : 1 ≤ fget v 16 15) : keptReserved butEn (usbCfg out e) v s = false := by
  have hpin := usbCfg_not_pin out e
  have hpin' : (decide (Reg.SYS_PINMUX 0 ≤ usbCfg out e) && decide (usbCfg out e ≤ Reg.SYS_PINMUX_4)) = false := by simp; omega
  have ranged : ∀ n hi lo, hi - lo = 1 → 1 ≤ fget v hi lo → fieldReserved (usbCfg out e) s.isSealed v ⟨hi, lo, n, .rw, 0, .range 1 3⟩ = false :=
    fun n hi lo hw hv => by
      have hlt : fget v hi lo < 4 := by have := fget_lt v hi lo; rwa [hw] at this
      simp [fieldReserved, fieldOk, Chk.ok, hpin', hv]; omega
  simp only [keptReserved, fieldsAt_usbCfg, epFields_kept, List.any_cons, List.any_nil, fieldReserved_free hpin, ranged "TYPE" 18 17 rfl ht,
    ranged "MULT" 16 15 rfl hm, Bool.or_self]

theorem writeRegIf_accepted {v : Word} (ht : 1 ≤ fget v 18 17) (hm : 1 ≤ fget v 16 15) (ep : Nat) :
    writeRegIf butEn ep (usbCfg out e) v s = s.setReg (usbCfg out e) (keptWord butEn (usbCfg out e) v s) := by
  rw [writeRegIf_eq, epReserved_none ht hm, if_neg Bool.false_ne_true]

/-! ### What the checks see -/

theorem usbHs_congr {t : State} (h1 : t.reg Reg.USB_STATUS = s.reg Reg.USB_STATUS) (h2 : t.reg Reg.USB_CTL = s.reg Reg.USB_CTL) : usbHs t = usbHs s := by
  simp only [usbHs, State.fld, State.bit, h1, h2]

/-- A disabled endpoint's word takes no part of the packet buffers. -/
theorem usbBufWords_disabled {w : Word} (hs : s.bit (usbCfg out e) 20 = false) (hw : bget w 20 = false) :
    usbBufWords (s.setReg (usbCfg out e) w) = usbBufWords s := by
  unfold usbBufWords
  congr 1
  refine List.map_congr_left (fun k _ => ?_)
  by_cases h : usbCfg (decide (8 ≤ k)) (k % 8) = usbCfg out e
  · rw [h, reg_setReg_self]
    simp only [State.bit] at hs
    simp [hs, hw]
  · rw [reg_setReg_ne h]

theorem fget_part {x y : Word} {hi lo a b : Nat} (h : fget x hi lo = fget y hi lo) (ha : a ≤ hi) (hb : lo ≤ b) (hab : b ≤ a) : fget x a b = fget y a b :=
  fget_of_bits hab (fun _ h1 h2 => bit_of_fget h (by omega) (by omega))

/-- The effect of a write that enables a disabled endpoint with an assigned TYPE and MULT. -/
theorem usbCfgWrite_enable {v : Word} (hoff : s.bit (usbCfg out e) 20 = false) (h21 : bget v 21 = false) (h20 : bget v 20 = true) (ht : 1 ≤ fget v 18 17)
    (hm : 1 ≤ fget v 16 15) (ep : Nat) :
    let u := s.setReg (usbCfg out e) (keptWord butEn (usbCfg out e) v s)
    (epLegal s v → usbCfgWrite ep out e v s = (u.setBit (usbCfg out e) 20 true).setUsbEp (usbKey out e) UsbEp.reset) ∧
      (¬ epLegal s v → usbCfgWrite ep out e v s = usbStat 10 u) := by
  intro u
  have hword := epWord_accepted (out := out) (e := e) (s := s) ht hm
  have hmps : fget (keptWord butEn (usbCfg out e) v s) 10 0 = fget v 10 0 := fget_part hword (by decide) (by decide) (by decide)
  have htype : fget (keptWord butEn (usbCfg out e) v s) 18 17 = fget v 18 17 := fget_part hword (by decide) (by decide) (by decide)
  have hmult : fget (keptWord butEn (usbCfg out e) v s) 16 15 = fget v 16 15 := fget_part hword (by decide) (by decide) (by decide)
  have hwords : epWords (keptWord butEn (usbCfg out e) v s) = epWords v := by simp only [epWords, hmps, hmult]
  have hne : Reg.USB_STATUS ≠ usbCfg out e ∧ Reg.USB_CTL ≠ usbCfg out e := by
    obtain ⟨h1, -, -⟩ := usbCfg_range out e
    simp only [Reg.USB_EPIN_CFG] at h1
    simp only [Reg.USB_STATUS, Reg.USB_CTL]; omega
  have hhs : usbHs u = usbHs s := usbHs_congr (reg_setReg_ne hne.1 ..) (reg_setReg_ne hne.2 ..)
  have hbuf : usbBufWords u = usbBufWords s := usbBufWords_disabled hoff ((epWord_en v s).trans hoff)
  have hkept : writeRegIf (fun f => decide (f.name ≠ "EN")) ep (usbCfg out e) v s = u := writeRegIf_accepted ht hm ep
  have hself : u.reg (usbCfg out e) = keptWord butEn (usbCfg out e) v s := reg_setReg_self ..
  have hzero : (fget v 18 17 == 0) = false := beq_eq_false_iff_ne.2 (by omega)
  have hbad : (!mpsOk (usbHs s) (fget v 18 17) (fget v 10 0) || (fget v 16 15 != 1 && !(usbHs s && (fget v 18 17 == 1 || fget v 18 17 == 3))) ||
      decide (4096 < usbBufWords s + epWords v)) = true ↔ ¬ epLegal s v := by
    simp only [epLegal, Bool.or_eq_true, Bool.and_eq_true, Bool.not_eq_true', Bool.and_eq_false_iff, Bool.or_eq_false_iff, decide_eq_true_eq, bne_iff_ne, beq_eq_false_iff_ne]
    cases mpsOk (usbHs s) (fget v 18 17) (fget v 10 0) <;> cases usbHs s <;> simp <;> omega
  have hw : usbCfgWrite ep out e v s = if (!mpsOk (usbHs s) (fget v 18 17) (fget v 10 0) ||
      (fget v 16 15 != 1 && !(usbHs s && (fget v 18 17 == 1 || fget v 18 17 == 3))) || decide (4096 < usbBufWords s + epWords v)) = true then usbStat 10 u
      else (u.setBit (usbCfg out e) 20 true).setUsbEp (usbKey out e) UsbEp.reset := by
    simp only [usbCfgWrite, h21, hoff, hkept, h20, hself, hmps, htype, hmult, hwords, hhs, hbuf, hzero, Bool.false_eq_true, if_false, Bool.not_true, Bool.false_or]
  rw [hw]
  exact ⟨fun h => if_neg (fun hb => hbad.1 hb h), fun h => if_pos (hbad.2 h)⟩

end

end Sys2Proof.Machine
end

section
/-!
SUPPORT. The commands that configure a USB endpoint (R574).
-/
set_option linter.constructorNameAsVariable false

namespace Sys2Proof.Machine

/-- A write that sets one bit keeps the fields apart from it. -/
theorem fget_bset_apart {v : Word} {k : Nat} (hk : k < 40) (b : Bool) {hi lo : Nat} (hlo : lo ≤ hi) (h : hi < k ∨ k < lo) : fget (bset v k b) hi lo = fget v hi lo :=
  fget_bset_ne v k b hi lo hk hlo h

section
variable {i : Initiator} {out : Bool} {e : Fin 8} {v : Word} {s : State} (h : Reaches (usbCfg out e) s)
include h

/-- A write of an endpoint's configuration ends with what the port makes of it. -/
theorem okSettled_cfgCmd {l : List Nat} {u : State} (hw : usbCfgWrite i.ep out e v s = u) (honly : PortOnly s u) (hd : Drained u) (hl : RegsBut l s u) :
    ∃ t, okSettled (regCmd i (usbCfg out e) v s) = .next t ∧ Took i l s t ∧ t.usb = u.usb ∧ ∀ a, t.reg a = u.reg a := by
  obtain ⟨h1, h2, -⟩ := usbCfg_range out e
  simp only [Reg.USB_EPIN_CFG, Reg.USB_EPOUT_CFG] at h1 h2
  have hu : usbWrite i.ep (usbCfg out e) v s = u := (usbWrite_cfg ..).trans hw
  have hreg : (regAt (usbCfg out e)).isNone = false :=
    Option.isNone_eq_false_iff.2 (regAt_of_field (epField_mem (f := fd 20 20 "EN" .rw 0) (by simp [epFields])))
  obtain ⟨t, ht, htook, husb, hregs⟩ := okSettled_usbCmd (i := i) (v := v) (l := l) h (by omega) (by omega) hreg (by rw [hu]; exact honly) (by rw [hu]; exact hd)
    (by rw [hu]; exact hl)
  rw [hu] at husb hregs
  exact ⟨t, ht, htook, husb, fun a => reg_congr hregs a⟩

theorem usbEpEnable_legal (hoff : s.bit (usbCfg out e) 20 = false) (h21 : bget v 21 = false) (ht : 1 ≤ fget v 18 17) (hm : 1 ≤ fget v 16 15)
    (hlegal : epLegal s v) : ∃ t, exec (.usbEpEnable i out e v) s = .next t ∧ Took i [usbCfg out e] s t ∧ t.bit (usbCfg out e) 20 = true ∧
      t.fld (usbCfg out e) 19 0 = fget v 19 0 ∧ (t.usbEp (usbKey out e)).toggle = false := by
  have apart : ∀ hi lo, lo ≤ hi → hi < 20 → fget (bset v 20 true) hi lo = fget v hi lo := fun hi lo hlo hi20 => fget_bset_apart (by decide) _ hlo (Or.inl hi20)
  have h20 : bget (bset v 20 true) 20 = true := by rw [bset_bit _ _ _ _ (by decide), if_pos rfl]
  have h21' : bget (bset v 20 true) 21 = false := by rw [bset_bit _ _ _ _ (by decide), if_neg (by decide), h21]
  have hlegal' : epLegal s (bset v 20 true) := by
    simpa only [epLegal, epWords, apart 18 17 (by decide) (by decide), apart 16 15 (by decide) (by decide), apart 10 0 (by decide) (by decide)] using hlegal
  have ht' : 1 ≤ fget (bset v 20 true) 18 17 := by rwa [apart 18 17 (by decide) (by decide)]
  have hm' : 1 ≤ fget (bset v 20 true) 16 15 := by rwa [apart 16 15 (by decide) (by decide)]
  have hw := (usbCfgWrite_enable hoff h21' h20 ht' hm' i.ep).1 hlegal'
  have hchange : PortChange [usbCfg out e] s (((s.setReg (usbCfg out e) (keptWord butEn (usbCfg out e) (bset v 20 true) s)).setBit (usbCfg out e) 20 true).setUsbEp
      (usbKey out e) UsbEp.reset) := (((PortChange.refl _ s).setReg (by simp) _).setBit (by simp) _ _).setUsbEp _ _
  obtain ⟨t, ht, htook, husb, hreg⟩ := okSettled_cfgCmd h hw hchange.only (hchange.drained h.calm.sources) hchange.regs
  refine ⟨t, ht, htook, ?_, ?_, ?_⟩
  · rw [State.bit, hreg, setUsbEp_get_reg, reg_setBit_self, bset_bit _ _ _ _ (by decide), if_pos rfl]
  · rw [State.fld, hreg, setUsbEp_get_reg, reg_setBit_self, fget_bset_apart (by decide) _ (by decide) (by decide), reg_setReg_self, epWord_accepted ht' hm',
      apart 19 0 (by decide) (by decide)]
  · rw [State.usbEp, husb]
    exact congrArg UsbEp.toggle (usbEp_setUsbEp_self ..)

/-- A write whose endpoint stays disabled, with CFG_ERR set, from the word left in u. -/
theorem okSettled_cfgErr {l : List Nat} {u : State} (hw : usbCfgWrite i.ep out e v s = usbStat 10 u) (honly : RegsOnly s u)
    (hregs : RegsBut l s u) (hl : Reg.USB_STATUS :: usbSrcRegs ⊆ l) (h20 : bget (u.reg (usbCfg out e)) 20 = false) :
    ∃ t, okSettled (regCmd i (usbCfg out e) v s) = .next t ∧ Took i l s t ∧ t.bit (usbCfg out e) 20 = false ∧ t.bit Reg.USB_STATUS 10 = true := by
  have hdrained : Drained u := by unfold Drained; rw [honly.eiu]; exact h.calm.sources
  obtain ⟨hraised, hd⟩ := usbStat_raised 10 hdrained
  have hcfg : usbCfg out e ∉ Reg.USB_STATUS :: usbSrcRegs := by
    obtain ⟨h1, -, -⟩ := usbCfg_range out e
    simp only [Reg.USB_EPIN_CFG] at h1
    simp only [usbSrcRegs, Reg.USB_STATUS, Reg.EIU_SRC_CNT, List.mem_cons, List.not_mem_nil, or_false, not_or]; omega
  obtain ⟨t, ht, htook, -, hreg⟩ := okSettled_cfgCmd h hw (honly.portOnly.trans hraised.events.portOnly) hd (hraised.regsBut hl hregs)
  refine ⟨t, ht, htook, ?_, ?_⟩
  · rw [State.bit, hreg, hraised.regs _ hcfg]; exact h20
  · rw [State.bit, hreg]; exact hraised.raised (by decide)

theorem usbEpEnable_illegal (hoff : s.bit (usbCfg out e) 20 = false) (h21 : bget v 21 = false) (ht : 1 ≤ fget v 18 17) (hm : 1 ≤ fget v 16 15)
    (hlegal : ¬ epLegal s v) : ∃ t, exec (.usbEpEnable i out e v) s = .next t ∧ Took i (usbCfg out e :: Reg.USB_STATUS :: usbSrcRegs) s t ∧
      t.bit (usbCfg out e) 20 = false ∧ t.bit Reg.USB_STATUS 10 = true := by
  have apart : ∀ hi lo, lo ≤ hi → hi < 20 → fget (bset v 20 true) hi lo = fget v hi lo := fun hi lo hlo hi20 => fget_bset_apart (by decide) _ hlo (Or.inl hi20)
  have h20 : bget (bset v 20 true) 20 = true := by rw [bset_bit _ _ _ _ (by decide), if_pos rfl]
  have h21' : bget (bset v 20 true) 21 = false := by rw [bset_bit _ _ _ _ (by decide), if_neg (by decide), h21]
  have hlegal' : ¬ epLegal s (bset v 20 true) := by
    simpa only [epLegal, epWords, apart 18 17 (by decide) (by decide), apart 16 15 (by decide) (by decide), apart 10 0 (by decide) (by decide)] using hlegal
  have ht' : 1 ≤ fget (bset v 20 true) 18 17 := by rwa [apart 18 17 (by decide) (by decide)]
  have hm' : 1 ≤ fget (bset v 20 true) 16 15 := by rwa [apart 16 15 (by decide) (by decide)]
  have hw := (usbCfgWrite_enable hoff h21' h20 ht' hm' i.ep).2 hlegal'
  refine okSettled_cfgErr h hw (regsOnly_setReg ..) (fun a ha => reg_setReg_ne (List.ne_of_not_mem_cons ha) ..) (List.subset_cons_self ..) ?_
  rw [reg_setReg_self, epWord_en, hoff]

theorem usbEpEnable_untyped (hoff : s.bit (usbCfg out e) 20 = false) (h21 : bget v 21 = false) (ht : fget v 18 17 = 0) :
    ∃ t, exec (.usbEpEnable i out e v) s = .next t ∧ Took i (usbCfg out e :: Reg.USB_STATUS :: usbSrcRegs ++ rsvdRegs) s t ∧
      t.bit (usbCfg out e) 20 = false ∧ t.bit Reg.USB_STATUS 10 = true := by
  have h20 : bget (bset v 20 true) 20 = true := by rw [bset_bit _ _ _ _ (by decide), if_pos rfl]
  have h21' : bget (bset v 20 true) 21 = false := by rw [bset_bit _ _ _ _ (by decide), if_neg (by decide), h21]
  have ht' : (fget (bset v 20 true) 18 17 == 0) = true := by rw [fget_bset_apart (by decide) _ (by decide) (by decide), ht]; rfl
  have hw : usbCfgWrite i.ep out e (bset v 20 true) s = usbStat 10 (writeRegIf butEn i.ep (usbCfg out e) (bset v 20 true) s) := by
    simp only [usbCfgWrite, h21', hoff, h20, ht', Bool.false_eq_true, if_false, Bool.not_true, Bool.true_or, if_true]
  refine okSettled_cfgErr h hw (writeRegIf_only ..) (fun a ha => writeRegIf_regsBut butEn i.ep _ (bset v 20 true) s a (fun hm => ha ?_)) (by simp) ?_
  · rcases List.mem_cons.1 hm with rfl | hm
    · exact List.mem_cons_self ..
    · exact List.mem_append_right _ hm
  · rw [writeRegIf_self (usbCfg_not_rsvd out e), epWord_en, hoff]

theorem resetToggle_resets (hon : s.bit (usbCfg out e) 20 = true) : ∃ t, exec (.resetToggle i out e v) s = .next t ∧ Took i [usbCfg out e] s t ∧
    (t.usbEp (usbKey out e)).toggle = false ∧ t.bit (usbCfg out e) 19 = bget v 19 ∧ t.fld (usbCfg out e) 18 0 = s.fld (usbCfg out e) 18 0 ∧
    t.bit (usbCfg out e) 20 = true := by
  let u := updUsbEp (usbKey out e) (fun x => { x with toggle := false }) s
  let w := keptWord onlyStall (usbCfg out e) (bset v 21 true) u
  have h21 : bget (bset v 21 true) 21 = true := by rw [bset_bit _ _ _ _ (by decide), if_pos rfl]
  have hon' : u.bit (usbCfg out e) 20 = true := hon
  have hstall : epFields.filter onlyStall = [fd 19 19 "STALL" .rw 0] := by decide
  have hnone : keptReserved onlyStall (usbCfg out e) (bset v 21 true) u = false := by
    simp only [keptReserved, fieldsAt_usbCfg, hstall, List.any_cons, List.any_nil, fieldReserved_free (usbCfg_not_pin out e), Bool.or_self]
  have hw : usbCfgWrite i.ep out e (bset v 21 true) s = u.setReg (usbCfg out e) w := by
    have hkept : writeRegIf onlyStall i.ep (usbCfg out e) (bset v 21 true) u = u.setReg (usbCfg out e) w := by rw [writeRegIf_eq, hnone, if_neg Bool.false_ne_true]
    rw [← hkept]
    simp only [usbCfgWrite, h21, if_true]
    exact if_pos hon'
  have hchange : PortChange [usbCfg out e] s (u.setReg (usbCfg out e) w) := ((PortChange.refl _ s).setUsbEp _ _).setReg (by simp) _
  have hw19 : fget w 19 19 = fget v 19 19 := by
    refine (keptWord_fld (epField_mem (f := fd 19 19 "STALL" .rw 0) (by simp [epFields])) (by decide) (bset v 21 true) u).trans ?_
    rw [writtenField_free u (Or.inr (usbCfg_not_pin out e)), fget_bset_apart (by decide) _ (by decide) (by decide)]
  have hkeep : ∀ f : Fld, f.apart (fd 19 19 "STALL" .rw 0) = true → SameField f w (s.reg (usbCfg out e)) := fun f hf =>
    keptWord_other (fun g hg hk => by
      have hg' : g ∈ epFields.filter onlyStall := List.mem_filter.2 ⟨fieldsAt_usbCfg out e ▸ hg, hk⟩
      rw [hstall, List.mem_singleton] at hg'
      rw [hg']; exact hf) (bset v 21 true) u
  obtain ⟨t, ht, htook, husb, hreg⟩ := okSettled_cfgCmd h hw hchange.only (hchange.drained h.calm.sources) hchange.regs
  have hself : t.reg (usbCfg out e) = w := by rw [hreg, reg_setReg_self]
  refine ⟨t, ht, htook, ?_, ?_, ?_, ?_⟩
  · rw [State.usbEp, husb]
    exact congrArg UsbEp.toggle (usbEp_setUsbEp_self ..)
  · rw [State.bit, hself]; exact bget_of_fget hw19
  · rw [State.fld, hself]; exact (hkeep (fd 18 0 "" .rw 0) (by decide)).fget (by decide)
  · rw [State.bit, hself]; exact (hkeep (fd 20 20 "" .rw 0) (by decide) 20 (le_refl _) (le_refl _)).trans hon

end

end Sys2Proof.Machine
end

section
/-!
SUPPORT. The start of a USB frame (R577) and the feedback units that it serves (R578).
-/
set_option linter.constructorNameAsVariable false

namespace Sys2Proof.Machine

/-! ### A feedback unit at a SOF -/

/-- The registers that feedback unit u changes. -/
def fbRegs (u : Nat) : List Nat := Reg.USB_STATUS :: usbSrcRegs ++ [Reg.USB_SOF_MISS_CNT, Reg.USB_FB_VALUE u, Reg.USB_FB_CNT u]

/-- A register that lies below the event unit's counts, or among the port's own but the unit's. -/
theorem not_mem_fbRegs {a u : Nat} (h : a < 0x206000 ∨ 0x269000 ≤ a ∧ a ≠ Reg.USB_STATUS ∧ a ≠ Reg.USB_SOF_MISS_CNT ∧ a ≠ Reg.USB_FB_VALUE u ∧ a ≠ Reg.USB_FB_CNT u) :
    a ∉ fbRegs u := by
  simp only [Reg.USB_STATUS, Reg.USB_SOF_MISS_CNT, Reg.USB_FB_VALUE, Reg.USB_FB_CNT] at h
  simp only [fbRegs, usbSrcRegs, Reg.USB_STATUS, Reg.EIU_SRC_CNT, Reg.USB_SOF_MISS_CNT, Reg.USB_FB_VALUE, Reg.USB_FB_CNT, List.cons_append,
    List.nil_append, List.mem_cons, List.not_mem_nil, or_false, not_or]
  omega

/-- From s to t feedback unit u has seen a SOF: its own window and registers have changed, and event bit 11 may have been set. -/
structure FbSeen (u : Nat) (s t : State) : Prop where
  only : PortOnly s t
  drained : Drained t
  regs : RegsBut (fbRegs u) s t
  bits : ∀ k, k ≠ 11 → t.bit Reg.USB_STATUS k = s.bit Reg.USB_STATUS k
  update : s.bit Reg.USB_STATUS 11 = true → t.bit Reg.USB_STATUS 11 = true
  usb : t.usb = { s.usb with fb := t.usb.fb }
  others : ∀ w, w ≠ u → t.usbFb w = s.usbFb w

theorem FbSeen.of_change {u : Nat} {l : List Nat} {s t : State} (hd : Drained s) (h : PortChange l s t) (hl : l ⊆ fbRegs u) (hst : Reg.USB_STATUS ∉ l)
    (husb : t.usb = { s.usb with fb := t.usb.fb }) (ho : ∀ w, w ≠ u → t.usbFb w = s.usbFb w) : FbSeen u s t where
  only := h.only
  drained := h.drained hd
  regs := (h.mono hl).regs
  bits k _ := by rw [State.bit, h.regs _ hst, State.bit]
  update h11 := by rw [State.bit, h.regs _ hst]; exact h11
  usb := husb
  others := ho

/-- The unit's event bit after the change of its window and its value. -/
theorem FbSeen.raised {u : Nat} {s t : State} (h : FbSeen u s t) : FbSeen u s (usbStat 11 t) ∧ (usbStat 11 t).bit Reg.USB_STATUS 11 = true := by
  obtain ⟨hraised, hd⟩ := usbStat_raised 11 h.drained
  have h11 := hraised.raised (by decide)
  have husb : (usbStat 11 t).usb = t.usb := hraised.usb
  refine ⟨⟨h.only.trans hraised.events.portOnly, hd, hraised.regsBut (List.subset_append_left ..) h.regs, fun k hk => ?_, fun _ => h11, ?_, fun w hw => ?_⟩, h11⟩
  · exact (hraised.bit (by decide) hk).trans (h.bits k hk)
  · rw [husb]; exact h.usb
  · rw [State.usbFb, husb]; exact h.others w hw

theorem setUsbFb_change {l : List Nat} (u : Nat) (v : UsbFb) (s : State) : PortChange l s (setUsbFb u v s) := (PortChange.refl l s).updUsb _

@[simp] theorem usbFb_setUsbFb_self (u : Nat) (v : UsbFb) (s : State) : (setUsbFb u v s).usbFb u = v := by simp [setUsbFb, State.usbFb, updUsb]

theorem usbFb_setUsbFb_ne {u w : Nat} (h : w ≠ u) (v : UsbFb) (s : State) : (setUsbFb u v s).usbFb w = s.usbFb w := by
  simp only [setUsbFb, State.usbFb, updUsb]; exact SMap.getD_put_ne h _ _ _ _

theorem fbValue_change {l : List Nat} (s : State) (u d : Nat) : PortChange l s (fbValue s u d).2 ∧ (fbValue s u d).2.usb = s.usb := by
  unfold fbValue
  extract_lets c p q k
  split
  · exact ⟨.refl .., rfl⟩
  · split
    · exact ⟨(PortChange.refl ..).takeFresh, rfl⟩
    · exact ⟨.refl .., rfl⟩

/-- The value of a unit whose window of d ticks closes, and the next window, opened at once. -/
def fbClosed (u d : Nat) (s : State) : State :=
  let f := fbValue s u d
  (setUsbFb u ⟨some s.now, 0⟩ (f.2.setReg (Reg.USB_FB_VALUE u) (nw ((f.1 + (s.reg (Reg.USB_FB_ADJ u)).toNat) % 2 ^ 32)))).inc (Reg.USB_FB_CNT u)

theorem fbClosed_seen {u d : Nat} {s : State} (hd : Drained s) : FbSeen u s (fbClosed u d s) := by
  obtain ⟨hchange, husb⟩ := fbValue_change (l := [Reg.USB_FB_VALUE u, Reg.USB_FB_CNT u]) s u d
  have hset := hchange.setReg (a := Reg.USB_FB_VALUE u) (by simp) (nw (((fbValue s u d).1 + (s.reg (Reg.USB_FB_ADJ u)).toNat) % 2 ^ 32))
  have hnot : Reg.USB_STATUS ∉ [Reg.USB_FB_VALUE u, Reg.USB_FB_CNT u] := by
    simp only [Reg.USB_STATUS, Reg.USB_FB_VALUE, Reg.USB_FB_CNT, List.mem_cons, List.not_mem_nil, or_false, not_or]; omega
  refine .of_change hd ((hset.trans (setUsbFb_change ..)).inc (by simp)) (by simp [fbRegs]) hnot ?_ fun w hw => ?_
  · show ({ (fbValue s u d).2.usb with fb := _ } : Usb) = _
    rw [husb]; rfl
  · have : (fbClosed u d s).usbFb w = (fbValue s u d).2.usbFb w := usbFb_setUsbFb_ne hw ..
    rw [this, State.usbFb, husb]; rfl

theorem fbSof_seen (miss : Bool) {s : State} (hd : Drained s) (u : Nat) : FbSeen u s (fbSof miss s u) := by
  have opened : ∀ v, FbSeen u s (setUsbFb u v s) := fun v =>
    .of_change hd (setUsbFb_change (l := []) ..) (List.nil_subset _) List.not_mem_nil rfl fun w hw => usbFb_setUsbFb_ne hw ..
  unfold fbSof
  split
  · exact .of_change hd (.refl [] s) (List.nil_subset _) List.not_mem_nil rfl fun _ _ => rfl
  · split
    · exact opened _
    · split_ifs
      · exact .of_change hd (((PortChange.refl [Reg.USB_SOF_MISS_CNT] s).inc (by simp)).trans (setUsbFb_change ..)) (by simp [fbRegs]) (by decide) rfl
          fun w hw => usbFb_setUsbFb_ne hw ..
      · exact opened _
      · exact (fbClosed_seen hd).raised.1

/-- An enabled unit whose window ends with this SOF. -/
structure FbEnds (u t0 : Nat) (s : State) : Prop where
  enabled : s.bit (Reg.USB_FB_CTL u) 0 = true
  opened : (s.usbFb u).openTick = some t0
  last : (s.usbFb u).sofs + 1 = 2 ^ s.fld (Reg.USB_FB_CTL u) 11 8
  rate : s.bit (Reg.USB_FB_CTL u) 4 = false

/-- The value of R578 from the rate generator that the unit measures. -/
def fbOfRate (u t0 : Nat) (s : State) : Word :=
  BitVec.ofNat 40 (((s.now - t0) * s.fld (Reg.TB_RGEN_DEN (s.fld (Reg.USB_FB_CTL u) 7 5)) 19 0 * 2 ^ (if usbHs s then 16 else 14) /
    (s.fld (Reg.TB_RGEN_NUM (s.fld (Reg.USB_FB_CTL u) 7 5)) 31 0 * 2 ^ s.fld (Reg.USB_FB_CTL u) 11 8) + (s.reg (Reg.USB_FB_ADJ u)).toNat) % 2 ^ 32)

theorem fbSof_ends {u t0 : Nat} {s : State} (h : FbEnds u t0 s) : fbSof false s u = usbStat 11 (fbClosed u (s.now - t0) s) := by
  simp only [fbSof, h.enabled, h.opened, h.last, Bool.not_true, Bool.false_eq_true, if_false, lt_self_iff_false, fbClosed]

theorem fbClosed_value {u t0 : Nat} {s : State} (h : FbEnds u t0 s) : (fbClosed u (s.now - t0) s).reg (Reg.USB_FB_VALUE u) = fbOfRate u t0 s := by
  have hne : Reg.USB_FB_VALUE u ≠ Reg.USB_FB_CNT u := by simp only [Reg.USB_FB_VALUE, Reg.USB_FB_CNT]; omega
  have hvalue : (fbValue s u (s.now - t0)).1 = (s.now - t0) * s.fld (Reg.TB_RGEN_DEN (s.fld (Reg.USB_FB_CTL u) 7 5)) 19 0 * 2 ^ (if usbHs s then 16 else 14) /
      (s.fld (Reg.TB_RGEN_NUM (s.fld (Reg.USB_FB_CTL u) 7 5)) 31 0 * 2 ^ s.fld (Reg.USB_FB_CTL u) 11 8) := by
    simp only [fbValue, h.rate, Bool.not_false, if_true]
  rw [fbClosed, reg_inc_ne hne, setUsbFb, updUsb_get_reg, reg_setReg_self, hvalue, nw, fbOfRate]

/-- What such a unit leaves: its value, its window opened anew, and the event bit. -/
theorem fbSof_closes {u t0 : Nat} {s : State} (hd : Drained s) (hu : u < 2) (h : FbEnds u t0 s) : (fbSof false s u).reg (Reg.USB_FB_VALUE u) = fbOfRate u t0 s ∧
    (fbSof false s u).usbFb u = ⟨some s.now, 0⟩ ∧ (fbSof false s u).bit Reg.USB_STATUS 11 = true := by
  have hseen := fbClosed_seen (u := u) (d := s.now - t0) hd
  obtain ⟨hraised, -⟩ := usbStat_raised 11 hseen.drained
  have hne : Reg.USB_FB_VALUE u ∉ Reg.USB_STATUS :: usbSrcRegs := by
    simp only [usbSrcRegs, Reg.USB_STATUS, Reg.USB_FB_VALUE, Reg.EIU_SRC_CNT, List.mem_cons, List.not_mem_nil, or_false, not_or]; omega
  rw [fbSof_ends h]
  refine ⟨(hraised.regs _ hne).trans (fbClosed_value h), ?_, hraised.raised (by decide)⟩
  rw [State.usbFb, hraised.usb]
  exact usbFb_setUsbFb_self ..

/-- Two states in which feedback unit u reads alike. -/
structure FbAlike (u : Nat) (s t : State) : Prop where
  ctl : t.reg (Reg.USB_FB_CTL u) = s.reg (Reg.USB_FB_CTL u)
  adj : t.reg (Reg.USB_FB_ADJ u) = s.reg (Reg.USB_FB_ADJ u)
  den : ∀ g, g < 8 → t.reg (Reg.TB_RGEN_DEN g) = s.reg (Reg.TB_RGEN_DEN g)
  num : ∀ g, g < 8 → t.reg (Reg.TB_RGEN_NUM g) = s.reg (Reg.TB_RGEN_NUM g)
  speed : usbHs t = usbHs s
  now : t.now = s.now
  window : t.usbFb u = s.usbFb u

theorem FbAlike.ends {u t0 : Nat} {s t : State} (h : FbAlike u s t) (he : FbEnds u t0 s) : FbEnds u t0 t ∧ fbOfRate u t0 t = fbOfRate u t0 s := by
  have hg : s.fld (Reg.USB_FB_CTL u) 7 5 < 8 := fget_lt _ 7 5
  refine ⟨⟨?_, ?_, ?_, ?_⟩, ?_⟩
  · rw [State.bit, h.ctl]; exact he.enabled
  · rw [h.window]; exact he.opened
  · rw [h.window, State.fld, h.ctl]; exact he.last
  · rw [State.bit, h.ctl]; exact he.rate
  · simp only [State.fld] at hg
    simp only [fbOfRate, State.fld, h.ctl, h.adj, h.speed, h.now, h.den _ hg, h.num _ hg]

/-- What unit u reads stays as it was while another unit sees the SOF. -/
theorem FbSeen.alike {u w : Nat} {s t : State} (h : FbSeen w s t) (hu : u < 2) (hw : w < 2) (hne : u ≠ w) : FbAlike u s t := by
  have port : ∀ a, 0x269000 ≤ a → a ≠ Reg.USB_STATUS → a ≠ Reg.USB_SOF_MISS_CNT → a ≠ Reg.USB_FB_VALUE w → a ≠ Reg.USB_FB_CNT w → t.reg a = s.reg a :=
    fun a h0 h1 h2 h3 h4 => h.regs a (not_mem_fbRegs (Or.inr ⟨h0, h1, h2, h3, h4⟩))
  have hctl : t.reg (Reg.USB_FB_CTL u) = s.reg (Reg.USB_FB_CTL u) := by
    apply port <;> simp only [Reg.USB_FB_CTL, Reg.USB_STATUS, Reg.USB_SOF_MISS_CNT, Reg.USB_FB_VALUE, Reg.USB_FB_CNT] <;> omega
  have hadj : t.reg (Reg.USB_FB_ADJ u) = s.reg (Reg.USB_FB_ADJ u) := by
    apply port <;> simp only [Reg.USB_FB_ADJ, Reg.USB_STATUS, Reg.USB_SOF_MISS_CNT, Reg.USB_FB_VALUE, Reg.USB_FB_CNT] <;> omega
  have hden : ∀ g, g < 8 → t.reg (Reg.TB_RGEN_DEN g) = s.reg (Reg.TB_RGEN_DEN g) :=
    fun g hg => h.regs _ (not_mem_fbRegs (Or.inl (by simp only [Reg.TB_RGEN_DEN]; omega)))
  have hnum : ∀ g, g < 8 → t.reg (Reg.TB_RGEN_NUM g) = s.reg (Reg.TB_RGEN_NUM g) :=
    fun g hg => h.regs _ (not_mem_fbRegs (Or.inl (by simp only [Reg.TB_RGEN_NUM]; omega)))
  have hhs : usbHs t = usbHs s := by
    have hctl' : t.reg Reg.USB_CTL = s.reg Reg.USB_CTL := by
      apply port <;> simp only [Reg.USB_CTL, Reg.USB_STATUS, Reg.USB_SOF_MISS_CNT, Reg.USB_FB_VALUE, Reg.USB_FB_CNT] <;> omega
    have hspeed : t.fld Reg.USB_STATUS 1 0 = s.fld Reg.USB_STATUS 1 0 := fget_of_bits (by decide) (fun j _ hj => h.bits j (by omega))
    simp only [usbHs, hspeed, State.bit, hctl']
  have hnow : t.now = s.now := by rw [h.only]; rfl
  exact ⟨hctl, hadj, hden, hnum, hhs, hnow, h.others u hne⟩

end Sys2Proof.Machine
end

section
/-!
SUPPORT. USB endpoints 1 to 8 and the start of a frame (O60).
-/
set_option linter.constructorNameAsVariable false

namespace Sys2Proof.Machine

/-! ### IN packets as commands (R575) -/

theorem usbSent_ep (e k : Nat) (os : List Nat) (w : State) : (usbSent e os w).usbEp k = w.usbEp k := rfl

theorem usbSent_iso {e : Nat} {w : State} (h : usbIso w false e = false) (os : List Nat) : usbIso (usbSent e os w) false e = false := by
  rw [usbIso, usbCfg, if_neg Bool.false_ne_true] at h ⊢
  rw [State.fld, (usbSent_change e os w).regs _ (cfg_not_sent e)]
  exact h

/-- A packet sent that the host has taken. -/
theorem okSettled_inTaken {w : State} {e : Nat} (he : e < 8) (r : Nat) (p : List Nat) (z : Bool) (hc : Calm w) (hiso : usbIso w false e = false) :
    ∃ t, okSettled (usbInTaken e r p z (usbSent e p w)) = .next t ∧
    (t.usbEp (1 + e)).toggle = !(w.usbEp (1 + e)).toggle ∧ (t.usbEp (1 + e)).data = (w.usbEp (1 + e)).data.drop p.length ∧
    t.reg (Reg.USB_EPIN_PKT_CNT e) = w.reg (Reg.USB_EPIN_PKT_CNT e) + 1 ∧ t.reg (Reg.USB_EPIN_LAST_TICK e) = w.nowLo ∧
    t.reg (Reg.USB_EPIN_OCTET_CNT e) = w.reg (Reg.USB_EPIN_OCTET_CNT e) + BitVec.ofNat 40 p.length := by
  have hsent := usbSent_change e p w
  obtain ⟨hchange, hep⟩ := usbInTaken_spec (e := e) r p z (usbSent_iso hiso p)
  obtain ⟨ht, -, -⟩ := okSettled_port hc (hsent.trans (hchange.mono (List.nil_subset _)))
  obtain ⟨hcnt, htick, hoct⟩ := usbSent_counts he p w
  have hreg : ∀ a, (latched (usbInTaken e r p z (usbSent e p w))).reg a = (usbSent e p w).reg a :=
    fun a => (latched_get_reg ..).trans (hchange.regs a List.not_mem_nil)
  have hx : (latched (usbInTaken e r p z (usbSent e p w))).usbEp (1 + e) = inTaken (w.usbEp (1 + e)) p z := by
    rw [← usbSent_ep e (1 + e) p w, ← hep]
    rfl
  exact ⟨_, ht, by rw [hx]; rfl, by rw [hx]; rfl, (hreg _).trans hcnt, (hreg _).trans htick, (hreg _).trans hoct⟩

/-- A packet sent that the host has not taken. -/
theorem okSettled_inTimedOut {w : State} (e : Nat) (p : List Nat) (hc : Calm w) : ∃ t, okSettled ((usbSent e p w).inc Reg.USB_TIMEOUT_CNT) = .next t ∧
    { t.usb with line := w.usb.line } = w.usb ∧ t.usb.line = p ∧ t.reg Reg.USB_TIMEOUT_CNT = w.reg Reg.USB_TIMEOUT_CNT + 1 := by
  have hsent := usbSent_change e p w
  have hnot : Reg.USB_TIMEOUT_CNT ∉ inSentRegs e := by
    simp only [inSentRegs, Reg.USB_TIMEOUT_CNT, Reg.USB_TX_PKT_CNT, Reg.USB_EPIN_PKT_CNT, Reg.USB_EPIN_OCTET_CNT, Reg.USB_EPIN_LAST_TICK, List.mem_cons,
      List.not_mem_nil, or_false, not_or]; omega
  obtain ⟨ht, -, -⟩ := okSettled_port hc ((hsent.mono (List.subset_cons_self Reg.USB_TIMEOUT_CNT _)).inc (List.mem_cons_self ..))
  refine ⟨_, ht, rfl, rfl, ?_⟩
  rw [latched_get_reg, reg_inc_self, hsent.regs _ hnot]

/-- A packet that an OUT endpoint has taken. -/
theorem okSettled_outTaken {s : State} {e : Nat} (he : e < 8) (os : List Nat) (hc : Calm s) : ∃ t, okSettled (outTaken e os s) = .next t ∧
    t.usbEp (17 + e) = epTook (s.usbEp (17 + e)) os (s.reg Reg.USB_SOF_TICK) ∧ t.reg (Reg.USB_EPOUT_PKT_CNT e) = s.reg (Reg.USB_EPOUT_PKT_CNT e) + 1 ∧
    t.reg (Reg.USB_EPOUT_LAST_TICK e) = s.nowLo ∧
    t.reg (Reg.USB_EPOUT_OCTET_CNT e) = s.reg (Reg.USB_EPOUT_OCTET_CNT e) + BitVec.ofNat 40 os.length ∧ SameMemory s t := by
  obtain ⟨hs, -, hm⟩ := okSettled_port hc (outTaken_change e os s)
  obtain ⟨hcnt, htick, hoct⟩ := outTaken_counts he os s
  have hep : (latched (outTaken e os s)).usbEp (17 + e) = epTook (s.usbEp (17 + e)) os (s.reg Reg.USB_SOF_TICK) := by
    rw [← outTaken_ep e os s]; rfl
  exact ⟨_, hs, hep, (latched_get_reg ..).trans hcnt, (latched_get_reg ..).trans htick, (latched_get_reg ..).trans hoct, hm⟩

/-! ### The start of a frame (R577) -/

/-- The number of a SOF, in frames at full speed and in microframes at high speed. -/
def sofNumber (frame micro : Nat) (s : State) : Nat := if usbHs s then frame * 8 + micro else frame

/-- A SOF was missed before this one. -/
def sofMissed (frame micro : Nat) (s : State) : Bool :=
  match s.usb.lastSof with
  | some l => (l + 1) % (if usbHs s then 16384 else 2048) != sofNumber frame micro s % (if usbHs s then 16384 else 2048)
  | none => false

/-- The frame's number and tick stand in their registers. -/
def sofNoted (frame micro : Nat) (s : State) : State :=
  (((updUsb (fun u => { u with lastSof := some (sofNumber frame micro s % (if usbHs s then 16384 else 2048)) }) s).setReg Reg.USB_FRAME
    (nw (frame * 8 + (if usbHs s then micro else 0)))).setReg Reg.USB_SOF_TICK s.nowLo).inc Reg.USB_SOF_CNT

/-- And the service intervals that it ends are closed. -/
def sofBegun (frame micro : Nat) (s : State) : State := (List.range 8).foldl (isoClose (sofNumber frame micro s)) (sofNoted frame micro s)

/-- The registers of a frame. -/
def sofRegs : List Nat := [Reg.USB_FRAME, Reg.USB_SOF_TICK, Reg.USB_SOF_CNT]

theorem isoClose_change {l : List Nat} (n : Nat) (s : State) (e : Nat) : PortChange l s (isoClose n s e) ∧ (isoClose n s e).usb = { s.usb with eps := (isoClose n s e).usb.eps } := by
  unfold isoClose
  split
  · exact ⟨(PortChange.refl l s).setUsbEp _ _, rfl⟩
  · exact ⟨.refl l s, rfl⟩

theorem sofBegun_change (frame micro : Nat) (s : State) : PortChange sofRegs s (sofBegun frame micro s) ∧
    (sofBegun frame micro s).usb.fb = s.usb.fb ∧ (sofBegun frame micro s).usb.lastSof = some (sofNumber frame micro s % (if usbHs s then 16384 else 2048)) ∧
    ∀ a, (sofBegun frame micro s).reg a = (sofNoted frame micro s).reg a := by
  have hnoted : PortChange sofRegs s (sofNoted frame micro s) :=
    ((((PortChange.refl _ s).updUsb _).setReg (by decide) _).setReg (by decide) _).inc (by decide)
  have hfold : PortChange [] (sofNoted frame micro s) (sofBegun frame micro s) ∧
      (sofBegun frame micro s).usb.fb = (sofNoted frame micro s).usb.fb ∧ (sofBegun frame micro s).usb.lastSof = (sofNoted frame micro s).usb.lastSof := by
    unfold sofBegun
    refine List.foldlRecOn (motive := fun t => PortChange [] (sofNoted frame micro s) t ∧ t.usb.fb = (sofNoted frame micro s).usb.fb ∧
      t.usb.lastSof = (sofNoted frame micro s).usb.lastSof) _ _ ⟨.refl _ _, rfl, rfl⟩ ?_
    rintro t ⟨hchange, hfb, hlast⟩ e -
    obtain ⟨hclose, husb⟩ := isoClose_change (l := []) (sofNumber frame micro s) t e
    exact ⟨hchange.trans hclose, by rw [husb]; exact hfb, by rw [husb]; exact hlast⟩
  obtain ⟨hchange, hfb, hlast⟩ := hfold
  exact ⟨hnoted.trans (hchange.mono (List.nil_subset _)), hfb, hlast, fun a => hchange.regs a List.not_mem_nil⟩

theorem usbSofPkt_eq {s : State} (hup : usbUp s = true) (hawake : usbSuspended s = false) (frame micro : Nat) : usbSofPkt frame micro s =
    usbStat 6 (fbSof (sofMissed frame micro s) (fbSof (sofMissed frame micro s) (sofBegun frame micro s) 0) 1) := by
  have hrange : List.range 2 = [0, 1] := rfl
  simp only [usbSofPkt, hup, hawake, hrange, List.foldl_cons, List.foldl_nil, Bool.not_true, Bool.or_self, Bool.false_eq_true, if_false]
  rfl

section
variable {s : State} (hc : Calm s) (hup : usbUp s = true) (hawake : usbSuspended s = false) (frame micro : Nat)
include hc hup hawake

/-- A SOF ends with what the two feedback units make of the frame begun, and the event bit of frames. -/
theorem okSettled_sof : let b := sofBegun frame micro s
    let x := fbSof (sofMissed frame micro s) b 0
    let y := fbSof (sofMissed frame micro s) x 1
    Drained b ∧ FbSeen 0 b x ∧ FbSeen 1 x y ∧ ∃ t, okSettled (usbSofPkt frame micro s) = .next t ∧ Raised 6 y t ∧ SameMemory s t := by
  intro b x y
  obtain ⟨hbegun, -⟩ := sofBegun_change frame micro s
  have hb : Drained b := hbegun.drained hc.sources
  have hx : FbSeen 0 b x := fbSof_seen _ hb 0
  have hy : FbSeen 1 x y := fbSof_seen _ hx.drained 1
  obtain ⟨hraised, hd⟩ := usbStat_raised 6 hy.drained
  have honly : PortOnly s (usbStat 6 y) := (((hbegun.only.trans hx.only).trans hy.only)).trans hraised.events.portOnly
  refine ⟨hb, hx, hy, latched (usbStat 6 y), ?_, hraised.latched, honly.latched.memory⟩
  rw [usbSofPkt_eq hup hawake]
  exact okSettled_calm (hc.portOnly honly hd)

end

/-- What a feedback unit reads is none of the frame's. -/
theorem sofBegun_alike {u : Nat} (hu : u < 2) (frame micro : Nat) (s : State) : FbAlike u s (sofBegun frame micro s) := by
  obtain ⟨hchange, hfb, -, -⟩ := sofBegun_change frame micro s
  have keep : ∀ a, a ≠ Reg.USB_FRAME → a ≠ Reg.USB_SOF_TICK → a ≠ Reg.USB_SOF_CNT → (sofBegun frame micro s).reg a = s.reg a :=
    fun a h1 h2 h3 => hchange.regs a (by simp [sofRegs, h1, h2, h3])
  refine ⟨?_, ?_, fun g hg => ?_, fun g hg => ?_, usbHs_congr ?_ ?_, ?_, by rw [State.usbFb, hfb, State.usbFb]⟩
  · apply keep <;> simp only [Reg.USB_FB_CTL, Reg.USB_FRAME, Reg.USB_SOF_TICK, Reg.USB_SOF_CNT] <;> omega
  · apply keep <;> simp only [Reg.USB_FB_ADJ, Reg.USB_FRAME, Reg.USB_SOF_TICK, Reg.USB_SOF_CNT] <;> omega
  · apply keep <;> simp only [Reg.TB_RGEN_DEN, Reg.USB_FRAME, Reg.USB_SOF_TICK, Reg.USB_SOF_CNT] <;> omega
  · apply keep <;> simp only [Reg.TB_RGEN_NUM, Reg.USB_FRAME, Reg.USB_SOF_TICK, Reg.USB_SOF_CNT] <;> omega
  · exact keep _ (by decide) (by decide) (by decide)
  · exact keep _ (by decide) (by decide) (by decide)
  · rw [hchange.only]; rfl

theorem frame_word {frame micro : Nat} (hf : frame < 2048) (hm : micro < 8) : fget (nw (frame * 8 + micro)) 13 3 = frame ∧ fget (nw (frame * 8 + micro)) 2 0 = micro := by
  simp only [fget, nw, BitVec.toNat_ofNat]
  omega

theorem sofNumber_small {frame micro : Nat} (hf : frame < 2048) (hm : micro < 8) (s : State) :
    sofNumber frame micro s % (if usbHs s then 16384 else 2048) = sofNumber frame micro s := by
  unfold sofNumber
  split <;> exact Nat.mod_eq_of_lt (by omega)

/-- The frame's own registers are none of the feedback units'. -/
theorem sofRegs_kept {a : Nat} (ha : a ∈ sofRegs) : a ∉ fbRegs 0 ∧ a ∉ fbRegs 1 ∧ a ∉ Reg.USB_STATUS :: usbSrcRegs := by
  have hall : ∀ a, a ∈ sofRegs → a ∉ fbRegs 0 ∧ a ∉ fbRegs 1 ∧ a ∉ Reg.USB_STATUS :: usbSrcRegs := by decide
  exact hall a ha

section
variable {s : State} (hc : Calm s) (hup : usbUp s = true) (hawake : usbSuspended s = false) (frame : BitVec 11) (micro : Fin 8)
include hc hup hawake

theorem exec_usbSof : ∃ t, exec (.usbSof frame micro) s = .next t ∧ t.fld Reg.USB_FRAME 13 3 = frame.toNat ∧
    t.fld Reg.USB_FRAME 2 0 = (if usbHs s then micro.val else 0) ∧ t.reg Reg.USB_SOF_TICK = s.nowLo ∧ t.bit Reg.USB_STATUS 6 = true ∧
    t.reg Reg.USB_SOF_CNT = s.reg Reg.USB_SOF_CNT + 1 ∧ t.usb.lastSof = some (sofNumber frame.toNat micro s) ∧ SameMemory s t := by
  obtain ⟨-, hx, hy, t, ht, hraised, hm⟩ := okSettled_sof hc hup hawake frame.toNat micro
  obtain ⟨-, -, hlast, hregs⟩ := sofBegun_change frame.toNat micro s
  have hkept : ∀ a, a ∈ sofRegs → t.reg a = (sofNoted frame.toNat micro s).reg a := fun a ha => by
    obtain ⟨h0, h1, h2⟩ := sofRegs_kept ha
    rw [hraised.regs a h2, hy.regs a h1, hx.regs a h0, hregs]
  have hfields : ∀ m, m < 8 → fget (nw (frame.toNat * 8 + m)) 13 3 = frame.toNat ∧ fget (nw (frame.toNat * 8 + m)) 2 0 = m := fun m => frame_word frame.isLt
  have hmicro : (if usbHs s then micro.val else 0) < 8 := by split <;> omega
  have hframe : t.reg Reg.USB_FRAME = nw (frame.toNat * 8 + (if usbHs s then micro.val else 0)) := by
    rw [hkept _ (by decide), sofNoted, reg_inc_ne (by decide), reg_setReg_ne (by decide), reg_setReg_self]
  refine ⟨t, ht, ?_, ?_, ?_, hraised.raised (by decide), ?_, ?_, hm⟩
  · rw [State.fld, hframe]; exact (hfields _ hmicro).1
  · rw [State.fld, hframe]; exact (hfields _ hmicro).2
  · rw [hkept _ (by decide), sofNoted, reg_inc_ne (by decide), reg_setReg_self]
  · rw [hkept _ (by decide), sofNoted, reg_inc_self, reg_setReg_ne (by decide), reg_setReg_ne (by decide), updUsb_get_reg]
  · rw [hraised.usb, hy.usb, hx.usb]
    exact hlast.trans (congrArg some (sofNumber_small frame.isLt micro.isLt s))

/-- The window of a feedback unit that ends with the SOF. -/
theorem exec_usbSof_closes {u t0 : Nat} (hu : u < 2) (hends : FbEnds u t0 s) (hlast : s.usb.lastSof = none) : ∃ t, exec (.usbSof frame micro) s = .next t ∧
    (t.usbFb u).openTick = some s.now ∧ (t.usbFb u).sofs = 0 ∧ t.bit Reg.USB_STATUS 11 = true ∧ t.reg (Reg.USB_FB_VALUE u) = fbOfRate u t0 s := by
  obtain ⟨hb, hx, hy, t, ht, hraised, -⟩ := okSettled_sof hc hup hawake frame.toNat micro
  have hmiss : sofMissed frame.toNat micro s = false := by simp [sofMissed, hlast]
  rw [hmiss] at hx hy hraised
  have hbegun : FbAlike u s (sofBegun frame.toNat micro s) := sofBegun_alike hu ..
  obtain ⟨hendsb, hrate⟩ := hbegun.ends hends
  have hvalue : Reg.USB_FB_VALUE u ∉ Reg.USB_STATUS :: usbSrcRegs := by
    simp only [usbSrcRegs, Reg.USB_STATUS, Reg.USB_FB_VALUE, Reg.EIU_SRC_CNT, List.mem_cons, List.not_mem_nil, or_false, not_or]; omega
  have husb : ∀ w, t.usbFb w = (fbSof false (fbSof false (sofBegun frame.toNat micro s) 0) 1).usbFb w := fun w => by rw [State.usbFb, hraised.usb, State.usbFb]
  have h11 : t.bit Reg.USB_STATUS 11 = (fbSof false (fbSof false (sofBegun frame.toNat micro s) 0) 1).bit Reg.USB_STATUS 11 := hraised.bit (by decide) (by decide)
  refine ⟨t, ht, ?_⟩
  rw [husb, h11, hraised.regs _ hvalue]
  rcases (by omega : u = 0 ∨ u = 1) with rfl | rfl
  · obtain ⟨hval, hfb0, hup0⟩ := fbSof_closes hb (by decide) hendsb
    have hkept : Reg.USB_FB_VALUE 0 ∉ fbRegs 1 := by decide
    rw [hy.others 0 (by decide), hfb0, hy.regs _ hkept, hval, hrate, hbegun.now]
    exact ⟨rfl, rfl, hy.update hup0, rfl⟩
  · have halike := hx.alike (u := 1) (by decide) (by decide) (by decide)
    obtain ⟨hendsx, hratex⟩ := halike.ends hendsb
    obtain ⟨hval, hfb1, hup1⟩ := fbSof_closes hx.drained (by decide) hendsx
    rw [hfb1, hval, hratex, hrate, halike.now, hbegun.now]
    exact ⟨rfl, rfl, hup1, rfl⟩

end

/-- Settles O60: each command of an endpoint and each packet by its own effect; of a SOF, the two feedback units see it one after the other. -/
theorem usbEndpoints : Obligations.UsbEndpoints := by
  intro i v s
  refine ⟨fun out e => ⟨fun h hoff h21 => ⟨fun ht hm hl => usbEpEnable_legal h hoff h21 ht hm hl, fun ht hm hl => usbEpEnable_illegal h hoff h21 ht hm hl,
      usbEpEnable_untyped h hoff h21⟩, resetToggle_resets⟩, fun e acked ⟨hup, hawake, hen, hflows, hserved, hsound, hown⟩ => ⟨fun ⟨hc, hiso, hb⟩ => ?_,
    fun r hb p z ⟨hc, _, hiso, hnext⟩ => ⟨fun hack => ?_, fun hack => ?_⟩⟩, fun e os toggle ⟨hc, hup, hawake⟩ => ⟨fun hen hiso => ?_,
    fun ⟨hen, hflows, hiso, hserved, hlen, hsound⟩ => ⟨fun hroom ht => ?_, fun hroom ht => ?_, fun hfull => ?_⟩⟩,
    fun frame micro ⟨hc, hup, hawake⟩ => ⟨exec_usbSof hc hup hawake frame micro,
      fun u t0 hu ⟨hon, hopen, hlast, hsofs, hrate⟩ => exec_usbSof_closes hc hup hawake frame micro hu ⟨hon, hopen, hsofs, hrate⟩ hlast⟩⟩
  · have hready : InReady s e := ⟨hup, hawake, hen, hflows, hserved, hsound, hown⟩
    obtain ⟨t, ht, hcnt, husb, hregs, hm⟩ := okSettled_counted hc (Reg.USB_EPIN_NAK_CNT e)
    exact ⟨t, (congrArg okSettled (usbIn_unbound hready hiso hb acked)).trans ht, hcnt, husb, hregs, hm⟩
  · have hready : InReady s e := ⟨hup, hawake, hen, hflows, hserved, hsound, hown⟩
    obtain ⟨t, ht, hend⟩ := okSettled_inTaken e.isLt r p z hc hiso
    exact ⟨t, (congrArg okSettled ((usbIn_sends hready hb hiso hnext acked).trans (if_pos hack))).trans ht, hend⟩
  · have hready : InReady s e := ⟨hup, hawake, hen, hflows, hserved, hsound, hown⟩
    obtain ⟨t, ht, hend⟩ := okSettled_inTimedOut e p hc
    have hneg : ¬ acked = true := by simp [hack]
    exact ⟨t, (congrArg okSettled ((usbIn_sends hready hb hiso hnext acked).trans (if_neg hneg))).trans ht, hend⟩
  · obtain ⟨t, ht, hcnt, husb, hregs, -⟩ := okSettled_counted hc Reg.USB_CRC_ERR_CNT
    exact ⟨t, (congrArg okSettled (usbOut_crc hup hawake hen hiso _ toggle)).trans ht, hcnt, husb, hregs⟩
  · have hlen' : (os.map BitVec.toNat).length ≤ s.fld (Reg.USB_EPOUT_CFG e) 10 0 := by rwa [List.length_map]
    have he := usbOut_takes hup hawake hen hiso hflows hserved hsound hlen' hroom
    rw [← ht] at he
    obtain ⟨t, hs, hep, hcnt, htick, hoct, hm⟩ := okSettled_outTaken e.isLt (os.map BitVec.toNat) hc
    rw [List.length_map] at hoct
    exact ⟨t, (congrArg okSettled he).trans hs, hep, hcnt, htick, hoct, hm⟩
  · have hlen' : (os.map BitVec.toNat).length ≤ s.fld (Reg.USB_EPOUT_CFG e) 10 0 := by rwa [List.length_map]
    obtain ⟨t, he, hcnt, husb, hregs, -⟩ := okSettled_counted hc Reg.USB_TOGGLE_ERR_CNT
    exact ⟨t, (congrArg okSettled (usbOut_repeated hup hawake hen hiso hflows hserved hsound hlen' hroom ht)).trans he, husb, hcnt, hregs⟩
  · have hlen' : (os.map BitVec.toNat).length ≤ s.fld (Reg.USB_EPOUT_CFG e) 10 0 := by rwa [List.length_map]
    obtain ⟨t, he, hcnt, husb, hregs, -⟩ := okSettled_counted hc (Reg.USB_EPOUT_NAK_CNT e)
    exact ⟨t, (congrArg okSettled (usbOut_full hup hawake hen hiso hflows hserved hsound hlen' hfull toggle)).trans he, husb, hcnt, hregs⟩

end Sys2Proof.Machine
end

section
/-!
SUPPORT. The boot sequencer's own commands: fuses, the presence window, relocking debug (R638, R639, R641).
-/
set_option linter.constructorNameAsVariable false

namespace Sys2Proof.Machine

/-! ### Blocks beside the cores and the fabric -/

/-- From s to t only registers, the event unit, the error log, Fingertip, the keep store, the boot sequencer and the free values change. -/
def BlocksOnly (s t : State) : Prop :=
  t = { s with regs := t.regs, eiu := t.eiu, errlog := t.errlog, fgt := t.fgt, keep := t.keep, keepInj := t.keepInj, boot := t.boot, fresh := t.fresh }

theorem BlocksOnly.refl (s : State) : BlocksOnly s s := rfl

theorem BlocksOnly.trans {s t u : State} (h : BlocksOnly s t) (g : BlocksOnly t u) : BlocksOnly s u := by unfold BlocksOnly at *; rw [g, h]

theorem RegsOnly.blocksOnly {s t : State} (h : RegsOnly s t) : BlocksOnly s t := by unfold RegsOnly BlocksOnly at *; rw [h]
theorem EventsOnly.blocksOnly {s t : State} (h : EventsOnly s t) : BlocksOnly s t := by unfold EventsOnly BlocksOnly at *; rw [h]

section
variable {s t : State} (h : BlocksOnly s t)
include h

theorem BlocksOnly.cores : t.cores = s.cores := by rw [h]
theorem BlocksOnly.tb : t.tb = s.tb := by rw [h]
theorem BlocksOnly.memory (hk : t.keep = s.keep) : SameMemory s t := ⟨by rw [h], by rw [h], hk, by rw [h], by rw [h], by rw [h]⟩

end

theorem Calm.blocksOnly {s t : State} (h : Calm s) (g : BlocksOnly s t) (hd : Drained t) : Calm t where
  flaws := by rw [g]; exact h.flaws
  held := by rw [g]; exact h.held
  retired := by rw [g]; exact h.retired
  blocked := by rw [g]; exact h.blocked
  inter := by rw [g]; exact h.inter
  waiting := by rw [g]; exact h.waiting
  rxq := by rw [g]; exact h.rxq
  draining := by rw [g]; exact h.draining
  stores := by rw [g]; exact h.stores
  sources := hd

/-- From s to t registers of l and the blocks' own state have changed; no source has been asserted and no word of the keep store has changed. -/
structure BlockChange (l : List Nat) (s t : State) : Prop where
  only : BlocksOnly s t
  eiu : t.eiu = s.eiu
  keep : t.keep = s.keep
  regs : RegsBut l s t

theorem BlockChange.refl (l : List Nat) (s : State) : BlockChange l s s := ⟨rfl, rfl, rfl, fun _ _ => rfl⟩

section
variable {l : List Nat} {s t : State} (h : BlockChange l s t)
include h

theorem BlockChange.trans {u : State} (g : BlockChange l t u) : BlockChange l s u :=
  ⟨h.only.trans g.only, g.eiu.trans h.eiu, g.keep.trans h.keep, fun a ha => (g.regs a ha).trans (h.regs a ha)⟩

theorem BlockChange.mono {m : List Nat} (hl : l ⊆ m) : BlockChange m s t := ⟨h.only, h.eiu, h.keep, fun a ha => h.regs a (fun hm => ha (hl hm))⟩

theorem BlockChange.setReg {a : Nat} (ha : a ∈ l) (v : Word) : BlockChange l s (t.setReg a v) :=
  h.trans ⟨rfl, rfl, rfl, fun b hb => reg_setReg_ne (fun e : b = a => hb (e.symm ▸ ha)) t v⟩

theorem BlockChange.setBit {a : Nat} (ha : a ∈ l) (i : Nat) (b : Bool) : BlockChange l s (t.setBit a i b) := h.setReg ha _
theorem BlockChange.setFld {a : Nat} (ha : a ∈ l) (hi lo v : Nat) : BlockChange l s (t.setFld a hi lo v) := h.setReg ha _
theorem BlockChange.inc {a : Nat} (ha : a ∈ l) : BlockChange l s (t.inc a) := h.setReg ha _
theorem BlockChange.setBoot (f : Boot → Boot) : BlockChange l s (setBoot f t) := h.trans ⟨rfl, rfl, rfl, fun _ _ => rfl⟩
theorem BlockChange.withBoot (b : Boot) : BlockChange l s { t with boot := b } := h.trans ⟨rfl, rfl, rfl, fun _ _ => rfl⟩

theorem BlockChange.logErr (hl : Reg.SYS_ERRLOG_LOST_CNT ∈ l) (blk : BlkId) (kind unit : Nat) (addr info : Word) :
    BlockChange l s (logErr blk kind unit addr info t) := by
  unfold Machine.logErr
  split
  · exact h.inc hl
  · exact h.trans ⟨rfl, rfl, rfl, fun _ _ => rfl⟩

theorem BlockChange.drained (hs : Drained s) : Drained t := by unfold Drained; rw [h.eiu]; exact hs
theorem BlockChange.memory : SameMemory s t := h.only.memory h.keep

/-- A register write whose block has changed so. -/
theorem BlockChange.took (i : Initiator) : Took i l s (accessEnd i.ep .ok t) :=
  ⟨accessEnd_resp .., fun a ha => (accessEnd_reg ..).trans (h.regs a ha), (accessEnd_cores ..).trans h.only.cores, h.memory.trans (accessEnd_memory ..)⟩

/-- A command of a block. -/
theorem BlockChange.ends (hc : Calm s) : okSettled t = .next (latched t) ∧ RegsBut l s (latched t) ∧ SameMemory s (latched t) :=
  ⟨okSettled_calm (hc.blocksOnly h.only (h.drained hc.sources)), h.regs, h.memory.latched⟩

end

@[simp] theorem setBoot_get_reg (f : Boot → Boot) (s : State) (a : Nat) : (setBoot f s).reg a = s.reg a := rfl

/-! ### The boot sequencer's page -/

theorem regCmd_bsq {i : Initiator} {a : Nat} {v : Word} {s u : State} {l : List Nat} (h : Reaches a s) (h1 : 0x201000 ≤ a) (h2 : a < 0x202000)
    (hreg : (regAt a).isSome = true) (hpl : plRefused (initPl i) a = false) (hu : bsqWrite i.ep a v s = u) (hchange : BlockChange l s u) :
    okSettled (regCmd i a v s) = .next (accessEnd i.ep .ok u) ∧ Took i l s (accessEnd i.ep .ok u) := by
  have hpage : regPage a = 1 := by unfold regPage; omega
  have haccess : regAccess i.ep (initPl i) a (some v) s = .done .ok 0 u := by
    rw [regAccess_write (by omega) hreg, pageWrite, hpage, hpl]
    simp [hu, fine]
  exact ⟨okSettled_regCmd h (regionAt_page s (by omega) (by omega) (by rw [hpage]; decide)) haccess
    (h.calm.blocksOnly hchange.only (hchange.drained h.calm.sources)), hchange.took i⟩

theorem plRefused_other {pl a : Nat} (h1 : a ≠ Reg.BSQ_CORE_CTL) (h2 : a < Reg.BSQ_CORE_ENTRY 0 ∨ Reg.BSQ_CORE_ENTRY 8 ≤ a) (h3 : a < Reg.PWR_DOM 0 ∨ Reg.PWR_DOM 21 ≤ a) :
    plRefused pl a = false := by
  have h2' : ¬ (Reg.BSQ_CORE_ENTRY 0 ≤ a ∧ a < Reg.BSQ_CORE_ENTRY 8) := by omega
  have h3' : ¬ (Reg.PWR_DOM 0 ≤ a ∧ a < Reg.PWR_DOM 21) := by omega
  simp only [plRefused, Bool.or_eq_false_iff, Bool.and_eq_false_iff, decide_eq_false_iff_not, beq_eq_false_iff_ne]
  omega

/-! ### The fuses (R638) -/

/-- A number made of words one above another: its bits are theirs. -/
theorem words_testBit (f : Nat → Word) (n b : Nat) (hb : b < 40 * n) :
    (((List.range n).map (fun k => (f k).toNat * 2 ^ (40 * k))).sum).testBit b = (f (b / 40)).getLsbD (b % 40) := by
  have hsum : ∀ m, ((List.range m).map (fun k => (f k).toNat * 2 ^ (40 * k))).sum < 2 ^ (40 * m) := by
    intro m
    induction m with
    | zero => simp
    | succ m ih =>
      have hf := (f m).isLt
      rw [List.range_succ, List.map_append, List.sum_append, List.map_singleton, List.sum_singleton]
      have hpow : 2 ^ (40 * (m + 1)) = 2 ^ 40 * 2 ^ (40 * m) := by rw [← pow_add]; congr 1; omega
      rw [hpow]
      have := Nat.mul_le_mul_right (2 ^ (40 * m)) (Nat.le_sub_one_of_lt hf)
      generalize 2 ^ (40 * m) = y at *
      omega
  induction n with
  | zero => omega
  | succ n ih =>
    rw [List.range_succ, List.map_append, List.sum_append, List.map_singleton, List.sum_singleton, Nat.add_comm, Nat.mul_comm,
      Nat.testBit_two_pow_mul_add _ (hsum n)]
    split
    · next h => exact ih h
    · next h =>
      have hdiv : b / 40 = n := by omega
      have hmod : b - 40 * n = b % 40 := by omega
      rw [hdiv, hmod]; rfl

theorem fuseData_bit (s : State) {b : Nat} (hb : b < 256) : (fuseData s).getLsbD b = (s.reg (Reg.BSQ_FUSE_DATA (b / 40))).getLsbD (b % 40) := by
  rw [fuseData, BitVec.getLsbD_ofNat, decide_eq_true hb, Bool.true_and]
  exact words_testBit (fun k => s.reg (Reg.BSQ_FUSE_DATA k)) 7 b (by omega)

section
variable {i : Initiator} {v : Word} {s : State} (h : Reaches Reg.BSQ_FUSE_CTL s)
include h

theorem fuseProgram_done {u : State} {l : List Nat} (hu : fuseProgram s = u) (hchange : BlockChange l s u) :
    exec (.fuseProgram i v) s = .next (accessEnd i.ep .ok u) ∧ Took i l s (accessEnd i.ep .ok u) := by
  have h0 : bget (bset v 0 true) 0 = true := by rw [bset_bit _ _ _ _ (by decide), if_pos rfl]
  have hw : bsqWrite i.ep Reg.BSQ_FUSE_CTL (bset v 0 true) s = u := by
    rw [bsqWrite, if_neg (by decide), if_pos rfl, if_pos h0, hu]
  exact regCmd_bsq h (by decide) (by decide) (by decide) (plRefused_other (by decide) (by decide) (by decide)) hw hchange

theorem fuseProgram_starts (hopen : presenceOpen s = true) (hblank : s.boot.fuses = 0) (hidle : s.bit Reg.BSQ_FUSE_STAT 1 = false) (hnone : s.boot.prog = none) :
    ∃ t, exec (.fuseProgram i v) s = .next t ∧ Took i [Reg.BSQ_FUSE_STAT] s t ∧ t.bit Reg.BSQ_FUSE_STAT 1 = true ∧ t.boot.fuses = s.boot.fuses ∧
      ∃ h, t.boot.prog = some h ∧ ∀ b, b < 256 → h.getLsbD b = (s.reg (Reg.BSQ_FUSE_DATA (b / 40))).getLsbD (b % 40) := by
  have hu : fuseProgram s = { s.setBit Reg.BSQ_FUSE_STAT 1 true with boot := { s.boot with prog := some (fuseData s) } } := by
    simp [fuseProgram, hopen, hblank, hidle, hnone]
  obtain ⟨ht, htook⟩ := fuseProgram_done (i := i) (v := v) h hu (((BlockChange.refl _ s).setBit (List.mem_singleton_self _) 1 true).withBoot _)
  refine ⟨_, ht, htook, ?_, rfl, fuseData s, rfl, fun b hb => fuseData_bit s hb⟩
  rw [accessEnd_bit]
  show bget ((s.setBit Reg.BSQ_FUSE_STAT 1 true).reg Reg.BSQ_FUSE_STAT) 1 = true
  rw [reg_setBit_self, bset_bit _ _ _ _ (by decide), if_pos rfl]

theorem fuseProgram_refused (hnot : ¬ (presenceOpen s = true ∧ s.boot.fuses = 0 ∧ s.bit Reg.BSQ_FUSE_STAT 1 = false ∧ s.boot.prog = none)) :
    ∃ t, exec (.fuseProgram i v) s = .next t ∧ Took i [Reg.BSQ_FUSE_STAT] s t ∧ t.bit Reg.BSQ_FUSE_STAT 3 = true ∧ t.boot.prog = s.boot.prog := by
  have hu : fuseProgram s = s.setBit Reg.BSQ_FUSE_STAT 3 true := by
    refine if_neg (fun hall => hnot ?_)
    simp only [Bool.and_eq_true, Bool.not_eq_true', beq_iff_eq, Option.isNone_iff_eq_none] at hall
    obtain ⟨⟨⟨ho, hb⟩, hi⟩, hn⟩ := hall
    exact ⟨ho, hb, hi, hn⟩
  obtain ⟨ht, htook⟩ := fuseProgram_done (i := i) (v := v) h hu ((BlockChange.refl _ s).setBit (List.mem_singleton_self _) 3 true)
  refine ⟨_, ht, htook, ?_, rfl⟩
  rw [accessEnd_bit, State.bit, reg_setBit_self, bset_bit _ _ _ _ (by decide), if_pos rfl]

end

theorem debugRelock_locks {i : Initiator} {v : Word} {s : State} (h : Reaches Reg.BSQ_DEBUG s) : ∃ t, exec (.debugRelock i v) s = .next t ∧
    Took i [Reg.BSQ_DEBUG] s t ∧ t.bit Reg.BSQ_DEBUG 0 = false := by
  have h1 : bget (bset v 1 true) 1 = true := by rw [bset_bit _ _ _ _ (by decide), if_pos rfl]
  have hw : bsqWrite i.ep Reg.BSQ_DEBUG (bset v 1 true) s = s.setBit Reg.BSQ_DEBUG 0 false := by rw [bsqWrite, if_pos rfl, if_pos h1, relock]
  obtain ⟨ht, htook⟩ := regCmd_bsq h (by decide) (by decide) (by decide) (plRefused_other (by decide) (by decide) (by decide)) hw
    ((BlockChange.refl _ s).setBit (List.mem_singleton_self _) 0 false)
  refine ⟨_, ht, htook, ?_⟩
  rw [accessEnd_bit, State.bit, reg_setBit_self, bset_bit _ _ _ _ (by decide), if_pos rfl]

/-! ### Commands without an access -/

/-- A block that has changed its own registers and then asserts source k. -/
theorem BlockChange.raises {l : List Nat} {s u : State} (hu : BlockChange l s u) (hc : Calm s) {k : Nat} (hk : k < 256) (hl : Reg.EIU_SRC_CNT k ∉ l) :
    ∃ t, okSettled (raise k u) = .next t ∧ AssertedOnce k s t ∧ RegsBut [Reg.EIU_SRC_CNT k] u t ∧ t.boot = u.boot ∧ SameMemory s t := by
  have hd : Drained u := hu.drained hc.sources
  obtain ⟨q, hq⟩ := raise_drained hd k
  have hevents := quieted_events (latchSource_events k u) q
  have hcalm : Calm (quieted q (latchSource k u)) := hc.blocksOnly (hu.only.trans hevents.blocksOnly) (quieted_drained (latchSource_drained hd) q)
  have hasserted : AssertedOnce k s (quieted q (latchSource k u)) := by
    obtain ⟨hpend, hcnt⟩ := latchSource_asserted hk u
    have hp : u.pendOf k = s.pendOf k := by rw [State.pendOf, hu.eiu, State.pendOf]
    rw [hp, hu.regs _ hl] at hcnt
    exact ⟨hpend, hcnt⟩
  have hboot : (latched (quieted q (latchSource k u))).boot = u.boot := (congrArg State.boot (latchSource_events k u)).trans rfl
  refine ⟨_, (congrArg okSettled hq).trans (okSettled_calm hcalm), hasserted.latched, fun a ha => ?_, hboot, (hu.memory.trans hevents.memory).latched⟩
  rw [latched_get_reg, quieted_reg, latchSource_regsBut k u a ha]

/-- The presence window as it begins. -/
def windowBegun (s : State) : State := setBoot (fun b => { b with presAt := s.tb.pulses }) ((s.setFld Reg.BSQ_PRESENCE 16 15 3).inc Reg.BSQ_PRESENCE_CNT)

theorem presenceOpens_eq (s : State) : presenceOpens s = raise 142 (windowBegun s) := rfl

theorem windowBegun_change (s : State) : BlockChange [Reg.BSQ_PRESENCE, Reg.BSQ_PRESENCE_CNT] s (windowBegun s) :=
  (((BlockChange.refl _ s).setFld (by simp) 16 15 3).inc (by simp)).setBoot _

/-- Programming has ended: the fuses hold what they read back. -/
def fusesRead (got : BitVec 256) (s : State) : State := setBoot (fun b => { b with fuses := got, prog := none }) (s.setBit Reg.BSQ_FUSE_STAT 1 false)

/-- And that is not what was asked for: an error, and logged. -/
def fusesWrong (got : BitVec 256) (s : State) : State := logErr .bsq 0x62 0 0 0 ((fusesRead got s).setBit Reg.BSQ_FUSE_STAT 2 true)

theorem fuseDone_eq {got h : BitVec 256} {s : State} (hprog : s.boot.prog = some h) : fuseDone got s = if got = h then fusesRead got s else fusesWrong got s := by
  unfold fuseDone
  rw [hprog]
  rfl

theorem fusesRead_change (got : BitVec 256) (s : State) : BlockChange [Reg.BSQ_FUSE_STAT] s (fusesRead got s) :=
  ((BlockChange.refl _ s).setBit (List.mem_singleton_self _) 1 false).setBoot _

theorem fusesRead_stat (got : BitVec 256) (s : State) : (fusesRead got s).reg Reg.BSQ_FUSE_STAT = bset (s.reg Reg.BSQ_FUSE_STAT) 1 false := by
  rw [fusesRead, setBoot_get_reg, reg_setBit_self]

theorem logErr_boot (blk : BlkId) (kind unit : Nat) (addr info : Word) (s : State) : (logErr blk kind unit addr info s).boot = s.boot := by
  unfold logErr
  split <;> rfl

theorem logErr_await {s : State} (h : s.errlog.await = []) (blk : BlkId) (kind unit : Nat) (addr info : Word) :
    (logErr blk kind unit addr info s).errlog.await.map (fun r => (r.blk, r.kind)) = [(blk, kind)] := by
  simp [logErr, h]

theorem fusesWrong_spec (got : BitVec 256) (s : State) : BlockChange [Reg.BSQ_FUSE_STAT, Reg.SYS_ERRLOG_LOST_CNT] s (fusesWrong got s) ∧
    (fusesWrong got s).boot = (fusesRead got s).boot ∧
    (fusesWrong got s).reg Reg.BSQ_FUSE_STAT = bset (bset (s.reg Reg.BSQ_FUSE_STAT) 1 false) 2 true ∧
    (s.errlog.await = [] → (fusesWrong got s).errlog.await.map (fun r => (r.blk, r.kind)) = [(.bsq, 0x62)]) := by
  refine ⟨(((fusesRead_change got s).mono (by simp)).setBit (by simp) 2 true).logErr (by simp) .., logErr_boot .., ?_, fun h => ?_⟩
  · rw [fusesWrong, (logErr_change ..).regs _ (by decide), reg_setBit_self, fusesRead_stat]
  · have hsame : ((fusesRead got s).setBit Reg.BSQ_FUSE_STAT 2 true).errlog.await = [] := h
    exact logErr_await hsame ..

section
variable {s : State} (hc : Calm s)
include hc

/-- What the fuses read back (R638). -/
theorem fuseDone_reads {got h : BitVec 256} (hprog : s.boot.prog = some h) : ∃ t, exec (.fuseProgramDone got) s = .next t ∧ t.boot.prog = none ∧
    t.boot.fuses = got ∧ t.bit Reg.BSQ_FUSE_STAT 1 = false ∧ t.bit Reg.BSQ_FUSE_STAT 2 = (if got = h then s.bit Reg.BSQ_FUSE_STAT 2 else true) ∧
    (got ≠ h → s.errlog.await = [] → t.errlog.await.map (fun r => (r.blk, r.kind)) = [(.bsq, 0x62)]) ∧
    RegsBut [Reg.BSQ_FUSE_STAT, Reg.SYS_ERRLOG_LOST_CNT] s t ∧ SameMemory s t := by
  have hdone : execFuseProgramDone got s = okSettled (if got = h then fusesRead got s else fusesWrong got s) := by rw [execFuseProgramDone, fuseDone_eq hprog]
  by_cases hgot : got = h
  · rw [if_pos hgot] at hdone
    have hstat : (fusesRead got s).reg Reg.BSQ_FUSE_STAT = bset (s.reg Reg.BSQ_FUSE_STAT) 1 false := fusesRead_stat got s
    obtain ⟨ht, hregs, hm⟩ := ((fusesRead_change got s).mono (m := [Reg.BSQ_FUSE_STAT, Reg.SYS_ERRLOG_LOST_CNT]) (by simp)).ends hc
    refine ⟨latched (fusesRead got s), hdone.trans ht, rfl, rfl, ?_, ?_, fun hne => absurd hgot hne, hregs, hm⟩
    · rw [latched_get_bit, State.bit, hstat, bset_bit _ _ _ _ (by decide), if_pos rfl]
    · rw [latched_get_bit, State.bit, hstat, bset_bit _ _ _ _ (by decide), if_neg (by decide), if_pos hgot, State.bit]
  · rw [if_neg hgot] at hdone
    obtain ⟨hchange, hboot, hstat, hlog⟩ := fusesWrong_spec got s
    obtain ⟨ht, hregs, hm⟩ := hchange.ends hc
    refine ⟨latched (fusesWrong got s), hdone.trans ht, ?_, ?_, ?_, ?_, fun _ => hlog, hregs, hm⟩
    · rw [latched_boot, hboot]; rfl
    · rw [latched_boot, hboot]; rfl
    · rw [latched_get_bit, State.bit, hstat, bset_bit _ _ _ _ (by decide), if_neg (by decide), bset_bit _ _ _ _ (by decide), if_pos rfl]
    · rw [latched_get_bit, State.bit, hstat, bset_bit _ _ _ _ (by decide), if_pos rfl, if_neg hgot]

/-- The window opens (R639). -/
theorem presenceWindow_opens (hreset : s.boot.inReset = false) (hhalt : s.pwr.halted = false) (hlow : 2000000 ≤ s.tb.pulses) (hclosed : presenceOpen s = false) :
    ∃ t, exec .presenceWindowOpen s = .next t ∧ t.bit Reg.BSQ_PRESENCE 16 = true ∧ t.boot.presAt = s.tb.pulses ∧ AssertedOnce 142 s t ∧
      t.reg Reg.BSQ_PRESENCE_CNT = s.reg Reg.BSQ_PRESENCE_CNT + 1 ∧ RegsBut [Reg.BSQ_PRESENCE, Reg.BSQ_PRESENCE_CNT, Reg.EIU_SRC_CNT 142] s t ∧ SameMemory s t := by
  have hu := windowBegun_change s
  obtain ⟨t, ht, hasserted, hregs, hboot, hm⟩ := hu.raises hc (k := 142) (by decide) (by decide)
  have he : execPresenceWindowOpen s = okSettled (raise 142 (windowBegun s)) := by
    rw [execPresenceWindowOpen, if_pos (by simp [hreset, hhalt, hlow, hclosed]), presenceOpens_eq]
  refine ⟨t, he.trans ht, ?_, ?_, hasserted, ?_, fun a ha => ?_, hm⟩
  · rw [State.bit, hregs _ (by decide), windowBegun, setBoot_get_reg, reg_inc_ne (by decide), reg_setFld_self, bget, fset_bit _ _ _ _ _ (by decide) (by decide),
      if_pos (by decide)]
    decide
  · rw [hboot]; rfl
  · rw [hregs _ (by decide), windowBegun, setBoot_get_reg, reg_inc_self, reg_setFld_ne (by decide)]
  · simp only [List.mem_cons, List.not_mem_nil, or_false, not_or] at ha
    obtain ⟨hpres, hcnt, hsrc⟩ := ha
    rw [hregs a (by simpa using hsrc), hu.regs a (by simp [hpres, hcnt])]

/-- And closes; what stands at the pin is shown (R639). -/
theorem presenceWindow_closes {low : Bool} (hopen : presenceOpen s = true) (hage : s.boot.presAt + 30000000 ≤ s.tb.pulses) :
    ∃ t, exec (.presenceWindowClose low) s = .next t ∧ t.bit Reg.BSQ_PRESENCE 16 = false ∧ t.bit Reg.BSQ_PRESENCE 15 = low ∧
      RegsBut [Reg.BSQ_PRESENCE] s t ∧ SameMemory s t := by
  have he : presenceCloses low s = s.setFld Reg.BSQ_PRESENCE 16 15 (b2n low) := if_pos (by simp [hopen, hage])
  obtain ⟨ht, hregs, hm⟩ := ((BlockChange.refl [Reg.BSQ_PRESENCE] s).setFld (List.mem_singleton_self _) 16 15 (b2n low)).ends hc
  refine ⟨_, (congrArg okSettled he).trans ht, ?_, ?_, hregs, hm⟩
  · rw [latched_get_bit, State.bit, reg_setFld_self, bget, fset_bit _ _ _ _ _ (by decide) (by decide), if_pos (by decide)]
    cases low <;> decide
  · rw [latched_get_bit, State.bit, reg_setFld_self, bget, fset_bit _ _ _ _ _ (by decide) (by decide), if_pos (by decide)]
    cases low <;> decide

end

end Sys2Proof.Machine
end

section
/-!
SUPPORT. The start of a core, and of a pair by its leader (R192, R218, R636): what the core's page, its record and its agent's lines become.
-/
set_option linter.constructorNameAsVariable false

namespace Sys2Proof.Machine

/-! ### Registers at their reset values -/

/-- A register reset, but for its sealed LK fields where they are kept. -/
def resetReg (keepLk : Bool) (a : Nat) (s : State) : Word :=
  (s.reg a &&& (if keepLk then lkMask a else 0)) ||| (resetOf a &&& ~~~(if keepLk then lkMask a else 0))

theorem foldl_resetRegs (p : Nat → Bool) (keepLk : Bool) (s : State) (a : Nat) : ∀ (l : List Nat) (t : State),
    RegsOnly t (l.foldl (fun t k => if p k then t.setReg k (resetReg keepLk k s) else t) t) ∧
    (l.foldl (fun t k => if p k then t.setReg k (resetReg keepLk k s) else t) t).reg a = if p a = true ∧ a ∈ l then resetReg keepLk a s else t.reg a
  | [], t => ⟨.refl t, by simp⟩
  | k :: l, t => by
    obtain ⟨honly, hreg⟩ := foldl_resetRegs p keepLk s a l (if p k then t.setReg k (resetReg keepLk k s) else t)
    rw [List.foldl_cons]
    refine ⟨RegsOnly.trans (.ite (regsOnly_setReg ..) (.refl t)) honly, hreg.trans ?_⟩
    by_cases hk : p k = true
    · by_cases ha : a = k
      · rw [ha, if_pos hk, reg_setReg_self]; simp [hk]
      · rw [if_pos hk, reg_setReg_ne ha]; simp [ha]
    · rw [if_neg hk]
      by_cases ha : a = k
      · rw [ha]; simp [hk]
      · simp [ha]

theorem reg_unlisted {s : State} {a : Nat} (h : a ∉ s.regs.map (fun e => e.1)) : s.reg a = resetOf a := by
  have hfind : ∀ m : SMap Word, a ∉ m.map (fun e => e.1) → SMap.find a m = none := by
    intro m hm
    induction m with
    | nil => rfl
    | cons e m ih =>
      obtain ⟨j, v⟩ := e
      obtain ⟨hj, hm'⟩ : a ≠ j ∧ a ∉ m.map (fun e => e.1) := by simpa using hm
      rw [SMap.find, if_neg hj]
      exact ih hm'
  rw [State.reg, SMap.getD, hfind _ h]
  rfl

/-- Of the registers that p names each is reset, listed or not; the others stand. -/
theorem resetRegs_reg (p : Nat → Bool) (keepLk : Bool) (s : State) (a : Nat) :
    RegsOnly s (resetRegs p keepLk s) ∧ (resetRegs p keepLk s).reg a = if p a = true then resetReg keepLk a s else s.reg a := by
  obtain ⟨honly, hreg⟩ := foldl_resetRegs p keepLk s a (s.regs.map (fun e => e.1)) s
  refine ⟨honly, hreg.trans ?_⟩
  by_cases ha : a ∈ s.regs.map (fun e => e.1)
  · simp [ha]
  · have hself : resetReg keepLk a s = s.reg a := by
      rw [resetReg, reg_unlisted ha, ← BitVec.and_or_distrib_left, BitVec.or_not_self, BitVec.and_allOnes]
    simp [ha, hself]

/-! ### A core as it starts -/

/-- The record of a core that starts at pc. -/
def startedCore (pc : Word) : Core := { Core.reset with run := .running, pc := pc, pastTop := false }

/-- Core c as its start leaves it, before a pair it leads. -/
def coreBegun (c : Nat) (pc : Word) (s : State) : State :=
  breakQuietOf c ((resetCore c s).updCore c (fun k => { k with run := .running, pc := pc, pastTop := false }))

theorem runCore_eq (c : Nat) (pc : Word) (s : State) : runCore c pc s = afterStart c (coreBegun c pc s) := rfl

/-- From s to t only registers, cores, agents, pairs and what the detector remembers change. -/
structure StartOnly (s t : State) : Prop where
  frame : t = { s with regs := t.regs, cores := t.cores, agents := t.agents, pairs := t.pairs, eiu := t.eiu }
  inq : t.eiu.inq = s.eiu.inq
  owed : t.eiu.owed = s.eiu.owed

theorem StartOnly.refl (s : State) : StartOnly s s := ⟨rfl, rfl, rfl⟩

theorem StartOnly.trans {s t u : State} (h : StartOnly s t) (g : StartOnly t u) : StartOnly s u :=
  ⟨by rw [g.frame, h.frame], g.inq.trans h.inq, g.owed.trans h.owed⟩

theorem RegsOnly.startOnly {s t : State} (h : RegsOnly s t) : StartOnly s t := by
  unfold RegsOnly at h
  exact ⟨by rw [h], by rw [h], by rw [h]⟩

theorem startOnly_setAgent (s : State) (c : Nat) (v : Agent) : StartOnly s (s.setAgent c v) := ⟨rfl, rfl, rfl⟩
theorem startOnly_setCore (s : State) (c : Nat) (v : Core) : StartOnly s (s.setCore c v) := ⟨rfl, rfl, rfl⟩
theorem startOnly_setPair (s : State) (c : Nat) (v : Pair) : StartOnly s (s.setPair c v) := ⟨rfl, rfl, rfl⟩

theorem startOnly_breakQuietOf (c : Nat) (s : State) : StartOnly s (breakQuietOf c s) := by
  unfold breakQuietOf
  split
  · exact ⟨rfl, rfl, rfl⟩
  · exact .refl s

@[simp] theorem breakQuietOf_reg (c : Nat) (s : State) (a : Nat) : (breakQuietOf c s).reg a = s.reg a := by unfold breakQuietOf; split <;> rfl
@[simp] theorem breakQuietOf_core (c : Nat) (s : State) (d : Nat) : (breakQuietOf c s).core d = s.core d := by unfold breakQuietOf; split <;> rfl
@[simp] theorem breakQuietOf_agent (c : Nat) (s : State) (d : Nat) : (breakQuietOf c s).agent d = s.agent d := by unfold breakQuietOf; split <;> rfl
@[simp] theorem breakQuietOf_pair (c : Nat) (s : State) (d : Nat) : (breakQuietOf c s).pair d = s.pair d := by unfold breakQuietOf; split <;> rfl

theorem resetCore_spec (c : Nat) (s : State) : StartOnly s (resetCore c s) ∧ (resetCore c s).core c = Core.reset ∧
    (∀ d, d ≠ c → (resetCore c s).core d = s.core d) ∧ ((resetCore c s).agent c).lines = [] ∧ (∀ n, (resetCore c s).pair n = s.pair n) ∧
    ∀ a, (resetCore c s).reg a = if inPage (corePage c) 0x80 a = true then resetReg s.isSealed a s else s.reg a := by
  have hregs : RegsOnly s (resetRegs (inPage (corePage c) 0x80) s.isSealed s) := (resetRegs_reg _ _ s 0).1
  refine ⟨(hregs.startOnly.trans (startOnly_setAgent ..)).trans (startOnly_setCore ..), core_setCore_self .., fun d hd => ?_, ?_, fun n => hregs.get_pair n, fun a =>
    (resetRegs_reg _ _ s a).2⟩
  · exact (core_setCore_ne hd ..).trans (hregs.get_core d)
  · exact congrArg Agent.lines (agent_setAgent_self ..)

theorem coreBegun_spec (c : Nat) (pc : Word) (s : State) : StartOnly s (coreBegun c pc s) ∧ (coreBegun c pc s).core c = startedCore pc ∧
    (∀ d, d ≠ c → (coreBegun c pc s).core d = s.core d) ∧ ((coreBegun c pc s).agent c).lines = [] ∧ (∀ n, (coreBegun c pc s).pair n = s.pair n) ∧
    ∀ a, (coreBegun c pc s).reg a = if inPage (corePage c) 0x80 a = true then resetReg s.isSealed a s else s.reg a := by
  obtain ⟨honly, hself, hne, hlines, hpair, hreg⟩ := resetCore_spec c s
  refine ⟨(honly.trans (startOnly_setCore ..)).trans (startOnly_breakQuietOf ..), ?_, fun d hd => ?_, ?_, fun n => ?_, fun a => ?_⟩
  · rw [coreBegun, breakQuietOf_core, State.updCore, core_setCore_self, hself]; rfl
  · rw [coreBegun, breakQuietOf_core, State.updCore, core_setCore_ne hd, hne d hd]
  · rw [coreBegun, breakQuietOf_agent]; exact hlines
  · rw [coreBegun, breakQuietOf_pair]; exact hpair n
  · rw [coreBegun, breakQuietOf_reg]; exact hreg a

/-! ### A pair as it starts -/

theorem foldl_snap (P : Nat → Bool) (f : Nat → Word) (o : Nat) : ∀ (l : List Nat) (m : SMap Word),
    SMap.find o (l.foldl (fun m o => if P o then SMap.insert o (f o) m else m) m) = if o ∈ l ∧ P o = true then some (f o) else SMap.find o m
  | [], m => by simp
  | k :: l, m => by
    rw [List.foldl_cons, foldl_snap P f o l]
    by_cases hk : o = k
    · by_cases hp : P k = true
      · rw [hk, if_pos hp, SMap.find_insert_self]; simp [hp]
      · rw [hk, if_neg hp]; simp [hp]
    · by_cases hp : P k = true
      · rw [if_pos hp, SMap.find_insert_ne hk]; simp [hk]
      · rw [if_neg hp]; simp [hk]

/-- The control register of a core at offset o, as a state recorded from core d gives it. -/
def snapReg (d o : Nat) (x : Snap) : Word := match SMap.find o x.cs with | some v => v | none => resetOf (corePage d + o)

/-- A register recorded, or at its reset value where none is listed, is the register. -/
theorem snapReg_snapCore (s : State) (c : Nat) {o : Nat} (ho : o < 0x70) : snapReg c o (snapCore s c) = s.reg (corePage c + o) := by
  have hfind : SMap.find o (snapCore s c).cs = if (SMap.find (corePage c + o) s.regs).isSome = true then some (s.reg (corePage c + o)) else none := by
    have h := foldl_snap (fun o => (SMap.find (corePage c + o) s.regs).isSome) (fun o => s.reg (corePage c + o)) o (List.range 0x70) []
    simp only [List.mem_range, ho, true_and] at h
    exact h
  rw [snapReg, hfind]
  cases hr : SMap.find (corePage c + o) s.regs with
  | none => simp [State.reg, SMap.getD, hr]
  | some v => simp

/-- The control registers that a core takes: all of the first n but its own number. -/
theorem foldl_adopt (c d : Nat) (x : Snap) (a : Nat) : ∀ (n : Nat) (t : State),
    RegsOnly t ((List.range n).foldl (fun s o => if o = 3 then s else s.setReg (corePage c + o) (snapReg d o x)) t) ∧
    ((a < corePage c ∨ corePage c + n ≤ a) → ((List.range n).foldl (fun s o => if o = 3 then s else s.setReg (corePage c + o) (snapReg d o x)) t).reg a = t.reg a) ∧
    ∀ o, o < n → o ≠ 3 → ((List.range n).foldl (fun s o => if o = 3 then s else s.setReg (corePage c + o) (snapReg d o x)) t).reg (corePage c + o) = snapReg d o x
  | 0, t => ⟨.refl t, fun _ => rfl, fun o ho => absurd ho (Nat.not_lt_zero o)⟩
  | n + 1, t => by
    obtain ⟨honly, hout, hin⟩ := foldl_adopt c d x a n t
    rw [List.range_succ, List.foldl_append, List.foldl_cons, List.foldl_nil]
    refine ⟨honly.trans (.ite (.refl _) (regsOnly_setReg ..)), fun ha => ?_, fun o ho h3 => ?_⟩
    · split
      · exact hout (by omega)
      · rw [reg_setReg_ne (by omega)]; exact hout (by omega)
    · by_cases hon : o = n
      · rw [hon] at h3 ⊢
        rw [if_neg h3, reg_setReg_self]
      · split
        · exact hin o (by omega) h3
        · rw [reg_setReg_ne (by omega)]; exact hin o (by omega) h3

/-- The record of a core that takes a recorded state. -/
def adoptedCore (x : Snap) (k : Core) : Core := { k with w := x.w, acc := x.acc, pc := x.pc, pastTop := false, timeHi := x.timeHi, resv := x.resv }

theorem adoptCore_eq (c d n : Nat) (x : Snap) (s : State) : adoptCore c d n x s =
    (List.range n).foldl (fun s o => if o = 3 then s else s.setReg (corePage c + o) (snapReg d o x)) (s.updCore c (adoptedCore x)) := rfl

/-- The record of the trailer as its pair starts. -/
def trailerCore (k : Core) : Core := { k with run := .running, halted := false, parked := false, haltReq := false, stepping := false }

theorem pairStart_eq (n : Nat) (s : State) : pairStart n s =
    ((((adoptCore (2 * n + 1) (2 * n) 0x70 (snapCore s (2 * n)) s).updCore (2 * n + 1) trailerCore).setPair n { Pair.reset with started := true }).setBit
      (Reg.PAIR_STAT n) 0 true) := rfl

end Sys2Proof.Machine
end

section
/-!
SUPPORT. Starts of cores and of pairs, fuses and presence (O53).
-/
set_option linter.constructorNameAsVariable false

namespace Sys2Proof.Machine

/-! ### A pair as it starts -/

section
variable (n : Nat) (w : State)

/-- The pair's control registers, records and state as it starts. -/
theorem pairStart_spec : StartOnly w (pairStart n w) ∧
    (pairStart n w).core (2 * n + 1) = trailerCore (adoptedCore (snapCore w (2 * n)) (w.core (2 * n + 1))) ∧
    (∀ d, d ≠ 2 * n + 1 → (pairStart n w).core d = w.core d) ∧ (pairStart n w).pair n = { Pair.reset with started := true } ∧
    (∀ m, m ≠ n → (pairStart n w).pair m = w.pair m) ∧ (pairStart n w).agents = w.agents ∧ (pairStart n w).bit (Reg.PAIR_STAT n) 0 = true ∧
    ∀ a, a < 0x208000 + 0x1000 * 8 → (a < corePage (2 * n + 1) ∨ corePage (2 * n + 1) + 0x70 ≤ a → (pairStart n w).reg a = w.reg a) ∧
      ∀ o, o < 0x70 → o ≠ 3 → a = corePage (2 * n + 1) + o → (pairStart n w).reg a = w.reg (corePage (2 * n) + o) := by
  have hfold := fun a => foldl_adopt (2 * n + 1) (2 * n) (snapCore w (2 * n)) a 0x70 (w.updCore (2 * n + 1) (adoptedCore (snapCore w (2 * n))))
  have honly := (hfold 0).1
  rw [← adoptCore_eq] at honly
  have hcore : ∀ d, (adoptCore (2 * n + 1) (2 * n) 0x70 (snapCore w (2 * n)) w).core d = (w.updCore (2 * n + 1) (adoptedCore (snapCore w (2 * n)))).core d :=
    honly.get_core
  rw [pairStart_eq]
  refine ⟨?_, ?_, fun d hd => ?_, ?_, fun m hm => ?_, ?_, ?_, fun a ha => ?_⟩
  · exact (((StartOnly.trans (startOnly_setCore ..) honly.startOnly).trans (startOnly_setCore ..)).trans (startOnly_setPair ..)).trans (regsOnly_setBit ..).startOnly
  · rw [setBit_get_core, setPair_get_core, State.updCore, core_setCore_self, hcore, State.updCore, core_setCore_self]
  · rw [setBit_get_core, setPair_get_core, core_updCore_ne hd, hcore, core_updCore_ne hd]
  · rw [setBit_get_pair, pair_setPair_self]
  · rw [setBit_get_pair, pair_setPair_ne hm, updCore_get_pair, honly.get_pair, updCore_get_pair]
  · rw [setBit_agents, setPair_agents, updCore_agents, honly.agents, updCore_agents]
  · rw [State.bit, reg_setBit_self, bset_bit _ _ _ _ (by decide), if_pos rfl]
  · have hne : a ≠ Reg.PAIR_STAT n := by simp only [Reg.PAIR_STAT]; omega
    rw [reg_setBit_ne hne, setPair_get_reg, updCore_get_reg, adoptCore_eq]
    refine ⟨fun hout => ((hfold a).2.1 hout).trans (updCore_get_reg ..), fun o ho h3 hao => ?_⟩
    rw [hao, (hfold a).2.2 o ho h3, snapReg_snapCore w (2 * n) ho]

end

/-! ### Which cores may start (R636) -/

/-- The conditions of a start. -/
def ableCore (s : State) (n : Nat) : Prop :=
  s.isSealed = true ∧ s.stopped n = true ∧ (s.core n).parked = false ∧ domState s n = 0 ∧ (n % 2 = 1 → s.bit (Reg.PAIR_CTL (n / 2)) 0 = false)

/-- The core leads a pair that its start starts. -/
def leadsPair (s : State) (n : Nat) : Prop := n % 2 = 0 ∧ s.bit (Reg.PAIR_CTL (n / 2)) 0 = true ∧ (s.pair (n / 2)).started = false

theorem coreStart_able {s : State} {n : Nat} (h : ableCore s n) : coreStart n s = afterStart n (coreBegun n (s.reg (Reg.BSQ_CORE_ENTRY n)) s) := by
  obtain ⟨hsealed, hstopped, hparked, hdom, hpair⟩ := h
  have hodd : (n % 2 == 1 && s.bit (Reg.PAIR_CTL (n / 2)) 0) = false := by
    by_cases hn : n % 2 = 1
    · simp [hpair hn]
    · simp [hn]
  rw [← runCore_eq]
  simp [coreStart, hsealed, hstopped, hparked, hdom, hodd]

theorem coreStart_unable {s : State} {n : Nat} (h : ¬ ableCore s n) : coreStart n s = s.setBit Reg.BSQ_CORE_STAT 8 true := by
  refine if_neg (fun hall => h ?_)
  simp only [Bool.and_eq_true, Bool.not_eq_true', beq_iff_eq, Bool.and_eq_false_iff, beq_eq_false_iff_ne] at hall
  obtain ⟨⟨⟨⟨hsealed, hstopped⟩, hparked⟩, hpair⟩, hdom⟩ := hall
  exact ⟨hsealed, hstopped, hparked, hdom, fun hn => hpair.resolve_left (fun hne => hne hn)⟩

theorem inPage_iff (c a : Nat) : inPage (corePage c) 0x80 a = true ↔ corePage c ≤ a ∧ a < corePage c + 0x80 := by simp [inPage]

section
variable {s : State} {n : Nat}

theorem pairCtl_not_inPage (n : Nat) : inPage (corePage n) 0x80 (Reg.PAIR_CTL (n / 2)) = false := by
  rw [Bool.eq_false_iff, Ne, inPage_iff]
  simp only [corePage, Reg.PAIR_CTL]
  omega

theorem afterStart_paired {pc : Word} (h : leadsPair s n) : afterStart n (coreBegun n pc s) = pairStart (n / 2) (coreBegun n pc s) := by
  obtain ⟨-, -, -, -, hpair, hreg⟩ := coreBegun_spec n pc s
  obtain ⟨heven, hen, hst⟩ := h
  have hctl : (coreBegun n pc s).bit (Reg.PAIR_CTL (n / 2)) 0 = s.bit (Reg.PAIR_CTL (n / 2)) 0 := by
    rw [State.bit, hreg, if_neg (by rw [pairCtl_not_inPage n]; exact Bool.false_ne_true), State.bit]
  simp [afterStart, heven, hctl, hen, hpair, hst]

theorem afterStart_alone {pc : Word} (h : ¬ leadsPair s n) : afterStart n (coreBegun n pc s) = coreBegun n pc s := by
  obtain ⟨-, -, -, -, hpair, hreg⟩ := coreBegun_spec n pc s
  have hctl : (coreBegun n pc s).bit (Reg.PAIR_CTL (n / 2)) 0 = s.bit (Reg.PAIR_CTL (n / 2)) 0 := by
    rw [State.bit, hreg, if_neg (by rw [pairCtl_not_inPage n]; exact Bool.false_ne_true), State.bit]
  refine if_neg (fun hall => h ?_)
  simp only [Bool.and_eq_true, decide_eq_true_eq, Bool.not_eq_true', hctl, hpair] at hall
  obtain ⟨⟨heven, hen⟩, hst⟩ := hall
  exact ⟨heven, hen, hst⟩

end

/-! ### A calm device stays calm -/

theorem Calm.startOnly {s t : State} (h : Calm s) (g : StartOnly s t) (hcores : ∀ c, c < 8 → (t.core c).stq = [] ∧ (t.core c).pfq = [])
    (hpairs : ∀ m, m < 4 → (t.pair m).draining = false ∧ ((t.pair m).started = true ∨ (t.pair m).hold = [])) : Calm t where
  flaws := by rw [g.frame]; exact h.flaws
  held := by rw [g.frame]; exact h.held
  retired := hcores
  blocked := by rw [g.frame]; exact h.blocked
  inter := by rw [g.frame]; exact h.inter
  waiting := by rw [g.frame]; exact h.waiting
  rxq := by rw [g.frame]; exact h.rxq
  draining := fun m hm => (hpairs m hm).1
  stores := fun m hm => (hpairs m hm).2
  sources := ⟨g.inq.trans h.sources.1, g.owed.trans h.sources.2⟩

end Sys2Proof.Machine
end

section
/-!
SUPPORT. Starts, fuses and presence (O53).
-/
set_option linter.constructorNameAsVariable false

namespace Sys2Proof.Machine

/-! ### What the control registers of a core start with -/

theorem lkMask_cs : ∀ n : Fin 8, lkMask (Reg.CS_STATUS n) = 0 ∧ lkMask (Reg.CS_FLAGS n) = 0 ∧ lkMask (Reg.CS_SHED_RANK n) = 3 ∧
    fget (resetOf (Reg.CS_STATUS n)) 1 0 = 3 ∧ bget (resetOf (Reg.CS_STATUS n)) 2 = false ∧ resetOf (Reg.CS_FLAGS n) = 0 := by decide +kernel

theorem resetReg_plain {a : Nat} (h : lkMask a = 0) (b : Bool) (s : State) : resetReg b a s = resetOf a := by
  have hall : ~~~(0 : Word) = BitVec.allOnes 40 := by decide
  have hnone : s.reg a &&& 0 = 0 := BitVec.and_zero
  rw [resetReg, h, ite_self, hnone, hall, BitVec.and_allOnes]
  exact BitVec.zero_or

/-- A sealed LK field keeps its bits. -/
theorem resetReg_locked {a hi lo : Nat} (hlo : lo ≤ hi) (h : ∀ j, lo ≤ j → j ≤ hi → (lkMask a).getLsbD j = true) (s : State) :
    fget (resetReg true a s) hi lo = fget (s.reg a) hi lo := by
  refine fget_of_bits hlo (fun j h1 h2 => ?_)
  simp only [resetReg, if_true, BitVec.getLsbD_or, BitVec.getLsbD_and, BitVec.getLsbD_not, h j h1 h2, Bool.not_true, Bool.and_false, Bool.and_true, Bool.or_false]

/-- The privilege, the interrupt enable and the flags of a core that has begun, and its rank in shedding. -/
theorem coreBegun_control {s : State} {n : Nat} (hn : n < 8) (hsealed : s.isSealed = true) (pc : Word) :
    (coreBegun n pc s).pl n = 3 ∧ (coreBegun n pc s).ie n = false ∧ (coreBegun n pc s).flags n = 0 ∧
    (coreBegun n pc s).fld (Reg.CS_SHED_RANK n) 1 0 = s.fld (Reg.CS_SHED_RANK n) 1 0 := by
  obtain ⟨-, -, -, -, -, hreg⟩ := coreBegun_spec n pc s
  obtain ⟨hst, hfl, hrank, hpl, hie, hflags⟩ := lkMask_cs ⟨n, hn⟩
  have hin : ∀ o, o < 0x80 → inPage (corePage n) 0x80 (corePage n + o) = true := fun o ho => (inPage_iff ..).2 (by omega)
  have hstatus : (coreBegun n pc s).reg (Reg.CS_STATUS n) = resetOf (Reg.CS_STATUS n) := by
    rw [hreg, if_pos ((inPage_iff ..).2 (by simp only [corePage, Reg.CS_STATUS]; omega)), resetReg_plain hst]
  have hflag : (coreBegun n pc s).reg (Reg.CS_FLAGS n) = resetOf (Reg.CS_FLAGS n) := by
    rw [hreg, if_pos ((inPage_iff ..).2 (by simp only [corePage, Reg.CS_FLAGS]; omega)), resetReg_plain hfl]
  refine ⟨?_, ?_, ?_, ?_⟩
  · rw [State.pl, State.fld, hstatus]; exact hpl
  · rw [State.ie, State.bit, hstatus]; exact hie
  · rw [State.flags, State.fld, hflag, hflags]; rfl
  · rw [State.fld, hreg, if_pos ((inPage_iff ..).2 (by simp only [corePage, Reg.CS_SHED_RANK]; omega)), hsealed]
    refine resetReg_locked (by decide) (fun j _ hj => ?_) s
    rw [hrank]
    rcases (by omega : j = 0 ∨ j = 1) with rfl | rfl <;> rfl

/-! ### The command -/

theorem eachBit_one {n : Nat} (hn : n < 8) (f : Nat → State → State) (s : State) : eachBit 8 (BitVec.ofNat 40 (2 ^ n)) f s = f n s := by
  have hbit : ∀ c, bget (BitVec.ofNat 40 (2 ^ n)) c = decide (n = c) := fun c => by
    rw [bget, BitVec.getLsbD_ofNat, Nat.testBit_two_pow]
    by_cases hc : n = c
    · rw [decide_eq_true hc, Bool.and_true, decide_eq_true (by omega)]
    · rw [decide_eq_false hc, Bool.and_false]
  have hrange : List.range 8 = [0, 1, 2, 3, 4, 5, 6, 7] := by decide
  simp only [eachBit, hbit, hrange, List.foldl_cons, List.foldl_nil, decide_eq_true_eq]
  rcases (by omega : n = 0 ∨ n = 1 ∨ n = 2 ∨ n = 3 ∨ n = 4 ∨ n = 5 ∨ n = 6 ∨ n = 7) with rfl | rfl | rfl | rfl | rfl | rfl | rfl | rfl <;> simp

section
variable {i : Initiator} {s : State} {n : Nat} (h : Reaches Reg.BSQ_CORE_CTL s) (hn : n < 8)
include h

include hn in
/-- A write of one START bit from PL3 ends with what the start makes of the core. -/
theorem coreStart_ends {u : State} (hpl : initPl i = 3) (hu : coreStart n s = u) (hc : Calm u) :
    exec (.coreStart i (BitVec.ofNat 40 (2 ^ n))) s = .next (accessEnd i.ep .ok u) := by
  have hregion : regionAt s Reg.BSQ_CORE_CTL = some .regs := regionAt_regs (by decide) (by decide) (by decide)
  have haccess : regAccess i.ep (initPl i) Reg.BSQ_CORE_CTL (some (BitVec.ofNat 40 (2 ^ n))) s = .done .ok 0 u := by
    rw [regAccess_write (by decide) (by decide), hpl, pageWrite, plRefused_top, show regPage Reg.BSQ_CORE_CTL = 1 by decide]
    simp only [Bool.false_eq_true, if_false, Nat.one_ne_zero, if_true, bsqWrite]
    rw [if_neg (by decide), if_neg (by decide), eachBit_one hn, hu]
    rfl
  exact okSettled_regCmd h hregion haccess hc

/-- From a lower level the write is refused. -/
theorem coreStart_refused (hpl : initPl i < 3) : ∃ t, exec (.coreStart i (BitVec.ofNat 40 (2 ^ n))) s = .next t ∧ t.resp = ⟨i.ep, .prot, []⟩ ∧ Idles s t := by
  have hregion : regionAt s Reg.BSQ_CORE_CTL = some .regs := regionAt_regs (by decide) (by decide) (by decide)
  have hrefused : plRefused (initPl i) Reg.BSQ_CORE_CTL = true := by simp [plRefused, hpl]
  have haccess : regAccess i.ep (initPl i) Reg.BSQ_CORE_CTL (some (BitVec.ofNat 40 (2 ^ n))) s = .done .prot 0 s := by
    rw [regAccess_write (by decide) (by decide), pageWrite, hrefused, if_pos rfl]
  exact ⟨_, okSettled_regCmd h hregion haccess h.calm, rfl, ⟨fun _ _ => accessEnd_reg .., accessEnd_cores .., accessEnd_memory i.ep .prot s⟩⟩

theorem coreBegun_calm (pc : Word) : Calm (coreBegun n pc s) := by
  obtain ⟨honly, hself, hother, -, hpair, -⟩ := coreBegun_spec n pc s
  refine h.calm.startOnly honly (fun c hc => ?_) (fun m hm => ?_)
  · by_cases hcn : c = n
    · rw [hcn, hself]; exact ⟨rfl, rfl⟩
    · rw [hother c hcn]; exact h.calm.retired c hc
  · rw [hpair]; exact ⟨h.calm.draining m hm, h.calm.stores m hm⟩

include hn in
theorem pairStart_calm (pc : Word) (heven : n % 2 = 0) : Calm (pairStart (n / 2) (coreBegun n pc s)) := by
  have hc := coreBegun_calm (n := n) h pc
  obtain ⟨honly, hself, hother, hpair, hpairs, -, -, -⟩ := pairStart_spec (n / 2) (coreBegun n pc s)
  refine hc.startOnly honly (fun c hc8 => ?_) (fun m hm => ?_)
  · by_cases hcn : c = 2 * (n / 2) + 1
    · rw [hcn, hself]; exact hc.retired _ (by omega)
    · rw [hother c hcn]; exact hc.retired c hc8
  · by_cases hmn : m = n / 2
    · rw [hmn, hpair]; exact ⟨rfl, Or.inl rfl⟩
    · rw [hpairs m hmn]; exact ⟨hc.draining m hm, hc.stores m hm⟩

end

/-! ### A start that is admitted -/

section
variable {i : Initiator} {s : State} {n : Nat} (h : Reaches Reg.BSQ_CORE_CTL s) (hn : n < 8) (hpl : initPl i = 3) (hable : ableCore s n)
include h hn hpl hable

/-- The core alone. -/
theorem coreStart_alone (hp : ¬ leadsPair s n) :
    exec (.coreStart i (BitVec.ofNat 40 (2 ^ n))) s = .next (accessEnd i.ep .ok (coreBegun n (s.reg (Reg.BSQ_CORE_ENTRY n)) s)) :=
  coreStart_ends h hn hpl ((coreStart_able hable).trans (afterStart_alone hp)) (coreBegun_calm h _)

/-- The core with the trailer of its pair. -/
theorem coreStart_paired (hp : leadsPair s n) :
    exec (.coreStart i (BitVec.ofNat 40 (2 ^ n))) s = .next (accessEnd i.ep .ok (pairStart (n / 2) (coreBegun n (s.reg (Reg.BSQ_CORE_ENTRY n)) s))) :=
  coreStart_ends h hn hpl ((coreStart_able hable).trans (afterStart_paired hp)) (pairStart_calm h hn _ hp.1)

end

@[simp] theorem accessEnd_core (ep : Nat) (st : FStatus) (u : State) (c : Nat) : (accessEnd ep st u).core c = u.core c := rfl
@[simp] theorem accessEnd_agent (ep : Nat) (st : FStatus) (u : State) (c : Nat) : (accessEnd ep st u).agent c = u.agent c := rfl
@[simp] theorem accessEnd_pair (ep : Nat) (st : FStatus) (u : State) (n : Nat) : (accessEnd ep st u).pair n = u.pair n := rfl
@[simp] theorem accessEnd_gpr (ep : Nat) (st : FStatus) (u : State) (c r : Nat) : (accessEnd ep st u).gpr c r = u.gpr c r := rfl
@[simp] theorem accessEnd_accOf (ep : Nat) (st : FStatus) (u : State) (c a : Nat) : (accessEnd ep st u).accOf c a = u.accOf c a := rfl
@[simp] theorem accessEnd_pl (ep : Nat) (st : FStatus) (u : State) (c : Nat) : (accessEnd ep st u).pl c = u.pl c := rfl
@[simp] theorem accessEnd_ie (ep : Nat) (st : FStatus) (u : State) (c : Nat) : (accessEnd ep st u).ie c = u.ie c := rfl
@[simp] theorem accessEnd_flags (ep : Nat) (st : FStatus) (u : State) (c : Nat) : (accessEnd ep st u).flags c = u.flags c := rfl

/-- Core n as it has started at pc, in what a start says of it. -/
structure Started (n : Nat) (pc : Word) (s t : State) : Prop where
  core : t.core n = startedCore pc
  pl : t.pl n = 3
  ie : t.ie n = false
  flags : t.flags n = 0
  rank : t.fld (Reg.CS_SHED_RANK n) 1 0 = s.fld (Reg.CS_SHED_RANK n) 1 0
  lines : (t.agent n).lines = []
  frame : StartOnly s t

theorem coreBegun_started {s : State} {n : Nat} (hn : n < 8) (hsealed : s.isSealed = true) (pc : Word) : Started n pc s (coreBegun n pc s) := by
  obtain ⟨hframe, hcore, -, hlines, -, -⟩ := coreBegun_spec n pc s
  obtain ⟨hpl, hie, hflags, hrank⟩ := coreBegun_control hn hsealed pc
  exact ⟨hcore, hpl, hie, hflags, hrank, hlines, hframe⟩

/-- The leader of a pair is as its own start left it. -/
theorem pairStart_started {s w : State} {n : Nat} {pc : Word} (hn : n < 8) (heven : n % 2 = 0) (h : Started n pc s w) : Started n pc s (pairStart (n / 2) w) := by
  obtain ⟨hframe, -, hother, -, -, hagents, -, hreg⟩ := pairStart_spec (n / 2) w
  have hcs : ∀ o, o < 0x80 → (pairStart (n / 2) w).reg (corePage n + o) = w.reg (corePage n + o) := fun o ho =>
    (hreg _ (by simp only [corePage]; omega)).1 (Or.inl (by simp only [corePage]; omega))
  have hstatus : (pairStart (n / 2) w).reg (Reg.CS_STATUS n) = w.reg (Reg.CS_STATUS n) := by
    rw [show Reg.CS_STATUS n = corePage n + 8 by simp only [Reg.CS_STATUS, corePage]; omega, hcs 8 (by decide)]
  have hflag : (pairStart (n / 2) w).reg (Reg.CS_FLAGS n) = w.reg (Reg.CS_FLAGS n) := hcs 0 (by decide)
  have hrank : (pairStart (n / 2) w).reg (Reg.CS_SHED_RANK n) = w.reg (Reg.CS_SHED_RANK n) := by
    rw [show Reg.CS_SHED_RANK n = corePage n + 0x39 by simp only [Reg.CS_SHED_RANK, corePage]; omega, hcs 0x39 (by decide)]
  refine ⟨(hother n (by omega)).trans h.core, ?_, ?_, ?_, ?_, ?_, h.frame.trans hframe⟩
  · rw [State.pl, State.fld, hstatus]; exact h.pl
  · rw [State.ie, State.bit, hstatus]; exact h.ie
  · rw [State.flags, State.fld, hflag]; exact h.flags
  · rw [State.fld, hrank]; exact h.rank
  · rw [State.agent, hagents]; exact h.lines

/-- The trailer of a pair as its leader's start leaves it. -/
theorem pairStart_trailer {s : State} {n : Nat} (hn : n < 8) (heven : n % 2 = 0) (hsealed : s.isSealed = true) (pc : Word) :
    let t := pairStart (n / 2) (coreBegun n pc s)
    (t.core (n + 1)).run = .running ∧ (t.core (n + 1)).pc = pc ∧ (t.core (n + 1)).w = [] ∧ t.pl (n + 1) = 3 := by
  intro t
  obtain ⟨-, hcore, -⟩ := coreBegun_spec n pc s
  obtain ⟨-, htrailer, -, -, -, -, -, hreg⟩ := pairStart_spec (n / 2) (coreBegun n pc s)
  have hleader : 2 * (n / 2) = n := by omega
  rw [hleader] at htrailer hreg
  have hpl : t.reg (Reg.CS_STATUS (n + 1)) = (coreBegun n pc s).reg (Reg.CS_STATUS n) := by
    have := (hreg (Reg.CS_STATUS (n + 1)) (by simp only [Reg.CS_STATUS]; omega)).2 8 (by decide) (by decide) (by simp only [Reg.CS_STATUS, corePage]; omega)
    rw [this]; congr 1; simp only [Reg.CS_STATUS, corePage]; omega
  refine ⟨by rw [htrailer]; rfl, ?_, ?_, ?_⟩
  · rw [htrailer]
    show (snapCore (coreBegun n pc s) n).pc = pc
    rw [snapCore, hcore]; rfl
  · rw [htrailer]
    show (snapCore (coreBegun n pc s) n).w = []
    rw [snapCore, hcore]; rfl
  · rw [State.pl, State.fld, hpl]; exact (coreBegun_control hn hsealed pc).1

/-- What is said of a core that has started follows from its record and its control registers. -/
theorem Started.said {n : Nat} {pc : Word} {s u : State} (h : Started n pc s u) (ep : Nat) : let t := accessEnd ep .ok u
    t.resp = ⟨ep, .ok, []⟩ ∧ (t.core n).run = .running ∧ (t.core n).pc = pc ∧ (∀ r, t.gpr n r = 0) ∧ (∀ a, t.accOf n a = 0) ∧ t.pl n = 3 ∧ t.ie n = false ∧
      t.flags n = 0 ∧ (t.core n).itlb = [] ∧ (t.core n).dtlb = [] ∧ (t.core n).l2tlb = [] ∧ (t.core n).resv = none ∧ (t.agent n).lines = [] ∧
      t.fld (Reg.CS_SHED_RANK n) 1 0 = s.fld (Reg.CS_SHED_RANK n) 1 0 ∧ t.close = s.close ∧ t.stage = s.stage ∧ t.dmcs = s.dmcs ∧ t.slices = s.slices := by
  intro t
  have hcore : t.core n = startedCore pc := h.core
  have hmem := accessEnd_memory ep .ok u
  refine ⟨rfl, by rw [hcore]; rfl, by rw [hcore]; rfl, fun r => ?_, fun a => ?_, h.pl, h.ie, h.flags, by rw [hcore]; rfl, by rw [hcore]; rfl, by rw [hcore]; rfl,
    by rw [hcore]; rfl, h.lines, h.rank, ?_, ?_, ?_, ?_⟩
  · rw [State.gpr, hcore]; split <;> rfl
  · rw [State.accOf, hcore]; rfl
  · rw [hmem.close, h.frame.frame]
  · rw [hmem.stage, h.frame.frame]
  · rw [hmem.dmcs, h.frame.frame]
  · rw [hmem.slices, h.frame.frame]

/-- Settles O53: a start that is admitted resets the core, and a leader's start its pair; the boot sequencer's other commands change their own registers. -/
theorem startsAndPresence : Obligations.StartsAndPresence := by
  intro i v s
  refine ⟨fun n hn hv h => ?_, fun h => ⟨fun ⟨ho, hb, hi, hnone⟩ => fuseProgram_starts h ho hb hi hnone, fuseProgram_refused h⟩,
    fun got h hc hprog => fuseDone_reads hc hprog, fun hc hr hh hl ho => presenceWindow_opens hc hr hh hl ho,
    fun low hc ho ha => presenceWindow_closes hc ho ha, debugRelock_locks⟩
  subst hv
  refine ⟨fun hpl hable => ?_, fun hpl hable hp => ?_, fun hpl hable hp => ?_, fun hpl hable => ?_, coreStart_refused h⟩
  · have hsealed : s.isSealed = true := hable.1
    have hbegun := coreBegun_started hn hsealed (s.reg (Reg.BSQ_CORE_ENTRY n))
    by_cases hp : leadsPair s n
    · exact ⟨_, coreStart_paired h hn hpl hable hp, (pairStart_started hn hp.1 hbegun).said i.ep⟩
    · exact ⟨_, coreStart_alone h hn hpl hable hp, hbegun.said i.ep⟩
  · obtain ⟨-, -, hother, -, -, hreg⟩ := coreBegun_spec n (s.reg (Reg.BSQ_CORE_ENTRY n)) s
    refine ⟨_, coreStart_alone h hn hpl hable hp, fun d hd => (accessEnd_core ..).trans (hother d hd), fun a ha => ?_⟩
    rw [accessEnd_reg, hreg, if_neg]
    intro hin
    rw [inPage_iff] at hin
    refine ha (List.mem_cons_of_mem _ (List.mem_map.2 ⟨a - corePage n, List.mem_range.2 (by omega), by omega⟩))
  · obtain ⟨-, -, -, hpair, -, -, hbit, -⟩ := pairStart_spec (n / 2) (coreBegun n (s.reg (Reg.BSQ_CORE_ENTRY n)) s)
    obtain ⟨hrun, hpc, hw, hpl'⟩ := pairStart_trailer hn hp.1 hable.1 (s.reg (Reg.BSQ_CORE_ENTRY n))
    refine ⟨_, coreStart_paired h hn hpl hable hp, ?_, (accessEnd_bit ..).trans hbit, ?_, ?_, fun r => ?_, (accessEnd_pl ..).trans hpl'⟩
    · rw [accessEnd_pair, hpair]
    · rw [accessEnd_core]; exact hrun
    · rw [accessEnd_core]; exact hpc
    · rw [accessEnd_gpr, State.gpr, hw]; split <;> rfl
  · have hchange : BlockChange [Reg.BSQ_CORE_STAT] s (s.setBit Reg.BSQ_CORE_STAT 8 true) := (BlockChange.refl _ s).setBit (List.mem_singleton_self _) 8 true
    refine ⟨_, coreStart_ends h hn hpl (coreStart_unable hable) (h.calm.blocksOnly hchange.only (hchange.drained h.calm.sources)), hchange.took i, ?_⟩
    rw [accessEnd_bit, State.bit, reg_setBit_self, bset_bit _ _ _ _ (by decide), if_pos rfl]

end Sys2Proof.Machine
end

section
/-!
SUPPORT. The keep store's words and commands (R604, R609, R618).
-/
set_option linter.constructorNameAsVariable false

namespace Sys2Proof.Machine

/-! ### What an access to the keep store changes beside its words -/

/-- The registers that reads, writes and commands of the keep store touch. -/
def keepRegs : List Nat := [Reg.KEP_STATUS, Reg.KEP_CMD_RESULT, Reg.KEP_ERR_ADDR, Reg.KEP_ERR_INFO, Reg.KEP_WR_CNT, Reg.KEP_RD_CNT, Reg.KEP_CE_CNT,
  Reg.KEP_UE_CNT, Reg.SYS_ERRLOG_LOST_CNT, Reg.EIU_SRC_CNT 89]

/-- From s to t the keep store has worked: its words, its registers, the error log and its source. -/
structure KeepSide (s t : State) : Prop where
  only : BlocksOnly s t
  fgt : t.fgt = s.fgt
  inj : t.keepInj = s.keepInj
  drained : Drained t
  regs : RegsBut keepRegs s t

theorem KeepSide.refl {s : State} (h : Drained s) : KeepSide s s := ⟨.refl s, rfl, rfl, h, fun _ _ => rfl⟩

section
variable {s t : State} (h : KeepSide s t)
include h

theorem KeepSide.trans {u : State} (g : KeepSide t u) : KeepSide s u :=
  ⟨h.only.trans g.only, g.fgt.trans h.fgt, g.inj.trans h.inj, g.drained, fun a ha => (g.regs a ha).trans (h.regs a ha)⟩

theorem KeepSide.setReg {a : Nat} (ha : a ∈ keepRegs) (v : Word) : KeepSide s (t.setReg a v) :=
  h.trans ⟨rfl, rfl, rfl, h.drained, fun b hb => reg_setReg_ne (fun e : b = a => hb (e.symm ▸ ha)) t v⟩

theorem KeepSide.inc {a : Nat} (ha : a ∈ keepRegs) : KeepSide s (t.inc a) := h.setReg ha _
theorem KeepSide.setKeep (o : Nat) (w : MWord) : KeepSide s (setKeep o w t) := h.trans ⟨rfl, rfl, rfl, h.drained, fun _ _ => rfl⟩

theorem KeepSide.logErr (blk : BlkId) (kind unit : Nat) (addr info : Word) : KeepSide s (logErr blk kind unit addr info t) := by
  unfold Machine.logErr
  split
  · exact h.inc (by decide)
  · exact h.trans ⟨rfl, rfl, rfl, h.drained, fun _ _ => rfl⟩

end

theorem logErr_keep (blk : BlkId) (kind unit : Nat) (addr info : Word) (s : State) : (logErr blk kind unit addr info s).keep = s.keep := by
  unfold logErr
  split <;> rfl

/-- An event bit of the keep store. -/
theorem kepStat_spec {s : State} (h : Drained s) (j : Nat) : KeepSide s (kepStat j s) ∧ (kepStat j s).keep = s.keep ∧
    (kepStat j s).reg Reg.KEP_STATUS = bset (s.reg Reg.KEP_STATUS) j true ∧ ∀ a, a ≠ Reg.KEP_STATUS → a ≠ Reg.EIU_SRC_CNT 89 → (kepStat j s).reg a = s.reg a := by
  obtain ⟨hlevels, hd⟩ := lv1_levels 89 (fun s => s.setBit Reg.KEP_STATUS j true) (s := s) h
  have hregs : ∀ a, a ≠ Reg.KEP_STATUS → a ≠ Reg.EIU_SRC_CNT 89 → (kepStat j s).reg a = s.reg a :=
    fun a h1 h2 => (hlevels.reg h2).trans (reg_setBit_ne h1 ..)
  refine ⟨⟨?_, ?_, ?_, hd, fun a ha => ?_⟩, ?_, ?_, hregs⟩
  · exact (regsOnly_setBit ..).blocksOnly.trans hlevels.events.blocksOnly
  · exact (congrArg State.fgt hlevels.events).trans rfl
  · exact (congrArg State.keepInj hlevels.events).trans rfl
  · exact hregs a (fun e => ha (by simp [keepRegs, e])) (fun e => ha (by simp [keepRegs, e]))
  · exact (congrArg State.keep hlevels.events).trans rfl
  · exact (hlevels.reg (by decide)).trans (reg_setBit_self ..)

/-! ### Reads (R618) -/

/-- What a read makes of a stored word: one wrong bit is corrected, more poison it. -/
def readBack (w : MWord) : MWord :=
  match w.mark with
  | .one => ⟨w.v, .good⟩
  | .two => ⟨w.v ^^^ 3, .poison⟩
  | _ => w

/-- An uncorrectable word has been read. -/
def keepPoisoned (o : Nat) (w : MWord) (s : State) : State :=
  ((setKeep o ⟨w.v ^^^ 3, .poison⟩ s).inc Reg.KEP_UE_CNT |>.setReg Reg.KEP_ERR_ADDR (nw (0x10000 + o))).setReg Reg.KEP_ERR_INFO
    (nw (Config.eccSyndrome w.v (w.v ^^^ 3) % 256 * 4 + 1))

theorem keepGet_two {o : Nat} {s : State} (h : (memRead s.keep o).mark = .two) : keepGet o s = (⟨(memRead s.keep o).v ^^^ 3, .poison⟩,
    kepStat 3 (logErr .kep 0x58 0 (nw (0x10000 + o)) (nw (Config.eccSyndrome (memRead s.keep o).v ((memRead s.keep o).v ^^^ 3) % 256))
      (keepPoisoned o (memRead s.keep o) (s.inc Reg.KEP_RD_CNT)))) := by
  have h' : (memRead (s.inc Reg.KEP_RD_CNT).keep o).mark = .two := h
  unfold keepGet
  dsimp only
  rw [h']
  rfl

theorem keepGet_one {o : Nat} {s : State} (h : (memRead s.keep o).mark = .one) : keepGet o s = (⟨(memRead s.keep o).v, .good⟩,
    (setKeep o ⟨(memRead s.keep o).v, .good⟩ (s.inc Reg.KEP_RD_CNT)).inc Reg.KEP_CE_CNT) := by
  have h' : (memRead (s.inc Reg.KEP_RD_CNT).keep o).mark = .one := h
  unfold keepGet
  dsimp only
  rw [h']
  rfl

theorem keepGet_sound {o : Nat} {s : State} (h1 : (memRead s.keep o).mark ≠ .one) (h2 : (memRead s.keep o).mark ≠ .two) :
    keepGet o s = (memRead s.keep o, s.inc Reg.KEP_RD_CNT) := by
  have h1' : (memRead (s.inc Reg.KEP_RD_CNT).keep o).mark ≠ .one := h1
  have h2' : (memRead (s.inc Reg.KEP_RD_CNT).keep o).mark ≠ .two := h2
  unfold keepGet
  dsimp only
  split
  · next e => exact absurd e h1'
  · next e => exact absurd e h2'
  · rfl

theorem readBack_sound {w : MWord} (h1 : w.mark ≠ .one) (h2 : w.mark ≠ .two) : readBack w = w := by
  unfold readBack
  split
  · next e => exact absurd e h1
  · next e => exact absurd e h2
  · rfl

theorem memRead_memWrite (a b : Nat) (v : MWord) (m : Memory) : memRead (memWrite a v m) b = if b = a then v else memRead m b := by
  split
  · next e => rw [e, memRead_memWrite_self]
  · next e => exact memRead_memWrite_ne e v m

/-- One word read: what is answered, what the store then holds. -/
theorem keepGet_spec {s : State} (hs : Drained s) (o : Nat) : KeepSide s (keepGet o s).2 ∧ (keepGet o s).1 = readBack (memRead s.keep o) ∧
    ∀ b, memRead (keepGet o s).2.keep b = if b = o then readBack (memRead s.keep o) else memRead s.keep b := by
  have hread : KeepSide s (s.inc Reg.KEP_RD_CNT) := (KeepSide.refl hs).inc (by decide)
  by_cases h2 : (memRead s.keep o).mark = .two
  · have hback : readBack (memRead s.keep o) = ⟨(memRead s.keep o).v ^^^ 3, .poison⟩ := by simp [readBack, h2]
    have hpoison : KeepSide s (keepPoisoned o (memRead s.keep o) (s.inc Reg.KEP_RD_CNT)) :=
      (((hread.setKeep o _).inc (by decide)).setReg (by decide) _).setReg (by decide) _
    have hlog := hpoison.logErr .kep 0x58 0 (nw (0x10000 + o)) (nw (Config.eccSyndrome (memRead s.keep o).v ((memRead s.keep o).v ^^^ 3) % 256))
    obtain ⟨hstat, hkeep, -⟩ := kepStat_spec hlog.drained 3
    rw [keepGet_two h2, hback]
    refine ⟨hlog.trans hstat, rfl, fun b => ?_⟩
    rw [hkeep, logErr_keep]
    exact memRead_memWrite o b _ s.keep
  · by_cases h1 : (memRead s.keep o).mark = .one
    · have hback : readBack (memRead s.keep o) = ⟨(memRead s.keep o).v, .good⟩ := by simp [readBack, h1]
      rw [keepGet_one h1, hback]
      exact ⟨(hread.setKeep o _).inc (by decide), rfl, fun b => memRead_memWrite o b _ s.keep⟩
    · rw [keepGet_sound h1 h2, readBack_sound h1 h2]
      refine ⟨hread, rfl, fun b => ?_⟩
      split
      · next e => rw [e]; rfl
      · rfl

/-- Words read one after the other. -/
theorem keepGets_spec (n : Nat) : ∀ {s : State} (_ : Drained s) (o : Nat), KeepSide s (keepGets o n s).2 ∧
    (keepGets o n s).1 = (List.range' o n).map (fun a => readBack (memRead s.keep a)) ∧
    ∀ b, memRead (keepGets o n s).2.keep b = if o ≤ b ∧ b < o + n then readBack (memRead s.keep b) else memRead s.keep b := by
  induction n with
  | zero => exact fun hs o => ⟨.refl hs, rfl, fun b => (if_neg (by omega)).symm⟩
  | succ n ih =>
    intro s hs o
    obtain ⟨hside, hvalue, hkeep⟩ := keepGet_spec hs o
    obtain ⟨hsides, hvalues, hkeeps⟩ := ih hside.drained (o + 1)
    refine ⟨hside.trans hsides, ?_, fun b => ?_⟩
    · rw [keepGets, hvalue, hvalues, List.range'_succ, List.map_cons]
      refine congrArg _ (List.map_congr_left fun a ha => ?_)
      rw [hkeep a, if_neg (by have := List.mem_range'_1.1 ha; omega)]
    · rw [keepGets, hkeeps b, hkeep b]
      by_cases hb : b = o
      · rw [if_neg (by omega), if_pos hb, if_pos (by omega), hb]
      · rw [if_neg hb]
        exact if_congr (by omega) rfl rfl

/-! ### Writes -/

theorem keepPut_eq {s : State} (h : s.keepInj = 0) (o : Nat) (w : MWord) : keepPut o w s = setKeep o w (s.inc Reg.KEP_WR_CNT) := by
  unfold keepPut
  dsimp only
  exact if_pos (by simp [h])

/-- Whole words written one after the other, no injection armed. -/
theorem keepPuts_spec (ws : Line) : ∀ {s : State} (_ : Drained s) (_ : s.keepInj = 0) (o : Nat),
    KeepSide s (keepPuts o (2 ^ (5 * ws.length) - 1) ws s) ∧ (keepPuts o (2 ^ (5 * ws.length) - 1) ws s).keep = memWriteN o ws s.keep := by
  induction ws with
  | nil => exact fun hs _ _ => ⟨.refl hs, rfl⟩
  | cons w ws ih =>
    intro s hs hinj o
    have hpow : 2 ^ (5 * (w :: ws).length) = 32 * 2 ^ (5 * ws.length) := by rw [List.length_cons, Nat.mul_add, pow_add, Nat.mul_comm]; rfl
    have hpos : 0 < 2 ^ (5 * ws.length) := Nat.two_pow_pos _
    have hfull : (2 ^ (5 * (w :: ws).length) - 1) % 32 = 31 := by omega
    have hrest : (2 ^ (5 * (w :: ws).length) - 1) / 32 = 2 ^ (5 * ws.length) - 1 := by omega
    have hput : KeepSide s (setKeep o w (s.inc Reg.KEP_WR_CNT)) := ((KeepSide.refl hs).inc (by decide)).setKeep o w
    obtain ⟨hside, hkeep⟩ := ih hput.drained (hput.inj.trans hinj) (o + 1)
    rw [keepPuts, if_pos hfull, hrest, keepPut_eq hinj]
    exact ⟨hput.trans hside, hkeep⟩

theorem keepZero_spec {s : State} (hs : Drained s) (hinj : s.keepInj = 0) (o n : Nat) : KeepSide s (keepZero o n s) ∧
    (keepZero o n s).keep = memWriteN o (List.replicate n MWord.zero) s.keep := by
  have h := keepPuts_spec (List.replicate n MWord.zero) hs hinj o
  rw [List.length_replicate] at h
  exact h

/-- Words without an error mark. -/
def goodWords (l : List Word) : Line := l.map (fun v => ⟨v, .good⟩)

theorem copyLayer_spec {ws : List Word} (hlen : ws.length = 512) {s : State} (hs : Drained s) (hinj : s.keepInj = 0) : KeepSide s (copyLayer ws s) ∧
    (copyLayer ws s).keep = memWriteN 0x1200 (goodWords (ws.take 2)) (memWriteN 0x1202 (goodWords (ws.drop 2)) s.keep) := by
  have hbody : 2550 = 5 * (goodWords (ws.drop 2)).length := by simp [goodWords, hlen]
  have hhead : 10 = 5 * (goodWords (ws.take 2)).length := by simp [goodWords, hlen]
  have heq : copyLayer ws s = keepPuts 0x1200 (2 ^ (5 * (goodWords (ws.take 2)).length) - 1) (goodWords (ws.take 2))
      (keepPuts 0x1202 (2 ^ (5 * (goodWords (ws.drop 2)).length) - 1) (goodWords (ws.drop 2)) s) := by
    rw [← hbody, ← hhead, copyLayer, goodWords, goodWords]
  obtain ⟨hside, hkeep⟩ := keepPuts_spec (goodWords (ws.drop 2)) hs hinj 0x1202
  obtain ⟨hside', hkeep'⟩ := keepPuts_spec (goodWords (ws.take 2)) hside.drained (hside.inj.trans hinj) 0x1200
  rw [heq]
  exact ⟨hside.trans hside', by rw [hkeep', hkeep]⟩

/-- The active layer after a copy, and the words that it leaves. -/
theorem copyLayer_read {ws : List Word} (hlen : ws.length = 512) {s : State} (hs : Drained s) (hinj : s.keepInj = 0) :
    (∀ k, k < 512 → memRead (copyLayer ws s).keep (0x1200 + k) = ⟨ws.getD k 0, .good⟩) ∧
    ∀ o, o < 0x1200 ∨ 0x1400 ≤ o → memRead (copyLayer ws s).keep o = memRead s.keep o := by
  rw [(copyLayer_spec hlen hs hinj).2]
  have hhead : (goodWords (ws.take 2)).length = 2 := by simp [goodWords, hlen]
  have hbody : (goodWords (ws.drop 2)).length = 510 := by simp [goodWords, hlen]
  refine ⟨fun k hk => ?_, fun o ho => ?_⟩
  · obtain ⟨v, hv⟩ : ∃ v, ws[k]? = some v := ⟨_, List.getElem?_eq_getElem (by omega)⟩
    by_cases h2 : k < 2
    · rw [memRead_memWriteN_in (goodWords (ws.take 2)) 0x1200 k _ (by rw [hhead]; exact h2)]
      simp [goodWords, List.getD, hv, h2]
    · have hplace : 0x1200 + k = 0x1202 + (k - 2) := by omega
      have hk2 : 2 + (k - 2) = k := by omega
      rw [memRead_memWriteN_out (goodWords (ws.take 2)) 0x1200 (0x1200 + k) _ (Or.inr (by rw [hhead]; omega)), hplace,
        memRead_memWriteN_in (goodWords (ws.drop 2)) 0x1202 (k - 2) _ (by rw [hbody]; omega)]
      simp [goodWords, List.getD, hk2, hv]
  · have hfirst : o < 0x1200 ∨ 0x1200 + (goodWords (ws.take 2)).length ≤ o := by omega
    have hrest : o < 0x1202 ∨ 0x1202 + (goodWords (ws.drop 2)).length ≤ o := by omega
    exact (memRead_memWriteN_out _ _ _ _ hfirst).trans (memRead_memWriteN_out _ _ _ _ hrest)

theorem keepZero_read {s : State} (hs : Drained s) (hinj : s.keepInj = 0) (o n : Nat) :
    (∀ k, k < n → memRead (keepZero o n s).keep (o + k) = MWord.zero) ∧ ∀ b, b < o ∨ o + n ≤ b → memRead (keepZero o n s).keep b = memRead s.keep b := by
  rw [(keepZero_spec hs hinj o n).2]
  refine ⟨fun k hk => ?_, fun b hb => ?_⟩
  · rw [memRead_memWriteN_in _ _ _ _ (by rw [List.length_replicate]; exact hk)]
    simp [List.getD, hk]
  · rw [memRead_memWriteN_out _ _ _ _ (by rw [List.length_replicate]; exact hb)]

/-! ### Layers (R604) -/

/-- What n words that were read make of a layer. -/
def layerOf (l : Line) : Option (List Word) := if hasPoison l || !layerValid (l.map (fun w => w.v)) then none else some (l.map (fun w => w.v))

theorem layerOf_length {l : Line} {ws : List Word} (h : layerOf l = some ws) : ws.length = l.length := by
  unfold layerOf at h
  split at h
  · exact absurd h (by simp)
  · rw [← Option.some.inj h, List.length_map]

theorem readLayer_eq (o : Nat) (s : State) : readLayer o s = (layerOf (keepGets o 512 s).1, (keepGets o 512 s).2) := by
  unfold readLayer layerOf
  generalize keepGets o 512 s = p
  rfl

theorem readLayer_spec {s : State} (hs : Drained s) (o : Nat) : KeepSide s (readLayer o s).2 ∧
    (∀ b, b < o ∨ o + 512 ≤ b → memRead (readLayer o s).2.keep b = memRead s.keep b) ∧ ∀ ws, (readLayer o s).1 = some ws → ws.length = 512 := by
  obtain ⟨hside, hvalues, hkeep⟩ := keepGets_spec 512 hs o
  rw [readLayer_eq]
  generalize keepGets o 512 s = p at *
  refine ⟨hside, fun b hb => (hkeep b).trans (if_neg (by omega)), fun ws h => ?_⟩
  rw [layerOf_length h, hvalues, List.length_map, List.length_range']

/-- What a layer reads as rests on the words of the store only. -/
theorem readLayer_congr {s t : State} (hs : Drained s) (ht : Drained t) (h : ∀ b, memRead t.keep b = memRead s.keep b) (o : Nat) :
    (readLayer o t).1 = (readLayer o s).1 ∧ ∀ b, memRead (readLayer o t).2.keep b = memRead (readLayer o s).2.keep b := by
  obtain ⟨-, hvalues, hkeep⟩ := keepGets_spec 512 hs o
  obtain ⟨-, hvalues', hkeep'⟩ := keepGets_spec 512 ht o
  have hsame : (keepGets o 512 t).1 = (keepGets o 512 s).1 := by rw [hvalues, hvalues']; exact List.map_congr_left fun a _ => by rw [h a]
  rw [readLayer_eq, readLayer_eq, hsame]
  generalize keepGets o 512 s = p at *
  generalize keepGets o 512 t = q at *
  exact ⟨rfl, fun b => by rw [hkeep b, hkeep' b, h b]⟩

end Sys2Proof.Machine
end

section
/-!
SUPPORT. Register writes of the keep store: its commands, the write protection and the injection (R608, R609, R618).
-/
set_option linter.constructorNameAsVariable false

namespace Sys2Proof.Machine

/-- A register write that its page takes and that leaves u. -/
theorem regCmd_page {i : Initiator} {a : Nat} {v : Word} {s u : State} (h : Reaches a s) (h0 : 0x50 ≤ regPage a) (h1 : regPage a < 0x200)
    (hp : pageAssigned (regPage a) = true) (hreg : (regAt a).isSome = true) (hw : pageWrite i.ep (initPl i) a v s = fine u) (hu : Calm u) :
    okSettled (regCmd i a v s) = .next (accessEnd i.ep .ok u) :=
  okSettled_regCmd h (regionAt_page s (by omega) h1 hp) (by rw [regAccess_write (Or.inr h0) hreg, hw, fine]) hu

theorem plRefused_above {pl a : Nat} (h : 0x50 ≤ regPage a) : plRefused pl a = false := by
  have ha : 0x250000 ≤ a := by unfold regPage at h; omega
  refine plRefused_other ?_ (Or.inr ?_) (Or.inr ?_) <;> simp only [Reg.BSQ_CORE_CTL, Reg.BSQ_CORE_ENTRY, Reg.PWR_DOM] <;> omega

section
variable {i : Initiator} {a : Nat} {v : Word} {s u : State} (h : Reaches a s) (hpage : regPage a = 0x71) (hreg : (regAt a).isSome = true)
include h hpage hreg

/-- A register write of the keep store. -/
theorem regCmd_keep (hw : kepWrite i.ep a v s = u) (hu : Calm u) : okSettled (regCmd i a v s) = .next (accessEnd i.ep .ok u) := by
  refine regCmd_page h (by omega) (by omega) (by rw [hpage]; decide) hreg ?_ hu
  have hrt : a ≠ Reg.FAB_RT_DATA := fun e => by rw [e] at hpage; exact absurd hpage (by decide)
  simp [pageWrite, plRefused_above (pl := initPl i) (show 0x50 ≤ regPage a by omega), hpage, hrt, hw]

end

/-! ### Commands (R609) -/

/-- The word of a command's result. -/
theorem result_fld {n : Nat} (h : n < 16) (s : State) (hr : s.reg Reg.KEP_CMD_RESULT = nw n) : s.fld Reg.KEP_CMD_RESULT 3 0 = n := by
  rw [State.fld, hr, fget, nw, BitVec.toNat_ofNat]
  omega

/-- A command that Fingertip's enable does not follow: its result, its event bit and the words it leaves. -/
theorem keepCmd_spec {op n : Nat} {s r : State} (hrun : keepRun op s = (n, r)) (hside : KeepSide s r) (hoff : s.bit Reg.FGT_CTL 0 = false) :
    KeepSide s (keepCmd op s).2 ∧ (keepCmd op s).2.keep = r.keep ∧ (keepCmd op s).2.reg Reg.KEP_CMD_RESULT = nw n ∧
    (keepCmd op s).2.bit Reg.KEP_STATUS 1 = true := by
  have hset : KeepSide s (r.setReg Reg.KEP_CMD_RESULT (nw n)) := hside.setReg (by decide) _
  obtain ⟨hstat, hkeep, hbit, hregs⟩ := kepStat_spec hset.drained 1
  have hfgt : (kepStat 1 (r.setReg Reg.KEP_CMD_RESULT (nw n))).bit Reg.FGT_CTL 0 = false := by
    rw [State.bit, (hset.trans hstat).regs _ (by decide)]; exact hoff
  have heq : (keepCmd op s).2 = kepStat 1 (r.setReg Reg.KEP_CMD_RESULT (nw n)) := by
    unfold keepCmd
    rw [hrun]
    dsimp only
    rw [hfgt, Bool.and_false, if_neg Bool.false_ne_true]
  rw [heq]
  refine ⟨hset.trans hstat, hkeep, ?_, ?_⟩
  · rw [hregs _ (by decide) (by decide), reg_setReg_self]
  · rw [State.bit, hbit, bset_bit _ _ _ _ (by decide), if_pos rfl]

theorem keepRun_erase (s : State) : keepRun 2 s = (0, keepZero 0x1000 4096 s) := rfl

theorem keepRun_restore_closed {s : State} (h : presenceOpen s = false) : keepRun 1 s = (2, s) := by simp only [keepRun, h, Bool.not_false, if_true]

theorem keepRun_restore {s : State} (h : presenceOpen s = true) : keepRun 1 s =
    ((readLayer 0 s).1.elim 3 fun _ => 0, (readLayer 0 s).1.elim (readLayer 0 s).2 fun ws => copyLayer ws (keepZero 0x1000 512 (readLayer 0 s).2)) := by
  simp only [keepRun, h, Bool.not_true, Bool.false_eq_true, if_false]
  generalize readLayer 0 s = p
  obtain ⟨o, r⟩ := p
  cases o <;> rfl

theorem keepRun_apply (s : State) : keepRun 3 s =
    ((readLayer 0x1000 s).1.elim 3 fun _ => 0, (readLayer 0x1000 s).1.elim (readLayer 0x1000 s).2 fun ws => copyLayer ws (readLayer 0x1000 s).2) := by
  simp only [keepRun]
  generalize readLayer 0x1000 s = p
  obtain ⟨o, r⟩ := p
  cases o <;> rfl

section
variable {i : Initiator} {v : Word} {s : State} (h : Reaches Reg.KEP_CMD s) (hoff : s.bit Reg.FGT_CTL 0 = false)
include h hoff

/-- A command, written. -/
theorem keepCommand {op n : Nat} {r : State} (hop : op < 16) (hn : n < 16) (hrun : keepRun op s = (n, r)) (hside : KeepSide s r) :
    ∃ t, okSettled (regCmd i Reg.KEP_CMD (fset v 3 0 op) s) = .next t ∧ t.fld Reg.KEP_CMD_RESULT 3 0 = n ∧ t.bit Reg.KEP_STATUS 1 = true ∧
    t.resp = ⟨i.ep, .ok, []⟩ ∧ t.keep = r.keep ∧ BlocksOnly s (keepCmd op s).2 ∧ SameMemory (keepCmd op s).2 t := by
  obtain ⟨hcmd, hkeep, hres, hbit⟩ := keepCmd_spec hrun hside hoff
  have hop' : fget (fset v 3 0 op) 3 0 = op := by rw [fget_fset_self _ _ _ _ (by decide) (by decide), Nat.mod_eq_of_lt (by omega)]
  have hw : kepWrite i.ep Reg.KEP_CMD (fset v 3 0 op) s = (keepCmd op s).2 := by rw [kepWrite, if_pos rfl, hop']
  exact ⟨_, regCmd_keep h (by decide) (by decide) hw (h.calm.blocksOnly hcmd.only hcmd.drained), result_fld hn _ hres, hbit, accessEnd_resp .., hkeep, hcmd.only,
    accessEnd_memory ..⟩

/-- RESTORE_FACTORY outside a presence window. -/
theorem restore_refused (hclosed : presenceOpen s = false) : ∃ t, exec (.restoreFactory i v) s = .next t ∧ t.fld Reg.KEP_CMD_RESULT 3 0 = 2 ∧
    t.resp = ⟨i.ep, .ok, []⟩ ∧ SameMemory s t := by
  obtain ⟨t, ht, hres, -, hresp, hkeep, honly, hm⟩ := keepCommand (i := i) (v := v) h hoff (by decide) (by decide) (keepRun_restore_closed hclosed)
    (.refl h.calm.sources)
  exact ⟨t, ht, hres, hresp, (honly.memory (hm.keep.symm.trans hkeep)).trans hm⟩

theorem restore_invalid (hopen : presenceOpen s = true) (hnone : (readLayer 0 s).1 = none) : ∃ t, exec (.restoreFactory i v) s = .next t ∧
    t.fld Reg.KEP_CMD_RESULT 3 0 = 3 ∧ t.resp = ⟨i.ep, .ok, []⟩ := by
  have hrun : keepRun 1 s = (3, (readLayer 0 s).2) := by rw [keepRun_restore hopen, hnone]; rfl
  obtain ⟨t, ht, hres, -, hresp, -⟩ := keepCommand (i := i) (v := v) h hoff (by decide) (by decide) hrun (readLayer_spec h.calm.sources 0).1
  exact ⟨t, ht, hres, hresp⟩

theorem apply_invalid (hnone : (readLayer 0x1000 s).1 = none) : ∃ t, exec (.applyUser i v) s = .next t ∧
    t.fld Reg.KEP_CMD_RESULT 3 0 = 3 ∧ t.resp = ⟨i.ep, .ok, []⟩ := by
  have hrun : keepRun 3 s = (3, (readLayer 0x1000 s).2) := by rw [keepRun_apply, hnone]; rfl
  obtain ⟨t, ht, hres, -, hresp, -⟩ := keepCommand (i := i) (v := v) h hoff (by decide) (by decide) hrun (readLayer_spec h.calm.sources 0x1000).1
  exact ⟨t, ht, hres, hresp⟩

section
variable (hinj : s.keepInj = 0)
include hinj

/-- RESTORE_FACTORY with a valid factory layer: the active layer holds it, and the user's is zero. -/
theorem restore_done (hopen : presenceOpen s = true) {ws : List Word} (hws : (readLayer 0 s).1 = some ws) : ∃ t, exec (.restoreFactory i v) s = .next t ∧
    t.fld Reg.KEP_CMD_RESULT 3 0 = 0 ∧ (∀ k, k < 512 → memRead t.keep (0x1200 + k) = ⟨ws.getD k 0, .good⟩) ∧ t.bit Reg.KEP_STATUS 1 = true ∧
    (∀ o, o < 0x200 → memRead t.keep (0x1000 + o) = MWord.zero) ∧ ∀ o, 0x1400 ≤ o → memRead t.keep o = memRead s.keep o := by
  obtain ⟨hread, hout, hlen⟩ := readLayer_spec h.calm.sources 0
  have hrun : keepRun 1 s = (0, copyLayer ws (keepZero 0x1000 512 (readLayer 0 s).2)) := by rw [keepRun_restore hopen, hws]; rfl
  have hzero := (keepZero_spec hread.drained (hread.inj.trans hinj) 0x1000 512).1
  obtain ⟨hz, hzout⟩ := keepZero_read hread.drained (hread.inj.trans hinj) 0x1000 512
  have hcopy := (copyLayer_spec (hlen ws hws) hzero.drained ((hread.trans hzero).inj.trans hinj)).1
  obtain ⟨hc, hcout⟩ := copyLayer_read (hlen ws hws) hzero.drained ((hread.trans hzero).inj.trans hinj)
  obtain ⟨t, ht, hres, hbit, -, hkeep, -⟩ := keepCommand (i := i) (v := v) h hoff (by decide) (by decide) hrun ((hread.trans hzero).trans hcopy)
  refine ⟨t, ht, hres, fun k hk => ?_, hbit, fun o ho => ?_, fun o ho => ?_⟩
  · rw [hkeep, hc k hk]
  · rw [hkeep, hcout _ (by omega), hz o (by omega)]
  · rw [hkeep, hcout _ (by omega), hzout _ (by omega), hout _ (by omega)]

theorem erase_done : ∃ t, exec (.eraseUser i v) s = .next t ∧ t.fld Reg.KEP_CMD_RESULT 3 0 = 0 ∧ t.bit Reg.KEP_STATUS 1 = true ∧
    (∀ o, o < 4096 → memRead t.keep (0x1000 + o) = MWord.zero) ∧ ∀ o, o < 0x1000 ∨ 0x2000 ≤ o → memRead t.keep o = memRead s.keep o := by
  obtain ⟨hz, hzout⟩ := keepZero_read h.calm.sources hinj 0x1000 4096
  obtain ⟨t, ht, hres, hbit, -, hkeep, -⟩ := keepCommand (i := i) (v := v) h hoff (by decide) (by decide) (keepRun_erase s)
    (keepZero_spec h.calm.sources hinj 0x1000 4096).1
  refine ⟨t, ht, hres, hbit, fun o ho => ?_, fun o ho => ?_⟩
  · rw [hkeep, hz o ho]
  · rw [hkeep, hzout o (by omega)]

theorem apply_done {ws : List Word} (hws : (readLayer 0x1000 s).1 = some ws) : ∃ t, exec (.applyUser i v) s = .next t ∧ t.fld Reg.KEP_CMD_RESULT 3 0 = 0 ∧
    (∀ k, k < 512 → memRead t.keep (0x1200 + k) = ⟨ws.getD k 0, .good⟩) ∧ ∀ o, 0x1400 ≤ o → memRead t.keep o = memRead s.keep o := by
  obtain ⟨hread, hout, hlen⟩ := readLayer_spec h.calm.sources 0x1000
  have hrun : keepRun 3 s = (0, copyLayer ws (readLayer 0x1000 s).2) := by rw [keepRun_apply, hws]; rfl
  have hcopy := (copyLayer_spec (hlen ws hws) hread.drained (hread.inj.trans hinj)).1
  obtain ⟨hc, hcout⟩ := copyLayer_read (hlen ws hws) hread.drained (hread.inj.trans hinj)
  obtain ⟨t, ht, hres, -, -, hkeep, -⟩ := keepCommand (i := i) (v := v) h hoff (by decide) (by decide) hrun (hread.trans hcopy)
  refine ⟨t, ht, hres, fun k hk => ?_, fun o ho => ?_⟩
  · rw [hkeep, hc k hk]
  · rw [hkeep, hcout _ (by omega), hout _ (by omega)]

end

end

/-! ### Write protection and the injection -/

theorem wp_fields : ∀ w : Fin 6, (regAt (Reg.KEP_WP w)).isSome = true ∧ fieldsAt (Reg.KEP_WP w) = [fd (if w.val = 5 then 23 else 39) 0 "PAGES" .w1s 0] := by
  decide

theorem storedWord_w1s {a hi : Nat} {n : String} (hf : fieldsAt a = [fd hi 0 n .w1s 0]) (v : Word) (s : State) :
    storedWord a v s = fset (s.reg a) hi 0 (fget (s.reg a ||| v) hi 0) := by
  rw [storedWord, hf]
  rfl

theorem fset_low (w v : Word) {hi : Nat} (h : hi < 40) : fset w hi 0 (fget (w ||| v) hi 0) = w ||| (v &&& BitVec.ofNat 40 (2 ^ (hi + 1) - 1)) := by
  apply BitVec.eq_of_getLsbD_eq
  intro j hj
  rw [fset_bit _ _ _ _ _ (Nat.zero_le _) h, BitVec.getLsbD_or, BitVec.getLsbD_and, BitVec.getLsbD_ofNat, Nat.testBit_two_pow_sub_one]
  by_cases hlt : j ≤ hi
  · rw [if_pos ⟨Nat.zero_le _, hlt⟩, fget_testBit]
    simp [hlt, hj, show j < hi + 1 by omega]
  · simp [hlt, show ¬ j < hi + 1 by omega]

/-- The pages of a word of `KEP_WP` that are protected more (R608). -/
theorem kepWp_written (w : Fin 6) {i : Initiator} {v : Word} {s : State} (h : Reaches (Reg.KEP_WP w) s) : ∃ t, exec (.kepWpWrite i w v) s = .next t ∧
    t.reg (Reg.KEP_WP w) = s.reg (Reg.KEP_WP w) ||| (if w.val = 5 then v &&& 0xFFFFFF else v) ∧ Took i [Reg.KEP_WP w] s t := by
  obtain ⟨hreg, hfields⟩ := wp_fields w
  have hlt := w.isLt
  have hne : Reg.KEP_WP w ≠ Reg.KEP_CMD ∧ Reg.KEP_WP w ≠ Reg.KEP_INJECT := by simp only [Reg.KEP_WP, Reg.KEP_CMD, Reg.KEP_INJECT]; omega
  have hsrc : Reg.KEP_STATUS ∉ Reg.KEP_WP w :: rsvdRegs ∧ Reg.KEP_EVT_EN ∉ Reg.KEP_WP w :: rsvdRegs := by
    simp only [Reg.KEP_WP, Reg.KEP_STATUS, Reg.KEP_EVT_EN, rsvdRegs, Reg.SYS_STATUS, Reg.SYS_RSVD_ADDR, Reg.SYS_RSVD_DATA, Reg.SYS_RSVD_CNT, List.mem_cons,
      List.not_mem_nil, or_false, not_or]; omega
  have hfree : ¬ reservedWrite s (Reg.KEP_WP w) v := by
    rintro ⟨f, hf, hacc, -⟩
    rw [hfields, List.mem_singleton] at hf
    rw [hf] at hacc
    simp [fd] at hacc
  have hlevel : levelOn (writeReg i.ep (Reg.KEP_WP w) v s) 89 = levelOn s 89 :=
    ListedBut.meet (writeReg_listedBut i.ep (Reg.KEP_WP w) v s) hsrc.1 hsrc.2 3 1
  have hstill : lv1 89 (writeReg i.ep (Reg.KEP_WP w) v) s = s.setReg (Reg.KEP_WP w) (storedWord (Reg.KEP_WP w) v s) := by
    rw [lv1, ← writeReg_accepted hfree i.ep]
    simp [relevelList, hlevel]
  have hw : kepWrite i.ep (Reg.KEP_WP w) v s = s.setReg (Reg.KEP_WP w) (storedWord (Reg.KEP_WP w) v s) := by
    rw [kepWrite, if_neg hne.1, if_neg hne.2, hstill]
  have hpage : regPage (Reg.KEP_WP w) = 0x71 := by simp only [regPage, Reg.KEP_WP]; omega
  refine ⟨_, regCmd_keep h hpage hreg hw (h.calm.regsOnly (regsOnly_setReg ..)), ?_,
    took_of_regsOnly (regsOnly_setReg ..) fun b hb => reg_setReg_ne (List.ne_of_not_mem_cons hb) ..⟩
  rw [accessEnd_reg, reg_setReg_self, storedWord_w1s hfields]
  split
  · exact fset_low _ _ (by decide)
  · rw [fset_low _ _ (by decide)]
    congr 1
    exact BitVec.and_allOnes

theorem kepInject_armed {i : Initiator} {v : Word} {s : State} (h : Reaches Reg.KEP_INJECT s) : ∃ t, exec (.kepInject i v) s = .next t ∧ Took i [] s t ∧
    t.keepInj = if bget v 1 then 2 else if bget v 0 then 1 else s.keepInj := by
  have hw : kepWrite i.ep Reg.KEP_INJECT v s = { s with keepInj := if bget v 1 then 2 else if bget v 0 then 1 else s.keepInj } := by
    rw [kepWrite, if_neg (by decide), if_pos rfl]
    split
    · rfl
    · split <;> rfl
  have hchange : BlockChange [] s { s with keepInj := if bget v 1 then 2 else if bget v 0 then 1 else s.keepInj } := ⟨rfl, rfl, rfl, fun _ _ => rfl⟩
  exact ⟨_, regCmd_keep h (by decide) (by decide) hw (h.calm.blocksOnly hchange.only (hchange.drained h.calm.sources)), hchange.took i, rfl⟩

end Sys2Proof.Machine
end

section
/-!
SUPPORT. Fingertip: its enable, the calibration load, the injections and analog samples (R596, R600, R603, R605, R606, R612).
-/
set_option linter.constructorNameAsVariable false

namespace Sys2Proof.Machine

/-! ### `FGT_CTL` (R605, R606) -/

section
variable {i : Initiator} {a : Nat} {v : Word} {s u : State} (h : Reaches a s) (hpage : regPage a = 0x70) (hreg : (regAt a).isSome = true)
include h hpage hreg

/-- A register write of Fingertip. -/
theorem regCmd_fgt (hw : fgtWrite i.ep a v s = u) (hu : Calm u) : okSettled (regCmd i a v s) = .next (accessEnd i.ep .ok u) := by
  refine regCmd_page h (by omega) (by omega) (by rw [hpage]; decide) hreg ?_ hu
  have hrt : a ≠ Reg.FAB_RT_DATA := fun e => by rw [e] at hpage; exact absurd hpage (by decide)
  simp [pageWrite, plRefused_above (pl := initPl i) (show 0x50 ≤ regPage a by omega), hpage, hrt, hw]

end

theorem ctl_stored (v : Word) (s : State) : storedWord Reg.FGT_CTL v s = fset (s.reg Reg.FGT_CTL) 0 0 (fget v 0 0) := by
  have hf : fieldsAt Reg.FGT_CTL = [fd 1 1 "RELOAD" .wo 0, fd 0 0 "EN" .rw 0] := by decide
  rw [storedWord, hf]
  rfl

theorem ctl_written (ep : Nat) (v : Word) (s : State) : writeReg ep Reg.FGT_CTL v s = s.setReg Reg.FGT_CTL (fset (s.reg Reg.FGT_CTL) 0 0 (fget v 0 0)) := by
  have hf : fieldsAt Reg.FGT_CTL = [fd 1 1 "RELOAD" .wo 0, fd 0 0 "EN" .rw 0] := by decide
  have hfree : ¬ reservedWrite s Reg.FGT_CTL v := by
    rw [← storeReserved_iff, storeReserved, hf]
    simp [fieldReserved_free (a := Reg.FGT_CTL) (by decide)]
  rw [writeReg_accepted hfree, ctl_stored]

theorem fset_one_bit (w v : Word) (j : Nat) : bget (fset w 0 0 (fget v 0 0)) j = if j = 0 then bget v 0 else bget w j := by
  unfold bget
  rw [fset_bit _ _ _ _ _ (by decide) (by decide)]
  by_cases hj : j = 0
  · subst hj
    rw [if_pos ⟨le_refl _, le_refl _⟩, if_pos rfl, fget_testBit]
    simp
  · rw [if_neg (by omega), if_neg hj]

theorem ctl_bit_written (ep : Nat) (v : Word) (s : State) : (writeReg ep Reg.FGT_CTL v s).bit Reg.FGT_CTL 0 = bget v 0 := by
  rw [ctl_written, State.bit, reg_setReg_self, fset_one_bit, if_pos rfl]

theorem ctl_others (ep : Nat) (v : Word) (s : State) (a : Nat) (ha : a ∉ [Reg.FGT_CTL]) : (writeReg ep Reg.FGT_CTL v s).reg a = s.reg a := by
  rw [ctl_written]
  exact reg_setReg_ne (List.ne_of_not_mem_cons ha) ..

theorem fset_one_self {w v : Word} (h : bget v 0 = bget w 0) : fset w 0 0 (fget v 0 0) = w := by
  apply BitVec.eq_of_getLsbD_eq
  intro j _
  refine (fset_one_bit w v j).trans ?_
  split
  · next e => rw [h, e]; rfl
  · rfl

section
variable {i : Initiator} {v : Word} {s : State} (h : Reaches Reg.FGT_CTL s)
include h

/-- A write of `FGT_CTL`: the enable, and what Fingertip makes of it. -/
theorem fgtCtl_written {f : Fgt → Fgt} {l : List Nat} (hl : ∀ a, a ∉ l → (writeReg i.ep Reg.FGT_CTL v s).reg a = s.reg a)
    (hf : fgtCtlWrite i.ep v s = updFgt f (writeReg i.ep Reg.FGT_CTL v s)) : ∃ t, okSettled (regCmd i Reg.FGT_CTL v s) = .next t ∧
    t.bit Reg.FGT_CTL 0 = bget v 0 ∧ t.fgt = f s.fgt ∧ Took i l s t := by
  have hw : fgtWrite i.ep Reg.FGT_CTL v s = updFgt f (writeReg i.ep Reg.FGT_CTL v s) := by rw [fgtWrite, if_pos rfl, hf]
  have hchange : BlockChange l s (updFgt f (writeReg i.ep Reg.FGT_CTL v s)) := by
    refine ⟨?_, ?_, ?_, hl⟩
    · rw [ctl_written]; rfl
    · rw [ctl_written]; rfl
    · rw [ctl_written]; rfl
  refine ⟨_, regCmd_fgt h (by decide) (by decide) hw (h.calm.blocksOnly hchange.only (hchange.drained h.calm.sources)), ?_, ?_, hchange.took i⟩
  · rw [accessEnd_bit, ctl_written]
    show bget ((s.setReg Reg.FGT_CTL _).reg Reg.FGT_CTL) 0 = _
    rw [reg_setReg_self, fset_one_bit, if_pos rfl]
  · rw [ctl_written]; rfl

theorem fgt_enabled (hoff : s.bit Reg.FGT_CTL 0 = false) : ∃ t, exec (.fgtEnable i v) s = .next t ∧ t.bit Reg.FGT_CTL 0 = true ∧
    t.fgt = { s.fgt with loading := true, next := none, starting := !s.fgt.running, stopping := false } ∧ Took i [Reg.FGT_CTL] s t := by
  have hbit : bget (bset v 0 true) 0 = true := by rw [bset_bit _ _ _ _ (by decide), if_pos rfl]
  obtain ⟨t, ht, hen, hfgt, htook⟩ := fgtCtl_written h (i := i) (v := bset v 0 true)
    (f := fun f => { f with loading := true, next := none, starting := !f.running, stopping := false }) (ctl_others _ _ s)
    (by simp [fgtCtlWrite, ctl_bit_written, hbit, hoff])
  exact ⟨t, ht, hen.trans hbit, hfgt, htook⟩

theorem fgt_disabled (hon : s.bit Reg.FGT_CTL 0 = true) : ∃ t, exec (.fgtDisable i v) s = .next t ∧ t.bit Reg.FGT_CTL 0 = false ∧
    t.fgt = { s.fgt with starting := false, stopping := s.fgt.running } ∧ Took i [Reg.FGT_CTL] s t := by
  have hbit : bget (bset v 0 false) 0 = false := by rw [bset_bit _ _ _ _ (by decide), if_pos rfl]
  obtain ⟨t, ht, hen, hfgt, htook⟩ := fgtCtl_written h (i := i) (v := bset v 0 false)
    (f := fun f => { f with starting := false, stopping := f.running }) (ctl_others _ _ s) (by simp [fgtCtlWrite, ctl_bit_written, hbit, hon])
  exact ⟨t, ht, hen.trans hbit, hfgt, htook⟩

theorem fgt_reloads (hon : s.bit Reg.FGT_CTL 0 = true) (hv : bget v 0 = true) : ∃ t, exec (.fgtReload i v) s = .next t ∧
    t.fgt = { s.fgt with loading := true } ∧ Took i [] s t := by
  have hbit : bget (bset v 1 true) 0 = true := by rw [bset_bit _ _ _ _ (by decide), if_neg (by decide), hv]
  have hbit1 : bget (bset v 1 true) 1 = true := by rw [bset_bit _ _ _ _ (by decide), if_pos rfl]
  have hsame : ∀ a, a ∉ ([] : List Nat) → (writeReg i.ep Reg.FGT_CTL (bset v 1 true) s).reg a = s.reg a := by
    intro a _
    rw [ctl_written, fset_one_self (hbit.trans hon.symm)]
    by_cases ha : a = Reg.FGT_CTL
    · rw [ha, reg_setReg_self]
    · exact reg_setReg_ne ha ..
  obtain ⟨t, ht, -, hfgt, htook⟩ := fgtCtl_written h (i := i) (v := bset v 1 true) (f := fun f => { f with loading := true }) hsame
    (by simp [fgtCtlWrite, ctl_bit_written, hbit, hbit1, hon])
  exact ⟨t, ht, hfgt, htook⟩

end

/-! ### The calibration load (R605, R612) -/

/-- Fingertip, its load taken up. -/
def loadTaken (s : State) : State := updFgt (fun f => { f with loading := false }) s

/-- A layer read, as what it gives and what it leaves. -/
theorem readLayer_ends {s : State} (hs : Drained s) {o : Nat} {x : Option (List Word)} (h : (readLayer o s).1 = x) :
    ∃ r, readLayer o s = (x, r) ∧ KeepSide s r ∧ ∀ b, memRead (readLayer o s).2.keep b = memRead r.keep b := by
  have hside := (readLayer_spec hs o).1
  generalize readLayer o s = p at *
  exact ⟨p.2, by rw [← h], hside, fun _ => rfl⟩

theorem calLoad_some {s r : State} {ws : List Word} (hload : s.fgt.loading = true)
    (h : readLayer 0x1200 (loadTaken s) = (some ws, r)) : calLoad s = updFgt (fun f => { f with next := some (ws, 1) }) r := by
  rw [loadTaken] at h
  unfold calLoad
  rw [hload, Bool.not_true, if_neg Bool.false_ne_true]
  dsimp only
  rw [h]

/-- Which fallback a failed load names (R612). -/
def fallbackKind (fac : Option (List Word)) : Nat := if fac.isSome then 1 else 3

theorem calLoad_none {s r q : State} {fac : Option (List Word)} (hload : s.fgt.loading = true)
    (h : readLayer 0x1200 (loadTaken s) = (none, r)) (hq : readLayer 0 r = (fac, q)) :
    calLoad s = updFgt (fun f => { f with next := some (fac.getD builtinLayer, if fac.isSome then 2 else 3) })
      (logErr .fgt 0x59 0 0 (nw (fallbackKind fac)) (fgtErr 1 (fallbackKind fac) q)) := by
  rw [loadTaken] at h
  unfold calLoad fallbackKind
  rw [hload, Bool.not_true, if_neg Bool.false_ne_true]
  dsimp only
  rw [h]
  dsimp only
  rw [hq]

theorem logErr_fgt (blk : BlkId) (kind unit : Nat) (addr info : Word) (s : State) : (logErr blk kind unit addr info s).fgt = s.fgt := by
  unfold logErr
  split <;> rfl

/-- The load has failed: the registers and the log that say so. -/
theorem fgtErr_logged (k : Nat) (q : State) : BlocksOnly q (logErr .fgt 0x59 0 0 (nw k) (fgtErr 1 k q)) ∧
    (logErr .fgt 0x59 0 0 (nw k) (fgtErr 1 k q)).eiu = q.eiu ∧ (logErr .fgt 0x59 0 0 (nw k) (fgtErr 1 k q)).fgt = q.fgt ∧
    (logErr .fgt 0x59 0 0 (nw k) (fgtErr 1 k q)).reg Reg.FGT_ERR_INFO = nw (1 * 256 + k % 256) := by
  have hchange : BlockChange [Reg.SYS_ERRLOG_LOST_CNT] (fgtErr 1 k q) (logErr .fgt 0x59 0 0 (nw k) (fgtErr 1 k q)) := (BlockChange.refl _ _).logErr (by simp) ..
  exact ⟨(show BlocksOnly q (fgtErr 1 k q) from rfl).trans hchange.only, hchange.eiu, logErr_fgt .., (hchange.regs _ (by decide)).trans (reg_setReg_self ..)⟩

theorem loadTaken_only (s : State) : BlocksOnly s (loadTaken s) := rfl

section
variable {s : State} (hc : Calm s) (hload : s.fgt.loading = true)
include hc hload

theorem calLoad_valid {ws : List Word} (hws : (readLayer 0x1200 s).1 = some ws) : ∃ t, exec .calLoadDone s = .next t ∧
    t.fgt = { s.fgt with loading := false, next := some (ws, 1) } ∧ t.reg Reg.FGT_ERR_INFO = s.reg Reg.FGT_ERR_INFO := by
  have hbegun : Drained (loadTaken s) := hc.sources
  obtain ⟨r, hr, hside, -⟩ := readLayer_ends hbegun ((readLayer_congr hc.sources hbegun (fun _ => rfl) 0x1200).1.trans hws)
  have heq := calLoad_some hload hr
  have honly : BlocksOnly s (calLoad s) := by rw [heq]; exact (loadTaken_only s).trans (hside.only.trans rfl)
  have hd : Drained (calLoad s) := by rw [heq]; exact hside.drained
  refine ⟨_, okSettled_calm (hc.blocksOnly honly hd), ?_, ?_⟩
  · show (calLoad s).fgt = _
    rw [heq, updFgt, hside.fgt]
    rfl
  · rw [latched_get_reg, heq]
    exact hside.regs _ (by decide)

theorem calLoad_fallback (hnone : (readLayer 0x1200 s).1 = none) : let fac := (readLayer 0 (readLayer 0x1200 s).2).1
    ∃ t, exec .calLoadDone s = .next t ∧
    t.fgt = { s.fgt with loading := false, next := some (fac.getD builtinLayer, if fac.isSome then 2 else 3) } ∧
    t.fld Reg.FGT_ERR_INFO 7 0 = (if fac.isSome then 1 else 3) ∧ t.fld Reg.FGT_ERR_INFO 15 8 = 1 := by
  intro fac
  have hbegun : Drained (loadTaken s) := hc.sources
  obtain ⟨hvalue, hkeep⟩ := readLayer_congr hc.sources hbegun (fun _ => rfl) 0x1200
  obtain ⟨r, hr, hside, hread⟩ := readLayer_ends hbegun (hvalue.trans hnone)
  obtain ⟨q, hq, hside', -⟩ := readLayer_ends hside.drained
    (readLayer_congr (readLayer_spec hc.sources 0x1200).1.drained hside.drained (fun b => (hread b).symm.trans (hkeep b)) 0).1
  have heq := calLoad_none hload hr hq
  obtain ⟨honly, heiu, hfgt, hinfo⟩ := fgtErr_logged (fallbackKind fac) q
  have hreads := hside.trans hside'
  have honly' : BlocksOnly s (calLoad s) := by rw [heq]; exact (loadTaken_only s).trans (hreads.only.trans (honly.trans rfl))
  have hd : Drained (calLoad s) := by
    rw [heq]
    show Drained (logErr .fgt 0x59 0 0 (nw (fallbackKind fac)) (fgtErr 1 (fallbackKind fac) q))
    unfold Drained
    rw [heiu]
    exact hreads.drained
  have hinfo' : (latched (calLoad s)).reg Reg.FGT_ERR_INFO = nw (1 * 256 + fallbackKind fac % 256) := by
    rw [latched_get_reg, heq]
    exact hinfo
  refine ⟨_, okSettled_calm (hc.blocksOnly honly' hd), ?_, ?_, ?_⟩
  · show (calLoad s).fgt = _
    rw [heq, updFgt, hfgt, hreads.fgt]
    rfl
  · rw [State.fld, hinfo']
    unfold fallbackKind
    split <;> decide
  · rw [State.fld, hinfo']
    unfold fallbackKind
    split <;> decide

end

end Sys2Proof.Machine
end

section
/-!
SUPPORT. Fingertip's injections and analog samples, and O50 (R596, R600, R603, R606).
-/
set_option linter.constructorNameAsVariable false

namespace Sys2Proof.Machine

/-! ### Records and event bits -/

/-- The registers that a record of the queue touches. -/
def fgtQueueRegs : List Nat := [Reg.FGT_STATUS, Reg.FGT_ERR_INFO, Reg.FGT_QUEUE, Reg.FGT_LAST_TICK, Reg.FGT_AIN_COALESCE_CNT, Reg.FGT_DROP_CNT, Reg.FGT_HOLD_CNT,
  Reg.FGT_EVENT_CNT, Reg.EIU_SRC_CNT 88]

/-- From s to t Fingertip has queued or dropped a record. -/
structure FgtSide (s t : State) : Prop where
  only : BlocksOnly s t
  ain : t.fgt.ain = s.fgt.ain
  drained : Drained t
  regs : RegsBut fgtQueueRegs s t

theorem FgtSide.refl {s : State} (h : Drained s) : FgtSide s s := ⟨.refl s, rfl, h, fun _ _ => rfl⟩

section
variable {s t : State} (h : FgtSide s t)
include h

theorem FgtSide.trans {u : State} (g : FgtSide t u) : FgtSide s u :=
  ⟨h.only.trans g.only, g.ain.trans h.ain, g.drained, fun a ha => (g.regs a ha).trans (h.regs a ha)⟩

theorem FgtSide.setReg {a : Nat} (ha : a ∈ fgtQueueRegs) (v : Word) : FgtSide s (t.setReg a v) :=
  h.trans ⟨rfl, rfl, h.drained, fun b hb => reg_setReg_ne (fun e : b = a => hb (e.symm ▸ ha)) t v⟩

theorem FgtSide.inc {a : Nat} (ha : a ∈ fgtQueueRegs) : FgtSide s (t.inc a) := h.setReg ha _
theorem FgtSide.setFld {a : Nat} (ha : a ∈ fgtQueueRegs) (hi lo v : Nat) : FgtSide s (t.setFld a hi lo v) := h.setReg ha _

theorem FgtSide.updFgt {f : Fgt → Fgt} (hf : (f t.fgt).ain = t.fgt.ain) : FgtSide s (updFgt f t) :=
  h.trans ⟨rfl, hf, h.drained, fun _ _ => rfl⟩

theorem FgtSide.high : FgtSide s (fgtHigh t) := by
  unfold fgtHigh
  dsimp only
  split
  · exact h.setFld (by decide) ..
  · exact h

end

/-- An event bit of Fingertip. -/
theorem fgtStat_spec {s : State} (h : Drained s) {j : Nat} (hj : j < 40) : FgtSide s (fgtStat j s) ∧ (fgtStat j s).fgt = s.fgt ∧ (fgtStat j s).bit Reg.FGT_STATUS j = true ∧
    ∀ a, a ≠ Reg.FGT_STATUS → a ≠ Reg.EIU_SRC_CNT 88 → (fgtStat j s).reg a = s.reg a := by
  obtain ⟨hlevels, hd⟩ := lv1_levels 88 (fun s => s.setBit Reg.FGT_STATUS j true) (s := s) h
  have hregs : ∀ a, a ≠ Reg.FGT_STATUS → a ≠ Reg.EIU_SRC_CNT 88 → (fgtStat j s).reg a = s.reg a :=
    fun a h1 h2 => (hlevels.reg h2).trans (reg_setBit_ne h1 ..)
  have hfgt : (fgtStat j s).fgt = s.fgt := (congrArg State.fgt hlevels.events).trans rfl
  refine ⟨⟨?_, congrArg Fgt.ain hfgt, hd, fun a ha => ?_⟩, hfgt, ?_, hregs⟩
  · exact (regsOnly_setBit ..).blocksOnly.trans hlevels.events.blocksOnly
  · exact hregs a (fun e => ha (by simp [fgtQueueRegs, e])) (fun e => ha (by simp [fgtQueueRegs, e]))
  · have hword : (fgtStat j s).reg Reg.FGT_STATUS = bset (s.reg Reg.FGT_STATUS) j true := (hlevels.reg (by decide)).trans (reg_setBit_self ..)
    rw [State.bit, hword, bset_bit _ _ _ _ hj, if_pos rfl]

/-- A record dropped, before its event bit (R603). -/
def recDropped (x : Nat) (s : State) : State := fgtErr 2 x (s.inc Reg.FGT_DROP_CNT)

/-- The OVERFLOW record with one more record counted. -/
def ovfMore (s : State) (f : Fgt) : Fgt :=
  { f with ovf := match f.ovf with
    | none => some ⟨1, s.nowLo, f.q.length, !cnsLocked s⟩
    | some o => some { o with n := o.n + 1 } }

theorem fgtDropRec_eq (x : Nat) (s : State) : fgtDropRec x s = fgtHigh (updFgt (ovfMore (fgtStat 4 (recDropped x s))) (fgtStat 4 (recDropped x s))) := rfl

theorem recDropped_side (x : Nat) {s : State} (h : Drained s) : FgtSide s (recDropped x s) := ((FgtSide.refl h).inc (by decide)).setReg (by decide) _

theorem fgtHigh_kept (s : State) : (fgtHigh s).fgt = s.fgt ∧ ∀ a, a ≠ Reg.FGT_QUEUE → (fgtHigh s).reg a = s.reg a := by
  unfold fgtHigh
  dsimp only
  split
  · exact ⟨rfl, fun a ha => reg_setFld_ne ha ..⟩
  · exact ⟨rfl, fun _ _ => rfl⟩

/-- A record is dropped (R603). -/
theorem fgtDropRec_spec (x : Nat) {s : State} (h : Drained s) : FgtSide s (fgtDropRec x s) ∧ (fgtDropRec x s).bit Reg.FGT_STATUS 4 = true ∧
    (fgtDropRec x s).reg Reg.FGT_DROP_CNT = s.reg Reg.FGT_DROP_CNT + 1 ∧ (fgtDropRec x s).fgt.q = s.fgt.q ∧
    (fgtDropRec x s).fgt.ovf.map (fun o => o.n) = some (match s.fgt.ovf with | none => 1 | some o => o.n + 1) := by
  have hdrop := recDropped_side x h
  obtain ⟨hstat, hfgt, hbit, hregs⟩ := fgtStat_spec hdrop.drained (j := 4) (by decide)
  obtain ⟨hkept, hkeptRegs⟩ := fgtHigh_kept (updFgt (ovfMore (fgtStat 4 (recDropped x s))) (fgtStat 4 (recDropped x s)))
  have hfgt' : (fgtDropRec x s).fgt = ovfMore (fgtStat 4 (recDropped x s)) s.fgt := by
    rw [fgtDropRec_eq, hkept, updFgt, hfgt]
    rfl
  refine ⟨?_, ?_, ?_, ?_, ?_⟩
  · rw [fgtDropRec_eq]
    exact ((hdrop.trans hstat).updFgt rfl).high
  · rw [fgtDropRec_eq, State.bit, hkeptRegs _ (by decide)]
    exact hbit
  · rw [fgtDropRec_eq, hkeptRegs _ (by decide)]
    exact (hregs _ (by decide) (by decide)).trans ((reg_setReg_ne (by decide) ..).trans (reg_inc_self ..))
  · rw [hfgt']
    rfl
  · rw [hfgt', ovfMore]
    cases s.fgt.ovf <;> rfl

/-- A record enters the queue, or is dropped. -/
theorem fgtQueue_side (r : Word × Word) {s : State} (h : Drained s) : FgtSide s (fgtQueue r s) := by
  have hs : FgtSide s s := .refl h
  unfold fgtQueue
  split
  · exact (hs.updFgt rfl).inc (by decide)
  · split
    · exact (fgtDropRec_spec _ h).1
    · dsimp only
      refine FgtSide.high ?_
      have hput := fun (f : Fgt → Fgt) (hf : (f s.fgt).ain = s.fgt.ain) => (((hs.updFgt hf).inc (a := Reg.FGT_EVENT_CNT) (by decide)).setReg
        (a := Reg.FGT_LAST_TICK) (by decide))
      split
      · exact (hput _ rfl _).inc (by decide)
      · exact hput _ rfl _

/-! ### Injections (R596, R603) -/

section
variable {i : Initiator} {v : Word} {s : State} (h : Reaches Reg.FGT_INJECT s)
include h

theorem fgt_injected {u : State} (hu : FgtSide s u) (hw : fgtWrite i.ep Reg.FGT_INJECT v s = u) :
    okSettled (regCmd i Reg.FGT_INJECT v s) = .next (accessEnd i.ep .ok u) :=
  regCmd_fgt h (by decide) (by decide) hw (h.calm.blocksOnly hu.only hu.drained)

theorem injectSeq_done (h0 : bget v 0 = false) : ∃ t, exec (.fgtInjectSeq i v) s = .next t ∧ t.resp = ⟨i.ep, .ok, []⟩ ∧ t.bit Reg.FGT_STATUS 3 = true ∧
    t.reg Reg.FGT_SEQ_ERR_CNT = s.reg Reg.FGT_SEQ_ERR_CNT + 1 ∧ t.fgt = s.fgt := by
  have hbit0 : bget (bset v 1 true) 0 = false := by rw [bset_bit _ _ _ _ (by decide), if_neg (by decide), h0]
  have hbit1 : bget (bset v 1 true) 1 = true := by rw [bset_bit _ _ _ _ (by decide), if_pos rfl]
  have hw : fgtWrite i.ep Reg.FGT_INJECT (bset v 1 true) s = seqErr 0 s := by
    simp [fgtWrite, hbit0, hbit1, Reg.FGT_INJECT, Reg.FGT_CTL, Reg.FGT_KEYS, Reg.FGT_SCAN]
  have hseq : Drained (fgtErr 3 0 (s.inc Reg.FGT_SEQ_ERR_CNT)) := h.calm.sources
  obtain ⟨hstat, hfgt, hbit, hregs⟩ := fgtStat_spec hseq (j := 3) (by decide)
  have hlevels : BlocksOnly s (seqErr 0 s) := ((regsOnly_inc ..).trans (regsOnly_setReg ..)).blocksOnly.trans hstat.only
  refine ⟨_, regCmd_fgt h (by decide) (by decide) hw (h.calm.blocksOnly hlevels hstat.drained), accessEnd_resp .., ?_, ?_, ?_⟩
  · exact (accessEnd_bit ..).trans hbit
  · exact (accessEnd_reg ..).trans ((hregs _ (by decide) (by decide)).trans ((reg_setReg_ne (by decide) ..).trans (reg_inc_self ..)))
  · exact hfgt

theorem injectDrop_done (h1 : bget v 1 = false) : ∃ t, exec (.fgtInjectDrop i v) s = .next t ∧ t.resp = ⟨i.ep, .ok, []⟩ ∧ t.bit Reg.FGT_STATUS 4 = true ∧
    t.reg Reg.FGT_DROP_CNT = s.reg Reg.FGT_DROP_CNT + 1 ∧ t.fgt.q = s.fgt.q ∧
    t.fgt.ovf.map (fun o => o.n) = some (match s.fgt.ovf with | none => 1 | some o => o.n + 1) := by
  have hbit0 : bget (bset v 0 true) 0 = true := by rw [bset_bit _ _ _ _ (by decide), if_pos rfl]
  have hbit1 : bget (bset v 0 true) 1 = false := by rw [bset_bit _ _ _ _ (by decide), if_neg (by decide), h1]
  have hw : fgtWrite i.ep Reg.FGT_INJECT (bset v 0 true) s = fgtDropRec 0 s := by
    simp [fgtWrite, hbit0, hbit1, Reg.FGT_INJECT, Reg.FGT_CTL, Reg.FGT_KEYS, Reg.FGT_SCAN]
  obtain ⟨hside, hbit, hcnt, hq, hovf⟩ := fgtDropRec_spec 0 h.calm.sources
  exact ⟨_, fgt_injected h hside hw, accessEnd_resp .., (accessEnd_bit ..).trans hbit, (accessEnd_reg ..).trans hcnt, hq, hovf⟩

end

end Sys2Proof.Machine
end

section
/-!
SUPPORT. Analog samples of Fingertip (R600), and O50.
-/
set_option linter.constructorNameAsVariable false

namespace Sys2Proof.Machine

/-- No tick passes. -/
theorem advance_zero {s : State} (h : slewMode s = 0) : advance 0 s = s := by
  have hu : unitsIn (slewMode s) (slewInt s) (slewPos s) 0 = 0 := by rw [h]; rfl
  have hzero : addUnits 0 s = s := by simp [addUnits]
  have hrun : ∀ k : Nat, xbRun (0 * k) s = s := by
    intro k
    unfold xbRun
    split
    · rfl
    · simp
  show { xbRun (0 * s.fld Reg.TB_TICK_FS 23 0) (addUnits (unitsIn (slewMode s) (slewInt s) (slewPos s) 0) s) with
    tb := { (xbRun (0 * s.fld Reg.TB_TICK_FS 23 0) (addUnits (unitsIn (slewMode s) (slewInt s) (slewPos s) 0) s)).tb with
      slewCnt := (xbRun (0 * s.fld Reg.TB_TICK_FS 23 0) (addUnits (unitsIn (slewMode s) (slewInt s) (slewPos s) 0) s)).tb.slewCnt + 0 } } = s
  rw [hu, hzero, hrun]
  rfl

theorem advanceTo_now {s : State} (h : slewMode s = 0) : advanceTo s.now s = s := by
  have hticks : ticksFor (slewMode s) (slewInt s) (slewPos s) (s.now - s.now) = 0 := by rw [Nat.sub_self, ticksFor, if_pos rfl]
  rw [advanceTo, hticks, advance_zero h]

/-! ### The sample of a channel -/

/-- The smoothed value (R600). -/
def anaSmooth (j : Nat) (y c : Nat) (s : State) : Nat :=
  ((y : Int) + Int.fdiv ((c : Int) - (y : Int)) ((2 ^ s.fld (Reg.FGT_AIN_CFG j) 2 0 : Nat) : Int)).toNat

/-- A sample taken at a channel in state x, its raw value shown. -/
def anaTaken (j raw : Nat) (x : FgtAin) (s : State) : State :=
  if x.n < 4 then setAin j { x with n := x.n + 1 } (s.inc Reg.FGT_AIN_DISCARD_CNT)
  else if x.n = 4 then anaEvent j (anaCal s j raw) (setAin j { x with n := 5, y := anaCal s j raw } s)
  else
    let y := anaSmooth j x.y (anaCal s j raw) s
    let l := s.fld (Reg.FGT_AIN_VAL j) 13 0
    if s.fld (Reg.FGT_AIN_CFG j) 13 4 < (y - l) + (l - y) then anaEvent j y (setAin j { x with y := y } s) else setAin j { x with y := y } s

/-- The raw value of a channel is shown. -/
def rawShown (j raw : Nat) (s : State) : State := s.setFld (Reg.FGT_AIN_VAL j) 29 16 raw

theorem anaSample_eq {s : State} {j : Nat} (hrun : s.fgt.running = true) (hen : s.bit Reg.FGT_AIN_EN j = true) (htb : tbRunning s = true)
    (hfs : s.fld Reg.TB_TICK_FS 23 0 ≠ 0) (hslew : slewMode s = 0) (hnow : anaNext s j (s.ain j).last = s.now) (raw : Nat) :
    anaSample j raw s = anaTaken j raw { s.ain j with last := s.now } (rawShown j raw s) := by
  unfold anaSample
  have hcond : (!s.fgt.running || !s.bit Reg.FGT_AIN_EN j || !tbRunning s || s.fld Reg.TB_TICK_FS 23 0 == 0) = false := by simp [hrun, hen, htb, hfs]
  rw [hcond, if_neg Bool.false_ne_true]
  dsimp only
  rw [hnow, advanceTo_now hslew]
  rfl

theorem ain_setAin (j : Nat) (x : FgtAin) (s : State) : (setAin j x s).ain j = x := SMap.getD_put_self ..

/-- The channel's value and its raw sample stand apart from what a record touches. -/
theorem ainVal_apart {j : Nat} (hj : j < 24) : Reg.FGT_AIN_VAL j ∉ fgtQueueRegs ∧ Reg.FGT_AIN_VAL j ≠ Reg.FGT_AIN_EVT_CNT ∧
    Reg.FGT_AIN_VAL j ≠ Reg.FGT_AIN_DISCARD_CNT ∧ Reg.FGT_AIN_CFG j ≠ Reg.FGT_AIN_VAL j := by
  simp only [fgtQueueRegs, Reg.FGT_AIN_VAL, Reg.FGT_AIN_CFG, Reg.FGT_STATUS, Reg.FGT_ERR_INFO, Reg.FGT_QUEUE, Reg.FGT_LAST_TICK, Reg.FGT_AIN_COALESCE_CNT,
    Reg.FGT_DROP_CNT, Reg.FGT_HOLD_CNT, Reg.FGT_EVENT_CNT, Reg.EIU_SRC_CNT, Reg.FGT_AIN_EVT_CNT, Reg.FGT_AIN_DISCARD_CNT, List.mem_cons, List.not_mem_nil, or_false]
  omega

section
variable {j : Nat} (hj : j < 24)
include hj

/-- An event of a channel: its value is shown as valid and a record enters the queue. -/
theorem anaEvent_spec (y : Nat) {s : State} (h : Drained s) : BlocksOnly s (anaEvent j y s) ∧ Drained (anaEvent j y s) ∧ (anaEvent j y s).ain j = s.ain j ∧
    (anaEvent j y s).reg (Reg.FGT_AIN_VAL j) = bset (fset (s.reg (Reg.FGT_AIN_VAL j)) 13 0 y) 30 true ∧
    (anaEvent j y s).reg Reg.FGT_AIN_EVT_CNT = s.reg Reg.FGT_AIN_EVT_CNT + 1 := by
  obtain ⟨hqueue, hevt, -, -⟩ := ainVal_apart hj
  have hdef : ∃ r, anaEvent j y s = fgtQueue r ((s.inc Reg.FGT_AIN_EVT_CNT).setReg (Reg.FGT_AIN_VAL j) (bset (fset (s.reg (Reg.FGT_AIN_VAL j)) 13 0 y) 30 true)) := ⟨_, rfl⟩
  obtain ⟨r, hr⟩ := hdef
  have hset : Drained ((s.inc Reg.FGT_AIN_EVT_CNT).setReg (Reg.FGT_AIN_VAL j) (bset (fset (s.reg (Reg.FGT_AIN_VAL j)) 13 0 y) 30 true)) := h
  have hside := fgtQueue_side r hset
  rw [hr]
  refine ⟨((regsOnly_inc ..).trans (regsOnly_setReg ..)).blocksOnly.trans hside.only, hside.drained, ?_, ?_, ?_⟩
  · exact congrArg (SMap.getD FgtAin.reset j) hside.ain
  · rw [hside.regs _ hqueue, reg_setReg_self]
  · rw [hside.regs _ (by decide), reg_setReg_ne (Ne.symm hevt), reg_inc_self]

end

theorem rawShown_val (j : Nat) (raw : BitVec 14) (s : State) : (rawShown j raw.toNat s).fld (Reg.FGT_AIN_VAL j) 29 16 = raw.toNat := by
  rw [State.fld, rawShown, reg_setFld_self, fget_fset_self _ _ _ _ (by decide) (by decide), Nat.mod_eq_of_lt raw.isLt]

/-- What an event shows: its value, its validity, and the raw sample as before. -/
theorem ainWord_shown {w : Word} {y : Nat} (hy : y < 2 ^ 14) : fget (bset (fset w 13 0 y) 30 true) 29 16 = fget w 29 16 ∧
    fget (bset (fset w 13 0 y) 30 true) 13 0 = y ∧ bget (bset (fset w 13 0 y) 30 true) 30 = true := by
  refine ⟨?_, ?_, ?_⟩
  · rw [fget_bset_ne _ _ _ _ _ (by decide) (by decide) (by decide), fget_fset_ne _ _ _ _ _ _ (by decide) (by decide) (by decide) (by decide)]
  · rw [fget_bset_ne _ _ _ _ _ (by decide) (by decide) (by decide), fget_fset_self _ _ _ _ (by decide) (by decide), Nat.mod_eq_of_lt hy]
  · rw [bset_bit _ _ _ _ (by decide), if_pos rfl]

theorem anaCal_lt (j : Nat) (raw : Nat) (s : State) : anaCal s j raw < 2 ^ 14 := by
  unfold anaCal
  dsimp only
  omega

theorem anaCal_shown (k raw j r : Nat) (s : State) : anaCal (rawShown k raw s) j r = anaCal s j r := rfl
theorem latched_ain (s : State) (j : Nat) : (latched s).ain j = s.ain j := rfl
theorem setAin_only (j : Nat) (x : FgtAin) (s : State) : BlocksOnly s (setAin j x s) := rfl
theorem setAin_get_reg (j : Nat) (x : FgtAin) (s : State) (a : Nat) : (setAin j x s).reg a = s.reg a := rfl

/-- A sample at a channel of which the first four are over. -/
theorem anaTaken_fifth {j raw : Nat} {x : FgtAin} (h : x.n = 4) (s : State) :
    anaTaken j raw x s = anaEvent j (anaCal s j raw) (setAin j ⟨5, anaCal s j raw, x.last⟩ s) := by
  unfold anaTaken
  rw [if_neg (by omega), if_pos h]

theorem anaTaken_later {j raw : Nat} {x : FgtAin} (h : x.n = 5) (s : State) : anaTaken j raw x s =
    if s.fld (Reg.FGT_AIN_CFG j) 13 4 < (anaSmooth j x.y (anaCal s j raw) s - s.fld (Reg.FGT_AIN_VAL j) 13 0) +
      (s.fld (Reg.FGT_AIN_VAL j) 13 0 - anaSmooth j x.y (anaCal s j raw) s)
    then anaEvent j (anaSmooth j x.y (anaCal s j raw) s) (setAin j { x with y := anaSmooth j x.y (anaCal s j raw) s } s)
    else setAin j { x with y := anaSmooth j x.y (anaCal s j raw) s } s := by
  unfold anaTaken
  rw [if_neg (by omega), if_neg (by omega)]

section
variable {j : Fin 24} {raw : BitVec 14} {s : State} (hc : Calm s) (htaken : anaSample j raw.toNat s = anaTaken j raw.toNat { s.ain j with last := s.now } (rawShown j raw.toNat s))
include hc htaken

theorem sample_ends (honly : BlocksOnly (rawShown j raw.toNat s) (anaTaken j raw.toNat { s.ain j with last := s.now } (rawShown j raw.toNat s)))
    (hd : Drained (anaTaken j raw.toNat { s.ain j with last := s.now } (rawShown j raw.toNat s))) :
    exec (.analogSample j raw) s = .next (latched (anaTaken j raw.toNat { s.ain j with last := s.now } (rawShown j raw.toNat s))) :=
  (congrArg okSettled htaken).trans (okSettled_calm (hc.blocksOnly ((regsOnly_setFld ..).blocksOnly.trans honly) hd))

/-- The first four samples are discarded. -/
theorem sample_discarded (hn : (s.ain j).n < 4) : ∃ t, exec (.analogSample j raw) s = .next t ∧ t.fld (Reg.FGT_AIN_VAL j) 29 16 = raw.toNat ∧
    t.ain j = { s.ain j with n := (s.ain j).n + 1, last := s.now } ∧ t.reg Reg.FGT_AIN_DISCARD_CNT = s.reg Reg.FGT_AIN_DISCARD_CNT + 1 ∧
    t.fgt.q = s.fgt.q ∧ t.bit (Reg.FGT_AIN_VAL j) 30 = s.bit (Reg.FGT_AIN_VAL j) 30 ∧ RegsBut [Reg.FGT_AIN_VAL j, Reg.FGT_AIN_DISCARD_CNT] s t := by
  obtain ⟨-, -, hdisc, -⟩ := ainVal_apart j.isLt
  have heq : anaTaken j raw.toNat { s.ain j with last := s.now } (rawShown j raw.toNat s) =
      setAin j { s.ain j with n := (s.ain j).n + 1, last := s.now } ((rawShown j raw.toNat s).inc Reg.FGT_AIN_DISCARD_CNT) := if_pos hn
  have hend := sample_ends hc htaken (by rw [heq]; rfl) (by rw [heq]; exact hc.sources)
  rw [heq] at hend
  have hval : ∀ a, (latched (setAin j { s.ain j with n := (s.ain j).n + 1, last := s.now } ((rawShown j raw.toNat s).inc Reg.FGT_AIN_DISCARD_CNT))).reg a =
      ((rawShown j raw.toNat s).inc Reg.FGT_AIN_DISCARD_CNT).reg a := fun a => latched_get_reg ..
  refine ⟨_, hend, ?_, ain_setAin .., ?_, rfl, ?_, fun a ha => ?_⟩
  · rw [State.fld, hval, reg_inc_ne hdisc]
    exact rawShown_val j raw s
  · rw [hval, reg_inc_self, rawShown, reg_setFld_ne (Ne.symm hdisc)]
  · rw [State.bit, hval, reg_inc_ne hdisc, rawShown, reg_setFld_self, bget_fset_ne _ _ _ _ _ (by decide) (by decide) (by decide), State.bit]
  · simp only [List.mem_cons, List.not_mem_nil, or_false, not_or] at ha
    rw [hval, reg_inc_ne ha.2, rawShown, reg_setFld_ne ha.1]

/-- The fifth is shown. -/
theorem sample_first (hn : (s.ain j).n = 4) : ∃ t, exec (.analogSample j raw) s = .next t ∧ t.fld (Reg.FGT_AIN_VAL j) 29 16 = raw.toNat ∧
    t.fld (Reg.FGT_AIN_VAL j) 13 0 = anaCal s j raw.toNat ∧ t.bit (Reg.FGT_AIN_VAL j) 30 = true ∧ t.ain j = ⟨5, anaCal s j raw.toNat, s.now⟩ ∧
    t.reg Reg.FGT_AIN_EVT_CNT = s.reg Reg.FGT_AIN_EVT_CNT + 1 := by
  obtain ⟨-, hevt, -, -⟩ := ainVal_apart j.isLt
  have heq : anaTaken j raw.toNat { s.ain j with last := s.now } (rawShown j raw.toNat s) =
      anaEvent j (anaCal s j raw.toNat) (setAin j ⟨5, anaCal s j raw.toNat, s.now⟩ (rawShown j raw.toNat s)) := by
    rw [anaTaken_fifth (x := { s.ain j with last := s.now }) hn, anaCal_shown]
  have hset : Drained (setAin j ⟨5, anaCal s j raw.toNat, s.now⟩ (rawShown j raw.toNat s)) := hc.sources
  obtain ⟨honly, hd, hain, hval, hcnt⟩ := anaEvent_spec j.isLt (anaCal s j raw.toNat) hset
  have hend := sample_ends hc htaken (by rw [heq]; exact (setAin_only ..).trans honly) (by rw [heq]; exact hd)
  rw [heq] at hend
  obtain ⟨hraw, hy, hvalid⟩ := ainWord_shown (w := (rawShown j raw.toNat s).reg (Reg.FGT_AIN_VAL j)) (anaCal_lt j raw.toNat s)
  refine ⟨_, hend, ?_, ?_, ?_, ?_, ?_⟩
  · rw [State.fld, latched_get_reg, hval]
    exact hraw.trans (rawShown_val j raw s)
  · rw [State.fld, latched_get_reg, hval]
    exact hy
  · rw [latched_get_bit, State.bit, hval]
    exact hvalid
  · rw [latched_ain, hain, ain_setAin]
  · rw [latched_get_reg, hcnt, setAin_get_reg, rawShown, reg_setFld_ne (Ne.symm hevt)]

/-- Later ones move the shown value where they leave its dead band. -/
theorem sample_later (hn : (s.ain j).n = 5) :
    let y := ((((s.ain j).y : Int) + Int.fdiv ((anaCal s j raw.toNat : Int) - ((s.ain j).y : Int)) ((2 ^ s.fld (Reg.FGT_AIN_CFG j) 2 0 : Nat) : Int))).toNat
    let l := s.fld (Reg.FGT_AIN_VAL j) 13 0
    let moved := s.fld (Reg.FGT_AIN_CFG j) 13 4 < (y - l) + (l - y)
    ∃ t, exec (.analogSample j raw) s = .next t ∧ (t.ain j).y = y ∧ t.fld (Reg.FGT_AIN_VAL j) 29 16 = raw.toNat ∧
      (moved → y < 2 ^ 14 → t.fld (Reg.FGT_AIN_VAL j) 13 0 = y ∧ t.reg Reg.FGT_AIN_EVT_CNT = s.reg Reg.FGT_AIN_EVT_CNT + 1) ∧
      (¬ moved → t.fld (Reg.FGT_AIN_VAL j) 13 0 = l ∧ t.fgt.q = s.fgt.q ∧ RegsBut [Reg.FGT_AIN_VAL j] s t) := by
  intro y l moved
  obtain ⟨-, hevt, -, hcfg⟩ := ainVal_apart j.isLt
  have hcfgs : ∀ hi lo, (rawShown j raw.toNat s).fld (Reg.FGT_AIN_CFG j) hi lo = s.fld (Reg.FGT_AIN_CFG j) hi lo := fun hi lo => by
    rw [State.fld, rawShown, reg_setFld_ne hcfg, State.fld]
  have hl : (rawShown j raw.toNat s).fld (Reg.FGT_AIN_VAL j) 13 0 = l := by
    rw [State.fld, rawShown, reg_setFld_self, fget_fset_ne _ _ _ _ _ _ (by decide) (by decide) (by decide) (by decide)]
    rfl
  have hy : anaSmooth j (s.ain j).y (anaCal s j raw.toNat) (rawShown j raw.toNat s) = y := by rw [anaSmooth, hcfgs]
  have heq : anaTaken j raw.toNat { s.ain j with last := s.now } (rawShown j raw.toNat s) =
      if moved then anaEvent j y (setAin j { s.ain j with y := y, last := s.now } (rawShown j raw.toNat s))
      else setAin j { s.ain j with y := y, last := s.now } (rawShown j raw.toNat s) := by
    rw [anaTaken_later (x := { s.ain j with last := s.now }) hn, anaCal_shown]
    dsimp only
    rw [hy, hl, hcfgs]
  have hset : Drained (setAin j { s.ain j with y := y, last := s.now } (rawShown j raw.toNat s)) := hc.sources
  obtain ⟨honly, hd, hain, hval, hcnt⟩ := anaEvent_spec j.isLt y hset
  by_cases hmoved : moved
  · rw [if_pos hmoved] at heq
    have hend := sample_ends hc htaken (by rw [heq]; exact (setAin_only ..).trans honly) (by rw [heq]; exact hd)
    rw [heq] at hend
    have hraw : fget (bset (fset ((rawShown j raw.toNat s).reg (Reg.FGT_AIN_VAL j)) 13 0 y) 30 true) 29 16 = raw.toNat := by
      rw [fget_bset_ne _ _ _ _ _ (by decide) (by decide) (by decide), fget_fset_ne _ _ _ _ _ _ (by decide) (by decide) (by decide) (by decide)]
      exact rawShown_val j raw s
    refine ⟨_, hend, ?_, ?_, fun _ hlt => ⟨?_, ?_⟩, fun hn => absurd hmoved hn⟩
    · rw [latched_ain, hain, ain_setAin]
    · rw [State.fld, latched_get_reg, hval]
      exact hraw
    · rw [State.fld, latched_get_reg, hval]
      exact (ainWord_shown hlt).2.1
    · rw [latched_get_reg, hcnt, setAin_get_reg, rawShown, reg_setFld_ne (Ne.symm hevt)]
  · rw [if_neg hmoved] at heq
    have hend := sample_ends hc htaken (by rw [heq]; rfl) (by rw [heq]; exact hset)
    rw [heq] at hend
    refine ⟨_, hend, by rw [latched_ain, ain_setAin], rawShown_val j raw s, fun hm => absurd hm hmoved, fun _ => ⟨hl, rfl, fun a ha => ?_⟩⟩
    exact reg_setFld_ne (List.ne_of_not_mem_cons ha) ..

end

/-- Settles O50: Fingertip's enables, loads, injections and samples, and the keep store's commands. -/
theorem fingertipAndKeep : Obligations.FingertipAndKeep := by
  intro i v s f
  refine ⟨fun h => ⟨fgt_enabled h, fgt_disabled h, fgt_reloads h⟩, fun hc hload => ⟨fun ws hws => calLoad_valid hc hload hws, calLoad_fallback hc hload⟩,
    fun h => ⟨injectSeq_done h, injectDrop_done h⟩, fun j raw hc hrun hen htb hfs hslew hnow => ?_, fun h hoff hinj => ?_,
    fun w h => kepWp_written w h, fun h => kepInject_armed h⟩
  · have htaken := anaSample_eq hrun hen htb hfs hslew hnow raw.toNat
    exact ⟨sample_discarded hc htaken, sample_first hc htaken, sample_later hc htaken⟩
  · exact ⟨restore_refused h hoff, restore_invalid h hoff, fun ws hopen hws => restore_done h hoff hinj hopen hws, erase_done h hoff hinj, fun ws hws => apply_done h hoff hinj hws,
      apply_invalid h hoff⟩

end Sys2Proof.Machine
end

section
/-!
SUPPORT. Writes of pair registers and of a stopped core's page (R105, R217, R226, R233), and O20.
-/
set_option linter.constructorNameAsVariable false

namespace Sys2Proof.Machine

/-! ### A stopped core's page (R105) -/

/-- The numbers of the core page that hold one word each and have no action. -/
def wholeCs : List Nat := [0x05, 0x0A, 0x0D, 0x0E, 0x19, 0x1C, 0x1D, 0x29, 0x2C, 0x2D, 0x34, 0x36, 0x37]

/-- A register of one field that takes any word. -/
def oneWord (l : List Fld) : Bool :=
  match l with
  | [f] => decide (f.hi = 39) && decide (f.lo = 0) && decide (f.acc = .rw) && decide (f.chk = .any)
  | _ => false

theorem wholeCs_fields : ∀ c : Fin 8, ∀ cs, cs ∈ wholeCs → (regAt (Reg.CS_FLAGS c + cs)).isSome = true ∧ oneWord (fieldsAt (Reg.CS_FLAGS c + cs)) = true := by
  decide +kernel

theorem oneWord_cons {l : List Fld} (h : oneWord l = true) : ∃ n r, l = [⟨39, 0, n, .rw, r, .any⟩] := by
  unfold oneWord at h
  split at h
  · next f =>
    obtain ⟨hi, lo, n, acc, r, chk⟩ := f
    simp only [Bool.and_eq_true, decide_eq_true_eq] at h
    obtain ⟨⟨⟨rfl, rfl⟩, rfl⟩, rfl⟩ := h
    exact ⟨n, r, rfl⟩
  · exact absurd h Bool.false_ne_true

theorem fset_whole (w v : Word) : fset w 39 0 (fget v 39 0) = v := by
  apply BitVec.eq_of_getLsbD_eq
  intro j hj
  rw [fset_bit _ _ _ _ _ (by decide) (by decide), if_pos ⟨Nat.zero_le _, by omega⟩, fget_testBit]
  simp [show j ≤ 39 by omega]

/-- Such a register takes the word stored. -/
theorem writeReg_oneWord {a : Nat} (ha : Reg.SYS_PINMUX_4 < a) (h : oneWord (fieldsAt a) = true) (ep : Nat) (v : Word) (s : State) : writeReg ep a v s = s.setReg a v := by
  obtain ⟨n, r, hf⟩ := oneWord_cons h
  have hfree : ¬ reservedWrite s a v := by
    rw [← storeReserved_iff, storeReserved, hf]
    simpa [fd] using fieldReserved_free ha 39 0 n .rw r s.isSealed v
  have hpin : (decide (Reg.SYS_PINMUX 0 ≤ a) && decide (a ≤ Reg.SYS_PINMUX_4)) = false := by simp; omega
  have hstored : storedWord a v s = v := by
    rw [storedWord, hf]
    simp [writeFlds, writeFld, fieldOk, Chk.ok, hpin, fset_whole]
  rw [writeReg_accepted hfree, hstored]

/-- A store to the page of a stopped core. -/
theorem csWrite_whole {c cs : Nat} (hcs : cs ∈ wholeCs) (ep : Nat) (v : Word) (s : State) :
    csWrite ep c cs v s = writeReg ep (corePage c + cs) v s ∨ csWrite ep c cs v s = breakQuietOf c (writeReg ep (corePage c + cs) v s) := by
  have hplain : cs ≠ 0x08 ∧ cs ≠ 0x11 ∧ cs ≠ 0x2F ∧ cs ≠ 0x12 ∧ cs ≠ 0x13 ∧ cs ≠ 0x16 ∧ cs ≠ 0x30 ∧ cs ≠ 0x31 ∧ ¬ 0x50 ≤ cs := by
    simp only [wholeCs, List.mem_cons, List.not_mem_nil, or_false] at hcs
    omega
  unfold csWrite
  simp only [hplain, if_false, decide_false, Bool.false_and, Bool.false_eq_true]
  split
  · exact Or.inl rfl
  · exact Or.inr rfl

section
variable {i : Initiator} {c : Fin 8} {cs : Fin 128} {v : Word} {s : State} (h : Reaches (Reg.CS_FLAGS c + cs) s)
include h

theorem corePage_access {st : FStatus} {u : State} (hreg : (regAt (Reg.CS_FLAGS c + cs)).isSome = true) (hst : corePageStore i.ep c cs v s = (st, u)) (hu : Calm u) :
    exec (.corePageStore i c cs v) s = .next (accessEnd i.ep st u) := by
  have hc := c.isLt
  have hcs := cs.isLt
  have hpage : regPage (Reg.CS_FLAGS c + cs) = 8 + c := by simp only [regPage, Reg.CS_FLAGS]; omega
  have hnum : (Reg.CS_FLAGS c + cs) % 0x1000 = cs := by simp only [Reg.CS_FLAGS]; omega
  have hassigned : pageAssigned (8 + c) = true := by simp [pageAssigned]; omega
  have hrefused : plRefused (initPl i) (Reg.CS_FLAGS c + cs) = false := by
    refine plRefused_other ?_ (Or.inr ?_) (Or.inr ?_) <;> simp only [Reg.BSQ_CORE_CTL, Reg.BSQ_CORE_ENTRY, Reg.PWR_DOM, Reg.CS_FLAGS] <;> omega
  have haccess : regAccess i.ep (initPl i) (Reg.CS_FLAGS c + cs) (some v) s = .done st 0 u := by
    rw [regAccess_write (by omega) hreg, pageWrite, hpage, hrefused]
    simp [show ¬ 8 + c.val = 1 by omega, show ¬ 8 + c.val = 2 by omega, show ¬ 8 + c.val = 3 by omega, show ¬ 8 + c.val < 8 by omega,
      show 8 + c.val < 16 by omega, hnum, hst]
  have hregion : regionAt s (Reg.CS_FLAGS c + cs) = some .regs := regionAt_page s (by omega) (by omega) (hpage ▸ hassigned)
  exact okSettled_regCmd h hregion haccess hu

theorem corePageStore_stopped (hcs : cs.val ∈ wholeCs) (hstop : s.stopped c = true) : ∃ t, exec (.corePageStore i c cs v) s = .next t ∧
    Took i [Reg.CS_FLAGS c + cs] s t ∧ t.reg (Reg.CS_FLAGS c + cs) = v := by
  obtain ⟨hreg, hone⟩ := wholeCs_fields c cs hcs
  have hhigh : Reg.SYS_PINMUX_4 < Reg.CS_FLAGS c + cs := by simp only [Reg.SYS_PINMUX_4, Reg.CS_FLAGS]; omega
  have hw : writeReg i.ep (corePage c + cs) v s = s.setReg (Reg.CS_FLAGS c + cs) v := writeReg_oneWord hhigh hone i.ep v s
  have hst : corePageStore i.ep c cs v s = (.ok, csWrite i.ep c cs v s) := by rw [corePageStore, if_pos hstop]
  have hchange : StartOnly s (csWrite i.ep c cs v s) ∧ (csWrite i.ep c cs v s).cores = s.cores ∧ (csWrite i.ep c cs v s).pairs = s.pairs ∧
      SameMemory s (csWrite i.ep c cs v s) ∧ ∀ a, (csWrite i.ep c cs v s).reg a = (s.setReg (Reg.CS_FLAGS c + cs) v).reg a := by
    rcases csWrite_whole (c := c) hcs i.ep v s with e | e
    · rw [e, hw]
      exact ⟨(regsOnly_setReg ..).startOnly, rfl, rfl, ⟨rfl, rfl, rfl, rfl, rfl, rfl⟩, fun _ => rfl⟩
    · rw [e, hw]
      refine ⟨(regsOnly_setReg ..).startOnly.trans (startOnly_breakQuietOf ..), ?_, ?_, ?_, fun a => breakQuietOf_reg ..⟩
      all_goals unfold breakQuietOf; split
      · rfl
      · rfl
      · rfl
      · rfl
      · exact ⟨rfl, rfl, rfl, rfl, rfl, rfl⟩
      · exact ⟨rfl, rfl, rfl, rfl, rfl, rfl⟩
  obtain ⟨honly, hcores, hpairs, hm, hregs⟩ := hchange
  have hcalm : Calm (csWrite i.ep c cs v s) := h.calm.startOnly honly (fun d hd => by simpa only [State.core, hcores] using h.calm.retired d hd)
    (fun m hm => by simp only [State.pair, hpairs]; exact ⟨h.calm.draining m hm, h.calm.stores m hm⟩)
  refine ⟨_, corePage_access h hreg hst hcalm, ⟨accessEnd_resp .., fun a ha => ?_, (accessEnd_cores ..).trans hcores, hm.trans (accessEnd_memory ..)⟩, ?_⟩
  · rw [accessEnd_reg, hregs, reg_setReg_ne (List.ne_of_not_mem_cons ha)]
  · rw [accessEnd_reg, hregs, reg_setReg_self]

theorem corePageStore_running (hcs : cs.val ∈ wholeCs) (hrun : s.stopped c = false) : ∃ t, exec (.corePageStore i c cs v) s = .next t ∧
    t.resp = ⟨i.ep, .prot, []⟩ ∧ Idles s t := by
  have hst : corePageStore i.ep c cs v s = (.prot, s) := by rw [corePageStore, hrun, if_neg Bool.false_ne_true]
  exact ⟨_, corePage_access h (wholeCs_fields c cs hcs).1 hst h.calm, accessEnd_resp .., fun _ _ => accessEnd_reg .., accessEnd_cores .., accessEnd_memory ..⟩

end

end Sys2Proof.Machine
end

section
/-!
SUPPORT. Writes of pair registers (R217, R226, R233), and O20.
-/
set_option linter.constructorNameAsVariable false

namespace Sys2Proof.Machine

/-! ### The pairs' page -/

section
variable {i : Initiator} {n : Fin 4} {v : Word} {s : State}

/-- A register write of a pair, up to the device settling. -/
theorem regCmd_pairPage {a : Nat} {u : State} (h : Reaches a s) (hpage : regPage a = 0x78) (hreg : (regAt a).isSome = true) (hw : pairWrite i.ep a v s = u) :
    regCmd i a v s = retryHeld (complete i.ep .ok [] u) := by
  have hrt : a ≠ Reg.FAB_RT_DATA := fun e => by rw [e] at hpage; exact absurd hpage (by decide)
  have hregion : regionAt s a = some .regs := regionAt_page s (by omega) (by omega) (by rw [hpage]; decide)
  have haccess : regAccess i.ep (initPl i) a (some v) s = .done .ok 0 u := by
    rw [regAccess_write (Or.inr (by omega)) hreg]
    simp [pageWrite, plRefused_above (pl := initPl i) (show 0x50 ≤ regPage a by omega), hpage, hrt, hw, fine]
  rw [regCmd, h.atBlock hregion, if_pos rfl, haccess, regAnswer_done, Option.isSome_some, if_pos rfl]

theorem regCmd_pair {a : Nat} {u : State} (h : Reaches a s) (hpage : regPage a = 0x78) (hreg : (regAt a).isSome = true) (hw : pairWrite i.ep a v s = u)
    (hu : Calm u) : okSettled (regCmd i a v s) = .next (accessEnd i.ep .ok u) := by
  rw [regCmd_pairPage h hpage hreg hw, retryHeld_calm (hu.complete ..), okSettled_calm (hu.complete ..)]
  rfl

theorem pairReg_page (n : Fin 4) : regPage (Reg.PAIR_CTL n) = 0x78 ∧ regPage (Reg.PAIR_INJECT n) = 0x78 := by
  have := n.isLt
  simp only [regPage, Reg.PAIR_CTL, Reg.PAIR_INJECT]; omega

theorem pairReg_some : ∀ n : Fin 4, (regAt (Reg.PAIR_CTL n)).isSome = true ∧ (regAt (Reg.PAIR_INJECT n)).isSome = true ∧
    fieldsAt (Reg.PAIR_CTL n) = [fd 15 13 "NOTIFY" .rw 0, ⟨10, 9, "POLICY", .lk, 0, .range 0 1⟩, ⟨8, 2, "DELAY", .rw, 16, .range 8 64⟩, fd 0 0 "EN" .rw 0] := by decide

theorem pairWrite_ctl (n : Fin 4) (ep : Nat) (v : Word) (s : State) : pairWrite ep (Reg.PAIR_CTL n) v s = pairCtlWrite ep n v s := by
  have hn : (Reg.PAIR_CTL n - 0x278000) / 0x20 = n := by simp only [Reg.PAIR_CTL]; omega
  simp only [pairWrite, hn, if_true]

/-! ### Injections (R233) -/

/-- The injections that a word asks for, beside those that wait. -/
def injected (v : Word) (p : Pair) : Pair :=
  { p with injDisagree := p.injDisagree || bget v 3, injMissCanary := p.injMissCanary || bget v 2, injParity := p.injParity || bget v 1,
           injMismatch := p.injMismatch || bget v 0 }

theorem pairWrite_inject (n : Fin 4) (ep : Nat) (v : Word) (s : State) : pairWrite ep (Reg.PAIR_INJECT n) v s = s.setPair n (injected v (s.pair n)) := by
  have hn : (Reg.PAIR_INJECT n - 0x278000) / 0x20 = n := by simp only [Reg.PAIR_INJECT]; omega
  have hne : Reg.PAIR_INJECT n ≠ Reg.PAIR_CTL n := by simp only [Reg.PAIR_INJECT, Reg.PAIR_CTL]; omega
  simp only [pairWrite, hn, if_neg hne, if_true]
  rfl

theorem setPair_memory (s : State) (n : Nat) (p : Pair) : SameMemory s (s.setPair n p) := ⟨rfl, rfl, rfl, rfl, rfl, rfl⟩

/-- Pair n put aside leaves a device calm where the new one is at rest. -/
theorem Calm.setPair (hc : Calm s) (n : Nat) {p : Pair} (hd : p.draining = false) (hs : p.started = true ∨ p.hold = []) : Calm (s.setPair n p) := by
  refine hc.startOnly (startOnly_setPair ..) (fun c h => hc.retired c h) (fun m hm => ?_)
  by_cases hmn : m = n
  · rw [hmn, pair_setPair_self]; exact ⟨hd, hs⟩
  · rw [pair_setPair_ne hmn]; exact ⟨hc.draining m hm, hc.stores m hm⟩

theorem inject_done (h : Reaches (Reg.PAIR_INJECT n) s) (v : Word) : ∃ t, okSettled (regCmd i (Reg.PAIR_INJECT n) v s) = .next t ∧ Took i [] s t ∧
    t.pair n = injected v (s.pair n) := by
  have hcalm := h.calm.setPair n (p := injected v (s.pair n)) (h.calm.draining n n.isLt) (h.calm.stores n n.isLt)
  refine ⟨_, regCmd_pair h (pairReg_page n).2 (pairReg_some n).2.1 (pairWrite_inject n i.ep v s) hcalm,
    ⟨accessEnd_resp .., fun a _ => accessEnd_reg .., accessEnd_cores .., ?_⟩, ?_⟩
  · exact (setPair_memory s n _).trans (accessEnd_memory ..)
  · exact pair_setPair_self ..

theorem bset_or (v : Word) {j k : Nat} (hj : j < 40) (b : Bool) : (b || bget (bset v j true) k) = (b || bget v k || j == k) := by
  rw [bset_bit _ _ _ _ hj]
  by_cases h : k = j
  · simp [h]
  · simp [h, Ne.symm h]

end

end Sys2Proof.Machine
end

section
/-!
SUPPORT. `PAIR_CTL` (R217, R226), and O20.
-/
set_option linter.constructorNameAsVariable false

namespace Sys2Proof.Machine

/-! ### The settings that a write of `PAIR_CTL` takes -/

/-- The fields that a write of `PAIR_CTL` takes as they stand: all but EN, and DELAY of an unpaired pair only. -/
def pairKeep (was : Bool) (f : Fld) : Bool := f.lo != 0 && (f.lo != 2 || !was)

/-- Pair n, its settings written. -/
def pairSet (ep n : Nat) (v : Word) (s : State) : State := writeRegIf (pairKeep (s.bit (Reg.PAIR_CTL n) 0)) ep (Reg.PAIR_CTL n) v s

theorem pairCtlWrite_eq (ep n : Nat) (v : Word) (s : State) : pairCtlWrite ep n v s =
    if bget v 0 && !s.bit (Reg.PAIR_CTL n) 0 then
      if (pairSet ep n v s).stopped (2 * n) && (pairSet ep n v s).stopped (2 * n + 1) then
        ((pairSet ep n v s).setBit (Reg.PAIR_CTL n) 0 true).setBit (Reg.PAIR_STAT n) 2 false
      else (pairSet ep n v s).setBit (Reg.PAIR_STAT n) 3 true
    else if !bget v 0 && s.bit (Reg.PAIR_CTL n) 0 then
      if ((pairSet ep n v s).pair n).started && !(pairSet ep n v s).bit (Reg.PAIR_STAT n) 1 then
        (pairSet ep n v s).setPair n { (pairSet ep n v s).pair n with draining := true }
      else (((pairSet ep n v s).setBit (Reg.PAIR_CTL n) 0 false).setBit (Reg.PAIR_STAT n) 1 false).setPair n Pair.reset
    else pairSet ep n v s := rfl

section
variable (n : Fin 4)

theorem pairRegs_apart : Reg.PAIR_CTL n ∉ rsvdRegs ∧ Reg.PAIR_STAT n ∉ Reg.PAIR_CTL n :: rsvdRegs ∧ Reg.PAIR_CTL n ≠ Reg.PAIR_STAT n := by
  simp only [rsvdRegs, Reg.PAIR_CTL, Reg.PAIR_STAT, Reg.SYS_STATUS, Reg.SYS_RSVD_ADDR, Reg.SYS_RSVD_DATA, Reg.SYS_RSVD_CNT, List.mem_cons, List.not_mem_nil,
    or_false]
  omega

theorem pairSet_only (ep : Nat) (v : Word) (s : State) : RegsOnly s (pairSet ep n v s) := writeRegIf_only ..

theorem pairSet_pair (ep : Nat) (v : Word) (s : State) (m : Nat) : (pairSet ep n v s).pair m = s.pair m := by rw [pairSet_only n ep v s]; rfl

theorem pairSet_stopped (ep : Nat) (v : Word) (s : State) (c : Nat) : (pairSet ep n v s).stopped c = s.stopped c := by rw [pairSet_only n ep v s]; rfl

theorem pairSet_enable (ep : Nat) (v : Word) (s : State) : (pairSet ep n v s).bit (Reg.PAIR_CTL n) 0 = s.bit (Reg.PAIR_CTL n) 0 := by
  rw [State.bit, pairSet, writeRegIf_self (pairRegs_apart n).1]
  refine keptWord_other (f := fd 0 0 "EN" .rw 0) (fun g _ hk => ?_) v s 0 (le_refl _) (le_refl _)
  simp only [pairKeep, Bool.and_eq_true, bne_iff_ne] at hk
  have hlo : 0 < g.lo := Nat.pos_of_ne_zero hk.1
  show (decide (0 < g.lo) || decide (g.hi < 0)) = true
  rw [decide_eq_true hlo, Bool.true_or]

theorem pairSet_notify (ep : Nat) (v : Word) (s : State) : (pairSet ep n v s).fld (Reg.PAIR_CTL n) 15 13 = fget v 15 13 := by
  have hmem : fd 15 13 "NOTIFY" .rw 0 ∈ fieldsAt (Reg.PAIR_CTL n) := by rw [(pairReg_some n).2.2]; exact List.mem_cons_self ..
  rw [State.fld, pairSet, writeRegIf_self (pairRegs_apart n).1]
  refine (keptWord_fld hmem (by simp [pairKeep, fd]) v s).trans ?_
  exact writtenField_free s (Or.inr (by simp only [Reg.SYS_PINMUX_4, Reg.PAIR_CTL]; omega)) ..

theorem pairSet_regs (ep : Nat) (v : Word) (s : State) : RegsBut (Reg.PAIR_CTL n :: Reg.PAIR_STAT n :: rsvdRegs) s (pairSet ep n v s) := fun a ha => by
  simp only [List.mem_cons, not_or] at ha
  obtain ⟨h1, -, h2⟩ := ha
  exact writeRegIf_regsBut _ ep (Reg.PAIR_CTL n) v s a (by simp only [List.mem_cons, not_or]; exact ⟨h1, h2⟩)

theorem pairSet_stat (ep : Nat) (v : Word) (s : State) (k : Nat) : (pairSet ep n v s).bit (Reg.PAIR_STAT n) k = s.bit (Reg.PAIR_STAT n) k := by
  rw [State.bit, pairSet, writeRegIf_regsBut _ ep (Reg.PAIR_CTL n) v s _ (pairRegs_apart n).2.1, State.bit]

end

/-! ### Enabling (R217) -/

theorem bset0 (v : Word) (b : Bool) : bget (bset v 0 b) 0 = b := by rw [bset_bit _ _ _ _ (by decide), if_pos rfl]

section
variable {i : Initiator} {n : Fin 4} {v : Word} {s : State} (h : Reaches (Reg.PAIR_CTL n) s)
include h

/-- A write of `PAIR_CTL` that changes registers only. -/
theorem pairCtl_took {u : State} (hw : pairCtlWrite i.ep n v s = u) (honly : RegsOnly s u)
    (hregs : RegsBut (Reg.PAIR_CTL n :: Reg.PAIR_STAT n :: rsvdRegs) s u) :
    okSettled (regCmd i (Reg.PAIR_CTL n) v s) = .next (accessEnd i.ep .ok u) ∧
    Took i (Reg.PAIR_CTL n :: Reg.PAIR_STAT n :: rsvdRegs) s (accessEnd i.ep .ok u) :=
  ⟨regCmd_pair h (pairReg_page n).1 (pairReg_some n).1 ((pairWrite_ctl n i.ep v s).trans hw) (h.calm.regsOnly honly), took_of_regsOnly honly hregs⟩

section
variable (hoff : s.bit (Reg.PAIR_CTL n) 0 = false)
include hoff

theorem pair_enabled (h0 : s.stopped (2 * n) = true) (h1 : s.stopped (2 * n + 1) = true) : ∃ t, exec (.pairEnable i n v) s = .next t ∧
    Took i (Reg.PAIR_CTL n :: Reg.PAIR_STAT n :: rsvdRegs) s t ∧ t.bit (Reg.PAIR_CTL n) 0 = true ∧ t.fld (Reg.PAIR_CTL n) 15 13 = fget v 15 13 ∧
    t.bit (Reg.PAIR_STAT n) 2 = false := by
  obtain ⟨-, -, hne⟩ := pairRegs_apart n
  have hw : pairCtlWrite i.ep n (bset v 0 true) s =
      ((pairSet i.ep n (bset v 0 true) s).setBit (Reg.PAIR_CTL n) 0 true).setBit (Reg.PAIR_STAT n) 2 false := by
    rw [pairCtlWrite_eq]
    simp [bset0, hoff, pairSet_stopped, h0, h1]
  have honly : RegsOnly s (((pairSet i.ep n (bset v 0 true) s).setBit (Reg.PAIR_CTL n) 0 true).setBit (Reg.PAIR_STAT n) 2 false) :=
    ((pairSet_only n ..).trans (regsOnly_setBit ..)).trans (regsOnly_setBit ..)
  have hregs : RegsBut (Reg.PAIR_CTL n :: Reg.PAIR_STAT n :: rsvdRegs) s
      (((pairSet i.ep n (bset v 0 true) s).setBit (Reg.PAIR_CTL n) 0 true).setBit (Reg.PAIR_STAT n) 2 false) := fun a ha => by
    have ha' := ha
    simp only [List.mem_cons, not_or] at ha'
    rw [reg_setBit_ne ha'.2.1, reg_setBit_ne ha'.1, pairSet_regs n _ _ _ a ha]
  obtain ⟨ht, htook⟩ := pairCtl_took h hw honly hregs
  refine ⟨_, ht, htook, ?_, ?_, ?_⟩
  · rw [accessEnd_bit, State.bit, reg_setBit_ne hne, reg_setBit_self, bset0]
  · rw [accessEnd_fld, State.fld, reg_setBit_ne hne, reg_setBit_self, fget_bset_ne _ _ _ _ _ (by decide) (by decide) (by decide)]
    refine (pairSet_notify n i.ep (bset v 0 true) s).trans ?_
    exact fget_bset_ne _ _ _ _ _ (by decide) (by decide) (by decide)
  · rw [accessEnd_bit, State.bit, reg_setBit_self, bset_bit _ _ _ _ (by decide), if_pos rfl]

theorem pair_refused (hrun : s.stopped (2 * n) = false ∨ s.stopped (2 * n + 1) = false) : ∃ t, exec (.pairEnable i n v) s = .next t ∧
    Took i (Reg.PAIR_CTL n :: Reg.PAIR_STAT n :: rsvdRegs) s t ∧ t.bit (Reg.PAIR_CTL n) 0 = false ∧ t.bit (Reg.PAIR_STAT n) 3 = true := by
  obtain ⟨-, -, hne⟩ := pairRegs_apart n
  have hw : pairCtlWrite i.ep n (bset v 0 true) s = (pairSet i.ep n (bset v 0 true) s).setBit (Reg.PAIR_STAT n) 3 true := by
    rw [pairCtlWrite_eq]
    rcases hrun with e | e <;> simp [bset0, hoff, pairSet_stopped, e]
  have hregs : RegsBut (Reg.PAIR_CTL n :: Reg.PAIR_STAT n :: rsvdRegs) s ((pairSet i.ep n (bset v 0 true) s).setBit (Reg.PAIR_STAT n) 3 true) := fun a ha => by
    have ha' := ha
    simp only [List.mem_cons, not_or] at ha'
    rw [reg_setBit_ne ha'.2.1, pairSet_regs n _ _ _ a ha]
  obtain ⟨ht, htook⟩ := pairCtl_took h hw ((pairSet_only n ..).trans (regsOnly_setBit ..)) hregs
  refine ⟨_, ht, htook, ?_, ?_⟩
  · rw [accessEnd_bit, State.bit, reg_setBit_ne hne]
    exact (pairSet_enable n i.ep (bset v 0 true) s).trans hoff
  · rw [accessEnd_bit, State.bit, reg_setBit_self, bset_bit _ _ _ _ (by decide), if_pos rfl]

end

/-! ### Disabling (R226) -/

section
variable (hon : s.bit (Reg.PAIR_CTL n) 0 = true)
include hon

/-- An unpaired pair. -/
def pairUndone (ep n : Nat) (v : Word) (s : State) : State :=
  ((pairSet ep n v s).setBit (Reg.PAIR_CTL n) 0 false).setBit (Reg.PAIR_STAT n) 1 false

theorem pair_undone (hidle : (s.pair n).started = false) : ∃ t, exec (.pairDrain i n v) s = .next t ∧
    Took i (Reg.PAIR_CTL n :: Reg.PAIR_STAT n :: rsvdRegs) s t ∧ t.bit (Reg.PAIR_CTL n) 0 = false ∧ t.bit (Reg.PAIR_STAT n) 1 = false := by
  obtain ⟨-, -, hne⟩ := pairRegs_apart n
  have hw : pairWrite i.ep (Reg.PAIR_CTL n) (bset v 0 false) s = (pairUndone i.ep n (bset v 0 false) s).setPair n Pair.reset := by
    rw [pairWrite_ctl, pairCtlWrite_eq]
    simp [bset0, hon, pairSet_pair, hidle, pairUndone]
  have honly : RegsOnly s (pairUndone i.ep n (bset v 0 false) s) := ((pairSet_only n ..).trans (regsOnly_setBit ..)).trans (regsOnly_setBit ..)
  have hcalm : Calm ((pairUndone i.ep n (bset v 0 false) s).setPair n Pair.reset) := (h.calm.regsOnly honly).setPair n rfl (Or.inr rfl)
  have hreg : ∀ a, ((pairUndone i.ep n (bset v 0 false) s).setPair n Pair.reset).reg a = (pairUndone i.ep n (bset v 0 false) s).reg a :=
    fun a => setPair_get_reg ..
  refine ⟨_, regCmd_pair h (pairReg_page n).1 (pairReg_some n).1 hw hcalm, ⟨accessEnd_resp .., fun a ha => ?_, ?_, ?_⟩, ?_, ?_⟩
  · have ha' := ha
    simp only [List.mem_cons, not_or] at ha'
    rw [accessEnd_reg, hreg, pairUndone, reg_setBit_ne ha'.2.1, reg_setBit_ne ha'.1, pairSet_regs n _ _ _ a ha]
  · rw [accessEnd_cores, setPair_cores, honly.cores]
  · exact (honly.memory.trans (setPair_memory ..)).trans (accessEnd_memory ..)
  · rw [accessEnd_bit, State.bit, hreg, pairUndone, reg_setBit_ne hne, reg_setBit_self, bset0]
  · rw [accessEnd_bit, State.bit, hreg, pairUndone, reg_setBit_self, bset_bit _ _ _ _ (by decide), if_pos rfl]

end

end

end Sys2Proof.Machine
end

section
/-!
SUPPORT. A pair that drains (R226), and O20.
-/
set_option linter.constructorNameAsVariable false

namespace Sys2Proof.Machine

/-- A fold in which only one step changes the state. -/
theorem foldl_one {α β : Type} (f : α → β → α) (s : α) (n : β) : ∀ (l : List β), n ∈ l → (∀ b, b ∈ l → b ≠ n → f s b = s) →
    (∀ b, b ∈ l → f (f s n) b = f s n) → l.foldl f s = f s n
  | b :: l, hn, hbefore, hafter => by
    by_cases hb : b = n
    · rw [List.foldl_cons, hb]
      exact foldl_still f _ l fun x hx => hafter x (List.mem_cons_of_mem _ hx)
    · rw [List.foldl_cons, hbefore b (List.mem_cons_self ..) hb]
      exact foldl_one f s n l ((List.mem_cons.1 hn).resolve_left (Ne.symm hb)) (fun x hx => hbefore x (List.mem_cons_of_mem _ hx))
        (fun x hx => hafter x (List.mem_cons_of_mem _ hx))

/-- A pair that neither drains nor holds stores that a split left has nothing to settle. -/
theorem settlePair_still {s : State} {n : Nat} (hd : (s.pair n).draining = false) (hs : (s.pair n).started = true ∨ (s.pair n).hold = []) : settlePair n s = s := by
  simp only [settlePair, hd, Bool.false_eq_true, if_false, restStores]
  rcases hs with h | h <;> simp [h]

/-- The fabric's part of settling reads nothing of the pairs. -/
theorem retryHeld_setPair {s : State} (h : Calm s) (n : Nat) (p : Pair) : retryHeld (s.setPair n p) = s.setPair n p := by
  have hheld : (s.setPair n p).ports.held = [] := h.held
  have hblocked : (s.setPair n p).fab.blocked = [] := h.blocked
  have hinter : (s.setPair n p).fab.ni.all (fun e => e.2.held.isEmpty) = true := h.inter
  have hwaiting : ∀ m, m < 2 → ((s.setPair n p).cufP m).waiting = [] := h.waiting
  have hrxq : ∀ m, m < 2 → ((s.setPair n p).cufP m).rxq = [] := h.rxq
  simp only [retryHeld, hheld, unblock_calm _ hblocked, hinter, List.isEmpty_nil, if_true, List.foldl_cons, List.foldl_nil]
  rw [cufRetryWaiting_calm (hwaiting 0 (by omega)), cufDeliver_calm _ (hrxq 0 (by omega)), cufRetryWaiting_calm (hwaiting 1 (by omega)),
    cufDeliver_calm _ (hrxq 1 (by omega))]

/-- Only pair n has anything to settle. -/
theorem settleAll_setPair {s : State} (h : Calm s) {n : Nat} (hn : n < 4) (p : Pair)
    (hafter : ∀ m, m < 4 → settlePair m (settlePair n (s.setPair n p)) = settlePair n (s.setPair n p)) :
    settleAll (s.setPair n p) = settlePair n (s.setPair n p) := by
  have hcores : (List.range 8).foldl (fun s c => prefetch c (drainStq c 68 s)) (s.setPair n p) = s.setPair n p :=
    foldl_still _ _ _ (fun c hc => drain_calm (h.retired c (List.mem_range.mp hc)))
  have hoffers : eiuOffers (s.setPair n p) = s.setPair n p := by
    have hflaws : (s.setPair n p).flaws = [] := h.flaws
    rw [eiuOffers, hflaws]
    simp
  simp only [settleAll, hcores, hoffers, retryHeld_setPair h]
  refine foldl_one (fun s n => settlePair n s) _ n (List.range 4) (List.mem_range.2 hn) (fun m hm hmn => ?_) (fun m hm => hafter m (List.mem_range.1 hm))
  have hm' := List.mem_range.1 hm
  refine settlePair_still ?_ ?_
  · rw [pair_setPair_ne hmn]; exact h.draining m hm'
  · rw [pair_setPair_ne hmn]; exact h.stores m hm'

/-! ### The split of a drained pair -/

/-- A running pair with nothing to compare and nothing held splits as it drains. -/
theorem settlePair_drains {s : State} {n : Nat} (hstarted : (s.pair n).started = true) (hd : (s.pair n).draining = true) (he : (s.pair n).entries = [])
    (hh : (s.pair n).hold = []) (h0 : Nat.testBit s.pwr.parking (2 * n) = false) (h1 : Nat.testBit s.pwr.parking (2 * n + 1) = false) :
    settlePair n s = pairSplit n s := by
  have hcompare : compareAll n 81 s = s := by rw [compareAll, he, List.isEmpty_nil, if_pos rfl]
  have hpwr : (pairSplit n s).pwr = s.pwr := by
    simp only [pairSplit, setRun]
    show (breakQuietOf _ _).pwr = s.pwr
    unfold breakQuietOf
    split <;> rfl
  have hpark1 : parkNow (2 * n + 1) (pairSplit n s) = pairSplit n s := by rw [parkNow, hpwr, h1, if_neg Bool.false_ne_true]
  have hpark0 : parkNow (2 * n) (pairSplit n s) = pairSplit n s := by rw [parkNow, hpwr, h0, if_neg Bool.false_ne_true]
  have hdrain : drainPair n s = pairSplit n s := by
    unfold drainPair
    simp [hcompare, hstarted, hd, he, hh, hpark1, hpark0]
  have hpair : (pairSplit n s).pair n = { Pair.reset with hold := (s.pair n).hold } := pair_setPair_self ..
  rw [settlePair, if_pos hd, hdrain, restStores, hpair, hh]
  rfl

/-- What a split makes of the pair, of its cores and of its registers. -/
theorem pairSplit_spec (n : Nat) (s : State) : (pairSplit n s).pair n = { Pair.reset with hold := (s.pair n).hold } ∧
    (∀ m, m ≠ n → (pairSplit n s).pair m = s.pair m) ∧ ((pairSplit n s).core (2 * n + 1)).run = .notStarted ∧ (pairSplit n s).core (2 * n) = s.core (2 * n) ∧
    (pairSplit n s).bit (Reg.PAIR_CTL n) 0 = false ∧ (pairSplit n s).bit (Reg.PAIR_STAT n) 2 = true ∧ (pairSplit n s).bit (Reg.PAIR_STAT n) 0 = false := by
  have hne : Reg.PAIR_CTL n ≠ Reg.PAIR_STAT n := by simp only [Reg.PAIR_CTL, Reg.PAIR_STAT]; omega
  have hreg : ∀ a, (pairSplit n s).reg a = (((setRun (2 * n + 1) .notStarted s).setBit (Reg.PAIR_CTL n) 0 false).setReg (Reg.PAIR_STAT n)
      (bset (bset (((setRun (2 * n + 1) .notStarted s).setBit (Reg.PAIR_CTL n) 0 false).reg (Reg.PAIR_STAT n)) 2 true) 0 false)).reg a := fun a => setPair_get_reg ..
  have hcore : ∀ c, (pairSplit n s).core c = (s.updCore (2 * n + 1) fun k => { k with run := .notStarted }).core c := fun c => by
    rw [pairSplit, setPair_get_core, setReg_get_core, setBit_get_core, setRun, breakQuietOf_core]
  refine ⟨pair_setPair_self .., fun m hm => ?_, ?_, ?_, ?_, ?_, ?_⟩
  · rw [pairSplit, pair_setPair_ne hm, setReg_get_pair, setBit_get_pair, setRun, breakQuietOf_pair, updCore_get_pair]
  · rw [hcore, State.updCore, core_setCore_self]
  · rw [hcore, core_updCore_ne (by omega)]
  · rw [State.bit, hreg, reg_setReg_ne hne, reg_setBit_self, bset0]
  · rw [State.bit, hreg, reg_setReg_self, bset_bit _ _ _ _ (by decide), if_neg (by decide), bset_bit _ _ _ _ (by decide), if_pos rfl]
  · rw [State.bit, hreg, reg_setReg_self, bset0]

section
variable {i : Initiator} {n : Fin 4} {v : Word} {s : State} (h : Reaches (Reg.PAIR_CTL n) s) (hon : s.bit (Reg.PAIR_CTL n) 0 = true)
include h hon

theorem pair_drained (hstarted : (s.pair n).started = true) (hrun : s.bit (Reg.PAIR_STAT n) 1 = false) (he : (s.pair n).entries = []) (hh : (s.pair n).hold = [])
    (h0 : Nat.testBit s.pwr.parking (2 * n) = false) (h1 : Nat.testBit s.pwr.parking (2 * n + 1) = false) : ∃ t, exec (.pairDrain i n v) s = .next t ∧
    t.bit (Reg.PAIR_CTL n) 0 = false ∧ t.bit (Reg.PAIR_STAT n) 2 = true ∧ t.bit (Reg.PAIR_STAT n) 0 = false ∧
    (t.pair n).started = false ∧ (t.core (2 * n + 1)).run = .notStarted ∧ t.core (2 * n) = s.core (2 * n) := by
  have honly : RegsOnly s (pairSet i.ep n (bset v 0 false) s) := pairSet_only n ..
  have hw : pairWrite i.ep (Reg.PAIR_CTL n) (bset v 0 false) s = (pairSet i.ep n (bset v 0 false) s).setPair n { s.pair n with draining := true } := by
    rw [pairWrite_ctl, pairCtlWrite_eq]
    simp [bset0, hon, pairSet_pair, hstarted, pairSet_stat, hrun]
  have hcalm : Calm (complete i.ep .ok [] (pairSet i.ep n (bset v 0 false) s)) := (h.calm.regsOnly honly).complete ..
  have hcmd : regCmd i (Reg.PAIR_CTL n) (bset v 0 false) s = (complete i.ep .ok [] (pairSet i.ep n (bset v 0 false) s)).setPair n { s.pair n with draining := true } :=
    (regCmd_pairPage h (pairReg_page n).1 (pairReg_some n).1 hw).trans (retryHeld_setPair hcalm ..)
  have hcore : (complete i.ep .ok [] (pairSet i.ep n (bset v 0 false) s)).core (2 * n) = s.core (2 * n) := by rw [honly]; rfl
  have hpwr : (complete i.ep .ok [] (pairSet i.ep n (bset v 0 false) s)).pwr = s.pwr := by rw [honly]; rfl
  generalize complete i.ep .ok [] (pairSet i.ep n (bset v 0 false) s) = x at *
  have hpair : (x.setPair n { s.pair n with draining := true }).pair n = { s.pair n with draining := true } := pair_setPair_self ..
  have hsplit : settlePair n (x.setPair n { s.pair n with draining := true }) = pairSplit n (x.setPair n { s.pair n with draining := true }) := by
    refine settlePair_drains ?_ ?_ ?_ ?_ ?_ ?_
    · rw [hpair]; exact hstarted
    · rw [hpair]
    · rw [hpair]; exact he
    · rw [hpair]; exact hh
    · rw [setPair_pwr, hpwr]; exact h0
    · rw [setPair_pwr, hpwr]; exact h1
  obtain ⟨hself, hother, hrun', hlead, hctl, hstat2, hstat0⟩ := pairSplit_spec n (x.setPair n { s.pair n with draining := true })
  have hsettle : settleAll (x.setPair n { s.pair n with draining := true }) = pairSplit n (x.setPair n { s.pair n with draining := true }) := by
    rw [settleAll_setPair hcalm n.isLt, hsplit]
    intro m hm
    rw [hsplit]
    refine settlePair_still ?_ ?_
    · by_cases hmn : m = n
      · rw [hmn, hself]; rfl
      · rw [hother m hmn, pair_setPair_ne hmn]; exact hcalm.draining m hm
    · by_cases hmn : m = n
      · rw [hmn, hself, hpair]; exact Or.inr hh
      · rw [hother m hmn, pair_setPair_ne hmn]; exact hcalm.stores m hm
  have hend : exec (.pairDrain i n v) s = .next (latched (pairSplit n (x.setPair n { s.pair n with draining := true }))) := by
    show okSettled (regCmd i (Reg.PAIR_CTL n) (bset v 0 false) s) = _
    rw [hcmd, okSettled, hsettle]
    rfl
  refine ⟨_, hend, ?_, ?_, ?_, ?_, ?_, ?_⟩
  · rw [latched_get_bit]; exact hctl
  · rw [latched_get_bit]; exact hstat2
  · rw [latched_get_bit]; exact hstat0
  · rw [latched_get_pair, hself]; rfl
  · rw [latched_get_core]; exact hrun'
  · rw [latched_get_core, hlead, setPair_get_core]; exact hcore

end

/-- Settles O20: pair registers and a stopped core's page, written over the fabric. -/
theorem pairAndCoreWrites : Obligations.PairAndCoreWrites := by
  intro i s
  refine ⟨fun n v h => ⟨pair_enabled h, pair_refused h, pair_undone h, pair_drained h⟩, fun n v h => ?_, fun c cs v h hcs =>
    ⟨corePageStore_stopped h hcs, corePageStore_running h hcs⟩⟩
  have asked : ∀ j, j < 40 → ∃ t, okSettled (regCmd i (Reg.PAIR_INJECT n) (bset v j true) s) = .next t ∧ Took i [] s t ∧
      (t.pair n).injMismatch = ((s.pair n).injMismatch || bget v 0 || j == 0) ∧ (t.pair n).injParity = ((s.pair n).injParity || bget v 1 || j == 1) ∧
      (t.pair n).injMissCanary = ((s.pair n).injMissCanary || bget v 2 || j == 2) ∧
      (t.pair n).injDisagree = ((s.pair n).injDisagree || bget v 3 || j == 3) := by
    intro j hj
    obtain ⟨t, ht, htook, hp⟩ := inject_done h (bset v j true)
    refine ⟨t, ht, htook, ?_⟩
    rw [hp]
    exact ⟨ bset_or v hj _, bset_or v hj _, bset_or v hj _, bset_or v hj _⟩
  exact ⟨asked 0 (by decide), asked 1 (by decide), asked 2 (by decide), asked 3 (by decide)⟩

end Sys2Proof.Machine
end

section
/-!
SUPPORT. Power domains: results, closing and retaining (R650-R653).
-/
set_option linter.constructorNameAsVariable false

namespace Sys2Proof.Machine

/-! ### The result of a domain (R652) -/

theorem domReg_apart (d : Fin 21) : Reg.PWR_DOM d ≠ Reg.PWR_STATUS ∧ Reg.PWR_DOM d ≠ Reg.EIU_SRC_CNT 143 := by
  simp only [Reg.PWR_DOM, Reg.PWR_STATUS, Reg.EIU_SRC_CNT]; omega

theorem RegsOnly.eventsOnly {s t : State} (h : RegsOnly s t) : EventsOnly s t := by unfold RegsOnly EventsOnly at *; rw [h]

/-- What a result leaves: itself, its event bit, and every other register but its source's count. -/
structure DomDone (d : Fin 21) (n : Nat) (s t : State) : Prop where
  events : EventsOnly s t
  drained : Drained t
  result : t.reg (Reg.PWR_DOM d) = fset (s.reg (Reg.PWR_DOM d)) 6 4 n
  done : t.bit Reg.PWR_STATUS 5 = true
  regs : RegsBut [Reg.PWR_DOM d, Reg.PWR_STATUS, Reg.EIU_SRC_CNT 143] s t

theorem domResult_spec (d : Fin 21) (n : Nat) {s : State} (h : Drained s) : DomDone d n s (domResult d n s) := by
  obtain ⟨hne, hsrc⟩ := domReg_apart d
  have hset : Drained ((s.setFld (Reg.PWR_DOM d) 6 4 n).setBit Reg.PWR_STATUS 5 true) := h
  obtain ⟨hlevels, hd⟩ := lv1_levels 143 (fun s => (s.setFld (Reg.PWR_DOM d) 6 4 n).setBit Reg.PWR_STATUS 5 true) (s := s) hset
  refine ⟨?_, hd, ?_, ?_, fun a ha => ?_⟩
  · have honly : RegsOnly s ((s.setFld (Reg.PWR_DOM d) 6 4 n).setBit Reg.PWR_STATUS 5 true) := (regsOnly_setFld ..).trans (regsOnly_setBit ..)
    exact honly.eventsOnly.trans hlevels.events
  · exact (hlevels.reg hsrc).trans ((reg_setBit_ne hne ..).trans (reg_setFld_self ..))
  · refine (hlevels.bit (by decide) 5).trans ?_
    rw [State.bit, reg_setBit_self, bset_bit _ _ _ _ (by decide), if_pos rfl]
  · simp only [List.mem_cons, List.not_mem_nil, or_false, not_or] at ha
    exact (hlevels.reg ha.2.2).trans ((reg_setBit_ne ha.2.1 ..).trans (reg_setFld_ne ha.1 ..))

section
variable {d : Fin 21} {n : Nat} {s t : State} (h : DomDone d n s t)
include h

theorem DomDone.state : domState t d = domState s d := by
  rw [domState, State.fld, h.result, fget_fset_ne _ _ _ _ _ _ (by decide) (by decide) (by decide) (by decide), domState, State.fld]

theorem DomDone.fld (hn : n < 8) : t.fld (Reg.PWR_DOM d) 6 4 = n := by
  rw [State.fld, h.result, fget_fset_self _ _ _ _ (by decide) (by decide), Nat.mod_eq_of_lt (by omega)]

theorem DomDone.calm (hc : Calm s) : Calm t := hc.blocksOnly h.events.blocksOnly h.drained

end

/-! ### Closing (R358) -/

theorem evictAll_empty {a : Nat} {s : State} (h : (s.agent a).lines = []) : evictAll a s = s := by rw [evictAll, h, List.foldl_nil]

theorem evictAgents_empty {s : State} : ∀ (l : List Nat), (∀ a, a ∈ l → (s.agent a).lines = []) → l.foldl (fun s a => evictAll a s) s = s
  | [], _ => rfl
  | a :: l, h => by
    rw [List.foldl_cons, evictAll_empty (h a (List.mem_cons_self ..))]
    exact evictAgents_empty l fun x hx => h x (List.mem_cons_of_mem _ hx)

/-- Domain d, its state closing and its level ACTIVE. -/
def domClosing (d : Nat) (s : State) : State := (s.setFld (Reg.PWR_DOM d) 8 7 1).setFld (Reg.PWR_DOM d) 10 9 0

theorem domainClose_begins {d : Nat} {s : State} (h0 : domState s d = 0) (hmay : mayShut s d = true) (hshed : domShed s d = false)
    (hempty : ∀ a, a ∈ domAgents d → (s.agent a).lines = []) : domainClose d s = domClosing d s := by
  unfold domainClose
  rw [if_neg (by simp [h0, hmay, hshed])]
  exact evictAgents_empty (s := domClosing d s) (domAgents d) hempty

theorem domainClose_refused {d : Nat} {s : State} (h : domState s d ≠ 0 ∨ mayShut s d = false ∨ domShed s d = true) : domainClose d s = domResult d 3 s := by
  refine if_pos ?_
  rcases h with h | h | h <;> simp [h]

theorem domClosing_word (d : Nat) (s : State) : (domClosing d s).reg (Reg.PWR_DOM d) = fset (fset (s.reg (Reg.PWR_DOM d)) 8 7 1) 10 9 0 := by
  rw [domClosing, reg_setFld_self, reg_setFld_self]

theorem domClosing_closes (d : Nat) (s : State) : domState (domClosing d s) d = 1 ∧ (domClosing d s).fld (Reg.PWR_DOM d) 10 9 = 0 ∧
    (domClosing d s).bit (Reg.PWR_DOM d) 3 = s.bit (Reg.PWR_DOM d) 3 := by
  refine ⟨?_, ?_, ?_⟩
  · rw [domState, State.fld, domClosing_word, fget_fset_ne _ _ _ _ _ _ (by decide) (by decide) (by decide) (by decide),
      fget_fset_self _ _ _ _ (by decide) (by decide), Nat.mod_eq_of_lt (by decide)]
  · rw [State.fld, domClosing_word, fget_fset_self _ _ _ _ (by decide) (by decide), Nat.zero_mod]
  · rw [State.bit, domClosing_word, bget_fset_ne _ _ _ _ _ (by decide) (by decide) (by decide), bget_fset_ne _ _ _ _ _ (by decide) (by decide) (by decide), State.bit]

theorem domClosing_only (d : Nat) (s : State) : RegsOnly s (domClosing d s) := (regsOnly_setFld ..).trans (regsOnly_setFld ..)

section
variable {d : Fin 21} {s : State} (hc : Calm s)
include hc

theorem domainClose_done (h0 : domState s d = 0) (hmay : mayShut s d = true) (hshed : domShed s d = false)
    (hempty : ∀ a, a ∈ domAgents d → (s.agent a).lines = []) : ∃ t, exec (.domainClose d) s = .next t ∧
    (domState t d = 1 ∧ t.fld (Reg.PWR_DOM d) 10 9 = 0) ∧ SameMemory s t := by
  have he : execDomainClose d s = okSettled (domClosing d s) := by
    rw [execDomainClose, if_pos (by simp [h0, hmay, hshed]), domainClose_begins h0 hmay hshed hempty]
  obtain ⟨hstate, hlevel, -⟩ := domClosing_closes d s
  exact ⟨_, he.trans (okSettled_calm (hc.regsOnly (domClosing_only ..))), ⟨hstate, hlevel⟩, (domClosing_only ..).memory.latched⟩

/-! ### Retaining (R651) -/

theorem retainEntry_done (h0 : domState s d = 0) (hidle : domIdle s d = true) (hmay : mayRetain s d = true) (hkeep : s.bit (Reg.PWR_DOM d) 3 = false)
    (hshed : domShed s d = false) (hlevel : s.fld (Reg.PWR_DOM d) 10 9 ≠ 2) (h12 : d.val ≠ 12) (h13 : d.val ≠ 13) : ∃ t, exec (.retainEntry d) s = .next t ∧
    t.fld (Reg.PWR_DOM d) 10 9 = 2 ∧ domState t d = 0 ∧ RegsBut [Reg.PWR_DOM d] s t ∧ t.cores = s.cores ∧ SameMemory s t := by
  have he : retainEntry d s = s.setFld (Reg.PWR_DOM d) 10 9 2 := by
    rw [retainEntry, if_pos (by simp [h0, hidle, hmay, hkeep, hshed, hlevel])]
    simp [h12, h13]
  have honly : RegsOnly s (s.setFld (Reg.PWR_DOM d) 10 9 2) := regsOnly_setFld ..
  refine ⟨_, (congrArg okSettled he).trans (okSettled_calm (hc.regsOnly honly)), ?_, ?_, fun a ha => ?_, honly.cores, honly.memory.latched⟩
  · rw [State.fld, latched_get_reg, reg_setFld_self, fget_fset_self _ _ _ _ (by decide) (by decide), Nat.mod_eq_of_lt (by decide)]
  · rw [domState, State.fld, latched_get_reg, reg_setFld_self, fget_fset_ne _ _ _ _ _ _ (by decide) (by decide) (by decide) (by decide)]
    exact h0
  · rw [latched_get_reg, reg_setFld_ne (List.ne_of_not_mem_cons ha)]

end

/-! ### Shutting (R358, R512) -/

/-- From s to t only registers, the DRAM channels, the error log and the free values change. -/
def DramOnly (s t : State) : Prop := t = { s with regs := t.regs, dmcs := t.dmcs, errlog := t.errlog, fresh := t.fresh }

theorem DramOnly.refl (s : State) : DramOnly s s := rfl
theorem DramOnly.trans {s t u : State} (h : DramOnly s t) (g : DramOnly t u) : DramOnly s u := by unfold DramOnly at *; rw [g, h]
theorem RegsOnly.dramOnly {s t : State} (h : RegsOnly s t) : DramOnly s t := by unfold RegsOnly DramOnly at *; rw [h]
theorem DramOnly.ite {s t u : State} {p : Prop} [Decidable p] (h : DramOnly s t) (g : DramOnly s u) : DramOnly s (if p then t else u) := by
  split
  · exact h
  · exact g

theorem dramOnly_setDmc (s : State) (n : Nat) (m : Dmc) : DramOnly s (s.setDmc n m) := rfl
theorem dramOnly_inc (s : State) (a : Nat) : DramOnly s (s.inc a) := rfl
theorem dramOnly_setReg (s : State) (a : Nat) (v : Word) : DramOnly s (s.setReg a v) := rfl

theorem dramOnly_logErr (blk : BlkId) (kind unit : Nat) (addr info : Word) (s : State) : DramOnly s (logErr blk kind unit addr info s) := by
  unfold logErr
  split <;> rfl

theorem dramOnly_putWord (n la : Nat) (w : MWord) (s : State) : DramOnly s (dmcPutWord n la w s) := by
  unfold dmcPutWord
  split
  · rfl
  · split <;> rfl

theorem dramOnly_putWords (n : Nat) : ∀ (ws : Line) (la : Nat) (s : State), DramOnly s (dmcPutWords n la ws s)
  | [], _, s => .refl s
  | w :: ws, la, s => (dramOnly_putWord n la w s).trans (dramOnly_putWords n ws (la + 1) _)

theorem dramOnly_corrected (n la lane : Nat) (v : Word) (s : State) : DramOnly s (dmcCorrected n la lane v s) :=
  DramOnly.trans (t := (s.inc (Reg.DMC_CE_CNT n)).inc (Reg.DMC_LANE_CE n lane)) rfl (dramOnly_putWord ..)

/-- The counts and the capture of an uncorrectable error. -/
def uncorrNoted (n pa lane y : Nat) (s : State) : State :=
  ((if lane < 6 then (s.inc (Reg.DMC_UE_CNT n)).inc (Reg.DMC_LANE_UE n lane) else s.inc (Reg.DMC_UE_CNT n)).setReg (Reg.DMC_ERR_ADDR n) (nw pa)).setReg
    (Reg.DMC_ERR_INFO n) (nw (y * 2 ^ 8 + lane * 2 ^ 5 + 1))

theorem dramOnly_uncorrNoted (n pa lane y : Nat) (s : State) : DramOnly s (uncorrNoted n pa lane y s) := by
  have hcount : DramOnly s (if lane < 6 then (s.inc (Reg.DMC_UE_CNT n)).inc (Reg.DMC_LANE_UE n lane) else s.inc (Reg.DMC_UE_CNT n)) :=
    .ite ((dramOnly_inc ..).trans (dramOnly_inc ..)) (dramOnly_inc ..)
  exact (hcount.trans (dramOnly_setReg ..)).trans (dramOnly_setReg ..)

theorem dmcUncorr_eq (n la pa lane syn : Nat) (v : Word) (s : State) : dmcUncorr n la pa lane syn v s = dmcPutWord n la ⟨v, .poison⟩
    (logErr (.dmc n) 0x40 n (nw pa) (nw ((1 + syn % 254) * 2 ^ 8 + lane * 2 ^ 5)) (uncorrNoted n pa lane (1 + syn % 254) s)) := rfl

theorem dramOnly_uncorr (n la pa lane syn : Nat) (v : Word) (s : State) : DramOnly s (dmcUncorr n la pa lane syn v s) := by
  rw [dmcUncorr_eq]
  exact ((dramOnly_uncorrNoted ..).trans (dramOnly_logErr ..)).trans (dramOnly_putWord ..)

theorem dramOnly_readWord (n la pa : Nat) (s : State) : DramOnly s (dmcReadWord n la pa s).2 := by
  have hfresh : DramOnly s (takeFresh s) := rfl
  unfold dmcReadWord
  split
  · rfl
  · rfl
  · exact dramOnly_corrected ..
  · exact dramOnly_uncorr ..
  all_goals
    dsimp only
    split
    · exact hfresh
    · exact hfresh.trans (dramOnly_corrected ..)
    · exact hfresh.trans (dramOnly_uncorr ..)
    · exact hfresh.trans (dramOnly_inc ..)

theorem dramOnly_readWords (n : Nat) : ∀ (k la pa : Nat) (s : State), DramOnly s (dmcReadWords n la pa k s).2
  | 0, _, _, s => .refl s
  | k + 1, la, pa, s => (dramOnly_readWord n la pa s).trans (dramOnly_readWords n k (la + 1) (pa + 1) _)

theorem dramOnly_row (n la : Nat) (s : State) : DramOnly s (dmcRow n la s) := by
  unfold dmcRow
  dsimp only
  refine DramOnly.trans ?_ (dramOnly_setDmc ..)
  generalize SMap.find _ (s.dmc n).openRow = row
  cases row with
  | none => exact dramOnly_inc ..
  | some r => exact .ite (dramOnly_inc ..) (dramOnly_inc ..)

theorem dramOnly_writeDevices (n : Nat) (e : WqEnt) (s : State) : DramOnly s (writeDevices n e s) := by
  have hrow := dramOnly_row n (e.la * 16) s
  unfold writeDevices
  dsimp only
  split
  · exact hrow.trans (dramOnly_putWords ..)
  · exact ((hrow.trans (dramOnly_inc ..)).trans (dramOnly_readWords ..)).trans (dramOnly_putWords ..)

theorem dramOnly_drainAll (n : Nat) : ∀ (k : Nat) (s : State), DramOnly s (drainAll n k s)
  | 0, s => .refl s
  | k + 1, s => by
    rw [drainAll]
    refine DramOnly.trans ?_ (dramOnly_drainAll n k _)
    unfold drainOne
    split
    · exact .refl s
    · exact (dramOnly_setDmc ..).trans (dramOnly_writeDevices ..)

theorem dramOnly_selfRefresh (n : Nat) (s : State) : DramOnly s (selfRefresh n s) := by
  unfold selfRefresh
  split
  · exact .refl s
  · rfl

/-- A controller that stops. -/
theorem dramOnly_stop (n : Nat) (s : State) : DramOnly s (dmcStop n s) :=
  (((dramOnly_drainAll ..).trans (dramOnly_selfRefresh ..)).trans (dramOnly_setDmc ..)).trans (dramOnly_setReg ..)

theorem Calm.dramOnly {s t : State} (h : Calm s) (g : DramOnly s t) : Calm t where
  flaws := by rw [g]; exact h.flaws
  held := by rw [g]; exact h.held
  retired := by rw [g]; exact h.retired
  blocked := by rw [g]; exact h.blocked
  inter := by rw [g]; exact h.inter
  waiting := by rw [g]; exact h.waiting
  rxq := by rw [g]; exact h.rxq
  draining := by rw [g]; exact h.draining
  stores := by rw [g]; exact h.stores
  sources := by rw [g]; exact h.sources

theorem domainShut_done {d : Fin 21} {s : State} (hc : Calm s) (h1 : domState s d = 1) (hd : drained s d = true) : ∃ t, exec (.domainShut d) s = .next t ∧
    domState t d = 2 ∧ t.fld (Reg.PWR_DOM d) 6 4 = 1 ∧ t.bit Reg.PWR_STATUS 5 = true := by
  obtain ⟨u, hu, hcalm⟩ : ∃ u, domainShut d s = domResult d 1 (u.setFld (Reg.PWR_DOM d) 8 7 2) ∧ Calm u := by
    unfold domainShut
    rw [if_pos (by simp [h1, hd])]
    refine ⟨_, rfl, ?_⟩
    split
    · exact hc.dramOnly (dramOnly_stop ..)
    · split
      · exact hc.dramOnly (dramOnly_stop ..)
      · exact hc
  have hset : Calm (u.setFld (Reg.PWR_DOM d) 8 7 2) := hcalm.regsOnly (regsOnly_setFld ..)
  have hdone := domResult_spec d 1 hset.sources
  refine ⟨_, (congrArg okSettled hu).trans (okSettled_calm (hdone.calm hset)), ?_, ?_, ?_⟩
  · refine (show domState (latched (domResult d 1 (u.setFld (Reg.PWR_DOM d) 8 7 2))) d = domState (domResult d 1 (u.setFld (Reg.PWR_DOM d) 8 7 2)) d from rfl).trans ?_
    rw [hdone.state, domState, State.fld, reg_setFld_self, fget_fset_self _ _ _ _ (by decide) (by decide), Nat.mod_eq_of_lt (by decide)]
  · exact (latched_get_fld ..).trans (hdone.fld (by decide))
  · exact (latched_get_bit ..).trans hdone.done

end Sys2Proof.Machine
end

section
/-!
SUPPORT. Power domains: waking, failing to wake, and the writes of `PWR_DOM` (R359, R650, R652, R653, R710).
-/
set_option linter.constructorNameAsVariable false

namespace Sys2Proof.Machine

/-! ### What a shut domain loses (R653) -/

/-- What a reset of domain d leaves that its opening reads. -/
structure DomReset (d : Nat) (s t : State) : Prop where
  calm : Calm t
  close : t.close = s.close
  fab : t.fab = s.fab
  regs : ∀ a, a < 0x208000 → t.reg a = s.reg a
  core : d < 8 → t.core d = Core.reset

theorem pageReset_spec {b : Nat} (hb : 0x208000 ≤ b) (n : Nat) (keepLk : Bool) (s : State) : RegsOnly s (resetRegs (inPage b n) keepLk s) ∧
    ∀ a, a < 0x208000 → (resetRegs (inPage b n) keepLk s).reg a = s.reg a := by
  refine ⟨(resetRegs_reg (inPage b n) keepLk s 0).1, fun a ha => ?_⟩
  have hout : inPage b n a = false := by simp [inPage]; omega
  rw [(resetRegs_reg (inPage b n) keepLk s a).2, hout, if_neg Bool.false_ne_true]

/-- Pages reset one after another. -/
theorem pagesReset_spec (b step : Nat) (hb : 0x208000 ≤ b) (l : List Nat) (s : State) :
    RegsOnly s (l.foldl (fun s k => resetRegs (inPage (b + step * k) step) s.isSealed s) s) ∧
    ∀ a, a < 0x208000 → (l.foldl (fun s k => resetRegs (inPage (b + step * k) step) s.isSealed s) s).reg a = s.reg a := by
  refine List.foldlRecOn (motive := fun t => RegsOnly s t ∧ ∀ a, a < 0x208000 → t.reg a = s.reg a) l _ ⟨.refl s, fun _ _ => rfl⟩ ?_
  rintro t ⟨honly, hregs⟩ k -
  obtain ⟨hpage, hkept⟩ := pageReset_spec (b := b + step * k) (by omega) step t.isSealed t
  exact ⟨honly.trans hpage, fun a ha => (hkept a ha).trans (hregs a ha)⟩

section
variable {s : State} (hc : Calm s)
include hc

theorem domReset_core {d : Nat} (hd : d < 8) : DomReset d s (resetCore d s) := by
  obtain ⟨honly, hself, hother, -, hpairs, hreg⟩ := resetCore_spec d s
  refine ⟨hc.startOnly honly (fun c h => ?_) (fun m hm => ?_), ?_, ?_, fun a ha => ?_, fun _ => hself⟩
  · by_cases hcd : c = d
    · rw [hcd, hself]; exact ⟨rfl, rfl⟩
    · rw [hother c hcd]; exact hc.retired c h
  · rw [hpairs m]; exact ⟨hc.draining m hm, hc.stores m hm⟩
  · rw [honly.frame]
  · rw [honly.frame]
  · have hout : inPage (corePage d) 0x80 a = false := by
      rw [inPage, decide_eq_false (by rw [corePage]; omega), Bool.false_and]
    rw [hreg, hout, if_neg Bool.false_ne_true]

/-- A domain other than a core's loses registers and the state of its blocks. -/
theorem domReset_blocks {d : Nat} {u t : State} (hd : 8 ≤ d) (honly : RegsOnly s u) (hregs : ∀ a, a < 0x208000 → u.reg a = s.reg a)
    (ht : ∃ (seg : Seg) (cuf : SMap CufPort) (cns : Cns) (ports : Ports) (eth : Eth) (usb : Usb), ports.held = [] ∧
      (cuf = u.cuf ∨ cuf = []) ∧ t = { u with seg := seg, cuf := cuf, cns := cns, ports := ports, eth := eth, usb := usb }) : DomReset d s t := by
  obtain ⟨seg, cuf, cns, ports, eth, usb, hheld, hcuf, rfl⟩ := ht
  have hu := hc.regsOnly honly
  refine ⟨⟨hu.flaws, hheld, hu.retired, hu.blocked, hu.inter, fun n hn => ?_, fun n hn => ?_, hu.draining, hu.stores, hu.sources⟩, ?_, ?_, hregs,
    fun h => absurd h (by omega)⟩
  · rcases hcuf with h | h
    · subst h; exact hu.waiting n hn
    · subst h; rfl
  · rcases hcuf with h | h
    · subst h; exact hu.rxq n hn
    · subst h; rfl
  · rw [honly]
  · rw [honly]

theorem domReset_spec {d : Nat} (h12 : d ≠ 12) (h13 : d ≠ 13) : DomReset d s (domainReset d s) := by
  unfold domainReset
  by_cases hcore : d < 8
  · rw [if_pos hcore]
    exact domReset_core hc hcore
  have h8 : 8 ≤ d := by omega
  rw [if_neg hcore, if_neg (by simp [h12, h13])]
  split_ifs with h14 h15 h16 h17 h18
  · obtain ⟨hr1, hk1⟩ := pageReset_spec (b := 0x400000) (by decide) 0x410 s.isSealed s
    obtain ⟨hr2, hk2⟩ := pageReset_spec (b := 0x230000) (by decide) 0x1000 (resetRegs (inPage 0x400000 0x410) s.isSealed s).isSealed
      (resetRegs (inPage 0x400000 0x410) s.isSealed s)
    obtain ⟨hr3, hk3⟩ := pagesReset_spec 0x240000 0x1000 (by decide) (List.range 0x10)
      (resetRegs (inPage 0x230000 0x1000) (resetRegs (inPage 0x400000 0x410) s.isSealed s).isSealed (resetRegs (inPage 0x400000 0x410) s.isSealed s))
    refine domReset_blocks hc h8 ((hr1.trans hr2).trans hr3) (fun a ha => (hk3 a ha).trans ((hk2 a ha).trans (hk1 a ha)))
      ⟨Seg.reset, _, _, _, _, _, (hc.regsOnly ((hr1.trans hr2).trans hr3)).held, Or.inl rfl, rfl⟩
  · obtain ⟨honly, hkeep⟩ := pageReset_spec (b := 0x228000) (by decide) 0x3000 s.isSealed s
    exact domReset_blocks hc h8 honly hkeep ⟨_, [], _, _, _, _, (hc.regsOnly honly).held, Or.inr rfl, rfl⟩
  · obtain ⟨honly, hkeep⟩ := pageReset_spec (b := 0x260000) (by decide) 0x1000 s.isSealed s
    exact domReset_blocks hc h8 honly hkeep ⟨_, _, _, { s.ports with aud := [] }, _, _, hc.held, Or.inl rfl, rfl⟩
  · obtain ⟨honly, hkeep⟩ := pageReset_spec (b := 0x261000) (by decide) 0x5000 s.isSealed s
    exact domReset_blocks hc h8 honly hkeep ⟨_, _, _, _, _, _, rfl, Or.inl rfl, rfl⟩
  · obtain ⟨honly, hkeep⟩ := pageReset_spec (b := 0x268000) (by decide) 0x2000 s.isSealed s
    exact domReset_blocks hc h8 honly hkeep ⟨_, _, _, _, _, _, (hc.regsOnly honly).held, Or.inl rfl, rfl⟩
  · exact ⟨hc, rfl, rfl, fun _ _ => rfl, fun h => absurd h hcore⟩

end

/-! ### Wakes (R359) -/

/-- The wake of domain d is over, and no packet waits for it. -/
def wakeOver (d : Nat) (s : State) : State := { s with fab := { s.fab with wake := [], waking := SMap.erase d s.fab.waking } }

theorem takeWake_none {d : Nat} {s : State} (h : s.fab.wake = []) : takeWake d s = ([], wakeOver d s) := by rw [takeWake, h]; rfl

theorem unblock_none {s : State} (srv : Server) (h : s.fab.blocked = []) : unblock srv s = s := by rw [unblock, h]; rfl

theorem wakeOver_memory (d : Nat) (s : State) : SameMemory s (wakeOver d s) := ⟨rfl, rfl, rfl, rfl, rfl, rfl⟩

theorem Calm.wakeOver {s : State} (hc : Calm s) (d : Nat) : Calm (wakeOver d s) :=
  ⟨hc.flaws, hc.held, hc.retired, hc.blocked, hc.inter, hc.waiting, hc.rxq, hc.draining, hc.stores, hc.sources⟩

/-- A failed wake is noted at the interface of the domain. -/
def failNoted (ep : Nat) (s : State) : State :=
  ((logErr (.ni ep) 0x21 ep 0 0 (s.inc Reg.FAB_WAKE_FAIL_CNT)).setReg Reg.FAB_ERR_INFO (nw (ep * 2 ^ 6 + 2))).setReg Reg.FAB_ERR_ADDR 0

/-- The registers that note it. -/
def failRegs : List Nat := [Reg.FAB_WAKE_FAIL_CNT, Reg.FAB_ERR_INFO, Reg.FAB_ERR_ADDR, Reg.SYS_ERRLOG_LOST_CNT]

theorem failNoted_spec (ep : Nat) (s : State) : BlockChange failRegs s (failNoted ep s) ∧
    (failNoted ep s).reg Reg.FAB_WAKE_FAIL_CNT = s.reg Reg.FAB_WAKE_FAIL_CNT + 1 := by
  refine ⟨((((BlockChange.refl failRegs s).inc (by decide)).logErr (by decide) ..).setReg (by decide) _).setReg (by decide) _, ?_⟩
  rw [failNoted, reg_setReg_ne (by decide), reg_setReg_ne (by decide), (logErr_change ..).regs _ (by decide), reg_inc_self]

theorem failWake_none {d : Nat} {s : State} {w : Waking} (hw : SMap.find d s.fab.waking = some w) (hwake : s.fab.wake = []) :
    ∃ ep, failWake busSrv d s = unblock busSrv (if w.sw then domResult d 4 (failNoted ep (wakeOver d s)) else failNoted ep (wakeOver d s)) := by
  unfold failWake
  rw [takeWake_none hwake, hw]
  exact ⟨_, rfl⟩

section
variable {d : Fin 21} {s : State} {w : Waking} (hc : Calm s) (hw : SMap.find d.val s.fab.waking = some w) (hwake : s.fab.wake = [])
include hc hw hwake

/-- A domain opens (R653). -/
theorem domainOpen_done (h2 : domState s d = 2) (hshed : domShed s d = false) (h12 : d.val ≠ 12) (h13 : d.val ≠ 13) : ∃ t, exec (.domainOpen d) s = .next t ∧
    domState t d = 0 ∧ SMap.find d.val t.fab.waking = none ∧ (w.sw = true → t.fld (Reg.PWR_DOM d) 6 4 = 1) ∧ (d.val < 8 → (t.core d).run = .notStarted) ∧
    t.close = s.close := by
  have hreset := domReset_spec hc h12 h13
  generalize hx : domainReset d s = x at hreset
  have hset : Calm (x.setFld (Reg.PWR_DOM d) 8 7 0) := hreset.calm.regsOnly (regsOnly_setFld ..)
  have hdone := domResult_spec d 1 hset.sources
  have hstate : domState (x.setFld (Reg.PWR_DOM d) 8 7 0) d = 0 := by
    rw [domState, State.fld, reg_setFld_self, fget_fset_self _ _ _ _ (by decide) (by decide), Nat.zero_mod]
  obtain ⟨u, hu, hcalm, honly, hstate', hres⟩ : ∃ u, (if w.sw then domResult d 1 (x.setFld (Reg.PWR_DOM d) 8 7 0) else x.setFld (Reg.PWR_DOM d) 8 7 0) = u ∧ Calm u ∧
      EventsOnly x u ∧ domState u d = 0 ∧ (w.sw = true → u.fld (Reg.PWR_DOM d) 6 4 = 1) := by
    by_cases hsw : w.sw = true
    · rw [if_pos hsw]
      have hsetOnly : RegsOnly x (x.setFld (Reg.PWR_DOM d) 8 7 0) := regsOnly_setFld ..
      exact ⟨_, rfl, hdone.calm hset, hsetOnly.eventsOnly.trans hdone.events, hdone.state.trans hstate, fun _ => hdone.fld (by decide)⟩
    · rw [if_neg hsw]
      have hsetOnly : RegsOnly x (x.setFld (Reg.PWR_DOM d) 8 7 0) := regsOnly_setFld ..
      exact ⟨_, rfl, hset, hsetOnly.eventsOnly, hstate, fun h => absurd h hsw⟩
  have hfab : u.fab = s.fab := by rw [honly]; exact hreset.fab
  have hdeliver : deliverWake busSrv d u = wakeOver d u := by
    rw [deliverWake, takeWake_none (by rw [hfab]; exact hwake)]
    exact unblock_none busSrv hcalm.blocked
  have hopen : domainOpen busSrv d s = wakeOver d u := by
    unfold domainOpen
    rw [hw]
    dsimp only
    rw [if_pos (by simp [h2, hshed]), hx, hu, hdeliver, if_neg (by simp [h12, h13])]
  refine ⟨_, (congrArg okSettled hopen).trans (okSettled_calm (hcalm.wakeOver d)), hstate', SMap.find_erase_self .., hres, fun h8 => ?_, ?_⟩
  · have hcore : u.core d = Core.reset := by rw [honly]; exact hreset.core h8
    show (u.core d).run = .notStarted
    rw [hcore]
    rfl
  · show u.close = s.close
    rw [honly]
    exact hreset.close

/-- A wake fails (R359, R658). -/
theorem wakeFail_done (hlate : w.since + 51 ≤ s.tb.pulses ∨ domShed s d = true) (h12 : d.val ≠ 12) (h13 : d.val ≠ 13) : ∃ t, exec (.fabWakeFail d) s = .next t ∧
    domState t d = domState s d ∧ SMap.find d.val t.fab.waking = none ∧ (w.sw = true → t.fld (Reg.PWR_DOM d) 6 4 = 4) ∧
    t.reg Reg.FAB_WAKE_FAIL_CNT = s.reg Reg.FAB_WAKE_FAIL_CNT + 1 ∧ SameMemory s t := by
  obtain ⟨ep, hfail⟩ := failWake_none hw hwake
  obtain ⟨hchange, hcnt⟩ := failNoted_spec ep (wakeOver d s)
  have hover := hc.wakeOver d
  have hapart : Reg.PWR_DOM d ∉ failRegs ∧ Reg.FAB_WAKE_FAIL_CNT ∉ [Reg.PWR_DOM d, Reg.PWR_STATUS, Reg.EIU_SRC_CNT 143] := by
    simp only [failRegs, Reg.PWR_DOM, Reg.FAB_WAKE_FAIL_CNT, Reg.FAB_ERR_INFO, Reg.FAB_ERR_ADDR, Reg.SYS_ERRLOG_LOST_CNT, Reg.PWR_STATUS, Reg.EIU_SRC_CNT,
      List.mem_cons, List.not_mem_nil, or_false]
    omega
  have hcalm : Calm (failNoted ep (wakeOver d s)) := hover.blocksOnly hchange.only (hchange.drained hover.sources)
  have hstate : domState (failNoted ep (wakeOver d s)) d = domState s d := by rw [domState, State.fld, hchange.regs _ hapart.1]; rfl
  have hdone := domResult_spec d 4 hcalm.sources
  obtain ⟨u, hu, hcalm', honly, hkeep, hstate', hres, hcnt'⟩ : ∃ u, (if w.sw then domResult d 4 (failNoted ep (wakeOver d s)) else failNoted ep (wakeOver d s)) = u ∧
      Calm u ∧ BlocksOnly (wakeOver d s) u ∧ u.keep = s.keep ∧ domState u d = domState s d ∧ (w.sw = true → u.fld (Reg.PWR_DOM d) 6 4 = 4) ∧
      u.reg Reg.FAB_WAKE_FAIL_CNT = s.reg Reg.FAB_WAKE_FAIL_CNT + 1 := by
    by_cases hsw : w.sw = true
    · rw [if_pos hsw]
      refine ⟨_, rfl, hdone.calm hcalm, hchange.only.trans hdone.events.blocksOnly, ?_, hdone.state.trans hstate, fun _ => hdone.fld (by decide),
        (hdone.regs _ hapart.2).trans hcnt⟩
      rw [hdone.events]
      exact hchange.keep
    · rw [if_neg hsw]
      exact ⟨_, rfl, hcalm, hchange.only, hchange.keep, hstate, fun h => absurd h hsw, hcnt⟩
  have hall : wakeFailed busSrv d s = u := by
    unfold wakeFailed
    rw [hw]
    dsimp only
    rw [if_pos (by rcases hlate with h | h <;> simp [h]), hfail, hu, unblock_none busSrv hcalm'.blocked, if_neg h12, if_neg h13]
  refine ⟨_, (congrArg okSettled hall).trans (okSettled_calm hcalm'), hstate', ?_, hres, hcnt', ?_⟩
  · show SMap.find d.val u.fab.waking = none
    rw [honly]
    exact SMap.find_erase_self ..
  · exact ((wakeOver_memory d s).trans (honly.memory hkeep)).latched

end

end Sys2Proof.Machine
end

section
/-!
SUPPORT. Writes of `PWR_DOM`, and O37.
-/
set_option linter.constructorNameAsVariable false

namespace Sys2Proof.Machine

/-! ### Writes of `PWR_DOM` (R652, R710) -/

theorem domReg_page (d : Fin 21) : regPage (Reg.PWR_DOM d) = 2 ∧ Reg.PWR_DOM 0 ≤ Reg.PWR_DOM d ∧ Reg.PWR_DOM d < Reg.PWR_DOM 21 ∧
    Reg.PWR_DOM d - Reg.PWR_DOM 0 = d := by
  simp only [regPage, Reg.PWR_DOM]; omega

theorem domReg_some : ∀ d : Fin 21, (regAt (Reg.PWR_DOM d)).isSome = true := by decide

/-- The flag of domain d that keeps it from retention. -/
def domSet (d : Nat) (v : Word) (s : State) : State := s.setBit (Reg.PWR_DOM d) 3 (bget v 3)

theorem domSet_only (d : Nat) (v : Word) (s : State) : RegsOnly s (domSet d v s) := regsOnly_setBit ..

theorem domSet_word (d : Nat) (v : Word) (s : State) : domState (domSet d v s) d = domState s d ∧ domShed (domSet d v s) d = domShed s d ∧
    (domSet d v s).bit (Reg.PWR_DOM d) 3 = bget v 3 ∧ mayShut (domSet d v s) d = mayShut s d := by
  refine ⟨?_, ?_, ?_, rfl⟩
  · rw [domState, State.fld, domSet, reg_setBit_self, fget_bset_ne _ _ _ _ _ (by decide) (by decide) (by decide), domState, State.fld]
  · rw [domShed, State.bit, domSet, reg_setBit_self, bset_bit _ _ _ _ (by decide), if_neg (by decide), domShed, State.bit]
  · rw [State.bit, domSet, reg_setBit_self, bset_bit _ _ _ _ (by decide), if_pos rfl]

theorem pwrDomWrite_shut {v : Word} (h0 : bget v 0 = true) (h1 : bget v 1 = false) (d : Nat) (s : State) : pwrDomWrite d v s = domainClose d (domSet d v s) := by
  simp [pwrDomWrite, h0, h1, domSet]

theorem pwrDomWrite_wake {v : Word} (h0 : bget v 0 = false) (h1 : bget v 1 = true) {d : Nat} {s : State} (h2 : domState (domSet d v s) d = 2) :
    pwrDomWrite d v s = requestWake d true (domSet d v s) := by
  rw [domSet] at h2
  simp [pwrDomWrite, h0, h1, h2, domSet]

/-- A wake of domain d that software asks for. -/
def wakeAsked (d : Nat) (s : State) : State := { s with fab := { s.fab with waking := SMap.insert d ⟨s.tb.pulses, true⟩ s.fab.waking } }

theorem requestWake_new {d : Nat} {s : State} (h : SMap.find d s.fab.waking = none) : requestWake d true s = wakeAsked d s := by
  unfold requestWake
  rw [h]
  rfl

theorem wakeAsked_memory (d : Nat) (s : State) : SameMemory s (wakeAsked d s) := ⟨rfl, rfl, rfl, rfl, rfl, rfl⟩

theorem Calm.wakeAsked {s : State} (hc : Calm s) (d : Nat) : Calm (wakeAsked d s) :=
  ⟨hc.flaws, hc.held, hc.retired, hc.blocked, hc.inter, hc.waiting, hc.rxq, hc.draining, hc.stores, hc.sources⟩

theorem pageWrite_dom {i : Initiator} (hpl : 2 ≤ initPl i) (d : Fin 21) (v : Word) (s : State) : pageWrite i.ep (initPl i) (Reg.PWR_DOM d) v s = fine (pwrDomWrite d v s) := by
  obtain ⟨hpage, h1, h2, hnum⟩ := domReg_page d
  have hrefused : plRefused (initPl i) (Reg.PWR_DOM d) = false := by
    have hcore : Reg.PWR_DOM d ≠ Reg.BSQ_CORE_CTL ∧ Reg.BSQ_CORE_ENTRY 8 ≤ Reg.PWR_DOM d := by
      simp only [Reg.PWR_DOM, Reg.BSQ_CORE_CTL, Reg.BSQ_CORE_ENTRY]; omega
    simp [plRefused, hcore.1, show ¬ initPl i < 2 by omega, show ¬ Reg.PWR_DOM d < Reg.BSQ_CORE_ENTRY 8 by omega]
  simp [pageWrite, hrefused, hpage, pwrWrite, h1, h2, hnum]

section
variable {i : Initiator} {d : Fin 21} {v : Word} {s : State} (h : Reaches (Reg.PWR_DOM d) s)
include h

theorem regCmd_dom {st : FStatus} {u : State} (haccess : pageWrite i.ep (initPl i) (Reg.PWR_DOM d) v s = .done st 0 u) (hu : Calm u) :
    okSettled (regCmd i (Reg.PWR_DOM d) v s) = .next (accessEnd i.ep st u) := by
  obtain ⟨hpage, -⟩ := domReg_page d
  exact okSettled_regCmd h (regionAt_page s (by omega) (by omega) (by rw [hpage]; decide)) (by rw [regAccess_write (by omega) (domReg_some d), haccess]) hu

theorem domReg_low (hpl : initPl i < 2) : ∃ t, okSettled (regCmd i (Reg.PWR_DOM d) v s) = .next t ∧ t.resp = ⟨i.ep, .prot, []⟩ ∧ Idles s t := by
  obtain ⟨-, h1, h2, -⟩ := domReg_page d
  have hrefused : plRefused (initPl i) (Reg.PWR_DOM d) = true := by simp [plRefused, hpl, h1, h2]
  have haccess : pageWrite i.ep (initPl i) (Reg.PWR_DOM d) v s = .done .prot 0 s := by rw [pageWrite, hrefused, if_pos rfl]
  exact ⟨_, regCmd_dom h haccess h.calm, accessEnd_resp .., fun _ _ => accessEnd_reg .., accessEnd_cores .., accessEnd_memory ..⟩

section
variable (hpl : 2 ≤ initPl i)
include hpl

/-- SHUT of a domain at rest: it closes. -/
theorem pwrShut_begins (hkeep : bget v 1 = false) (h0 : domState s d = 0) (hmay : mayShut s d = true) (hshed : domShed s d = false)
    (hempty : ∀ a, a ∈ domAgents d → (s.agent a).lines = []) : ∃ t, exec (.pwrShut i d v) s = .next t ∧ t.resp = ⟨i.ep, .ok, []⟩ ∧
    (domState t d = 1 ∧ t.fld (Reg.PWR_DOM d) 10 9 = 0) ∧ t.bit (Reg.PWR_DOM d) 3 = bget v 3 ∧ SameMemory s t := by
  have hbits : bget (bset v 0 true) 0 = true ∧ bget (bset v 0 true) 1 = false ∧ bget (bset v 0 true) 3 = bget v 3 := by
    refine ⟨bset0 .., ?_, ?_⟩ <;> rw [bset_bit _ _ _ _ (by decide), if_neg (by decide)]
    exact hkeep
  obtain ⟨hb0, hb1, hb3⟩ := hbits
  obtain ⟨hstate, hshed', hbit, hmay'⟩ := domSet_word d (bset v 0 true) s
  have hclose : domainClose d (domSet d (bset v 0 true) s) = domClosing d (domSet d (bset v 0 true) s) :=
    domainClose_begins (hstate.trans h0) (hmay'.trans hmay) (hshed'.trans hshed) hempty
  have hw : pwrDomWrite d (bset v 0 true) s = domClosing d (domSet d (bset v 0 true) s) := (pwrDomWrite_shut (bset0 ..) hb1 d s).trans hclose
  have honly : RegsOnly s (domClosing d (domSet d (bset v 0 true) s)) := (domSet_only ..).trans (domClosing_only ..)
  obtain ⟨h1, hlevel, hkept⟩ := domClosing_closes d (domSet d (bset v 0 true) s)
  refine ⟨_, regCmd_dom h ((pageWrite_dom hpl d _ s).trans (congrArg fine hw)) (h.calm.regsOnly honly), accessEnd_resp .., ⟨?_, ?_⟩, ?_,
    honly.memory.trans (accessEnd_memory ..)⟩
  · exact (accessEnd_fld ..).trans h1
  · exact (accessEnd_fld ..).trans hlevel
  · exact (accessEnd_bit ..).trans (hkept.trans (hbit.trans hb3))

/-- SHUT of one that may not close: it is refused (R652). -/
theorem pwrShut_refused (hkeep : bget v 1 = false) (hnot : domState s d ≠ 0 ∨ mayShut s d = false ∨ domShed s d = true) :
    ∃ t, exec (.pwrShut i d v) s = .next t ∧ t.resp = ⟨i.ep, .ok, []⟩ ∧ domState t d = domState s d ∧ t.fld (Reg.PWR_DOM d) 6 4 = 3 ∧
    t.bit Reg.PWR_STATUS 5 = true ∧ SameMemory s t := by
  have hb1 : bget (bset v 0 true) 1 = false := by rw [bset_bit _ _ _ _ (by decide), if_neg (by decide)]; exact hkeep
  obtain ⟨hstate, hshed', -, hmay'⟩ := domSet_word d (bset v 0 true) s
  have hclose : domainClose d (domSet d (bset v 0 true) s) = domResult d 3 (domSet d (bset v 0 true) s) :=
    domainClose_refused (by rw [hstate, hshed', hmay']; exact hnot)
  have hw : pwrDomWrite d (bset v 0 true) s = domResult d 3 (domSet d (bset v 0 true) s) := (pwrDomWrite_shut (bset0 ..) hb1 d s).trans hclose
  have hset : Calm (domSet d (bset v 0 true) s) := h.calm.regsOnly (domSet_only ..)
  have hdone := domResult_spec d 3 hset.sources
  refine ⟨_, regCmd_dom h ((pageWrite_dom hpl d _ s).trans (congrArg fine hw)) (hdone.calm hset), accessEnd_resp .., ?_, ?_, ?_, ?_⟩
  · exact (accessEnd_fld ..).trans (hdone.state.trans hstate)
  · exact (accessEnd_fld ..).trans (hdone.fld (by decide))
  · exact (accessEnd_bit ..).trans hdone.done
  · exact ((domSet_only ..).memory.trans hdone.events.memory).trans (accessEnd_memory ..)

/-- WAKE of a domain that is shut (R359). -/
theorem domainWake_asked (h0 : bget v 0 = false) (h2 : domState s d = 2) (hnone : SMap.find d.val s.fab.waking = none) :
    ∃ t, exec (.domainWake i d v) s = .next t ∧ Took i [Reg.PWR_DOM d] s t ∧ t.bit (Reg.PWR_DOM d) 3 = bget v 3 ∧
    SMap.find d.val t.fab.waking = some ⟨s.tb.pulses, true⟩ := by
  have hb0 : bget (bset v 1 true) 0 = false := by rw [bset_bit _ _ _ _ (by decide), if_neg (by decide)]; exact h0
  have hb1 : bget (bset v 1 true) 1 = true := by rw [bset_bit _ _ _ _ (by decide), if_pos rfl]
  have hb3 : bget (bset v 1 true) 3 = bget v 3 := by rw [bset_bit _ _ _ _ (by decide), if_neg (by decide)]
  obtain ⟨hstate, -, hbit, -⟩ := domSet_word d (bset v 1 true) s
  have honly := domSet_only d (bset v 1 true) s
  have hfab : (domSet d (bset v 1 true) s).fab = s.fab := by rw [honly]
  have hw : pwrDomWrite d (bset v 1 true) s = wakeAsked d (domSet d (bset v 1 true) s) :=
    (pwrDomWrite_wake hb0 hb1 (hstate.trans h2)).trans (requestWake_new (by rw [hfab]; exact hnone))
  have hset : Calm (domSet d (bset v 1 true) s) := h.calm.regsOnly honly
  refine ⟨_, regCmd_dom h ((pageWrite_dom hpl d _ s).trans (congrArg fine hw)) (hset.wakeAsked d), ⟨accessEnd_resp .., fun a ha => ?_, ?_, ?_⟩, ?_, ?_⟩
  · rw [accessEnd_reg]
    exact reg_setBit_ne (List.ne_of_not_mem_cons ha) ..
  · rw [accessEnd_cores]
    exact honly.cores
  · exact (honly.memory.trans (wakeAsked_memory ..)).trans (accessEnd_memory ..)
  · rw [accessEnd_bit]
    exact hbit.trans hb3
  · exact SMap.find_insert_self ..

end

end

/-- Settles O37: closing, shutting, waking, failing and retaining a domain, and the writes that ask for it. -/
theorem powerDomains : Obligations.PowerDomains := by
  intro i d v s hc
  refine ⟨domainClose_done hc, domainShut_done hc, fun w hw hwake _ => ⟨domainOpen_done hc hw hwake, wakeFail_done hc hw hwake⟩,
    fun h hpl => ⟨domReg_low h hpl, domReg_low h hpl⟩, fun h hpl hkeep => ⟨pwrShut_begins h hpl hkeep, pwrShut_refused h hpl hkeep⟩,
    fun h hpl h0 h2 hnone => domainWake_asked h hpl h0 h2 hnone, retainEntry_done hc⟩

end Sys2Proof.Machine
end


section
/-!
SUPPORT. A core's accesses to its own close memory by physical address: translation, the checks before an access, and the words a load finds (R77, R113,
R139, R235).
-/
set_option linter.constructorNameAsVariable false

namespace Sys2Proof.Machine

/-- The spot of a word that is not translated. -/
def physSpot (va : Word) : Spot := ⟨va, va.toNat, false⟩

theorem ownWord_region {c : Nat} {va : Word} (s : State) (hc : c < 8) (h : ownWord c va) : regionAt s va.toNat = some (.close c) := by
  obtain ⟨hlo, hhi⟩ := h
  have h1 : ¬ va.toNat < 0x4000 := by omega
  have h2 : ¬ (0x10000 ≤ va.toNat ∧ va.toNat < 0x20000) := by omega
  have h3 : 0x40000 ≤ va.toNat ∧ va.toNat < 0x80000 := by omega
  have h4 : va.toNat % 0x8000 < 0x4000 := by omega
  have h5 : (va.toNat - 0x40000) / 0x8000 = c := by omega
  simp only [regionAt, Bool.and_eq_true, decide_eq_true_eq, if_neg h1, if_neg h2, if_pos h3, if_pos h4, h5]

theorem ownWord_low {c : Nat} {va : Word} (hc : c < 8) (h : ownWord c va) : va.toNat < 2 ^ 34 := by
  have := h.2; omega

theorem ownWord_leaves {c : Nat} {va : Word} {s : State} (hc : c < 8) (h : ownWord c va) : leavesCore s c va.toNat = false := by
  simp [leavesCore, ownWord_region s hc h]

theorem translate_phys {c : Nat} {va : Word} {s : State} (a : Access) (hl : 2 ≤ s.pl c) (hlow : va.toNat < 2 ^ 34) :
    translate c a va s = .ok va.toNat false none s := by
  have h0 : (va.toNat / 2 ^ 34 != 0) = false := by rw [Nat.div_eq_of_lt hlow]; rfl
  simp only [translate, hl, decide_true, Bool.true_or, if_true, h0, Bool.false_eq_true, if_false]

/-- Translation of words below 2^34 at a level that uses physical addresses. -/
theorem xlSteps_phys {c : Nat} {s : State} (a : Access) (hl : 2 ≤ s.pl c) (vas : List Word) (hlow : ∀ va, va ∈ vas → va.toNat < 2 ^ 34) :
    ∀ p, vas.foldl (xlStep c a) ⟨p, [], [], false, s⟩ = ⟨p ++ vas.map physSpot, [], [], false, s⟩ := by
  induction vas with
  | nil => intro p; simp
  | cons va t ih =>
    intro p
    have hstep : xlStep c a ⟨p, [], [], false, s⟩ va = ⟨p ++ [physSpot va], [], [], false, s⟩ := by
      simp [xlStep, translate_phys a hl (hlow va (List.mem_cons_self ..)), mergeUpds, physSpot]
    rw [List.foldl_cons, hstep, ih (fun x hx => hlow x (List.mem_cons_of_mem _ hx))]
    simp

theorem xlateAll_phys {c : Nat} {s : State} (a : Access) (hl : 2 ≤ s.pl c) {vas : List Word} (hlow : ∀ va, va ∈ vas → va.toNat < 2 ^ 34)
    (hr : rising vas = vas) : xlateAll c a vas s = ⟨vas.map physSpot, [], [], false, s⟩ := by
  rw [xlateAll, hr, xlSteps_phys a hl vas hlow]; rfl

/-- The spots of an access, found again by their words. -/
theorem spots_found (vas : List Word) : vas.filterMap (fun va => (vas.map physSpot).find? (fun p => p.va == va)) = vas.map physSpot := by
  have hone : ∀ va, va ∈ vas → (vas.map physSpot).find? (fun p => p.va == va) = some (physSpot va) := by
    intro va hva
    have hmem : (physSpot va) ∈ vas.map physSpot := List.mem_map_of_mem hva
    cases hf : (vas.map physSpot).find? (fun p => p.va == va) with
    | none => exact absurd (List.find?_eq_none.mp hf _ hmem) (by simp [physSpot])
    | some p =>
      obtain ⟨x, -, rfl⟩ := List.mem_map.mp (List.mem_of_find?_eq_some hf)
      have hx : x = va := by simpa [physSpot] using List.find?_some hf
      rw [hx]
  rw [List.filterMap_congr hone]
  exact congrFun List.filterMap_eq_map vas

/-- No part of an access to close memory leaves it (R77). -/
theorem spansAt_own {c : Nat} {s : State} (hc : c < 8) {vas : List Word} (hown : ∀ va, va ∈ vas → ownWord c va) :
    spansAt s (vas.map physSpot) = none := by
  have hreg : ∀ va, va ∈ vas → regionAt s (physSpot va).pa = some (.close c) := fun va h => ownWord_region s hc (hown va h)
  match vas, hreg with
  | [], _ => rfl
  | [_], _ => rfl
  | a :: b :: t, hreg =>
    have ha := hreg a (List.mem_cons_self ..)
    simp only [List.map_cons, spansAt, ha, Option.isNone_some, Bool.false_eq_true, if_false]
    rw [List.find?_eq_none]
    intro p hp
    obtain ⟨x, hx, rfl⟩ := List.mem_map.mp (List.map_cons (f := physSpot) ▸ hp)
    simp [hreg x (List.mem_cons_of_mem _ hx)]

/-- The checks before an access to words of the core's own close memory find nothing. -/
theorem memCheck_own {c : Nat} {s : State} (h : ReadyPhys s c) (hc : c < 8) (k : MemKind) {vas : List Word} (hown : ∀ va, va ∈ vas → ownWord c va)
    (hr : rising vas = vas) : memCheck c k vas s = .ok (vas.map physSpot, []) s := by
  have hx := xlateAll_phys k.acc h.level (fun va hva => ownWord_low hc (hown va hva)) hr
  have hw : (vas.find? (watchMatch s c k)) = none := by
    rw [List.find?_eq_none]
    intro va _
    have hb : bget (s.reg (Reg.CS_WATCH_CTL c)) 0 = false := h.noWatch
    simp [watchMatch, hb]
  simp only [memCheck, hx, Bool.false_eq_true, if_false, faultOf, List.find?_nil, h.ready.unpaced, ite_self, hr, hw, spansAt_own hc hown, spots_found]

theorem rising_one (va : Word) : rising [va] = [va] := by simp [rising]

theorem rising_own {c : Nat} {va : Word} (hc : c < 8) (h : ownWord c va) (w : Word) : rising [va, w] = [va, w] := by
  have hne : va ≠ -1 := by
    rintro rfl
    have := h.2
    have e : (-1 : Word).toNat = 2 ^ 40 - 1 := by decide
    omega
  exact if_neg (fun e => hne (List.cons.inj e).1)

theorem anyLeaves_own {c : Nat} {s : State} (hc : c < 8) {vas : List Word} (hown : ∀ va, va ∈ vas → ownWord c va) :
    anyLeaves s c (vas.map physSpot) = false := by
  simp only [anyLeaves, List.any_map, List.any_eq_false]
  intro va hva
  simp [physSpot, ownWord_leaves hc (hown va hva)]

/-- A core with no store open sees the words of memory. -/
theorem openStores_none {c : Nat} {long : Bool} {s : State} (h : Ready s c long) (hc : c < 8) : openStores s c = [] := by
  simp [openStores, (h.calm.retired c hc).1, h.notLeader]

theorem storesOver_none {c : Nat} {long : Bool} {s : State} (h : Ready s c long) (hc : c < 8) (pa : Nat) (w : MWord) : storesOver s c pa w = w := by
  simp [storesOver, openStores_none h hc]

/-- The good words that core c's close memory holds at words of it. -/
def closeWord (s : State) (c : Nat) (va : Word) : Word := (memRead s.close (closeKey c va)).v

theorem holdsWord.value {s : State} {c : Nat} {va w : Word} (h : holdsWord s c va w) : closeWord s c va = w := by
  unfold closeWord; rw [h]

theorem holdsWord.good {s : State} {c : Nat} {va w : Word} (h : holdsWord s c va w) : (memRead s.close (closeKey c va)).mark ≠ .poison := by
  rw [h]; exact fun e => nomatch e

theorem readSpots_own {c : Nat} {s : State} (hc : c < 8) (k : MemKind) {va : Word} (t : List Word) (hown : ownWord c va) :
    readSpots c k ((va :: t).map physSpot) s = .ok ((va :: t).map (fun x => (.ok, memRead s.close (closeKey c x)))) s := by
  have hr : regionAt s ((((va :: t).map physSpot).map (·.pa)).headD 0) = some (.close c) := ownWord_region s hc hown
  simp only [readSpots, hr, if_true]
  exact congrArg (fun l => MRes.ok l s) (List.map_map ..)

theorem loadSpots_own {c : Nat} {s : State} (h : ReadyPhys s c) (hc : c < 8) (k : MemKind) {va : Word} {t : List Word} (hown : ownWord c va)
    (hg : ∀ x, x ∈ va :: t → (memRead s.close (closeKey c x)).mark ≠ .poison) :
    loadSpots c k ((va :: t).map physSpot) s = .ok ((va :: t).map (closeWord s c)) s := by
  have hz : ((va :: t).map physSpot).zip ((va :: t).map (fun x => (FStatus.ok, memRead s.close (closeKey c x)))) =
      (va :: t).map (fun x => (physSpot x, FStatus.ok, memRead s.close (closeKey c x))) := List.zip_map' ..
  simp only [loadSpots, readSpots_own hc k t hown, MRes.bind, hz]
  have h1 : ((va :: t).map (fun x => (physSpot x, FStatus.ok, memRead s.close (closeKey c x)))).find? (fun e => e.2.1 != .ok && e.2.1 != .poison) = none := by
    rw [List.find?_eq_none]
    intro p hp
    obtain ⟨x, -, rfl⟩ := List.mem_map.mp hp
    simp
  have h2 : (((va :: t).map (fun x => (physSpot x, FStatus.ok, memRead s.close (closeKey c x)))).map
      (fun e => (e.1.va, storesOver s c e.1.pa e.2.2))) = (va :: t).map (fun x => (x, memRead s.close (closeKey c x))) := by
    simp only [List.map_map, storesOver_none h.ready hc]
    rfl
  have h3 : ((va :: t).map (fun x => (x, memRead s.close (closeKey c x)))).find? (fun e => decide (e.2.mark = .poison)) = none := by
    rw [List.find?_eq_none]
    intro p hp
    obtain ⟨x, hx, rfl⟩ := List.mem_map.mp hp
    simpa using hg x hx
  rw [h1]
  simp only [h2, h3, List.map_map]
  rfl

theorem noteOutside_alone {c : Nat} {s : State} (h : isLeader s c = false) (ws : List Word) : noteOutside c ws s = s := by simp [noteOutside, h]

/-- A load of words of the core's own close memory finds what is there. -/
theorem loadAll_own {c : Nat} {s : State} (h : ReadyPhys s c) (hc : c < 8) (k : MemKind) {va : Word} {t : List Word}
    (hown : ∀ x, x ∈ va :: t → ownWord c x) (hr : rising (va :: t) = va :: t)
    (hg : ∀ x, x ∈ va :: t → (memRead s.close (closeKey c x)).mark ≠ .poison) :
    loadAll c k (va :: t) s = .ok ([], (va :: t).map (closeWord s c)) s := by
  simp only [loadAll, memCheck_own h hc k hown hr, MRes.bind, leafFirst, anyLeaves_own hc hown, Bool.false_and, Bool.false_eq_true, if_false,
    loadSpots_own h hc k (hown va (List.mem_cons_self ..)) hg, noteOutside_alone h.ready.notLeader]

/-- A load of one word. -/
theorem loadAll_one {c : Nat} {s : State} (h : ReadyPhys s c) (hc : c < 8) (k : MemKind) {va w : Word} (hown : ownWord c va) (hw : holdsWord s c va w) :
    loadAll c k [va] s = .ok ([], [w]) s := by
  rw [loadAll_own h hc k (by simpa using hown) (rising_one va) (by simpa using hw.good)]
  simp [hw.value]

/-- A load of two consecutive words. -/
theorem loadAll_two {c : Nat} {s : State} (h : ReadyPhys s c) (hc : c < 8) (k : MemKind) {va w0 w1 : Word} (h0 : ownWord c va) (h1 : ownWord c (va + 1))
    (hw0 : holdsWord s c va w0) (hw1 : holdsWord s c (va + 1) w1) : loadAll c k [va, va + 1] s = .ok ([], [w0, w1]) s := by
  rw [loadAll_own h hc k (by simpa using ⟨h0, h1⟩) (rising_own hc h0 _) (by simpa using ⟨hw0.good, hw1.good⟩)]
  simp only [List.map_cons, List.map_nil, hw0.value, hw1.value]

end Sys2Proof.Machine
end


section
/-!
SUPPORT. The loads of a core from its own close memory (R57, R139, R140): the registers written, and octets.
-/
set_option linter.constructorNameAsVariable false

namespace Sys2Proof.Machine

/-- A memory instruction whose access sets no leaf and keeps the program address. -/
theorem memInsn_body {cost : Nat} {body : Nat → State → MRes (List LeafUpd)} {c : Nat} {s g : State} (hb : body c s = .ok [] g)
    (hpc : corePc g c = corePc s c) : (memInsn cost body).body c s = .ok (retTo (corePc s c + 2)) g := by
  show (body c s).bind (fun u s => .ok { retTo (nextPc s c true) with upds := u } s) = _
  rw [hb]
  simp only [MRes.bind, nextPc, hpc]
  rfl

/-! ### One register -/

/-- A load that ends with a value for one general register. -/
theorem load_ends {s : State} {i : Instr} {c rd : Nat} {x : Insn} {v : Word} (hi : plainInsnOf i = some (c, x)) (h : Ready s c x.long) (hc : c < 8)
    (hu : x.undef = false) (hp : x.minPl = 0) (hk : x.counter = none) (hb : x.body c s = .ok (retTo ((s.core c).pc + 2)) (s.setGpr c rd v)) :
    ∃ t, ok (runInsn i s) = .next t ∧ GprResult c rd v s t ∧ SameAccs c s t ∧ Retired c ((s.core c).pc + 2) s t ∧ SameRegsBut c [] s t ∧
      SameMemory s t := by
  obtain ⟨t, ht, hres, haccs, hret, hregs, hmem⟩ := gpr_ends hi h hc hu (hp ▸ Nat.zero_le _) hk (RegsOnly.refl _) hb (setGpr_reg ..)
  exact ⟨t, ht, hres, haccs, hret, fun a ha _ => (hregs a ha).trans (setGpr_reg ..), hmem⟩

/-- A load of one word. -/
theorem loadWord_ends {s : State} {i : Instr} {c rt : Nat} {va : Nat → State → Word} {w : Word} (hi : plainInsnOf i = some (c, loadWordTo rt va))
    (h : ReadyPhys s c) (hc : c < 8) (hown : ownWord c (va c s)) (hw : holdsWord s c (va c s) w) :
    ∃ t, ok (runInsn i s) = .next t ∧ GprResult c rt w s t ∧ SameAccs c s t ∧ Retired c ((s.core c).pc + 2) s t ∧ SameRegsBut c [] s t ∧
      SameMemory s t := by
  refine load_ends hi h.ready hc rfl rfl rfl (memInsn_body ?_ (corePc_setGpr ..))
  simp only [loadAll_one h hc mkLoad hown hw, MRes.bind, List.headD_cons]

/-! ### Octets -/

/-- The octet that a pointer names, where octet k of word va is meant. -/
theorem octetOf_eq {p : Word} {off : BitVec 20} {va : Word} {k : Nat}
    (h : (va.toNat * 5 + k : Int) = (p.toNat / 8 * 5 + p.toNat % 8 + off.toInt) % (5 * 2 ^ 37)) : octetOf p off = va.toNat * 5 + k := by
  have hn : ((p.toNat / 8 * 5 + p.toNat % 8 : Nat) : Int) = p.toNat / 8 * 5 + p.toNat % 8 := by push_cast; rfl
  rw [octetOf, hn, ← h]
  omega

theorem octet_word {va : Word} {k : Nat} (hk : k < 5) : BitVec.ofNat 40 ((va.toNat * 5 + k) / 5) = va := by
  rw [show (va.toNat * 5 + k) / 5 = va.toNat by omega]
  exact BitVec.ofNat_toNat .. |>.trans (BitVec.setWidth_eq va)

theorem octet_place (va : Word) {k : Nat} (hk : k < 5) : (va.toNat * 5 + k) % 5 = k := by omega

theorem octetFrom_eq (w : Word) (k : Nat) : octetFrom w k = w.extractLsb' (8 * k) 8 := by
  apply BitVec.eq_of_getLsbD_eq
  intro i hi
  simp [octetFrom, hi]

/-- An octet instruction whose pointer is good. -/
theorem goodPointer_body {c rb : Nat} {body : Nat → State → MRes (List LeafUpd)} {s g : State} (hp : (s.gpr c rb).toNat % 8 < 5)
    (hb : body c s = .ok [] g) (hpc : corePc g c = corePc s c) : (aligned rb body).body c s = .ok (retTo (corePc s c + 2)) g :=
  memInsn_body ((if_neg (Nat.not_le.mpr hp)).trans hb) hpc

/-- A load of one octet. -/
theorem loadOctet_ends {s : State} {i : Instr} {c rt rb : Nat} {off : BitVec 20} {ext : BitVec 8 → Word} {va w : Word} {k : Nat}
    (hi : plainInsnOf i = some (c, loadOctet rt rb off ext)) (h : ReadyPhys s c) (hc : c < 8) (hp : (s.gpr c rb).toNat % 8 < 5) (hk : k < 5)
    (hq : (va.toNat * 5 + k : Int) = ((s.gpr c rb).toNat / 8 * 5 + (s.gpr c rb).toNat % 8 + off.toInt) % (5 * 2 ^ 37)) (hown : ownWord c va)
    (hw : holdsWord s c va w) :
    ∃ t, ok (runInsn i s) = .next t ∧ GprResult c rt (ext (w.extractLsb' (8 * k) 8)) s t ∧ SameAccs c s t ∧ Retired c ((s.core c).pc + 2) s t ∧
      SameRegsBut c [] s t ∧ SameMemory s t := by
  refine load_ends hi h.ready hc rfl rfl rfl (goodPointer_body hp ?_ (corePc_setGpr ..))
  simp only [octetOf_eq hq, octet_word hk, octet_place va hk, loadAll_one h hc mkOctLoad hown hw, MRes.bind, List.headD_cons, octetFrom_eq]

/-! ### Two words -/

/-- LD2: two general registers take the two words. -/
theorem loadPair_ends {s : State} {c : Nat} (h : ReadyPhys s c) (hc : c < 8) {i : Instr} {rt rb : Nat} {off : BitVec 20} {w0 w1 : Word}
    (hi : plainInsnOf i = some (c, insnLd2 rt rb off)) (h0 : ownWord c (s.gpr c rb + off.signExtend 40)) (h1 : ownWord c (s.gpr c rb + off.signExtend 40 + 1))
    (hw0 : holdsWord s c (s.gpr c rb + off.signExtend 40) w0) (hw1 : holdsWord s c (s.gpr c rb + off.signExtend 40 + 1) w1) :
    ∃ t, ok (runInsn i s) = .next t ∧ t.gpr c (2 * rt) = (if rt = 0 then 0 else w0) ∧ t.gpr c (2 * rt + 1) = w1 ∧
      (∀ r, r ≠ 2 * rt → r ≠ 2 * rt + 1 → t.gpr c r = s.gpr c r) ∧ SameAccs c s t ∧ Retired c ((s.core c).pc + 2) s t ∧ SameRegsBut c [] s t ∧
      SameMemory s t := by
  let a := s.setGpr c (2 * rt) w0
  let g := a.setGpr c (2 * rt + 1) w1
  have hb : (insnLd2 rt rb off).body c s = .ok (retTo (corePc s c + 2)) g := by
    refine memInsn_body ?_ ((corePc_setGpr ..).trans (corePc_setGpr ..))
    simp only [eaOf, loadAll_two h hc mkLoad2 h0 h1 hw0 hw1, MRes.bind]
    rfl
  have hg : CoresOnly s g := (coresOnly_setGpr ..).trans (coresOnly_setGpr ..)
  obtain ⟨t, ht, he⟩ := insn_ends hi h.ready hc rfl (Nat.zero_le _) rfl hb
    (h.ready.calm.coresOnly hg (SameWork.trans (setGpr_work s c (2 * rt) w0) (setGpr_work a c (2 * rt + 1) w1))) ((h.ready.unhindered.setGpr ..).setGpr ..) hg.pairs
  have ra : GprResult c (2 * rt) w0 s a := setGpr_result ..
  have rg : GprResult c (2 * rt + 1) w1 a g := setGpr_result ..
  have hgpr : ∀ r, t.gpr c r = g.gpr c r := by intro r; unfold State.gpr; rw [he.core]; rfl
  have hregs : ∀ x, g.reg x = s.reg x := fun x => (setGpr_reg ..).trans (setGpr_reg ..)
  refine ⟨t, ht, ?_, ?_, ?_, ?_, ⟨?_, ?_, ?_⟩, ?_, hg.memory.trans he.memory⟩
  · rw [hgpr, rg.2 _ (by omega), ra.1]
    exact if_congr (by omega) rfl rfl
  · rw [hgpr, rg.1, if_neg (by omega)]
  · intro r hr hr1; rw [hgpr, rg.2 r hr1, ra.2 r hr]
  · intro b
    unfold State.accOf
    rw [he.core, setGpr_core, if_neg (by omega), setGpr_core]
    split <;> rfl
  · rw [he.core]; rfl
  · rw [he.count, hregs]
  · intro d hd; rw [he.others d hd, setGpr_core_ne _ _ _ hd, setGpr_core_ne _ _ _ hd]
  · intro x hx _; rw [he.regs x hx, hregs]

/-- LA: an accumulator takes the two words, the low one at the lower address. -/
theorem loadAcc_ends {s : State} {c : Nat} (h : ReadyPhys s c) (hc : c < 8) {i : Instr} {a rb : Nat} {off : BitVec 20} {w0 w1 : Word}
    (hi : plainInsnOf i = some (c, insnLa a rb off)) (h0 : ownWord c (s.gpr c rb + off.signExtend 40)) (h1 : ownWord c (s.gpr c rb + off.signExtend 40 + 1))
    (hw0 : holdsWord s c (s.gpr c rb + off.signExtend 40) w0) (hw1 : holdsWord s c (s.gpr c rb + off.signExtend 40 + 1) w1) :
    ∃ t, ok (runInsn i s) = .next t ∧ t.accOf c a = w1 ++ w0 ∧ (∀ b, b ≠ a → t.accOf c b = s.accOf c b) ∧ SameGprs c s t ∧
      Retired c ((s.core c).pc + 2) s t ∧ SameRegsBut c [] s t ∧ SameMemory s t := by
  have hb : (insnLa a rb off).body c s = .ok (retTo (corePc s c + 2)) (s.setAcc c a (w1 ++ w0)) := by
    refine memInsn_body ?_ (corePc_setAcc ..)
    simp only [eaOf, loadAll_two h hc mkLoad2 h0 h1 hw0 hw1, MRes.bind]
    rfl
  obtain ⟨t, ht, hself, hother, hgprs, hret, hregs, hmem⟩ := acc_ends hi h.ready hc rfl (Nat.zero_le _) rfl (RegsOnly.refl _) hb rfl
  exact ⟨t, ht, hself, hother, hgprs, hret, fun x hx _ => hregs x hx, hmem⟩

/-- Settles O11: loads from a core's own close memory by physical address. -/
theorem loadResult : Obligations.LoadResult := by
  intro c s h
  refine ⟨fun rt rb off w hown hw => ⟨?_, ?_⟩, fun rt rb rx sc w hown hw => ?_, fun rt rb off va w k hp hk hq hown hw => ⟨?_, ?_⟩,
    fun rb off w0 w1 h0 h1 hw0 hw1 => ⟨fun rt => ?_, fun a => ?_⟩⟩
  · exact loadWord_ends (i := .lw c rt rb off) rfl h c.isLt hown hw
  · exact loadWord_ends (i := .lwAq c rt rb off) rfl h c.isLt hown hw
  · exact loadWord_ends (i := .lwx c rt rb rx sc) rfl h c.isLt hown hw
  · exact loadOctet_ends (i := .lbu c rt rb off) rfl h c.isLt hp hk hq hown hw
  · exact loadOctet_ends (i := .lbs c rt rb off) rfl h c.isLt hp hk hq hown hw
  · obtain ⟨t, ht, hlo, hhi, hrest⟩ := loadPair_ends h c.isLt (i := .ld2 c rt rb off) rfl h0 h1 hw0 hw1
    exact ⟨t, ht, hlo.trans (if_congr Fin.val_eq_zero_iff rfl rfl), hhi, hrest⟩
  · exact loadAcc_ends h c.isLt (i := .la c a rb off) rfl h0 h1 hw0 hw1

end Sys2Proof.Machine
end


section
/-!
SUPPORT. Cache and TLB operations of a core (R252, R288): what they leave beside the retirement is the core's caches of lines and of translations.
-/
set_option linter.constructorNameAsVariable false

namespace Sys2Proof.Machine

/-! ### Changes of what a core caches -/

/-- From s to t core c keeps what it holds and where it stands, and of the registers only its counters move. -/
structure Maintained (c : Nat) (s t : State) : Prop where
  kept : CoreKept c s t
  regs : SameUncounted c s t
  count : t.reg (Reg.CS_RET_COUNT c) = s.reg (Reg.CS_RET_COUNT c)
  pc : (t.core c).pc = (s.core c).pc

theorem Maintained.refl (c : Nat) (s : State) : Maintained c s s := ⟨(RegsOnly.refl s).coreKept c, fun _ _ => rfl, rfl, rfl⟩

theorem Maintained.trans {c : Nat} {s t u : State} (h : Maintained c s t) (g : Maintained c t u) : Maintained c s u :=
  ⟨h.kept.trans g.kept, fun a ha => (g.regs a ha).trans (h.regs a ha), g.count.trans h.count, g.pc.trans h.pc⟩

theorem maintained_updCore {c : Nat} {s : State} {f : Core → Core} (h : SameHeld (s.core c) (f (s.core c))) (hpc : (f (s.core c)).pc = (s.core c).pc) :
    Maintained c s (s.updCore c f) :=
  ⟨coreKept_updCore h, fun _ _ => rfl, rfl, by rw [core_updCore_self]; exact hpc⟩

theorem maintained_pmcEvent (c ev n : Nat) (s : State) : Maintained c s (pmcEvent c ev n s) :=
  ⟨(pmcEvent_only ..).coreKept c, fun a ha => pmcEvent_reg_of_not_count c ev n s a ha, pmcEvent_reg c ev n s _ (fun k hk => retCount_not_pmc c k hk),
    by rw [(pmcEvent_only ..).get_core]⟩

/-- The command of an instruction that maintains the core's caches. -/
theorem maintained_ends {s u : State} {i : Instr} {c : Nat} {x : Insn} {n : Word} (hi : plainInsnOf i = some (c, x)) (h : Ready s c x.long) (hc : c < 8)
    (hu : x.undef = false) (hp : x.minPl ≤ s.pl c) (hk : x.counter = none) (hb : x.body c s = .ok (retTo n) u) (hm : Maintained c s u) :
    ∃ t, ok (runInsn i s) = .next t ∧ (SameGprs c s t ∧ SameAccs c s t ∧ Retired c n s t ∧ SameRegsBut c [] s t ∧ SameMemory s t) ∧
      t.core c = coreAfter n (u.core c) := by
  obtain ⟨t, ht, he⟩ := insn_ends hi h hc hu hp hk hb (h.calm.coresOnly hm.kept.only hm.kept.sameWork) (hm.kept.unhindered h.unhindered) hm.kept.only.pairs
  refine ⟨t, ht, ⟨fun r => ?_, fun a => ?_, ⟨?_, ?_, ?_⟩, ?_, hm.kept.only.memory.trans he.memory⟩, he.core⟩
  · rw [← hm.kept.gprs r, State.gpr, he.core]; rfl
  · rw [← hm.kept.accs a, State.accOf, he.core]; rfl
  · rw [he.core]; rfl
  · rw [he.count, hm.count]
  · intro d hd; rw [he.others d hd, hm.kept.others d hd]
  · intro a ha _; rw [he.regs a ha, hm.regs a ha]

/-! ### Cache operations (R288) -/

/-- An operation on a line whose word is not translated. -/
theorem lineInsn_body {r op minPl c : Nat} {a : Access} {act : Nat → Spot → State → MRes Unit} {s u : State} (h : Ready s c true) (hl : 2 ≤ s.pl c)
    (hlow : (s.gpr c r).toNat < 2 ^ 34) (ha : act c (physSpot (s.gpr c r)) s = .ok () u) (hpc : (u.core c).pc = (s.core c).pc) :
    (lineInsn r op minPl a act).body c s = .ok (retTo ((s.core c).pc + 2)) u := by
  have hs : stray c (s.gpr c r).toNat s = s := by simp [stray, h.unpaced]
  simp only [lineInsn, mkInsn, translate_phys a hl hlow, hs]
  rw [show (⟨s.gpr c r, (s.gpr c r).toNat, false⟩ : Spot) = physSpot (s.gpr c r) from rfl, ha]
  simp only [MRes.bind, nextPc, corePc, hpc]
  rfl

/-- A data-cache operation on the core's own close memory, which no cache holds. -/
theorem cacheOp_own {c : Nat} {va : Word} (code : Nat) (s : State) (hc : c < 8) (h : ownWord c va) : cacheOp c code (physSpot va) s = .ok () s := by
  have hr : regionAt s (physSpot va).pa = some (.close c) := ownWord_region s hc h
  rw [cacheOp, hr]
  rfl

theorem l1iDrop_maintained (c l : Nat) (s : State) : Maintained c s (l1iDrop c l s) := maintained_updCore ⟨rfl, rfl, rfl, rfl, rfl, rfl, rfl⟩ rfl

theorem l1iDrop_core (c l : Nat) (s : State) : (l1iDrop c l s).core c =
    { s.core c with l1i := SMap.erase l (s.core c).l1i, l1iUse := (s.core c).l1iUse.filter (fun x => x != l) } := core_updCore_self ..

/-! ### TLB operations (R252) -/

theorem dropTents_core (c : Nat) (s : State) : (dropTents c s).core c = { s.core c with ttlb := [] } := by
  unfold dropTents
  split
  · next h =>
    have e : (s.core c).ttlb = [] := List.isEmpty_iff.mp h
    generalize s.core c = k at e ⊢
    cases k; cases e; rfl
  · rw [core_updCore_self, (pmcEvent_only ..).get_core]

theorem dropTents_maintained (c : Nat) (s : State) : Maintained c s (dropTents c s) := by
  unfold dropTents
  split
  · exact .refl c s
  · exact (maintained_pmcEvent ..).trans (maintained_updCore ⟨rfl, rfl, rfl, rfl, rfl, rfl, rfl⟩ rfl)

/-- A TLB operation: the tentative entries go, those of p go, and what `f` drops of the caches of walks. -/
def tlbOp (c : Nat) (p : TlbEnt → Bool) (f : Core → Core) (s : State) : State := (tlbDrop c p (dropTents c s)).updCore c f

/-- `f` changes only the caches of walks. -/
def WalksOnly (f : Core → Core) : Prop := ∀ k, f k = { k with wcache := (f k).wcache, s2tlb := (f k).s2tlb }

theorem WalksOnly.held {f : Core → Core} (h : WalksOnly f) (k : Core) : SameHeld k (f k) ∧ (f k).pc = k.pc := by
  rw [h]; exact ⟨⟨rfl, rfl, rfl, rfl, rfl, rfl, rfl⟩, rfl⟩

theorem tlbOp_maintained {c : Nat} {p : TlbEnt → Bool} {f : Core → Core} (s : State) (h : WalksOnly f) : Maintained c s (tlbOp c p f s) :=
  ((dropTents_maintained c s).trans (maintained_updCore ⟨rfl, rfl, rfl, rfl, rfl, rfl, rfl⟩ rfl)).trans (maintained_updCore (h.held _).1 (h.held _).2)

/-- What a TLB operation on the entries of p leaves of a core before it comes to the caches of walks. -/
def tlbsLeft (p : TlbEnt → Bool) (k : Core) : Core :=
  { k with ttlb := [], itlb := k.itlb.filter (fun t => !p t), dtlb := k.dtlb.filter (fun t => !p t), l2tlb := k.l2tlb.filter (fun t => !p t) }

theorem tlbOp_core (c : Nat) (p : TlbEnt → Bool) (f : Core → Core) (s : State) : (tlbOp c p f s).core c = f (tlbsLeft p (s.core c)) := by
  rw [tlbOp, core_updCore_self, tlbDrop, core_updCore_self, dropTents_core]; rfl

theorem tlbInsn_body {r op minPl c : Nat} {act : Nat → State → State} {s : State} (h : Maintained c s (act c s)) :
    (tlbInsn r op minPl act).body c s = .ok (retTo ((s.core c).pc + 2)) (act c s) := by
  show MRes.ok (retTo (corePc (act c s) c + 2)) (act c s) = _
  rw [corePc, h.pc]

/-- The command of a TLB operation. -/
theorem tlbOp_ends {s : State} {i : Instr} {c r op minPl : Nat} {act : Nat → State → State} {p : TlbEnt → Bool} {f : Core → Core}
    (hi : plainInsnOf i = some (c, tlbInsn r op minPl act)) (ha : act c s = tlbOp c p f s) (hf : WalksOnly f) (h : Ready s c true) (hc : c < 8)
    (hp : minPl ≤ s.pl c) :
    ∃ t, ok (runInsn i s) = .next t ∧
      (SameGprs c s t ∧ SameAccs c s t ∧ Retired c ((s.core c).pc + 2) s t ∧ SameRegsBut c [] s t ∧ SameMemory s t) ∧ TlbsWithout c p s t ∧
      (t.core c).wcache = (f (tlbsLeft p (s.core c))).wcache ∧ (t.core c).s2tlb = (f (tlbsLeft p (s.core c))).s2tlb := by
  have hm : Maintained c s (act c s) := ha ▸ tlbOp_maintained s hf
  obtain ⟨t, ht, hends, hcore⟩ := maintained_ends hi h hc rfl hp rfl (tlbInsn_body hm) hm
  rw [ha, tlbOp_core] at hcore
  refine ⟨t, ht, hends, ⟨?_, ?_, ?_, ?_⟩, ?_, ?_⟩ <;> rw [hcore]
  case refine_5 => rfl
  case refine_6 => rfl
  all_goals rw [hf]; rfl

/-- Settles O17: cache and TLB operations of a core. -/
theorem cacheAndTlbOps : Obligations.CacheAndTlbOps := by
  intro c r s h
  have pl1 : 1 ≤ s.pl c := Nat.le_of_succ_le h.level
  have clean : ∀ {i : Instr} {op minPl : Nat} {a : Access} {code : Nat},
      plainInsnOf i = some (c.val, lineInsn r op minPl a (fun c p s => cacheOp c code p s)) → minPl ≤ s.pl c → ownWord c (s.gpr c r) →
      ∃ t, ok (runInsn i s) = .next t ∧ SameGprs c s t ∧ SameAccs c s t ∧ Retired c ((s.core c).pc + 2) s t ∧ SameRegsBut c [] s t ∧ SameMemory s t := by
    intro i op minPl a code hi hp hown
    obtain ⟨t, ht, hends, -⟩ := maintained_ends hi h.ready c.isLt rfl hp rfl
      (lineInsn_body h.ready h.level (ownWord_low c.isLt hown) (cacheOp_own code s c.isLt hown) rfl) (.refl ..)
    exact ⟨t, ht, hends⟩
  refine ⟨fun hown => ⟨clean (i := .dcClean c r) rfl (Nat.zero_le _) hown, clean (i := .dcClinv c r) rfl (Nat.zero_le _) hown,
    clean (i := .dcInv c r) rfl pl1 hown⟩, fun hlow => ?_, ?_, fun imm => ?_, ?_, ?_⟩
  · have hm := l1iDrop_maintained c ((s.gpr c r).toNat / 16) s
    obtain ⟨t, ht, hends, hcore⟩ := maintained_ends (i := .icInv c r) rfl h.ready c.isLt rfl (Nat.zero_le _) rfl
      (lineInsn_body h.ready h.level hlow rfl hm.pc) hm
    have hl1 : (t.core c).l1i = SMap.erase ((s.gpr c r).toNat / 16) (s.core c).l1i := by rw [hcore, l1iDrop_core]; rfl
    exact ⟨t, ht, hends, by rw [hl1, SMap.find_erase_self], fun l hl => by rw [hl1, SMap.find_erase_ne hl]⟩
  · obtain ⟨t, ht, hends, htlbs, hw, -⟩ := tlbOp_ends (i := .tlbInvVa c r) (f := fun k => { k with wcache := k.wcache.filter (fun t => t.part != s.fld (Reg.CS_PART c) 3 0) })
      rfl rfl (fun _ => rfl) h.ready c.isLt pl1
    exact ⟨t, ht, hends, htlbs, hw⟩
  · obtain ⟨t, ht, hends, htlbs, hw, -⟩ := tlbOp_ends (i := .tlbInvAsid c imm)
      (f := fun k => { k with wcache := k.wcache.filter (fun t => !(t.part == s.fld (Reg.CS_PART c) 3 0 && t.asid == imm.toNat)) })
      rfl rfl (fun _ => rfl) h.ready c.isLt pl1
    exact ⟨t, ht, hends, htlbs, hw⟩
  · obtain ⟨t, ht, hends, htlbs, hw, -⟩ := tlbOp_ends (i := .tlbInvAll c) (f := fun k => { k with wcache := k.wcache.filter (fun t => t.part != s.fld (Reg.CS_PART c) 3 0) })
      rfl rfl (fun _ => rfl) h.ready c.isLt pl1
    exact ⟨t, ht, hends, htlbs, hw⟩
  · obtain ⟨t, ht, hends, htlbs, hw, hs2⟩ := tlbOp_ends (i := .tlbInvPart c r)
      (f := fun k => { k with wcache := k.wcache.filter (fun t => t.part != (s.gpr c r).toNat % 16), s2tlb := k.s2tlb.filter (fun t => t.part != (s.gpr c r).toNat % 16) })
      rfl rfl (fun _ => rfl) h.ready c.isLt h.level
    exact ⟨t, ht, hends, htlbs, hw, hs2⟩

end Sys2Proof.Machine
end


section
/-!
SUPPORT. Writes of a core to its own close memory: the words, the reservations of other cores on their lines (R111), and what the device keeps.
-/
set_option linter.constructorNameAsVariable false

namespace Sys2Proof.Machine

/-! ### Close memory, cores and registers -/

/-- A change of close memory, of cores and of registers. -/
def CloseOnly (s t : State) : Prop := t = { s with close := t.close, cores := t.cores, regs := t.regs }

theorem CloseOnly.refl (s : State) : CloseOnly s s := rfl

theorem CloseOnly.trans {s t u : State} (h : CloseOnly s t) (g : CloseOnly t u) : CloseOnly s u := by
  unfold CloseOnly at *; rw [g, h]

theorem CoresOnly.closeOnly {s t : State} (h : CoresOnly s t) : CloseOnly s t := by
  unfold CloseOnly CoresOnly at *; rw [h]

theorem closeOnly_close (s : State) (m : Memory) : CloseOnly s { s with close := m } := rfl

section
variable {s t : State} (h : CloseOnly s t)
include h

theorem CloseOnly.pairs : t.pairs = s.pairs := by rw [h]
theorem CloseOnly.pwr : t.pwr = s.pwr := by rw [h]
theorem CloseOnly.stage : t.stage = s.stage := by rw [h]
theorem CloseOnly.keep : t.keep = s.keep := by rw [h]
theorem CloseOnly.dmcs : t.dmcs = s.dmcs := by rw [h]
theorem CloseOnly.agents : t.agents = s.agents := by rw [h]
theorem CloseOnly.slices : t.slices = s.slices := by rw [h]

theorem CloseOnly.calm (hs : Calm s) (hw : SameWork s t) : Calm t := by
  refine hs.of_same ?_ ?_ ?_ ?_ hw ?_ ?_ <;> rw [h]

end

/-! ### What a write to close memory changes -/

/-- From s to t close memory changes, core c keeps what it holds and where it stands, and another core may lose its reservation. -/
structure CloseSide (c : Nat) (s t : State) : Prop where
  only : CloseOnly s t
  regs : t.regs = s.regs
  held : SameHeld (s.core c) (t.core c)
  pc : (t.core c).pc = (s.core c).pc
  others : ∀ d, d ≠ c → ∃ r, t.core d = { s.core d with resv := r }

theorem CloseSide.refl (c : Nat) (s : State) : CloseSide c s s := ⟨.refl s, rfl, .refl _, rfl, fun _ _ => ⟨_, rfl⟩⟩

theorem CloseSide.trans {c : Nat} {s t u : State} (h : CloseSide c s t) (g : CloseSide c t u) : CloseSide c s u := by
  refine ⟨h.only.trans g.only, g.regs.trans h.regs, h.held.trans g.held, g.pc.trans h.pc, fun d hd => ?_⟩
  obtain ⟨r, hr⟩ := h.others d hd
  obtain ⟨q, hq⟩ := g.others d hd
  exact ⟨q, by rw [hq, hr]⟩

theorem closeSide_close (c : Nat) (s : State) (m : Memory) : CloseSide c s { s with close := m } := ⟨rfl, rfl, .refl _, rfl, fun _ _ => ⟨_, rfl⟩⟩

theorem closeSide_updCore {c : Nat} {s : State} {f : Core → Core} (h : SameHeld (s.core c) (f (s.core c))) (hpc : (f (s.core c)).pc = (s.core c).pc) :
    CloseSide c s (s.updCore c f) :=
  ⟨rfl, rfl, by rw [core_updCore_self]; exact h, by rw [core_updCore_self]; exact hpc, fun d hd => ⟨_, core_updCore_ne hd s f⟩⟩

theorem closeSide_foldl {α : Type} {c : Nat} {f : State → α → State} (hf : ∀ s x, CloseSide c s (f s x)) (l : List α) : ∀ s, CloseSide c s (l.foldl f s) := by
  induction l with
  | nil => exact .refl c
  | cons x l ih => exact fun s => (hf s x).trans (ih _)

/-- A core's own write ends the reservations of others only. -/
theorem clearResv_side (c l : Nat) (s : State) : CloseSide c s (clearResv c l s) := by
  refine closeSide_foldl (fun s d => ?_) _ s
  split
  · next h =>
    have hd : d ≠ c := by
      simp only [ne_eq, Bool.and_eq_true, decide_eq_true_eq] at h
      exact h.1
    refine ⟨rfl, rfl, by rw [core_updCore_ne (Ne.symm hd)]; exact .refl _, by rw [core_updCore_ne (Ne.symm hd)], fun e he => ?_⟩
    by_cases hed : e = d
    · subst hed; exact ⟨none, core_updCore_self ..⟩
    · exact ⟨_, core_updCore_ne hed ..⟩
  · exact .refl c s

theorem clearResv_close (c l : Nat) (s : State) : (clearResv c l s).close = s.close :=
  foldl_same_mem State.close _ _ (fun s d _ => by split <;> rfl) s

theorem putClose_side (c pa mask : Nat) (vs : List Word) (s : State) : CloseSide c s (putClose c pa mask vs s) :=
  closeSide_foldl (fun s _ => (closeSide_close c s _).trans (clearResv_side ..)) _ s

theorem putClose_one (c pa mask : Nat) (v : Word) (s : State) : (putClose c pa mask [v] s).close =
    memWrite (c * 0x4000 + pa % 0x4000) (mergeMWord mask (memRead s.close (c * 0x4000 + pa % 0x4000)) ⟨v, .good⟩) s.close :=
  clearResv_close ..

theorem mergeMWord_whole (old new : MWord) : mergeMWord 31 old new = new := by simp [mergeMWord]

section
variable {c : Nat} {s t : State} (h : CloseSide c s t)
include h

theorem CloseSide.work : SameWork s t := fun d => by
  by_cases e : d = c
  · subst e; exact h.held.work
  · obtain ⟨r, hr⟩ := h.others d e; rw [hr]; exact ⟨rfl, rfl⟩

theorem CloseSide.calm (hs : Calm s) : Calm t := h.only.calm hs h.work

theorem CloseSide.unhindered (u : Unhindered s c) : Unhindered t c :=
  ⟨h.held.halt.trans u.halt, h.held.step.trans u.step, h.held.parked.trans u.parked, by rw [h.only.pwr]; exact u.park⟩

end

/-- What a command leaves when it has put words into close memory (in `u`) and its core has retired. -/
theorem closePut_of {c : Nat} {puts : List (Nat × Word)} {s u t : State} (h : CloseOnly s u) (hmem : SameMemory u t)
    (hput : ∀ kv, kv ∈ puts → (memRead u.close kv.1).v = kv.2) (hrest : ∀ k, (∀ kv, kv ∈ puts → kv.1 ≠ k) → memRead u.close k = memRead s.close k)
    (hothers : ∀ d, d ≠ c → ∃ r, t.core d = { s.core d with resv := r }) : ClosePut c puts s t := by
  refine ⟨by rw [hmem.close]; exact hput, by rw [hmem.close]; exact hrest, hmem.stage.trans h.stage, hmem.keep.trans h.keep, hmem.dmcs.trans h.dmcs,
    hmem.agents.trans h.agents, hmem.slices.trans h.slices, fun d hd => ?_⟩
  obtain ⟨r, hr⟩ := hothers d hd
  exact ⟨fun x => by rw [State.gpr, hr]; rfl, fun a => by rw [State.accOf, hr]; rfl, by rw [hr]⟩

/-- One word put. -/
theorem closePut_one {c k : Nat} {v : Word} {m : Mark} {s u t : State} (h : CloseOnly s u) (hmem : SameMemory u t)
    (hm : u.close = memWrite k ⟨v, m⟩ s.close) (hothers : ∀ d, d ≠ c → ∃ r, t.core d = { s.core d with resv := r }) : ClosePut c [(k, v)] s t := by
  refine closePut_of h hmem (fun kv hkv => ?_) (fun j hj => ?_) hothers
  · rw [List.mem_singleton.mp hkv, hm, memRead_memWrite_self]
  · rw [hm, memRead_memWrite_ne (Ne.symm (hj _ (List.mem_singleton_self _)))]

end Sys2Proof.Machine
end


section
/-!
SUPPORT. Atomics, LL and SC on a core's own close memory (R110, R111, R141), and O14.
-/
set_option linter.constructorNameAsVariable false

namespace Sys2Proof.Machine

/-! ### The command -/

/-- The command of an atomic that has put `w` into rd and moved close memory. -/
theorem atomic_ends {s u : State} {i : Instr} {c rd : Nat} {x : Insn} {w : Word} (hi : plainInsnOf i = some (c, x)) (h : Ready s c x.long) (hc : c < 8)
    (hu : x.undef = false) (hp : x.minPl = 0) (hk : x.counter = none) (hside : CloseSide c s u)
    (hb : x.body c s = .ok (retTo ((s.core c).pc + 2)) (pmcEvent c 0x17 1 (u.setGpr c rd w))) :
    ∃ t, ok (runInsn i s) = .next t ∧ GprResult c rd w s t ∧ SameMemory u t ∧ (t.core c).resv = (u.core c).resv ∧
      (∀ d, d ≠ c → ∃ r, t.core d = { s.core d with resv := r }) ∧ SameAccs c s t ∧ (t.core c).pc = (s.core c).pc + 2 ∧ SameRegsBut c [] s t := by
  have hr : RegsOnly (u.setGpr c rd w) (pmcEvent c 0x17 1 (u.setGpr c rd w)) := pmcEvent_only ..
  have hcores : CoresOnly u (pmcEvent c 0x17 1 (u.setGpr c rd w)) := (coresOnly_setGpr ..).trans hr.coresOnly
  obtain ⟨t, ht, he⟩ := insn_ends hi h hc hu (hp ▸ Nat.zero_le _) hk hb
    ((hside.calm h.calm).coresOnly hcores (.trans (setGpr_work u c rd w) (.of_cores hr.cores))) (((hside.unhindered h.unhindered).setGpr rd w).regsOnly hr)
    (hcores.pairs.trans hside.only.pairs)
  have hresult := setGpr_result u c rd w
  have hugpr : ∀ r, u.gpr c r = s.gpr c r := fun r => by simp only [State.gpr, hside.held.w]
  have hgpr : ∀ r, t.gpr c r = (u.setGpr c rd w).gpr c r := fun r => by rw [State.gpr, he.core, hr.get_core]; rfl
  have hcore : (u.setGpr c rd w).core c = { u.core c with w := ((u.setGpr c rd w).core c).w } := by rw [setGpr_core]; split <;> rfl
  have hreg : ∀ a, ¬ countsOf c a → t.reg a = s.reg a := fun a ha => by
    rw [he.regs a ha, pmcEvent_reg_of_not_count _ _ _ _ _ ha, setGpr_reg, State.reg, hside.regs]; rfl
  have hmem : SameMemory u t := hcores.memory.trans he.memory
  refine ⟨t, ht, ⟨(hgpr rd).trans hresult.1, fun r hrd => ?_⟩, hmem, ?_, fun d hd => ?_, fun a => ?_, ?_, fun a ha _ => hreg a ha⟩
  · rw [hgpr, hresult.2 r hrd, hugpr]
  · rw [he.core, hr.get_core, hcore]; rfl
  · rw [he.others d hd, hr.get_core, setGpr_core_ne _ _ _ hd]; exact hside.others d hd
  · rw [State.accOf, he.core, hr.get_core, hcore]
    show SMap.getD 0 a (u.core c).acc = _
    rw [hside.held.acc]; rfl
  · rw [he.core]; rfl

/-! ### The body of an atomic -/

/-- An atomic on a word of the core's own close memory waits for nothing, and its event is counted. -/
theorem atomicInsn_body {c rb : Nat} {s t u : State} {k : MemKind} {ops : List Nat} {rl : Bool} {act : Nat → Spot → State → MRes State} (h : ReadyPhys s c)
    (hc : c < 8) (hown : ownWord c (s.gpr c rb)) (ha : act c (physSpot (s.gpr c rb)) s = .ok t u) (hpc : (t.core c).pc = (s.core c).pc) :
    (atomicInsn k rb ops rl act).body c s = .ok (retTo ((s.core c).pc + 2)) (pmcEvent c 0x17 1 t) := by
  have hlead := h.ready.notLeader
  have hown' : ∀ va, va ∈ [s.gpr c rb] → ownWord c va := by simpa using hown
  have hg : groupsDone s c = true := by simp [groupsDone, hlead]
  have hm : ∀ ws, atomMatched s c ws = true := fun ws => by simp [atomMatched, hlead]
  have hany : anyLeaves s c [physSpot (s.gpr c rb)] = false := anyLeaves_own hc hown'
  refine memInsn_body ?_ (by rw [corePc, corePc, (pmcEvent_only ..).get_core, hpc])
  simp only [hg, hm, released, h.ready.storesDone hc h.noOut, Bool.not_true, Bool.false_eq_true, if_false, Bool.and_false, memCheck_own h hc k hown' (rising_one _),
    MRes.bind, leafFirst, List.map_cons, List.map_nil, hany, Bool.false_and, ha]

/-- The old word goes to rd of a core that is no leader. -/
theorem oldTo_alone {c rd : Nat} {w : Word} {t : State} {x : MRes Word} (hx : x = .ok w t) (hl : isLeader t c = false) : oldTo c rd x = .ok (t.setGpr c rd w) t := by
  rw [hx, oldTo, MRes.bind, noteOutside_alone hl]

theorem CloseSide.notLeader {c : Nat} {long : Bool} {s t : State} (h : CloseSide c s t) (hr : Ready s c long) : isLeader t c = false := by
  have : t.pair (c / 2) = s.pair (c / 2) := by simp only [State.pair, h.only.pairs]
  simp [isLeader, this, hr.alone]

/-! ### CAS, FADD and SWAP -/

/-- The state after a read-modify-write of a word of close memory. -/
def swapped (c : Nat) (va v : Word) (s : State) : State := clearResv c (va.toNat / 16) { s with close := memWrite (closeKey c va) ⟨v, .good⟩ s.close }

theorem swapped_side (c : Nat) (va v : Word) (s : State) : CloseSide c s (swapped c va v s) := (closeSide_close c s _).trans (clearResv_side ..)

theorem swapped_close (c : Nat) (va v : Word) (s : State) : (swapped c va v s).close = memWrite (closeKey c va) ⟨v, .good⟩ s.close := clearResv_close ..

theorem atomSpot_own {c : Nat} {va w : Word} {s : State} (hc : c < 8) (hown : ownWord c va) (hw : holdsWord s c va w) (op : AtOp) (a b : Word) :
    atomSpot c (physSpot va) op a b s = .ok w (swapped c va (atomResult op w a b) s) := by
  have hr : regionAt s (physSpot va).pa = some (.close c) := ownWord_region s hc hown
  have hm : memRead s.close (c * 0x4000 + (physSpot va).pa % 0x4000) = ⟨w, .good⟩ := hw
  have hraw : atomRaw c (physSpot va) op a b s = .ok (.ok, ⟨w, .good⟩) (swapped c va (atomResult op w a b) s) := by
    simp only [atomRaw, hr, if_true, hm]
    rfl
  rw [atomSpot, hraw]
  rfl

/-- CAS, FADD and SWAP: rd takes the old word, and the word its new value. -/
theorem readModifyWrite_ends {s : State} {c : Nat} (h : ReadyPhys s c) (hc : c < 8) {i : Instr} {k : MemKind} {rd rb : Nat} {ops : List Nat} {rl : Bool}
    {op : AtOp} {a b : Nat → State → Word} {w : Word}
    (hi : plainInsnOf i = some (c, atomicInsn k rb ops rl (fun c p s => oldTo c rd (atomSpot c p op (a c s) (b c s) s))))
    (hown : ownWord c (s.gpr c rb)) (hw : holdsWord s c (s.gpr c rb) w) :
    ∃ t, ok (runInsn i s) = .next t ∧ GprResult c rd w s t ∧ ClosePut c [(closeKey c (s.gpr c rb), atomResult op w (a c s) (b c s))] s t ∧
      SameAccs c s t ∧ (t.core c).pc = (s.core c).pc + 2 ∧ SameRegsBut c [] s t := by
  have hside := swapped_side c (s.gpr c rb) (atomResult op w (a c s) (b c s)) s
  have hact := oldTo_alone (rd := rd) (atomSpot_own hc hown hw op (a c s) (b c s)) (hside.notLeader h.ready)
  obtain ⟨t, ht, hres, hmem, -, hothers, hends⟩ := atomic_ends hi h.ready hc rfl rfl rfl hside
    (atomicInsn_body h hc hown hact ((corePc_setGpr ..).trans hside.pc))
  exact ⟨t, ht, hres, closePut_one hside.only hmem (swapped_close ..) hothers, hends⟩

/-! ### LL and SC -/

theorem setResv_side (c : Nat) (l : Option Nat) (s : State) : CloseSide c s (setResv c l s) := closeSide_updCore ⟨rfl, rfl, rfl, rfl, rfl, rfl, rfl⟩ rfl

theorem setResv_resv (c : Nat) (l : Option Nat) (s : State) : ((setResv c l s).core c).resv = l := by rw [setResv, core_updCore_self]

theorem loadSpot_own {c : Nat} {va w : Word} {s : State} (h : ReadyPhys s c) (hc : c < 8) (k : MemKind) (hown : ownWord c va) (hw : holdsWord s c va w) :
    loadSpot c k (physSpot va) s = .ok w s := by
  have := loadSpots_own h hc k (t := []) hown (by simpa using hw.good)
  rw [loadSpot, show [physSpot va] = [va].map physSpot from rfl, this]
  simp [MRes.bind, hw.value]

theorem ioFind_none {s : State} {c : Nat} (h : (s.core c).io = []) (u : IoUse) (pa : Nat) : ioFind s c u pa = none := by rw [ioFind, h]; rfl

/-- An SC without a reservation of its line. -/
theorem condStore_unreserved {c : Nat} {va : Word} {s : State} (h : ReadyPhys s c) (hres : (s.core c).resv ≠ some (va.toNat / 16)) (v : Word) :
    condStore c (physSpot va) v s = .ok 1 (setResv c none s) := by
  have hr : (s.core c).resv ≠ some ((physSpot va).pa / 16) := hres
  rw [condStore, ioFind_none h.noIo, if_pos (by simp [hr])]

/-- The state after an SC under a reservation of its line. -/
def storedUnder (c : Nat) (va v : Word) (s : State) : State := setResv c none (ioPut c ⟨.store, va.toNat, some (.ok, [])⟩ (putClose c va.toNat 31 [v] s))

theorem condStore_reserved {c : Nat} {va : Word} {s : State} (h : ReadyPhys s c) (hc : c < 8) (hown : ownWord c va)
    (hres : (s.core c).resv = some (va.toNat / 16)) (v : Word) : condStore c (physSpot va) v s = .ok 0 (storedUnder c va v s) := by
  have hr : (s.core c).resv = some ((physSpot va).pa / 16) := hres
  have hreg : regionAt s va.toNat = some (.close c) := ownWord_region s hc hown
  have hwrite : writeEnt c .atomic ⟨0, va, va.toNat, 31, [v], false⟩ s = .ok ⟨some .ok, none⟩ (putClose c va.toNat 31 [v] s) := by
    simp only [writeEnt, hreg, if_true]
  rw [condStore, if_neg (by simp [hr])]
  simp only [physSpot, preciseEnt, ioFind_none h.noIo, hwrite, MRes.bind, if_true, Option.map_some]
  rfl

theorem storedUnder_side (c : Nat) (va v : Word) (s : State) : CloseSide c s (storedUnder c va v s) :=
  ((putClose_side ..).trans (closeSide_updCore ⟨rfl, rfl, rfl, rfl, rfl, rfl, rfl⟩ rfl)).trans (setResv_side ..)

theorem storedUnder_close (c : Nat) (va v : Word) (s : State) : (storedUnder c va v s).close = memWrite (closeKey c va) ⟨v, .good⟩ s.close :=
  (putClose_one c va.toNat 31 v s).trans (by rw [mergeMWord_whole]; rfl)

/-- An atomic that leaves close memory as it is. -/
theorem reservation_ends {s : State} {c : Nat} (h : ReadyPhys s c) (hc : c < 8) {i : Instr} {k : MemKind} {rd rb : Nat} {ops : List Nat} {rl : Bool}
    {act : Nat → Spot → State → MRes Word} {w : Word} {l : Option Nat} (hi : plainInsnOf i = some (c, atomicInsn k rb ops rl (fun c p s => oldTo c rd (act c p s))))
    (hown : ownWord c (s.gpr c rb)) (hact : act c (physSpot (s.gpr c rb)) s = .ok w (setResv c l s)) :
    ∃ t, ok (runInsn i s) = .next t ∧ GprResult c rd w s t ∧ (t.core c).resv = l ∧ SameMemory s t ∧ SameAccs c s t ∧
      (t.core c).pc = (s.core c).pc + 2 ∧ SameRegsBut c [] s t := by
  have hside := setResv_side c l s
  obtain ⟨t, ht, hres, hmem, hresv, -, hends⟩ := atomic_ends hi h.ready hc rfl rfl rfl hside
    (atomicInsn_body h hc hown (oldTo_alone (rd := rd) hact (hside.notLeader h.ready)) ((corePc_setGpr ..).trans hside.pc))
  exact ⟨t, ht, hres, hresv.trans (setResv_resv ..), (coresOnly_updCore s c _).memory.trans hmem, hends⟩

/-- Settles O14: atomics on close memory, load-linked and store-conditional. -/
theorem atomicResult : Obligations.AtomicResult := by
  intro c rb w s h va ends hown hw
  refine ⟨fun rd rs rc aq rl => ?_, fun rd rs aq rl => ?_, fun rd rs aq rl => ?_, fun rd aq => ?_, fun rd rs rl => ⟨fun hres => ?_, fun hres => ?_⟩⟩
  · exact readModifyWrite_ends h c.isLt (i := .cas c rd rb rs rc aq rl) (a := fun c s => s.gpr c rs) (b := fun c s => s.gpr c rc) rfl hown hw
  · exact readModifyWrite_ends h c.isLt (i := .fadd c rd rb rs aq rl) (a := fun c s => s.gpr c rs) (b := fun _ _ => 0) rfl hown hw
  · exact readModifyWrite_ends h c.isLt (i := .swapInsn c rd rb rs aq rl) (a := fun c s => s.gpr c rs) (b := fun _ _ => 0) rfl hown hw
  · obtain ⟨t, ht, hres, hresv, hmem, hends⟩ := reservation_ends h c.isLt (i := .ll c rd rb aq) (k := mkLL) (ops := []) (rl := false)
      (act := fun c p s => (loadSpot c mkLL p s).bind (fun w s => .ok w (setResv c (some (p.pa / 16)) s))) rfl hown
      (by rw [loadSpot_own h c.isLt mkLL hown hw]; rfl)
    exact ⟨t, ht, hres, hresv, hmem, hends⟩
  · have hside := storedUnder_side c va (s.gpr c rs) s
    obtain ⟨t, ht, hgpr, hmem, hresv, hothers, hends⟩ := atomic_ends (i := .sc c rd rb rs rl) rfl h.ready c.isLt rfl rfl rfl hside
      (atomicInsn_body h c.isLt hown (oldTo_alone (rd := rd) (condStore_reserved h c.isLt hown hres (s.gpr c rs)) (hside.notLeader h.ready))
        ((corePc_setGpr ..).trans hside.pc))
    exact ⟨t, ht, hgpr, closePut_one hside.only hmem (storedUnder_close ..) hothers, hresv.trans (setResv_resv ..), hends⟩
  · obtain ⟨t, ht, hgpr, hresv, hmem, hends⟩ := reservation_ends h c.isLt (i := .sc c rd rb rs rl) (k := mkSC) (ops := [rs.val]) (rl := rl)
      (act := fun c p s => condStore c p (s.gpr c rs) s) rfl hown (condStore_unreserved h hres _)
    exact ⟨t, ht, hgpr, hmem, hresv, hends⟩

end Sys2Proof.Machine
end


section
/-!
SUPPORT. Stores of a core to its own close memory (R57, R107, R139, R140): the store enters the queue, retires, and leaves the queue in the same command.
-/
set_option linter.constructorNameAsVariable false

namespace Sys2Proof.Machine

/-! ### The words of a store -/

/-- Close memory of core c after a store of words from `pa` on. -/
def putWords (c pa mask : Nat) (vs : List Word) (m : Memory) : Memory :=
  (vs.zipIdx pa).foldl (fun m e => memWrite (c * 0x4000 + e.2 % 0x4000) (mergeMWord mask (memRead m (c * 0x4000 + e.2 % 0x4000)) ⟨e.1, .good⟩) m) m

theorem putClose_close (c pa mask : Nat) (vs : List Word) (s : State) : (putClose c pa mask vs s).close = putWords c pa mask vs s.close := by
  unfold putClose putWords
  generalize vs.zipIdx pa = l
  induction l generalizing s with
  | nil => rfl
  | cons e l ih => rw [List.foldl_cons, List.foldl_cons, ih, clearResv_close]

/-! ### The store queue -/

/-- A store enters the store queue. -/
def storeQueued (c : Nat) (e : StqEnt) (s : State) : State :=
  (s.updCore c (fun k => { k with stSeq := k.stSeq + 1 })).updCore c (fun k => { k with stq := k.stq ++ [e] })

theorem storeQueued_core {c : Nat} {s : State} (h : (s.core c).stq = []) (e : StqEnt) :
    (storeQueued c e s).core c = { s.core c with stSeq := (s.core c).stSeq + 1, stq := [e] } := by
  rw [storeQueued, core_updCore_self, core_updCore_self]
  show ({ s.core c with stSeq := _, stq := (s.core c).stq ++ [e] } : Core) = _
  rw [h]; rfl

theorem storeQueued_core_ne {c d : Nat} (hd : d ≠ c) (e : StqEnt) (s : State) : (storeQueued c e s).core d = s.core d := by
  rw [storeQueued, core_updCore_ne hd, core_updCore_ne hd]

theorem storeQueued_only (c : Nat) (e : StqEnt) (s : State) : CoresOnly s (storeQueued c e s) := rfl

theorem storeSpots_queues {c : Nat} {s : State} (h : ReadyPhys s c) (hc : c < 8) {mask : Nat} {ps : List (Spot × Word)} {e : StqEnt}
    (he : storeEnts mask ps (s.core c).stSeq = [e]) : storeSpots c mask ps s = .ok () (storeQueued c e s) := by
  simp only [storeSpots, he, h.ready.notLeader, Bool.false_eq_true, if_false, h.ready.unpaced, (h.ready.calm.retired c hc).1, List.length_nil,
    List.length_singleton]
  rfl

/-- The entry of a store of words from `va` on. -/
def storeEnt (c mask : Nat) (va : Word) (vs : List Word) (s : State) : StqEnt := ⟨(s.core c).stSeq, va, va.toNat, mask, vs, false⟩

theorem storeAll_own {c : Nat} {s : State} (h : ReadyPhys s c) (hc : c < 8) {k : MemKind} {mask : Nat} {va : Word} {vas vs : List Word}
    (hown : ∀ x, x ∈ vas → ownWord c x) (hr : rising vas = vas)
    (he : storeEnts mask ((vas.map physSpot).zip vs) (s.core c).stSeq = [storeEnt c mask va vs s]) :
    storeAll c k mask vas vs s = .ok [] (storeQueued c (storeEnt c mask va vs s) s) := by
  simp only [storeAll, memCheck_own h hc k hown hr, MRes.bind, leafFirst, h.ready.unpaced, Bool.false_and, Bool.false_eq_true, if_false,
    storeSpots_queues h hc he]

theorem storeAll_one {c : Nat} {s : State} (h : ReadyPhys s c) (hc : c < 8) (k : MemKind) (mask : Nat) {va : Word} (v : Word) (hown : ownWord c va) :
    storeAll c k mask [va] [v] s = .ok [] (storeQueued c (storeEnt c mask va [v] s) s) :=
  storeAll_own h hc (by simpa using hown) (rising_one va) rfl

theorem ownWord_next {c : Nat} {va : Word} (hc : c < 8) (h : ownWord c va) : (va + 1).toNat = va.toNat + 1 := by
  have := h.2
  rw [BitVec.toNat_add]
  exact Nat.mod_eq_of_lt (by simp; omega)

theorem storeAll_two {c : Nat} {s : State} (h : ReadyPhys s c) (hc : c < 8) (k : MemKind) (mask : Nat) {va : Word} (v w : Word) (h0 : ownWord c va)
    (h1 : ownWord c (va + 1)) : storeAll c k mask [va, va + 1] [v, w] s = .ok [] (storeQueued c (storeEnt c mask va [v, w] s) s) := by
  refine storeAll_own h hc (by simpa using ⟨h0, h1⟩) (rising_own hc h0 _) ?_
  have hn : (physSpot (va + 1)).pa = (physSpot va).pa + 1 := ownWord_next hc h0
  simp only [List.map_cons, List.map_nil, List.zip_cons_cons, List.zip_nil_left, storeEnts, hn, decide_true]
  rfl

theorem drainStq_one {c : Nat} {s u : State} {e : StqEnt} (n : Nat) (hq : (s.core c).stq = [e]) (hp : performEnt c e s = .ok none u) :
    drainStq c (n + 2) s = u.updCore c (fun k => { k with stq := [] }) := by
  have hnone : ((u.updCore c (fun k => { k with stq := [] })).core c).stq = [] := by rw [core_updCore_self]
  rw [drainStq, hq]
  simp only [hp]
  show drainStq c (n + 1) (u.updCore c (fun k => { k with stq := [] })) = _
  rw [drainStq, hnone]

theorem performEnt_own {c : Nat} {s : State} {e : StqEnt} (hreg : regionAt s e.pa = some (.close c)) :
    performEnt c e s = .ok none (putClose c e.pa e.mask e.vals s) := by
  have hwrite : writeEnt c (storeKind e.mask e.vals.length) e s = .ok ⟨some .ok, none⟩ (putClose c e.pa e.mask e.vals s) := by
    simp only [writeEnt, hreg, if_true]
  simp only [performEnt, hwrite, MRes.bind, if_true]

/-- Only core c has anything to settle, and nothing is left when it has. -/
theorem settleAll_core {s t : State} {c : Nat} (hc : c < 8) (hothers : ∀ d, d < 8 → d ≠ c → (s.core d).stq = [] ∧ (s.core d).pfq = [])
    (ht : prefetch c (drainStq c 68 s) = t) (h : Calm t) : settleAll s = t := by
  have hcores : (List.range 8).foldl (fun s c => prefetch c (drainStq c 68 s)) s = t :=
    (foldl_one (fun s c => prefetch c (drainStq c 68 s)) s c (List.range 8) (List.mem_range.2 hc)
      (fun d hd hdc => drain_calm (hothers d (List.mem_range.1 hd) hdc))
      (fun d hd => ht ▸ drain_calm (h.retired d (List.mem_range.1 hd)))).trans ht
  simp only [settleAll, hcores, eiuOffers_calm h, retryHeld_calm h]
  exact foldl_still (fun s n => settlePair n s) t (List.range 4) (fun n hn => settlePair_calm h (List.mem_range.1 hn))

/-! ### The command -/

/-- The command of a store to the core's own close memory. -/
theorem store_ends {s : State} {i : Instr} {c mask : Nat} {x : Insn} {va : Word} {vs : List Word} (hi : plainInsnOf i = some (c, x)) (h : Ready s c x.long)
    (hc : c < 8) (hu : x.undef = false) (hp : x.minPl = 0) (hk : x.counter = none) (hown : ownWord c va)
    (hb : x.body c s = .ok (retTo ((s.core c).pc + 2)) (storeQueued c (storeEnt c mask va vs s) s)) :
    ∃ u t, ok (runInsn i s) = .next t ∧ CloseOnly s u ∧ SameMemory u t ∧ u.close = putWords c va.toNat mask vs s.close ∧
      (∀ d, d ≠ c → ∃ r, t.core d = { s.core d with resv := r }) ∧ SameGprs c s t ∧ SameAccs c s t ∧ (t.core c).pc = (s.core c).pc + 2 ∧
      SameRegsBut c [] s t := by
  have hstq := (h.calm.retired c hc).1
  have hq := storeQueued_core hstq (storeEnt c mask va vs s)
  have hun : Unhindered (storeQueued c (storeEnt c mask va vs s) s) c :=
    ⟨by rw [hq]; exact h.unhindered.halt, by rw [hq]; exact h.unhindered.step, by rw [hq]; exact h.unhindered.parked, h.unhindered.park⟩
  obtain ⟨hvonly, hvcore, hvothers, hvregs, -⟩ := retire_plain (s := storeQueued c (storeEnt c mask va vs s) s) (n := (s.core c).pc + 2)
    (dests := regsWritten i) h.unpaced h.alone rfl hun (h.notOff _)
  have hrun : ok (runInsn i s) = .next (latched (settleAll (retire c (regsWritten i) (retTo ((s.core c).pc + 2)) s (storeQueued c (storeEnt c mask va vs s) s)))) := by
    have hx : (insnAs i x).undef = false ∧ (insnAs i x).minPl = x.minPl ∧ (insnAs i x).long = x.long ∧ (insnAs i x).counter = none := by
      unfold insnAs; split <;> exact ⟨hu, rfl, rfl, hk⟩
    rw [runInsn_ready hi h, attemptAll_ready (x := insnAs i x) (hx.2.2.1 ▸ h) hx.1 (hx.2.1 ▸ hp ▸ Nat.zero_le _) hx.2.2.2
      ((insnAs_body x h.calm hc).trans hb) rfl, settleInsn_ok, ok]
  generalize retire c (regsWritten i) (retTo ((s.core c).pc + 2)) s (storeQueued c (storeEnt c mask va vs s) s) = v at *
  have hsv : CoresOnly s v := (storeQueued_only ..).trans hvonly
  have hput := putClose_side c va.toNat mask vs v
  have hvstq : (v.core c).stq = [storeEnt c mask va vs s] := by rw [hvcore, hq]; rfl
  have hvpfq : (v.core c).pfq = [] := by rw [hvcore, hq]; exact (h.calm.retired c hc).2
  have hvne : ∀ d, d ≠ c → v.core d = s.core d := fun d hd => (hvothers d hd).trans (storeQueued_core_ne hd ..)
  obtain ⟨w, hw⟩ : ∃ w, w = (putClose c va.toNat mask vs v).updCore c (fun k => { k with stq := [] }) := ⟨_, rfl⟩
  have hwcore : w.core c = { (putClose c va.toNat mask vs v).core c with stq := [] } := by rw [hw, core_updCore_self]
  have hwne : ∀ d, d ≠ c → ∃ r, w.core d = { s.core d with resv := r } := fun d hd => by
    rw [hw, core_updCore_ne hd, ← hvne d hd]; exact hput.others d hd
  have hwonly : CloseOnly s w := hw ▸ (hsv.closeOnly.trans hput.only).trans (coresOnly_updCore ..).closeOnly
  have hwork : SameWork s w := fun d => by
    by_cases hd : d = c
    · rw [hd, hwcore]; exact ⟨hstq.symm, hput.held.work.2.trans (hvpfq.trans (h.calm.retired c hc).2.symm)⟩
    · obtain ⟨r, hr⟩ := hwne d hd; rw [hr]; exact ⟨rfl, rfl⟩
  have hcalm : Calm w := hwonly.calm h.calm hwork
  have hsettle : settleAll v = w := by
    refine settleAll_core hc (fun d hd hdc => by rw [hvne d hdc]; exact h.calm.retired d hd) ?_ hcalm
    rw [drainStq_one 66 hvstq (performEnt_own (ownWord_region v hc hown))]
    show prefetch c ((putClose c va.toNat mask vs v).updCore c (fun k => { k with stq := [] })) = w
    rw [← hw, prefetch, (hcalm.retired c hc).2]
  rw [hsettle] at hrun
  have hvw : (v.core c).w = (s.core c).w ∧ (v.core c).acc = (s.core c).acc ∧ (v.core c).pc = (s.core c).pc + 2 := by
    rw [hvcore, hq]; exact ⟨rfl, rfl, rfl⟩
  have hww : (w.core c).w = (s.core c).w ∧ (w.core c).acc = (s.core c).acc ∧ (w.core c).pc = (s.core c).pc + 2 := by
    rw [hwcore]; exact ⟨hput.held.w.trans hvw.1, hput.held.acc.trans hvw.2.1, hput.pc.trans hvw.2.2⟩
  have hclose : w.close = putWords c va.toNat mask vs s.close := by
    rw [hw, updCore_close, putClose_close, hsv.close]
  have hregs : ∀ a, ¬ countsOf c a → w.reg a = s.reg a := fun a ha => by
    rw [hw]
    show (putClose c va.toNat mask vs v).reg a = _
    rw [State.reg, hput.regs]
    exact hvregs a ha
  refine ⟨w, latched w, hrun, hwonly, (SameMemory.refl w).latched, hclose, hwne, fun r => ?_, fun a => ?_, hww.2.2, fun a ha _ => hregs a ha⟩
  · show (if r = 0 then 0 else SMap.getD 0 r (w.core c).w) = _
    rw [hww.1]; rfl
  · show SMap.getD 0 a (w.core c).acc = _
    rw [hww.2.1]; rfl

/-! ### Whole words -/

/-- A store of one word puts it. -/
theorem closePut_word {c : Nat} {va v : Word} {s u t : State} (h : CloseOnly s u) (hmem : SameMemory u t)
    (hm : u.close = putWords c va.toNat 31 [v] s.close) (hothers : ∀ d, d ≠ c → ∃ r, t.core d = { s.core d with resv := r }) :
    ClosePut c [(closeKey c va, v)] s t := by
  refine closePut_one h hmem (m := .good) ?_ hothers
  rw [hm]
  show memWrite (closeKey c va) (mergeMWord 31 _ ⟨v, .good⟩) s.close = _
  rw [mergeMWord_whole]

/-- A store of two words puts them at their places. -/
theorem closePut_two {c : Nat} {va v0 v1 : Word} {s u t : State} (hc : c < 8) (h0 : ownWord c va) (h1 : ownWord c (va + 1)) (h : CloseOnly s u)
    (hmem : SameMemory u t) (hm : u.close = putWords c va.toNat 31 [v0, v1] s.close)
    (hothers : ∀ d, d ≠ c → ∃ r, t.core d = { s.core d with resv := r }) :
    ClosePut c [(closeKey c va, v0), (closeKey c (va + 1), v1)] s t := by
  have hn := ownWord_next hc h0
  have hne : closeKey c (va + 1) ≠ closeKey c va := by
    have h2 := h1.2; have h3 := h0.1
    simp only [closeKey, hn] at h2 ⊢
    omega
  have hm' : u.close = memWrite (closeKey c (va + 1)) ⟨v1, .good⟩ (memWrite (closeKey c va) ⟨v0, .good⟩ s.close) := by
    rw [hm, closeKey, hn]
    show memWrite _ (mergeMWord 31 _ ⟨v1, .good⟩) (memWrite (closeKey c va) (mergeMWord 31 _ ⟨v0, .good⟩) s.close) = _
    rw [mergeMWord_whole, mergeMWord_whole]
  refine closePut_of h hmem (fun kv hkv => ?_) (fun k hk => ?_) hothers
  · rw [hm']
    rcases List.mem_cons.mp hkv with rfl | hkv
    · rw [memRead_memWrite_ne hne.symm, memRead_memWrite_self]
    · rw [List.mem_singleton.mp hkv, memRead_memWrite_self]
  · have hk0 : closeKey c va ≠ k := hk (closeKey c va, v0) (by simp)
    have hk1 : closeKey c (va + 1) ≠ k := hk (closeKey c (va + 1), v1) (by simp)
    rw [hm', memRead_memWrite_ne hk1.symm, memRead_memWrite_ne hk0.symm]

/-! ### Octets -/

theorem testBit_bitsToNat : ∀ (l : List Bool) (i : Nat), (bitsToNat l).testBit i = l.getD i false
  | [], i => by simp [bitsToNat]
  | b :: l, 0 => by cases b <;> simp [bitsToNat, b2n, Nat.testBit_zero]
  | b :: l, i + 1 => by
    have h2 : (b2n b + 2 * bitsToNat l) / 2 = bitsToNat l := by rw [b2n]; split <;> omega
    rw [bitsToNat, Nat.testBit_succ, h2, testBit_bitsToNat l i, List.getD_cons_succ]

/-- A merge of octet k of a word. -/
theorem mergeOctets_one {k i : Nat} (hi : i < 40) (old new : Word) :
    (mergeOctets (2 ^ k) old new).getLsbD i = if i / 8 = k then new.getLsbD i else old.getLsbD i := by
  have hm : (BitVec.ofNat 40 (bitsToNat ((List.range 40).map (fun i => Nat.testBit (2 ^ k) (i / 8))))).getLsbD i = decide (k = i / 8) := by
    rw [BitVec.getLsbD_ofNat, testBit_bitsToNat]
    simp [hi, List.getD, Nat.testBit_two_pow]
  unfold mergeOctets
  simp only [BitVec.getLsbD_or, BitVec.getLsbD_and, BitVec.getLsbD_not, hm, hi, decide_true, Bool.true_and]
  by_cases hk : i / 8 = k
  · simp [hk]
  · simp [hk, Ne.symm hk]

/-- The octet that a store brings, at its place in the word. -/
theorem octetAt_bit (v : Word) {k i : Nat} (hi : i < 40) :
    (((v.setWidth 8).setWidth 40 : Word) <<< (8 * k)).getLsbD i = if 8 * k ≤ i ∧ i < 8 * k + 8 then v.getLsbD (i - 8 * k) else false := by
  simp only [BitVec.getLsbD_shiftLeft, BitVec.getLsbD_setWidth]
  split
  · next h => simp [hi, show ¬ i < 8 * k by omega, show i - 8 * k < 8 by omega, show i - 8 * k < 40 by omega]
  · next h =>
    by_cases hlt : i < 8 * k
    · simp [hlt]
    · simp [show ¬ i - 8 * k < 8 by omega]

/-- A store of one octet puts it, and keeps the other octets of its word. -/
theorem closePut_octet {c k : Nat} {va v w : Word} {s u t : State} (hk : k < 5) (hw : holdsWord s c va w) (h : CloseOnly s u) (hmem : SameMemory u t)
    (hm : u.close = putWords c va.toNat (2 ^ k) [((v.setWidth 8).setWidth 40 : Word) <<< (8 * k)] s.close)
    (hothers : ∀ d, d ≠ c → ∃ r, t.core d = { s.core d with resv := r }) :
    ∃ x : Word, ClosePut c [(closeKey c va, x)] s t ∧
      ∀ i, i < 40 → x.getLsbD i = if 8 * k ≤ i ∧ i < 8 * k + 8 then v.getLsbD (i - 8 * k) else w.getLsbD i := by
  refine ⟨mergeOctets (2 ^ k) w (((v.setWidth 8).setWidth 40 : Word) <<< (8 * k)), closePut_one h hmem (m := .good) ?_ hothers, fun i hi => ?_⟩
  · rw [hm]
    show memWrite (closeKey c va) (mergeMWord (2 ^ k) (memRead s.close (closeKey c va)) ⟨_, .good⟩) s.close = _
    have hmask : (2 ^ k % 32 = 2 ^ k) ∧ 2 ^ k ≠ 31 ∧ 2 ^ k ≠ 0 := by interval_cases k <;> decide
    rw [hw, mergeMWord, hmask.1, if_neg hmask.2.1, if_neg hmask.2.2]
    rfl
  · rw [mergeOctets_one hi, octetAt_bit v hi]
    by_cases hin : 8 * k ≤ i ∧ i < 8 * k + 8
    · rw [if_pos (show i / 8 = k by omega), if_pos hin, if_pos hin]
    · rw [if_neg (show ¬ i / 8 = k by omega), if_neg hin]

/-! ### O12 -/

/-- A store of one whole word. -/
theorem storeWord_ends {s : State} {i : Instr} {c rt : Nat} {rl : Bool} {va : Nat → State → Word} (hi : plainInsnOf i = some (c, storeWordFrom rt rl va))
    (h : ReadyPhys s c) (hc : c < 8) (hown : ownWord c (va c s)) :
    ∃ t, ok (runInsn i s) = .next t ∧ ClosePut c [(closeKey c (va c s), s.gpr c rt)] s t ∧ SameGprs c s t ∧ SameAccs c s t ∧
      (t.core c).pc = (s.core c).pc + 2 ∧ SameRegsBut c [] s t := by
  have hb : (storeWordFrom rt rl va).body c s = .ok (retTo ((s.core c).pc + 2)) (storeQueued c (storeEnt c 31 (va c s) [s.gpr c rt] s) s) := by
    refine memInsn_body ?_ (by rw [corePc, storeQueued_core (h.ready.calm.retired c hc).1]; rfl)
    simp only [released, h.ready.storesDone hc h.noOut, Bool.not_true, Bool.and_false, Bool.false_eq_true, if_false, storeAll_one h hc mkStore 31 _ hown]
  obtain ⟨u, t, ht, honly, hmem, hclose, hothers, hends⟩ := store_ends hi h.ready hc rfl rfl rfl hown hb
  exact ⟨t, ht, closePut_word honly hmem hclose hothers, hends⟩

/-- A store of two whole words. -/
theorem storePair_ends {s : State} {i : Instr} {c rb : Nat} {off : BitVec 20} {v w : Nat → State → Word}
    (hi : plainInsnOf i = some (c, memInsn 2 (fun c s => storeAll c mkStore2 31 [eaOf s c rb off, eaOf s c rb off + 1] [v c s, w c s] s)))
    (h : ReadyPhys s c) (hc : c < 8) (h0 : ownWord c (eaOf s c rb off)) (h1 : ownWord c (eaOf s c rb off + 1)) :
    ∃ t, ok (runInsn i s) = .next t ∧ ClosePut c [(closeKey c (eaOf s c rb off), v c s), (closeKey c (eaOf s c rb off + 1), w c s)] s t ∧
      SameGprs c s t ∧ SameAccs c s t ∧ (t.core c).pc = (s.core c).pc + 2 ∧ SameRegsBut c [] s t := by
  have hb := memInsn_body (cost := 2) (body := fun c s => storeAll c mkStore2 31 [eaOf s c rb off, eaOf s c rb off + 1] [v c s, w c s] s)
    (storeAll_two h hc mkStore2 31 (v c s) (w c s) h0 h1) (by rw [corePc, storeQueued_core (h.ready.calm.retired c hc).1]; rfl)
  obtain ⟨u, t, ht, honly, hmem, hclose, hothers, hends⟩ := store_ends hi h.ready hc rfl rfl rfl h0 hb
  exact ⟨t, ht, closePut_two hc h0 h1 honly hmem hclose hothers, hends⟩

/-- A store of one octet. -/
theorem storeOctet_ends {s : State} {i : Instr} {c rt rb : Nat} {off : BitVec 20} {va w : Word} {k : Nat} (hi : plainInsnOf i = some (c, insnSb rt rb off))
    (h : ReadyPhys s c) (hc : c < 8) (hp : (s.gpr c rb).toNat % 8 < 5) (hk : k < 5)
    (hq : (va.toNat * 5 + k : Int) = ((s.gpr c rb).toNat / 8 * 5 + (s.gpr c rb).toNat % 8 + off.toInt) % (5 * 2 ^ 37)) (hown : ownWord c va)
    (hw : holdsWord s c va w) :
    ∃ v t, ok (runInsn i s) = .next t ∧ ClosePut c [(closeKey c va, v)] s t ∧ (SameGprs c s t ∧ SameAccs c s t ∧
      (t.core c).pc = (s.core c).pc + 2 ∧ SameRegsBut c [] s t) ∧
      ∀ i, i < 40 → v.getLsbD i = if 8 * k ≤ i ∧ i < 8 * k + 8 then (s.gpr c rt).getLsbD (i - 8 * k) else w.getLsbD i := by
  have hb : (insnSb rt rb off).body c s = .ok (retTo ((s.core c).pc + 2))
      (storeQueued c (storeEnt c (2 ^ k) va [(((s.gpr c rt).setWidth 8).setWidth 40 : Word) <<< (8 * k)] s) s) := by
    refine goodPointer_body hp ?_ (by rw [corePc, storeQueued_core (h.ready.calm.retired c hc).1]; rfl)
    simp only [octetOf_eq hq, octet_word hk, octet_place va hk, storeAll_one h hc mkOctStore (2 ^ k) _ hown]
  obtain ⟨u, t, ht, honly, hmem, hclose, hothers, hends⟩ := store_ends hi h.ready hc rfl rfl rfl hown hb
  obtain ⟨v, hput, hbits⟩ := closePut_octet hk hw honly hmem hclose hothers
  exact ⟨v, t, ht, hput, hends, hbits⟩

/-- Settles O12: stores to close memory by physical address, and every other word. -/
theorem storeResult : Obligations.StoreResult := by
  intro c s h
  refine ⟨fun rt rb off => ?_, fun rt rb rx sc => ?_, fun rt rb off va w k hp hk hq hown hw => ?_, fun rb off => ?_⟩
  · exact fun hown => ⟨storeWord_ends (i := .sw c rt rb off) rfl h c.isLt hown, storeWord_ends (i := .swRl c rt rb off) rfl h c.isLt hown⟩
  · exact fun hown => storeWord_ends (i := .swx c rt rb rx sc) rfl h c.isLt hown
  · exact storeOctet_ends (i := .sb c rt rb off) rfl h c.isLt hp hk hq hown hw
  · intro va h0 h1
    refine ⟨fun rt => ?_, fun a => ?_⟩
    · exact storePair_ends (i := .sd2 c rt rb off) (v := fun c s => s.gpr c (2 * rt)) (w := fun c s => s.gpr c (2 * rt + 1)) rfl h c.isLt h0 h1
    · have hlo : ((s.accOf c a).setWidth 40 : Word) = (s.accOf c a).extractLsb' 0 40 := by
        apply BitVec.eq_of_getLsbD_eq; intro i hi; simp [hi]
      have hhi : ((s.accOf c a >>> 40).setWidth 40 : Word) = (s.accOf c a).extractLsb' 40 40 := by
        apply BitVec.eq_of_getLsbD_eq; intro i hi; simp [hi]
      rw [← hlo, ← hhi]
      exact storePair_ends (i := .sa c a rb off) (v := fun c s => (s.accOf c a).setWidth 40) (w := fun c s => (s.accOf c a >>> 40).setWidth 40) rfl h
        c.isLt h0 h1

end Sys2Proof.Machine
end


section
/-!
SUPPORT. The start-up timeline (R619, R622, R644, R660, R719): what no step of it changes, and O29.
-/
set_option linter.constructorNameAsVariable false

namespace Sys2Proof.Machine

/-! ### What the timeline keeps -/

/-- From s to t a timeline may have moved: the straps, what cores run and have in work, what waits at the Cuff ports, the reset and the fuses stay. -/
structure Timeline (s t : State) : Prop where
  only : t = { s with regs := t.regs, cores := t.cores, errlog := t.errlog, cns := t.cns, cuf := t.cuf, boot := t.boot }
  straps : t.reg Reg.BSQ_STRAPS = s.reg Reg.BSQ_STRAPS
  run : ∀ c, (t.core c).run = (s.core c).run
  work : SameWork s t
  ports : ∀ n, (t.cufP n).waiting = (s.cufP n).waiting ∧ (t.cufP n).rxq = (s.cufP n).rxq
  boot : t.boot.inReset = s.boot.inReset ∧ t.boot.fuses = s.boot.fuses

theorem Timeline.refl (s : State) : Timeline s s := ⟨rfl, rfl, fun _ => rfl, fun _ => ⟨rfl, rfl⟩, fun _ => ⟨rfl, rfl⟩, rfl, rfl⟩

theorem Timeline.trans {s t u : State} (h : Timeline s t) (g : Timeline t u) : Timeline s u :=
  ⟨by rw [g.only, h.only], g.straps.trans h.straps, fun c => (g.run c).trans (h.run c), h.work.trans g.work,
    fun n => ⟨(g.ports n).1.trans (h.ports n).1, (g.ports n).2.trans (h.ports n).2⟩, g.boot.1.trans h.boot.1, g.boot.2.trans h.boot.2⟩

theorem RegsOnly.timeline {s t : State} (h : RegsOnly s t) (hs : t.reg Reg.BSQ_STRAPS = s.reg Reg.BSQ_STRAPS) : Timeline s t := by
  refine ⟨?_, hs, fun c => by rw [h.get_core], .of_cores h.cores, fun n => ?_, ?_⟩
  · unfold RegsOnly at h; rw [h]
  · unfold RegsOnly at h; rw [h]; exact ⟨rfl, rfl⟩
  · unfold RegsOnly at h; rw [h]; exact ⟨rfl, rfl⟩

theorem timeline_updCore {c : Nat} {s : State} {f : Core → Core} (hrun : (f (s.core c)).run = (s.core c).run)
    (hwork : (f (s.core c)).stq = (s.core c).stq ∧ (f (s.core c)).pfq = (s.core c).pfq) : Timeline s (s.updCore c f) := by
  refine ⟨rfl, rfl, fun d => ?_, fun d => ?_, fun _ => ⟨rfl, rfl⟩, rfl, rfl⟩ <;> by_cases hd : d = c
  · rw [hd, core_updCore_self]; exact hrun
  · rw [core_updCore_ne hd]
  · rw [hd, core_updCore_self]; exact hwork
  · rw [core_updCore_ne hd]; exact ⟨rfl, rfl⟩

theorem timeline_updCuf {n : Nat} {s : State} {f : CufPort → CufPort} (h : (f (s.cufP n)).waiting = (s.cufP n).waiting ∧ (f (s.cufP n)).rxq = (s.cufP n).rxq) :
    Timeline s (updCuf n f s) := by
  refine ⟨rfl, rfl, fun _ => rfl, fun _ => ⟨rfl, rfl⟩, fun m => ?_, rfl, rfl⟩
  show (SMap.getD CufPort.reset m (SMap.put CufPort.reset n _ s.cuf)).waiting = _ ∧ (SMap.getD CufPort.reset m (SMap.put CufPort.reset n _ s.cuf)).rxq = _
  by_cases hm : m = n
  · rw [hm, SMap.getD_put_self]; exact h
  · rw [SMap.getD_put_ne hm]; exact ⟨rfl, rfl⟩

theorem timeline_setBoot {s : State} {f : Boot → Boot} (hreset : (f s.boot).inReset = s.boot.inReset) (hfuses : (f s.boot).fuses = s.boot.fuses) :
    Timeline s (setBoot f s) := ⟨rfl, rfl, fun _ => rfl, fun _ => ⟨rfl, rfl⟩, fun _ => ⟨rfl, rfl⟩, hreset, hfuses⟩

theorem timeline_setReg {a : Nat} (h : Reg.BSQ_STRAPS ≠ a) (v : Word) (s : State) : Timeline s (s.setReg a v) :=
  (regsOnly_setReg ..).timeline (reg_setReg_ne h s v)

theorem timeline_setBit {a : Nat} (h : Reg.BSQ_STRAPS ≠ a) (i : Nat) (b : Bool) (s : State) : Timeline s (s.setBit a i b) := timeline_setReg h ..
theorem timeline_setFld {a : Nat} (h : Reg.BSQ_STRAPS ≠ a) (hi lo v : Nat) (s : State) : Timeline s (s.setFld a hi lo v) := timeline_setReg h ..
theorem timeline_inc {a : Nat} (h : Reg.BSQ_STRAPS ≠ a) (s : State) : Timeline s (s.inc a) := timeline_setReg h ..

theorem timeline_logErr (blk : BlkId) (kind unit : Nat) (addr info : Word) (s : State) : Timeline s (logErr blk kind unit addr info s) := by
  unfold logErr
  split
  · exact timeline_inc (by decide) s
  · exact ⟨rfl, rfl, fun _ => rfl, fun _ => ⟨rfl, rfl⟩, fun _ => ⟨rfl, rfl⟩, rfl, rfl⟩

theorem timeline_foldl {β : Type} {f : State → β → State} (l : List β) : (∀ s x, x ∈ l → Timeline s (f s x)) → ∀ s, Timeline s (l.foldl f s) := by
  induction l with
  | nil => exact fun _ => .refl
  | cons x l ih => exact fun hf s => (hf s x (List.mem_cons_self ..)).trans (ih (fun s y hy => hf s y (List.mem_cons_of_mem _ hy)) _)

/-- A timeline leaves a calm device calm. -/
theorem Timeline.calm {s t : State} (h : Timeline s t) (hs : Calm s) : Calm t where
  flaws := by rw [h.only]; exact hs.flaws
  held := by rw [h.only]; exact hs.held
  retired c hc := by rw [(h.work c).1, (h.work c).2]; exact hs.retired c hc
  blocked := by rw [h.only]; exact hs.blocked
  inter := by rw [h.only]; exact hs.inter
  waiting n hn := (h.ports n).1.trans (hs.waiting n hn)
  rxq n hn := (h.ports n).2.trans (hs.rxq n hn)
  draining := by rw [h.only]; exact hs.draining
  stores := by rw [h.only]; exact hs.stores
  sources := by rw [h.only]; exact hs.sources

/-! ### The Cuff source -/

theorem cufCtl_apart (n : Nat) : Reg.BSQ_STRAPS ≠ Reg.CUF_CTL n := by simp only [Reg.BSQ_STRAPS, Reg.CUF_CTL]; omega

theorem cufCtl_free (n : Nat) : Reg.CUF_CTL n ∉ rsvdRegs := by
  simp only [rsvdRegs, List.mem_cons, List.not_mem_nil, or_false, not_or, Reg.CUF_CTL, Reg.SYS_STATUS, Reg.SYS_RSVD_ADDR, Reg.SYS_RSVD_DATA, Reg.SYS_RSVD_CNT]
  omega

/-- The enable of a Cuff port. -/
theorem cufCtl_enable {n : Nat} (hn : n < 2) : fd 0 0 "EN" .rw 0 ∈ fieldsAt (Reg.CUF_CTL n) := by
  interval_cases n <;> decide

/-- A write of 1 to a Cuff port's control enables it. -/
theorem cufCtl_enabled {n : Nat} (hn : n < 2) (ep : Nat) (s : State) : (writeReg ep (Reg.CUF_CTL n) 1 s).bit (Reg.CUF_CTL n) 0 = true := by
  have h := writeReg_fld (cufCtl_free n) (cufCtl_enable hn) ep 1 s
  have hok : fieldOk (Reg.CUF_CTL n) (fd 0 0 "EN" .rw 0) (fget 1 0 0) = true := by interval_cases n <;> decide
  have hset : writtenField s (Reg.CUF_CTL n) (fd 0 0 "EN" .rw 0) 1 = fget 1 0 0 := if_pos hok
  exact bget_of_fget (h.trans hset)

theorem cufTrain_timeline (n : Nat) (s : State) : Timeline s (cufTrain n s) := by
  have hlane : ∀ l, Reg.BSQ_STRAPS ≠ Reg.CUF_LANE_STAT n l := by intro l; simp only [Reg.BSQ_STRAPS, Reg.CUF_LANE_STAT]; omega
  have hstat : Reg.BSQ_STRAPS ≠ Reg.CUF_STATUS n := by simp only [Reg.BSQ_STRAPS, Reg.CUF_STATUS]; omega
  exact ((timeline_setFld hstat ..).trans (timeline_updCuf (n := n) ⟨rfl, rfl⟩)).trans (timeline_foldl _ (fun s l _ => timeline_setFld (hlane l) ..) _)

theorem cufCtlWrite_timeline {n : Nat} (hn : n < 2) (ep : Nat) (s : State) : Timeline s (cufCtlWrite ep n 1 s) := by
  have hw : Timeline s (writeReg ep (Reg.CUF_CTL n) 1 s) :=
    (writeReg_only ..).timeline (writeReg_regsBut ep _ 1 s _ (by
      rw [List.mem_cons, not_or]; exact ⟨cufCtl_apart n, by decide⟩))
  have hretrain : bget (1 : Word) 1 = false := by decide
  rw [cufCtlWrite]
  simp only [cufCtl_enabled hn, hretrain, Bool.not_true, Bool.and_false, Bool.false_eq_true, if_false]
  split
  · exact hw.trans ((timeline_updCuf (n := n) ⟨rfl, rfl⟩).trans (cufTrain_timeline n _))
  · exact hw

/-! ### Boot sources -/

theorem beginAttempt_timeline (k source slot : Nat) (s : State) : Timeline s (beginAttempt k source slot s) := by
  have hfirst : Timeline s (if k < 8 then s.setBit Reg.BSQ_SOURCE k true else s) := by
    split
    · exact timeline_setBit (by decide) ..
    · exact .refl s
  have hstat : Reg.BSQ_STRAPS ≠ Reg.BSQ_STATUS := by decide
  have hstatus : ∀ u v : Nat, Timeline s ((((if k < 8 then s.setBit Reg.BSQ_SOURCE k true else s).setFld Reg.BSQ_STATUS 9 7 2).setFld Reg.BSQ_STATUS 6 5 u).setFld
      Reg.BSQ_STATUS 4 4 v) := fun u v =>
    ((hfirst.trans (timeline_setFld hstat ..)).trans (timeline_setFld hstat ..)).trans (timeline_setFld hstat ..)
  exact (hstatus source slot).trans (timeline_setBoot (f := fun b => { b with src := k, img := [], again := [], pos := 16, recIdx := 0, entrySet := false, since := _, began := false, imgFor := none }) rfl rfl)

theorem sourceFails_timeline (k code rec off : Nat) (s : State) : Timeline s (sourceFails k code rec off s) :=
  (((timeline_setFld (by decide) ..).trans (timeline_setReg (by decide) ..)).trans (timeline_inc (by decide) _)).trans (timeline_logErr ..)

theorem trySource_timeline : ∀ (f k : Nat) (s : State), Timeline s (trySource f k s)
  | 0, _, s => .refl s
  | f + 1, k, s => by
    rw [trySource]
    split
    · exact ((timeline_logErr ..).trans (timeline_setFld (by decide) ..)).trans (timeline_setBoot rfl rfl)
    · exact beginAttempt_timeline ..
    · split
      · exact trySource_timeline f (k + 1) s
      · dsimp only
        split
        · exact ((beginAttempt_timeline ..).trans (sourceFails_timeline ..)).trans (trySource_timeline f (k + 1) _)
        · exact (((beginAttempt_timeline ..).trans (cufCtlWrite_timeline (by decide) ..)).trans (cufCtlWrite_timeline (by decide) ..)).trans
            (timeline_setBoot rfl rfl)
    · dsimp only
      split
      · exact ((beginAttempt_timeline ..).trans (sourceFails_timeline ..)).trans (trySource_timeline f (k + 1) _)
      · exact beginAttempt_timeline ..

/-! ### The timeline -/

theorem showFuses_timeline (h : BitVec 256) (s : State) : Timeline s (showFuses h s) := by
  have hhash : ∀ k, k ∈ List.range 7 → Reg.BSQ_STRAPS ≠ Reg.BSQ_KEY_HASH k := by
    intro k hk
    have := List.mem_range.1 hk
    simp only [Reg.BSQ_STRAPS, Reg.BSQ_KEY_HASH]; omega
  exact (timeline_setBit (by decide) ..).trans (timeline_foldl _ (fun s k hk => timeline_setReg (hhash k hk) ..) _)

theorem shedAtReset_timeline (s : State) : Timeline s (shedAtReset s) := by
  have hdom : ∀ d, Reg.BSQ_STRAPS ≠ Reg.PWR_DOM d := by intro d; simp only [Reg.BSQ_STRAPS, Reg.PWR_DOM]; omega
  have hparks : ∀ g u, Timeline u ((List.range 8).foldl (fun s c =>
      let r := s.fld (Reg.CS_SHED_RANK c) 1 0
      if (decide (2 ≤ g) && r == 2) || (decide (3 ≤ g) && r == 1) then s.updCore c (fun k => { k with parked := true }) else s) u) := by
    intro g u
    refine timeline_foldl _ (fun s c _ => ?_) u
    dsimp only
    split
    · exact timeline_updCore rfl ⟨rfl, rfl⟩
    · exact .refl s
  unfold shedAtReset
  dsimp only
  split
  · exact (hparks _ s).trans (timeline_foldl _ (fun s d _ => timeline_setBit (hdom d) ..) _)
  · exact hparks _ s

theorem strapConflict_timeline (s : State) : Timeline s (if strapOk s then s
    else cnsLog 2 0 0 { s.setBit Reg.CNS_STATUS 2 true with cns := { s.cns with conflictLogged := true } }) := by
  split
  · exact .refl s
  · have hcns : ∀ (u : State) (c : Cns), Timeline u { u with cns := c } :=
      fun u c => ⟨rfl, rfl, fun _ => rfl, fun _ => ⟨rfl, rfl⟩, fun _ => ⟨rfl, rfl⟩, rfl, rfl⟩
    exact (((timeline_setBit (by decide) ..).trans (hcns _ _)).trans (timeline_setReg (by decide) ..)).trans (timeline_logErr ..)

theorem startPass1_timeline (s : State) : Timeline s (startPass1 s) := by
  unfold startPass1
  split
  · exact trySource_timeline ..
  · exact .refl s

/-- The word that shows the straps. -/
def strapsWord (x : Straps) : Word := nw (x.bootSel.toNat * 8 + b2n x.leader * 4 + x.id.toNat)

theorem runTimeline_timeline (x : Straps) (s : State) : Timeline (s.setReg Reg.BSQ_STRAPS (strapsWord x)) (runTimeline x s) :=
  (((((timeline_setReg (by decide) ..).trans (showFuses_timeline ..)).trans (shedAtReset_timeline _)).trans (strapConflict_timeline _)).trans
    (timeline_setFld (by decide) ..)).trans (startPass1_timeline _)

end Sys2Proof.Machine
end


section
/-!
SUPPORT. A device after its reset (R619, R620, R660, R700), and O29.
-/
set_option linter.constructorNameAsVariable false

namespace Sys2Proof.Machine

/-! ### The device after a reset -/

/-- t is the device after a reset from s: the waiting commands, the keep store and the fuses stay; every record but the registers, the supply's and the
debug port's is at its reset value, and no halt is left. -/
structure WasReset (s t : State) : Prop where
  only : t = { State.reset with regs := t.regs, pending := s.pending, fresh := s.fresh, keep := s.keep, boot := { Boot.reset with fuses := s.boot.fuses }, pwr := t.pwr, jtag := t.jtag }
  halted : t.pwr.halted = false

theorem WasReset.setReg {s t : State} (h : WasReset s t) (a : Nat) (v : Word) : WasReset s (t.setReg a v) :=
  ⟨(congrArg (fun x => State.setReg a v x) h.only).trans rfl, h.halted⟩

theorem wasReset_foldl {s : State} {l : List Nat} {v : Nat → Word} : ∀ {t : State}, WasReset s t → WasReset s (l.foldl (fun t a => t.setReg a (v a)) t) := by
  induction l with
  | nil => exact fun h => h
  | cons a l ih => exact fun h => ih (h.setReg a (v a))

theorem resetDevice_wasReset (cold : Bool) (s : State) : WasReset s (resetDevice cold s) := by
  unfold resetDevice
  cases cold
  · refine WasReset.setReg (wasReset_foldl ⟨?_, ?_⟩) _ _ <;> rfl
  · exact ⟨rfl, rfl⟩

theorem WasReset.calm {s t : State} (h : WasReset s t) : Calm t := by
  rw [h.only]
  exact calm_of_idle rfl rfl rfl rfl rfl rfl rfl ⟨rfl, rfl⟩

theorem WasReset.notStarted {s t : State} (h : WasReset s t) (c : Nat) : (t.core c).run = .notStarted := by rw [h.only]; rfl

/-! ### A timeline from there -/

/-- The straps as the device shows them. -/
theorem strapsWord_fields (x : Straps) : fget (strapsWord x) 4 3 = x.bootSel.toNat ∧ bget (strapsWord x) 2 = x.leader ∧
    fget (strapsWord x) 1 0 = x.id.toNat := by
  obtain ⟨sel, lead, id⟩ := x
  revert sel lead id
  decide

/-- What O29 calls a start of the timeline. -/
def Starts (x : Straps) (s t : State) : Prop :=
  t.pending = s.pending ∧ (∀ c, c < 8 → (t.core c).run = .notStarted) ∧ t.boot.inReset = false ∧ t.pwr.halted = false ∧
    t.fld Reg.BSQ_STRAPS 4 3 = x.bootSel.toNat ∧ t.bit Reg.BSQ_STRAPS 2 = x.leader ∧ t.fld Reg.BSQ_STRAPS 1 0 = x.id.toNat ∧ t.now = 0 ∧
    t.close = [] ∧ t.keep = s.keep ∧ t.boot.fuses = s.boot.fuses

/-- A timeline that runs after a reset starts. -/
theorem timeline_starts {s t : State} (x : Straps) (h : WasReset s t) : ∃ u, okSettled (runTimeline x t) = .next u ∧ Starts x s u := by
  have hreset := h.setReg Reg.BSQ_STRAPS (strapsWord x)
  have hline := runTimeline_timeline x t
  have hstraps : (runTimeline x t).reg Reg.BSQ_STRAPS = strapsWord x := hline.straps.trans (reg_setReg_self ..)
  obtain ⟨hsel, hlead, hid⟩ := strapsWord_fields x
  refine ⟨_, okSettled_calm (hline.calm hreset.calm), ?_⟩
  generalize runTimeline x t = u at *
  generalize t.setReg Reg.BSQ_STRAPS (strapsWord x) = v at *
  refine ⟨?_, fun c _ => (hline.run c).trans (hreset.notStarted c), ?_, ?_, ?_, ?_, ?_, ?_, ?_, ?_, ?_⟩
  · show u.pending = _
    rw [hline.only, hreset.only]
  · exact hline.boot.1.trans (by rw [hreset.only]; rfl)
  · show u.pwr.halted = _
    rw [hline.only]; exact hreset.halted
  · exact (congrArg (fget · 4 3) hstraps).trans hsel
  · exact (congrArg (bget · 2) hstraps).trans hlead
  · exact (congrArg (fget · 1 0) hstraps).trans hid
  · show u.now = _
    rw [State.now, hline.only, hreset.only]; rfl
  · show u.close = _
    rw [hline.only, hreset.only]; rfl
  · show u.keep = _
    rw [hline.only, hreset.only]
  · exact hline.boot.2.trans (by rw [hreset.only])

/-! ### The reset pin -/

/-- The bits that a fold sets. -/
theorem foldl_set256 {m : Nat} (hm : m < 256) (c : Nat → Bool) : ∀ (l : List Nat) (p : BitVec 256),
    (l.foldl (fun p k => if c k then set256 k true p else p) p).getLsbD m = (p.getLsbD m || (l.contains m && c m))
  | [], p => by simp
  | k :: l, p => by
    rw [List.foldl_cons, foldl_set256 hm c l, List.contains_cons]
    by_cases hk : m = k
    · subst hk
      cases hc : c m <;> simp [set256_true_getLsbD _ hm]
    · have hne : (m == k) = false := beq_eq_false_iff_ne.2 hk
      cases hc : c k <;> simp [set256_true_getLsbD _ hm, hk, hne]

/-- What a command latches where nothing waits is latched already at its end. -/
theorem latched_levelPend {s : State} (h : Drained s) : (latched s).eiu.pend = levelPend (latched s) := by
  have hqueue : (latched s).eiu.pend = levelPend s := by
    show queuedPend s = _
    rw [queuedPend, h.1, h.2]; rfl
  show _ = levelSources.foldl (fun p k => if levelOn s k && !inService s k then set256 k true p else p) (latched s).eiu.pend
  rw [hqueue]
  apply BitVec.eq_of_getLsbD_eq
  intro m hm
  have hbits := fun p => foldl_set256 hm (fun k => levelOn s k && !inService s k) levelSources p
  rw [levelPend, hbits, hbits, hbits, Bool.or_assoc, Bool.or_self]

/-- The device u after a reset from s, with the reset pin held low. -/
def pinHeld (s u : State) : State :=
  { u with boot := { u.boot with inReset := true }, pwr := { u.pwr with halted := s.pwr.halted, recov := s.pwr.recov } }

theorem pinHeld_calm {u : State} (s : State) (h : Calm u) : Calm (pinHeld s u) := h.of_same rfl rfl rfl rfl (.of_cores rfl) rfl rfl

theorem pinHeld_spec {s u : State} (h : WasReset s u) : (latched (pinHeld s u)).boot.inReset = true ∧
    (∀ c, c < 8 → ((latched (pinHeld s u)).core c).run = .notStarted) ∧ (latched (pinHeld s u)).pwr.halted = s.pwr.halted ∧
    (latched (pinHeld s u)).now = 0 ∧ (latched (pinHeld s u)).pending = s.pending ∧ (latched (pinHeld s u)).eiu.pend = levelPend (latched (pinHeld s u)) ∧
    (latched (pinHeld s u)).keep = s.keep := by
  refine ⟨rfl, fun c _ => h.notStarted c, rfl, ?_, ?_, latched_levelPend (pinHeld_calm s h.calm).sources, ?_⟩
  · show u.now = 0
    rw [State.now, h.only]; rfl
  · show u.pending = _
    rw [h.only]
  · show u.keep = _
    rw [h.only]

theorem reset_held (s : State) : ∃ t, exec .resetNLow s = .next t ∧ t.boot.inReset = true ∧ (∀ c, c < 8 → (t.core c).run = .notStarted) ∧
    t.pwr.halted = s.pwr.halted ∧ t.now = 0 ∧ t.pending = s.pending ∧ t.eiu.pend = levelPend t ∧ t.keep = s.keep := by
  have hreset := resetDevice_wasReset false s
  exact ⟨latched (pinHeld s (resetDevice false s)), okSettled_calm (pinHeld_calm s hreset.calm), pinHeld_spec hreset⟩

/-- A device that an orderly halt holds stays halted when the pin rises. -/
theorem rise_halted (x : Straps) {s : State} (h : Calm s) (hhalt : s.pwr.halted = true) :
    ∃ t, exec (.resetNRise x) s = .next t ∧ t.boot.inReset = false ∧ t.pwr.halted = true ∧ Idles s t := by
  have hcalm : Calm { s with boot := { s.boot with inReset := false } } := h.of_same rfl rfl rfl rfl (.of_cores rfl) rfl rfl
  refine ⟨latched { s with boot := { s.boot with inReset := false } }, ?_, rfl, hhalt, fun _ _ => rfl, rfl, rfl, rfl, rfl, rfl, rfl, rfl⟩
  show execResetNRise x s = _
  rw [execResetNRise, hhalt, if_pos rfl, okSettled_calm hcalm]

/-- Settles O29: the reset pin, the release after a halt and a host reset. -/
theorem startUp : Obligations.StartUp := by
  intro x s h
  have starts := fun cold => timeline_starts x (resetDevice_wasReset cold s)
  refine ⟨starts true, fun hrun => ?_, rise_halted x h, reset_held s, fun hhalt hsupply hout => ?_, fun p hp hdue => ?_⟩
  · show ∃ t, execResetNRise x s = .next t ∧ Starts x s t
    rw [execResetNRise, hrun]
    exact starts false
  · show ∃ t, execHaltRelease x s = .next t ∧ Starts x s t
    rw [execHaltRelease, hhalt, hout, decide_eq_true hsupply]
    exact starts false
  · show ∃ t, execHostReset x s = .next t ∧ Starts x s t
    rw [execHostReset, hostResetCmd, hp]
    dsimp only
    rw [if_pos hdue]
    exact starts false

end Sys2Proof.Machine
end


section
/-!
SUPPORT. Packets at a Cuff port (R377-R390): what the port itself keeps and changes, and when nothing more leaves it.
-/
set_option linter.constructorNameAsVariable false

namespace Sys2Proof.Machine

/-! ### The state of a port -/

@[simp] theorem cufP_setCuf_self (n : Nat) (c : CufPort) (s : State) : (s.setCuf n c).cufP n = c := SMap.getD_put_self ..
theorem cufP_setCuf_ne {n m : Nat} (h : m ≠ n) (c : CufPort) (s : State) : (s.setCuf n c).cufP m = s.cufP m := SMap.getD_put_ne h ..
@[simp] theorem cufP_updCuf_self (n : Nat) (f : CufPort → CufPort) (s : State) : (updCuf n f s).cufP n = f (s.cufP n) := SMap.getD_put_self ..
theorem cufP_updCuf_ne {n m : Nat} (h : m ≠ n) (f : CufPort → CufPort) (s : State) : (updCuf n f s).cufP m = s.cufP m := SMap.getD_put_ne h ..
@[simp] theorem reg_updCuf (n : Nat) (f : CufPort → CufPort) (s : State) (a : Nat) : (updCuf n f s).reg a = s.reg a := rfl
@[simp] theorem fld_updCuf (n : Nat) (f : CufPort → CufPort) (s : State) (a hi lo : Nat) : (updCuf n f s).fld a hi lo = s.fld a hi lo := rfl
@[simp] theorem bit_updCuf (n : Nat) (f : CufPort → CufPort) (s : State) (a i : Nat) : (updCuf n f s).bit a i = s.bit a i := rfl

/-- From s to t registers and the state of port n may have changed. -/
structure AtPort (n : Nat) (s t : State) : Prop where
  only : t = { s with regs := t.regs, cuf := t.cuf }
  other : ∀ m, m ≠ n → t.cufP m = s.cufP m

theorem AtPort.refl (n : Nat) (s : State) : AtPort n s s := ⟨rfl, fun _ _ => rfl⟩

theorem AtPort.trans {n : Nat} {s t u : State} (h : AtPort n s t) (g : AtPort n t u) : AtPort n s u :=
  ⟨by rw [g.only, h.only], fun m hm => (g.other m hm).trans (h.other m hm)⟩

theorem RegsOnly.atPort {s t : State} (h : RegsOnly s t) (n : Nat) : AtPort n s t :=
  ⟨by unfold RegsOnly at h; rw [h], fun m _ => h.get_cufP m⟩

theorem atPort_updCuf (n : Nat) (f : CufPort → CufPort) (s : State) : AtPort n s (updCuf n f s) := ⟨rfl, fun _ hm => cufP_updCuf_ne hm ..⟩

theorem atPort_setCuf (n : Nat) (c : CufPort) (s : State) : AtPort n s (s.setCuf n c) := ⟨rfl, fun _ hm => cufP_setCuf_ne hm ..⟩

theorem AtPort.foldl {n : Nat} {β : Type} {f : State → β → State} (h : ∀ s x, AtPort n s (f s x)) (l : List β) : ∀ s, AtPort n s (l.foldl f s) := by
  induction l with
  | nil => exact .refl n
  | cons x l ih => exact fun s => (h s x).trans (ih _)

theorem AtPort.memory {n : Nat} {s t : State} (h : AtPort n s t) : SameMemory s t := by rw [h.only]; exact ⟨rfl, rfl, rfl, rfl, rfl, rfl⟩

theorem AtPort.calm {n : Nat} {s t : State} (h : AtPort n s t) (hs : Calm s) (hw : (t.cufP n).waiting = []) (hr : (t.cufP n).rxq = []) : Calm t where
  flaws := by rw [h.only]; exact hs.flaws
  held := by rw [h.only]; exact hs.held
  retired c hc := by rw [h.only]; exact hs.retired c hc
  blocked := by rw [h.only]; exact hs.blocked
  inter := by rw [h.only]; exact hs.inter
  waiting m hm := by
    by_cases e : m = n
    · rwa [e]
    · rw [h.other m e]; exact hs.waiting m hm
  rxq m hm := by
    by_cases e : m = n
    · rwa [e]
    · rw [h.other m e]; exact hs.rxq m hm
  draining k hk := by rw [h.only]; exact hs.draining k hk
  stores k hk := by rw [h.only]; exact hs.stores k hk
  sources := by rw [h.only]; exact hs.sources

/-! ### When a port has nothing to send -/

/-- Port n sends nothing more by itself. -/
def Quiet (n : Nat) (s : State) : Prop := cufUp s n = true → nextVc s n = none

theorem cufPump_quiet {n : Nat} {s : State} (h : Quiet n s) (f : Nat) : cufPump n f s = s := by
  cases f with
  | zero => rfl
  | succ f =>
    rw [cufPump]
    split
    · rename_i hup; rw [h hup]
    · rfl

theorem vcReady_empty {n : Nat} {s : State} (h : (s.cufP n).outq = []) (v : Nat) : vcReady s n v = false := by
  simp [vcReady, h]

theorem quiet_empty {n : Nat} {s : State} (h : (s.cufP n).outq = []) : Quiet n s := fun _ => by
  simp [nextVc, vcReady_empty h]

/-- What a port's choice of the next packet rests on. -/
structure SameQueue (c d : CufPort) : Prop where
  outq : d.outq = c.outq
  credits : d.credits = c.credits
  replay : d.replay = c.replay
  rr : d.rr = c.rr

theorem Quiet.keeps {n : Nat} {s : State} {f : CufPort → CufPort} (h : Quiet n s) (hf : SameQueue (s.cufP n) (f (s.cufP n))) : Quiet n (updCuf n f s) := by
  have hready : ∀ v, vcReady (updCuf n f s) n v = vcReady s n v := fun v => by
    have hjoin : cufJoined (updCuf n f s) n = cufJoined s n := rfl
    have hopen : openVc (updCuf n f s) n v = openVc s n v := rfl
    simp only [vcReady, replaySlots, cufP_updCuf_self, hf.outq, hf.credits, hf.replay, hjoin, hopen] <;> rfl
  intro hup
  have := h hup
  simpa only [nextVc, hready, cufP_updCuf_self, hf.rr] using this

/-- A port without a message of the stream engine and with nothing to send is left as it is. -/
theorem msgPump_quiet {n : Nat} {s : State} (hm : (s.cufP n).msgs = []) (h : Quiet n s) (f : Nat) : msgPump n f s = s := by
  cases f with
  | zero => rfl
  | succ f => simp [msgPump, hm, cufPump_quiet h]

theorem servePump_none {n : Nat} {s : State} (h : SMap.find n s.cns.serve = none) (f : Nat) : servePump n f s = s := by
  cases f with
  | zero => rfl
  | succ f => simp [servePump, h]

end Sys2Proof.Machine
end


section
/-!
SUPPORT. A packet with a good CRC and no fault arrives at a Cuff port (R375, R377-R390): what the port notes, and how far the packet comes.
-/
set_option linter.constructorNameAsVariable false

namespace Sys2Proof.Machine

/-! ### What the port notes -/

def laneRegs (n : Nat) : List Nat := (List.range 4).map (fun l => Reg.CUF_LANE_BLOCKS n l)

/-- The registers that a packet in its turn moves: the packet count, the lanes' blocks and the slots received. -/
def recvRegs (n : Nat) : List Nat := Reg.CUF_RX_PKT_CNT n :: (laneRegs n ++ (List.range 9).map (fun v => Reg.CUF_RXSLOT n v))

theorem laneBlocks_eq (n k : Nat) (s : State) : laneBlocks n k s = (((s.addTo (Reg.CUF_LANE_BLOCKS n 0) k).addTo (Reg.CUF_LANE_BLOCKS n 1) k).addTo
    (Reg.CUF_LANE_BLOCKS n 2) k).addTo (Reg.CUF_LANE_BLOCKS n 3) k := by
  simp only [laneBlocks, List.range_succ, List.range_zero, List.nil_append, List.cons_append, List.foldl_cons, List.foldl_nil]

theorem laneBlocks_only (n k : Nat) (s : State) : RegsOnly s (laneBlocks n k s) := .foldl _ (fun _ _ => regsOnly_addTo ..) _ s

theorem laneBlocks_regsBut (n k : Nat) (s : State) : RegsBut (laneRegs n) s (laneBlocks n k s) := by
  intro a ha
  simp only [laneRegs, List.mem_map, List.mem_range, not_exists, not_and] at ha
  have h : ∀ l, l < 4 → a ≠ Reg.CUF_LANE_BLOCKS n l := fun l hl e => ha l hl e.symm
  rw [laneBlocks_eq, reg_addTo_ne (h 3 (by decide)), reg_addTo_ne (h 2 (by decide)), reg_addTo_ne (h 1 (by decide)), reg_addTo_ne (h 0 (by decide))]

theorem laneBlocks_lane {n l : Nat} (hl : l < 4) (k : Nat) (s : State) :
    (laneBlocks n k s).reg (Reg.CUF_LANE_BLOCKS n l) = s.reg (Reg.CUF_LANE_BLOCKS n l) + BitVec.ofNat 40 k := by
  have hinj : ∀ a b : Nat, Reg.CUF_LANE_BLOCKS n a = Reg.CUF_LANE_BLOCKS n b ↔ a = b := fun a b => by simp only [Reg.CUF_LANE_BLOCKS]; omega
  rw [laneBlocks_eq]
  simp only [State.addTo, reg_setReg, hinj]
  interval_cases l <;> rfl

theorem recvRegs_apart {n a : Nat} (ha : a < 0x228000 + 0x1000 * n + 0x10 ∨ 0x228000 + 0x1000 * n + 0xa0 ≤ a) : a ∉ recvRegs n := by
  simp only [recvRegs, laneRegs, List.mem_cons, List.mem_append, List.mem_map, List.mem_range, not_or, not_exists, not_and, Reg.CUF_RX_PKT_CNT,
    Reg.CUF_LANE_BLOCKS, Reg.CUF_RXSLOT]
  exact ⟨by omega, fun l hl => by omega, fun v hv => by omega⟩

/-- The parts of a port that receiving moves. -/
def RecvOnly (c d : CufPort) : Prop :=
  d = { c with nextRx := d.nextRx, lastGood := d.lastGood, rxSlot := d.rxSlot, rxocc := d.rxocc, owed := d.owed, rxq := d.rxq }

theorem RecvOnly.trans {c d e : CufPort} (h : RecvOnly c d) (g : RecvOnly d e) : RecvOnly c e := by unfold RecvOnly at *; rw [g, h]

/-- Port n has counted and noted a good packet, and receiving has moved nothing else but what it keeps of the order and the room. -/
structure Comes (n : Nat) (s u : State) : Prop where
  at_port : AtPort n s u
  regs : RegsBut (recvRegs n) s u
  count : u.reg (Reg.CUF_RX_PKT_CNT n) = s.reg (Reg.CUF_RX_PKT_CNT n) + 1
  good : (u.cufP n).lastGood = s.tb.pulses
  port : RecvOnly (s.cufP n) (u.cufP n)
  rxq : (u.cufP n).rxq = (s.cufP n).rxq

/-- A packet has arrived and is counted. -/
def heardAt (n : Nat) (x : CufRx) (s : State) : State :=
  updCuf n (fun c => { c with lastGood := s.tb.pulses }) ((cufSlots n x s).inc (Reg.CUF_RX_PKT_CNT n))

section
variable (n : Nat) (x : CufRx) (s : State)

theorem heardAt_cufP : (heardAt n x s).cufP n = { s.cufP n with rxSlot := (s.cufP n).rxSlot + (x.data.length + 2), lastGood := s.tb.pulses } := by
  rw [heardAt, cufP_updCuf_self, inc_get_cufP, cufSlots, cufP_updCuf_self, (laneBlocks_only ..).get_cufP]

theorem heardAt_atPort : AtPort n s (heardAt n x s) :=
  (((laneBlocks_only ..).atPort n).trans (atPort_updCuf ..)).trans (((regsOnly_inc ..).atPort n).trans (atPort_updCuf ..))

theorem cufSlots_reg (a : Nat) : (cufSlots n x s).reg a = (laneBlocks n (rowsDone (s.cufP n).rxSlot (x.data.length + 2)) s).reg a := rfl

theorem heardAt_regs : RegsBut (Reg.CUF_RX_PKT_CNT n :: laneRegs n) s (heardAt n x s) := by
  intro a ha
  rw [List.mem_cons, not_or] at ha
  rw [heardAt, reg_updCuf, reg_inc_ne ha.1, cufSlots_reg]
  exact laneBlocks_regsBut n _ s a ha.2

theorem heardAt_count : (heardAt n x s).reg (Reg.CUF_RX_PKT_CNT n) = s.reg (Reg.CUF_RX_PKT_CNT n) + 1 := by
  have hlane : Reg.CUF_RX_PKT_CNT n ∉ laneRegs n := by
    simp only [laneRegs, List.mem_map, List.mem_range, not_exists, not_and, Reg.CUF_RX_PKT_CNT, Reg.CUF_LANE_BLOCKS]; omega
  rw [heardAt, reg_updCuf, reg_inc_self, cufSlots_reg, laneBlocks_regsBut n _ s _ hlane]

theorem heardAt_comes : Comes n s (heardAt n x s) where
  at_port := heardAt_atPort n x s
  regs a ha := heardAt_regs n x s a fun h => ha (by simp only [recvRegs, List.mem_cons, List.mem_append] at h ⊢; tauto)
  count := heardAt_count n x s
  good := by rw [heardAt_cufP]
  port := by rw [heardAt_cufP]; rfl
  rxq := by rw [heardAt_cufP]

/-- A sequenced packet has arrived in its turn. -/
def turned : State :=
  (updCuf n (fun c => { c with nextRx := (c.nextRx + 1) % 4096 }) (heardAt n x s)).addTo (Reg.CUF_RXSLOT n (rxPkt x).vc) (2 + sget x.hdr 45 42)

theorem turned_cufP : (turned n x s).cufP n = { (heardAt n x s).cufP n with nextRx := ((s.cufP n).nextRx + 1) % 4096 } := by
  rw [turned, addTo_get_cufP, cufP_updCuf_self, heardAt_cufP]

theorem turned_next : ((turned n x s).cufP n).nextRx = ((s.cufP n).nextRx + 1) % 4096 := by rw [turned_cufP]

variable {n x}

theorem turned_comes (hv : (rxPkt x).vc < 9) : Comes n s (turned n x s) where
  at_port := (heardAt_atPort n x s).trans ((atPort_updCuf ..).trans ((regsOnly_addTo ..).atPort n))
  regs a ha := by
    have hne : a ≠ Reg.CUF_RXSLOT n (rxPkt x).vc := fun e => ha (by
      simp only [recvRegs, List.mem_cons, List.mem_append, List.mem_map, List.mem_range]; exact .inr (.inr ⟨_, hv, e.symm⟩))
    rw [turned, reg_addTo_ne hne, reg_updCuf]
    exact (heardAt_comes n x s).regs a ha
  count := by
    rw [turned, reg_addTo_ne (by simp only [Reg.CUF_RX_PKT_CNT, Reg.CUF_RXSLOT]; omega), reg_updCuf]
    exact heardAt_count n x s
  good := by rw [turned_cufP]; exact (heardAt_comes n x s).good
  port := by rw [turned_cufP, heardAt_cufP]; rfl
  rxq := by rw [turned_cufP]; exact (heardAt_comes n x s).rxq

end

section
variable {n : Nat} {s u : State} (h : Comes n s u)
include h

theorem Comes.moves {f : CufPort → CufPort} (hf : RecvOnly (u.cufP n) (f (u.cufP n))) (hgood : (f (u.cufP n)).lastGood = (u.cufP n).lastGood)
    (hrxq : (f (u.cufP n)).rxq = (u.cufP n).rxq) : Comes n s (updCuf n f u) where
  at_port := h.at_port.trans (atPort_updCuf ..)
  regs := h.regs
  count := h.count
  good := by rw [cufP_updCuf_self, hgood]; exact h.good
  port := by rw [cufP_updCuf_self]; exact h.port.trans hf
  rxq := by rw [cufP_updCuf_self, hrxq]; exact h.rxq

theorem Comes.kept : (u.cufP n).outq = (s.cufP n).outq ∧ (u.cufP n).replay = (s.cufP n).replay ∧ (u.cufP n).msgs = (s.cufP n).msgs ∧
    (u.cufP n).waiting = (s.cufP n).waiting := by
  rw [h.port]; exact ⟨rfl, rfl, rfl, rfl⟩

theorem Comes.calm (hs : Calm s) (hn : n < 2) : Calm u :=
  h.at_port.calm hs (h.kept.2.2.2.trans (hs.waiting n hn)) (h.rxq.trans (hs.rxq n hn))

theorem Comes.fld {a : Nat} (ha : a < 0x228000 + 0x1000 * n + 0x10 ∨ 0x228000 + 0x1000 * n + 0xa0 ≤ a) (hi lo : Nat) : u.fld a hi lo = s.fld a hi lo := by
  simp only [State.fld, h.regs a (recvRegs_apart ha)]

theorem Comes.bit {a : Nat} (ha : a < 0x228000 + 0x1000 * n + 0x10 ∨ 0x228000 + 0x1000 * n + 0xa0 ≤ a) (i : Nat) : u.bit a i = s.bit a i := by
  simp only [State.bit, h.regs a (recvRegs_apart ha)]

end

end Sys2Proof.Machine
end


section
/-!
SUPPORT. The way of a packet without a fault through its port (R378-R390): to what its type does, or to the receive buffer and out of it.
-/
set_option linter.constructorNameAsVariable false

namespace Sys2Proof.Machine

/-- Slots that a packet takes up are owed to the partner. -/
def owe (n v k : Nat) (s : State) : State := updCuf n (fun c => { c with owed := bump c.owed v k }) s

/-- A packet leaves the receive buffer. -/
def bufferFreed (n : Nat) (p : CufPkt) (s : State) : State :=
  updCuf n (fun c => { c with rxocc := dec c.rxocc p.vc (1 + p.len), owed := bump c.owed p.vc (1 + p.len) }) s

/-- A packet has come into the receive buffer, and is taken out of it. -/
def admitted (n : Nat) (x : CufRx) (s : State) : State :=
  updCuf n (fun c => { c with rxq := [] })
    (updCuf n (fun c => { c with rxq := c.rxq ++ [rxPkt x], rxocc := bump c.rxocc (rxPkt x).vc (1 + sget x.hdr 45 42) }) (turned n x s))

theorem cufAck_none (n seq : Nat) (hdr : BitVec 80) (s : State) : cufAck n 0 seq hdr s = s := if_pos rfl

section
variable {n : Nat} {x : CufRx} {s : State} {kind ackk : Nat} (h : Arrives s n x kind ackk)
include h

theorem Arrives.state_eq : cufState s n = 2 ∨ (cufState s n = 1 ∧ (s.cufP n).gotTs2 = true ∧ seqType kind = false) := h.state

theorem cufHeard_noReturns : cufHeard n x (cufSlots n x s) = cufAck n (sget x.hdr 59 58) (sget x.hdr 57 46) x.hdr (heardAt n x s) := by
  obtain ⟨h1, h2⟩ := h.noReturns
  simp only [cufHeard, cufReturn, h1, h2, if_true]
  rfl

theorem cufSlots_resync : (cufSlots n x s).bit (Reg.CUF_STATUS n) 3 = false := by
  have hlane : Reg.CUF_STATUS n ∉ laneRegs n := by
    simp only [laneRegs, List.mem_map, List.mem_range, not_exists, not_and, Reg.CUF_STATUS, Reg.CUF_LANE_BLOCKS]; omega
  rw [State.bit, cufSlots_reg, laneBlocks_regsBut n _ s _ hlane]
  exact h.noResync

/-- An unsequenced packet does what its type says, after its acknowledgment. -/
theorem cufReceive_unsequenced (hseq : seqType kind = false) (h8 : (rxPkt x).vc = 8) (srv : Server) (seq uns : CufPkt → State → State) :
    cufReceive srv n x seq uns s =
      msgPump n 64 (uns (rxPkt x) (cufAck n (sget x.hdr 59 58) (sget x.hdr 57 46) x.hdr (heardAt n x s))) := by
  obtain ⟨hvalid, hcrc, hzero, hlen⟩ := h.good
  have hkind : seqType (rxPkt x).type = false := by rw [h.isKind, hseq]
  have hhears : (!(cufState s n == 1 || cufState s n == 2 || cufState s n == 3) || (cufState s n != 2 && !(s.cufP n).gotTs2)) = false := by
    rcases h.state_eq with e | ⟨e, hts, -⟩ <;> simp [*]
  simp only [cufReceive, hhears, cufSlots_resync h, hvalid, hcrc, hkind, hlen, hzero, h8, cufHeard_noReturns h, Bool.not_true, Bool.or_self,
    Bool.false_eq_true, if_false, decide_true, Bool.and_self, if_true, ne_eq, not_true_eq_false, decide_false]

/-- A sequenced packet in its turn is taken. -/
theorem cufReceive_sequenced (hseq : seqType kind = true) (hack : ackk = 0) (srv : Server) (seq uns : CufPkt → State → State) :
    cufReceive srv n x seq uns s = msgPump n 64 (cufTakeSeq srv n x seq (heardAt n x s)) := by
  obtain ⟨hvalid, hcrc, -, -⟩ := h.good
  have hkind : seqType (rxPkt x).type = true := by rw [h.isKind, hseq]
  have hup : cufState s n = 2 := h.state_eq.resolve_right fun e => by simp [hseq] at e
  have hnext : ((heardAt n x s).cufP n).nextRx = (rxPkt x).seq := by rw [heardAt_cufP]; exact (h.inTurn hseq).symm
  have hnow : ((rxPkt x).seq + 4096 - (rxPkt x).seq) % 4096 = 0 := by rw [Nat.add_sub_cancel_left]
  have hacks : sget x.hdr 59 58 = 0 := h.acks.trans hack
  simp only [cufReceive, hup, cufSlots_resync h, hvalid, hcrc, hkind, cufHeard_noReturns h, hacks, cufAck_none, hnext, hnow, Bool.not_true, Bool.or_self,
    Bool.false_eq_true, if_false, if_true, OfNat.ofNat_ne_one, Nat.reduceBEq, Bool.or_true, Bool.true_or, bne_self_eq_false, Bool.false_and]

section
variable (hseq : seqType kind = true)
include hseq

/-- What the checks of a sequenced packet ask, once the port has noted it. -/
theorem Arrives.checks (hk : kind < 13) (hv : (rxPkt x).vc < 9) : ¬ 13 ≤ (rxPkt x).type ∧
    ¬ (decide (8 < (rxPkt x).vc) || !openVc (turned n x s) n (rxPkt x).vc) = true ∧
    ¬ (!vcClassOk (rxPkt x).type (rxPkt x).vc) = true ∧ ¬ (!lenOk (rxPkt x) (sget x.hdr 45 42)) = true ∧
    ¬ allocOf (turned n x s) n (rxPkt x).vc < SMap.getD 0 (rxPkt x).vc ((turned n x s).cufP n).rxocc +
      SMap.getD 0 (rxPkt x).vc ((turned n x s).cufP n).owed + 1 + sget x.hdr 45 42 ∧
    ¬ (decide ((rxPkt x).vc ≠ 8) && !cufJoined (turned n x s) n) = true := by
  have hc := turned_comes (n := n) (x := x) s hv
  have hopen : openVc (turned n x s) n (rxPkt x).vc = openVc s n (rxPkt x).vc := by
    have hcfg := hc.fld (a := Reg.CUF_VCCFG n) (by simp only [Reg.CUF_VCCFG]; omega)
    unfold openVc reqVcs rspVcs
    rw [hcfg, hcfg]
  have hjoin : cufJoined (turned n x s) n = cufJoined s n := hc.bit (by simp only [Reg.CUF_STATUS]; omega) 4
  have halloc : allocOf (turned n x s) n (rxPkt x).vc = allocOf s n (rxPkt x).vc := by simp only [allocOf, turned_cufP, heardAt_cufP]
  have hroom := h.room hseq
  refine ⟨?_, ?_, ?_, ?_, ?_, ?_⟩
  · rw [h.isKind]; omega
  · simp only [hopen, h.vc.2]; simp; omega
  · rw [h.isKind, h.vc.1]; simp
  · rw [h.good.2.2.2]; simp
  · rw [halloc, turned_cufP, heardAt_cufP]; dsimp only; omega
  · simp only [hjoin, ne_eq, decide_not, Bool.and_eq_true, Bool.not_eq_true', decide_eq_false_iff_not, not_and, Bool.not_eq_false]
    exact h.member

theorem cufTakeSeq_checked (hk : kind < 13) (hv : (rxPkt x).vc < 9) (srv : Server) (act : CufPkt → State → State) :
    cufTakeSeq srv n x act (heardAt n x s) =
      (if (rxPkt x).type = 5 then owe n (rxPkt x).vc (1 + sget x.hdr 45 42) (cufTakeRsp n (rxPkt x) x.hdr (turned n x s))
      else if (rxPkt x).vc = 8 then owe n (rxPkt x).vc (1 + sget x.hdr 45 42) (act (rxPkt x) (turned n x s))
      else if isReqType (rxPkt x).type && ((SMap.find (rxPkt x).tag8 ((turned n x s).cufP n).inTags).isSome ||
          ((turned n x s).cufP n).rxq.any (fun q => isReqType q.type && q.tag8 == (rxPkt x).tag8 && q.tag != 1)) then
        cufRefuse n (rxPkt x) true false (cufViol n 9 x.hdr (turned n x s))
      else cufDeliver srv n (updCuf n (fun c => { c with rxq := c.rxq ++ [rxPkt x], rxocc := bump c.rxocc (rxPkt x).vc (1 + sget x.hdr 45 42) }) (turned n x s))) := by
  obtain ⟨h1, h2, h3, h4, h5, h6⟩ := h.checks hseq hk hv
  have hzero := h.good.2.2.1
  have hslots : (if (rxPkt x).vc ≤ 8 then (updCuf n (fun c => { c with nextRx := (c.nextRx + 1) % 4096 }) (heardAt n x s)).addTo (Reg.CUF_RXSLOT n (rxPkt x).vc) (2 + sget x.hdr 45 42)
      else updCuf n (fun c => { c with nextRx := (c.nextRx + 1) % 4096 }) (heardAt n x s)) = turned n x s := if_pos (by omega)
  unfold cufTakeSeq
  simp only [hslots, h1, if_false]
  rw [if_neg h2, if_neg h3, if_neg h4, if_neg h5, if_neg h6]
  simp only [hzero, if_true]
  rfl

end

end

/-! ### The end of an arrival -/

/-- A port that has heard its packet, as the rest of the device finds it. -/
theorem rowRx_ends {n : Nat} {x : CufRx} {s u : State} (hu : cufReceive busSrv n x (mgmtPacket n []) (unseqPacket n x.hdr) s = u) (hc : Calm u)
    (hs : ∀ m, m < 2 → SMap.find m u.cns.serve = none) (hn : n < 2) : rowRx n x s = .next (latched u) := by
  rw [rowRx, cufRx, hu, servePump_none (hs (1 - n) (by omega)), servePump_none (hs n hn), okSettled_calm hc]

theorem Comes.heard {n k : Nat} {s u : State} (h : Comes n s u) (hturn : (u.cufP n).nextRx = if seqType k then ((s.cufP n).nextRx + 1) % 4096 else (s.cufP n).nextRx) :
    Heard n k s u := ⟨h.count, h.good, hturn⟩

theorem Heard.latched {n k : Nat} {s u : State} (h : Heard n k s u) : Heard n k s (latched u) := ⟨h.count, h.good, h.turn⟩

end Sys2Proof.Machine
end


section
/-!
SUPPORT. What leaves a Cuff port (R383, R385, R389): one packet, and a queue of one packet.
-/
set_option linter.constructorNameAsVariable false

namespace Sys2Proof.Machine

/-- The parts of a port that sending moves. -/
def SendOnly (c d : CufPort) : Prop :=
  d = { c with owed := d.owed, retTotal := d.retTotal, injCredit := d.injCredit, injCrc := d.injCrc, txSlot := d.txSlot, lastSent := d.lastSent }

theorem SendOnly.trans {c d e : CufPort} (h : SendOnly c d) (g : SendOnly d e) : SendOnly c e := by unfold SendOnly at *; rw [g, h]

/-- A packet p has left port n. -/
structure Leaves (n : Nat) (p : CufPkt) (s t : State) : Prop where
  at_port : AtPort n s t
  regs : RegsBut [Reg.CUF_TX_PKT_CNT n, Reg.CUF_UNSEQ_CNT n, Reg.CUF_TXSLOT n p.vc] s t
  count : t.reg (Reg.CUF_TX_PKT_CNT n) = s.reg (Reg.CUF_TX_PKT_CNT n) + 1
  unseq : seqType p.type = false → t.reg (Reg.CUF_UNSEQ_CNT n) = s.reg (Reg.CUF_UNSEQ_CNT n) + 1
  port : SendOnly (s.cufP n) (t.cufP n)
  last : (t.cufP n).lastSent.map (fun q => q.pkt) = some p

/-- The credits that a packet returns. -/
def withReturns (rs : List (Nat × Nat)) (c : CufPort) : CufPort :=
  rs.foldl (fun c r => { c with owed := dec c.owed r.1 r.2, retTotal := SMap.put 0 r.1 ((SMap.getD 0 r.1 c.retTotal + r.2) % 65536) c.retTotal }) c

theorem withReturns_only : ∀ (rs : List (Nat × Nat)) (c : CufPort), SendOnly c (withReturns rs c)
  | [], _ => rfl
  | _ :: rs, c => SendOnly.trans (d := { c with owed := _, retTotal := _ }) rfl (withReturns_only rs _)

/-- The port after a packet has left. -/
def sentPort (n : Nat) (p : CufPkt) (ackk : Nat) (s : State) : CufPort :=
  let rs := takeReturns s n
  let c := withReturns rs (s.cufP n)
  { c with injCredit := false, injCrc := false, txSlot := c.txSlot + 2 + p.len,
           lastSent := some ⟨p, ackk, (c.nextRx + 4095) % 4096, c.injCrc, c.injCredit, rs, c.txSlot⟩ }

theorem cufSend_eq (n : Nat) (p : CufPkt) (ackk : Nat) (s : State) : cufSend n p ackk s =
    (if seqType p.type then ((s.setCuf n (sentPort n p ackk s)).inc (Reg.CUF_TX_PKT_CNT n)).addTo (Reg.CUF_TXSLOT n p.vc) (2 + p.len)
      else (((s.setCuf n (sentPort n p ackk s)).inc (Reg.CUF_TX_PKT_CNT n)).addTo (Reg.CUF_TXSLOT n p.vc) (2 + p.len)).inc (Reg.CUF_UNSEQ_CNT n)) := rfl

theorem cufSend_leaves (n : Nat) (p : CufPkt) (ackk : Nat) (s : State) : Leaves n p s (cufSend n p ackk s) := by
  have hslot : Reg.CUF_TX_PKT_CNT n ≠ Reg.CUF_TXSLOT n p.vc ∧ Reg.CUF_UNSEQ_CNT n ≠ Reg.CUF_TXSLOT n p.vc ∧ Reg.CUF_UNSEQ_CNT n ≠ Reg.CUF_TX_PKT_CNT n ∧
      Reg.CUF_TX_PKT_CNT n ≠ Reg.CUF_UNSEQ_CNT n := by
    simp only [Reg.CUF_TX_PKT_CNT, Reg.CUF_TXSLOT, Reg.CUF_UNSEQ_CNT]; omega
  obtain ⟨htx, hun, huntx, htxun⟩ := hslot
  have hport : SendOnly (s.cufP n) (sentPort n p ackk s) := (withReturns_only (takeReturns s n) (s.cufP n)).trans rfl
  rw [cufSend_eq]
  split
  · rename_i hseq
    refine ⟨((atPort_setCuf ..).trans ((regsOnly_inc ..).atPort n)).trans ((regsOnly_addTo ..).atPort n), fun a ha => ?_, ?_, fun h => absurd hseq (by simp [h]), ?_, ?_⟩
    · simp only [List.mem_cons, List.not_mem_nil, or_false, not_or] at ha
      exact (reg_addTo_ne ha.2.2 ..).trans (reg_inc_ne ha.1 _)
    · exact (reg_addTo_ne htx ..).trans (reg_inc_self ..)
    · rw [addTo_get_cufP, inc_get_cufP, cufP_setCuf_self]; exact hport
    · rw [addTo_get_cufP, inc_get_cufP, cufP_setCuf_self]; rfl
  · refine ⟨(((atPort_setCuf ..).trans ((regsOnly_inc ..).atPort n)).trans ((regsOnly_addTo ..).atPort n)).trans ((regsOnly_inc ..).atPort n),
      fun a ha => ?_, ?_, fun _ => ?_, ?_, ?_⟩
    · simp only [List.mem_cons, List.not_mem_nil, or_false, not_or] at ha
      exact (reg_inc_ne ha.2.1 _).trans ((reg_addTo_ne ha.2.2 ..).trans (reg_inc_ne ha.1 _))
    · exact (reg_inc_ne htxun _).trans ((reg_addTo_ne htx ..).trans (reg_inc_self ..))
    · rw [reg_inc_self, reg_addTo_ne hun, reg_inc_ne huntx]; rfl
    · rw [inc_get_cufP, addTo_get_cufP, inc_get_cufP, cufP_setCuf_self]; exact hport
    · rw [inc_get_cufP, addTo_get_cufP, inc_get_cufP, cufP_setCuf_self]; rfl

/-! ### A queue of one packet -/

theorem nextVc_only {n v : Nat} {p : CufPkt} {s : State} (hq : (s.cufP n).outq = [p]) (h : nextVc s n = some v) : v = p.vc := by
  have hready : vcReady s n v = true := by
    unfold nextVc at h
    split at h
    · rename_i h8; rw [← Option.some.inj h]; exact h8
    · exact List.find?_some h
  by_contra hne
  rw [vcReady, hq] at hready
  simp [Ne.symm hne] at hready

/-- The port after its only queued packet has left for the first time. -/
def firstSent (n : Nat) (p : CufPkt) (s : State) : CufPort :=
  let c := s.cufP n
  { c with outq := [], replay := c.replay ++ [{ p with seq := c.txNext, sent := 1 }], txNext := (c.txNext + 1) % 4096,
           credits := dec c.credits p.vc (1 + p.len), rr := if p.vc = 8 then c.rr else p.vc,
           ackSince := if c.replay.isEmpty then s.tb.pulses else c.ackSince,
           outTags := c.outTags.map (fun e => if isReqType p.type && e.1 == p.tag && e.2.since.isNone then (e.1, { e.2 with since := some s.tb.pulses }) else e) }

theorem sendFirst_only {n : Nat} {p : CufPkt} {s : State} (hq : (s.cufP n).outq = [p]) :
    sendFirst n p.vc s = cufSend n { p with seq := (s.cufP n).txNext, sent := 1 } 1 (s.setCuf n (firstSent n p s)) := by
  have hfind : (s.cufP n).outq.find? (fun q => q.vc == p.vc) = some p := by simp [hq]
  have herase : (s.cufP n).outq.erase p = [] := by simp [hq]
  simp only [sendFirst, hfind, herase]
  rfl

/-- A packet p is the only one that port n has to send or has sent; the rest of the port is as it was. -/
structure Pumped (n : Nat) (p : CufPkt) (s t : State) : Prop where
  at_port : AtPort n s t
  quiet : Quiet n t
  first : (firstOut t n).map (fun q => (q.type, q.field, q.data)) = some (p.type, p.field, p.data)
  regs : ∀ a, a < Reg.CUF_TXSLOT n 0 → a ≠ Reg.CUF_TX_PKT_CNT n → a ≠ Reg.CUF_UNSEQ_CNT n → t.reg a = s.reg a
  order : (t.cufP n).nextRx = (s.cufP n).nextRx ∧ (t.cufP n).lastGood = (s.cufP n).lastGood
  inTags : (t.cufP n).inTags = (s.cufP n).inTags
  rest : (t.cufP n).msgs = (s.cufP n).msgs ∧ (t.cufP n).waiting = (s.cufP n).waiting ∧ (t.cufP n).rxq = (s.cufP n).rxq

theorem Pumped.unsent {n : Nat} {p : CufPkt} {s : State} (hq : (s.cufP n).outq = [p]) (hr : (s.cufP n).replay = []) (h : Quiet n s) : Pumped n p s s where
  at_port := .refl n s
  quiet := h
  first := by simp [firstOut, hq, hr]
  regs _ _ _ _ := rfl
  order := ⟨rfl, rfl⟩
  inTags := rfl
  rest := ⟨rfl, rfl, rfl⟩

theorem Pumped.sent {n : Nat} {p : CufPkt} {s : State} (hq : (s.cufP n).outq = [p]) (hr : (s.cufP n).replay = []) : Pumped n p s (sendFirst n p.vc s) := by
  have hleaves := cufSend_leaves n { p with seq := (s.cufP n).txNext, sent := 1 } 1 (s.setCuf n (firstSent n p s))
  rw [← sendFirst_only hq] at hleaves
  have hport := hleaves.port
  rw [cufP_setCuf_self] at hport
  refine ⟨(atPort_setCuf ..).trans hleaves.at_port, quiet_empty (by rw [hport]; rfl), ?_, fun a ha htx hun => hleaves.regs a ?_, ?_, ?_, ?_⟩
  · rw [firstOut, hport]; simp [firstSent, hr]
  · simp only [List.mem_cons, List.not_mem_nil, or_false, not_or]
    refine ⟨htx, hun, ?_⟩
    simp only [Reg.CUF_TXSLOT] at ha ⊢; omega
  · rw [hport]; exact ⟨rfl, rfl⟩
  · rw [hport]; rfl
  · rw [hport]; exact ⟨rfl, rfl, rfl⟩

theorem cufPump_one (f : Nat) {n : Nat} {p : CufPkt} {s : State} (hq : (s.cufP n).outq = [p]) (hr : (s.cufP n).replay = []) : Pumped n p s (cufPump n (f + 1) s) := by
  by_cases hquiet : Quiet n s
  · rw [cufPump_quiet hquiet]; exact .unsent hq hr hquiet
  · obtain ⟨hup, hnext⟩ := Classical.not_imp.1 hquiet
    obtain ⟨v, hv⟩ := Option.ne_none_iff_exists'.1 hnext
    have hsent := Pumped.sent hq hr
    rw [cufPump, if_pos hup, hv, nextVc_only hq hv]
    dsimp only
    rwa [cufPump_quiet hsent.quiet]

end Sys2Proof.Machine
end


section
/-!
SUPPORT. Unsequenced packets at a Cuff port (R386, R388, R397, R428): NULL, NAK and BALANCE.
-/
set_option linter.constructorNameAsVariable false

namespace Sys2Proof.Machine

theorem AtPort.cns {n : Nat} {s t : State} (h : AtPort n s t) : t.cns = s.cns := by rw [h.only]
theorem AtPort.tb {n : Nat} {s t : State} (h : AtPort n s t) : t.tb = s.tb := by rw [h.only]

theorem recvRegs_below {n a : Nat} (ha : a < 0x228070 + 0x1000 * n) (hne : a ≠ Reg.CUF_RX_PKT_CNT n) : a ∉ recvRegs n := by
  simp only [recvRegs, laneRegs, List.mem_cons, List.mem_append, List.mem_map, List.mem_range, not_or, not_exists, not_and, Reg.CUF_LANE_BLOCKS, Reg.CUF_RXSLOT]
  exact ⟨hne, fun l hl => by omega, fun v hv => by omega⟩

section
variable {n : Nat} {x : CufRx} {s v : State} {kind ackk : Nat} (h : Arrives s n x kind ackk) (hn : n < 2)
include h hn

/-- An unsequenced packet that leaves the port quiet has done what its type says. -/
theorem unsequenced_ends (hseq : seqType kind = false) (hvc : vcClassOk kind (rxPkt x).vc = true → (rxPkt x).vc = 8)
    (hv : unseqPacket n x.hdr (rxPkt x) (cufAck n ackk (sget x.hdr 57 46) x.hdr (heardAt n x s)) = v) (hmsgs : (v.cufP n).msgs = []) (hquiet : Quiet n v)
    (hc : Calm v) (hcns : v.cns = s.cns) : rowRx n x s = .next (latched v) := by
  refine rowRx_ends ?_ hc (fun m hm => by rw [hcns]; exact (h.idle m hm).2.2.2) hn
  rw [cufReceive_unsequenced h hseq (hvc h.vc.1), h.acks, hv, msgPump_quiet hmsgs hquiet]

theorem heardAt_idle : ((heardAt n x s).cufP n).msgs = [] ∧ ((heardAt n x s).cufP n).outq = [] ∧ ((heardAt n x s).cufP n).replay = [] := by
  obtain ⟨houtq, hreplay, hmsgs, -⟩ := (heardAt_comes n x s).kept
  obtain ⟨h1, h2, h3, -⟩ := h.idle n hn
  exact ⟨hmsgs.trans h3, houtq.trans h1, hreplay.trans h2⟩

omit h hn in
theorem heardAt_heard (hseq : seqType kind = false) : Heard n kind s (heardAt n x s) :=
  (heardAt_comes n x s).heard (by rw [heardAt_cufP, hseq]; rfl)

end

theorem unseqPacket_other {p : CufPkt} (h : p.type ∉ [9, 10, 11, 12]) (n : Nat) (hdr : BitVec 80) (s : State) : unseqPacket n hdr p s = s := by
  simp only [List.mem_cons, List.not_mem_nil, or_false, not_or] at h
  unfold unseqPacket
  split
  · omega
  · omega
  · omega
  · omega
  · rfl

/-! ### NULL (R385) -/

section
variable {n : Nat} {x : CufRx} {s : State} (hn : n < 2)
include hn

theorem null_done (h : Arrives s n x 1 0) : ∃ t, rowRx n x s = .next t ∧ Heard n 1 s t ∧ RegsBut (Reg.CUF_RX_PKT_CNT n :: laneRegs n) s t ∧ SameMemory s t := by
  obtain ⟨hmsgs, houtq, -⟩ := heardAt_idle h hn
  have hcomes := heardAt_comes n x s
  have hu : unseqPacket n x.hdr (rxPkt x) (cufAck n 0 (sget x.hdr 57 46) x.hdr (heardAt n x s)) = heardAt n x s := by
    rw [cufAck_none, unseqPacket_other (by rw [h.isKind]; decide)]
  exact ⟨_, unsequenced_ends h hn rfl (by simp [vcClassOk]) hu hmsgs (quiet_empty houtq) (hcomes.calm h.calm hn) hcomes.at_port.cns,
    (heardAt_heard rfl).latched, heardAt_regs n x s, hcomes.at_port.memory.latched⟩

/-! ### NAK (R388) -/

/-- From s to t port n has noted an acknowledgment of packets it no longer holds. -/
structure Acked (n : Nat) (l : List Nat) (s t : State) : Prop where
  at_port : AtPort n s t
  regs : RegsBut l s t
  port : t.cufP n = { s.cufP n with ackSince := (t.cufP n).ackSince, txSlot := (t.cufP n).txSlot }

omit hn in
theorem Acked.trans {t u : State} {l : List Nat} (h : Acked n l s t) (g : Acked n l t u) : Acked n l s u :=
  ⟨h.at_port.trans g.at_port, fun a ha => (g.regs a ha).trans (h.regs a ha), by rw [g.port, h.port]⟩

omit hn in
theorem Acked.mono {t : State} (h : Acked n [] s t) (l : List Nat) : Acked n l s t := ⟨h.at_port, fun a _ => h.regs a List.not_mem_nil, h.port⟩

omit hn in
theorem acked_inc (n a : Nat) (s : State) : Acked n [a] s (s.inc a) :=
  ⟨(regsOnly_inc ..).atPort n, fun _ ha => reg_inc_ne (List.ne_of_not_mem_cons ha) _, by rw [inc_get_cufP]⟩

/-- A port that has noted an acknowledgment has still heard its packet. -/
theorem Acked.heard {u v : State} {l : List Nat} {k : Nat} (hu : Comes n s u) (hheard : Heard n k s u) (g : Acked n l u v) (hl : Reg.CUF_RX_PKT_CNT n ∉ l) (hc : Calm s) :
    Heard n k s v ∧ Calm v ∧ v.cns = s.cns := by
  have hport := g.port
  refine ⟨⟨(g.regs _ hl).trans hu.count, ?_, ?_⟩, g.at_port.calm (hu.calm hc hn) ?_ ?_, (hu.at_port.trans g.at_port).cns⟩
  · rw [hport]; exact hu.good
  · rw [hport]; exact hheard.turn
  · rw [hport]; exact hu.kept.2.2.2.trans (hc.waiting n hn)
  · rw [hport]; exact hu.rxq.trans (hc.rxq n hn)

omit hn in
theorem dropHeld_none (hr : (s.cufP n).replay = []) (hm : (s.cufP n).msgs = []) : Acked n [] s (dropHeld n 0 s) := by
  have hset : dropHeld n 0 s = msgDone n (updCuf n (fun c => { c with replay := c.replay.drop 0, msgs := c.msgs.map (fun m => { m with unacked := m.unacked -
      ((c.replay.take 0).filter (fun p => p.tag == 256 + m.ring)).length }) }) s) := rfl
  have hdone : dropHeld n 0 s = updCuf n (fun c => { c with replay := c.replay.drop 0, msgs := c.msgs.map (fun m => { m with unacked := m.unacked -
      ((c.replay.take 0).filter (fun p => p.tag == 256 + m.ring)).length }) }) s := by
    rw [hset, msgDone, cufP_updCuf_self, hm]; rfl
  rw [hdone]
  refine ⟨atPort_updCuf .., fun _ _ => rfl, ?_⟩
  rw [cufP_updCuf_self, hr, hm]
  revert hr hm; generalize s.cufP n = c; cases c; rintro rfl rfl; rfl

omit hn in
theorem cufReplay_none (hr : (s.cufP n).replay = []) : Acked n [] s (cufReplay n s) := by
  cases hup : cufUp s n with
  | false => rw [cufReplay, hup]; exact ⟨.refl n s, fun _ _ => rfl, rfl⟩
  | true =>
    have heq : cufReplay n s = (updCuf n (fun c => { c with ackSince := s.tb.pulses, replay := c.replay.map (fun p => { p with sent := p.sent + 1 }) }) s).addTo
        (Reg.CUF_REPLAY_CNT n) 0 := by
      simp only [cufReplay, hup, hr, cufP_updCuf_self]
      rfl
    rw [heq]
    refine ⟨(atPort_updCuf ..).trans ((regsOnly_addTo ..).atPort n), fun a _ => ?_, ?_⟩
    · rw [State.addTo, reg_setReg]
      split
      · rename_i e; rw [e]; exact BitVec.add_zero _
      · rfl
    · rw [addTo_get_cufP, cufP_updCuf_self, hr]
      revert hr; generalize s.cufP n = c; cases c; rintro rfl; rfl

omit hn in
theorem sendResync_acked : Acked n [] s (sendResync n s) := ⟨atPort_updCuf .., fun _ _ => rfl, by rw [sendResync, cufP_updCuf_self]⟩

omit hn in
/-- A NAK of the packet last sent, where none is held. -/
theorem cufAck_nak (hr : (s.cufP n).replay = []) (hm : (s.cufP n).msgs = []) (hdr : BitVec 80) :
    Acked n [Reg.CUF_NAK_RX_CNT n] s (cufAck n 2 (((s.cufP n).txNext + 4095) % 4096) hdr s) ∧
    (cufAck n 2 (((s.cufP n).txNext + 4095) % 4096) hdr s).reg (Reg.CUF_NAK_RX_CNT n) = s.reg (Reg.CUF_NAK_RX_CNT n) + 1 := by
  have hnone : (((s.cufP n).txNext + 4095) % 4096 + 4096 - ((s.cufP n).txNext + 4095) % 4096) % 4096 = 0 := by rw [Nat.add_sub_cancel_left]
  have heq : cufAck n 2 (((s.cufP n).txNext + 4095) % 4096) hdr s = cufReplay n (sendResync n ((dropHeld n 0 s).inc (Reg.CUF_NAK_RX_CNT n))) := by
    simp only [cufAck, hr, hnone]
    rfl
  have hdrop := dropHeld_none hr hm
  have hcount := acked_inc n (Reg.CUF_NAK_RX_CNT n) (dropHeld n 0 s)
  have hsync := sendResync_acked (n := n) (s := (dropHeld n 0 s).inc (Reg.CUF_NAK_RX_CNT n))
  have hreplay := cufReplay_none (n := n) (s := sendResync n ((dropHeld n 0 s).inc (Reg.CUF_NAK_RX_CNT n)))
    (by rw [hsync.port, inc_get_cufP, hdrop.port]; exact hr)
  rw [heq]
  refine ⟨(((hdrop.mono _).trans hcount).trans (hsync.mono _)).trans (hreplay.mono _), ?_⟩
  rw [hreplay.regs _ List.not_mem_nil, hsync.regs _ List.not_mem_nil, reg_inc_self, hdrop.regs _ List.not_mem_nil]

theorem nak_done (h : Arrives s n x 1 2) (hack : sget x.hdr 57 46 = ((s.cufP n).txNext + 4095) % 4096) :
    ∃ t, rowRx n x s = .next t ∧ Heard n 1 s t ∧ t.reg (Reg.CUF_NAK_RX_CNT n) = s.reg (Reg.CUF_NAK_RX_CNT n) + 1 ∧
      t.reg (Reg.CUF_REPLAY_CNT n) = s.reg (Reg.CUF_REPLAY_CNT n) := by
  obtain ⟨hmsgs, houtq, hreplay⟩ := heardAt_idle h hn
  have hcomes := heardAt_comes n x s
  have hheard := heardAt_heard (kind := 1) (n := n) (x := x) (s := s) rfl
  have hseq : sget x.hdr 57 46 = (((heardAt n x s).cufP n).txNext + 4095) % 4096 := by rw [hack, heardAt_cufP]
  obtain ⟨hacked, hcount⟩ := cufAck_nak hreplay hmsgs x.hdr
  rw [← hseq] at hacked hcount
  have hapart : Reg.CUF_RX_PKT_CNT n ∉ [Reg.CUF_NAK_RX_CNT n] ∧ Reg.CUF_REPLAY_CNT n ∉ [Reg.CUF_NAK_RX_CNT n] ∧ Reg.CUF_NAK_RX_CNT n ∉ recvRegs n ∧
      Reg.CUF_REPLAY_CNT n ∉ recvRegs n := by
    refine ⟨?_, ?_, recvRegs_below ?_ ?_, recvRegs_below ?_ ?_⟩ <;>
      simp only [List.mem_cons, List.not_mem_nil, or_false, Reg.CUF_RX_PKT_CNT, Reg.CUF_NAK_RX_CNT, Reg.CUF_REPLAY_CNT] <;> omega
  obtain ⟨hrx, hrep, hnak, hrep'⟩ := hapart
  generalize hv : cufAck n 2 (sget x.hdr 57 46) x.hdr (heardAt n x s) = v at hacked hcount
  obtain ⟨hheard', hcalm, hcns⟩ := hacked.heard hn hcomes hheard hrx h.calm
  have hu : unseqPacket n x.hdr (rxPkt x) (cufAck n 2 (sget x.hdr 57 46) x.hdr (heardAt n x s)) = v := by
    rw [unseqPacket_other (by rw [h.isKind]; decide), hv]
  refine ⟨_, unsequenced_ends h hn rfl (by simp [vcClassOk]) hu (by rw [hacked.port]; exact hmsgs) (quiet_empty (by rw [hacked.port]; exact houtq)) hcalm hcns,
    hheard'.latched, ?_, ?_⟩
  · rw [latched_get_reg, hcount, hcomes.regs _ hnak]
  · rw [latched_get_reg, hacked.regs _ hrep, hcomes.regs _ hrep']

end

end Sys2Proof.Machine
end


section
/-!
SUPPORT. Unsequenced packets at a Cuff port (R394, R395, R397, R401, R428): BALANCE, TIME and RETRAIN.
-/
set_option linter.constructorNameAsVariable false

namespace Sys2Proof.Machine

/-! ### BALANCE (R397) -/

/-- What a received BALANCE says of VC v. -/
def balanceStep (n : Nat) (p : CufPkt) (s : State) (v : Nat) : State :=
  let ret := (p.data.getD (v / 2) 0).toNat / (if v % 2 = 1 then 2 ^ 20 else 1) % 65536
  let short := (ret + 65536 - SMap.getD 0 v (s.cufP n).gotTotal) % 65536
  let tooFew := decide (shrinkLimit s n v ≤ short)
  let old := (s.cufP n).watch
  let w := if tooFew then (if (SMap.find v old).isSome then old else SMap.insert v s.tb.pulses old) else SMap.erase v old
  (updCuf n (fun c => { c with watch := w }) s).setReg (Reg.CUF_SHORT n v) (nw (b2n tooFew * 2 ^ 17 + short))

theorem cufTakeBalance_up {n : Nat} {s : State} (h : cufUp s n = true) (p : CufPkt) :
    cufTakeBalance n p s = ((List.range 9).filter (fun v => openVc s n v)).foldl (balanceStep n p) s := by
  rw [cufTakeBalance, h]
  rfl

/-- From s to t the credit balance of port n has been shown and watched. -/
structure Balanced (n : Nat) (s t : State) : Prop where
  at_port : AtPort n s t
  regs : ∀ a, a < Reg.CUF_SHORT n 0 → t.reg a = s.reg a
  port : t.cufP n = { s.cufP n with watch := (t.cufP n).watch }

theorem Balanced.trans {n : Nat} {s t u : State} (h : Balanced n s t) (g : Balanced n t u) : Balanced n s u :=
  ⟨h.at_port.trans g.at_port, fun a ha => (g.regs a ha).trans (h.regs a ha), by rw [g.port, h.port]⟩

theorem balanceStep_balanced (n : Nat) (p : CufPkt) (s : State) (v : Nat) : Balanced n s (balanceStep n p s v) := by
  refine ⟨(atPort_updCuf ..).trans ((regsOnly_setReg ..).atPort n), fun a ha => reg_setReg_ne ?_ .., ?_⟩
  · simp only [Reg.CUF_SHORT] at ha ⊢; omega
  · rw [balanceStep, setReg_get_cufP, cufP_updCuf_self]

theorem balanceSteps_balanced (n : Nat) (p : CufPkt) (l : List Nat) : ∀ s, Balanced n s (l.foldl (balanceStep n p) s) := by
  induction l with
  | nil => exact fun s => ⟨.refl n s, fun _ _ => rfl, rfl⟩
  | cons v l ih => exact fun s => (balanceStep_balanced n p s v).trans (ih _)

theorem balanceStep_short (n : Nat) (p : CufPkt) (s : State) : (balanceStep n p s 8).fld (Reg.CUF_SHORT n 8) 15 0 =
    ((p.data.getD 4 0).toNat % 65536 + 65536 - SMap.getD 0 8 (s.cufP n).gotTotal) % 65536 := by
  have hlow : ∀ (b : Bool) (k : Nat), fget (nw (b2n b * 2 ^ 17 + k % 65536)) 15 0 = k % 65536 := fun b k => by
    have : b2n b ≤ 1 := by cases b <;> decide
    simp only [fget, nw, BitVec.toNat_ofNat]
    omega
  rw [balanceStep, State.fld, reg_setReg_self, hlow]
  simp

theorem balance_shown {n : Nat} {s : State} (h : cufUp s n = true) (p : CufPkt) : Balanced n s (cufTakeBalance n p s) ∧
    (cufTakeBalance n p s).fld (Reg.CUF_SHORT n 8) 15 0 = ((p.data.getD 4 0).toNat % 65536 + 65536 - SMap.getD 0 8 (s.cufP n).gotTotal) % 65536 := by
  have hopen : openVc s n 8 = true := rfl
  have hlast : (List.range 9).filter (fun v => openVc s n v) = (List.range 8).filter (fun v => openVc s n v) ++ [8] := by
    rw [List.range_succ, List.filter_append, List.filter_singleton, hopen]; rfl
  rw [cufTakeBalance_up h, hlast, List.foldl_append]
  have hbefore := balanceSteps_balanced n p ((List.range 8).filter (fun v => openVc s n v)) s
  refine ⟨hbefore.trans (balanceStep_balanced ..), ?_⟩
  rw [List.foldl_cons, List.foldl_nil, balanceStep_short, hbefore.port]

section
variable {n : Nat} {x : CufRx} {s : State} (hn : n < 2) (hup : s.fld (Reg.CUF_STATUS n) 2 0 = 2)

include hup in
theorem heardAt_up : cufUp (heardAt n x s) n = true := by
  rw [cufUp, cufState, (heardAt_comes n x s).fld (by simp only [Reg.CUF_STATUS]; omega), hup]; rfl

include hn hup in
theorem balance_done (h : Arrives s n x 11 0) : ∃ t, rowRx n x s = .next t ∧ Heard n 11 s t ∧
    t.fld (Reg.CUF_SHORT n 8) 15 0 = (((rxPkt x).data.getD 4 0).toNat % 65536 + 65536 - SMap.getD 0 8 (s.cufP n).gotTotal) % 65536 := by
  obtain ⟨hmsgs, houtq, -⟩ := heardAt_idle h hn
  have hcomes := heardAt_comes n x s
  have hheard := heardAt_heard (kind := 11) (n := n) (x := x) (s := s) rfl
  obtain ⟨hbal, hshort⟩ := balance_shown (heardAt_up (x := x) hup) (rxPkt x)
  have hgot : ((heardAt n x s).cufP n).gotTotal = (s.cufP n).gotTotal := by rw [heardAt_cufP]
  rw [hgot] at hshort
  generalize hv : cufTakeBalance n (rxPkt x) (heardAt n x s) = v at hbal hshort
  have hu : unseqPacket n x.hdr (rxPkt x) (cufAck n 0 (sget x.hdr 57 46) x.hdr (heardAt n x s)) = v := by
    simp only [cufAck_none, ← hv, unseqPacket, h.isKind]
  refine ⟨_, unsequenced_ends h hn rfl (by simp [vcClassOk]) hu (by rw [hbal.port]; exact hmsgs) (quiet_empty (by rw [hbal.port]; exact houtq)) ?_
    (hcomes.at_port.trans hbal.at_port).cns, Heard.latched ⟨?_, ?_, ?_⟩, hshort⟩
  · exact hbal.at_port.calm (hcomes.calm h.calm hn) (by rw [hbal.port]; exact hcomes.kept.2.2.2.trans (h.calm.waiting n hn))
      (by rw [hbal.port]; exact hcomes.rxq.trans (h.calm.rxq n hn))
  · exact (hbal.regs _ (by simp only [Reg.CUF_RX_PKT_CNT, Reg.CUF_SHORT]; omega)).trans hcomes.count
  · rw [hbal.port]; exact hcomes.good
  · rw [hbal.port]; exact hheard.turn

end

end Sys2Proof.Machine
end


section
/-!
SUPPORT. TIME at a Cuff port (R401, R428, R429): the stamps it takes, and the SYNC that answers.
-/
set_option linter.constructorNameAsVariable false

namespace Sys2Proof.Machine

/-- A packet queued at a port that has nothing else to send. -/
theorem cufPump_enqueue {n : Nat} {s : State} (hq : (s.cufP n).outq = []) (hr : (s.cufP n).replay = []) (p : CufPkt) :
    Pumped n p s (cufPump n pumpFuel (cufEnqueue n p s)) := by
  have hport : (cufEnqueue n p s).cufP n = { s.cufP n with outq := [p] } := by rw [cufEnqueue, cufP_updCuf_self, hq]; rfl
  have h : Pumped n p (cufEnqueue n p s) (cufPump n pumpFuel (cufEnqueue n p s)) := cufPump_one 599 (by rw [hport]) (by rw [hport]; exact hr)
  exact ⟨(atPort_updCuf ..).trans h.at_port, h.quiet, h.first, h.regs, by rw [h.order.1, h.order.2, hport]; exact ⟨rfl, rfl⟩, by rw [h.inTags, hport],
    by rw [h.rest.1, h.rest.2.1, h.rest.2.2, hport]; exact ⟨rfl, rfl, rfl⟩⟩

theorem Pumped.regs_between {n a : Nat} {p : CufPkt} {s t : State} (h : Pumped n p s t) (ha : Reg.CUF_RX_PKT_CNT n ≤ a ∧ a < Reg.CUF_UNSEQ_CNT n) :
    t.reg a = s.reg a := by
  simp only [Reg.CUF_RX_PKT_CNT, Reg.CUF_UNSEQ_CNT] at ha
  exact h.regs a (by simp only [Reg.CUF_TXSLOT]; omega) (by simp only [Reg.CUF_TX_PKT_CNT]; omega) (by simp only [Reg.CUF_UNSEQ_CNT]; omega)

theorem mgmtWord0_kind (s : State) : fget (mgmtWord0 s 1 0) 39 36 = 1 := by
  have hid : ownId s < 2 ^ (1 - 0 + 1) := fget_lt ..
  have hepoch : s.fld Reg.CNS_EPOCH 15 0 < 2 ^ (15 - 0 + 1) := fget_lt ..
  have hbit : ∀ b, b2n b ≤ 1 := fun b => by cases b <;> decide
  have h1 := hbit (cnsLeader s)
  have h2 := hbit (!s.isSealed)
  have h3 := hbit (inConsort s)
  have h4 := hbit (strapOk s)
  simp only [mgmtWord0, fget, nw, BitVec.toNat_ofNat]
  generalize b2n (cnsLeader s) = a, b2n (!s.isSealed) = b, b2n (inConsort s) = c, b2n (strapOk s) = d, ownId s = i, s.fld Reg.CNS_EPOCH 15 0 = e at *
  simp only [Nat.reducePow, Nat.reduceSub, Nat.reduceAdd, one_ne_zero, if_false] at *
  omega

/-- The stamps of a TIME packet are taken. -/
def timeNoted (n : Nat) (p : CufPkt) (s : State) : State :=
  (((s.setReg (Reg.CUF_TIME_PEER_LO n) (p.data.getD 0 0)).setReg (Reg.CUF_TIME_PEER_HI n) (p.data.getD 1 0)).setReg (Reg.CUF_TIME_RX_LO n) s.nowLo).setReg
    (Reg.CUF_TIME_RX_HI n) s.nowHi

/-- The SYNC that answers a TIME packet. -/
def timeAnswer (n : Nat) (p : CufPkt) (s : State) : CufPkt :=
  let d := tick2 s (Reg.CUF_TIME_RX_LO n) (Reg.CUF_TIME_RX_HI n) - tick2 s (Reg.CUF_TIME_PEER_LO n) (Reg.CUF_TIME_PEER_HI n)
  ⟨7, 8, 0, 0, [mgmtWord0 s 1 0, BitVec.ofInt 40 d, p.data.getD 0 0, nw 0], 0, 512⟩

theorem takeTime_eq (n : Nat) (p : CufPkt) (s : State) : takeTime n p s = (if cufJoined (timeNoted n p s) n
    then cufPump n pumpFuel (cufEnqueue n (timeAnswer n p (timeNoted n p s)) (timeNoted n p s)) else timeNoted n p s) := rfl

section
variable (n : Nat) (p : CufPkt) (s : State)

theorem timeNoted_only : RegsOnly s (timeNoted n p s) := rfl

theorem timeNoted_stamps : (timeNoted n p s).reg (Reg.CUF_TIME_PEER_LO n) = p.data.getD 0 0 ∧ (timeNoted n p s).reg (Reg.CUF_TIME_PEER_HI n) = p.data.getD 1 0 ∧
    (timeNoted n p s).reg (Reg.CUF_TIME_RX_LO n) = s.nowLo ∧ (timeNoted n p s).reg (Reg.CUF_TIME_RX_HI n) = s.nowHi := by
  have hne : Reg.CUF_TIME_PEER_LO n ≠ Reg.CUF_TIME_PEER_HI n ∧ Reg.CUF_TIME_PEER_LO n ≠ Reg.CUF_TIME_RX_LO n ∧ Reg.CUF_TIME_PEER_LO n ≠ Reg.CUF_TIME_RX_HI n ∧
      Reg.CUF_TIME_PEER_HI n ≠ Reg.CUF_TIME_RX_LO n ∧ Reg.CUF_TIME_PEER_HI n ≠ Reg.CUF_TIME_RX_HI n ∧ Reg.CUF_TIME_RX_LO n ≠ Reg.CUF_TIME_RX_HI n := by
    simp only [Reg.CUF_TIME_PEER_LO, Reg.CUF_TIME_PEER_HI, Reg.CUF_TIME_RX_LO, Reg.CUF_TIME_RX_HI]; omega
  simp only [timeNoted, reg_setReg, hne, if_true, if_false, and_self]

theorem timeNoted_reg {a : Nat} (h : a < Reg.CUF_TIME_RX_LO n ∨ Reg.CUF_TIME_PEER_HI n < a) : (timeNoted n p s).reg a = s.reg a := by
  have hne : a ≠ Reg.CUF_TIME_PEER_LO n ∧ a ≠ Reg.CUF_TIME_PEER_HI n ∧ a ≠ Reg.CUF_TIME_RX_LO n ∧ a ≠ Reg.CUF_TIME_RX_HI n := by
    simp only [Reg.CUF_TIME_PEER_LO, Reg.CUF_TIME_PEER_HI, Reg.CUF_TIME_RX_LO, Reg.CUF_TIME_RX_HI] at h ⊢; omega
  simp only [timeNoted, reg_setReg, hne, if_false]

end

/-- From s to t a TIME packet has been noted, and answered with a SYNC on a joined link. -/
structure TimeTaken (n : Nat) (p : CufPkt) (s t : State) : Prop where
  at_port : AtPort n s t
  quiet : Quiet n t
  stamps : t.reg (Reg.CUF_TIME_PEER_LO n) = p.data.getD 0 0 ∧ t.reg (Reg.CUF_TIME_PEER_HI n) = p.data.getD 1 0 ∧
    t.reg (Reg.CUF_TIME_RX_LO n) = s.nowLo ∧ t.reg (Reg.CUF_TIME_RX_HI n) = s.nowHi
  count : t.reg (Reg.CUF_RX_PKT_CNT n) = s.reg (Reg.CUF_RX_PKT_CNT n)
  order : (t.cufP n).nextRx = (s.cufP n).nextRx ∧ (t.cufP n).lastGood = (s.cufP n).lastGood
  rest : (t.cufP n).msgs = (s.cufP n).msgs ∧ (t.cufP n).waiting = (s.cufP n).waiting ∧ (t.cufP n).rxq = (s.cufP n).rxq
  sync : cufJoined s n = true → (firstOut t n).map (fun q => (q.type, fget (q.data.headD 0) 39 36)) = some (7, 1)

theorem takeTime_taken {n : Nat} {s : State} (hq : (s.cufP n).outq = []) (hr : (s.cufP n).replay = []) (p : CufPkt) : TimeTaken n p s (takeTime n p s) := by
  have hport : (timeNoted n p s).cufP n = s.cufP n := (timeNoted_only n p s).get_cufP n
  have hcount := timeNoted_reg n p s (a := Reg.CUF_RX_PKT_CNT n) (by simp only [Reg.CUF_RX_PKT_CNT, Reg.CUF_TIME_RX_LO]; omega)
  have hstatus := timeNoted_reg n p s (a := Reg.CUF_STATUS n) (by simp only [Reg.CUF_STATUS, Reg.CUF_TIME_RX_LO]; omega)
  have hjoin : cufJoined (timeNoted n p s) n = cufJoined s n := by rw [cufJoined, State.bit, hstatus]; rfl
  have hstamps := timeNoted_stamps n p s
  rw [takeTime_eq, hjoin]
  split
  · rename_i hjoined
    have h := cufPump_enqueue (n := n) (s := timeNoted n p s) (by rw [hport]; exact hq) (by rw [hport]; exact hr) (timeAnswer n p (timeNoted n p s))
    obtain ⟨h1, h2, h3, h4⟩ := hstamps
    refine ⟨((timeNoted_only ..).atPort n).trans h.at_port, h.quiet, ⟨?_, ?_, ?_, ?_⟩, ?_, by rw [h.order.1, h.order.2, hport]; exact ⟨rfl, rfl⟩,
      by rw [h.rest.1, h.rest.2.1, h.rest.2.2, hport]; exact ⟨rfl, rfl, rfl⟩, fun _ => ?_⟩
    · exact (h.regs_between (by simp only [Reg.CUF_TIME_PEER_LO, Reg.CUF_RX_PKT_CNT, Reg.CUF_UNSEQ_CNT]; omega)).trans h1
    · exact (h.regs_between (by simp only [Reg.CUF_TIME_PEER_HI, Reg.CUF_RX_PKT_CNT, Reg.CUF_UNSEQ_CNT]; omega)).trans h2
    · exact (h.regs_between (by simp only [Reg.CUF_TIME_RX_LO, Reg.CUF_RX_PKT_CNT, Reg.CUF_UNSEQ_CNT]; omega)).trans h3
    · exact (h.regs_between (by simp only [Reg.CUF_TIME_RX_HI, Reg.CUF_RX_PKT_CNT, Reg.CUF_UNSEQ_CNT]; omega)).trans h4
    · exact (h.regs_between (by simp only [Reg.CUF_RX_PKT_CNT, Reg.CUF_UNSEQ_CNT]; omega)).trans hcount
    · obtain ⟨q, hq, hval⟩ := Option.map_eq_some_iff.1 h.first
      rw [hq, Option.map_some]
      obtain ⟨htype, -, hdata⟩ : q.type = 7 ∧ q.field = 0 ∧ q.data = (timeAnswer n p (timeNoted n p s)).data := by simpa [timeAnswer] using hval
      rw [htype, hdata, show (timeAnswer n p (timeNoted n p s)).data.headD 0 = mgmtWord0 (timeNoted n p s) 1 0 from rfl, mgmtWord0_kind]
  · rename_i hjoined
    exact ⟨(timeNoted_only ..).atPort n, quiet_empty (by rw [hport]; exact hq), hstamps, hcount, by rw [hport]; exact ⟨rfl, rfl⟩, by rw [hport]; exact ⟨rfl, rfl, rfl⟩,
      fun h => absurd h hjoined⟩

theorem time_done {n : Nat} {x : CufRx} {s : State} (hn : n < 2) (h : Arrives s n x 12 0) : ∃ t, rowRx n x s = .next t ∧ Heard n 12 s t ∧
    t.reg (Reg.CUF_TIME_PEER_LO n) = (rxPkt x).data.getD 0 0 ∧ t.reg (Reg.CUF_TIME_PEER_HI n) = (rxPkt x).data.getD 1 0 ∧
    t.reg (Reg.CUF_TIME_RX_LO n) = s.nowLo ∧ t.reg (Reg.CUF_TIME_RX_HI n) = s.nowHi ∧
    (cufJoined s n = true → (firstOut t n).map (fun q => (q.type, fget (q.data.headD 0) 39 36)) = some (7, 1)) := by
  obtain ⟨hmsgs, houtq, hreplay⟩ := heardAt_idle h hn
  have hcomes := heardAt_comes n x s
  have hheard := heardAt_heard (kind := 12) (n := n) (x := x) (s := s) rfl
  have htaken := takeTime_taken houtq hreplay (rxPkt x)
  have hjoin : cufJoined (heardAt n x s) n = cufJoined s n := hcomes.bit (by simp only [Reg.CUF_STATUS]; omega) 4
  have hlo : (heardAt n x s).nowLo = s.nowLo := by rw [State.nowLo, State.now, hcomes.at_port.tb]; rfl
  have hhi : (heardAt n x s).nowHi = s.nowHi := by rw [State.nowHi, State.now, hcomes.at_port.tb]; rfl
  generalize hv : takeTime n (rxPkt x) (heardAt n x s) = v at htaken
  have hu : unseqPacket n x.hdr (rxPkt x) (cufAck n 0 (sget x.hdr 57 46) x.hdr (heardAt n x s)) = v := by
    simp only [cufAck_none, ← hv, unseqPacket, h.isKind]
  obtain ⟨hm, hw, hr⟩ := htaken.rest
  obtain ⟨h1, h2, h3, h4⟩ := htaken.stamps
  refine ⟨_, unsequenced_ends h hn rfl (by simp [vcClassOk]) hu (hm.trans hmsgs) htaken.quiet ?_ (hcomes.at_port.trans htaken.at_port).cns,
    Heard.latched ⟨htaken.count.trans hcomes.count, htaken.order.2.trans hcomes.good, htaken.order.1.trans hheard.turn⟩, h1, h2, h3.trans hlo, h4.trans hhi,
    fun hj => htaken.sync (hjoin.trans hj)⟩
  exact htaken.at_port.calm (hcomes.calm h.calm hn) (hw.trans (hcomes.kept.2.2.2.trans (h.calm.waiting n hn))) (hr.trans (hcomes.rxq.trans (h.calm.rxq n hn)))

end Sys2Proof.Machine
end


section
/-!
SUPPORT. RETRAIN at a Cuff port that is UP (R394, R395).
-/
set_option linter.constructorNameAsVariable false

namespace Sys2Proof.Machine

/-- What a retrain notes first. -/
def retrainNoted (n reason : Nat) (s : State) : State :=
  updCuf n (fun c => { c with since := s.tb.pulses, gotTs2 := false, gotAdv := false })
    (cufReason n reason (((setCufState n 3 s).inc (Reg.CUF_RETRAIN_CNT n)).setReg (Reg.CUF_LAST_RETRAIN n) s.nowLo))

/-- The partner is told of a retrain. -/
def retrainTold (n reason : Nat) (s : State) : State := cufSendUnseq n 10 (reason * 2 ^ 38) [] 1 s

def retrainLogged (n reason : Nat) (s : State) : State := logErr (.cuf n) 0x2A n 0 (nw reason) (retrainNoted n reason s)

theorem cufRetrain_up {n : Nat} {s : State} (h : cufUp s n = true) (reason : Nat) : cufRetrain n reason s =
    raise (136 + n) (retrainTold n reason (retrainTold n reason (retrainTold n reason (retrainLogged n reason s)))) := by
  simp only [cufRetrain, h, if_true]
  rfl

def toldRegs (n : Nat) : List Nat := [Reg.CUF_TX_PKT_CNT n, Reg.CUF_UNSEQ_CNT n, Reg.CUF_TXSLOT n 8]

theorem toldRegs_above {n a : Nat} (h : a < Reg.CUF_TX_PKT_CNT n) : a ∉ toldRegs n := by
  simp only [toldRegs, List.mem_cons, List.not_mem_nil, or_false, Reg.CUF_TX_PKT_CNT, Reg.CUF_UNSEQ_CNT, Reg.CUF_TXSLOT] at h ⊢
  omega

theorem retrainTold_spec (n reason : Nat) (s : State) : AtPort n s (retrainTold n reason s) ∧ RegsBut (toldRegs n) s (retrainTold n reason s) ∧
    SendOnly (s.cufP n) ((retrainTold n reason s).cufP n) :=
  have h := cufSend_leaves n ⟨10, 8, 0, reason * 2 ^ 38, [], 1, 0⟩ 1 s
  ⟨h.at_port, h.regs, h.port⟩

theorem retrainTold_thrice (n reason : Nat) (s : State) : AtPort n s (retrainTold n reason (retrainTold n reason (retrainTold n reason s))) ∧
    RegsBut (toldRegs n) s (retrainTold n reason (retrainTold n reason (retrainTold n reason s))) ∧
    SendOnly (s.cufP n) ((retrainTold n reason (retrainTold n reason (retrainTold n reason s))).cufP n) := by
  obtain ⟨h1, r1, p1⟩ := retrainTold_spec n reason s
  obtain ⟨h2, r2, p2⟩ := retrainTold_spec n reason (retrainTold n reason s)
  obtain ⟨h3, r3, p3⟩ := retrainTold_spec n reason (retrainTold n reason (retrainTold n reason s))
  exact ⟨(h1.trans h2).trans h3, fun a ha => (r3 a ha).trans ((r2 a ha).trans (r1 a ha)), (p1.trans p2).trans p3⟩

section
variable (n : Nat) (s : State)

theorem retrainNoted_atPort (reason : Nat) : AtPort n s (retrainNoted n reason s) :=
  ((((regsOnly_setFld ..).trans (regsOnly_inc ..)).trans ((regsOnly_setReg ..).trans (regsOnly_setFld ..))).atPort n).trans (atPort_updCuf ..)

theorem retrainNoted_cufP (reason : Nat) : (retrainNoted n reason s).cufP n = { s.cufP n with since := s.tb.pulses, gotTs2 := false, gotAdv := false } := by
  rw [retrainNoted, cufP_updCuf_self]
  simp only [cufReason, setCufState, setFld_get_cufP, setReg_get_cufP, inc_get_cufP]

theorem retrainNoted_regs (reason : Nat) : (retrainNoted n reason s).reg (Reg.CUF_STATUS n) = fset (s.reg (Reg.CUF_STATUS n)) 2 0 3 ∧
    (retrainNoted n reason s).reg (Reg.CUF_RETRAIN_CNT n) = s.reg (Reg.CUF_RETRAIN_CNT n) + 1 ∧
    (retrainNoted n reason s).reg (Reg.CUF_ERR_INFO n) = fset (s.reg (Reg.CUF_ERR_INFO n)) 11 8 reason ∧
    (retrainNoted n reason s).reg (Reg.CUF_LAST_RETRAIN n) = s.nowLo := by
  simp only [retrainNoted, reg_updCuf, cufReason, setCufState, State.setFld, State.inc, reg_setReg, Reg.CUF_ERR_INFO, Reg.CUF_LAST_RETRAIN, Reg.CUF_RETRAIN_CNT,
    Reg.CUF_STATUS, Nat.add_right_cancel_iff, Nat.reduceEqDiff, if_true, if_false, and_self]

end

theorem retrained {n : Nat} {s : State} (hn : n < 2) (hc : Calm s) (hup : cufUp s n = true) : Calm (cufRetrain n 7 s) ∧ (cufRetrain n 7 s).cns = s.cns ∧
    ((cufRetrain n 7 s).cufP n).msgs = (s.cufP n).msgs ∧ Quiet n (cufRetrain n 7 s) ∧ Retrains n 7 s (cufRetrain n 7 s) := by
  rw [cufRetrain_up hup]
  have hnoted := retrainNoted_atPort n s 7
  have hlog : LogChange [Reg.SYS_ERRLOG_LOST_CNT] (retrainNoted n 7 s) (retrainLogged n 7 s) := logErr_change ..
  obtain ⟨htold, htregs, htport⟩ := retrainTold_thrice n 7 (retrainLogged n 7 s)
  generalize retrainTold n 7 (retrainTold n 7 (retrainTold n 7 (retrainLogged n 7 s))) = u at htold htregs htport
  have hcuf : (retrainLogged n 7 s).cufP n = (retrainNoted n 7 s).cufP n := by rw [hlog.only]; rfl
  rw [hcuf, retrainNoted_cufP] at htport
  have hcalm1 : Calm (retrainNoted n 7 s) := hnoted.calm hc (by rw [retrainNoted_cufP]; exact hc.waiting n hn) (by rw [retrainNoted_cufP]; exact hc.rxq n hn)
  have hcalm2 : Calm (retrainLogged n 7 s) := hcalm1.logOnly hlog.only (hlog.drained hcalm1.sources)
  have hcalm3 : Calm u := htold.calm hcalm2 (by rw [htport]; exact hc.waiting n hn) (by rw [htport]; exact hc.rxq n hn)
  have hmsgs : (u.cufP n).msgs = (s.cufP n).msgs := by rw [htport]
  obtain ⟨q, hraise⟩ := raise_drained hcalm3.sources (136 + n)
  have hevents : EventsOnly u (quieted q (latchSource (136 + n) u)) := quieted_events (latchSource_events ..) q
  have hreg : ∀ a, 0x228000 + 0x1000 * n ≤ a → a < Reg.CUF_TX_PKT_CNT n → (quieted q (latchSource (136 + n) u)).reg a = (retrainNoted n 7 s).reg a := fun a ha hlt => by
    rw [quieted_reg, latchSource_reg (by simp only [Reg.EIU_SRC_CNT]; omega), htregs a (toldRegs_above hlt),
      hlog.regs a (by simp only [List.mem_singleton, Reg.SYS_ERRLOG_LOST_CNT]; omega)]
  have hstatus : (quieted q (latchSource (136 + n) u)).reg (Reg.CUF_STATUS n) = fset (s.reg (Reg.CUF_STATUS n)) 2 0 3 := by
    rw [hreg _ (by simp only [Reg.CUF_STATUS]; omega) (by simp only [Reg.CUF_STATUS, Reg.CUF_TX_PKT_CNT]; omega), (retrainNoted_regs n s 7).1]
  have hdown : (quieted q (latchSource (136 + n) u)).fld (Reg.CUF_STATUS n) 2 0 = 3 := by
    rw [State.fld, hstatus]; exact (fget_fset_self _ _ _ _ (by decide) (by decide)).trans rfl
  obtain ⟨-, hcnt, hinfo, htick⟩ := retrainNoted_regs n s 7
  rw [hraise]
  refine ⟨hcalm3.logOnly hevents.logOnly (quieted_drained (latchSource_drained hcalm3.sources) q), ?_, ?_, ?_, hdown, ?_, ?_, ?_, ?_⟩
  · rw [hevents]; exact htold.cns.trans ((congrArg State.cns hlog.only).trans hnoted.cns)
  · rw [hevents]; exact hmsgs
  · intro hup; rw [cufUp, cufState, hdown] at hup; exact absurd hup (by decide)
  · rw [hreg _ (by simp only [Reg.CUF_RETRAIN_CNT]; omega) (by simp only [Reg.CUF_RETRAIN_CNT, Reg.CUF_TX_PKT_CNT]; omega), hcnt]
  · rw [State.fld, hreg _ (by simp only [Reg.CUF_ERR_INFO]; omega) (by simp only [Reg.CUF_ERR_INFO, Reg.CUF_TX_PKT_CNT]; omega), hinfo]
    exact (fget_fset_self _ _ _ _ (by decide) (by decide)).trans rfl
  · rw [hreg _ (by simp only [Reg.CUF_LAST_RETRAIN]; omega) (by simp only [Reg.CUF_LAST_RETRAIN, Reg.CUF_TX_PKT_CNT]; omega), htick]
  · rw [quieted_pendOf]; exact (latchSource_asserted (by omega) u).1

theorem Retrains.latched {n reason : Nat} {s t : State} (h : Retrains n reason s t) : Retrains n reason s (latched t) :=
  ⟨h.state, h.count, h.reason, h.tick, latched_keeps h.event⟩

theorem retrain_done {n : Nat} {x : CufRx} {s : State} (hn : n < 2) (h : Arrives s n x 10 0) (hup : s.fld (Reg.CUF_STATUS n) 2 0 = 2) :
    ∃ t, rowRx n x s = .next t ∧ Retrains n 7 s t := by
  obtain ⟨hmsgs, -, -⟩ := heardAt_idle h hn
  have hcomes := heardAt_comes n x s
  have hup' := heardAt_up (x := x) hup
  obtain ⟨hcalm, hcns, hm, hquiet, hre⟩ := retrained hn (hcomes.calm h.calm hn) hup'
  generalize hv : cufRetrain n 7 (heardAt n x s) = v at hcalm hcns hm hquiet hre
  have hu : unseqPacket n x.hdr (rxPkt x) (cufAck n 0 (sget x.hdr 57 46) x.hdr (heardAt n x s)) = v := by
    simp only [cufAck_none, ← hv, unseqPacket, h.isKind, hup', if_true]
  have hlo : (heardAt n x s).nowLo = s.nowLo := by rw [State.nowLo, State.now, hcomes.at_port.tb]; rfl
  have hcount : (heardAt n x s).reg (Reg.CUF_RETRAIN_CNT n) = s.reg (Reg.CUF_RETRAIN_CNT n) :=
    hcomes.regs _ (recvRegs_below (by simp only [Reg.CUF_RETRAIN_CNT]; omega) (by simp only [Reg.CUF_RETRAIN_CNT, Reg.CUF_RX_PKT_CNT]; omega))
  exact ⟨_, unsequenced_ends h hn rfl (by simp [vcClassOk]) hu (hm.trans hmsgs) hquiet hcalm (hcns.trans hcomes.at_port.cns),
    Retrains.latched ⟨hre.state, by rw [hre.count, hcount], hre.reason, hre.tick.trans hlo, hre.event⟩⟩

end Sys2Proof.Machine
end


section
/-!
SUPPORT. What a Cuff port does by itself (R374, R385, R389, R397), and its test writes (R377, R384).
-/
set_option linter.constructorNameAsVariable false

namespace Sys2Proof.Machine

/-- A replay has been counted. -/
def replayNoted (n : Nat) (s : State) : State :=
  (updCuf n (fun c => { c with ackSince := s.tb.pulses, replay := c.replay.map (fun p => { p with sent := p.sent + 1 }) }) s).addTo (Reg.CUF_REPLAY_CNT n) 1

section
variable {n : Nat} {s : State} (hn : n < 2) (hc : Calm s) (hup : cufUp s n = true)
include hn hc

theorem Leaves.calm {p : CufPkt} {t : State} (h : Leaves n p s t) : Calm t := by
  have hport := h.port
  exact h.at_port.calm hc (by rw [hport]; exact hc.waiting n hn) (by rw [hport]; exact hc.rxq n hn)

theorem RegsOnly.calm_cuf {t : State} (h : RegsOnly s t) : Calm t :=
  (h.atPort n).calm hc (by rw [h.get_cufP]; exact hc.waiting n hn) (by rw [h.get_cufP]; exact hc.rxq n hn)

include hup

theorem nullSent : ∃ t, okSettled (if cufUp s n then cufSendUnseq n 1 0 [] 1 s else s) = .next t ∧ (t.cufP n).lastSent.map (fun q => q.pkt.type) = some 1 ∧
    t.reg (Reg.CUF_TX_PKT_CNT n) = s.reg (Reg.CUF_TX_PKT_CNT n) + 1 ∧ t.reg (Reg.CUF_UNSEQ_CNT n) = s.reg (Reg.CUF_UNSEQ_CNT n) + 1 := by
  have h : Leaves n ⟨1, 8, 0, 0, [], 1, 0⟩ s (cufSendUnseq n 1 0 [] 1 s) := cufSend_leaves ..
  have hunseq := h.unseq rfl
  rw [if_pos hup]
  generalize cufSendUnseq n 1 0 [] 1 s = u at h hunseq
  refine ⟨_, okSettled_calm (h.calm hn hc), ?_, h.count, hunseq⟩
  have := congrArg (Option.map CufPkt.type) h.last
  simpa using this

theorem balanceSent : ∃ t, okSettled (cufBalanceDue n s) = .next t ∧ (t.cufP n).lastSent.map (fun q => q.pkt.type) = some 11 ∧
    t.reg (Reg.CUF_BALANCE_CNT n) = s.reg (Reg.CUF_BALANCE_CNT n) + 1 := by
  obtain ⟨d, hd⟩ : ∃ d, cufBalanceDue n s = cufSend n ⟨11, 8, 0, 0, d, 1, 0⟩ 1 (s.inc (Reg.CUF_BALANCE_CNT n)) := by
    rw [cufBalanceDue, if_pos hup]; exact ⟨_, rfl⟩
  have h := cufSend_leaves n ⟨11, 8, 0, 0, d, 1, 0⟩ 1 (s.inc (Reg.CUF_BALANCE_CNT n))
  rw [← hd] at h
  refine ⟨_, okSettled_calm (h.calm hn ((regsOnly_inc ..).calm_cuf hn hc)), ?_, ?_⟩
  · have := congrArg (Option.map CufPkt.type) h.last
    simpa using this
  · exact (h.regs _ (by simp only [List.mem_cons, List.not_mem_nil, or_false, Reg.CUF_BALANCE_CNT, Reg.CUF_TX_PKT_CNT, Reg.CUF_UNSEQ_CNT, Reg.CUF_TXSLOT]; omega)).trans
      (reg_inc_self ..)

/-- The packet held for replay leaves again. -/
theorem replayed {q : CufPkt} (hr : (s.cufP n).replay = [q]) (hsent : q.sent < 8) (hdue : (s.cufP n).ackSince + s.fld (Reg.CUF_TIMERS n) 5 0 + 1 ≤ s.tb.pulses) :
    ∃ t, okSettled (cufReplayTimeout n s) = .next t ∧ (t.cufP n).replay = [{ q with sent := q.sent + 1 }] ∧ (t.cufP n).ackSince = s.tb.pulses ∧
      t.reg (Reg.CUF_REPLAY_CNT n) = s.reg (Reg.CUF_REPLAY_CNT n) + 1 ∧ t.reg (Reg.CUF_TX_PKT_CNT n) = s.reg (Reg.CUF_TX_PKT_CNT n) + 1 := by
  have hheld : (replayNoted n s).cufP n = { s.cufP n with ackSince := s.tb.pulses, replay := [{ q with sent := q.sent + 1 }] } := by
    rw [replayNoted, addTo_get_cufP, cufP_updCuf_self, hr]; rfl
  have heq : cufReplayTimeout n s = cufSend n { q with sent := q.sent + 1 } 1 (replayNoted n s) := by
    have hnot : decide (8 ≤ q.sent) = false := decide_eq_false (by omega)
    simp only [cufReplayTimeout, hup, hr, hdue, cufReplay, List.any_cons, List.any_nil, hnot, cufP_updCuf_self]
    rfl
  have hnoted : AtPort n s (replayNoted n s) := (atPort_updCuf ..).trans ((regsOnly_addTo ..).atPort n)
  have hcalm := hnoted.calm hc (by rw [hheld]; exact hc.waiting n hn) (by rw [hheld]; exact hc.rxq n hn)
  have h := cufSend_leaves n { q with sent := q.sent + 1 } 1 (replayNoted n s)
  rw [← heq] at h
  generalize cufReplayTimeout n s = u at h
  have hport := h.port
  rw [hheld] at hport
  refine ⟨_, okSettled_calm (h.calm hn hcalm), ?_, ?_, ?_, h.count.trans ?_⟩
  · rw [latched_get_cufP, hport]
  · rw [latched_get_cufP, hport]
  · rw [latched_get_reg, h.regs _ (by simp only [List.mem_cons, List.not_mem_nil, or_false, Reg.CUF_REPLAY_CNT, Reg.CUF_TX_PKT_CNT, Reg.CUF_UNSEQ_CNT, Reg.CUF_TXSLOT]; omega),
      replayNoted, State.addTo, reg_setReg_self]
    rfl
  · rw [replayNoted, reg_addTo_ne (by simp only [Reg.CUF_REPLAY_CNT, Reg.CUF_TX_PKT_CNT]; omega), reg_updCuf]

end

/-! ### RESYNC (R374, R388) -/

theorem resynced {n : Nat} {s : State} (hn : n < 2) (hc : Calm s) : ∃ t, okSettled (cufResync n s) = .next t ∧ t.bit (Reg.CUF_STATUS n) 3 = false ∧
    (∀ l, l < 4 → t.reg (Reg.CUF_LANE_BLOCKS n l) = s.reg (Reg.CUF_LANE_BLOCKS n l) + 1) ∧ RegsBut (Reg.CUF_STATUS n :: laneRegs n) s t ∧ SameMemory s t := by
  have hport : AtPort n s (cufResync n s) := (((regsOnly_setBit ..).trans (laneBlocks_only ..)).atPort n).trans (atPort_updCuf ..)
  have hcuf : (cufResync n s).cufP n = { s.cufP n with rxSlot := 0 } := by
    rw [cufResync, cufP_updCuf_self, (laneBlocks_only ..).get_cufP, setBit_get_cufP]
  have hreg : ∀ a, (cufResync n s).reg a = (laneBlocks n 1 (s.setBit (Reg.CUF_STATUS n) 3 false)).reg a := fun a => by rw [cufResync, reg_updCuf]
  have hlane : ∀ l, Reg.CUF_STATUS n ≠ Reg.CUF_LANE_BLOCKS n l := fun l => by simp only [Reg.CUF_STATUS, Reg.CUF_LANE_BLOCKS]; omega
  have hfree : Reg.CUF_STATUS n ∉ laneRegs n := by
    simp only [laneRegs, List.mem_map, List.mem_range, not_exists, not_and]; exact fun l _ e => hlane l e.symm
  generalize cufResync n s = u at hport hcuf hreg
  refine ⟨_, okSettled_calm (hport.calm hc (by rw [hcuf]; exact hc.waiting n hn) (by rw [hcuf]; exact hc.rxq n hn)), ?_, fun l hl => ?_, fun a ha => ?_,
    hport.memory.latched⟩
  · rw [latched_get_bit, State.bit, hreg, laneBlocks_regsBut _ _ _ _ hfree, reg_setBit_self, bset_bit _ _ _ _ (by decide), if_pos rfl]
  · rw [latched_get_reg, hreg, laneBlocks_lane hl, reg_setBit_ne (hlane l).symm]; rfl
  · rw [List.mem_cons, not_or] at ha
    rw [latched_get_reg, hreg, laneBlocks_regsBut _ _ _ _ ha.2, reg_setBit_ne ha.1]

/-! ### Test writes (R377, R384) -/

/-- A test write arms what its bits say. -/
def testArmed (n : Nat) (v : Word) (s : State) : State :=
  updCuf n (fun c => { c with injCredit := c.injCredit || bget v 2, injCrc := c.injCrc || bget v 0, txSlot := c.txSlot + b2n (bget v 1) }) s

theorem cufPage_assigned : ∀ n : Fin 2, pageAssigned (0x28 + n) = true := by decide

theorem cufInject_reg (n : Fin 2) : (regAt (Reg.CUF_INJECT n)).isSome = true := by revert n; decide

theorem cufInject_done {n : Fin 2} {s : State} (h : Reaches (Reg.CUF_INJECT n) s) (i : Initiator) (v : Word) :
    ∃ t, okSettled (regCmd i (Reg.CUF_INJECT n) v s) = .next t ∧ Took i [] s t ∧ (t.cufP n).injCredit = ((s.cufP n).injCredit || bget v 2) ∧
      (t.cufP n).injCrc = ((s.cufP n).injCrc || bget v 0) := by
  have hn := n.isLt
  have hpage : regPage (Reg.CUF_INJECT n) = 0x28 + n := by simp only [regPage, Reg.CUF_INJECT]; omega
  have hplace : Reg.CUF_INJECT n ≠ Reg.CUF_CTL n ∧ Reg.CUF_INJECT n ≠ Reg.CUF_VCCFG n ∧ ¬ Reg.CUF_WIN n 0 ≤ Reg.CUF_INJECT n := by
    simp only [Reg.CUF_INJECT, Reg.CUF_CTL, Reg.CUF_VCCFG, Reg.CUF_WIN]; omega
  have hrefused : plRefused (initPl i) (Reg.CUF_INJECT n) = false := by
    refine plRefused_other ?_ (Or.inr ?_) (Or.inr ?_) <;> simp only [Reg.CUF_INJECT, Reg.BSQ_CORE_CTL, Reg.BSQ_CORE_ENTRY, Reg.PWR_DOM] <;> omega
  have hwrite : cufWrite i.ep n (Reg.CUF_INJECT n) v s = testArmed n v s := by
    obtain ⟨h1, h2, h3⟩ := hplace
    simp only [cufWrite, h1, h2, h3, if_false, decide_false, Bool.false_and, Bool.or_self, Bool.false_eq_true, if_true]
    rfl
  have hcuf : (testArmed n v s).cufP n = { s.cufP n with
      injCredit := (s.cufP n).injCredit || bget v 2, injCrc := (s.cufP n).injCrc || bget v 0, txSlot := (s.cufP n).txSlot + b2n (bget v 1) } := by
    rw [testArmed, cufP_updCuf_self]
  have hport : AtPort n s (testArmed n v s) := atPort_updCuf ..
  have haccess : regAccess i.ep (initPl i) (Reg.CUF_INJECT n) (some v) s = .done .ok 0 (testArmed n v s) := by
    have hrt : Reg.CUF_INJECT n ≠ Reg.FAB_RT_DATA := by simp only [Reg.CUF_INJECT, Reg.FAB_RT_DATA]; omega
    have hk : ∀ k, k < 0x28 → (0x28 + n.val = k) = False := fun k hk => eq_false (by omega)
    rw [regAccess_write (by omega) (cufInject_reg n), pageWrite, hpage, hrefused]
    simp only [Bool.false_eq_true, if_false, hk _ (by decide : 0 < 0x28), hk _ (by decide : 1 < 0x28), hk _ (by decide : 2 < 0x28), hk _ (by decide : 3 < 0x28),
      show ¬ 0x28 + n.val < 8 by omega, show ¬ 0x28 + n.val < 0x10 by omega, show ¬ 0x28 + n.val < 0x14 by omega, show ¬ 0x28 + n.val < 0x20 by omega, hrt,
      show ¬ 0x28 + n.val < 0x28 by omega, show 0x28 + n.val < 0x2a by omega, if_true, Nat.add_sub_cancel_left, hwrite, fine]
  have hreg : ∀ a, (testArmed n v s).reg a = s.reg a := fun a => by rw [testArmed, reg_updCuf]
  generalize testArmed n v s = u at hcuf hport haccess hreg
  refine ⟨_, okSettled_regCmd h (regionAt_page s (by omega) (by omega) (by rw [hpage]; exact cufPage_assigned n)) haccess
    (hport.calm h.calm (by rw [hcuf]; exact h.calm.waiting n hn) (by rw [hcuf]; exact h.calm.rxq n hn)), ?_, ?_, ?_⟩
  · exact ⟨accessEnd_resp .., fun a _ => (accessEnd_reg ..).trans (hreg a), (accessEnd_cores ..).trans (by rw [hport.only]), hport.memory.trans (accessEnd_memory ..)⟩
  · rw [latched_get_cufP, complete_get_cufP, hcuf]
  · rw [latched_get_cufP, complete_get_cufP, hcuf]

end Sys2Proof.Machine
end


section
/-!
SUPPORT. Sequenced packets at a Cuff port (R384, R390, R427, R433): through the receive buffer; MSG and IMAGE.
-/
set_option linter.constructorNameAsVariable false

namespace Sys2Proof.Machine

/-! ### Through the receive buffer -/

theorem cufDeliver_one {srv : Server} {n : Nat} {s w : State} {p : CufPkt} (hq : (s.cufP n).rxq = [p]) (htag : p.tag ≠ 1)
    (hw : (if p.type = 6 then cufTakeMsg n p (updCuf n (fun c => { c with rxq := [] }) s) else cufTakeReq srv n p (updCuf n (fun c => { c with rxq := [] }) s)) = some w) :
    cufDeliver srv n s = bufferFreed n p w := by
  simp only [cufDeliver, hq, List.isEmpty_cons, Bool.false_eq_true, if_false, List.foldl_cons, List.foldl_nil, List.contains_nil, hw, htag]
  rfl

/-- A packet comes into the receive buffer and out of it. -/
theorem Comes.passes {n : Nat} {s u : State} (h : Comes n s u) (hr : (s.cufP n).rxq = []) {f g : CufPort → CufPort} (hport : ∀ c, RecvOnly c (g (f c)))
    (hgood : ∀ c, (g (f c)).lastGood = c.lastGood) (hrxq : ∀ c, (g (f c)).rxq = []) : Comes n s (updCuf n g (updCuf n f u)) := by
  have hcuf : (updCuf n g (updCuf n f u)).cufP n = g (f (u.cufP n)) := by rw [cufP_updCuf_self, cufP_updCuf_self]
  exact ⟨(h.at_port.trans (atPort_updCuf ..)).trans (atPort_updCuf ..), h.regs, h.count, by rw [hcuf, hgood]; exact h.good,
    by rw [hcuf]; exact h.port.trans (hport _), by rw [hcuf, hrxq, hr]⟩

section
variable {n : Nat} {x : CufRx} {s v : State} {kind : Nat} (h : Arrives s n x kind 0)
include h

theorem Arrives.vc_lt (hk : kind < 9) (h7 : kind ≠ 1) : (rxPkt x).vc < 9 := by
  have := h.vc.1
  unfold vcClassOk at this
  split at this <;> simp at this <;> omega

variable (hn : n < 2)
include hn

/-- A sequenced packet that leaves the port quiet has done what its type says. -/
theorem sequenced_ends (hseq : seqType kind = true) (hv : cufTakeSeq busSrv n x (mgmtPacket n []) (heardAt n x s) = v) (hmsgs : (v.cufP n).msgs = [])
    (hquiet : Quiet n v) (hc : Calm v) (hcns : v.cns = s.cns) : rowRx n x s = .next (latched v) := by
  refine rowRx_ends ?_ hc (fun m hm => by rw [hcns]; exact (h.idle m hm).2.2.2) hn
  rw [cufReceive_sequenced h hseq rfl, hv, msgPump_quiet hmsgs hquiet]

omit hn

omit h in
theorem admitted_cufP : (admitted n x s).cufP n = { (turned n x s).cufP n with rxq := [], rxocc := bump ((turned n x s).cufP n).rxocc (rxPkt x).vc (1 + sget x.hdr 45 42) } := by
  rw [admitted, cufP_updCuf_self, cufP_updCuf_self]

theorem admitted_comes (hv : (rxPkt x).vc < 9) (hn : n < 2) : Comes n s (admitted n x s) :=
  (turned_comes (n := n) (x := x) s hv).passes (h.calm.rxq n hn) (f := fun c => { c with rxq := c.rxq ++ [rxPkt x], rxocc := bump c.rxocc (rxPkt x).vc (1 + sget x.hdr 45 42) })
    (g := fun c => { c with rxq := [] }) (fun _ => rfl) (fun _ => rfl) (fun _ => rfl)

omit h in
theorem admitted_turn : ((admitted n x s).cufP n).nextRx = ((s.cufP n).nextRx + 1) % 4096 := by
  rw [admitted_cufP]; exact turned_next n x s

end

end Sys2Proof.Machine
end


section
/-!
SUPPORT. MSG and IMAGE at a Cuff port (R427, R433).
-/
set_option linter.constructorNameAsVariable false

namespace Sys2Proof.Machine

/-- From u to v port n acts on a packet: its order, its count of packets and what waits at it stay. -/
structure Follows (n : Nat) (u v : State) : Prop where
  at_port : AtPort n u v
  count : v.reg (Reg.CUF_RX_PKT_CNT n) = u.reg (Reg.CUF_RX_PKT_CNT n)
  order : (v.cufP n).nextRx = (u.cufP n).nextRx ∧ (v.cufP n).lastGood = (u.cufP n).lastGood
  rest : (v.cufP n).msgs = (u.cufP n).msgs ∧ (v.cufP n).waiting = (u.cufP n).waiting ∧ (v.cufP n).rxq = (u.cufP n).rxq

theorem Follows.trans {n : Nat} {u v w : State} (h : Follows n u v) (g : Follows n v w) : Follows n u w :=
  ⟨h.at_port.trans g.at_port, g.count.trans h.count, ⟨g.order.1.trans h.order.1, g.order.2.trans h.order.2⟩,
    g.rest.1.trans h.rest.1, g.rest.2.1.trans h.rest.2.1, g.rest.2.2.trans h.rest.2.2⟩

theorem follows_updCuf (n : Nat) {f : CufPort → CufPort} (s : State) (ho : ∀ c, (f c).nextRx = c.nextRx ∧ (f c).lastGood = c.lastGood)
    (hr : ∀ c, (f c).msgs = c.msgs ∧ (f c).waiting = c.waiting ∧ (f c).rxq = c.rxq) : Follows n s (updCuf n f s) :=
  ⟨atPort_updCuf .., rfl, by rw [cufP_updCuf_self]; exact ho _, by rw [cufP_updCuf_self]; exact hr _⟩

theorem bufferFreed_follows (n : Nat) (p : CufPkt) (s : State) : Follows n s (bufferFreed n p s) :=
  follows_updCuf n s (fun _ => ⟨rfl, rfl⟩) (fun _ => ⟨rfl, rfl, rfl⟩)

theorem owe_follows (n v k : Nat) (s : State) : Follows n s (owe n v k s) := follows_updCuf n s (fun _ => ⟨rfl, rfl⟩) (fun _ => ⟨rfl, rfl, rfl⟩)

section
variable {n : Nat} {s u v : State} {k : Nat} (h : Follows n u v)
include h

theorem Follows.heard (hu : Heard n k s u) : Heard n k s v := ⟨h.count.trans hu.count, h.order.2.trans hu.good, h.order.1.trans hu.turn⟩

theorem Follows.calm (hc : Calm u) (hn : n < 2) : Calm v := h.at_port.calm hc (h.rest.2.1.trans (hc.waiting n hn)) (h.rest.2.2.trans (hc.rxq n hn))

end

section
variable {n : Nat} {x : CufRx} {s : State} {kind : Nat} (h : Arrives s n x kind 0) (hn : n < 2)
include h

omit h in
theorem turned_heard (hv : (rxPkt x).vc < 9) (hseq : seqType kind = true) : Heard n kind s (turned n x s) :=
  (turned_comes s hv).heard (by rw [hseq]; exact turned_next n x s)

theorem admitted_heard (hn : n < 2) (hv : (rxPkt x).vc < 9) (hseq : seqType kind = true) : Heard n kind s (admitted n x s) :=
  (admitted_comes h hv hn).heard (by rw [hseq]; exact admitted_turn)

/-- A packet of a data channel comes through the receive buffer. -/
theorem delivered_one (hseq : seqType kind = true) (hkind : kind < 9) (h5 : kind ≠ 5) (h8 : (rxPkt x).vc ≠ 8) (hn : n < 2) {w : State}
    (hfree : isReqType kind = true → SMap.find (rxPkt x).tag8 (s.cufP n).inTags = none)
    (hw : (if kind = 6 then cufTakeMsg n (rxPkt x) (admitted n x s) else cufTakeReq busSrv n (rxPkt x) (admitted n x s)) = some w) :
    cufTakeSeq busSrv n x (mgmtPacket n []) (heardAt n x s) = bufferFreed n (rxPkt x) w := by
  have h1 : kind ≠ 1 := fun e => by rw [e] at hseq; exact absurd hseq (by decide)
  have hrxq : ((turned n x s).cufP n).rxq = [] := by rw [turned_cufP, heardAt_cufP]; exact h.calm.rxq n hn
  have htags : ((turned n x s).cufP n).inTags = (s.cufP n).inTags := by rw [turned_cufP, heardAt_cufP]
  have hnew : (isReqType (rxPkt x).type && ((SMap.find (rxPkt x).tag8 ((turned n x s).cufP n).inTags).isSome ||
      ((turned n x s).cufP n).rxq.any (fun q => isReqType q.type && q.tag8 == (rxPkt x).tag8 && q.tag != 1))) = false := by
    rw [h.isKind, hrxq, htags]
    cases hreq : isReqType kind with
    | false => rfl
    | true => rw [hfree hreq]; rfl
  rw [cufTakeSeq_checked h hseq (by omega) (h.vc_lt hkind h1), h.isKind, if_neg h5, if_neg h8, ← h.isKind, if_neg (by rw [hnew]; decide)]
  refine cufDeliver_one (by rw [cufP_updCuf_self, hrxq]; rfl) Nat.zero_ne_one ?_
  rw [h.isKind]
  exact hw

end

/-! ### MSG (R427) -/

theorem headD_take {α : Type} (l : List α) (k : Nat) (d : α) : (l.take (k + 1)).headD d = l.headD d := by cases l <;> rfl

/-- What the first packet of a message leaves of it. -/
def firstOfMsg (p : CufPkt) (s : State) : CufMsgIn := ⟨(p.data.take (p.field / 2 ^ 28 % 16 + 1)).drop 1, s.fld Reg.CNS_EPOCH 15 0, false, false⟩

def msgBegun (n : Nat) (p : CufPkt) (s : State) : State :=
  updCuf n (fun c => { c with msgIn := SMap.insert (p.field / 2 ^ 34 % 256) (firstOfMsg p s) c.msgIn }) s

theorem purgeMsg_none {n ch : Nat} {s : State} (hm : SMap.find ch (s.cufP n).msgIn = none) : purgeMsg n ch s = s := by rw [purgeMsg, hm]

theorem purgeMsg_open {n ch : Nat} {s : State} {m : CufMsgIn} (hm : SMap.find ch (s.cufP n).msgIn = some m) (hlast : m.last = false) : purgeMsg n ch s = s := by
  simp [purgeMsg, hm, hlast]

theorem msgBegun_msg (n : Nat) (p : CufPkt) (s : State) :
    SMap.find (p.field / 2 ^ 34 % 256) ((msgBegun n p s).cufP n).msgIn = some (firstOfMsg p s) := by
  rw [msgBegun, cufP_updCuf_self]; exact SMap.find_insert_self ..

theorem cufTakeMsg_first {n : Nat} {s : State} {p : CufPkt} (hm : SMap.find (p.field / 2 ^ 34 % 256) (s.cufP n).msgIn = none)
    (hfirst : p.field / 2 ^ 33 % 2 = 1) (hlast : p.field / 2 ^ 32 % 2 = 0) (hepoch : fget (p.data.headD 0) 39 24 = s.fld Reg.CNS_EPOCH 15 0) :
    cufTakeMsg n p s = some (msgBegun n p s) := by
  have hpurge := purgeMsg_open (msgBegun_msg n p s) rfl
  simp only [cufTakeMsg, purgeMsg_none hm, hm, hfirst, hlast, headD_take, hepoch, beq_self_eq_true, Bool.not_true, Bool.false_eq_true, if_false, ne_eq,
    not_true_eq_false]
  exact congrArg some hpurge

theorem msgBegun_follows (n : Nat) (p : CufPkt) (s : State) : Follows n s (msgBegun n p s) := follows_updCuf n s (fun _ => ⟨rfl, rfl⟩) (fun _ => ⟨rfl, rfl, rfl⟩)

theorem bufferFreed_cufP (n : Nat) (p : CufPkt) (s : State) : ((bufferFreed n p s).cufP n).outq = (s.cufP n).outq ∧
    ((bufferFreed n p s).cufP n).msgIn = (s.cufP n).msgIn ∧ ((bufferFreed n p s).cufP n).inTags = (s.cufP n).inTags := by
  rw [bufferFreed, cufP_updCuf_self]; exact ⟨rfl, rfl, rfl⟩

/-- The first packet of a message joins its channel and leaves the receive buffer. -/
theorem msg_joined (n : Nat) (p : CufPkt) (s : State) : Follows n s (bufferFreed n p (msgBegun n p s)) ∧
    ((bufferFreed n p (msgBegun n p s)).cufP n).outq = (s.cufP n).outq ∧
    SMap.find (p.field / 2 ^ 34 % 256) ((bufferFreed n p (msgBegun n p s)).cufP n).msgIn = some (firstOfMsg p s) := by
  obtain ⟨houtq, hmsg, -⟩ := bufferFreed_cufP n p (msgBegun n p s)
  refine ⟨(msgBegun_follows n p s).trans (bufferFreed_follows n p _), ?_, ?_⟩
  · rw [houtq, msgBegun, cufP_updCuf_self]
  · rw [hmsg, msgBegun_msg]

theorem msg_done {n : Nat} {x : CufRx} {s : State} (hn : n < 2) (h : Arrives s n x 6 0) (hm : SMap.find ((rxPkt x).field / 2 ^ 34 % 256) (s.cufP n).msgIn = none)
    (hfirst : (rxPkt x).field / 2 ^ 33 % 2 = 1) (hlast : (rxPkt x).field / 2 ^ 32 % 2 = 0)
    (hepoch : fget ((rxPkt x).data.headD 0) 39 24 = s.fld Reg.CNS_EPOCH 15 0) :
    ∃ t, rowRx n x s = .next t ∧ Heard n 6 s t ∧
      SMap.find ((rxPkt x).field / 2 ^ 34 % 256) (t.cufP n).msgIn = some (firstOfMsg (rxPkt x) s) ∧ SameMemory s t := by
  have hv := h.vc_lt (by decide) (by decide)
  have h8 : (rxPkt x).vc ≠ 8 := fun e => by have := h.vc.1; rw [e] at this; exact absurd this (by decide)
  have hcomes := admitted_comes h hv hn
  have hheard := admitted_heard h hn hv rfl
  have htake := fun w => delivered_one (w := w) h rfl (by decide) (by decide) h8 hn (fun e => absurd e (by decide))
  generalize admitted n x s = u at hcomes hheard htake
  have hmsg : (u.cufP n).msgIn = (s.cufP n).msgIn := by rw [hcomes.port]
  have hfld : u.fld Reg.CNS_EPOCH 15 0 = s.fld Reg.CNS_EPOCH 15 0 := hcomes.fld (by simp only [Reg.CNS_EPOCH]; omega) ..
  obtain ⟨hacts, hq, hbegun⟩ := msg_joined n (rxPkt x) u
  have hv := htake _ (cufTakeMsg_first (by rw [hmsg]; exact hm) hfirst hlast (by rw [hfld]; exact hepoch))
  generalize bufferFreed n (rxPkt x) (msgBegun n (rxPkt x) u) = v at hacts hq hbegun hv
  obtain ⟨houtq, -, hmsgs, -⟩ := hcomes.kept
  obtain ⟨h1, -, h3, -⟩ := h.idle n hn
  have hport := hcomes.at_port.trans hacts.at_port
  refine ⟨_, sequenced_ends h hn rfl hv (hacts.rest.1.trans (hmsgs.trans h3)) (quiet_empty (hq.trans (houtq.trans h1)))
    (hacts.calm (hcomes.calm h.calm hn) hn) hport.cns, (hacts.heard hheard).latched, ?_, hport.memory.latched⟩
  rw [latched_get_cufP, hbegun, firstOfMsg, hfld, firstOfMsg]

/-! ### IMAGE (R433) -/

/-- The words of an IMAGE packet join this device's own image. -/
def imageTaken (p : CufPkt) (len : Nat) (s : State) : State :=
  { s with boot := { s.boot with img := (s.boot.img ++ p.data.take (p.field / 2 ^ 26 % 16 + 1)).take len, since := s.tb.pulses } }

theorem takeImage_own {n len : Nat} {s : State} (hleft : SMap.find n s.cns.imgLeft = none) (hfor : s.boot.imgFor = some (len, n)) (hboot : cuffBoot s = true)
    (hfirst : s.fld Reg.BSQ_STATUS 9 7 = 2) (p : CufPkt) : takeImage n p s = imageTaken p len s := by
  simp only [takeImage, imageTaken, hleft, hfor, hboot, hfirst, ne_eq, not_true_eq_false, decide_false, Bool.not_true, Bool.or_self, Bool.false_eq_true, if_false, if_true]

theorem calm_imageTaken {s : State} (h : Calm s) (p : CufPkt) (len : Nat) : Calm (imageTaken p len s) := h.of_same rfl rfl rfl rfl (.of_cores rfl) rfl rfl

theorem imageTaken_heard {n k : Nat} {s u : State} (h : Heard n k s u) (p : CufPkt) (len : Nat) : Heard n k s (imageTaken p len u) := ⟨h.count, h.good, h.turn⟩

theorem image_done {n len : Nat} {x : CufRx} {s : State} (hn : n < 2) (h : Arrives s n x 8 0) (hfor : s.boot.imgFor = some (len, n)) (hboot : cuffBoot s = true)
    (hleft : SMap.find n s.cns.imgLeft = none) (hfirst : s.fld Reg.BSQ_STATUS 9 7 = 2) :
    ∃ t, rowRx n x s = .next t ∧ Heard n 8 s t ∧ t.boot.img = (s.boot.img ++ (rxPkt x).data.take ((rxPkt x).field / 2 ^ 26 % 16 + 1)).take len := by
  have hv := h.vc_lt (by decide) (by decide)
  have h8 : (rxPkt x).vc = 8 := by simpa [vcClassOk] using h.vc.1
  have hcomes := turned_comes (n := n) (x := x) s hv
  have hheard := turned_heard (kind := 8) (n := n) (x := x) (s := s) hv rfl
  have hchecked := cufTakeSeq_checked h rfl (by decide) hv busSrv (mgmtPacket n [])
  rw [h.isKind, if_neg (by decide), if_pos h8, mgmtPacket, if_pos h.isKind] at hchecked
  generalize turned n x s = u at hcomes hheard hchecked
  have hsame : u.cns = s.cns ∧ u.boot = s.boot := by rw [hcomes.at_port.only]; exact ⟨rfl, rfl⟩
  obtain ⟨hcns, hbootS⟩ := hsame
  have hstatus : ∀ hi lo, u.fld Reg.BSQ_STATUS hi lo = s.fld Reg.BSQ_STATUS hi lo := fun hi lo => hcomes.fld (by simp only [Reg.BSQ_STATUS]; omega) hi lo
  have hboot' : cuffBoot u = true := by rw [cuffBoot, hbootS, hstatus, hstatus]; exact hboot
  rw [takeImage_own (by rw [hcns]; exact hleft) (by rw [hbootS]; exact hfor) hboot' (by rw [hstatus]; exact hfirst)] at hchecked
  have howe := owe_follows n (rxPkt x).vc (1 + sget x.hdr 45 42) (imageTaken (rxPkt x) len u)
  have hq : ((owe n (rxPkt x).vc (1 + sget x.hdr 45 42) (imageTaken (rxPkt x) len u)).cufP n).outq = (u.cufP n).outq := by rw [owe, cufP_updCuf_self]; rfl
  have himg : (owe n (rxPkt x).vc (1 + sget x.hdr 45 42) (imageTaken (rxPkt x) len u)).boot.img =
      (s.boot.img ++ (rxPkt x).data.take ((rxPkt x).field / 2 ^ 26 % 16 + 1)).take len := by rw [← hbootS]; rfl
  generalize owe n (rxPkt x).vc (1 + sget x.hdr 45 42) (imageTaken (rxPkt x) len u) = v at hchecked howe hq himg
  obtain ⟨houtq, -, hmsgs, -⟩ := hcomes.kept
  obtain ⟨h1, -, h3, -⟩ := h.idle n hn
  exact ⟨_, sequenced_ends h hn rfl hchecked (howe.rest.1.trans (hmsgs.trans h3)) (quiet_empty (hq.trans (houtq.trans h1)))
    (howe.calm (calm_imageTaken (hcomes.calm h.calm hn) ..) hn) (howe.at_port.cns.trans hcns), (howe.heard (imageTaken_heard hheard ..)).latched, himg⟩

end Sys2Proof.Machine
end


section
/-!
SUPPORT. Responses on the fabric (R351), and RSP at a Cuff port (R399).
-/
set_option linter.constructorNameAsVariable false

namespace Sys2Proof.Machine

/-! ### A response leaves its responder -/

theorem endpoint_lt {e : Nat} (h : endpointExists e = true) : e < 32 := by
  simp only [endpointExists, Bool.or_eq_true, decide_eq_true_eq, beq_iff_eq] at h
  omega

theorem routeValid_lt {s : State} {x y : Nat} (h : routeValid s x y = true) : y < 32 := by
  rw [routeValid, Bool.and_eq_true] at h
  exact endpoint_lt h.1

theorem Linked.clear {s : State} {x y : Nat} (h : Linked s x y) : ClearFabric s := ⟨h.flaws, h.probes⟩

/-- One more response is on its way. -/
def answering (p : Pkt) (s : State) : State := { s with fab := { s.fab with inflight := s.fab.inflight ++ [p] } }

/-- The response to a request. -/
def answerPkt (q : Pkt) (st : FStatus) (d : Line) : Pkt :=
  { q with cls := 1, code := if q.code = 0 then 0 else 1, src := q.dst, dst := q.src, status := st, len := d.length, data := d,
           masked := false, mask := 0, ext := PktExt.zero, atop := .cas, pl := 0, part := 0 }

theorem respond_clear {s : State} (hs : ClearFabric s) {q : Pkt} (hroute : routeValid s q.dst q.src = true) (hlt : q.dst < 32) {st : FStatus}
    (hst : st = .ok ∨ st = .poison) {d : Line} (hd : d.length ≤ 16) : ∃ t, FlitsCounted s t ∧ respond q st d s = answering (answerPkt q st d) t := by
  obtain ⟨t, ht, hx⟩ := crossFabric_clear hs (p := answerPkt q st d) hlt
  have hform : malformed t (answerPkt q st d) = false := by
    rw [malformed, struck_of_no_flaws (ht.clear hs).flaws]
    by_cases hq : q.code = 0
    · simp [Pkt.misformed, answerPkt, hq, hd]
    · simp [Pkt.misformed, answerPkt, hq, hd]
  have hdata : (if (decide (st = .ok) || decide (st = .poison)) = true then d else []) = d := if_pos (by simpa using hst)
  refine ⟨t, ht, ?_⟩
  simp only [respond, hdata]
  simp only [answerPkt] at hx hform
  simp only [hroute, if_true, hx, hform, Bool.false_eq_true, if_false]
  rfl

theorem answering_calm {s : State} (h : Calm s) (p : Pkt) : Calm (answering p s) :=
  ⟨h.flaws, h.held, h.retired, h.blocked, h.inter, h.waiting, h.rxq, h.draining, h.stores, h.sources⟩

theorem answering_replied {s u : State} (h : u.fab.inflight = s.fab.inflight) (q : Pkt) (st : FStatus) (d : Line) :
    Replied s q.src q.dst st d (answering (answerPkt q st d) u) := by
  constructor
  · simp [answering, h]
  · simp [answering, answerPkt]

theorem Replied.latched {s t : State} {x d : Nat} {st : FStatus} {data : Line} (h : Replied s x d st data t) : Replied s x d st data (latched t) := ⟨h.before, h.last⟩

end Sys2Proof.Machine
end


section
/-!
SUPPORT. RSP at a Cuff port (R399): the answer to the only request that is out.
-/
set_option linter.constructorNameAsVariable false

namespace Sys2Proof.Machine

/-- The words that an RSP carries. -/
def rspWords (p : CufPkt) : Line :=
  (List.range (if p.field / 2 ^ 26 % 2 = 1 then p.field / 2 ^ 27 % 16 + 1 else 0)).map (fun i => ⟨p.data.getD i 0, if Nat.testBit (p.field / 2 ^ 10) i then .poison else .good⟩)

theorem rspWords_length (p : CufPkt) : (rspWords p).length ≤ 16 := by
  rw [rspWords, List.length_map, List.length_range]
  split <;> omega

/-- The only outbound request, answered: its tag is free. -/
def outAnswered (n t : Nat) (f : CufOut → CufOut) (s : State) : State := eraseOut n t (setOut n t f s)

theorem outAnswered_cufP {n t : Nat} {e : CufOut} {s : State} (h : (s.cufP n).outTags = [(t, e)]) (f : CufOut → CufOut) :
    (outAnswered n t f s).cufP n = { s.cufP n with outTags := [] } := by
  rw [outAnswered, eraseOut, cufP_updCuf_self, setOut, cufP_updCuf_self, h]
  simp

theorem setOut_follows (n t : Nat) (f : CufOut → CufOut) (s : State) : Follows n s (setOut n t f s) := follows_updCuf n s (fun _ => ⟨rfl, rfl⟩) (fun _ => ⟨rfl, rfl, rfl⟩)
theorem eraseOut_follows (n t : Nat) (s : State) : Follows n s (eraseOut n t s) := follows_updCuf n s (fun _ => ⟨rfl, rfl⟩) (fun _ => ⟨rfl, rfl, rfl⟩)

theorem outAnswered_follows (n t : Nat) (f : CufOut → CufOut) (s : State) : Follows n s (outAnswered n t f s) := (setOut_follows ..).trans (eraseOut_follows ..)

theorem outAnswered_reg (n t : Nat) (f : CufOut → CufOut) (s : State) (a : Nat) : (outAnswered n t f s).reg a = s.reg a := rfl

theorem setOut_find {n t : Nat} {e : CufOut} {s : State} (h : (s.cufP n).outTags = [(t, e)]) (f : CufOut → CufOut) :
    SMap.find t ((setOut n t f s).cufP n).outTags = some (f e) := by
  rw [setOut, cufP_updCuf_self, h]; simp [SMap.find]

/-- An RSP with status OK for the only request that is out, of one packet, answers its local request. -/
theorem cufTakeRsp_only {n : Nat} {p : CufPkt} {e : CufOut} {q : Pkt} {s : State} (h : (s.cufP n).outTags = [(p.field / 2 ^ 34, e)]) (hq : e.pkt = some q)
    (hlead : e.lead = none) (hparts : e.parts = 1) (hother : e.other = .ok) (hok : p.field / 2 ^ 31 % 8 = 0) (hdr : BitVec 80) :
    cufTakeRsp n p hdr s = cufRetryWaiting n (respond q .ok (rspWords p)
      (outAnswered n (p.field / 2 ^ 34) (fun x => { x with status := .ok, data := rspWords p, parts := x.parts - 1 }) s)) := by
  have hfind : SMap.find (p.field / 2 ^ 34) (s.cufP n).outTags = some e := by rw [h]; simp [SMap.find]
  have hset := setOut_find h (fun x => { x with status := .ok, data := rspWords p, parts := x.parts - 1 })
  have hdone : partDone n (p.field / 2 ^ 34) (setOut n (p.field / 2 ^ 34) (fun x => { x with status := .ok, data := rspWords p, parts := x.parts - 1 }) s) =
      respond q .ok (rspWords p) (outAnswered n (p.field / 2 ^ 34) (fun x => { x with status := .ok, data := rspWords p, parts := x.parts - 1 }) s) := by
    simp only [partDone, hset, hparts, Nat.sub_self, if_true, outComplete, hq, hother]
    rfl
  simp only [cufTakeRsp, hfind, hok, hlead, statusOf]
  exact congrArg (cufRetryWaiting n) hdone

/-! ### The fabric that a port's own work leaves -/

theorem Comes.route {n : Nat} {s u : State} (h : Comes n s u) (hn : n < 2) (x y : Nat) : routeValid u x y = routeValid s x y := by
  have hkey : routeKey x y ∉ recvRegs n := recvRegs_apart (by simp only [routeKey]; omega)
  simp only [routeValid, routeEntry, h.regs _ hkey]

theorem Comes.clear {n : Nat} {s u : State} (h : Comes n s u) (hn : n < 2) (hs : ClearFabric s) : ClearFabric u := by
  refine ⟨by rw [h.at_port.only]; exact hs.flaws, fun k hk => ?_⟩
  rw [h.bit (by simp only [Reg.PRB_n_CTL]; omega)]
  exact hs.probes k hk

/-- Where nothing in the way of a response has changed, it leaves, and the port has heard its packet. -/
theorem respond_follows {n k : Nat} {s u v : State} (hcomes : Comes n s u) (hheard : Heard n k s u) (hn : n < 2) (hc : Calm s) (g : Follows n u v)
    (hregs : ∀ a, v.reg a = u.reg a) {q : Pkt} (hlink : Linked s q.dst q.src) {d : Line} (hd : d.length ≤ 16) :
    ∃ w, respond q .ok d v = w ∧ Heard n k s w ∧ Calm w ∧ w.cns = s.cns ∧ w.cuf = v.cuf ∧ Replied s q.src q.dst .ok d w := by
  have hclear := hcomes.clear hn hlink.clear
  have hflaws : v.flaws = u.flaws := by rw [g.at_port.only]
  have hclear' : ClearFabric v := ⟨hflaws.trans hclear.flaws, fun k hk => by rw [State.bit, hregs]; exact hclear.probes k hk⟩
  have hroute : routeValid v q.dst q.src = true := by
    have := hcomes.route hn q.dst q.src
    rw [routeValid, routeEntry, hregs, ← routeEntry, ← routeValid, this]; exact hlink.there
  obtain ⟨w, hw, hresp⟩ := respond_clear hclear' hroute (routeValid_lt hlink.back) (.inl rfl) hd
  have hcalm := g.calm (hcomes.calm hc hn) hn
  have hfab : w.fab.inflight = s.fab.inflight := by rw [hw.only.fab, g.at_port.only, hcomes.at_port.only]
  refine ⟨_, hresp, ?_, answering_calm (hcalm.regsOnly hw.only) _, ?_, hw.only.cuf, answering_replied hfab ..⟩
  · have h := g.heard hheard
    have hcnt := hw.regs (Reg.CUF_RX_PKT_CNT n) (fun r hr => by simp only [Reg.CUF_RX_PKT_CNT, Reg.FAB_RTR_FLITS]; omega)
    have hcuf := hw.only.get_cufP n
    exact ⟨hcnt.trans h.count, (congrArg CufPort.lastGood hcuf).trans h.good, (congrArg CufPort.nextRx hcuf).trans h.turn⟩
  · exact hw.only.cns.trans (g.at_port.cns.trans hcomes.at_port.cns)

theorem rsp_done {n : Nat} {x : CufRx} {s : State} {e : CufOut} {q : Pkt} (hn : n < 2) (h : Arrives s n x 5 0)
    (hout : (s.cufP n).outTags = [((rxPkt x).field / 2 ^ 34, e)]) (hq : e.pkt = some q) (hlead : e.lead = none) (hparts : e.parts = 1) (hother : e.other = .ok)
    (hok : (rxPkt x).field / 2 ^ 31 % 8 = 0) (hlink : Linked s q.dst q.src) :
    ∃ t, rowRx n x s = .next t ∧ Heard n 5 s t ∧ (t.cufP n).outTags = [] ∧ Replied s q.src q.dst .ok (rspWords (rxPkt x)) t := by
  have hv := h.vc_lt (by decide) (by decide)
  have hcomes := turned_comes (n := n) (x := x) s hv
  have hheard := turned_heard (kind := 5) (n := n) (x := x) (s := s) hv rfl
  have hchecked := cufTakeSeq_checked h rfl (by decide) hv busSrv (mgmtPacket n [])
  rw [if_pos h.isKind] at hchecked
  generalize turned n x s = u at hcomes hheard hchecked
  have hout' : (u.cufP n).outTags = [((rxPkt x).field / 2 ^ 34, e)] := by rw [hcomes.port]; exact hout
  rw [cufTakeRsp_only hout' hq hlead hparts hother hok] at hchecked
  have hacts := outAnswered_follows n ((rxPkt x).field / 2 ^ 34) (fun x' => { x' with status := .ok, data := rspWords (rxPkt x), parts := x'.parts - 1 }) u
  have hregs := outAnswered_reg n ((rxPkt x).field / 2 ^ 34) (fun x' => { x' with status := .ok, data := rspWords (rxPkt x), parts := x'.parts - 1 }) u
  have hcuf := outAnswered_cufP hout' (fun x' => { x' with status := .ok, data := rspWords (rxPkt x), parts := x'.parts - 1 })
  generalize outAnswered n ((rxPkt x).field / 2 ^ 34) (fun x' => { x' with status := .ok, data := rspWords (rxPkt x), parts := x'.parts - 1 }) u = v at *
  obtain ⟨w, hw, hheard', hcalm, hcns, hwcuf, hreplied⟩ := respond_follows hcomes hheard hn h.calm hacts hregs hlink (rspWords_length (rxPkt x))
  have hport : w.cufP n = { u.cufP n with outTags := [] } := by rw [State.cufP, hwcuf]; exact hcuf
  rw [hw, cufRetryWaiting_calm (hcalm.waiting n hn)] at hchecked
  have howe := owe_follows n (rxPkt x).vc (1 + sget x.hdr 45 42) w
  have hoport : (owe n (rxPkt x).vc (1 + sget x.hdr 45 42) w).cufP n = { w.cufP n with owed := bump (w.cufP n).owed (rxPkt x).vc (1 + sget x.hdr 45 42) } := by
    rw [owe, cufP_updCuf_self]
  have hrep : Replied s q.src q.dst .ok (rspWords (rxPkt x)) (owe n (rxPkt x).vc (1 + sget x.hdr 45 42) w) := ⟨hreplied.before, hreplied.last⟩
  generalize owe n (rxPkt x).vc (1 + sget x.hdr 45 42) w = z at *
  obtain ⟨houtq, -, hmsgs, -⟩ := hcomes.kept
  obtain ⟨h1, -, h3, -⟩ := h.idle n hn
  refine ⟨_, sequenced_ends h hn rfl hchecked (howe.rest.1.trans ?_) (quiet_empty ?_) (howe.calm hcalm hn) (howe.at_port.cns.trans hcns),
    (howe.heard hheard').latched, ?_, hrep.latched⟩
  · rw [hport]; exact hmsgs.trans h3
  · rw [hoport, hport]; exact houtq.trans h1
  · rw [latched_get_cufP, hoport, hport]

end Sys2Proof.Machine
end


section
/-!
SUPPORT. A request for close memory on the fabric (R71, R341, R351): from its interface to the core's close memory, and its response.
-/
set_option linter.constructorNameAsVariable false

namespace Sys2Proof.Machine

/-! ### What such a request changes -/

/-- From s to t the fabric has carried a request and close memory may have served it. -/
structure FabSide (s t : State) : Prop where
  only : t = { s with regs := t.regs, fab := t.fab, close := t.close, cores := t.cores }
  work : SameWork s t
  regs : ∀ a, 0x221000 ≤ a → t.reg a = s.reg a
  blocked : t.fab.blocked = s.fab.blocked
  inter : s.fab.ni.all (fun e => e.2.held.isEmpty) = true → t.fab.ni.all (fun e => e.2.held.isEmpty) = true

theorem FabSide.trans {s t u : State} (h : FabSide s t) (g : FabSide t u) : FabSide s u :=
  ⟨by rw [g.only, h.only], h.work.trans g.work, fun a ha => (g.regs a ha).trans (h.regs a ha), g.blocked.trans h.blocked, fun hi => g.inter (h.inter hi)⟩

theorem FabSide.calm {s t : State} (h : FabSide s t) (hs : Calm s) : Calm t where
  flaws := by rw [h.only]; exact hs.flaws
  held := by rw [h.only]; exact hs.held
  retired c hc := by rw [(h.work c).1, (h.work c).2]; exact hs.retired c hc
  blocked := h.blocked.trans hs.blocked
  inter := h.inter hs.inter
  waiting n hn := by rw [h.only]; exact hs.waiting n hn
  rxq n hn := by rw [h.only]; exact hs.rxq n hn
  draining n hn := by rw [h.only]; exact hs.draining n hn
  stores n hn := by rw [h.only]; exact hs.stores n hn
  sources := by rw [h.only]; exact hs.sources

theorem FabSide.clear {s t : State} (h : FabSide s t) (hs : ClearFabric s) : ClearFabric t :=
  ⟨by rw [h.only]; exact hs.flaws, fun k hk => by rw [State.bit, h.regs _ (by simp only [Reg.PRB_n_CTL]; omega)]; exact hs.probes k hk⟩

theorem FabSide.route {s t : State} (h : FabSide s t) (x y : Nat) : routeValid t x y = routeValid s x y := by
  simp only [routeValid, routeEntry, h.regs (routeKey x y) (by simp only [routeKey]; omega)]

theorem RegsOnly.fabSide {s t : State} (h : RegsOnly s t) (hr : ∀ a, 0x221000 ≤ a → t.reg a = s.reg a) : FabSide s t :=
  ⟨by unfold RegsOnly at h; rw [h], .of_cores h.cores, hr, by rw [h.fab], fun hi => by rw [h.fab]; exact hi⟩

theorem FlitsCounted.fabSide {s t : State} (h : FlitsCounted s t) : FabSide s t :=
  h.only.fabSide fun a ha => h.regs a fun r hr => by simp only [Reg.FAB_RTR_FLITS]; omega

theorem answering_fabSide (p : Pkt) (s : State) : FabSide s (answering p s) := ⟨rfl, fun _ => ⟨rfl, rfl⟩, fun _ _ => rfl, rfl, id⟩

theorem CloseSide.fabSide {c : Nat} {s t : State} (h : CloseSide c s t) : FabSide s t :=
  ⟨by have := h.only; unfold CloseOnly at this; rw [this], h.work, fun a _ => reg_congr h.regs a, by rw [h.only], fun hi => by rw [h.only]; exact hi⟩

theorem setNi_inter {s : State} {k : Nat} {v : Ni} (hv : v.held = []) (h : s.fab.ni.all (fun e => e.2.held.isEmpty) = true) :
    (s.setNi k v).fab.ni.all (fun e => e.2.held.isEmpty) = true := by
  rw [List.all_eq_true] at h ⊢
  intro e he
  have hmem : e = (k, v) ∨ e ∈ s.fab.ni := by
    unfold State.setNi SMap.put at he
    dsimp only at he
    split at he
    · exact .inr (SMap.mem_erase he)
    · exact SMap.mem_insert he
  rcases hmem with rfl | hmem
  · simp [hv]
  · exact h e hmem

theorem ni_held {s : State} (h : s.fab.ni.all (fun e => e.2.held.isEmpty) = true) (k : Nat) : (s.ni k).held = [] := by
  unfold State.ni SMap.getD
  cases hf : SMap.find k s.fab.ni with
  | none => rfl
  | some v => simpa using List.all_eq_true.1 h _ (SMap.mem_of_find hf)

theorem setTag_fabSide (k t : Nat) (v : Tag) (s : State) : FabSide s (setTag k t v s) :=
  ⟨rfl, fun _ => ⟨rfl, rfl⟩, fun _ _ => rfl, rfl, fun hi => setNi_inter (ni_held hi k) hi⟩

theorem tagOf_setTag (k t : Nat) (v : Tag) (s : State) : tagOf (setTag k t v s) k t = v := by
  simp only [tagOf, setTag, State.ni, State.setNi, SMap.getD_put_self]

/-! ### Close memory -/

theorem closeMemory_region {k pa : Nat} (s : State) (hk : k < 8) (hlo : 0x40000 + k * 0x8000 ≤ pa) (hhi : pa < 0x40000 + k * 0x8000 + 0x4000) :
    regionAt s pa = some (.close k) := by
  have hpa : (nw pa).toNat = pa := by simp only [nw, BitVec.toNat_ofNat]; omega
  have := ownWord_region (c := k) (va := nw pa) s hk (by unfold ownWord; omega)
  rwa [hpa] at this

theorem closeMemory_leaves {k pa n : Nat} (s : State) (hk : k < 8) (hn : 0 < n) (hlo : 0x40000 + k * 0x8000 ≤ pa) (hhi : pa + n ≤ 0x40000 + k * 0x8000 + 0x4000) :
    leavesPart s pa n = none := by
  rw [leavesPart, closeMemory_region s hk hlo (by omega)]
  dsimp only
  rw [List.find?_eq_none]
  intro a ha
  obtain ⟨i, hi, rfl⟩ := List.mem_map.1 ha
  have hi := List.mem_range.1 hi
  rw [closeMemory_region s hk (by omega) (by omega)]
  simp
  omega

theorem wakeLevel_core {k : Nat} (hk : k < 8) (s : State) : RegsOnly s (wakeLevel k s) ∧ ∀ a, a ≠ Reg.PWR_DOM k → (wakeLevel k s).reg a = s.reg a := by
  unfold wakeLevel
  split
  · have hdram : (decide (k = 12) || decide (k = 13)) = false := by simp; omega
    simp only [hdram, Bool.false_and, Bool.false_eq_true, if_false]
    exact ⟨regsOnly_setFld .., fun a ha => reg_setFld_ne ha ..⟩
  · exact ⟨.refl s, fun _ _ => rfl⟩

theorem busSrv_close {p : Pkt} {k : Nat} (s : State) (hk : k < 8) (hdst : p.dst = k) (hlo : 0x40000 + k * 0x8000 ≤ p.addr) (hhi : p.addr < 0x40000 + k * 0x8000 + 0x4000) :
    busSrv p s = answerNow (closeServe p k (wakeLevel k s)) := by
  have hdom : domainOf p.dst p.addr = some k := by rw [hdst, domainOf, if_pos hk]
  have hdram : (decide (p.dst = 16) || decide (p.dst = 22)) = false := by simp; omega
  have hregion := closeMemory_region (wakeLevel k s) hk hlo hhi
  simp only [busSrv, hdom, hdram, Bool.false_and, Bool.false_eq_true, if_false, decodedAs, hregion, Option.some_or, accepts, Bool.not_true]

end Sys2Proof.Machine
end


section
/-!
SUPPORT. The way of a request to close memory (R351, R356, R358-R360): a tag, the fabric, the block, and the response.
-/
set_option linter.constructorNameAsVariable false

namespace Sys2Proof.Machine

/-- A REQ packet whose form no rule refuses. -/
structure PlainReq (p : Pkt) : Prop where
  cls : p.cls = 0
  code : p.code < 3
  len : p.len ≤ 16
  words : p.data.length ≤ 16

theorem PlainReq.formed {p : Pkt} (h : PlainReq p) : p.misformed = false := by
  obtain ⟨hcls, hcode, hlen, hwords⟩ := h
  have h1 : decide (3 ≤ p.code) = false := decide_eq_false (by omega)
  have h2 : decide (16 < p.len) = false := decide_eq_false (by omega)
  have h3 : decide (16 < p.data.length) = false := decide_eq_false (by omega)
  unfold Pkt.misformed
  rw [hcls, h1, h2, h3]
  simp

theorem atRouter_open {p : Pkt} {k : Nat} {s : State} (hk : k < 8) (hdst : p.dst = k) (hheld : s.ports.held = []) (hopen : domState s k = 0)
    (hshed : domShed s k = false) (srv : Server) : atRouter srv p s = serveNow srv p s := by
  have hdom : domainOf p.dst p.addr = some k := by rw [hdst, domainOf, if_pos hk]
  have haccept : notAccepting s p = false := by simp [notAccepting, ejected, hheld, hdom, hopen]
  have htake : takeIn srv p s = serveNow srv p s := by simp [takeIn, hdom, hopen, hshed]
  rw [atRouter, haccept, if_neg Bool.false_ne_true, htake]

theorem travel_open {p : Pkt} {k : Nat} {s : State} (hk : k < 8) (hdst : p.dst = k) (hs : ClearFabric s) (hsrc : p.src < 32) (hp : PlainReq p)
    (hblocked : s.fab.blocked = []) (hheld : s.ports.held = []) (hopen : domState s k = 0) (hshed : domShed s k = false) (srv : Server) :
    ∃ t, FlitsCounted s t ∧ travel srv p s = serveNow srv p t := by
  obtain ⟨t, ht, hx⟩ := crossFabric_clear hs hsrc
  have hfree : (pathChans s p).findIdx? (standsIn s.fab.blocked) = none := by
    rw [List.findIdx?_eq_none_iff, hblocked]; exact fun _ _ => rfl
  have hform : malformed t p = false := by rw [malformed, hp.formed, struck_of_no_flaws (ht.clear hs).flaws]; rfl
  have hpwr : t.reg (Reg.PWR_DOM k) = s.reg (Reg.PWR_DOM k) := ht.regs _ fun r hr => by simp only [Reg.PWR_DOM, Reg.FAB_RTR_FLITS]; omega
  have hopen' : domState t k = 0 := by rw [← hopen, domState, State.fld, hpwr]; rfl
  have hshed' : domShed t k = false := by rw [← hshed, domShed, State.bit, hpwr]; rfl
  refine ⟨t, ht, ?_⟩
  simp only [travel, hfree, hx, hform, Bool.false_eq_true, if_false]
  exact atRouter_open hk hdst (ht.only.ports ▸ hheld) hopen' hshed' srv

/-- A request as it leaves: with its destination and its tag. -/
def sentPkt (p : Pkt) (k t g : Nat) : Pkt := { p with dst := k, tag := t, gen := g }

/-- What core k's close memory does with a request, and the response. -/
def closeAnswered (p : Pkt) (k : Nat) (s : State) : State := respond p (closeServe p k s).1.1 (closeServe p k s).1.2 (closeServe p k s).2

/-- The request of interface x reaches close memory of core k with tag t, in state u. -/
structure ReachesClose (x t : Nat) (s u : State) : Prop where
  side : FabSide s u
  close : u.close = s.close
  inflight : u.fab.inflight = s.fab.inflight
  tag : (tagOf u x t).st = .busy

theorem ioRequest_close {s : State} {x k m t : Nat} {p : Pkt} (hc : Calm s) (hlink : Linked s x k) (hx : 16 ≤ x) (hk : k < 8) (hopen : domState s k = 0)
    (hshed : domShed s k = false) (hp : PlainReq p) (hsrc : p.src = x) (hm : 0 < m) (hlo : 0x40000 + k * 0x8000 ≤ p.addr)
    (hhi : p.addr + m ≤ 0x40000 + k * 0x8000 + 0x4000) (ht : freeTag? s x = some t) :
    ∃ g u, ReachesClose x t s u ∧ ioRequest busSrv p m s = closeAnswered (sentPkt p k t g) k u := by
  have hregion := closeMemory_region s hk hlo (by omega)
  have hdest : destOf s p.addr = some k := by rw [destOf, hregion]
  have hdram : (decide (8 ≤ p.src) && decide (p.src < 16)) = false := by rw [hsrc]; simp; omega
  have hself : ((decide (k = 32)) || (decide (k = p.src) && decide (k < 8) && decide (p.addr < 0x80000))) = false := by
    simp; omega
  have hroute : routeValid s p.src k = true := hsrc ▸ hlink.there
  let v : Tag := ⟨.busy, (tagOf s x t).gen, k, p.addr, s.tb.pulses, s.fld Reg.FAB_CTL 8 0, false, false⟩
  have htag := setTag_fabSide x t v s
  obtain ⟨w, hw, htravel⟩ := travel_open (p := sentPkt p k t (tagOf s x t).gen) (s := setTag x t v s) hk rfl (htag.clear hlink.clear)
    (by show p.src < 32; rw [hsrc]; exact routeValid_lt hlink.back) ⟨hp.cls, hp.code, hp.len, hp.words⟩ hc.blocked hc.held hopen hshed busSrv
  have hleave : leave busSrv { p with dst := k } s = travel busSrv (sentPkt p k t (tagOf s x t).gen) (setTag x t v s) := by
    have halloc : allocTag p.src k p.addr false false s = some (t, (tagOf s x t).gen, setTag x t v s) := by rw [hsrc]; exact allocTag_free ht ..
    have hhold : mustHold s p.src k = false := hsrc ▸ hlink.flows
    simp only [leave, hhold, halloc, Bool.false_eq_true, if_false]
    rfl
  obtain ⟨hwake, hwregs⟩ := wakeLevel_core hk w
  have hwakeSide : FabSide w (wakeLevel k w) := hwake.fabSide fun a ha => hwregs a (by simp only [Reg.PWR_DOM]; omega)
  refine ⟨(tagOf s x t).gen, wakeLevel k w, ⟨(htag.trans hw.fabSide).trans hwakeSide, ?_, ?_, ?_⟩, ?_⟩
  · rw [hwake.close, hw.only.close]; rfl
  · rw [hwake.fab, hw.only.fab]; rfl
  · have hni : ∀ a b : State, b.fab = a.fab → tagOf b x t = tagOf a x t := fun a b h => by simp only [tagOf, State.ni, h]
    rw [hni _ _ (hwake.fab.trans hw.only.fab), tagOf_setTag]
  · have hserve : busSrv (sentPkt p k t (tagOf s x t).gen) w = answerNow (closeServe (sentPkt p k t (tagOf s x t).gen) k (wakeLevel k w)) :=
      busSrv_close w hk rfl hlo (by show p.addr < _; omega)
    have hio : ioRequest busSrv p m s = leave busSrv { p with dst := k } s := by
      simp only [ioRequest, closeMemory_leaves s hk hm hlo hhi, hdest, hdram, Bool.false_and, Bool.false_eq_true, if_false, hself, hroute, Bool.not_true]
    rw [hio, hleave, htravel, serveNow, hserve]
    rfl

end Sys2Proof.Machine
end


section
/-!
SUPPORT. A Cuff port's access to close memory (R400): its answer, and the words read and written.
-/
set_option linter.constructorNameAsVariable false

namespace Sys2Proof.Machine

/-- Where core k's close memory keeps the word at a physical address. -/
def closePlace (k pa : Nat) : Nat := k * 0x4000 + (pa - 0x40000 - k * 0x8000)

/-- The words that a write of close memory leaves. -/
def writtenLine (q : Pkt) (i : Nat) (s : State) : Line := mergeLine (pktOctets q) (memReadN s.close i q.data.length) q.data

/-- Close memory after a write. -/
def closeWritten (q : Pkt) (i : Nat) (s : State) : State := { s with close := memWriteN i (writtenLine q i s) s.close }

/-- The fabric has answered an access of interface x to core k with a status and data. -/
structure Answered (x k : Nat) (st : FStatus) (d : Line) (s w : State) : Prop where
  side : FabSide s w
  replied : Replied s x k st d w

section
variable {s u : State} {x k t : Nat} (h : ReachesClose x t s u) (hlink : Linked s x k)
include h hlink

/-- The response of close memory leaves. -/
theorem ReachesClose.answered {v : State} (hside : FabSide u v) (hfab : v.fab = u.fab) {q : Pkt} (hdst : q.dst = k) (hsrc : q.src = x) {st : FStatus}
    (hst : st = .ok ∨ st = .poison) {d : Line} (hd : d.length ≤ 16) : ∃ w, respond q st d v = w ∧ Answered x k st d s w ∧ w.close = v.close ∧ (tagOf w x t).st = .busy := by
  have hv := h.side.trans hside
  obtain ⟨w, hw, hresp⟩ := respond_clear (hv.clear hlink.clear) (q := q) (by rw [hdst, hsrc, hv.route]; exact hlink.back)
    (by rw [hdst]; exact routeValid_lt hlink.there) hst hd
  have hinflight : w.fab.inflight = s.fab.inflight := by rw [hw.only.fab, hfab, h.inflight]
  refine ⟨_, hresp, ⟨(hv.trans hw.fabSide).trans (answering_fabSide ..), ?_⟩, hw.only.close, ?_⟩
  · have := answering_replied hinflight q st d
    rwa [hdst, hsrc] at this
  · have hni : ∀ a b : State, b.fab.ni = a.fab.ni → tagOf b x t = tagOf a x t := fun a b h => by simp only [tagOf, State.ni, h]
    have hsame : (answering (answerPkt q st d) w).fab.ni = u.fab.ni := by show w.fab.ni = _; rw [hw.only.fab, hfab]
    rw [hni _ _ hsame]; exact h.tag

theorem closeAnswered_read {q : Pkt} (hdst : q.dst = k) (hsrc : q.src = x) (hcode : q.code = 0) {m : Nat} (hlen : q.len = m) (hm : 0 < m) (h16 : m ≤ 16) :
    ∃ w, closeAnswered q k u = w ∧ (tagOf w x t).st = .busy ∧ w.close = s.close ∧
      Answered x k (if hasPoison (memReadN s.close (closePlace k q.addr) m) then .poison else .ok)
        (memReadN s.close (closePlace k q.addr) m) s w := by
  have hmax : max 1 q.len = m := by omega
  have hserve : closeServe q k u = ((if hasPoison (memReadN s.close (closePlace k q.addr) m) then .poison else .ok,
      memReadN s.close (closePlace k q.addr) m), u) := by
    simp only [closeServe, hcode, if_true, hmax, h.close]; rfl
  obtain ⟨w, hw, hans, hclose, htag⟩ := h.answered hlink (FlitsCounted.refl u).fabSide rfl hdst hsrc
    (st := if hasPoison (memReadN s.close (closePlace k q.addr) m) then .poison else .ok) (by split <;> simp)
    (d := memReadN s.close (closePlace k q.addr) m) (by rw [memReadN_length]; exact h16)
  exact ⟨w, by rw [closeAnswered, hserve]; exact hw, htag, hclose.trans h.close, hans⟩

theorem closeAnswered_write {q : Pkt} (hdst : q.dst = k) (hsrc : q.src = x) (hcode : q.code = 1) :
    ∃ w, closeAnswered q k u = w ∧ (tagOf w x t).st = .busy ∧ Answered x k .ok [] s w ∧
      memReadN w.close (closePlace k q.addr) q.data.length = writtenLine q (closePlace k q.addr) s := by
  obtain ⟨v, hv⟩ : ∃ v, v = closeWritten q (closePlace k q.addr) u := ⟨_, rfl⟩
  have hserve : closeServe q k u = ((.ok, []), clearResv q.src ((q.addr + max 1 q.data.length - 1) / 16) (clearResv q.src (q.addr / 16) v)) := by
    rw [hv]; simp only [closeServe, hcode]; rfl
  have hside : CloseSide q.src v (clearResv q.src ((q.addr + max 1 q.data.length - 1) / 16) (clearResv q.src (q.addr / 16) v)) :=
    (clearResv_side ..).trans (clearResv_side ..)
  have hput : CloseSide q.src u v := hv ▸ closeSide_close ..
  have hall := hput.trans hside
  have hclose : (clearResv q.src ((q.addr + max 1 q.data.length - 1) / 16) (clearResv q.src (q.addr / 16) v)).close = v.close := by
    rw [clearResv_close, clearResv_close]
  generalize clearResv q.src ((q.addr + max 1 q.data.length - 1) / 16) (clearResv q.src (q.addr / 16) v) = z at hserve hall hclose
  obtain ⟨w, hw, hans, hwclose, htag⟩ := h.answered hlink hall.fabSide (by rw [hall.only]) hdst hsrc (.inl rfl) (d := []) (by simp)
  have hlen : (writtenLine q (closePlace k q.addr) s).length = q.data.length := by
    rw [writtenLine, mergeLine_length, memReadN_length]
  have hline : writtenLine q (closePlace k q.addr) u = writtenLine q (closePlace k q.addr) s := by
    rw [writtenLine, writtenLine, h.close]
  refine ⟨w, by rw [closeAnswered, hserve]; exact hw, htag, hans, ?_⟩
  rw [hwclose, hclose, hv]
  rw [closeWritten, hline]
  conv_lhs => rw [← hlen]
  exact memReadN_memWriteN ..

end

theorem mergeLine_whole : ∀ (n : Nat) (old new : Line), old.length = n → new.length = n → mergeLine (2 ^ (5 * n) - 1) old new = new
  | 0, old, new, ho, hn => by rw [List.length_eq_zero_iff.1 ho, List.length_eq_zero_iff.1 hn, mergeLine]
  | n + 1, o :: os, w :: ws, ho, hn => by
    have hlow : (2 ^ (5 * (n + 1)) - 1) % 32 = 31 := by
      have : 0 < 2 ^ (5 * n) := by positivity
      rw [show 2 ^ (5 * (n + 1)) = 32 * 2 ^ (5 * n) by ring]; omega
    have hhigh : (2 ^ (5 * (n + 1)) - 1) / 32 = 2 ^ (5 * n) - 1 := by
      have : 0 < 2 ^ (5 * n) := by positivity
      rw [show 2 ^ (5 * (n + 1)) = 32 * 2 ^ (5 * n) by ring]; omega
    rw [mergeLine, hlow, hhigh, mergeMWord_whole, mergeLine_whole n os ws (by simpa using ho) (by simpa using hn)]

end Sys2Proof.Machine
end


section
/-!
SUPPORT. Requests from the partner at a Cuff port (R400, R426): a request for exposed close memory is performed, and one for a quarter that is not exposed is
answered PROT.
-/
set_option linter.constructorNameAsVariable false

namespace Sys2Proof.Machine

/-! ### The port's own access -/

/-- A packet of the port for words of local memory. -/
def ioPkt (n code pa words mask : Nat) (d : Line) : Pkt :=
  { mkReq ⟨20, 3, 0⟩ code pa words .cas (decide (mask ≠ 2 ^ (5 * words) - 1)) mask d with src := 20 + n }

theorem ioPkt_octets {n code pa words mask : Nat} {d : Line} (hd : d.length = words) : pktOctets (ioPkt n code pa words mask d) = mask := by
  by_cases hm : mask = 2 ^ (5 * words) - 1
  · simp only [pktOctets, ioPkt, mkReq, hm, ne_eq, not_true_eq_false, decide_false, Bool.false_eq_true, if_false, hd]
  · simp only [pktOctets, ioPkt, mkReq, hm, ne_eq, not_false_eq_true, decide_true, if_true]

theorem ioPkt_plain {n code pa words mask : Nat} {d : Line} (hcode : code < 3) (hw : words ≤ 16) (hd : d.length ≤ 16) : PlainReq (ioPkt n code pa words mask d) :=
  ⟨rfl, hcode, hw, hd⟩

theorem cufIo_tagged {n code pa words mask t : Nat} {d : Line} {s w : State} (ht : freeTag? s (20 + n) = some t)
    (hio : ioRequest busSrv (ioPkt n code pa words mask d) words s = w) (hbusy : (tagOf w (20 + n) t).st = .busy) :
    cufIo busSrv n code pa words mask d s = (some t, w) := by
  subst hio
  unfold cufIo
  simp only [ht]
  exact if_pos hbusy

section
variable {s : State} {n k : Nat} (h : Path s (20 + n) k) (hk : k < 8)
include h hk

theorem Path.opened : domState s k = 0 ∧ domShed s k = false := h.isOpen k (by rw [domainOf, if_pos hk])

theorem cufIo_read {pa words mask : Nat} (h0 : 0 < words) (h16 : words ≤ 16) (hlo : 0x40000 + k * 0x8000 ≤ pa) (hhi : pa + words ≤ 0x40000 + k * 0x8000 + 0x4000) :
    ∃ t w, cufIo busSrv n 0 pa words mask [] s = (some t, w) ∧ w.close = s.close ∧
      Answered (20 + n) k (if hasPoison (memReadN s.close (closePlace k pa) words) then .poison else .ok) (memReadN s.close (closePlace k pa) words) s w := by
  obtain ⟨hopen, hshed⟩ := h.opened hk
  obtain ⟨t, ht⟩ := Option.isSome_iff_exists.1 h.linked.tag
  obtain ⟨g, u, hu, hio⟩ := ioRequest_close (p := ioPkt n 0 pa words mask []) h.calm h.linked (by omega) hk hopen hshed
    (ioPkt_plain (by decide) h16 (by simp)) rfl h0 hlo hhi ht
  obtain ⟨w, hw, hbusy, hclose, hans⟩ := closeAnswered_read hu h.linked (q := sentPkt (ioPkt n 0 pa words mask []) k t g) rfl rfl rfl (m := words) rfl h0 h16
  exact ⟨t, w, cufIo_tagged ht (hio.trans hw) hbusy, hclose, hans⟩

theorem cufIo_write {pa words mask : Nat} {d : Line} (hd : d.length = words) (h0 : 0 < words) (h16 : words ≤ 16) (hlo : 0x40000 + k * 0x8000 ≤ pa)
    (hhi : pa + words ≤ 0x40000 + k * 0x8000 + 0x4000) :
    ∃ t w, cufIo busSrv n 1 pa words mask d s = (some t, w) ∧ Answered (20 + n) k .ok [] s w ∧
      memReadN w.close (closePlace k pa) words = mergeLine mask (memReadN s.close (closePlace k pa) words) d := by
  obtain ⟨hopen, hshed⟩ := h.opened hk
  obtain ⟨t, ht⟩ := Option.isSome_iff_exists.1 h.linked.tag
  obtain ⟨g, u, hu, hio⟩ := ioRequest_close (p := ioPkt n 1 pa words mask d) h.calm h.linked (by omega) hk hopen hshed
    (ioPkt_plain (by decide) h16 (by omega)) rfl h0 hlo hhi ht
  obtain ⟨w, hw, hbusy, hans, hread⟩ := closeAnswered_write hu h.linked (q := sentPkt (ioPkt n 1 pa words mask d) k t g) rfl rfl rfl
  refine ⟨t, w, cufIo_tagged ht (hio.trans hw) hbusy, hans, ?_⟩
  have hoct : pktOctets (sentPkt (ioPkt n 1 pa words mask d) k t g) = mask := ioPkt_octets (n := n) (code := 1) (pa := pa) hd
  have hdata : (sentPkt (ioPkt n 1 pa words mask d) k t g).data = d := rfl
  have haddr : (sentPkt (ioPkt n 1 pa words mask d) k t g).addr = pa := rfl
  rw [writtenLine, hoct, hdata, haddr, hd] at hread
  exact hread

/-- A request for close memory is not held in the receive buffer. -/
theorem cufBlocked_close {pa : Nat} (p : CufPkt) (hlo : 0x40000 + k * 0x8000 ≤ pa) (hhi : pa < 0x40000 + k * 0x8000 + 0x4000) : cufBlocked s n p pa = false := by
  have hregion := closeMemory_region s hk hlo hhi
  have hdest : destOf s pa = some k := by rw [destOf, hregion]
  have hfree : (freeTag? s (20 + n)).isNone = false := Option.isNone_eq_false_iff.2 h.linked.tag
  have hhold : niHolds s (20 + n) k = false := by
    have := h.linked.flows
    rw [mustHold, Bool.or_eq_false_iff] at this
    exact this.1
  simp [cufBlocked, hdest, hfree, hhold, hregion, Region.cacheable]

end

/-- The words and the octets of a write request. -/
def reqWords (p : CufPkt) : Line := ((if p.type = 4 then p.data.drop 2 else p.data).take p.words).map (fun w => ⟨w, .good⟩)
def reqMask (p : CufPkt) : Nat := if p.type = 4 then ((p.data.getD 0 0).toNat + (p.data.getD 1 0).toNat * 2 ^ 40) % 2 ^ (5 * p.words) else 2 ^ (5 * p.words) - 1

theorem cufPerform_close {s w : State} {n k pa t : Nat} {p : CufPkt} (hk : k < 8) (hlo : 0x40000 + k * 0x8000 ≤ pa)
    (hhi : pa + p.words ≤ 0x40000 + k * 0x8000 + 0x4000)
    (hio : cufIo busSrv n (if p.type == 2 then 0 else 1) pa p.words (reqMask p) (reqWords p) s = (some t, w)) : cufPerform busSrv n p pa s = (some t, .ok, [], w) := by
  have h0 : 0 < p.words := Nat.succ_pos _
  have hregion := closeMemory_region s hk hlo (by omega)
  unfold cufPerform
  simp only [closeMemory_leaves s hk h0 hlo hhi, hregion, Region.cacheable, Bool.false_eq_true, if_false]
  simp only [reqMask, reqWords] at hio
  rw [hio]

theorem cufTakeReq_performed {s w : State} {n k pa t : Nat} {p : CufPkt} (h : Path s (20 + n) k) (hk : k < 8) (htag : p.tag = 0) (h128 : p.tag8 < 128)
    (hexp : exposed s p.addr = some pa) (hlo : 0x40000 + k * 0x8000 ≤ pa) (hhi : pa + p.words ≤ 0x40000 + k * 0x8000 + 0x4000)
    (hio : cufIo busSrv n (if p.type == 2 then 0 else 1) pa p.words (reqMask p) (reqWords p) (addIn n p.tag8 ⟨p.vc, none⟩ s) = (some t, w)) :
    cufTakeReq busSrv n p s = some (addIn n p.tag8 ⟨p.vc, some t⟩ w) := by
  have h0 : 0 < p.words := Nat.succ_pos _
  have hnot : ¬ 128 ≤ p.tag8 := by omega
  have htag1 : (p.tag = 1) = False := by rw [htag]; simp
  simp only [cufTakeReq, htag1, if_false, hnot, hexp, cufBlocked_close h hk p hlo (by omega), Bool.false_eq_true, cufPerform_close hk hlo hhi hio]

end Sys2Proof.Machine
end


section
/-!
SUPPORT. RD, WR and WRM at a Cuff port (R400, R426).
-/
set_option linter.constructorNameAsVariable false

namespace Sys2Proof.Machine

/-! ### The words of a request -/

theorem cufWords_length (l : List (BitVec 80)) : (cufWords l).length = 2 * l.length := by
  induction l with
  | nil => rfl
  | cons a l ih =>
    have : cufWords (a :: l) = [nw a.toNat, nw (a.toNat / 2 ^ 40)] ++ cufWords l := rfl
    rw [this, List.length_append, ih]; simp; omega

theorem CufPkt.words_le (p : CufPkt) : p.words ≤ 16 := by unfold CufPkt.words; omega

section
variable {n : Nat} {x : CufRx} {s : State}

theorem Arrives.slots {kind ackk : Nat} (h : Arrives s n x kind ackk) : (rxPkt x).data.length = 2 * sget x.hdr 45 42 := by
  have hvalid := h.good.1
  simp only [hdrValid, Bool.and_eq_true, beq_iff_eq] at hvalid
  show (cufWords x.data).length = _
  rw [cufWords_length, hvalid.2]

theorem reqWords_write (h : Arrives s n x 3 0) : (reqWords (rxPkt x)).length = (rxPkt x).words := by
  have hlen := h.good.2.2.2
  simp only [lenOk, h.isKind, beq_iff_eq] at hlen
  simp only [reqWords, h.isKind, List.length_map, List.length_take]
  have := h.slots
  simp only [Nat.reduceEqDiff, if_false]
  omega

theorem reqWords_masked (h : Arrives s n x 4 0) : (reqWords (rxPkt x)).length = (rxPkt x).words := by
  have hlen := h.good.2.2.2
  simp only [lenOk, h.isKind, Bool.and_eq_true, decide_eq_true_eq, beq_iff_eq] at hlen
  simp only [reqWords, h.isKind, List.length_map, List.length_take, if_true, List.length_drop]
  have := h.slots
  omega

theorem reqWords_read (h : Arrives s n x 2 0) : reqWords (rxPkt x) = [] := by
  have hlen := h.good.2.2.2
  simp only [lenOk, h.isKind, beq_iff_eq] at hlen
  have hnil : (rxPkt x).data = [] := List.length_eq_zero_iff.1 (by rw [h.slots, hlen])
  simp [reqWords, hnil]

end

/-! ### The path of the port's own access -/

theorem addIn_follows (n t : Nat) (e : CufIn) (s : State) : Follows n s (addIn n t e s) := follows_updCuf n s (fun _ => ⟨rfl, rfl⟩) (fun _ => ⟨rfl, rfl, rfl⟩)

theorem addIn_cufP (n t : Nat) (e : CufIn) (s : State) : SMap.find t ((addIn n t e s).cufP n).inTags = some e ∧
    ((addIn n t e s).cufP n).outq = (s.cufP n).outq ∧ ((addIn n t e s).cufP n).replay = (s.cufP n).replay := by
  rw [addIn, cufP_updCuf_self]; exact ⟨SMap.find_insert_self .., rfl, rfl⟩

theorem domainOf_lt {dst pa d : Nat} (h : domainOf dst pa = some d) : d < 21 := by
  unfold domainOf at h
  split_ifs at h <;> cases h <;> omega

theorem Path.kept {n x k : Nat} {s t : State} (h : Path s x k) (hn : n < 2) (hc : Calm t) (hfab : t.fab = s.fab) (hregs : RegsBut (recvRegs n) s t) : Path t x k := by
  have hroute : ∀ a b, routeValid t a b = routeValid s a b := fun a b => by
    have hkey : routeKey a b ∉ recvRegs n := recvRegs_apart (by simp only [routeKey]; omega)
    simp only [routeValid, routeEntry, hregs _ hkey]
  have hbit : ∀ a, a < 0x228000 → t.reg a = s.reg a := fun a ha => hregs a (recvRegs_apart (by omega))
  refine ⟨hc, ⟨hc.flaws, (hroute ..).trans h.linked.there, (hroute ..).trans h.linked.back, ?_, ?_, fun j hj => ?_⟩, by rw [hfab]; exact h.clear, fun j hj => ?_⟩
  · rw [← h.linked.flows]; unfold mustHold niHolds State.ni flitsIn; rw [hfab]
  · rw [← h.linked.tag]; unfold freeTag? tagOf State.ni; rw [hfab]
  · rw [State.bit, hbit _ (by simp only [Reg.PRB_n_CTL]; omega)]; exact h.linked.probes j hj
  · have hlt := domainOf_lt hj
    have hpwr := hbit (Reg.PWR_DOM j) (by simp only [Reg.PWR_DOM]; omega)
    rw [domState, domShed, State.fld, State.bit, hpwr]
    exact h.isOpen j hj

theorem FabSide.heard {n k : Nat} {s u w : State} (h : FabSide u w) (hu : Heard n k s u) : Heard n k s w := by
  have hcuf : w.cufP n = u.cufP n := by rw [h.only]; rfl
  exact ⟨(h.regs _ (by simp only [Reg.CUF_RX_PKT_CNT]; omega)).trans hu.count, by rw [hcuf]; exact hu.good, by rw [hcuf]; exact hu.turn⟩

theorem Comes.exposed {n : Nat} {s u : State} (h : Comes n s u) (hn : n < 2) (o : Nat) : exposed u o = exposed s o := by
  have hbit := h.bit (a := Reg.CNS_EXPOSE (o / 2 ^ 28 % 4)) (by simp only [Reg.CNS_EXPOSE]; omega) 6
  have hfld := h.fld (a := Reg.CNS_EXPOSE (o / 2 ^ 28 % 4)) (by simp only [Reg.CNS_EXPOSE]; omega) 5 0
  unfold Machine.exposed
  dsimp only
  rw [hbit, hfld]

/-- Noting a packet leaves the port's way to a core as it was. -/
theorem Comes.path {n x k : Nat} {s u : State} (h : Comes n s u) (hn : n < 2) (hc : Calm s) (hpath : Path s x k) : Path u x k :=
  hpath.kept hn (h.calm hc hn) (by rw [h.at_port.only]) h.regs

theorem Comes.path_addIn {n x k : Nat} {s u : State} (h : Comes n s u) (hn : n < 2) (hc : Calm s) (hpath : Path s x k) (t : Nat) (e : CufIn) :
    Path (addIn n t e u) x k := by
  have hin := addIn_follows n t e u
  refine hpath.kept hn (hin.calm (h.calm hc hn) hn) (by rw [hin.at_port.only, h.at_port.only]) fun a ha => ?_
  rw [addIn, reg_updCuf]
  exact h.regs a ha

/-! ### Requests for close memory -/

section
variable {n k pa kind : Nat} {x : CufRx} {s : State} (hn : n < 2) (hkind : kind = 2 ∨ kind = 3 ∨ kind = 4) (h : Arrives s n x kind 0)
include hn hkind h

omit hn in
theorem request_channel : (rxPkt x).vc < 9 ∧ (rxPkt x).vc ≠ 8 ∧ seqType kind = true := by
  have hvc : (rxPkt x).vc < 4 := by
    have := h.vc.1
    rcases hkind with rfl | rfl | rfl <;> simpa [vcClassOk] using this
  exact ⟨by omega, by omega, by rcases hkind with rfl | rfl | rfl <;> rfl⟩

/-- A request that the port takes ends with the port's answer or its access under way. -/
theorem request_ends {w : State} (hfree : SMap.find (rxPkt x).tag8 (s.cufP n).inTags = none) (hw : cufTakeReq busSrv n (rxPkt x) (admitted n x s) = some w)
    (hheard : Heard n kind s w) (hc : Calm w) (hcns : w.cns = s.cns) (hmsgs : (w.cufP n).msgs = []) (hquiet : Quiet n w) :
    rowRx n x s = .next (latched (bufferFreed n (rxPkt x) w)) ∧ Heard n kind s (latched (bufferFreed n (rxPkt x) w)) := by
  obtain ⟨-, h8, hseq⟩ := request_channel hkind h
  have htake := delivered_one (w := w) h hseq (by omega) (by omega) h8 hn (fun _ => hfree) (by rw [if_neg (by omega)]; exact hw)
  have hacts := bufferFreed_follows n (rxPkt x) w
  exact ⟨sequenced_ends h hn hseq htake (hacts.rest.1.trans hmsgs) (hquiet.keeps ⟨rfl, rfl, rfl, rfl⟩) (hacts.calm hc hn) (hacts.at_port.cns.trans hcns),
    (hacts.heard hheard).latched⟩

/-- A request for exposed close memory, once its access is known. -/
theorem request_performed (hk : k < 8) (hpath : Path s (20 + n) k) (htag : (rxPkt x).tag8 < 128) (hfree : SMap.find (rxPkt x).tag8 (s.cufP n).inTags = none)
    (hexp : exposed s (rxPkt x).addr = some pa) (hlo : 0x40000 + k * 0x8000 ≤ pa) (hhi : pa + (rxPkt x).words ≤ 0x40000 + k * 0x8000 + 0x4000)
    {t : Nat} {st : FStatus} {d : Line} {w : State}
    (hio : cufIo busSrv n (if (rxPkt x).type == 2 then 0 else 1) pa (rxPkt x).words (reqMask (rxPkt x)) (reqWords (rxPkt x))
      (addIn n (rxPkt x).tag8 ⟨(rxPkt x).vc, none⟩ (admitted n x s)) = (some t, w))
    (hans : Answered (20 + n) k st d (addIn n (rxPkt x).tag8 ⟨(rxPkt x).vc, none⟩ (admitted n x s)) w) :
    ∃ r, rowRx n x s = .next r ∧ Heard n kind s r ∧ (SMap.find (rxPkt x).tag8 (r.cufP n).inTags).any (fun e => e.wait.isSome) = true ∧
      Replied s (20 + n) k st d r ∧ r.close = w.close := by
  obtain ⟨hv, -, hseq⟩ := request_channel hkind h
  have hcomes := admitted_comes h hv hn
  have hheard := admitted_heard h hn hv hseq
  have hends := fun w => request_ends (w := w) hn hkind h hfree
  generalize admitted n x s = u at *
  have hp1 := hcomes.path hn h.calm hpath
  have hexp' : exposed u (rxPkt x).addr = some pa := by rw [hcomes.exposed hn]; exact hexp
  have htake := cufTakeReq_performed hp1 hk rfl htag hexp' hlo hhi hio
  have hin := addIn_follows n (rxPkt x).tag8 ⟨(rxPkt x).vc, none⟩ u
  obtain ⟨-, hinq, -⟩ := addIn_cufP n (rxPkt x).tag8 ⟨(rxPkt x).vc, none⟩ u
  have hfab0 : (addIn n (rxPkt x).tag8 ⟨(rxPkt x).vc, none⟩ u).fab = s.fab := by
    rw [hin.at_port.only, hcomes.at_port.only]
  generalize addIn n (rxPkt x).tag8 ⟨(rxPkt x).vc, none⟩ u = u0 at *
  have hcuf : w.cufP n = u0.cufP n := by rw [hans.side.only]; rfl
  have hcns : w.cns = u0.cns := by rw [hans.side.only]
  have hwait := addIn_follows n (rxPkt x).tag8 ⟨(rxPkt x).vc, some t⟩ w
  obtain ⟨hfind, houtq, -⟩ := addIn_cufP n (rxPkt x).tag8 ⟨(rxPkt x).vc, some t⟩ w
  have hheard' := hwait.heard (hans.side.heard (hin.heard hheard))
  have hcalm' := hwait.calm (hans.side.calm (hin.calm (hcomes.calm h.calm hn) hn)) hn
  have hsame : (addIn n (rxPkt x).tag8 ⟨(rxPkt x).vc, some t⟩ w).close = w.close ∧ (addIn n (rxPkt x).tag8 ⟨(rxPkt x).vc, some t⟩ w).fab = w.fab := ⟨rfl, rfl⟩
  generalize addIn n (rxPkt x).tag8 ⟨(rxPkt x).vc, some t⟩ w = v at *
  obtain ⟨hkq, -, hkm, -⟩ := hcomes.kept
  obtain ⟨h1, -, h3, -⟩ := h.idle n hn
  obtain ⟨hrun, hlast⟩ := hends v htake hheard' hcalm'
    (hwait.at_port.cns.trans (hcns.trans (hin.at_port.cns.trans hcomes.at_port.cns)))
    (hwait.rest.1.trans ((congrArg CufPort.msgs hcuf).trans (hin.rest.1.trans (hkm.trans h3))))
    (quiet_empty (houtq.trans ((congrArg CufPort.outq hcuf).trans (hinq.trans (hkq.trans h1)))))
  obtain ⟨-, -, htags⟩ := bufferFreed_cufP n (rxPkt x) v
  refine ⟨_, hrun, hlast, ?_, ?_, hsame.1⟩
  · rw [latched_get_cufP, htags, hfind]; rfl
  · refine ⟨?_, ?_⟩
    · show v.fab.inflight.dropLast = _; rw [hsame.2, ← hfab0]; exact hans.replied.before
    · show v.fab.inflight.getLast?.map _ = _; rw [hsame.2]; exact hans.replied.last

end

end Sys2Proof.Machine
end


section
/-!
SUPPORT. The answers of a Cuff port to requests from the partner (R400, R426), and O41.
-/
set_option linter.constructorNameAsVariable false

namespace Sys2Proof.Machine

section
variable {n k pa : Nat} {x : CufRx} {s : State} (hn : n < 2) (hk : k < 8) (hpath : Path s (20 + n) k) (htag : (rxPkt x).tag8 < 128)
  (hfree : SMap.find (rxPkt x).tag8 (s.cufP n).inTags = none) (hexp : exposed s (rxPkt x).addr = some pa) (hlo : 0x40000 + k * 0x8000 ≤ pa)
  (hhi : pa + (rxPkt x).words ≤ 0x40000 + k * 0x8000 + 0x4000)
include hn hk hpath htag hfree hexp hlo hhi

theorem rd_done (h : Arrives s n x 2 0) : ∃ t, rowRx n x s = .next t ∧ Heard n 2 s t ∧
    (SMap.find (rxPkt x).tag8 (t.cufP n).inTags).any (fun e => e.wait.isSome) = true ∧ t.close = s.close ∧
    Replied s (20 + n) k (if hasPoison (memReadN s.close (closePlace k pa) (rxPkt x).words) then .poison else .ok)
      (memReadN s.close (closePlace k pa) (rxPkt x).words) t := by
  have hcomes := admitted_comes h (request_channel (.inl rfl) h).1 hn
  have hclose : (addIn n (rxPkt x).tag8 ⟨(rxPkt x).vc, none⟩ (admitted n x s)).close = s.close :=
    ((addIn_follows ..).at_port.memory).close.trans hcomes.at_port.memory.close
  obtain ⟨t, w, hio, hwclose, hans⟩ := cufIo_read (hcomes.path_addIn hn h.calm hpath (rxPkt x).tag8 ⟨(rxPkt x).vc, none⟩) hk (mask := reqMask (rxPkt x))
    (Nat.succ_pos _) (rxPkt x).words_le hlo hhi
  rw [hclose] at hans hwclose
  obtain ⟨r, hrun, hheard, hwait, hreplied, hrclose⟩ := request_performed hn (.inl rfl) h hk hpath htag hfree hexp hlo hhi
    (by rw [h.isKind, reqWords_read h]; exact hio) hans
  exact ⟨r, hrun, hheard, hwait, hrclose.trans hwclose, hreplied⟩

/-- A write request whose words come whole leaves them in close memory. -/
theorem write_done {kind : Nat} (hkind : kind = 3 ∨ kind = 4) (h : Arrives s n x kind 0) (hwords : (reqWords (rxPkt x)).length = (rxPkt x).words) :
    ∃ t, rowRx n x s = .next t ∧ Heard n kind s t ∧ (SMap.find (rxPkt x).tag8 (t.cufP n).inTags).any (fun e => e.wait.isSome) = true ∧
      Replied s (20 + n) k .ok [] t ∧
      memReadN t.close (closePlace k pa) (rxPkt x).words =
        mergeLine (reqMask (rxPkt x)) (memReadN s.close (closePlace k pa) (rxPkt x).words) (reqWords (rxPkt x)) := by
  have hcomes := admitted_comes h (request_channel (.inr hkind) h).1 hn
  have hclose : (addIn n (rxPkt x).tag8 ⟨(rxPkt x).vc, none⟩ (admitted n x s)).close = s.close :=
    ((addIn_follows ..).at_port.memory).close.trans hcomes.at_port.memory.close
  obtain ⟨t, w, hio, hans, hread⟩ := cufIo_write (hcomes.path_addIn hn h.calm hpath (rxPkt x).tag8 ⟨(rxPkt x).vc, none⟩) hk (mask := reqMask (rxPkt x)) hwords
    (Nat.succ_pos _) (rxPkt x).words_le hlo hhi
  rw [hclose] at hread
  have hcode : (if (rxPkt x).type == 2 then 0 else 1) = 1 := by rw [h.isKind]; rcases hkind with rfl | rfl <;> rfl
  obtain ⟨r, hrun, hheard, hwait, hreplied, hrclose⟩ := request_performed hn (.inr hkind) h hk hpath htag hfree hexp hlo hhi
    (by rw [hcode]; exact hio) hans
  exact ⟨r, hrun, hheard, hwait, hreplied, by rw [hrclose]; exact hread⟩

end

/-! ### A quarter that is not exposed (R426) -/

/-- A request has been answered: it is no longer outstanding. -/
def inErased (n t : Nat) (s : State) : State := updCuf n (fun c => { c with inTags := SMap.erase t c.inTags }) s

theorem inErased_follows (n t : Nat) (s : State) : Follows n s (inErased n t s) := follows_updCuf n s (fun _ => ⟨rfl, rfl⟩) (fun _ => ⟨rfl, rfl, rfl⟩)

theorem inErased_cufP (n t : Nat) (s : State) : SMap.find t ((inErased n t s).cufP n).inTags = none ∧
    ((inErased n t s).cufP n).outq = (s.cufP n).outq ∧ ((inErased n t s).cufP n).replay = (s.cufP n).replay := by
  rw [inErased, cufP_updCuf_self]; exact ⟨SMap.find_erase_self .., rfl, rfl⟩

/-- The RSP with status PROT to a request. -/
def protRsp (n t v : Nat) (s : State) : CufPkt := ⟨5, 4 + v % 4 % max 1 (rspVcs s n), 0, t * 2 ^ 34 + 2 * 2 ^ 31 + 0, [], 0, 512⟩

theorem cufAnswer_prot {n t : Nat} {s : State} {e : CufIn} (h : SMap.find t (s.cufP n).inTags = some e) :
    cufAnswer n t .prot [] s = cufPump n pumpFuel (cufEnqueue n (protRsp n t e.vc (inErased n t s)) (inErased n t s)) := by
  rw [cufAnswer, h]; rfl

theorem cufTakeReq_unexposed {n : Nat} {p : CufPkt} {s : State} (htag : p.tag = 0) (h128 : p.tag8 < 128) (hexp : exposed s p.addr = none) :
    cufTakeReq busSrv n p s = some (cufAnswer n p.tag8 .prot [] (addIn n p.tag8 ⟨p.vc, none⟩ s)) := by
  have hnot : ¬ 128 ≤ p.tag8 := by omega
  have htag1 : (p.tag = 1) = False := by rw [htag]; simp
  simp only [cufTakeReq, htag1, if_false, hnot, hexp]

theorem Pumped.follows {n : Nat} {p : CufPkt} {s t : State} (h : Pumped n p s t) : Follows n s t :=
  ⟨h.at_port, h.regs_between (by simp only [Reg.CUF_RX_PKT_CNT, Reg.CUF_UNSEQ_CNT]; omega), h.order, h.rest⟩

theorem firstOut_bufferFreed (n : Nat) (p : CufPkt) (s : State) : firstOut (latched (bufferFreed n p s)) n = firstOut s n := by
  rw [firstOut, latched_get_cufP, bufferFreed, cufP_updCuf_self, firstOut]

theorem unexposed_done {n : Nat} {x : CufRx} {s : State} (hn : n < 2) (h : Arrives s n x 2 0) (htag : (rxPkt x).tag8 < 128)
    (hfree : SMap.find (rxPkt x).tag8 (s.cufP n).inTags = none) (hexp : exposed s (rxPkt x).addr = none) :
    ∃ t, rowRx n x s = .next t ∧ Heard n 2 s t ∧ SMap.find (rxPkt x).tag8 (t.cufP n).inTags = none ∧
      (firstOut t n).map (fun q => (q.type, q.field)) = some (5, (rxPkt x).tag8 * 2 ^ 34 + 2 * 2 ^ 31) ∧ SameMemory s t := by
  obtain ⟨hv, -, hseq⟩ := request_channel (.inl rfl) h
  have hcomes := admitted_comes h hv hn
  have hheard := admitted_heard h hn hv hseq
  have hends := fun w => request_ends (w := w) hn (.inl rfl) h hfree
  generalize admitted n x s = u at *
  have hexp' : exposed u (rxPkt x).addr = none := by rw [hcomes.exposed hn]; exact hexp
  have htake := cufTakeReq_unexposed (n := n) (p := rxPkt x) rfl htag hexp'
  have hin := addIn_follows n (rxPkt x).tag8 ⟨(rxPkt x).vc, none⟩ u
  obtain ⟨hfind, hinq, hinr⟩ := addIn_cufP n (rxPkt x).tag8 ⟨(rxPkt x).vc, none⟩ u
  generalize addIn n (rxPkt x).tag8 ⟨(rxPkt x).vc, none⟩ u = u0 at *
  rw [cufAnswer_prot hfind] at htake
  have her := inErased_follows n (rxPkt x).tag8 u0
  obtain ⟨hgone, heq, hereplay⟩ := inErased_cufP n (rxPkt x).tag8 u0
  generalize inErased n (rxPkt x).tag8 u0 = u1 at *
  obtain ⟨hkq, hkr, hkm, -⟩ := hcomes.kept
  obtain ⟨h1, h2, h3, -⟩ := h.idle n hn
  have hpumped := cufPump_enqueue (n := n) (s := u1) (heq.trans (hinq.trans (hkq.trans h1))) (hereplay.trans (hinr.trans (hkr.trans h2)))
    (protRsp n (rxPkt x).tag8 (rxPkt x).vc u1)
  generalize cufPump n pumpFuel (cufEnqueue n (protRsp n (rxPkt x).tag8 (rxPkt x).vc u1) u1) = w at *
  have hall := (hin.trans her).trans hpumped.follows
  have hport := hcomes.at_port.trans hall.at_port
  obtain ⟨hrun, hlast⟩ := hends w htake (hall.heard hheard) (hall.calm (hcomes.calm h.calm hn) hn) hport.cns (hall.rest.1.trans (hkm.trans h3)) hpumped.quiet
  obtain ⟨-, -, htags⟩ := bufferFreed_cufP n (rxPkt x) w
  refine ⟨_, hrun, hlast, ?_, ?_, (hport.trans (bufferFreed_follows n (rxPkt x) w).at_port).memory.latched⟩
  · rw [latched_get_cufP, htags, hpumped.inTags, hgone]
  · rw [firstOut_bufferFreed]
    have := congrArg (Option.map (fun q : Nat × Nat × List Word => (q.1, q.2.1))) hpumped.first
    simpa [protRsp] using this

end Sys2Proof.Machine
end


section
/-!
SUPPORT. O41: packets at a Cuff port that is UP.
-/
set_option linter.constructorNameAsVariable false

namespace Sys2Proof.Machine

section
variable {n k pa : Nat} {x : CufRx} {s : State} (hn : n < 2) (hk : k < 8) (hpath : Path s (20 + n) k) (htag : (rxPkt x).tag8 < 128)
  (hfree : SMap.find (rxPkt x).tag8 (s.cufP n).inTags = none) (hexp : exposed s (rxPkt x).addr = some pa) (hlo : 0x40000 + k * 0x8000 ≤ pa)
  (hhi : pa + (rxPkt x).words ≤ 0x40000 + k * 0x8000 + 0x4000)
include hn hk hpath htag hfree hexp hlo hhi

theorem wr_done (h : Arrives s n x 3 0) : ∃ t, rowRx n x s = .next t ∧ Heard n 3 s t ∧
    (SMap.find (rxPkt x).tag8 (t.cufP n).inTags).any (fun e => e.wait.isSome) = true ∧ Replied s (20 + n) k .ok [] t ∧
    memReadN t.close (closePlace k pa) (rxPkt x).words = ((rxPkt x).data.take (rxPkt x).words).map (fun w => ⟨w, .good⟩) := by
  have hwords := reqWords_write h
  obtain ⟨t, hrun, hheard, hwait, hreplied, hread⟩ := write_done hn hk hpath htag hfree hexp hlo hhi (.inl rfl) h hwords
  have hmask : reqMask (rxPkt x) = 2 ^ (5 * (rxPkt x).words) - 1 := if_neg (by rw [h.isKind]; decide)
  have hline : reqWords (rxPkt x) = ((rxPkt x).data.take (rxPkt x).words).map (fun w => ⟨w, .good⟩) := by
    rw [reqWords, if_neg (by rw [h.isKind]; decide)]
  rw [hmask, mergeLine_whole _ _ _ (memReadN_length ..) hwords, hline] at hread
  exact ⟨t, hrun, hheard, hwait, hreplied, hread⟩

theorem wrm_done (h : Arrives s n x 4 0) : ∃ t, rowRx n x s = .next t ∧ Heard n 4 s t ∧
    (SMap.find (rxPkt x).tag8 (t.cufP n).inTags).any (fun e => e.wait.isSome) = true ∧ Replied s (20 + n) k .ok [] t ∧
    memReadN t.close (closePlace k pa) (rxPkt x).words =
      mergeLine ((((rxPkt x).data.getD 0 0).toNat + ((rxPkt x).data.getD 1 0).toNat * 2 ^ 40) % 2 ^ (5 * (rxPkt x).words))
        (memReadN s.close (closePlace k pa) (rxPkt x).words) ((((rxPkt x).data.drop 2).take (rxPkt x).words).map (fun w => ⟨w, .good⟩)) := by
  obtain ⟨t, hrun, hheard, hwait, hreplied, hread⟩ := write_done hn hk hpath htag hfree hexp hlo hhi (.inr rfl) h (reqWords_masked h)
  rw [reqMask, if_pos h.isKind, reqWords, if_pos h.isKind] at hread
  exact ⟨t, hrun, hheard, hwait, hreplied, hread⟩

end

/-- Settles O41: each packet without a fault passes the port's checks to what its type does, and a port at rest then has nothing more to do. -/
theorem cuffPackets : Obligations.CuffPackets := by
  intro n x s p c tag
  have hn := n.isLt
  refine ⟨fun k hk htag hfree => ⟨fun pa hexp hlo hhi hpath => ⟨fun h => ?_, fun h => ?_, fun h => ?_⟩, fun hexp h => ?_⟩,
    fun e q h hout hq hlead hparts hother hok hlink => ?_, fun h hm hfirst hlast hepoch => ?_, fun len h hfor hboot hleft hfirst => ?_, fun h _ => ?_,
    fun h hup => ?_, fun h hup => ?_, fun h => ?_, fun h hack => ?_, fun hc hup => ⟨?_, ?_, fun q hr hsent hdue => ?_⟩, fun hc => ?_,
    fun i v h => ⟨?_, ?_, ?_⟩⟩
  · exact rd_done hn hk hpath htag hfree hexp hlo hhi h
  · exact wr_done hn hk hpath htag hfree hexp hlo hhi h
  · exact wrm_done hn hk hpath htag hfree hexp hlo hhi h
  · exact unexposed_done hn h htag hfree hexp
  · exact rsp_done hn h hout hq hlead hparts hother hok hlink
  · exact msg_done hn h hm hfirst hlast hepoch
  · exact image_done hn h hfor hboot hleft hfirst
  · exact time_done hn h
  · exact balance_done hn hup h
  · exact retrain_done hn h hup
  · exact null_done hn h
  · exact nak_done hn h hack
  · exact nullSent hn hc (by rw [cufUp, cufState, hup]; rfl)
  · exact balanceSent hn hc (by rw [cufUp, cufState, hup]; rfl)
  · exact replayed hn hc (by rw [cufUp, cufState, hup]; rfl) hr hsent hdue
  · exact resynced hn hc
  · obtain ⟨t, ht, htook, hcredit, hcrc⟩ := cufInject_done h i (bset v 2 true)
    exact ⟨t, ht, htook, by rw [hcredit, bset_bit _ _ _ _ (by decide), if_pos rfl, Bool.or_true], by rw [hcrc, bset_bit _ _ _ _ (by decide), if_neg (by decide)]⟩
  · obtain ⟨t, ht, htook, hcredit, -⟩ := cufInject_done h i (bset v 1 true)
    exact ⟨t, ht, htook, by rw [hcredit, bset_bit _ _ _ _ (by decide), if_neg (by decide)]⟩
  · obtain ⟨t, ht, htook, -, hcrc⟩ := cufInject_done h i (bset v 0 true)
    exact ⟨t, ht, htook, by rw [hcrc, bset_bit _ _ _ _ (by decide), if_pos rfl, Bool.or_true]⟩

end Sys2Proof.Machine
end
